-- ==== Sys2Proof/Word.lean ====
section
/-! DEFINITION. Bytes, 32-bit registers and the plainest arithmetic on bit fields (R6, R7). -/
namespace Sys2Proof

/-- One byte. -/
abbrev Byte := BitVec 8

/-- The value of a set-up register, 32 bits (R7). -/
abbrev Word := BitVec 32

/-- A run of bytes, lowest address first. -/
abbrev Bytes := List Byte

end Sys2Proof
end

