-- ==== Sys2Proof/Syntax.lean ====
section
/-! DEFINITION. The commands of the block, one constructor for each row of spec/opcode_table.json, and the operands
they carry. -/
namespace Sys2Proof

/-- The source of a fabric access; the hardware stamps its partition ID by R40. `bar0` is a host access through BAR0
(R81), whose address is the BAR0 offset; `host` is one through BAR2. -/
inductive Source where
  | mgmt
  | enclave
  | host
  | bar0
  | core (k : Nat)
  | round (n : Nat)
  | engine (k : Nat)
  | switchCore
  | gateway
  | can
  | serial
  | chart
  | gauge
  | pair (pid : Nat)
  deriving DecidableEq, Repr

/-- The masters that hold read tags (R33). -/
inductive Master where
  | cluster (k : Nat)
  | roundEngine
  | engine (k : Nat)
  | switchCore
  | gateway
  | mgmt
  | enclave
  | pairIn
  deriving DecidableEq, Repr

/-- The atomic memory operations of the application cores (R110). -/
inductive AmoOp where
  | add | swap | and | or | xor | min | max | minu | maxu | lr | sc
  deriving DecidableEq, Repr

/-- Bits of a memory cell that an outside cause has upset: the ECC unit's address, the bit for a single-bit error,
and whether the error is of two bits, hence uncorrectable (R64). -/
structure EccMark where
  addr : Nat
  bit : Nat
  ue : Bool
  deriving DecidableEq, Repr

/-- A master's access on the fabric (R43): `size` bytes at `addr`, written from `data`, or an atomic operation.
`upsets` are the memory errors that arose in the cells since the last access. -/
structure Access where
  src : Source
  addr : Nat
  size : Nat
  write : Bool
  data : Bytes
  amo : Option AmoOp
  upsets : List EccMark
  deriving DecidableEq, Repr

/-- The answer of the host to a non-posted request (R109): with data, Unsupported Request or Completer Abort, poisoned
or with an ECRC error, or none at all within the completion timeout. -/
inductive HostCpl where
  | data (b : Bytes)
  | abort
  | poisoned
  | timeout
  deriving DecidableEq, Repr

/-- What the host writes in the module's PCIe configuration space beyond what RND_LINK shows (R80): D3hot, MSI-X Enable
and Function Mask, and the ECRC generation and checking enables of Advanced Error Reporting. -/
structure PciCfg where
  d3hot : Bool
  msixEn : Bool
  msixMask : Bool
  ecrcGen : Bool
  ecrcCheck : Bool
  deriving DecidableEq, Repr

/-- What the host has configured when the link trains: AtomicOp requests, which RND_LINK shows, and the rest. -/
structure HostCfg where
  atomicEn : Bool
  pci : PciCfg
  deriving DecidableEq, Repr

/-- What kind of transmission a MAC receives: a frame, the two mPackets of the 802.3br verification, a preempted frame
whose reassembly failed, a fragment with an unknown or out-of-order start delimiter (R177), or a frame that the loss of the
link cuts off, with the bytes received until then (R150). -/
inductive RxKind where
  | frame
  | verify
  | respond
  | assyErr
  | smdErr
  | lost
  deriving DecidableEq, Repr

/-- A frame as a MAC receives it: its bytes from the destination address to the last data byte, and what its checks find
(R162). -/
structure RxFrame where
  bytes : Bytes
  preambleOk : Bool
  alignOk : Bool
  fcsOk : Bool
  kind : RxKind
  deriving DecidableEq, Repr

/-- A CAN frame as a receiver sees it or a sender sends it (R267): format 0 CC, 1 FD, 2 XL; 3 and 4 mark a serial PDU
and a rebuilt PDU inside the gateway (R290). -/
structure CanFrame where
  fmt : Nat
  id : Nat
  xtd : Bool
  remote : Bool
  brs : Bool
  esi : Bool
  sec : Bool
  dlc : Nat
  sdt : Nat
  vcid : Nat
  af : Nat
  data : Bytes
  deriving DecidableEq, Repr

/-- An error on a CAN bus, with what ISO 11898-1 makes the error counters depend on: kind 1 stuff, 2 form, 3 ACK, 4 bit 1,
5 bit 0, 6 CRC; in the data phase; a stuff error of the arbitration field that a transmitter sent recessive; a dominant
bit seen during a passive error flag, or first after an error flag; a bit error in an error flag being sent; and how
often a further run of dominant bits was seen after the flag. -/
structure CanErr where
  kind : Nat
  dataPhase : Bool
  arbStuff : Bool
  dominant : Bool
  inFlag : Bool
  runs : Nat
  deriving DecidableEq, Repr

/-- What a transceiver in STANDBY or SLEEP detects on its bus (R312, R313): the wake-up pattern, or a frame, decoded with
or without an error. -/
inductive TrcvSign where
  | pattern
  | frame (f : CanFrame) (err : Bool)
  deriving DecidableEq, Repr

/-- The commands. Each constructor is one row of spec/opcode_table.json, named in LAWS.json. -/
inductive Instr where
  /-- REGISTER_WRITE (R10): A write to a set-up register that has no row of its own sets its fields by their access codes. -/
  | registerWrite (pid addr val : Nat)
  /-- EVT_CLEAR (R12): A W1C write to an EVT register clears the bits written as 1, and a coinciding occurrence wins. -/
  | evtClear (pid addr val coincide : Nat)
  /-- EVT_EN_WRITE (R530): A write to EVT_EN enables event bits and sends the interrupt for any newly enabled bit whose EVT bit is set. -/
  | evtEnWrite (pid addr val : Nat)
  /-- COUNTER_READ_LOW (R78): A read of a 48-bit counter's low register returns bits 31:0, latches the high bits and clears the counter. -/
  | counterReadLow (pid addr : Nat)
  /-- MEMORY_ACCESS (R43): A master's read or write on the fabric is checked for mapping and by the guard, then performed, with ECC applied. -/
  | memoryAccess (a : Access)
  /-- TAG_GRANT (R34): A freed read tag is granted to a waiting master in turn. -/
  | tagGrant (m : Master)
  /-- READ_TIMEOUT (R35): A read without a response 10 ms after issue is ended, its tag freed and an error returned. -/
  | readTimeout (tag : Nat)
  /-- LATE_RESPONSE (R35): A response arriving after its read was ended is discarded and counted, raising LATE. -/
  | lateResponse (tag : Nat)
  /-- GUARD_SELECT (R77): A write to JER_GSEL copies the selected active guard rule into staging. -/
  | guardSelect (pid val : Nat)
  /-- GUARD_COMMIT (R77): A write of GO to JER_GCOMMIT replaces the selected rule with the staging in one event. -/
  | guardCommit (pid val : Nat)
  /-- EFFECT_RANGE_WRITE (R75): A write to a JER_EFFn register sets the range and raises EFF_BAD if it leaves an enabled range not valid. -/
  | effectRangeWrite (pid n which val : Nat)
  /-- PATROL_STITCH (R73): At each scrub interval the patrol scrubs the next 64 KiB of DRAM and 4 KiB of each on-die memory, raising SCRUB_PASS at a DRAM pass end. -/
  | patrolStitch (upsets : List EccMark)
  /-- SCRUB_REGION (R79): MEM opcode that scrubs a region in stitches and reports corrected and uncorrectable granules. -/
  | scrubRegion (r : Nat)
  /-- FILL_REGION (R79): MEM opcode that writes a 32-bit pattern to every granule of a region in stitches. -/
  | fillRegion (r : Nat)
  /-- LEVEL_CHANGE_DONE (R25): A move of VCORE to a new performance level completes. -/
  | levelChangeDone
  /-- BAR_BAD_ACCESS (R82): A BAR access of unsupported size or alignment is dropped or answered Completer Abort and raises HOST_ERR. -/
  | barBadAccess (write : Bool) (bar off : Nat)
  /-- DOORBELL_CMD (R87): A write to RND_DBn_CMD records TAIL, or raises DB_BAD when out of range or from another partition. -/
  | doorbellCmd (pid n val : Nat)
  /-- DOORBELL_CPL (R92): A write to RND_DBn_CPL returns completion slots and releases a stalled round. -/
  | doorbellCpl (pid n val : Nat)
  /-- ROUND_ENABLE (R86): A write setting RND_Rn_CTL.EN enables the round or is refused with CFG_BAD. -/
  | roundEnable (pid n val : Nat)
  /-- ROUND_DISABLE (R98): A write clearing RND_Rn_CTL.EN frogs unstarted descriptors and ends the started one. -/
  | roundDisable (pid n val : Nat)
  /-- ROUND_BASE_WRITE (R87): A write to a round base or SIZE while stopped sets the indices to 0 and the phase to 1. -/
  | roundBaseWrite (pid n which val : Nat)
  /-- RUNAHEAD_FETCH (R93): The round engine fetches a descriptor and its permitted source buffers into staging, after the memory errors of `upsets` arose. -/
  | runaheadFetch (n : Nat) (upsets : List EccMark)
  /-- DESCRIPTOR_START (R89): The round engine starts the descriptor at HEAD of the chosen round, checking its header, after the memory errors of `upsets` arose. -/
  | descriptorStart (n : Nat) (upsets : List EccMark)
  /-- STITCH (R100): One stitch of at most 25 µs of a long operation is performed. -/
  | stitch (r : Nat) (last : Bool)
  /-- COMPLETION_WRITE (R90): A descriptor's final completion is written once its writes are acknowledged. -/
  | completionWrite (r : Nat)
  /-- CANCEL (R102): A write of GO to RND_CANCEL cancels the oldest matching fetched descriptor of the round. -/
  | cancel (pid val : Nat)
  /-- MODERATION_TIMER (R105): Each microsecond a round with pending completions checks its moderation time and signals. -/
  | moderationTimer (r : Nat)
  /-- MSIX_UNMASK (R106): Unmasking an MSI-X vector with its pending bit set sends the message. -/
  | msixUnmask (vec : Nat)
  /-- HOST_COMPLETION (R109): A PCIe completion for a host-window read or atomic arrives, with data or an error. -/
  | hostCompletion (tag : Nat) (c : HostCpl)
  /-- HOST_CPL_TIMEOUT (R109): A host-window non-posted request without completion within CPL_TMO ends with TIMEOUT. -/
  | hostCplTimeout (tag : Nat)
  /-- FUNCTION_LEVEL_RESET (R111): A PCIe Function Level Reset frogs and disables host rounds, resets MSI-X, downs port H and reclaims semaphores. -/
  | functionLevelReset
  /-- PCIE_LINK_DOWN (R111): Loss of the PCIe link acts as a Function Level Reset and raises LINK_DOWN. -/
  | pcieLinkDown
  /-- PCIE_LINK_UP (R111): The PCIe link trains, port H comes up and LINK_UP is raised. -/
  | pcieLinkUp (speed width mps mrrs : Nat) (host : HostCfg)
  /-- FRAME_RECEIVE (R162): A MAC receives a frame whole and checks, counts, limits, filters and hands it to the switch core. -/
  | frameReceive (port : Nat) (f : RxFrame)
  /-- PAUSE_RECEIVE (R178): A received PAUSE frame halts, reloads or ends the pause of every class. -/
  | pauseReceive (port dst quanta : Nat)
  /-- PFC_RECEIVE (R179): A received PFC frame pauses or resumes classes per priority. -/
  | pfcReceive (port vec : Nat) (times : List Nat)
  /-- PAUSE_EXPIRY (R178): A pause time runs out and transmission of the class resumes. -/
  | pauseExpiry (port cls : Nat)
  /-- PAUSE_REFRESH (R181): While held cells stay above XON the port resends PAUSE every PAUSE_TIME / 2 quanta. -/
  | pauseRefresh (port : Nat)
  /-- MATCHING (R119): The central scheduler builds one matching and transfers one cell over each accepted pair. -/
  | matching
  /-- TX_FRAME_START (R169): At a frame or fragment boundary the transmitter picks the highest eligible class head and starts it, after the memory errors of `upsets` arose. -/
  | txFrameStart (port : Nat) (upsets : List EccMark)
  /-- TX_FRAME_END (R164): The last bit of a frame leaves the port and TX_OK counts it, after the memory errors of `upsets` arose. -/
  | txFrameEnd (port : Nat) (upsets : List EccMark)
  /-- MC_RESIDUE_TIMEOUT (R126): A multicast frame's residue still open after SWC_MC_TMO is dropped and counted. -/
  | mcResidueTimeout
  /-- AGE_EXPIRY (R138): A learned FDB entry not refreshed within its ageing time is removed. -/
  | ageExpiry (idx : Nat)
  /-- CB_RESEQ_TIMEOUT (R146): The oldest held resequencing frame reaching RESEQ_US skips to the lowest held number. -/
  | cbReseqTimeout (h : Nat)
  /-- CB_RESET_TIMEOUT (R147): A recovery stream without frames for RESET_MS emits its held frames and resets. -/
  | cbResetTimeout (h : Nat)
  /-- HOLD_EXPIRE (R153): HOLD_LEFT reaching 0 flushes the port's queues, removes its learned entries and sets it DOWN. -/
  | holdExpire (p : Nat)
  /-- PLY_CONTRIBUTION (R129): A KIND 0x21 contribution is summed into its group's accumulator, or dropped as late or stray. -/
  | plyContribution (k : Nat)
  /-- PLY_DEADLINE (R129): An open ply block reaching its window deadline is emitted with missing contributors as silence. -/
  | plyDeadline (acc : Nat)
  /-- FDB_ADD (R156): SWC opcode that adds or replaces a forwarding entry. -/
  | fdbAdd (r : Nat)
  /-- FDB_DEL (R156): SWC opcode that deletes a forwarding entry. -/
  | fdbDel (r : Nat)
  /-- FDB_LOOKUP (R156): SWC opcode that returns a forwarding entry. -/
  | fdbLookup (r : Nat)
  /-- FDB_FLUSH (R156): Stitched SWC opcode that removes forwarding entries by port, FID or both. -/
  | fdbFlush (r : Nat)
  /-- VLAN_SET (R156): SWC opcode that sets or removes a VLAN entry. -/
  | vlanSet (r : Nat)
  /-- SWC_STREAM_SET (R143): SWC opcode that binds a stream handle's identification and 802.1CB role. -/
  | swcStreamSet (r : Nat)
  /-- STREAM_CLEAR (R156): SWC opcode that clears a stream handle. -/
  | streamClear (r : Nat)
  /-- FRAME_SEND (R157): SWC opcode that sends a frame into the switch core through port H or C. -/
  | frameSend (r : Nat)
  /-- FRAME_RECV (R157): SWC opcode that receives a frame delivered to port H or C. -/
  | frameRecv (r : Nat)
  /-- MAC_ENABLE (R161): Setting PRT_MODE.EN starts auto-negotiation or waits for lock. -/
  | macEnable (pid port val : Nat)
  /-- MAC_DISABLE (R161): Clearing PRT_MODE.EN completes the frame in progress and stops the MAC. -/
  | macDisable (pid port val : Nat)
  /-- ANEG_COMPLETE (R161): Auto-negotiation completes and the MAC enters UP or raises MODE_ERR. -/
  | anegComplete (port : Nat) (good : Bool)
  /-- ANEG_RESTART_TIMEOUT (R161): 1,000 ms after a bad negotiation result, auto-negotiation restarts. -/
  | anegRestartTimeout (port : Nat)
  /-- LINK_LOCK_TIMER (R161): Block lock or synchronisation held for its time brings the link UP. -/
  | linkLockTimer (port : Nat)
  /-- LINK_LOSS (R161): Loss of lock, synchronisation or link status takes the MAC out of UP and the switch port to HOLD. -/
  | linkLoss (port : Nat)
  /-- GATE_CHANGE (R171): A gate-control entry or cycle start takes effect at its time. -/
  | gateChange (port : Nat)
  /-- GATE_SWITCH (R173): At BASE the pending gate list becomes operational. -/
  | gateSwitch (port : Nat)
  /-- GATE_ENABLE (R174): Setting GATE_EN starts the pending list at its BASE. -/
  | gateEnable (pid port val : Nat)
  /-- PREEMPT_VERIFY_TIMEOUT (R177): VERIFY_MS passes without verification and a new attempt is made, or verification fails. -/
  | preemptVerifyTimeout (port : Nat)
  /-- QCI_GATE_CHANGE (R184): A stream gate list entry takes effect. -/
  | qciGateChange (g : Nat)
  /-- GCL_LOAD (R173): PRT opcode that loads a pending gate-control list. -/
  | gclLoad (r : Nat)
  /-- QCI_FILTER_SET (R186): PRT opcode that sets a stream filter. -/
  | qciFilterSet (r : Nat)
  /-- QCI_GATE_LOAD (R184): PRT opcode that loads a stream gate list. -/
  | qciGateLoad (r : Nat)
  /-- QCI_METER_SET (R184): PRT opcode that sets a flow meter. -/
  | qciMeterSet (r : Nat)
  /-- QCI_READ (R186): PRT opcode that returns and clears a filter's counts. -/
  | qciRead (r : Nat)
  /-- SP_SEND (R185): PRT opcode that sends a frame on the service port. -/
  | spSend (r : Nat)
  /-- SP_RECV (R185): PRT opcode that posts a buffer for a service-port frame. -/
  | spRecv (r : Nat)
  /-- LATTICE_LOCK (R191): The time lattice first locks at cast-on and TIM_NOW starts from 0. -/
  | latticeLock
  /-- TIM_WRAP (R187): TIM_NOW carries out of bit 31, wraps and raises WRAP. -/
  | timWrap
  /-- TIM_INC_WRITE (R188): A write to TIM_INC is accepted or ignored when out of range. -/
  | timIncWrite (pid val : Nat)
  /-- TIM_INC_APPLY (R188): An accepted TIM_INC takes effect at the next lattice tick. -/
  | timIncApply
  /-- TIME_STEP_WRITE (R189): A write to TIM_STEP queues a step or raises STEP_BAD. -/
  | timeStepWrite (pid val : Nat)
  /-- TIME_STEP_APPLY (R189): A step is added to TIM_NOW at the next tick, with gates and triggers answering it. -/
  | timeStepApply
  /-- XTAL_LOST (R192): The crystal stops and the lattice runs from the internal oscillator. -/
  | xtalLost
  /-- XTAL_RESTORED (R192): The crystal runs again and XTAL_OK returns to 1. -/
  | xtalRestored
  /-- TXTS_ENQUEUE (R197): A transmit timestamp enters its port's queue after the frame's last bit leaves. -/
  | txtsEnqueue (port : Nat)
  /-- TRIGGER_FIRE (R200): An armed trigger reaches its target, signals its consumers and rearms or disarms. -/
  | triggerFire (n : Nat)
  /-- TRG_ARM (R202): TIM opcode that arms a trigger. -/
  | trgArm (r : Nat)
  /-- TRG_DISARM (R205): TIM opcode that disarms a trigger. -/
  | trgDisarm (r : Nat)
  /-- TXTS_READ (R197): TIM opcode that removes entries from a transmit-timestamp queue. -/
  | txtsRead (r : Nat)
  /-- SKIP_CLR (R200): A write of SKIP_CLR clears a trigger's SKIPPED count. -/
  | skipClr (pid n val : Nat)
  /-- PIN_PULSE_END (R206): A pulse-mode output pin falls WIDTH µs after its trigger fired. -/
  | pinPulseEnd (k : Nat)
  /-- PPS_EDGE (R207): An edge of the chosen polarity on PPS_IN starts its 100 ns qualification. -/
  | ppsEdge (rising : Bool)
  /-- PPS_CAPTURE (R207): An edge held for 100 ns loads TIM_PPS_CAP and raises PPS. -/
  | ppsCapture
  /-- MEDIA_LOCK (R208): The media clock slews back within 20 ns of its tie and MEDIA_LOCK is raised. -/
  | mediaLock
  /-- NODE_PROCESS (R212): An engine processes a node for block n and sends its output frames. -/
  | nodeProcess (c : Nat) (samples : List Int)
  /-- EDGE_FRAME_ARRIVAL (R218): An edge frame reaches its node, or is dropped as stray. -/
  | edgeFrameArrival (k : Nat)
  /-- EDGE_DEADLINE (R213): At Tn + 850 µs a missing input frame is replaced by silence and counted. -/
  | edgeDeadline (edge copy : Nat)
  /-- SINK_DEADLINE (R214): At Tn + 1 ms a sink without its block plays 48 zero samples. -/
  | sinkDeadline (kind unit chan : Nat)
  /-- AUDIO_STREAM_RECEIVE (R224): A network audio frame at port A delivers its samples, dropping late or early ones. -/
  | audioStreamReceive
  /-- BIAS_FAULT (R219): Microphone bias above 12 mA for 1 ms is switched off and raises BIAS_FAULT. -/
  | biasFault (n : Nat)
  /-- AUDIO_LINK_LOSS (R220): On loss of the audio die link every output ramps to zero. -/
  | audioLinkLoss
  /-- PATTERN_LOAD (R235): Stitched AUD opcode that validates, costs, places and switches to a new pattern. -/
  | patternLoad (r : Nat)
  /-- NODE_SET (R236): AUD opcode that changes node parameters from the next block. -/
  | nodeSet (r : Nat)
  /-- NODE_READ (R228): AUD opcode that returns a node's readout. -/
  | nodeRead (r : Nat)
  /-- CHIME_LOAD (R240): Stitched AUD opcode that fills a chime sample slot. -/
  | chimeLoad (r : Nat)
  /-- AUD_STREAM_SET (R222): AUD opcode that sets a network stream slot. -/
  | audStreamSet (r : Nat)
  /-- CHART_REPLAN (R253): Chart searches and admits a placement, powers engines and loads kernels. -/
  | chartReplan
  /-- SHADOW_DEADLINE_CHECK (R254): After the shadow block, a late shadow node abandons the switch-over. -/
  | shadowDeadlineCheck
  /-- PLACEMENT_SWITCH (R254): At the block boundary the new placement becomes live and idle engines switch off. -/
  | placementSwitch
  /-- ENGINE_DEADLINE (R255): An engine that has not completed block n by Tn + 950 µs is failed. -/
  | engineDeadline (e : Nat)
  /-- ENGINE_FAIL (R255): An engine fault fails the engine, raises ENG_FAIL and starts a replan. -/
  | engineFail (e : Nat)
  /-- ENGINE_BACK (R255): A failed engine passes its test and returns to service. -/
  | engineBack (e : Nat)
  /-- ENGINE_UNEXCLUDE (R255): A W1C write to CHT_EXCLUDED returns an excluded engine to service. -/
  | engineUnexclude (pid val : Nat)
  /-- PLACE_READ (R259): CHT opcode that returns the running placement. -/
  | placeRead (r : Nat)
  /-- PATTERN_CHECK (R259): Stitched CHT opcode that tests whether a pattern would be admitted. -/
  | patternCheck (r : Nat)
  /-- CARVE_HINT (R252): CHT opcode that gives carve hints and recomputes the carve. -/
  | carveHint (r : Nat)
  /-- CAN_ENABLE (R262): Setting CAN_CTL.EN starts bus integration or is refused with CFG_BAD. -/
  | canEnable (n val : Nat)
  /-- CAN_DISABLE (R275): Clearing CAN_CTL.EN completes the frame on the bus and ends queued frames NOT_RUNNING. -/
  | canDisable (n val : Nat)
  /-- CAN_FRAME_RECEIVED (R265): A frame received without error is classified, stored in a queue and passed to a gateway rule. -/
  | canFrameReceived (n : Nat) (f : CanFrame) (ago : Nat)
  /-- CAN_PROTOCOL_EXCEPTION (R261): A frame the controller may not receive makes it wait for bus integration. -/
  | canProtocolException (n fmt : Nat)
  /-- CAN_TX_START (R272): At a start opportunity the controller chooses the lowest-key queue head and sends. -/
  | canTxStart (n : Nat)
  /-- CAN_ARB_LOST (R273): A frame loses arbitration, is counted and abandoned at ARB_LIMIT. -/
  | canArbLost (n : Nat)
  /-- CAN_TX_DONE (R271): A frame is sent without error and its TX_SEND completes. -/
  | canTxDone (n : Nat)
  /-- CAN_TX_ERROR (R273): An attempt ends in error, moving TEC and abandoning at ERR_LIMIT. -/
  | canTxError (n : Nat) (e : CanErr)
  /-- CAN_RX_ERROR (R275): An error detected while receiving moves REC and the error state. -/
  | canRxError (n : Nat) (e : CanErr)
  /-- CAN_BUSOFF_RECOVERED (R275): 128 occurrences of eleven recessive bits end BUS_OFF. -/
  | canBusoffRecovered (n : Nat)
  /-- CAN_RECOVER (R276): A write of RECOVER starts bus-off recovery. -/
  | canRecover (n val : Nat)
  /-- CAN_RELEASE (R278): A write of RELEASE ends a LONE or SWAPPED hold. -/
  | canRelease (n val : Nat)
  /-- CAN_SWAP_DETECT (R279): 16 inverted bit periods set SWAPPED and hold the queues. -/
  | canSwapDetect (n : Nat)
  /-- CAN_DOMINANT_TIMEOUT (R519): A transmitter driving dominant beyond the time-out is released to recessive. -/
  | canDominantTimeout (n : Nat)
  /-- TX_SEND (R271): CAN opcode that places a frame in a transmit queue. -/
  | txSend (r : Nat)
  /-- RX_READ (R270): CAN opcode that removes records from a receive queue. -/
  | rxRead (r : Nat)
  /-- FILTER_LOAD (R266): CAN opcode that loads a filter list and switches copies between frames. -/
  | filterLoad (r : Nat)
  /-- GATEWAY_ETH_FRAME (R285): An IEEE 1722 control frame at port W is taken apart and its messages handed to rules. -/
  | gatewayEthFrame
  /-- RATE_HOLD_RELEASE (R296): A held frame becomes eligible and is sent. -/
  | rateHoldRelease (rule : Nat)
  /-- MAP_TIMEOUT (R295): A signal map without a frame for TMO enters timeout and may write its default. -/
  | mapTimeout (k : Nat)
  /-- PDU_PERIODIC_SEND (R294): A periodic rebuilt PDU is sent to its rule every PERIOD. -/
  | pduPeriodicSend (k : Nat)
  /-- NTSCF_BATCH_TIMEOUT (R289): BATCH_US after the first message, the collected NTSCF frame is sent. -/
  | ntscfBatchTimeout (t : Nat)
  /-- GW_RECV_HOLD_TIMEOUT (R291): HOLD_US after its first record a GW_RECV completes. -/
  | gwRecvHoldTimeout (r : Nat)
  /-- RULE_SET (R284): GWY opcode that replaces a rule. -/
  | ruleSet (r : Nat)
  /-- MAP_LOAD (R293): Stitched GWY opcode that loads signal maps. -/
  | mapLoad (r : Nat)
  /-- PDU_SET (R294): GWY opcode that sets a rebuilt PDU. -/
  | pduSet (r : Nat)
  /-- TEMPLATE_SET (R289): GWY opcode that sets an NTSCF template. -/
  | templateSet (r : Nat)
  /-- FRESH_SET (R300): GWY opcode that sets a freshness counter. -/
  | freshSet (r : Nat)
  /-- GW_RECV (R291): GWY opcode that receives gateway records into a buffer. -/
  | gwRecv (r : Nat)
  /-- RULE_READ (R533): GWY opcode that returns and clears a rule's counts. -/
  | ruleRead (r : Nat)
  /-- SLEEP (R321): WAK opcode that arms wake sources and starts the sleep sequence. -/
  | sleep (r : Nat)
  /-- SLEEP_DRAIN_END (R321): The drain completes and the sequence moves transceivers and enters DOZE or commits. -/
  | sleepDrainEnd
  /-- SLEEP_DRAIN_TIMEOUT (R321): The drain exceeds DRAIN_MS and SLEEP completes DRAIN_TMO. -/
  | sleepDrainTimeout
  /-- WAKE_EVENT (R317): An armed wake source event sets WAK_PEND, aborts the sequence, latches or ends DOZE. -/
  | wakeEvent (src : Nat)
  /-- WAKE_TIMER_EXPIRY (R315): The wake timer expires after WAK_TIMER ms and acts as source 26. -/
  | wakeTimerExpiry
  /-- OFF_WAIT_EXPIRY (R323): 2 ms after the commit with a wake latched, INH becomes active and cast-on starts. -/
  | offWaitExpiry
  /-- TRCV_STATE_WRITE (R310): A write of WAK_TRCVn_CTL.STATE moves the transceiver to that state. -/
  | trcvStateWrite (pid n val : Nat)
  /-- TRCV_WAKE (R312): A transceiver in STANDBY or SLEEP detects a wake-up pattern, frame or FEC overflow. -/
  | trcvWake (n : Nat) (sign : TrcvSign)
  /-- WAKE_VALIDITY_END (R319): At the end of a validity window a false wake is counted and may start a back-off. -/
  | wakeValidityEnd (src : Nat)
  /-- WAKE_CONFIRM (R318): A write to WAK_CONFIRM makes a source's wake valid. -/
  | wakeConfirm (pid val : Nat)
  /-- BACKOFF_END (R319): A source's back-off period ends. -/
  | backoffEnd (src : Nat)
  /-- BACKOFF_CLEAR (R319): A W1C write to WAK_BACKOFF ends a back-off at once. -/
  | backoffClear (pid val : Nat)
  /-- VAON_RISE (R307): VAON rises, the always-on domain resets and INH becomes active. -/
  | vaonRise
  /-- VAON_LOSS (R511): VAON is lost: always-on state lost, INH released, logic held in reset. -/
  | vaonLoss
  /-- CH_SET (R336): LDC opcode that commands a channel off, on or PWM after term and energy checks. -/
  | chSet (r : Nat)
  /-- CH_CONFIG (R353): LDC opcode that writes a channel configuration record. -/
  | chConfig (r : Nat)
  /-- LATCH_CLR (R341): LDC opcode that clears a channel latch. -/
  | latchClr (r : Nat)
  /-- WD_ARM (R348): LDC opcode that arms power-die watchdogs and ends cast-off. -/
  | wdArm (r : Nat)
  /-- CO_STORE (R353): Stitched LDC opcode that commits a bank's configurations to non-volatile store. -/
  | coStore (r : Nat)
  /-- TEST_SWEEP (R354): Stitched LDC opcode that runs open-load checks and reports channels. -/
  | testSweep (r : Nat)
  /-- INRUSH_END (R335): INRUSH_MS elapses and the channel enters ON with limit ILIM. -/
  | inrushEnd (ch : Nat)
  /-- LIM_TIME_EXPIRY (R337): A channel in regulation for LIM_TIME trips with kind OC. -/
  | limTimeExpiry (ch : Nat)
  /-- FAST_TRIP (R337): Current at three times the limit switches the channel off with kind FAST. -/
  | fastTrip (ch mA : Nat)
  /-- THERMAL_TRIP (R338): Tj − Tc above TLIM or Tj at 175 °C trips the channel. -/
  | thermalTrip (ch : Nat) (tj tc : Int)
  /-- RESTART_DUE (R340): A TRIPPED channel, due and thermally re-armed, restarts or goes OFF. -/
  | restartDue (ch : Nat) (tj tc : Int)
  /-- RETRY_RESET (R339): A channel in ON for 1 s without a trip resets RETRY_LEFT and THERM_CNT. -/
  | retryReset (ch : Nat)
  /-- BANK_FOLD (R342): Bank current at 60 A folds inrush channels to ILIM. -/
  | bankFold (b mA : Nat)
  /-- BANK_FOLD_END (R342): The estimated bank current falls below 60 A and folded channels return to ILIM_INRUSH. -/
  | bankFoldEnd (b mA : Nat)
  /-- BANK_OVERLOAD (R342): Bank current above 24 A for 100 ms trips channels with kind BANK, one every 1 ms. -/
  | bankOverload (b mA : Nat)
  /-- BLANKING_END (R342): 200 µs after a trip, the bank resumes undervoltage and open-load evaluation. -/
  | blankingEnd (b : Nat)
  /-- BANK_UNDERVOLTAGE (R343): VBANK below 14 V for 500 µs turns off the bank's outputs. -/
  | bankUndervoltage (b mV : Nat)
  /-- BANK_UV_RECOVER (R343): VBANK above 15.5 V restarts channels in INRUSH or ON with a fresh timer. -/
  | bankUvRecover (b mV : Nat)
  /-- POWER_DIE_POWER_UP (R343): VBANK above 10 V powers a die, which enters cast-off. -/
  | powerDiePowerUp (b mV : Nat)
  /-- POWER_DIE_UNPOWERED (R343): VBANK below 9 V unpowers a die and loses its states and link. -/
  | powerDieUnpowered (b : Nat) (mV : Int)
  /-- OUTPUT_DIAG_DEBOUNCE (R344): An open-load, short-to-battery or undervoltage condition held for its debounce sets or clears its flag. -/
  | outputDiagDebounce (ch which : Nat) (present : Bool)
  /-- PWM_FRAME_START (R345): A bank's PWM frame starts from its timer or SYNC_TRG. -/
  | pwmFrameStart (b : Nat)
  /-- KEEP_ALIVE_SEND (R347): LDC sends each power die a keep-alive frame that restarts its watchdog interval. -/
  | keepAliveSend (b : Nat) (whole answered : Bool)
  /-- DIE_WATCHDOG_EXPIRY (R347): WD_MS without a valid frame puts the power die in cast-off. -/
  | dieWatchdogExpiry (b : Nat)
  /-- LDC_LINK_LOST (R348): No valid reply from a power die for 2 ms raises LINK_LOST and counts the bank as in cast-off. -/
  | ldcLinkLost (b : Nat)
  /-- LDC_LINK_RESTORED (R534): LDC regains a die's link, reads its state and raises events of standing conditions. -/
  | ldcLinkRestored (b : Nat)
  /-- LDC_SHED_WRITE (R349): A write to LDC_SHED puts non-CRITICAL channels in SHED or releases them. -/
  | ldcShedWrite (pid val : Nat)
  /-- SERIAL_CHAR_RECEIVED (R359): A character is received and framed, ending a delimited PDU at EOF. -/
  | serialCharReceived (n : Nat) (ch : Byte) (ok : Bool) (ago : Nat)
  /-- SERIAL_GAP_TIMEOUT (R359): GAP idle bit times after a stop bit end an idle-gap PDU. -/
  | serialGapTimeout (n : Nat)
  /-- SERIAL_TX_START (R357): After TX_IDLE idle bit times the port starts transmitting a queued PDU. -/
  | serialTxStart (n : Nat)
  /-- SERIAL_CHAR_SENT (R357): A character is sent and echo-checked, stopping with COLLISION at a mismatch. -/
  | serialCharSent (n heard : Nat)
  /-- POLARITY_DECIDE (R358): An idle bus differential held 10 ms sets or clears POL_INV. -/
  | polarityDecide (n : Nat) (mV : Int)
  /-- INPUT_SAMPLE (R365): At a sample instant each input is read or classified and debounced, raising DIN_CHG or SUP_FAULT. -/
  | inputSample (g : Nat) (xs : List Int)
  /-- SER_SEND (R369): SIO opcode that sends a PDU. -/
  | serSend (r : Nat)
  /-- SER_RECV (R360): SIO opcode that receives a PDU matched by no pattern. -/
  | serRecv (r : Nat)
  /-- DIN_READ (R369): SIO opcode that returns every input's state. -/
  | dinRead (r : Nat)
  /-- MODE_SET (R373): GAU opcode that declares mains, battery or emergency mode and budget. -/
  | modeSet (r : Nat)
  /-- GAUGE_EVALUATE (R378): Gauge projects energy and sheds, consolidates, lowers the level or undoes a step. -/
  | gaugeEvaluate
  /-- SAMPLE_GAP (R384): A bank without SAMPLE_TRG for 100 ms is charged at its last power and raises SAMPLE_GAP. -/
  | sampleGap (b : Nat)
  /-- GAUGE_LATCH (R372): A write of GO to GAU_LATCH copies every counter and power register in one event. -/
  | gaugeLatch (pid val : Nat)
  /-- WINDOW_BOUNDARY (R395): At a window boundary the core takes a resumable NMI and stamps the new partition. -/
  | windowBoundary (k : Nat)
  /-- SCHEDULE_TRIGGER (R394): A core's schedule trigger fires, starts the table again and cuts the window in force. -/
  | scheduleTrigger (k : Nat)
  /-- PARTITION_KICK (R396): A write by partition p to COR_Pp_KICK reloads its watchdog. -/
  | partitionKick (pid p : Nat)
  /-- PARTITION_WD_EXPIRY (R396): A partition watchdog expires and restarts the partition. -/
  | partitionWdExpiry (p : Nat)
  /-- LOCKSTEP_MISMATCH (R390): A lockstep pair's outputs differ and its partitions restart. -/
  | lockstepMismatch (pair : Nat)
  /-- SCHED_LOAD (R394): COR opcode that loads a core's window schedule. -/
  | schedLoad (r : Nat)
  /-- PART_RESTART (R397): COR opcode that restarts a partition. -/
  | partRestart (r : Nat)
  /-- MBX_ENABLE (R400): A write of EN to MBX_n_CFG enables the mailbox or raises CFG_BAD. -/
  | mbxEnable (pid n val : Nat)
  /-- MBX_SLOT_WRITE (R403): A write to a mailbox slot, overwriting while FULL with COLLISION. -/
  | mbxSlotWrite (pid n w val : Nat)
  /-- MBX_DOORBELL (R402): A doorbell sets FULL, steps SEQ, starts the timeout and signals the receiver. -/
  | mbxDoorbell (pid n val : Nat)
  /-- MBX_TAKE (R402): A take with matching SEQ clears FULL, sets TAKEN and signals the sender. -/
  | mbxTake (pid n val : Nat)
  /-- MBX_TIMEOUT (R404): A mailbox still FULL TMO after its doorbell sets TIMEOUT. -/
  | mbxTimeout (n : Nat)
  /-- MBX_ACCESS_DENY (R401): A mailbox access from a partition not permitted is refused and raises DENY. -/
  | mbxAccessDeny (pid n : Nat) (write : Bool)
  /-- QUEUE_ENABLE (R408): Setting EN of a queue empties it and sets its last value to 0. -/
  | queueEnable (pid n val : Nat)
  /-- QUEUE_DISABLE (R408): Clearing EN of a queue ends its held pushes unperformed. -/
  | queueDisable (pid n val : Nat)
  /-- QUEUE_PUSH (R409): A push adds an item at the tail, is held when full, and raises LEVEL. -/
  | queuePush (src : Source) (n item : Nat)
  /-- QUEUE_HELD_PUSH_DONE (R409): A held push completes once a pop frees a place. -/
  | queueHeldPushDone (n k : Nat)
  /-- QUEUE_POP (R410): A pop removes the head item, or underruns on an empty queue. -/
  | queuePop (src : Source) (n : Nat)
  /-- QUEUE_PEEK (R410): A peek returns the head item without removing it. -/
  | queuePeek (src : Source) (n : Nat)
  /-- SEM_ACQUIRE (R412): A read of SEM_ACQn acquires a free semaphore or returns its owner. -/
  | semAcquire (pid n : Nat)
  /-- SEM_RELEASE (R413): The owner's write to SEM_RELn frees the semaphore, otherwise BAD_REL. -/
  | semRelease (pid n val : Nat)
  /-- SEM_RECLAIM (R414): A write of GO to SEM_RECLAIM frees a semaphore from a dead owner. -/
  | semReclaim (pid val : Nat)
  /-- KEY_GENERATE (R423): ENC opcode that fills a slot from the random bit generator. -/
  | keyGenerate (r : Nat) (healthy : Bool)
  /-- KEY_DERIVE (R422): Stitched ENC opcode that derives a key by HKDF-SHA-384. -/
  | keyDerive (r : Nat)
  /-- KEY_IMPORT (R423): ENC opcode that unwraps a key with AES-256-GCM into a slot. -/
  | keyImport (r : Nat)
  /-- KEY_ERASE (R421): ENC opcode that empties a key slot. -/
  | keyErase (r : Nat)
  /-- PUBKEY_READ (R427): ENC opcode that returns a public key. -/
  | pubkeyRead (r : Nat)
  /-- SIGN (R443): Stitched ENC opcode that signs a digest. -/
  | sign (r : Nat)
  /-- VERIFY (R443): Stitched ENC opcode that verifies a signature. -/
  | verify (r : Nat)
  /-- CMAC (R443): ENC opcode that computes an AES CMAC tag. -/
  | cmac (r : Nat)
  /-- GCM_SEAL (R443): ENC opcode that encrypts and authenticates with AES-GCM. -/
  | gcmSeal (r : Nat)
  /-- GCM_OPEN (R443): ENC opcode that decrypts and checks an AES-GCM message. -/
  | gcmOpen (r : Nat)
  /-- ATTEST (R440): Stitched ENC opcode that returns a signed attestation statement. -/
  | attest (r : Nat)
  /-- DEBUG_CHALLENGE (R429): ENC opcode that returns a fresh 64-bit challenge. -/
  | debugChallenge (r : Nat)
  /-- DEBUG_OPEN (R439): ENC opcode that opens debug under a token and seals the slots. -/
  | debugOpen (r : Nat)
  /-- ENROL (R438): Stitched ENC opcode that creates a new identity and sealing seed and clears the tamper latch. -/
  | enrol (r : Nat) (healthy : Bool)
  /-- REVOKE (R428): ENC opcode that revokes a customer key record under a token. -/
  | revoke (r : Nat)
  /-- CUSTKEY_SET (R428): Stitched ENC opcode that programs an empty customer key record. -/
  | custkeySet (r : Nat)
  /-- CHALLENGE_EXPIRY (R429): A challenge older than 60 s becomes stale. -/
  | challengeExpiry
  /-- TAMPER_ASSERT (R433): A tamper source asserts the line, which erases keys, aborts operations and sets the latch. -/
  | tamperAssert (src : Nat) (torn : Option Nat)
  /-- COLD_CAST_ON (R444): With VAON and VLOG valid the module runs the cast-on sequence to the release of the cores. -/
  | coldCastOn (rank updMode : Nat)
  /-- TRIAL_EXPIRY (R457): An unconfirmed trial window expires and triggers a warm reset. -/
  | trialExpiry
  /-- BOO_CONFIRM (R458): A write of 0xC0F1 to BOO_CONFIRM in TRIAL confirms the image and raises rollback floors. -/
  | booConfirm (pid val : Nat)
  /-- IGION_ARP (R463): The management core answers an ARP request for BOO_IGION_IP. -/
  | igionArp (frame : Bytes)
  /-- IGION_HELLO (R463): Igion request that returns module identity and state. -/
  | igionHello (frame : Bytes)
  /-- IGION_OPEN (R464): Igion request that opens a session and erases staging. -/
  | igionOpen (frame : Bytes)
  /-- IGION_DATA (R464): Igion request that programs one kilobyte of staging. -/
  | igionData (frame : Bytes)
  /-- IGION_COMMIT (R463): Igion request that checks staging and sets it ready. -/
  | igionCommit (frame : Bytes)
  /-- IGION_ABORT (R463): Igion request that ends the session leaving staging empty. -/
  | igionAbort (frame : Bytes)
  /-- IGION_RESET (R463): Igion request that triggers a warm reset 10 ms later when permitted. -/
  | igionReset (frame : Bytes)
  /-- IGION_SESSION_TIMEOUT (R464): A session without a request for 60 s ends with staging empty. -/
  | igionSessionTimeout
  /-- CHAIN_START (R466): A received chain START claims and erases staging, then answers ACK or NAK. -/
  | chainStart (p : Nat) (frame : Bytes)
  /-- CHAIN_BLOCK (R466): A received chain BLOCK is programmed, read back and acknowledged or NAKed. -/
  | chainBlock (p : Nat) (frame : Bytes)
  /-- CHAIN_END (R466): A received chain END sets staging ready or releases the claim. -/
  | chainEnd (p : Nat) (frame : Bytes)
  /-- CHAIN_ACK (R466): A received ACK or NAK advances or repeats the sender's transfer. -/
  | chainAck (p : Nat) (frame : Bytes)
  /-- CHAIN_REPEAT_TIMEOUT (R466): An unacknowledged START or block is repeated, ending with CHAIN_FAIL at its limit. -/
  | chainRepeatTimeout (p : Nat)
  /-- CHAIN_RX_TIMEOUT (R466): A receiver hearing nothing for 10 s releases its claim. -/
  | chainRxTimeout
  /-- STAGE_ERASE (R470): Stitched BOO opcode that erases staging sector by sector. -/
  | stageErase (r : Nat)
  /-- CONFIG_WRITE (R454): Stitched BOO opcode that writes a configuration store copy. -/
  | configWrite (r : Nat)
  /-- CHAIN_SEND (R467): Stitched BOO opcode that sends ready staging down the chain. -/
  | chainSend (r : Nat)
  /-- PAIR_ENABLE (R475): Setting PAI_CTL.EN enters STARTING and starts heartbeats and START_MS. -/
  | pairEnable (pid val : Nat)
  /-- PAIR_DISABLE (R475): Clearing PAI_CTL.EN enters DISABLED with tied channels HELD and ports silent. -/
  | pairDisable (pid val : Nat)
  /-- HEARTBEAT_SEND (R473): Every 100 µs a module sends a HEARTBEAT on each lane that is up. -/
  | heartbeatSend
  /-- HEARTBEAT_RECEIVE (R475): A received heartbeat keeps the partner alive and drives role transitions and PAI_OFFSET. -/
  | heartbeatReceive (lane : Nat) (b : Bytes)
  /-- PARTNER_DEAD (R474): DEAD_US without a valid heartbeat declares the partner dead. -/
  | partnerDead
  /-- START_TIMEOUT (R475): START_MS without a heartbeat promotes the module or makes it ISOLATED. -/
  | startTimeout
  /-- TERM_RECEIVE (R476): A pair frame carrying a higher term is adopted and may demote or promote the module. -/
  | termReceive (lane : Nat) (b : Bytes)
  /-- WITNESS_TIMEOUT (R479): An ISOLATED module that hears no beacon for WITNESS_MS promotes. -/
  | witnessTimeout
  /-- BEACON_SEND (R479): A PRIMARY with BEACON_EN sends a BEACON on X0 and X1 every BEACON_MS. -/
  | beaconSend
  /-- BEACON_RECEIVE (R479): A BEACON with matching PAIR_ID is handed to PAI and restarts the witness interval. -/
  | beaconReceive (port : Nat) (b : Bytes)
  /-- MIRROR_RECEIVE (R480): The standby applies MIRROR records in SEQ order and raises SYNCED at resync end. -/
  | mirrorReceive (lane : Nat) (b : Bytes)
  /-- MIRROR_RETX (R473): A MIRROR not acknowledged within 50 µs is resent on the other lane. -/
  | mirrorRetx (seq : Nat)
  /-- BRIDGE_REQUEST (R486): A received BRIDGE_REQ is stamped, checked and performed in arrival order. -/
  | bridgeRequest (lane : Nat) (b : Bytes)
  /-- BRIDGE_COMPLETION (R486): A received BRIDGE_CPL ends its request, or is discarded when late. -/
  | bridgeCompletion (lane : Nat) (b : Bytes)
  /-- BRIDGE_TIMEOUT (R486): A bridge request open past BRIDGE_TMO ends with PEER. -/
  | bridgeTimeout (id : Nat)
  /-- CROSS_TIMEOUT (R488): Crossed bridge transfers held for CROSS_US make rank 0 retract its request with RETRY. -/
  | crossTimeout
  /-- SWITCH (R489): PAI opcode that hands the primary role to a synced standby. -/
  | switch (r : Nat)
  /-- FUNC_RESTART (R494): FLT opcode that restarts one restartable function. -/
  | funcRestart (r : Nat)
  /-- FUNC_RESTART_DONE (R494): A function restart ends and RESTART_DONE is raised. -/
  | funcRestartDone (fn : Nat)
  /-- WARM_RESET (R508): FLT opcode that starts a warm reset 1 ms after its completion. -/
  | warmReset (r : Nat)
  /-- POWER_CYCLE (R508): FLT opcode that starts a power cycle 1 ms after its completion. -/
  | powerCycle (r : Nat)
  /-- DEV_RESET_WRITE (R496): A write of 0x5EA7 to DEV_RESET.KEY starts rung 3. -/
  | devResetWrite (pid val : Nat)
  /-- DEV_PWRCYC_WRITE (R499): A write of 0xC7C1 to DEV_PWRCYC.KEY starts rung 4. -/
  | devPwrcycWrite (pid val : Nat)
  /-- RESET_N_ASSERT (R496): RESET_N held low for 1 µs triggers a warm reset held at step 3. -/
  | resetNAssert
  /-- RESET_N_RELEASE (R496): RESET_N rising lets a held warm reset continue. -/
  | resetNRelease
  /-- WARM_RESET_BEGIN (R497): A warm reset records its cause, casts off loads, stops interfaces, resets registers and reruns cast-on. -/
  | warmResetBegin
  /-- POWER_CYCLE_BEGIN (R499): A power cycle stops the logic die, releases INH and asserts PWRCYC_REQ for 20 ms. -/
  | powerCycleBegin
  /-- POWER_CYCLE_END (R499): After 20 ms INH returns and cast-on runs, soft if VLOG stayed in range. -/
  | powerCycleEnd (rank updMode : Nat)
  /-- VLOG_LOSS (R499): VLOG below 8.5 V for 10 µs stops the logic die with cause VLOG_LOST. -/
  | vlogLoss
  /-- MGMT_WD_EXPIRY (R503): The management-core watchdog expires and triggers a warm reset. -/
  | mgmtWdExpiry
  /-- MGMT_FAULT (R496): A fault of the management core triggers a warm reset. -/
  | mgmtFault
  /-- HOST_KICK (R503): A write by partition 2 to DEV_HOST_KICK reloads the host watchdog. -/
  | hostKick (pid _val : Nat)
  /-- HOST_WD_EXPIRY (R503): The host watchdog expires, raises HOST_WD and warm-resets with ACTION 1. -/
  | hostWdExpiry
  /-- THERMAL_POLL (R504): Every 1 ms FLT reads the logic-die temperature and warns, flags or shuts down. -/
  | thermalPoll (tj : Int)
  /-- FLASH_OPERATION_DONE (R62): An erase or program inside an external flash completes, answering reads held on that sector and letting Igion, chain and journal copies proceed. -/
  | flashOperationDone (flash : Nat) (left : Option Bytes)
  /-- CAN_BUS_INTEGRATED (R311): A controller sees eleven consecutive recessive bits, gains its footing on the bus and releases its held transmit queues. -/
  | canBusIntegrated (n : Nat)
  /-- AUDIO_LINK_RESTORED (R220): The link to the audio die returns and its outputs may again be driven by the running pattern. -/
  | audioLinkRestored
  deriving DecidableEq, Repr

end Sys2Proof
end

