-- ==== Sys2Proof/Config.lean ====
section
/-! DEFINITION. What an implementation fixes or the spec leaves open: free values with no body, so that no proof can
rest on a value of theirs. -/
namespace Sys2Proof

/-- A free value: `kind` names the point the spec leaves open, `n` is the draw. -/
opaque Config.freeNat : (kind : Nat) → (n : Nat) → Nat

/-- A free value that depends on its operands alone: `kind` names the point the spec leaves open, `x` spells the
operands. -/
opaque Config.freeFn : (kind : Nat) → (x : Nat) → Nat

/-- What a configuration copy holds, whose layout the spec does not give: the steps that load it, in order. `key` spells the copy's
header, which binds its contents. A step with no bytes writes a register: set-up offset and value; any other loads a table, and is
the 64 bytes of the opcode that would, with its buffer (log 53). -/
opaque Config.storeSteps : (key : Nat) → List (Nat × Nat × List (BitVec 8) × List (BitVec 8))

end Sys2Proof
end

