-- ==== Sys2Proof/Machine/Bytes.lean ====
section
/-! DEFINITION. Bit fields of numbers, byte runs and their little-endian and big-endian readings (R6). -/
namespace Sys2Proof.Machine

/-- Bits `hi` down to `lo` of a number. -/
def bits (w hi lo : Nat) : Nat := w / 2 ^ lo % 2 ^ (hi + 1 - lo)

/-- A number with its bits `hi` down to `lo` replaced by those of `v`. -/
def setBits (w hi lo v : Nat) : Nat :=
  w / 2 ^ (hi + 1) * 2 ^ (hi + 1) + v % 2 ^ (hi + 1 - lo) * 2 ^ lo + w % 2 ^ lo

/-- Bit `i` of a number. -/
def bitOf (w i : Nat) : Bool := w / 2 ^ i % 2 == 1

/-- A number with its bit `i` set. -/
def setBit (w i : Nat) : Nat := if bitOf w i then w else w + 2 ^ i

/-- A number with its bit `i` cleared. -/
def clearBit (w i : Nat) : Nat := if bitOf w i then w - 2 ^ i else w

/-- `b` as the number 0 or 1. -/
def b2n (b : Bool) : Nat := if b then 1 else 0

/-- The number a run of bytes spells, little-endian. -/
def leVal : Bytes → Nat
  | [] => 0
  | b :: r => b.toNat + 256 * leVal r

/-- The number a run of bytes spells, big-endian. -/
def beVal (b : Bytes) : Nat := leVal b.reverse

/-- `n` bytes of `v`, little-endian. -/
def leBytes : Nat → Nat → Bytes
  | 0, _ => []
  | n + 1, v => BitVec.ofNat 8 v :: leBytes n (v / 256)

/-- `n` bytes of `v`, big-endian. -/
def beBytes (n v : Nat) : Bytes := (leBytes n v).reverse

/-- `n` zero bytes. -/
def zeros (n : Nat) : Bytes := List.replicate n 0

/-- `n` bytes from index `i`, zero-filled past the end. -/
def slice (b : Bytes) (i n : Nat) : Bytes :=
  let t := (b.drop i).take n
  t ++ zeros (n - t.length)

/-- Byte `i` as a number. -/
def u8 (b : Bytes) (i : Nat) : Nat := (b.getD i 0).toNat
/-- Bytes `i` and `i + 1`, little-endian. -/
def u16 (b : Bytes) (i : Nat) : Nat := leVal (slice b i 2)
/-- Four bytes from `i`, little-endian. -/
def u32 (b : Bytes) (i : Nat) : Nat := leVal (slice b i 4)
/-- Six bytes from `i`, little-endian: one 48-bit word (R65). -/
def u48 (b : Bytes) (i : Nat) : Nat := leVal (slice b i 6)
/-- Eight bytes from `i`, little-endian. -/
def u64 (b : Bytes) (i : Nat) : Nat := leVal (slice b i 8)
/-- Two bytes from `i`, big-endian, as published standards order them (R6). -/
def be16 (b : Bytes) (i : Nat) : Nat := beVal (slice b i 2)
/-- Four bytes from `i`, big-endian. -/
def be32 (b : Bytes) (i : Nat) : Nat := beVal (slice b i 4)
/-- Six bytes from `i`, big-endian, as a MAC address is written. -/
def be48 (b : Bytes) (i : Nat) : Nat := beVal (slice b i 6)

/-- The bytes with the run `v` written over those from index `i`. -/
def patch (b : Bytes) (i : Nat) (v : Bytes) : Bytes :=
  b.take i ++ v ++ b.drop (i + v.length)

/-- Every byte from `i` up to but not including `j` is 0. -/
def allZero (b : Bytes) (i j : Nat) : Bool := ((b.drop i).take (j - i)).all (· == 0)

/-- A two's complement reading of the low `n` bits. -/
def sint (n v : Nat) : Int :=
  let w := v % 2 ^ n
  if w < 2 ^ (n - 1) then (w : Int) else (w : Int) - 2 ^ n

/-- The low `n` bits of a whole number in two's complement. -/
def ofInt (n : Nat) (i : Int) : Nat := (i % 2 ^ n).toNat

/-- A whole number held to the range of `n` signed bits. -/
def satInt (n : Nat) (i : Int) : Int := max (-(2 ^ (n - 1))) (min (2 ^ (n - 1) - 1) i)

/-- The greatest number of a list. -/
def greatest (l : List Nat) : Nat := l.foldl max 0

/-- The quotient rounded up. -/
def ceilDiv (a b : Nat) : Nat := (a + b - 1) / b

/-- A state transformer run over every item of a list, first item first. -/
def forEach {α σ : Type} (l : List α) (f : α → σ → σ) (s : σ) : σ :=
  l.foldl (fun t x => f x t) s

/-- The list with the first item that satisfies `p` replaced by its image. -/
def updFirst {α : Type} (p : α → Bool) (f : α → α) : List α → List α
  | [] => []
  | x :: r => if p x then f x :: r else x :: updFirst p f r

/-- The list without the first item that satisfies `p`. -/
def dropFirst {α : Type} (p : α → Bool) : List α → List α
  | [] => []
  | x :: r => if p x then r else x :: dropFirst p r

/-- The list with item `i` replaced, unchanged where there is none. -/
def setAt {α : Type} (l : List α) (i : Nat) (v : α) : List α := l.set i v

end Sys2Proof.Machine
end

