-- ==== Sys2Proof/Machine/Store.lean ====
section
/-! DEFINITION. Sparse stores: lists of (key, value) pairs in one canonical form, keys strictly rising and no
entry equal to what its key reads as when unlisted. Registers, counters and memory are held this way. -/
namespace Sys2Proof.Machine

/-- A sparse store: key and value pairs. -/
abbrev Store (α : Type) := List (Nat × α)

/-- The value at key `k`; an unlisted key reads `d k`. -/
def storeGet {α : Type} (d : Nat → α) : Store α → Nat → α
  | [], k => d k
  | (j, v) :: r, k => if j = k then v else storeGet d r k

/-- The store without the entries of key `k`. -/
def storeErase {α : Type} : Store α → Nat → Store α
  | [], _ => []
  | (j, v) :: r, k => if j = k then storeErase r k else (j, v) :: storeErase r k

/-- The store with an entry put in before the first greater key. -/
def storeIns {α : Type} : Store α → Nat → α → Store α
  | [], k, v => [(k, v)]
  | (j, w) :: r, k, v => if k < j then (k, v) :: (j, w) :: r else (j, w) :: storeIns r k v

/-- The store after a write of `v` at key `k`: writing what the key reads as when unlisted removes the entry. -/
def storeSet {α : Type} [DecidableEq α] (d : Nat → α) (m : Store α) (k : Nat) (v : α) : Store α :=
  if v = d k then storeErase m k else storeIns (storeErase m k) k v

/-- Every key of the store is above `k`. -/
def storeAbove {α : Type} (k : Nat) : Store α → Bool
  | [] => true
  | (j, _) :: r => decide (k < j) && storeAbove k r

/-- The canonical form: keys strictly rising, no entry equal to its key's unlisted value. -/
def storeWf {α : Type} [DecidableEq α] (d : Nat → α) : Store α → Bool
  | [] => true
  | (j, v) :: r => storeAbove j r && !decide (v = d j) && storeWf d r

end Sys2Proof.Machine
end

