-- ==== Sys2Proof/Machine/RegMap.lean ====
section
/-! DEFINITION. The names of the set-up registers (R.<register>), of their fields (F.<register>_<field>) and of the
48-bit counters (C.<counter>), written from the register tables of spec/02 to spec/19. A register is named by its
offset from the start of set-up space: function number times 0x1_0000 plus the offset in its page (R7). An index in a
register's name in the spec is an argument here. -/
namespace Sys2Proof.Machine

/-- A field of a set-up register: the register, the field's highest bit and its lowest bit. -/
structure Fld where
  reg : Nat
  hi : Nat
  lo : Nat
  deriving DecidableEq, Repr

/-! Registers of spec/02_memory_map.md. -/

/-- JER_EVT, spec/02_memory_map.md. -/
def R.JER_EVT : Nat := 0x10000
/-- EFF_BAD bits 4:4 of JER_EVT. -/
def F.JER_EVT_EFF_BAD : Fld := ⟨R.JER_EVT, 4, 4⟩
/-- UNMAPPED bits 3:3 of JER_EVT. -/
def F.JER_EVT_UNMAPPED : Fld := ⟨R.JER_EVT, 3, 3⟩
/-- LATE bits 2:2 of JER_EVT. -/
def F.JER_EVT_LATE : Fld := ⟨R.JER_EVT, 2, 2⟩
/-- READ_TMO bits 1:1 of JER_EVT. -/
def F.JER_EVT_READ_TMO : Fld := ⟨R.JER_EVT, 1, 1⟩
/-- DENY bits 0:0 of JER_EVT. -/
def F.JER_EVT_DENY : Fld := ⟨R.JER_EVT, 0, 0⟩

/-- JER_EVT_EN, spec/02_memory_map.md. -/
def R.JER_EVT_EN : Nat := 0x10004
/-- EN bits 4:0 of JER_EVT_EN. -/
def F.JER_EVT_EN_EN : Fld := ⟨R.JER_EVT_EN, 4, 0⟩

/-- JER_EVT_VEC, spec/02_memory_map.md. -/
def R.JER_EVT_VEC : Nat := 0x10008
/-- MSIX bits 21:16 of JER_EVT_VEC. -/
def F.JER_EVT_VEC_MSIX : Fld := ⟨R.JER_EVT_VEC, 21, 16⟩
/-- AIA_ID bits 9:0 of JER_EVT_VEC. -/
def F.JER_EVT_VEC_AIA_ID : Fld := ⟨R.JER_EVT_VEC, 9, 0⟩

/-- JER_GSEL, spec/02_memory_map.md. -/
def R.JER_GSEL : Nat := 0x10010
/-- RULE bits 12:8 of JER_GSEL. -/
def F.JER_GSEL_RULE : Fld := ⟨R.JER_GSEL, 12, 8⟩
/-- GUARD bits 4:0 of JER_GSEL. -/
def F.JER_GSEL_GUARD : Fld := ⟨R.JER_GSEL, 4, 0⟩

/-- JER_GBASE_LO, spec/02_memory_map.md. -/
def R.JER_GBASE_LO : Nat := 0x10014
/-- ADDR bits 31:12 of JER_GBASE_LO. -/
def F.JER_GBASE_LO_ADDR : Fld := ⟨R.JER_GBASE_LO, 31, 12⟩
/-- VALID bits 0:0 of JER_GBASE_LO. -/
def F.JER_GBASE_LO_VALID : Fld := ⟨R.JER_GBASE_LO, 0, 0⟩

/-- JER_GBASE_HI, spec/02_memory_map.md. -/
def R.JER_GBASE_HI : Nat := 0x10018
/-- ADDR bits 15:0 of JER_GBASE_HI. -/
def F.JER_GBASE_HI_ADDR : Fld := ⟨R.JER_GBASE_HI, 15, 0⟩

/-- JER_GLIMIT_LO, spec/02_memory_map.md. -/
def R.JER_GLIMIT_LO : Nat := 0x1001C
/-- ADDR bits 31:12 of JER_GLIMIT_LO. -/
def F.JER_GLIMIT_LO_ADDR : Fld := ⟨R.JER_GLIMIT_LO, 31, 12⟩

/-- JER_GLIMIT_HI, spec/02_memory_map.md. -/
def R.JER_GLIMIT_HI : Nat := 0x10020
/-- ADDR bits 15:0 of JER_GLIMIT_HI. -/
def F.JER_GLIMIT_HI_ADDR : Fld := ⟨R.JER_GLIMIT_HI, 15, 0⟩

/-- JER_GRD, spec/02_memory_map.md. -/
def R.JER_GRD : Nat := 0x10024
/-- MASK bits 31:0 of JER_GRD. -/
def F.JER_GRD_MASK : Fld := ⟨R.JER_GRD, 31, 0⟩

/-- JER_GWR, spec/02_memory_map.md. -/
def R.JER_GWR : Nat := 0x10028
/-- MASK bits 31:0 of JER_GWR. -/
def F.JER_GWR_MASK : Fld := ⟨R.JER_GWR, 31, 0⟩

/-- JER_GCOMMIT, spec/02_memory_map.md. -/
def R.JER_GCOMMIT : Nat := 0x1002C
/-- GO bits 0:0 of JER_GCOMMIT. -/
def F.JER_GCOMMIT_GO : Fld := ⟨R.JER_GCOMMIT, 0, 0⟩

/-- JER_DENY_ADDR_LO, spec/02_memory_map.md. -/
def R.JER_DENY_ADDR_LO : Nat := 0x10030
/-- ADDR bits 31:0 of JER_DENY_ADDR_LO. -/
def F.JER_DENY_ADDR_LO_ADDR : Fld := ⟨R.JER_DENY_ADDR_LO, 31, 0⟩

/-- JER_DENY_ADDR_HI, spec/02_memory_map.md. -/
def R.JER_DENY_ADDR_HI : Nat := 0x10034
/-- ADDR bits 15:0 of JER_DENY_ADDR_HI. -/
def F.JER_DENY_ADDR_HI_ADDR : Fld := ⟨R.JER_DENY_ADDR_HI, 15, 0⟩

/-- JER_DENY_INFO, spec/02_memory_map.md. -/
def R.JER_DENY_INFO : Nat := 0x10038
/-- PID bits 13:9 of JER_DENY_INFO. -/
def F.JER_DENY_INFO_PID : Fld := ⟨R.JER_DENY_INFO, 13, 9⟩
/-- DIR bits 8:8 of JER_DENY_INFO. -/
def F.JER_DENY_INFO_DIR : Fld := ⟨R.JER_DENY_INFO, 8, 8⟩
/-- GUARD bits 4:0 of JER_DENY_INFO. -/
def F.JER_DENY_INFO_GUARD : Fld := ⟨R.JER_DENY_INFO, 4, 0⟩

/-- JER_TMO_ADDR_LO, spec/02_memory_map.md. -/
def R.JER_TMO_ADDR_LO : Nat := 0x1003C
/-- ADDR bits 31:0 of JER_TMO_ADDR_LO. -/
def F.JER_TMO_ADDR_LO_ADDR : Fld := ⟨R.JER_TMO_ADDR_LO, 31, 0⟩

/-- JER_TMO_ADDR_HI, spec/02_memory_map.md. -/
def R.JER_TMO_ADDR_HI : Nat := 0x10040
/-- ADDR bits 15:0 of JER_TMO_ADDR_HI. -/
def F.JER_TMO_ADDR_HI_ADDR : Fld := ⟨R.JER_TMO_ADDR_HI, 15, 0⟩

/-- JER_TMO_INFO, spec/02_memory_map.md. -/
def R.JER_TMO_INFO : Nat := 0x10044
/-- PID bits 12:8 of JER_TMO_INFO. -/
def F.JER_TMO_INFO_PID : Fld := ⟨R.JER_TMO_INFO, 12, 8⟩
/-- TAG bits 7:0 of JER_TMO_INFO. -/
def F.JER_TMO_INFO_TAG : Fld := ⟨R.JER_TMO_INFO, 7, 0⟩

/-- JER_EFFn_BASE_LO, spec/02_memory_map.md. -/
def R.JER_EFF_BASE_LO (n : Nat) : Nat := 0x10100 + 0x10 * n
/-- ADDR bits 31:12 of JER_EFFn_BASE_LO. -/
def F.JER_EFF_BASE_LO_ADDR (n : Nat) : Fld := ⟨R.JER_EFF_BASE_LO n, 31, 12⟩
/-- EN bits 0:0 of JER_EFFn_BASE_LO. -/
def F.JER_EFF_BASE_LO_EN (n : Nat) : Fld := ⟨R.JER_EFF_BASE_LO n, 0, 0⟩

/-- JER_EFFn_BASE_HI, spec/02_memory_map.md. -/
def R.JER_EFF_BASE_HI (n : Nat) : Nat := 0x10104 + 0x10 * n
/-- ADDR bits 15:0 of JER_EFFn_BASE_HI. -/
def F.JER_EFF_BASE_HI_ADDR (n : Nat) : Fld := ⟨R.JER_EFF_BASE_HI n, 15, 0⟩

/-- JER_EFFn_LIMIT_LO, spec/02_memory_map.md. -/
def R.JER_EFF_LIMIT_LO (n : Nat) : Nat := 0x10108 + 0x10 * n
/-- ADDR bits 31:12 of JER_EFFn_LIMIT_LO. -/
def F.JER_EFF_LIMIT_LO_ADDR (n : Nat) : Fld := ⟨R.JER_EFF_LIMIT_LO n, 31, 12⟩

/-- JER_EFFn_LIMIT_HI, spec/02_memory_map.md. -/
def R.JER_EFF_LIMIT_HI (n : Nat) : Nat := 0x1010C + 0x10 * n
/-- ADDR bits 15:0 of JER_EFFn_LIMIT_HI. -/
def F.JER_EFF_LIMIT_HI_ADDR (n : Nat) : Fld := ⟨R.JER_EFF_LIMIT_HI n, 15, 0⟩

/-- MEM_EVT, spec/02_memory_map.md. -/
def R.MEM_EVT : Nat := 0x20000
/-- SCRUB_PASS bits 3:3 of MEM_EVT. -/
def F.MEM_EVT_SCRUB_PASS : Fld := ⟨R.MEM_EVT, 3, 3⟩
/-- REPEAT bits 2:2 of MEM_EVT. -/
def F.MEM_EVT_REPEAT : Fld := ⟨R.MEM_EVT, 2, 2⟩
/-- UE bits 1:1 of MEM_EVT. -/
def F.MEM_EVT_UE : Fld := ⟨R.MEM_EVT, 1, 1⟩
/-- CE bits 0:0 of MEM_EVT. -/
def F.MEM_EVT_CE : Fld := ⟨R.MEM_EVT, 0, 0⟩

/-- MEM_EVT_EN, spec/02_memory_map.md. -/
def R.MEM_EVT_EN : Nat := 0x20004
/-- EN bits 3:0 of MEM_EVT_EN. -/
def F.MEM_EVT_EN_EN : Fld := ⟨R.MEM_EVT_EN, 3, 0⟩

/-- MEM_EVT_VEC, spec/02_memory_map.md. -/
def R.MEM_EVT_VEC : Nat := 0x20008
/-- MSIX bits 21:16 of MEM_EVT_VEC. -/
def F.MEM_EVT_VEC_MSIX : Fld := ⟨R.MEM_EVT_VEC, 21, 16⟩
/-- AIA_ID bits 9:0 of MEM_EVT_VEC. -/
def F.MEM_EVT_VEC_AIA_ID : Fld := ⟨R.MEM_EVT_VEC, 9, 0⟩

/-- MEM_SCRUB_CTL, spec/02_memory_map.md. -/
def R.MEM_SCRUB_CTL : Nat := 0x20010
/-- PATROL_EN bits 0:0 of MEM_SCRUB_CTL. -/
def F.MEM_SCRUB_CTL_PATROL_EN : Fld := ⟨R.MEM_SCRUB_CTL, 0, 0⟩

/-- MEM_SCRUB_INTERVAL, spec/02_memory_map.md. -/
def R.MEM_SCRUB_INTERVAL : Nat := 0x20014
/-- INTERVAL bits 23:0 of MEM_SCRUB_INTERVAL. -/
def F.MEM_SCRUB_INTERVAL_INTERVAL : Fld := ⟨R.MEM_SCRUB_INTERVAL, 23, 0⟩

/-- MEM_SCRUB_DRAM_POS, spec/02_memory_map.md. -/
def R.MEM_SCRUB_DRAM_POS : Nat := 0x20018
/-- ADDR bits 31:16 of MEM_SCRUB_DRAM_POS. -/
def F.MEM_SCRUB_DRAM_POS_ADDR : Fld := ⟨R.MEM_SCRUB_DRAM_POS, 31, 16⟩

/-- MEM_CE_ADDR_LO, spec/02_memory_map.md. -/
def R.MEM_CE_ADDR_LO : Nat := 0x20020
/-- ADDR bits 31:0 of MEM_CE_ADDR_LO. -/
def F.MEM_CE_ADDR_LO_ADDR : Fld := ⟨R.MEM_CE_ADDR_LO, 31, 0⟩

/-- MEM_CE_ADDR_HI, spec/02_memory_map.md. -/
def R.MEM_CE_ADDR_HI : Nat := 0x20024
/-- ADDR bits 15:0 of MEM_CE_ADDR_HI. -/
def F.MEM_CE_ADDR_HI_ADDR : Fld := ⟨R.MEM_CE_ADDR_HI, 15, 0⟩

/-- MEM_CE_INFO, spec/02_memory_map.md. -/
def R.MEM_CE_INFO : Nat := 0x20028
/-- BIT bits 16:10 of MEM_CE_INFO. -/
def F.MEM_CE_INFO_BIT : Fld := ⟨R.MEM_CE_INFO, 16, 10⟩
/-- PATROL bits 9:9 of MEM_CE_INFO. -/
def F.MEM_CE_INFO_PATROL : Fld := ⟨R.MEM_CE_INFO, 9, 9⟩
/-- KIND bits 2:0 of MEM_CE_INFO. -/
def F.MEM_CE_INFO_KIND : Fld := ⟨R.MEM_CE_INFO, 2, 0⟩

/-- MEM_UE_ADDR_LO, spec/02_memory_map.md. -/
def R.MEM_UE_ADDR_LO : Nat := 0x2002C
/-- ADDR bits 31:0 of MEM_UE_ADDR_LO. -/
def F.MEM_UE_ADDR_LO_ADDR : Fld := ⟨R.MEM_UE_ADDR_LO, 31, 0⟩

/-- MEM_UE_ADDR_HI, spec/02_memory_map.md. -/
def R.MEM_UE_ADDR_HI : Nat := 0x20030
/-- ADDR bits 15:0 of MEM_UE_ADDR_HI. -/
def F.MEM_UE_ADDR_HI_ADDR : Fld := ⟨R.MEM_UE_ADDR_HI, 15, 0⟩

/-- MEM_UE_INFO, spec/02_memory_map.md. -/
def R.MEM_UE_INFO : Nat := 0x20034
/-- PID bits 13:9 of MEM_UE_INFO. -/
def F.MEM_UE_INFO_PID : Fld := ⟨R.MEM_UE_INFO, 13, 9⟩
/-- PATROL bits 8:8 of MEM_UE_INFO. -/
def F.MEM_UE_INFO_PATROL : Fld := ⟨R.MEM_UE_INFO, 8, 8⟩
/-- KIND bits 2:0 of MEM_UE_INFO. -/
def F.MEM_UE_INFO_KIND : Fld := ⟨R.MEM_UE_INFO, 2, 0⟩

/-! Registers of spec/03_rounds.md. -/

/-- RND_EVT, spec/03_rounds.md. -/
def R.RND_EVT : Nat := 0x30000
/-- FLR bits 7:7 of RND_EVT. -/
def F.RND_EVT_FLR : Fld := ⟨R.RND_EVT, 7, 7⟩
/-- LINK_UP bits 6:6 of RND_EVT. -/
def F.RND_EVT_LINK_UP : Fld := ⟨R.RND_EVT, 6, 6⟩
/-- LINK_DOWN bits 5:5 of RND_EVT. -/
def F.RND_EVT_LINK_DOWN : Fld := ⟨R.RND_EVT, 5, 5⟩
/-- HOST_ERR bits 4:4 of RND_EVT. -/
def F.RND_EVT_HOST_ERR : Fld := ⟨R.RND_EVT, 4, 4⟩
/-- FROGFX bits 3:3 of RND_EVT. -/
def F.RND_EVT_FROGFX : Fld := ⟨R.RND_EVT, 3, 3⟩
/-- CPL_FULL bits 2:2 of RND_EVT. -/
def F.RND_EVT_CPL_FULL : Fld := ⟨R.RND_EVT, 2, 2⟩
/-- CFG_BAD bits 1:1 of RND_EVT. -/
def F.RND_EVT_CFG_BAD : Fld := ⟨R.RND_EVT, 1, 1⟩
/-- DB_BAD bits 0:0 of RND_EVT. -/
def F.RND_EVT_DB_BAD : Fld := ⟨R.RND_EVT, 0, 0⟩

/-- RND_EVT_EN, spec/03_rounds.md. -/
def R.RND_EVT_EN : Nat := 0x30004
/-- EN bits 7:0 of RND_EVT_EN. -/
def F.RND_EVT_EN_EN : Fld := ⟨R.RND_EVT_EN, 7, 0⟩

/-- RND_EVT_VEC, spec/03_rounds.md. -/
def R.RND_EVT_VEC : Nat := 0x30008
/-- MSIX bits 21:16 of RND_EVT_VEC. -/
def F.RND_EVT_VEC_MSIX : Fld := ⟨R.RND_EVT_VEC, 21, 16⟩
/-- AIA_ID bits 9:0 of RND_EVT_VEC. -/
def F.RND_EVT_VEC_AIA_ID : Fld := ⟨R.RND_EVT_VEC, 9, 0⟩

/-- RND_PCI_ID, spec/03_rounds.md. -/
def R.RND_PCI_ID : Nat := 0x30010
/-- DEVICE bits 31:16 of RND_PCI_ID. -/
def F.RND_PCI_ID_DEVICE : Fld := ⟨R.RND_PCI_ID, 31, 16⟩
/-- VENDOR bits 15:0 of RND_PCI_ID. -/
def F.RND_PCI_ID_VENDOR : Fld := ⟨R.RND_PCI_ID, 15, 0⟩

/-- RND_LINK, spec/03_rounds.md. -/
def R.RND_LINK : Nat := 0x30014
/-- ATOMIC_EN bits 15:15 of RND_LINK. -/
def F.RND_LINK_ATOMIC_EN : Fld := ⟨R.RND_LINK, 15, 15⟩
/-- MRRS bits 14:12 of RND_LINK. -/
def F.RND_LINK_MRRS : Fld := ⟨R.RND_LINK, 14, 12⟩
/-- MPS bits 11:9 of RND_LINK. -/
def F.RND_LINK_MPS : Fld := ⟨R.RND_LINK, 11, 9⟩
/-- UP bits 8:8 of RND_LINK. -/
def F.RND_LINK_UP : Fld := ⟨R.RND_LINK, 8, 8⟩
/-- WIDTH bits 7:4 of RND_LINK. -/
def F.RND_LINK_WIDTH : Fld := ⟨R.RND_LINK, 7, 4⟩
/-- SPEED bits 3:0 of RND_LINK. -/
def F.RND_LINK_SPEED : Fld := ⟨R.RND_LINK, 3, 0⟩

/-- RND_HWIN_LO, spec/03_rounds.md. -/
def R.RND_HWIN_LO : Nat := 0x30018
/-- ADDR bits 31:12 of RND_HWIN_LO. -/
def F.RND_HWIN_LO_ADDR : Fld := ⟨R.RND_HWIN_LO, 31, 12⟩

/-- RND_HWIN_HI, spec/03_rounds.md. -/
def R.RND_HWIN_HI : Nat := 0x3001C
/-- ADDR bits 31:0 of RND_HWIN_HI. -/
def F.RND_HWIN_HI_ADDR : Fld := ⟨R.RND_HWIN_HI, 31, 0⟩

/-- RND_CTL, spec/03_rounds.md. -/
def R.RND_CTL : Nat := 0x30020
/-- CPL_TMO bits 6:0 of RND_CTL. -/
def F.RND_CTL_CPL_TMO : Fld := ⟨R.RND_CTL, 6, 0⟩

/-- RND_CANCEL_TAG, spec/03_rounds.md. -/
def R.RND_CANCEL_TAG : Nat := 0x30024
/-- TAG bits 31:0 of RND_CANCEL_TAG. -/
def F.RND_CANCEL_TAG_TAG : Fld := ⟨R.RND_CANCEL_TAG, 31, 0⟩

/-- RND_CANCEL, spec/03_rounds.md. -/
def R.RND_CANCEL : Nat := 0x30028
/-- GO bits 31:31 of RND_CANCEL. -/
def F.RND_CANCEL_GO : Fld := ⟨R.RND_CANCEL, 31, 31⟩
/-- ROUND bits 7:0 of RND_CANCEL. -/
def F.RND_CANCEL_ROUND : Fld := ⟨R.RND_CANCEL, 7, 0⟩

/-- RND_CANCEL_STAT, spec/03_rounds.md. -/
def R.RND_CANCEL_STAT : Nat := 0x3002C
/-- ROUND bits 15:8 of RND_CANCEL_STAT. -/
def F.RND_CANCEL_STAT_ROUND : Fld := ⟨R.RND_CANCEL_STAT, 15, 8⟩
/-- RESULT bits 1:0 of RND_CANCEL_STAT. -/
def F.RND_CANCEL_STAT_RESULT : Fld := ⟨R.RND_CANCEL_STAT, 1, 0⟩

/-- RND_INFLIGHT, spec/03_rounds.md. -/
def R.RND_INFLIGHT : Nat := 0x30030
/-- COUNT bits 10:0 of RND_INFLIGHT. -/
def F.RND_INFLIGHT_COUNT : Fld := ⟨R.RND_INFLIGHT, 10, 0⟩

/-- RND_FROGFX_ADDR_LO, spec/03_rounds.md. -/
def R.RND_FROGFX_ADDR_LO : Nat := 0x30040
/-- ADDR bits 31:0 of RND_FROGFX_ADDR_LO. -/
def F.RND_FROGFX_ADDR_LO_ADDR : Fld := ⟨R.RND_FROGFX_ADDR_LO, 31, 0⟩

/-- RND_FROGFX_ADDR_HI, spec/03_rounds.md. -/
def R.RND_FROGFX_ADDR_HI : Nat := 0x30044
/-- ADDR bits 15:0 of RND_FROGFX_ADDR_HI. -/
def F.RND_FROGFX_ADDR_HI_ADDR : Fld := ⟨R.RND_FROGFX_ADDR_HI, 15, 0⟩

/-- RND_FROGFX_INFO, spec/03_rounds.md. -/
def R.RND_FROGFX_INFO : Nat := 0x30048
/-- VALID bits 8:8 of RND_FROGFX_INFO. -/
def F.RND_FROGFX_INFO_VALID : Fld := ⟨R.RND_FROGFX_INFO, 8, 8⟩
/-- ROUND bits 7:0 of RND_FROGFX_INFO. -/
def F.RND_FROGFX_INFO_ROUND : Fld := ⟨R.RND_FROGFX_INFO, 7, 0⟩

/-- RND_DBn_CMD, spec/03_rounds.md. -/
def R.RND_DB_CMD (n : Nat) : Nat := 0x31000 + 0x8 * n
/-- INDEX bits 11:0 of RND_DBn_CMD. -/
def F.RND_DB_CMD_INDEX (n : Nat) : Fld := ⟨R.RND_DB_CMD n, 11, 0⟩

/-- RND_DBn_CPL, spec/03_rounds.md. -/
def R.RND_DB_CPL (n : Nat) : Nat := 0x31004 + 0x8 * n
/-- INDEX bits 11:0 of RND_DBn_CPL. -/
def F.RND_DB_CPL_INDEX (n : Nat) : Fld := ⟨R.RND_DB_CPL n, 11, 0⟩

/-- RND_Rn_CMD_BASE_LO, spec/03_rounds.md. -/
def R.RND_R_CMD_BASE_LO (n : Nat) : Nat := 0x32000 + 0x20 * n
/-- ADDR bits 31:6 of RND_Rn_CMD_BASE_LO. -/
def F.RND_R_CMD_BASE_LO_ADDR (n : Nat) : Fld := ⟨R.RND_R_CMD_BASE_LO n, 31, 6⟩

/-- RND_Rn_CMD_BASE_HI, spec/03_rounds.md. -/
def R.RND_R_CMD_BASE_HI (n : Nat) : Nat := 0x32004 + 0x20 * n
/-- ADDR bits 15:0 of RND_Rn_CMD_BASE_HI. -/
def F.RND_R_CMD_BASE_HI_ADDR (n : Nat) : Fld := ⟨R.RND_R_CMD_BASE_HI n, 15, 0⟩

/-- RND_Rn_CPL_BASE_LO, spec/03_rounds.md. -/
def R.RND_R_CPL_BASE_LO (n : Nat) : Nat := 0x32008 + 0x20 * n
/-- ADDR bits 31:4 of RND_Rn_CPL_BASE_LO. -/
def F.RND_R_CPL_BASE_LO_ADDR (n : Nat) : Fld := ⟨R.RND_R_CPL_BASE_LO n, 31, 4⟩

/-- RND_Rn_CPL_BASE_HI, spec/03_rounds.md. -/
def R.RND_R_CPL_BASE_HI (n : Nat) : Nat := 0x3200C + 0x20 * n
/-- ADDR bits 15:0 of RND_Rn_CPL_BASE_HI. -/
def F.RND_R_CPL_BASE_HI_ADDR (n : Nat) : Fld := ⟨R.RND_R_CPL_BASE_HI n, 15, 0⟩

/-- RND_Rn_ASSIGN, spec/03_rounds.md. -/
def R.RND_R_ASSIGN (n : Nat) : Nat := 0x32010 + 0x20 * n
/-- PRIO bits 15:14 of RND_Rn_ASSIGN. -/
def F.RND_R_ASSIGN_PRIO (n : Nat) : Fld := ⟨R.RND_R_ASSIGN n, 15, 14⟩
/-- FUNC bits 12:8 of RND_Rn_ASSIGN. -/
def F.RND_R_ASSIGN_FUNC (n : Nat) : Fld := ⟨R.RND_R_ASSIGN n, 12, 8⟩
/-- OWNER bits 4:0 of RND_Rn_ASSIGN. -/
def F.RND_R_ASSIGN_OWNER (n : Nat) : Fld := ⟨R.RND_R_ASSIGN n, 4, 0⟩

/-- RND_Rn_CTL, spec/03_rounds.md. -/
def R.RND_R_CTL (n : Nat) : Nat := 0x32014 + 0x20 * n
/-- AIA_ID bits 31:22 of RND_Rn_CTL. -/
def F.RND_R_CTL_AIA_ID (n : Nat) : Fld := ⟨R.RND_R_CTL n, 31, 22⟩
/-- VEC bits 21:16 of RND_Rn_CTL. -/
def F.RND_R_CTL_VEC (n : Nat) : Fld := ⟨R.RND_R_CTL n, 21, 16⟩
/-- SIZE bits 11:8 of RND_Rn_CTL. -/
def F.RND_R_CTL_SIZE (n : Nat) : Fld := ⟨R.RND_R_CTL n, 11, 8⟩
/-- RA_OFF bits 1:1 of RND_Rn_CTL. -/
def F.RND_R_CTL_RA_OFF (n : Nat) : Fld := ⟨R.RND_R_CTL n, 1, 1⟩
/-- EN bits 0:0 of RND_Rn_CTL. -/
def F.RND_R_CTL_EN (n : Nat) : Fld := ⟨R.RND_R_CTL n, 0, 0⟩

/-- RND_Rn_MOD, spec/03_rounds.md. -/
def R.RND_R_MOD (n : Nat) : Nat := 0x32018 + 0x20 * n
/-- TIME bits 31:20 of RND_Rn_MOD. -/
def F.RND_R_MOD_TIME (n : Nat) : Fld := ⟨R.RND_R_MOD n, 31, 20⟩
/-- COUNT bits 19:12 of RND_Rn_MOD. -/
def F.RND_R_MOD_COUNT (n : Nat) : Fld := ⟨R.RND_R_MOD n, 19, 12⟩
/-- REPORT bits 11:0 of RND_Rn_MOD. -/
def F.RND_R_MOD_REPORT (n : Nat) : Fld := ⟨R.RND_R_MOD n, 11, 0⟩

/-- RND_Rn_STAT, spec/03_rounds.md. -/
def R.RND_R_STAT (n : Nat) : Nat := 0x3201C + 0x20 * n
/-- CPL_IDX bits 31:20 of RND_Rn_STAT. -/
def F.RND_R_STAT_CPL_IDX (n : Nat) : Fld := ⟨R.RND_R_STAT n, 31, 20⟩
/-- HEAD bits 19:8 of RND_Rn_STAT. -/
def F.RND_R_STAT_HEAD (n : Nat) : Fld := ⟨R.RND_R_STAT n, 19, 8⟩
/-- PHASE bits 2:2 of RND_Rn_STAT. -/
def F.RND_R_STAT_PHASE (n : Nat) : Fld := ⟨R.RND_R_STAT n, 2, 2⟩
/-- STALLED bits 1:1 of RND_Rn_STAT. -/
def F.RND_R_STAT_STALLED (n : Nat) : Fld := ⟨R.RND_R_STAT n, 1, 1⟩
/-- RUN bits 0:0 of RND_Rn_STAT. -/
def F.RND_R_STAT_RUN (n : Nat) : Fld := ⟨R.RND_R_STAT n, 0, 0⟩

/-! Registers of spec/04_switch_core.md. -/

/-- SWC_EVT, spec/04_switch_core.md. -/
def R.SWC_EVT : Nat := 0x40000
/-- MEDIA_DROP bits 16:16 of SWC_EVT. -/
def F.SWC_EVT_MEDIA_DROP : Fld := ⟨R.SWC_EVT, 16, 16⟩
/-- NOBUF bits 15:15 of SWC_EVT. -/
def F.SWC_EVT_NOBUF : Fld := ⟨R.SWC_EVT, 15, 15⟩
/-- CARVE bits 14:14 of SWC_EVT. -/
def F.SWC_EVT_CARVE : Fld := ⟨R.SWC_EVT, 14, 14⟩
/-- CB_RESET bits 13:13 of SWC_EVT. -/
def F.SWC_EVT_CB_RESET : Fld := ⟨R.SWC_EVT, 13, 13⟩
/-- CB_DROP bits 12:12 of SWC_EVT. -/
def F.SWC_EVT_CB_DROP : Fld := ⟨R.SWC_EVT, 12, 12⟩
/-- CB_GAP bits 11:11 of SWC_EVT. -/
def F.SWC_EVT_CB_GAP : Fld := ⟨R.SWC_EVT, 11, 11⟩
/-- LEARN_FULL bits 10:10 of SWC_EVT. -/
def F.SWC_EVT_LEARN_FULL : Fld := ⟨R.SWC_EVT, 10, 10⟩
/-- HOLD_EXPIRE bits 9:9 of SWC_EVT. -/
def F.SWC_EVT_HOLD_EXPIRE : Fld := ⟨R.SWC_EVT, 9, 9⟩
/-- HOLD_START bits 8:8 of SWC_EVT. -/
def F.SWC_EVT_HOLD_START : Fld := ⟨R.SWC_EVT, 8, 8⟩
/-- PLY_STRAY bits 7:7 of SWC_EVT. -/
def F.SWC_EVT_PLY_STRAY : Fld := ⟨R.SWC_EVT, 7, 7⟩
/-- PLY_SAT bits 6:6 of SWC_EVT. -/
def F.SWC_EVT_PLY_SAT : Fld := ⟨R.SWC_EVT, 6, 6⟩
/-- PLY_LATE bits 5:5 of SWC_EVT. -/
def F.SWC_EVT_PLY_LATE : Fld := ⟨R.SWC_EVT, 5, 5⟩
/-- STOMP bits 4:4 of SWC_EVT. -/
def F.SWC_EVT_STOMP : Fld := ⟨R.SWC_EVT, 4, 4⟩
/-- MIRROR_DROP bits 3:3 of SWC_EVT. -/
def F.SWC_EVT_MIRROR_DROP : Fld := ⟨R.SWC_EVT, 3, 3⟩
/-- MC_RESIDUE bits 2:2 of SWC_EVT. -/
def F.SWC_EVT_MC_RESIDUE : Fld := ⟨R.SWC_EVT, 2, 2⟩
/-- VLAN_DROP bits 1:1 of SWC_EVT. -/
def F.SWC_EVT_VLAN_DROP : Fld := ⟨R.SWC_EVT, 1, 1⟩
/-- BUF_DROP bits 0:0 of SWC_EVT. -/
def F.SWC_EVT_BUF_DROP : Fld := ⟨R.SWC_EVT, 0, 0⟩

/-- SWC_EVT_EN, spec/04_switch_core.md. -/
def R.SWC_EVT_EN : Nat := 0x40004
/-- EN bits 16:0 of SWC_EVT_EN. -/
def F.SWC_EVT_EN_EN : Fld := ⟨R.SWC_EVT_EN, 16, 0⟩

/-- SWC_EVT_VEC, spec/04_switch_core.md. -/
def R.SWC_EVT_VEC : Nat := 0x40008
/-- MSIX bits 21:16 of SWC_EVT_VEC. -/
def F.SWC_EVT_VEC_MSIX : Fld := ⟨R.SWC_EVT_VEC, 21, 16⟩
/-- AIA_ID bits 9:0 of SWC_EVT_VEC. -/
def F.SWC_EVT_VEC_AIA_ID : Fld := ⟨R.SWC_EVT_VEC, 9, 0⟩

/-- SWC_CTL, spec/04_switch_core.md. -/
def R.SWC_CTL : Nat := 0x40010
/-- AGE_EN bits 2:2 of SWC_CTL. -/
def F.SWC_CTL_AGE_EN : Fld := ⟨R.SWC_CTL, 2, 2⟩
/-- LEARN_EN bits 1:1 of SWC_CTL. -/
def F.SWC_CTL_LEARN_EN : Fld := ⟨R.SWC_CTL, 1, 1⟩
/-- FWD_EN bits 0:0 of SWC_CTL. -/
def F.SWC_CTL_FWD_EN : Fld := ⟨R.SWC_CTL, 0, 0⟩

/-- SWC_AGE, spec/04_switch_core.md. -/
def R.SWC_AGE : Nat := 0x40014
/-- AGE_S bits 15:0 of SWC_AGE. -/
def F.SWC_AGE_AGE_S : Fld := ⟨R.SWC_AGE, 15, 0⟩

/-- SWC_MC_TMO, spec/04_switch_core.md. -/
def R.SWC_MC_TMO : Nat := 0x40018
/-- TMO_US bits 16:0 of SWC_MC_TMO. -/
def F.SWC_MC_TMO_TMO_US : Fld := ⟨R.SWC_MC_TMO, 16, 0⟩

/-- SWC_PCP_MAP, spec/04_switch_core.md. -/
def R.SWC_PCP_MAP : Nat := 0x4001C
/-- MAP bits 23:0 of SWC_PCP_MAP. -/
def F.SWC_PCP_MAP_MAP : Fld := ⟨R.SWC_PCP_MAP, 23, 0⟩

/-- SWC_TRAP, spec/04_switch_core.md. -/
def R.SWC_TRAP : Nat := 0x40020
/-- MASK bits 31:16 of SWC_TRAP. -/
def F.SWC_TRAP_MASK : Fld := ⟨R.SWC_TRAP, 31, 16⟩
/-- DEST bits 0:0 of SWC_TRAP. -/
def F.SWC_TRAP_DEST : Fld := ⟨R.SWC_TRAP, 0, 0⟩

/-- SWC_HRX_MAP_LO, spec/04_switch_core.md. -/
def R.SWC_HRX_MAP_LO : Nat := 0x40024
/-- ROUND bits 31:0 of SWC_HRX_MAP_LO. -/
def F.SWC_HRX_MAP_LO_ROUND : Fld := ⟨R.SWC_HRX_MAP_LO, 31, 0⟩

/-- SWC_HRX_MAP_HI, spec/04_switch_core.md. -/
def R.SWC_HRX_MAP_HI : Nat := 0x40028
/-- ROUND bits 31:0 of SWC_HRX_MAP_HI. -/
def F.SWC_HRX_MAP_HI_ROUND : Fld := ⟨R.SWC_HRX_MAP_HI, 31, 0⟩

/-- SWC_CRX_MAP_LO, spec/04_switch_core.md. -/
def R.SWC_CRX_MAP_LO : Nat := 0x4002C
/-- ROUND bits 31:0 of SWC_CRX_MAP_LO. -/
def F.SWC_CRX_MAP_LO_ROUND : Fld := ⟨R.SWC_CRX_MAP_LO, 31, 0⟩

/-- SWC_CRX_MAP_HI, spec/04_switch_core.md. -/
def R.SWC_CRX_MAP_HI : Nat := 0x40030
/-- ROUND bits 31:0 of SWC_CRX_MAP_HI. -/
def F.SWC_CRX_MAP_HI_ROUND : Fld := ⟨R.SWC_CRX_MAP_HI, 31, 0⟩

/-- SWC_SCHED_CTL, spec/04_switch_core.md. -/
def R.SWC_SCHED_CTL : Nat := 0x40040
/-- ITER bits 2:0 of SWC_SCHED_CTL. -/
def F.SWC_SCHED_CTL_ITER : Fld := ⟨R.SWC_SCHED_CTL, 2, 0⟩

/-- SWC_SCHED_RATE, spec/04_switch_core.md. -/
def R.SWC_SCHED_RATE : Nat := 0x40044
/-- KMATCH bits 15:0 of SWC_SCHED_RATE. -/
def F.SWC_SCHED_RATE_KMATCH : Fld := ⟨R.SWC_SCHED_RATE, 15, 0⟩

/-- SWC_PCFGn, spec/04_switch_core.md. -/
def R.SWC_PCFG (n : Nat) : Nat := 0x40100 + 0x4 * n
/-- LINK_HOLD bits 31:22 of SWC_PCFGn. -/
def F.SWC_PCFG_LINK_HOLD (n : Nat) : Fld := ⟨R.SWC_PCFG n, 31, 22⟩
/-- STP bits 21:20 of SWC_PCFGn. -/
def F.SWC_PCFG_STP (n : Nat) : Fld := ⟨R.SWC_PCFG n, 21, 20⟩
/-- LEARN bits 19:19 of SWC_PCFGn. -/
def F.SWC_PCFG_LEARN (n : Nat) : Fld := ⟨R.SWC_PCFG n, 19, 19⟩
/-- CUT bits 18:18 of SWC_PCFGn. -/
def F.SWC_PCFG_CUT (n : Nat) : Fld := ⟨R.SWC_PCFG n, 18, 18⟩
/-- INGRESS_FILTER bits 17:17 of SWC_PCFGn. -/
def F.SWC_PCFG_INGRESS_FILTER (n : Nat) : Fld := ⟨R.SWC_PCFG n, 17, 17⟩
/-- DEF_PCP bits 16:14 of SWC_PCFGn. -/
def F.SWC_PCFG_DEF_PCP (n : Nat) : Fld := ⟨R.SWC_PCFG n, 16, 14⟩
/-- PVID bits 11:0 of SWC_PCFGn. -/
def F.SWC_PCFG_PVID (n : Nat) : Fld := ⟨R.SWC_PCFG n, 11, 0⟩

/-- SWC_PSTATn, spec/04_switch_core.md. -/
def R.SWC_PSTAT (n : Nat) : Nat := 0x40180 + 0x4 * n
/-- STATE bits 31:30 of SWC_PSTATn. -/
def F.SWC_PSTAT_STATE (n : Nat) : Fld := ⟨R.SWC_PSTAT n, 31, 30⟩
/-- HOLD_LEFT bits 9:0 of SWC_PSTATn. -/
def F.SWC_PSTAT_HOLD_LEFT (n : Nat) : Fld := ⟨R.SWC_PSTAT n, 9, 0⟩

/-- SWC_BUF_SEL, spec/04_switch_core.md. -/
def R.SWC_BUF_SEL : Nat := 0x40200
/-- PORT bits 7:3 of SWC_BUF_SEL. -/
def F.SWC_BUF_SEL_PORT : Fld := ⟨R.SWC_BUF_SEL, 7, 3⟩
/-- CLASS bits 2:0 of SWC_BUF_SEL. -/
def F.SWC_BUF_SEL_CLASS : Fld := ⟨R.SWC_BUF_SEL, 2, 0⟩

/-- SWC_BUF_CARVE, spec/04_switch_core.md. -/
def R.SWC_BUF_CARVE : Nat := 0x40204
/-- ALPHA bits 31:28 of SWC_BUF_CARVE. -/
def F.SWC_BUF_CARVE_ALPHA : Fld := ⟨R.SWC_BUF_CARVE, 31, 28⟩
/-- MIN bits 15:0 of SWC_BUF_CARVE. -/
def F.SWC_BUF_CARVE_MIN : Fld := ⟨R.SWC_BUF_CARVE, 15, 0⟩

/-- SWC_BUF_USE, spec/04_switch_core.md. -/
def R.SWC_BUF_USE : Nat := 0x40208
/-- USED bits 16:0 of SWC_BUF_USE. -/
def F.SWC_BUF_USE_USED : Fld := ⟨R.SWC_BUF_USE, 16, 0⟩

/-- SWC_POOL_SIZE, spec/04_switch_core.md. -/
def R.SWC_POOL_SIZE : Nat := 0x40210
/-- CELLS bits 16:0 of SWC_POOL_SIZE. -/
def F.SWC_POOL_SIZE_CELLS : Fld := ⟨R.SWC_POOL_SIZE, 16, 0⟩

/-- SWC_POOL_FREE, spec/04_switch_core.md. -/
def R.SWC_POOL_FREE : Nat := 0x40214
/-- CELLS bits 16:0 of SWC_POOL_FREE. -/
def F.SWC_POOL_FREE_CELLS : Fld := ⟨R.SWC_POOL_FREE, 16, 0⟩

/-- SWC_POOL_RSV, spec/04_switch_core.md. -/
def R.SWC_POOL_RSV : Nat := 0x40218
/-- MIR_CAP bits 31:16 of SWC_POOL_RSV. -/
def F.SWC_POOL_RSV_MIR_CAP : Fld := ⟨R.SWC_POOL_RSV, 31, 16⟩
/-- PLY_RSV bits 15:0 of SWC_POOL_RSV. -/
def F.SWC_POOL_RSV_PLY_RSV : Fld := ⟨R.SWC_POOL_RSV, 15, 0⟩

/-- SWC_CARVE_GEN, spec/04_switch_core.md. -/
def R.SWC_CARVE_GEN : Nat := 0x4021C
/-- GEN bits 31:0 of SWC_CARVE_GEN. -/
def F.SWC_CARVE_GEN_GEN : Fld := ⟨R.SWC_CARVE_GEN, 31, 0⟩

/-- SWC_MIRm_CTL, spec/04_switch_core.md. -/
def R.SWC_MIR_CTL (m : Nat) : Nat := 0x40300 + 0x10 * m
/-- EN bits 31:31 of SWC_MIRm_CTL. -/
def F.SWC_MIR_CTL_EN (m : Nat) : Fld := ⟨R.SWC_MIR_CTL m, 31, 31⟩
/-- DIR bits 30:29 of SWC_MIRm_CTL. -/
def F.SWC_MIR_CTL_DIR (m : Nat) : Fld := ⟨R.SWC_MIR_CTL m, 30, 29⟩
/-- FLOW bits 28:28 of SWC_MIRm_CTL. -/
def F.SWC_MIR_CTL_FLOW (m : Nat) : Fld := ⟨R.SWC_MIR_CTL m, 28, 28⟩
/-- STREAM bits 27:18 of SWC_MIRm_CTL. -/
def F.SWC_MIR_CTL_STREAM (m : Nat) : Fld := ⟨R.SWC_MIR_CTL m, 27, 18⟩
/-- DEST bits 4:0 of SWC_MIRm_CTL. -/
def F.SWC_MIR_CTL_DEST (m : Nat) : Fld := ⟨R.SWC_MIR_CTL m, 4, 0⟩

/-- SWC_MIRm_SRC, spec/04_switch_core.md. -/
def R.SWC_MIR_SRC (m : Nat) : Nat := 0x40304 + 0x10 * m
/-- PORTS bits 23:0 of SWC_MIRm_SRC. -/
def F.SWC_MIR_SRC_PORTS (m : Nat) : Fld := ⟨R.SWC_MIR_SRC m, 23, 0⟩

/-- SWC_PLY_SEL, spec/04_switch_core.md. -/
def R.SWC_PLY_SEL : Nat := 0x40400
/-- SHADOW bits 8:8 of SWC_PLY_SEL. -/
def F.SWC_PLY_SEL_SHADOW : Fld := ⟨R.SWC_PLY_SEL, 8, 8⟩
/-- GROUP bits 7:0 of SWC_PLY_SEL. -/
def F.SWC_PLY_SEL_GROUP : Fld := ⟨R.SWC_PLY_SEL, 7, 0⟩

/-- SWC_PLY_CFG, spec/04_switch_core.md. -/
def R.SWC_PLY_CFG : Nat := 0x40404
/-- EN bits 31:31 of SWC_PLY_CFG. -/
def F.SWC_PLY_CFG_EN : Fld := ⟨R.SWC_PLY_CFG, 31, 31⟩
/-- WINDOW bits 25:16 of SWC_PLY_CFG. -/
def F.SWC_PLY_CFG_WINDOW : Fld := ⟨R.SWC_PLY_CFG, 25, 16⟩
/-- CLASS bits 2:0 of SWC_PLY_CFG. -/
def F.SWC_PLY_CFG_CLASS : Fld := ⟨R.SWC_PLY_CFG, 2, 0⟩

/-- SWC_PLY_DEST, spec/04_switch_core.md. -/
def R.SWC_PLY_DEST : Nat := 0x40408
/-- PORTS bits 23:0 of SWC_PLY_DEST. -/
def F.SWC_PLY_DEST_PORTS : Fld := ⟨R.SWC_PLY_DEST, 23, 0⟩

/-- SWC_PLY_MASK_LO, spec/04_switch_core.md. -/
def R.SWC_PLY_MASK_LO : Nat := 0x4040C
/-- MASK bits 31:0 of SWC_PLY_MASK_LO. -/
def F.SWC_PLY_MASK_LO_MASK : Fld := ⟨R.SWC_PLY_MASK_LO, 31, 0⟩

/-- SWC_PLY_MASK_HI, spec/04_switch_core.md. -/
def R.SWC_PLY_MASK_HI : Nat := 0x40410
/-- MASK bits 31:0 of SWC_PLY_MASK_HI. -/
def F.SWC_PLY_MASK_HI_MASK : Fld := ⟨R.SWC_PLY_MASK_HI, 31, 0⟩

/-- SWC_PLY_STAT, spec/04_switch_core.md. -/
def R.SWC_PLY_STAT : Nat := 0x40414
/-- OPEN bits 31:31 of SWC_PLY_STAT. -/
def F.SWC_PLY_STAT_OPEN : Fld := ⟨R.SWC_PLY_STAT, 31, 31⟩
/-- ARRIVED bits 30:24 of SWC_PLY_STAT. -/
def F.SWC_PLY_STAT_ARRIVED : Fld := ⟨R.SWC_PLY_STAT, 30, 24⟩

/-- SWC_PLY_TIME, spec/04_switch_core.md. -/
def R.SWC_PLY_TIME : Nat := 0x40418
/-- BLOCK_TIME bits 31:0 of SWC_PLY_TIME. -/
def F.SWC_PLY_TIME_BLOCK_TIME : Fld := ⟨R.SWC_PLY_TIME, 31, 0⟩

/-- SWC_PLY_LATE_INFO, spec/04_switch_core.md. -/
def R.SWC_PLY_LATE_INFO : Nat := 0x4041C
/-- DUP bits 14:14 of SWC_PLY_LATE_INFO. -/
def F.SWC_PLY_LATE_INFO_DUP : Fld := ⟨R.SWC_PLY_LATE_INFO, 14, 14⟩
/-- INDEX bits 13:8 of SWC_PLY_LATE_INFO. -/
def F.SWC_PLY_LATE_INFO_INDEX : Fld := ⟨R.SWC_PLY_LATE_INFO, 13, 8⟩
/-- GROUP bits 7:0 of SWC_PLY_LATE_INFO. -/
def F.SWC_PLY_LATE_INFO_GROUP : Fld := ⟨R.SWC_PLY_LATE_INFO, 7, 0⟩

/-- SWC_PLY_STRAY_INFO, spec/04_switch_core.md. -/
def R.SWC_PLY_STRAY_INFO : Nat := 0x40420
/-- DUP bits 14:14 of SWC_PLY_STRAY_INFO. -/
def F.SWC_PLY_STRAY_INFO_DUP : Fld := ⟨R.SWC_PLY_STRAY_INFO, 14, 14⟩
/-- INDEX bits 13:8 of SWC_PLY_STRAY_INFO. -/
def F.SWC_PLY_STRAY_INFO_INDEX : Fld := ⟨R.SWC_PLY_STRAY_INFO, 13, 8⟩
/-- GROUP bits 7:0 of SWC_PLY_STRAY_INFO. -/
def F.SWC_PLY_STRAY_INFO_GROUP : Fld := ⟨R.SWC_PLY_STRAY_INFO, 7, 0⟩

/-- SWC_CB_SEL, spec/04_switch_core.md. -/
def R.SWC_CB_SEL : Nat := 0x40500
/-- STREAM bits 9:0 of SWC_CB_SEL. -/
def F.SWC_CB_SEL_STREAM : Fld := ⟨R.SWC_CB_SEL, 9, 0⟩

/-- SWC_CB_STAT, spec/04_switch_core.md. -/
def R.SWC_CB_STAT : Nat := 0x40504
/-- NEXT_SEQ bits 31:16 of SWC_CB_STAT. -/
def F.SWC_CB_STAT_NEXT_SEQ : Fld := ⟨R.SWC_CB_STAT, 31, 16⟩
/-- HELD bits 15:10 of SWC_CB_STAT. -/
def F.SWC_CB_STAT_HELD : Fld := ⟨R.SWC_CB_STAT, 15, 10⟩
/-- ROLE bits 1:0 of SWC_CB_STAT. -/
def F.SWC_CB_STAT_ROLE : Fld := ⟨R.SWC_CB_STAT, 1, 0⟩

/-- SWC_CB_GEN, spec/04_switch_core.md. -/
def R.SWC_CB_GEN : Nat := 0x40508
/-- SEQ bits 15:0 of SWC_CB_GEN. -/
def F.SWC_CB_GEN_SEQ : Fld := ⟨R.SWC_CB_GEN, 15, 0⟩

/-- SWC_CB_LAST_INFO, spec/04_switch_core.md. -/
def R.SWC_CB_LAST_INFO : Nat := 0x4050C
/-- KIND bits 11:10 of SWC_CB_LAST_INFO. -/
def F.SWC_CB_LAST_INFO_KIND : Fld := ⟨R.SWC_CB_LAST_INFO, 11, 10⟩
/-- STREAM bits 9:0 of SWC_CB_LAST_INFO. -/
def F.SWC_CB_LAST_INFO_STREAM : Fld := ⟨R.SWC_CB_LAST_INFO, 9, 0⟩

/-! Registers of spec/05_ports_and_gates.md. -/

/-- PRT_EVT, spec/05_ports_and_gates.md. -/
def R.PRT_EVT (n : Nat) : Nat := 0x50000 + 0x800 * n
/-- LIMIT_DROP bits 13:13 of PRT_EVT. -/
def F.PRT_EVT_LIMIT_DROP (n : Nat) : Fld := ⟨R.PRT_EVT n, 13, 13⟩
/-- QCI_DROP bits 12:12 of PRT_EVT. -/
def F.PRT_EVT_QCI_DROP (n : Nat) : Fld := ⟨R.PRT_EVT n, 12, 12⟩
/-- MAGIC bits 11:11 of PRT_EVT. -/
def F.PRT_EVT_MAGIC (n : Nat) : Fld := ⟨R.PRT_EVT n, 11, 11⟩
/-- WAKE_MATCH bits 10:10 of PRT_EVT. -/
def F.PRT_EVT_WAKE_MATCH (n : Nat) : Fld := ⟨R.PRT_EVT n, 10, 10⟩
/-- GATE_STEP bits 9:9 of PRT_EVT. -/
def F.PRT_EVT_GATE_STEP (n : Nat) : Fld := ⟨R.PRT_EVT n, 9, 9⟩
/-- NEVER_FITS bits 8:8 of PRT_EVT. -/
def F.PRT_EVT_NEVER_FITS (n : Nat) : Fld := ⟨R.PRT_EVT n, 8, 8⟩
/-- GATE_SWITCH bits 7:7 of PRT_EVT. -/
def F.PRT_EVT_GATE_SWITCH (n : Nat) : Fld := ⟨R.PRT_EVT n, 7, 7⟩
/-- VERIFY_FAIL bits 6:6 of PRT_EVT. -/
def F.PRT_EVT_VERIFY_FAIL (n : Nat) : Fld := ⟨R.PRT_EVT n, 6, 6⟩
/-- VERIFY_OK bits 5:5 of PRT_EVT. -/
def F.PRT_EVT_VERIFY_OK (n : Nat) : Fld := ⟨R.PRT_EVT n, 5, 5⟩
/-- XOFF_SENT bits 4:4 of PRT_EVT. -/
def F.PRT_EVT_XOFF_SENT (n : Nat) : Fld := ⟨R.PRT_EVT n, 4, 4⟩
/-- PAUSED bits 3:3 of PRT_EVT. -/
def F.PRT_EVT_PAUSED (n : Nat) : Fld := ⟨R.PRT_EVT n, 3, 3⟩
/-- MODE_ERR bits 2:2 of PRT_EVT. -/
def F.PRT_EVT_MODE_ERR (n : Nat) : Fld := ⟨R.PRT_EVT n, 2, 2⟩
/-- LINK_DOWN bits 1:1 of PRT_EVT. -/
def F.PRT_EVT_LINK_DOWN (n : Nat) : Fld := ⟨R.PRT_EVT n, 1, 1⟩
/-- LINK_UP bits 0:0 of PRT_EVT. -/
def F.PRT_EVT_LINK_UP (n : Nat) : Fld := ⟨R.PRT_EVT n, 0, 0⟩

/-- PRT_EVT_EN, spec/05_ports_and_gates.md. -/
def R.PRT_EVT_EN (n : Nat) : Nat := 0x50004 + 0x800 * n
/-- EN bits 13:0 of PRT_EVT_EN. -/
def F.PRT_EVT_EN_EN (n : Nat) : Fld := ⟨R.PRT_EVT_EN n, 13, 0⟩

/-- PRT_EVT_VEC, spec/05_ports_and_gates.md. -/
def R.PRT_EVT_VEC (n : Nat) : Nat := 0x50008 + 0x800 * n
/-- MSIX bits 21:16 of PRT_EVT_VEC. -/
def F.PRT_EVT_VEC_MSIX (n : Nat) : Fld := ⟨R.PRT_EVT_VEC n, 21, 16⟩
/-- AIA_ID bits 9:0 of PRT_EVT_VEC. -/
def F.PRT_EVT_VEC_AIA_ID (n : Nat) : Fld := ⟨R.PRT_EVT_VEC n, 9, 0⟩

/-- PRT_MODE, spec/05_ports_and_gates.md. -/
def R.PRT_MODE (n : Nat) : Nat := 0x50010 + 0x800 * n
/-- EN bits 31:31 of PRT_MODE. -/
def F.PRT_MODE_EN (n : Nat) : Fld := ⟨R.PRT_MODE n, 31, 31⟩
/-- ANEG_EN bits 30:30 of PRT_MODE. -/
def F.PRT_MODE_ANEG_EN (n : Nat) : Fld := ⟨R.PRT_MODE n, 30, 30⟩
/-- MODE bits 29:28 of PRT_MODE. -/
def F.PRT_MODE_MODE (n : Nat) : Fld := ⟨R.PRT_MODE n, 29, 28⟩
/-- ADV_SYM bits 27:27 of PRT_MODE. -/
def F.PRT_MODE_ADV_SYM (n : Nat) : Fld := ⟨R.PRT_MODE n, 27, 27⟩
/-- ADV_ASYM bits 26:26 of PRT_MODE. -/
def F.PRT_MODE_ADV_ASYM (n : Nat) : Fld := ⟨R.PRT_MODE n, 26, 26⟩
/-- MAX_LEN bits 13:0 of PRT_MODE. -/
def F.PRT_MODE_MAX_LEN (n : Nat) : Fld := ⟨R.PRT_MODE n, 13, 0⟩

/-- PRT_STAT, spec/05_ports_and_gates.md. -/
def R.PRT_STAT (n : Nat) : Nat := 0x50014 + 0x800 * n
/-- LINK bits 31:30 of PRT_STAT. -/
def F.PRT_STAT_LINK (n : Nat) : Fld := ⟨R.PRT_STAT n, 31, 30⟩
/-- VERIFY bits 29:28 of PRT_STAT. -/
def F.PRT_STAT_VERIFY (n : Nat) : Fld := ⟨R.PRT_STAT n, 29, 28⟩
/-- PAUSED bits 27:27 of PRT_STAT. -/
def F.PRT_STAT_PAUSED (n : Nat) : Fld := ⟨R.PRT_STAT n, 27, 27⟩
/-- PFC_PAUSED bits 23:16 of PRT_STAT. -/
def F.PRT_STAT_PFC_PAUSED (n : Nat) : Fld := ⟨R.PRT_STAT n, 23, 16⟩
/-- XOFF bits 15:8 of PRT_STAT. -/
def F.PRT_STAT_XOFF (n : Nat) : Fld := ⟨R.PRT_STAT n, 15, 8⟩
/-- XOFF_ALL bits 7:7 of PRT_STAT. -/
def F.PRT_STAT_XOFF_ALL (n : Nat) : Fld := ⟨R.PRT_STAT n, 7, 7⟩

/-- PRT_MAC_LO, spec/05_ports_and_gates.md. -/
def R.PRT_MAC_LO (n : Nat) : Nat := 0x50018 + 0x800 * n
/-- ADDR bits 31:0 of PRT_MAC_LO. -/
def F.PRT_MAC_LO_ADDR (n : Nat) : Fld := ⟨R.PRT_MAC_LO n, 31, 0⟩

/-- PRT_MAC_HI, spec/05_ports_and_gates.md. -/
def R.PRT_MAC_HI (n : Nat) : Nat := 0x5001C + 0x800 * n
/-- ADDR bits 15:0 of PRT_MAC_HI. -/
def F.PRT_MAC_HI_ADDR (n : Nat) : Fld := ⟨R.PRT_MAC_HI n, 15, 0⟩

/-- PRT_FC_CTL, spec/05_ports_and_gates.md. -/
def R.PRT_FC_CTL (n : Nat) : Nat := 0x50020 + 0x800 * n
/-- RX_PAUSE_EN bits 31:31 of PRT_FC_CTL. -/
def F.PRT_FC_CTL_RX_PAUSE_EN (n : Nat) : Fld := ⟨R.PRT_FC_CTL n, 31, 31⟩
/-- RX_PFC_EN bits 30:30 of PRT_FC_CTL. -/
def F.PRT_FC_CTL_RX_PFC_EN (n : Nat) : Fld := ⟨R.PRT_FC_CTL n, 30, 30⟩
/-- TX_PAUSE_EN bits 29:29 of PRT_FC_CTL. -/
def F.PRT_FC_CTL_TX_PAUSE_EN (n : Nat) : Fld := ⟨R.PRT_FC_CTL n, 29, 29⟩
/-- TX_PFC_EN bits 28:28 of PRT_FC_CTL. -/
def F.PRT_FC_CTL_TX_PFC_EN (n : Nat) : Fld := ⟨R.PRT_FC_CTL n, 28, 28⟩
/-- PFC_CLASSES bits 23:16 of PRT_FC_CTL. -/
def F.PRT_FC_CTL_PFC_CLASSES (n : Nat) : Fld := ⟨R.PRT_FC_CTL n, 23, 16⟩
/-- PAUSE_TIME bits 15:0 of PRT_FC_CTL. -/
def F.PRT_FC_CTL_PAUSE_TIME (n : Nat) : Fld := ⟨R.PRT_FC_CTL n, 15, 0⟩

/-- PRT_FC_THRESH, spec/05_ports_and_gates.md. -/
def R.PRT_FC_THRESH (n : Nat) : Nat := 0x50024 + 0x800 * n
/-- XOFF bits 31:16 of PRT_FC_THRESH. -/
def F.PRT_FC_THRESH_XOFF (n : Nat) : Fld := ⟨R.PRT_FC_THRESH n, 31, 16⟩
/-- XON bits 15:0 of PRT_FC_THRESH. -/
def F.PRT_FC_THRESH_XON (n : Nat) : Fld := ⟨R.PRT_FC_THRESH n, 15, 0⟩

/-- PRT_PREEMPT, spec/05_ports_and_gates.md. -/
def R.PRT_PREEMPT (n : Nat) : Nat := 0x50028 + 0x800 * n
/-- EN bits 31:31 of PRT_PREEMPT. -/
def F.PRT_PREEMPT_EN (n : Nat) : Fld := ⟨R.PRT_PREEMPT n, 31, 31⟩
/-- VERIFY_DIS bits 30:30 of PRT_PREEMPT. -/
def F.PRT_PREEMPT_VERIFY_DIS (n : Nat) : Fld := ⟨R.PRT_PREEMPT n, 30, 30⟩
/-- ADD_FRAG bits 29:28 of PRT_PREEMPT. -/
def F.PRT_PREEMPT_ADD_FRAG (n : Nat) : Fld := ⟨R.PRT_PREEMPT n, 29, 28⟩
/-- VERIFY_MS bits 23:16 of PRT_PREEMPT. -/
def F.PRT_PREEMPT_VERIFY_MS (n : Nat) : Fld := ⟨R.PRT_PREEMPT n, 23, 16⟩
/-- EXPRESS bits 15:8 of PRT_PREEMPT. -/
def F.PRT_PREEMPT_EXPRESS (n : Nat) : Fld := ⟨R.PRT_PREEMPT n, 15, 8⟩

/-- PRT_GATE_CTL, spec/05_ports_and_gates.md. -/
def R.PRT_GATE_CTL (n : Nat) : Nat := 0x5002C + 0x800 * n
/-- GATE_EN bits 31:31 of PRT_GATE_CTL. -/
def F.PRT_GATE_CTL_GATE_EN (n : Nat) : Fld := ⟨R.PRT_GATE_CTL n, 31, 31⟩

/-- PRT_GATE_STAT, spec/05_ports_and_gates.md. -/
def R.PRT_GATE_STAT (n : Nat) : Nat := 0x50030 + 0x800 * n
/-- PENDING bits 31:31 of PRT_GATE_STAT. -/
def F.PRT_GATE_STAT_PENDING (n : Nat) : Fld := ⟨R.PRT_GATE_STAT n, 31, 31⟩
/-- ENTRY bits 15:8 of PRT_GATE_STAT. -/
def F.PRT_GATE_STAT_ENTRY (n : Nat) : Fld := ⟨R.PRT_GATE_STAT n, 15, 8⟩
/-- STATES bits 7:0 of PRT_GATE_STAT. -/
def F.PRT_GATE_STAT_STATES (n : Nat) : Fld := ⟨R.PRT_GATE_STAT n, 7, 0⟩

/-- PRT_GATE_CYC, spec/05_ports_and_gates.md. -/
def R.PRT_GATE_CYC (n : Nat) : Nat := 0x50034 + 0x800 * n
/-- TIME bits 31:0 of PRT_GATE_CYC. -/
def F.PRT_GATE_CYC_TIME (n : Nat) : Fld := ⟨R.PRT_GATE_CYC n, 31, 0⟩

/-- PRT_GATE_PBASE, spec/05_ports_and_gates.md. -/
def R.PRT_GATE_PBASE (n : Nat) : Nat := 0x50038 + 0x800 * n
/-- TIME bits 31:0 of PRT_GATE_PBASE. -/
def F.PRT_GATE_PBASE_TIME (n : Nat) : Fld := ⟨R.PRT_GATE_PBASE n, 31, 0⟩

/-- PRT_CBSc, spec/05_ports_and_gates.md. -/
def R.PRT_CBS (n : Nat) (c : Nat) : Nat := 0x50040 + 0x800 * n + 0x4 * c
/-- EN bits 31:31 of PRT_CBSc. -/
def F.PRT_CBS_EN (n : Nat) (c : Nat) : Fld := ⟨R.PRT_CBS n c, 31, 31⟩
/-- IDLE_SLOPE bits 23:0 of PRT_CBSc. -/
def F.PRT_CBS_IDLE_SLOPE (n : Nat) (c : Nat) : Fld := ⟨R.PRT_CBS n c, 23, 0⟩

/-- PRT_ILIMk_RATE, spec/05_ports_and_gates.md. -/
def R.PRT_ILIM_RATE (n : Nat) (k : Nat) : Nat := 0x50060 + 0x800 * n + 0x8 * k
/-- EN bits 31:31 of PRT_ILIMk_RATE. -/
def F.PRT_ILIM_RATE_EN (n : Nat) (k : Nat) : Fld := ⟨R.PRT_ILIM_RATE n k, 31, 31⟩
/-- RATE bits 23:0 of PRT_ILIMk_RATE. -/
def F.PRT_ILIM_RATE_RATE (n : Nat) (k : Nat) : Fld := ⟨R.PRT_ILIM_RATE n k, 23, 0⟩

/-- PRT_ILIMk_BURST, spec/05_ports_and_gates.md. -/
def R.PRT_ILIM_BURST (n : Nat) (k : Nat) : Nat := 0x50064 + 0x800 * n + 0x8 * k
/-- BURST bits 23:0 of PRT_ILIMk_BURST. -/
def F.PRT_ILIM_BURST_BURST (n : Nat) (k : Nat) : Fld := ⟨R.PRT_ILIM_BURST n k, 23, 0⟩

/-- PRT_WPp_CTL, spec/05_ports_and_gates.md. -/
def R.PRT_WP_CTL (n : Nat) (p : Nat) : Nat := 0x50100 + 0x800 * n + 0x20 * p
/-- EN bits 31:31 of PRT_WPp_CTL. -/
def F.PRT_WP_CTL_EN (n : Nat) (p : Nat) : Fld := ⟨R.PRT_WP_CTL n p, 31, 31⟩
/-- OFFSET bits 25:16 of PRT_WPp_CTL. -/
def F.PRT_WP_CTL_OFFSET (n : Nat) (p : Nat) : Fld := ⟨R.PRT_WP_CTL n p, 25, 16⟩
/-- CRC bits 15:0 of PRT_WPp_CTL. -/
def F.PRT_WP_CTL_CRC (n : Nat) (p : Nat) : Fld := ⟨R.PRT_WP_CTL n p, 15, 0⟩

/-- PRT_WPp_MASKi, spec/05_ports_and_gates.md. -/
def R.PRT_WP_MASK (n : Nat) (p : Nat) (i : Nat) : Nat := 0x50104 + 0x800 * n + 0x20 * p + 0x4 * i
/-- MASK bits 31:0 of PRT_WPp_MASKi. -/
def F.PRT_WP_MASK_MASK (n : Nat) (p : Nat) (i : Nat) : Fld := ⟨R.PRT_WP_MASK n p i, 31, 0⟩

/-- PRT_WAKE_CTL, spec/05_ports_and_gates.md. -/
def R.PRT_WAKE_CTL (n : Nat) : Nat := 0x50200 + 0x800 * n
/-- MAGIC_EN bits 31:31 of PRT_WAKE_CTL. -/
def F.PRT_WAKE_CTL_MAGIC_EN (n : Nat) : Fld := ⟨R.PRT_WAKE_CTL n, 31, 31⟩

/-! Registers of spec/06_time_base.md. -/

/-- TIM_EVT, spec/06_time_base.md. -/
def R.TIM_EVT : Nat := 0x60000
/-- XTAL_LOST bits 12:12 of TIM_EVT. -/
def F.TIM_EVT_XTAL_LOST : Fld := ⟨R.TIM_EVT, 12, 12⟩
/-- TS_LOST bits 11:11 of TIM_EVT. -/
def F.TIM_EVT_TS_LOST : Fld := ⟨R.TIM_EVT, 11, 11⟩
/-- TXTS bits 10:10 of TIM_EVT. -/
def F.TIM_EVT_TXTS : Fld := ⟨R.TIM_EVT, 10, 10⟩
/-- MEDIA_UNLOCK bits 9:9 of TIM_EVT. -/
def F.TIM_EVT_MEDIA_UNLOCK : Fld := ⟨R.TIM_EVT, 9, 9⟩
/-- MEDIA_LOCK bits 8:8 of TIM_EVT. -/
def F.TIM_EVT_MEDIA_LOCK : Fld := ⟨R.TIM_EVT, 8, 8⟩
/-- PPS_OVR bits 7:7 of TIM_EVT. -/
def F.TIM_EVT_PPS_OVR : Fld := ⟨R.TIM_EVT, 7, 7⟩
/-- PPS bits 6:6 of TIM_EVT. -/
def F.TIM_EVT_PPS : Fld := ⟨R.TIM_EVT, 6, 6⟩
/-- TRG_DROP bits 5:5 of TIM_EVT. -/
def F.TIM_EVT_TRG_DROP : Fld := ⟨R.TIM_EVT, 5, 5⟩
/-- TRG_LATE bits 4:4 of TIM_EVT. -/
def F.TIM_EVT_TRG_LATE : Fld := ⟨R.TIM_EVT, 4, 4⟩
/-- STEP_BAD bits 3:3 of TIM_EVT. -/
def F.TIM_EVT_STEP_BAD : Fld := ⟨R.TIM_EVT, 3, 3⟩
/-- STEPPED bits 2:2 of TIM_EVT. -/
def F.TIM_EVT_STEPPED : Fld := ⟨R.TIM_EVT, 2, 2⟩
/-- UNWRAP bits 1:1 of TIM_EVT. -/
def F.TIM_EVT_UNWRAP : Fld := ⟨R.TIM_EVT, 1, 1⟩
/-- WRAP bits 0:0 of TIM_EVT. -/
def F.TIM_EVT_WRAP : Fld := ⟨R.TIM_EVT, 0, 0⟩

/-- TIM_EVT_EN, spec/06_time_base.md. -/
def R.TIM_EVT_EN : Nat := 0x60004
/-- EN bits 12:0 of TIM_EVT_EN. -/
def F.TIM_EVT_EN_EN : Fld := ⟨R.TIM_EVT_EN, 12, 0⟩

/-- TIM_EVT_VEC, spec/06_time_base.md. -/
def R.TIM_EVT_VEC : Nat := 0x60008
/-- MSIX bits 21:16 of TIM_EVT_VEC. -/
def F.TIM_EVT_VEC_MSIX : Fld := ⟨R.TIM_EVT_VEC, 21, 16⟩
/-- AIA_ID bits 9:0 of TIM_EVT_VEC. -/
def F.TIM_EVT_VEC_AIA_ID : Fld := ⟨R.TIM_EVT_VEC, 9, 0⟩

/-- TIM_NOW, spec/06_time_base.md. -/
def R.TIM_NOW : Nat := 0x60010
/-- NOW bits 31:0 of TIM_NOW. -/
def F.TIM_NOW_NOW : Fld := ⟨R.TIM_NOW, 31, 0⟩

/-- TIM_INC, spec/06_time_base.md. -/
def R.TIM_INC : Nat := 0x60014
/-- INT bits 31:24 of TIM_INC. -/
def F.TIM_INC_INT : Fld := ⟨R.TIM_INC, 31, 24⟩
/-- FRAC bits 23:0 of TIM_INC. -/
def F.TIM_INC_FRAC : Fld := ⟨R.TIM_INC, 23, 0⟩

/-- TIM_STEP, spec/06_time_base.md. -/
def R.TIM_STEP : Nat := 0x60018
/-- DELTA bits 31:0 of TIM_STEP. -/
def F.TIM_STEP_DELTA : Fld := ⟨R.TIM_STEP, 31, 0⟩

/-- TIM_STEP_LAST, spec/06_time_base.md. -/
def R.TIM_STEP_LAST : Nat := 0x6001C
/-- DELTA bits 31:0 of TIM_STEP_LAST. -/
def F.TIM_STEP_LAST_DELTA : Fld := ⟨R.TIM_STEP_LAST, 31, 0⟩

/-- TIM_STAT, spec/06_time_base.md. -/
def R.TIM_STAT : Nat := 0x60020
/-- DROPPED bits 19:16 of TIM_STAT. -/
def F.TIM_STAT_DROPPED : Fld := ⟨R.TIM_STAT, 19, 16⟩
/-- MEDIA_LOCKED bits 3:3 of TIM_STAT. -/
def F.TIM_STAT_MEDIA_LOCKED : Fld := ⟨R.TIM_STAT, 3, 3⟩
/-- XTAL_OK bits 2:2 of TIM_STAT. -/
def F.TIM_STAT_XTAL_OK : Fld := ⟨R.TIM_STAT, 2, 2⟩
/-- LOCKED bits 1:1 of TIM_STAT. -/
def F.TIM_STAT_LOCKED : Fld := ⟨R.TIM_STAT, 1, 1⟩
/-- STEP_BUSY bits 0:0 of TIM_STAT. -/
def F.TIM_STAT_STEP_BUSY : Fld := ⟨R.TIM_STAT, 0, 0⟩

/-- TIM_PPS_CTL, spec/06_time_base.md. -/
def R.TIM_PPS_CTL : Nat := 0x60024
/-- IN_EN bits 31:31 of TIM_PPS_CTL. -/
def F.TIM_PPS_CTL_IN_EN : Fld := ⟨R.TIM_PPS_CTL, 31, 31⟩
/-- IN_FALL bits 30:30 of TIM_PPS_CTL. -/
def F.TIM_PPS_CTL_IN_FALL : Fld := ⟨R.TIM_PPS_CTL, 30, 30⟩

/-- TIM_PPS_CAP, spec/06_time_base.md. -/
def R.TIM_PPS_CAP : Nat := 0x60028
/-- TIME bits 31:0 of TIM_PPS_CAP. -/
def F.TIM_PPS_CAP_TIME : Fld := ⟨R.TIM_PPS_CAP, 31, 0⟩

/-- TIM_MEDIA, spec/06_time_base.md. -/
def R.TIM_MEDIA : Nat := 0x6002C
/-- SLEW bits 9:0 of TIM_MEDIA. -/
def F.TIM_MEDIA_SLEW : Fld := ⟨R.TIM_MEDIA, 9, 0⟩

/-- TIM_PINk_CTL, spec/06_time_base.md. -/
def R.TIM_PIN_CTL (k : Nat) : Nat := 0x60030 + 0x4 * k
/-- EN bits 31:31 of TIM_PINk_CTL. -/
def F.TIM_PIN_CTL_EN (k : Nat) : Fld := ⟨R.TIM_PIN_CTL k, 31, 31⟩
/-- TOGGLE bits 30:30 of TIM_PINk_CTL. -/
def F.TIM_PIN_CTL_TOGGLE (k : Nat) : Fld := ⟨R.TIM_PIN_CTL k, 30, 30⟩
/-- TRG bits 23:20 of TIM_PINk_CTL. -/
def F.TIM_PIN_CTL_TRG (k : Nat) : Fld := ⟨R.TIM_PIN_CTL k, 23, 20⟩
/-- WIDTH bits 19:0 of TIM_PINk_CTL. -/
def F.TIM_PIN_CTL_WIDTH (k : Nat) : Fld := ⟨R.TIM_PIN_CTL k, 19, 0⟩

/-- TIM_PORTn_LAT, spec/06_time_base.md. -/
def R.TIM_PORT_LAT (n : Nat) : Nat := 0x60100 + 0x4 * n
/-- ING_LAT bits 31:16 of TIM_PORTn_LAT. -/
def F.TIM_PORT_LAT_ING_LAT (n : Nat) : Fld := ⟨R.TIM_PORT_LAT n, 31, 16⟩
/-- EGR_LAT bits 15:0 of TIM_PORTn_LAT. -/
def F.TIM_PORT_LAT_EGR_LAT (n : Nat) : Fld := ⟨R.TIM_PORT_LAT n, 15, 0⟩

/-- TIM_TXTSn_STAT, spec/06_time_base.md. -/
def R.TIM_TXTS_STAT (n : Nat) : Nat := 0x60200 + 0x4 * n
/-- FILL bits 6:0 of TIM_TXTSn_STAT. -/
def F.TIM_TXTS_STAT_FILL (n : Nat) : Fld := ⟨R.TIM_TXTS_STAT n, 6, 0⟩

/-- TIM_TRG_EVT, spec/06_time_base.md. -/
def R.TIM_TRG_EVT : Nat := 0x60300
/-- FIRE bits 15:0 of TIM_TRG_EVT. -/
def F.TIM_TRG_EVT_FIRE : Fld := ⟨R.TIM_TRG_EVT, 15, 0⟩

/-- TIM_TRG_EVT_EN, spec/06_time_base.md. -/
def R.TIM_TRG_EVT_EN : Nat := 0x60304
/-- FIRE bits 15:0 of TIM_TRG_EVT_EN. -/
def F.TIM_TRG_EVT_EN_FIRE : Fld := ⟨R.TIM_TRG_EVT_EN, 15, 0⟩

/-- TIM_TRGn_CTL, spec/06_time_base.md. -/
def R.TIM_TRG_CTL (n : Nat) : Nat := 0x60400 + 0x10 * n
/-- ARMED bits 31:31 of TIM_TRGn_CTL. -/
def F.TIM_TRG_CTL_ARMED (n : Nat) : Fld := ⟨R.TIM_TRG_CTL n, 31, 31⟩
/-- LATE bits 30:30 of TIM_TRGn_CTL. -/
def F.TIM_TRG_CTL_LATE (n : Nat) : Fld := ⟨R.TIM_TRG_CTL n, 30, 30⟩
/-- SKIPPED bits 23:16 of TIM_TRGn_CTL. -/
def F.TIM_TRG_CTL_SKIPPED (n : Nat) : Fld := ⟨R.TIM_TRG_CTL n, 23, 16⟩
/-- SKIP_CLR bits 15:15 of TIM_TRGn_CTL. -/
def F.TIM_TRG_CTL_SKIP_CLR (n : Nat) : Fld := ⟨R.TIM_TRG_CTL n, 15, 15⟩
/-- OWNER bits 4:0 of TIM_TRGn_CTL. -/
def F.TIM_TRG_CTL_OWNER (n : Nat) : Fld := ⟨R.TIM_TRG_CTL n, 4, 0⟩

/-- TIM_TRGn_TARGET, spec/06_time_base.md. -/
def R.TIM_TRG_TARGET (n : Nat) : Nat := 0x60404 + 0x10 * n
/-- VALUE bits 31:0 of TIM_TRGn_TARGET. -/
def F.TIM_TRG_TARGET_VALUE (n : Nat) : Fld := ⟨R.TIM_TRG_TARGET n, 31, 0⟩

/-- TIM_TRGn_PERIOD, spec/06_time_base.md. -/
def R.TIM_TRG_PERIOD (n : Nat) : Nat := 0x60408 + 0x10 * n
/-- VALUE bits 31:0 of TIM_TRGn_PERIOD. -/
def F.TIM_TRG_PERIOD_VALUE (n : Nat) : Fld := ⟨R.TIM_TRG_PERIOD n, 31, 0⟩

/-! Registers of spec/07_audio_patterns.md. -/

/-- AUD_EVT, spec/07_audio_patterns.md. -/
def R.AUD_EVT : Nat := 0x70000
/-- PEI bits 11:11 of AUD_EVT. -/
def F.AUD_EVT_PEI : Fld := ⟨R.AUD_EVT, 11, 11⟩
/-- CHIME_DONE bits 10:10 of AUD_EVT. -/
def F.AUD_EVT_CHIME_DONE : Fld := ⟨R.AUD_EVT, 10, 10⟩
/-- BIAS_FAULT bits 9:9 of AUD_EVT. -/
def F.AUD_EVT_BIAS_FAULT : Fld := ⟨R.AUD_EVT, 9, 9⟩
/-- REALIGN bits 8:8 of AUD_EVT. -/
def F.AUD_EVT_REALIGN : Fld := ⟨R.AUD_EVT, 8, 8⟩
/-- SILENT_BLOCK bits 7:7 of AUD_EVT. -/
def F.AUD_EVT_SILENT_BLOCK : Fld := ⟨R.AUD_EVT, 7, 7⟩
/-- EDGE_MISS bits 6:6 of AUD_EVT. -/
def F.AUD_EVT_EDGE_MISS : Fld := ⟨R.AUD_EVT, 6, 6⟩
/-- NET_GAP bits 5:5 of AUD_EVT. -/
def F.AUD_EVT_NET_GAP : Fld := ⟨R.AUD_EVT, 5, 5⟩
/-- NET_EARLY bits 4:4 of AUD_EVT. -/
def F.AUD_EVT_NET_EARLY : Fld := ⟨R.AUD_EVT, 4, 4⟩
/-- NET_LATE bits 3:3 of AUD_EVT. -/
def F.AUD_EVT_NET_LATE : Fld := ⟨R.AUD_EVT, 3, 3⟩
/-- SAT bits 2:2 of AUD_EVT. -/
def F.AUD_EVT_SAT : Fld := ⟨R.AUD_EVT, 2, 2⟩
/-- PAT_REJECT bits 1:1 of AUD_EVT. -/
def F.AUD_EVT_PAT_REJECT : Fld := ⟨R.AUD_EVT, 1, 1⟩
/-- PAT_SWITCH bits 0:0 of AUD_EVT. -/
def F.AUD_EVT_PAT_SWITCH : Fld := ⟨R.AUD_EVT, 0, 0⟩

/-- AUD_EVT_EN, spec/07_audio_patterns.md. -/
def R.AUD_EVT_EN : Nat := 0x70004
/-- EN bits 11:0 of AUD_EVT_EN. -/
def F.AUD_EVT_EN_EN : Fld := ⟨R.AUD_EVT_EN, 11, 0⟩

/-- AUD_EVT_VEC, spec/07_audio_patterns.md. -/
def R.AUD_EVT_VEC : Nat := 0x70008
/-- MSIX bits 21:16 of AUD_EVT_VEC. -/
def F.AUD_EVT_VEC_MSIX : Fld := ⟨R.AUD_EVT_VEC, 21, 16⟩
/-- AIA_ID bits 9:0 of AUD_EVT_VEC. -/
def F.AUD_EVT_VEC_AIA_ID : Fld := ⟨R.AUD_EVT_VEC, 9, 0⟩

/-- AUD_STAT, spec/07_audio_patterns.md. -/
def R.AUD_STAT : Nat := 0x70010
/-- STATE bits 31:30 of AUD_STAT. -/
def F.AUD_STAT_STATE : Fld := ⟨R.AUD_STAT, 31, 30⟩
/-- GEN bits 15:0 of AUD_STAT. -/
def F.AUD_STAT_GEN : Fld := ⟨R.AUD_STAT, 15, 0⟩

/-- AUD_PAT_TIME, spec/07_audio_patterns.md. -/
def R.AUD_PAT_TIME : Nat := 0x70014
/-- BLOCK_TIME bits 31:0 of AUD_PAT_TIME. -/
def F.AUD_PAT_TIME_BLOCK_TIME : Fld := ⟨R.AUD_PAT_TIME, 31, 0⟩

/-- AUD_SAT_INFO, spec/07_audio_patterns.md. -/
def R.AUD_SAT_INFO : Nat := 0x70018
/-- NODE bits 8:0 of AUD_SAT_INFO. -/
def F.AUD_SAT_INFO_NODE : Fld := ⟨R.AUD_SAT_INFO, 8, 0⟩

/-- AUD_MISS_INFO, spec/07_audio_patterns.md. -/
def R.AUD_MISS_INFO : Nat := 0x7001C
/-- EDGE bits 9:0 of AUD_MISS_INFO. -/
def F.AUD_MISS_INFO_EDGE : Fld := ⟨R.AUD_MISS_INFO, 9, 0⟩

/-- AUD_NET_INFO, spec/07_audio_patterns.md. -/
def R.AUD_NET_INFO : Nat := 0x70020
/-- KIND bits 7:6 of AUD_NET_INFO. -/
def F.AUD_NET_INFO_KIND : Fld := ⟨R.AUD_NET_INFO, 7, 6⟩
/-- SLOT bits 5:0 of AUD_NET_INFO. -/
def F.AUD_NET_INFO_SLOT : Fld := ⟨R.AUD_NET_INFO, 5, 0⟩

/-- AUD_ELASTIC, spec/07_audio_patterns.md. -/
def R.AUD_ELASTIC : Nat := 0x70024
/-- OFFSET bits 7:0 of AUD_ELASTIC. -/
def F.AUD_ELASTIC_OFFSET : Fld := ⟨R.AUD_ELASTIC, 7, 0⟩

/-- AUD_AINn_CTL, spec/07_audio_patterns.md. -/
def R.AUD_AIN_CTL (n : Nat) : Nat := 0x70100 + 0x4 * n
/-- EN bits 31:31 of AUD_AINn_CTL. -/
def F.AUD_AIN_CTL_EN (n : Nat) : Fld := ⟨R.AUD_AIN_CTL n, 31, 31⟩
/-- BIAS_EN bits 30:30 of AUD_AINn_CTL. -/
def F.AUD_AIN_CTL_BIAS_EN (n : Nat) : Fld := ⟨R.AUD_AIN_CTL n, 30, 30⟩
/-- GAIN bits 2:0 of AUD_AINn_CTL. -/
def F.AUD_AIN_CTL_GAIN (n : Nat) : Fld := ⟨R.AUD_AIN_CTL n, 2, 0⟩

/-- AUD_AIN_STAT, spec/07_audio_patterns.md. -/
def R.AUD_AIN_STAT : Nat := 0x70120
/-- CLIP bits 15:8 of AUD_AIN_STAT. -/
def F.AUD_AIN_STAT_CLIP : Fld := ⟨R.AUD_AIN_STAT, 15, 8⟩
/-- BIAS_FAULT bits 7:0 of AUD_AIN_STAT. -/
def F.AUD_AIN_STAT_BIAS_FAULT : Fld := ⟨R.AUD_AIN_STAT, 7, 0⟩

/-- AUD_AOUTn_CTL, spec/07_audio_patterns.md. -/
def R.AUD_AOUT_CTL (n : Nat) : Nat := 0x70140 + 0x4 * n
/-- EN bits 31:31 of AUD_AOUTn_CTL. -/
def F.AUD_AOUT_CTL_EN (n : Nat) : Fld := ⟨R.AUD_AOUT_CTL n, 31, 31⟩
/-- MUTE bits 30:30 of AUD_AOUTn_CTL. -/
def F.AUD_AOUT_CTL_MUTE (n : Nat) : Fld := ⟨R.AUD_AOUT_CTL n, 30, 30⟩

/-- AUD_TDMp_CTL, spec/07_audio_patterns.md. -/
def R.AUD_TDM_CTL (p : Nat) : Nat := 0x70180 + 0x4 * p
/-- EN bits 31:31 of AUD_TDMp_CTL. -/
def F.AUD_TDM_CTL_EN (p : Nat) : Fld := ⟨R.AUD_TDM_CTL p, 31, 31⟩
/-- FSYNC_WIDE bits 30:30 of AUD_TDMp_CTL. -/
def F.AUD_TDM_CTL_FSYNC_WIDE (p : Nat) : Fld := ⟨R.AUD_TDM_CTL p, 30, 30⟩
/-- DELAY bits 29:29 of AUD_TDMp_CTL. -/
def F.AUD_TDM_CTL_DELAY (p : Nat) : Fld := ⟨R.AUD_TDM_CTL p, 29, 29⟩
/-- SLOTS bits 1:0 of AUD_TDMp_CTL. -/
def F.AUD_TDM_CTL_SLOTS (p : Nat) : Fld := ⟨R.AUD_TDM_CTL p, 1, 0⟩

/-- AUD_STRs_STAT, spec/07_audio_patterns.md. -/
def R.AUD_STR_STAT (s : Nat) : Nat := 0x70200 + 0x4 * s
/-- EN bits 31:31 of AUD_STRs_STAT. -/
def F.AUD_STR_STAT_EN (s : Nat) : Fld := ⟨R.AUD_STR_STAT s, 31, 31⟩
/-- DIR bits 30:30 of AUD_STRs_STAT. -/
def F.AUD_STR_STAT_DIR (s : Nat) : Fld := ⟨R.AUD_STR_STAT s, 30, 30⟩
/-- FORMAT bits 29:29 of AUD_STRs_STAT. -/
def F.AUD_STR_STAT_FORMAT (s : Nat) : Fld := ⟨R.AUD_STR_STAT s, 29, 29⟩
/-- RATE16 bits 28:28 of AUD_STRs_STAT. -/
def F.AUD_STR_STAT_RATE16 (s : Nat) : Fld := ⟨R.AUD_STR_STAT s, 28, 28⟩
/-- CH bits 27:24 of AUD_STRs_STAT. -/
def F.AUD_STR_STAT_CH (s : Nat) : Fld := ⟨R.AUD_STR_STAT s, 27, 24⟩
/-- LAST_SEQ bits 15:0 of AUD_STRs_STAT. -/
def F.AUD_STR_STAT_LAST_SEQ (s : Nat) : Fld := ⟨R.AUD_STR_STAT s, 15, 0⟩

/-! Registers of spec/08_chart_placement.md. -/

/-- CHT_EVT, spec/08_chart_placement.md. -/
def R.CHT_EVT : Nat := 0x80000
/-- CONSOLIDATED bits 10:10 of CHT_EVT. -/
def F.CHT_EVT_CONSOLIDATED : Fld := ⟨R.CHT_EVT, 10, 10⟩
/-- CARVE_CLIPPED bits 9:9 of CHT_EVT. -/
def F.CHT_EVT_CARVE_CLIPPED : Fld := ⟨R.CHT_EVT, 9, 9⟩
/-- TWIN_DIFF bits 8:8 of CHT_EVT. -/
def F.CHT_EVT_TWIN_DIFF : Fld := ⟨R.CHT_EVT, 8, 8⟩
/-- DEGRADED bits 7:7 of CHT_EVT. -/
def F.CHT_EVT_DEGRADED : Fld := ⟨R.CHT_EVT, 7, 7⟩
/-- LEVEL_REFUSED bits 6:6 of CHT_EVT. -/
def F.CHT_EVT_LEVEL_REFUSED : Fld := ⟨R.CHT_EVT, 6, 6⟩
/-- SHADOW_LATE bits 5:5 of CHT_EVT. -/
def F.CHT_EVT_SHADOW_LATE : Fld := ⟨R.CHT_EVT, 5, 5⟩
/-- ENG_BACK bits 4:4 of CHT_EVT. -/
def F.CHT_EVT_ENG_BACK : Fld := ⟨R.CHT_EVT, 4, 4⟩
/-- ENG_EXCLUDED bits 3:3 of CHT_EVT. -/
def F.CHT_EVT_ENG_EXCLUDED : Fld := ⟨R.CHT_EVT, 3, 3⟩
/-- ENG_FAIL bits 2:2 of CHT_EVT. -/
def F.CHT_EVT_ENG_FAIL : Fld := ⟨R.CHT_EVT, 2, 2⟩
/-- REPLAN_FAIL bits 1:1 of CHT_EVT. -/
def F.CHT_EVT_REPLAN_FAIL : Fld := ⟨R.CHT_EVT, 1, 1⟩
/-- SWITCH bits 0:0 of CHT_EVT. -/
def F.CHT_EVT_SWITCH : Fld := ⟨R.CHT_EVT, 0, 0⟩

/-- CHT_EVT_EN, spec/08_chart_placement.md. -/
def R.CHT_EVT_EN : Nat := 0x80004
/-- EN bits 10:0 of CHT_EVT_EN. -/
def F.CHT_EVT_EN_EN : Fld := ⟨R.CHT_EVT_EN, 10, 0⟩

/-- CHT_EVT_VEC, spec/08_chart_placement.md. -/
def R.CHT_EVT_VEC : Nat := 0x80008
/-- MSIX bits 21:16 of CHT_EVT_VEC. -/
def F.CHT_EVT_VEC_MSIX : Fld := ⟨R.CHT_EVT_VEC, 21, 16⟩
/-- AIA_ID bits 9:0 of CHT_EVT_VEC. -/
def F.CHT_EVT_VEC_AIA_ID : Fld := ⟨R.CHT_EVT_VEC, 9, 0⟩

/-- CHT_STAT, spec/08_chart_placement.md. -/
def R.CHT_STAT : Nat := 0x80010
/-- BUSY bits 31:31 of CHT_STAT. -/
def F.CHT_STAT_BUSY : Fld := ⟨R.CHT_STAT, 31, 31⟩
/-- MODE bits 30:30 of CHT_STAT. -/
def F.CHT_STAT_MODE : Fld := ⟨R.CHT_STAT, 30, 30⟩
/-- LEVEL bits 29:27 of CHT_STAT. -/
def F.CHT_STAT_LEVEL : Fld := ⟨R.CHT_STAT, 29, 27⟩
/-- LAST_REASON bits 23:16 of CHT_STAT. -/
def F.CHT_STAT_LAST_REASON : Fld := ⟨R.CHT_STAT, 23, 16⟩
/-- TWIN_GROUP bits 15:12 of CHT_STAT. -/
def F.CHT_STAT_TWIN_GROUP : Fld := ⟨R.CHT_STAT, 15, 12⟩
/-- ENGINES_ON bits 4:0 of CHT_STAT. -/
def F.CHT_STAT_ENGINES_ON : Fld := ⟨R.CHT_STAT, 4, 0⟩

/-- CHT_PLACE_GEN, spec/08_chart_placement.md. -/
def R.CHT_PLACE_GEN : Nat := 0x80014
/-- GEN bits 31:0 of CHT_PLACE_GEN. -/
def F.CHT_PLACE_GEN_GEN : Fld := ⟨R.CHT_PLACE_GEN, 31, 0⟩

/-- CHT_CTL, spec/08_chart_placement.md. -/
def R.CHT_CTL : Nat := 0x80018
/-- LATE_LIMIT bits 15:12 of CHT_CTL. -/
def F.CHT_CTL_LATE_LIMIT : Fld := ⟨R.CHT_CTL, 15, 12⟩
/-- FAIL_LIMIT bits 11:8 of CHT_CTL. -/
def F.CHT_CTL_FAIL_LIMIT : Fld := ⟨R.CHT_CTL, 11, 8⟩

/-- CHT_EXCLUDED, spec/08_chart_placement.md. -/
def R.CHT_EXCLUDED : Nat := 0x8001C
/-- ENG bits 15:0 of CHT_EXCLUDED. -/
def F.CHT_EXCLUDED_ENG : Fld := ⟨R.CHT_EXCLUDED, 15, 0⟩

/-- CHT_ENGs_STAT, spec/08_chart_placement.md. -/
def R.CHT_ENG_STAT (s : Nat) : Nat := 0x80100 + 0x4 * s
/-- STATE bits 31:30 of CHT_ENGs_STAT. -/
def F.CHT_ENG_STAT_STATE (s : Nat) : Fld := ⟨R.CHT_ENG_STAT s, 31, 30⟩
/-- FAILS bits 23:20 of CHT_ENGs_STAT. -/
def F.CHT_ENG_STAT_FAILS (s : Nat) : Fld := ⟨R.CHT_ENG_STAT s, 23, 20⟩
/-- NODES bits 19:10 of CHT_ENGs_STAT. -/
def F.CHT_ENG_STAT_NODES (s : Nat) : Fld := ⟨R.CHT_ENG_STAT s, 19, 10⟩
/-- LOAD_PM bits 9:0 of CHT_ENGs_STAT. -/
def F.CHT_ENG_STAT_LOAD_PM (s : Nat) : Fld := ⟨R.CHT_ENG_STAT s, 9, 0⟩

/-- CHT_ENGs_MEAS, spec/08_chart_placement.md. -/
def R.CHT_ENG_MEAS (s : Nat) : Nat := 0x80140 + 0x4 * s
/-- BUSY_MAX bits 31:16 of CHT_ENGs_MEAS. -/
def F.CHT_ENG_MEAS_BUSY_MAX (s : Nat) : Fld := ⟨R.CHT_ENG_MEAS s, 31, 16⟩
/-- BUSY_LAST bits 15:0 of CHT_ENGs_MEAS. -/
def F.CHT_ENG_MEAS_BUSY_LAST (s : Nat) : Fld := ⟨R.CHT_ENG_MEAS s, 15, 0⟩

/-- CHT_NODE_SEL, spec/08_chart_placement.md. -/
def R.CHT_NODE_SEL : Nat := 0x80200
/-- NODE bits 8:0 of CHT_NODE_SEL. -/
def F.CHT_NODE_SEL_NODE : Fld := ⟨R.CHT_NODE_SEL, 8, 0⟩

/-- CHT_NODE_PLACE, spec/08_chart_placement.md. -/
def R.CHT_NODE_PLACE : Nat := 0x80204
/-- VALID bits 31:31 of CHT_NODE_PLACE. -/
def F.CHT_NODE_PLACE_VALID : Fld := ⟨R.CHT_NODE_PLACE, 31, 31⟩
/-- ENGINE bits 30:26 of CHT_NODE_PLACE. -/
def F.CHT_NODE_PLACE_ENGINE : Fld := ⟨R.CHT_NODE_PLACE, 30, 26⟩
/-- TWIN bits 25:21 of CHT_NODE_PLACE. -/
def F.CHT_NODE_PLACE_TWIN : Fld := ⟨R.CHT_NODE_PLACE, 25, 21⟩
/-- STATE_LOC bits 20:19 of CHT_NODE_PLACE. -/
def F.CHT_NODE_PLACE_STATE_LOC : Fld := ⟨R.CHT_NODE_PLACE, 20, 19⟩
/-- COST bits 18:0 of CHT_NODE_PLACE. -/
def F.CHT_NODE_PLACE_COST : Fld := ⟨R.CHT_NODE_PLACE, 18, 0⟩

/-- CHT_NODE_FINISH, spec/08_chart_placement.md. -/
def R.CHT_NODE_FINISH : Nat := 0x80208
/-- US bits 9:0 of CHT_NODE_FINISH. -/
def F.CHT_NODE_FINISH_US : Fld := ⟨R.CHT_NODE_FINISH, 9, 0⟩

/-! Registers of spec/09_can_controllers.md. -/

/-- CAN_EVT, spec/09_can_controllers.md. -/
def R.CAN_EVT (n : Nat) : Nat := 0x90000 + 0x1000 * n
/-- CFG_BAD bits 10:10 of CAN_EVT. -/
def F.CAN_EVT_CFG_BAD (n : Nat) : Fld := ⟨R.CAN_EVT n, 10, 10⟩
/-- PEXC bits 9:9 of CAN_EVT. -/
def F.CAN_EVT_PEXC (n : Nat) : Fld := ⟨R.CAN_EVT n, 9, 9⟩
/-- TX_ABANDON bits 8:8 of CAN_EVT. -/
def F.CAN_EVT_TX_ABANDON (n : Nat) : Fld := ⟨R.CAN_EVT n, 8, 8⟩
/-- SWAP bits 7:7 of CAN_EVT. -/
def F.CAN_EVT_SWAP (n : Nat) : Fld := ⟨R.CAN_EVT n, 7, 7⟩
/-- LONE bits 6:6 of CAN_EVT. -/
def F.CAN_EVT_LONE (n : Nat) : Fld := ⟨R.CAN_EVT n, 6, 6⟩
/-- RECOVERED bits 5:5 of CAN_EVT. -/
def F.CAN_EVT_RECOVERED (n : Nat) : Fld := ⟨R.CAN_EVT n, 5, 5⟩
/-- BUS_OFF bits 4:4 of CAN_EVT. -/
def F.CAN_EVT_BUS_OFF (n : Nat) : Fld := ⟨R.CAN_EVT n, 4, 4⟩
/-- PASSIVE bits 3:3 of CAN_EVT. -/
def F.CAN_EVT_PASSIVE (n : Nat) : Fld := ⟨R.CAN_EVT n, 3, 3⟩
/-- WARN bits 2:2 of CAN_EVT. -/
def F.CAN_EVT_WARN (n : Nat) : Fld := ⟨R.CAN_EVT n, 2, 2⟩
/-- RX_OVF bits 1:1 of CAN_EVT. -/
def F.CAN_EVT_RX_OVF (n : Nat) : Fld := ⟨R.CAN_EVT n, 1, 1⟩
/-- RXQ_LEVEL bits 0:0 of CAN_EVT. -/
def F.CAN_EVT_RXQ_LEVEL (n : Nat) : Fld := ⟨R.CAN_EVT n, 0, 0⟩

/-- CAN_EVT_EN, spec/09_can_controllers.md. -/
def R.CAN_EVT_EN (n : Nat) : Nat := 0x90004 + 0x1000 * n
/-- EN bits 10:0 of CAN_EVT_EN. -/
def F.CAN_EVT_EN_EN (n : Nat) : Fld := ⟨R.CAN_EVT_EN n, 10, 0⟩

/-- CAN_EVT_VEC, spec/09_can_controllers.md. -/
def R.CAN_EVT_VEC (n : Nat) : Nat := 0x90008 + 0x1000 * n
/-- MSIX bits 21:16 of CAN_EVT_VEC. -/
def F.CAN_EVT_VEC_MSIX (n : Nat) : Fld := ⟨R.CAN_EVT_VEC n, 21, 16⟩
/-- AIA_ID bits 9:0 of CAN_EVT_VEC. -/
def F.CAN_EVT_VEC_AIA_ID (n : Nat) : Fld := ⟨R.CAN_EVT_VEC n, 9, 0⟩

/-- CAN_CTL, spec/09_can_controllers.md. -/
def R.CAN_CTL (n : Nat) : Nat := 0x90010 + 0x1000 * n
/-- EN bits 31:31 of CAN_CTL. -/
def F.CAN_CTL_EN (n : Nat) : Fld := ⟨R.CAN_CTL n, 31, 31⟩
/-- MODE bits 30:29 of CAN_CTL. -/
def F.CAN_CTL_MODE (n : Nat) : Fld := ⟨R.CAN_CTL n, 30, 29⟩
/-- FD_EN bits 28:28 of CAN_CTL. -/
def F.CAN_CTL_FD_EN (n : Nat) : Fld := ⟨R.CAN_CTL n, 28, 28⟩
/-- XL_EN bits 27:27 of CAN_CTL. -/
def F.CAN_CTL_XL_EN (n : Nat) : Fld := ⟨R.CAN_CTL n, 27, 27⟩
/-- TDC_EN bits 26:26 of CAN_CTL. -/
def F.CAN_CTL_TDC_EN (n : Nat) : Fld := ⟨R.CAN_CTL n, 26, 26⟩
/-- AUTO_RECOVER bits 25:25 of CAN_CTL. -/
def F.CAN_CTL_AUTO_RECOVER (n : Nat) : Fld := ⟨R.CAN_CTL n, 25, 25⟩
/-- BUSOFF_FLUSH bits 24:24 of CAN_CTL. -/
def F.CAN_CTL_BUSOFF_FLUSH (n : Nat) : Fld := ⟨R.CAN_CTL n, 24, 24⟩
/-- HOLD_ON_LONE bits 23:23 of CAN_CTL. -/
def F.CAN_CTL_HOLD_ON_LONE (n : Nat) : Fld := ⟨R.CAN_CTL n, 23, 23⟩

/-- CAN_NBT, spec/09_can_controllers.md. -/
def R.CAN_NBT (n : Nat) : Nat := 0x90014 + 0x1000 * n
/-- BRP bits 31:24 of CAN_NBT. -/
def F.CAN_NBT_BRP (n : Nat) : Fld := ⟨R.CAN_NBT n, 31, 24⟩
/-- TSEG1 bits 23:16 of CAN_NBT. -/
def F.CAN_NBT_TSEG1 (n : Nat) : Fld := ⟨R.CAN_NBT n, 23, 16⟩
/-- TSEG2 bits 15:9 of CAN_NBT. -/
def F.CAN_NBT_TSEG2 (n : Nat) : Fld := ⟨R.CAN_NBT n, 15, 9⟩
/-- SJW bits 8:2 of CAN_NBT. -/
def F.CAN_NBT_SJW (n : Nat) : Fld := ⟨R.CAN_NBT n, 8, 2⟩

/-- CAN_DBT, spec/09_can_controllers.md. -/
def R.CAN_DBT (n : Nat) : Nat := 0x90018 + 0x1000 * n
/-- BRP bits 28:24 of CAN_DBT. -/
def F.CAN_DBT_BRP (n : Nat) : Fld := ⟨R.CAN_DBT n, 28, 24⟩
/-- TSEG1 bits 20:16 of CAN_DBT. -/
def F.CAN_DBT_TSEG1 (n : Nat) : Fld := ⟨R.CAN_DBT n, 20, 16⟩
/-- TSEG2 bits 11:8 of CAN_DBT. -/
def F.CAN_DBT_TSEG2 (n : Nat) : Fld := ⟨R.CAN_DBT n, 11, 8⟩
/-- SJW bits 3:0 of CAN_DBT. -/
def F.CAN_DBT_SJW (n : Nat) : Fld := ⟨R.CAN_DBT n, 3, 0⟩

/-- CAN_TDC, spec/09_can_controllers.md. -/
def R.CAN_TDC (n : Nat) : Nat := 0x9001C + 0x1000 * n
/-- TDCV bits 22:16 of CAN_TDC. -/
def F.CAN_TDC_TDCV (n : Nat) : Fld := ⟨R.CAN_TDC n, 22, 16⟩
/-- TDCO bits 6:0 of CAN_TDC. -/
def F.CAN_TDC_TDCO (n : Nat) : Fld := ⟨R.CAN_TDC n, 6, 0⟩

/-- CAN_LIMITS, spec/09_can_controllers.md. -/
def R.CAN_LIMITS (n : Nat) : Nat := 0x90020 + 0x1000 * n
/-- ARB_LIMIT bits 15:8 of CAN_LIMITS. -/
def F.CAN_LIMITS_ARB_LIMIT (n : Nat) : Fld := ⟨R.CAN_LIMITS n, 15, 8⟩
/-- ERR_LIMIT bits 7:0 of CAN_LIMITS. -/
def F.CAN_LIMITS_ERR_LIMIT (n : Nat) : Fld := ⟨R.CAN_LIMITS n, 7, 0⟩

/-- CAN_STAT, spec/09_can_controllers.md. -/
def R.CAN_STAT (n : Nat) : Nat := 0x90024 + 0x1000 * n
/-- STATE bits 31:30 of CAN_STAT. -/
def F.CAN_STAT_STATE (n : Nat) : Fld := ⟨R.CAN_STAT n, 31, 30⟩
/-- LONE bits 29:29 of CAN_STAT. -/
def F.CAN_STAT_LONE (n : Nat) : Fld := ⟨R.CAN_STAT n, 29, 29⟩
/-- SWAPPED bits 28:28 of CAN_STAT. -/
def F.CAN_STAT_SWAPPED (n : Nat) : Fld := ⟨R.CAN_STAT n, 28, 28⟩
/-- HELD bits 27:27 of CAN_STAT. -/
def F.CAN_STAT_HELD (n : Nat) : Fld := ⟨R.CAN_STAT n, 27, 27⟩
/-- OVF_QUEUE bits 26:24 of CAN_STAT. -/
def F.CAN_STAT_OVF_QUEUE (n : Nat) : Fld := ⟨R.CAN_STAT n, 26, 24⟩
/-- LEC bits 23:20 of CAN_STAT. -/
def F.CAN_STAT_LEC (n : Nat) : Fld := ⟨R.CAN_STAT n, 23, 20⟩
/-- LEC_DATA bits 19:19 of CAN_STAT. -/
def F.CAN_STAT_LEC_DATA (n : Nat) : Fld := ⟨R.CAN_STAT n, 19, 19⟩
/-- ACK_RUN bits 5:0 of CAN_STAT. -/
def F.CAN_STAT_ACK_RUN (n : Nat) : Fld := ⟨R.CAN_STAT n, 5, 0⟩

/-- CAN_ERRCNT, spec/09_can_controllers.md. -/
def R.CAN_ERRCNT (n : Nat) : Nat := 0x90028 + 0x1000 * n
/-- RP bits 15:15 of CAN_ERRCNT. -/
def F.CAN_ERRCNT_RP (n : Nat) : Fld := ⟨R.CAN_ERRCNT n, 15, 15⟩
/-- REC bits 14:8 of CAN_ERRCNT. -/
def F.CAN_ERRCNT_REC (n : Nat) : Fld := ⟨R.CAN_ERRCNT n, 14, 8⟩
/-- TEC bits 7:0 of CAN_ERRCNT. -/
def F.CAN_ERRCNT_TEC (n : Nat) : Fld := ⟨R.CAN_ERRCNT n, 7, 0⟩

/-- CAN_TXCTL, spec/09_can_controllers.md. -/
def R.CAN_TXCTL (n : Nat) : Nat := 0x9002C + 0x1000 * n
/-- RELEASE bits 1:1 of CAN_TXCTL. -/
def F.CAN_TXCTL_RELEASE (n : Nat) : Fld := ⟨R.CAN_TXCTL n, 1, 1⟩
/-- RECOVER bits 0:0 of CAN_TXCTL. -/
def F.CAN_TXCTL_RECOVER (n : Nat) : Fld := ⟨R.CAN_TXCTL n, 0, 0⟩

/-- CAN_TX_MASK, spec/09_can_controllers.md. -/
def R.CAN_TX_MASK (n : Nat) : Nat := 0x90030 + 0x1000 * n
/-- MASK bits 31:0 of CAN_TX_MASK. -/
def F.CAN_TX_MASK_MASK (n : Nat) : Fld := ⟨R.CAN_TX_MASK n, 31, 0⟩

/-- CAN_RX_MASK, spec/09_can_controllers.md. -/
def R.CAN_RX_MASK (n : Nat) : Nat := 0x90034 + 0x1000 * n
/-- MASK bits 31:0 of CAN_RX_MASK. -/
def F.CAN_RX_MASK_MASK (n : Nat) : Fld := ⟨R.CAN_RX_MASK n, 31, 0⟩

/-- CAN_RX_LAT, spec/09_can_controllers.md. -/
def R.CAN_RX_LAT (n : Nat) : Nat := 0x90038 + 0x1000 * n
/-- LAT bits 15:0 of CAN_RX_LAT. -/
def F.CAN_RX_LAT_LAT (n : Nat) : Fld := ⟨R.CAN_RX_LAT n, 15, 0⟩

/-- CAN_TXQq_STAT, spec/09_can_controllers.md. -/
def R.CAN_TXQ_STAT (n : Nat) (q : Nat) : Nat := 0x90040 + 0x1000 * n + 0x4 * q
/-- FILL bits 31:26 of CAN_TXQq_STAT. -/
def F.CAN_TXQ_STAT_FILL (n : Nat) (q : Nat) : Fld := ⟨R.CAN_TXQ_STAT n q, 31, 26⟩
/-- LOSSES bits 25:18 of CAN_TXQq_STAT. -/
def F.CAN_TXQ_STAT_LOSSES (n : Nat) (q : Nat) : Fld := ⟨R.CAN_TXQ_STAT n q, 25, 18⟩
/-- ERRORS bits 17:10 of CAN_TXQq_STAT. -/
def F.CAN_TXQ_STAT_ERRORS (n : Nat) (q : Nat) : Fld := ⟨R.CAN_TXQ_STAT n q, 17, 10⟩

/-- CAN_RXQq_CFG, spec/09_can_controllers.md. -/
def R.CAN_RXQ_CFG (n : Nat) (q : Nat) : Nat := 0x90060 + 0x1000 * n + 0x8 * q
/-- EN bits 31:31 of CAN_RXQq_CFG. -/
def F.CAN_RXQ_CFG_EN (n : Nat) (q : Nat) : Fld := ⟨R.CAN_RXQ_CFG n q, 31, 31⟩
/-- SIZE bits 22:16 of CAN_RXQq_CFG. -/
def F.CAN_RXQ_CFG_SIZE (n : Nat) (q : Nat) : Fld := ⟨R.CAN_RXQ_CFG n q, 22, 16⟩
/-- LEVEL bits 10:0 of CAN_RXQq_CFG. -/
def F.CAN_RXQ_CFG_LEVEL (n : Nat) (q : Nat) : Fld := ⟨R.CAN_RXQ_CFG n q, 10, 0⟩

/-- CAN_RXQq_STAT, spec/09_can_controllers.md. -/
def R.CAN_RXQ_STAT (n : Nat) (q : Nat) : Nat := 0x90064 + 0x1000 * n + 0x8 * q
/-- BYTES bits 31:15 of CAN_RXQq_STAT. -/
def F.CAN_RXQ_STAT_BYTES (n : Nat) (q : Nat) : Fld := ⟨R.CAN_RXQ_STAT n q, 31, 15⟩
/-- FILL bits 10:0 of CAN_RXQq_STAT. -/
def F.CAN_RXQ_STAT_FILL (n : Nat) (q : Nat) : Fld := ⟨R.CAN_RXQ_STAT n q, 10, 0⟩

/-! Registers of spec/10_gateway_rules.md. -/

/-- GWY_EVT, spec/10_gateway_rules.md. -/
def R.GWY_EVT : Nat := 0xA0000
/-- AUTH_TORN bits 12:12 of GWY_EVT. -/
def F.GWY_EVT_AUTH_TORN : Fld := ⟨R.GWY_EVT, 12, 12⟩
/-- KEY_BAD bits 11:11 of GWY_EVT. -/
def F.GWY_EVT_KEY_BAD : Fld := ⟨R.GWY_EVT, 11, 11⟩
/-- FRESH_UNSET bits 10:10 of GWY_EVT. -/
def F.GWY_EVT_FRESH_UNSET : Fld := ⟨R.GWY_EVT, 10, 10⟩
/-- FRESH_END bits 9:9 of GWY_EVT. -/
def F.GWY_EVT_FRESH_END : Fld := ⟨R.GWY_EVT, 9, 9⟩
/-- AUTH_FAIL bits 8:8 of GWY_EVT. -/
def F.GWY_EVT_AUTH_FAIL : Fld := ⟨R.GWY_EVT, 8, 8⟩
/-- SIG_TMO bits 7:7 of GWY_EVT. -/
def F.GWY_EVT_SIG_TMO : Fld := ⟨R.GWY_EVT, 7, 7⟩
/-- RATE_DROP bits 6:6 of GWY_EVT. -/
def F.GWY_EVT_RATE_DROP : Fld := ⟨R.GWY_EVT, 6, 6⟩
/-- DST_ASLEEP bits 5:5 of GWY_EVT. -/
def F.GWY_EVT_DST_ASLEEP : Fld := ⟨R.GWY_EVT, 5, 5⟩
/-- DST_FULL bits 4:4 of GWY_EVT. -/
def F.GWY_EVT_DST_FULL : Fld := ⟨R.GWY_EVT, 4, 4⟩
/-- DROP_LEN bits 3:3 of GWY_EVT. -/
def F.GWY_EVT_DROP_LEN : Fld := ⟨R.GWY_EVT, 3, 3⟩
/-- CHAIN_CUT bits 2:2 of GWY_EVT. -/
def F.GWY_EVT_CHAIN_CUT : Fld := ⟨R.GWY_EVT, 2, 2⟩
/-- ETH_NOMATCH bits 1:1 of GWY_EVT. -/
def F.GWY_EVT_ETH_NOMATCH : Fld := ⟨R.GWY_EVT, 1, 1⟩
/-- MISMATCH bits 0:0 of GWY_EVT. -/
def F.GWY_EVT_MISMATCH : Fld := ⟨R.GWY_EVT, 0, 0⟩

/-- GWY_EVT_EN, spec/10_gateway_rules.md. -/
def R.GWY_EVT_EN : Nat := 0xA0004
/-- EN bits 12:0 of GWY_EVT_EN. -/
def F.GWY_EVT_EN_EN : Fld := ⟨R.GWY_EVT_EN, 12, 0⟩

/-- GWY_EVT_VEC, spec/10_gateway_rules.md. -/
def R.GWY_EVT_VEC : Nat := 0xA0008
/-- MSIX bits 21:16 of GWY_EVT_VEC. -/
def F.GWY_EVT_VEC_MSIX : Fld := ⟨R.GWY_EVT_VEC, 21, 16⟩
/-- AIA_ID bits 9:0 of GWY_EVT_VEC. -/
def F.GWY_EVT_VEC_AIA_ID : Fld := ⟨R.GWY_EVT_VEC, 9, 0⟩

/-- GWY_CTL, spec/10_gateway_rules.md. -/
def R.GWY_CTL : Nat := 0xA0010
/-- EN bits 0:0 of GWY_CTL. -/
def F.GWY_CTL_EN : Fld := ⟨R.GWY_CTL, 0, 0⟩

/-- GWY_CFG_MASK, spec/10_gateway_rules.md. -/
def R.GWY_CFG_MASK : Nat := 0xA0014
/-- MASK bits 31:0 of GWY_CFG_MASK. -/
def F.GWY_CFG_MASK_MASK : Fld := ⟨R.GWY_CFG_MASK, 31, 0⟩

/-- GWY_TS_HI, spec/10_gateway_rules.md. -/
def R.GWY_TS_HI : Nat := 0xA0018
/-- HI bits 31:0 of GWY_TS_HI. -/
def F.GWY_TS_HI_HI : Fld := ⟨R.GWY_TS_HI, 31, 0⟩

/-- GWY_LAST_INFO, spec/10_gateway_rules.md. -/
def R.GWY_LAST_INFO : Nat := 0xA001C
/-- KIND bits 31:28 of GWY_LAST_INFO. -/
def F.GWY_LAST_INFO_KIND : Fld := ⟨R.GWY_LAST_INFO, 31, 28⟩
/-- RULE bits 10:0 of GWY_LAST_INFO. -/
def F.GWY_LAST_INFO_RULE : Fld := ⟨R.GWY_LAST_INFO, 10, 0⟩

/-- GWY_RULE_SEL, spec/10_gateway_rules.md. -/
def R.GWY_RULE_SEL : Nat := 0xA0020
/-- RULE bits 10:0 of GWY_RULE_SEL. -/
def F.GWY_RULE_SEL_RULE : Fld := ⟨R.GWY_RULE_SEL, 10, 0⟩

/-- GWY_RULE_STAT, spec/10_gateway_rules.md. -/
def R.GWY_RULE_STAT : Nat := 0xA0024
/-- EN bits 31:31 of GWY_RULE_STAT. -/
def F.GWY_RULE_STAT_EN : Fld := ⟨R.GWY_RULE_STAT, 31, 31⟩
/-- HELD bits 30:30 of GWY_RULE_STAT. -/
def F.GWY_RULE_STAT_HELD : Fld := ⟨R.GWY_RULE_STAT, 30, 30⟩
/-- FTOK bits 15:0 of GWY_RULE_STAT. -/
def F.GWY_RULE_STAT_FTOK : Fld := ⟨R.GWY_RULE_STAT, 15, 0⟩

/-- GWY_FRESH_SEL, spec/10_gateway_rules.md. -/
def R.GWY_FRESH_SEL : Nat := 0xA0028
/-- SET bits 31:31 of GWY_FRESH_SEL. -/
def F.GWY_FRESH_SEL_SET : Fld := ⟨R.GWY_FRESH_SEL, 31, 31⟩
/-- COUNTER bits 8:0 of GWY_FRESH_SEL. -/
def F.GWY_FRESH_SEL_COUNTER : Fld := ⟨R.GWY_FRESH_SEL, 8, 0⟩

/-- GWY_FRESH_VAL, spec/10_gateway_rules.md. -/
def R.GWY_FRESH_VAL : Nat := 0xA002C
/-- VALUE bits 31:0 of GWY_FRESH_VAL. -/
def F.GWY_FRESH_VAL_VALUE : Fld := ⟨R.GWY_FRESH_VAL, 31, 0⟩

/-! Registers of spec/11_wake_sleep.md. -/

/-- WAK_EVT, spec/11_wake_sleep.md. -/
def R.WAK_EVT : Nat := 0xB0000
/-- BACKOFF_END bits 5:5 of WAK_EVT. -/
def F.WAK_EVT_BACKOFF_END : Fld := ⟨R.WAK_EVT, 5, 5⟩
/-- BACKOFF bits 4:4 of WAK_EVT. -/
def F.WAK_EVT_BACKOFF : Fld := ⟨R.WAK_EVT, 4, 4⟩
/-- FALSE_WAKE bits 3:3 of WAK_EVT. -/
def F.WAK_EVT_FALSE_WAKE : Fld := ⟨R.WAK_EVT, 3, 3⟩
/-- WOKE bits 2:2 of WAK_EVT. -/
def F.WAK_EVT_WOKE : Fld := ⟨R.WAK_EVT, 2, 2⟩
/-- SRC_EVENT bits 1:1 of WAK_EVT. -/
def F.WAK_EVT_SRC_EVENT : Fld := ⟨R.WAK_EVT, 1, 1⟩
/-- TRCV_WAKE bits 0:0 of WAK_EVT. -/
def F.WAK_EVT_TRCV_WAKE : Fld := ⟨R.WAK_EVT, 0, 0⟩

/-- WAK_EVT_EN, spec/11_wake_sleep.md. -/
def R.WAK_EVT_EN : Nat := 0xB0004
/-- EN bits 5:0 of WAK_EVT_EN. -/
def F.WAK_EVT_EN_EN : Fld := ⟨R.WAK_EVT_EN, 5, 0⟩

/-- WAK_EVT_VEC, spec/11_wake_sleep.md. -/
def R.WAK_EVT_VEC : Nat := 0xB0008
/-- MSIX bits 21:16 of WAK_EVT_VEC. -/
def F.WAK_EVT_VEC_MSIX : Fld := ⟨R.WAK_EVT_VEC, 21, 16⟩
/-- AIA_ID bits 9:0 of WAK_EVT_VEC. -/
def F.WAK_EVT_VEC_AIA_ID : Fld := ⟨R.WAK_EVT_VEC, 9, 0⟩

/-- WAK_CTL, spec/11_wake_sleep.md. -/
def R.WAK_CTL : Nat := 0xB0010
/-- DRAIN_MS bits 7:0 of WAK_CTL. -/
def F.WAK_CTL_DRAIN_MS : Fld := ⟨R.WAK_CTL, 7, 0⟩

/-- WAK_SRC_EN, spec/11_wake_sleep.md. -/
def R.WAK_SRC_EN : Nat := 0xB0014
/-- SRC bits 28:0 of WAK_SRC_EN. -/
def F.WAK_SRC_EN_SRC : Fld := ⟨R.WAK_SRC_EN, 28, 0⟩

/-- WAK_PEND, spec/11_wake_sleep.md. -/
def R.WAK_PEND : Nat := 0xB0018
/-- SRC bits 28:0 of WAK_PEND. -/
def F.WAK_PEND_SRC : Fld := ⟨R.WAK_PEND, 28, 0⟩

/-- WAK_STAT, spec/11_wake_sleep.md. -/
def R.WAK_STAT : Nat := 0xB001C
/-- STATE bits 31:30 of WAK_STAT. -/
def F.WAK_STAT_STATE : Fld := ⟨R.WAK_STAT, 31, 30⟩

/-- WAK_CAUSE, spec/11_wake_sleep.md. -/
def R.WAK_CAUSE : Nat := 0xB0020
/-- AFTER_COMMIT bits 31:31 of WAK_CAUSE. -/
def F.WAK_CAUSE_AFTER_COMMIT : Fld := ⟨R.WAK_CAUSE, 31, 31⟩
/-- FROM_DOZE bits 30:30 of WAK_CAUSE. -/
def F.WAK_CAUSE_FROM_DOZE : Fld := ⟨R.WAK_CAUSE, 30, 30⟩
/-- SOURCE bits 4:0 of WAK_CAUSE. -/
def F.WAK_CAUSE_SOURCE : Fld := ⟨R.WAK_CAUSE, 4, 0⟩

/-- WAK_CONFIRM, spec/11_wake_sleep.md. -/
def R.WAK_CONFIRM : Nat := 0xB0024
/-- SRC bits 28:0 of WAK_CONFIRM. -/
def F.WAK_CONFIRM_SRC : Fld := ⟨R.WAK_CONFIRM, 28, 0⟩

/-- WAK_BACKOFF, spec/11_wake_sleep.md. -/
def R.WAK_BACKOFF : Nat := 0xB0028
/-- SRC bits 28:0 of WAK_BACKOFF. -/
def F.WAK_BACKOFF_SRC : Fld := ⟨R.WAK_BACKOFF, 28, 0⟩

/-- WAK_FW_CTL, spec/11_wake_sleep.md. -/
def R.WAK_FW_CTL : Nat := 0xB002C
/-- LIMIT bits 11:8 of WAK_FW_CTL. -/
def F.WAK_FW_CTL_LIMIT : Fld := ⟨R.WAK_FW_CTL, 11, 8⟩
/-- WINDOW_S bits 7:0 of WAK_FW_CTL. -/
def F.WAK_FW_CTL_WINDOW_S : Fld := ⟨R.WAK_FW_CTL, 7, 0⟩

/-- WAK_FW_TIME, spec/11_wake_sleep.md. -/
def R.WAK_FW_TIME : Nat := 0xB0030
/-- PERIOD_S bits 31:16 of WAK_FW_TIME. -/
def F.WAK_FW_TIME_PERIOD_S : Fld := ⟨R.WAK_FW_TIME, 31, 16⟩
/-- BACKOFF_S bits 15:0 of WAK_FW_TIME. -/
def F.WAK_FW_TIME_BACKOFF_S : Fld := ⟨R.WAK_FW_TIME, 15, 0⟩

/-- WAK_TIMER, spec/11_wake_sleep.md. -/
def R.WAK_TIMER : Nat := 0xB0034
/-- MS bits 31:0 of WAK_TIMER. -/
def F.WAK_TIMER_MS : Fld := ⟨R.WAK_TIMER, 31, 0⟩

/-- WAK_AON_S, spec/11_wake_sleep.md. -/
def R.WAK_AON_S : Nat := 0xB0038
/-- SECONDS bits 31:0 of WAK_AON_S. -/
def F.WAK_AON_S_SECONDS : Fld := ⟨R.WAK_AON_S, 31, 0⟩

/-- WAK_DIN_MASK, spec/11_wake_sleep.md. -/
def R.WAK_DIN_MASK : Nat := 0xB003C
/-- MASK bits 31:0 of WAK_DIN_MASK. -/
def F.WAK_DIN_MASK_MASK : Fld := ⟨R.WAK_DIN_MASK, 31, 0⟩

/-- WAK_PIN_CTL, spec/11_wake_sleep.md. -/
def R.WAK_PIN_CTL : Nat := 0xB0040
/-- PPS_FALL bits 3:3 of WAK_PIN_CTL. -/
def F.WAK_PIN_CTL_PPS_FALL : Fld := ⟨R.WAK_PIN_CTL, 3, 3⟩
/-- WAKE_LEVEL bits 2:2 of WAK_PIN_CTL. -/
def F.WAK_PIN_CTL_WAKE_LEVEL : Fld := ⟨R.WAK_PIN_CTL, 2, 2⟩
/-- WAKE_LOW bits 1:1 of WAK_PIN_CTL. -/
def F.WAK_PIN_CTL_WAKE_LOW : Fld := ⟨R.WAK_PIN_CTL, 1, 1⟩

/-- WAK_DOZE_PORTS, spec/11_wake_sleep.md. -/
def R.WAK_DOZE_PORTS : Nat := 0xB0044
/-- PORTS bits 15:0 of WAK_DOZE_PORTS. -/
def F.WAK_DOZE_PORTS_PORTS : Fld := ⟨R.WAK_DOZE_PORTS, 15, 0⟩

/-- WAK_CFG_MASK, spec/11_wake_sleep.md. -/
def R.WAK_CFG_MASK : Nat := 0xB0048
/-- MASK bits 31:0 of WAK_CFG_MASK. -/
def F.WAK_CFG_MASK_MASK : Fld := ⟨R.WAK_CFG_MASK, 31, 0⟩

/-- WAK_TRCVn_CTL, spec/11_wake_sleep.md. -/
def R.WAK_TRCV_CTL (n : Nat) : Nat := 0xB0100 + 0x20 * n
/-- STATE bits 31:30 of WAK_TRCVn_CTL. -/
def F.WAK_TRCV_CTL_STATE (n : Nat) : Fld := ⟨R.WAK_TRCV_CTL n, 31, 30⟩
/-- SW_EN bits 29:29 of WAK_TRCVn_CTL. -/
def F.WAK_TRCV_CTL_SW_EN (n : Nat) : Fld := ⟨R.WAK_TRCV_CTL n, 29, 29⟩
/-- FD_PASSIVE bits 28:28 of WAK_TRCVn_CTL. -/
def F.WAK_TRCV_CTL_FD_PASSIVE (n : Nat) : Fld := ⟨R.WAK_TRCV_CTL n, 28, 28⟩
/-- SW_RATE bits 27:26 of WAK_TRCVn_CTL. -/
def F.WAK_TRCV_CTL_SW_RATE (n : Nat) : Fld := ⟨R.WAK_TRCV_CTL n, 27, 26⟩
/-- XTD bits 25:25 of WAK_TRCVn_CTL. -/
def F.WAK_TRCV_CTL_XTD (n : Nat) : Fld := ⟨R.WAK_TRCV_CTL n, 25, 25⟩
/-- DMASK_EN bits 24:24 of WAK_TRCVn_CTL. -/
def F.WAK_TRCV_CTL_DMASK_EN (n : Nat) : Fld := ⟨R.WAK_TRCV_CTL n, 24, 24⟩
/-- DLC bits 23:20 of WAK_TRCVn_CTL. -/
def F.WAK_TRCV_CTL_DLC (n : Nat) : Fld := ⟨R.WAK_TRCV_CTL n, 23, 20⟩
/-- SLEEP_STATE bits 11:10 of WAK_TRCVn_CTL. -/
def F.WAK_TRCV_CTL_SLEEP_STATE (n : Nat) : Fld := ⟨R.WAK_TRCV_CTL n, 11, 10⟩

/-- WAK_TRCVn_ID, spec/11_wake_sleep.md. -/
def R.WAK_TRCV_ID (n : Nat) : Nat := 0xB0104 + 0x20 * n
/-- VALUE bits 28:0 of WAK_TRCVn_ID. -/
def F.WAK_TRCV_ID_VALUE (n : Nat) : Fld := ⟨R.WAK_TRCV_ID n, 28, 0⟩

/-- WAK_TRCVn_IDMASK, spec/11_wake_sleep.md. -/
def R.WAK_TRCV_IDMASK (n : Nat) : Nat := 0xB0108 + 0x20 * n
/-- VALUE bits 28:0 of WAK_TRCVn_IDMASK. -/
def F.WAK_TRCV_IDMASK_VALUE (n : Nat) : Fld := ⟨R.WAK_TRCV_IDMASK n, 28, 0⟩

/-- WAK_TRCVn_DMASK_LO, spec/11_wake_sleep.md. -/
def R.WAK_TRCV_DMASK_LO (n : Nat) : Nat := 0xB010C + 0x20 * n
/-- MASK bits 31:0 of WAK_TRCVn_DMASK_LO. -/
def F.WAK_TRCV_DMASK_LO_MASK (n : Nat) : Fld := ⟨R.WAK_TRCV_DMASK_LO n, 31, 0⟩

/-- WAK_TRCVn_DMASK_HI, spec/11_wake_sleep.md. -/
def R.WAK_TRCV_DMASK_HI (n : Nat) : Nat := 0xB0110 + 0x20 * n
/-- MASK bits 31:0 of WAK_TRCVn_DMASK_HI. -/
def F.WAK_TRCV_DMASK_HI_MASK (n : Nat) : Fld := ⟨R.WAK_TRCV_DMASK_HI n, 31, 0⟩

/-- WAK_TRCVn_STAT, spec/11_wake_sleep.md. -/
def R.WAK_TRCV_STAT (n : Nat) : Nat := 0xB0114 + 0x20 * n
/-- STATE bits 31:30 of WAK_TRCVn_STAT. -/
def F.WAK_TRCV_STAT_STATE (n : Nat) : Fld := ⟨R.WAK_TRCV_STAT n, 31, 30⟩
/-- WOKE bits 29:29 of WAK_TRCVn_STAT. -/
def F.WAK_TRCV_STAT_WOKE (n : Nat) : Fld := ⟨R.WAK_TRCV_STAT n, 29, 29⟩
/-- FEC_OVF bits 28:28 of WAK_TRCVn_STAT. -/
def F.WAK_TRCV_STAT_FEC_OVF (n : Nat) : Fld := ⟨R.WAK_TRCV_STAT n, 28, 28⟩
/-- FEC bits 5:0 of WAK_TRCVn_STAT. -/
def F.WAK_TRCV_STAT_FEC (n : Nat) : Fld := ⟨R.WAK_TRCV_STAT n, 5, 0⟩

/-! Registers of spec/12_load_channels.md. -/

/-- LDC_EVT, spec/12_load_channels.md. -/
def R.LDC_EVT : Nat := 0xC0000
/-- REV bits 14:14 of LDC_EVT. -/
def F.LDC_EVT_REV : Fld := ⟨R.LDC_EVT, 14, 14⟩
/-- LINK_LOST bits 13:13 of LDC_EVT. -/
def F.LDC_EVT_LINK_LOST : Fld := ⟨R.LDC_EVT, 13, 13⟩
/-- CAST_OFF bits 12:12 of LDC_EVT. -/
def F.LDC_EVT_CAST_OFF : Fld := ⟨R.LDC_EVT, 12, 12⟩
/-- BANK_UV bits 11:11 of LDC_EVT. -/
def F.LDC_EVT_BANK_UV : Fld := ⟨R.LDC_EVT, 11, 11⟩
/-- BANK_OVL bits 10:10 of LDC_EVT. -/
def F.LDC_EVT_BANK_OVL : Fld := ⟨R.LDC_EVT, 10, 10⟩
/-- BANK_FOLD bits 9:9 of LDC_EVT. -/
def F.LDC_EVT_BANK_FOLD : Fld := ⟨R.LDC_EVT, 9, 9⟩
/-- CH_UV bits 8:8 of LDC_EVT. -/
def F.LDC_EVT_CH_UV : Fld := ⟨R.LDC_EVT, 8, 8⟩
/-- STB bits 7:7 of LDC_EVT. -/
def F.LDC_EVT_STB : Fld := ⟨R.LDC_EVT, 7, 7⟩
/-- OPEN_LOAD bits 6:6 of LDC_EVT. -/
def F.LDC_EVT_OPEN_LOAD : Fld := ⟨R.LDC_EVT, 6, 6⟩
/-- RETRY_EXH bits 5:5 of LDC_EVT. -/
def F.LDC_EVT_RETRY_EXH : Fld := ⟨R.LDC_EVT, 5, 5⟩
/-- LATCH bits 4:4 of LDC_EVT. -/
def F.LDC_EVT_LATCH : Fld := ⟨R.LDC_EVT, 4, 4⟩
/-- THERM bits 3:3 of LDC_EVT. -/
def F.LDC_EVT_THERM : Fld := ⟨R.LDC_EVT, 3, 3⟩
/-- FAST_TRIP bits 2:2 of LDC_EVT. -/
def F.LDC_EVT_FAST_TRIP : Fld := ⟨R.LDC_EVT, 2, 2⟩
/-- TRIP bits 1:1 of LDC_EVT. -/
def F.LDC_EVT_TRIP : Fld := ⟨R.LDC_EVT, 1, 1⟩
/-- SHED bits 0:0 of LDC_EVT. -/
def F.LDC_EVT_SHED : Fld := ⟨R.LDC_EVT, 0, 0⟩

/-- LDC_EVT_EN, spec/12_load_channels.md. -/
def R.LDC_EVT_EN : Nat := 0xC0004
/-- EN bits 14:0 of LDC_EVT_EN. -/
def F.LDC_EVT_EN_EN : Fld := ⟨R.LDC_EVT_EN, 14, 0⟩

/-- LDC_EVT_VEC, spec/12_load_channels.md. -/
def R.LDC_EVT_VEC : Nat := 0xC0008
/-- MSIX bits 21:16 of LDC_EVT_VEC. -/
def F.LDC_EVT_VEC_MSIX : Fld := ⟨R.LDC_EVT_VEC, 21, 16⟩
/-- AIA_ID bits 9:0 of LDC_EVT_VEC. -/
def F.LDC_EVT_VEC_AIA_ID : Fld := ⟨R.LDC_EVT_VEC, 9, 0⟩

/-- LDC_SHED, spec/12_load_channels.md. -/
def R.LDC_SHED : Nat := 0xC0010
/-- CH bits 31:0 of LDC_SHED. -/
def F.LDC_SHED_CH : Fld := ⟨R.LDC_SHED, 31, 0⟩

/-- LDC_TIED, spec/12_load_channels.md. -/
def R.LDC_TIED : Nat := 0xC0014
/-- CH bits 31:0 of LDC_TIED. -/
def F.LDC_TIED_CH : Fld := ⟨R.LDC_TIED, 31, 0⟩

/-- LDC_CFG_MASK, spec/12_load_channels.md. -/
def R.LDC_CFG_MASK : Nat := 0xC0018
/-- MASK bits 31:0 of LDC_CFG_MASK. -/
def F.LDC_CFG_MASK_MASK : Fld := ⟨R.LDC_CFG_MASK, 31, 0⟩

/-- LDC_FLT_CHAN, spec/12_load_channels.md. -/
def R.LDC_FLT_CHAN : Nat := 0xC001C
/-- CH bits 31:0 of LDC_FLT_CHAN. -/
def F.LDC_FLT_CHAN_CH : Fld := ⟨R.LDC_FLT_CHAN, 31, 0⟩

/-- LDC_LAST_INFO, spec/12_load_channels.md. -/
def R.LDC_LAST_INFO : Nat := 0xC0020
/-- EVENT bits 31:28 of LDC_LAST_INFO. -/
def F.LDC_LAST_INFO_EVENT : Fld := ⟨R.LDC_LAST_INFO, 31, 28⟩
/-- CHANNEL bits 4:0 of LDC_LAST_INFO. -/
def F.LDC_LAST_INFO_CHANNEL : Fld := ⟨R.LDC_LAST_INFO, 4, 0⟩

/-- LDC_Bb_CTL, spec/12_load_channels.md. -/
def R.LDC_B_CTL (b : Nat) : Nat := 0xC0100 + 0x20 * b
/-- SYNC_TRG bits 31:28 of LDC_Bb_CTL. -/
def F.LDC_B_CTL_SYNC_TRG (b : Nat) : Fld := ⟨R.LDC_B_CTL b, 31, 28⟩
/-- SAMPLE_TRG bits 27:24 of LDC_Bb_CTL. -/
def F.LDC_B_CTL_SAMPLE_TRG (b : Nat) : Fld := ⟨R.LDC_B_CTL b, 27, 24⟩
/-- SYNC_EN bits 23:23 of LDC_Bb_CTL. -/
def F.LDC_B_CTL_SYNC_EN (b : Nat) : Fld := ⟨R.LDC_B_CTL b, 23, 23⟩
/-- PWM_HZ bits 20:6 of LDC_Bb_CTL. -/
def F.LDC_B_CTL_PWM_HZ (b : Nat) : Fld := ⟨R.LDC_B_CTL b, 20, 6⟩
/-- WD_MS bits 5:0 of LDC_Bb_CTL. -/
def F.LDC_B_CTL_WD_MS (b : Nat) : Fld := ⟨R.LDC_B_CTL b, 5, 0⟩

/-- LDC_Bb_STAT, spec/12_load_channels.md. -/
def R.LDC_B_STAT (b : Nat) : Nat := 0xC0104 + 0x20 * b
/-- CAST_OFF bits 31:31 of LDC_Bb_STAT. -/
def F.LDC_B_STAT_CAST_OFF (b : Nat) : Fld := ⟨R.LDC_B_STAT b, 31, 31⟩
/-- LINK_OK bits 30:30 of LDC_Bb_STAT. -/
def F.LDC_B_STAT_LINK_OK (b : Nat) : Fld := ⟨R.LDC_B_STAT b, 30, 30⟩
/-- UV bits 29:29 of LDC_Bb_STAT. -/
def F.LDC_B_STAT_UV (b : Nat) : Fld := ⟨R.LDC_B_STAT b, 29, 29⟩
/-- REV bits 28:28 of LDC_Bb_STAT. -/
def F.LDC_B_STAT_REV (b : Nat) : Fld := ⟨R.LDC_B_STAT b, 28, 28⟩
/-- FOLD bits 27:27 of LDC_Bb_STAT. -/
def F.LDC_B_STAT_FOLD (b : Nat) : Fld := ⟨R.LDC_B_STAT b, 27, 27⟩

/-- LDC_Bb_V, spec/12_load_channels.md. -/
def R.LDC_B_V (b : Nat) : Nat := 0xC0108 + 0x20 * b
/-- VBANK bits 15:0 of LDC_Bb_V. -/
def F.LDC_B_V_VBANK (b : Nat) : Fld := ⟨R.LDC_B_V b, 15, 0⟩

/-- LDC_Bb_I, spec/12_load_channels.md. -/
def R.LDC_B_I (b : Nat) : Nat := 0xC010C + 0x20 * b
/-- CURRENT bits 16:0 of LDC_Bb_I. -/
def F.LDC_B_I_CURRENT (b : Nat) : Fld := ⟨R.LDC_B_I b, 16, 0⟩

/-- LDC_Bb_TC, spec/12_load_channels.md. -/
def R.LDC_B_TC (b : Nat) : Nat := 0xC0110 + 0x20 * b
/-- TC bits 8:0 of LDC_Bb_TC. -/
def F.LDC_B_TC_TC (b : Nat) : Fld := ⟨R.LDC_B_TC b, 8, 0⟩

/-- LDC_Ln_STAT, spec/12_load_channels.md. -/
def R.LDC_L_STAT (n : Nat) : Nat := 0xC0400 + 0x10 * n
/-- STATE bits 31:29 of LDC_Ln_STAT. -/
def F.LDC_L_STAT_STATE (n : Nat) : Fld := ⟨R.LDC_L_STAT n, 31, 29⟩
/-- CMD_ON bits 28:28 of LDC_Ln_STAT. -/
def F.LDC_L_STAT_CMD_ON (n : Nat) : Fld := ⟨R.LDC_L_STAT n, 28, 28⟩
/-- PWM bits 27:27 of LDC_Ln_STAT. -/
def F.LDC_L_STAT_PWM (n : Nat) : Fld := ⟨R.LDC_L_STAT n, 27, 27⟩
/-- LIMITING bits 26:26 of LDC_Ln_STAT. -/
def F.LDC_L_STAT_LIMITING (n : Nat) : Fld := ⟨R.LDC_L_STAT n, 26, 26⟩
/-- OL_ON bits 25:25 of LDC_Ln_STAT. -/
def F.LDC_L_STAT_OL_ON (n : Nat) : Fld := ⟨R.LDC_L_STAT n, 25, 25⟩
/-- OL_OFF bits 24:24 of LDC_Ln_STAT. -/
def F.LDC_L_STAT_OL_OFF (n : Nat) : Fld := ⟨R.LDC_L_STAT n, 24, 24⟩
/-- STB bits 23:23 of LDC_Ln_STAT. -/
def F.LDC_L_STAT_STB (n : Nat) : Fld := ⟨R.LDC_L_STAT n, 23, 23⟩
/-- UV bits 22:22 of LDC_Ln_STAT. -/
def F.LDC_L_STAT_UV (n : Nat) : Fld := ⟨R.LDC_L_STAT n, 22, 22⟩
/-- RANGE_L bits 21:21 of LDC_Ln_STAT. -/
def F.LDC_L_STAT_RANGE_L (n : Nat) : Fld := ⟨R.LDC_L_STAT n, 21, 21⟩
/-- TRIP_KIND bits 20:18 of LDC_Ln_STAT. -/
def F.LDC_L_STAT_TRIP_KIND (n : Nat) : Fld := ⟨R.LDC_L_STAT n, 20, 18⟩
/-- RETRY_LEFT bits 17:14 of LDC_Ln_STAT. -/
def F.LDC_L_STAT_RETRY_LEFT (n : Nat) : Fld := ⟨R.LDC_L_STAT n, 17, 14⟩
/-- THERM_CNT bits 13:10 of LDC_Ln_STAT. -/
def F.LDC_L_STAT_THERM_CNT (n : Nat) : Fld := ⟨R.LDC_L_STAT n, 13, 10⟩
/-- LEAD bits 4:0 of LDC_Ln_STAT. -/
def F.LDC_L_STAT_LEAD (n : Nat) : Fld := ⟨R.LDC_L_STAT n, 4, 0⟩

/-- LDC_Ln_I, spec/12_load_channels.md. -/
def R.LDC_L_I (n : Nat) : Nat := 0xC0404 + 0x10 * n
/-- CURRENT bits 23:0 of LDC_Ln_I. -/
def F.LDC_L_I_CURRENT (n : Nat) : Fld := ⟨R.LDC_L_I n, 23, 0⟩

/-- LDC_Ln_V, spec/12_load_channels.md. -/
def R.LDC_L_V (n : Nat) : Nat := 0xC0408 + 0x10 * n
/-- VOUT bits 15:0 of LDC_Ln_V. -/
def F.LDC_L_V_VOUT (n : Nat) : Fld := ⟨R.LDC_L_V n, 15, 0⟩

/-- LDC_Ln_T, spec/12_load_channels.md. -/
def R.LDC_L_T (n : Nat) : Nat := 0xC040C + 0x10 * n
/-- TJ bits 25:16 of LDC_Ln_T. -/
def F.LDC_L_T_TJ (n : Nat) : Fld := ⟨R.LDC_L_T n, 25, 16⟩
/-- DT bits 7:0 of LDC_Ln_T. -/
def F.LDC_L_T_DT (n : Nat) : Fld := ⟨R.LDC_L_T n, 7, 0⟩

/-- LDC_IGRPn, spec/12_load_channels.md. -/
def R.LDC_IGRP (n : Nat) : Nat := 0xC0800 + 0x4 * n
/-- CURRENT bits 16:0 of LDC_IGRPn. -/
def F.LDC_IGRP_CURRENT (n : Nat) : Fld := ⟨R.LDC_IGRP n, 16, 0⟩

/-! Registers of spec/13_serial_and_inputs.md. -/

/-- SIO_EVT, spec/13_serial_and_inputs.md. -/
def R.SIO_EVT : Nat := 0xD0000
/-- CHAR_ERR bits 6:6 of SIO_EVT. -/
def F.SIO_EVT_CHAR_ERR : Fld := ⟨R.SIO_EVT, 6, 6⟩
/-- PDU_LONG bits 5:5 of SIO_EVT. -/
def F.SIO_EVT_PDU_LONG : Fld := ⟨R.SIO_EVT, 5, 5⟩
/-- NOMATCH bits 4:4 of SIO_EVT. -/
def F.SIO_EVT_NOMATCH : Fld := ⟨R.SIO_EVT, 4, 4⟩
/-- COLLISION bits 3:3 of SIO_EVT. -/
def F.SIO_EVT_COLLISION : Fld := ⟨R.SIO_EVT, 3, 3⟩
/-- POL bits 2:2 of SIO_EVT. -/
def F.SIO_EVT_POL : Fld := ⟨R.SIO_EVT, 2, 2⟩
/-- SUP_FAULT bits 1:1 of SIO_EVT. -/
def F.SIO_EVT_SUP_FAULT : Fld := ⟨R.SIO_EVT, 1, 1⟩
/-- DIN_CHG bits 0:0 of SIO_EVT. -/
def F.SIO_EVT_DIN_CHG : Fld := ⟨R.SIO_EVT, 0, 0⟩

/-- SIO_EVT_EN, spec/13_serial_and_inputs.md. -/
def R.SIO_EVT_EN : Nat := 0xD0004
/-- EN bits 6:0 of SIO_EVT_EN. -/
def F.SIO_EVT_EN_EN : Fld := ⟨R.SIO_EVT_EN, 6, 0⟩

/-- SIO_EVT_VEC, spec/13_serial_and_inputs.md. -/
def R.SIO_EVT_VEC : Nat := 0xD0008
/-- MSIX bits 21:16 of SIO_EVT_VEC. -/
def F.SIO_EVT_VEC_MSIX : Fld := ⟨R.SIO_EVT_VEC, 21, 16⟩
/-- AIA_ID bits 9:0 of SIO_EVT_VEC. -/
def F.SIO_EVT_VEC_AIA_ID : Fld := ⟨R.SIO_EVT_VEC, 9, 0⟩

/-- SIO_CFG_MASK, spec/13_serial_and_inputs.md. -/
def R.SIO_CFG_MASK : Nat := 0xD0010
/-- MASK bits 31:0 of SIO_CFG_MASK. -/
def F.SIO_CFG_MASK_MASK : Fld := ⟨R.SIO_CFG_MASK, 31, 0⟩

/-- SIO_Un_CTL, spec/13_serial_and_inputs.md. -/
def R.SIO_U_CTL (n : Nat) : Nat := 0xD0100 + 0x80 * n
/-- EN bits 31:31 of SIO_Un_CTL. -/
def F.SIO_U_CTL_EN (n : Nat) : Fld := ⟨R.SIO_U_CTL n, 31, 31⟩
/-- POL_AUTO bits 30:30 of SIO_Un_CTL. -/
def F.SIO_U_CTL_POL_AUTO (n : Nat) : Fld := ⟨R.SIO_U_CTL n, 30, 30⟩
/-- POL_INV bits 29:29 of SIO_Un_CTL. -/
def F.SIO_U_CTL_POL_INV (n : Nat) : Fld := ⟨R.SIO_U_CTL n, 29, 29⟩
/-- TERM_EN bits 28:28 of SIO_Un_CTL. -/
def F.SIO_U_CTL_TERM_EN (n : Nat) : Fld := ⟨R.SIO_U_CTL n, 28, 28⟩
/-- BIAS_EN bits 27:27 of SIO_Un_CTL. -/
def F.SIO_U_CTL_BIAS_EN (n : Nat) : Fld := ⟨R.SIO_U_CTL n, 27, 27⟩
/-- SLEW bits 26:26 of SIO_Un_CTL. -/
def F.SIO_U_CTL_SLEW (n : Nat) : Fld := ⟨R.SIO_U_CTL n, 26, 26⟩
/-- ECHO_CHK bits 25:25 of SIO_Un_CTL. -/
def F.SIO_U_CTL_ECHO_CHK (n : Nat) : Fld := ⟨R.SIO_U_CTL n, 25, 25⟩
/-- PARITY bits 24:23 of SIO_Un_CTL. -/
def F.SIO_U_CTL_PARITY (n : Nat) : Fld := ⟨R.SIO_U_CTL n, 24, 23⟩
/-- STOP2 bits 22:22 of SIO_Un_CTL. -/
def F.SIO_U_CTL_STOP2 (n : Nat) : Fld := ⟨R.SIO_U_CTL n, 22, 22⟩
/-- DATA7 bits 21:21 of SIO_Un_CTL. -/
def F.SIO_U_CTL_DATA7 (n : Nat) : Fld := ⟨R.SIO_U_CTL n, 21, 21⟩
/-- TURN bits 20:17 of SIO_Un_CTL. -/
def F.SIO_U_CTL_TURN (n : Nat) : Fld := ⟨R.SIO_U_CTL n, 20, 17⟩
/-- TX_IDLE bits 16:12 of SIO_Un_CTL. -/
def F.SIO_U_CTL_TX_IDLE (n : Nat) : Fld := ⟨R.SIO_U_CTL n, 16, 12⟩
/-- MAX_PDU bits 9:0 of SIO_Un_CTL. -/
def F.SIO_U_CTL_MAX_PDU (n : Nat) : Fld := ⟨R.SIO_U_CTL n, 9, 0⟩

/-- SIO_Un_BAUD, spec/13_serial_and_inputs.md. -/
def R.SIO_U_BAUD (n : Nat) : Nat := 0xD0104 + 0x80 * n
/-- DIV bits 22:0 of SIO_Un_BAUD. -/
def F.SIO_U_BAUD_DIV (n : Nat) : Fld := ⟨R.SIO_U_BAUD n, 22, 0⟩

/-- SIO_Un_FRM, spec/13_serial_and_inputs.md. -/
def R.SIO_U_FRM (n : Nat) : Nat := 0xD0108 + 0x80 * n
/-- MODE bits 31:31 of SIO_Un_FRM. -/
def F.SIO_U_FRM_MODE (n : Nat) : Fld := ⟨R.SIO_U_FRM n, 31, 31⟩
/-- ESC_EN bits 30:30 of SIO_Un_FRM. -/
def F.SIO_U_FRM_ESC_EN (n : Nat) : Fld := ⟨R.SIO_U_FRM n, 30, 30⟩
/-- GAP bits 29:24 of SIO_Un_FRM. -/
def F.SIO_U_FRM_GAP (n : Nat) : Fld := ⟨R.SIO_U_FRM n, 29, 24⟩
/-- SOF bits 23:16 of SIO_Un_FRM. -/
def F.SIO_U_FRM_SOF (n : Nat) : Fld := ⟨R.SIO_U_FRM n, 23, 16⟩
/-- EOF bits 15:8 of SIO_Un_FRM. -/
def F.SIO_U_FRM_EOF (n : Nat) : Fld := ⟨R.SIO_U_FRM n, 15, 8⟩
/-- ESC bits 7:0 of SIO_Un_FRM. -/
def F.SIO_U_FRM_ESC (n : Nat) : Fld := ⟨R.SIO_U_FRM n, 7, 0⟩

/-- SIO_Un_STAT, spec/13_serial_and_inputs.md. -/
def R.SIO_U_STAT (n : Nat) : Nat := 0xD010C + 0x80 * n
/-- RX_BUSY bits 31:31 of SIO_Un_STAT. -/
def F.SIO_U_STAT_RX_BUSY (n : Nat) : Fld := ⟨R.SIO_U_STAT n, 31, 31⟩
/-- TX_BUSY bits 30:30 of SIO_Un_STAT. -/
def F.SIO_U_STAT_TX_BUSY (n : Nat) : Fld := ⟨R.SIO_U_STAT n, 30, 30⟩
/-- POL_INV bits 29:29 of SIO_Un_STAT. -/
def F.SIO_U_STAT_POL_INV (n : Nat) : Fld := ⟨R.SIO_U_STAT n, 29, 29⟩
/-- POL_UNKNOWN bits 28:28 of SIO_Un_STAT. -/
def F.SIO_U_STAT_POL_UNKNOWN (n : Nat) : Fld := ⟨R.SIO_U_STAT n, 28, 28⟩

/-- SIO_Un_PATk, spec/13_serial_and_inputs.md. -/
def R.SIO_U_PAT (n : Nat) (k : Nat) : Nat := 0xD0140 + 0x80 * n + 0x4 * k
/-- EN bits 31:31 of SIO_Un_PATk. -/
def F.SIO_U_PAT_EN (n : Nat) (k : Nat) : Fld := ⟨R.SIO_U_PAT n k, 31, 31⟩
/-- OFF bits 24:16 of SIO_Un_PATk. -/
def F.SIO_U_PAT_OFF (n : Nat) (k : Nat) : Fld := ⟨R.SIO_U_PAT n k, 24, 16⟩
/-- VAL bits 15:8 of SIO_Un_PATk. -/
def F.SIO_U_PAT_VAL (n : Nat) (k : Nat) : Fld := ⟨R.SIO_U_PAT n k, 15, 8⟩
/-- MASK bits 7:0 of SIO_Un_PATk. -/
def F.SIO_U_PAT_MASK (n : Nat) (k : Nat) : Fld := ⟨R.SIO_U_PAT n k, 7, 0⟩

/-- SIO_Gg_CTL, spec/13_serial_and_inputs.md. -/
def R.SIO_G_CTL (g : Nat) : Nat := 0xD0800 + 0x4 * g
/-- SYS bits 31:30 of SIO_Gg_CTL. -/
def F.SIO_G_CTL_SYS (g : Nat) : Fld := ⟨R.SIO_G_CTL g, 31, 30⟩
/-- SAMPLE_TRG bits 29:26 of SIO_Gg_CTL. -/
def F.SIO_G_CTL_SAMPLE_TRG (g : Nat) : Fld := ⟨R.SIO_G_CTL g, 29, 26⟩
/-- WET_MA bits 25:22 of SIO_Gg_CTL. -/
def F.SIO_G_CTL_WET_MA (g : Nat) : Fld := ⟨R.SIO_G_CTL g, 25, 22⟩
/-- DEB bits 21:14 of SIO_Gg_CTL. -/
def F.SIO_G_CTL_DEB (g : Nat) : Fld := ⟨R.SIO_G_CTL g, 21, 14⟩
/-- WET_US bits 9:0 of SIO_Gg_CTL. -/
def F.SIO_G_CTL_WET_US (g : Nat) : Fld := ⟨R.SIO_G_CTL g, 9, 0⟩

/-! Registers of spec/14_gauge.md. -/

/-- GAU_EVT, spec/14_gauge.md. -/
def R.GAU_EVT : Nat := 0xE0000
/-- BUDGET_OUT bits 10:10 of GAU_EVT. -/
def F.GAU_EVT_BUDGET_OUT : Fld := ⟨R.GAU_EVT, 10, 10⟩
/-- RAISE_DENIED bits 9:9 of GAU_EVT. -/
def F.GAU_EVT_RAISE_DENIED : Fld := ⟨R.GAU_EVT, 9, 9⟩
/-- SAMPLE_GAP bits 8:8 of GAU_EVT. -/
def F.GAU_EVT_SAMPLE_GAP : Fld := ⟨R.GAU_EVT, 8, 8⟩
/-- EMERGENCY bits 7:7 of GAU_EVT. -/
def F.GAU_EVT_EMERGENCY : Fld := ⟨R.GAU_EVT, 7, 7⟩
/-- FLOOR bits 6:6 of GAU_EVT. -/
def F.GAU_EVT_FLOOR : Fld := ⟨R.GAU_EVT, 6, 6⟩
/-- LIMITED bits 5:5 of GAU_EVT. -/
def F.GAU_EVT_LIMITED : Fld := ⟨R.GAU_EVT, 5, 5⟩
/-- REFUSED bits 4:4 of GAU_EVT. -/
def F.GAU_EVT_REFUSED : Fld := ⟨R.GAU_EVT, 4, 4⟩
/-- LEVEL bits 3:3 of GAU_EVT. -/
def F.GAU_EVT_LEVEL : Fld := ⟨R.GAU_EVT, 3, 3⟩
/-- CONSOL bits 2:2 of GAU_EVT. -/
def F.GAU_EVT_CONSOL : Fld := ⟨R.GAU_EVT, 2, 2⟩
/-- UNSHED bits 1:1 of GAU_EVT. -/
def F.GAU_EVT_UNSHED : Fld := ⟨R.GAU_EVT, 1, 1⟩
/-- SHED bits 0:0 of GAU_EVT. -/
def F.GAU_EVT_SHED : Fld := ⟨R.GAU_EVT, 0, 0⟩

/-- GAU_EVT_EN, spec/14_gauge.md. -/
def R.GAU_EVT_EN : Nat := 0xE0004
/-- EN bits 10:0 of GAU_EVT_EN. -/
def F.GAU_EVT_EN_EN : Fld := ⟨R.GAU_EVT_EN, 10, 0⟩

/-- GAU_EVT_VEC, spec/14_gauge.md. -/
def R.GAU_EVT_VEC : Nat := 0xE0008
/-- MSIX bits 21:16 of GAU_EVT_VEC. -/
def F.GAU_EVT_VEC_MSIX : Fld := ⟨R.GAU_EVT_VEC, 21, 16⟩
/-- AIA_ID bits 9:0 of GAU_EVT_VEC. -/
def F.GAU_EVT_VEC_AIA_ID : Fld := ⟨R.GAU_EVT_VEC, 9, 0⟩

/-- GAU_CTL, spec/14_gauge.md. -/
def R.GAU_CTL : Nat := 0xE0010
/-- MAX_LEVEL bits 21:19 of GAU_CTL. -/
def F.GAU_CTL_MAX_LEVEL : Fld := ⟨R.GAU_CTL, 21, 19⟩
/-- MAINS_LEVEL bits 18:16 of GAU_CTL. -/
def F.GAU_CTL_MAINS_LEVEL : Fld := ⟨R.GAU_CTL, 18, 16⟩
/-- HYST bits 15:8 of GAU_CTL. -/
def F.GAU_CTL_HYST : Fld := ⟨R.GAU_CTL, 15, 8⟩
/-- EVAL_MS bits 7:0 of GAU_CTL. -/
def F.GAU_CTL_EVAL_MS : Fld := ⟨R.GAU_CTL, 7, 0⟩

/-- GAU_HORIZON, spec/14_gauge.md. -/
def R.GAU_HORIZON : Nat := 0xE0014
/-- S bits 16:0 of GAU_HORIZON. -/
def F.GAU_HORIZON_S : Fld := ⟨R.GAU_HORIZON, 16, 0⟩

/-- GAU_BASE, spec/14_gauge.md. -/
def R.GAU_BASE : Nat := 0xE0018
/-- MW bits 15:0 of GAU_BASE. -/
def F.GAU_BASE_MW : Fld := ⟨R.GAU_BASE, 15, 0⟩

/-- GAU_CFG_MASK, spec/14_gauge.md. -/
def R.GAU_CFG_MASK : Nat := 0xE001C
/-- MASK bits 31:0 of GAU_CFG_MASK. -/
def F.GAU_CFG_MASK_MASK : Fld := ⟨R.GAU_CFG_MASK, 31, 0⟩

/-- GAU_STAT, spec/14_gauge.md. -/
def R.GAU_STAT : Nat := 0xE0020
/-- MODE bits 31:30 of GAU_STAT. -/
def F.GAU_STAT_MODE : Fld := ⟨R.GAU_STAT, 31, 30⟩
/-- FLOOR bits 29:29 of GAU_STAT. -/
def F.GAU_STAT_FLOOR : Fld := ⟨R.GAU_STAT, 29, 29⟩
/-- LIMITED bits 28:28 of GAU_STAT. -/
def F.GAU_STAT_LIMITED : Fld := ⟨R.GAU_STAT, 28, 28⟩
/-- CONSOL bits 27:27 of GAU_STAT. -/
def F.GAU_STAT_CONSOL : Fld := ⟨R.GAU_STAT, 27, 27⟩
/-- LEVEL bits 26:24 of GAU_STAT. -/
def F.GAU_STAT_LEVEL : Fld := ⟨R.GAU_STAT, 26, 24⟩
/-- SHED_LVL bits 23:20 of GAU_STAT. -/
def F.GAU_STAT_SHED_LVL : Fld := ⟨R.GAU_STAT, 23, 20⟩
/-- CRIT_ENG bits 19:16 of GAU_STAT. -/
def F.GAU_STAT_CRIT_ENG : Fld := ⟨R.GAU_STAT, 19, 16⟩

/-- GAU_BUDGET, spec/14_gauge.md. -/
def R.GAU_BUDGET : Nat := 0xE0024
/-- J bits 31:0 of GAU_BUDGET. -/
def F.GAU_BUDGET_J : Fld := ⟨R.GAU_BUDGET, 31, 0⟩

/-- GAU_FLOOR, spec/14_gauge.md. -/
def R.GAU_FLOOR : Nat := 0xE0028
/-- J bits 31:0 of GAU_FLOOR. -/
def F.GAU_FLOOR_J : Fld := ⟨R.GAU_FLOOR, 31, 0⟩

/-- GAU_LEFT, spec/14_gauge.md. -/
def R.GAU_LEFT : Nat := 0xE002C
/-- J bits 31:0 of GAU_LEFT. -/
def F.GAU_LEFT_J : Fld := ⟨R.GAU_LEFT, 31, 0⟩

/-- GAU_PROJ, spec/14_gauge.md. -/
def R.GAU_PROJ : Nat := 0xE0030
/-- MW bits 31:0 of GAU_PROJ. -/
def F.GAU_PROJ_MW : Fld := ⟨R.GAU_PROJ, 31, 0⟩

/-- GAU_REQ, spec/14_gauge.md. -/
def R.GAU_REQ : Nat := 0xE0034
/-- S bits 16:0 of GAU_REQ. -/
def F.GAU_REQ_S : Fld := ⟨R.GAU_REQ, 16, 0⟩

/-- GAU_LAST_REFUSE, spec/14_gauge.md. -/
def R.GAU_LAST_REFUSE : Nat := 0xE0038
/-- FUNC bits 28:24 of GAU_LAST_REFUSE. -/
def F.GAU_LAST_REFUSE_FUNC : Fld := ⟨R.GAU_LAST_REFUSE, 28, 24⟩
/-- ROUND bits 23:16 of GAU_LAST_REFUSE. -/
def F.GAU_LAST_REFUSE_ROUND : Fld := ⟨R.GAU_LAST_REFUSE, 23, 16⟩
/-- OPCODE bits 15:0 of GAU_LAST_REFUSE. -/
def F.GAU_LAST_REFUSE_OPCODE : Fld := ⟨R.GAU_LAST_REFUSE, 15, 0⟩

/-- GAU_LATCH, spec/14_gauge.md. -/
def R.GAU_LATCH : Nat := 0xE003C
/-- GO bits 0:0 of GAU_LATCH. -/
def F.GAU_LATCH_GO : Fld := ⟨R.GAU_LATCH, 0, 0⟩

/-- GAU_PNOMn, spec/14_gauge.md. -/
def R.GAU_PNOM (n : Nat) : Nat := 0xE0100 + 0x4 * n
/-- W bits 15:0 of GAU_PNOMn. -/
def F.GAU_PNOM_W (n : Nat) : Fld := ⟨R.GAU_PNOM n, 15, 0⟩

/-- GAU_Pi, spec/14_gauge.md. -/
def R.GAU_P (i : Nat) : Nat := 0xE0200 + 0x4 * i
/-- MW bits 31:0 of GAU_Pi. -/
def F.GAU_P_MW (i : Nat) : Fld := ⟨R.GAU_P i, 31, 0⟩

/-- GAU_Ei_LO, spec/14_gauge.md. -/
def R.GAU_E_LO (i : Nat) : Nat := 0xE0400 + 0x8 * i
/-- UJ bits 31:0 of GAU_Ei_LO. -/
def F.GAU_E_LO_UJ (i : Nat) : Fld := ⟨R.GAU_E_LO i, 31, 0⟩

/-- GAU_Ei_HI, spec/14_gauge.md. -/
def R.GAU_E_HI (i : Nat) : Nat := 0xE0404 + 0x8 * i
/-- UJ bits 15:0 of GAU_Ei_HI. -/
def F.GAU_E_HI_UJ (i : Nat) : Fld := ⟨R.GAU_E_HI i, 15, 0⟩

/-! Registers of spec/15_cores_and_messaging.md. -/

/-- COR_EVT, spec/15_cores_and_messaging.md. -/
def R.COR_EVT : Nat := 0xF0000
/-- LOCKSTEP bits 6:6 of COR_EVT. -/
def F.COR_EVT_LOCKSTEP : Fld := ⟨R.COR_EVT, 6, 6⟩
/-- ROUTE_MISS bits 5:5 of COR_EVT. -/
def F.COR_EVT_ROUTE_MISS : Fld := ⟨R.COR_EVT, 5, 5⟩
/-- SCHED_CUT bits 4:4 of COR_EVT. -/
def F.COR_EVT_SCHED_CUT : Fld := ⟨R.COR_EVT, 4, 4⟩
/-- RESUMED bits 3:3 of COR_EVT. -/
def F.COR_EVT_RESUMED : Fld := ⟨R.COR_EVT, 3, 3⟩
/-- SUSPENDED bits 2:2 of COR_EVT. -/
def F.COR_EVT_SUSPENDED : Fld := ⟨R.COR_EVT, 2, 2⟩
/-- RESTART bits 1:1 of COR_EVT. -/
def F.COR_EVT_RESTART : Fld := ⟨R.COR_EVT, 1, 1⟩
/-- WD bits 0:0 of COR_EVT. -/
def F.COR_EVT_WD : Fld := ⟨R.COR_EVT, 0, 0⟩

/-- COR_EVT_EN, spec/15_cores_and_messaging.md. -/
def R.COR_EVT_EN : Nat := 0xF0004
/-- EN bits 6:0 of COR_EVT_EN. -/
def F.COR_EVT_EN_EN : Fld := ⟨R.COR_EVT_EN, 6, 0⟩

/-- COR_EVT_VEC, spec/15_cores_and_messaging.md. -/
def R.COR_EVT_VEC : Nat := 0xF0008
/-- MSIX bits 21:16 of COR_EVT_VEC. -/
def F.COR_EVT_VEC_MSIX : Fld := ⟨R.COR_EVT_VEC, 21, 16⟩
/-- AIA_ID bits 9:0 of COR_EVT_VEC. -/
def F.COR_EVT_VEC_AIA_ID : Fld := ⟨R.COR_EVT_VEC, 9, 0⟩

/-- COR_LS, spec/15_cores_and_messaging.md. -/
def R.COR_LS : Nat := 0xF0010
/-- ACTIVE bits 19:16 of COR_LS. -/
def F.COR_LS_ACTIVE : Fld := ⟨R.COR_LS, 19, 16⟩
/-- NEXT bits 3:0 of COR_LS. -/
def F.COR_LS_NEXT : Fld := ⟨R.COR_LS, 3, 0⟩

/-- COR_Ak_CTL, spec/15_cores_and_messaging.md. -/
def R.COR_A_CTL (k : Nat) : Nat := 0xF0100 + 0x20 * k
/-- SCHED_EN bits 31:31 of COR_Ak_CTL. -/
def F.COR_A_CTL_SCHED_EN (k : Nat) : Fld := ⟨R.COR_A_CTL k, 31, 31⟩
/-- TRG bits 30:27 of COR_Ak_CTL. -/
def F.COR_A_CTL_TRG (k : Nat) : Fld := ⟨R.COR_A_CTL k, 30, 27⟩
/-- PID bits 4:0 of COR_Ak_CTL. -/
def F.COR_A_CTL_PID (k : Nat) : Fld := ⟨R.COR_A_CTL k, 4, 0⟩

/-- COR_Ak_STAT, spec/15_cores_and_messaging.md. -/
def R.COR_A_STAT (k : Nat) : Nat := 0xF0104 + 0x20 * k
/-- STATE bits 31:30 of COR_Ak_STAT. -/
def F.COR_A_STAT_STATE (k : Nat) : Fld := ⟨R.COR_A_STAT k, 31, 30⟩
/-- PID bits 29:25 of COR_Ak_STAT. -/
def F.COR_A_STAT_PID (k : Nat) : Fld := ⟨R.COR_A_STAT k, 29, 25⟩
/-- ENTRY bits 24:20 of COR_Ak_STAT. -/
def F.COR_A_STAT_ENTRY (k : Nat) : Fld := ⟨R.COR_A_STAT k, 24, 20⟩
/-- RESTART bits 19:19 of COR_Ak_STAT. -/
def F.COR_A_STAT_RESTART (k : Nat) : Fld := ⟨R.COR_A_STAT k, 19, 19⟩
/-- PENDING bits 18:18 of COR_Ak_STAT. -/
def F.COR_A_STAT_PENDING (k : Nat) : Fld := ⟨R.COR_A_STAT k, 18, 18⟩

/-- COR_Ak_WIN_LEFT, spec/15_cores_and_messaging.md. -/
def R.COR_A_WIN_LEFT (k : Nat) : Nat := 0xF0108 + 0x20 * k
/-- US bits 19:0 of COR_Ak_WIN_LEFT. -/
def F.COR_A_WIN_LEFT_US (k : Nat) : Fld := ⟨R.COR_A_WIN_LEFT k, 19, 0⟩

/-- COR_Pp_CTL, spec/15_cores_and_messaging.md. -/
def R.COR_P_CTL (p : Nat) : Nat := 0xF0400 + 0x10 * p
/-- EN bits 31:31 of COR_Pp_CTL. -/
def F.COR_P_CTL_EN (p : Nat) : Fld := ⟨R.COR_P_CTL p, 31, 31⟩
/-- CLASS bits 30:29 of COR_Pp_CTL. -/
def F.COR_P_CTL_CLASS (p : Nat) : Fld := ⟨R.COR_P_CTL p, 30, 29⟩
/-- SECURE bits 28:28 of COR_Pp_CTL. -/
def F.COR_P_CTL_SECURE (p : Nat) : Fld := ⟨R.COR_P_CTL p, 28, 28⟩
/-- WD_MS bits 13:0 of COR_Pp_CTL. -/
def F.COR_P_CTL_WD_MS (p : Nat) : Fld := ⟨R.COR_P_CTL p, 13, 0⟩

/-- COR_Pp_KICK, spec/15_cores_and_messaging.md. -/
def R.COR_P_KICK (p : Nat) : Nat := 0xF0404 + 0x10 * p

/-- COR_Pp_STAT, spec/15_cores_and_messaging.md. -/
def R.COR_P_STAT (p : Nat) : Nat := 0xF0408 + 0x10 * p
/-- STATE bits 31:30 of COR_Pp_STAT. -/
def F.COR_P_STAT_STATE (p : Nat) : Fld := ⟨R.COR_P_STAT p, 31, 30⟩
/-- WD_LEFT bits 13:0 of COR_Pp_STAT. -/
def F.COR_P_STAT_WD_LEFT (p : Nat) : Fld := ⟨R.COR_P_STAT p, 13, 0⟩

/-- COR_ROUTEi, spec/15_cores_and_messaging.md. -/
def R.COR_ROUTE (i : Nat) : Nat := 0xF1000 + 0x4 * i
/-- EN bits 31:31 of COR_ROUTEi. -/
def F.COR_ROUTE_EN (i : Nat) : Fld := ⟨R.COR_ROUTE i, 31, 31⟩
/-- CORE bits 30:28 of COR_ROUTEi. -/
def F.COR_ROUTE_CORE (i : Nat) : Fld := ⟨R.COR_ROUTE i, 30, 28⟩
/-- FILE bits 27:25 of COR_ROUTEi. -/
def F.COR_ROUTE_FILE (i : Nat) : Fld := ⟨R.COR_ROUTE i, 27, 25⟩

/-- MBX_EVT, spec/15_cores_and_messaging.md. -/
def R.MBX_EVT : Nat := 0x100000
/-- CFG_BAD bits 4:4 of MBX_EVT. -/
def F.MBX_EVT_CFG_BAD : Fld := ⟨R.MBX_EVT, 4, 4⟩
/-- DENY bits 3:3 of MBX_EVT. -/
def F.MBX_EVT_DENY : Fld := ⟨R.MBX_EVT, 3, 3⟩
/-- CROSSED bits 2:2 of MBX_EVT. -/
def F.MBX_EVT_CROSSED : Fld := ⟨R.MBX_EVT, 2, 2⟩
/-- TIMEOUT bits 1:1 of MBX_EVT. -/
def F.MBX_EVT_TIMEOUT : Fld := ⟨R.MBX_EVT, 1, 1⟩
/-- COLLISION bits 0:0 of MBX_EVT. -/
def F.MBX_EVT_COLLISION : Fld := ⟨R.MBX_EVT, 0, 0⟩

/-- MBX_EVT_EN, spec/15_cores_and_messaging.md. -/
def R.MBX_EVT_EN : Nat := 0x100004
/-- EN bits 4:0 of MBX_EVT_EN. -/
def F.MBX_EVT_EN_EN : Fld := ⟨R.MBX_EVT_EN, 4, 0⟩

/-- MBX_EVT_VEC, spec/15_cores_and_messaging.md. -/
def R.MBX_EVT_VEC : Nat := 0x100008
/-- MSIX bits 21:16 of MBX_EVT_VEC. -/
def F.MBX_EVT_VEC_MSIX : Fld := ⟨R.MBX_EVT_VEC, 21, 16⟩
/-- AIA_ID bits 9:0 of MBX_EVT_VEC. -/
def F.MBX_EVT_VEC_AIA_ID : Fld := ⟨R.MBX_EVT_VEC, 9, 0⟩

/-- MBX_n_SLOTw, spec/15_cores_and_messaging.md. -/
def R.MBX_SLOT (n : Nat) (w : Nat) : Nat := 0x101000 + 0x100 * n + 0x4 * w
/-- DATA bits 31:0 of MBX_n_SLOTw. -/
def F.MBX_SLOT_DATA (n : Nat) (w : Nat) : Fld := ⟨R.MBX_SLOT n w, 31, 0⟩

/-- MBX_n_CFG, spec/15_cores_and_messaging.md. -/
def R.MBX_CFG (n : Nat) : Nat := 0x101040 + 0x100 * n
/-- EN bits 31:31 of MBX_n_CFG. -/
def F.MBX_CFG_EN (n : Nat) : Fld := ⟨R.MBX_CFG n, 31, 31⟩
/-- PEER_EN bits 25:25 of MBX_n_CFG. -/
def F.MBX_CFG_PEER_EN (n : Nat) : Fld := ⟨R.MBX_CFG n, 25, 25⟩
/-- PEER bits 20:16 of MBX_n_CFG. -/
def F.MBX_CFG_PEER (n : Nat) : Fld := ⟨R.MBX_CFG n, 20, 16⟩
/-- RECEIVER bits 12:8 of MBX_n_CFG. -/
def F.MBX_CFG_RECEIVER (n : Nat) : Fld := ⟨R.MBX_CFG n, 12, 8⟩
/-- SENDER bits 4:0 of MBX_n_CFG. -/
def F.MBX_CFG_SENDER (n : Nat) : Fld := ⟨R.MBX_CFG n, 4, 0⟩

/-- MBX_n_TMO, spec/15_cores_and_messaging.md. -/
def R.MBX_TMO (n : Nat) : Nat := 0x101044 + 0x100 * n
/-- US bits 19:0 of MBX_n_TMO. -/
def F.MBX_TMO_US (n : Nat) : Fld := ⟨R.MBX_TMO n, 19, 0⟩

/-- MBX_n_VEC, spec/15_cores_and_messaging.md. -/
def R.MBX_VEC (n : Nat) : Nat := 0x101048 + 0x100 * n
/-- RX_AIA bits 31:22 of MBX_n_VEC. -/
def F.MBX_VEC_RX_AIA (n : Nat) : Fld := ⟨R.MBX_VEC n, 31, 22⟩
/-- TX_AIA bits 21:12 of MBX_n_VEC. -/
def F.MBX_VEC_TX_AIA (n : Nat) : Fld := ⟨R.MBX_VEC n, 21, 12⟩
/-- MSIX bits 5:0 of MBX_n_VEC. -/
def F.MBX_VEC_MSIX (n : Nat) : Fld := ⟨R.MBX_VEC n, 5, 0⟩

/-- MBX_n_STAT, spec/15_cores_and_messaging.md. -/
def R.MBX_STAT (n : Nat) : Nat := 0x10104C + 0x100 * n
/-- FULL bits 31:31 of MBX_n_STAT. -/
def F.MBX_STAT_FULL (n : Nat) : Fld := ⟨R.MBX_STAT n, 31, 31⟩
/-- CROSSED bits 30:30 of MBX_n_STAT. -/
def F.MBX_STAT_CROSSED (n : Nat) : Fld := ⟨R.MBX_STAT n, 30, 30⟩
/-- DOWN bits 21:21 of MBX_n_STAT. -/
def F.MBX_STAT_DOWN (n : Nat) : Fld := ⟨R.MBX_STAT n, 21, 21⟩
/-- TAKEN bits 20:20 of MBX_n_STAT. -/
def F.MBX_STAT_TAKEN (n : Nat) : Fld := ⟨R.MBX_STAT n, 20, 20⟩
/-- TIMEOUT bits 19:19 of MBX_n_STAT. -/
def F.MBX_STAT_TIMEOUT (n : Nat) : Fld := ⟨R.MBX_STAT n, 19, 19⟩
/-- COLLISION bits 18:18 of MBX_n_STAT. -/
def F.MBX_STAT_COLLISION (n : Nat) : Fld := ⟨R.MBX_STAT n, 18, 18⟩
/-- SEQ bits 7:0 of MBX_n_STAT. -/
def F.MBX_STAT_SEQ (n : Nat) : Fld := ⟨R.MBX_STAT n, 7, 0⟩

/-- MBX_n_DB, spec/15_cores_and_messaging.md. -/
def R.MBX_DB (n : Nat) : Nat := 0x101050 + 0x100 * n
/-- GO bits 0:0 of MBX_n_DB. -/
def F.MBX_DB_GO (n : Nat) : Fld := ⟨R.MBX_DB n, 0, 0⟩

/-- MBX_n_TAKE, spec/15_cores_and_messaging.md. -/
def R.MBX_TAKE (n : Nat) : Nat := 0x101054 + 0x100 * n
/-- GO bits 31:31 of MBX_n_TAKE. -/
def F.MBX_TAKE_GO (n : Nat) : Fld := ⟨R.MBX_TAKE n, 31, 31⟩
/-- SEQ bits 7:0 of MBX_n_TAKE. -/
def F.MBX_TAKE_SEQ (n : Nat) : Fld := ⟨R.MBX_TAKE n, 7, 0⟩

/-- QUE_EVT, spec/15_cores_and_messaging.md. -/
def R.QUE_EVT : Nat := 0x110000
/-- ABANDON bits 3:3 of QUE_EVT. -/
def F.QUE_EVT_ABANDON : Fld := ⟨R.QUE_EVT, 3, 3⟩
/-- OFF_WRITE bits 2:2 of QUE_EVT. -/
def F.QUE_EVT_OFF_WRITE : Fld := ⟨R.QUE_EVT, 2, 2⟩
/-- UNDERRUN bits 1:1 of QUE_EVT. -/
def F.QUE_EVT_UNDERRUN : Fld := ⟨R.QUE_EVT, 1, 1⟩
/-- LEVEL bits 0:0 of QUE_EVT. -/
def F.QUE_EVT_LEVEL : Fld := ⟨R.QUE_EVT, 0, 0⟩

/-- QUE_EVT_EN, spec/15_cores_and_messaging.md. -/
def R.QUE_EVT_EN : Nat := 0x110004
/-- EN bits 3:0 of QUE_EVT_EN. -/
def F.QUE_EVT_EN_EN : Fld := ⟨R.QUE_EVT_EN, 3, 0⟩

/-- QUE_EVT_VEC, spec/15_cores_and_messaging.md. -/
def R.QUE_EVT_VEC : Nat := 0x110008
/-- MSIX bits 21:16 of QUE_EVT_VEC. -/
def F.QUE_EVT_VEC_MSIX : Fld := ⟨R.QUE_EVT_VEC, 21, 16⟩
/-- AIA_ID bits 9:0 of QUE_EVT_VEC. -/
def F.QUE_EVT_VEC_AIA_ID : Fld := ⟨R.QUE_EVT_VEC, 9, 0⟩

/-- QUE_LEVEL_LO, spec/15_cores_and_messaging.md. -/
def R.QUE_LEVEL_LO : Nat := 0x110010
/-- Q bits 31:0 of QUE_LEVEL_LO. -/
def F.QUE_LEVEL_LO_Q : Fld := ⟨R.QUE_LEVEL_LO, 31, 0⟩

/-- QUE_LEVEL_HI, spec/15_cores_and_messaging.md. -/
def R.QUE_LEVEL_HI : Nat := 0x110014
/-- Q bits 31:0 of QUE_LEVEL_HI. -/
def F.QUE_LEVEL_HI_Q : Fld := ⟨R.QUE_LEVEL_HI, 31, 0⟩

/-- QUE_Qn_CFG, spec/15_cores_and_messaging.md. -/
def R.QUE_Q_CFG (n : Nat) : Nat := 0x110100 + 0x10 * n
/-- EN bits 31:31 of QUE_Qn_CFG. -/
def F.QUE_Q_CFG_EN (n : Nat) : Fld := ⟨R.QUE_Q_CFG n, 31, 31⟩
/-- LEVEL bits 30:20 of QUE_Qn_CFG. -/
def F.QUE_Q_CFG_LEVEL (n : Nat) : Fld := ⟨R.QUE_Q_CFG n, 30, 20⟩
/-- DEPTH bits 10:0 of QUE_Qn_CFG. -/
def F.QUE_Q_CFG_DEPTH (n : Nat) : Fld := ⟨R.QUE_Q_CFG n, 10, 0⟩

/-- QUE_Qn_VEC, spec/15_cores_and_messaging.md. -/
def R.QUE_Q_VEC (n : Nat) : Nat := 0x110104 + 0x10 * n
/-- AIA_ID bits 9:0 of QUE_Qn_VEC. -/
def F.QUE_Q_VEC_AIA_ID (n : Nat) : Fld := ⟨R.QUE_Q_VEC n, 9, 0⟩

/-- QUE_Qn_STAT, spec/15_cores_and_messaging.md. -/
def R.QUE_Q_STAT (n : Nat) : Nat := 0x110108 + 0x10 * n
/-- EMPTY bits 31:31 of QUE_Qn_STAT. -/
def F.QUE_Q_STAT_EMPTY (n : Nat) : Fld := ⟨R.QUE_Q_STAT n, 31, 31⟩
/-- UNDERRUN bits 30:30 of QUE_Qn_STAT. -/
def F.QUE_Q_STAT_UNDERRUN (n : Nat) : Fld := ⟨R.QUE_Q_STAT n, 30, 30⟩
/-- WAITERS bits 23:16 of QUE_Qn_STAT. -/
def F.QUE_Q_STAT_WAITERS (n : Nat) : Fld := ⟨R.QUE_Q_STAT n, 23, 16⟩
/-- FILL bits 10:0 of QUE_Qn_STAT. -/
def F.QUE_Q_STAT_FILL (n : Nat) : Fld := ⟨R.QUE_Q_STAT n, 10, 0⟩

/-- SEM_EVT, spec/15_cores_and_messaging.md. -/
def R.SEM_EVT : Nat := 0x120000
/-- BAD_REL bits 1:1 of SEM_EVT. -/
def F.SEM_EVT_BAD_REL : Fld := ⟨R.SEM_EVT, 1, 1⟩
/-- RECLAIM bits 0:0 of SEM_EVT. -/
def F.SEM_EVT_RECLAIM : Fld := ⟨R.SEM_EVT, 0, 0⟩

/-- SEM_EVT_EN, spec/15_cores_and_messaging.md. -/
def R.SEM_EVT_EN : Nat := 0x120004
/-- EN bits 1:0 of SEM_EVT_EN. -/
def F.SEM_EVT_EN_EN : Fld := ⟨R.SEM_EVT_EN, 1, 0⟩

/-- SEM_EVT_VEC, spec/15_cores_and_messaging.md. -/
def R.SEM_EVT_VEC : Nat := 0x120008
/-- MSIX bits 21:16 of SEM_EVT_VEC. -/
def F.SEM_EVT_VEC_MSIX : Fld := ⟨R.SEM_EVT_VEC, 21, 16⟩
/-- AIA_ID bits 9:0 of SEM_EVT_VEC. -/
def F.SEM_EVT_VEC_AIA_ID : Fld := ⟨R.SEM_EVT_VEC, 9, 0⟩

/-- SEM_RECLAIM, spec/15_cores_and_messaging.md. -/
def R.SEM_RECLAIM : Nat := 0x120010
/-- GO bits 31:31 of SEM_RECLAIM. -/
def F.SEM_RECLAIM_GO : Fld := ⟨R.SEM_RECLAIM, 31, 31⟩
/-- NUM bits 5:0 of SEM_RECLAIM. -/
def F.SEM_RECLAIM_NUM : Fld := ⟨R.SEM_RECLAIM, 5, 0⟩

/-- SEM_STATn, spec/15_cores_and_messaging.md. -/
def R.SEM_STAT (n : Nat) : Nat := 0x120100 + 0x4 * n
/-- OWNER bits 5:0 of SEM_STATn. -/
def F.SEM_STAT_OWNER (n : Nat) : Fld := ⟨R.SEM_STAT n, 5, 0⟩

/-- SEM_RELn, spec/15_cores_and_messaging.md. -/
def R.SEM_REL (n : Nat) : Nat := 0x120200 + 0x4 * n
/-- PID bits 4:0 of SEM_RELn. -/
def F.SEM_REL_PID (n : Nat) : Fld := ⟨R.SEM_REL n, 4, 0⟩

/-- SEM_ACQn, spec/15_cores_and_messaging.md. -/
def R.SEM_ACQ (n : Nat) : Nat := 0x12F000 + 0x4 * n
/-- RESULT bits 5:0 of SEM_ACQn. -/
def F.SEM_ACQ_RESULT (n : Nat) : Fld := ⟨R.SEM_ACQ n, 5, 0⟩

/-! Registers of spec/16_enclave.md. -/

/-- ENC_EVT, spec/16_enclave.md. -/
def R.ENC_EVT : Nat := 0x130000
/-- RNG_FAIL bits 6:6 of ENC_EVT. -/
def F.ENC_EVT_RNG_FAIL : Fld := ⟨R.ENC_EVT, 6, 6⟩
/-- REVOKED bits 5:5 of ENC_EVT. -/
def F.ENC_EVT_REVOKED : Fld := ⟨R.ENC_EVT, 5, 5⟩
/-- DEBUG bits 4:4 of ENC_EVT. -/
def F.ENC_EVT_DEBUG : Fld := ⟨R.ENC_EVT, 4, 4⟩
/-- ENROLLED bits 3:3 of ENC_EVT. -/
def F.ENC_EVT_ENROLLED : Fld := ⟨R.ENC_EVT, 3, 3⟩
/-- TORN bits 2:2 of ENC_EVT. -/
def F.ENC_EVT_TORN : Fld := ⟨R.ENC_EVT, 2, 2⟩
/-- UNRAVELLED bits 1:1 of ENC_EVT. -/
def F.ENC_EVT_UNRAVELLED : Fld := ⟨R.ENC_EVT, 1, 1⟩
/-- TAMPER bits 0:0 of ENC_EVT. -/
def F.ENC_EVT_TAMPER : Fld := ⟨R.ENC_EVT, 0, 0⟩

/-- ENC_EVT_EN, spec/16_enclave.md. -/
def R.ENC_EVT_EN : Nat := 0x130004
/-- EN bits 6:0 of ENC_EVT_EN. -/
def F.ENC_EVT_EN_EN : Fld := ⟨R.ENC_EVT_EN, 6, 0⟩

/-- ENC_EVT_VEC, spec/16_enclave.md. -/
def R.ENC_EVT_VEC : Nat := 0x130008
/-- MSIX bits 21:16 of ENC_EVT_VEC. -/
def F.ENC_EVT_VEC_MSIX : Fld := ⟨R.ENC_EVT_VEC, 21, 16⟩
/-- AIA_ID bits 9:0 of ENC_EVT_VEC. -/
def F.ENC_EVT_VEC_AIA_ID : Fld := ⟨R.ENC_EVT_VEC, 9, 0⟩

/-- ENC_STAT, spec/16_enclave.md. -/
def R.ENC_STAT : Nat := 0x130010
/-- STATE bits 31:30 of ENC_STAT. -/
def F.ENC_STAT_STATE : Fld := ⟨R.ENC_STAT, 31, 30⟩
/-- RECORD bits 29:27 of ENC_STAT. -/
def F.ENC_STAT_RECORD : Fld := ⟨R.ENC_STAT, 29, 27⟩
/-- FREE bits 26:24 of ENC_STAT. -/
def F.ENC_STAT_FREE : Fld := ⟨R.ENC_STAT, 26, 24⟩
/-- DEBUG_FUSE bits 23:23 of ENC_STAT. -/
def F.ENC_STAT_DEBUG_FUSE : Fld := ⟨R.ENC_STAT, 23, 23⟩

/-- ENC_ADMIN_MASK, spec/16_enclave.md. -/
def R.ENC_ADMIN_MASK : Nat := 0x130014
/-- MASK bits 31:0 of ENC_ADMIN_MASK. -/
def F.ENC_ADMIN_MASK_MASK : Fld := ⟨R.ENC_ADMIN_MASK, 31, 0⟩

/-- ENC_TAMP_CFG, spec/16_enclave.md. -/
def R.ENC_TAMP_CFG : Nat := 0x130018
/-- LOCK bits 31:31 of ENC_TAMP_CFG. -/
def F.ENC_TAMP_CFG_LOCK : Fld := ⟨R.ENC_TAMP_CFG, 31, 31⟩
/-- TAMP1_HIGH bits 3:3 of ENC_TAMP_CFG. -/
def F.ENC_TAMP_CFG_TAMP1_HIGH : Fld := ⟨R.ENC_TAMP_CFG, 3, 3⟩
/-- TAMP1_EN bits 2:2 of ENC_TAMP_CFG. -/
def F.ENC_TAMP_CFG_TAMP1_EN : Fld := ⟨R.ENC_TAMP_CFG, 2, 2⟩
/-- TAMP0_HIGH bits 1:1 of ENC_TAMP_CFG. -/
def F.ENC_TAMP_CFG_TAMP0_HIGH : Fld := ⟨R.ENC_TAMP_CFG, 1, 1⟩
/-- TAMP0_EN bits 0:0 of ENC_TAMP_CFG. -/
def F.ENC_TAMP_CFG_TAMP0_EN : Fld := ⟨R.ENC_TAMP_CFG, 0, 0⟩

/-- ENC_TAMP_STAT, spec/16_enclave.md. -/
def R.ENC_TAMP_STAT : Nat := 0x13001C
/-- COUNT bits 15:8 of ENC_TAMP_STAT. -/
def F.ENC_TAMP_STAT_COUNT : Fld := ⟨R.ENC_TAMP_STAT, 15, 8⟩
/-- VBAK bits 6:6 of ENC_TAMP_STAT. -/
def F.ENC_TAMP_STAT_VBAK : Fld := ⟨R.ENC_TAMP_STAT, 6, 6⟩
/-- GLITCH bits 5:5 of ENC_TAMP_STAT. -/
def F.ENC_TAMP_STAT_GLITCH : Fld := ⟨R.ENC_TAMP_STAT, 5, 5⟩
/-- TEMP bits 4:4 of ENC_TAMP_STAT. -/
def F.ENC_TAMP_STAT_TEMP : Fld := ⟨R.ENC_TAMP_STAT, 4, 4⟩
/-- VOLT bits 3:3 of ENC_TAMP_STAT. -/
def F.ENC_TAMP_STAT_VOLT : Fld := ⟨R.ENC_TAMP_STAT, 3, 3⟩
/-- MESH bits 2:2 of ENC_TAMP_STAT. -/
def F.ENC_TAMP_STAT_MESH : Fld := ⟨R.ENC_TAMP_STAT, 2, 2⟩
/-- TAMP1 bits 1:1 of ENC_TAMP_STAT. -/
def F.ENC_TAMP_STAT_TAMP1 : Fld := ⟨R.ENC_TAMP_STAT, 1, 1⟩
/-- TAMP0 bits 0:0 of ENC_TAMP_STAT. -/
def F.ENC_TAMP_STAT_TAMP0 : Fld := ⟨R.ENC_TAMP_STAT, 0, 0⟩

/-- ENC_ROOTS, spec/16_enclave.md. -/
def R.ENC_ROOTS : Nat := 0x130020
/-- REV1 bits 3:3 of ENC_ROOTS. -/
def F.ENC_ROOTS_REV1 : Fld := ⟨R.ENC_ROOTS, 3, 3⟩
/-- SET1 bits 2:2 of ENC_ROOTS. -/
def F.ENC_ROOTS_SET1 : Fld := ⟨R.ENC_ROOTS, 2, 2⟩
/-- REV0 bits 1:1 of ENC_ROOTS. -/
def F.ENC_ROOTS_REV0 : Fld := ⟨R.ENC_ROOTS, 1, 1⟩
/-- SET0 bits 0:0 of ENC_ROOTS. -/
def F.ENC_ROOTS_SET0 : Fld := ⟨R.ENC_ROOTS, 0, 0⟩

/-- ENC_SLOT_SEL, spec/16_enclave.md. -/
def R.ENC_SLOT_SEL : Nat := 0x130030
/-- SLOT bits 5:0 of ENC_SLOT_SEL. -/
def F.ENC_SLOT_SEL_SLOT : Fld := ⟨R.ENC_SLOT_SEL, 5, 0⟩

/-- ENC_SLOT_INFO, spec/16_enclave.md. -/
def R.ENC_SLOT_INFO : Nat := 0x130034
/-- TYPE bits 10:8 of ENC_SLOT_INFO. -/
def F.ENC_SLOT_INFO_TYPE : Fld := ⟨R.ENC_SLOT_INFO, 10, 8⟩
/-- OPS bits 4:0 of ENC_SLOT_INFO. -/
def F.ENC_SLOT_INFO_OPS : Fld := ⟨R.ENC_SLOT_INFO, 4, 0⟩

/-- ENC_SLOT_PMASK, spec/16_enclave.md. -/
def R.ENC_SLOT_PMASK : Nat := 0x130038
/-- PMASK bits 31:0 of ENC_SLOT_PMASK. -/
def F.ENC_SLOT_PMASK_PMASK : Fld := ⟨R.ENC_SLOT_PMASK, 31, 0⟩

/-! Registers of spec/17_cast_on_update.md. -/

/-- BOO_EVT, spec/17_cast_on_update.md. -/
def R.BOO_EVT : Nat := 0x140000
/-- CONFIG_BAD bits 7:7 of BOO_EVT. -/
def F.BOO_EVT_CONFIG_BAD : Fld := ⟨R.BOO_EVT, 7, 7⟩
/-- IGION bits 6:6 of BOO_EVT. -/
def F.BOO_EVT_IGION : Fld := ⟨R.BOO_EVT, 6, 6⟩
/-- CHAIN_FAIL bits 5:5 of BOO_EVT. -/
def F.BOO_EVT_CHAIN_FAIL : Fld := ⟨R.BOO_EVT, 5, 5⟩
/-- RESTORED bits 4:4 of BOO_EVT. -/
def F.BOO_EVT_RESTORED : Fld := ⟨R.BOO_EVT, 4, 4⟩
/-- CONFIRMED bits 3:3 of BOO_EVT. -/
def F.BOO_EVT_CONFIRMED : Fld := ⟨R.BOO_EVT, 3, 3⟩
/-- TRIAL bits 2:2 of BOO_EVT. -/
def F.BOO_EVT_TRIAL : Fld := ⟨R.BOO_EVT, 2, 2⟩
/-- STAGE_FAIL bits 1:1 of BOO_EVT. -/
def F.BOO_EVT_STAGE_FAIL : Fld := ⟨R.BOO_EVT, 1, 1⟩
/-- STAGED bits 0:0 of BOO_EVT. -/
def F.BOO_EVT_STAGED : Fld := ⟨R.BOO_EVT, 0, 0⟩

/-- BOO_EVT_EN, spec/17_cast_on_update.md. -/
def R.BOO_EVT_EN : Nat := 0x140004
/-- EN bits 7:0 of BOO_EVT_EN. -/
def F.BOO_EVT_EN_EN : Fld := ⟨R.BOO_EVT_EN, 7, 0⟩

/-- BOO_EVT_VEC, spec/17_cast_on_update.md. -/
def R.BOO_EVT_VEC : Nat := 0x140008
/-- MSIX bits 21:16 of BOO_EVT_VEC. -/
def F.BOO_EVT_VEC_MSIX : Fld := ⟨R.BOO_EVT_VEC, 21, 16⟩
/-- AIA_ID bits 9:0 of BOO_EVT_VEC. -/
def F.BOO_EVT_VEC_AIA_ID : Fld := ⟨R.BOO_EVT_VEC, 9, 0⟩

/-- BOO_CTL, spec/17_cast_on_update.md. -/
def R.BOO_CTL : Nat := 0x140010
/-- IGION_EN bits 31:31 of BOO_CTL. -/
def F.BOO_CTL_IGION_EN : Fld := ⟨R.BOO_CTL, 31, 31⟩
/-- CHAIN_EN bits 30:30 of BOO_CTL. -/
def F.BOO_CTL_CHAIN_EN : Fld := ⟨R.BOO_CTL, 30, 30⟩
/-- CHAIN_FWD bits 29:29 of BOO_CTL. -/
def F.BOO_CTL_CHAIN_FWD : Fld := ⟨R.BOO_CTL, 29, 29⟩
/-- IGION_RESET bits 28:28 of BOO_CTL. -/
def F.BOO_CTL_IGION_RESET : Fld := ⟨R.BOO_CTL, 28, 28⟩
/-- CHAIN_CLASS bits 2:0 of BOO_CTL. -/
def F.BOO_CTL_CHAIN_CLASS : Fld := ⟨R.BOO_CTL, 2, 0⟩

/-- BOO_CFG_MASK, spec/17_cast_on_update.md. -/
def R.BOO_CFG_MASK : Nat := 0x140014
/-- MASK bits 31:0 of BOO_CFG_MASK. -/
def F.BOO_CFG_MASK_MASK : Fld := ⟨R.BOO_CFG_MASK, 31, 0⟩

/-- BOO_STRAP, spec/17_cast_on_update.md. -/
def R.BOO_STRAP : Nat := 0x140018
/-- UPD_MODE bits 1:1 of BOO_STRAP. -/
def F.BOO_STRAP_UPD_MODE : Fld := ⟨R.BOO_STRAP, 1, 1⟩
/-- PAIR_RANK bits 0:0 of BOO_STRAP. -/
def F.BOO_STRAP_PAIR_RANK : Fld := ⟨R.BOO_STRAP, 0, 0⟩

/-- BOO_STAT, spec/17_cast_on_update.md. -/
def R.BOO_STAT : Nat := 0x14001C
/-- STAGE bits 31:28 of BOO_STAT. -/
def F.BOO_STAT_STAGE : Fld := ⟨R.BOO_STAT, 31, 28⟩
/-- BOOT_STATE bits 27:25 of BOO_STAT. -/
def F.BOO_STAT_BOOT_STATE : Fld := ⟨R.BOO_STAT, 27, 25⟩
/-- STAGING bits 24:23 of BOO_STAT. -/
def F.BOO_STAT_STAGING : Fld := ⟨R.BOO_STAT, 24, 23⟩
/-- WRITER bits 22:21 of BOO_STAT. -/
def F.BOO_STAT_WRITER : Fld := ⟨R.BOO_STAT, 22, 21⟩
/-- LAST_RESULT bits 7:0 of BOO_STAT. -/
def F.BOO_STAT_LAST_RESULT : Fld := ⟨R.BOO_STAT, 7, 0⟩

/-- BOO_CONFIRM, spec/17_cast_on_update.md. -/
def R.BOO_CONFIRM : Nat := 0x140020
/-- KEY bits 15:0 of BOO_CONFIRM. -/
def F.BOO_CONFIRM_KEY : Fld := ⟨R.BOO_CONFIRM, 15, 0⟩

/-- BOO_TRIAL_LEFT, spec/17_cast_on_update.md. -/
def R.BOO_TRIAL_LEFT : Nat := 0x140024
/-- S bits 10:0 of BOO_TRIAL_LEFT. -/
def F.BOO_TRIAL_LEFT_S : Fld := ⟨R.BOO_TRIAL_LEFT, 10, 0⟩

/-- BOO_FLOOR, spec/17_cast_on_update.md. -/
def R.BOO_FLOOR : Nat := 0x140028
/-- VENDOR bits 14:8 of BOO_FLOOR. -/
def F.BOO_FLOOR_VENDOR : Fld := ⟨R.BOO_FLOOR, 14, 8⟩
/-- CUSTOMER bits 6:0 of BOO_FLOOR. -/
def F.BOO_FLOOR_CUSTOMER : Fld := ⟨R.BOO_FLOOR, 6, 0⟩

/-- BOO_VER_ACTIVE, spec/17_cast_on_update.md. -/
def R.BOO_VER_ACTIVE : Nat := 0x14002C
/-- VERSION bits 31:0 of BOO_VER_ACTIVE. -/
def F.BOO_VER_ACTIVE_VERSION : Fld := ⟨R.BOO_VER_ACTIVE, 31, 0⟩

/-- BOO_VER_FALLBACK, spec/17_cast_on_update.md. -/
def R.BOO_VER_FALLBACK : Nat := 0x140030
/-- VERSION bits 31:0 of BOO_VER_FALLBACK. -/
def F.BOO_VER_FALLBACK_VERSION : Fld := ⟨R.BOO_VER_FALLBACK, 31, 0⟩

/-- BOO_VER_STAGING, spec/17_cast_on_update.md. -/
def R.BOO_VER_STAGING : Nat := 0x140034
/-- VERSION bits 31:0 of BOO_VER_STAGING. -/
def F.BOO_VER_STAGING_VERSION : Fld := ⟨R.BOO_VER_STAGING, 31, 0⟩

/-- BOO_IGION_IP, spec/17_cast_on_update.md. -/
def R.BOO_IGION_IP : Nat := 0x140038
/-- ADDR bits 31:0 of BOO_IGION_IP. -/
def F.BOO_IGION_IP_ADDR : Fld := ⟨R.BOO_IGION_IP, 31, 0⟩

/-- BOO_CHAIN_STAT, spec/17_cast_on_update.md. -/
def R.BOO_CHAIN_STAT : Nat := 0x14003C
/-- SENT bits 31:16 of BOO_CHAIN_STAT. -/
def F.BOO_CHAIN_STAT_SENT : Fld := ⟨R.BOO_CHAIN_STAT, 31, 16⟩
/-- STORED bits 15:0 of BOO_CHAIN_STAT. -/
def F.BOO_CHAIN_STAT_STORED : Fld := ⟨R.BOO_CHAIN_STAT, 15, 0⟩

/-- BOO_CHAINp_MAC_LO, spec/17_cast_on_update.md. -/
def R.BOO_CHAIN_MAC_LO (p : Nat) : Nat := 0x140040 + 0x8 * p
/-- ADDR bits 31:0 of BOO_CHAINp_MAC_LO. -/
def F.BOO_CHAIN_MAC_LO_ADDR (p : Nat) : Fld := ⟨R.BOO_CHAIN_MAC_LO p, 31, 0⟩

/-- BOO_CHAINp_MAC_HI, spec/17_cast_on_update.md. -/
def R.BOO_CHAIN_MAC_HI (p : Nat) : Nat := 0x140044 + 0x8 * p
/-- ADDR bits 15:0 of BOO_CHAINp_MAC_HI. -/
def F.BOO_CHAIN_MAC_HI_ADDR (p : Nat) : Fld := ⟨R.BOO_CHAIN_MAC_HI p, 15, 0⟩

/-! Registers of spec/18_pair.md. -/

/-- PAI_EVT, spec/18_pair.md. -/
def R.PAI_EVT : Nat := 0x150000
/-- SKEW bits 10:10 of PAI_EVT. -/
def F.PAI_EVT_SKEW : Fld := ⟨R.PAI_EVT, 10, 10⟩
/-- CROSSED bits 9:9 of PAI_EVT. -/
def F.PAI_EVT_CROSSED : Fld := ⟨R.PAI_EVT, 9, 9⟩
/-- RANK_CLASH bits 8:8 of PAI_EVT. -/
def F.PAI_EVT_RANK_CLASH : Fld := ⟨R.PAI_EVT, 8, 8⟩
/-- STALE_TERM bits 7:7 of PAI_EVT. -/
def F.PAI_EVT_STALE_TERM : Fld := ⟨R.PAI_EVT, 7, 7⟩
/-- LANE bits 6:6 of PAI_EVT. -/
def F.PAI_EVT_LANE : Fld := ⟨R.PAI_EVT, 6, 6⟩
/-- ISOLATED bits 5:5 of PAI_EVT. -/
def F.PAI_EVT_ISOLATED : Fld := ⟨R.PAI_EVT, 5, 5⟩
/-- SYNCED bits 4:4 of PAI_EVT. -/
def F.PAI_EVT_SYNCED : Fld := ⟨R.PAI_EVT, 4, 4⟩
/-- PARTNER_UP bits 3:3 of PAI_EVT. -/
def F.PAI_EVT_PARTNER_UP : Fld := ⟨R.PAI_EVT, 3, 3⟩
/-- PARTNER_LOST bits 2:2 of PAI_EVT. -/
def F.PAI_EVT_PARTNER_LOST : Fld := ⟨R.PAI_EVT, 2, 2⟩
/-- DEMOTED bits 1:1 of PAI_EVT. -/
def F.PAI_EVT_DEMOTED : Fld := ⟨R.PAI_EVT, 1, 1⟩
/-- PROMOTED bits 0:0 of PAI_EVT. -/
def F.PAI_EVT_PROMOTED : Fld := ⟨R.PAI_EVT, 0, 0⟩

/-- PAI_EVT_EN, spec/18_pair.md. -/
def R.PAI_EVT_EN : Nat := 0x150004
/-- EN bits 10:0 of PAI_EVT_EN. -/
def F.PAI_EVT_EN_EN : Fld := ⟨R.PAI_EVT_EN, 10, 0⟩

/-- PAI_EVT_VEC, spec/18_pair.md. -/
def R.PAI_EVT_VEC : Nat := 0x150008
/-- MSIX bits 21:16 of PAI_EVT_VEC. -/
def F.PAI_EVT_VEC_MSIX : Fld := ⟨R.PAI_EVT_VEC, 21, 16⟩
/-- AIA_ID bits 9:0 of PAI_EVT_VEC. -/
def F.PAI_EVT_VEC_AIA_ID : Fld := ⟨R.PAI_EVT_VEC, 9, 0⟩

/-- PAI_CTL, spec/18_pair.md. -/
def R.PAI_CTL : Nat := 0x150010
/-- EN bits 31:31 of PAI_CTL. -/
def F.PAI_CTL_EN : Fld := ⟨R.PAI_CTL, 31, 31⟩
/-- WITNESS bits 30:30 of PAI_CTL. -/
def F.PAI_CTL_WITNESS : Fld := ⟨R.PAI_CTL, 30, 30⟩
/-- BEACON_EN bits 29:29 of PAI_CTL. -/
def F.PAI_CTL_BEACON_EN : Fld := ⟨R.PAI_CTL, 29, 29⟩
/-- START_MS bits 15:0 of PAI_CTL. -/
def F.PAI_CTL_START_MS : Fld := ⟨R.PAI_CTL, 15, 0⟩

/-- PAI_DEAD, spec/18_pair.md. -/
def R.PAI_DEAD : Nat := 0x150014
/-- DEAD_US bits 15:0 of PAI_DEAD. -/
def F.PAI_DEAD_DEAD_US : Fld := ⟨R.PAI_DEAD, 15, 0⟩

/-- PAI_WITNESS, spec/18_pair.md. -/
def R.PAI_WITNESS : Nat := 0x150018
/-- WITNESS_MS bits 25:16 of PAI_WITNESS. -/
def F.PAI_WITNESS_WITNESS_MS : Fld := ⟨R.PAI_WITNESS, 25, 16⟩
/-- BEACON_MS bits 6:0 of PAI_WITNESS. -/
def F.PAI_WITNESS_BEACON_MS : Fld := ⟨R.PAI_WITNESS, 6, 0⟩

/-- PAI_ID, spec/18_pair.md. -/
def R.PAI_ID : Nat := 0x15001C
/-- PAIR_ID bits 31:0 of PAI_ID. -/
def F.PAI_ID_PAIR_ID : Fld := ⟨R.PAI_ID, 31, 0⟩

/-- PAI_TERM, spec/18_pair.md. -/
def R.PAI_TERM : Nat := 0x150020
/-- TERM bits 31:0 of PAI_TERM. -/
def F.PAI_TERM_TERM : Fld := ⟨R.PAI_TERM, 31, 0⟩

/-- PAI_BEACON_MAC_LO, spec/18_pair.md. -/
def R.PAI_BEACON_MAC_LO : Nat := 0x150024
/-- ADDR bits 31:0 of PAI_BEACON_MAC_LO. -/
def F.PAI_BEACON_MAC_LO_ADDR : Fld := ⟨R.PAI_BEACON_MAC_LO, 31, 0⟩

/-- PAI_BEACON_MAC_HI, spec/18_pair.md. -/
def R.PAI_BEACON_MAC_HI : Nat := 0x150028
/-- ADDR bits 15:0 of PAI_BEACON_MAC_HI. -/
def F.PAI_BEACON_MAC_HI_ADDR : Fld := ⟨R.PAI_BEACON_MAC_HI, 15, 0⟩

/-- PAI_STAT, spec/18_pair.md. -/
def R.PAI_STAT : Nat := 0x15002C
/-- ROLE bits 31:29 of PAI_STAT. -/
def F.PAI_STAT_ROLE : Fld := ⟨R.PAI_STAT, 31, 29⟩
/-- PARTNER_ROLE bits 28:26 of PAI_STAT. -/
def F.PAI_STAT_PARTNER_ROLE : Fld := ⟨R.PAI_STAT, 28, 26⟩
/-- PARTNER_ALIVE bits 25:25 of PAI_STAT. -/
def F.PAI_STAT_PARTNER_ALIVE : Fld := ⟨R.PAI_STAT, 25, 25⟩
/-- SYNCED bits 24:24 of PAI_STAT. -/
def F.PAI_STAT_SYNCED : Fld := ⟨R.PAI_STAT, 24, 24⟩
/-- LANE1_UP bits 23:23 of PAI_STAT. -/
def F.PAI_STAT_LANE1_UP : Fld := ⟨R.PAI_STAT, 23, 23⟩
/-- LANE0_UP bits 22:22 of PAI_STAT. -/
def F.PAI_STAT_LANE0_UP : Fld := ⟨R.PAI_STAT, 22, 22⟩
/-- RANK bits 21:21 of PAI_STAT. -/
def F.PAI_STAT_RANK : Fld := ⟨R.PAI_STAT, 21, 21⟩

/-- PAI_IN_MASK, spec/18_pair.md. -/
def R.PAI_IN_MASK : Nat := 0x150030
/-- MASK bits 31:0 of PAI_IN_MASK. -/
def F.PAI_IN_MASK_MASK : Fld := ⟨R.PAI_IN_MASK, 31, 0⟩

/-- PAI_CFG_MASK, spec/18_pair.md. -/
def R.PAI_CFG_MASK : Nat := 0x150034
/-- MASK bits 31:0 of PAI_CFG_MASK. -/
def F.PAI_CFG_MASK_MASK : Fld := ⟨R.PAI_CFG_MASK, 31, 0⟩

/-- PAI_BRIDGE, spec/18_pair.md. -/
def R.PAI_BRIDGE : Nat := 0x150038
/-- TMO_US bits 31:16 of PAI_BRIDGE. -/
def F.PAI_BRIDGE_TMO_US : Fld := ⟨R.PAI_BRIDGE, 31, 16⟩
/-- CROSS_US bits 9:0 of PAI_BRIDGE. -/
def F.PAI_BRIDGE_CROSS_US : Fld := ⟨R.PAI_BRIDGE, 9, 0⟩

/-- PAI_CROSS_INFO, spec/18_pair.md. -/
def R.PAI_CROSS_INFO : Nat := 0x15003C
/-- OP bits 23:16 of PAI_CROSS_INFO. -/
def F.PAI_CROSS_INFO_OP : Fld := ⟨R.PAI_CROSS_INFO, 23, 16⟩
/-- PID bits 12:8 of PAI_CROSS_INFO. -/
def F.PAI_CROSS_INFO_PID : Fld := ⟨R.PAI_CROSS_INFO, 12, 8⟩

/-- PAI_OFFSET, spec/18_pair.md. -/
def R.PAI_OFFSET : Nat := 0x150040
/-- NS bits 31:0 of PAI_OFFSET. -/
def F.PAI_OFFSET_NS : Fld := ⟨R.PAI_OFFSET, 31, 0⟩

/-! Registers of spec/19_recovery.md. -/

/-- DEV_ID, spec/19_recovery.md. -/
def R.DEV_ID : Nat := 0x10
/-- PART bits 31:16 of DEV_ID. -/
def F.DEV_ID_PART : Fld := ⟨R.DEV_ID, 31, 16⟩
/-- STEP bits 15:8 of DEV_ID. -/
def F.DEV_ID_STEP : Fld := ⟨R.DEV_ID, 15, 8⟩

/-- DEV_STAT, spec/19_recovery.md. -/
def R.DEV_STAT : Nat := 0x14
/-- STATE bits 31:30 of DEV_STAT. -/
def F.DEV_STAT_STATE : Fld := ⟨R.DEV_STAT, 31, 30⟩
/-- FAULT bits 29:29 of DEV_STAT. -/
def F.DEV_STAT_FAULT : Fld := ⟨R.DEV_STAT, 29, 29⟩

/-- DEV_RESET, spec/19_recovery.md. -/
def R.DEV_RESET : Nat := 0x18
/-- KEY bits 15:0 of DEV_RESET. -/
def F.DEV_RESET_KEY : Fld := ⟨R.DEV_RESET, 15, 0⟩

/-- DEV_PWRCYC, spec/19_recovery.md. -/
def R.DEV_PWRCYC : Nat := 0x1C
/-- KEY bits 15:0 of DEV_PWRCYC. -/
def F.DEV_PWRCYC_KEY : Fld := ⟨R.DEV_PWRCYC, 15, 0⟩

/-- DEV_HOST_WD, spec/19_recovery.md. -/
def R.DEV_HOST_WD : Nat := 0x20
/-- EN bits 31:31 of DEV_HOST_WD. -/
def F.DEV_HOST_WD_EN : Fld := ⟨R.DEV_HOST_WD, 31, 31⟩
/-- ACTION bits 30:30 of DEV_HOST_WD. -/
def F.DEV_HOST_WD_ACTION : Fld := ⟨R.DEV_HOST_WD, 30, 30⟩
/-- TMO_MS bits 15:0 of DEV_HOST_WD. -/
def F.DEV_HOST_WD_TMO_MS : Fld := ⟨R.DEV_HOST_WD, 15, 0⟩

/-- DEV_HOST_KICK, spec/19_recovery.md. -/
def R.DEV_HOST_KICK : Nat := 0x24

/-- FLT_EVT, spec/19_recovery.md. -/
def R.FLT_EVT : Nat := 0x160000
/-- THERM_CRIT bits 3:3 of FLT_EVT. -/
def F.FLT_EVT_THERM_CRIT : Fld := ⟨R.FLT_EVT, 3, 3⟩
/-- THERM_WARN bits 2:2 of FLT_EVT. -/
def F.FLT_EVT_THERM_WARN : Fld := ⟨R.FLT_EVT, 2, 2⟩
/-- MASTER_DENY bits 1:1 of FLT_EVT. -/
def F.FLT_EVT_MASTER_DENY : Fld := ⟨R.FLT_EVT, 1, 1⟩
/-- RESTART_DONE bits 0:0 of FLT_EVT. -/
def F.FLT_EVT_RESTART_DONE : Fld := ⟨R.FLT_EVT, 0, 0⟩

/-- FLT_EVT_EN, spec/19_recovery.md. -/
def R.FLT_EVT_EN : Nat := 0x160004
/-- EN bits 3:0 of FLT_EVT_EN. -/
def F.FLT_EVT_EN_EN : Fld := ⟨R.FLT_EVT_EN, 3, 0⟩

/-- FLT_EVT_VEC, spec/19_recovery.md. -/
def R.FLT_EVT_VEC : Nat := 0x160008
/-- MSIX bits 21:16 of FLT_EVT_VEC. -/
def F.FLT_EVT_VEC_MSIX : Fld := ⟨R.FLT_EVT_VEC, 21, 16⟩
/-- AIA_ID bits 9:0 of FLT_EVT_VEC. -/
def F.FLT_EVT_VEC_AIA_ID : Fld := ⟨R.FLT_EVT_VEC, 9, 0⟩

/-- FLT_RESET_CAUSE, spec/19_recovery.md. -/
def R.FLT_RESET_CAUSE : Nat := 0x160010
/-- RUNG bits 31:29 of FLT_RESET_CAUSE. -/
def F.FLT_RESET_CAUSE_RUNG : Fld := ⟨R.FLT_RESET_CAUSE, 31, 29⟩
/-- CAUSE bits 28:24 of FLT_RESET_CAUSE. -/
def F.FLT_RESET_CAUSE_CAUSE : Fld := ⟨R.FLT_RESET_CAUSE, 28, 24⟩
/-- ORIG bits 20:16 of FLT_RESET_CAUSE. -/
def F.FLT_RESET_CAUSE_ORIG : Fld := ⟨R.FLT_RESET_CAUSE, 20, 16⟩
/-- COUNT bits 15:8 of FLT_RESET_CAUSE. -/
def F.FLT_RESET_CAUSE_COUNT : Fld := ⟨R.FLT_RESET_CAUSE, 15, 8⟩

/-- FLT_ESC_CTL, spec/19_recovery.md. -/
def R.FLT_ESC_CTL : Nat := 0x160014
/-- EN bits 31:31 of FLT_ESC_CTL. -/
def F.FLT_ESC_CTL_EN : Fld := ⟨R.FLT_ESC_CTL, 31, 31⟩
/-- LIMIT bits 27:24 of FLT_ESC_CTL. -/
def F.FLT_ESC_CTL_LIMIT : Fld := ⟨R.FLT_ESC_CTL, 27, 24⟩
/-- WINDOW_S bits 15:0 of FLT_ESC_CTL. -/
def F.FLT_ESC_CTL_WINDOW_S : Fld := ⟨R.FLT_ESC_CTL, 15, 0⟩

/-- FLT_THERM, spec/19_recovery.md. -/
def R.FLT_THERM : Nat := 0x160018
/-- SHUT_EN bits 31:31 of FLT_THERM. -/
def F.FLT_THERM_SHUT_EN : Fld := ⟨R.FLT_THERM, 31, 31⟩
/-- TJ bits 9:0 of FLT_THERM. -/
def F.FLT_THERM_TJ : Fld := ⟨R.FLT_THERM, 9, 0⟩

/-- FLT_FAULT, spec/19_recovery.md. -/
def R.FLT_FAULT : Nat := 0x16001C
/-- UNRAVELLED bits 5:5 of FLT_FAULT. -/
def F.FLT_FAULT_UNRAVELLED : Fld := ⟨R.FLT_FAULT, 5, 5⟩
/-- LINK_LOST bits 4:4 of FLT_FAULT. -/
def F.FLT_FAULT_LINK_LOST : Fld := ⟨R.FLT_FAULT, 4, 4⟩
/-- CAST_OFF bits 3:3 of FLT_FAULT. -/
def F.FLT_FAULT_CAST_OFF : Fld := ⟨R.FLT_FAULT, 3, 3⟩
/-- XTAL bits 2:2 of FLT_FAULT. -/
def F.FLT_FAULT_XTAL : Fld := ⟨R.FLT_FAULT, 2, 2⟩
/-- FUNC_DOWN bits 1:1 of FLT_FAULT. -/
def F.FLT_FAULT_FUNC_DOWN : Fld := ⟨R.FLT_FAULT, 1, 1⟩
/-- THERM_CRIT bits 0:0 of FLT_FAULT. -/
def F.FLT_FAULT_THERM_CRIT : Fld := ⟨R.FLT_FAULT, 0, 0⟩

/-- FLT_FAULT_MASK, spec/19_recovery.md. -/
def R.FLT_FAULT_MASK : Nat := 0x160020
/-- MASK bits 5:1 of FLT_FAULT_MASK. -/
def F.FLT_FAULT_MASK_MASK : Fld := ⟨R.FLT_FAULT_MASK, 5, 1⟩

/-- FLT_MASTER_INFO, spec/19_recovery.md. -/
def R.FLT_MASTER_INFO : Nat := 0x160024
/-- GUARD bits 12:8 of FLT_MASTER_INFO. -/
def F.FLT_MASTER_INFO_GUARD : Fld := ⟨R.FLT_MASTER_INFO, 12, 8⟩
/-- MASTER bits 3:0 of FLT_MASTER_INFO. -/
def F.FLT_MASTER_INFO_MASTER : Fld := ⟨R.FLT_MASTER_INFO, 3, 0⟩

/-- FLT_RESTART_STAT, spec/19_recovery.md. -/
def R.FLT_RESTART_STAT : Nat := 0x160028
/-- FUNC bits 22:0 of FLT_RESTART_STAT. -/
def F.FLT_RESTART_STAT_FUNC : Fld := ⟨R.FLT_RESTART_STAT, 22, 0⟩

/-- FLT_CFG_MASK, spec/19_recovery.md. -/
def R.FLT_CFG_MASK : Nat := 0x16002C
/-- MASK bits 31:0 of FLT_CFG_MASK. -/
def F.FLT_CFG_MASK_MASK : Fld := ⟨R.FLT_CFG_MASK, 31, 0⟩

/-! Registers of spec/06_time_base.md. -/

/-- TIM_TRGn_VEC, spec/06_time_base.md. -/
def R.TIM_TRG_VEC (n : Nat) : Nat := 0x6040C + 0x10 * n
/-- MSIX bits 21:16 of TIM_TRGn_VEC. -/
def F.TIM_TRG_VEC_MSIX (n : Nat) : Fld := ⟨R.TIM_TRG_VEC n, 21, 16⟩
/-- AIA_ID bits 9:0 of TIM_TRGn_VEC. -/
def F.TIM_TRG_VEC_AIA_ID (n : Nat) : Fld := ⟨R.TIM_TRG_VEC n, 9, 0⟩

/-! Registers of spec/19_recovery.md. -/

/-- DEV_EVT, spec/19_recovery.md. -/
def R.DEV_EVT : Nat := 0x0
/-- HOST_WD bits 0:0 of DEV_EVT. -/
def F.DEV_EVT_HOST_WD : Fld := ⟨R.DEV_EVT, 0, 0⟩

/-- DEV_EVT_EN, spec/19_recovery.md. -/
def R.DEV_EVT_EN : Nat := 0x4
/-- EN bits 0:0 of DEV_EVT_EN. -/
def F.DEV_EVT_EN_EN : Fld := ⟨R.DEV_EVT_EN, 0, 0⟩

/-- DEV_EVT_VEC, spec/19_recovery.md. -/
def R.DEV_EVT_VEC : Nat := 0x8
/-- MSIX bits 21:16 of DEV_EVT_VEC. -/
def F.DEV_EVT_VEC_MSIX : Fld := ⟨R.DEV_EVT_VEC, 21, 16⟩
/-- AIA_ID bits 9:0 of DEV_EVT_VEC. -/
def F.DEV_EVT_VEC_AIA_ID : Fld := ⟨R.DEV_EVT_VEC, 9, 0⟩

/-! Registers of spec/13_serial_and_inputs.md. -/

/-- SIO_DIN_MODE, spec/13_serial_and_inputs.md. -/
def R.SIO_DIN_MODE : Nat := 0xD0810
/-- SUP bits 31:0 of SIO_DIN_MODE. -/
def F.SIO_DIN_MODE_SUP : Fld := ⟨R.SIO_DIN_MODE, 31, 0⟩

/-- SIO_DIN_INV, spec/13_serial_and_inputs.md. -/
def R.SIO_DIN_INV : Nat := 0xD0814
/-- INV bits 31:0 of SIO_DIN_INV. -/
def F.SIO_DIN_INV_INV : Fld := ⟨R.SIO_DIN_INV, 31, 0⟩

/-- SIO_DIN_STATE, spec/13_serial_and_inputs.md. -/
def R.SIO_DIN_STATE : Nat := 0xD0818
/-- VALUE bits 31:0 of SIO_DIN_STATE. -/
def F.SIO_DIN_STATE_VALUE : Fld := ⟨R.SIO_DIN_STATE, 31, 0⟩

/-- SIO_DIN_RAW, spec/13_serial_and_inputs.md. -/
def R.SIO_DIN_RAW : Nat := 0xD081C
/-- RAW bits 31:0 of SIO_DIN_RAW. -/
def F.SIO_DIN_RAW_RAW : Fld := ⟨R.SIO_DIN_RAW, 31, 0⟩

/-- SIO_DIN_SUP_LO, spec/13_serial_and_inputs.md. -/
def R.SIO_DIN_SUP_LO : Nat := 0xD0820
/-- SUP bits 31:0 of SIO_DIN_SUP_LO. -/
def F.SIO_DIN_SUP_LO_SUP : Fld := ⟨R.SIO_DIN_SUP_LO, 31, 0⟩

/-- SIO_DIN_SUP_HI, spec/13_serial_and_inputs.md. -/
def R.SIO_DIN_SUP_HI : Nat := 0xD0824
/-- SUP bits 31:0 of SIO_DIN_SUP_HI. -/
def F.SIO_DIN_SUP_HI_SUP : Fld := ⟨R.SIO_DIN_SUP_HI, 31, 0⟩

/-- SIO_DIN_CHG, spec/13_serial_and_inputs.md. -/
def R.SIO_DIN_CHG : Nat := 0xD0828
/-- CHG bits 31:0 of SIO_DIN_CHG. -/
def F.SIO_DIN_CHG_CHG : Fld := ⟨R.SIO_DIN_CHG, 31, 0⟩

/-- SIO_DIN_RISE_EN, spec/13_serial_and_inputs.md. -/
def R.SIO_DIN_RISE_EN : Nat := 0xD082C
/-- EN bits 31:0 of SIO_DIN_RISE_EN. -/
def F.SIO_DIN_RISE_EN_EN : Fld := ⟨R.SIO_DIN_RISE_EN, 31, 0⟩

/-- SIO_DIN_FALL_EN, spec/13_serial_and_inputs.md. -/
def R.SIO_DIN_FALL_EN : Nat := 0xD0830
/-- EN bits 31:0 of SIO_DIN_FALL_EN. -/
def F.SIO_DIN_FALL_EN_EN : Fld := ⟨R.SIO_DIN_FALL_EN, 31, 0⟩

/-! Registers of spec/16_enclave.md. -/

/-- ENC_SERIAL_LO, spec/16_enclave.md. -/
def R.ENC_SERIAL_LO : Nat := 0x130024
/-- SERIAL bits 31:0 of ENC_SERIAL_LO. -/
def F.ENC_SERIAL_LO_SERIAL : Fld := ⟨R.ENC_SERIAL_LO, 31, 0⟩

/-- ENC_SERIAL_HI, spec/16_enclave.md. -/
def R.ENC_SERIAL_HI : Nat := 0x130028
/-- SERIAL bits 31:0 of ENC_SERIAL_HI. -/
def F.ENC_SERIAL_HI_SERIAL : Fld := ⟨R.ENC_SERIAL_HI, 31, 0⟩

/-- ENC_BOOT_CNT, spec/16_enclave.md. -/
def R.ENC_BOOT_CNT : Nat := 0x13002C
/-- COUNT bits 31:0 of ENC_BOOT_CNT. -/
def F.ENC_BOOT_CNT_COUNT : Fld := ⟨R.ENC_BOOT_CNT, 31, 0⟩

/-! The 48-bit counters (R9, R78): the offset of the low register; the high register is 4 above. -/

/-- JER_DENY_CNT, spec/02_memory_map.md, R9. -/
def C.JER_DENY : Nat := 0x1F000
/-- JER_TMO_CNT, spec/02_memory_map.md, R9. -/
def C.JER_TMO : Nat := 0x1F008
/-- JER_LATE_CNT, spec/02_memory_map.md, R9. -/
def C.JER_LATE : Nat := 0x1F010
/-- JER_UNMAP_CNT, spec/02_memory_map.md, R9. -/
def C.JER_UNMAP : Nat := 0x1F018
/-- MEM_CE_CNT, spec/02_memory_map.md, R9. -/
def C.MEM_CE : Nat := 0x2F000
/-- MEM_UE_CNT, spec/02_memory_map.md, R9. -/
def C.MEM_UE : Nat := 0x2F008
/-- RND_FROGFX_CNT, spec/03_rounds.md, R9. -/
def C.RND_FROGFX : Nat := 0x3F000
/-- RND_FROG_CNT, spec/03_rounds.md, R9. -/
def C.RND_FROG : Nat := 0x3F008
/-- RND_HOSTERR_CNT, spec/03_rounds.md, R9. -/
def C.RND_HOSTERR : Nat := 0x3F010
/-- SWC_BUF_DROP_CNT, spec/04_switch_core.md, R9. -/
def C.SWC_BUF_DROP : Nat := 0x4F000
/-- SWC_VLAN_DROP_CNT, spec/04_switch_core.md, R9. -/
def C.SWC_VLAN_DROP : Nat := 0x4F008
/-- SWC_MC_RESIDUE_CNT, spec/04_switch_core.md, R9. -/
def C.SWC_MC_RESIDUE : Nat := 0x4F010
/-- SWC_MIRROR_DROP_CNT, spec/04_switch_core.md, R9. -/
def C.SWC_MIRROR_DROP : Nat := 0x4F018
/-- SWC_STOMP_CNT, spec/04_switch_core.md, R9. -/
def C.SWC_STOMP : Nat := 0x4F020
/-- SWC_PLY_LATE_CNT, spec/04_switch_core.md, R9. -/
def C.SWC_PLY_LATE : Nat := 0x4F028
/-- SWC_PLY_SAT_CNT, spec/04_switch_core.md, R9. -/
def C.SWC_PLY_SAT : Nat := 0x4F030
/-- SWC_PLY_STRAY_CNT, spec/04_switch_core.md, R9. -/
def C.SWC_PLY_STRAY : Nat := 0x4F038
/-- SWC_HOLD_LIMIT_CNT, spec/04_switch_core.md, R9. -/
def C.SWC_HOLD_LIMIT : Nat := 0x4F040
/-- SWC_HOLD_LATE_CNT, spec/04_switch_core.md, R9. -/
def C.SWC_HOLD_LATE : Nat := 0x4F048
/-- SWC_HOLD_FLUSH_CNT, spec/04_switch_core.md, R9. -/
def C.SWC_HOLD_FLUSH : Nat := 0x4F050
/-- SWC_LEARN_FULL_CNT, spec/04_switch_core.md, R9. -/
def C.SWC_LEARN_FULL : Nat := 0x4F058
/-- SWC_CB_DUP_CNT, spec/04_switch_core.md, R9. -/
def C.SWC_CB_DUP : Nat := 0x4F060
/-- SWC_CB_GAP_CNT, spec/04_switch_core.md, R9. -/
def C.SWC_CB_GAP : Nat := 0x4F068
/-- SWC_CB_LATE_CNT, spec/04_switch_core.md, R9. -/
def C.SWC_CB_LATE : Nat := 0x4F070
/-- SWC_CB_ROGUE_CNT, spec/04_switch_core.md, R9. -/
def C.SWC_CB_ROGUE : Nat := 0x4F078
/-- SWC_RSV_DROP_CNT, spec/04_switch_core.md, R9. -/
def C.SWC_RSV_DROP : Nat := 0x4F080
/-- SWC_HOST_NOBUF_CNT, spec/04_switch_core.md, R9. -/
def C.SWC_HOST_NOBUF : Nat := 0x4F088
/-- SWC_MEDIA_DROP_CNT, spec/04_switch_core.md, R9. -/
def C.SWC_MEDIA_DROP : Nat := 0x4F090
/-- PRT_RX_OK_CNT, spec/05_ports_and_gates.md, R165. -/
def C.PRT_RX_OK (n : Nat) : Nat := 0x5F000 + 0xC0 * n
/-- PRT_RX_OCTETS_CNT, spec/05_ports_and_gates.md, R165. -/
def C.PRT_RX_OCTETS (n : Nat) : Nat := 0x5F008 + 0xC0 * n
/-- PRT_RX_PREAMBLE_CNT, spec/05_ports_and_gates.md, R165. -/
def C.PRT_RX_PREAMBLE (n : Nat) : Nat := 0x5F010 + 0xC0 * n
/-- PRT_RX_ALIGN_CNT, spec/05_ports_and_gates.md, R165. -/
def C.PRT_RX_ALIGN (n : Nat) : Nat := 0x5F018 + 0xC0 * n
/-- PRT_RX_RUNT_CNT, spec/05_ports_and_gates.md, R165. -/
def C.PRT_RX_RUNT (n : Nat) : Nat := 0x5F020 + 0xC0 * n
/-- PRT_RX_OVERSIZE_CNT, spec/05_ports_and_gates.md, R165. -/
def C.PRT_RX_OVERSIZE (n : Nat) : Nat := 0x5F028 + 0xC0 * n
/-- PRT_RX_FCS_CNT, spec/05_ports_and_gates.md, R165. -/
def C.PRT_RX_FCS (n : Nat) : Nat := 0x5F030 + 0xC0 * n
/-- PRT_RX_CTL_CNT, spec/05_ports_and_gates.md, R165. -/
def C.PRT_RX_CTL (n : Nat) : Nat := 0x5F038 + 0xC0 * n
/-- PRT_RX_CTL_DROP_CNT, spec/05_ports_and_gates.md, R165. -/
def C.PRT_RX_CTL_DROP (n : Nat) : Nat := 0x5F040 + 0xC0 * n
/-- PRT_RX_LIMIT_DROP_CNT, spec/05_ports_and_gates.md, R165. -/
def C.PRT_RX_LIMIT_DROP (n : Nat) : Nat := 0x5F048 + 0xC0 * n
/-- PRT_RX_QCI_GATE_CNT, spec/05_ports_and_gates.md, R165. -/
def C.PRT_RX_QCI_GATE (n : Nat) : Nat := 0x5F050 + 0xC0 * n
/-- PRT_RX_QCI_SDU_CNT, spec/05_ports_and_gates.md, R165. -/
def C.PRT_RX_QCI_SDU (n : Nat) : Nat := 0x5F058 + 0xC0 * n
/-- PRT_RX_QCI_RED_CNT, spec/05_ports_and_gates.md, R165. -/
def C.PRT_RX_QCI_RED (n : Nat) : Nat := 0x5F060 + 0xC0 * n
/-- PRT_TX_OK_CNT, spec/05_ports_and_gates.md, R165. -/
def C.PRT_TX_OK (n : Nat) : Nat := 0x5F068 + 0xC0 * n
/-- PRT_TX_OCTETS_CNT, spec/05_ports_and_gates.md, R165. -/
def C.PRT_TX_OCTETS (n : Nat) : Nat := 0x5F070 + 0xC0 * n
/-- PRT_TX_PAUSE_CNT, spec/05_ports_and_gates.md, R165. -/
def C.PRT_TX_PAUSE (n : Nat) : Nat := 0x5F078 + 0xC0 * n
/-- PRT_TX_NEVER_FITS_CNT, spec/05_ports_and_gates.md, R165. -/
def C.PRT_TX_NEVER_FITS (n : Nat) : Nat := 0x5F080 + 0xC0 * n
/-- PRT_TX_FRAG_CNT, spec/05_ports_and_gates.md, R165. -/
def C.PRT_TX_FRAG (n : Nat) : Nat := 0x5F088 + 0xC0 * n
/-- PRT_RX_ASSY_ERR_CNT, spec/05_ports_and_gates.md, R165. -/
def C.PRT_RX_ASSY_ERR (n : Nat) : Nat := 0x5F090 + 0xC0 * n
/-- PRT_RX_SMD_ERR_CNT, spec/05_ports_and_gates.md, R165. -/
def C.PRT_RX_SMD_ERR (n : Nat) : Nat := 0x5F098 + 0xC0 * n
/-- PRT_LINK_DOWN_CNT, spec/05_ports_and_gates.md, R165. -/
def C.PRT_LINK_DOWN (n : Nat) : Nat := 0x5F0A0 + 0xC0 * n
/-- PRT_WAKE_CNT, spec/05_ports_and_gates.md, R165. -/
def C.PRT_WAKE (n : Nat) : Nat := 0x5F0A8 + 0xC0 * n
/-- PRT_RX_NOBUF_CNT, spec/05_ports_and_gates.md, R165. -/
def C.PRT_RX_NOBUF (n : Nat) : Nat := 0x5F0B0 + 0xC0 * n
/-- TIM_TSLOST_CNT, spec/06_time_base.md, R198. -/
def C.TIM_TSLOST (n : Nat) : Nat := 0x6F000 + 0x8 * n
/-- AUD_SAT_CNT, spec/07_audio_patterns.md, R9. -/
def C.AUD_SAT : Nat := 0x7F000
/-- AUD_EDGE_MISS_CNT, spec/07_audio_patterns.md, R9. -/
def C.AUD_EDGE_MISS : Nat := 0x7F008
/-- AUD_NET_LATE_CNT, spec/07_audio_patterns.md, R9. -/
def C.AUD_NET_LATE : Nat := 0x7F010
/-- AUD_NET_EARLY_CNT, spec/07_audio_patterns.md, R9. -/
def C.AUD_NET_EARLY : Nat := 0x7F018
/-- AUD_NET_GAP_CNT, spec/07_audio_patterns.md, R9. -/
def C.AUD_NET_GAP : Nat := 0x7F020
/-- AUD_SILENT_BLOCK_CNT, spec/07_audio_patterns.md, R9. -/
def C.AUD_SILENT_BLOCK : Nat := 0x7F028
/-- AUD_REALIGN_CNT, spec/07_audio_patterns.md, R9. -/
def C.AUD_REALIGN : Nat := 0x7F030
/-- AUD_STRAY_CNT, spec/07_audio_patterns.md, R9. -/
def C.AUD_STRAY : Nat := 0x7F038
/-- CHT_REPLAN_CNT, spec/08_chart_placement.md, R9. -/
def C.CHT_REPLAN : Nat := 0x8F000
/-- CHT_ENG_FAIL_CNT, spec/08_chart_placement.md, R9. -/
def C.CHT_ENG_FAIL : Nat := 0x8F008
/-- CHT_TWIN_DIFF_CNT, spec/08_chart_placement.md, R9. -/
def C.CHT_TWIN_DIFF : Nat := 0x8F010
/-- CHT_SHADOW_LATE_CNT, spec/08_chart_placement.md, R9. -/
def C.CHT_SHADOW_LATE : Nat := 0x8F018
/-- CAN_RX_OK_CNT, spec/09_can_controllers.md, R9. -/
def C.CAN_RX_OK (n : Nat) : Nat := 0x9F000 + 0x100 * n
/-- CAN_TX_OK_CNT, spec/09_can_controllers.md, R9. -/
def C.CAN_TX_OK (n : Nat) : Nat := 0x9F008 + 0x100 * n
/-- CAN_RX_NOMATCH_CNT, spec/09_can_controllers.md, R9. -/
def C.CAN_RX_NOMATCH (n : Nat) : Nat := 0x9F010 + 0x100 * n
/-- CAN_RX_REJECT_CNT, spec/09_can_controllers.md, R9. -/
def C.CAN_RX_REJECT (n : Nat) : Nat := 0x9F018 + 0x100 * n
/-- CAN_RX_OVF_CNT, spec/09_can_controllers.md, R9. -/
def C.CAN_RX_OVF (n : Nat) : Nat := 0x9F020 + 0x100 * n
/-- CAN_ARB_LOST_CNT, spec/09_can_controllers.md, R9. -/
def C.CAN_ARB_LOST (n : Nat) : Nat := 0x9F028 + 0x100 * n
/-- CAN_TX_ERR_CNT, spec/09_can_controllers.md, R9. -/
def C.CAN_TX_ERR (n : Nat) : Nat := 0x9F030 + 0x100 * n
/-- CAN_RX_ERR_CNT, spec/09_can_controllers.md, R9. -/
def C.CAN_RX_ERR (n : Nat) : Nat := 0x9F038 + 0x100 * n
/-- CAN_TX_ABANDON_CNT, spec/09_can_controllers.md, R9. -/
def C.CAN_TX_ABANDON (n : Nat) : Nat := 0x9F040 + 0x100 * n
/-- CAN_BUS_OFF_CNT, spec/09_can_controllers.md, R9. -/
def C.CAN_BUS_OFF (n : Nat) : Nat := 0x9F048 + 0x100 * n
/-- CAN_PEXC_CNT, spec/09_can_controllers.md, R9. -/
def C.CAN_PEXC (n : Nat) : Nat := 0x9F050 + 0x100 * n
/-- CAN_SWAP_CNT, spec/09_can_controllers.md, R9. -/
def C.CAN_SWAP (n : Nat) : Nat := 0x9F058 + 0x100 * n
/-- GWY_MISMATCH_CNT, spec/10_gateway_rules.md, R9. -/
def C.GWY_MISMATCH : Nat := 0xAF000
/-- GWY_ETH_NOMATCH_CNT, spec/10_gateway_rules.md, R9. -/
def C.GWY_ETH_NOMATCH : Nat := 0xAF008
/-- GWY_ACF_GAP_CNT, spec/10_gateway_rules.md, R9. -/
def C.GWY_ACF_GAP : Nat := 0xAF010
/-- GWY_CHAIN_CUT_CNT, spec/10_gateway_rules.md, R9. -/
def C.GWY_CHAIN_CUT : Nat := 0xAF018
/-- GWY_AUTH_FAIL_CNT, spec/10_gateway_rules.md, R9. -/
def C.GWY_AUTH_FAIL : Nat := 0xAF020
/-- GWY_FRESH_END_CNT, spec/10_gateway_rules.md, R9. -/
def C.GWY_FRESH_END : Nat := 0xAF028
/-- GWY_FRESH_UNSET_CNT, spec/10_gateway_rules.md, R9. -/
def C.GWY_FRESH_UNSET : Nat := 0xAF030
/-- GWY_KEY_BAD_CNT, spec/10_gateway_rules.md, R9. -/
def C.GWY_KEY_BAD : Nat := 0xAF038
/-- GWY_AUTH_TORN_CNT, spec/10_gateway_rules.md, R9. -/
def C.GWY_AUTH_TORN : Nat := 0xAF040
/-- GWY_RATE_DROP_CNT, spec/10_gateway_rules.md, R9. -/
def C.GWY_RATE_DROP : Nat := 0xAF048
/-- GWY_RATE_REPLACED_CNT, spec/10_gateway_rules.md, R9. -/
def C.GWY_RATE_REPLACED : Nat := 0xAF050
/-- GWY_SIG_TMO_CNT, spec/10_gateway_rules.md, R9. -/
def C.GWY_SIG_TMO : Nat := 0xAF058
/-- GWY_DST_FULL_CNT, spec/10_gateway_rules.md, R9. -/
def C.GWY_DST_FULL : Nat := 0xAF060
/-- GWY_DST_ASLEEP_CNT, spec/10_gateway_rules.md, R9. -/
def C.GWY_DST_ASLEEP : Nat := 0xAF068
/-- GWY_DROP_LEN_CNT, spec/10_gateway_rules.md, R9. -/
def C.GWY_DROP_LEN : Nat := 0xAF070
/-- WAK_WAKE_CNT, spec/11_wake_sleep.md, R9. -/
def C.WAK_WAKE (s : Nat) : Nat := 0xBF000 + 0x20 * s
/-- WAK_FALSE_CNT, spec/11_wake_sleep.md, R9. -/
def C.WAK_FALSE (s : Nat) : Nat := 0xBF008 + 0x20 * s
/-- WAK_SUPPRESSED_CNT, spec/11_wake_sleep.md, R9. -/
def C.WAK_SUPPRESSED (s : Nat) : Nat := 0xBF010 + 0x20 * s
/-- LDC_TRIP_CNT, spec/12_load_channels.md, R9. -/
def C.LDC_TRIP (n : Nat) : Nat := 0xCF000 + 0x40 * n
/-- LDC_FAST_CNT, spec/12_load_channels.md, R9. -/
def C.LDC_FAST (n : Nat) : Nat := 0xCF008 + 0x40 * n
/-- LDC_THERM_CNT, spec/12_load_channels.md, R9. -/
def C.LDC_THERM (n : Nat) : Nat := 0xCF010 + 0x40 * n
/-- LDC_OL_CNT, spec/12_load_channels.md, R9. -/
def C.LDC_OL (n : Nat) : Nat := 0xCF018 + 0x40 * n
/-- LDC_CASTOFF_CNT, spec/12_load_channels.md, R9. -/
def C.LDC_CASTOFF (b : Nat) : Nat := 0xCF800 + 0x20 * b
/-- LDC_LINK_ERR_CNT, spec/12_load_channels.md, R9. -/
def C.LDC_LINK_ERR (b : Nat) : Nat := 0xCF808 + 0x20 * b
/-- LDC_FOLD_CNT, spec/12_load_channels.md, R9. -/
def C.LDC_FOLD (b : Nat) : Nat := 0xCF810 + 0x20 * b
/-- SIO_CHAR_ERR_CNT, spec/13_serial_and_inputs.md, R9. -/
def C.SIO_CHAR_ERR (n : Nat) : Nat := 0xDF000 + 0x40 * n
/-- SIO_PDU_LONG_CNT, spec/13_serial_and_inputs.md, R9. -/
def C.SIO_PDU_LONG (n : Nat) : Nat := 0xDF008 + 0x40 * n
/-- SIO_NOMATCH_CNT, spec/13_serial_and_inputs.md, R9. -/
def C.SIO_NOMATCH (n : Nat) : Nat := 0xDF010 + 0x40 * n
/-- SIO_COLLISION_CNT, spec/13_serial_and_inputs.md, R9. -/
def C.SIO_COLLISION (n : Nat) : Nat := 0xDF018 + 0x40 * n
/-- SIO_PDU_OK_CNT, spec/13_serial_and_inputs.md, R9. -/
def C.SIO_PDU_OK (n : Nat) : Nat := 0xDF020 + 0x40 * n
/-- GAU_REFUSE_CNT, spec/14_gauge.md, R383. -/
def C.GAU_REFUSE : Nat := 0xEF000
/-- COR_RESTART_CNT, spec/15_cores_and_messaging.md, R9. -/
def C.COR_RESTART (p : Nat) : Nat := 0xFF000 + 0x8 * p
/-- COR_WD_CNT, spec/15_cores_and_messaging.md, R9. -/
def C.COR_WD (p : Nat) : Nat := 0xFF100 + 0x8 * p
/-- COR_LOCKSTEP_CNT, spec/15_cores_and_messaging.md, R9. -/
def C.COR_LOCKSTEP : Nat := 0xFF200
/-- COR_ROUTE_MISS_CNT, spec/15_cores_and_messaging.md, R9. -/
def C.COR_ROUTE_MISS : Nat := 0xFF208
/-- MBX_COLL_CNT, spec/15_cores_and_messaging.md, R9. -/
def C.MBX_COLL (n : Nat) : Nat := 0x10F000 + 0x10 * n
/-- MBX_TMO_CNT, spec/15_cores_and_messaging.md, R9. -/
def C.MBX_TMO (n : Nat) : Nat := 0x10F008 + 0x10 * n
/-- MBX_DENY_CNT, spec/15_cores_and_messaging.md, R9. -/
def C.MBX_DENY : Nat := 0x10F400
/-- QUE_UNDER_CNT, spec/15_cores_and_messaging.md, R410. -/
def C.QUE_UNDER (n : Nat) : Nat := 0x11F000 + 0x8 * n
/-- QUE_ABANDON_CNT, spec/15_cores_and_messaging.md, R9. -/
def C.QUE_ABANDON : Nat := 0x11F200
/-- SEM_FAIL_CNT, spec/15_cores_and_messaging.md, R412. -/
def C.SEM_FAIL : Nat := 0x12F800
/-- ENC_TORN_CNT, spec/16_enclave.md, R9. -/
def C.ENC_TORN : Nat := 0x13F000
/-- ENC_TOKEN_BAD_CNT, spec/16_enclave.md, R9. -/
def C.ENC_TOKEN_BAD : Nat := 0x13F008
/-- BOO_IGION_DROP_CNT, spec/17_cast_on_update.md, R9. -/
def C.BOO_IGION_DROP : Nat := 0x14F000
/-- BOO_CHAIN_RETX_CNT, spec/17_cast_on_update.md, R9. -/
def C.BOO_CHAIN_RETX : Nat := 0x14F008
/-- BOO_CHAIN_DROP_CNT, spec/17_cast_on_update.md, R9. -/
def C.BOO_CHAIN_DROP : Nat := 0x14F010
/-- BOO_COPY_RESUME_CNT, spec/17_cast_on_update.md, R9. -/
def C.BOO_COPY_RESUME : Nat := 0x14F018
/-- PAI_HB_MISS0_CNT, spec/18_pair.md, R9. -/
def C.PAI_HB_MISS0 : Nat := 0x15F000
/-- PAI_HB_MISS1_CNT, spec/18_pair.md, R9. -/
def C.PAI_HB_MISS1 : Nat := 0x15F008
/-- PAI_MIRROR_RETX_CNT, spec/18_pair.md, R9. -/
def C.PAI_MIRROR_RETX : Nat := 0x15F010
/-- PAI_STALE_TERM_CNT, spec/18_pair.md, R9. -/
def C.PAI_STALE_TERM : Nat := 0x15F018
/-- PAI_BRIDGE_PEER_CNT, spec/18_pair.md, R9. -/
def C.PAI_BRIDGE_PEER : Nat := 0x15F020
/-- PAI_CROSS_RETRACT_CNT, spec/18_pair.md, R9. -/
def C.PAI_CROSS_RETRACT : Nat := 0x15F028
/-- PAI_SILENT_DROP_CNT, spec/18_pair.md, R9. -/
def C.PAI_SILENT_DROP : Nat := 0x15F030
/-- PAI_DENY_IN_CNT, spec/18_pair.md, R9. -/
def C.PAI_DENY_IN : Nat := 0x15F038
/-- FLT_RESTART_CNT, spec/19_recovery.md, R9. -/
def C.FLT_RESTART (n : Nat) : Nat := 0x16F000 + 0x8 * n
/-- FLT_DENY_CNT, spec/19_recovery.md, R505. -/
def C.FLT_DENY : Nat := 0x16F100

end Sys2Proof.Machine
end

