-- ==== Sys2Proof/Machine/RegTable.lean ====
section
/-! DEFINITION. The access codes (R10) and the reset values of every set-up register, page by page, written from the
register tables of spec/02 to spec/19, and the addresses of the 48-bit counters. -/
namespace Sys2Proof.Machine

/-- One row of the register table: a register or an indexed run of registers. `dims` holds the count and stride of each
index, greatest stride first; `rw`, `w1c` and `wo` are the masks of the fields with those access codes; `reset` is the
reset value, to which `step` is added once for each unit of the first index. -/
structure RegRow where
  base : Nat
  dims : List (Nat × Nat)
  rw : Nat
  w1c : Nat
  wo : Nat
  reset : Nat
  step : Nat
  deriving DecidableEq, Repr

/-- The distance `d` from a row's base is one of its index combinations. -/
def dimsHit : List (Nat × Nat) → Nat → Bool
  | [], d => d == 0
  | (c, s) :: r, d => let i := min (d / s) (c - 1); dimsHit r (d - i * s)

/-- The row covers the register at `a`. -/
def RegRow.hit (r : RegRow) (a : Nat) : Bool := decide (r.base ≤ a) && dimsHit r.dims (a - r.base)

/-- The first index of the register at `a` within its row. -/
def RegRow.idx (r : RegRow) (a : Nat) : Nat :=
  match r.dims with
  | [] => 0
  | (c, s) :: _ => min ((a - r.base) / s) (c - 1)

/-- The row that covers `a`. -/
def findRow : List RegRow → Nat → Option RegRow
  | [], _ => none
  | r :: t, a => if r.hit a then some r else findRow t a

/-- The registers of set-up page 0x0. -/
def page00 : List RegRow := [
  ⟨0x10, [], 0x0, 0x0, 0x0, 0x74480000, 0⟩,
  ⟨0x14, [], 0x0, 0x0, 0x0, 0x60000000, 0⟩,
  ⟨0x18, [], 0x0, 0x0, 0xFFFF, 0x0, 0⟩,
  ⟨0x1C, [], 0x0, 0x0, 0xFFFF, 0x0, 0⟩,
  ⟨0x20, [], 0xC000FFFF, 0x0, 0x0, 0x3E8, 0⟩,
  ⟨0x24, [], 0x0, 0x0, 0xFFFFFFFF, 0x0, 0⟩,
  ⟨0x0, [], 0x0, 0x1, 0x0, 0x0, 0⟩,
  ⟨0x4, [], 0x1, 0x0, 0x0, 0x0, 0⟩,
  ⟨0x8, [], 0x3F03FF, 0x0, 0x0, 0x0, 0⟩]

/-- The registers of set-up page 0x1. -/
def page01 : List RegRow := [
  ⟨0x10000, [], 0x0, 0x1F, 0x0, 0x0, 0⟩,
  ⟨0x10004, [], 0x1F, 0x0, 0x0, 0x0, 0⟩,
  ⟨0x10008, [], 0x3F03FF, 0x0, 0x0, 0x0, 0⟩,
  ⟨0x10010, [], 0x1F1F, 0x0, 0x0, 0x0, 0⟩,
  ⟨0x10014, [], 0xFFFFF001, 0x0, 0x0, 0x0, 0⟩,
  ⟨0x10018, [], 0xFFFF, 0x0, 0x0, 0x0, 0⟩,
  ⟨0x1001C, [], 0xFFFFF000, 0x0, 0x0, 0x0, 0⟩,
  ⟨0x10020, [], 0xFFFF, 0x0, 0x0, 0x0, 0⟩,
  ⟨0x10024, [], 0xFFFFFFFF, 0x0, 0x0, 0x0, 0⟩,
  ⟨0x10028, [], 0xFFFFFFFF, 0x0, 0x0, 0x0, 0⟩,
  ⟨0x1002C, [], 0x0, 0x0, 0x1, 0x0, 0⟩,
  ⟨0x10030, [], 0x0, 0x0, 0x0, 0x0, 0⟩,
  ⟨0x10034, [], 0x0, 0x0, 0x0, 0x0, 0⟩,
  ⟨0x10038, [], 0x0, 0x0, 0x0, 0x0, 0⟩,
  ⟨0x1003C, [], 0x0, 0x0, 0x0, 0x0, 0⟩,
  ⟨0x10040, [], 0x0, 0x0, 0x0, 0x0, 0⟩,
  ⟨0x10044, [], 0x0, 0x0, 0x0, 0x0, 0⟩,
  ⟨0x10100, [(8, 0x10)], 0xFFFFF001, 0x0, 0x0, 0x0, 0⟩,
  ⟨0x10104, [(8, 0x10)], 0xFFFF, 0x0, 0x0, 0x0, 0⟩,
  ⟨0x10108, [(8, 0x10)], 0xFFFFF000, 0x0, 0x0, 0x0, 0⟩,
  ⟨0x1010C, [(8, 0x10)], 0xFFFF, 0x0, 0x0, 0x0, 0⟩]

/-- The registers of set-up page 0x2. -/
def page02 : List RegRow := [
  ⟨0x20000, [], 0x0, 0xF, 0x0, 0x0, 0⟩,
  ⟨0x20004, [], 0xF, 0x0, 0x0, 0x0, 0⟩,
  ⟨0x20008, [], 0x3F03FF, 0x0, 0x0, 0x0, 0⟩,
  ⟨0x20010, [], 0x1, 0x0, 0x0, 0x1, 0⟩,
  ⟨0x20014, [], 0xFFFFFF, 0x0, 0x0, 0x3D090, 0⟩,
  ⟨0x20018, [], 0x0, 0x0, 0x0, 0x0, 0⟩,
  ⟨0x20020, [], 0x0, 0x0, 0x0, 0x0, 0⟩,
  ⟨0x20024, [], 0x0, 0x0, 0x0, 0x0, 0⟩,
  ⟨0x20028, [], 0x0, 0x0, 0x0, 0x0, 0⟩,
  ⟨0x2002C, [], 0x0, 0x0, 0x0, 0x0, 0⟩,
  ⟨0x20030, [], 0x0, 0x0, 0x0, 0x0, 0⟩,
  ⟨0x20034, [], 0x0, 0x0, 0x0, 0x0, 0⟩]

/-- The registers of set-up page 0x3. -/
def page03 : List RegRow := [
  ⟨0x30000, [], 0x0, 0xFF, 0x0, 0x0, 0⟩,
  ⟨0x30004, [], 0xFF, 0x0, 0x0, 0x0, 0⟩,
  ⟨0x30008, [], 0x3F03FF, 0x0, 0x0, 0x0, 0⟩,
  ⟨0x30010, [], 0x0, 0x0, 0x0, 0x74481F8E, 0⟩,
  ⟨0x30014, [], 0x0, 0x0, 0x0, 0x0, 0⟩,
  ⟨0x30018, [], 0xFFFFF000, 0x0, 0x0, 0x0, 0⟩,
  ⟨0x3001C, [], 0xFFFFFFFF, 0x0, 0x0, 0x0, 0⟩,
  ⟨0x30020, [], 0x7F, 0x0, 0x0, 0x32, 0⟩,
  ⟨0x30024, [], 0xFFFFFFFF, 0x0, 0x0, 0x0, 0⟩,
  ⟨0x30028, [], 0x0, 0x0, 0x800000FF, 0x0, 0⟩,
  ⟨0x3002C, [], 0x0, 0x0, 0x0, 0x0, 0⟩,
  ⟨0x30030, [], 0x0, 0x0, 0x0, 0x0, 0⟩,
  ⟨0x30040, [], 0x0, 0x0, 0x0, 0x0, 0⟩,
  ⟨0x30044, [], 0x0, 0x0, 0x0, 0x0, 0⟩,
  ⟨0x30048, [], 0x0, 0x0, 0x0, 0x0, 0⟩,
  ⟨0x31000, [(256, 0x8)], 0xFFF, 0x0, 0x0, 0x0, 0⟩,
  ⟨0x31004, [(256, 0x8)], 0xFFF, 0x0, 0x0, 0x0, 0⟩,
  ⟨0x32000, [(256, 0x20)], 0xFFFFFFC0, 0x0, 0x0, 0x0, 0⟩,
  ⟨0x32004, [(256, 0x20)], 0xFFFF, 0x0, 0x0, 0x0, 0⟩,
  ⟨0x32008, [(256, 0x20)], 0xFFFFFFF0, 0x0, 0x0, 0x0, 0⟩,
  ⟨0x3200C, [(256, 0x20)], 0xFFFF, 0x0, 0x0, 0x0, 0⟩,
  ⟨0x32010, [(256, 0x20)], 0xDF1F, 0x0, 0x0, 0x0, 0⟩,
  ⟨0x32014, [(256, 0x20)], 0xFFFF0F03, 0x0, 0x0, 0x400, 0⟩,
  ⟨0x32018, [(256, 0x20)], 0xFFFFFFFF, 0x0, 0x0, 0x1028, 0⟩,
  ⟨0x3201C, [(256, 0x20)], 0x0, 0x0, 0x0, 0x4, 0⟩]

/-- The registers of set-up page 0x4. -/
def page04 : List RegRow := [
  ⟨0x40000, [], 0x0, 0x1FFFF, 0x0, 0x0, 0⟩,
  ⟨0x40004, [], 0x1FFFF, 0x0, 0x0, 0x0, 0⟩,
  ⟨0x40008, [], 0x3F03FF, 0x0, 0x0, 0x0, 0⟩,
  ⟨0x40010, [], 0x7, 0x0, 0x0, 0x6, 0⟩,
  ⟨0x40014, [], 0xFFFF, 0x0, 0x0, 0x12C, 0⟩,
  ⟨0x40018, [], 0x1FFFF, 0x0, 0x0, 0x7D0, 0⟩,
  ⟨0x4001C, [], 0xFFFFFF, 0x0, 0x0, 0xFAC681, 0⟩,
  ⟨0x40020, [], 0xFFFF0001, 0x0, 0x0, 0xFFFF0000, 0⟩,
  ⟨0x40024, [], 0xFFFFFFFF, 0x0, 0x0, 0x0, 0⟩,
  ⟨0x40028, [], 0xFFFFFFFF, 0x0, 0x0, 0x0, 0⟩,
  ⟨0x4002C, [], 0xFFFFFFFF, 0x0, 0x0, 0x0, 0⟩,
  ⟨0x40030, [], 0xFFFFFFFF, 0x0, 0x0, 0x0, 0⟩,
  ⟨0x40040, [], 0x7, 0x0, 0x0, 0x4, 0⟩,
  ⟨0x40044, [], 0x0, 0x0, 0x0, 0x0, 0⟩,
  ⟨0x40100, [(24, 0x4)], 0xFFFFCFFF, 0x0, 0x0, 0xC8A0001, 0⟩,
  ⟨0x40180, [(24, 0x4)], 0x0, 0x0, 0x0, 0x0, 0⟩,
  ⟨0x40200, [], 0xFF, 0x0, 0x0, 0x0, 0⟩,
  ⟨0x40204, [], 0xF000FFFF, 0x0, 0x0, 0x60000040, 0⟩,
  ⟨0x40208, [], 0x0, 0x0, 0x0, 0x0, 0⟩,
  ⟨0x40210, [], 0x0, 0x0, 0x0, 0x0, 0⟩,
  ⟨0x40214, [], 0x0, 0x0, 0x0, 0x0, 0⟩,
  ⟨0x40218, [], 0xFFFFFFFF, 0x0, 0x0, 0x400, 0⟩,
  ⟨0x4021C, [], 0x0, 0x0, 0x0, 0x0, 0⟩,
  ⟨0x40300, [(4, 0x10)], 0xFFFC001F, 0x0, 0x0, 0x0, 0⟩,
  ⟨0x40304, [(4, 0x10)], 0xFFFFFF, 0x0, 0x0, 0x0, 0⟩,
  ⟨0x40400, [], 0x1FF, 0x0, 0x0, 0x0, 0⟩,
  ⟨0x40404, [], 0x83FF0007, 0x0, 0x0, 0x640000, 0⟩,
  ⟨0x40408, [], 0xFFFFFF, 0x0, 0x0, 0x0, 0⟩,
  ⟨0x4040C, [], 0xFFFFFFFF, 0x0, 0x0, 0x0, 0⟩,
  ⟨0x40410, [], 0xFFFFFFFF, 0x0, 0x0, 0x0, 0⟩,
  ⟨0x40414, [], 0x0, 0x0, 0x0, 0x0, 0⟩,
  ⟨0x40418, [], 0x0, 0x0, 0x0, 0x0, 0⟩,
  ⟨0x4041C, [], 0x0, 0x0, 0x0, 0x0, 0⟩,
  ⟨0x40420, [], 0x0, 0x0, 0x0, 0x0, 0⟩,
  ⟨0x40500, [], 0x3FF, 0x0, 0x0, 0x0, 0⟩,
  ⟨0x40504, [], 0x0, 0x0, 0x0, 0x0, 0⟩,
  ⟨0x40508, [], 0x0, 0x0, 0x0, 0x0, 0⟩,
  ⟨0x4050C, [], 0x0, 0x0, 0x0, 0x0, 0⟩]

/-- The registers of set-up page 0x5. -/
def page05 : List RegRow := [
  ⟨0x50000, [(21, 0x800)], 0x0, 0x3FFF, 0x0, 0x0, 0⟩,
  ⟨0x50004, [(21, 0x800)], 0x3FFF, 0x0, 0x0, 0x0, 0⟩,
  ⟨0x50008, [(21, 0x800)], 0x3F03FF, 0x0, 0x0, 0x0, 0⟩,
  ⟨0x50010, [(4, 0x800)], 0xFC003FFF, 0x0, 0x0, 0x480005F2, 0⟩,
  ⟨0x52010, [(16, 0x800)], 0xFC003FFF, 0x0, 0x0, 0x680005F2, 0⟩,
  ⟨0x5A010, [], 0xFC003FFF, 0x0, 0x0, 0x780005F2, 0⟩,
  ⟨0x50014, [(21, 0x800)], 0x0, 0x0, 0x0, 0x0, 0⟩,
  ⟨0x50018, [(21, 0x800)], 0xFFFFFFFF, 0x0, 0x0, 0x0, 0⟩,
  ⟨0x5001C, [(21, 0x800)], 0xFFFF, 0x0, 0x0, 0x0, 0⟩,
  ⟨0x50020, [(21, 0x800)], 0xF0FFFFFF, 0x0, 0x0, 0x8000FFFF, 0⟩,
  ⟨0x50024, [(21, 0x800)], 0xFFFFFFFF, 0x0, 0x0, 0x2000100, 0⟩,
  ⟨0x50028, [(21, 0x800)], 0xF0FFFF00, 0x0, 0x0, 0xAFF00, 0⟩,
  ⟨0x5002C, [(21, 0x800)], 0x80000000, 0x0, 0x0, 0x0, 0⟩,
  ⟨0x50030, [(21, 0x800)], 0x0, 0x0, 0x0, 0xFF, 0⟩,
  ⟨0x50034, [(21, 0x800)], 0x0, 0x0, 0x0, 0x0, 0⟩,
  ⟨0x50038, [(21, 0x800)], 0x0, 0x0, 0x0, 0x0, 0⟩,
  ⟨0x50040, [(21, 0x800), (8, 0x4)], 0x80FFFFFF, 0x0, 0x0, 0x0, 0⟩,
  ⟨0x50060, [(21, 0x800), (4, 0x8)], 0x80FFFFFF, 0x0, 0x0, 0x0, 0⟩,
  ⟨0x50064, [(21, 0x800), (4, 0x8)], 0xFFFFFF, 0x0, 0x0, 0x2400, 0⟩,
  ⟨0x50100, [(21, 0x800), (8, 0x20)], 0x83FFFFFF, 0x0, 0x0, 0x0, 0⟩,
  ⟨0x50104, [(21, 0x800), (8, 0x20), (4, 0x4)], 0xFFFFFFFF, 0x0, 0x0, 0x0, 0⟩,
  ⟨0x50200, [(21, 0x800)], 0x80000000, 0x0, 0x0, 0x0, 0⟩]

/-- The registers of set-up page 0x6. -/
def page06 : List RegRow := [
  ⟨0x60000, [], 0x0, 0x1FFF, 0x0, 0x0, 0⟩,
  ⟨0x60004, [], 0x1FFF, 0x0, 0x0, 0x0, 0⟩,
  ⟨0x60008, [], 0x3F03FF, 0x0, 0x0, 0x0, 0⟩,
  ⟨0x60010, [], 0x0, 0x0, 0x0, 0x0, 0⟩,
  ⟨0x60014, [], 0xFFFFFFFF, 0x0, 0x0, 0x4000000, 0⟩,
  ⟨0x60018, [], 0x0, 0x0, 0xFFFFFFFF, 0x0, 0⟩,
  ⟨0x6001C, [], 0x0, 0x0, 0x0, 0x0, 0⟩,
  ⟨0x60020, [], 0x0, 0x0, 0x0, 0x0, 0⟩,
  ⟨0x60024, [], 0xC0000000, 0x0, 0x0, 0x0, 0⟩,
  ⟨0x60028, [], 0x0, 0x0, 0x0, 0x0, 0⟩,
  ⟨0x6002C, [], 0x3FF, 0x0, 0x0, 0x1F4, 0⟩,
  ⟨0x60030, [(5, 0x4)], 0xC0FFFFFF, 0x0, 0x0, 0x1, 0⟩,
  ⟨0x60100, [(20, 0x4)], 0xFFFFFFFF, 0x0, 0x0, 0x0, 0⟩,
  ⟨0x60200, [(20, 0x4)], 0x0, 0x0, 0x0, 0x0, 0⟩,
  ⟨0x60300, [], 0x0, 0xFFFF, 0x0, 0x0, 0⟩,
  ⟨0x60304, [], 0xFFFF, 0x0, 0x0, 0x0, 0⟩,
  ⟨0x60400, [(16, 0x10)], 0x1F, 0x40000000, 0x8000, 0x0, 0⟩,
  ⟨0x60404, [(16, 0x10)], 0x0, 0x0, 0x0, 0x0, 0⟩,
  ⟨0x60408, [(16, 0x10)], 0x0, 0x0, 0x0, 0x0, 0⟩,
  ⟨0x6040C, [(16, 0x10)], 0x3F03FF, 0x0, 0x0, 0x0, 0⟩]

/-- The registers of set-up page 0x7. -/
def page07 : List RegRow := [
  ⟨0x70000, [], 0x0, 0xFFF, 0x0, 0x0, 0⟩,
  ⟨0x70004, [], 0xFFF, 0x0, 0x0, 0x0, 0⟩,
  ⟨0x70008, [], 0x3F03FF, 0x0, 0x0, 0x0, 0⟩,
  ⟨0x70010, [], 0x0, 0x0, 0x0, 0x0, 0⟩,
  ⟨0x70014, [], 0x0, 0x0, 0x0, 0x0, 0⟩,
  ⟨0x70018, [], 0x0, 0x0, 0x0, 0x0, 0⟩,
  ⟨0x7001C, [], 0x0, 0x0, 0x0, 0x0, 0⟩,
  ⟨0x70020, [], 0x0, 0x0, 0x0, 0x0, 0⟩,
  ⟨0x70024, [], 0x0, 0x0, 0x0, 0x0, 0⟩,
  ⟨0x70100, [(8, 0x4)], 0xC0000007, 0x0, 0x0, 0x0, 0⟩,
  ⟨0x70120, [], 0x0, 0x0, 0x0, 0x0, 0⟩,
  ⟨0x70140, [(8, 0x4)], 0xC0000000, 0x0, 0x0, 0x0, 0⟩,
  ⟨0x70180, [(4, 0x4)], 0xE0000003, 0x0, 0x0, 0x20000002, 0⟩,
  ⟨0x70200, [(64, 0x4)], 0x0, 0x0, 0x0, 0x0, 0⟩]

/-- The registers of set-up page 0x8. -/
def page08 : List RegRow := [
  ⟨0x80000, [], 0x0, 0x7FF, 0x0, 0x0, 0⟩,
  ⟨0x80004, [], 0x7FF, 0x0, 0x0, 0x0, 0⟩,
  ⟨0x80008, [], 0x3F03FF, 0x0, 0x0, 0x0, 0⟩,
  ⟨0x80010, [], 0x0, 0x0, 0x0, 0x0, 0⟩,
  ⟨0x80014, [], 0x0, 0x0, 0x0, 0x0, 0⟩,
  ⟨0x80018, [], 0xFF00, 0x0, 0x0, 0x3300, 0⟩,
  ⟨0x8001C, [], 0x0, 0xFFFF, 0x0, 0x0, 0⟩,
  ⟨0x80100, [(16, 0x4)], 0x0, 0x0, 0x0, 0x0, 0⟩,
  ⟨0x80140, [(16, 0x4)], 0x0, 0x0, 0x0, 0x0, 0⟩,
  ⟨0x80200, [], 0x1FF, 0x0, 0x0, 0x0, 0⟩,
  ⟨0x80204, [], 0x0, 0x0, 0x0, 0x7FE00000, 0⟩,
  ⟨0x80208, [], 0x0, 0x0, 0x0, 0x0, 0⟩]

/-- The registers of set-up page 0x9. -/
def page09 : List RegRow := [
  ⟨0x90000, [(12, 0x1000)], 0x0, 0x7FF, 0x0, 0x0, 0⟩,
  ⟨0x90004, [(12, 0x1000)], 0x7FF, 0x0, 0x0, 0x0, 0⟩,
  ⟨0x90008, [(12, 0x1000)], 0x3F03FF, 0x0, 0x0, 0x0, 0⟩,
  ⟨0x90010, [(12, 0x1000)], 0xFF800000, 0x0, 0x0, 0x6800000, 0⟩,
  ⟨0x90014, [(12, 0x1000)], 0xFFFFFFFC, 0x0, 0x0, 0x7E3E7C, 0⟩,
  ⟨0x90018, [(12, 0x1000)], 0x1F1F0F0F, 0x0, 0x0, 0x1E0707, 0⟩,
  ⟨0x9001C, [(12, 0x1000)], 0x7F, 0x0, 0x0, 0x0, 0⟩,
  ⟨0x90020, [(12, 0x1000)], 0xFFFF, 0x0, 0x0, 0x10, 0⟩,
  ⟨0x90024, [(12, 0x1000)], 0x0, 0x0, 0x0, 0x0, 0⟩,
  ⟨0x90028, [(12, 0x1000)], 0x0, 0x0, 0x0, 0x0, 0⟩,
  ⟨0x9002C, [(12, 0x1000)], 0x0, 0x0, 0x3, 0x0, 0⟩,
  ⟨0x90030, [(12, 0x1000)], 0xFFFFFFFF, 0x0, 0x0, 0x1, 0⟩,
  ⟨0x90034, [(12, 0x1000)], 0xFFFFFFFF, 0x0, 0x0, 0x1, 0⟩,
  ⟨0x90038, [(12, 0x1000)], 0xFFFF, 0x0, 0x0, 0x0, 0⟩,
  ⟨0x90040, [(12, 0x1000), (4, 0x4)], 0x0, 0x0, 0x0, 0x0, 0⟩,
  ⟨0x90060, [(12, 0x1000), (8, 0x8)], 0x807F07FF, 0x0, 0x0, 0x80080001, 0⟩,
  ⟨0x90064, [(12, 0x1000), (8, 0x8)], 0x0, 0x0, 0x0, 0x0, 0⟩]

/-- The registers of set-up page 0xA. -/
def page0A : List RegRow := [
  ⟨0xA0000, [], 0x0, 0x1FFF, 0x0, 0x0, 0⟩,
  ⟨0xA0004, [], 0x1FFF, 0x0, 0x0, 0x0, 0⟩,
  ⟨0xA0008, [], 0x3F03FF, 0x0, 0x0, 0x0, 0⟩,
  ⟨0xA0010, [], 0x1, 0x0, 0x0, 0x0, 0⟩,
  ⟨0xA0014, [], 0xFFFFFFFF, 0x0, 0x0, 0x1, 0⟩,
  ⟨0xA0018, [], 0xFFFFFFFF, 0x0, 0x0, 0x0, 0⟩,
  ⟨0xA001C, [], 0x0, 0x0, 0x0, 0x0, 0⟩,
  ⟨0xA0020, [], 0x7FF, 0x0, 0x0, 0x0, 0⟩,
  ⟨0xA0024, [], 0x0, 0x0, 0x0, 0x0, 0⟩,
  ⟨0xA0028, [], 0x1FF, 0x0, 0x0, 0x0, 0⟩,
  ⟨0xA002C, [], 0x0, 0x0, 0x0, 0x0, 0⟩]

/-- The registers of set-up page 0xB. -/
def page0B : List RegRow := [
  ⟨0xB0000, [], 0x0, 0x3F, 0x0, 0x0, 0⟩,
  ⟨0xB0004, [], 0x3F, 0x0, 0x0, 0x0, 0⟩,
  ⟨0xB0008, [], 0x3F03FF, 0x0, 0x0, 0x0, 0⟩,
  ⟨0xB0010, [], 0xFF, 0x0, 0x0, 0x14, 0⟩,
  ⟨0xB0014, [], 0x1FFFFFFF, 0x0, 0x0, 0x10000000, 0⟩,
  ⟨0xB0018, [], 0x0, 0x1FFFFFFF, 0x0, 0x0, 0⟩,
  ⟨0xB001C, [], 0x0, 0x0, 0x0, 0x0, 0⟩,
  ⟨0xB0020, [], 0x0, 0x0, 0x0, 0x1F, 0⟩,
  ⟨0xB0024, [], 0x0, 0x0, 0x1FFFFFFF, 0x0, 0⟩,
  ⟨0xB0028, [], 0x0, 0x1FFFFFFF, 0x0, 0x0, 0⟩,
  ⟨0xB002C, [], 0xFFF, 0x0, 0x0, 0x805, 0⟩,
  ⟨0xB0030, [], 0xFFFFFFFF, 0x0, 0x0, 0xE100708, 0⟩,
  ⟨0xB0034, [], 0xFFFFFFFF, 0x0, 0x0, 0x0, 0⟩,
  ⟨0xB0038, [], 0x0, 0x0, 0x0, 0x0, 0⟩,
  ⟨0xB003C, [], 0xFFFFFFFF, 0x0, 0x0, 0x0, 0⟩,
  ⟨0xB0040, [], 0xE, 0x0, 0x0, 0x2, 0⟩,
  ⟨0xB0044, [], 0xFFFF, 0x0, 0x0, 0x0, 0⟩,
  ⟨0xB0048, [], 0xFFFFFFFF, 0x0, 0x0, 0x1, 0⟩,
  ⟨0xB0100, [(8, 0x20)], 0xFFF00C00, 0x0, 0x0, 0x88000C00, 0⟩,
  ⟨0xB0104, [(8, 0x20)], 0x1FFFFFFF, 0x0, 0x0, 0x0, 0⟩,
  ⟨0xB0108, [(8, 0x20)], 0x1FFFFFFF, 0x0, 0x0, 0x0, 0⟩,
  ⟨0xB010C, [(8, 0x20)], 0xFFFFFFFF, 0x0, 0x0, 0x0, 0⟩,
  ⟨0xB0110, [(8, 0x20)], 0xFFFFFFFF, 0x0, 0x0, 0x0, 0⟩,
  ⟨0xB0114, [(8, 0x20)], 0x0, 0x30000000, 0x0, 0x80000000, 0⟩]

/-- The registers of set-up page 0xC. -/
def page0C : List RegRow := [
  ⟨0xC0000, [], 0x0, 0x7FFF, 0x0, 0x0, 0⟩,
  ⟨0xC0004, [], 0x7FFF, 0x0, 0x0, 0x0, 0⟩,
  ⟨0xC0008, [], 0x3F03FF, 0x0, 0x0, 0x0, 0⟩,
  ⟨0xC0010, [], 0xFFFFFFFF, 0x0, 0x0, 0x0, 0⟩,
  ⟨0xC0014, [], 0xFFFFFFFF, 0x0, 0x0, 0x0, 0⟩,
  ⟨0xC0018, [], 0xFFFFFFFF, 0x0, 0x0, 0x1, 0⟩,
  ⟨0xC001C, [], 0x0, 0xFFFFFFFF, 0x0, 0x0, 0⟩,
  ⟨0xC0020, [], 0x0, 0x0, 0x0, 0x0, 0⟩,
  ⟨0xC0100, [(4, 0x20)], 0xFF9FFFFF, 0x0, 0x0, 0x320A, 0⟩,
  ⟨0xC0104, [(4, 0x20)], 0x0, 0x0, 0x0, 0x80000000, 0⟩,
  ⟨0xC0108, [(4, 0x20)], 0x0, 0x0, 0x0, 0x0, 0⟩,
  ⟨0xC010C, [(4, 0x20)], 0x0, 0x0, 0x0, 0x0, 0⟩,
  ⟨0xC0110, [(4, 0x20)], 0x0, 0x0, 0x0, 0x0, 0⟩,
  ⟨0xC0400, [(32, 0x10)], 0x0, 0x0, 0x0, 0x0, 1⟩,
  ⟨0xC0404, [(32, 0x10)], 0x0, 0x0, 0x0, 0x0, 0⟩,
  ⟨0xC0408, [(32, 0x10)], 0x0, 0x0, 0x0, 0x0, 0⟩,
  ⟨0xC040C, [(32, 0x10)], 0x0, 0x0, 0x0, 0x0, 0⟩,
  ⟨0xC0800, [(32, 0x4)], 0x0, 0x0, 0x0, 0x0, 0⟩]

/-- The registers of set-up page 0xD. -/
def page0D : List RegRow := [
  ⟨0xD0000, [], 0x0, 0x7F, 0x0, 0x0, 0⟩,
  ⟨0xD0004, [], 0x7F, 0x0, 0x0, 0x0, 0⟩,
  ⟨0xD0008, [], 0x3F03FF, 0x0, 0x0, 0x0, 0⟩,
  ⟨0xD0010, [], 0xFFFFFFFF, 0x0, 0x0, 0x1, 0⟩,
  ⟨0xD0100, [(4, 0x80)], 0xFFFFF3FF, 0x0, 0x0, 0x4002A100, 0⟩,
  ⟨0xD0300, [(4, 0x80)], 0xFFFFF3FF, 0x0, 0x0, 0x2A100, 0⟩,
  ⟨0xD0104, [(8, 0x80)], 0x7FFFFF, 0x0, 0x0, 0x2B67, 0⟩,
  ⟨0xD0108, [(8, 0x80)], 0xFFFFFFFF, 0x0, 0x0, 0x267E7E7D, 0⟩,
  ⟨0xD010C, [(8, 0x80)], 0x0, 0x0, 0x0, 0x0, 0⟩,
  ⟨0xD0140, [(8, 0x80), (16, 0x4)], 0x81FFFFFF, 0x0, 0x0, 0x0, 0⟩,
  ⟨0xD0800, [(4, 0x4)], 0xFFFFC3FF, 0x0, 0x0, 0xC08140C8, 0⟩,
  ⟨0xD0810, [], 0xFFFFFFFF, 0x0, 0x0, 0x0, 0⟩,
  ⟨0xD0814, [], 0xFFFFFFFF, 0x0, 0x0, 0x0, 0⟩,
  ⟨0xD0818, [], 0x0, 0x0, 0x0, 0x0, 0⟩,
  ⟨0xD081C, [], 0x0, 0x0, 0x0, 0x0, 0⟩,
  ⟨0xD0820, [], 0x0, 0x0, 0x0, 0x0, 0⟩,
  ⟨0xD0824, [], 0x0, 0x0, 0x0, 0x0, 0⟩,
  ⟨0xD0828, [], 0x0, 0xFFFFFFFF, 0x0, 0x0, 0⟩,
  ⟨0xD082C, [], 0xFFFFFFFF, 0x0, 0x0, 0x0, 0⟩,
  ⟨0xD0830, [], 0xFFFFFFFF, 0x0, 0x0, 0x0, 0⟩]

/-- The registers of set-up page 0xE. -/
def page0E : List RegRow := [
  ⟨0xE0000, [], 0x0, 0x7FF, 0x0, 0x0, 0⟩,
  ⟨0xE0004, [], 0x7FF, 0x0, 0x0, 0x0, 0⟩,
  ⟨0xE0008, [], 0x3F03FF, 0x0, 0x0, 0x0, 0⟩,
  ⟨0xE0010, [], 0x3FFFFF, 0x0, 0x0, 0x220A64, 0⟩,
  ⟨0xE0014, [], 0x1FFFF, 0x0, 0x0, 0x258, 0⟩,
  ⟨0xE0018, [], 0xFFFF, 0x0, 0x0, 0x2EE0, 0⟩,
  ⟨0xE001C, [], 0xFFFFFFFF, 0x0, 0x0, 0x1, 0⟩,
  ⟨0xE0020, [], 0x0, 0x0, 0x0, 0x2000000, 0⟩,
  ⟨0xE0024, [], 0x0, 0x0, 0x0, 0x0, 0⟩,
  ⟨0xE0028, [], 0x0, 0x0, 0x0, 0x0, 0⟩,
  ⟨0xE002C, [], 0x0, 0x0, 0x0, 0x0, 0⟩,
  ⟨0xE0030, [], 0x0, 0x0, 0x0, 0x0, 0⟩,
  ⟨0xE0034, [], 0x0, 0x0, 0x0, 0x0, 0⟩,
  ⟨0xE0038, [], 0x0, 0x0, 0x0, 0x0, 0⟩,
  ⟨0xE003C, [], 0x0, 0x0, 0x1, 0x0, 0⟩,
  ⟨0xE0100, [(32, 0x4)], 0xFFFF, 0x0, 0x0, 0x0, 0⟩,
  ⟨0xE0200, [(42, 0x4)], 0x0, 0x0, 0x0, 0x0, 0⟩,
  ⟨0xE0400, [(42, 0x8)], 0x0, 0x0, 0x0, 0x0, 0⟩,
  ⟨0xE0404, [(42, 0x8)], 0x0, 0x0, 0x0, 0x0, 0⟩]

/-- The registers of set-up page 0xF. -/
def page0F : List RegRow := [
  ⟨0xF0000, [], 0x0, 0x7F, 0x0, 0x0, 0⟩,
  ⟨0xF0004, [], 0x7F, 0x0, 0x0, 0x0, 0⟩,
  ⟨0xF0008, [], 0x3F03FF, 0x0, 0x0, 0x0, 0⟩,
  ⟨0xF0010, [], 0xF, 0x0, 0x0, 0x0, 0⟩,
  ⟨0xF0100, [(8, 0x20)], 0xF800001F, 0x0, 0x0, 0x0, 0⟩,
  ⟨0xF0104, [(8, 0x20)], 0x0, 0x80000, 0x0, 0xC0000000, 0⟩,
  ⟨0xF0108, [(8, 0x20)], 0x0, 0x0, 0x0, 0x0, 0⟩,
  ⟨0xF0400, [(32, 0x10)], 0xF0003FFF, 0x0, 0x0, 0x0, 0⟩,
  ⟨0xF0404, [(32, 0x10)], 0x0, 0x0, 0xFFFFFFFF, 0x0, 0⟩,
  ⟨0xF0408, [(32, 0x10)], 0x0, 0x0, 0x0, 0xC0000000, 0⟩,
  ⟨0xF1004, [(1023, 0x4)], 0xFE000000, 0x0, 0x0, 0x0, 0⟩]

/-- The registers of set-up page 0x10. -/
def page10 : List RegRow := [
  ⟨0x100000, [], 0x0, 0x1F, 0x0, 0x0, 0⟩,
  ⟨0x100004, [], 0x1F, 0x0, 0x0, 0x0, 0⟩,
  ⟨0x100008, [], 0x3F03FF, 0x0, 0x0, 0x0, 0⟩,
  ⟨0x101000, [(32, 0x100), (16, 0x4)], 0xFFFFFFFF, 0x0, 0x0, 0x0, 0⟩,
  ⟨0x101040, [(32, 0x100)], 0x821F1F1F, 0x0, 0x0, 0x0, 0⟩,
  ⟨0x101044, [(32, 0x100)], 0xFFFFF, 0x0, 0x0, 0x3E8, 0⟩,
  ⟨0x101048, [(32, 0x100)], 0xFFFFF03F, 0x0, 0x0, 0x0, 0⟩,
  ⟨0x10104C, [(32, 0x100)], 0x0, 0x3C0000, 0x0, 0x0, 0⟩,
  ⟨0x101050, [(32, 0x100)], 0x0, 0x0, 0x1, 0x0, 0⟩,
  ⟨0x101054, [(32, 0x100)], 0x0, 0x0, 0x800000FF, 0x0, 0⟩]

/-- The registers of set-up page 0x11. -/
def page11 : List RegRow := [
  ⟨0x110000, [], 0x0, 0xF, 0x0, 0x0, 0⟩,
  ⟨0x110004, [], 0xF, 0x0, 0x0, 0x0, 0⟩,
  ⟨0x110008, [], 0x3F03FF, 0x0, 0x0, 0x0, 0⟩,
  ⟨0x110010, [], 0x0, 0xFFFFFFFF, 0x0, 0x0, 0⟩,
  ⟨0x110014, [], 0x0, 0xFFFFFFFF, 0x0, 0x0, 0⟩,
  ⟨0x110100, [(64, 0x10)], 0xFFF007FF, 0x0, 0x0, 0x100010, 0⟩,
  ⟨0x110104, [(64, 0x10)], 0x3FF, 0x0, 0x0, 0x0, 0⟩,
  ⟨0x110108, [(64, 0x10)], 0x0, 0x40000000, 0x0, 0x80000000, 0⟩]

/-- The registers of set-up page 0x12. -/
def page12 : List RegRow := [
  ⟨0x120000, [], 0x0, 0x3, 0x0, 0x0, 0⟩,
  ⟨0x120004, [], 0x3, 0x0, 0x0, 0x0, 0⟩,
  ⟨0x120008, [], 0x3F03FF, 0x0, 0x0, 0x0, 0⟩,
  ⟨0x120010, [], 0x0, 0x0, 0x8000003F, 0x0, 0⟩,
  ⟨0x120100, [(64, 0x4)], 0x0, 0x0, 0x0, 0x0, 0⟩,
  ⟨0x120200, [(64, 0x4)], 0x0, 0x0, 0x1F, 0x0, 0⟩,
  ⟨0x12F000, [(64, 0x4)], 0x0, 0x0, 0x0, 0x0, 0⟩]

/-- The registers of set-up page 0x13. -/
def page13 : List RegRow := [
  ⟨0x130000, [], 0x0, 0x7F, 0x0, 0x0, 0⟩,
  ⟨0x130004, [], 0x7F, 0x0, 0x0, 0x0, 0⟩,
  ⟨0x130008, [], 0x3F03FF, 0x0, 0x0, 0x0, 0⟩,
  ⟨0x130010, [], 0x0, 0x0, 0x0, 0x7000000, 0⟩,
  ⟨0x130014, [], 0xFFFFFFFF, 0x0, 0x0, 0x1, 0⟩,
  ⟨0x130018, [], 0x8000000F, 0x0, 0x0, 0x0, 0⟩,
  ⟨0x13001C, [], 0x0, 0x0, 0x0, 0x0, 0⟩,
  ⟨0x130020, [], 0x0, 0x0, 0x0, 0x0, 0⟩,
  ⟨0x130030, [], 0x3F, 0x0, 0x0, 0x0, 0⟩,
  ⟨0x130034, [], 0x0, 0x0, 0x0, 0x0, 0⟩,
  ⟨0x130038, [], 0x0, 0x0, 0x0, 0x0, 0⟩,
  ⟨0x130024, [], 0x0, 0x0, 0x0, 0x0, 0⟩,
  ⟨0x130028, [], 0x0, 0x0, 0x0, 0x0, 0⟩,
  ⟨0x13002C, [], 0x0, 0x0, 0x0, 0x0, 0⟩]

/-- The registers of set-up page 0x14. -/
def page14 : List RegRow := [
  ⟨0x140000, [], 0x0, 0xFF, 0x0, 0x0, 0⟩,
  ⟨0x140004, [], 0xFF, 0x0, 0x0, 0x0, 0⟩,
  ⟨0x140008, [], 0x3F03FF, 0x0, 0x0, 0x0, 0⟩,
  ⟨0x140010, [], 0xF0000007, 0x0, 0x0, 0x80000001, 0⟩,
  ⟨0x140014, [], 0xFFFFFFFF, 0x0, 0x0, 0x1, 0⟩,
  ⟨0x140018, [], 0x0, 0x0, 0x0, 0x0, 0⟩,
  ⟨0x14001C, [], 0x0, 0x0, 0x0, 0x0, 0⟩,
  ⟨0x140020, [], 0x0, 0x0, 0xFFFF, 0x0, 0⟩,
  ⟨0x140024, [], 0x0, 0x0, 0x0, 0x0, 0⟩,
  ⟨0x140028, [], 0x0, 0x0, 0x0, 0x0, 0⟩,
  ⟨0x14002C, [], 0x0, 0x0, 0x0, 0x0, 0⟩,
  ⟨0x140030, [], 0x0, 0x0, 0x0, 0x0, 0⟩,
  ⟨0x140034, [], 0x0, 0x0, 0x0, 0x0, 0⟩,
  ⟨0x140038, [], 0xFFFFFFFF, 0x0, 0x0, 0xA9FE4A30, 0⟩,
  ⟨0x14003C, [], 0x0, 0x0, 0x0, 0x0, 0⟩,
  ⟨0x140040, [(2, 0x8)], 0xFFFFFFFF, 0x0, 0x0, 0x0, 0⟩,
  ⟨0x140044, [(2, 0x8)], 0xFFFF, 0x0, 0x0, 0x0, 0⟩]

/-- The registers of set-up page 0x15. -/
def page15 : List RegRow := [
  ⟨0x150000, [], 0x0, 0x7FF, 0x0, 0x0, 0⟩,
  ⟨0x150004, [], 0x7FF, 0x0, 0x0, 0x0, 0⟩,
  ⟨0x150008, [], 0x3F03FF, 0x0, 0x0, 0x0, 0⟩,
  ⟨0x150010, [], 0xE000FFFF, 0x0, 0x0, 0x1F4, 0⟩,
  ⟨0x150014, [], 0xFFFF, 0x0, 0x0, 0x12C, 0⟩,
  ⟨0x150018, [], 0x3FF007F, 0x0, 0x0, 0x1E000A, 0⟩,
  ⟨0x15001C, [], 0xFFFFFFFF, 0x0, 0x0, 0x0, 0⟩,
  ⟨0x150020, [], 0x0, 0x0, 0x0, 0x0, 0⟩,
  ⟨0x150024, [], 0xFFFFFFFF, 0x0, 0x0, 0x0, 0⟩,
  ⟨0x150028, [], 0xFFFF, 0x0, 0x0, 0x0, 0⟩,
  ⟨0x15002C, [], 0x0, 0x0, 0x0, 0xFC000000, 0⟩,
  ⟨0x150030, [], 0xFFFFFFFF, 0x0, 0x0, 0x0, 0⟩,
  ⟨0x150034, [], 0xFFFFFFFF, 0x0, 0x0, 0x1, 0⟩,
  ⟨0x150038, [], 0xFFFF03FF, 0x0, 0x0, 0x7D00064, 0⟩,
  ⟨0x15003C, [], 0x0, 0x0, 0x0, 0x0, 0⟩,
  ⟨0x150040, [], 0x0, 0x0, 0x0, 0x0, 0⟩]

/-- The registers of set-up page 0x16. -/
def page16 : List RegRow := [
  ⟨0x160000, [], 0x0, 0xF, 0x0, 0x0, 0⟩,
  ⟨0x160004, [], 0xF, 0x0, 0x0, 0x0, 0⟩,
  ⟨0x160008, [], 0x3F03FF, 0x0, 0x0, 0x0, 0⟩,
  ⟨0x160010, [], 0x0, 0x0, 0x0, 0x0, 0⟩,
  ⟨0x160014, [], 0x8F00FFFF, 0x0, 0x0, 0x83000258, 0⟩,
  ⟨0x160018, [], 0x80000000, 0x0, 0x0, 0x80000000, 0⟩,
  ⟨0x16001C, [], 0x0, 0x0, 0x0, 0x0, 0⟩,
  ⟨0x160020, [], 0x3E, 0x0, 0x0, 0x0, 0⟩,
  ⟨0x160024, [], 0x0, 0x0, 0x0, 0x0, 0⟩,
  ⟨0x160028, [], 0x0, 0x0, 0x0, 0x0, 0⟩,
  ⟨0x16002C, [], 0xFFFFFFFF, 0x0, 0x0, 0x1, 0⟩]

/-- The rows of a set-up page; a page with no registers has none. -/
def pageRows : Nat → List RegRow
  | 0x0 => page00
  | 0x1 => page01
  | 0x2 => page02
  | 0x3 => page03
  | 0x4 => page04
  | 0x5 => page05
  | 0x6 => page06
  | 0x7 => page07
  | 0x8 => page08
  | 0x9 => page09
  | 0xA => page0A
  | 0xB => page0B
  | 0xC => page0C
  | 0xD => page0D
  | 0xE => page0E
  | 0xF => page0F
  | 0x10 => page10
  | 0x11 => page11
  | 0x12 => page12
  | 0x13 => page13
  | 0x14 => page14
  | 0x15 => page15
  | 0x16 => page16
  | _ => []

/-- The row of the register at `a`. -/
def rowOf (a : Nat) : Option RegRow := findRow (pageRows (a / 0x10000)) a

/-- The value the register at `a` holds at reset, as the register tables state it; where they state none, the value the
assumption log names; 0 where no register lies (R61). -/
def resetVal (a : Nat) : Word :=
  match rowOf a with
  | some r => BitVec.ofNat 32 (r.reset + r.step * r.idx a)
  | none => 0

/-- The 48-bit counters of each page: the low register of the first, and the count and stride of each index. -/
def counterRuns : List (Nat × List (Nat × Nat)) := [
  (0x1F000, []),
  (0x1F008, []),
  (0x1F010, []),
  (0x1F018, []),
  (0x2F000, []),
  (0x2F008, []),
  (0x3F000, []),
  (0x3F008, []),
  (0x3F010, []),
  (0x4F000, []),
  (0x4F008, []),
  (0x4F010, []),
  (0x4F018, []),
  (0x4F020, []),
  (0x4F028, []),
  (0x4F030, []),
  (0x4F038, []),
  (0x4F040, []),
  (0x4F048, []),
  (0x4F050, []),
  (0x4F058, []),
  (0x4F060, []),
  (0x4F068, []),
  (0x4F070, []),
  (0x4F078, []),
  (0x4F080, []),
  (0x4F088, []),
  (0x4F090, []),
  (0x5F000, [(21, 0xC0)]),
  (0x5F008, [(21, 0xC0)]),
  (0x5F010, [(21, 0xC0)]),
  (0x5F018, [(21, 0xC0)]),
  (0x5F020, [(21, 0xC0)]),
  (0x5F028, [(21, 0xC0)]),
  (0x5F030, [(21, 0xC0)]),
  (0x5F038, [(21, 0xC0)]),
  (0x5F040, [(21, 0xC0)]),
  (0x5F048, [(21, 0xC0)]),
  (0x5F050, [(21, 0xC0)]),
  (0x5F058, [(21, 0xC0)]),
  (0x5F060, [(21, 0xC0)]),
  (0x5F068, [(21, 0xC0)]),
  (0x5F070, [(21, 0xC0)]),
  (0x5F078, [(21, 0xC0)]),
  (0x5F080, [(21, 0xC0)]),
  (0x5F088, [(21, 0xC0)]),
  (0x5F090, [(21, 0xC0)]),
  (0x5F098, [(21, 0xC0)]),
  (0x5F0A0, [(21, 0xC0)]),
  (0x5F0A8, [(21, 0xC0)]),
  (0x5F0B0, [(21, 0xC0)]),
  (0x6F000, [(20, 0x8)]),
  (0x7F000, []),
  (0x7F008, []),
  (0x7F010, []),
  (0x7F018, []),
  (0x7F020, []),
  (0x7F028, []),
  (0x7F030, []),
  (0x7F038, []),
  (0x8F000, []),
  (0x8F008, []),
  (0x8F010, []),
  (0x8F018, []),
  (0x9F000, [(12, 0x100)]),
  (0x9F008, [(12, 0x100)]),
  (0x9F010, [(12, 0x100)]),
  (0x9F018, [(12, 0x100)]),
  (0x9F020, [(12, 0x100)]),
  (0x9F028, [(12, 0x100)]),
  (0x9F030, [(12, 0x100)]),
  (0x9F038, [(12, 0x100)]),
  (0x9F040, [(12, 0x100)]),
  (0x9F048, [(12, 0x100)]),
  (0x9F050, [(12, 0x100)]),
  (0x9F058, [(12, 0x100)]),
  (0xAF000, []),
  (0xAF008, []),
  (0xAF010, []),
  (0xAF018, []),
  (0xAF020, []),
  (0xAF028, []),
  (0xAF030, []),
  (0xAF038, []),
  (0xAF040, []),
  (0xAF048, []),
  (0xAF050, []),
  (0xAF058, []),
  (0xAF060, []),
  (0xAF068, []),
  (0xAF070, []),
  (0xBF000, [(29, 0x20)]),
  (0xBF008, [(29, 0x20)]),
  (0xBF010, [(29, 0x20)]),
  (0xCF000, [(32, 0x40)]),
  (0xCF008, [(32, 0x40)]),
  (0xCF010, [(32, 0x40)]),
  (0xCF018, [(32, 0x40)]),
  (0xCF800, [(4, 0x20)]),
  (0xCF808, [(4, 0x20)]),
  (0xCF810, [(4, 0x20)]),
  (0xDF000, [(8, 0x40)]),
  (0xDF008, [(8, 0x40)]),
  (0xDF010, [(8, 0x40)]),
  (0xDF018, [(8, 0x40)]),
  (0xDF020, [(8, 0x40)]),
  (0xEF000, []),
  (0xFF000, [(32, 0x8)]),
  (0xFF100, [(32, 0x8)]),
  (0xFF200, []),
  (0xFF208, []),
  (0x10F000, [(32, 0x10)]),
  (0x10F008, [(32, 0x10)]),
  (0x10F400, []),
  (0x11F000, [(64, 0x8)]),
  (0x11F200, []),
  (0x12F800, []),
  (0x13F000, []),
  (0x13F008, []),
  (0x14F000, []),
  (0x14F008, []),
  (0x14F010, []),
  (0x14F018, []),
  (0x15F000, []),
  (0x15F008, []),
  (0x15F010, []),
  (0x15F018, []),
  (0x15F020, []),
  (0x15F028, []),
  (0x15F030, []),
  (0x15F038, []),
  (0x16F000, [(32, 0x8)]),
  (0x16F100, [])]

/-- `a` is the low register of a 48-bit counter (R9). -/
def isCounter (a : Nat) : Bool :=
  counterRuns.any fun r => decide (r.1 ≤ a) && dimsHit r.2 (a - r.1)

end Sys2Proof.Machine
end

