-- ==== Sys2Proof/Machine/State.lean ====
section
/-! DEFINITION. The state of the block as plain data: set-up registers, counters, memory, and for each function what
its chapter of the spec gives it beyond its registers. -/
namespace Sys2Proof.Machine

/-- No command of the block stops with a fault: the spec gives each an effect. The type is the interface's. -/
inductive Fault where
  deriving DecidableEq, Repr

/-- Why a command has no meaning. -/
inductive Refusal where
  /-- Raised by an arm of exec whose command is not modelled; safe: the machine stops. -/
  | notModelled (mnemonic : String)
  deriving DecidableEq, Repr

/-- What leaves the module, in the order it leaves (the model's own record; DESIGN CHOICE, log 3). -/
inductive Out where
  /-- The value a register read returned to partition `pid`. -/
  | regValue (pid addr val : Nat)
  /-- The answer to an access: status 0 with data, or the status of R45, R60, R70 or R35 with zeros. -/
  | answer (src : Source) (status : Nat) (data : Bytes)
  /-- A BAR read answered with Completer Abort (R82). -/
  | barAbort (bar off : Nat)
  /-- A posted write issued on the PCIe link (R109), at its PCIe address. -/
  | hostWrite (addr : Nat) (data : Bytes)
  /-- A read request issued on the PCIe link (R109). -/
  | hostRead (tag addr len : Nat)
  /-- An AtomicOp request issued on the PCIe link (R110). -/
  | hostAtomic (tag : Nat) (op : AmoOp) (addr : Nat) (data : Bytes)
  /-- An MSI-X message, with its table entry's address and data (R106). -/
  | msix (vec addr data : Nat)
  /-- A frame on the wire of a port, without its FCS; a stomped one carries an inverted FCS (R150). -/
  | frame (port : Nat) (data : Bytes) (stomped : Bool)
  /-- A PAUSE frame (vector 256) or a PFC frame with its vector of priorities, and the quanta (R181). -/
  | pause (port vector quanta : Nat)
  /-- A verification attempt of 802.3br, and the answer to one (R177). -/
  | verify (port : Nat)
  | respond (port : Nat)
  /-- Auto-negotiation starts on a port (R161). -/
  | aneg (port : Nat)
  /-- A block of samples played on AOUT `unit`, or the end of a ramp to zero (R214, R220). -/
  | audio (unit : Nat) (samples : List Int)
  /-- A block of a TDM port: BCLK periods that FSYNC is high and that it leads slot 0, and the 32-bit words of the slots,
  sample by sample (R221). -/
  | tdm (port fsync delay slots : Nat) (words : List Nat)
  /-- An AIA interrupt delivered to a core's interrupt file (R399). -/
  | aia (core file id : Nat)
  /-- A core begins at its reset vector (R397), or takes its window interrupt (R395). -/
  | coreReset (k : Nat)
  | windowNmi (k : Nat)
  deriving DecidableEq, Repr

/-- The final status and result of a descriptor (R15). -/
structure Cpl where
  status : Nat
  result : Nat
  deriving DecidableEq, Repr

/-- A descriptor in flight (R94): fetched and not yet given its final completion. -/
structure Desc where
  round : Nat
  slot : Nat
  /-- its 64 bytes (R13) -/
  raw : Bytes
  /-- its source buffer, once fetched -/
  src : Option Bytes
  /-- the tag of its read under way, 256 where that read waits for a tag (R34); the read of the descriptor itself while
  `raw` is empty, else that of its source buffer -/
  wait : Option Nat
  /-- its read under way was made at HEAD, so that its outcome counts (R531) -/
  head : Bool
  /-- run-ahead has tried to fetch its source buffer -/
  tried : Bool
  /-- the start addresses of its run-ahead reads that reached the host window (R99) -/
  hostReads : List Nat
  started : Bool
  /-- its opcode's operation is under way -/
  running : Bool
  stitches : Nat
  lastBegun : Bool
  cancelled : Bool
  /-- its round was disabled after its last stitch had begun (R98) -/
  stopped : Bool
  /-- how far a stitched operation has come -/
  prog : Nat
  /-- the result so far of a stitched operation -/
  acc : Nat
  /-- crystal time of its last stitch -/
  stitchAt : Nat
  fin : Option Cpl
  deriving DecidableEq, Repr

/-- A read tag in use (R33), with the read or atomic that holds it. -/
structure TagUse where
  tag : Nat
  acc : Access
  pid : Nat
  /-- crystal time of issue -/
  issued : Nat
  /-- emulated atomics read first and write when the read completes (R110) -/
  emulate : Bool
  /-- the data of its split completions so far (R108) -/
  got : Bytes
  deriving DecidableEq, Repr

/-- An active rule of a partition guard (R42). -/
structure GRule where
  valid : Bool
  base : Nat
  limit : Nat
  rd : Nat
  wr : Nat
  deriving DecidableEq, Repr

/-- Jersey and the memories beyond their registers. -/
structure Fab where
  tags : List TagUse
  /-- reads that wait for a tag, oldest first (R34), each with the partition ID it was issued with (R40) -/
  waiting : List (Access × Nat)
  /-- masters in the order of their last grant of a tag, the latest last -/
  turn : List Master
  /-- tags of reads ended without a response (R35) -/
  ended : List Nat
  /-- rule r of guard g at key 32 g + r -/
  guards : Store GRule
  /-- accesses that wait for the lock of an emulated atomic operation (R110), oldest first, each with its partition ID and its
  read tag, 256 for a write -/
  locked : List (Access × Nat × Nat)
  /-- set-up words that the round engine and the fixed-function masters have issued and that are not yet performed, oldest
  first: partition ID, set-up offset, value -/
  setups : List (Nat × Nat × Nat)
  /-- ECC units in error, one mark each, in order of arising; those of the queue pool at `poolBase` (R64) -/
  ecc : List EccMark
  /-- the granule addresses of the last correction and of the last uncorrectable report, those of the enclave's memory too
  (R69, R70, R72) -/
  ceAddr : Nat
  ueAddr : Nat
  /-- next patrol address of each memory, by memory number -/
  patrol : Store Nat
  /-- crystal time of the last patrol interval -/
  patrolAt : Nat
  /-- bytes of the flash fitted at FLASH_A and at FLASH_B -/
  flashA : Nat
  flashB : Nat
  deriving DecidableEq, Repr

/-- The round engine and the PCIe endpoint beyond their registers. -/
structure Rnd where
  /-- descriptors in flight, oldest first -/
  descs : List Desc
  /-- cancels held against a (round, slot) whose descriptor has not started (R103) -/
  held : List (Nat × Nat)
  /-- rounds in the order in which the round engine last served them, the latest last (R89, R100) -/
  turn : List Nat
  /-- rounds that wait for a place among the 1,024 descriptors in flight (R94) -/
  waits : List Nat
  /-- completions counted toward each round's next signal, and crystal time of the first (R105) -/
  pend : Store Nat
  first : Store Nat
  /-- the MSI-X table, 4 words an entry, and the pending bit array (R81) -/
  msixTbl : Store Word
  msixPend : Nat
  /-- the PCIe configuration space beyond the RND registers (R80) -/
  pci : PciCfg
  deriving DecidableEq, Repr

/-- A push held at a full queue (R409). -/
structure HeldPush where
  q : Nat
  src : Source
  /-- the partition that its master stamped -/
  pid : Nat
  val : Nat
  /-- passed over once by a push held after it -/
  skipped : Bool
  deriving DecidableEq, Repr

/-- The hardware queues beyond their registers. -/
structure Que where
  /-- the items of each queue, head first -/
  items : Store (List Nat)
  /-- the last item popped from each queue since EN was set (R410) -/
  last : Store Nat
  held : List HeldPush
  deriving DecidableEq, Repr

/-- A frame in the packet buffer (R115), from its destination address to its last data byte. -/
structure SwFrame where
  id : Nat
  inPort : Nat
  cls : Nat
  bytes : Bytes
  /-- bytes counted from the destination address to the FCS -/
  len : Nat
  vid : Nat
  /-- egress ports and the cells not yet transferred to each -/
  left : List (Nat × Nat)
  /-- it waits in the multicast queue (R125) -/
  multi : Bool
  /-- crystal time of its first cell's transfer (R126) -/
  first : Option Nat
  mirror : Bool
  /-- an audio block frame (R218), and one that lies in the ply reserve (R122) -/
  block : Bool
  ply : Bool
  /-- the bank of the packet buffer that holds its cells (R250, R252) -/
  bank : Nat
  /-- the egress ports on which preemption was inactive when it was received (R177) -/
  whole : Nat
  /-- the mirror sessions that have copied it -/
  mirrored : Nat
  stream : Option Nat
  /-- its priority code point and drop-eligible bit; a `vid` of 4096 marks a frame sent as it stands -/
  pri : Nat
  /-- its R-TAG is removed at egress (R145) -/
  stripR : Bool
  /-- held by the resequencer: handle, sequence number, arrival (R146) -/
  held : Option (Nat × Nat × Nat)
  /-- the FRAME_SEND descriptor, round and slot, that ends when it has left (R157) -/
  send : Option (Nat × Nat)
  /-- the tag of a requested transmit timestamp -/
  tsTag : Option Nat
  trapped : Bool
  /-- its receive timestamp (R194) -/
  rxTs : Option Nat
  deriving DecidableEq, Repr

/-- A frame in an egress port's transmit stage, with the cells that have reached it. -/
structure Staged where
  port : Nat
  frame : SwFrame
  cells : Nat
  deriving DecidableEq, Repr

/-- An entry of the forwarding database (R137); its index is bucket × 4 + way. -/
structure FdbEnt where
  idx : Nat
  mac : Nat
  fid : Nat
  ports : Nat
  static : Bool
  discard : Bool
  /-- crystal time of its last refresh -/
  seen : Nat
  deriving DecidableEq, Repr

/-- A VLAN entry (R140). -/
structure VlanEnt where
  fid : Nat
  members : Nat
  untagged : Nat
  deriving DecidableEq, Repr

/-- A stream handle (R143): identification 1 destination, 2 source; role 0 identify, 1 generate, 2 recover, 3 recover
and resequence. -/
structure StreamEnt where
  ident : Nat
  role : Nat
  mac : Nat
  vid : Nat
  history : Nat
  reseqFrames : Nat
  reseqUs : Nat
  resetMs : Nat
  deriving DecidableEq, Repr

/-- Sequence state of a handle (R144 to R147). -/
structure CbState where
  started : Bool
  next : Nat
  seen : List Nat
  /-- crystal time of the last frame -/
  lastAt : Nat
  gen : Nat
  deriving DecidableEq, Repr

/-- A ply group's table entry (R132). -/
structure PlyEnt where
  en : Bool
  window : Nat
  cls : Nat
  dest : Nat
  mask : Nat
  deriving DecidableEq, Repr

/-- A ply accumulator (R129), with the table entry its open block took. -/
structure PlyAcc where
  isOpen : Bool
  time : Nat
  sums : List Int
  arrived : Nat
  last : Option Nat
  ent : PlyEnt
  deriving DecidableEq, Repr

/-- The switch core beyond its registers. -/
structure Swc where
  /-- stored frames in order of arrival, or of release from resequencing -/
  frames : List SwFrame
  staged : List Staged
  nextId : Nat
  fdb : List FdbEnt
  vlans : Store (Option VlanEnt)
  streams : Store (Option StreamEnt)
  cb : Store CbState
  /-- carve of egress queue port × 8 + class: ALPHA's k × 65536 + MIN (R121) -/
  carve : Store Nat
  /-- grant pointer of egress port × 8 + class, accept pointer of ingress port, multicast turn (R119) -/
  gPtr : Store Nat
  aPtr : Store Nat
  mcTurn : Store Nat
  /-- ply group table and accumulators; shadow ones at 256 + group (R134) -/
  plyTbl : Store PlyEnt
  plyAcc : Store PlyAcc
  /-- audio block frames on their way to the engines and the accumulator, with their class, 8 for a contribution -/
  transit : List (Nat × Bytes)
  /-- Ethernet frames delivered to port A, and to port W with their stream handles, oldest first -/
  aIn : List Bytes
  wIn : List (Option Nat × Bytes)
  /-- crystal time at which each port's HOLD ends -/
  holdEnd : Store Nat
  /-- millisecond in which matchings are being counted, and their number -/
  matchMs : Nat
  matchN : Nat
  deriving DecidableEq, Repr

/-- A frame on the line or held after a preemption (R177). -/
structure TxCur where
  frame : SwFrame
  /-- crystal time of its start, or of its going on after a fragment -/
  start : Nat
  /-- TIM_NOW at its timestamp point, once a first fragment has left (R195) -/
  stampAt : Option Nat
  /-- bytes sent in earlier fragments -/
  sent : Nat
  stomp : Bool
  deriving DecidableEq, Repr

/-- A port's transmitter. -/
structure Line where
  cur : Option TxCur
  /-- a preempted frame's remainder -/
  rest : Option TxCur
  /-- the 802.3br hold request (R172) -/
  hold : Bool
  deriving DecidableEq, Repr

/-- An entry of a gate list (R170, R184). -/
structure GateEnt where
  interval : Nat
  states : Nat
  op : Nat
  deriving DecidableEq, Repr

/-- A gate list as loaded. -/
structure GateList where
  ents : List GateEnt
  cycle : Nat
  base : Nat
  ext : Nat
  deriving DecidableEq, Repr

/-- A gate engine: its operational list with the current cycle's start and entry, and its pending list. -/
structure GateCtl where
  oper : Option GateList
  cyc : Nat
  idx : Nat
  /-- the cycle in force runs on to the pending list's BASE (R173) -/
  extended : Bool
  pend : Option GateList
  deriving DecidableEq, Repr

/-- A token bucket: tokens in units of 1/8,000,000 byte, and the crystal time of the last refill. -/
structure Bucket where
  tokens : Nat
  last : Nat
  deriving DecidableEq, Repr

/-- A stream filter (R186). -/
structure QFilter where
  en : Bool
  handle : Nat
  pcp : Nat
  gate : Nat
  maxSdu : Nat
  meter : Nat
  cls : Nat
  blockOversize : Bool
  blocked : Bool
  deriving DecidableEq, Repr

/-- A flow meter (R184), its committed and excess tokens and its all-red mark. -/
structure QMeter where
  cir : Nat
  cbs : Nat
  eir : Nat
  ebs : Nat
  coupling : Bool
  dropYellow : Bool
  markAllRed : Bool
  c : Bucket
  e : Bucket
  allRed : Bool
  deriving DecidableEq, Repr

/-- A transmit timestamp on its way to its port's queue (R197): port, tag, message type, the corrected time and the
descriptor that asked. -/
structure TxStamp where
  port : Nat
  tag : Nat
  msg : Nat
  time : Nat
  send : Option (Nat × Nat)
  deriving DecidableEq, Repr

/-- The ports beyond their registers. -/
structure Prt where
  lines : Store Line
  /-- shaper credit in millionths of a bit, by port × 8 + class; crystal time of the last update, by port (R176) -/
  credit : Store Int
  creditAt : Store Nat
  /-- end of the 802.3x pause by port, and of the PFC pause by port × 8 + priority, in tenths of a ns; 0 none -/
  pauseEnd : Store Nat
  pfcEnd : Store Nat
  /-- crystal time of the last XOFF sent, by port × 16 + class, 8 for PAUSE (R181) -/
  xoffAt : Store Nat
  /-- gate engines: port n at n, stream gate g at 32 + g -/
  gates : Store GateCtl
  buckets : Store Bucket
  filters : Store QFilter
  /-- counts of filter f: matched, passed, gate, SDU and meter drops at 8 f + i -/
  filtCnt : Store Nat
  meters : Store QMeter
  /-- crystal time of a bad negotiation result, and of the last verification attempt; attempts made -/
  anegAt : Store Nat
  verAt : Store Nat
  verTries : Store Nat
  deriving DecidableEq, Repr

/-- From crystal time `at_` TIM_NOW counts from `now` (its fraction below, 24 bits) by `inc`, until the next mark. -/
structure TimMark where
  at_ : Nat
  now : Nat
  inc : Nat
  deriving DecidableEq, Repr

/-- The media clock (R208), in units of 2⁻²⁴ · 10⁻⁶ ns: its place in 24,576 periods, and how far it is off its tie; none while
it runs free. -/
structure MediaClk where
  pos : Nat
  off : Option Int
  deriving DecidableEq, Repr

/-- The time base beyond its registers. -/
structure Tim where
  /-- 24-bit fraction of TIM_NOW -/
  frac : Nat
  /-- TIM_INC in force, and an accepted write that waits for its tick -/
  inc : Nat
  incNext : Option Nat
  /-- a step that waits for its tick -/
  step : Option Nat
  /-- triggers armed since the last tick, bit n trigger n -/
  armNew : Nat
  /-- firings of each trigger since it was armed (R210), and since the lattice locked -/
  fired : Store Nat
  fires : Store Nat
  /-- transmit-timestamp queues by port, oldest entry first -/
  txts : Store (List Bytes)
  /-- timestamps on their way to their queues -/
  stamps : List TxStamp
  /-- levels of TT0 to TT3 and PPS_OUT, and crystal time at which a pulse ends -/
  pins : Nat
  pinEnd : Store Nat
  /-- an edge of PPS_IN that has not yet held for 100 ns: TIM_NOW at it, and its crystal time -/
  pps : Option (Nat × Nat)
  media : MediaClk
  /-- how TIM_NOW has counted of late, the latest first (R194, R195) -/
  marks : List TimMark
  /-- crystal time at which the lattice first locked -/
  lockAt : Nat
  deriving DecidableEq, Repr

/-- A validity window of a wake (R318). -/
structure WakeWin where
  /-- time of the always-on domain at which it ends, in ns -/
  ends : Nat
  valid : Bool
  deriving DecidableEq, Repr

/-- The wake function and the always-on domain beyond their registers. -/
structure Wak where
  /-- VAON is valid -/
  vaon : Bool
  /-- crystal time at which VAON rose -/
  vaonAt : Nat
  /-- round and slot of the SLEEP under way, its mode, and the crystal time at which its drain fails -/
  sleep : Option (Nat × Nat)
  mode : Nat
  drainBy : Nat
  /-- events of armed sources are wakes: from the start of a SLEEP until the module is back in RUN (R316) -/
  live : Bool
  /-- OFF_WAIT: the logic die is stopped by a commit, at the crystal time that follows -/
  asleep : Bool
  commitAt : Nat
  /-- WAK_CAUSE holds a wake ordered since SLEEP started -/
  caused : Bool
  /-- crystal time at which the wake timer started -/
  timerAt : Option Nat
  /-- sources that have woken the module before a commit since SLEEP started -/
  woken : List Nat
  windows : Store WakeWin
  /-- WAK_AON_S at the last false wakes of a source, latest first, and at the end of its back-off -/
  hist : Store (List Nat)
  backoff : Store Nat
  /-- a back-off has ended since RUN was last entered -/
  boEnd : Bool
  /-- the ports that DOZE holds DISABLED -/
  ports : List Nat
  deriving DecidableEq, Repr

/-- A node record of a pattern (R225), its 64 bytes and extension data. -/
structure PNode where
  raw : Bytes
  ext : Bytes
  deriving DecidableEq, Repr

/-- An edge record of a pattern. -/
structure PEdge where
  frm : Nat
  out : Nat
  inp : Nat
  dst : Nat
  ty : Nat
  deriving DecidableEq, Repr

/-- A pattern description as loaded. -/
structure Pattern where
  id : Nat
  nodes : List PNode
  edges : List PEdge
  deriving DecidableEq, Repr

/-- A stream slot (R222). -/
structure AudSlot where
  en : Bool
  tx : Bool
  /-- false AAF, true AES67 -/
  aes : Bool
  chans : Nat
  rate16 : Bool
  /-- samples per packet and channel -/
  spp : Nat
  /-- AAF stream ID or AES67 SSRC -/
  sid : Nat
  /-- PT_OFFSET or LINK_OFFSET -/
  offset : Nat
  ts0 : Nat
  block0 : Nat
  template : Bytes
  handle : Nat
  /-- last sequence number sent or received, whether one was received, the mr bit, and the IPv4 identification -/
  seq : Nat
  synced : Bool
  mr : Bool
  ident : Nat
  /-- block count of the last block sent, and its block time -/
  sent : Option (Nat × Nat)
  deriving DecidableEq, Repr

/-- A ramp of a gain, in thousandths of a cdB: its value, its target, the blocks left, and whether it ends in mute. -/
structure Ramp where
  cur : Int
  tgt : Int
  left : Nat
  mute : Bool
  deriving DecidableEq, Repr

/-- The state of a node copy (R230 to R233). -/
structure NodeSt where
  /-- ramps of its gains, by input -/
  ramps : List Ramp
  /-- delay line, latest sample first, or filter memories of the equaliser's sections -/
  line : List Int
  /-- samples of a delay's cross-fade left, and the delay that it leaves -/
  fade : Nat
  old : Nat
  /-- a delay's SAMPLES in force, NFG ambient estimate, or level -/
  est : Int
  /-- duck: block count at which each input was last active -/
  act : List Nat
  /-- duck: top level, 0xFF none -/
  top : Nat
  /-- gate open, chime playing -/
  open_ : Bool
  /-- chime: samples played, and sequences done; meter: blocks of the window; gate: blocks below CLOSE -/
  pos : Nat
  reps : Nat
  /-- how far a limiter's gain lies below 1, Q2.46 -/
  cut : Int
  /-- a level's mean square; a meter's sum of squares and peak -/
  power : Nat
  peak : Nat
  /-- energies of the last ten blocks of its inputs, latest first -/
  past : List (List Nat)
  /-- figures of the readout: gain reduction; echo return loss and double talk; peak and RMS of the last window -/
  shown : List Int
  /-- memory of a filter whose taps the spec does not give; 0 cleared -/
  mem : Nat
  /-- blocks processed, SAT in the last, and its block time -/
  count : Nat
  sat : Bool
  time : Nat
  deriving DecidableEq, Repr

/-- A block that waits at an input of a node copy. -/
structure InBlk where
  /-- node + 512 × copy + 1024 × shadow -/
  at_ : Nat
  inp : Nat
  time : Nat
  samples : List Int
  sat : Bool
  /-- it stands for a block that did not come (R213) -/
  missed : Bool
  deriving DecidableEq, Repr

/-- A network sample that waits for its block (R224). -/
structure NetSmp where
  slot : Nat
  chan : Nat
  due : Nat
  /-- its index in the block -/
  k : Nat
  val : Int
  deriving DecidableEq, Repr

/-- A change of node parameters that waits for the next block (R236). -/
structure NodeEdit where
  node : Nat
  off : Nat
  val : Bytes
  deriving DecidableEq, Repr

/-- The audio function beyond its registers. -/
structure Aud where
  /-- the running pattern, and its generation (R235) -/
  pat : Option Pattern
  gen : Nat
  /-- states of node copies, at node + 512 × copy + 1024 × shadow -/
  st : Store NodeSt
  inbox : List InBlk
  /-- the block under way, and the node copies that have processed it -/
  block : Option Nat
  done : List Nat
  /-- output blocks that wait to be played, by output: 256 × type + 16 × unit + TDM slot -/
  ready : Store (List Int)
  /-- outputs that had no block when it was due, until they play silence -/
  missing : List Nat
  slots : Store AudSlot
  net : List NetSmp
  /-- samples of chime slots -/
  chimes : Store (List Nat)
  edits : List NodeEdit
  /-- stream blocks of transmit slots, slot × 8 + channel, until the last channel is there -/
  txBlk : Store (List Int)
  /-- a block of silence plays (REALIGN), and the media-clock error at which the buffers were reset -/
  mutedBlk : Bool
  elBase : Int
  /-- the audio die's link is up -/
  linkUp : Bool
  /-- inputs whose microphone bias a fault has switched off until BIAS_EN falls -/
  biasOff : Nat
  /-- inputs that reached full scale in the block under way; blocks left of an output's mute ramp, and its last sample -/
  clipNow : Nat
  outRamp : Store Nat
  lastOut : Store Int
  deriving DecidableEq, Repr

/-- A placement (R246): engine of each node's copy A and of its copy B, 31 none; planned finish in µs; ply groups as
(MIX, window); the level and mode it was admitted at. -/
structure Placement where
  eng : List Nat
  twin : List Nat
  finish : List Nat
  groups : List (Nat × Nat)
  level : Nat
  deriving DecidableEq, Repr

/-- What asks for a replan (R253). -/
inductive Cause where
  /-- a PATTERN_LOAD: its descriptor's round and slot -/
  | load (round slot : Nat)
  | failure
  /-- Gauge proposes a level -/
  | level (l : Nat)
  | mode
  /-- a return from DOZE, a warm reset or cast-on: every node at rest -/
  | restart
  /-- a repeat in SPREAD mode after a late shadow (R254) -/
  | spread
  /-- the mirrored placement of a standby, which runs as a shadow until a promotion (R134, R478) -/
  | mirror
  deriving DecidableEq, Repr

/-- A placement on its way to take over (R254). -/
structure Shadow where
  pat : Pattern
  place : Placement
  causes : List Cause
  /-- BLOCK_TIME of its shadow block, once that began -/
  block : Option Nat
  /-- a node of it finished late -/
  late : Bool
  /-- the check of its shadow block has passed -/
  passed : Bool
  deriving DecidableEq, Repr

/-- Chart beyond its registers. -/
structure Cht where
  /-- the running placement -/
  place : Option Placement
  shadow : Option Shadow
  /-- requests that wait for the next replan, oldest first -/
  asks : List Cause
  /-- carve hints: MIN and ALPHA's k of queue port × 8 + class -/
  hintMin : Store Nat
  hintK : Store Nat
  /-- consecutive late blocks of each engine, and the engines late in the block under way -/
  streak : Store Nat
  lateNow : List Nat
  /-- nodes dropped by R256 -/
  dropped : List Nat
  deriving DecidableEq, Repr

/-- Application cores, partitions and mailboxes beyond their registers. -/
structure Cor where
  /-- operational and pending schedules of the cores, as (length in µs, partition) (R394) -/
  tbl : Store (List (Nat × Nat))
  pendTbl : Store (List (Nat × Nat))
  /-- window in force of a scheduled core, its index plus 1, 0 idle; crystal time of its end -/
  win : Store Nat
  winEnd : Store Nat
  /-- firings of its trigger that a core's schedule has answered -/
  seen : Store Nat
  /-- cores in reset, bit k core Ak -/
  held : Nat
  /-- DOZE halts every core (R325); comfort partitions are suspended (R398) -/
  doze : Bool
  susp : Bool
  /-- ns each partition's watchdog has left, and crystal time of those figures (R396) -/
  wdLeft : Store Nat
  wdAt : Nat
  /-- crystal time at which a full mailbox times out (R404) -/
  mbxDue : Store Nat
  /-- ns each core has not been halted, up to the time `wdAt`, for `mcycle` (R389) -/
  runNs : Store Nat
  deriving DecidableEq, Repr

/-- A load channel beyond its registers. -/
structure LdcCh where
  /-- its configuration in force and the one its die has stored (R353) -/
  cfg : Bytes
  nv : Bytes
  /-- a PWM command, its duty, and the duty in force since the last frame start -/
  pwm : Bool
  duty : Nat
  dutyNow : Nat
  /-- crystal times at which INRUSH, ON and TRIPPED were entered -/
  inrushAt : Nat
  onAt : Nat
  tripAt : Nat
  deriving DecidableEq, Repr

/-- A power die. -/
structure LdcBank where
  powered : Bool
  link : Bool
  castOff : Bool
  /-- it has had a WD_ARM since it powered up -/
  armed : Bool
  /-- the WD_MS that LDC last gave it (R347) -/
  wdMs : Nat
  /-- crystal times of the last valid frame and of the last bank trip -/
  lastValid : Nat
  ovlAt : Option Nat
  /-- blanking after a trip: its channel and crystal time -/
  blank : Option (Nat × Nat)
  /-- a CO_STORE that runs in the die: its records and crystal time -/
  commit : Option (List Bytes × Nat)
  /-- crystal time of the last firing of SAMPLE_TRG -/
  sampleAt : Nat
  /-- LDC has counted the cast-off in force -/
  told : Bool
  deriving DecidableEq, Repr

/-- The load channels. -/
structure Ldc where
  chs : Store LdcCh
  banks : Store LdcBank
  deriving DecidableEq, Repr

/-- What Gauge's counters held at one moment: crystal time and the energy of each rail. -/
structure GauSnap where
  at_ : Nat
  e : List Nat
  deriving DecidableEq, Repr

/-- Gauge beyond its registers. -/
structure Gau where
  /-- energy of each rail since reset in nJ (R370) -/
  e : Store Nat
  /-- last power of each rail in mW -/
  mw : Store Nat
  /-- energy of the module total since MODE_SET, in nJ -/
  used : Nat
  /-- counters every 10 ms, latest first -/
  snaps : List GauSnap
  /-- banks charged without readings (R384) -/
  gaps : List Nat
  /-- crystal times of the last monitor sample and of the last evaluation; one is due at once -/
  monAt : Nat
  evalAt : Nat
  due : Bool
  /-- predicted changes of power by recent actions: crystal time and mW -/
  acts : List (Nat × Int)
  /-- crystal time of the last action -/
  actAt : Nat
  /-- level proposed to Chart, and level to which VCORE moves -/
  propose : Option Nat
  moving : Option Nat
  /-- levels that Chart has refused since the last switch-over -/
  refused : List Nat
  /-- the floor in pJ, as last computed (R375) -/
  floor : Nat
  deriving DecidableEq, Repr

/-- A frame in a transmit queue of a CAN controller (R271, R273). -/
structure CanTx where
  f : CanFrame
  losses : Nat
  errors : Nat
  /-- round and slot of its TX_SEND; none for a gateway frame -/
  send : Option (Nat × Nat)
  deriving DecidableEq, Repr

/-- A CAN controller's filter list (R264). -/
structure CanFilter where
  ranges : List Bytes
  duals : List Bytes
  masks : List Bytes
  queueRest : Bool
  restQ : Nat
  deriving DecidableEq, Repr

/-- A CAN controller beyond its registers. -/
structure CanCtl where
  txq : List (List CanTx)
  /-- records of its receive queues, oldest first -/
  rxq : List (List Bytes)
  filt : CanFilter
  /-- queue of the head on the bus, crystal time and timestamp of its start of frame -/
  cur : Option Nat
  curAt : Nat
  curTs : Nat
  /-- its transmitter has been released by the dominant time-out (R519) -/
  released : Bool
  /-- the controller was disabled while this frame was on the bus -/
  last : Bool
  tec : Nat
  rec_ : Nat
  /-- it waits for eleven recessive bits, or held its queues with its transceiver asleep until then (R311) -/
  integrating : Bool
  slept : Bool
  /-- bus-off recovery has started -/
  recovering : Bool
  deriving DecidableEq, Repr

/-- The CAN controllers beyond their registers. -/
structure Can where
  ctls : Store CanCtl
  deriving DecidableEq, Repr

/-- Power and resets beyond their registers. -/
structure Pow where
  /-- the logic die runs -/
  logic : Bool
  /-- INH is active -/
  inh : Bool
  /-- VLOG is within its range -/
  vlog : Bool
  /-- RESET_N is held low; it holds a warm reset at step 3 of R497 -/
  resetN : Bool
  held : Bool
  /-- a warm reset that has been triggered: its cause, and the crystal time at which it begins -/
  warm : Option (Nat × Nat)
  /-- a power cycle that has been triggered: its cause, the cause it replaces, and its crystal time -/
  cycle : Option (Nat × Nat × Nat)
  /-- crystal time at which the 20 ms of a power cycle end; VLOG has fallen within them -/
  off : Option Nat
  fell : Bool
  /-- WAK_AON_S of the warm resets that count toward escalation (R500), latest first -/
  hist : List Nat
  /-- crystal time of the last reload of the host watchdog -/
  hostAt : Nat
  /-- cast-on waits for the logic die to cool (R504) -/
  hot : Bool
  deriving DecidableEq, Repr

/-- A key slot (R419): type 0 is empty. -/
structure KeySlot where
  ty : Nat
  ops : Nat
  pmask : Nat
  key : Bytes
  deriving DecidableEq, Repr

/-- An identity record (R427): state 0 free, 1 good, 2 bad, 3 partly programmed; its private key and the sealing seed it
was wrapped under. How it is wrapped cannot be seen (R417). -/
structure IdRec where
  state : Nat
  key : Bytes
  seed : Bytes
  deriving DecidableEq, Repr

/-- A stitched enclave operation under way: its descriptor's round and slot, and the secret it works with. -/
structure EncWork where
  round : Nat
  slot : Nat
  key : Bytes
  seed : Bytes
  rec_ : Nat
  deriving DecidableEq, Repr

/-- The enclave beyond its registers. -/
structure Enc where
  /-- OTP: the root, the vendor hash, the programmed customer hashes, the identity records -/
  root : Bytes
  vendor : Bytes
  cust : Store Bytes
  recs : Store IdRec
  /-- the key store: sealing seed, slots, GCM counters -/
  seed : Bytes
  slots : Store KeySlot
  ctr : Store Nat
  /-- debug is open -/
  debug : Bool
  /-- the challenge in force and its crystal time -/
  chal : Option (Nat × Nat)
  /-- measurements: kind, id and digest -/
  meas : List (Nat × Nat × Bytes)
  work : List EncWork
  /-- the tamper sources that the always-on domain holds -/
  aon : Nat
  /-- VBAK has been out of range since the key store was last written (R418) -/
  stale : Bool
  deriving DecidableEq, Repr

/-- A frame in the gateway: its source type and unit (R283), source selector and source timestamp. -/
structure GwFrame where
  f : CanFrame
  src : Nat
  unit : Nat
  sel : Nat
  ts : Nat
  deriving DecidableEq, Repr

/-- A gateway rule: its record, its buckets in 10⁻⁹ frame and 10⁻⁹ byte with the crystal time of their refill, the last
send, the held frame, the records pushed to its ring and the four counts of R533. -/
structure GwRule where
  raw : Bytes
  ftok : Nat
  btok : Nat
  last : Nat
  lastSent : Option Nat
  held : Option GwFrame
  ring : Nat
  cnt : List Nat
  deriving DecidableEq, Repr

/-- A signal map: its record, the crystal time at which its timer started, and whether it is in timeout (R295). -/
structure GwMap where
  raw : Bytes
  timer : Nat
  tmo : Bool
  deriving DecidableEq, Repr

/-- A rebuilt PDU (R294): its data, empty where it is not set; its mode; the crystal time of the next periodic send. -/
structure GwPdu where
  data : Bytes
  mode : Nat
  period : Nat
  next : Nat
  deriving DecidableEq, Repr

/-- A template (R289), its sequence number, and the messages that collect: their class and the first one's time. -/
structure GwTmpl where
  hdr : Bytes
  batch : Nat
  maxData : Nat
  seq : Nat
  msgs : List Bytes
  cls : Nat
  first : Nat
  deriving DecidableEq, Repr

/-- The gateway beyond its registers. -/
structure Gwy where
  rules : Store GwRule
  maps : Store GwMap
  pdus : Store GwPdu
  tmpls : Store GwTmpl
  /-- freshness counters; none is unset (R300) -/
  fresh : Store (Option Nat)
  /-- crystal time of the first record of a GW_RECV, by round × 4,096 + slot -/
  recvAt : Store Nat
  /-- last sequence number received, by stream handle -/
  seqs : Store (Option Nat)
  deriving DecidableEq, Repr

/-- A serial port beyond its registers. -/
structure SerPort where
  /-- the PDU being received: its bytes, a character error in it, an escape taken, TIM_NOW at its first start bit -/
  inPdu : Bool
  rx : Bytes
  bad : Bool
  esc : Bool
  rxTs : Nat
  /-- the SER_SEND being sent: round and slot, characters left, characters sent, TIM_NOW at its first start bit -/
  send : Option (Nat × Nat)
  tx : Bytes
  sent : Nat
  txTs : Nat
  deriving DecidableEq, Repr

/-- An input (R365): its debounced value and class, the samples that agree on a new one, TIM_NOW of its last change, and
whether its next sample is taken directly. -/
structure DinState where
  val : Bool
  valCnt : Nat
  cls : Nat
  newCls : Nat
  clsCnt : Nat
  chgAt : Nat
  direct : Bool
  deriving DecidableEq, Repr

/-- The serial ports and inputs beyond their registers. -/
structure Sio where
  ports : Store SerPort
  dins : Store DinState
  /-- groups whose SAMPLE_TRG has fired since their last sample (R200) -/
  due : Nat
  deriving DecidableEq, Repr

/-- Who asked something of the Igion service: the MAC address, the IPv4 address and the port that replies go to, and the
request's SESSION, SEQ and OFFSET (R463). -/
structure IgAsk where
  mac : Nat
  ip : Nat
  port : Nat
  id : Nat
  seq : Nat
  off : Nat
  deriving DecidableEq, Repr

/-- Whom an erase or a program of a flash is for: Igion's erase, or a DATA request's kilobyte; a chain's erase, or its
block; a descriptor, by round and slot; a copy of the journal (R456). -/
inductive FlashFor where
  | igErase
  | igData (a : IgAsk)
  | chErase
  | chBlock (k : Nat)
  | desc (r i : Nat)
  | copy
  deriving DecidableEq, Repr

/-- A copy of an area under way (R456): source and destination, 0 active, 1 fallback, 2 staging; the PHASE of its records,
0 for the copy of service mode, which has none; the chunk under way and the number of chunks; a chunk that did not match
once. -/
structure CopyJob where
  src : Nat
  dst : Nat
  phase : Nat
  k : Nat
  n : Nat
  again : Bool
  deriving DecidableEq, Repr

/-- An erase of a 64 KiB sector or a program of a page: 0 FLASH_A, 1 FLASH_B; its offset; the bytes programmed; and
whether it is the last of its job. -/
structure FlashOp where
  flash : Nat
  erase : Bool
  off : Nat
  data : Bytes
  who : FlashFor
  last : Bool
  deriving DecidableEq, Repr

/-- An Igion session (R464): its SESSION, the total length, the kilobytes written and the crystal time of its last
request. -/
structure IgSession where
  id : Nat
  total : Nat
  done : List Nat
  lastAt : Nat
  deriving DecidableEq, Repr

/-- A chain reception (R466): its port, image, total blocks, HOP, blocks stored, and the crystal time of the last frame
heard from the sender. -/
structure ChainIn where
  port : Nat
  image : Nat
  blocks : Nat
  hop : Nat
  done : List Nat
  heardAt : Nat
  deriving DecidableEq, Repr

/-- A chain transmission: its port, image, total blocks and HOP; the STARTs sent and the crystal time of the last;
whether START is acknowledged; blocks acknowledged; what is in flight, a block or, under the index `blocks`, END, with the
crystal time of its last sending and the times sent; and the CHAIN_SEND that asked, none where it forwards. -/
structure ChainOut where
  port : Nat
  image : Nat
  blocks : Nat
  hop : Nat
  starts : Nat
  startAt : Nat
  begun : Bool
  acked : List Nat
  flight : List (Nat × Nat × Nat)
  desc : Option (Nat × Nat)
  deriving DecidableEq, Repr

/-- Boot and update beyond their registers and the flashes. -/
structure Boo where
  /-- flash operations in order; the first of each flash is under way -/
  ops : List FlashOp
  session : Option IgSession
  chainIn : Option ChainIn
  chainOut : List ChainOut
  /-- crystal time at which a trial ends -/
  trial : Option Nat
  /-- CONFIG_WRITE's copy: 0 in FLASH_A, 1 in FLASH_B -/
  copy : Nat
  /-- the copy of an area under way at a cast-on -/
  job : Option CopyJob
  deriving DecidableEq, Repr

/-- A MIRROR frame not yet acknowledged: its SEQ, the lane and crystal time of its last sending, and its payload. -/
structure Mirrored where
  seq : Nat
  lane : Nat
  at_ : Nat
  body : Bytes
  deriving DecidableEq, Repr

/-- An item of the mirrored state as last sent: its class and key, and what tells a change of it. -/
structure MirItem where
  cls : Nat
  key : Nat
  mark : Bytes
  deriving DecidableEq, Repr

/-- A BRIDGE_REQ sent: its REQ_ID, length, crystal time of issue, and its answer once there. -/
structure BrPart where
  id : Nat
  len : Nat
  at_ : Nat
  got : Option (Nat × Bytes)
  deriving DecidableEq, Repr

/-- An access to the partner window under way, cut into requests (R486). -/
structure BrOut where
  acc : Access
  /-- its read tag; 256 for a write -/
  tag : Nat
  parts : List BrPart
  deriving DecidableEq, Repr

/-- An inbound request (R486): OP, atomic code, address, length, PID, REQ_ID and data. -/
structure BrIn where
  op : Nat
  code : Nat
  addr : Nat
  len : Nat
  pid : Nat
  id : Nat
  data : Bytes
  deriving DecidableEq, Repr

/-- The pair function beyond its registers. -/
structure Pai where
  /-- next SEQ of each KIND -/
  seq : Store Nat
  /-- heartbeats: TIME of the last one received on a lane and own TIM_NOW at it -/
  echo : Store (Option (Nat × Nat))
  /-- crystal times of the last heartbeat and of the last frame of the same rank -/
  hbAt : Option Nat
  clashAt : Option Nat
  /-- crystal time from which START_MS runs; the next heartbeat's -/
  startAt : Nat
  hbNext : Nat
  /-- crystal time of the last beacon of the partner -/
  beaconAt : Option Nat
  /-- lanes on which a heartbeat has come since the last was sent -/
  hbSeen : List Nat
  beaconNext : Nat
  /-- the SWITCH under way: round and slot; its TERM has been sent -/
  sw : Option (Nat × Nat)
  asked : Bool
  /-- since when the bridge transfers have been crossed (R488) -/
  crossAt : Option Nat
  /-- IN_HELD, OUT_WAIT and SYNCED as the partner last reported them, and as this module last did -/
  partner : Nat
  said : Nat
  /-- the primary has sent the full copy of the partner's present resync -/
  resynced : Bool
  /-- primary: the state as mirrored, and frames not yet acknowledged -/
  image : List MirItem
  unacked : List Mirrored
  /-- standby: SEQ and records of frames held behind a gap, and the next SEQ; none before the resync has begun -/
  held : List (Nat × Bytes)
  expect : Option Nat
  /-- standby: mirrored transmit queues by controller × 4 + queue, channel records by channel, the latest records of
  Gauge and of the placement -/
  txq : Store (List Bytes)
  chs : Store Bytes
  gau : Bytes
  place : Bytes
  /-- next REQ_ID; accesses and inbound requests in order -/
  nextId : Nat
  outs : List BrOut
  ins : List BrIn
  /-- the inbound request at the front waits on its target -/
  inWait : Bool
  /-- the pair function was switched off: tied channels HELD, ports silent -/
  quiet : Bool
  deriving DecidableEq, Repr

/-- The state of the block. -/
structure State where
  /-- commands waiting, first in first out -/
  pending : List Instr
  /-- set-up registers that differ from their reset value, by set-up offset -/
  regs : Store Word
  /-- 48-bit counters that are not 0, by the set-up offset of their low register -/
  cnts : Store Nat
  /-- bytes of memory that are not 0, by fabric address -/
  mem : List Host.Cell
  /-- what has left the module, oldest first -/
  out : List Out
  /-- the model's own: draws of free values so far -/
  fresh : Nat
  /-- crystal time in ns: 4 for each lattice tick (R532) -/
  now : Nat
  fab : Fab
  rnd : Rnd
  que : Que
  swc : Swc
  prt : Prt
  tim : Tim
  wak : Wak
  aud : Aud
  cht : Cht
  cor : Cor
  ldc : Ldc
  gau : Gau
  can : Can
  pow : Pow
  enc : Enc
  gwy : Gwy
  sio : Sio
  boo : Boo
  pai : Pai
  deriving DecidableEq, Repr

/-- A memory byte that nothing has written reads 0, and 0xFF in the flash windows, as erased flash does (DESIGN CHOICE,
log 2). -/
def memDefault (a : Nat) : Byte := if 0x300000000 ≤ a ∧ a < 0x320000000 then 0xFF else 0

/-- The canonical form of memory. -/
def Memory.wf (m : List Host.Cell) : Bool := storeWf memDefault m

/-- An unlisted counter is 0. -/
def cntDefault (_ : Nat) : Nat := 0

/-- An unlisted guard rule is invalid (R77). -/
def guardDefault (_ : Nat) : GRule := ⟨false, 0, 0, 0, 0⟩

/-- An MSI-X entry at reset: vector control masked, the rest 0 (PRESUMED, log 8). -/
def msixDefault (i : Nat) : Word := if i % 4 = 3 then 1 else 0

/-- A channel's default configuration (R353). -/
def ldcDefaults (n : Nat) : Bytes :=
  leBytes 2 600 ++ leBytes 2 600 ++ leBytes 2 0 ++ leBytes 2 100 ++ [0, 1] ++ leBytes 2 1000 ++ [60, 0] ++ leBytes 2 0 ++
    leBytes 2 50 ++ [0, 0, 0, 0] ++ leBytes 2 0 ++ leBytes 2 (n % 8 * 512) ++ zeros 6

def chDefault (n : Nat) : LdcCh := ⟨ldcDefaults n, ldcDefaults n, false, 0, 0, 0, 0, 0⟩

/-- A power die at reset: not powered, without a link, in cast-off. -/
def bankDefault (_ : Nat) : LdcBank := ⟨false, false, true, false, 10, 0, none, none, none, 0, false⟩

def Fab.reset : Fab := ⟨[], [], [], [], [], [], [], [], 0, 0, [], 0, 0x10000000, 0x10000000⟩

/-- PCI Express Base's values after reset: D0, MSI-X and ECRC disabled, no command bit set (PRESUMED, log 8). -/
def PciCfg.reset : PciCfg := ⟨false, false, false, false, false⟩
def Rnd.reset : Rnd := ⟨[], [], [], [], [], [], [], 0, PciCfg.reset⟩

def Que.reset : Que := ⟨[], [], []⟩

def Swc.reset : Swc := ⟨[], [], 0, [], [], [], [], [], [], [], [], [], [], [], [], [], [], 0, 0⟩

def Prt.reset : Prt := ⟨[], [], [], [], [], [], [], [], [], [], [], [], [], []⟩

def Tim.reset : Tim := ⟨0, 0x04000000, none, none, 0, [], [], [], [], 0, [], none, ⟨0, none⟩, [], 0⟩

def Wak.reset : Wak := ⟨true, 0, none, 0, 0, false, false, 0, false, none, [], [], [], [], false, []⟩

def Aud.reset : Aud := ⟨none, 0, [], [], none, [], [], [], [], [], [], [], [], false, 0, true, 0, 0, [], []⟩

def Cht.reset : Cht := ⟨none, none, [], [], [], [], [], []⟩

def Cor.reset : Cor := ⟨[], [], [], [], [], 255, false, false, [], 0, [], []⟩

def Ldc.reset : Ldc := ⟨[], []⟩

def Gau.reset : Gau := ⟨[], [], 0, [], [], 0, 0, false, [], 0, none, none, [], 0⟩

/-- An empty filter list discards what it does not match (R266). -/
def noFilter : CanFilter := ⟨[], [], [], false, 0⟩

/-- A controller after cast-on: disabled, its queues empty (R280). -/
def ctlDefault (_ : Nat) : CanCtl :=
  ⟨[[], [], [], []], [[], [], [], [], [], [], [], []], noFilter, none, 0, 0, false, false, 0, 0, false, false, false⟩

def Can.reset : Can := ⟨[]⟩

def Pow.reset : Pow := ⟨true, true, true, false, false, none, none, none, false, [], 0, false⟩

def keySlotDefault (_ : Nat) : KeySlot := ⟨0, 0, 0, []⟩

/-- Record 0 is enrolled before shipping (R427); its key is not given (DESIGN CHOICE, log 49). -/
def idRecDefault (n : Nat) : IdRec := if n = 0 then ⟨1, beBytes 48 1, zeros 48⟩ else ⟨0, [], []⟩
def noBytes (_ : Nat) : Bytes := []

def Enc.reset : Enc := ⟨zeros 48, zeros 48, [], [], zeros 48, [], [], false, none, [], [], 0, false⟩

def gwRuleDefault (_ : Nat) : GwRule := ⟨zeros 64, 0, 0, 0, none, none, 0, [0, 0, 0, 0]⟩
def gwMapDefault (_ : Nat) : GwMap := ⟨[], 0, false⟩
def gwPduDefault (_ : Nat) : GwPdu := ⟨[], 0, 0, 0⟩
def gwTmplDefault (_ : Nat) : GwTmpl := ⟨[], 0, 0, 0, [], 0, 0⟩

def Gwy.reset : Gwy := ⟨[], [], [], [], [], [], []⟩

def serDefault (_ : Nat) : SerPort := ⟨false, [], false, false, 0, none, [], 0, 0⟩
def dinDefault (_ : Nat) : DinState := ⟨false, 0, 0, 0, 0, 0, true⟩

def Sio.reset : Sio := ⟨[], [], 0⟩

def Boo.reset : Boo := ⟨[], none, none, [], none, 0, none⟩

def Pai.reset : Pai := ⟨[], [], none, none, 0, 0, none, [], 0, none, false, none, 0, 0, false, [], [], [], none, [], [], [], [], 0, [], [], false,
  false⟩

/-- The block right after reset. -/
def State.reset : State where
  pending := []
  regs := []
  cnts := []
  mem := []
  out := []
  fresh := 0
  now := 0
  fab := Fab.reset
  rnd := Rnd.reset
  que := Que.reset
  swc := Swc.reset
  prt := Prt.reset
  tim := Tim.reset
  wak := Wak.reset
  aud := Aud.reset
  cht := Cht.reset
  cor := Cor.reset
  ldc := Ldc.reset
  gau := Gau.reset
  can := Can.reset
  pow := Pow.reset
  enc := Enc.reset
  gwy := Gwy.reset
  sio := Sio.reset
  boo := Boo.reset
  pai := Pai.reset

end Sys2Proof.Machine
end

