-- ==== Sys2Proof/Machine/Pattern.lean ====
section
/-! DEFINITION. Pattern descriptions: their records (R225), node kinds and parameters (R228, R229), the faults that
PATTERN_LOAD and PATTERN_CHECK find (R227), and the cost of nodes (R243). -/
namespace Sys2Proof.Machine

/-! Fields of a node record. -/
def PNode.kind (n : PNode) : Nat := u8 n.raw 0
def PNode.critical (n : PNode) : Bool := bitOf (u8 n.raw 1) 0
def PNode.cls (n : PNode) : Nat := u8 n.raw 2
def PNode.hintKind (n : PNode) : Nat := u32 n.raw 4 / 2 ^ 28
def PNode.hintArg (n : PNode) : Nat := u32 n.raw 4 % 2 ^ 16
def PNode.key (n : PNode) : Nat := u32 n.raw 48
/-- A signed 16-bit field. -/
def i16 (b : Bytes) (i : Nat) : Int := sint 16 (u16 b i)

/-- The node kinds (R228). -/
def K.SOURCE : Nat := 0x01
def K.SINK : Nat := 0x02
def K.GAIN : Nat := 0x03
def K.MIX : Nat := 0x04
def K.DUCK : Nat := 0x05
def K.EQ : Nat := 0x06
def K.DELAY : Nat := 0x07
def K.LIMIT : Nat := 0x08
def K.LEVEL : Nat := 0x09
def K.NFG : Nat := 0x0A
def K.AEC : Nat := 0x0B
def K.CHIME : Nat := 0x0C
def K.RESAMPLE : Nat := 0x0D
def K.METER : Nat := 0x0E
def K.GATE : Nat := 0x0F
def K.PLY_OUT : Nat := 0x10
def K.PLY_IN : Nat := 0x11

/-- Inputs of a node. -/
def PNode.ins (n : PNode) : Nat :=
  match n.kind with
  | 0x02 | 0x03 | 0x06 | 0x07 | 0x08 | 0x09 | 0x0D | 0x0E | 0x0F | 0x10 => 1
  | 0x04 | 0x05 => u8 n.raw 8
  | 0x0A | 0x0B => 2
  | _ => 0

/-- Outputs of a node. -/
def PNode.outs (n : PNode) : Nat :=
  match n.kind with
  | 0x02 | 0x0E | 0x10 => 0
  | _ => 1

/-- The SOURCE or SINK is of a stream; its unit and channel. -/
def PNode.ioType (n : PNode) : Nat := u8 n.raw 8
def PNode.ioUnit (n : PNode) : Nat := u8 n.raw 9
def PNode.ioChan (n : PNode) : Nat := u8 n.raw 10
def PNode.isIo (n : PNode) : Bool := n.kind == K.SOURCE || n.kind == K.SINK
def PNode.isStream (n : PNode) : Bool := n.isIo && n.ioType == 2
/-- DELAY samples. -/
def PNode.delay (n : PNode) : Nat := u32 n.raw 8
/-- A delay node of at least 48 samples, which may close a cycle. -/
def PNode.breaks (n : PNode) : Bool := n.kind == K.DELAY && decide (48 ≤ n.delay)

/-! Parsing. -/

def parseNodes (b : Bytes) : Nat → Nat → List PNode
  | 0, _ => []
  | n + 1, i =>
    let r := slice b (32 + 64 * i) 64
    ⟨r, slice b (u32 r 56) (u32 r 60)⟩ :: parseNodes b n (i + 1)

def parseEdges (b : Bytes) (off : Nat) : Nat → List PEdge
  | 0 => []
  | n + 1 =>
    ⟨u16 b off, u8 b (off + 2), u8 b (off + 3), u16 b (off + 4), u8 b (off + 6)⟩ :: parseEdges b (off + 8) n

/-- The pattern that a description spells. -/
def parsePattern (b : Bytes) : Pattern :=
  let n := u16 b 2
  ⟨u32 b 8, parseNodes b n 0, parseEdges b (32 + 64 * n) (u16 b 4)⟩

def nodeNone : PNode := ⟨[], []⟩
def Pattern.node (p : Pattern) (i : Nat) : PNode := p.nodes.getD i nodeNone

/-- The nodes that node `i` feeds: along its edges, and the ply inputs of its mix. -/
def Pattern.follows (p : Pattern) (i : Nat) : List Nat :=
  ((p.edges.filter fun e => e.frm == i).map (·.dst)) ++
    (if (p.node i).kind = K.PLY_OUT then
      (List.range p.nodes.length).filter fun j =>
        (p.node j).kind == K.PLY_IN && u8 (p.node j).raw 8 == u8 (p.node i).raw 8
     else [])

/-- The nodes that those of `l` reach, themselves among them, in `k` rounds. -/
def Pattern.reach (p : Pattern) : Nat → List Nat → List Nat
  | 0, l => l
  | k + 1, l =>
    let m := (l ++ l.flatMap p.follows).eraseDups
    if m.length = l.length then l else p.reach k m

/-- Node `i` is a delay that breaks a cycle: one of at least 48 samples that feeds itself. -/
def Pattern.breaks (p : Pattern) (i : Nat) : Bool :=
  (p.node i).breaks && (p.reach p.nodes.length (p.follows i)).contains i

/-! Faults (R227). -/

/-- A fault: its reason code, record kind and record index. -/
structure PFault where
  code : Nat
  kind : Nat
  idx : Nat
  deriving DecidableEq, Repr

def between (lo hi v : Nat) : Bool := decide (lo ≤ v) && decide (v ≤ hi)
def betweenI (lo hi v : Int) : Bool := decide (lo ≤ v) && decide (v ≤ hi)

/-- A gain parameter: −12,000 to 2,400 cdB, or mute. -/
def gainOk (v : Int) : Bool := betweenI (-12000) 2400 v || v == -32768

/-- The parameters of a node lie in their ranges (R229). -/
def PNode.paramOk (n : PNode) : Bool :=
  let b := n.raw
  match n.kind with
  | 0x01 | 0x02 =>
    (n.ioType == 0 && decide (n.ioUnit ≤ 7)) || (n.ioType == 1 && decide (n.ioUnit ≤ 3) && decide (n.ioChan ≤ 15)) ||
      (n.ioType == 2 && decide (n.ioUnit ≤ 63) && decide (n.ioChan ≤ 7))
  | 0x03 => gainOk (i16 b 8) && decide (u16 b 10 ≤ 1000)
  | 0x04 => between 2 16 (u8 b 8) && (List.range (u8 b 8)).all fun i => gainOk (i16 b (10 + 2 * i))
  | 0x05 =>
    between 2 9 (u8 b 8) && ((List.range (u8 b 8)).all fun i => decide (u8 b (9 + i) ≤ 8)) &&
      betweenI (-12000) 0 (i16 b 24) && between 1 2000 (u16 b 26) && between 1 10000 (u16 b 28) &&
      decide (u16 b 30 ≤ 10000)
  | 0x06 => between 1 8 (u8 b 8)
  | 0x07 => decide (n.delay ≤ 480000)
  | 0x08 => betweenI (-6000) 0 (i16 b 8) && between 10 2000 (u16 b 10)
  | 0x09 => decide (u8 b 8 ≤ 1) && between 10 10000 (u16 b 10)
  | 0x0A =>
    decide (u16 b 10 ≤ 200) && betweenI (-2400) 0 (i16 b 12) && betweenI 0 2400 (i16 b 14) &&
      between 10 2000 (u16 b 16)
  | 0x0B =>
    between 256 4096 (u16 b 8) && u16 b 8 % 64 == 0 && decide (u16 b 10 ≤ 960) && between 1 15 (u8 b 12) &&
      betweenI (-4000) 0 (i16 b 14) && betweenI 0 1200 (i16 b 16)
  | 0x0C => decide (u8 b 8 ≤ 1) && decide (u8 b 9 ≤ 63) && decide (1 ≤ u8 b 10)
  | 0x0D => decide (u8 b 8 ≤ 1)
  | 0x0E => between 10 10000 (u16 b 8)
  | 0x0F => decide (i16 b 10 ≤ i16 b 8) && decide (u16 b 12 ≤ 10000)
  | _ => true

/-- The HINT of node `i` is well formed (R248). -/
def PNode.hintOk (n : PNode) (nodes i : Nat) : Bool :=
  let a := n.hintArg
  match n.hintKind with
  | 0 => a == 0
  | 1 | 2 => decide (a < nodes) && a != i
  | 3 => between 1 15 a && !(n.isIo || n.kind == K.PLY_OUT || n.kind == K.PLY_IN)
  | _ => false

/-- The steps of a tone chime. -/
def PNode.tones (n : PNode) : List Bytes :=
  if n.kind = K.CHIME ∧ u8 n.raw 8 = 1 then (List.range (n.ext.length / 8)).map fun i => slice n.ext (8 * i) 8 else []

/-- The length of a node's extension data is right for its kind. -/
def PNode.extOk (n : PNode) : Bool :=
  let l := u32 n.raw 60
  if n.kind = K.EQ then l == 30 * u8 n.raw 8
  else if n.kind = K.CHIME ∧ u8 n.raw 8 = 1 then l % 8 == 0 && between 1 32 (l / 8)
  else l == 0

/-- The first index of a list whose item fails `ok`. -/
def firstBad {α : Type} (ok : Nat → α → Bool) : Nat → List α → Option Nat
  | _, [] => none
  | i, x :: r => if ok i x then firstBad ok (i + 1) r else some i

def headerBad (b : Bytes) (len : Nat) : Bool :=
  u16 b 0 != 1 || !between 1 512 (u16 b 2) || decide (1024 < u16 b 4) || u32 b 12 != len || decide (len < 32 + 64 * u16 b 2 + 8 * u16 b 4) || decide (262144 < len)

/-- A node of known kind with its reserved fields 0. -/
def PNode.plain (n : PNode) : Bool :=
  between 1 0x11 n.kind && decide (u8 n.raw 1 ≤ 1) && u8 n.raw 3 == 0 && u32 n.raw 52 == 0 &&
    bits (u32 n.raw 4) 27 16 == 0

/-- An edge joins nodes, an output and an input that exist. -/
def Pattern.edgeThere (p : Pattern) (e : PEdge) : Bool :=
  decide (e.frm < p.nodes.length) && decide (e.dst < p.nodes.length) && decide (e.out < (p.node e.frm).outs) &&
    decide (e.inp < (p.node e.dst).ins)

/-- Every input of node `i` takes exactly one edge. -/
def Pattern.inputsOk (p : Pattern) (i : Nat) (n : PNode) : Bool :=
  (List.range n.ins).all fun k => (p.edges.filter fun e => e.dst == i && e.inp == k).length == 1

/-- The stream slot of a node runs at 16 kHz. -/
def rate16 (slots : Nat → AudSlot) (n : PNode) : Bool := n.isStream && (slots n.ioUnit).rate16

/-- Samples of a block of a node's output: one of a control edge, 16 at 16 kHz (R218, R226). -/
def PNode.outLen (slots : Nat → AudSlot) (n : PNode) : Nat :=
  if n.kind = K.LEVEL then 1 else if rate16 slots n || (n.kind == K.RESAMPLE && u8 n.raw 8 == 1) then 16 else 48

/-- What stands for a node's output where it is missing: zeros, and the lowest level for a control edge (R213; DESIGN CHOICE, log
95). -/
def PNode.noOut (slots : Nat → AudSlot) (n : PNode) : List Int :=
  if n.kind = K.LEVEL then [-12000] else List.replicate (n.outLen slots) 0

/-- The edge's rate and type fit (R226). -/
def Pattern.edgeFits (p : Pattern) (slots : Nat → AudSlot) (e : PEdge) : Bool :=
  let f := p.node e.frm
  let t := p.node e.dst
  let ctl := f.kind == K.LEVEL
  let low := rate16 slots f || (f.kind == K.RESAMPLE && u8 f.raw 8 == 1)
  let wantLow := (t.kind == K.SINK && rate16 slots t) || (t.kind == K.RESAMPLE && u8 t.raw 8 == 0)
  (e.ty == (if ctl then 1 else 0)) && (ctl == (t.kind == K.NFG && e.inp == 1)) && (ctl || low == wantLow)

/-- The nodes that a node feeds within a block: a delay of 48 samples takes nothing within it. -/
def Pattern.feeds (p : Pattern) (i : Nat) : List Nat := (p.follows i).filter fun j => !(p.node j).breaks

/-- The nodes of `l` that no node of `l` feeds leave; what stays after enough rounds lies on or behind a cycle. -/
def Pattern.peel (p : Pattern) : Nat → List Nat → List Nat
  | 0, l => l
  | k + 1, l =>
    let fed := l.flatMap p.feeds
    let l' := l.filter fun i => fed.contains i
    if l'.length = l.length then l else p.peel k l'

/-- A node on a cycle that holds no delay of 48 samples. -/
def Pattern.cyclic (p : Pattern) : Option Nat := (p.peel p.nodes.length (List.range p.nodes.length)).head?

/-- Two nodes take the same input or drive the same output. -/
def sameIo (a b : PNode) : Bool :=
  a.kind == b.kind && a.isIo && a.ioType == b.ioType && a.ioUnit == b.ioUnit && (a.ioType == 0 || a.ioChan == b.ioChan)

def Pattern.ioOk (p : Pattern) (i : Nat) (n : PNode) : Bool := !(p.nodes.take i).any fun m => sameIo m n

/-- A mix keeps R227 code 9. -/
def Pattern.mixOk (p : Pattern) (n : PNode) : Bool :=
  let outs := (p.nodes.filter fun m => m.kind == K.PLY_OUT && u8 m.raw 8 == u8 n.raw 8).length
  if n.kind = K.PLY_OUT then decide (outs ≤ 64)
  else if n.kind = K.PLY_IN then decide (1 ≤ outs)
  else true

/-- The stream slot of a node is set and fits it. -/
def slotOk (slots : Nat → AudSlot) (n : PNode) : Bool :=
  !n.isStream ||
    (let s := slots n.ioUnit
     s.en && (s.tx == (n.kind == K.SINK)) && decide (n.ioChan < s.chans))

/-- The extension data of a node lies in the extension area. -/
def extIn (b : Bytes) (n : PNode) : Bool :=
  u32 n.raw 60 == 0 ||
    (decide (32 + 64 * u16 b 2 + 8 * u16 b 4 ≤ u32 n.raw 56) && decide (u32 n.raw 56 + u32 n.raw 60 ≤ b.length))

/-- The first fault of a description, in the order of the reason codes. -/
def patternFault (slots : Nat → AudSlot) (b : Bytes) (len : Nat) : Option PFault :=
  if headerBad b len then some ⟨1, 0, 0⟩
  else
    let p := parsePattern b
    let n := p.nodes.length
    let node := fun (c : Nat) (ok : Nat → PNode → Bool) => (firstBad ok 0 p.nodes).map fun i => PFault.mk c 1 i
    let edge := fun (c : Nat) (ok : PEdge → Bool) => (firstBad (fun _ e => ok e) 0 p.edges).map fun i => PFault.mk c 2 i
    let ext := fun (c : Nat) (ok : PNode → Bool) => (firstBad (fun _ x => ok x) 0 p.nodes).map fun i => PFault.mk c 3 i
    (if u16 b 6 == 0 && allZero b 16 32 then none else some ⟨2, 0, 0⟩).or <|
    (node 2 fun _ x => x.plain).or <|
    ((firstBad (fun i _ => u8 b (32 + 64 * n + 8 * i + 7) == 0) 0 p.edges).map fun i => PFault.mk 2 2 i).or <|
    (ext 2 fun x => x.tones.all fun t => u16 t 6 == 0).or <|
    (node 3 fun i x => decide (x.cls ≤ 7) && x.paramOk && x.hintOk n i).or <|
    (ext 3 fun x => x.tones.all fun t => u16 t 0 == 0 || between 20 20000 (u16 t 0)).or <|
    (edge 4 p.edgeThere).or <|
    (node 5 p.inputsOk).or <|
    (edge 6 (p.edgeFits slots)).or <|
    (p.cyclic.map fun i => PFault.mk 7 1 i).or <|
    (node 8 p.ioOk).or <|
    (node 9 fun _ x => p.mixOk x).or <|
    (node 10 fun _ x => slotOk slots x).or <|
    (ext 11 fun x => extIn b x && x.extOk)

/-! Cost and storage (R243). -/

/-- Multiply-accumulate equivalents per block. -/
def PNode.cost (n : PNode) : Nat :=
  let b := n.raw
  match n.kind with
  | 0x01 | 0x02 => if n.ioType = 2 then 2400 else 1200
  | 0x03 => 600
  | 0x04 => 400 + 150 * u8 b 8
  | 0x05 => 1500 + 400 * u8 b 8
  | 0x06 => 500 + 300 * u8 b 8
  | 0x07 => if n.delay ≤ 8192 then 800 else 1400
  | 0x08 => 1200
  | 0x09 => 900
  | 0x0A => 1400
  | 0x0B => 8000 + 60 * u16 b 8
  | 0x0C => if u8 b 8 = 1 then 2500 else 1000
  | 0x0D => 2400
  | 0x0E => 700
  | 0x0F => 900
  | 0x10 | 0x11 => 300
  | _ => 0

/-- Bytes of engine-local memory. -/
def PNode.localBytes (n : PNode) : Nat :=
  let b := n.raw
  match n.kind with
  | 0x01 | 0x02 => 640
  | 0x06 => 64 + 64 * u8 b 8
  | 0x07 => if n.delay ≤ 8192 then 64 + 6 * n.delay else 64
  | 0x0B => 4096 + 24 * u16 b 8
  | 0x0D => 1024
  | 0x10 | 0x11 => 0
  | _ => 256

/-- STATE_LOC: 1 engine local, 2 common SRAM, 3 DRAM, 0 none. -/
def PNode.loc (n : PNode) : Nat :=
  if n.kind = K.DELAY ∧ 8192 < n.delay then 3
  else if n.kind = K.CHIME ∧ u8 n.raw 8 = 0 then 3
  else if n.isStream then 2
  else if n.localBytes = 0 then 0 else 1

/-- Twin group of a node; 0 none. -/
def PNode.twin (n : PNode) : Nat := if n.hintKind = 3 then n.hintArg else 0

end Sys2Proof.Machine
end

