-- ==== Sys2Proof/Machine/Dsp.lean ====
section
/-! DEFINITION. What a node computes on a block (R216, R217, R230 to R234). The spec fixes the arithmetic of an engine lane and
the law of each node; the last unit of a gain's or a time constant's coefficient, the taps of filters it does not give and the
wave of a tone are free functions of their operands (log 41), so that two copies with one history agree (R250). -/
namespace Sys2Proof.Machine

/-- Whole numbers as one, the key of a free function. -/
def spell (l : List Int) : Nat := l.foldl (fun m x => m * 2 ^ 64 + (x + 2 ^ 63).toNat % 2 ^ 64) 1

/-! Powers of ten, to 96 places. -/

/-- Newton's steps toward the square root of `n`, from above. -/
def rootFrom (n : Nat) : Nat → Nat → Nat
  | 0, x => x
  | k + 1, x => if x = 0 then 0 else min x (rootFrom n k ((x + n / x) / 2))

/-- 10 to the power 2⁻ᵏ, in units of 2⁻⁹⁶. -/
def tenRoot : Nat → Nat
  | 0 => 10 * 2 ^ 96
  | k + 1 => rootFrom (tenRoot k * 2 ^ 96) 140 (tenRoot k)

/-- 10 to the power `f` / `n` below 1, in units of 2⁻⁹⁶, from `k` binary places of the exponent. -/
def tenFrac (n : Nat) : Nat → Nat → Nat → Nat
  | 0, _, _ => 2 ^ 96
  | k + 1, i, f =>
    let r := tenFrac n k (i + 1) (2 * f % n)
    if n ≤ 2 * f then r * tenRoot i / 2 ^ 96 else r

/-- A gain in thousandths of a cdB as a ratio of amplitudes, in units of 2⁻⁴⁶. -/
def ratioOf (g : Int) : Nat :=
  let f := tenFrac 2000000 60 1 (g % 2000000).toNat
  let e := g / 2000000
  if 0 ≤ e then f * 10 ^ e.toNat / 2 ^ 50 else f / (10 ^ (-e).toNat * 2 ^ 50)

/-- The coefficient, Q2.46, of a gain in thousandths of a cdB: 1 at 0 dB; elsewhere the ratio to within one unit of its last
place, as the implementation rounds it. -/
def coefOf (g : Int) : Int := if g = 0 then 2 ^ 46 else max 0 ((ratioOf g : Int) + Config.freeFn 10 (spell [g]) % 3 - 1)

/-- The part of its distance that an exponential with a time constant of `n` samples covers in one, in units of 2⁻⁴⁶, to
within one unit. -/
def fallOf (n : Nat) : Int :=
  let p := fun (k : Nat) => (2 ^ 46 / n ^ k : Int)
  p 1 - p 2 / 2 + p 3 / 6 - p 4 / 24 + p 5 / 120 + Config.freeFn 12 n % 3 - 1

/-! Engine lanes (R217). -/

/-- A product of a sample and a coefficient as an engine lane adds it. -/
def mac (x c : Int) : Int := x * c / 2 ^ 7

/-- The accumulator converted to a sample, unsaturated. -/
def conv (acc : Int) : Int := (acc + 2 ^ 38) / 2 ^ 39

/-- A converted accumulator does not fit a sample. -/
def clips (acc : Int) : Bool := satInt 48 (conv acc) != conv acc

/-- Accumulators converted to samples, with the saturation of the block. -/
def convAll (l : List Int) : List Int × Bool := (l.map fun a => satInt 48 (conv a), l.any clips)

/-- Sample `k` of a block; silence past its end. -/
def smp (b : List Int) (k : Nat) : Int := b.getD k 0

def silence (n : Nat) : List Int := List.replicate n 0

/-! Levels: mean squares, in units of 2⁻⁹⁴ of a constant signal of 1.0. -/

/-- The sum of squares of a block. -/
def energy (b : List Int) : Nat := (b.map fun x => x.natAbs ^ 2).sum

/-- A mean square of `num` / `den` lies above `v` cdB. -/
def above (num den : Nat) (v : Int) : Bool := decide (4 * ratioOf (1000 * v) ^ 2 * den < num)

/-- It is at least `v` cdB. -/
def reaches (num den : Nat) (v : Int) : Bool := decide (4 * ratioOf (1000 * v) ^ 2 * den ≤ num)

/-- The greatest level that a mean square reaches, by binary search over 2 ^ `k` levels from `lo`. -/
def levelFrom (num den : Nat) : Nat → Int → Int
  | 0, lo => lo
  | k + 1, lo =>
    let m := lo + 2 ^ k
    levelFrom num den k (if reaches num den m then m else lo)

/-- A mean square in cdB, with a floor of −12,000; rounded down or up, as the implementation does. -/
def levelCdb (num den : Nat) : Int :=
  if !reaches num den (-12000) then -12000 else levelFrom num den 15 (-12000) + Config.freeFn 13 (spell [num, den]) % 2

/-- The mean square of the ten blocks of energies `l`, latest first: the level averaged over 10 ms. -/
def tenMs (l : List Nat) : Nat := (l.take 10).sum

/-- It exceeds `v` cdB; it lies below `v` cdB. -/
def loud (l : List Nat) (v : Int) : Bool := above (tenMs l) 480 v
def quiet (l : List Nat) (v : Int) : Bool := !reaches (tenMs l) 480 v

/-! Ramps, linear in dB. -/

/-- The value of a gain parameter in thousandths of a cdB; mute is reached as −120 dB. -/
def gainTgt (v : Int) : Int := if v = -32768 then -12000000 else 1000 * v

/-- A ramp that stands at its target. -/
def Ramp.at (v : Int) : Ramp := ⟨gainTgt v, gainTgt v, 0, v == -32768⟩

/-- The ramp turned toward `v` over `blocks` blocks, where it does not head there already. -/
def Ramp.aim (r : Ramp) (v : Int) (blocks : Nat) : Ramp :=
  if r.tgt = gainTgt v ∧ r.mute = (v == -32768) then r
  else if blocks = 0 then Ramp.at v
  else ⟨r.cur, gainTgt v, blocks, v == -32768⟩

/-- The ramp after one block. -/
def Ramp.step (r : Ramp) : Ramp :=
  if r.left = 0 then r
  else if r.left = 1 then { r with cur := r.tgt, left := 0 }
  else { r with cur := r.cur + (r.tgt - r.cur) / r.left, left := r.left - 1 }

/-- Whether the first sample of a ramp or of a cross-fade has moved already, as the implementation has it. -/
def rampLead : Nat := Config.freeFn 11 0 % 2

/-- The coefficient of a ramp at sample `k` of a block: exact zero once a mute is reached. -/
def Ramp.coef (r : Ramp) (k : Nat) : Int :=
  if r.left = 0 then (if r.mute then 0 else coefOf r.cur)
  else coefOf (r.cur + (r.tgt - r.cur) * ((k + rampLead : Nat) : Int) / ((48 * r.left : Nat) : Int))

/-- What a node makes of a block. -/
structure Ran where
  st : NodeSt
  out : List Int
  sat : Bool
  /-- a chime has ended; a duck's top level became 8 -/
  chimeDone : Bool
  pei : Bool

def nodeRest : NodeSt := ⟨[], [], 0, 0, 0, [], 0xFF, false, 0, 0, 0, 0, 0, [], [], 0, 0, false, 0⟩

/-- Samples added with their coefficients and converted, with the saturation of the block. -/
def mixBlk (n : Nat) (l : List (List Int × (Nat → Int))) : List Int × Bool :=
  convAll ((List.range n).map fun k => (l.map fun x => mac (smp x.1 k) (x.2 k)).sum)

/-- Ramps of `gains`, aimed over `blocks` blocks; a node at rest starts with its gains in force. -/
def aimAll (rs : List Ramp) (gains : List Int) (blocks : Nat) : List Ramp :=
  if rs.length = gains.length then (rs.zip gains).map fun x => x.1.aim x.2 blocks else gains.map Ramp.at

/-- A mix of inputs under their ramps. -/
def rampMix (ins : List (List Int)) (rs : List Ramp) (neg : Bool) : List Int × Bool :=
  mixBlk 48 ((ins.zip rs).map fun x => (x.1, fun k => if neg then -x.2.coef k else x.2.coef k))

/-! Equaliser (R230). -/

/-- A section of the equaliser: coefficients b0, b1, b2, a1, a2 and memories x1, x2, y1, y2. -/
def eqSection (c : List Int) (m : List Int) (x : Int) : List Int × Int × Bool :=
  let g := fun i => smp m i
  let acc := mac x (smp c 0) + mac (g 0) (smp c 1) + mac (g 1) (smp c 2) - mac (g 2) (smp c 3) - mac (g 3) (smp c 4)
  let y := satInt 48 (conv acc)
  ([x, g 0, y, g 2], y, clips acc)

/-- One sample through the sections in order. -/
def eqSample (ext : Bytes) : Nat → List Int → Int → List Int × Int × Bool
  | 0, _, x => ([], x, false)
  | n + 1, m, x =>
    let c := (List.range 5).map fun i => sint 48 (u48 ext (6 * i))
    let r := eqSection c (m.take 4) x
    let t := eqSample (ext.drop 30) n (m.drop 4) r.2.1
    (r.1 ++ t.1, t.2.1, r.2.2 || t.2.2)

/-- A block through an equaliser of `n` sections. -/
def eqBlk (ext : Bytes) (n : Nat) (m : List Int) : List Int → List Int × List Int × Bool
  | [] => (m, [], false)
  | x :: r =>
    let t := eqSample ext n m x
    let u := eqBlk ext n t.1 r
    (u.1, t.2.1 :: u.2.1, t.2.2 || u.2.2)

/-! Chimes (R230). -/

/-- Samples of one sequence of a chime. -/
def chimeLen (n : PNode) (slot : List Nat) : Nat :=
  if u8 n.raw 8 = 0 then slot.length
  else 48 * ((List.range (n.ext.length / 8)).map fun i => u16 n.ext (8 * i + 4)).sum

/-- Sample `i` of a tone of `freq` Hz at full scale: its wave is the implementation's; frequency 0 is a pause. -/
def toneSmp (freq i : Nat) : Int := if freq = 0 then 0 else sint 48 (Config.freeFn 14 (spell [freq, i]))

/-- The tone step that plays at sample `pos` of a sequence: the sample at full scale and the step's level in cdB. -/
def toneAt : Nat → Bytes → Nat → Int × Int
  | 0, _, _ => (0, 0)
  | k + 1, b, pos =>
    if pos < 48 * u16 b 4 then (toneSmp (u16 b 0) pos, i16 b 2) else toneAt k (b.drop 8) (pos - 48 * u16 b 4)

/-- A sample of a chime with its gain in thousandths of a cdB. -/
def chimeSmp (n : PNode) (slot : List Nat) (pos : Nat) : Int × Int :=
  if u8 n.raw 8 = 0 then (sint 48 (slot.getD pos 0), 1000 * i16 n.raw 12)
  else
    let t := toneAt (n.ext.length / 8) n.ext pos
    (t.1, 1000 * (t.2 + i16 n.raw 12))

/-- A block of a chime: its slot or its tones at LEVEL. -/
def chimeRun (n : PNode) (st : NodeSt) (slot : List Nat) : Ran :=
  let len := chimeLen n slot
  let rep := u8 n.raw 10
  if !st.open_ then ⟨st, silence 48, false, false, false⟩
  else
    let o := convAll ((List.range 48).map fun k =>
      if st.pos + k < len * rep then
        let x := chimeSmp n slot ((st.pos + k) % max len 1)
        mac x.1 (coefOf x.2)
      else 0)
    let ended := decide (len * rep ≤ st.pos + 48)
    ⟨{ st with open_ := !ended, pos := st.pos + 48, reps := min rep ((st.pos + 48) / max len 1) }, o.1, o.2, ended, false⟩

/-! Ducking (R231). -/

/-- The energies of the last ten blocks of input `i`. -/
def NodeSt.pastOf (st : NodeSt) (i : Nat) : List Nat := st.past.getD i []

/-- The energies with those of a block's inputs. -/
def NodeSt.hear (st : NodeSt) (ins : List (List Int)) : List (List Nat) :=
  (List.range ins.length).map fun i => (energy (ins.getD i []) :: st.pastOf i).take 10

/-- Input `i` of a duck is active in this block. -/
def duckActive (n : PNode) (st : NodeSt) (i : Nat) : Bool :=
  bitOf (u16 n.raw 18) i || (bitOf (u16 n.raw 20) i && loud (st.pastOf i) (i16 n.raw 22))

/-- An input that was active within HOLD, the end of its last activity kept as a block count plus 1. -/
def duckHeld (n : PNode) (st : NodeSt) (i : Nat) : Bool :=
  let a := st.act.getD i 0
  a != 0 && decide (st.count + 1 < a + u16 n.raw 30)

/-- The end of input `i`'s activity, as a block count plus 1: an ACTIVE bit lasts to its block's end, a level to the end
of the block before, at which it stands (log 88). -/
def duckMark (n : PNode) (st : NodeSt) (act : Bool) (i : Nat) : Nat :=
  if bitOf (u16 n.raw 18) i then st.count + 2 else if act then st.count + 1 else st.act.getD i 0

/-- The highest of some levels; 0xFF where there are none. -/
def topOf : List Nat → Nat
  | [] => 0xFF
  | x :: r => if topOf r = 0xFF then x else max x (topOf r)

/-- The gain in cdB that a duck aims at for an input of level `lv`. -/
def duckAim (n : PNode) (top lv : Nat) : Int :=
  if top = 8 ∧ lv ≠ 8 then -32768 else if top = 0xFF ∨ top ≤ lv then 0 else i16 n.raw 24

def duckRun (n : PNode) (st : NodeSt) (ins : List (List Int)) : Ran :=
  let k := n.ins
  let act := (List.range k).map fun i => duckActive n st i
  let on := (List.range k).map fun i => act.getD i false || duckHeld n st i
  let lv := (List.range k).map fun i => u8 n.raw (9 + i)
  let top := topOf (((List.range k).filter fun i => on.getD i false).map fun i => lv.getD i 0)
  let rs := if st.ramps.length = k then st.ramps else List.replicate k (Ramp.at 0)
  let rs := (rs.zip lv).map fun x =>
    let v := duckAim n top x.2
    x.1.aim v (if gainTgt v < x.1.cur then u16 n.raw 26 else u16 n.raw 28)
  let o := rampMix ins rs false
  ⟨{ st with
      ramps := rs.map Ramp.step, top := top, past := st.hear ins
      act := (List.range k).map fun i => duckMark n st (act.getD i false) i },
    o.1, o.2, false, top == 8 && st.top != 8⟩

/-! Noise-follow gain (R232). -/

/-- Its programme's 10 ms level is the one at the end of the block before, as a duck's is (DESIGN CHOICE, log 95). -/
def nfgRun (n : PNode) (st : NodeSt) (ins : List (List Int)) : Ran :=
  let b := n.raw
  let amb := smp (ins.getD 1 []) 0
  let est := if i16 b 18 = -32768 ∨ quiet (st.pastOf 0) (i16 b 18) then amb else st.est
  let g := match st.ramps with | r :: _ => r.cur | [] => 0
  let tgt := max (1000 * i16 b 12) (min (1000 * i16 b 14) ((u16 b 10 : Int) * 10 * (est - i16 b 8)))
  let rate : Int := u16 b 16
  let g' := g + max (-rate) (min rate (tgt - g))
  let r : Ramp := ⟨g', g', 0, false⟩
  let o := mixBlk 48 [(ins.getD 0 [], r.coef)]
  ⟨{ st with ramps := [r], est := est, past := st.hear (ins.take 1) }, o.1, o.2, false, false⟩

/-! Delay (R230). -/

/-- The samples a line of `n` gives, after the input; `brk` says that the input is the block before. -/
def lineOut (line : List Int) (brk : Bool) (n : Nat) : List Int :=
  (List.range 48).map fun k => line.getD (47 - k + (if brk then n - 48 else n)) 0

/-- A delay of `n.delay` samples, `brk` where it breaks a cycle. A change of SAMPLES cross-fades over 240 samples, from what
played before it. -/
def delayRun (n : PNode) (brk : Bool) (st : NodeSt) (inp : List Int) : Ran :=
  let full := n.delay
  let line := inp.reverse ++ st.line
  let moved := st.count != 0 && st.est != full
  let was := if moved then st.est.toNat else st.old
  let fade := if moved then 240 else st.fade
  let new := lineOut line brk full
  let old := lineOut line brk was
  let o := if fade = 0 then (new, false) else
    convAll ((List.range 48).map fun k =>
      let c : Int := 2 ^ 46 * ((240 - fade + k + rampLead : Nat) : Int) / 240
      mac (smp new k) c + mac (smp old k) (2 ^ 46 - c))
  ⟨{ st with line := line.take (max (max full was) 48), est := full, old := was, fade := fade - 48 }, o.1, o.2, false, false⟩

/-! Limiter, level, meter and gate (R230). -/

/-- One sample through a limiter of threshold `thr`, Q2.46, that is `cut` below unity: the gain falls to keep the threshold and
then rises toward 1. -/
def limitSmp (thr fall cut x : Int) : Int × Int :=
  let g := min (2 ^ 46 - cut) (if x = 0 then 2 ^ 46 else thr * 2 ^ 47 / x.natAbs)
  let y := max (-(2 * thr)) (min (2 * thr) (satInt 48 (conv (mac x g))))
  let c := 2 ^ 46 - g
  (c - c * fall / 2 ^ 46, y)

def limitBlk (thr fall : Int) : Int → List Int → Int × List Int
  | cut, [] => (cut, [])
  | cut, x :: r =>
    let t := limitSmp thr fall cut x
    let u := limitBlk thr fall t.1 r
    (u.1, t.2 :: u.2)

def limitRun (n : PNode) (st : NodeSt) (x : List Int) : Ran :=
  let t := limitBlk (coefOf (1000 * i16 n.raw 8)) (fallOf (48 * u16 n.raw 10)) st.cut x
  ⟨{ st with cut := t.1, shown := [-levelCdb (4 * (2 ^ 46 - t.1).natAbs ^ 2) 1] }, t.2, false, false, false⟩

/-- Samples behind the A-weighting filter, whose taps the spec does not give, with the filter's new memory. -/
def weighted (n : PNode) (mem : Nat) (b : List Int) : Nat × List Int :=
  if u8 n.raw 8 = 1 then
    (Config.freeFn 15 (spell ((mem : Int) :: b)),
      (List.range b.length).map fun (k : Nat) => sint 48 (Config.freeFn 16 (spell ((k : Int) :: (mem : Int) :: b))))
  else (mem, b)

/-- The mean square after some samples, averaged exponentially. -/
def meanAfter (fall : Int) (b : List Int) (ms : Nat) : Nat :=
  b.foldl (fun m x => ((m : Int) + ((x ^ 2 : Int) - m) * fall / 2 ^ 46).toNat) ms

def levelRun (n : PNode) (st : NodeSt) (x : List Int) : Ran :=
  let w := weighted n st.mem x
  let ms := meanAfter (fallOf (48 * u16 n.raw 10)) w.2 st.power
  let v := levelCdb ms 1
  ⟨{ st with mem := w.1, power := ms, est := v }, [v], false, false, false⟩

/-- A meter's window under way; its peak and RMS are shown at the window's end. -/
def meterRun (n : PNode) (st : NodeSt) (x : List Int) : Ran :=
  let pk := x.foldl (fun m v => max m v.natAbs) st.peak
  let pw := st.power + energy x
  let win := u16 n.raw 8
  if st.pos + 1 < win then ⟨{ st with peak := pk, power := pw, pos := st.pos + 1 }, [], false, false, false⟩
  else ⟨{ st with peak := 0, power := 0, pos := 0, shown := [levelCdb (pk ^ 2) 1, levelCdb pw (48 * win)] }, [], false, false, false⟩

/-- A gate tests the level of the 10 ms that end with its block (DESIGN CHOICE, log 95). -/
def gateRun (n : PNode) (st : NodeSt) (b : List Int) : Ran :=
  let past := (energy b :: st.pastOf 0).take 10
  let held := if quiet past (i16 n.raw 10) then st.pos + 1 else 0
  let o := loud past (i16 n.raw 8) || (st.open_ && decide (held < max 1 (u16 n.raw 12)))
  ⟨{ st with open_ := o, pos := held, past := [past] }, if o then b else silence 48, false, false, false⟩

/-! Resampler (R230): 97 taps, linear phase; their values are the implementation's. -/

/-- Tap `i` of the resampler that goes up, or down. -/
def tap (down : Bool) (i : Nat) : Int := sint 48 (Config.freeFn 17 (2 * min i (96 - i) + b2n down))

/-- The filter's output where the latest sample first stands in `line`. -/
def firAt (down : Bool) (line : List Int) : Int := ((List.range 97).map fun i => mac (smp line i) (tap down i)).sum

/-- A block goes up by three, zeros between its samples, or down, every third sample kept. -/
def resampleRun (n : PNode) (st : NodeSt) (x : List Int) : Ran :=
  let down := u8 n.raw 8 == 1
  let x48 := if down then x else x.flatMap fun v => [v, 0, 0]
  let line := x48.reverse ++ st.line
  let at_ := if down then (List.range 16).map (3 * ·) else List.range 48
  let o := convAll (at_.map fun k => firAt down (line.drop (47 - k)))
  ⟨{ st with line := line.take 96 }, o.1, o.2, false, false⟩

/-! Echo cancellation (R233). -/

/-- The echo that the filter estimates from the reference in its reach: none of a cleared filter, none of silence; how its
partitions round is the implementation's. -/
def echoOf (mem : Nat) (ref : List Int) : List Int :=
  if mem = 0 || ref.all (· == 0) then silence 48
  else (List.range 48).map fun (k : Nat) => sint 48 (Config.freeFn 18 (spell ((k : Int) :: (mem : Int) :: ref)))

/-- A block of an AEC: the estimate is taken from the microphone, what remains is suppressed by at most NLP, and the filter
adapts unless FREEZE or double talk holds it. -/
def aecRun (n : PNode) (st : NodeSt) (ins : List (List Int)) : Ran :=
  let b := n.raw
  let mic := ins.getD 0 []
  let line := (ins.getD 1 []).reverse ++ st.line
  let reach := u16 b 8 + u16 b 10 + 48
  let ref := (line.drop (u16 b 10)).take (u16 b 8 + 47)
  let echo := echoOf st.mem ref
  let e := convAll ((List.range 48).map fun k => mac (smp mic k - smp echo k) (2 ^ 46))
  let err := e.1
  let talk := st.mem != 0 && decide (ratioOf (1000 * i16 b 16) ^ 2 * energy echo < energy mic * 2 ^ 92)
  let low := coefOf (1000 * i16 b 14)
  let c := if low < 2 ^ 46 then
      low + Config.freeFn 19 (spell ((st.mem : Int) :: err ++ ref)) % (2 ^ 46 - low + 1) else 2 ^ 46
  let o := mixBlk 48 [(err, fun _ => c)]
  let frozen := bitOf (u8 b 13) 0 || talk
  let mem := if frozen then st.mem else Config.freeFn 22 (spell ((u8 b 12 : Int) :: (st.mem : Int) :: err ++ ref))
  ⟨{ st with
      line := line.take reach, mem := mem
      shown := [levelCdb (energy mic) 48 - levelCdb (energy o.1) 48, b2n talk] }, o.1, e.2 || o.2, false, false⟩

/-- What node `n` makes of its inputs, with a chime slot's samples; `brk` says that it is a delay that breaks a cycle. A SOURCE's
input is what its interface gives it. -/
def nodeRun (n : PNode) (brk : Bool) (st : NodeSt) (ins : List (List Int)) (slot : List Nat) : Ran :=
  let b := n.raw
  let x := ins.getD 0 []
  let pass := fun (o : List Int) => Ran.mk st o false false false
  let r := match n.kind with
    | 0x01 | 0x02 | 0x10 | 0x11 => pass x
    | 0x03 =>
      let rs := aimAll st.ramps [i16 b 8] (u16 b 10)
      let o := rampMix [x] rs (bitOf (u8 b 12) 0)
      ⟨{ st with ramps := rs.map Ramp.step }, o.1, o.2, false, false⟩
    | 0x04 =>
      let rs := aimAll st.ramps ((List.range n.ins).map fun i => i16 b (10 + 2 * i)) 10
      let o := rampMix ins rs false
      ⟨{ st with ramps := rs.map Ramp.step }, o.1, o.2, false, false⟩
    | 0x05 => duckRun n st ins
    | 0x06 =>
      let t := eqBlk n.ext (u8 b 8) st.line x
      ⟨{ st with line := t.1 }, t.2.1, t.2.2, false, false⟩
    | 0x07 => delayRun n brk st x
    | 0x08 => limitRun n st x
    | 0x09 => levelRun n st x
    | 0x0A => nfgRun n st ins
    | 0x0B => aecRun n st ins
    | 0x0C => chimeRun n st slot
    | 0x0D => resampleRun n st x
    | 0x0E => meterRun n st x
    | 0x0F => gateRun n st x
    | _ => pass []
  { r with st := { r.st with count := st.count + 1, sat := r.sat } }

/-- The readout of a node, bytes 8 to 31 of NODE_READ (R228). -/
def readout (n : PNode) (st : NodeSt) (group index : Nat) : Bytes :=
  let g := fun (r : Ramp) => leBytes 2 (ofInt 16 (r.cur / 1000))
  let fig := fun (i : Nat) => leBytes 2 (ofInt 16 (smp st.shown i))
  let b := match n.kind with
    | 0x03 => (st.ramps.map g).flatten
    | 0x04 => (st.ramps.map g).flatten
    | 0x05 => leBytes 1 st.top ++ [0] ++ (st.ramps.map g).flatten
    | 0x07 => leBytes 4 n.delay
    | 0x08 => fig 0
    | 0x09 => leBytes 2 (ofInt 16 st.est)
    | 0x0A => leBytes 2 (ofInt 16 st.est) ++ (st.ramps.map g).flatten
    | 0x0B => fig 0 ++ fig 1
    | 0x0C => leBytes 1 (b2n st.open_) ++ [0] ++ leBytes 2 st.reps
    | 0x0E => fig 0 ++ fig 1
    | 0x0F => leBytes 1 (b2n st.open_)
    | 0x10 => leBytes 1 group ++ leBytes 1 index
    | 0x11 => leBytes 1 group
    | _ => []
  slice b 0 24

end Sys2Proof.Machine
end

