-- ==== Sys2Proof/Machine/Placement.lean ====
section
/-! DEFINITION. Chart's search for a placement (R246) and its admission (R244, R245, R252). -/
namespace Sys2Proof.Machine

/-- Floor rate of a level, in ME per µs (R242). -/
def floorRate (l : Nat) : Nat := 1000 + 300 * min l 4

/-- Capacity of an engine per block. -/
def capacity (l : Nat) : Nat := 850 * floorRate l

/-- The engine order S0, S8, S1, S9 … S7, S15 (R246). -/
def engineOrder : List Nat := (List.range 16).map fun i => if i % 2 = 0 then i / 2 else 8 + i / 2

/-- Chart's reasons. -/
def Rsn.CAPACITY : Nat := 1
def Rsn.DEADLINE : Nat := 2
def Rsn.MEMORY : Nat := 3
def Rsn.TOGETHER : Nat := 4
def Rsn.APART : Nat := 5
def Rsn.TWIN : Nat := 6
def Rsn.PLY : Nat := 7
def Rsn.CARVE : Nat := 8
def Rsn.SHADOW_LATE : Nat := 9

/-- A clump: nodes placed together, and the half of the engines a twin copy is bound to: 0 none, 1 copy A in S0 to S7,
2 copy B in S8 to S15. -/
structure Clump where
  nodes : List Nat
  half : Nat
  deriving DecidableEq, Repr

/-- The nodes that together hints join with `i`, after `k` rounds. -/
def Pattern.joined (p : Pattern) : Nat → List Nat → List Nat
  | 0, l => l
  | k + 1, l =>
    let near := (List.range p.nodes.length).filter fun j =>
      (p.node j).twin == 0 && (l.contains j ||
        ((p.node j).hintKind == 2 && l.contains (p.node j).hintArg) ||
        l.any fun i => (p.node i).hintKind == 2 && (p.node i).hintArg == j)
    if near.length = l.length then l else p.joined k near

/-- The clumps of a pattern whose nodes in `skip` are left out. -/
def Pattern.clumps (p : Pattern) (skip : List Nat) : List Clump :=
  let n := p.nodes.length
  let live := (List.range n).filter fun i => !skip.contains i
  let groups := ((List.range 15).map (· + 1)).map fun g => live.filter fun i => (p.node i).twin == g
  let twins := (groups.filter fun g => !g.isEmpty).flatMap fun g => [Clump.mk g 1, Clump.mk g 2]
  let singles := live.filter fun i => (p.node i).twin == 0
  let sets := singles.map fun i => (p.joined n [i]).filter fun j => !skip.contains j
  twins ++ (sets.eraseDups.map fun l => Clump.mk l 0)

def Pattern.costOf (p : Pattern) (l : List Nat) : Nat := (l.map fun i => (p.node i).cost).sum
def Pattern.bytesOf (p : Pattern) (l : List Nat) : Nat := (l.map fun i => (p.node i).localBytes).sum

/-- Clump `a` comes before `b`: greater cost, then lower node index, then copy A. -/
def Pattern.clumpLe (p : Pattern) (a b : Clump) : Bool :=
  let x := p.costOf a.nodes
  let y := p.costOf b.nodes
  let i := a.nodes.foldl min (a.nodes.headD 0)
  let j := b.nodes.foldl min (b.nodes.headD 0)
  decide (y < x) || (x == y && (decide (i < j) || (i == j && decide (a.half ≤ b.half))))

/-- An item put into a sorted list. -/
def insertBy {α : Type} (le : α → α → Bool) (x : α) : List α → List α
  | [] => [x]
  | y :: r => if le x y then x :: y :: r else y :: insertBy le x r

def sortBy {α : Type} (le : α → α → Bool) (l : List α) : List α := l.foldr (insertBy le) []

/-- Clumps placed so far, with their engines. -/
abbrev Placed := List (Clump × Nat)

def Pattern.loadOn (p : Pattern) (q : Placed) (e : Nat) : Nat := ((q.filter (·.2 == e)).map fun c => p.costOf c.1.nodes).sum
def Pattern.memOn (p : Pattern) (q : Placed) (e : Nat) : Nat := ((q.filter (·.2 == e)).map fun c => p.bytesOf c.1.nodes).sum

/-- Nodes `i` and `j` are an apart pair. -/
def Pattern.apart (p : Pattern) (i j : Nat) : Bool :=
  ((p.node i).hintKind == 1 && (p.node i).hintArg == j) || ((p.node j).hintKind == 1 && (p.node j).hintArg == i)

/-- Engine `e` holds an apart partner of the clump, or the clump itself holds both of an apart pair. -/
def Pattern.partnerOn (p : Pattern) (q : Placed) (c : Clump) (e : Nat) : Bool :=
  (c.nodes.any fun i => c.nodes.any fun j => p.apart i j) || q.any fun d => d.2 == e && d.1.nodes.any fun j => c.nodes.any fun i => p.apart i j

/-- The limit that stops a clump from going to an engine; none where it has room. -/
def Pattern.stops (p : Pattern) (level : Nat) (q : Placed) (c : Clump) (e : Nat) : Option Nat :=
  let cost := p.costOf c.nodes
  let mem := p.bytesOf c.nodes
  if (c.half == 1 && decide (8 ≤ e)) || (c.half == 2 && decide (e < 8)) then some Rsn.TWIN
  else if p.partnerOn q c e then some Rsn.APART
  else if 1 < c.nodes.length && c.half == 0 && (decide (capacity level < cost) || decide (229376 < mem)) then
    some Rsn.TOGETHER
  else if capacity level < p.loadOn q e + cost then some (if c.half = 0 then Rsn.CAPACITY else Rsn.TWIN)
  else if 229376 < p.memOn q e + mem then some (if c.half = 0 then Rsn.MEMORY else Rsn.TWIN)
  else none

/-- The engines in the order a clump tries them: the engine order when consolidating, least node cost first when
spreading. -/
def Pattern.tries (p : Pattern) (consolidate : Bool) (q : Placed) (allowed : List Nat) : List Nat :=
  if consolidate then allowed
  else sortBy (fun a b => decide (p.loadOn q a ≤ p.loadOn q b)) allowed

/-- A failed search: the reason, the node at fault or 0xFFFF, and the excess. -/
structure NoPlace where
  reason : Nat
  node : Nat
  excess : Nat
  deriving DecidableEq, Repr

/-- Every clump is placed in turn, or the first that fits nowhere is reported (R246 step 4). -/
def Pattern.placeAll (p : Pattern) (consolidate : Bool) (level : Nat) (allowed : List Nat) :
    List Clump → Placed → Except NoPlace Placed
  | [], q => .ok q
  | c :: r, q =>
    let es := p.tries consolidate q allowed
    match es.find? fun e => (p.stops level q c e).isNone with
    | some e => p.placeAll consolidate level allowed r (q ++ [(c, e)])
    | none =>
      let why := ((es.getLast?).bind (p.stops level q c)).getD Rsn.CAPACITY
      let excess := if why = Rsn.CAPACITY then greatest (es.map (p.loadOn q)) + p.costOf c.nodes - capacity level
        else if why = Rsn.MEMORY then greatest (es.map (p.memOn q)) + p.bytesOf c.nodes - 229376 else 0
      .error ⟨why, c.nodes.headD 0xFFFF, excess⟩

/-! Admission (R244). -/

/-- The engine of node `i`, copy 0 or 1; none where it is not placed. -/
def engineIn (q : Placed) (i copy : Nat) : Option Nat :=
  (q.find? fun c => c.1.nodes.contains i && (c.1.half == 0 || c.1.half == copy + 1) && (copy == 0 || c.1.half != 0)).map (·.2)

/-- The copies of node `i`, as (node, copy, engine). -/
def copiesOf (q : Placed) (i : Nat) : List (Nat × Nat × Nat) :=
  [0, 1].filterMap fun c => (engineIn q i c).map fun e => (i, c, e)

/-- The edges between copies: within a twin group each copy feeds its own, otherwise every copy feeds every copy. -/
def Pattern.copyEdges (p : Pattern) (q : Placed) : List ((Nat × Nat × Nat) × (Nat × Nat × Nat) × PEdge) :=
  p.edges.flatMap fun e =>
    let same := (p.node e.frm).twin != 0 && (p.node e.frm).twin == (p.node e.dst).twin
    (copiesOf q e.frm).flatMap fun a =>
      (copiesOf q e.dst).filterMap fun b => if same && a.2.1 != b.2.1 then none else some (a, b, e)

/-- The cost on an engine, edges included. -/
def Pattern.costOn (p : Pattern) (q : Placed) (e : Nat) : Nat :=
  p.loadOn q e + ((p.copyEdges q).map fun x =>
    if x.1.2.2 = x.2.1.2.2 then 0 else (if x.1.2.2 = e then 400 else 0) + (if x.2.1.2.2 = e then 300 else 0)).sum

def Pattern.bytesOn (p : Pattern) (q : Placed) (e : Nat) : Nat :=
  p.memOn q e + 640 * ((p.copyEdges q).filter fun x => x.1.2.2 != x.2.1.2.2 && x.2.1.2.2 == e).length

/-- Rank of a node, in ME: its cost and the greatest rank it feeds. -/
def Pattern.rank (p : Pattern) : Nat → Nat → Nat
  | 0, i => (p.node i).cost
  | k + 1, i =>
    (p.node i).cost +
      ((p.edges.filter fun e => e.frm == i && !p.breaks e.dst).map fun e => p.rank k e.dst).foldl max 0

/-- A copy scheduled: node, copy, engine, finish in ME after Tn. -/
abbrev Sched := List ((Nat × Nat × Nat) × Nat)

def finishIn (d : Sched) (c : Nat × Nat × Nat) : Option Nat := (d.find? (·.1 == c)).map (·.2)

/-- The latest of arrivals; none where one is not known yet. -/
def latest : List (Option Nat) → Option Nat
  | [] => some 0
  | none :: _ => none
  | some x :: r => (latest r).map (max x)

/-- When a consumer of PLY_IN node `i` has its input: 8 µs after each contributor of the group (R244). -/
def Pattern.plyReady (p : Pattern) (q : Placed) (rate : Nat) (d : Sched) (i : Nat) : List (Option Nat) :=
  ((List.range p.nodes.length).filter fun j =>
    (p.node j).kind == K.PLY_OUT && u8 (p.node j).raw 8 == u8 (p.node i).raw 8).flatMap fun j =>
      (copiesOf q j).map fun x => (finishIn d x).map (· + 8 * rate)

/-- The latest arrival among the inputs of a copy, in ME after Tn (R244). -/
def Pattern.avail (p : Pattern) (q : Placed) (rate : Nat) (d : Sched) (c : Nat × Nat × Nat) : Option Nat :=
  let es := (p.copyEdges q).filter fun x => x.2.1 == c && !p.breaks c.1
  latest (es.flatMap fun x =>
    if (p.node x.1.1).kind = K.PLY_IN then p.plyReady q rate d x.1.1
    else [(finishIn d x.1).map fun t => if x.1.2.2 = c.2.2 then t else t + 3 * rate])

/-- One choice of the list scheduler: the engine earliest free that has a copy with known inputs, and on it the copy of
highest rank whose inputs are there, or else the one whose inputs come first. -/
def Pattern.schedule (p : Pattern) (q : Placed) (rate : Nat) : Nat → List (Nat × Nat × Nat) → Sched → Sched
  | 0, _, d => d
  | k + 1, todo, d =>
    let free := fun (e : Nat) => ((d.filter fun x => x.1.2.2 == e).map (·.2)).foldl max 0
    let cand := todo.filterMap fun c => (p.avail q rate d c).map fun a => (c, max a (free c.2.2))
    match cand with
    | [] => d
    | x :: r =>
      let pick := r.foldl (fun (b : (Nat × Nat × Nat) × Nat) y =>
        let rb := p.rank p.nodes.length b.1.1
        let ry := p.rank p.nodes.length y.1.1
        if y.2 < b.2 || (y.2 == b.2 && (decide (rb < ry) || (rb == ry && decide (y.1.1 < b.1.1)))) then y else b) x
      let d := d ++ [(pick.1, pick.2 + (p.node pick.1.1).cost)]
      p.schedule q rate k (todo.filter (· != pick.1)) d

/-- The MIX values in use. -/
def Pattern.mixes (p : Pattern) : List Nat :=
  ((p.nodes.filter fun n => n.kind == K.PLY_OUT).map fun n => u8 n.raw 8).eraseDups

/-- The window of a ply group whose latest contributor finishes at `t` µs (R245). -/
def plyWindow (t : Nat) : Nat := max 100 (ceilDiv (t + 10) 50 * 50)

/-- The cells per block of audio frames placed toward port A in a class: two for each edge that a copy of its source
sends to another engine. -/
def Pattern.audioCells (p : Pattern) (q : Placed) (c : Nat) : Nat :=
  2 * (((p.copyEdges q).filterMap fun x =>
    if x.1.2.2 != x.2.1.2.2 && (p.node x.2.2.frm).cls == c then some (x.1, x.2.2) else none).eraseDups).length

/-- The copies of a placement, and their schedule at a floor rate. -/
def Pattern.allCopies (p : Pattern) (q : Placed) : List (Nat × Nat × Nat) := (List.range p.nodes.length).flatMap (copiesOf q)
def Pattern.plan (p : Pattern) (q : Placed) (rate : Nat) : Sched :=
  p.schedule q rate (p.allCopies q).length (p.allCopies q) []

/-- The planned finish of each node in a schedule, in µs after Tn. -/
def Pattern.finishes (p : Pattern) (q : Placed) (rate : Nat) (d : Sched) : List Nat :=
  (List.range p.nodes.length).map fun i => greatest ((copiesOf q i).map fun c => ceilDiv ((finishIn d c).getD 0) rate)

/-- The MIX values with the windows of their groups (R245). -/
def Pattern.windows (p : Pattern) (us : List Nat) : List (Nat × Nat) :=
  p.mixes.map fun m =>
    (m, plyWindow (greatest (((List.range p.nodes.length).filter fun j =>
      (p.node j).kind == K.PLY_OUT && u8 (p.node j).raw 8 == m).map fun j => us.getD j 0)))

/-- A placement passes R244 and R245 at a level, or fails with a reason. -/
def Pattern.admitted (p : Pattern) (level : Nat) (q : Placed) : Except NoPlace Placement :=
  let rate := floorRate level
  let es := (q.map (·.2)).eraseDups
  let cost := greatest (es.map (p.costOn q))
  let mem := greatest (es.map (p.bytesOn q))
  if capacity level < cost then .error ⟨Rsn.CAPACITY, 0xFFFF, cost - capacity level⟩
  else if 229376 < mem then .error ⟨Rsn.MEMORY, 0xFFFF, mem - 229376⟩
  else
    let d := p.plan q rate
    match (p.allCopies q).find? fun c => match finishIn d c with | some t => decide (850 * rate < t) | none => true with
    | some c => .error ⟨Rsn.DEADLINE, c.1, 1000 * ((finishIn d c).getD 0 - 850 * rate) / rate⟩
    | none =>
      let us := p.finishes q rate d
      let win := p.windows us
      let late := greatest (win.map (·.2))
      if 256 < p.mixes.length then .error ⟨Rsn.PLY, 0xFFFF, 0⟩
      else if 800 < late then .error ⟨Rsn.DEADLINE, 0xFFFF, 1000 * (late - 800)⟩
      else if 32768 < 4 * p.mixes.length + 2 * (((List.range 8).map (p.audioCells q)).sum) then .error ⟨Rsn.CARVE, 0xFFFF, 0⟩
      else
        .ok ⟨(List.range p.nodes.length).map fun i => (engineIn q i 0).getD 31,
          (List.range p.nodes.length).map fun i => (engineIn q i 1).getD 31, us, win, level⟩

/-- A reason after which the search tries one engine more (R246 step 6). -/
def retries (r : Nat) : Bool :=
  r == Rsn.CAPACITY || r == Rsn.MEMORY || r == Rsn.DEADLINE || r == Rsn.APART || r == Rsn.TWIN

/-- The attempts of a search with `k` allowed engines and more. -/
def Pattern.attempts (p : Pattern) (consolidate : Bool) (level : Nat) (healthy : List Nat) (cs : List Clump) :
    Nat → Nat → Except NoPlace Placement
  | fuel, k =>
    let r := (p.placeAll consolidate level (healthy.take k) cs []).bind (p.admitted level)
    match fuel, r with
    | fuel + 1, .error f =>
      if retries f.reason && decide (k < healthy.length) then p.attempts consolidate level healthy cs fuel (k + 1) else r
    | _, _ => r

/-! The bounds within which a pattern is admitted at any level (R247). -/

/-- The greatest sum of cost and of 3 µs for each edge along the paths from node `i`, in ME. -/
def Pattern.pathMe (p : Pattern) (rate : Nat) : Nat → Nat → Nat
  | 0, i => (p.node i).cost
  | k + 1, i =>
    (p.node i).cost +
      greatest ((p.edges.filter fun e => e.frm == i && !p.breaks e.dst).map fun e => 3 * rate + p.pathMe rate k e.dst)

/-- A half of the engines has room for twice the copies bound to it. -/
def Pattern.halfOk (p : Pattern) (level : Nat) (healthy : List Nat) (cs : List Clump) (half : Nat) : Bool :=
  let es := healthy.filter fun e => decide (e < 8) == (half == 1)
  let ns := (cs.filter fun c => c.half == half).flatMap (·.nodes)
  decide (2 * p.costOf ns ≤ es.length * capacity level) && decide (2 * p.bytesOf ns ≤ es.length * 229376)

def Pattern.inBounds (p : Pattern) (level : Nat) (healthy : List Nat) (cs : List Clump) : Bool :=
  let all := cs.flatMap (·.nodes)
  decide (100 * p.costOf all ≤ 60 * healthy.length * capacity level) &&
    decide (100 * p.bytesOf all ≤ 60 * healthy.length * 229376) &&
    (cs.all fun c => decide (2 * p.costOf c.nodes ≤ capacity level) && decide (2 * p.bytesOf c.nodes ≤ 229376)) &&
    ((List.range p.nodes.length).all fun i =>
      decide (p.pathMe (floorRate level) p.nodes.length i ≤ 425 * floorRate level)) &&
    p.halfOk level healthy cs 1 && p.halfOk level healthy cs 2 &&
    ((p.nodes.all fun n => n.hintKind != 1) || decide (2 ≤ healthy.length))

/-- The first placement in the order of the engines that is admitted, among all. -/
def Pattern.anyPlace (p : Pattern) (level : Nat) (es : List Nat) : List Clump → Placed → Option Placement
  | [], q => (p.admitted level q).toOption
  | c :: r, q => es.findSome? fun e => if (p.stops level q c e).isNone then p.anyPlace level es r (q ++ [(c, e)]) else none

/-- The search (R246), with the engines of `bad` left out and the nodes of `skip` not placed. A together hint that names
a node of a twin group would join its two copies, and is refused (log 77). A pattern within the bounds of R247 for which the
steps of R246 find nothing takes the first admissible placement there is (DESIGN CHOICE, log 96). -/
def Pattern.search (p : Pattern) (consolidate : Bool) (level : Nat) (bad skip : List Nat) : Except NoPlace Placement :=
  let healthy := engineOrder.filter fun e => !bad.contains e
  let cs := sortBy p.clumpLe (p.clumps skip)
  let total := (cs.map fun c => p.costOf c.nodes).sum
  let pairs := p.nodes.any fun n => n.twin != 0 || n.hintKind == 1
  match (List.range p.nodes.length).find? fun i => !skip.contains i && (p.node i).hintKind == 2 &&
      !skip.contains (p.node i).hintArg && (p.node (p.node i).hintArg).twin != 0 with
  | some i => .error ⟨Rsn.TOGETHER, i, 0⟩
  | none =>
  let k := if consolidate then
      max (max 1 (ceilDiv total (capacity level))) (if pairs then 2 else 1)
    else healthy.length
  match p.attempts consolidate level healthy cs 16 k with
  | .ok pl => .ok pl
  | .error f =>
    match (if p.inBounds level healthy cs then p.anyPlace level healthy cs [] else none) with
    | some pl => .ok pl
    | none => .error f

/-- A placement as clumps of one node copy each. -/
def Pattern.placedOf (p : Pattern) (pl : Placement) : Placed :=
  (List.range p.nodes.length).flatMap fun i =>
    let a := pl.eng.getD i 31
    let b := pl.twin.getD i 31
    (if a = 31 then [] else [(⟨[i], if (p.node i).twin = 0 then 0 else 1⟩, a)]) ++ (if b = 31 then [] else [(⟨[i], 2⟩, b)])

/-- The planned finishes of a placement at a level. -/
def Pattern.finishAt (p : Pattern) (pl : Placement) (level : Nat) : List Nat :=
  let q := p.placedOf pl
  p.finishes q (floorRate level) (p.plan q (floorRate level))

/-- The planned cost of a placement on engine `e`. -/
def Pattern.plannedOn (p : Pattern) (pl : Placement) (e : Nat) : Nat := p.costOn (p.placedOf pl) e

end Sys2Proof.Machine
end

