-- ==== Sys2Proof/Machine/Crc.lean ====
section
/-! DEFINITION. The cyclic redundancy checks the spec names: CRC-32 of IEEE 802.3 and CRC-16 with polynomial 0x1021. -/
namespace Sys2Proof.Machine

/-- `f` applied `n` times. -/
def iterate {α : Type} (f : α → α) : Nat → α → α
  | 0, x => x
  | n + 1, x => iterate f n (f x)

/-- One bit of the reflected CRC-32. -/
def crc32Bit (c : Nat) : Nat := if c % 2 = 1 then (c / 2) ^^^ 0xEDB88320 else c / 2

/-- The CRC-32 of IEEE 802.3 over a run of bytes in transmission order. -/
def crc32 (b : Bytes) : Nat :=
  (b.foldl (fun c x => iterate crc32Bit 8 (c ^^^ x.toNat)) 0xFFFFFFFF) ^^^ 0xFFFFFFFF

/-- One bit of the CRC-16, most significant first. -/
def crc16Bit (c : Nat) : Nat := if 32768 ≤ c then (2 * c % 65536) ^^^ 0x1021 else 2 * c

/-- The CRC-16 with polynomial 0x1021 and initial value `init`, neither reflected nor inverted (R166). -/
def crc16 (init : Nat) (b : Bytes) : Nat :=
  b.foldl (fun c x => iterate crc16Bit 8 (c ^^^ (x.toNat * 256))) init

end Sys2Proof.Machine
end

