-- ==== Sys2Proof/Machine/Ops.lean ====
section
/-! DEFINITION. The named operations over registers, counters, memory and what leaves the module; the rest of the model
reads and writes State through them. -/
namespace Sys2Proof.Machine

/-- The outcome of a command. -/
abbrev Res := Host.Outcome State Fault Refusal

/-! Setters of State's fields. -/

def State.setRegs (s : State) (v : Store Word) : State := { s with regs := v }
def State.setCnts (s : State) (v : Store Nat) : State := { s with cnts := v }
def State.setMem (s : State) (v : List Host.Cell) : State := { s with mem := v }
def State.setOut (s : State) (v : List Out) : State := { s with out := v }
def State.setFresh (s : State) (v : Nat) : State := { s with fresh := v }
def State.setNow (s : State) (v : Nat) : State := { s with now := v }
def State.setFab (s : State) (v : Fab) : State := { s with fab := v }
def State.setRnd (s : State) (v : Rnd) : State := { s with rnd := v }
def State.setQue (s : State) (v : Que) : State := { s with que := v }
def State.setSwc (s : State) (v : Swc) : State := { s with swc := v }
def State.setPrt (s : State) (v : Prt) : State := { s with prt := v }
def State.setTim (s : State) (v : Tim) : State := { s with tim := v }
def State.setWak (s : State) (v : Wak) : State := { s with wak := v }
def State.setAud (s : State) (v : Aud) : State := { s with aud := v }
def State.setCht (s : State) (v : Cht) : State := { s with cht := v }
def State.setCor (s : State) (v : Cor) : State := { s with cor := v }
def State.setLdc (s : State) (v : Ldc) : State := { s with ldc := v }
def State.setGau (s : State) (v : Gau) : State := { s with gau := v }
def State.setCan (s : State) (v : Can) : State := { s with can := v }
def State.setPow (s : State) (v : Pow) : State := { s with pow := v }
def State.setEnc (s : State) (v : Enc) : State := { s with enc := v }
def State.setGwy (s : State) (v : Gwy) : State := { s with gwy := v }
def State.setSio (s : State) (v : Sio) : State := { s with sio := v }
def State.setBoo (s : State) (v : Boo) : State := { s with boo := v }
def State.setPai (s : State) (v : Pai) : State := { s with pai := v }

/-! Registers: every register has its home in `regs` under its set-up offset. -/

/-- The register at set-up offset `a`. -/
def State.rd (s : State) (a : Nat) : Word := storeGet resetVal s.regs a

/-- The state with the register at `a` holding `v`. -/
def State.wr (s : State) (a : Nat) (v : Word) : State := s.setRegs (storeSet resetVal s.regs a v)

/-- The value of a field. -/
def State.get (s : State) (f : Fld) : Nat := bits (s.rd f.reg).toNat f.hi f.lo

/-- The state with a field holding the low bits of `v`. -/
def State.put (s : State) (f : Fld) (v : Nat) : State :=
  s.wr f.reg (BitVec.ofNat 32 (setBits (s.rd f.reg).toNat f.hi f.lo v))

/-- A one-bit field is 1. -/
def State.on (s : State) (f : Fld) : Bool := s.get f == 1

/-- Bit `i` of a field. -/
def State.bit (s : State) (f : Fld) (i : Nat) : Bool := bitOf (s.get f) i

/-- The state with bit `i` of a field set. -/
def State.set1 (s : State) (f : Fld) (i : Nat) : State := s.put f (setBit (s.get f) i)

/-- The state with bit `i` of a field cleared. -/
def State.clr1 (s : State) (f : Fld) (i : Nat) : State := s.put f (clearBit (s.get f) i)

/-- The state with a LO and HI pair of address registers holding the 48-bit address `a`. -/
def State.putAddr (s : State) (lo hi : Fld) (a : Nat) : State := (s.put lo (a / 2 ^ lo.lo)).put hi (a / 2 ^ 32)

/-- What a write of `v` leaves in a register that held `old`, by the access codes of its fields (R10): RW fields take
the value, each 1 clears a W1C bit, and RO, WO and reserved bits stay. -/
def accessWrite (r : RegRow) (old v : Word) : Word :=
  let rw := BitVec.ofNat 32 r.rw
  let w1c := BitVec.ofNat 32 r.w1c
  (old &&& ~~~(rw ||| w1c)) ||| (v &&& rw) ||| (old &&& w1c &&& ~~~v)

/-- A register write that acts through its access codes alone; an offset with no register ignores it (R61). -/
def State.regApply (s : State) (a v : Nat) : State :=
  match rowOf a with
  | some r => s.wr a (accessWrite r (s.rd a) (BitVec.ofNat 32 v))
  | none => s

/-! The 48-bit counters (R9, R78). -/

/-- The count of the counter whose low register lies at `a`. -/
def State.cnt (s : State) (a : Nat) : Nat := storeGet cntDefault s.cnts a

/-- The state with a counter holding `v` modulo 2^48. -/
def State.setCnt (s : State) (a v : Nat) : State := s.setCnts (storeSet cntDefault s.cnts a (v % 2 ^ 48))

/-- `n` occurrences counted; a counter wraps from 2^48 - 1 to 0. -/
def State.count (s : State) (a : Nat) (n : Nat := 1) : State := s.setCnt a (s.cnt a + n)

/-- A read of a counter's low register: it returns bits [31:0], latches bits [47:32] into the high register and clears
the counter (R78). -/
def State.readCounter (s : State) (a : Nat) : State × Nat :=
  ((s.wr (a + 4) (BitVec.ofNat 32 (s.cnt a / 2 ^ 32))).setCnt a 0, s.cnt a % 2 ^ 32)

/-- The firings of trigger `n` since the lattice locked. -/
def State.fires (s : State) (n : Nat) : Nat := storeGet cntDefault s.tim.fires n

/-! Memory. -/

/-- The byte at a fabric address. -/
def State.rdMem (s : State) (a : Nat) : Byte := storeGet memDefault s.mem a

/-- The state with one byte of memory written. -/
def State.wrMem (s : State) (a : Nat) (v : Byte) : State := s.setMem (storeSet memDefault s.mem a v)

/-- `n` bytes of memory from `a`. -/
def State.readBytes (s : State) (a n : Nat) : Bytes := (List.range n).map fun i => s.rdMem (a + i)

/-- The state with a run of bytes written from `a`. -/
def State.writeBytes : State → Nat → Bytes → State
  | s, _, [] => s
  | s, a, b :: r => State.writeBytes (s.wrMem a b) (a + 1) r

/-! What leaves the module, and free values. -/

/-- The state after `o` has left the module. -/
def State.emit (s : State) (o : Out) : State := s.setOut (s.out ++ [o])

/-- The free value now drawn for the open point `kind`. -/
def State.free (s : State) (kind : Nat) : Nat := Config.freeNat kind s.fresh

/-- The state after a draw of a free value. -/
def State.drawn (s : State) : State := s.setFresh (s.fresh + 1)

/-! Descriptors in flight. -/

def State.onRnd (s : State) (f : Rnd → Rnd) : State := s.setRnd (f s.rnd)

def State.setDescs (s : State) (d : List Desc) : State := s.setRnd { s.rnd with descs := d }


end Sys2Proof.Machine
end

