-- ==== Sys2Proof/Machine/Flags.lean ====
section
/-! DEFINITION. Event flags and interrupts: raising an EVT bit, sending a function's interrupt (R530), MSI-X messages
(R106) and AIA identities with their routes (R399). -/
namespace Sys2Proof.Machine

/-- Word `i` of the MSI-X table. -/
def State.msixWord (s : State) (i : Nat) : Nat := (storeGet msixDefault s.rnd.msixTbl i).toNat

/-- The PCIe link is up and the function in D0: requests can be issued on it (R80, R109; D3hot PRESUMED, log 8). -/
def State.linkIssues (s : State) : Bool := s.on F.RND_LINK_UP && !s.rnd.pci.d3hot

/-- MSI-X vector `v` is masked: by its own bit, or with every vector by the host's MSI-X Enable and Function Mask (R80). -/
def State.msixMasked (s : State) (v : Nat) : Bool :=
  bitOf (s.msixWord (4 * v + 3)) 0 || !s.rnd.pci.msixEn || s.rnd.pci.msixMask

/-- An MSI-X message put on the link, if it is up. -/
def State.msixMessage (s : State) (v : Nat) : State :=
  if s.linkIssues then
    s.emit (.msix v (s.msixWord (4 * v) + 2 ^ 32 * s.msixWord (4 * v + 1)) (s.msixWord (4 * v + 2)))
  else s

/-- An MSI-X vector is signalled: a masked vector sets its pending bit (R106). -/
def State.sendMsix (s : State) (v : Nat) : State :=
  if s.msixMasked v then s.setRnd { s.rnd with msixPend := setBit s.rnd.msixPend v } else s.msixMessage v

/-- Partition `p` is one of 3 to 18. -/
def isPart (p : Nat) : Bool := decide (3 ≤ p) && decide (p ≤ 18)
def State.partOn (s : State) (p : Nat) : Bool := isPart p && s.on (F.COR_P_CTL_EN p)

/-- Partition `p` is disabled: its rounds, mailboxes and semaphores refuse it (R392). -/
def State.partOff (s : State) (p : Nat) : Bool := isPart p && !s.on (F.COR_P_CTL_EN p)

/-- The core that acts for core `k`: the even one of a lockstep pair (R390). -/
def State.actingCore (s : State) (k : Nat) : Nat := if s.bit F.COR_LS_ACTIVE (k / 2) then k / 2 * 2 else k

/-- The core a route delivers to. -/
def State.routeCore (s : State) (id : Nat) : Nat := s.actingCore (s.get (F.COR_ROUTE_CORE id))

/-- AIA identity `id` has an enabled route to a core that is not in reset (R399). -/
def State.routed (s : State) (id : Nat) : Bool :=
  decide (id ≤ 1023) && s.on (F.COR_ROUTE_EN id) && s.get (F.COR_A_STAT_STATE (s.routeCore id)) != 3

/-- The interrupt file of a route; files 6 and 7 act as 1. -/
def State.routeFile (s : State) (id : Nat) : Nat :=
  let f := s.get (F.COR_ROUTE_FILE id)
  if f < 6 then f else 1

/-- A routed identity reaches its file. -/
def State.deliverAia (s : State) (id : Nat) : State :=
  s.emit (.aia (s.routeCore id) (s.routeFile id) id)

/-- An identity sent while ROUTE_MISS is already set: a miss only counts. -/
def State.sendAiaCounted (s : State) (id : Nat) : State :=
  if id = 0 then s else if s.routed id then s.deliverAia id else s.count C.COR_ROUTE_MISS

/-- ROUTE_MISS occurs: an enabled bit that was clear sends the COR page's own interrupt (R530). -/
def State.raiseRouteMiss (s : State) : State :=
  if s.on F.COR_EVT_ROUTE_MISS then s
  else
    let t := s.put F.COR_EVT_ROUTE_MISS 1
    if t.bit F.COR_EVT_EN_EN 5 then
      (t.sendMsix (t.get F.COR_EVT_VEC_MSIX)).sendAiaCounted (t.get F.COR_EVT_VEC_AIA_ID)
    else t

/-- AIA identity `id` is sent: 0 sends nothing; an identity without a route is dropped, counted and raises
ROUTE_MISS (R399). -/
def State.sendAia (s : State) (id : Nat) : State :=
  if id = 0 then s
  else if s.routed id then s.deliverAia id
  else (s.count C.COR_ROUTE_MISS).raiseRouteMiss

/-- The interrupt a vector register at `v` names is sent (R530). -/
def State.sendVec (s : State) (v : Nat) : State :=
  (s.sendMsix (s.get ⟨v, 21, 16⟩)).sendAia (s.get ⟨v, 9, 0⟩)

/-- The enable bit of event bit `b`, in the register above its EVT register. -/
def enOf (b : Fld) : Fld := ⟨b.reg + 4, b.lo, b.lo⟩

/-- An occurrence of the event with flag `b`: it sets the flag, and sends the interrupt only where the flag was clear
and its enable is 1 (R530). -/
def State.raise (s : State) (b : Fld) : State :=
  if s.on b then s
  else
    let t := s.put b 1
    if t.on (enOf b) then t.sendVec (b.reg + 8) else t

/-- The EVT registers of the block: one on each page, one for each port and each CAN controller, and TIM_TRG_EVT. -/
def isEvt (a : Nat) : Bool :=
  (decide (a / 0x10000 ≤ 0x16) && a % 0x10000 == 0 && a / 0x10000 != 5 && a / 0x10000 != 9)
  || (a / 0x10000 == 5 && decide (a % 0x10000 ≤ 20 * 0x800) && a % 0x800 == 0)
  || (a / 0x10000 == 9 && decide (a % 0x10000 ≤ 11 * 0x1000) && a % 0x1000 == 0)
  || a == R.TIM_TRG_EVT

/-- The vector register that event bit `i` of the EVT register at `a` sends through: TIM_TRGn_VEC for the trigger
events, the register 8 above otherwise (R530). -/
def vecOf (a i : Nat) : Nat := if a = R.TIM_TRG_EVT then R.TIM_TRG_VEC i else a + 8

/-- The interrupts of the EVT bits in `m`, lowest bit first, one message for each vector register: the bits of one
function share one, each trigger has its own. -/
def State.sendEvtBits (s : State) (a m : Nat) : State :=
  if a = R.TIM_TRG_EVT then
    forEach (List.range 16) (fun i t => if bitOf m i then t.sendVec (vecOf a i) else t) s
  else if m = 0 then s else s.sendVec (vecOf a 0)

end Sys2Proof.Machine
end

