-- ==== Sys2Proof/Machine/Guard.lean ====
section
/-! DEFINITION. The fabric address map (R58, R60), the partition guards (R42 to R46, R76) and the error-correcting code
of the memories (R64 to R72). -/
namespace Sys2Proof.Machine

/-- What lies at a fabric address (R58). -/
inductive Target where
  | dram (ch : Nat)
  | sram
  | pbuf (bank : Nat)
  | engine (k : Nat)
  | queues
  | enclave
  | setup
  | flash (w : Nat)
  | host
  | partner
  deriving DecidableEq, Repr

/-- The region that covers a fabric address, with its first address and the address after its last (R58). -/
def regionOf (a : Nat) : Option (Target × Nat × Nat) :=
  if a < 0x70000000 then some (.dram 0, 0, 0x70000000)
  else if a < 0xE0000000 then some (.dram 1, 0x70000000, 0xE0000000)
  else if a < 0x100000000 then none
  else if a < 0x100800000 then some (.sram, 0x100000000, 0x100800000)
  else if a < 0x108000000 then none
  else if a < 0x108600000 then some (.pbuf 0, 0x108000000, 0x108600000)
  else if a < 0x108C00000 then some (.pbuf 1, 0x108600000, 0x108C00000)
  else if a < 0x110000000 then none
  else if a < 0x110400000 then
    let k := (a - 0x110000000) / 0x40000
    some (.engine k, 0x110000000 + k * 0x40000, 0x110000000 + (k + 1) * 0x40000)
  else if a < 0x120000000 then none
  else if a < 0x120040000 then some (.queues, 0x120000000, 0x120040000)
  else if a < 0x130000000 then none
  else if a < 0x130040000 then some (.enclave, 0x130000000, 0x130040000)
  else if a < 0x200000000 then none
  else if a < 0x200200000 then some (.setup, 0x200000000, 0x200200000)
  else if a < 0x300000000 then none
  else if a < 0x310000000 then some (.flash 0, 0x300000000, 0x310000000)
  else if a < 0x320000000 then some (.flash 1, 0x310000000, 0x320000000)
  else if a < 0x400000000000 then none
  else if a < 0x500000000000 then some (.host, 0x400000000000, 0x500000000000)
  else if a < 0x600000000000 then some (.partner, 0x500000000000, 0x600000000000)
  else none

/-- The region at `a` cut to what is mapped there for a read or a write (R60). -/
def State.mappedRegion (s : State) (write : Bool) (a : Nat) : Option (Target × Nat) :=
  match regionOf a with
  | none => none
  | some (.setup, lo, _) => if a < lo + 0x170000 then some (.setup, lo + 0x170000) else none
  | some (.flash w, lo, _) =>
    let e := lo + (if w = 0 then s.fab.flashA else s.fab.flashB)
    if write then none else if a < e then some (.flash w, e) else none
  | some (t, _, hi) => some (t, hi)

/-- The bytes from `a` up to `e` all lie in mapped regions; `fuel` bounds the regions crossed. -/
def State.mappedTo (s : State) (write : Bool) : Nat → Nat → Nat → Bool
  | 0, a, e => decide (e ≤ a)
  | fuel + 1, a, e =>
    if e ≤ a then true
    else
      match s.mappedRegion write a with
      | none => false
      | some (_, hi) => s.mappedTo write fuel hi e

/-- No byte of the access is unmapped (R60). -/
def State.mapped (s : State) (write : Bool) (a n : Nat) : Bool := s.mappedTo write 32 a (a + max n 1)

/-- The region that holds all of `n` bytes from `a`, if one does. -/
def wholeTarget (a n : Nat) : Option Target :=
  match regionOf a with
  | some (t, _, hi) => if a + n ≤ hi then some t else none
  | none => none

/-- An unmapped access is counted and raises UNMAPPED (R60). -/
def State.unmapped (s : State) : State := (s.count C.JER_UNMAP).raise F.JER_EVT_UNMAPPED

/-- The guard of a target (R76); the enclave's own guard reads 31. -/
def guardNo : Target → Nat
  | .dram ch => ch
  | .sram => 2
  | .pbuf b => 3 + b
  | .engine k => 5 + k
  | .queues => 21
  | .setup => 22
  | .flash _ => 23
  | .host => 24
  | .partner => 25
  | .enclave => 31

/-- Rule `r` of guard `g`. -/
def State.rule (s : State) (g r : Nat) : GRule := storeGet guardDefault s.fab.guards (32 * g + r)

/-- A rule covers the 4 KiB region at `page` and permits the partition (R43); it grants IDs 19 to 31 nothing (R41). -/
def GRule.permits (r : GRule) (pid : Nat) (write : Bool) (page : Nat) : Bool :=
  r.valid && decide (pid < 19) && decide (r.base ≤ page) && decide (page ≤ r.limit) && bitOf (if write then r.wr else r.rd) pid

/-- The guard at a 4 KiB region permits a partition's read or write (R43, R44). -/
def State.permitted (s : State) (pid : Nat) (write : Bool) (page : Nat) : Bool :=
  match regionOf (page * 4096) with
  | none => true
  | some (.enclave, _, _) => pid == 1
  | some (t, _, _) =>
    pid == 0 || (List.range 32).any fun r => (s.rule (guardNo t) r).permits pid write page

/-- The lowest address of `n` bytes from `a` that lies in a region denied to `pid`, if any (R45). -/
def State.denied (s : State) (pid : Nat) (write : Bool) (a n : Nat) : Option Nat :=
  let first := a / 4096
  let last := (a + (n - 1)) / 4096
  ((List.range (last + 1 - first)).find? fun i => !s.permitted pid write (first + i)).map fun i =>
    max a ((first + i) * 4096)

/-- The code of a fixed-function master in FLT_MASTER_INFO; 0 for any other source. -/
def masterCode : Source → Nat
  | .switchCore => 1
  | .gateway => 2
  | .can => 3
  | .serial => 4
  | .engine _ => 5
  | .chart => 6
  | .gauge => 6
  | _ => 0

/-- A denial by guard `g` at address `a` (R45), with the report of a fixed-function master (R505). -/
def State.deny (s : State) (src : Source) (pid g : Nat) (write : Bool) (a : Nat) : State :=
  let s := s.putAddr F.JER_DENY_ADDR_LO_ADDR F.JER_DENY_ADDR_HI_ADDR a
  let s := ((s.put F.JER_DENY_INFO_PID pid).put F.JER_DENY_INFO_DIR (b2n write)).put F.JER_DENY_INFO_GUARD g
  let s := (s.count C.JER_DENY).raise F.JER_EVT_DENY
  if masterCode src = 0 then s
  else
    let s := (s.put F.FLT_MASTER_INFO_GUARD g).put F.FLT_MASTER_INFO_MASTER (masterCode src)
    (s.count C.FLT_DENY).raise F.FLT_EVT_MASTER_DENY

/-- The guard of the region at address `a`. -/
def guardAt (a : Nat) : Nat :=
  match regionOf a with
  | some (t, _, _) => guardNo t
  | none => 0

/-- The master that a source belongs to (R33); accesses through a BAR and those of the controllers are of none, and take no
tag (DESIGN CHOICE, log 55). -/
def masterOf : Source → Option Master
  | .mgmt => some .mgmt
  | .enclave => some .enclave
  | .core k => some (.cluster (k / 4))
  | .round _ => some .roundEngine
  | .engine k => some (.engine k)
  | .switchCore => some .switchCore
  | .gateway => some .gateway
  | .pair _ => some .pairIn
  | _ => none

/-- Two accesses come from one master, whose order R36 keeps. -/
def sameMaster (a b : Source) : Bool := if (masterOf a).isSome then masterOf a == masterOf b else a == b

/-- The partition ID the hardware of a source stamps (R40, R393). -/
def State.pidOf (s : State) : Source → Nat
  | .mgmt => 0
  | .enclave => 1
  | .host => 2
  | .bar0 => 2
  | .core k => s.get (F.COR_A_STAT_PID k)
  | .round n => s.get (F.RND_R_ASSIGN_OWNER n)
  | .pair p => p
  | _ => 0

/-! Errors in memory cells. -/

/-- Bytes of one ECC unit: a granule, or in DRAM an aligned pair of granules (R64). -/
def eccUnit (a : Nat) : Nat := if a < 0xE0000000 then 8 else 4

/-- Marks of the queue pool, which has no fabric address (R58), stand at `poolBase + 8192 q + 8 i`: granules 0 and 1 of
item `i` of queue `q`, counted from the head (DESIGN CHOICE, log 90). -/
def poolBase : Nat := 0x120000000
def poolAddr (q : Nat) : Nat := poolBase + 8192 * q

/-- The memory kind of MEM_CE_INFO. -/
def memKind : Target → Option Nat
  | .dram _ => some 0
  | .sram => some 1
  | .pbuf _ => some 2
  | .engine _ => some 3
  | .queues => some 4
  | .enclave => some 5
  | _ => none

/-- The kind of the memory at an address; 0 where none lies. -/
def kindAt (a : Nat) : Nat :=
  if poolBase ≤ a ∧ a < poolBase + 0x80000 then 4 else
  match regionOf a with
  | some (t, _, _) => (memKind t).getD 0
  | none => 0

/-- The address an error report shows: 0 for the enclave's private memory (R72), whose own reads show it (DEDUCED, log 101);
a queue's window for the queue pool (DESIGN CHOICE, log 90). -/
def shownAddr (a : Nat) : Nat :=
  match kindAt a with
  | 5 => 0
  | 4 => poolBase + 0x1000 * ((a - poolBase) / 8192)
  | _ => a

/-- The state with the mark of an error removed. -/
def State.dropMark (s : State) (m : EccMark) : State :=
  s.setFab { s.fab with ecc := s.fab.ecc.filter (· != m) }

/-- One upset cell joins the errors of its ECC unit: a second bit of a unit makes the unit uncorrectable (R64). -/
def eccJoin (l : List EccMark) (m : EccMark) : List EccMark :=
  let m := { m with addr := m.addr / eccUnit m.addr * eccUnit m.addr }
  match l.find? (·.addr == m.addr) with
  | none => l ++ [m]
  | some o => l.map fun x => if x.addr == m.addr then { x with ue := o.ue || m.ue || o.bit != m.bit } else x

/-- The state after outside causes have upset the cells named. -/
def State.upset (s : State) (u : List EccMark) : State := s.setFab { s.fab with ecc := u.foldl eccJoin s.fab.ecc }

/-- A correctable error is corrected, written back, counted and reported (R69). -/
def State.reportCe (s : State) (m : EccMark) (patrol : Bool) : State :=
  let before := s.fab.ceAddr
  let s := (s.dropMark m).count C.MEM_CE
  let s := s.setFab { s.fab with ceAddr := m.addr }
  let s := s.putAddr F.MEM_CE_ADDR_LO_ADDR F.MEM_CE_ADDR_HI_ADDR (shownAddr m.addr)
  let s := ((s.put F.MEM_CE_INFO_BIT m.bit).put F.MEM_CE_INFO_PATROL (b2n patrol)).put F.MEM_CE_INFO_KIND (kindAt m.addr)
  let s := s.raise F.MEM_EVT_CE
  if m.addr = before then s.raise F.MEM_EVT_REPEAT else s

/-- An uncorrectable error is counted and reported, and stays (R70). -/
def State.reportUe (s : State) (m : EccMark) (pid : Nat) (patrol : Bool) : State :=
  let s := s.count C.MEM_UE
  let s := s.setFab { s.fab with ueAddr := m.addr }
  let s := s.putAddr F.MEM_UE_ADDR_LO_ADDR F.MEM_UE_ADDR_HI_ADDR (shownAddr m.addr)
  let s := ((s.put F.MEM_UE_INFO_PID pid).put F.MEM_UE_INFO_PATROL (b2n patrol)).put F.MEM_UE_INFO_KIND (kindAt m.addr)
  s.raise F.MEM_EVT_UE

/-- The error's unit shares a byte with the `n` bytes from `a`. -/
def markMeets (m : EccMark) (a n : Nat) : Bool :=
  decide (m.addr < a + n) && decide (a < m.addr + eccUnit m.addr)

/-- The `n` bytes from `a` cover the error's whole unit. -/
def markInside (m : EccMark) (a n : Nat) : Bool :=
  decide (a ≤ m.addr) && decide (m.addr + eccUnit m.addr ≤ a + n)

/-- The errors a read or scrub of `n` bytes from `a` meets. -/
def State.marksIn (s : State) (a n : Nat) : List EccMark := s.fab.ecc.filter (markMeets · a n)

/-- A read of `n` bytes applies the check bits: each error met is reported, single-bit errors are corrected. -/
def State.eccRead (s : State) (a n pid : Nat) (patrol : Bool) : State :=
  forEach (s.marksIn a n) (fun m t => if m.ue then t.reportUe m pid patrol else t.reportCe m patrol) s

/-- A read of `n` bytes from `a` meets an uncorrectable unit. -/
def State.eccBad (s : State) (a n : Nat) : Bool := (s.marksIn a n).any (·.ue)

/-- A write of `n` bytes from `a` covers part of an uncorrectable unit, and is not performed (R71). -/
def State.eccTorn (s : State) (a n : Nat) : Bool := (s.marksIn a n).any fun m => m.ue && !markInside m a n

/-- The memory cells after a write of `n` bytes: a unit covered whole is correct; one covered in part was read and
merged, so its error is reported as a read reports it (R66, R71). -/
def State.eccWrite (s : State) (a n pid : Nat) : State :=
  forEach (s.marksIn a n) (fun m t =>
    if markInside m a n then t.dropMark m else if m.ue then t.reportUe m pid false else t.reportCe m false) s

/-- A write of `n` bytes that is not performed: the uncorrectable units that it covers in part are reported, and every
other mark stays (R71). -/
def State.eccRefuse (s : State) (a n pid : Nat) : State :=
  forEach ((s.marksIn a n).filter fun m => m.ue && !markInside m a n) (fun m t => t.reportUe m pid false) s

end Sys2Proof.Machine
end

