-- ==== Sys2Proof/Machine/PairBase.lean ====
section
/-! DEFINITION. What every layer needs of the pair function: its roles (R475, R483), its lanes (R473), the sending of pair
frames (R472) and the answer to an inbound bridge request (R486). -/
namespace Sys2Proof.Machine

def State.onPai (s : State) (f : Pai → Pai) : State := s.setPai (f s.pai)

/-- TIM_NOW (R187). -/
def State.timNow (s : State) : Nat := (s.rd R.TIM_NOW).toNat

def Role.STARTING : Nat := 0
def Role.SYNCING : Nat := 1
def Role.STANDBY : Nat := 2
def Role.PRIMARY : Nat := 3
def Role.ISOLATED : Nat := 4
def Role.DISABLED : Nat := 7

def State.role (s : State) : Nat := s.get F.PAI_STAT_ROLE
def State.pairOn (s : State) : Bool := s.on F.PAI_CTL_EN
def State.isPrimary (s : State) : Bool := s.pairOn && s.role == Role.PRIMARY

/-- The module is a standby of a pair (R483). -/
def State.standby (s : State) : Bool := s.pairOn && (decide (s.role ≤ 2) || s.role == Role.ISOLATED)

/-- The tied channels are HELD and the ports silent: in a standby, and once the pair function has been switched off
(R475). -/
def State.silent (s : State) : Bool := s.standby || (!s.pairOn && s.pai.quiet)

/-- The pair function holds port `p` (R160, R471). -/
def State.pairHolds (s : State) (p : Nat) : Bool := (p == 2 || p == 3) && s.pairOn

/-- The sampled PAIR_RANK. -/
def State.rank (s : State) : Nat := s.get F.BOO_STRAP_PAIR_RANK

/-- Lane `l`, 0 on X2 and 1 on X3, is up. -/
def State.laneUp (s : State) (l : Nat) : Bool :=
  s.pairOn && (if l = 0 then s.on F.PAI_STAT_LANE0_UP else s.on F.PAI_STAT_LANE1_UP)

/-- A lane goes up or down (R473). -/
def State.setLane (s : State) (l : Nat) (up : Bool) : State :=
  (s.put (if l = 0 then F.PAI_STAT_LANE0_UP else F.PAI_STAT_LANE1_UP) (b2n up)).raise F.PAI_EVT_LANE

def State.lanesUp (s : State) : List Nat := [0, 1].filter s.laneUp

/-! Pair frames (R472). -/

def Kind.HEARTBEAT : Nat := 1
def Kind.MIRROR : Nat := 2
def Kind.BRIDGE_REQ : Nat := 3
def Kind.BRIDGE_CPL : Nat := 4
def Kind.TERM : Nat := 5
def Kind.BEACON : Nat := 6

/-- The bytes of a pair frame from destination address `dst` on; its source address is 0, and a short frame is filled
to 60 bytes (DESIGN CHOICE, log 51). -/
def State.pairBytes (s : State) (dst : Bytes) (kind lane seq : Nat) (body : Bytes) : Bytes :=
  let b := dst ++ zeros 6 ++ [0x88, 0xB6] ++ leBytes 1 kind ++ [1] ++ leBytes 1 (s.rank + 2 * s.role) ++ leBytes 1 lane ++
    leBytes 4 (s.get F.PAI_TERM_TERM) ++ leBytes 4 seq ++ leBytes 4 s.timNow ++ leBytes 2 body.length ++ [0, 0] ++ body
  b ++ zeros (60 - b.length)

/-- The next SEQ of a KIND. -/
def State.pairSeq (s : State) (kind : Nat) : Nat := storeGet cntDefault s.pai.seq kind
def State.pairSeqStep (s : State) (kind : Nat) : State :=
  s.onPai fun p => { p with seq := storeSet cntDefault p.seq kind ((s.pairSeq kind + 1) % 2 ^ 32) }

/-- A frame leaves on a lane and is counted by its MAC (R164). -/
def State.laneSend (s : State) (lane : Nat) (b : Bytes) : State :=
  ((s.emit (.frame (2 + lane) b false)).count (C.PRT_TX_OK (2 + lane))).count (C.PRT_TX_OCTETS (2 + lane)) (b.length + 4)

/-- A pair frame with a SEQ of its own on one lane. -/
def State.sendOn (s : State) (lane kind : Nat) (body : Bytes) : State :=
  (s.laneSend lane (s.pairBytes (zeros 6) kind lane (s.pairSeq kind) body)).pairSeqStep kind

/-- A pair frame on every lane that is up. -/
def State.sendAll (s : State) (kind : Nat) (body : Bytes) : State :=
  forEach s.lanesUp (fun l t => t.sendOn l kind body) s

/-- A pair frame on one lane that is up, X2 first: nothing is queued on either (R473). -/
def State.sendOne (s : State) (kind : Nat) (body : Bytes) : State :=
  match s.lanesUp with
  | l :: _ => s.sendOn l kind body
  | [] => s

/-- A BRIDGE_CPL. -/
def State.bridgeReply (s : State) (id status : Nat) (data : Bytes) : State :=
  s.sendOne Kind.BRIDGE_CPL (leBytes 4 id ++ leBytes 2 status ++ leBytes 2 data.length ++ data)

/-! Requests to the partner (R486). -/

/-- `n` bytes from `a` cut at 256-byte boundaries; `fuel` bounds the pieces. -/
def cut256 : Nat → Nat → Nat → List (Nat × Nat)
  | 0, _, _ => []
  | fuel + 1, a, n =>
    let k := 256 - a % 256
    if n ≤ k then [(a, n)] else (a, k) :: cut256 fuel (a + k) (n - k)

/-- The atomic code of a BRIDGE_REQ. -/
def amoCode : AmoOp → Nat
  | .add => 0
  | .swap => 1
  | .and => 2
  | .or => 3
  | .xor => 4
  | .min => 5
  | .max => 6
  | .minu => 7
  | .maxu => 8
  | .lr => 9
  | .sc => 10

/-- One BRIDGE_REQ of an access leaves; its data are those from byte `off` of the access. -/
def State.bridgeSend (s : State) (a : Access) (pid off addr len id : Nat) : State :=
  let op := if a.amo.isSome then 2 else b2n a.write
  let code := match a.amo with | some o => amoCode o + (if a.size = 8 then 128 else 0) | none => 0
  s.sendOne Kind.BRIDGE_REQ
    (leBytes 6 (addr - 0x500000000000) ++ leBytes 1 op ++ leBytes 1 code ++ leBytes 2 len ++ leBytes 1 pid ++ [0] ++
      leBytes 4 id ++ (if op = 0 then [] else slice a.data off len))

/-- An access of partition `pid` goes to the partner, a read under its tag. -/
def State.bridge (s : State) (a : Access) (pid tag : Nat) : State :=
  let cuts := cut256 (a.size / 256 + 2) a.addr a.size
  let r := cuts.foldl (fun (t : State × List BrPart) c =>
    let id := t.1.pai.nextId
    ((t.1.onPai fun p => { p with nextId := (id + 1) % 2 ^ 32 }).bridgeSend a pid (c.1 - a.addr) c.1 c.2 id,
      t.2 ++ [⟨id, c.2, s.now, none⟩])) (s, [])
  r.1.onPai fun p => { p with outs := p.outs ++ [⟨a, tag, r.2⟩] }

def accOfPair (a : Access) : Bool :=
  match a.src with
  | .pair _ => true
  | _ => false

/-- The inbound request at the front is one that its target cannot accept (R32): it waits, and not for the answer of a read
under way. -/
def State.inHeld (s : State) : Bool := s.pai.inWait && !s.fab.tags.any fun t => accOfPair t.acc

/-- IN_HELD, OUT_WAIT and SYNCED of this module's heartbeats (R472). -/
def State.beatBits (s : State) : Nat := b2n s.inHeld + 2 * b2n (!s.pai.outs.isEmpty) + 4 * b2n (s.on F.PAI_STAT_SYNCED)

/-- The inbound request at the front has been answered by its target. -/
def State.pairAnswer (s : State) (status : Nat) (data : Bytes) : State :=
  match s.pai.ins with
  | [] => s
  | q :: r => (s.onPai fun p => { p with ins := r, inWait := false }).bridgeReply q.id status data

/-- An access is answered; the bridge sends on the answer to an inbound request that waited. -/
def State.answer (s : State) (src : Source) (status : Nat) (data : Bytes) : State :=
  let s := s.emit (.answer src status data)
  match src with
  | .pair _ => if s.pai.inWait then s.pairAnswer status data else s
  | _ => s

end Sys2Proof.Machine
end

