-- ==== Sys2Proof/Machine/Queues.lean ====
section
/-! DEFINITION. The hardware queues' pushes, pops and peeks (R407 to R411) and the acquiring of semaphores (R412). -/
namespace Sys2Proof.Machine

/-- An empty queue. -/
def noItems (_ : Nat) : List Nat := []

/-- The items of queue `q`, head first. -/
def State.qItems (s : State) (q : Nat) : List Nat := storeGet noItems s.que.items q

def State.setItems (s : State) (q : Nat) (l : List Nat) : State :=
  s.setQue { s.que with items := storeSet noItems s.que.items q l }

/-- The last item popped from queue `q`. -/
def State.qLast (s : State) (q : Nat) : Nat := storeGet cntDefault s.que.last q

def State.setQLast (s : State) (q v : Nat) : State :=
  s.setQue { s.que with last := storeSet cntDefault s.que.last q v }

/-- LEVEL of queue `q`; 0 acts as 1. -/
def State.qLevel (s : State) (q : Nat) : Nat := max (s.get (F.QUE_Q_CFG_LEVEL q)) 1

/-- The QUE_LEVEL bit of a queue. -/
def qLevelBit (q : Nat) : Fld := ⟨if q < 32 then R.QUE_LEVEL_LO else R.QUE_LEVEL_HI, q % 32, q % 32⟩

/-- The cells of the item at place `i` of queue `q` are written whole, so that its granules are correct (R71). -/
def State.qCells (s : State) (q i : Nat) : State :=
  s.setFab { s.fab with ecc := s.fab.ecc.filter fun m => !markMeets m (poolAddr q + 8 * i) 8 }

/-- A mark of queue `q` after its head item has left: the item's own ends, the others move one place with their items. -/
def shiftMark (q : Nat) (m : EccMark) : Option EccMark :=
  if markMeets m (poolAddr q) 8 then none
  else if poolAddr q ≤ m.addr ∧ m.addr < poolAddr (q + 1) then some { m with addr := m.addr - 8 }
  else some m

/-- The head item of queue `q` leaves, and the marks of its queue move with the items. -/
def State.qShift (s : State) (q : Nat) : State := s.setFab { s.fab with ecc := s.fab.ecc.filterMap (shiftMark q) }

/-- A push that is performed: the item goes to the tail, and a fill that reaches LEVEL is signalled (R411). -/
def State.qPut (s : State) (q v : Nat) : State :=
  let s := s.qCells q (s.qItems q).length
  let s := s.setItems q (s.qItems q ++ [v % 2 ^ 64])
  if (s.qItems q).length = s.qLevel q then
    ((s.put (qLevelBit q) 1).raise F.QUE_EVT_LEVEL).sendAia (s.get (F.QUE_Q_VEC_AIA_ID q))
  else s

/-- Queue `q` holds as many items as its DEPTH. -/
def State.qFull (s : State) (q : Nat) : Bool := decide (s.get (F.QUE_Q_CFG_DEPTH q) ≤ (s.qItems q).length)

/-- The pushes held at queue `n`, oldest first. -/
def State.heldAt (s : State) (n : Nat) : List HeldPush := s.que.held.filter fun h => h.q == n

/-- A push of the master of `src` is held, so that its later accesses to the queue pool wait behind it (R36, R37). -/
def State.pushHeld (s : State) (src : Source) : Bool := s.que.held.any fun h => sameMaster h.src src

/-- A push by `src` reaches queue `q` and is held: the queue is full (R409), older pushes are held at it (DEDUCED, log 89),
or its master has a push held at any queue (R36). -/
def State.mustHold (s : State) (src : Source) (q : Nat) : Bool :=
  (s.on (F.QUE_Q_CFG_EN q) && (s.qFull q || !(s.heldAt q).isEmpty)) || s.pushHeld src

/-- A push is held. -/
def State.holdPush (s : State) (src : Source) (q v : Nat) : State :=
  s.setQue { s.que with held := s.que.held ++ [⟨q, src, s.pidOf src, v % 2 ^ 64, false⟩] }

/-- A push is performed, or not performed at a disabled queue, which raises OFF_WRITE (R408). -/
def State.pushNow (s : State) (q v : Nat) : State :=
  if s.on (F.QUE_Q_CFG_EN q) then s.qPut q v else s.raise F.QUE_EVT_OFF_WRITE

/-- A push reaches queue `q`: it is held, or performed and answered. -/
def State.qPush (s : State) (src : Source) (q v : Nat) : State :=
  if s.mustHold src q then s.holdPush src q v else (s.pushNow q v).answer src 0 []

/-- A pop of queue `q` and the value it returns (R410); a disabled queue returns 0 (R408). -/
def State.qPop (s : State) (q : Nat) : State × Nat :=
  if !s.on (F.QUE_Q_CFG_EN q) then (s, 0)
  else
    match s.qItems q with
    | [] => (((s.put (F.QUE_Q_STAT_UNDERRUN q) 1).count (C.QUE_UNDER q)).raise F.QUE_EVT_UNDERRUN, s.qLast q)
    | v :: r => (((s.qShift q).setItems q r).setQLast q v, v)

/-- What a peek of queue `q` returns. -/
def State.qPeek (s : State) (q : Nat) : Nat :=
  if !s.on (F.QUE_Q_CFG_EN q) then 0
  else
    match s.qItems q with
    | [] => s.qLast q
    | v :: _ => v

/-- What a read of a queue window's fill word returns (R407). -/
def State.qFill (s : State) (q : Nat) : Nat :=
  let n := (s.qItems q).length
  n % 2 ^ 11 + (if n = 0 then 2 ^ 63 else 0)

/-- A read of SEM_ACQn by partition `pid` and the value it returns (R412). A disabled partition is refused; what its read
returns is free (R392; DESIGN CHOICE, log 102). -/
def State.semAcquire (s : State) (pid n : Nat) : State × Nat :=
  let o := s.get (F.SEM_STAT_OWNER n)
  if s.partOff pid then (s.drawn, s.free 240 % 64)
  else if o = 0 then (s.put (F.SEM_STAT_OWNER n) (pid + 1), 0)
  else (s.count C.SEM_FAIL, o)

/-! Mailboxes (R400, R401). -/

def State.mbSender (s : State) (n : Nat) : Nat := s.get (F.MBX_CFG_SENDER n)
def State.mbReceiver (s : State) (n : Nat) : Nat := s.get (F.MBX_CFG_RECEIVER n)

/-- The access checks of R401. -/
def State.mbMaySend (s : State) (pid n : Nat) : Bool := pid == 0 || (s.on (F.MBX_CFG_EN n) && pid == s.mbSender n && !s.partOff pid)
def State.mbMayTake (s : State) (pid n : Nat) : Bool := pid == 0 || (s.on (F.MBX_CFG_EN n) && pid == s.mbReceiver n && !s.partOff pid)
def State.mbMayRead (s : State) (pid n : Nat) : Bool := s.mbMaySend pid n || s.mbMayTake pid n
def State.mbDeny (s : State) : State := (s.count C.MBX_DENY).raise F.MBX_EVT_DENY

/-- A mailbox read that R401 refuses. -/
def State.mbRefused (s : State) (pid a : Nat) : Bool :=
  if 0x101000 ≤ a ∧ a < 0x103000 then
    let n := (a - 0x101000) / 0x100
    let off := a % 0x100
    !s.mbMayRead pid n && (decide (16 ≤ n) || decide (off < 0x40) || off == 0x4C)
  else false

end Sys2Proof.Machine
end

