-- ==== Sys2Proof/Machine/SwcBase.lean ====
section
/-! DEFINITION. What the switch core's state shows through its registers: port states, cells held by queues and the
shared pool (R121), streams and their sequence state (R143 to R146), and the ply tables (R132). -/
namespace Sys2Proof.Machine

/-- `a` lies earlier than `b` within a half-range of the 32-bit count (R129). -/
def before (a b : Nat) : Bool := decide (2 ^ 31 ≤ (a + 2 ^ 32 - b % 2 ^ 32) % 2 ^ 32)

def State.onSwc (s : State) (f : Swc → Swc) : State := s.setSwc (f s.swc)
def State.onPrt (s : State) (f : Prt → Prt) : State := s.setPrt (f s.prt)

/-! Port states (R152, R154). -/

/-- The state of a switch port: 0 DOWN, 1 UP, 2 HOLD; C, A and W are always UP. -/
def State.swState (s : State) (p : Nat) : Nat := if 21 ≤ p then 1 else s.get (F.SWC_PSTAT_STATE p)

/-- Cells of a frame of `n` bytes (R115). -/
def cellsOf (n : Nat) : Nat := ceilDiv n 192

/-! The carve and the shared pool (R121, R122). -/

/-- The carve a queue has at reset: ALPHA 6, MIN 64. -/
def carveDefault (_ : Nat) : Nat := 6 * 65536 + 64

def State.carveOf (s : State) (o c : Nat) : Nat := storeGet carveDefault s.swc.carve (o * 8 + c)
def State.minOf (s : State) (o c : Nat) : Nat := s.carveOf o c % 65536
def State.alphaOf (s : State) (o c : Nat) : Nat := s.carveOf o c / 65536

/-- The cells a frame still holds for egress port `o`. -/
def SwFrame.cellsAt (f : SwFrame) (o : Nat) : Nat :=
  match f.left.find? (·.1 == o) with
  | some p => p.2
  | none => 0

/-- Cells held by egress queue (o, c). -/
def State.usedCells (s : State) (o c : Nat) : Nat :=
  ((s.swc.frames.filter fun f => !f.mirror && !f.ply && f.cls == c).map fun f => f.cellsAt o).sum

/-- Cells held by mirror copies. -/
def State.mirrorUsed (s : State) : Nat :=
  ((s.swc.frames.filter fun f => f.mirror).map fun f => (f.left.map (·.2)).sum).sum

/-- The egress queues, as (port, class). -/
def allQueues : List (Nat × Nat) := (List.range 24).flatMap fun o => (List.range 8).map fun c => (o, c)

/-- Cells of the shared pool: 65,536 less all minimums and the ply reserve. -/
def State.poolSize (s : State) : Nat :=
  65536 - (allQueues.map fun q => s.minOf q.1 q.2).sum - s.get F.SWC_POOL_RSV_PLY_RSV

/-- The egress port that a frame's cells are charged to, and those cells: a multicast frame is stored once (R123), and charged
where most of its cells are left (DESIGN CHOICE, log 21). -/
def SwFrame.charge (f : SwFrame) : Nat × Nat := f.left.foldl (fun m x => if m.2 < x.2 then x else m) (0, 0)

/-- Cells charged to egress queue (o, c). -/
def State.chargedCells (s : State) (o c : Nat) : Nat :=
  ((s.swc.frames.filter fun f => !f.mirror && !f.ply && f.cls == c).map fun f =>
    if f.charge.1 = o then f.charge.2 else 0).sum

/-- Free cells of the shared pool: what no queue is charged beyond its minimum and no mirror copy holds. -/
def State.poolFree (s : State) : Nat :=
  s.poolSize - (allQueues.map fun q => s.chargedCells q.1 q.2 - s.minOf q.1 q.2).sum - s.mirrorUsed

/-! Cells in the packet buffer. -/

/-- The bank that the cells of a frame from port `p` go to: bank 0 beside X0 to X3 and G0 to G7, bank 1 beside G8 to G15; the
spec names none for the internal ports (log 21). -/
def bankOf (p : Nat) : Nat := if p < 12 then 0 else if p < 20 then 1 else Config.freeFn 24 p % 2

/-- The address of cell `k` of a frame: its place in the bank is the implementation's (log 21). -/
def SwFrame.cellAddr (f : SwFrame) (k : Nat) : Nat :=
  0x108000000 + 0x600000 * f.bank + 192 * (Config.freeFn 23 (f.id * 64 + k) % 32768)

def noneDefault {α : Type} (_ : Nat) : Option α := none
def State.stream (s : State) (h : Nat) : Option StreamEnt := storeGet noneDefault s.swc.streams h

def cbDefault (_ : Nat) : CbState := ⟨false, 0, [], 0, 0⟩
def State.cbOf (s : State) (h : Nat) : CbState := storeGet cbDefault s.swc.cb h
def State.setCb (s : State) (h : Nat) (c : CbState) : State :=
  s.onSwc fun w => { w with cb := storeSet cbDefault w.cb h c }

/-- The frames held for handle `h`, as (sequence number, arrival). -/
def State.heldOf (s : State) (h : Nat) : List (Nat × Nat) :=
  s.swc.frames.filterMap fun f =>
    match f.held with
    | some (g, q, a) => if g = h then some (q, a) else none
    | none => none

/-! The ply tables; shadow ones lie at 256 + group (R134). -/

/-- A group's entry at reset: not in use, WINDOW 100. -/
def plyEntDefault (_ : Nat) : PlyEnt := ⟨false, 100, 0, 0, 0⟩
def plyAccDefault (_ : Nat) : PlyAcc := ⟨false, 0, [], 0, none, plyEntDefault 0⟩
def State.plyEnt (s : State) (k : Nat) : PlyEnt := storeGet plyEntDefault s.swc.plyTbl k
def State.plyAcc (s : State) (k : Nat) : PlyAcc := storeGet plyAccDefault s.swc.plyAcc k
def State.setPlyEnt (s : State) (k : Nat) (e : PlyEnt) : State :=
  s.onSwc fun w => { w with plyTbl := storeSet plyEntDefault w.plyTbl k e }
def State.setPlyAcc (s : State) (k : Nat) (a : PlyAcc) : State :=
  s.onSwc fun w => { w with plyAcc := storeSet plyAccDefault w.plyAcc k a }

/-- The entry and accumulator that SWC_PLY_SEL selects. -/
def State.plySel (s : State) : Nat := s.get F.SWC_PLY_SEL_GROUP + 256 * s.get F.SWC_PLY_SEL_SHADOW

/-- The number of bits set in a mask of 64 bits. -/
def popCount (m : Nat) : Nat := ((List.range 64).filter fun i => bitOf m i).length

/-- Matchings of the last whole millisecond, in thousands: the stored field shows the millisecond before the one being
counted. -/
def State.kmatch (s : State) : Nat :=
  let ms := s.now / 1000000
  if ms = s.swc.matchMs then s.get F.SWC_SCHED_RATE_KMATCH
  else if ms = s.swc.matchMs + 1 then s.swc.matchN / 1000
  else 0

/-- The egress queue that SWC_BUF_SEL selects; ports above 23 act as none. -/
def State.bufPort (s : State) : Nat := s.get F.SWC_BUF_SEL_PORT
def State.bufClass (s : State) : Nat := s.get F.SWC_BUF_SEL_CLASS

/-- The role of a stream handle, 0 where it is not set. -/
def State.cbRole (s : State) (h : Nat) : Nat := match s.stream h with | some e => e.role | none => 0

/-- Milliseconds of HOLD remaining. -/
def State.holdLeft (s : State) (p : Nat) : Nat :=
  if s.swState p = 2 then ceilDiv (storeGet cntDefault s.swc.holdEnd p - s.now) 1000000 else 0

/-- The live fields of the SWC registers that show state held elsewhere. -/
def State.swcLive (s : State) (a : Nat) : List (Fld × Nat) :=
  if a = R.SWC_SCHED_RATE then [(F.SWC_SCHED_RATE_KMATCH, s.kmatch)]
  else if R.SWC_PSTAT 0 ≤ a ∧ a < R.SWC_PSTAT 24 then
    let p := (a - R.SWC_PSTAT 0) / 4
    [(F.SWC_PSTAT_STATE p, s.swState p), (F.SWC_PSTAT_HOLD_LEFT p, s.holdLeft p)]
  else if a = R.SWC_BUF_CARVE then
    [(F.SWC_BUF_CARVE_ALPHA, s.alphaOf s.bufPort s.bufClass), (F.SWC_BUF_CARVE_MIN, s.minOf s.bufPort s.bufClass)]
  else if a = R.SWC_BUF_USE then [(F.SWC_BUF_USE_USED, s.usedCells s.bufPort s.bufClass)]
  else if a = R.SWC_POOL_SIZE then [(F.SWC_POOL_SIZE_CELLS, s.poolSize)]
  else if a = R.SWC_POOL_FREE then [(F.SWC_POOL_FREE_CELLS, s.poolFree)]
  else if a = R.SWC_PLY_CFG then
    let e := s.plyEnt s.plySel
    [(F.SWC_PLY_CFG_EN, b2n e.en), (F.SWC_PLY_CFG_WINDOW, e.window), (F.SWC_PLY_CFG_CLASS, e.cls)]
  else if a = R.SWC_PLY_DEST then [(F.SWC_PLY_DEST_PORTS, (s.plyEnt s.plySel).dest)]
  else if a = R.SWC_PLY_MASK_LO then [(F.SWC_PLY_MASK_LO_MASK, (s.plyEnt s.plySel).mask)]
  else if a = R.SWC_PLY_MASK_HI then [(F.SWC_PLY_MASK_HI_MASK, (s.plyEnt s.plySel).mask / 2 ^ 32)]
  else if a = R.SWC_PLY_STAT then
    let c := s.plyAcc s.plySel
    [(F.SWC_PLY_STAT_OPEN, b2n c.isOpen), (F.SWC_PLY_STAT_ARRIVED, if c.isOpen then popCount c.arrived else 0)]
  else if a = R.SWC_PLY_TIME then [(F.SWC_PLY_TIME_BLOCK_TIME, (s.plyAcc s.plySel).time)]
  else if a = R.SWC_CB_STAT then
    let h := s.get F.SWC_CB_SEL_STREAM
    [(F.SWC_CB_STAT_NEXT_SEQ, (s.cbOf h).next), (F.SWC_CB_STAT_HELD, (s.heldOf h).length),
     (F.SWC_CB_STAT_ROLE, s.cbRole h)]
  else if a = R.SWC_CB_GEN then [(F.SWC_CB_GEN_SEQ, (s.cbOf (s.get F.SWC_CB_SEL_STREAM)).gen)]
  else []

end Sys2Proof.Machine
end

