-- ==== Sys2Proof/Machine/Views.lean ====
section
/-! DEFINITION. What a register read returns: the stored value, with the fields that show live state computed from it
(R39, R61). -/
namespace Sys2Proof.Machine

/-- A register value with the fields named replaced. -/
def overlay (w : Nat) : List (Fld × Nat) → Nat
  | [] => w
  | (f, v) :: r => overlay (setBits w f.hi f.lo v) r

/-! Watchdogs of partitions (R396). -/

/-- Partition `p` can run now. -/
def State.canRun (s : State) (p : Nat) : Bool :=
  (List.range 8).any fun k =>
    s.actingCore k == k && s.get (F.COR_A_STAT_STATE k) == 0 && s.get (F.COR_A_STAT_PID k) == p

def State.wdLeft (s : State) (p : Nat) : Nat := storeGet cntDefault s.cor.wdLeft p

/-- ns that partition `p`'s watchdog has left now. -/
def State.wdNow (s : State) (p : Nat) : Nat := if s.canRun p then s.wdLeft p - (s.now - s.cor.wdAt) else s.wdLeft p

/-- The live fields of the COR registers. -/
def State.corLive (s : State) (a : Nat) : List (Fld × Nat) :=
  if 0xF0100 ≤ a ∧ a < 0xF0200 ∧ a % 0x20 = 8 then
    let k := (a - 0xF0100) / 0x20
    [(F.COR_A_WIN_LEFT_US k, ceilDiv (storeGet cntDefault s.cor.winEnd k - s.now) 1000)]
  else if 0xF0400 ≤ a ∧ a < 0xF0600 ∧ a % 0x10 = 8 then
    let p := (a - 0xF0400) / 0x10
    [(F.COR_P_STAT_WD_LEFT p, ceilDiv (s.wdNow p) 1000000)]
  else []

/-! CAN controllers. -/

def State.ctl (s : State) (n : Nat) : CanCtl := storeGet ctlDefault s.can.ctls n
def State.canState (s : State) (n : Nat) : Nat := s.get (F.CAN_STAT_STATE n)

/-- The state in force of the transceiver of controller `n`; an external one counts as NORMAL. -/
def State.trcv (s : State) (n : Nat) : Nat := if n < 8 then s.get (F.WAK_TRCV_STAT_STATE n) else 0

/-- The transmit queues of controller `n` are held (R275, R278, R279, R311). -/
def State.canHeld (s : State) (n : Nat) : Bool :=
  (s.on (F.CAN_STAT_LONE n) && s.on (F.CAN_CTL_HOLD_ON_LONE n)) || s.on (F.CAN_STAT_SWAPPED n) || s.canState n == 3 ||
    (s.canState n != 0 && (decide (2 ≤ s.trcv n) || (s.ctl n).slept))

/-- The live fields of the registers of CAN controller `n`. -/
def State.canLive (s : State) (n a : Nat) : List (Fld × Nat) :=
  let c := s.ctl n
  let o := a % 0x1000
  if o = 0x24 then [(F.CAN_STAT_HELD n, b2n (s.canHeld n))]
  else if o = 0x28 then
    [(F.CAN_ERRCNT_RP n, b2n (decide (127 < c.rec_))), (F.CAN_ERRCNT_REC n, c.rec_ % 128),
     (F.CAN_ERRCNT_TEC n, min 255 c.tec)]
  else if 0x40 ≤ o ∧ o < 0x50 then
    let q := (o - 0x40) / 4
    let l := c.txq.getD q []
    let h := l.head?
    [(F.CAN_TXQ_STAT_FILL n q, l.length), (F.CAN_TXQ_STAT_LOSSES n q, min 255 ((h.map (·.losses)).getD 0)),
     (F.CAN_TXQ_STAT_ERRORS n q, min 255 ((h.map (·.errors)).getD 0))]
  else if 0x60 ≤ o ∧ o < 0xA0 ∧ o % 8 = 4 then
    let q := (o - 0x60) / 8
    let l := c.rxq.getD q []
    [(F.CAN_RXQ_STAT_BYTES n q, (l.map List.length).sum), (F.CAN_RXQ_STAT_FILL n q, min 2047 l.length)]
  else []

/-- The live fields of the gateway's registers: the selected rule, and the selected freshness counter (R300). -/
def State.gwyLive (s : State) (a : Nat) : List (Fld × Nat) :=
  if a = R.GWY_RULE_STAT then
    let v := storeGet gwRuleDefault s.gwy.rules (s.get F.GWY_RULE_SEL_RULE)
    let tok := min (10 ^ 9 * u16 v.raw 30) (v.ftok + u32 v.raw 32 * (s.now - v.last))
    [(F.GWY_RULE_STAT_EN, b2n (bitOf (u8 v.raw 15) 0)), (F.GWY_RULE_STAT_HELD, b2n v.held.isSome),
     (F.GWY_RULE_STAT_FTOK, min 65535 (tok / 10 ^ 9))]
  else
    let v := storeGet noneDefault s.gwy.fresh (s.get F.GWY_FRESH_SEL_COUNTER)
    if a = R.GWY_FRESH_SEL then [(F.GWY_FRESH_SEL_SET, b2n v.isSome)]
    else if a = R.GWY_FRESH_VAL then [(F.GWY_FRESH_VAL_VALUE, v.getD 0)]
    else []

/-- The level whose figures hold: during a move of VCORE the lower of the two (R25). -/
def State.figLevel (s : State) : Nat :=
  min (s.get F.GAU_STAT_LEVEL) (s.gau.moving.getD (s.get F.GAU_STAT_LEVEL))

/-- The planned finishes of the running placement's nodes at the level in force (R259). -/
def State.finishNow (s : State) : List Nat :=
  match s.aud.pat, s.cht.place with
  | some p, some pl => p.finishAt pl s.figLevel
  | _, _ => []

/-- The live fields of Chart's registers: the selected node's place (R243). -/
def State.chtLive (s : State) (a : Nat) : List (Fld × Nat) :=
  let i := s.get F.CHT_NODE_SEL_NODE
  if a = R.CHT_NODE_PLACE then
    match s.aud.pat, s.cht.place with
    | some p, some pl =>
      let e := pl.eng.getD i 31
      if e = 31 then []
      else
        [(F.CHT_NODE_PLACE_VALID, 1), (F.CHT_NODE_PLACE_ENGINE, e), (F.CHT_NODE_PLACE_TWIN, pl.twin.getD i 31),
         (F.CHT_NODE_PLACE_STATE_LOC, (p.node i).loc), (F.CHT_NODE_PLACE_COST, (p.node i).cost)]
    | _, _ => []
  else if a = R.CHT_NODE_FINISH then
    [(F.CHT_NODE_FINISH_US, s.finishNow.getD i 0)]
  else []

/-- The live fields of the enclave's registers: the policy of the selected key slot. -/
def State.encLive (s : State) (a : Nat) : List (Fld × Nat) :=
  let k := storeGet keySlotDefault s.enc.slots (s.get F.ENC_SLOT_SEL_SLOT)
  if a = R.ENC_SLOT_INFO then [(F.ENC_SLOT_INFO_TYPE, k.ty), (F.ENC_SLOT_INFO_OPS, k.ops)]
  else if a = R.ENC_SLOT_PMASK then [(F.ENC_SLOT_PMASK_PMASK, k.pmask)]
  else []

/-- The bits of FLT_FAULT (R506). -/
def State.faults (s : State) : List (Fld × Nat) :=
  [(F.FLT_FAULT_UNRAVELLED, b2n (bits (s.rd R.ENC_TAMP_STAT).toNat 6 0 != 0 || s.enc.aon != 0)),
   (F.FLT_FAULT_LINK_LOST, b2n ((List.range 4).any fun b => !s.on (F.LDC_B_STAT_LINK_OK b))),
   (F.FLT_FAULT_CAST_OFF, b2n ((List.range 4).any fun b => s.on (F.LDC_B_STAT_CAST_OFF b))),
   (F.FLT_FAULT_XTAL, b2n (!s.on F.TIM_STAT_XTAL_OK)),
   (F.FLT_FAULT_FUNC_DOWN, b2n (s.get F.FLT_RESTART_STAT_FUNC != 0))]

/-- FAULT_N is driven low (R506). -/
def State.faultLow (s : State) : Bool :=
  s.get F.DEV_STAT_STATE != 0 || s.on F.FLT_FAULT_THERM_CRIT ||
    s.faults.any fun f => f.2 == 1 && bitOf (s.rd R.FLT_FAULT_MASK).toNat f.1.lo

/-! The media clock (R208, R215). -/

/-- A nanosecond, and the 1,000,000 ns of 24,576 periods, in the media clock's units. -/
def mediaNs : Nat := 2 ^ 24 * 1000000
def mediaTurn : Nat := 1000000 * mediaNs

/-- The media clock a lattice tick later: it counts as TIM_NOW does, and slews toward its tie at `slew` ppm. -/
def MediaClk.tick (m : MediaClk) (inc slew : Nat) : MediaClk :=
  let d : Int := match m.off with
    | none => 0
    | some e => if e < 0 then min (-e) (inc * slew : Nat) else -(min e (inc * slew : Nat))
  ⟨((m.pos + inc * 1000000 : Nat) + d).toNat % mediaTurn, m.off.map (· + d)⟩

/-- How far the media clock runs ahead of its tie, in ns, toward 0. -/
def State.mediaPhase (s : State) : Int := (s.tim.media.off.getD 0).tdiv mediaNs

/-- The media clock is within 20 ns of its tie. -/
def State.mediaTied (s : State) : Bool :=
  match s.tim.media.off with
  | some e => decide (e.natAbs ≤ 20 * mediaNs)
  | none => false

/-- Periods of the media clock completed in the present 1,000,000 ns. -/
def State.mediaPeriods (s : State) : Nat := s.tim.media.pos * 24576 / mediaTurn

/-- The offset of the elastic buffers, in samples: how far the media clock has moved since they were reset, and 0 within its tie
(R215; its sign is a DESIGN CHOICE, log 95). -/
def State.elastic (s : State) : Int := if s.mediaTied then 0 else ((s.mediaPhase - s.aud.elBase) * 48).tdiv 1000000

/-! TIM_NOW at a moment past (R194, R195, R207). -/

/-- TIM_NOW at the lattice tick nearest crystal time `t`. -/
def State.timAt (s : State) (t : Nat) : Nat :=
  let t := (t + 2) / 4 * 4
  match s.tim.marks.find? fun m => decide (m.at_ ≤ t) with
  | some m => (m.now + (t - m.at_) / 4 * m.inc) / 2 ^ 24 % 2 ^ 32
  | none => ofInt 32 (((s.timNow * 2 ^ 24 + s.tim.frac : Nat) - ((s.now - t) / 4 * s.tim.inc : Nat) : Int) / 2 ^ 24)

/-- The marks after one more; those are kept that tell of the last second. -/
def addMark (m : TimMark) (l : List TimMark) : List TimMark :=
  let x := l.span fun y => decide (m.at_ ≤ y.at_ + 1000000000)
  m :: (x.1 ++ x.2.take 1)

/-- `d` ns of crystal time on the clock of the always-on domain: its RC oscillator is off by up to 3 %, by an amount that the
spec leaves open (R308; DESIGN CHOICE, log 94). -/
def State.rcNs (s : State) (d : Nat) : Nat := d * (970000 + Config.freeFn 21 s.wak.vaonAt % 60001) / 1000000

/-- Seconds of the always-on domain since VAON rose, at crystal time `t` (R308). -/
def State.aonAt (s : State) (t : Nat) : Nat := s.rcNs (t - s.wak.vaonAt) / 1000000000 % 2 ^ 32

/-- Nanoseconds of the always-on domain since VAON rose. -/
def State.aonNs (s : State) : Nat := s.rcNs (s.now - s.wak.vaonAt)

/-- Seconds of the always-on domain now. -/
def State.aonS (s : State) : Nat := s.aonAt s.now

/-- A TX_SEND of round `n` waits at HEAD for a place in its queue (R271). -/
def State.headLive (s : State) (n : Nat) : List (Fld × Nat) :=
  match s.rnd.descs.find? fun d =>
      d.round == n && d.started && d.fin.isNone && !d.running && u8 d.raw 2 == 9 && u16 d.raw 0 == 1 &&
        decide (32 ≤ ((s.ctl (u8 d.raw 20)).txq.getD (u8 d.raw 21) []).length) with
  | some d => [(F.RND_R_STAT_HEAD n, d.slot)]
  | none => []

/-- Port `p` lacks the feature whose register lies at offset `off` of its block: SP has no flow control, preemption,
gates or shapers; wake patterns and magic packets belong to the G ports. -/
def prtLacks (p off : Nat) : Bool :=
  (p == 20 && decide (0x20 ≤ off) && decide (off < 0x60)) ||
    ((decide (p < 4) || p == 20) && decide (0x100 ≤ off) && decide (off < 0x204))

/-- A register of a feature that its port lacks reads 0. -/
def State.prtLive (a : Nat) : List (Fld × Nat) :=
  let p := (a - R.PRT_EVT 0) / 0x800
  if p ≤ 20 && prtLacks p (a % 0x800) then [(⟨a, 31, 0⟩, 0)] else []

/-- The fields of the register at `a` that show live state, with their values. -/
def State.live (s : State) (a : Nat) : List (Fld × Nat) :=
  match a / 0x10000 with
  | 0 => if a = R.DEV_STAT then [(F.DEV_STAT_FAULT, b2n s.faultLow)] else []
  | 3 =>
    if a = R.RND_INFLIGHT then [(F.RND_INFLIGHT_COUNT, s.rnd.descs.length)]
    else if R.RND_R_STAT 0 ≤ a ∧ a ≤ R.RND_R_STAT 255 ∧ a % 0x20 = 0x1C then s.headLive ((a - R.RND_R_STAT 0) / 0x20)
    else []
  | 4 => s.swcLive a
  | 5 => State.prtLive a
  | 7 => if a = R.AUD_ELASTIC then [(F.AUD_ELASTIC_OFFSET, ofInt 8 s.elastic)] else []
  | 8 => s.chtLive a
  | 9 => if a % 0x10000 < 0xC000 then s.canLive (a % 0x10000 / 0x1000) a else []
  | 0xA => s.gwyLive a
  | 0xB => if a = R.WAK_AON_S then [(F.WAK_AON_S_SECONDS, s.aonS)] else []
  | 0xF => s.corLive a
  | 0x11 =>
    if 0x110100 ≤ a ∧ a < 0x110500 ∧ a % 0x10 = 8 then
      let q := (a - 0x110100) / 0x10
      let n := (s.qItems q).length
      [(F.QUE_Q_STAT_EMPTY q, b2n (n == 0)), (F.QUE_Q_STAT_FILL q, n),
       (F.QUE_Q_STAT_WAITERS q, min 255 (s.que.held.filter (·.q == q)).length)]
    else []
  | 0x13 => s.encLive a
  | 0x14 =>
    if a = R.BOO_TRIAL_LEFT then
      [(F.BOO_TRIAL_LEFT_S, match s.boo.trial with | some t => ceilDiv (t - s.now) 1000000000 | none => 0)]
    else []
  | 0x16 =>
    if a = R.FLT_FAULT then s.faults
    else if a = R.FLT_FAULT_MASK then [(⟨R.FLT_FAULT_MASK, 0, 0⟩, 1)]
    else []
  | _ => []

/-- The value a read of the register at `a` returns, where the read has no effect. -/
def State.view (s : State) (a : Nat) : Nat := overlay (s.rd a).toNat (s.live a)

/-- The last error report that the register at `a` shows is of the enclave's private memory. -/
def State.enclaveSees (s : State) (a : Nat) : Bool :=
  ((a == R.MEM_CE_ADDR_LO || a == R.MEM_CE_ADDR_HI) && kindAt s.fab.ceAddr == 5) ||
    ((a == R.MEM_UE_ADDR_LO || a == R.MEM_UE_ADDR_HI) && kindAt s.fab.ueAddr == 5)

/-- What the enclave reads there: the address itself (R72; DEDUCED, log 101). -/
def State.enclaveView (s : State) (a : Nat) : Nat :=
  if a = R.MEM_CE_ADDR_LO then s.fab.ceAddr % 2 ^ 32
  else if a = R.MEM_CE_ADDR_HI then s.fab.ceAddr / 2 ^ 32
  else if a = R.MEM_UE_ADDR_LO then s.fab.ueAddr % 2 ^ 32
  else s.fab.ueAddr / 2 ^ 32

/-- A register read by partition `pid`, with its effect where it has one: a counter's low register (R78), SEM_ACQn
(R412), and a mailbox that refuses it (R401). -/
def State.regRead (s : State) (pid a : Nat) : State × Nat :=
  if s.mbRefused pid a then (s.mbDeny, 0)
  else if isCounter a then s.readCounter a
  else if R.SEM_ACQ 0 ≤ a ∧ a < R.SEM_ACQ 64 ∧ a % 4 = 0 then s.semAcquire pid ((a - R.SEM_ACQ 0) / 4)
  else if pid = 1 ∧ s.enclaveSees a then (s, s.enclaveView a)
  else (s, s.view a)

end Sys2Proof.Machine
end

