-- ==== Sys2Proof/Machine/Operands.lean ====
section
/-! DEFINITION. The operand forms: the command descriptor's header (R13), the status codes (R16), and which opcodes each
function accepts, which of them read a source buffer and which are stitched. -/
namespace Sys2Proof.Machine

/-! Shared completion status codes (R16). -/
def St.OK : Nat := 0x0000
def St.RETRY : Nat := 0x0001
def St.CANCELLED : Nat := 0x0002
def St.TOO_LATE : Nat := 0x0003
def St.ENERGY : Nat := 0x0004
def St.BADARG : Nat := 0x0005
def St.NOTPERMIT : Nat := 0x0006
def St.FUNC_DOWN : Nat := 0x0007
def St.TIMEOUT : Nat := 0x0008
def St.MEDIA : Nat := 0x0009
def St.TERM : Nat := 0x000A
def St.LOST : Nat := 0x000B
def St.PEER : Nat := 0x000C
def St.TORN : Nat := 0x000D
def St.IN_STITCH : Nat := 0x000E
def St.RETRY_EXHAUSTED : Nat := 0x000F
def St.ABORTED_BY_WAKE : Nat := 0x0010
/-- The round engine's own status (R109). -/
def St.HOST_ABORT : Nat := 0x0400

/-! The descriptor header (R13). -/
def Desc.opcode (d : Desc) : Nat := u16 d.raw 0
def Desc.func (d : Desc) : Nat := u8 d.raw 2
def Desc.flags (d : Desc) : Nat := u8 d.raw 3
def Desc.noRunahead (d : Desc) : Bool := bitOf d.flags 0
def Desc.fence (d : Desc) : Bool := bitOf d.flags 1
def Desc.interrupt (d : Desc) : Bool := bitOf d.flags 2
def Desc.stitchReport (d : Desc) : Bool := bitOf d.flags 3
def Desc.tag (d : Desc) : Nat := u32 d.raw 4
def Desc.addr (d : Desc) : Nat := u48 d.raw 8
def Desc.len (d : Desc) : Nat := u32 d.raw 16
/-- The source buffer as fetched; empty where none was. -/
def Desc.buf (d : Desc) : Bytes := d.src.getD []

/-- Bytes 8 to 19 of the descriptor are 0. -/
def Desc.noBuf (d : Desc) : Bool := allZero d.raw 8 20

/-- What the round engine knows of an opcode. -/
structure OpInfo where
  func : Nat
  op : Nat
  /-- it reads its buffer -/
  source : Bool
  stitched : Bool
  /-- the runs of bytes 20 to 63 that it uses, from the first to the one after the last -/
  used : List (Nat × Nat)
  deriving DecidableEq, Repr

/-- The opcodes of every function, from the opcode tables of spec/02 to spec/19. -/
def opTable : List OpInfo := [
  ⟨0x02, 1, false, true, []⟩, ⟨0x02, 2, false, true, [(20, 24)]⟩, ⟨0x04, 1, false, false, [(20, 33)]⟩,
  ⟨0x04, 2, false, false, [(20, 28)]⟩, ⟨0x04, 3, false, false, [(20, 28)]⟩, ⟨0x04, 4, false, true, [(20, 24)]⟩,
  ⟨0x04, 5, false, false, [(20, 32)]⟩, ⟨0x04, 6, false, false, [(20, 38)]⟩, ⟨0x04, 7, false, false, [(20, 22)]⟩,
  ⟨0x04, 8, true, false, [(20, 23), (24, 26)]⟩, ⟨0x04, 9, false, false, []⟩,
  ⟨0x05, 1, true, false, [(20, 21), (22, 36)]⟩, ⟨0x05, 2, false, false, [(20, 32)]⟩,
  ⟨0x05, 3, true, false, [(20, 21), (22, 36)]⟩, ⟨0x05, 4, false, false, [(20, 22), (24, 41)]⟩,
  ⟨0x05, 5, false, false, [(20, 22)]⟩, ⟨0x05, 6, true, false, []⟩, ⟨0x05, 7, false, false, []⟩,
  ⟨0x06, 1, false, false, [(20, 21), (24, 32)]⟩, ⟨0x06, 2, false, false, [(20, 21)]⟩,
  ⟨0x06, 3, false, false, [(20, 21), (22, 24)]⟩, ⟨0x07, 1, true, true, []⟩, ⟨0x07, 2, false, false, [(20, 56)]⟩,
  ⟨0x07, 3, false, false, [(20, 22)]⟩, ⟨0x07, 4, true, true, [(20, 21)]⟩,
  ⟨0x07, 5, false, false, [(20, 27), (28, 49), (50, 52)]⟩, ⟨0x08, 1, false, false, []⟩,
  ⟨0x08, 2, true, true, [(20, 22)]⟩, ⟨0x08, 3, true, false, []⟩, ⟨0x09, 1, true, false, [(20, 31), (32, 36)]⟩,
  ⟨0x09, 2, false, false, [(20, 22)]⟩, ⟨0x09, 3, true, false, [(20, 21), (22, 30)]⟩,
  ⟨0x0A, 1, true, false, [(20, 22)]⟩, ⟨0x0A, 2, true, true, [(20, 24)]⟩, ⟨0x0A, 3, true, false, [(20, 26)]⟩,
  ⟨0x0A, 4, true, false, [(20, 26)]⟩, ⟨0x0A, 5, false, false, [(20, 22), (24, 28)]⟩,
  ⟨0x0A, 6, false, false, [(20, 24)]⟩, ⟨0x0A, 7, false, false, [(20, 22)]⟩, ⟨0x0B, 1, false, false, [(20, 21)]⟩,
  ⟨0x0C, 1, false, false, [(20, 28)]⟩, ⟨0x0C, 2, true, false, [(20, 21)]⟩, ⟨0x0C, 3, false, false, [(20, 22)]⟩,
  ⟨0x0C, 4, false, false, [(20, 21)]⟩, ⟨0x0C, 5, false, true, [(20, 21)]⟩, ⟨0x0C, 6, false, true, [(20, 24)]⟩,
  ⟨0x0D, 1, true, false, [(20, 21)]⟩, ⟨0x0D, 2, false, false, [(20, 21)]⟩, ⟨0x0D, 3, false, false, []⟩,
  ⟨0x0E, 1, false, false, [(20, 21), (24, 32)]⟩, ⟨0x0F, 1, true, false, [(20, 21), (22, 24)]⟩,
  ⟨0x0F, 2, false, false, [(20, 21)]⟩, ⟨0x13, 1, false, false, [(20, 23), (24, 28)]⟩,
  ⟨0x13, 2, true, true, [(20, 29)]⟩, ⟨0x13, 3, true, false, [(20, 28)]⟩, ⟨0x13, 4, false, false, [(20, 21)]⟩,
  ⟨0x13, 5, false, false, [(20, 21), (24, 28)]⟩, ⟨0x13, 6, true, true, [(20, 21), (24, 28)]⟩,
  ⟨0x13, 7, true, true, [(20, 21)]⟩, ⟨0x13, 8, true, false, [(20, 22), (24, 28)]⟩,
  ⟨0x13, 9, true, false, [(20, 21), (24, 32)]⟩, ⟨0x13, 10, true, false, [(20, 21), (24, 32)]⟩,
  ⟨0x13, 11, true, true, [(20, 21), (24, 28)]⟩, ⟨0x13, 12, false, false, []⟩, ⟨0x13, 13, true, false, []⟩,
  ⟨0x13, 14, true, true, [(24, 28)]⟩, ⟨0x13, 15, true, false, []⟩, ⟨0x13, 16, true, true, [(20, 21)]⟩,
  ⟨0x14, 1, false, true, []⟩, ⟨0x14, 2, true, true, []⟩, ⟨0x14, 3, false, true, [(20, 21)]⟩,
  ⟨0x15, 1, false, false, []⟩, ⟨0x16, 1, false, false, [(20, 21)]⟩, ⟨0x16, 2, false, false, []⟩,
  ⟨0x16, 3, false, false, []⟩]

/-- The row of an opcode; none where the function does not define it (R14). -/
def opInfo (func op : Nat) : Option OpInfo := opTable.find? fun o => o.func == func && o.op == op

/-- The opcode's operation reads the descriptor's buffer. -/
def Desc.readsBuf (d : Desc) : Bool := match opInfo d.func d.opcode with | some o => o.source | none => false

/-- The opcode is stitched. -/
def Desc.isStitched (d : Desc) : Bool := match opInfo d.func d.opcode with | some o => o.stitched | none => false

/-- A byte from 20 to 63 that the opcode does not use is not 0 (R13). -/
def Desc.strayBytes (d : Desc) (o : OpInfo) : Bool :=
  (List.range 44).any fun i => u8 d.raw (20 + i) != 0 && !o.used.any fun r => decide (r.1 ≤ 20 + i) && decide (20 + i < r.2)

/-- The descriptor is malformed in its header: its function differs from the round's, a reserved flag is set, its buffer
address has more than 48 bits, its opcode is undefined (R14), or an unused byte is not 0 (R13; DEDUCED, log 47). -/
def State.badHeader (s : State) (d : Desc) : Bool :=
  d.func != s.get (F.RND_R_ASSIGN_FUNC d.round) || decide (16 ≤ d.flags) || u16 d.raw 14 != 0 ||
  (match opInfo d.func d.opcode with
   | some o => d.strayBytes o
   | none => true)

end Sys2Proof.Machine
end

