-- ==== Sys2Proof/Machine/Access.lean ====
section
/-! DEFINITION. Transactions on the fabric, whoever makes them: tags (R33, R34), the lock of emulated atomic operations
(R110), reads of every target (R45, R60, R70, R107 to R109), and the writes that the round engine and the fixed-function
masters make. -/
namespace Sys2Proof.Machine

/-! Tags. -/

/-- The masters for which tags 0 to 7 are kept. -/
def keptTags (m : Master) : Bool := m == .mgmt || m == .enclave

/-- The tags that master `m` holds. -/
def State.tagsOf (s : State) (m : Master) : Nat := (s.fab.tags.filter fun t => masterOf t.acc.src == some m).length

/-- A tag that master `m` can take. -/
def State.freeTag (s : State) (m : Master) : Option Nat :=
  if 64 ≤ s.tagsOf m then none
  else (List.range 256).find? fun t => (keptTags m || decide (8 ≤ t)) && !s.fab.tags.any (·.tag == t)

/-- The masters with a read that waits for a tag. -/
def State.waitingMasters (s : State) : List Master := s.fab.waiting.filterMap fun a => masterOf a.1.src

/-- A waiting read could take tag `t`. -/
def State.wanted (s : State) (t : Nat) : Bool :=
  s.waitingMasters.any fun m => s.tagsOf m < 64 && (keptTags m || decide (8 ≤ t))

/-- The tag that a read of master `m` takes as it is issued; none where it must wait for one (R34). -/
def State.tagNow (s : State) (m : Master) : Option Nat :=
  match s.freeTag m with
  | some t => if s.wanted t || s.waitingMasters.contains m then none else some t
  | none => none

/-- A read keeps its tag until it is answered. -/
def State.useTag (s : State) (tag pid : Nat) (a : Access) (emulate : Bool) : State :=
  s.setFab { s.fab with tags := s.fab.tags ++ [⟨tag, a, pid, s.now, emulate, []⟩] }

def State.dropTag (s : State) (tag : Nat) : State :=
  s.setFab { s.fab with tags := s.fab.tags.filter fun t => t.tag != tag }

/-- A read waits for a tag with the partition ID it was issued with. -/
def State.waitTag (s : State) (a : Access) (pid : Nat) : State :=
  s.setFab { s.fab with waiting := s.fab.waiting ++ [(a, pid)] }

/-- An item that has just had its turn goes to the end of the order. -/
def lastIn {α : Type} [DecidableEq α] (x : α) (l : List α) : List α := l.filter (· != x) ++ [x]

/-- `x` had its turn before `y`: what has had none comes first. -/
def turnBefore {α : Type} [DecidableEq α] (l : List α) (x y : α) : Bool :=
  l.contains y && (!l.contains x || decide (l.idxOf x < l.idxOf y))

/-- Writes of master `m` issued and not yet acknowledged (R33): pushes that are held, and writes to the partner. -/
def State.unacked (s : State) (src : Source) : Nat :=
  (s.que.held.filter fun h => sameMaster h.src src).length +
    (s.pai.outs.filter fun o => o.acc.write && sameMaster o.acc.src src).length +
    (s.fab.locked.filter fun a => a.1.write && sameMaster a.1.src src).length

/-! The host window. -/

/-- The bytes lie in a location that an emulated atomic operation has locked (R110). -/
def State.hostLocked (s : State) (a n : Nat) : Bool :=
  s.fab.tags.any fun t => t.emulate && decide (t.acc.addr < a + n) && decide (a < t.acc.addr + t.acc.size)

/-- An access waits for the lock. -/
def State.waitLock (s : State) (a : Access) (pid tag : Nat) : State :=
  s.setFab { s.fab with locked := s.fab.locked ++ [(a, pid, tag)] }

/-- The PCIe address of a host-window address (R107). -/
def State.pcieAddr (s : State) (a : Nat) : Nat :=
  (s.get F.RND_HWIN_LO_ADDR * 2 ^ 12 + s.get F.RND_HWIN_HI_ADDR * 2 ^ 32 + (a - 0x400000000000)) % 2 ^ 64

/-- `n` bytes from `a` cut at 4 KiB boundaries and into pieces of at most `m` bytes (R108); `fuel` bounds the pieces. -/
def cutHost (m : Nat) : Nat → Nat → Nat → List (Nat × Nat)
  | 0, _, _ => []
  | fuel + 1, a, n =>
    let k := min m (4096 - a % 4096)
    if n ≤ k then [(a, n)] else (a, k) :: cutHost m fuel (a + k) (n - k)

/-- Posted writes of `b` at host-window address `a`, cut at the Max Payload Size. -/
def State.hostWrites (s : State) (a : Nat) (b : Bytes) : State :=
  forEach (cutHost (128 * 2 ^ s.get F.RND_LINK_MPS) (b.length / 64 + 2) a b.length)
    (fun c t => t.emit (.hostWrite (t.pcieAddr c.1) (slice b (c.1 - a) c.2))) s

/-- Read requests of an access leave on the link, cut at the Max Read Request Size. -/
def State.hostReads (s : State) (tag a n : Nat) : State :=
  forEach (cutHost (128 * 2 ^ s.get F.RND_LINK_MRRS) (n / 64 + 2) a n)
    (fun c t => t.emit (.hostRead tag (t.pcieAddr c.1) c.2)) s

/-! Reads. -/

/-- Register words read from set-up space, lowest address first, with their effects; the fraction of a word at either
end is cut from the word's value. -/
def State.setupWords (pid : Nat) : Nat → Nat → State → State × Bytes
  | 0, _, s => (s, [])
  | n + 1, a, s =>
    let r := s.regRead pid a
    let t := State.setupWords pid n (a + 4) r.1
    (t.1, leBytes 4 r.2 ++ t.2)

/-- `n` bytes of set-up space from offset `a`. -/
def State.setupBytes (s : State) (pid a n : Nat) : State × Bytes :=
  let first := a / 4 * 4
  let r := State.setupWords pid (ceilDiv (a + n - first) 4) first s
  (r.1, slice r.2 (a - first) n)

/-- Queue `q` holds an item that a pop or a peek would read. -/
def State.qReads (s : State) (q : Nat) : Bool := s.on (F.QUE_Q_CFG_EN q) && !(s.qItems q).isEmpty

/-- The head item of queue `q` is read from the pool (R64): its errors are reported, and an uncorrectable one ends the
read with MEDIA and leaves the item in place (DESIGN CHOICE, log 90). -/
def State.qHeadRead (s : State) (q pid : Nat) (k : State → State × Nat) : State × Nat × Nat :=
  if !s.qReads q then let r := k s; (r.1, St.OK, r.2)
  else
    let t := s.eccRead (poolAddr q) 8 pid false
    if s.eccBad (poolAddr q) 8 then (t, St.MEDIA, 0) else let r := k t; (r.1, St.OK, r.2)

/-- A 64-bit read of a queue window (R407), with its status and value. -/
def State.queueRead (s : State) (q off pid : Nat) : State × Nat × Nat :=
  if off = 8 then s.qHeadRead q pid fun t => t.qPop q
  else if off = 0x10 then s.qHeadRead q pid fun t => (t, t.qPeek q)
  else (s, St.OK, if off = 0x18 then s.qFill q else 0)

/-- A 64-bit read of a queue window with its answer. -/
def State.queueAnswer (s : State) (q off pid : Nat) : State × Nat × Bytes :=
  let r := s.queueRead q off pid
  (r.1, r.2.1, leBytes 8 r.2.2)

/-- An access to offsets 0x000 to 0x01F of a queue window that is not an aligned 64-bit access (R407), or a write to
one of its read offsets. -/
def queueRefused (a n : Nat) (write : Bool) : Bool :=
  let off := a % 0x1000
  decide (off < 0x20) && (n != 8 || a % 8 != 0 || (write && off != 0))

/-- A non-posted request that failed, or a write that could not be issued (R109). -/
def State.hostErr (s : State) : State := (s.count C.RND_HOSTERR).raise F.RND_EVT_HOST_ERR

/-- The sector or page on which a flash operation works. -/
def FlashOp.addr (o : FlashOp) : Nat := 0x300000000 + o.flash * 0x10000000 + o.off
def FlashOp.size (o : FlashOp) : Nat := if o.erase then 65536 else o.data.length

/-- The flash operations under way: the first of each flash. -/
def State.flashBusy (s : State) : List FlashOp :=
  [0, 1].filterMap fun w => s.boo.ops.find? fun o => o.flash == w

/-- The bytes lie in a 64 KiB sector of a flash that is being erased or programmed (R62). -/
def State.flashHeld (s : State) (a n : Nat) : Bool :=
  s.flashBusy.any fun o =>
    let b := o.addr / 65536 * 65536
    decide (a < b + 65536) && decide (b < a + n)

/-- The answer of an access that fails with `status`; a core's access fault shows as one (DESIGN CHOICE, log 55). -/
def errAnswer (a : Access) (status : Nat) : Nat × Bytes := (status, zeros (if a.write then 0 else a.size))

/-- A read that is mapped and permitted, under its tag: its answer, or none where that comes later. -/
def State.readTarget (s : State) (a : Access) (pid tag : Nat) : State × Option (Nat × Bytes) :=
  match regionOf a.addr with
  | some (.setup, lo, _) => let r := s.setupBytes pid (a.addr - lo) a.size; (r.1, some (St.OK, r.2))
  | some (.queues, lo, _) =>
    if queueRefused a.addr a.size false then (s.deny a.src pid 21 false a.addr, some (errAnswer a St.NOTPERMIT))
    else if s.pushHeld a.src then (s.useTag tag pid a false, none)
    else if a.size = 8 ∧ a.addr % 8 = 0 then
      let r := s.queueAnswer ((a.addr - lo) / 0x1000) (a.addr % 0x1000) pid
      (r.1, some r.2)
    else (s, some (St.OK, zeros a.size))
  | some (.host, _, _) =>
    if s.hostLocked a.addr a.size then ((s.useTag tag pid a false).waitLock a pid tag, none)
    else if s.linkIssues then ((s.useTag tag pid a false).hostReads tag a.addr a.size, none)
    else (s.hostErr, some (errAnswer a St.HOST_ABORT))
  | some (.partner, _, _) => ((s.useTag tag pid a false).bridge a pid tag, none)
  | some (.flash _, _, _) =>
    if s.flashHeld a.addr a.size then (s.useTag tag pid a false, none) else (s, some (St.OK, s.readBytes a.addr a.size))
  | _ =>
    (s.eccRead a.addr a.size pid false,
      some (if s.eccBad a.addr a.size then errAnswer a St.MEDIA else (St.OK, s.readBytes a.addr a.size)))

/-- A read is checked and performed with tag `tag` (R43, R45, R60). -/
def State.readChecked (s : State) (a : Access) (pid tag : Nat) : State × Option (Nat × Bytes) :=
  if !s.mapped false a.addr a.size then (s.unmapped, some (errAnswer a St.BADARG))
  else
    match s.denied pid false a.addr a.size with
    | some x => (s.deny a.src pid (guardAt x) false x, some (errAnswer a St.NOTPERMIT))
    | none => s.readTarget a pid tag

/-! Writes of the round engine and the fixed-function masters. -/

/-- Words written to set-up space, lowest address first. Each has the effect of a register write (R10): it is performed
before the round engine's next read and before the descriptor's completion is written (R37, R90). -/
def State.setupWrite (pid : Nat) : State → Nat → Bytes → State
  | s, a, b0 :: b1 :: b2 :: b3 :: r =>
    State.setupWrite pid (s.setFab { s.fab with setups := s.fab.setups ++ [(pid, a, leVal [b0, b1, b2, b3])] }) (a + 4) r
  | s, _, _ => s

/-- A write that the round engine or another master of the module makes, checked and performed, with its status. -/
def State.fabWrite (s : State) (src : Source) (a : Nat) (b : Bytes) : State × Nat :=
  let n := b.length
  let pid := s.pidOf src
  if !s.mapped true a n then (s.unmapped, St.BADARG)
  else
    match s.denied pid true a n with
    | some da => (s.deny src pid (guardAt da) true da, St.NOTPERMIT)
    | none =>
      match regionOf a with
      | some (.setup, lo, _) => (if a % 4 = 0 then State.setupWrite pid s (a - lo) b else s, St.OK)
      | some (.queues, lo, _) =>
        if queueRefused a n true then (s.deny src pid 21 true a, St.NOTPERMIT)
        else if a % 0x1000 = 0 then (s.qPush src ((a - lo) / 0x1000) (leVal b), St.OK)
        else (s, St.OK)
      | some (.host, _, _) =>
        if s.hostLocked a n then (s.waitLock ⟨src, a, n, true, b, none, []⟩ pid 256, St.OK)
        else if s.linkIssues then (s.hostWrites a b, St.OK)
        else (s.hostErr, St.HOST_ABORT)
      | some (.partner, _, _) => (s.bridge ⟨src, a, n, true, b, none, []⟩ pid 256, St.OK)
      | _ =>
        if s.eccTorn a n then (s.eccRefuse a n pid, St.MEDIA)
        else ((s.eccWrite a n pid).writeBytes a b, St.OK)

end Sys2Proof.Machine
end

