-- ==== Sys2Proof/Machine/Rounds.lean ====
section
/-! DEFINITION. Rounds: their indices, run-ahead, frogging, the start of descriptors, stitches, final completions and
interrupt moderation (R84 to R106, R531). -/
namespace Sys2Proof.Machine

/-- Entries of round `n` (R84). -/
def State.rSize (s : State) (n : Nat) : Nat := 2 ^ s.get (F.RND_R_CTL_SIZE n)
def State.rHead (s : State) (n : Nat) : Nat := s.get (F.RND_R_STAT_HEAD n)
def State.rTail (s : State) (n : Nat) : Nat := s.get (F.RND_DB_CMD_INDEX n)
def State.rCplIdx (s : State) (n : Nat) : Nat := s.get (F.RND_R_STAT_CPL_IDX n)
def State.rCplHead (s : State) (n : Nat) : Nat := s.get (F.RND_DB_CPL_INDEX n)
def State.rOwner (s : State) (n : Nat) : Nat := s.get (F.RND_R_ASSIGN_OWNER n)
def State.rFunc (s : State) (n : Nat) : Nat := s.get (F.RND_R_ASSIGN_FUNC n)
def State.rPrio (s : State) (n : Nat) : Nat := s.get (F.RND_R_ASSIGN_PRIO n)
def State.rEn (s : State) (n : Nat) : Bool := s.on (F.RND_R_CTL_EN n)
def State.rRun (s : State) (n : Nat) : Bool := s.on (F.RND_R_STAT_RUN n)

/-- The fabric address of round `n`'s command round, and of its completion round. -/
def State.cmdBase (s : State) (n : Nat) : Nat :=
  s.get (F.RND_R_CMD_BASE_LO_ADDR n) * 2 ^ 6 + s.get (F.RND_R_CMD_BASE_HI_ADDR n) * 2 ^ 32
def State.cplBase (s : State) (n : Nat) : Nat :=
  s.get (F.RND_R_CPL_BASE_LO_ADDR n) * 2 ^ 4 + s.get (F.RND_R_CPL_BASE_HI_ADDR n) * 2 ^ 32

/-- A partition may change round `n`, ring its doorbells and cancel its descriptors (R85). -/
def State.rMay (s : State) (pid n : Nat) : Bool := pid == 0 || (pid == s.rOwner n && !s.partOff pid)

/-- The two descriptors are the same one. -/
def Desc.same (d e : Desc) : Bool := d.round == e.round && d.slot == e.slot && d.started == e.started

/-- The state with a descriptor in flight replaced by its image. -/
def State.updDesc (s : State) (d : Desc) (f : Desc → Desc) : State :=
  s.setDescs (updFirst (fun e => e.same d) f s.rnd.descs)

/-- The descriptors of round `n` in flight. -/
def State.started (s : State) (n : Nat) : List Desc := s.rnd.descs.filter fun d => d.round == n && d.started

/-- The descriptor of slot `i` of round `n` that has been fetched, or is being fetched, and has not started. -/
def State.aheadAt (s : State) (n i : Nat) : Option Desc :=
  s.rnd.descs.find? fun d => d.round == n && !d.started && d.slot == i

/-- The descriptors of round `n` fetched and not started, in slot order from HEAD. -/
def State.ahead (s : State) (n : Nat) : List Desc :=
  (List.range (min 64 (s.rSize n))).filterMap fun k => s.aheadAt n ((s.rHead n + k) % s.rSize n)

/-- A new entry for the descriptor of a slot. -/
def Desc.fresh (n slot : Nat) (raw : Bytes) : Desc :=
  ⟨n, slot, raw, none, none, false, false, [], false, false, 0, false, false, false, 0, 0, 0, none⟩

/-! Effect windows (R74, R75). -/

def overlaps (a n b m : Nat) : Bool := decide (a < b + m) && decide (b < a + n)

/-- Base and end (the address after the last) of declared effect range `k`. -/
def State.effBase (s : State) (k : Nat) : Nat :=
  s.get (F.JER_EFF_BASE_LO_ADDR k) * 2 ^ 12 + s.get (F.JER_EFF_BASE_HI_ADDR k) * 2 ^ 32
def State.effEnd (s : State) (k : Nat) : Nat :=
  s.get (F.JER_EFF_LIMIT_LO_ADDR k) * 2 ^ 12 + s.get (F.JER_EFF_LIMIT_HI_ADDR k) * 2 ^ 32 + 4096

/-- Effect range `k` is valid: both ends in the host window, the limit not below the base (R75). -/
def State.effValid (s : State) (k : Nat) : Bool :=
  let b := s.effBase k
  let e := s.effEnd k
  decide (0x400000000000 ≤ b) && decide (b < 0x500000000000) && decide (0x400000000000 < e) &&
    decide (e ≤ 0x500000000000) && decide (b < e)

def State.effInForce (s : State) (k : Nat) : Bool := s.on (F.JER_EFF_BASE_LO_EN k) && s.effValid k

/-- `n` bytes from `a` touch a declared effect range in force. -/
def State.touchesEff (s : State) (a n : Nat) : Bool :=
  (List.range 8).any fun k => s.effInForce k && overlaps a n (s.effBase k) (s.effEnd k - s.effBase k)

/-- `n` bytes from `a` touch the command round of an enabled round other than `self` with RA_OFF set. -/
def State.touchesRaOff (s : State) (self a n : Nat) : Bool :=
  (List.range 256).any fun m =>
    m != self && s.rEn m && s.on (F.RND_R_CTL_RA_OFF m) && overlaps a n (s.cmdBase m) (s.rSize m * 64)

/-- `n` bytes from `a` touch the effect window of a set-up page. -/
def touchesPageWindow (a n : Nat) : Bool :=
  (List.range 32).any fun p => overlaps a n (0x20000F000 + p * 0x10000) 0x1000

/-- `n` bytes from `a` touch an effect window. -/
def State.touchesEffect (s : State) (a n : Nat) : Bool :=
  touchesPageWindow a n || s.touchesEff a n || s.touchesRaOff 256 a n

/-- Run-ahead may fetch from the region at `a` (R58). -/
def raAllowed (a : Nat) : Bool :=
  match regionOf a with
  | some (.pbuf _, _, _) => false
  | some (.queues, _, _) => false
  | some (.enclave, _, _) => false
  | some (.partner, _, _) => false
  | some _ => true
  | none => false

/-- Bytes of run-ahead staging in use (R93). -/
def State.staged (s : State) : Nat :=
  ((s.rnd.descs.filter fun d => !d.started).map fun d => d.buf.length).sum

/-- The source buffer of a descriptor may be fetched ahead (R93, R95, R96). -/
def State.buffersAhead (s : State) (d : Desc) : Bool :=
  d.readsBuf && !d.noRunahead && !d.fence && decide (d.len ≤ 16384) && decide (0 < d.len) &&
    raAllowed d.addr && raAllowed (d.addr + (d.len - 1)) && !s.touchesEffect d.addr d.len

/-- Staging has room for `n` further bytes (R93). -/
def State.stagingRoom (s : State) (n : Nat) : Bool := decide (s.staged + n ≤ 1048576)

/-! The round engine's reads. -/

/-- The fabric address of slot `i` of round `n`. -/
def State.slotAddr (s : State) (n i : Nat) : Nat := s.cmdBase n + 64 * i

/-- The access by which the round engine reads for round `n`. -/
def engineRead (n a len : Nat) : Access := ⟨.round n, a, len, false, [], none, []⟩

/-- A read of the round engine: the state after it, the tag under which it is outstanding (256 while it waits for one),
and its status and data where they are there at once. -/
structure Issue where
  s : State
  wait : Option Nat
  ans : Option (Nat × Bytes)

/-- A read of the round engine under tag `t`. -/
def State.issueWith (s : State) (a : Access) (pid t : Nat) : Issue :=
  let r := s.readChecked a pid t
  ⟨r.1, if r.2.isSome then none else some t, r.2⟩

/-- A read of the round engine takes a tag, or waits for one. What a run-ahead read inside the module would count or raise
stays undone: it is made up for when the descriptor becomes the current one (R52). -/
def State.issue (s : State) (head : Bool) (n a len : Nat) : Issue :=
  let acc := engineRead n a len
  let pid := s.pidOf (.round n)
  match s.tagNow .roundEngine with
  | none => ⟨s.waitTag acc pid, some 256, none⟩
  | some t =>
    let r := s.issueWith acc pid t
    if r.ans.isSome && !head then { r with s := s } else r

/-- The start address of a buffer read ahead, where it has reached the host window (R99). -/
def hostRead (a : Nat) (wait : Option Nat) : List Nat :=
  match regionOf a, wait with
  | some (.host, _, _), some t => if t = 256 then [] else [a]
  | _, _ => []

/-! Fetching and starting. -/

/-- A cancel is held against a slot (R103). -/
def State.isHeld (s : State) (n i : Nat) : Bool := s.rnd.held.any fun p => p.1 == n && p.2 == i

def State.dropHeld (s : State) (n i : Nat) : State :=
  s.setRnd { s.rnd with held := s.rnd.held.filter fun p => !(p.1 == n && p.2 == i) }

/-- A function is restarting (R494). -/
def State.restarting (s : State) (f : Nat) : Bool := s.bit F.FLT_RESTART_STAT_FUNC f

/-- Descriptors placed in round `n` that have not started. -/
def State.work (s : State) (n : Nat) : Nat := (s.rTail n + s.rSize n - s.rHead n) % s.rSize n

/-- The slot run-ahead reads next: the first one within TAIL and within 64 of HEAD that is not fetched. -/
def State.nextAhead (s : State) (n : Nat) : Option Nat :=
  ((List.range (min 64 (s.work n))).map fun k => (s.rHead n + k) % s.rSize n).find? fun i => (s.aheadAt n i).isNone

/-- Round `n` may fetch and start descriptors: enabled, its function not restarting, its owner an ID that is stamped
(R41). -/
def State.mayRun (s : State) (n : Nat) : Bool := s.rEn n && !s.restarting (s.rFunc n) && decide (s.rOwner n < 19)

/-- Round `n` goes before round `m`: by priority, then in turn (R89). -/
def State.goesBefore (s : State) (n m : Nat) : Bool :=
  decide (s.rPrio m < s.rPrio n) || (s.rPrio m == s.rPrio n && !turnBefore s.rnd.turn m n)

/-- The rounds that wait for a place among the 1,024 descriptors in flight (R94). -/
def State.placeWaiters (s : State) : List Nat := s.rnd.waits.filter fun m => s.mayRun m && (s.nextAhead m).isSome

/-- Round `n` may take a place: one is free, and no round that waits for one goes before it. -/
def State.mayPlace (s : State) (n : Nat) : Bool :=
  decide (s.rnd.descs.length < 1024) && s.placeWaiters.all fun m => m == n || s.goesBefore n m

/-- Round `n` takes a place, or waits for one. -/
def State.takePlace (s : State) (n : Nat) (got : Bool) : State :=
  let l := s.rnd.waits.filter (· != n)
  s.setRnd { s.rnd with waits := if got then l else l ++ [n] }

/-- The run-ahead read of a source buffer is answered; one that fails leaves the buffer to be fetched at the start. -/
def State.aheadBuf (s : State) (d : Desc) (status : Nat) (b : Bytes) : State :=
  s.updDesc d fun e => { e with wait := none, src := if status = St.OK then some b else none }

/-- Run-ahead fetches the source buffer of descriptor `d`. -/
def State.bufferAhead (s : State) (d : Desc) : State :=
  let r := s.issue false d.round d.addr d.len
  let s := r.s.updDesc d fun e => { e with tried := true, wait := r.wait, hostReads := hostRead d.addr r.wait }
  match r.ans with
  | some x => s.aheadBuf d x.1 x.2
  | none => s

/-- Run-ahead goes on to the source buffer of descriptor `d` once that is read: nothing of one with a held cancel is
fetched (R103), and while staging has no room it pauses (R93). -/
def State.bufferNext (s : State) (d : Desc) : State :=
  if !d.raw.isEmpty && d.wait.isNone && !d.tried && !d.cancelled && s.buffersAhead d && s.stagingRoom d.len then
    s.bufferAhead d
  else s

/-- The run-ahead read of a descriptor is answered. One that fails leaves no trace, since the descriptor is read again at
HEAD (R531). -/
def State.aheadDesc (s : State) (d : Desc) (status : Nat) (b : Bytes) : State :=
  if status ≠ St.OK then s.setDescs (dropFirst (fun e => e.same d) s.rnd.descs)
  else
    let d' := { d with raw := b, wait := none, cancelled := d.cancelled || s.isHeld d.round d.slot }
    (s.updDesc d fun _ => d').bufferNext d'

/-- Run-ahead reads the descriptor in slot `i` of round `n`. -/
def State.descAhead (s : State) (n i : Nat) : State :=
  let r := s.issue false n (s.slotAddr n i) 64
  let d := { Desc.fresh n i [] with wait := r.wait }
  let s := r.s.setDescs (r.s.rnd.descs ++ [d])
  match r.ans with
  | some x => s.aheadDesc d x.1 x.2
  | none => s

/-- A descriptor whose source buffer run-ahead has still to fetch. -/
def State.bufferDue (s : State) (d : Desc) : Bool :=
  !d.raw.isEmpty && d.wait.isNone && !d.tried && !d.cancelled && s.buffersAhead d

/-- Run-ahead of round `n`: the source buffer that is due, else the next descriptor, which may lie in no effect window
(R74). While staging is full it pauses (R93); while 1,024 descriptors are in flight the round waits (R94). -/
def State.fetchAhead (s : State) (n : Nat) : State :=
  if !s.mayRun n || s.on (F.RND_R_CTL_RA_OFF n) then s
  else
    match (s.ahead n).find? s.bufferDue with
    | some d => s.bufferNext d
    | none =>
      match s.nextAhead n with
      | none => s
      | some i =>
        if s.touchesEffect (s.slotAddr n i) 64 || !s.stagingRoom 1 then s
        else if s.mayPlace n then (s.takePlace n true).descAhead n i
        else s.takePlace n false

/-- The descriptor is a TX_SEND that has not yet placed its frame (R271). -/
def Desc.unplaced (d : Desc) : Bool := d.func == 0x09 && d.opcode == 1 && d.fin.isNone && !d.running

/-- Free slots of round `n`'s completion round (R92). -/
def State.freeSlots (s : State) (n : Nat) : Nat :=
  (s.rCplHead n + 2 * s.rSize n - s.rCplIdx n - 1) % s.rSize n

/-- Round `n` has a descriptor ready to start (R89, R92, R95, R96): fetched, or with a place free to fetch it. None starts
while the completion round is full, none passes a TX_SEND that waits for its queue, none starts while the module enters a
sleep (R321), and none while the round engine has 64 writes unacknowledged (R33; DESIGN CHOICE, log 7). -/
def State.ready (s : State) (n : Nat) : Bool :=
  s.mayRun n && s.rHead n != s.rTail n && !s.on (F.RND_R_STAT_STALLED n) && s.freeSlots n != 0 &&
    !(s.on (F.RND_R_CTL_RA_OFF n) && !(s.started n).isEmpty) &&
    !((s.started n).any Desc.unplaced) && s.get F.WAK_STAT_STATE != 1 && decide (s.unacked (.round n) < 64) &&
    (match s.aheadAt n (s.rHead n) with
     | some d => d.wait.isNone && !(d.fence && !d.cancelled && !(s.started n).isEmpty)
     | none => s.mayPlace n)

/-- The round engine may serve round `n` next: no other ready round goes before it (R89). -/
def State.served (s : State) (n : Nat) : Bool :=
  s.ready n && (List.range 256).all fun m => m == n || !s.ready m || s.goesBefore n m

/-- The round engine has served round `n`. -/
def State.servedNow (s : State) (n : Nat) : State := s.setRnd { s.rnd with turn := lastIn n s.rnd.turn }

/-- HEAD moves past one descriptor. -/
def State.headStep (s : State) (n : Nat) : State :=
  (s.put (F.RND_R_STAT_HEAD n) ((s.rHead n + 1) % s.rSize n)).servedNow n

/-- The errors that run-ahead met in memory, in the descriptor's slot and its source buffer, are reported now that it
becomes the current one (R52, R69). -/
def State.eccDue (s : State) (d : Desc) : State :=
  if d.head then s
  else
    let s := s.eccRead (s.slotAddr d.round d.slot) 64 (s.pidOf (.round d.round)) false
    if d.src.isSome then s.eccRead d.addr d.len (s.pidOf (.round d.round)) false else s

/-- Descriptor `d` at HEAD starts; `fin` is its final completion where that is settled now. -/
def State.startNow (s : State) (d : Desc) (fin : Option Cpl) : State :=
  let s := s.setDescs (dropFirst (fun e => e.same d) s.rnd.descs)
  let s := ((s.headStep d.round).dropHeld d.round d.slot).eccDue d
  s.setDescs (s.rnd.descs ++ [{ d with started := true, hostReads := [], wait := none, fin := fin }])

/-- The read at HEAD of a descriptor is answered. One that cannot be read completes with tag 0, the failure's status and
its slot index (R531). -/
def State.headDesc (s : State) (d : Desc) (status : Nat) (b : Bytes) : State :=
  if status ≠ St.OK then s.startNow { d with raw := zeros 64, cancelled := false } (some ⟨status, d.slot⟩)
  else s.updDesc d fun e => { e with raw := b, wait := none, cancelled := e.cancelled || s.isHeld d.round d.slot }

/-- The read at HEAD of a source buffer is answered. -/
def State.headBuf (s : State) (d : Desc) (status : Nat) (b : Bytes) : State :=
  if status ≠ St.OK then s.startNow d (some ⟨status, 0⟩)
  else s.updDesc d fun e => { e with src := some b, wait := none }

/-- The round engine reads at HEAD for descriptor `d`, which it has entered: the slot while `raw` is empty, else the source
buffer. -/
def State.headRead (s : State) (d : Desc) : State :=
  let slot := d.raw.isEmpty
  let r := s.issue true d.round (if slot then s.slotAddr d.round d.slot else d.addr) (if slot then 64 else d.len)
  let e := { d with wait := r.wait, head := true }
  let s := r.s.updDesc d fun _ => e
  match r.ans with
  | some x => if slot then s.headDesc e x.1 x.2 else s.headBuf e x.1 x.2
  | none => s

/-- Every read of a descriptor meets the host window's link down (R109). -/
def State.linkGone (s : State) (a : Nat) : Bool :=
  !s.linkIssues &&
    (match regionOf a with
     | some (.host, _, _) => true
     | _ => false)

/-! Frogging (R97, R99). -/

/-- The run-ahead reads of a released descriptor that reached the host window are counted and shown (R99). -/
def State.frogFx (s : State) (d : Desc) : State :=
  forEach d.hostReads (fun a t =>
    let t := t.count C.RND_FROGFX
    let t := t.putAddr F.RND_FROGFX_ADDR_LO_ADDR F.RND_FROGFX_ADDR_HI_ADDR a
    ((t.put F.RND_FROGFX_INFO_VALID 1).put F.RND_FROGFX_INFO_ROUND d.round).raise F.RND_EVT_FROGFX) s

/-- A descriptor that has not started is frogged: one that is cancelled is released without a count (R103). -/
def State.frogOne (s : State) (d : Desc) : State := ((if d.cancelled then s else s.count C.RND_FROG).frogFx d)

/-- Every fetched descriptor of round `n` that has not started is frogged; HEAD stays at the first (R53, R97). A cancel
that was accepted stays held against its slot (R103). -/
def State.frogRound (s : State) (n : Nat) : State :=
  forEach (s.ahead n) (fun d t => t.frogOne d)
    (s.setDescs (s.rnd.descs.filter fun d => !(d.round == n && !d.started)))

/-- Descriptor `d` at HEAD meets a link that is down before it has started: HOST_ERR, and it is frogged, to be fetched
afresh (R109). -/
def State.frogHead (s : State) (d : Desc) : State :=
  (s.hostErr.setDescs (dropFirst (fun e => e.same d) s.rnd.descs)).frogOne d

/-- The start of a descriptor at HEAD that has been read: its cancel, its header (R14) and its source buffer decide whether
its operation goes ahead or its final completion is settled now. One with FENCE waits, once read, for every earlier
descriptor of its round (R96). -/
def State.startFetched (s : State) (d : Desc) : State :=
  if d.cancelled then s.startNow d (some ⟨St.CANCELLED, 0⟩)
  else if d.fence && !(s.started d.round).isEmpty then s
  else if s.badHeader d then s.startNow d (some ⟨St.BADARG, 0⟩)
  else if d.readsBuf && d.src.isNone && decide (0 < d.len) then
    if s.linkGone d.addr then s.frogHead d
    else
      let s := s.headRead d
      match s.aheadAt d.round d.slot with
      | some e => if e.wait.isNone then s.startNow e none else s
      | none => s
  else s.startNow d none

/-- The descriptor at HEAD of round `n` that is read by now starts; one that waits for its read does not yet. -/
def State.startIfRead (s : State) (n i : Nat) : State :=
  match s.aheadAt n i with
  | some d => if d.wait.isNone then s.startFetched d else s
  | none => s

/-- The start of the descriptor at HEAD of round `n`: one fetched ahead, or one read now. Of a cancelled one only the tag is
read, afresh (R103). -/
def State.startHead (s : State) (n : Nat) : State :=
  let i := s.rHead n
  match s.aheadAt n i with
  | some d =>
    if d.cancelled && !d.head then
      let e := { d with raw := [] }
      ((s.updDesc d fun _ => e).headRead e).startIfRead n i
    else s.startIfRead n i
  | none =>
    if s.linkGone (s.slotAddr n i) then s.hostErr
    else
      let d := { Desc.fresh n i [] with head := true }
      (((s.takePlace n true).setDescs (s.rnd.descs ++ [d])).headRead d).startIfRead n i

/-! Completions. -/

/-- The status a final completion carries: TOO_LATE replaces OK where a cancel came after the start (R103), and CANCELLED
where the round was disabled after the last stitch had begun (R98). -/
def Desc.final (d : Desc) (c : Cpl) : Cpl :=
  if c.status != St.OK then c
  else if d.stopped then { c with status := St.CANCELLED }
  else if d.cancelled then { c with status := St.TOO_LATE }
  else c

/-- A descriptor's operation ends: its final completion is settled, to be written in slot order. -/
def State.finish (s : State) (d : Desc) (status result : Nat) : State :=
  s.updDesc d fun e => { e with running := false, fin := some (e.final ⟨status, result % 2 ^ 64⟩) }

/-- The 16 bytes of a completion (R15). -/
def cplBytes (tag status phase stitches result : Nat) : Bytes :=
  leBytes 4 tag ++ leBytes 2 status ++ leBytes 1 (phase + 2 * min stitches 127) ++ [0] ++ leBytes 8 result

/-- The completion round is full: the round is STALLED from then on, with a completion pending or not (R92 and the table of
RND_Rn_STAT; DEDUCED, log 91). -/
def State.fullCheck (s : State) (n : Nat) : State :=
  if s.freeSlots n = 0 && !s.on (F.RND_R_STAT_STALLED n) then
    (s.put (F.RND_R_STAT_STALLED n) 1).raise F.RND_EVT_CPL_FULL
  else s

/-- One completion is written: its 16 bytes, CPL_IDX and, at a wrap, the phase (R90). -/
def State.putCpl (s : State) (n tag status stitches result : Nat) : State :=
  let i := s.rCplIdx n
  let ph := s.get (F.RND_R_STAT_PHASE n)
  let s := (s.fabWrite (.round n) (s.cplBase n + 16 * i) (cplBytes tag status ph stitches result)).1
  let j := (i + 1) % s.rSize n
  let s := s.put (F.RND_R_STAT_CPL_IDX n) j
  (if j = 0 then s.put (F.RND_R_STAT_PHASE n) (1 - ph) else s).fullCheck n

/-- Round `n` signals its interrupt: MSI-X for partition 2, AIA for any other owner (R104). -/
def State.signalRound (s : State) (n : Nat) : State :=
  if s.rOwner n = 2 then s.sendMsix (s.get (F.RND_R_CTL_VEC n)) else s.sendAia (s.get (F.RND_R_CTL_AIA_ID n))

def State.modPend (s : State) (n : Nat) : Nat := storeGet cntDefault s.rnd.pend n
def State.modFirst (s : State) (n : Nat) : Nat := storeGet cntDefault s.rnd.first n

def State.setModPend (s : State) (n v : Nat) : State :=
  s.setRnd { s.rnd with pend := storeSet cntDefault s.rnd.pend n v }
def State.setModFirst (s : State) (n v : Nat) : State :=
  s.setRnd { s.rnd with first := storeSet cntDefault s.rnd.first n v }

/-- The moderation check of round `n` (R105). -/
def State.modCheck (s : State) (n : Nat) : State :=
  if decide (max (s.get (F.RND_R_MOD_COUNT n)) 1 ≤ s.modPend n) ||
      decide (s.get (F.RND_R_MOD_TIME n) ≤ s.now / 1000 - s.modFirst n) then
    (s.signalRound n).setModPend n 0
  else s

/-- A completion that counts toward round `n`'s interrupt has been written (R105). -/
def State.modCount (s : State) (n : Nat) : State :=
  let s := if s.modPend n = 0 then s.setModFirst n (s.now / 1000) else s
  (s.setModPend n (s.modPend n + 1)).modCheck n

/-- RUN falls once a disabled round has no started descriptor left (R98). -/
def State.runFalls (s : State) (n : Nat) : State :=
  if !s.rEn n && (s.started n).isEmpty then s.put (F.RND_R_STAT_RUN n) 0 else s

/-- A warm reset is triggered, to begin at crystal time `t`: the first ordered stands, and none is taken while one holds at
step 3 (R497). -/
def State.warmAt (s : State) (cause t : Nat) : State :=
  if s.pow.held then s
  else
    match s.pow.warm with
    | some (_, u) => if t < u then s.setPow { s.pow with warm := some (cause, t) } else s
    | none => s.setPow { s.pow with warm := some (cause, t) }

/-- A power cycle is triggered, with its cause and the cause that it replaces. -/
def State.cycleAt (s : State) (cause orig t : Nat) : State :=
  match s.pow.cycle with
  | some (_, _, u) => if t < u then s.setPow { s.pow with cycle := some (cause, orig, t) } else s
  | none => s.setPow { s.pow with cycle := some (cause, orig, t) }

/-- The rung of a WARM_RESET or POWER_CYCLE begins 1 ms after its completion is written (R508). -/
def State.rungOf (s : State) (d : Desc) (status : Nat) : State :=
  if d.func != 0x16 || (status != St.OK && status != St.TOO_LATE) then s
  else if d.opcode = 2 then s.warmAt 3 (s.now + 1000000)
  else if d.opcode = 3 then s.cycleAt 8 0 (s.now + 1000000)
  else s

/-- Round `n`'s completions go to the host and the link is down, so that none can be issued (R109). -/
def State.cplGone (s : State) (n : Nat) : Bool :=
  s.linkGone (s.cplBase n)

/-- A started descriptor that meets a link that is down is frogged: it gets no completion (R18, R109), and HEAD stays past
it (DEDUCED, log 83). -/
def State.frogDesc (s : State) (d : Desc) : State :=
  let s := s.count C.RND_FROG
  (s.setDescs (dropFirst (fun e => e.same d) s.rnd.descs)).runFalls d.round

/-- A descriptor whose completion cannot be issued. -/
def State.frogCpl (s : State) (d : Desc) : State := s.hostErr.frogDesc d

/-- A write that round `n` has made is not yet acknowledged by its target (R90): at the partner (R486), held at a full
queue (R409), or waiting for a lock (R110). -/
def State.writesOpen (s : State) (n : Nat) : Bool :=
  (s.pai.outs.any fun o => o.acc.src == .round n) || (s.que.held.any fun h => h.src == .round n) ||
    s.fab.locked.any fun a => a.1.write && a.1.src == .round n

/-- The final completion of the oldest started descriptor of round `n`, once settled: written in slot order (R89) when
its writes are acknowledged (R90), or held while the completion round is full (R92). -/
def State.complete (s : State) (n : Nat) : State :=
  match s.started n with
  | [] => s
  | d :: _ =>
    match d.fin with
    | none => s
    | some c =>
      if s.writesOpen n then s
      else if s.cplGone n then s.frogCpl d
      else if s.freeSlots n = 0 then s.fullCheck n
      else
        let s := s.putCpl n d.tag c.status d.stitches c.result
        let s := s.setDescs (dropFirst (fun e => e.same d) s.rnd.descs)
        let s := if d.interrupt || c.status != St.OK then s.modCount n else s
        (s.rungOf d c.status).runFalls n

/-! Operations. -/

/-- The descriptor whose operation a command of function `f`, opcode `op`, performs on round `n`: the oldest started
one whose operation has neither ended nor begun, since the descriptors of a round take effect in slot order (R89). -/
def State.cur (s : State) (n f op : Nat) : Option Desc :=
  (s.rnd.descs.find? fun d => d.round == n && d.started && d.fin.isNone && !d.running).filter fun d =>
    d.func == f && d.opcode == op

/-- The descriptor of round `n` whose operation of function `f`, opcode `op`, is under way. -/
def State.curRunning (s : State) (n f op : Nat) : Option Desc :=
  s.rnd.descs.find? fun d =>
    d.round == n && d.started && d.fin.isNone && d.running && d.func == f && d.opcode == op

/-- The operation is under way and ends later. -/
def State.hold (s : State) (d : Desc) : State := s.updDesc d fun e => { e with running := true }

/-- An operation's command: it acts on the descriptor it finds, and changes nothing where there is none. -/
def State.withOp (s : State) (n f op : Nat) (k : Desc → State) : State :=
  match s.cur n f op with
  | some d => k d
  | none => s

/-- The partition a descriptor acts for: the owner of its round (R40). -/
def State.dPid (s : State) (d : Desc) : Nat := s.rOwner d.round

/-- A write of descriptor `d` was refused with `status`: the operation ends with it, or the descriptor is frogged where the
host's link was down (R109). -/
def State.refuseWrite (s : State) (d : Desc) (status result : Nat) : State :=
  if status = St.HOST_ABORT then s.frogDesc d else s.finish d status result

/-- A result is written to a descriptor's buffer at `off`; the operation then ends with `status`, or with the status of
a write that was refused. -/
def State.finishBuf (s : State) (d : Desc) (off : Nat) (b : Bytes) (status result : Nat) : State :=
  if b.isEmpty then s.finish d status result
  else
    let w := s.fabWrite (.round d.round) (d.addr + off) b
    if w.2 = St.OK then w.1.finish d status result else w.1.refuseWrite d w.2 0

/-- One stitch of a descriptor has been performed, with its result so far; a progress report follows every REPORT
stitches while two completion slots are free (R101). -/
def State.stitched (s : State) (d : Desc) (prog acc : Nat) : State :=
  let k := d.stitches + 1
  let s := s.updDesc d fun e => { e with running := true, stitches := k, prog := prog, acc := acc % 2 ^ 64, stitchAt := s.now }
  if d.stitchReport && !s.cplGone d.round && decide (2 ≤ s.freeSlots d.round) && k % max (s.get (F.RND_R_MOD_REPORT d.round)) 1 == 0 then
    let s := s.putCpl d.round d.tag St.IN_STITCH k acc
    if d.interrupt then s.modCount d.round else s
  else s

/-- The last stitch of a descriptor has been performed and its operation ends. -/
def State.lastStitch (s : State) (d : Desc) (status result : Nat) : State :=
  (s.updDesc d fun e => { e with stitches := d.stitches + 1 }).finish d status result

/-- An erase or a program that descriptor `d` issued is still to end (R470). -/
def State.flashPending (s : State) (d : Desc) : Bool := s.boo.ops.any fun o => o.who == .desc d.round d.slot

/-- A CONFIG_WRITE cut short leaves its copy invalid (R469): its MAGIC is programmed to 0. -/
def State.spoilCopy (s : State) (d : Desc) : State :=
  if d.func = 0x14 ∧ d.opcode = 2 ∧ d.running then
    s.writeBytes (if s.boo.copy = 0 then 0x303000000 else 0x316000000) (zeros 4)
  else s

/-- A descriptor of BOO ends: STAGE_ERASE gives up its claim (R461), CHAIN_SEND its transfer. -/
def State.booEnd (s : State) (d : Desc) : State :=
  if d.func = 0x14 ∧ d.running then
    let s := s.setBoo { s.boo with chainOut := s.boo.chainOut.filter fun c => c.desc != some (d.round, d.slot) }
    if d.opcode = 1 then (s.put F.BOO_STAT_WRITER 0).put F.BOO_STAT_STAGING 0 else s
  else s

/-- A stitched descriptor stops at a stitch boundary (R98, R103): its result so far, without the TOO_LATE rule. One with
a flash operation under way stops once that has ended (R470). -/
def State.stopStitched (s : State) (d : Desc) : State :=
  if s.flashPending d then s.updDesc d fun e => { e with cancelled := true }
  else ((s.spoilCopy d).booEnd d).updDesc d fun e => { e with running := false, fin := some ⟨St.CANCELLED, e.acc⟩ }

/-! Answers to the round engine's reads. -/

/-- The round engine's read for descriptor `d` is answered. -/
def State.descAnswer (s : State) (d : Desc) (status : Nat) (b : Bytes) : State :=
  match d.head, d.raw.isEmpty with
  | true, true => s.headDesc d status b
  | true, false => s.headBuf d status b
  | false, true => s.aheadDesc d status b
  | false, false => s.aheadBuf d status b

/-- The descriptor of round `n` whose read is outstanding under `tag`. -/
def State.waiter (s : State) (n tag : Nat) : Option Desc :=
  s.rnd.descs.find? fun d => d.round == n && !d.started && d.wait == some tag

/-- A read is made ahead of certainty: by run-ahead, or for a descriptor that was released since; what it meets changes no
counter and raises no event (R52). -/
def State.unsure (s : State) (t : TagUse) : Bool :=
  match t.acc.src with
  | .round n => match s.waiter n t.tag with | some d => !d.head | none => true
  | _ => false

/-- The read or atomic operation under a tag is answered: its tag is freed, and the answer goes to its source. A read whose
descriptor was released since is dropped. -/
def State.tagDone (s : State) (t : TagUse) (status : Nat) (b : Bytes) : State :=
  let u := s.dropTag t.tag
  match t.acc.src with
  | .round n => match s.waiter n t.tag with | some d => u.descAnswer d status b | none => u
  | src => u.answer src status b

/-- The descriptor for which the round engine waits for a tag to make read `a` of round `n`. -/
def State.tagless (s : State) (n : Nat) (a : Access) : Option Desc :=
  s.rnd.descs.find? fun d => d.round == n && !d.started && d.wait == some 256 &&
    (if d.raw.isEmpty then a.addr == s.slotAddr n d.slot else a.addr == d.addr && a.size == d.len)

/-- A waiting read of the round engine takes tag `t`; one whose descriptor was released since takes none. -/
def State.grantDesc (s : State) (n : Nat) (a : Access) (pid t : Nat) : State :=
  match s.tagless n a with
  | none => s
  | some d =>
    let r := s.issueWith a pid t
    let u := if r.ans.isSome && !d.head then s else r.s
    let fx := if d.raw.isEmpty || d.head then d.hostReads else hostRead a.addr r.wait
    let e := { d with wait := r.wait, hostReads := fx }
    let u := u.updDesc d fun _ => e
    match r.ans with
    | some x => u.descAnswer e x.1 x.2
    | none => u

/-- Reads of the queue pool that waited behind a push of their own master are answered (R37). -/
def State.queueReads (s : State) : State :=
  forEach s.fab.tags (fun t u =>
    match regionOf t.acc.addr with
    | some (.queues, lo, _) =>
      if u.pushHeld t.acc.src then u
      else
        let r := u.queueAnswer ((t.acc.addr - lo) / 0x1000) (t.acc.addr % 0x1000) t.pid
        if t.acc.size = 8 ∧ t.acc.addr % 8 = 0 then r.1.tagDone t r.2.1 r.2.2 else u.tagDone t St.OK (zeros t.acc.size)
    | _ => u) s

end Sys2Proof.Machine
end

