-- ==== Sys2Proof/Machine/RoundCmds.lean ====
section
/-! DEFINITION. The commands of the rounds: doorbells, enabling and disabling, base writes, run-ahead, the start and
the completion of descriptors, moderation and MSI-X unmasking (R85 to R106). -/
namespace Sys2Proof.Machine

/-- A doorbell write is accepted: from the owner or partition 0, with an index below the size (R88). -/
def State.bellOk (s : State) (pid n val : Nat) : Bool := s.rMay pid n && decide (val < s.rSize n)

/-- A write to RND_DBn_CMD records TAIL (R87, R88). -/
def State.bellCmd (s : State) (pid n val : Nat) : State :=
  if s.bellOk pid n val then s.put (F.RND_DB_CMD_INDEX n) val else s.raise F.RND_EVT_DB_BAD

/-- A write to RND_DBn_CPL records CPL_HEAD and ends a stall once a slot is free (R92). -/
def State.bellCpl (s : State) (pid n val : Nat) : State :=
  if s.bellOk pid n val then
    let s := s.put (F.RND_DB_CPL_INDEX n) val
    if s.freeSlots n = 0 then s.fullCheck n else s.put (F.RND_R_STAT_STALLED n) 0
  else s.raise F.RND_EVT_DB_BAD

/-- The indices of round `n` return to 0 and its phase to 1 (R87); cancels held against its slots end with them
(DEDUCED, log 15). -/
def State.resetIdx (s : State) (n : Nat) : State :=
  let s := (s.put (F.RND_R_STAT_HEAD n) 0).put (F.RND_R_STAT_CPL_IDX n) 0
  let s := (s.put (F.RND_DB_CMD_INDEX n) 0).put (F.RND_DB_CPL_INDEX n) 0
  let s := (s.put (F.RND_R_STAT_PHASE n) 1).put (F.RND_R_STAT_STALLED n) 0
  s.setRnd { s.rnd with held := s.rnd.held.filter fun p => p.1 != n }

/-- A base is aligned to the smaller of 4 KiB and its round's size in bytes. -/
def baseAligned (base bytes : Nat) : Bool := base % min 4096 bytes == 0

/-- The base lies where the owner's rounds must lie: the host window for partition 2, common SRAM for any other. -/
def basePlaced (owner base : Nat) : Bool :=
  match regionOf base with
  | some (.host, _, _) => owner == 2
  | some (.sram, _, _) => owner != 2
  | _ => false

/-- An enable of round `n` is refused (R86). -/
def State.enableBad (s : State) (n : Nat) : Bool :=
  let sz := s.rSize n
  let o := s.rOwner n
  let cb := s.cmdBase n
  let pb := s.cplBase n
  let lg := s.get (F.RND_R_CTL_SIZE n)
  decide (lg < 4) || decide (12 < lg) || !baseAligned cb (sz * 64) || !baseAligned pb (sz * 16) ||
  !basePlaced o cb || !basePlaced o pb || o == 1 || decide (19 ≤ o) || decide (0x16 < s.rFunc n) ||
  s.touchesEff cb (sz * 64) || s.touchesEff pb (sz * 16) ||
  s.touchesRaOff n cb (sz * 64) || s.touchesRaOff n pb (sz * 16) ||
  (s.on (F.RND_R_CTL_RA_OFF n) && (List.range 256).any fun m => m != n && s.rEn m &&
    (overlaps cb (sz * 64) (s.cmdBase m) (s.rSize m * 64) || overlaps cb (sz * 64) (s.cplBase m) (s.rSize m * 16)))

/-- Round `n` is enabled, or refused with CFG_BAD (R86). -/
def State.roundOn (s : State) (n : Nat) : State :=
  if s.rEn n then s
  else if s.enableBad n then s.raise F.RND_EVT_CFG_BAD
  else (s.put (F.RND_R_CTL_EN n) 1).put (F.RND_R_STAT_RUN n) 1

/-- A started descriptor of a round that is stopped: a stitched one stops at its next stitch boundary with CANCELLED, which
after a last stitch has begun is that stitch's end; any other runs to its end (R98). -/
def State.offStarted (d : Desc) (s : State) : State :=
  if d.isStitched && d.fin.isNone then
    if d.lastBegun then s.updDesc d fun e => { e with stopped := true } else s.stopStitched d
  else s

/-- Round `n` is stopped: unstarted descriptors are frogged, started ones end (R97, R98). -/
def State.roundOff (s : State) (n : Nat) : State :=
  if !s.rEn n then s
  else
    let s := (s.put (F.RND_R_CTL_EN n) 0).frogRound n
    let s := forEach (s.started n) State.offStarted s
    s.runFalls n

/-- The fields of RND_Rn_CTL other than EN: SIZE changes, and resets the indices, only while EN and RUN are 0 (R87).
Descriptors that are fetched ahead when RA_OFF is set are kept and start (DESIGN CHOICE, log 99). -/
def State.ctlFields (s : State) (n val : Nat) : State :=
  let s := if s.rEn n || s.rRun n || bits val 11 8 == s.get (F.RND_R_CTL_SIZE n) then s
    else (s.put (F.RND_R_CTL_SIZE n) (bits val 11 8)).resetIdx n
  let s := (s.put (F.RND_R_CTL_AIA_ID n) (bits val 31 22)).put (F.RND_R_CTL_VEC n) (bits val 21 16)
  s.put (F.RND_R_CTL_RA_OFF n) (bits val 1 1)

/-- A write of RND_Rn_CTL with EN 1, of any other partition without effect (R85). -/
def State.ctlOn (s : State) (pid n val : Nat) : State :=
  if s.rMay pid n then (s.ctlFields n val).roundOn n else s

/-- A write of RND_Rn_CTL with EN 0. -/
def State.ctlOff (s : State) (pid n val : Nat) : State :=
  if s.rMay pid n then (s.ctlFields n val).roundOff n else s

/-- The base register that `which` names: 0 and 1 the command round's LO and HI, 2 and 3 the completion round's. -/
def baseReg (n which : Nat) : Nat :=
  match which with
  | 0 => R.RND_R_CMD_BASE_LO n
  | 1 => R.RND_R_CMD_BASE_HI n
  | 2 => R.RND_R_CPL_BASE_LO n
  | _ => R.RND_R_CPL_BASE_HI n

/-- A write to a base of round `n`, or to its SIZE with `which` 4: while EN and RUN are 0 it resets the indices, while
either is 1 it has no effect (R87). Such a write of SIZE is one of SIZE alone, and resets the indices also where it names
the SIZE in force (DEDUCED, log 14). -/
def State.baseWrite (s : State) (pid n which val : Nat) : State :=
  if !s.rMay pid n || s.rEn n || s.rRun n then s
  else if which = 4 then (s.put (F.RND_R_CTL_SIZE n) val).resetIdx n
  else (s.regApply (baseReg n which) val).resetIdx n

def execDoorbellCmd (pid n val : Nat) (s : State) : Res := .next (s.bellCmd pid n val)
def execDoorbellCpl (pid n val : Nat) (s : State) : Res := .next (s.bellCpl pid n val)
/-- ROUND_ENABLE: a write of RND_Rn_CTL that sets EN; `val` holds its other fields (R86). -/
def execRoundEnable (pid n val : Nat) (s : State) : Res := .next (s.ctlOn pid n val)
/-- ROUND_DISABLE: a write of RND_Rn_CTL that clears EN; `val` holds its other fields (R98). -/
def execRoundDisable (pid n val : Nat) (s : State) : Res := .next (s.ctlOff pid n val)
def execRoundBaseWrite (pid n which val : Nat) (s : State) : Res := .next (s.baseWrite pid n which val)
/-- MODERATION_TIMER: the check each microsecond of a round with pending completions (R105). -/
def execModerationTimer (r : Nat) (s : State) : Res := .next (if s.modPend r = 0 then s else s.modCheck r)

/-- The pending message of vector `v` is sent once nothing masks it (R106). -/
def State.msixFlush (s : State) (v : Nat) : State :=
  if bitOf s.rnd.msixPend v && !s.msixMasked v then
    (s.setRnd { s.rnd with msixPend := clearBit s.rnd.msixPend v }).msixMessage v
  else s

/-- A vector is unmasked; a pending message is sent (R106). -/
def State.unmask (s : State) (v : Nat) : State :=
  let w := BitVec.ofNat 32 (clearBit (s.msixWord (4 * v + 3)) 0)
  (s.setRnd { s.rnd with msixTbl := storeSet msixDefault s.rnd.msixTbl (4 * v + 3) w }).msixFlush v

def execMsixUnmask (vec : Nat) (s : State) : Res := .next (if vec < 64 then s.unmask vec else s)

/-- A BAR access of a size, alignment or byte enables that R82 does not allow: a write is dropped, a read is answered
Completer Abort, and HOST_ERR is raised. -/
def execBarBadAccess (write : Bool) (bar off : Nat) (s : State) : Res :=
  .next ((if write then s else s.emit (.barAbort bar off)).raise F.RND_EVT_HOST_ERR)

end Sys2Proof.Machine
end

