-- ==== Sys2Proof/Machine/SwcOps.lean ====
section
/-! DEFINITION. The switch core's operations: the forwarding database and VLANs, streams and sequence recovery, buffer
admission, the path of a frame into the packet buffer and its delivery to ports H and C (R113 to R157). -/
namespace Sys2Proof.Machine

/-! Admission (R122). -/

/-- `n` more cells are admitted to a queue that holds `used`, with guaranteed part `mn` and factor 2^(k − 6), while the
pool has `pool` free cells; the answer is the pool left (R122). -/
def admitCells (mn k : Nat) : Nat → Nat → Nat → Option Nat
  | 0, _, pool => some pool
  | n + 1, used, pool =>
    if used < mn then admitCells mn k n (used + 1) pool
    else if pool = 0 then none
    else if (used - mn) * 64 < 2 ^ k * pool then admitCells mn k n (used + 1) (pool - 1)
    else none

/-- The mirror branch of admission, for `n` cells. -/
def admitMirror (cap size : Nat) : Nat → Nat → Nat → Bool
  | 0, _, _ => true
  | n + 1, used, pool =>
    decide (used < cap) && decide (size / 8 < pool) && admitMirror cap size n (used + 1) (pool - 1)

/-- Queue (o, c) takes a frame of `cells` cells. -/
def State.queueTakes (s : State) (c cells o : Nat) : Bool :=
  (admitCells (s.minOf o c) (s.alphaOf o c) cells (s.usedCells o c) s.poolFree).isSome

/-! Shaper credit (R176). -/

/-- The rate of a port in kb/s. -/
def State.portRate (s : State) (p : Nat) : Nat :=
  if p = 20 then 100000 else if p < 4 ∧ s.get (F.PRT_MODE_MODE p) = 0 then 10000000 else 1000000

/-- Tenths of a ns a byte takes on a port's line. -/
def State.byteTime (s : State) (p : Nat) : Nat := 80000000 / s.portRate p

def lineDefault (_ : Nat) : Line := ⟨none, none, false⟩
def State.line (s : State) (p : Nat) : Line := storeGet lineDefault s.prt.lines p
def State.setLine (s : State) (p : Nat) (l : Line) : State :=
  s.onPrt fun t => { t with lines := storeSet lineDefault t.lines p l }

def creditDefault (_ : Nat) : Int := 0
def State.credit (s : State) (p c : Nat) : Int := storeGet creditDefault s.prt.credit (p * 8 + c)
def State.setCredit (s : State) (p c : Nat) (v : Int) : State :=
  s.onPrt fun t => { t with credit := storeSet creditDefault t.credit (p * 8 + c) v }

/-- A frame waits in queue (p, c) or in the port's transmit stage. -/
def State.queued (s : State) (p c : Nat) : Bool :=
  (s.swc.frames.any fun f => f.cls == c && decide (0 < f.cellsAt p)) ||
    (s.swc.staged.any fun g => g.port == p && g.frame.cls == c)

/-- The highest credit of a shaped class, in millionths of a bit: the largest interfering frame at idleSlope over the
port rate. -/
def State.hiCredit (s : State) (p c : Nat) : Int :=
  ((s.get (F.PRT_MODE_MAX_LEN p) + 20) * 8 * 1000000 * s.get (F.PRT_CBS_IDLE_SLOPE p c) / s.portRate p : Nat)

/-- A class's gate is open. -/
def State.gateOpen (s : State) (p c : Nat) : Bool := decide (20 ≤ p) || s.bit (F.PRT_GATE_STAT_STATES p) c

/-- Class `c` of port `p` after `dt` ns in the conditions now in force (R176). -/
def State.creditAfter (s : State) (p c dt : Nat) : Int :=
  let cr := s.credit p c
  let idle : Int := (s.get (F.PRT_CBS_IDLE_SLOPE p c) : Int) * dt
  let sending := match (s.line p).cur with | some t => t.frame.cls == c | none => false
  if sending then cr + idle - (s.portRate p : Int) * dt
  else if !s.gateOpen p c then cr
  else if s.queued p c then min (cr + idle) (s.hiCredit p c)
  else if cr < 0 then min (cr + idle) 0
  else 0

/-- The credits of a port brought up to now, before its conditions change. -/
def State.cbsUpdate (s : State) (p : Nat) : State :=
  if 20 ≤ p then s
  else
    let dt := s.now - storeGet cntDefault s.prt.creditAt p
    let s := forEach (List.range 8) (fun c t =>
      if s.on (F.PRT_CBS_EN p c) then t.setCredit p c (s.creditAfter p c dt) else t) s
    s.onPrt fun t => { t with creditAt := storeSet cntDefault t.creditAt p s.now }

/-- A class of port `j` is held by PAUSE or by priority flow control. -/
def State.paused (s : State) (j c : Nat) : Bool :=
  decide (j < 20) && (s.on (F.PRT_STAT_PAUSED j) || s.bit (F.PRT_STAT_PFC_PAUSED j) c)

/-- A class of port `j` has credit, if it is shaped (R176). -/
def State.hasCredit (s : State) (j c : Nat) : Bool :=
  decide (20 ≤ j) || !s.on (F.PRT_CBS_EN j c) || decide (0 ≤ s.credit j c)

/-- Preemption is active on port `p` (R177). -/
def State.preempts (s : State) (p : Nat) : Bool :=
  decide (p < 20) && s.on (F.PRT_PREEMPT_EN p) && (s.on (F.PRT_PREEMPT_VERIFY_DIS p) || s.get (F.PRT_STAT_VERIFY p) == 2)

/-! The forwarding database (R137, R138). -/

/-- The bucket of an address and FID. -/
def fdbBucket (mac fid : Nat) : Nat := crc32 (beBytes 6 mac ++ beBytes 2 fid) % 8192

def State.fdbFind (s : State) (mac fid : Nat) : Option FdbEnt := s.swc.fdb.find? fun e => e.mac == mac && e.fid == fid

/-- The entries of a bucket. -/
def State.fdbBucketOf (s : State) (b : Nat) : List FdbEnt := s.swc.fdb.filter fun e => e.idx / 4 == b

/-- The first free way of a bucket. -/
def State.fdbFree (s : State) (b : Nat) : Option Nat :=
  (List.range 4).find? fun w => !(s.swc.fdb.any fun e => e.idx == b * 4 + w)

def State.fdbDrop (s : State) (i : Nat) : State := s.onSwc fun w => { w with fdb := w.fdb.filter fun e => e.idx != i }

def State.fdbPut (s : State) (e : FdbEnt) : State := (s.fdbDrop e.idx).onSwc fun w => { w with fdb := w.fdb ++ [e] }

/-- A MAC address, its first transmitted byte highest, names a group. -/
def isGroup (mac : Nat) : Bool := bitOf mac 40

/-- A frame's source address and FID are learned on its ingress port (R138); a standby does not learn (R481). -/
def State.learn (s : State) (p mac fid : Nat) : State :=
  if isGroup mac || s.standby || !s.on (F.SWC_PCFG_LEARN p) || !s.on F.SWC_CTL_LEARN_EN ||
      (s.get (F.SWC_PCFG_STP p) != 1 && s.get (F.SWC_PCFG_STP p) != 2) then s
  else
    match s.fdbFind mac fid with
    | some e => if e.static then s else s.fdbPut { e with ports := 2 ^ p, seen := s.now }
    | none =>
      let b := fdbBucket mac fid
      match s.fdbFree b with
      | some w => s.fdbPut ⟨b * 4 + w, mac, fid, 2 ^ p, false, false, s.now⟩
      | none => (s.count C.SWC_LEARN_FULL).raise F.SWC_EVT_LEARN_FULL

/-! VLANs and tags (R140). -/

def State.vlan (s : State) (v : Nat) : Option VlanEnt := storeGet noneDefault s.swc.vlans v

/-- The frame carries a C-tag. -/
def isTagged (b : Bytes) : Bool := be16 b 12 == 0x8100
/-- The frame without its C-tag. -/
def stripTag (b : Bytes) : Bytes := if isTagged b then b.take 12 ++ b.drop 16 else b
/-- The untagged frame with a C-tag of priority bits `pri` and VID `vid`. -/
def addTag (b : Bytes) (pri vid : Nat) : Bytes := b.take 12 ++ [0x81, 0x00] ++ beBytes 2 (pri * 4096 + vid) ++ b.drop 12
/-- The EtherType of an untagged frame. -/
def etherType (b : Bytes) : Nat := be16 b 12

/-- An R-TAG inserted into an untagged frame (R144). -/
def addRTag (b : Bytes) (seq : Nat) : Bytes := b.take 12 ++ [0xF1, 0xC1, 0, 0] ++ beBytes 2 seq ++ b.drop 12
def hasRTag (b : Bytes) : Bool := be16 b 12 == 0xF1C1
def rTagSeq (b : Bytes) : Nat := be16 b 16
def stripRTag (b : Bytes) : Bytes := if hasRTag b then b.take 12 ++ b.drop 18 else b

/-- The frame as it leaves on port `p`: its R-TAG removed where its stream says so, tagged or untagged by its VLAN. -/
def State.egressBytes (s : State) (f : SwFrame) (p : Nat) : Bytes :=
  let b := if f.stripR then stripRTag f.bytes else f.bytes
  if f.vid = 4096 then b
  else
    match s.vlan f.vid with
    | some v => if bitOf v.untagged p then b else addTag b f.pri f.vid
    | none => b

/-! Streams (R143 to R147). -/

/-- The lowest handle that matches a frame's addresses and VID (R143). -/
def State.streamOf (s : State) (dst src vid : Nat) : Option Nat :=
  (s.swc.streams.find? fun h =>
    match h.2 with
    | some e => e.vid == vid && (if e.ident = 1 then e.mac == dst else e.mac == src)
    | none => false).map (·.1)

/-- SWC_CB_LAST_INFO shows the last gap (1), late frame (2) or rogue frame (3). -/
def State.cbInfo (s : State) (h kind : Nat) : State :=
  (s.put F.SWC_CB_LAST_INFO_KIND kind).put F.SWC_CB_LAST_INFO_STREAM h

def State.cbDup (s : State) : State := s.count C.SWC_CB_DUP
def State.cbLate (s : State) (h : Nat) : State := ((s.count C.SWC_CB_LATE).raise F.SWC_EVT_CB_DROP).cbInfo h 2
def State.cbRogue (s : State) (h : Nat) : State := ((s.count C.SWC_CB_ROGUE).raise F.SWC_EVT_CB_DROP).cbInfo h 3

/-- The numbers that the history still covers once `next` is expected: 32 below it, `history` from it upward. -/
def cbPrune (next history : Nat) (seen : List Nat) : List Nat :=
  seen.filter fun x => decide ((x + 65536 + 32 - next) % 65536 < 32 + history)

/-- A held frame is released to its queue, behind the frames already there. -/
def State.cbEmit (s : State) (h q : Nat) : State :=
  let is := fun (f : SwFrame) => match f.held with | some (g, x, _) => g == h && x == q | none => false
  s.onSwc fun w => { w with
    frames := (w.frames.filter fun f => !is f) ++ ((w.frames.filter is).map fun f => { f with held := none }) }

/-- Frames are released while the next expected number is held (R146). -/
def State.releaseRun : Nat → Nat → State → State
  | 0, _, s => s
  | n + 1, h, s =>
    let c := s.cbOf h
    if (s.heldOf h).any (·.1 == c.next) then
      State.releaseRun n h ((s.cbEmit h c.next).setCb h { c with next := (c.next + 1) % 65536 })
    else s

/-- The distance from `a` up to `b` modulo 65,536. -/
def seqDist (a b : Nat) : Nat := (b + 65536 - a) % 65536

/-- The held number nearest above `next`. -/
def nearest (next : Nat) : List Nat → Option Nat
  | [] => none
  | x :: r =>
    match nearest next r with
    | none => some x
    | some y => if seqDist next x ≤ seqDist next y then some x else some y

/-- The numbers below the lowest held one are given up, and the run from it released (R146). -/
def State.skipToHeld (s : State) (h : Nat) : State :=
  let c := s.cbOf h
  match nearest c.next ((s.heldOf h).map (·.1)) with
  | none => s
  | some q =>
    let s := ((s.count C.SWC_CB_GAP (seqDist c.next q)).raise F.SWC_EVT_CB_GAP).cbInfo h 1
    let s := s.setCb h { c with next := q }
    State.releaseRun 33 h s

/-- What sequence recovery does with a frame. -/
inductive CbVerdict where
  | pass
  | discard
  | hold
  deriving DecidableEq, Repr

/-- The vector recovery algorithm of IEEE 802.1CB (R145); `next` is the highest number accepted, plus 1. -/
def State.cbVector (s : State) (h : Nat) (e : StreamEnt) (q : Nat) : State × CbVerdict :=
  let c := s.cbOf h
  let top := (c.next + 65535) % 65536
  let keep := fun (nx : Nat) (l : List Nat) => l.filter fun x => decide (seqDist x ((nx + 65535) % 65536) < e.history)
  if !c.started then (s.setCb h { c with started := true, next := (q + 1) % 65536, seen := [q], lastAt := s.now }, .pass)
  else
    let up := seqDist top q
    let down := seqDist q top
    let s := s.setCb h { c with lastAt := s.now }
    if up = 0 then (s.cbDup, .discard)
    else if up < 32768 then
      if e.history ≤ up then (s.cbRogue h, .discard)
      else
        let nx := (q + 1) % 65536
        (s.setCb h { s.cbOf h with next := nx, seen := keep nx (q :: c.seen) }, .pass)
    else if e.history ≤ down then (s.cbRogue h, .discard)
    else if c.seen.contains q then (s.cbDup, .discard)
    else (s.setCb h { s.cbOf h with seen := q :: c.seen }, .pass)

/-- The arrival of a frame at the resequencer (R146). -/
def State.cbReseq (s : State) (h : Nat) (e : StreamEnt) (q : Nat) : State × CbVerdict :=
  let c := s.cbOf h
  let c := if c.started then c else { c with started := true, next := q }
  let c := { c with lastAt := s.now }
  let s := s.setCb h c
  let d := seqDist c.next q
  if (cbPrune c.next e.history c.seen).contains q then (s.cbDup, .discard)
  else if 32768 ≤ d then (s.cbLate h, .discard)
  else if e.history ≤ d then (s.cbRogue h, .discard)
  else
    let c := { c with seen := cbPrune c.next e.history (q :: c.seen) }
    if d = 0 then (s.setCb h { c with next := (q + 1) % 65536 }, .pass) else (s.setCb h c, .hold)

/-- The class SWC_PCP_MAP gives a PCP. -/
def State.pcpClass (s : State) (k : Nat) : Nat := bits (s.get F.SWC_PCP_MAP_MAP) (3 * k + 2) (3 * k)

/-! Flow control toward the sender (R181). -/

/-- Cells held for frames received on port `p`, of every class (8) or of one. -/
def State.heldCells (s : State) (p c : Nat) : Nat :=
  ((s.swc.frames.filter fun f => f.inPort == p && !f.mirror && (c == 8 || f.cls == c)).map fun f =>
    f.left.foldl (fun m x => max m x.2) 0).sum

/-- The vector of a PFC frame for class `c`: every priority mapped to it; 256 for PAUSE, class 8. -/
def State.pauseVector (s : State) (c : Nat) : Nat :=
  if c = 8 then 256 else (List.range 8).foldl (fun m k => if s.pcpClass k = c then setBit m k else m) 0

/-- A PAUSE (class 8) or PFC frame is sent with the quanta given: a frame of 64 bytes (R164, R181). -/
def State.sendPause (s : State) (p c quanta : Nat) : State :=
  let s := s.emit (.pause p (s.pauseVector c) quanta)
  let s := ((s.count (C.PRT_TX_PAUSE p)).count (C.PRT_TX_OK p)).count (C.PRT_TX_OCTETS p) 64
  let s := s.onPrt fun t => { t with xoffAt := storeSet cntDefault t.xoffAt (p * 16 + c) s.now }
  if quanta = 0 then s else s.raise (F.PRT_EVT_XOFF_SENT p)

/-- XOFF is in force for a class, or for all of them (8). -/
def State.xoffOn (s : State) (p c : Nat) : Bool :=
  if c = 8 then s.on (F.PRT_STAT_XOFF_ALL p) else s.bit (F.PRT_STAT_XOFF p) c

def State.setXoff (s : State) (p c : Nat) (v : Bool) : State :=
  if c = 8 then s.put (F.PRT_STAT_XOFF_ALL p) (b2n v)
  else if v then s.set1 (F.PRT_STAT_XOFF p) c else s.clr1 (F.PRT_STAT_XOFF p) c

/-- The held cells of a class against XOFF and XON. -/
def State.pauseClass (p c : Nat) (s : State) : State :=
  let h := s.heldCells p c
  if s.xoffOn p c then
    if h < s.get (F.PRT_FC_THRESH_XON p) then (s.setXoff p c false).sendPause p c 0 else s
  else if s.get (F.PRT_FC_THRESH_XOFF p) < h then
    (s.setXoff p c true).sendPause p c (s.get (F.PRT_FC_CTL_PAUSE_TIME p))
  else s

/-- The classes for which port `p` sends flow control: 8 stands for PAUSE; PFC takes precedence. -/
def State.pauseClasses (s : State) (p : Nat) : List Nat :=
  if s.on (F.PRT_FC_CTL_TX_PFC_EN p) then (List.range 8).filter fun c => s.bit (F.PRT_FC_CTL_PFC_CLASSES p) c
  else if s.on (F.PRT_FC_CTL_TX_PAUSE_EN p) then [8] else []

/-- The held cells of a port whose link is UP are compared with its thresholds (R181). -/
def State.pauseEval (s : State) (p : Nat) : State :=
  if 20 ≤ p || s.get (F.PRT_STAT_LINK p) != 3 then s else forEach (s.pauseClasses p) (State.pauseClass p) s

/-! Storing frames. -/

/-- A refused egress queue is counted: in SWC_HOLD_LIMIT_CNT for a port in HOLD (R153), else in SWC_BUF_DROP_CNT
(R123). -/
def State.refuse (s : State) (o : Nat) : State :=
  if s.swState o = 2 then s.count C.SWC_HOLD_LIMIT else (s.count C.SWC_BUF_DROP).raise F.SWC_EVT_BUF_DROP

/-- A frame as it enters: stored nowhere yet. -/
def SwFrame.new (p cls : Nat) (b : Bytes) (len vid pri : Nat) : SwFrame :=
  ⟨0, p, cls, b, len, vid, [], false, none, false, false, false, bankOf p, 0, 0, none, pri, false, none, none, none, false,
    none⟩

/-- The marks of ECC errors in the cells that a frame is written to go. -/
def State.healCells (s : State) (f : SwFrame) : State :=
  let at_ := (List.range (cellsOf f.len)).map f.cellAddr
  s.setFab { s.fab with ecc := s.fab.ecc.filter fun m => !at_.any fun a => decide (a ≤ m.addr) && decide (m.addr < a + 192) }

/-- A frame takes its id and its place in the packet buffer, and notes where preemption is inactive (R177). -/
def State.placed (s : State) (f : SwFrame) : State × SwFrame :=
  let f := { f with
    id := s.swc.nextId
    whole := (List.range 20).foldl (fun m p => if s.preempts p then m else setBit m p) 0 }
  ((s.healCells f).onSwc fun w => { w with nextId := w.nextId + 1 }, f)

/-- The switch core reads `n` cells of a frame from cell `k`: errors are corrected or reported, and an uncorrectable one ends
the frame on the port that it is read for (R69, R70, R151). A frame of the hardware's own has no cells. -/
def State.readCells (s : State) (f : SwFrame) (k n : Nat) : State × Bool :=
  if f.inPort = 24 then (s, false)
  else
    let at_ := (List.range n).map fun i => f.cellAddr (k + i)
    let bad := at_.any fun a => s.eccBad a 192
    let t := forEach at_ (fun a u => u.eccRead a 192 0 false) s
    (if bad then (t.count C.SWC_MEDIA_DROP).raise F.SWC_EVT_MEDIA_DROP else t, bad)

/-- A frame is stored for the ports of its `left`: the credits of their queues are first brought up to now (R176), and flow
control follows (R181). -/
def State.enqueue (s : State) (f : SwFrame) : State :=
  let s := forEach (f.left.map (·.1)) (fun o t => t.cbsUpdate o) s
  let r := s.placed f
  (r.1.onSwc fun w => { w with frames := w.frames ++ [r.2] }).pauseEval f.inPort

/-- A mirror copy toward an analysis port, in class 0, from the pool only, in the bank of its port's side (R135, R136,
R252). -/
def State.mirrorTo (s : State) (p : Nat) (b : Bytes) (dest : Nat) : State :=
  let n := cellsOf (b.length + 4)
  if s.silent && decide (dest < 20) then s.count C.PAI_SILENT_DROP
  else if admitMirror (s.get F.SWC_POOL_RSV_MIR_CAP) s.poolSize n s.mirrorUsed s.poolFree && s.swState dest != 0 then
    s.enqueue { SwFrame.new p 0 b (b.length + 4) 4096 0 with
      mirror := true, multi := true, left := [(dest, n)], bank := if dest < 12 ∨ dest = 20 then 0 else 1 }
  else (s.count C.SWC_MIRROR_DROP).raise F.SWC_EVT_MIRROR_DROP

/-- Mirror session `m` selects a frame of stream `h` at port `p`, at ingress (`egress` false) or at egress. -/
def State.mirrorHit (s : State) (m p : Nat) (h : Option Nat) (egress : Bool) : Bool :=
  s.on (F.SWC_MIR_CTL_EN m) &&
    (if s.on (F.SWC_MIR_CTL_FLOW m) then !egress && h == some (s.get (F.SWC_MIR_CTL_STREAM m))
     else s.bit (F.SWC_MIR_SRC_PORTS m) p &&
       (let d := s.get (F.SWC_MIR_CTL_DIR m); if egress then d != 0 else d != 1))

/-- The sessions of `mask` not yet done copy a frame; the answer holds the sessions now done. -/
def State.mirrors (s : State) (p : Nat) (h : Option Nat) (egress : Bool) (b : Bytes) (done : Nat) : State × Nat :=
  (List.range 4).foldl (fun t m =>
    if !bitOf t.2 m && s.mirrorHit m p h egress then
      (t.1.mirrorTo p b (s.get (F.SWC_MIR_CTL_DEST m)), setBit t.2 m)
    else t) (s, done)

/-- A frame is admitted to the queues of `ports` and stored, or refused by each that has no room (R122, R123); a module whose
ports are silent drops and counts it toward each of them (R483). A stored frame is copied to the mirrors of its ingress, as
`raw`. The answer says whether it is dealt with: false where admission alone refused it. -/
def State.storeFrame (s : State) (f : SwFrame) (raw : Bytes) (ports : List Nat) : State × Bool :=
  let quiet := ports.filter fun o => s.silent && decide (o < 20)
  let s := s.count C.PAI_SILENT_DROP quiet.length
  let ports := ports.filter fun o => !quiet.contains o
  let n := cellsOf f.len
  let ok := ports.filter (s.queueTakes f.cls n)
  let s := forEach (ports.filter fun o => !ok.contains o) (fun o t => t.refuse o) s
  if ok.isEmpty then (s, ports.isEmpty && !quiet.isEmpty)
  else
    let id := s.swc.nextId
    let r := (s.enqueue { f with left := ok.map fun o => (o, n) }).mirrors f.inPort f.stream false raw 0
    (r.1.onSwc fun w => { w with frames := w.frames.map fun g => if g.id = id then { g with mirrored := r.2 } else g }, true)

/-- The egress ports of a mask that a frame from port `p` may take: forwarding, not its own, not DOWN (R139). -/
def State.egressSet (s : State) (p mask : Nat) : List Nat :=
  (List.range 24).filter fun o =>
    bitOf mask o && o != p && s.get (F.SWC_PCFG_STP o) == 2 && s.swState o != 0

/-! The path of a frame into the switch core (R122). -/

/-- What is known of a frame when it enters. -/
structure Entry where
  port : Nat
  /-- destination address to last data byte -/
  bytes : Bytes
  /-- class set by a stream filter, its gate, a pattern node or a gateway rule (R116) -/
  cls : Option Nat
  rxTs : Option Nat
  /-- egress ports that are free for it to be cut through to (R149) -/
  cut : List Nat := []

/-- The frame's VID: of its tag, or of its port. -/
def State.entryVid (s : State) (e : Entry) : Nat :=
  let v := if isTagged e.bytes then be16 e.bytes 14 % 4096 else 0
  if v = 0 then s.get (F.SWC_PCFG_PVID e.port) else v

/-- The frame's PCP and drop-eligible bits. -/
def State.entryPri (s : State) (e : Entry) : Nat :=
  if isTagged e.bytes then be16 e.bytes 14 / 4096 else 2 * s.get (F.SWC_PCFG_DEF_PCP e.port)

/-- The frame's class (R116). -/
def State.entryClass (s : State) (e : Entry) : Nat :=
  match e.cls with
  | some c => c
  | none => s.pcpClass (s.entryPri e / 2)

/-- The address is one of 01-80-C2-00-00-00 to -0F (R141). -/
def isReserved (mac : Nat) : Bool := mac / 16 == 0x0180C2000000 / 16

/-- What becomes of a frame that enters: stored or sent on, gone by a rule of its own, or refused by admission or an ingress
check (R157). -/
inductive Taken where
  | stored
  | gone
  | refused
  deriving DecidableEq, Repr

/-- A frame to a reserved address is trapped to C or H, or dropped and counted (R141). One for H while H is DOWN is discarded
(DESIGN CHOICE, log 97). -/
def State.trap (s : State) (e : Entry) (h : Option Nat) (dst : Nat) : State × Taken :=
  if s.bit F.SWC_TRAP_MASK (dst % 16) then
    let d := if s.on F.SWC_TRAP_DEST then 20 else 21
    if s.swState d = 0 then (s, .gone)
    else
      let r := s.storeFrame { SwFrame.new e.port (s.entryClass e) e.bytes (e.bytes.length + 4) 4096 0 with
        trapped := true, rxTs := e.rxTs, stream := h } e.bytes [d]
      (r.1, if r.2 then .stored else .refused)
  else (s.count C.SWC_RSV_DROP, .refused)

/-- A frame fails the VLAN checks (R140). -/
def State.vlanFails (s : State) (p vid : Nat) : Bool :=
  match s.vlan vid with
  | none => true
  | some v => vid == 4095 || (s.on (F.SWC_PCFG_INGRESS_FILTER p) && !bitOf v.members p)

/-- The egress mask of a destination and FID, and whether it is learned or static rather than flooded; none where the
entry discards (R139). -/
def State.fdbMask (s : State) (dst fid members : Nat) : Option (Nat × Bool) :=
  match s.fdbFind dst fid with
  | some e => if e.discard then none else some (e.ports, true)
  | none => some (members, false)

/-- Sequence generation or recovery of a frame's stream: the state, the frame's bytes and the verdict (R144 to R146). A frame
of a recovery stream that carries no R-TAG passes without recovery (DESIGN CHOICE, log 97). -/
def State.cbApply (s : State) (h : Option Nat) (b : Bytes) : State × Bytes × CbVerdict :=
  match h with
  | none => (s, b, .pass)
  | some h =>
    match s.stream h with
    | none => (s, b, .pass)
    | some e =>
      if e.role = 1 then
        let c := s.cbOf h
        (s.setCb h { c with gen := (c.gen + 1) % 65536 }, addRTag b c.gen, .pass)
      else if e.role = 0 || !hasRTag b then (s, b, .pass)
      else if e.role = 2 then let v := s.cbVector h e (rTagSeq b); (v.1, b, v.2)
      else let v := s.cbReseq h e (rTagSeq b); (v.1, b, v.2)

/-- The role of a stream is recovery. -/
def State.recovers (s : State) (h : Option Nat) : Bool :=
  match h with
  | none => false
  | some h => match s.stream h with | some e => decide (2 ≤ e.role) | none => false

/-- A frame with its egress ports is stored: at once, or held by the resequencer, which then releases what it can. -/
def State.storeCb (s : State) (f : SwFrame) (raw : Bytes) (h : Option Nat) (v : CbVerdict) (q : Nat) (ports : List Nat) :
    State × Bool :=
  match v, h with
  | .discard, _ => (s, true)
  | .hold, some h =>
    let r := s.storeFrame { f with held := some (h, q, s.now) } raw ports
    let lim := match r.1.stream h with | some e => e.reseqFrames | none => 32
    if lim < (r.1.heldOf h).length then (r.1.skipToHeld h, r.2) else r
  | _, some h => let r := s.storeFrame f raw ports; (State.releaseRun 33 h r.1, r.2)
  | _, none => s.storeFrame f raw ports

/-- What forwarding finds for a frame: its VID and stream, its egress ports, and whether its address is known (R139). -/
structure Route where
  vid : Nat
  stream : Option Nat
  ports : List Nat
  known : Bool

/-- The route of a frame that has passed the ingress checks; none where it is discarded. -/
def State.route (s : State) (e : Entry) : Option Route :=
  let vid := s.entryVid e
  match s.vlan vid with
  | none => none
  | some v =>
    match s.fdbMask (be48 e.bytes 0) v.fid v.members with
    | none => none
    | some fm =>
      let ports := s.egressSet e.port fm.1
      if ports.isEmpty then none else some ⟨vid, s.streamOf (be48 e.bytes 0) (be48 e.bytes 6) vid, ports, fm.2⟩

/-- A frame as it is stored, with the bytes `b` that sequence generation leaves of it untagged: an R-TAG adds to its
length. -/
def State.frameOf (s : State) (e : Entry) (r : Route) (b : Bytes) : SwFrame :=
  { SwFrame.new e.port (s.entryClass e) b (e.bytes.length + 4 + (b.length - (stripTag e.bytes).length)) r.vid (s.entryPri e) with
    multi := !r.known || decide (1 < r.ports.length), stream := r.stream, stripR := s.recovers r.stream, rxTs := e.rxTs }

/-- The port that a frame is cut through to: the one it goes to, free for it, unicast and of a stream handle (R149). -/
def Route.cutTo (r : Route) (e : Entry) (v : CbVerdict) : Option Nat :=
  match r.ports with
  | [o] => if r.known && r.stream.isSome && v == .pass && e.cut.contains o then some o else none
  | _ => none

/-- A frame is cut through to port `o`: it is on the line since its first cell was there, and is copied to mirrors, which store
and forward it (R136, R149). -/
def State.cutThrough (s : State) (f : SwFrame) (o : Nat) (raw : Bytes) : State :=
  let r := (s.cbsUpdate o).placed { f with multi := false }
  let f := r.2
  let t := r.1.setLine o { r.1.line o with cur := some ⟨f, s.now - (f.len - 192) * s.byteTime o / 10, none, 0, false⟩ }
  let m := t.mirrors f.inPort f.stream false raw 0
  (m.1.mirrors o f.stream true (m.1.egressBytes f o) m.2).1

/-- A frame with its route goes through its stream's recovery, and is cut through or stored. -/
def State.forwardFrame (s : State) (e : Entry) (r : Route) : State × Taken :=
  let strip := stripTag e.bytes
  let c := s.cbApply r.stream strip
  let f := s.frameOf e r c.2.1
  match r.cutTo e c.2.2 with
  | some o =>
    if c.1.queueTakes f.cls (cellsOf f.len) o then
      let t := c.1.cutThrough f o e.bytes
      (match r.stream with | some h => State.releaseRun 33 h t | none => t, .stored)
    else (c.1.refuse o, .refused)
  | none =>
    let t := c.1.storeCb f e.bytes r.stream c.2.2 (rTagSeq strip) r.ports
    (t.1, if c.2.2 == .discard then .gone else if t.2 then .stored else .refused)

/-- The switch core takes frames: it forwards, and the module is not in DOZE (R325). -/
def State.swRuns (s : State) : Bool := s.on F.SWC_CTL_FWD_EN && s.get F.WAK_STAT_STATE != 2

/-- A frame enters the switch core: its source is learned, it is classified, its egress set found, and it is sent on or stored
and copied to mirrors (R122, R135 to R146). With FWD_EN 0 it is discarded before all of this (DESIGN CHOICE, log 97). -/
def State.swIngress (s : State) (e : Entry) : State × Taken :=
  let dst := be48 e.bytes 0
  let src := be48 e.bytes 6
  if !s.swRuns then (s, .refused)
  else
    let vid := s.entryVid e
    let fails := s.vlanFails e.port vid
    let t := match s.vlan vid with
      | some v => if fails then s else s.learn e.port src v.fid
      | none => s
    if isReserved dst then t.trap e (s.streamOf dst src vid) dst
    else if fails then ((s.count C.SWC_VLAN_DROP).raise F.SWC_EVT_VLAN_DROP, .refused)
    else if t.get (F.SWC_PCFG_STP e.port) != 2 then (t, .refused)
    else
      match t.route e with
      | none => (t, .gone)
      | some r => t.forwardFrame e r

/-! Delivery to ports H and C (R157). -/

/-- A started descriptor of round `n`, function `f`, opcode `op`, whose operation has not ended; the oldest. -/
def State.openOp (s : State) (n f op : Nat) : Option Desc :=
  s.rnd.descs.find? fun d => d.round == n && d.started && d.fin.isNone && d.func == f && d.opcode == op

/-- The round that receives class `c` frames for port H (20) or C (21). -/
def State.rxRound (s : State) (p c : Nat) : Nat :=
  let lo := if p = 20 then s.get F.SWC_HRX_MAP_LO_ROUND else s.get F.SWC_CRX_MAP_LO_ROUND
  let hi := if p = 20 then s.get F.SWC_HRX_MAP_HI_ROUND else s.get F.SWC_CRX_MAP_HI_ROUND
  if c < 4 then lo / 256 ^ c % 256 else hi / 256 ^ (c - 4) % 256

def State.noBuf (s : State) : State := (s.count C.SWC_HOST_NOBUF).raise F.SWC_EVT_NOBUF

/-- A frame for port H or C fills the oldest started FRAME_RECV of its class's round, or is dropped and counted. -/
def State.deliver (s : State) (p : Nat) (f : SwFrame) : State :=
  let n := s.rxRound p f.cls
  let b := s.egressBytes f p
  if s.rFunc n != 4 || (p == 20) != (s.rOwner n == 2) then s.noBuf
  else
    match s.openOp n 4 9 with
    | none => s.noBuf
    | some d =>
      if d.len < b.length then s.noBuf
      else
        let fl := b2n f.rxTs.isSome + 2 * b2n f.trapped
        s.finishBuf d 0 b St.OK
          (b.length % 65536 + f.inPort * 2 ^ 16 + fl * 2 ^ 24 + f.rxTs.getD 0 * 2 ^ 32)

/-! HOLD (R152, R153). -/

/-- The frames queued or staged toward port `p`. -/
def State.framesTo (s : State) (p : Nat) : List SwFrame :=
  (s.swc.frames.filter fun f => decide (0 < f.cellsAt p)) ++ ((s.swc.staged.filter fun g => g.port == p).map (·.frame))

/-- The frames that `which` names lose egress port `p`; a frame with none left is released. Credits are first brought up to
now, and flow control follows. -/
def State.dropPort (s : State) (p : Nat) (which : SwFrame → Bool) : State :=
  let from_ := (((s.framesTo p).filter which).map (·.inPort)).eraseDups
  let s := (s.cbsUpdate p).onSwc fun w => { w with
    frames := (w.frames.map fun f => if which f then { f with left := f.left.filter (·.1 != p) } else f).filter
      fun f => !f.left.isEmpty
    staged := w.staged.filter fun g => !(g.port == p && which g.frame) }
  forEach from_ (fun i t => t.pauseEval i) s

/-- A descriptor that waits for its frame to leave ends with the status given. -/
def State.endSend (s : State) (sd : Option (Nat × Nat)) (status result : Nat) : State :=
  match sd with
  | none => s
  | some (r, i) =>
    match s.rnd.descs.find? fun d => d.round == r && d.slot == i && d.started && d.fin.isNone with
    | some d => s.finish d status result
    | none => s

/-- HOLD expires: the port's queues are flushed and counted, its learned entries go, and it is DOWN (R153). A
FRAME_SEND whose frame is flushed ends with DROPPED. -/
def State.holdExpire (s : State) (p : Nat) : State :=
  let fs := s.framesTo p
  let ids := (fs.map (·.id)).eraseDups
  let s := s.count C.SWC_HOLD_FLUSH ids.length
  let s := forEach fs (fun f t => t.endSend f.send 0x503 0) s
  let s := s.dropPort p fun _ => true
  let s := s.onSwc fun w => { w with fdb := w.fdb.filter fun e => e.static || e.ports != 2 ^ p }
  (s.put (F.SWC_PSTAT_STATE p) 0).raise F.SWC_EVT_HOLD_EXPIRE

/-- A switch port's link goes down: UP becomes HOLD for LINK_HOLD ms (R152). -/
def State.swLinkDown (s : State) (p : Nat) : State :=
  if 21 ≤ p || s.swState p != 1 then s
  else
    let ms := s.get (F.SWC_PCFG_LINK_HOLD p)
    let s := (s.put (F.SWC_PSTAT_STATE p) 2).raise F.SWC_EVT_HOLD_START
    let s := s.onSwc fun w => { w with holdEnd := storeSet cntDefault w.holdEnd p (s.now + ms * 1000000) }
    if ms = 0 then s.holdExpire p else s

/-- A switch port's link comes up. -/
def State.swLinkUp (s : State) (p : Nat) : State := if 21 ≤ p then s else s.put (F.SWC_PSTAT_STATE p) 1

end Sys2Proof.Machine
end

