-- ==== Sys2Proof/Machine/Switch.lean ====
section
/-! DEFINITION. The commands of the switch core: matchings, its timeouts, and the opcodes of R156. -/
namespace Sys2Proof.Machine

/-! Matching (R118, R119). -/

/-- A request of the queue heads at ingress port `i` in class `c` toward egress port `j`: from a unicast queue, or from
the multicast queue's head. -/
structure VReq where
  i : Nat
  j : Nat
  c : Nat
  multi : Bool
  id : Nat
  deriving DecidableEq, Repr

/-- The requests a frame makes where no earlier frame of its queues is ahead of it. -/
def headAdd (acc : List VReq) (f : SwFrame) : List VReq :=
  if f.held.isSome then acc
  else if f.multi then
    if acc.any fun r => r.multi && r.i == f.inPort && r.c == f.cls then acc
    else acc ++ f.left.map fun p => ⟨f.inPort, p.1, f.cls, true, f.id⟩
  else
    acc ++ ((f.left.filter fun p =>
      !acc.any fun r => !r.multi && r.i == f.inPort && r.j == p.1 && r.c == f.cls).map fun p =>
        ⟨f.inPort, p.1, f.cls, false, f.id⟩)

/-- The requests of every queue head. -/
def headReqs (fs : List SwFrame) : List VReq := fs.foldl headAdd []

/-- The transmit stage of port `j` has room for a cell of class `c`: it holds no whole frame of the class (DESIGN
CHOICE, log 21). -/
def State.stageRoom (s : State) (j c : Nat) : Bool :=
  !s.swc.staged.any fun g => g.port == j && g.frame.cls == c && decide (cellsOf g.frame.len ≤ g.cells)

/-- A queue head of class `c` is eligible toward port `j` (R118). Port H has no transmit stage of cells: in HOLD it takes none,
and its frames stay queued (R153, R154; DESIGN CHOICE, log 21). -/
def State.eligible (s : State) (j c : Nat) : Bool :=
  s.gateOpen j c && s.hasCredit j c && !s.paused j c && s.stageRoom j c && !(j == 20 && s.swState 20 != 1)

/-- A matching under way: accepted requests and the pointers. -/
structure Match where
  acc : List VReq
  gPtr : Store Nat
  aPtr : Store Nat
  mcTurn : Store Nat
  deriving DecidableEq, Repr

/-- The number of `l` first at or after `p`, modulo 24. -/
def firstFrom (p : Nat) (l : List Nat) : Option Nat := ((List.range 24).map fun k => (p + k) % 24).find? fun x => l.contains x

/-- The grant of egress port `j` among the requests `rs` of unmatched inputs: the highest class, and in it the first
input at or after the pointer. -/
def grantOf (m : Match) (rs : List VReq) (j : Nat) : List (Nat × Nat × Nat) :=
  let mine := rs.filter (·.j == j)
  if mine.isEmpty then []
  else
    let c := greatest (mine.map (·.c))
    match firstFrom (storeGet cntDefault m.gPtr (j * 8 + c)) ((mine.filter (·.c == c)).map (·.i)) with
    | some i => [(j, c, i)]
    | none => []

/-- The pointers after an acceptance of the first iteration. -/
def Match.move (m : Match) (i j c : Nat) : Match :=
  { m with gPtr := storeSet cntDefault m.gPtr (j * 8 + c) ((i + 1) % 24), aPtr := storeSet cntDefault m.aPtr i ((j + 1) % 24) }

/-- Ingress port `i` accepts among its grants `gs`. -/
def acceptOf (first : Bool) (rs : List VReq) (gs : List (Nat × Nat × Nat)) (m : Match) (i : Nat) : Match :=
  let offers := gs.filter (·.2.2 == i)
  if offers.isEmpty then m
  else
    let c := greatest (offers.map (·.2.1))
    let js := (offers.filter (·.2.1 == c)).map (·.1)
    let mc := rs.filter fun r => r.i == i && r.c == c && r.multi && js.contains r.j
    let uc := rs.filter fun r => r.i == i && r.c == c && !r.multi && js.contains r.j
    let a := storeGet cntDefault m.aPtr i
    let turn := storeGet cntDefault m.mcTurn (i * 8 + c) == 1
    if !mc.isEmpty && (turn || uc.isEmpty) then
      let m := { m with acc := m.acc ++ mc, mcTurn := storeSet cntDefault m.mcTurn (i * 8 + c) 0 }
      match firstFrom a (mc.map (·.j)) with
      | some j => if first then m.move i j c else m
      | none => m
    else
      match firstFrom a (uc.map (·.j)) with
      | some j =>
        let m := { m with
          acc := m.acc ++ uc.filter (·.j == j), mcTurn := storeSet cntDefault m.mcTurn (i * 8 + c) 1 }
        if first then m.move i j c else m
      | none => m

/-- One iteration: grants, then acceptances. -/
def matchIter (rs : List VReq) (first : Bool) (m : Match) : Match :=
  let open_ := rs.filter fun r => !m.acc.any fun a => a.i == r.i || a.j == r.j
  let gs := (List.range 24).flatMap (grantOf m open_)
  (List.range 24).foldl (acceptOf first open_ gs) m

/-- The matching of `n` iterations over the eligible requests. -/
def State.matching (s : State) (n : Nat) : Match :=
  let rs := (headReqs s.swc.frames).filter fun r => s.eligible r.j r.c
  let m := matchIter rs true ⟨[], s.swc.gPtr, s.swc.aPtr, s.swc.mcTurn⟩
  iterate (matchIter rs false) (n - 1) m

/-- The frames with one cell of frame `id` toward port `j` gone; one with no cell left is released. -/
def takeCell (id j now : Nat) (fs : List SwFrame) : List SwFrame :=
  (fs.map fun f =>
    if f.id = id then
      { f with
        left := (f.left.map fun p => if p.1 = j then (j, p.2 - 1) else p).filter fun p => p.2 != 0
        first := some (f.first.getD now) }
    else f).filter fun f => !f.left.isEmpty

/-- Cells of frame `id` that reached the stage of port `j`. -/
def stageAdd (j : Nat) (f : SwFrame) (st : List Staged) : List Staged :=
  if st.any fun g => g.port == j && g.frame.id == f.id then
    updFirst (fun g => g.port == j && g.frame.id == f.id) (fun g => { g with cells := g.cells + 1 }) st
  else st ++ [⟨j, f, 1⟩]

/-- A whole frame has reached egress port `j`: it is copied to egress mirrors, and an internal port, for which its cells have now
been read, takes it (R151). -/
def State.reach (s : State) (j : Nat) (f : SwFrame) : State :=
  let r := if j < 20 then (s, false) else s.readCells f 0 (cellsOf f.len)
  if r.2 then r.1
  else
    let s := r.1
    let m := if f.mirror then (s, f.mirrored) else s.mirrors j f.stream true (s.egressBytes f j) f.mirrored
    let s := m.1.onSwc fun w => { w with
      frames := w.frames.map fun g => if g.id = f.id then { g with mirrored := m.2 } else g }
    if j = 20 ∨ j = 21 then s.deliver j f
    else if j = 22 then
      if f.block then s.onSwc fun w => { w with transit := w.transit ++ [(f.cls, f.bytes)] }
      else s.onSwc fun w => { w with aIn := w.aIn ++ [s.egressBytes f 22] }
    else if j = 23 then s.onSwc fun w => { w with wIn := w.wIn ++ [(f.stream, s.egressBytes f 23)] }
    else s

/-- One cell crosses for an accepted request. -/
def State.moveCell (r : VReq) (s : State) : State :=
  match s.swc.frames.find? (·.id == r.id) with
  | none => s
  | some f =>
    let last := f.cellsAt r.j == 1
    let s := s.onSwc fun w => { w with
      frames := takeCell r.id r.j s.now w.frames
      staged := if r.j < 20 then stageAdd r.j f w.staged else w.staged }
    let s := if last then s.reach r.j f else s
    s.pauseEval f.inPort

/-- Matchings of the millisecond before the one now counted, in thousands. -/
def State.lastMs (s : State) : Nat := if s.now / 1000000 = s.swc.matchMs + 1 then s.swc.matchN / 1000 else 0

/-- A matching is counted in its millisecond (SWC_SCHED_RATE). -/
def State.countMatching (s : State) : State :=
  let ms := s.now / 1000000
  if ms = s.swc.matchMs then s.onSwc fun w => { w with matchN := w.matchN + 1 }
  else (s.put F.SWC_SCHED_RATE_KMATCH s.lastMs).onSwc fun w => { w with matchMs := ms, matchN := 1 }

/-- One matching and its transfers (R119). -/
def State.runMatching (s : State) : State :=
  let s := forEach (List.range 20) (fun p t => t.cbsUpdate p) s
  let m := s.matching (s.get F.SWC_SCHED_CTL_ITER)
  let s := s.onSwc fun w => { w with gPtr := m.gPtr, aPtr := m.aPtr, mcTurn := m.mcTurn }
  forEach m.acc State.moveCell s.countMatching

/-- MATCHING; in DOZE the switch core stands still (R325). -/
def execMatching (s : State) : Res := .next (if s.get F.WAK_STAT_STATE = 2 then s else s.runMatching)

/-! Timeouts. -/

/-- The residue of a frame has been open for SWC_MC_TMO (R126). -/
def State.residueDue (s : State) (f : SwFrame) : Bool :=
  f.multi && (match f.first with | some t => decide (t + 1000 * s.get F.SWC_MC_TMO_TMO_US ≤ s.now) | none => false)

/-- The residue of a frame is dropped, each of its ports counted, and the frame released (R126, R136). -/
def State.dropResidue (f : SwFrame) (s : State) : State :=
  let s := forEach (f.left.map (·.1)) (fun o t => t.cbsUpdate o) s
  let s := s.onSwc fun w => { w with
    frames := w.frames.filter fun g => g.id != f.id
    staged := w.staged.filter fun g => !(g.frame.id == f.id && decide (g.cells < cellsOf f.len)) }
  let s := (s.count C.SWC_MC_RESIDUE f.left.length).raise F.SWC_EVT_MC_RESIDUE
  let s := if f.mirror then (s.count C.SWC_MIRROR_DROP).raise F.SWC_EVT_MIRROR_DROP else s
  s.pauseEval f.inPort

def execMcResidueTimeout (s : State) : Res :=
  .next (forEach (s.swc.frames.filter s.residueDue) State.dropResidue s)

/-- AGE_EXPIRY: a learned entry not refreshed for AGE_S seconds is removed while AGE_EN is 1 (R138). -/
def execAgeExpiry (idx : Nat) (s : State) : Res :=
  .next (if s.on F.SWC_CTL_AGE_EN && s.swc.fdb.any fun e =>
      e.idx == idx && !e.static && decide (e.seen + 1000000000 * s.get F.SWC_AGE_AGE_S ≤ s.now)
    then s.fdbDrop idx else s)

/-- The oldest arrival among the frames held for a handle. -/
def State.oldestHeld (s : State) (h : Nat) : Option Nat :=
  (s.heldOf h).foldl (fun m x => match m with | none => some x.2 | some y => some (min y x.2)) none

def execCbReseqTimeout (h : Nat) (s : State) : Res :=
  .next (match s.stream h, s.oldestHeld h with
    | some e, some t => if t + 1000 * e.reseqUs ≤ s.now then s.skipToHeld h else s
    | _, _ => s)

/-- The frames held for a handle are released in sequence order. -/
def State.releaseAll : Nat → Nat → State → State
  | 0, _, s => s
  | n + 1, h, s =>
    let c := s.cbOf h
    match nearest c.next ((s.heldOf h).map (·.1)) with
    | none => s
    | some q => State.releaseAll n h ((s.cbEmit h q).setCb h { c with next := (q + 1) % 65536 })

/-- Recovery state starts afresh; sequence generation goes on. -/
def State.cbClear (s : State) (h : Nat) : State :=
  let s := State.releaseAll 33 h s
  s.setCb h { cbDefault 0 with gen := (s.cbOf h).gen }

def execCbResetTimeout (h : Nat) (s : State) : Res :=
  .next (match s.stream h with
    | some e =>
      if decide (2 ≤ e.role) && (s.cbOf h).started && decide ((s.cbOf h).lastAt + 1000000 * e.resetMs ≤ s.now)
      then (s.cbClear h).raise F.SWC_EVT_CB_RESET else s
    | none => s)

def execHoldExpire (p : Nat) (s : State) : Res :=
  .next (if s.swState p = 2 ∧ storeGet cntDefault s.swc.holdEnd p ≤ s.now then s.holdExpire p else s)

/-! Opcodes (R156). -/

/-- The MAC address and FID of a forwarding opcode. -/
def Desc.fdbMac (d : Desc) : Nat := be48 d.raw 20
def Desc.fdbFid (d : Desc) : Nat := u16 d.raw 26

/-- The way a new entry takes in a bucket: a free one, or that of the learned entry with the oldest refresh. -/
def State.fdbWay (s : State) (b : Nat) : Option Nat :=
  match s.fdbFree b with
  | some w => some (b * 4 + w)
  | none =>
    ((s.fdbBucketOf b).filter fun e => !e.static).foldl (fun (m : Option FdbEnt) e =>
      match m with
      | none => some e
      | some x => if e.seen < x.seen then some e else some x) none |>.map (·.idx)

/-- FDB_ADD. -/
def State.fdbAdd (s : State) (d : Desc) : State :=
  let fl := u8 d.raw 32
  if !d.noBuf || decide (4096 ≤ d.fdbFid) || decide (2 ^ 24 ≤ u32 d.raw 28) || decide (4 ≤ fl) then s.finish d St.BADARG 0
  else
    let i := match s.fdbFind d.fdbMac d.fdbFid with
      | some e => some e.idx
      | none => s.fdbWay (fdbBucket d.fdbMac d.fdbFid)
    match i with
    | none => s.finish d 0x0500 0
    | some i =>
      (s.fdbPut ⟨i, d.fdbMac, d.fdbFid, u32 d.raw 28, bitOf fl 0, bitOf fl 1, s.now⟩).finish d St.OK i

def execFdbAdd (r : Nat) (s : State) : Res := .next (s.withOp r 4 1 fun d => s.fdbAdd d)

/-- FDB_DEL. -/
def State.fdbDel (s : State) (d : Desc) : State :=
  if !d.noBuf then s.finish d St.BADARG 0
  else
    match s.fdbFind d.fdbMac d.fdbFid with
    | some e => (s.fdbDrop e.idx).finish d St.OK 0
    | none => s.finish d 0x0501 0

def execFdbDel (r : Nat) (s : State) : Res := .next (s.withOp r 4 2 fun d => s.fdbDel d)

/-- FDB_LOOKUP. -/
def State.fdbLookup (s : State) (d : Desc) : State :=
  if !d.noBuf then s.finish d St.BADARG 0
  else
    match s.fdbFind d.fdbMac d.fdbFid with
    | some e =>
      s.finish d St.OK (e.ports + 2 ^ 32 * (b2n e.static + 2 * b2n e.discard) +
        2 ^ 48 * min 65535 ((s.now - e.seen) / 1000000000))
    | none => s.finish d 0x0501 0

def execFdbLookup (r : Nat) (s : State) : Res := .next (s.withOp r 4 3 fun d => s.fdbLookup d)

/-- An entry is one that FDB_FLUSH removes. -/
def flushHits (d : Desc) (e : FdbEnt) : Bool :=
  let fl := u8 d.raw 20
  (bitOf fl 2 || !e.static) && (!bitOf fl 0 || bitOf e.ports (u8 d.raw 21)) && (!bitOf fl 1 || e.fid == u16 d.raw 22)

/-- One stitch of FDB_FLUSH: 1,024 entries examined. -/
def State.fdbFlush (s : State) (d : Desc) : State :=
  if !d.noBuf then s.finish d St.BADARG 0
  else
    let hit := fun (e : FdbEnt) => decide (d.prog ≤ e.idx) && decide (e.idx < d.prog + 1024) && flushHits d e
    let n := (s.swc.fdb.filter hit).length
    let s := s.onSwc fun w => { w with fdb := w.fdb.filter fun e => !hit e }
    let acc := d.acc + n + 2 ^ 32 * 1024
    if 32768 ≤ d.prog + 1024 then s.lastStitch d St.OK acc else s.stitched d (d.prog + 1024) acc

def execFdbFlush (r : Nat) (s : State) : Res := .next (s.withOp r 4 4 fun d => s.fdbFlush d)

/-- VLAN_SET. -/
def State.vlanSet (s : State) (d : Desc) : State :=
  let v := u16 d.raw 20
  let m := u32 d.raw 24
  if !d.noBuf || v == 0 || decide (4095 ≤ v) || decide (4096 ≤ u16 d.raw 22) || decide (2 ^ 24 ≤ m) ||
      decide (2 ^ 24 ≤ u32 d.raw 28) then s.finish d St.BADARG 0
  else
    let e := if m = 0 then none else some ⟨u16 d.raw 22, m, u32 d.raw 28⟩
    (s.onSwc fun w => { w with vlans := storeSet noneDefault w.vlans v e }).finish d St.OK 0

def execVlanSet (r : Nat) (s : State) : Res := .next (s.withOp r 4 5 fun d => s.vlanSet d)

/-- The entry that STREAM_SET names. -/
def Desc.streamEnt (d : Desc) : StreamEnt :=
  ⟨u8 d.raw 22, u8 d.raw 23, be48 d.raw 24, u16 d.raw 30, u8 d.raw 32, u8 d.raw 33, u16 d.raw 34, u16 d.raw 36⟩

/-- The arguments of STREAM_SET lie in their ranges; those of a role are checked where the role uses them. -/
def StreamEnt.ok (e : StreamEnt) : Bool :=
  (e.ident == 1 || e.ident == 2) && decide (e.role ≤ 3) && decide (e.vid ≤ 4095) &&
    (decide (e.role < 2) || (decide (2 ≤ e.history) && decide (e.history ≤ 32) && e.resetMs != 0)) &&
    (decide (e.role < 3) || (e.reseqFrames != 0 && decide (e.reseqFrames ≤ 32) && decide (50 ≤ e.reseqUs) &&
      decide (e.reseqUs ≤ 500)))

/-- The identification of `e` is bound to a handle other than `h`. -/
def State.streamDup (s : State) (h : Nat) (e : StreamEnt) : Bool :=
  s.swc.streams.any fun x =>
    x.1 != h && (match x.2 with | some y => y.ident == e.ident && y.mac == e.mac && y.vid == e.vid | none => false)

def State.putStream (s : State) (h : Nat) (e : Option StreamEnt) : State :=
  (s.cbClear h).onSwc fun w => { w with streams := storeSet noneDefault w.streams h e }

/-- STREAM_SET. -/
def State.streamSet (s : State) (d : Desc) : State :=
  let h := u16 d.raw 20
  let e := d.streamEnt
  if !d.noBuf || decide (1024 ≤ h) || !e.ok then s.finish d St.BADARG 0
  else if s.streamDup h e then s.finish d 0x0502 0
  else (s.putStream h (some e)).finish d St.OK 0

def execSwcStreamSet (r : Nat) (s : State) : Res := .next (s.withOp r 4 6 fun d => s.streamSet d)

/-- STREAM_CLEAR; the handle's sequence state goes with it. -/
def State.streamClear (s : State) (d : Desc) : State :=
  let h := u16 d.raw 20
  if !d.noBuf || decide (1024 ≤ h) then s.finish d St.BADARG 0
  else ((s.putStream h none).setCb h (cbDefault 0)).finish d St.OK 0

def execStreamClear (r : Nat) (s : State) : Res := .next (s.withOp r 4 7 fun d => s.streamClear d)

/-- The port a SWC descriptor sends and receives through: H for partition 2, C for any other (R157). -/
def State.swcPort (s : State) (d : Desc) : Nat := if s.dPid d = 2 then 20 else 21

/-- FRAME_SEND with a named egress port: the frame is queued there alone, and the descriptor waits for it to leave. One that
admission or the port's MAX_LEN refuses ends DROPPED with no other effect; so does one for a port that is DOWN (DESIGN CHOICE,
log 97). -/
def State.sendNamed (s : State) (d : Desc) (o c : Nat) : State :=
  let n := d.len + 4
  if s.swState o = 0 || !s.queueTakes c (cellsOf n) o || decide (s.get (F.PRT_MODE_MAX_LEN o) < n) then s.finish d 0x503 0
  else
    let p := s.swcPort d
    let e : Entry := ⟨p, d.buf, some c, none, []⟩
    let f := { SwFrame.new p c d.buf n 4096 0 with
      send := some (d.round, d.slot), tsTag := if bitOf (u8 d.raw 20) 0 then some (u16 d.raw 24) else none
      stream := s.streamOf (be48 d.buf 0) (be48 d.buf 6) (s.entryVid e) }
    let r := s.storeFrame f d.buf [o]
    if !s.silent then r.1.updDesc d fun e => { e with running := true, acc := s.timNow }
    else r.1.finish d 0x503 0

/-- FRAME_SEND (R157): a forwarded frame that admission or an ingress check refuses has no other effect. -/
def State.frameSend (s : State) (d : Desc) : State :=
  let fl := u8 d.raw 20
  let o := u8 d.raw 21
  let k := u8 d.raw 22
  if decide (d.len < 60) || decide (9212 < d.len) || decide (2 ≤ fl) || (decide (20 ≤ o) && o != 0xFF) ||
      (decide (8 ≤ k) && k != 0xFF) || (o == 0xFF && bitOf fl 0) then s.finish d St.BADARG 0
  else
    let e : Entry := ⟨s.swcPort d, d.buf, if k = 0xFF then none else some k, none, []⟩
    if o = 0xFF then
      let r := s.swIngress e
      if r.2 = .refused then s.finish d 0x503 0 else r.1.finish d St.OK s.timNow
    else s.sendNamed d o (s.entryClass e)

def execFrameSend (r : Nat) (s : State) : Res := .next (s.withOp r 4 8 fun d => s.frameSend d)

/-- FRAME_RECV: the descriptor waits for a frame (R157). -/
def execFrameRecv (r : Nat) (s : State) : Res :=
  .next (s.withOp r 4 9 fun d => s.hold d)

end Sys2Proof.Machine
end

