-- ==== Sys2Proof/Machine/Gates.lean ====
section
/-! DEFINITION. Gate lists and the engines that run them: the time-aware gates of ports (R170 to R175) and the stream
gates (R184). -/
namespace Sys2Proof.Machine

/-- The distance in ns from `a` forward to `b` on the 32-bit count. -/
def ahead32 (a b : Nat) : Nat := (b + 2 ^ 32 - a % 2 ^ 32) % 2 ^ 32

def gateDefault (_ : Nat) : GateCtl := ⟨none, 0, 0, false, none⟩
/-- The gate engine at key `k`: port n at n, stream gate g at 32 + g. -/
def State.gate (s : State) (k : Nat) : GateCtl := storeGet gateDefault s.prt.gates k
def State.setGate (s : State) (k : Nat) (g : GateCtl) : State :=
  s.onPrt fun t => { t with gates := storeSet gateDefault t.gates k g }

/-- The entries of a list as they run within one cycle: those past its end left out, one that runs over it cut, the last
held until it (R171). -/
def cutEnts (cycle : Nat) : Nat → List GateEnt → List GateEnt
  | _, [] => []
  | t, e :: r =>
    if cycle ≤ t then []
    else if r.isEmpty ∨ cycle ≤ t + e.interval then [{ e with interval := cycle - t }]
    else e :: cutEnts cycle (t + e.interval) r

def GateList.run (l : GateList) : List GateEnt := cutEnts l.cycle 0 l.ents

/-- The time from the cycle's start to the end of entry `i`. -/
def GateList.endOf (l : GateList) (i : Nat) : Nat := ((l.run.take (i + 1)).map (·.interval)).sum

/-- The entry that runs `t` ns into the cycle. -/
def seekEnt : Nat → List GateEnt → Nat → Nat
  | i, [], _ => i - 1
  | i, e :: r, t => if t < e.interval then i else seekEnt (i + 1) r (t - e.interval)

/-- The cycle start, a whole number of cycles from the one at `base`, and the entry that contain `now`, which may lie before
`base` (R171, R175). -/
def GateList.seek (l : GateList) (base now : Nat) : Nat × Nat :=
  let d := sint 32 (ahead32 base now)
  let k := d / (max l.cycle 1 : Nat)
  (ofInt 32 (base + k * l.cycle), seekEnt 0 l.run (d - k * l.cycle).toNat)

/-- The entry in force of an engine. -/
def GateCtl.ent (g : GateCtl) : Option GateEnt :=
  match g.oper with
  | some l => l.run[g.idx]?
  | none => none

/-- A frame of class `c` queued toward port `p` in HOLD has missed its window: it is dropped and counted (R153); a FRAME_SEND
of it ends DROPPED (DESIGN CHOICE, log 97). -/
def State.holdLate (s : State) (p c : Nat) : State :=
  if s.swState p != 2 then s
  else
    let fs := (s.framesTo p).filter (·.cls == c)
    let s := s.count C.SWC_HOLD_LATE (fs.map (·.id)).eraseDups.length
    let s := forEach fs (fun f t => t.endSend f.send 0x503 0) s
    s.dropPort p fun f => f.cls == c

/-- The gate states `v` take effect at port `p`, whose credits are first brought up to now; a class that closes on a port
in HOLD loses what waits in it. -/
def State.setStates (s : State) (p v : Nat) : State :=
  let old := s.get (F.PRT_GATE_STAT_STATES p)
  let s := (s.cbsUpdate p).put (F.PRT_GATE_STAT_STATES p) v
  forEach (List.range 8) (fun c t => if bitOf old c && !bitOf v c then t.holdLate p c else t) s

/-- The 802.3br hold request of an entry's operation; where preemption is not active there is none to make (R172). -/
def State.gateOp (s : State) (p op : Nat) : State :=
  if op = 1 ∧ s.preempts p then s.setLine p { s.line p with hold := true }
  else if op = 2 then s.setLine p { s.line p with hold := false }
  else s

/-- The registers of port `p` show its engine, and its entry takes effect (R171). Stream gates have no registers. -/
def State.showGate (s : State) (p : Nat) : State :=
  let g := s.gate p
  if 20 ≤ p then s
  else
    let s := s.put (F.PRT_GATE_STAT_PENDING p) (b2n g.pend.isSome)
    let s := s.put (F.PRT_GATE_PBASE_TIME p) (match g.pend with | some l => l.base | none => 0)
    let s := (s.put (F.PRT_GATE_STAT_ENTRY p) g.idx).put (F.PRT_GATE_CYC_TIME p) g.cyc
    if s.on (F.PRT_GATE_CTL_GATE_EN p) then
      match g.ent with
      | some e => (s.setStates p e.states).gateOp p e.op
      | none => s.setStates p 0xFF
    else (s.setStates p 0xFF).gateOp p 2

/-- TIM_NOW has reached `t`, within a half-range. -/
def State.reached (s : State) (t : Nat) : Bool := !before s.timNow t

/-- An old cycle's start that a pending list's BASE follows within EXT does not happen (R173). -/
def GateCtl.extends (g : GateCtl) (t : Nat) : Bool :=
  match g.pend with
  | some q => decide (ahead32 t q.base < q.ext)
  | none => false

/-- The next entry or cycle of engine `k` takes effect, once due (R171). -/
def State.gateStep (s : State) (k : Nat) : State :=
  let g := s.gate k
  match g.oper with
  | none => s
  | some l =>
    let t := (g.cyc + l.endOf g.idx) % 2 ^ 32
    if g.extended || !s.reached t then s
    else if g.idx + 1 < l.run.length then (s.setGate k { g with idx := g.idx + 1 }).showGate k
    else if g.extends t then s.setGate k { g with extended := true }
    else (s.setGate k { g with cyc := t, idx := 0 }).showGate k

/-- The engine follows its lists: a port's does while GATE_EN is 1 (R174). -/
def State.gateRuns (s : State) (k : Nat) : Bool := decide (32 ≤ k) || s.on (F.PRT_GATE_CTL_GATE_EN k)

/-- The pending list of engine `k` becomes operational at its BASE (R173). -/
def State.gateSwitch (s : State) (k : Nat) : State :=
  let g := s.gate k
  match g.pend with
  | none => s
  | some q =>
    if !s.gateRuns k || !s.reached q.base then s
    else
      let p := q.seek q.base s.timNow
      let s := (s.setGate k ⟨some q, p.1, p.2, false, none⟩).showGate k
      if k < 20 then s.raise (F.PRT_EVT_GATE_SWITCH k) else s

/-- The pending list of engine `k` is due. -/
def State.gateDue (s : State) (k : Nat) : Bool :=
  match (s.gate k).pend with
  | some q => s.gateRuns k && s.reached q.base
  | none => false

/-- The entry and cycle that contain TIM_NOW take effect, of the pending list where its BASE has been passed. -/
def State.gateSeek (s : State) (k : Nat) : State :=
  let g := s.gate k
  match g.oper with
  | none => s
  | some l =>
    if !s.gateRuns k || g.extended then s
    else
      let p := l.seek g.cyc s.timNow
      (s.setGate k { g with cyc := p.1, idx := p.2 }).showGate k

/-- A step of TIM_NOW by `d`, already applied, is answered by engine `k`; after a backward step the entry in force stays
(R175). -/
def State.gateStepped (d : Int) (k : Nat) (s : State) : State :=
  let s := if d ≤ 0 then s else if s.gateDue k then s.gateSwitch k else s.gateSeek k
  if k < 20 then s.raise (F.PRT_EVT_GATE_STEP k) else s

/-- Every engine answers a step. -/
def State.gatesStepped (s : State) (d : Int) : State :=
  forEach (List.range 20 ++ (List.range 128).map (32 + ·)) (State.gateStepped d) s

/-- Time for which class `c` stays open in consecutive entries, and whether it closes among them. -/
def openRun (c : Nat) : List GateEnt → Nat × Bool
  | [] => (0, false)
  | e :: r => if bitOf e.states c then let t := openRun c r; (e.interval + t.1, t.2) else (0, true)

/-- Time in ns until the gate of class `c` of port `p` next closes under the operational list, the entry in force
lasting to BASE where its cycle is extended; none where it never does (R171, R173). -/
def State.closeIn (s : State) (p c : Nat) : Option Nat :=
  let g := s.gate p
  match g.oper with
  | none => none
  | some l =>
    if !s.gateRuns p then none
    else
      let rest := ahead32 s.timNow
        (match g.extended, g.pend with
         | true, some q => q.base
         | _, _ => (g.cyc + l.endOf g.idx) % 2 ^ 32)
      let rest := if rest < 2 ^ 31 then rest else 0
      let r := openRun c (l.run.drop (g.idx + 1) ++ l.run)
      if r.2 then some (rest + r.1) else none

/-- The longest open window of class `c` in a list's cycle; none where its gate never closes. -/
def GateList.window (l : GateList) (c : Nat) : Option Nat :=
  let es := l.run
  if es.all fun e => bitOf e.states c then none
  else some (greatestRun c 0 0 (es ++ es))
where
  /-- The longest run of open entries, `best` so far and `now` under way. -/
  greatestRun (c best cur : Nat) : List GateEnt → Nat
    | [] => max best cur
    | e :: r => if bitOf e.states c then greatestRun c best (cur + e.interval) r else greatestRun c (max best cur) 0 r

/-- Entries of 8 bytes each (R170). -/
def gateEnts : Nat → Bytes → List GateEnt
  | 0, _ => []
  | n + 1, b => ⟨u32 b 0, u8 b 4, u8 b 5⟩ :: gateEnts n (b.drop 8)

/-- A gate list's arguments, from a GCL_LOAD or QCI_GATE_LOAD descriptor. -/
def Desc.gateList (d : Desc) : GateList :=
  ⟨gateEnts (u16 d.raw 22) d.buf, u32 d.raw 24, u32 d.raw 28, u32 d.raw 32⟩

/-- An entry of a port's list, or of a stream gate's, is well formed. -/
def gateEntOk (stream : Bool) (e : GateEnt) : Bool :=
  decide (8 ≤ e.interval) && decide (e.interval ≤ 1000000000) &&
    (if stream then decide (e.states ≤ 1) && (decide (e.op ≤ 7) || e.op == 0xFF) else decide (e.op ≤ 2))

/-- Bytes 6 and 7 of every entry are 0. -/
def gateTailOk : Nat → Bytes → Bool
  | 0, _ => true
  | n + 1, b => u16 b 6 == 0 && gateTailOk n (b.drop 8)

/-- The arguments of a list load are in range (R170, R173, R186). -/
def State.gateListOk (s : State) (d : Desc) (stream : Bool) : Bool :=
  let n := u16 d.raw 22
  let l := d.gateList
  decide (1 ≤ n) && decide (n ≤ (if stream then 16 else 256)) && d.len == 8 * n && decide (1000 ≤ l.cycle) &&
    decide (l.cycle ≤ 1000000000) && decide (l.ext ≤ l.cycle) && l.ents.all (gateEntOk stream) &&
    gateTailOk n d.buf && decide (ahead32 s.timNow l.base < 2 ^ 31)

/-- A list is accepted: it becomes pending, and replaces any pending list. A cycle extended to the replaced list's BASE goes on
so only where the new BASE calls for it too (R173). -/
def State.gateLoad (s : State) (k : Nat) (d : Desc) : State :=
  let g := { s.gate k with pend := some d.gateList }
  let next := match g.oper with | some l => (g.cyc + l.cycle) % 2 ^ 32 | none => 0
  ((s.setGate k { g with extended := g.extended && g.extends next }).showGate k).finish d St.OK s.timNow

end Sys2Proof.Machine
end

