-- ==== Sys2Proof/Machine/Time.lean ====
section
/-! DEFINITION. The time base apart from its ticks: writes of TIM_INC and TIM_STEP (R188, R189), arming of triggers
(R201, R202), pins and PPS (R206, R207), transmit timestamps (R195 to R198) and the media clock (R208). -/
namespace Sys2Proof.Machine

def State.onTim (s : State) (f : Tim → Tim) : State := s.setTim (f s.tim)

/-- TIM_NOW shows `v`. -/
def State.putNow (s : State) (v : Nat) : State := s.put F.TIM_NOW_NOW v

/-! Triggers. -/

def State.trgArmed (s : State) (n : Nat) : Bool := s.on (F.TIM_TRG_CTL_ARMED n)
def State.trgTarget (s : State) (n : Nat) : Nat := s.get (F.TIM_TRG_TARGET_VALUE n)
def State.trgPeriod (s : State) (n : Nat) : Nat := s.get (F.TIM_TRG_PERIOD_VALUE n)

/-- The test of R200: `now` has reached `target`. -/
def trgMet (now target : Nat) : Bool := decide (ahead32 target now < 2 ^ 31)


/-- Pin `k` follows a firing of its trigger (R206). -/
def State.pinFire (n k : Nat) (s : State) : State :=
  if !s.on (F.TIM_PIN_CTL_EN k) || s.get (F.TIM_PIN_CTL_TRG k) != n then s
  else if s.on (F.TIM_PIN_CTL_TOGGLE k) then
    s.onTim fun t => { t with pins := if bitOf t.pins k then clearBit t.pins k else setBit t.pins k }
  else
    s.onTim fun t => { t with
      pins := setBit t.pins k
      pinEnd := storeSet cntDefault t.pinEnd k (s.now + 1000 * max 1 (s.get (F.TIM_PIN_CTL_WIDTH k))) }

/-- The TIM_TRG_EVT bit of a trigger that fires; its interrupt goes through its own vector. -/
def State.raiseTrigger (s : State) (n : Nat) : State :=
  if s.bit F.TIM_TRG_EVT_FIRE n then s
  else
    let s := s.set1 F.TIM_TRG_EVT_FIRE n
    if s.bit F.TIM_TRG_EVT_EN_FIRE n then s.sendVec (R.TIM_TRG_VEC n) else s

/-! The media clock (R208). -/

/-- The media clock stands `d` ns further ahead of its tie: it slews back. -/
def State.mediaMove (s : State) (d : Int) : State :=
  let s := s.onTim fun t => { t with media := { t.media with off := t.media.off.map (· + d * mediaNs) } }
  if s.mediaTied || !s.on F.TIM_STAT_MEDIA_LOCKED then s
  else (s.put F.TIM_STAT_MEDIA_LOCKED 0).raise F.TIM_EVT_MEDIA_UNLOCK

/-- Trigger 0 fires for the first time: the clock has a tie, `k` ns before now. -/
def State.mediaTie (s : State) (k : Nat) : State :=
  s.onTim fun t => { t with media := { t.media with
    off := t.media.off.or <|
      let e : Int := (t.media.pos : Int) - k * mediaNs
      some (if 2 * e > mediaTurn then e - mediaTurn else e) } }

/-- How TIM_NOW counts from now on is noted. -/
def State.mark (s : State) : State :=
  s.onTim fun t => { t with marks := addMark ⟨s.now, s.timNow * 2 ^ 24 + t.frac, t.inc⟩ t.marks }

/-- A value TIM_INC accepts (R188). -/
def incOk (v : Nat) : Bool := decide (0x03FF0000 ≤ v) && decide (v ≤ 0x04010000)

/-- A write of TIM_INC. -/
def State.writeInc (s : State) (v : Nat) : State :=
  if incOk v then (s.wr R.TIM_INC (BitVec.ofNat 32 v)).onTim fun t => { t with incNext := some v } else s

def execTimIncWrite (_pid val : Nat) (s : State) : Res := .next (s.writeInc val)

/-- A write of TIM_STEP (R189). -/
def State.writeStep (s : State) (v : Nat) : State :=
  if s.on F.TIM_STAT_STEP_BUSY then s
  else if 2 ^ 30 ≤ (sint 32 v).natAbs then s.raise F.TIM_EVT_STEP_BAD
  else (s.put F.TIM_STAT_STEP_BUSY 1).onTim fun t => { t with step := some (v % 2 ^ 32) }

def execTimeStepWrite (_pid val : Nat) (s : State) : Res := .next (s.writeStep val)

def execXtalLost (s : State) : Res := .next ((s.put F.TIM_STAT_XTAL_OK 0).raise F.TIM_EVT_XTAL_LOST)
def execXtalRestored (s : State) : Res := .next (s.put F.TIM_STAT_XTAL_OK 1)

/-- The transmit-timestamp queue of port `p`. -/
def noStamps (_ : Nat) : List Bytes := []
def State.txts (s : State) (p : Nat) : List Bytes := storeGet noStamps s.tim.txts p
def State.setTxts (s : State) (p : Nat) (l : List Bytes) : State :=
  (s.onTim fun t => { t with txts := storeSet noStamps t.txts p l }).put (F.TIM_TXTS_STAT_FILL p) l.length

/-- The descriptor that asked for a timestamp ends; its result holds TIM_NOW at its frame's acceptance. -/
def State.endStamp (s : State) (sd : Option (Nat × Nat)) (status more : Nat) : State :=
  match sd with
  | none => s
  | some (r, i) =>
    match s.rnd.descs.find? fun d => d.round == r && d.slot == i && d.started && d.fin.isNone with
    | some d => s.finish d status (d.acc + more)
    | none => s

/-- A timestamp reaches its queue as the 8 bytes of R196, or is discarded where that is full (R197, R198); the send then
completes. -/
def State.enqueueStamp (s : State) (x : TxStamp) : State :=
  let q := s.txts x.port
  if 64 ≤ q.length then
    ((s.count (C.TIM_TSLOST x.port)).raise F.TIM_EVT_TS_LOST).endStamp x.send St.LOST (2 ^ 32)
  else
    let e := leBytes 4 x.time ++ leBytes 2 x.tag ++ leBytes 1 (x.msg % 16) ++ [0]
    let s := s.setTxts x.port (q ++ [e])
    (if q.isEmpty then s.raise F.TIM_EVT_TXTS else s).endStamp x.send St.OK 0

def execTxtsEnqueue (port : Nat) (s : State) : Res :=
  .next (match s.tim.stamps.find? (·.port == port) with
    | none => s
    | some x => (s.onTim fun t => { t with stamps := dropFirst (·.port == port) t.stamps }).enqueueStamp x)

/-! Opcodes (R210). -/

/-- TRG_ARM (R202). -/
def State.trgArm (s : State) (d : Desc) : State :=
  let n := u8 d.raw 20
  let tg := u32 d.raw 24
  let p := u32 d.raw 28
  if !d.noBuf || decide (16 ≤ n) then s.finish d St.BADARG 0
  else if s.dPid d != 0 && s.dPid d != s.get (F.TIM_TRG_CTL_OWNER n) then s.finish d St.NOTPERMIT 0
  else if (p != 0 && (decide (p < 1000) || decide (1000000000 < p))) || decide (2 ^ 31 ≤ ahead32 s.timNow tg) then
    s.finish d St.BADARG 0
  else
    let moved : Int := sint 32 (ahead32 (s.trgTarget n) tg)
    let s := (s.put (F.TIM_TRG_TARGET_VALUE n) tg).put (F.TIM_TRG_PERIOD_VALUE n) p
    let s := (s.put (F.TIM_TRG_CTL_SKIPPED n) 0).put (F.TIM_TRG_CTL_ARMED n) 1
    let s := s.onTim fun t => { t with armNew := setBit t.armNew n, fired := storeSet cntDefault t.fired n 0 }
    let s := if n = 0 then s.mediaMove ((moved + 500000) % 1000000 - 500000) else s
    s.finish d St.OK s.timNow

def execTrgArm (r : Nat) (s : State) : Res := .next (s.withOp r 6 1 fun d => s.trgArm d)

/-- TRG_DISARM. -/
def State.trgDisarm (s : State) (d : Desc) : State :=
  let n := u8 d.raw 20
  if !d.noBuf || decide (16 ≤ n) then s.finish d St.BADARG 0
  else if s.dPid d != 0 && s.dPid d != s.get (F.TIM_TRG_CTL_OWNER n) then s.finish d St.NOTPERMIT 0
  else
    (s.put (F.TIM_TRG_CTL_ARMED n) 0).finish d St.OK
      (storeGet cntDefault s.tim.fired n % 2 ^ 32 + 2 ^ 32 * b2n (s.trgArmed n))

def execTrgDisarm (r : Nat) (s : State) : Res := .next (s.withOp r 6 2 fun d => s.trgDisarm d)

/-- TXTS_READ. -/
def State.txtsRead (s : State) (d : Desc) : State :=
  let p := u8 d.raw 20
  let n := u16 d.raw 22
  if decide (20 ≤ p) || n == 0 || decide (64 < n) || decide (d.len < 8 * n) then s.finish d St.BADARG 0
  else
    let q := s.txts p
    let k := min n q.length
    let s := s.setTxts p (q.drop k)
    s.finishBuf d 0 (q.take k).flatten St.OK (k + 2 ^ 32 * (q.length - k))

def execTxtsRead (r : Nat) (s : State) : Res := .next (s.withOp r 6 3 fun d => s.txtsRead d)

/-! Registers and pins. -/

/-- A write of TIM_TRGn_CTL: SKIP_CLR clears SKIPPED, a 1 clears LATE, and partition 0 sets OWNER, but not of trigger
0 (R200, R201). -/
def State.writeTrgCtl (s : State) (pid n v : Nat) : State :=
  let s := if pid = 0 ∧ n ≠ 0 then s.put (F.TIM_TRG_CTL_OWNER n) v else s
  let s := if bitOf v 30 then s.put (F.TIM_TRG_CTL_LATE n) 0 else s
  if bitOf v 15 then s.put (F.TIM_TRG_CTL_SKIPPED n) 0 else s

def execSkipClr (pid n val : Nat) (s : State) : Res := .next (if n < 16 then s.writeTrgCtl pid n val else s)

/-- PIN_PULSE_END: a pulse ends WIDTH µs after its firing (R206). -/
def execPinPulseEnd (k : Nat) (s : State) : Res :=
  .next (if bitOf s.tim.pins k && !s.on (F.TIM_PIN_CTL_TOGGLE k) && decide (storeGet cntDefault s.tim.pinEnd k ≤ s.now)
    then s.onTim fun t => { t with pins := clearBit t.pins k } else s)

/-- An edge of PPS_IN: one of the chosen polarity begins its 100 ns, the other ends them (R207). -/
def execPpsEdge (rising : Bool) (s : State) : Res :=
  .next (if !s.on F.TIM_PPS_CTL_IN_EN then s
    else if rising != s.on F.TIM_PPS_CTL_IN_FALL then s.onTim fun t => { t with pps := some (s.timAt s.now, s.now) }
    else s.onTim fun t => { t with pps := none })

/-- PPS_CAPTURE: the level has held for 100 ns. -/
def execPpsCapture (s : State) : Res :=
  .next (match s.tim.pps with
    | none => s
    | some (v, t) =>
      if s.now < t + 100 || !s.on F.TIM_PPS_CTL_IN_EN then s
      else
        let s := (s.onTim fun t => { t with pps := none }).put F.TIM_PPS_CAP_TIME v
        (if s.on F.TIM_EVT_PPS then s.raise F.TIM_EVT_PPS_OVR else s).raise F.TIM_EVT_PPS)

/-- A write of a pin's control register: while EN is 0 the pin is low (R206). -/
def State.writePin (s : State) (k v : Nat) : State :=
  let s := s.regApply (R.TIM_PIN_CTL k) v
  if s.on (F.TIM_PIN_CTL_EN k) then s else s.onTim fun t => { t with pins := clearBit t.pins k }

/-- A write of TIM_PPS_CTL: with IN_EN 0 an edge under way is not captured (R207). -/
def State.writePps (s : State) (v : Nat) : State :=
  let s := s.regApply R.TIM_PPS_CTL v
  if s.on F.TIM_PPS_CTL_IN_EN then s else s.onTim fun t => { t with pps := none }

/-- MEDIA_LOCK: the media clock comes within 20 ns of its tie. -/
def execMediaLock (s : State) : Res :=
  .next (if s.mediaTied && !s.on F.TIM_STAT_MEDIA_LOCKED then
      (s.put F.TIM_STAT_MEDIA_LOCKED 1).raise F.TIM_EVT_MEDIA_LOCK
    else s)

end Sys2Proof.Machine
end

