-- ==== Sys2Proof/Machine/PortOps.lean ====
section
/-! DEFINITION. The ports' operations: link states (R161), flow control received (R178 to R180), transmission selection
and preemption (R169, R177), and the transmitter (R164, R171). -/
namespace Sys2Proof.Machine

def State.linkOf (s : State) (p : Nat) : Nat := s.get (F.PRT_STAT_LINK p)
def State.isUp (s : State) (p : Nat) : Bool := decide (p ≤ 20) && s.linkOf p == 3

/-- A wake of source `src` meets its validity criterion (R318). -/
def State.wakeMeets (s : State) (src : Nat) : State :=
  match storeGet noneDefault (s.wak.windows.map fun w => (w.1, some w.2)) src with
  | some w => s.setWak { s.wak with
      windows := s.wak.windows.map fun x => if x.1 = src then (src, { w with valid := true }) else x }
  | none => s

/-! Pauses received. -/

/-- Ends of pauses are kept in tenths of a ns; a quantum is 512 bit times. -/
def State.quanta (s : State) (p n : Nat) : Nat := n * 64 * s.byteTime p

def State.setPauseEnd (s : State) (p v : Nat) : State :=
  s.onPrt fun t => { t with pauseEnd := storeSet cntDefault t.pauseEnd p v }
def State.setPfcEnd (s : State) (k v : Nat) : State :=
  s.onPrt fun t => { t with pfcEnd := storeSet cntDefault t.pfcEnd k v }
def State.pfcEnd (s : State) (p k : Nat) : Nat := storeGet cntDefault s.prt.pfcEnd (p * 8 + k)

/-- The classes of port `p` that a priority's PFC pause holds (R179). -/
def State.pfcMask (s : State) (p : Nat) : Nat :=
  (List.range 8).foldl (fun m k => if s.pfcEnd p k = 0 then m else setBit m (s.pcpClass k)) 0

/-- A PAUSE of time `t` received on port `p` (R178). -/
def State.rxPause (s : State) (p dst t : Nat) : State :=
  let mac := be48 (leBytes 4 (s.get (F.PRT_MAC_LO_ADDR p)) ++ leBytes 2 (s.get (F.PRT_MAC_HI_ADDR p))) 0
  if 20 ≤ p || !s.on (F.PRT_FC_CTL_RX_PAUSE_EN p) || (dst != 0x0180C2000001 && dst != mac) then s
  else if t = 0 then (s.setPauseEnd p 0).put (F.PRT_STAT_PAUSED p) 0
  else
    let s' := (s.setPauseEnd p (10 * s.now + s.quanta p t)).put (F.PRT_STAT_PAUSED p) 1
    if s.on (F.PRT_STAT_PAUSED p) then s' else s'.raise (F.PRT_EVT_PAUSED p)

/-- PFC_PAUSED follows a change of SWC_PCP_MAP: a class stays paused while any priority mapped to it is (R179). -/
def State.remapPfc (s : State) : State :=
  forEach (List.range 20) (fun p t => t.put (F.PRT_STAT_PFC_PAUSED p) (s.pfcMask p)) s

/-- A PFC frame received on port `p`: priority `k` of `vec` takes the time `times` gives it (R179). -/
def State.rxPfc (s : State) (p vec : Nat) (times : List Nat) : State :=
  if 20 ≤ p || !s.on (F.PRT_FC_CTL_RX_PFC_EN p) then s
  else
    let old := s.pfcMask p
    let s := forEach (List.range 8) (fun k t =>
      if bitOf vec k then
        let q := times.getD k 0
        t.setPfcEnd (p * 8 + k) (if q = 0 then 0 else 10 * s.now + s.quanta p q)
      else t) s
    let new := s.pfcMask p
    let s := s.put (F.PRT_STAT_PFC_PAUSED p) new
    if (List.range 8).any fun c => bitOf new c && !bitOf old c then s.raise (F.PRT_EVT_PAUSED p) else s

/-- Every pause of a port ends (R180). -/
def State.cancelPauses (s : State) (p : Nat) : State :=
  let s := forEach (List.range 8) (fun k t => t.setPfcEnd (p * 8 + k) 0) (s.setPauseEnd p 0)
  (s.put (F.PRT_STAT_PAUSED p) 0).put (F.PRT_STAT_PFC_PAUSED p) 0

/-! Preemption (R177). -/

/-- Class `c` of port `p` may be preempted. -/
def State.preemptable (s : State) (p c : Nat) : Bool := s.preempts p && !s.bit (F.PRT_PREEMPT_EXPRESS p) c

/-- A frame may be split on port `p`: its class may be preempted, and it was not received while preemption was inactive. -/
def State.splits (s : State) (p : Nat) (f : SwFrame) : Bool := s.preemptable p f.cls && !bitOf f.whole p

def State.minFrag (s : State) (p : Nat) : Nat := 64 * (1 + s.get (F.PRT_PREEMPT_ADD_FRAG p))

def State.verTries (s : State) (p : Nat) : Nat := storeGet cntDefault s.prt.verTries p

/-- A verification attempt is made. -/
def State.verifyTry (s : State) (p n : Nat) : State :=
  ((s.emit (.verify p)).put (F.PRT_STAT_VERIFY p) 1).onPrt fun t => { t with
    verAt := storeSet cntDefault t.verAt p s.now, verTries := storeSet cntDefault t.verTries p n }

/-- Verification starts on a port that is UP with preemption enabled. -/
def State.verifyStart (s : State) (p : Nat) : State :=
  if decide (p < 20) && s.isUp p && s.on (F.PRT_PREEMPT_EN p) && !s.on (F.PRT_PREEMPT_VERIFY_DIS p) then s.verifyTry p 1
  else s.put (F.PRT_STAT_VERIFY p) 0

/-! Link states (R161). -/

/-- The mode of a port has auto-negotiation. -/
def State.hasAneg (s : State) (p : Nat) : Bool := s.get (F.PRT_MODE_MODE p) != 0

/-- The state a MAC takes from DISABLED: ANEG, or DOWN. -/
def State.linkStart (s : State) (p : Nat) : State :=
  let s := s.onPrt fun t => { t with anegAt := storeSet cntDefault t.anegAt p 0 }
  if s.on (F.PRT_MODE_ANEG_EN p) && s.hasAneg p then (s.put (F.PRT_STAT_LINK p) 2).emit (.aneg p)
  else s.put (F.PRT_STAT_LINK p) 1

/-- The link comes UP. -/
def State.linkUp (s : State) (p : Nat) : State :=
  let s := (s.put (F.PRT_STAT_LINK p) 3).raise (F.PRT_EVT_LINK_UP p)
  if s.pairHolds p then s.setLane (p - 2) true
  else
    let s := if p < 20 then s.swLinkUp p else s.wakeMeets 24
    s.verifyStart p

/-- The link leaves UP. -/
def State.leaveUp (s : State) (p : Nat) : State :=
  let s := ((s.raise (F.PRT_EVT_LINK_DOWN p)).count (C.PRT_LINK_DOWN p)).cancelPauses p
  let s := s.put (F.PRT_STAT_VERIFY p) 0
  if s.pairHolds p then s.setLane (p - 2) false
  else if p < 20 then s.swLinkDown p else s

/-- The frame on the line and a held remainder are lost with the link. -/
def State.loseFrames (s : State) (p : Nat) : State :=
  let l := s.line p
  let st := if p = 20 then 0x601 else 0x503
  let s := (s.cbsUpdate p).setLine p { l with cur := none, rest := none }
  forEach (l.cur.toList ++ l.rest.toList) (fun t s => s.endSend t.frame.send st 0) s

/-- The frames SP has yet to send end with NO_LINK. -/
def State.spFlush (s : State) : State :=
  let fs := (s.swc.staged.filter (·.port == 24)).map (·.frame)
  forEach fs (fun f t => t.endSend f.send 0x601 0)
    (s.onSwc fun w => { w with staged := w.staged.filter (·.port != 24) })

/-- Port `p` is held DISABLED by DOZE (R325); `ports` are the ports whose EN the wake restores. -/
def State.dozeHolds (s : State) (p : Nat) : Bool :=
  s.get F.WAK_STAT_STATE == 2 && p != 20 && !(decide (4 ≤ p) && s.bit F.WAK_DOZE_PORTS_PORTS (p - 4))
def State.dozePorts (s : State) (ports : List Nat) : State := s.setWak { s.wak with ports := ports }

/-- EN of a MAC is set. -/
def State.macOn (s : State) (p : Nat) : State :=
  if 21 ≤ p || s.linkOf p != 0 then s
  else if s.dozeHolds p then s.dozePorts (s.wak.ports ++ [p])
  else (s.put (F.PRT_MODE_EN p) 1).linkStart p

/-- EN of a MAC is cleared: the frame in progress completes, then the MAC stops. -/
def State.macOff (s : State) (p : Nat) : State :=
  if 21 ≤ p || s.linkOf p == 0 then s.dozePorts (s.wak.ports.filter (· != p))
  else
    let up := s.isUp p
    let s := (s.put (F.PRT_MODE_EN p) 0).put (F.PRT_STAT_LINK p) 0
    let s := if up then s.leaveUp p else s.cancelPauses p
    if p = 20 then s.spFlush else s

/-- The link is lost. -/
def State.linkLost (s : State) (p : Nat) : State :=
  if !s.isUp p then s
  else
    let s := ((s.leaveUp p).loseFrames p).linkStart p
    if p = 20 then s.spFlush else s

/-- The fields of PRT_MODE other than EN, written while EN is 0 (R160). -/
def State.modeFields (s : State) (p v : Nat) : State :=
  if s.on (F.PRT_MODE_EN p) then s
  else
    let s := ((s.put (F.PRT_MODE_ANEG_EN p) (bits v 30 30)).put (F.PRT_MODE_ADV_SYM p) (bits v 27 27)).put
      (F.PRT_MODE_ADV_ASYM p) (bits v 26 26)
    let s := if p < 4 ∧ bits v 29 28 ≠ 3 then (s.put (F.PRT_MODE_MODE p) (bits v 29 28)).cancelPauses p else s
    let n := bits v 13 0
    if 1518 ≤ n ∧ n ≤ 9216 then s.put (F.PRT_MODE_MAX_LEN p) n else s

/-- A write of PRT_MODE. -/
def State.writeMode (s : State) (p v : Nat) : State :=
  if s.pairHolds p || decide (21 ≤ p) then s
  else if bitOf v 31 then (s.modeFields p v).macOn p
  else (s.modeFields p v).macOff p

/-! The transmitter. -/

/-- The stage port that feeds MAC `p`; 24 is SP's. -/
def stagePort (p : Nat) : Nat := if p = 20 then 24 else p

/-- A frame of the hardware's own waits whole in the transmit stage of a MAC that is UP, in class `c`. -/
def State.stageOwn (s : State) (port c : Nat) (b : Bytes) : State :=
  if !s.isUp port then s
  else
    let r := (s.cbsUpdate port).placed (SwFrame.new 24 c b (b.length + 4) 4096 0)
    r.1.onSwc fun w => { w with staged := w.staged ++ [⟨stagePort port, r.2, cellsOf r.2.len⟩] }

/-- The bytes of a frame on the line of port `p`, FCS apart: padded with zeros to the least length (R159). -/
def State.lineBytes (s : State) (p : Nat) (f : SwFrame) : Bytes :=
  let b := if p = 20 then f.bytes else s.egressBytes f p
  b ++ List.replicate (60 - b.length) 0

/-- The length of a frame on the line, its FCS included. -/
def State.lineLen (s : State) (p : Nat) (f : SwFrame) : Nat := (s.lineBytes p f).length + 4

/-- Tenths of a ns that `n` bytes take on the line of port `p`. -/
def State.lineTime (s : State) (p n : Nat) : Nat := n * s.byteTime p

/-- The bytes of a frame on the line that have been sent by now, 8 of preamble apart. -/
def State.sentNow (s : State) (p : Nat) (t : TxCur) : Nat :=
  t.sent + (10 * (s.now - t.start) / s.byteTime p - 8)

/-- A whole frame waits in class `c` for MAC `p`, oldest first. -/
def State.stagedHead (s : State) (p c : Nat) : Option Staged :=
  s.swc.staged.find? fun g => g.port == stagePort p && g.frame.cls == c && decide (cellsOf g.frame.len ≤ g.cells)

/-- `n` bytes and their preamble end before the gate of class `c` closes (R171). -/
def State.fits (s : State) (p c n : Nat) : Bool :=
  match s.closeIn p c with
  | none => true
  | some t => decide (s.lineTime p (n + 8) ≤ 10 * t)

/-- A frame of class `c` and length `n` is longer than every open window of its class, and is dropped, preemptable or not
(R171). -/
def State.neverFits (s : State) (p c n : Nat) : Bool :=
  match (s.gate p).oper with
  | none => false
  | some l =>
    s.gateRuns p && (match l.window c with | none => false | some t => decide (10 * t < s.lineTime p (n + 8)))

/-- The hold request is in force on port `p`. -/
def State.holds (s : State) (p : Nat) : Bool := s.preempts p && (s.line p).hold

/-- Conditions under which class `c` may start at a boundary, its frame aside. -/
def State.mayStart (s : State) (p c : Nat) : Bool :=
  s.gateOpen p c && s.hasCredit p c && !s.paused p c && !(s.preemptable p c && s.holds p)

/-- What must fit of a frame with `n` bytes left: its first fragment where it may be split. -/
def State.needed (s : State) (p : Nat) (f : SwFrame) (n : Nat) : Nat := if s.splits p f then min n (s.minFrag p) else n

/-- The new frame of class `c` may start now. -/
def State.canStart (s : State) (p c : Nat) : Bool :=
  match s.stagedHead p c with
  | some g => s.mayStart p c && s.fits p c (s.needed p g.frame (s.lineLen p g.frame))
  | none => false

/-- The held remainder is of class `c` and may go on now; a pause does not hold it (R180). -/
def State.canResume (s : State) (p c : Nat) : Bool :=
  match (s.line p).rest with
  | some t =>
    t.frame.cls == c && s.gateOpen p c && !s.holds p && s.fits p c (s.needed p t.frame (s.lineLen p t.frame - t.sent))
  | none => false

/-- The class the transmitter picks: the highest that can start or go on. A preemptable frame waits for the remainder
of another. -/
def State.pick (s : State) (p : Nat) : Option Nat :=
  [7, 6, 5, 4, 3, 2, 1, 0].find? fun c =>
    s.canResume p c || (s.canStart p c && !((s.line p).rest.isSome && s.preemptable p c))

/-- The frame on the line of MAC `p` may be cut now: it is preemptable, both parts hold the minimum, and an express frame
waits, its gate has closed or a hold is requested (R177, R171, R172). -/
def State.cutPoint (s : State) (p : Nat) (t : TxCur) : Option Nat :=
  let b := s.sentNow p t / 8 * 8
  let m := s.minFrag p
  if s.splits p t.frame && decide (t.sent + m ≤ b) && decide (b + m ≤ s.lineLen p t.frame) &&
      (s.holds p || !s.gateOpen p t.frame.cls ||
        (List.range 8).any fun c => s.bit (F.PRT_PREEMPT_EXPRESS p) c && s.canStart p c) then some b
  else none

/-- The frame with TIM_NOW at its timestamp point, the first bit after the preamble of its first fragment (R195). -/
def State.stampTx (s : State) (p : Nat) (t : TxCur) : TxCur :=
  if t.stampAt.isSome then t else { t with stampAt := some (s.timAt (t.start + s.lineTime p 8 / 10)) }

/-- The frame on the line is held after a fragment. -/
def State.cutCur (s : State) (p : Nat) : State :=
  match (s.line p).cur with
  | none => s
  | some t =>
    match s.cutPoint p t with
    | none => s
    | some b => (s.cbsUpdate p).setLine p { s.line p with cur := none, rest := some { s.stampTx p t with sent := b } }

/-- A whole frame is taken from the stage of MAC `p`. -/
def State.unstage (s : State) (p : Nat) (f : SwFrame) : State :=
  s.onSwc fun w => { w with staged := dropFirst (fun g => g.port == stagePort p && g.frame.id == f.id) w.staged }

/-- A head leaves the stage unsent; a FRAME_SEND of it ends DROPPED (DESIGN CHOICE, log 97). -/
def State.dropHead (s : State) (p : Nat) (f : SwFrame) : State := ((s.cbsUpdate p).unstage p f).endSend f.send 0x503 0

/-- Heads that can never fit are dropped, in every class (R171); so is, uncounted, one longer than MAX_LEN (R159; DESIGN
CHOICE, log 97). -/
def State.dropNever (p c : Nat) (s : State) : State :=
  match s.stagedHead p c with
  | some g =>
    if s.get (F.PRT_MODE_MAX_LEN p) < s.lineLen p g.frame then s.dropHead p g.frame
    else if s.neverFits p c (s.lineLen p g.frame) then
      ((s.dropHead p g.frame).count (C.PRT_TX_NEVER_FITS p)).raise (F.PRT_EVT_NEVER_FITS p)
    else s
  | none => s

/-- A new frame of class `c` starts on MAC `p`, or is dropped for that port where its first cell cannot be read (R151). -/
def State.startNew (s : State) (p c : Nat) : State :=
  match s.stagedHead p c with
  | none => s
  | some g =>
    let r := ((s.cbsUpdate p).unstage p g.frame).readCells g.frame 0 1
    if r.2 then r.1.endSend g.frame.send 0x503 0
    else r.1.setLine p { r.1.line p with cur := some ⟨g.frame, s.now, none, 0, false⟩ }

/-- The held remainder goes on (R177). -/
def State.resumeRest (s : State) (p : Nat) : State :=
  match (s.line p).rest with
  | some t =>
    ((s.cbsUpdate p).setLine p { s.line p with cur := some { t with start := s.now }, rest := none }).count (C.PRT_TX_FRAG p)
  | none => s

/-- The transmitter of MAC `p` makes its choice at a frame or fragment boundary (R169). A MAC that is disabled ends the frame
in progress, a held remainder too (R161). -/
def State.txStart (s : State) (p : Nat) : State :=
  if !s.isUp p then
    if decide (p < 20) && (s.line p).cur.isNone && (List.range 8).any fun c => s.canResume p c then s.resumeRest p else s
  else
    let s := (s.cbsUpdate p).cutCur p
    if (s.line p).cur.isSome then s
    else
      let s := forEach (List.range 8) (State.dropNever p) s
      match s.pick p with
      | none => s
      | some c => if s.canResume p c then s.resumeRest p else s.startNew p c

/-- The messageType of an 802.1AS frame; a free value in any other. -/
def State.msgType (s : State) (b : Bytes) : Nat :=
  let u := stripTag b
  if etherType u = 0x88F7 then u8 u 14 % 16 else s.free 2

/-- The timestamp of a sent frame is on its way (R195). -/
def State.txStamp (s : State) (p : Nat) (t : TxCur) (b : Bytes) : State :=
  match t.frame.tsTag with
  | none => s
  | some tag =>
    let v := ofInt 32 (((s.stampTx p t).stampAt.getD 0 : Nat) + sint 16 (s.get (F.TIM_PORT_LAT_EGR_LAT p)))
    (s.onTim fun x => { x with stamps := x.stamps ++ [⟨p, tag, s.msgType b, v, t.frame.send⟩] }).drawn

/-- A frame has left whole with a correct FCS (R164). -/
def State.sentOk (s : State) (p : Nat) (t : TxCur) : State :=
  let b := s.lineBytes p t.frame
  let s := s.emit (.frame p b false)
  let s := (s.count (C.PRT_TX_OK p)).count (C.PRT_TX_OCTETS p) (b.length + 4)
  match t.frame.tsTag with
  | some _ => s.txStamp p t b
  | none =>
    match t.frame.send with
    | some (r, i) =>
      match s.rnd.descs.find? fun d => d.round == r && d.slot == i && d.started && d.fin.isNone with
      | some d => s.finish d St.OK d.acc
      | none => s
    | none => s

/-- A frame leaves stomped (R150, R151). -/
def State.sentStomped (s : State) (p : Nat) (b : Bytes) : State :=
  ((s.emit (.frame p b true)).count C.SWC_STOMP).raise F.SWC_EVT_STOMP

/-- The last bit of the frame on the line has left (R164); a cell that could not be read meanwhile has it stomped (R151). -/
def State.txEnd (s : State) (p : Nat) : State :=
  match (s.line p).cur with
  | none => s
  | some t =>
    if 10 * (s.now - t.start) < s.lineTime p (s.lineLen p t.frame - t.sent + 8) then s
    else
      let r := ((s.cbsUpdate p).setLine p { s.line p with cur := none }).readCells t.frame 1 (cellsOf t.frame.len - 1)
      if r.2 then (r.1.sentStomped p (s.lineBytes p t.frame)).endSend t.frame.send 0x503 0
      else r.1.sentOk p t

end Sys2Proof.Machine
end

