-- ==== Sys2Proof/Machine/Ports.lean ====
section
/-! DEFINITION. The commands of the ports: link events (R161), pauses (R178 to R181), transmission (R164, R169), gates
(R170 to R175), verification (R177) and the gate and service-port opcodes (R186). -/
namespace Sys2Proof.Machine

/-- A PAUSE frame received whole: it counts as a good MAC Control frame and acts by R178. -/
def execPauseReceive (port dst quanta : Nat) (s : State) : Res :=
  .next (if s.isUp port then
      ((((s.count (C.PRT_RX_OK port)).count (C.PRT_RX_OCTETS port) 64).count (C.PRT_RX_CTL port)).rxPause port dst quanta)
    else s)

/-- A PFC frame received whole (R179). -/
def execPfcReceive (port vec : Nat) (times : List Nat) (s : State) : Res :=
  .next (if s.isUp port then
      ((((s.count (C.PRT_RX_OK port)).count (C.PRT_RX_OCTETS port) 64).count (C.PRT_RX_CTL port)).rxPfc port vec times)
    else s)

/-- PAUSE_EXPIRY: the time of the 802.3x pause (`cls` 8) or of a priority's PFC pause runs out (R178, R179). -/
def State.pauseOver (s : State) (p k : Nat) : State :=
  if 20 ≤ p then s
  else if k = 8 then
    if s.on (F.PRT_STAT_PAUSED p) && decide (storeGet cntDefault s.prt.pauseEnd p ≤ 10 * s.now) then
      (s.setPauseEnd p 0).put (F.PRT_STAT_PAUSED p) 0
    else s
  else if k < 8 ∧ s.pfcEnd p k ≠ 0 ∧ s.pfcEnd p k ≤ 10 * s.now then
    let s := s.setPfcEnd (p * 8 + k) 0
    s.put (F.PRT_STAT_PFC_PAUSED p) (s.pfcMask p)
  else s

def execPauseExpiry (port cls : Nat) (s : State) : Res := .next (s.pauseOver port cls)

/-- XOFF of a class is sent again once PAUSE_TIME / 2 quanta have passed while held cells stay above XON (R181). -/
def State.refreshClass (p c : Nat) (s : State) : State :=
  let t := s.get (F.PRT_FC_CTL_PAUSE_TIME p)
  let last := storeGet cntDefault s.prt.xoffAt (p * 16 + c)
  if s.xoffOn p c && decide (s.get (F.PRT_FC_THRESH_XON p) < s.heldCells p c) &&
      decide (10 * last + s.quanta p t / 2 ≤ 10 * s.now) then s.sendPause p c t else s

def execPauseRefresh (port : Nat) (s : State) : Res :=
  .next (if decide (port < 20) && s.isUp port then forEach (s.pauseClasses port) (State.refreshClass port) s else s)

def execTxFrameStart (port : Nat) (upsets : List EccMark) (s : State) : Res := .next ((s.upset upsets).txStart port)
def execTxFrameEnd (port : Nat) (upsets : List EccMark) (s : State) : Res := .next ((s.upset upsets).txEnd port)

/-- MAC_ENABLE: a write of PRT_MODE with EN 1. -/
def execMacEnable (_pid port val : Nat) (s : State) : Res := .next (s.writeMode port (setBit val 31))
/-- MAC_DISABLE: a write of PRT_MODE with EN 0. -/
def execMacDisable (_pid port val : Nat) (s : State) : Res := .next (s.writeMode port (clearBit val 31))

def State.anegAt (s : State) (p : Nat) : Nat := storeGet cntDefault s.prt.anegAt p

/-- ANEG_COMPLETE: `good` is full duplex at the port's rate (R161). -/
def execAnegComplete (port : Nat) (good : Bool) (s : State) : Res :=
  .next (if 21 ≤ port || s.linkOf port != 2 || s.anegAt port != 0 then s
    else if good then s.linkUp port
    else (s.onPrt fun t => { t with anegAt := storeSet cntDefault t.anegAt port (s.now + 1) }).raise
      (F.PRT_EVT_MODE_ERR port))

/-- ANEG_RESTART_TIMEOUT: 1,000 ms after a bad result. -/
def execAnegRestartTimeout (port : Nat) (s : State) : Res :=
  .next (if decide (port < 21) && s.linkOf port == 2 && s.anegAt port != 0 &&
      decide (s.anegAt port + 1000000000 ≤ s.now + 1) then
      (s.onPrt fun t => { t with anegAt := storeSet cntDefault t.anegAt port 0 }).emit (.aneg port)
    else s)

/-- LINK_LOCK_TIMER: block lock held for 1 ms, or synchronisation of 1000BASE-X without negotiation (R161). -/
def execLinkLockTimer (port : Nat) (s : State) : Res :=
  .next (if decide (port < 21) && s.linkOf port == 1 && decide (s.get (F.PRT_MODE_MODE port) ≤ 1) then s.linkUp port
    else s)

def execLinkLoss (port : Nat) (s : State) : Res := .next (s.linkLost port)

/-- GATE_CHANGE: an entry or cycle start of a port's list takes effect. -/
def execGateChange (port : Nat) (s : State) : Res :=
  .next (if decide (port < 20) && s.gateRuns port then s.gateStep port else s)

def execGateSwitch (port : Nat) (s : State) : Res := .next (if port < 20 then s.gateSwitch port else s)

/-- A write of PRT_GATE_CTL. With GATE_EN 0 every gate is open. Setting it starts the pending list at its BASE and leaves the
gates open until then, an older list's too (R174); with none pending, a list already operational runs on in phase (DEDUCED,
log 36). -/
def State.writeGateCtl (s : State) (p v : Nat) : State :=
  if 20 ≤ p then s
  else
    let was := s.on (F.PRT_GATE_CTL_GATE_EN p)
    let s := s.put (F.PRT_GATE_CTL_GATE_EN p) (bits v 31 31)
    let g := s.gate p
    if was || !s.on (F.PRT_GATE_CTL_GATE_EN p) then s.showGate p
    else if g.pend.isSome then (s.setGate p { g with oper := none, extended := false }).showGate p
    else if g.oper.isSome then s.gateSeek p
    else s.showGate p

def execGateEnable (_pid port val : Nat) (s : State) : Res := .next (s.writeGateCtl port val)

/-- PREEMPT_VERIFY_TIMEOUT: another attempt, or failure after the third (R177). -/
def execPreemptVerifyTimeout (port : Nat) (s : State) : Res :=
  .next (if decide (port < 20) && s.get (F.PRT_STAT_VERIFY port) == 1 &&
      decide (storeGet cntDefault s.prt.verAt port + 1000000 * s.get (F.PRT_PREEMPT_VERIFY_MS port) ≤ s.now) then
      if s.verTries port < 3 then s.verifyTry port (s.verTries port + 1)
      else (s.put (F.PRT_STAT_VERIFY port) 3).raise (F.PRT_EVT_VERIFY_FAIL port)
    else s)

/-- QCI_GATE_CHANGE: an entry of a stream gate's list takes effect, or its pending list becomes operational (R184). -/
def execQciGateChange (g : Nat) (s : State) : Res :=
  .next (if g < 128 then
      match (s.gate (32 + g)).pend with
      | some q => if s.reached q.base then s.gateSwitch (32 + g) else s.gateStep (32 + g)
      | none => s.gateStep (32 + g)
    else s)

/-! Opcodes (R186). -/

/-- Status WRONG_PORT, for an opcode not valid on a port. -/
def St.WRONG_PORT : Nat := 0x0600
def St.NO_LINK : Nat := 0x0601

/-- GCL_LOAD. -/
def State.gclLoad (s : State) (d : Desc) : State :=
  if u8 d.raw 20 = 20 then s.finish d St.WRONG_PORT 0
  else if 20 < u8 d.raw 20 || !s.gateListOk d false then s.finish d St.BADARG 0
  else s.gateLoad (u8 d.raw 20) d

def execGclLoad (r : Nat) (s : State) : Res := .next (s.withOp r 5 1 fun d => s.gclLoad d)

/-- QCI_GATE_LOAD. -/
def State.qciGateLoad (s : State) (d : Desc) : State :=
  if 128 ≤ u8 d.raw 20 || !s.gateListOk d true then s.finish d St.BADARG 0
  else s.gateLoad (32 + u8 d.raw 20) d

def execQciGateLoad (r : Nat) (s : State) : Res := .next (s.withOp r 5 3 fun d => s.qciGateLoad d)

/-- A value of an index field: below `n`, or the wildcard `w`. -/
def idxOk (n w v : Nat) : Bool := decide (v < n) || v == w

def filterDefault (_ : Nat) : QFilter := ⟨false, 0xFFFF, 0xFF, 0xFF, 0, 0xFFFF, 0xFF, false, false⟩

/-- QCI_FILTER_SET. -/
def State.filterSet (s : State) (d : Desc) : State :=
  let b := d.raw
  let fl := u8 b 31
  if !d.noBuf || decide (256 ≤ u16 b 20) || !idxOk 1024 0xFFFF (u16 b 22) || !idxOk 8 0xFF (u8 b 24) ||
      !idxOk 128 0xFF (u8 b 25) || !idxOk 256 0xFFFF (u16 b 28) || !idxOk 8 0xFF (u8 b 30) || decide (4 ≤ fl) then
    s.finish d St.BADARG 0
  else
    let f : QFilter :=
      ⟨bitOf fl 0, u16 b 22, u8 b 24, u8 b 25, u16 b 26, u16 b 28, u8 b 30, bitOf fl 1, false⟩
    (s.onPrt fun t => { t with filters := storeSet filterDefault t.filters (u16 b 20) f }).finish d St.OK 0

def execQciFilterSet (r : Nat) (s : State) : Res := .next (s.withOp r 5 2 fun d => s.filterSet d)

def meterDefault (_ : Nat) : QMeter := ⟨0, 0, 0, 0, false, false, false, ⟨0, 0⟩, ⟨0, 0⟩, false⟩
def State.meter (s : State) (m : Nat) : QMeter := storeGet meterDefault s.prt.meters m
def State.setMeter (s : State) (m : Nat) (v : QMeter) : State :=
  s.onPrt fun t => { t with meters := storeSet meterDefault t.meters m v }

/-- QCI_METER_SET: the meter starts with full buckets (PRESUMED, log 30). -/
def State.meterSet (s : State) (d : Desc) : State :=
  let b := d.raw
  let m := u16 b 20
  let fl := u8 b 40
  if !d.noBuf || decide (256 ≤ m) || decide (16 ≤ fl) then s.finish d St.BADARG 0
  else
    let cbs := u32 b 28
    let ebs := u32 b 36
    let q : QMeter :=
      ⟨u32 b 24, cbs, u32 b 32, ebs, bitOf fl 0, bitOf fl 1, bitOf fl 2, ⟨cbs * 8000000, s.now⟩,
        ⟨ebs * 8000000, s.now⟩, (s.meter m).allRed && !bitOf fl 3⟩
    (s.setMeter m q).finish d St.OK 0

def execQciMeterSet (r : Nat) (s : State) : Res := .next (s.withOp r 5 4 fun d => s.meterSet d)

/-- Count `i` of filter `f`: matched, passed, gate, SDU and meter drops. -/
def State.filtCnt (s : State) (f i : Nat) : Nat := storeGet cntDefault s.prt.filtCnt (8 * f + i)
def State.setFiltCnt (s : State) (f i v : Nat) : State :=
  s.onPrt fun t => { t with filtCnt := storeSet cntDefault t.filtCnt (8 * f + i) (v % 2 ^ 64) }

/-- QCI_READ: the five counts, cleared in the same event. -/
def State.qciRead (s : State) (d : Desc) : State :=
  let f := u16 d.raw 20
  if decide (256 ≤ f) || decide (d.len < 40) then s.finish d St.BADARG 0
  else
    let b := (List.range 5).flatMap fun i => leBytes 8 (s.filtCnt f i)
    let s := forEach (List.range 5) (fun i t => t.setFiltCnt f i 0) s
    s.finishBuf d 0 b St.OK 40

def execQciRead (r : Nat) (s : State) : Res := .next (s.withOp r 5 5 fun d => s.qciRead d)

/-- SP_SEND: the frame waits in the service port's stage, and the descriptor for it to leave (R185). -/
def State.spSend (s : State) (d : Desc) : State :=
  if decide (d.len < 60) || decide (s.get (F.PRT_MODE_MAX_LEN 20) < d.len + 4) then s.finish d St.BADARG 0
  else if !s.isUp 20 then s.finish d St.NO_LINK 0
  else
    let r := s.placed { SwFrame.new 24 0 d.buf (d.len + 4) 4096 0 with send := some (d.round, d.slot) }
    (r.1.onSwc fun w => { w with staged := w.staged ++ [⟨24, r.2, cellsOf r.2.len⟩] }).hold d

def execSpSend (r : Nat) (s : State) : Res := .next (s.withOp r 5 6 fun d => s.spSend d)

/-- SP_RECV: the descriptor waits for a frame of the service port (R185). -/
def execSpRecv (r : Nat) (s : State) : Res :=
  .next (s.withOp r 5 7 fun d =>
    if d.len < s.get (F.PRT_MODE_MAX_LEN 20) then s.finish d St.BADARG 0 else s.hold d)

end Sys2Proof.Machine
end

