-- ==== Sys2Proof/Machine/ChartOps.lean ====
section
/-! DEFINITION. What the audio function and Chart share: node copies and their engines, audio block frames (R218), the
carve (R252), requests for a replan (R253) and engines that fail (R255). -/
namespace Sys2Proof.Machine

def State.onAud (s : State) (f : Aud → Aud) : State := s.setAud (f s.aud)
def State.onCht (s : State) (f : Cht → Cht) : State := s.setCht (f s.cht)

/-! Node copies: `c` is node + 512 × copy + 1024 × shadow. -/

def copyNode (c : Nat) : Nat := c % 512
def copyTwin (c : Nat) : Nat := c / 512 % 2
def copyShadow (c : Nat) : Nat := c / 1024

def slotDefault (_ : Nat) : AudSlot :=
  ⟨false, false, false, 0, false, 0, 0, 0, 0, 0, [], 0, 0, false, false, 0, none⟩
def State.slot (s : State) (k : Nat) : AudSlot := storeGet slotDefault s.aud.slots k

/-- The pattern, or its shadow's. -/
def State.patOf (s : State) (sh : Nat) : Option Pattern := if sh = 0 then s.aud.pat else s.cht.shadow.map (·.pat)
def State.placeOf (s : State) (sh : Nat) : Option Placement := if sh = 0 then s.cht.place else s.cht.shadow.map (·.place)

/-- The engine of a node copy; 31 none. -/
def Placement.engine (p : Placement) (node copy : Nat) : Nat :=
  if copy = 0 then p.eng.getD node 31 else p.twin.getD node 31

def State.engineOf (s : State) (c : Nat) : Nat :=
  match s.placeOf (copyShadow c) with
  | some p => p.engine (copyNode c) (copyTwin c)
  | none => 31

/-- The copies of a node that have an engine. -/
def Placement.copies (p : Placement) (sh node : Nat) : List Nat :=
  ([0, 1].filter fun k => p.engine node k != 31).map fun k => node + 512 * k + 1024 * sh

/-- The generation a placement's frames carry (R218). -/
def State.genOf (s : State) (sh : Nat) : Nat := (s.get F.CHT_PLACE_GEN_GEN + sh) % 2 ^ 32

/-- An engine is on and in service. -/
def State.engineOn (s : State) (e : Nat) : Bool := decide (e < 16) && s.get (F.CHT_ENG_STAT_STATE e) == 1

def stDefault (_ : Nat) : NodeSt := nodeRest
def State.nodeSt (s : State) (c : Nat) : NodeSt := storeGet stDefault s.aud.st c
def State.setNodeSt (s : State) (c : Nat) (v : NodeSt) : State :=
  s.onAud fun a => { a with st := storeSet stDefault a.st c v }

/-- The state of every shadow copy is forgotten. -/
def State.clearShadowSt (s : State) : State := s.onAud fun a => { a with st := a.st.filter fun x => decide (x.1 < 1024) }

/-! Audio block frames (R218, R127). -/

/-- Samples as they lie in a frame. -/
def smpBytes : List Int → Bytes
  | [] => []
  | x :: r => leBytes 6 (ofInt 48 x) ++ smpBytes r

/-- `n` samples from byte `i`. -/
def smpAt (b : Bytes) : Nat → Nat → List Int
  | 0, _ => []
  | n + 1, i => sint 48 (u48 b i) :: smpAt b n (i + 6)

/-- The edge frame of edge `e` (R218). -/
def edgeFrame (e time gen : Nat) (l : List Int) (sat silent : Bool) : Bytes :=
  slice ([0x20, 1] ++ leBytes 2 e ++ leBytes 4 time ++ leBytes 2 l.length ++ leBytes 1 (b2n sat + 4 * b2n silent) ++
    [0] ++ leBytes 4 gen ++ zeros 16 ++ smpBytes l) 0 320

/-- The contribution of contributor `i` of a group (R127). -/
def plyFrame (g i time gen : Nat) (l : List Int) : Bytes :=
  slice ([0x21, 1] ++ leBytes 1 g ++ leBytes 1 i ++ leBytes 4 time ++ [48, 0, 0, 0] ++ zeros 8 ++ leBytes 4 gen ++
    zeros 8 ++ smpBytes l) 0 320

/-- A contribution goes through port A to its accumulator; the switch core does not queue it (R127). -/
def State.sendPly (s : State) (b : Bytes) : State := s.onSwc fun w => { w with transit := w.transit ++ [(8, b)] }

/-- An edge frame enters the switch core at port A, toward port A, in the class of its node (R116, R218): two cells of the packet
buffer, which for copy `k` of a twin lie in bank `k` (R250). -/
def State.sendEdge (s : State) (n : PNode) (k : Nat) (b : Bytes) : State :=
  (s.storeFrame { SwFrame.new 22 n.cls b 320 4096 0 with
    block := true, bank := if n.twin = 0 then bankOf 22 else k } b [22]).1

/-- Frame `k` is the first of its class on its way through port A (R117). -/
def State.firstIn (s : State) (k : Nat) : Bool :=
  match s.swc.transit[k]? with
  | some x => (s.swc.transit.take k).all fun y => y.1 != x.1
  | none => false

/-- The ply group of a MIX, and the index of a node among its contributors (R234). -/
def Pattern.groupOf (p : Pattern) (m : Nat) : Nat := (p.mixes.findIdx? (· == m)).getD 256
def Pattern.plyIndex (p : Pattern) (i : Nat) : Nat :=
  ((List.range i).filter fun j => (p.node j).kind == K.PLY_OUT && u8 (p.node j).raw 8 == u8 (p.node i).raw 8).length

/-- A block reaches an input of a node copy. The first of a twin's two counts; a second that differs is reported
(R250). -/
def State.toInbox (s : State) (b : InBlk) (twin : Nat) : State :=
  match s.aud.inbox.find? fun x => x.at_ == b.at_ && x.inp == b.inp && x.time == b.time with
  | none => s.onAud fun a => { a with inbox := a.inbox ++ [b] }
  | some x =>
    if twin != 0 && !x.missed && x.samples != b.samples then
      ((s.count C.CHT_TWIN_DIFF).put F.CHT_STAT_TWIN_GROUP twin).raise F.CHT_EVT_TWIN_DIFF
    else s

/-- The copies that edge `e` of a pattern feeds from copy `k` of its source. -/
def Pattern.feedsCopies (p : Pattern) (pl : Placement) (sh k : Nat) (e : PEdge) : List Nat :=
  let same := (p.node e.frm).twin != 0 && (p.node e.frm).twin == (p.node e.dst).twin
  (pl.copies sh e.dst).filter fun c => !same || copyTwin c == k

/-! The carve (R121, R124, R252). -/

/-- ALPHA and MIN of every queue take effect in one event, with the reserve and the mirror cap (R124). -/
def State.applyCarve (s : State) (l : List (Nat × Nat)) (ply mir : Nat) : State :=
  let s := forEach l (fun x t => t.onSwc fun w => { w with carve := storeSet carveDefault w.carve x.1 x.2 }) s
  let s := (s.put F.SWC_POOL_RSV_PLY_RSV ply).put F.SWC_POOL_RSV_MIR_CAP mir
  (s.put F.SWC_CARVE_GEN_GEN (s.get F.SWC_CARVE_GEN_GEN + 1)).raise F.SWC_EVT_CARVE

def minHintDefault (_ : Nat) : Nat := 64
def kHintDefault (_ : Nat) : Nat := 6

/-- Cells per block of audio frames placed toward queue `q` (port × 8 + class): those between engines go through port A. -/
def State.audioToward (s : State) (q : Nat) : Nat :=
  match s.aud.pat, s.cht.place with
  | some p, some pl =>
    if q / 8 = 22 then p.audioCells (p.placedOf pl) (q % 8) else 0
  | _, _ => 0

/-- Chart recomputes the carve; the answer says whether it scaled the wanted minimums (R252). -/
def State.recarve (s : State) : State × Bool :=
  let ply := 4 * (match s.aud.pat with | some p => p.mixes.length | none => 0)
  let qs := List.range 192
  let want := fun (q : Nat) => storeGet minHintDefault s.cht.hintMin q
  let audio := fun (q : Nat) => 2 * s.audioToward q
  let w := (qs.map want).sum
  let a := (qs.map audio).sum
  let clip := decide (32768 < w + a + ply)
  let room := 32768 - a - ply
  let mn := fun (q : Nat) => (if clip then want q * room / max w 1 else want q) + audio q
  let mir := if (List.range 4).any fun m => s.on (F.SWC_MIR_CTL_EN m) then 2048 else 0
  let s := s.applyCarve (qs.map fun q => (q, storeGet kHintDefault s.cht.hintK q * 65536 + mn q)) ply mir
  (if clip then s.raise F.CHT_EVT_CARVE_CLIPPED else s, clip)

/-! Requests and failures. -/

def isLoad : Cause → Bool
  | .load _ _ => true
  | _ => false

/-- Something asks for a replan (R253). -/
def State.askChart (s : State) (c : Cause) : State :=
  (s.onCht fun t => { t with asks := t.asks ++ [c] }).put F.CHT_STAT_BUSY 1

/-- A shadow is the mirrored placement of a standby (R134). -/
def Shadow.mirrored (sh : Shadow) : Bool := sh.causes.contains .mirror

/-- A placement is on its way. -/
def State.placing (s : State) : Bool :=
  match s.cht.shadow with
  | some sh => !sh.mirrored || sh.passed
  | none => false

/-- BUSY falls once nothing waits and no placement is on its way. -/
def State.chartIdle (s : State) : State :=
  if s.cht.asks.isEmpty && !s.placing then s.put F.CHT_STAT_BUSY 0 else s

/-- A placement on its way is abandoned; what asked for it is served by the next replan. -/
def State.dropShadow (s : State) (again : Bool) : State :=
  match s.cht.shadow with
  | none => s
  | some sh =>
    let s := s.clearShadowSt
    s.onCht fun t => { t with shadow := none, asks := (if again then sh.causes.filter (· != .mirror) else []) ++ t.asks }

/-- Engine `e` fails: it is out of service, or excluded at FAIL_LIMIT, and a replan follows without it (R255). -/
def State.engineFail (s : State) (e : Nat) : State :=
  if 16 ≤ e || !s.engineOn e then s
  else
    let n := min 15 (s.get (F.CHT_ENG_STAT_FAILS e) + 1)
    let s := (s.put (F.CHT_ENG_STAT_FAILS e) n).count C.CHT_ENG_FAIL
    let s := s.raise F.CHT_EVT_ENG_FAIL
    let out := decide (max 1 (s.get F.CHT_CTL_FAIL_LIMIT) ≤ n)
    let s := s.put (F.CHT_ENG_STAT_STATE e) (if out then 3 else 2)
    let s := if out then (s.set1 F.CHT_EXCLUDED_ENG e).raise F.CHT_EVT_ENG_EXCLUDED else s
    let held := match s.cht.shadow with
      | some sh => (sh.place.eng ++ sh.place.twin).contains e
      | none => false
    (if held then s.dropShadow true else s).askChart .failure

/-- The engines that a placement can use leave out those failed and excluded. -/
def State.badEngines (s : State) : List Nat :=
  (List.range 16).filter fun e => decide (2 ≤ s.get (F.CHT_ENG_STAT_STATE e))

/-- ENGINES_ON counts the engines that are on. -/
def State.countEngines (s : State) : State :=
  s.put F.CHT_STAT_ENGINES_ON ((List.range 16).filter s.engineOn).length

/-- An engine missed a deadline with a frame in the block under way (R255). -/
def State.lateEngine (s : State) (e : Nat) : State := s.onCht fun t => { t with lateNow := (e :: t.lateNow).eraseDups }

/-- At a block's end the streak of late blocks of each engine moves on, and one that reaches LATE_LIMIT fails. -/
def State.streaks (s : State) : State :=
  let late := s.cht.lateNow
  let lim := max 1 (s.get F.CHT_CTL_LATE_LIMIT)
  let s := forEach (List.range 16) (fun e t =>
    let k := if late.contains e then storeGet cntDefault t.cht.streak e + 1 else 0
    t.onCht fun x => { x with streak := storeSet cntDefault x.streak e k }) s
  let s := s.onCht fun t => { t with lateNow := [] }
  forEach (List.range 16) (fun e t => if lim ≤ storeGet cntDefault t.cht.streak e then
    (t.onCht fun x => { x with streak := storeSet cntDefault x.streak e 0 }).engineFail e else t) s

end Sys2Proof.Machine
end

