-- ==== Sys2Proof/Machine/AudioNet.lean ====
section
/-! DEFINITION. Network streams of the audio function: frames received (R224) and packets sent (R222, R223). The places
of the fields are those of IEEE 1722 AAF and of AES67 over IPv4 (PRESUMED, log 42). -/
namespace Sys2Proof.Machine

def State.setSlot (s : State) (k : Nat) (v : AudSlot) : State :=
  (s.onAud fun a => { a with slots := storeSet slotDefault a.slots k v }).put (F.AUD_STR_STAT_LAST_SEQ k) v.seq

/-- AUD_NET_INFO shows a late (1), early (2) or missing (3) event. -/
def State.netInfo (s : State) (slot kind : Nat) : State :=
  (s.put F.AUD_NET_INFO_KIND kind).put F.AUD_NET_INFO_SLOT slot

def State.netLate (s : State) (slot : Nat) : State :=
  ((s.count C.AUD_NET_LATE).raise F.AUD_EVT_NET_LATE).netInfo slot 1
def State.netEarly (s : State) (slot : Nat) : State :=
  ((s.count C.AUD_NET_EARLY).raise F.AUD_EVT_NET_EARLY).netInfo slot 2
def State.netGap (s : State) (slot n : Nat) : State :=
  if n = 0 then s else ((s.count C.AUD_NET_GAP n).raise F.AUD_EVT_NET_GAP).netInfo slot 3

/-- What a received packet holds. -/
structure NetPkt where
  seq : Nat
  /-- the modulus of sequence numbers -/
  mod : Nat
  /-- AVTP or RTP timestamp -/
  time : Nat
  mr : Bool
  payload : Bytes
  /-- bytes of a sample -/
  width : Nat

/-- A received AAF PDU in an untagged frame; none where it does not fit the slot. -/
def aafPkt (b : Bytes) (sl : AudSlot) : Option NetPkt :=
  let p := b.drop 14
  if etherType b != 0x22F0 || u8 p 0 != 0x02 || beVal (slice p 4 8) != sl.sid then none
  else
    some ⟨u8 p 2, 256, be32 p 12, bitOf (u8 p 1) 3, (p.drop 24).take (be16 p 20), if u8 p 16 = 2 then 4 else 3⟩

/-- A received RTP packet in an untagged frame. -/
def rtpPkt (b : Bytes) (sl : AudSlot) : Option NetPkt :=
  let ip := b.drop 14
  let u := ip.drop (4 * (u8 ip 0 % 16))
  let r := u.drop 8
  if etherType b != 0x0800 || u8 ip 9 != 17 || u8 r 0 / 64 != 2 || be32 r 8 != sl.sid then none
  else some ⟨be16 r 2, 65536, be32 r 4, false, (r.drop (12 + 4 * (u8 r 0 % 16))).take (be16 u 4 - 20 - 4 * (u8 r 0 % 16)), 3⟩

/-- Samples of a block at a slot's rate. -/
def AudSlot.per (sl : AudSlot) : Nat := if sl.rate16 then 16 else 48

/-- Where sample `k` of a packet falls: its block as a number of blocks after block time `t0`, and its place there (R224). -/
def AudSlot.place (sl : AudSlot) (t0 : Nat) (p : NetPkt) (k : Nat) : Int × Nat :=
  if sl.aes then
    let d := sint 32 (p.time + k + 2 ^ 32 - sl.ts0)
    let due := ofInt 32 ((sl.block0 + sl.offset : Nat) + d / sl.per * 1000000)
    (sint 32 (due + 2 ^ 32 - t0) / 1000000, (d % sl.per).toNat)
  else
    let x := sint 32 (p.time + 2 ^ 33 - t0 - 1000000) * sl.per + (k * 1000000 : Nat)
    let turn : Int := (1000000 * sl.per : Nat)
    (x / turn, min (sl.per - 1) ((x % turn + 500000) / 1000000).toNat)

/-- A sample of a packet as a sample word (R216). -/
def netSample (p : NetPkt) (i : Nat) : Int :=
  let v := beVal (slice p.payload (i * p.width) p.width)
  sint 48 (v * 2 ^ (48 - 8 * p.width))

/-- One sample of a packet is kept for its block, or dropped as late or early (R224). -/
def State.netSample (slot t0 : Nat) (sl : AudSlot) (p : NetPkt) (i : Nat) (s : State) : State :=
  let at_ := sl.place t0 p (i / sl.chans)
  if at_.1 ≤ 0 then s.netLate slot
  else if 16 < at_.1 then s.netEarly slot
  else
    s.onAud fun a => { a with
      net := a.net ++ [⟨slot, i % sl.chans, (t0 + 1000000 * at_.1.toNat) % 2 ^ 32, at_.2, Sys2Proof.Machine.netSample p i⟩] }

/-- A packet of a receive slot: its sequence gap is counted, and its samples are taken. An AAF PDU with tv 0 counts as
missing. -/
def State.netPacket (s : State) (slot t0 : Nat) (sl : AudSlot) (p : NetPkt) (tv : Bool) : State :=
  let miss := if sl.synced && p.mr == sl.mr then (p.seq + p.mod - (sl.seq + 1) % p.mod) % p.mod else 0
  let s := s.setSlot slot { sl with seq := p.seq, synced := true, mr := p.mr }
  let s := s.netGap slot (miss + b2n (!tv))
  if !tv then s
  else
    forEach (List.range (p.payload.length / max 1 (p.width * sl.chans) * sl.chans)) (State.netSample slot t0 sl p) s

/-- A receive slot takes a frame, untagged. -/
def State.slotFrame (s : State) (t0 : Nat) (u : Bytes) (k : Nat) (sl : AudSlot) : State :=
  if sl.aes then match rtpPkt u sl with | some p => s.netPacket k t0 sl p true | none => s
  else match aafPkt u sl with | some p => s.netPacket k t0 sl p (bitOf (u8 u 15) 0) | none => s

/-- An Ethernet frame at port A: the receive slots of its stream take it (R222, R224). Frames of no slot, or with no block
under way, are discarded. -/
def State.netFrame (s : State) (b : Bytes) : State :=
  let vid := if isTagged b then be16 b 14 % 4096 else s.get (F.SWC_PCFG_PVID 22)
  let u := stripTag b
  match s.streamOf (be48 b 0) (be48 b 6) vid, s.aud.block with
  | some h, some t0 =>
    forEach (s.aud.slots.filter fun x => x.2.en && !x.2.tx && x.2.handle == h) (fun x t => t.slotFrame t0 u x.1 x.2) s
  | _, _ => s

/-- AUDIO_STREAM_RECEIVE: the oldest Ethernet frame delivered to port A. -/
def execAudioStreamReceive (s : State) : Res :=
  .next (match s.swc.aIn with
    | [] => s
    | b :: r => (s.onSwc fun w => { w with aIn := r }).netFrame b)

/-! Sending (R223). -/

/-- A sample word rounded to `n` bits, ties toward +∞, and saturated (R216). -/
def roundTo (n : Nat) (x : Int) : Int := satInt n ((x + 2 ^ (47 - n)) / 2 ^ (48 - n))

/-- The sum of a run of bytes as big-endian 16-bit words, folded to the ones' complement check of IPv4. -/
def ipCheck (b : Bytes) : Nat :=
  let t := ((List.range (b.length / 2)).map fun i => be16 b (2 * i)).sum
  let t := t % 65536 + t / 65536
  65535 - (t % 65536 + t / 65536)

/-- The offset of the first byte after a template's EtherType. -/
def hdrOff (b : Bytes) : Nat := if isTagged b then 18 else 14

/-- Packet `j` of a block: the template with its fields filled in, and the samples interleaved by channel. -/
def netPacketOut (sl : AudSlot) (t blk j : Nat) (chans : List (List Int)) : Bytes :=
  let o := hdrOff sl.template
  let w := if !sl.aes && u8 sl.template (o + 16) == 2 then 4 else 3
  let data := (List.range sl.spp).flatMap fun k => chans.flatMap fun c =>
    beBytes w (ofInt (8 * w) (roundTo (8 * w) (smp c (j * sl.spp + k))))
  let b := sl.template
  if sl.aes then
    let n := 20 + 8 + 12 + data.length
    let b := patch (patch b (o + 2) (beBytes 2 n)) (o + 4) (beBytes 2 sl.ident)
    let b := patch b (o + 10) [0, 0]
    let b := patch b (o + 10) (beBytes 2 (ipCheck (slice b o 20)))
    let b := patch (patch b (o + 24) (beBytes 2 (n - 20))) (o + 26) [0, 0]
    let b := patch b (o + 30) (beBytes 2 sl.seq)
    patch b (o + 32) (beBytes 4 (sl.ts0 + sl.per * blk + j * sl.spp)) ++ data
  else
    let c := u8 b (o + 1)
    let c := setBit (if sl.mr then setBit c 3 else clearBit c 3) 0
    let b := patch (patch b (o + 1) (leBytes 1 c)) (o + 2) (leBytes 1 sl.seq)
    patch b (o + 12) (beBytes 4 (t + sl.offset + j * sl.spp * 1000000 / sl.per)) ++ data

/-- The packets of a block leave in order, entering the switch core at port A in class `cls`. -/
def State.netSend (s : State) (k t cls : Nat) : Nat → Nat → List (List Int) → State
  | 0, _, _ => s
  | n + 1, j, chans =>
    let sl := s.slot k
    let blk := match sl.sent with
      | some (c, t0) => c + ahead32 t0 t / 1000000
      | none => ahead32 sl.block0 t / 1000000
    let seq := (sl.seq + 1) % (if sl.aes then 65536 else 256)
    let sl := { sl with seq := seq, ident := (sl.ident + 1) % 65536 }
    let b := netPacketOut sl t blk j chans
    let s := s.setSlot k (if n = 0 then { sl with sent := some (blk, t) } else sl)
    State.netSend ((s.swIngress ⟨22, b, some cls, none, []⟩).1) k t cls n (j + 1) chans

def noBlk (_ : Nat) : List Int := []

/-- A SINK of a transmit slot has its block; the slot sends once every channel with a sink has. -/
def State.txBlock (s : State) (p : Pattern) (n : PNode) (t : Nat) (l : List Int) : State :=
  let k := n.ioUnit
  let sl := s.slot k
  let s := s.onAud fun a => { a with txBlk := storeSet noBlk a.txBlk (8 * k + n.ioChan) l }
  let used := (p.nodes.filter fun m => m.kind == K.SINK && m.ioType == 2 && m.ioUnit == k).map (·.ioChan)
  if sl.en && sl.tx && used.all fun c => !(storeGet noBlk s.aud.txBlk (8 * k + c)).isEmpty then
    let chans := (List.range sl.chans).map fun c => storeGet noBlk s.aud.txBlk (8 * k + c)
    let s := s.onAud fun a => { a with txBlk := a.txBlk.filter fun x => x.1 / 8 != k }
    State.netSend s k t n.cls (sl.per / max 1 sl.spp) 0 chans
  else s

end Sys2Proof.Machine
end

