-- ==== Sys2Proof/Machine/CoreOps.lean ====
section
/-! DEFINITION. What the application cores and partitions share: which partition a core stamps (R393), partition
watchdogs (R396), suspension (R398), mailbox signals (R402, R406) and the restart of a partition (R397). -/
namespace Sys2Proof.Machine

def State.onCor (s : State) (f : Cor → Cor) : State := s.setCor (f s.cor)

def noTbl (_ : Nat) : List (Nat × Nat) := []
def State.tblOf (s : State) (k : Nat) : List (Nat × Nat) := storeGet noTbl s.cor.tbl k
/-- The window in force of core `k`: its index plus 1, 0 idle. -/
def State.winOf (s : State) (k : Nat) : Nat := storeGet cntDefault s.cor.win k

/-- A comfort partition; class 3 acts as 2. -/
def State.comfort (s : State) (p : Nat) : Bool := decide (2 ≤ s.get (F.COR_P_CTL_CLASS p))
def State.suspended (s : State) (p : Nat) : Bool := s.cor.susp && s.comfort p

/-- What core `k` runs, as its STATE and the partition it stamps; 31 stands for none (DESIGN CHOICE, log 43). -/
def State.coreNow (s : State) (k : Nat) : Nat × Nat :=
  if bitOf s.cor.held k then (3, 31)
  else
    let q := if s.on (F.COR_A_CTL_SCHED_EN k) then
        (if s.winOf k = 0 then 0xFF else ((s.tblOf k).getD (s.winOf k - 1) (0, 0xFF)).2)
      else s.get (F.COR_A_CTL_PID k)
    if s.cor.doze then (2, if s.partOn q then q else 31)
    else if !s.partOn q then (1, 31)
    else if s.suspended q then (if s.on (F.COR_A_CTL_SCHED_EN k) then 1 else 2, q)
    else (0, q)

/-- The registers of core `k` show what it runs; those of the odd core of a lockstep pair read 0 (R390). -/
def State.showCore (k : Nat) (s : State) : State :=
  if s.actingCore k != k then
    (((s.wr (R.COR_A_CTL k) 0).wr (R.COR_A_STAT k) 0).onCor fun c => { c with held := clearBit c.held k })
  else
    let c := s.coreNow k
    let s := (s.put (F.COR_A_STAT_STATE k) c.1).put (F.COR_A_STAT_PID k) c.2
    s.put (F.COR_A_STAT_ENTRY k) (s.winOf k - 1)

/-- COR_Pp_STAT shows whether partition `p` runs. -/
def State.showPart (p : Nat) (s : State) : State :=
  s.put (F.COR_P_STAT_STATE p) (if !s.partOn p then 3 else if s.suspended p then 1 else 0)

/-- The partitions of COR_Pp_CTL. -/
def parts : List Nat := (List.range 16).map (· + 3)

def State.showCores (s : State) : State := forEach parts State.showPart (forEach (List.range 8) State.showCore s)

/-! Watchdogs (R396). -/

def State.setWd (s : State) (p v : Nat) : State :=
  s.onCor fun c => { c with wdLeft := storeSet cntDefault c.wdLeft p v }
def State.wdLoad (s : State) (p : Nat) : State := s.setWd p (1000000 * s.get (F.COR_P_CTL_WD_MS p))

/-- Core `k` is not halted: it runs its partition (R389, R393). -/
def State.notHalted (s : State) (k : Nat) : Bool := (s.coreNow k).1 == 0

/-- ns that core `k` has not been halted. -/
def State.ranFor (s : State) (k : Nat) : Nat :=
  storeGet cntDefault s.cor.runNs k + (if s.notHalted k then s.now - s.cor.wdAt else 0)

/-- `mcycle` of core `k` counts lattice ticks while the core is not halted (R389). -/
def State.mcycle (s : State) (k : Nat) : Nat := s.ranFor k / 4 % 2 ^ 64

/-- The watchdogs of the partitions that could run, and the cores' `mcycle`, count the time since they were last brought
up to date. -/
def State.wdSync (s : State) : State :=
  let d := s.now - s.cor.wdAt
  let s := forEach (List.range 8)
    (fun k t => t.onCor fun c => { c with runNs := storeSet cntDefault c.runNs k (t.ranFor k) }) s
  let s := forEach parts (fun p t => if t.canRun p then t.setWd p (t.wdLeft p - d) else t) s
  s.onCor fun c => { c with wdAt := s.now }

/-- A change of what cores may run, between bringing the watchdogs up to date and showing the change. -/
def State.coreChange (s : State) (f : State → State) : State := (f s.wdSync).showCores

/-- Comfort partitions are suspended or resume (R398). -/
def State.suspendComfort (s : State) (on : Bool) : State :=
  if s.cor.susp == on then s
  else
    (s.coreChange fun t => t.onCor fun c => { c with susp := on }).raise
      (if on then F.COR_EVT_SUSPENDED else F.COR_EVT_RESUMED)

/-- Every core halts in DOZE, or runs on after it (R325). -/
def State.haltCores (s : State) (on : Bool) : State := s.coreChange fun t => t.onCor fun c => { c with doze := on }

/-! Mailboxes (R400 to R406). -/

def State.mbFull (s : State) (n : Nat) : Bool := s.on (F.MBX_STAT_FULL n)

/-- A side of a mailbox is signalled: partition 2 by MSI-X, any other by its identity. -/
def State.mbSignal (s : State) (n side aia : Nat) : State :=
  if side = 2 then s.sendMsix (s.get (F.MBX_VEC_MSIX n)) else s.sendAia aia
def State.mbSignalRx (s : State) (n : Nat) : State := s.mbSignal n (s.mbReceiver n) (s.get (F.MBX_VEC_RX_AIA n))
def State.mbSignalTx (s : State) (n : Nat) : State := s.mbSignal n (s.mbSender n) (s.get (F.MBX_VEC_TX_AIA n))

/-- Mailbox `n` names `m` as its PEER. -/
def State.mbNames (s : State) (n m : Nat) : Bool := s.on (F.MBX_CFG_PEER_EN n) && s.get (F.MBX_CFG_PEER n) == m

/-- The mailboxes that are peers of mailbox `n`. -/
def State.mbPeers (s : State) (n : Nat) : List Nat := (List.range 32).filter fun m => s.mbNames n m || s.mbNames m n

/-- Mailbox `n` is empty, and CROSSED ends on both sides. -/
def State.mbEmpty (s : State) (n : Nat) : State :=
  let s := (s.put (F.MBX_STAT_FULL n) 0).put (F.MBX_STAT_CROSSED n) 0
  let s := s.onCor fun c => { c with mbxDue := storeSet cntDefault c.mbxDue n 0 }
  forEach (s.mbPeers n) (fun m t => t.put (F.MBX_STAT_CROSSED m) 0) s

/-- Core `k` runs a partition: neither the idle half of a lockstep pair, nor halted, nor idle between windows (R41, R393). -/
def State.coreRuns (s : State) (k : Nat) : Bool :=
  decide (k < 8) && s.actingCore k == k && s.get (F.COR_A_STAT_STATE k) == 0 && decide (s.get (F.COR_A_STAT_PID k) < 19)

/-! Restart (R397). -/

/-- An unperformed push of a queue ends with an error response (R408). -/
def State.abandonPush (h : HeldPush) (s : State) : State :=
  ((s.count C.QUE_ABANDON).raise F.QUE_EVT_ABANDON).answer h.src St.FUNC_DOWN []

/-- The held pushes that satisfy `f` are discarded; reads that waited behind them are answered. -/
def State.dropPushes (s : State) (f : HeldPush → Bool) : State :=
  (forEach (s.que.held.filter f) State.abandonPush
    (s.setQue { s.que with held := s.que.held.filter fun h => !f h })).queueReads

/-- The push of a core of partition `p`. -/
def HeldPush.ofPart (p : Nat) (h : HeldPush) : Bool :=
  match h.src with
  | .core _ => h.pid == p
  | _ => false

/-- A semaphore that partition `p` holds is freed. -/
def State.reclaimFrom (p n : Nat) (s : State) : State :=
  if s.get (F.SEM_STAT_OWNER n) = p + 1 then (s.put (F.SEM_STAT_OWNER n) 0).raise F.SEM_EVT_RECLAIM else s

/-- Every semaphore of partition `p` is reclaimed (R414). -/
def State.reclaimAll (s : State) (p : Nat) : State := forEach (List.range 64) (State.reclaimFrom p) s

/-- A core of partition `p` starts anew: a static one at its reset vector, a scheduled one with its window
interrupt. -/
def State.restartCore (p k : Nat) (s : State) : State :=
  if s.actingCore k != k || s.get (F.COR_A_STAT_STATE k) == 3 || s.get (F.COR_A_STAT_PID k) != p then s
  else if s.on (F.COR_A_CTL_SCHED_EN k) then (s.put (F.COR_A_STAT_RESTART k) 1).emit (.windowNmi k)
  else s.emit (.coreReset k)

/-- A mailbox of partition `p` is emptied and its flags cleared. -/
def State.mbRestart (p n : Nat) (s : State) : State :=
  if s.mbSender n = p ∨ s.mbReceiver n = p then
    let s := (s.mbEmpty n).put (F.MBX_STAT_DOWN n) 0
    ((s.put (F.MBX_STAT_TAKEN n) 0).put (F.MBX_STAT_TIMEOUT n) 0).put (F.MBX_STAT_COLLISION n) 0
  else s

/-- A restart of partition `p` (R397). -/
def State.restartPart (s : State) (p : Nat) : State :=
  let s := forEach (List.range 8) (State.restartCore p) s.wdSync
  let s := s.dropPushes (HeldPush.ofPart p)
  let s := forEach (List.range 256) (fun n t => if t.rOwner n = p then t.roundOff n else t) s
  let s := (forEach (List.range 32) (State.mbRestart p) s).reclaimAll p
  ((s.wdLoad p).count (C.COR_RESTART p)).raise F.COR_EVT_RESTART

end Sys2Proof.Machine
end

