-- ==== Sys2Proof/Machine/LdcOps.lean ====
section
/-! DEFINITION. Load channels: their configuration, groups and states (R330 to R336), inrush, trips and restarts (R337 to
R342), shedding and tied channels (R349), and what a power die does in cast-off (R347, R348). -/
namespace Sys2Proof.Machine

def State.ldcCh (s : State) (n : Nat) : LdcCh := storeGet chDefault s.ldc.chs n
def State.setCh (s : State) (n : Nat) (v : LdcCh) : State :=
  s.setLdc { s.ldc with chs := storeSet chDefault s.ldc.chs n v }
def State.ldcBank (s : State) (b : Nat) : LdcBank := storeGet bankDefault s.ldc.banks b

/-- A bank's state changes; LDC_Bb_STAT shows its link and its cast-off (R348). -/
def State.setBank (s : State) (b : Nat) (v : LdcBank) : State :=
  let s := s.setLdc { s.ldc with banks := storeSet bankDefault s.ldc.banks b v }
  (s.put (F.LDC_B_STAT_LINK_OK b) (b2n (v.link && v.powered))).put (F.LDC_B_STAT_CAST_OFF b)
    (b2n (v.castOff || !v.powered || !v.link))

/-- The ns that the die of bank `b` has counted since crystal time `t`: its oscillator is its own, independent of the lattice,
and the spec gives its rate no figure; it is free and above 0 (R532; DESIGN CHOICE, log 94). -/
def State.dieSince (s : State) (b t : Nat) : Nat := (s.now - t) * (1 + Config.freeFn 20 (4 * t + b)) / 1000000

/-- LDC reaches the die of bank `b`: powered, with its link. -/
def State.dieThere (s : State) (b : Nat) : Bool := (s.ldcBank b).powered && (s.ldcBank b).link

/-! Configuration records (R353). -/
def cfgIlim (c : Bytes) : Nat := u16 c 0
def cfgInrush (c : Bytes) : Nat := u16 c 2
def cfgInrushMs (c : Bytes) : Nat := u16 c 4
def cfgLimTime (c : Bytes) : Nat := u16 c 6
def cfgRetryN (c : Bytes) : Nat := u8 c 8
def cfgThermN (c : Bytes) : Nat := u8 c 9
def cfgRetryMs (c : Bytes) : Nat := u16 c 10
def cfgTlim (c : Bytes) : Nat := u8 c 12
def cfgOlOn (c : Bytes) : Nat := u16 c 14
def cfgOlOffEn (c : Bytes) : Bool := bitOf (u8 c 18) 0
def cfgJoin (c : Bytes) : Bool := bitOf (u8 c 18) 1
def cfgCritical (c : Bytes) : Bool := bitOf (u8 c 18) 2
def cfgUvEn (c : Bytes) : Bool := bitOf (u8 c 18) 3
def cfgShedPrio (c : Bytes) : Nat := u8 c 19
def cfgCoMode (c : Bytes) : Nat := u8 c 20
def cfgCoDuty (c : Bytes) : Nat := u16 c 22

def State.cfg (s : State) (n : Nat) : Bytes := (s.ldcCh n).cfg
def State.isCritical (s : State) (n : Nat) : Bool := cfgCritical (s.cfg n)

/-- The channels of bank `b`. -/
def chansOf (b : Nat) : List Nat := (List.range 8).map (8 * b + ·)

/-- The leader of channel `n` (R331); `fuel` bounds the steps down. -/
def leadFrom (join : Nat → Bool) : Nat → Nat → Nat
  | 0, n => n
  | k + 1, n => if join n && n % 8 != 0 then leadFrom join k (n - 1) else n

def State.leader (s : State) (n : Nat) : Nat := s.get (F.LDC_L_STAT_LEAD n)

/-- The channels that leader `l` leads, itself first. -/
def State.members (s : State) (l : Nat) : List Nat := (chansOf (l / 8)).filter fun n => s.leader n == l

/-- LDC_IGRPn reads 0 for a channel that leads no group (R334). -/
def State.ungroup (n : Nat) (s : State) : State :=
  if (s.members n).length < 2 then s.put (F.LDC_IGRP_CURRENT n) 0 else s

/-- LEAD of every channel of bank `b` follows its configuration. -/
def State.relead (s : State) (b : Nat) : State :=
  let l := fun n => leadFrom (fun m => cfgJoin (s.cfg m)) 7 n
  forEach (chansOf b) State.ungroup (forEach (chansOf b) (fun n t => t.put (F.LDC_L_STAT_LEAD n) (l n)) s)

/-! States (R335). -/
def Ch.OFF : Nat := 0
def Ch.INRUSH : Nat := 1
def Ch.ON : Nat := 2
def Ch.TRIPPED : Nat := 3
def Ch.LATCH_THERM : Nat := 4
def Ch.LATCH_RETRY : Nat := 5
def Ch.SHED : Nat := 6
def Ch.HELD : Nat := 7

def State.chState (s : State) (n : Nat) : Nat := s.get (F.LDC_L_STAT_STATE n)
def State.cmdOn (s : State) (n : Nat) : Bool := s.on (F.LDC_L_STAT_CMD_ON n)

/-- The group of leader `l` enters state `v`; an output that is off neither pulses nor regulates. -/
def State.toState (s : State) (l v : Nat) : State :=
  forEach (s.members l) (fun n t =>
    let t := t.put (F.LDC_L_STAT_STATE n) v
    if v = Ch.INRUSH ∨ v = Ch.ON then t
    else (t.put (F.LDC_L_STAT_PWM n) 0).put (F.LDC_L_STAT_LIMITING n) 0) s

/-- The group's output is to pulse, or not. -/
def State.setPwm (s : State) (l : Nat) (on : Bool) : State :=
  forEach (s.members l) (fun n t => t.put (F.LDC_L_STAT_PWM n) (b2n on)) s

/-- ON is entered: limit ILIM, and the second of R339 begins. -/
def State.enterOn (s : State) (l : Nat) : State := (s.toState l Ch.ON).setCh l { s.ldcCh l with onAt := s.now }

/-- INRUSH is entered with a fresh timer; with INRUSH_MS 0 the channel is ON at once. -/
def State.enterInrush (s : State) (l : Nat) : State :=
  let s := (s.toState l Ch.INRUSH).setCh l { s.ldcCh l with inrushAt := s.now }
  if cfgInrushMs (s.cfg l) = 0 then s.enterOn l else s

/-- In cast-off a channel is wanted on as its CO_MODE says, else as it is commanded (R347, R348). -/
def State.wantOn (s : State) (l : Nat) : Bool :=
  if (s.ldcBank (l / 8)).castOff then
    match cfgCoMode (s.cfg l) with
    | 0 => false
    | 1 => true
    | 3 => true
    | _ => s.cmdOn l
  else s.cmdOn l

/-- The output of a channel wanted on pulses; and its duty. -/
def State.wantPwm (s : State) (l : Nat) : Bool × Nat :=
  let c := s.ldcCh l
  if (s.ldcBank (l / 8)).castOff then
    match cfgCoMode c.cfg with
    | 1 => (false, 0)
    | 3 => (true, cfgCoDuty c.cfg)
    | _ => (c.pwm, c.duty)
  else (c.pwm, c.duty)

/-- The channel starts as it is wanted; a pulse's duty holds from the first pulse. -/
def State.startCh (s : State) (l : Nat) : State :=
  let w := s.wantPwm l
  ((s.setCh l { s.ldcCh l with dutyNow := w.2 }).enterInrush l).setPwm l w.1

/-- An event of a channel: it is raised only while LDC hears the die (R534). -/
def State.chEvent (s : State) (n : Nat) (e : Fld) : State :=
  if s.dieThere (n / 8) then
    let s := (s.set1 F.LDC_FLT_CHAN_CH n).put F.LDC_LAST_INFO_EVENT e.lo
    (s.put F.LDC_LAST_INFO_CHANNEL n).raise e
  else s

/-- An event of a bank. -/
def State.bankEvent (s : State) (b : Nat) (e : Fld) : State := if s.dieThere b then s.raise e else s

/-- A count kept of what a die does, while LDC hears it. -/
def State.dieCount (s : State) (b c : Nat) : State := if s.dieThere b then s.count c else s

/-! Shedding and tied channels (R349). -/

/-- A channel whose LDC_SHED bit is set goes to SHED, unless it is CRITICAL. -/
def State.shedCh (l : Nat) (s : State) : State :=
  if s.leader l = l ∧ s.bit F.LDC_SHED_CH l ∧ !s.isCritical l ∧ s.chState l ≤ Ch.TRIPPED then
    (s.toState l Ch.SHED).chEvent l F.LDC_EVT_SHED
  else s

/-- A channel leaves SHED or HELD: INRUSH if commanded on, otherwise OFF. -/
def State.resumeCh (l : Nat) (s : State) : State := if s.wantOn l then s.startCh l else s.toState l Ch.OFF

/-- A SHED channel whose bit is clear is released. -/
def State.unshedCh (l : Nat) (s : State) : State :=
  if s.leader l = l ∧ s.chState l = Ch.SHED ∧ (!s.bit F.LDC_SHED_CH l ∨ s.isCritical l) then s.resumeCh l else s

/-- The channels of the dies that LDC reaches follow LDC_SHED. -/
def State.applyShed (s : State) : State :=
  forEach ((List.range 32).filter fun n => s.dieThere (n / 8)) (fun n t => State.unshedCh n (State.shedCh n t)) s

/-- LDC_SHED becomes `v`. -/
def State.writeShed (s : State) (v : Nat) : State := (s.put F.LDC_SHED_CH v).applyShed

/-- A tied channel is held. -/
def State.holdCh (l : Nat) (s : State) : State :=
  if s.leader l = l ∧ s.bit F.LDC_TIED_CH l ∧ s.chState l ≠ Ch.HELD then s.toState l Ch.HELD else s

/-- The tied channels of a module that becomes a standby are HELD. -/
def State.holdTied (s : State) : State := forEach (List.range 32) State.holdCh s

/-- The HELD channels of a module that is promoted follow their commands. -/
def State.unholdAll (s : State) : State :=
  (forEach (List.range 32) (fun n t => if t.leader n = n ∧ t.chState n = Ch.HELD then State.resumeCh n t else t) s).applyShed

/-! Trips (R340). -/

/-- The kinds of a trip. -/
def Trip.OC : Nat := 1
def Trip.FAST : Nat := 2
def Trip.THERM : Nat := 3
def Trip.ABS : Nat := 4
def Trip.BANK : Nat := 5

/-- The event and counter of a trip on channel `n`. -/
def tripEvent (kind : Nat) : Fld :=
  if kind = Trip.FAST then F.LDC_EVT_FAST_TRIP
  else if kind = Trip.THERM ∨ kind = Trip.ABS then F.LDC_EVT_THERM else F.LDC_EVT_TRIP
def tripCount (kind n : Nat) : Nat :=
  if kind = Trip.FAST then C.LDC_FAST n
  else if kind = Trip.THERM ∨ kind = Trip.ABS then C.LDC_THERM n else C.LDC_TRIP n

/-- Gauge evaluates at once (R376). -/
def State.gaugeDue (s : State) : State := s.setGau { s.gau with due := true }

/-- A trip of channel `n`: its group is off, and the die decides the restart. -/
def State.trip (s : State) (n kind : Nat) : State :=
  let l := s.leader n
  let b := n / 8
  let s := (s.dieCount b (tripCount kind n)).chEvent n (tripEvent kind)
  let s := (s.put (F.LDC_L_STAT_TRIP_KIND l) kind).setBank b { s.ldcBank b with blank := some (n, s.now) }
  let therm := kind == Trip.THERM || kind == Trip.ABS
  let s := if therm then s.put (F.LDC_L_STAT_THERM_CNT l) (min 15 (s.get (F.LDC_L_STAT_THERM_CNT l) + 1)) else s
  let s :=
    if therm && decide (cfgThermN (s.cfg l) ≤ s.get (F.LDC_L_STAT_THERM_CNT l)) then
      (s.toState l Ch.LATCH_THERM).chEvent l F.LDC_EVT_LATCH
    else if s.get (F.LDC_L_STAT_RETRY_LEFT l) = 0 then (s.toState l Ch.LATCH_RETRY).chEvent l F.LDC_EVT_RETRY_EXH
    else (s.toState l Ch.TRIPPED).setCh l { s.ldcCh l with tripAt := s.now }
  s.gaugeDue

/-! Cast-off (R347, R348). -/

/-- What a channel does as its die enters cast-off, by its CO_MODE. -/
def State.castCh (l : Nat) (s : State) : State :=
  let st := s.chState l
  if s.leader l ≠ l then s
  else
    match cfgCoMode (s.cfg l) with
    | 0 => if st = Ch.INRUSH ∨ st = Ch.ON ∨ st = Ch.TRIPPED then s.toState l Ch.OFF else s
    | 1 => if st = Ch.OFF then s.startCh l else if st = Ch.INRUSH ∨ st = Ch.ON then s.setPwm l false else s
    | 3 =>
      if st = Ch.OFF then s.startCh l
      else if st = Ch.INRUSH ∨ st = Ch.ON then
        (s.setCh l { s.ldcCh l with dutyNow := cfgCoDuty (s.cfg l) }).setPwm l true
      else s
    | _ => s

/-- The die of bank `b` enters cast-off. -/
def State.castOff (s : State) (b : Nat) : State :=
  if !(s.ldcBank b).powered || (s.ldcBank b).castOff then s
  else
    let s := s.dieCount b (C.LDC_CASTOFF b)
    let s := (s.setBank b { s.ldcBank b with castOff := true, told := s.dieThere b }).bankEvent b F.LDC_EVT_CAST_OFF
    forEach (chansOf b) State.castCh s

/-- Every powered die enters cast-off at once. -/
def State.castOffAll (s : State) : State := forEach (List.range 4) (fun b t => t.castOff b) s

/-- A channel's commanded state is set to match its cast-off output. -/
def State.matchCmd (l : Nat) (s : State) : State :=
  if s.leader l ≠ l then s
  else
    let w := s.wantPwm l
    let on := s.wantOn l
    forEach (s.members l) (fun n t => t.put (F.LDC_L_STAT_CMD_ON n) (b2n on))
      (s.setCh l { s.ldcCh l with pwm := on && w.1, duty := if on && w.1 then w.2 else (s.ldcCh l).duty })

/-- A WD_ARM at the die of bank `b`. -/
def State.armBank (b : Nat) (s : State) : State :=
  let s := if (s.ldcBank b).castOff then forEach (chansOf b) State.matchCmd s else s
  s.setBank b { s.ldcBank b with castOff := false, armed := true, lastValid := s.now }

/-! Powers (R370, R535). -/

/-- PNOM of channel `n` in mW, or ILIM × VBANK where PNOM is 0. -/
def State.pOn (s : State) (n : Nat) : Nat :=
  let p := s.get (F.GAU_PNOM_W n)
  if p = 0 then cfgIlim (s.cfg n) * (sint 16 (s.get (F.LDC_B_V_VBANK (n / 8)))).natAbs / 10 else 1000 * p

/-- The power of the command in force of a channel, in mW. -/
def State.pCmd (s : State) (n : Nat) : Nat :=
  let c := s.ldcCh (s.leader n)
  if !s.cmdOn n then 0
  else if c.pwm then s.pOn n * c.duty / 4096 else s.pOn n

/-- The last measured power of channel `n`, in mW. -/
def State.pMeas (s : State) (n : Nat) : Nat :=
  (sint 16 (s.get (F.LDC_B_V_VBANK (n / 8)))).natAbs * s.get (F.LDC_L_I_CURRENT n) / 100000

end Sys2Proof.Machine
end

