-- ==== Sys2Proof/Machine/GaugeOps.lean ====
section
/-! DEFINITION. Gauge's energy ledger: counters and readings (R370), the floor (R375), the projection (R376, R377), the
fixed order of cutting back and undoing (R378 to R382) and the test of costed commands (R383). Energies are in pJ and
powers in mW; every joule is charged at 1.015 (R371). -/
namespace Sys2Proof.Machine

def State.onGau (s : State) (f : Gau → Gau) : State := s.setGau (f s.gau)
def State.gauE (s : State) (i : Nat) : Nat := storeGet cntDefault s.gau.e i
def State.gauMw (s : State) (i : Nat) : Nat := storeGet cntDefault s.gau.mw i
def State.gauLevel (s : State) : Nat := s.get F.GAU_STAT_LEVEL
def State.gauMode (s : State) : Nat := s.get F.GAU_STAT_MODE
def State.inFloor (s : State) : Bool := s.on F.GAU_STAT_FLOOR

/-! The power model (R376). -/

/-- ENG_W of a level, in mW. -/
def engMw (l : Nat) : Nat := [300, 380, 520, 660, 840].getD l 840
/-- The VCORE factor of a level, in hundredths. -/
def vcoreK (l : Nat) : Nat := [32, 45, 60, 78, 100].getD l 100

/-! Readings and counters (R370, R384). -/

/-- `nj` nJ are counted on rail `i`, and in the module total where it belongs to it. -/
def State.addEnergy (s : State) (i nj : Nat) : State :=
  let s := s.onGau fun g => { g with e := storeSet cntDefault g.e i (storeGet cntDefault g.e i + nj) }
  if i < 6 then s.onGau fun g => { g with used := g.used + nj } else s

/-- What is left of the declared budget, in pJ. -/
def State.leftPj (s : State) : Int := (s.get F.GAU_BUDGET_J : Int) * 10 ^ 12 - (s.gau.used : Int) * 1015

/-- GAU_LEFT shows what is left; BUDGET_OUT is raised as it reaches 0 (R380). -/
def State.showLeft (s : State) (before : Int) : State :=
  let l := s.leftPj
  let s := s.put F.GAU_LEFT_J (ofInt 32 (l / 10 ^ 12))
  if s.gauMode ≠ 0 ∧ 0 < before ∧ l ≤ 0 then s.raise F.GAU_EVT_BUDGET_OUT else s

/-- The power at which a channel without readings is charged: its last measured power, or PNOM if that is higher. -/
def State.gapMw (s : State) (n : Nat) : Nat := max (s.pMeas n) (1000 * s.get (F.GAU_PNOM_W n))

/-- A bank without readings is charged for `ns` ns. -/
def State.gapCharge (ns b : Nat) (s : State) : State :=
  forEach (chansOf b) (fun n t => (t.addEnergy (10 + n) (t.gapMw n * ns / 1000)).addEnergy (2 + b) (t.gapMw n * ns / 1000)) s

/-- Rails that Gauge's monitors read. -/
def monRails : List Nat := [0, 1, 6, 7, 8, 9]

/-- A sample of Gauge's monitors, 100 µs after the last: the powers read are free (log 45). -/
def State.monitor (s : State) : State :=
  let ns := s.now - s.gau.monAt
  let before := s.leftPj
  let s := forEach monRails (fun i t =>
    let mw := t.free (20 + i) % 2 ^ 32
    (t.addEnergy i (mw * ns / 1000)).onGau fun g => { g with mw := storeSet cntDefault g.mw i mw }) s
  let s := forEach s.gau.gaps (State.gapCharge ns) s.drawn
  let s := s.onGau fun g => { g with monAt := s.now }
  let s := if s.now / 10000000 = (s.now - ns) / 10000000 then s
    else s.onGau fun g => { g with
      snaps := (⟨s.now, (List.range 42).map s.gauE⟩ :: g.snaps).filter fun x => decide (s.now ≤ x.at_ + 2600000000) }
  s.showLeft before

/-- The energy of the module total. -/
def totalOf (e : List Nat) : Nat := (e.take 6).sum

/-- The counters as they stood at or before `ns` ns ago; zeros at reset where none is older. -/
def State.snapAt (s : State) (ns : Nat) : GauSnap :=
  match s.gau.snaps.find? fun x => decide (x.at_ + ns ≤ s.now) with
  | some x => x
  | none => s.gau.snaps.getLastD ⟨0, []⟩

/-- A mean power in mW from an energy in nJ over a time in ns. -/
def meanMw (nj ns : Nat) : Nat := if ns = 0 then 0 else nj * 1000 / ns

/-- The window of the projection, in ns. -/
def State.projNs (s : State) : Nat := s.get F.GAU_CTL_EVAL_MS * 10000000

/-- The projected power in mW: the mean over the window, with each action's predicted change for the part of the window
before it (R376; DEDUCED, log 46). -/
def State.projMw (s : State) : Nat :=
  let w := s.snapAt s.projNs
  let ns := s.now - w.at_
  let mean : Int := meanMw (totalOf ((List.range 6).map s.gauE) - totalOf w.e) ns
  let adj := (s.gau.acts.map fun a =>
    if a.1 < w.at_ then 0 else a.2 * ((a.1 - w.at_ : Nat) : Int) / (max ns 1 : Nat)).sum
  (mean + adj).toNat

/-- An action changes the power by `d` mW, as predicted. -/
def State.gauAct (s : State) (d : Int) : State :=
  s.onGau fun g => { g with
    acts := (s.now, d) :: g.acts.filter fun a => decide (s.now ≤ a.1 + 2600000000), actAt := s.now }

/-- The engines that are on. -/
def State.enginesOn (s : State) : Nat := ((List.range 16).filter s.engineOn).length

/-- P(L′) − P in mW (R377). -/
def State.levelDelta (s : State) (l : Nat) : Int :=
  let c := s.gauLevel
  let n := s.enginesOn
  let vc := s.gauMw 6
  let dyn : Int := (vc : Int) - (n * engMw c : Nat)
  dyn * vcoreK l / vcoreK c + (n * engMw l : Nat) - vc

/-! The floor (R375). -/

/-- n_crit of a pattern. -/
def nCrit : Option Pattern → Nat
  | none => 0
  | some p =>
    let c := p.nodes.filter (·.critical)
    if c.isEmpty then 0
    else
      max (ceilDiv ((c.map fun n => n.cost * (if n.twin = 0 then 1 else 2)).sum) 850000)
        (if c.any fun n => n.twin != 0 then 2 else 1)

/-- The floor in pJ that a pattern leaves. -/
def State.floorWith (s : State) (p : Option Pattern) : Nat :=
  let crit := (List.range 32).filter s.isCritical
  (s.get F.GAU_BASE_MW + nCrit p * engMw 0 + (crit.map s.pOn).sum) * s.get F.GAU_REQ_S * 1015000000

/-- The floor in force: it is computed anew only at the moments that R375 lists. -/
def State.floorPj (s : State) : Nat := s.gau.floor

/-- Joules, rounded to the nearest. -/
def toJ (pj : Nat) : Nat := (pj + 5 * 10 ^ 11) / 10 ^ 12

/-- Gauge recomputes the floor, and evaluates at once. -/
def State.newFloor (s : State) : State :=
  let s := s.onGau fun g => { g with floor := s.floorWith s.aud.pat }
  ((s.put F.GAU_FLOOR_J (toJ s.floorPj)).put F.GAU_STAT_CRIT_ENG (nCrit s.aud.pat)).gaugeDue

/-- A power in mW held for HORIZON_S seconds stays within `avail` pJ. -/
def State.lasts (s : State) (mw avail : Int) : Bool := decide (mw * 1015000000 * s.get F.GAU_HORIZON_S ≤ avail)

/-! Costed commands (R383). -/

/-- The test of a command that changes the power by `d` mW and leaves the floor `fl`: in the floor state none that has a cost
passes (R380), and a standby refuses none (R483). -/
def State.affords (s : State) (d : Int) (fl : Nat) : Bool :=
  s.standby || s.gauMode == 0 && !s.inFloor ||
    ((decide (d ≤ 0) || !s.inFloor && s.gauMode != 2) && s.lasts ((s.projMw : Int) + d) (s.leftPj - fl))

/-- A costed command is refused. -/
def State.energyRefuse (s : State) (d : Desc) : State :=
  let s := (s.put F.GAU_LAST_REFUSE_FUNC d.func).put F.GAU_LAST_REFUSE_ROUND d.round
  (((s.put F.GAU_LAST_REFUSE_OPCODE d.opcode).count C.GAU_REFUSE).raise F.GAU_EVT_REFUSED).finish d St.ENERGY 0

/-! Levels (R381, R382). -/

/-- The greatest level allowed, PL0 in DOZE (R325), and the one of mains mode. -/
def State.maxLevel (s : State) : Nat := if s.cor.doze then 0 else min 4 (s.get F.GAU_CTL_MAX_LEVEL)
def State.mainsLevel (s : State) : Nat := min (s.get F.GAU_CTL_MAINS_LEVEL) s.maxLevel

/-! Engines as the registers show them. -/

/-- The node copies of a placement on an engine. -/
def Placement.on (p : Placement) (e : Nat) : Nat := ((p.eng ++ p.twin).filter (· == e)).length

/-- NODES and LOAD_PM of every engine, and ENGINES_ON. -/
def State.showEngines (s : State) : State :=
  let s := forEach (List.range 16) (fun e t =>
    let n := match t.cht.place with | some pl => pl.on e | none => 0
    let c := match t.aud.pat, t.cht.place with | some p, some pl => p.plannedOn pl e | _, _ => 0
    (t.put (F.CHT_ENG_STAT_NODES e) n).put (F.CHT_ENG_STAT_LOAD_PM e) (min 1023 (c * 1000 / capacity t.figLevel))) s
  s.countEngines

/-- VCORE starts to move to level `l`; the figures of a lower level hold at once (R25). -/
def State.moveLevel (s : State) (l : Nat) : State :=
  ((s.gauAct (s.levelDelta l)).onGau fun g => { g with moving := some l, propose := none }).showEngines

/-- A lower level is proposed to Chart, in place of one pending. -/
def State.propose (s : State) (l : Nat) : State :=
  let s := s.onGau fun g => { g with propose := some l }
  (s.onCht fun t => { t with asks := t.asks.filter fun c => match c with | .level _ => false | _ => true }).askChart (.level l)

/-- The levels below the one in force, from `l` up, that Chart has not refused since the last switch-over. -/
def State.openLevels (s : State) (l : Nat) : List Nat :=
  (List.range s.gauLevel).filter fun x => decide (l ≤ x) && !s.gau.refused.contains x

/-- The lowest level from `l` up that may still be proposed is proposed, if any and if none is on its way. -/
def State.proposeFrom (s : State) (l : Nat) : State :=
  if s.gau.propose.isSome || s.gau.moving.isSome then s
  else
    match s.openLevels l with
    | x :: _ => s.propose x
    | [] => s

/-- Chart has refused the proposed level: the next higher one below that in force is proposed (R381). -/
def State.levelRefused (s : State) (l : Nat) : State :=
  let s := s.onGau fun g => { g with propose := none, refused := l :: g.refused }
  s.proposeFrom (l + 1)

/-- A raise that Chart requests is granted or denied (R382); a standby holds MAINS_LEVEL (R483). -/
def State.raiseGranted (s : State) : Bool :=
  let l := s.gauLevel + 1
  if s.standby then decide (l ≤ s.mainsLevel) && s.gau.moving.isNone
  else decide (l ≤ s.maxLevel) && !s.inFloor && s.gau.moving.isNone &&
    (s.gauMode == 0 ||
      (s.gauMode == 1 && s.lasts ((s.projMw : Int) + s.levelDelta l) (s.leftPj - s.floorPj)))

/-! Cutting back. -/

/-- The non-CRITICAL channels of a shed priority. -/
def State.ofPrio (s : State) (k : Nat) : List Nat :=
  (List.range 32).filter fun n => !s.isCritical n && cfgShedPrio (s.cfg n) == k

/-- A number with the bits of a list set. -/
def setAll (w : Nat) (l : List Nat) : Nat := l.foldl setBit w
def clearAll (w : Nat) (l : List Nat) : Nat := l.foldl clearBit w

/-- The channels of priority `k` are shed. -/
def State.shedPrio (s : State) (k : Nat) : State :=
  let on := (s.ofPrio k).filter fun n => s.chState n == Ch.INRUSH || s.chState n == Ch.ON
  let d := (on.map s.pMeas).sum
  let s := (s.writeShed (setAll (s.get F.LDC_SHED_CH) (s.ofPrio k))).gauAct (-(d : Int))
  (s.put F.GAU_STAT_SHED_LVL (k + 1)).raise F.GAU_EVT_SHED

/-- Step 1: priorities are shed in order until the projection holds, or all of them with `all`. -/
def State.shedSteps (all : Bool) : Nat → State → State
  | 0, s => s
  | n + 1, s =>
    let k := s.get F.GAU_STAT_SHED_LVL
    if decide (8 ≤ k) || (!all && s.lasts s.projMw (s.leftPj - s.floorPj)) then s
    else State.shedSteps all n (s.shedPrio k)

/-- Step 2: consolidation is requested of Chart, or released. -/
def State.setConsol (s : State) (on : Bool) : State :=
  if s.on F.GAU_STAT_CONSOL == on then s
  else
    let s := (s.put F.GAU_STAT_CONSOL (b2n on)).raise F.GAU_EVT_CONSOL
    ((s.put F.CHT_STAT_MODE (b2n on)).askChart .mode).onGau fun g => { g with actAt := s.now }

/-- The floor state (R380). -/
def State.floorState (s : State) : State :=
  let entry := !s.inFloor
  let s := if entry then
      let s := (s.put F.GAU_STAT_FLOOR 1).raise (if s.gauMode = 2 then F.GAU_EVT_EMERGENCY else F.GAU_EVT_FLOOR)
      (s.suspendComfort true).askChart .mode
    else s
  let s := (State.shedSteps true 8 s).setConsol true
  let s := if entry && s.gau.propose.isSome && s.gau.propose != some 0 then s.propose 0 else s
  s.proposeFrom 0

/-- Gauge leaves the floor state. -/
def State.leaveFloor (s : State) : State :=
  if s.inFloor then ((s.put F.GAU_STAT_FLOOR 0).suspendComfort false).askChart .mode else s

/-- A replan for consolidation is still on its way. -/
def State.consolidating (s : State) : Bool := s.on F.GAU_STAT_CONSOL && s.on F.CHT_STAT_BUSY

/-- The procedure reduce of R378. -/
def State.reduce (s : State) : State :=
  let s := State.shedSteps false 8 s
  let avail := s.leftPj - s.floorPj
  let p : Int := s.projMw
  if s.lasts p avail then s
  else if !s.on F.GAU_STAT_CONSOL then s.setConsol true
  else if s.consolidating || s.gau.propose.isSome || s.gau.moving.isSome then s
  else
    let good := (s.openLevels 0).filter fun l => l == 0 || s.lasts (p + s.levelDelta l) avail
    match good.getLast? with
    | some l => s.propose l
    | none => (s.put F.GAU_STAT_LIMITED 1).raise F.GAU_EVT_LIMITED

/-! Undoing (R379). -/

/-- The steps that may be undone. -/
inductive Undo where
  | level
  | consol
  | shed (k : Nat)
  deriving DecidableEq, Repr

/-- The next step to undo. -/
def State.nextUndo (s : State) : Option Undo :=
  if s.gauLevel < s.mainsLevel then some .level
  else if s.on F.GAU_STAT_CONSOL then some .consol
  else if 0 < s.get F.GAU_STAT_SHED_LVL then some (.shed (s.get F.GAU_STAT_SHED_LVL - 1))
  else none

/-- The engines that a placement of the running pattern would use. -/
def State.enginesFor (s : State) (consolidate : Bool) : Nat :=
  match s.aud.pat with
  | none => 0
  | some p =>
    match p.search consolidate s.figLevel s.badEngines [] with
    | .ok pl => ((List.range 16).filter fun e => (pl.eng ++ pl.twin).contains e).length
    | .error _ => s.enginesOn

/-- The predicted increase of an undo, in mW. -/
def State.undoMw (s : State) : Undo → Int
  | .level => s.levelDelta (s.gauLevel + 1)
  | .consol => ((s.enginesFor false : Int) - s.enginesOn) * engMw s.gauLevel
  | .shed k => ((s.ofPrio k).map s.pCmd).sum

/-- One step is undone. -/
def State.undo (s : State) (u : Undo) : State :=
  match u with
  | .level => if s.gau.moving.isSome || s.gau.propose.isSome then s else s.moveLevel (s.gauLevel + 1)
  | .consol => s.setConsol false
  | .shed k =>
    let d := s.undoMw u
    let s := (s.writeShed (clearAll (s.get F.LDC_SHED_CH) (s.ofPrio k))).gauAct d
    (s.put F.GAU_STAT_SHED_LVL k).raise F.GAU_EVT_UNSHED

/-- An evaluation in mains mode: a level above the target is lowered, and one step is undone without a test. -/
def State.evalMains (s : State) : State :=
  let s := s.leaveFloor
  if s.mainsLevel < s.gauLevel then s.proposeFrom s.mainsLevel
  else
    match s.nextUndo with
    | some u => s.undo u
    | none => s

/-- An evaluation in battery mode (R378), with the level held to MAX_LEVEL. -/
def State.evalBattery (s : State) : State :=
  let s := s.leaveFloor
  let avail := s.leftPj - s.floorPj
  if !s.lasts s.projMw avail then s.reduce
  else
    let s := s.put F.GAU_STAT_LIMITED 0
    if s.maxLevel < s.gauLevel then s.proposeFrom s.maxLevel
    else
      match s.nextUndo with
      | some u =>
        if s.gau.actAt + s.projNs ≤ s.now ∧
            ((s.projMw : Int) + s.undoMw u) * 1015000000 * s.get F.GAU_HORIZON_S *
              (100 + s.get F.GAU_CTL_HYST : Nat) ≤ avail * 100 then s.undo u
        else s
      | none => s

/-- An evaluation (R376, R378); a standby's is that of mains mode (R374, R483). -/
def State.evaluate (s : State) : State :=
  let s := (s.onGau fun g => { g with due := false, evalAt := s.now }).put F.GAU_PROJ_MW s.projMw
  if s.standby then (s.put F.GAU_STAT_LIMITED 0).evalMains
  else if s.gauMode = 0 then s.evalMains
  else if s.gauMode = 2 ∨ s.leftPj ≤ s.floorPj then s.floorState
  else s.evalBattery

end Sys2Proof.Machine
end

