-- ==== Sys2Proof/Machine/Ply.lean ====
section
/-! DEFINITION. The ply accumulators (R127 to R134) and their commands. -/
namespace Sys2Proof.Machine

/-- The accumulator a generation's contributions enter: 0 running, 1 shadow (R134). -/
def State.plySide (s : State) (gen : Nat) : Option Nat :=
  if gen = s.genOf 0 then some 0
  else if s.cht.shadow.isSome ∧ gen = s.genOf 1 then some 1
  else none

/-- The engine of contributor `i` of group `g` in the running placement. -/
def State.plyEngine (s : State) (g i : Nat) : Option Nat :=
  match s.aud.pat, s.cht.place with
  | some p, some pl =>
    ((List.range p.nodes.length).find? fun j =>
      (p.node j).kind == K.PLY_OUT && p.groupOf (u8 (p.node j).raw 8) == g && p.plyIndex j == i).map (pl.engine · 0)
  | _, _ => none

/-- A late contribution to accumulator `k` is dropped, counted and shown (R130); a running engine has missed a deadline
with it (R255). -/
def State.plyLate (s : State) (k i : Nat) : State :=
  let s := match (if k < 256 then s.plyEngine k i else none) with
    | some e => s.lateEngine e
    | none => s
  let s := (s.put F.SWC_PLY_LATE_INFO_GROUP (k % 256)).put F.SWC_PLY_LATE_INFO_INDEX i
  (s.count C.SWC_PLY_LATE).raise F.SWC_EVT_PLY_LATE

/-- A stray contribution is dropped, counted and shown (R130). -/
def State.plyStray (s : State) (g i : Nat) (dup : Bool) : State :=
  let s := (s.put F.SWC_PLY_STRAY_INFO_GROUP g).put F.SWC_PLY_STRAY_INFO_INDEX i
  ((s.put F.SWC_PLY_STRAY_INFO_DUP (b2n dup)).count C.SWC_PLY_STRAY).raise F.SWC_EVT_PLY_STRAY

/-- The ply sum frame of an accumulator (R127, R131). -/
def sumFrame (g gen : Nat) (a : PlyAcc) : Bytes :=
  let sat := a.sums.any fun x => satInt 48 x != x
  slice ([0x22, 1] ++ leBytes 1 g ++ leBytes 1 (popCount a.arrived) ++ leBytes 4 a.time ++ [48, 0] ++
    leBytes 1 (b2n sat + 2 * b2n (a.arrived != a.ent.mask)) ++ [0] ++ leBytes 8 a.arrived ++ leBytes 4 gen ++ zeros 8 ++
    smpBytes (a.sums.map (satInt 48))) 0 320

/-- A sum leaves toward the ports of its group (R127); a shadow's only through port A (R134). The ply reserve takes it whatever
it holds (DESIGN CHOICE, log 21). -/
def State.sendSum (s : State) (g side : Nat) (a : PlyAcc) : State :=
  let b := sumFrame g (s.genOf side) a
  let ps := (List.range 24).filter fun p => bitOf (if side = 1 then 2 ^ 22 else a.ent.dest) p && s.swState p != 0
  if ps.isEmpty then s
  else
    s.enqueue { SwFrame.new 22 a.ent.cls b 320 4096 0 with
      block := true, ply := true, multi := decide (1 < ps.length), left := ps.map fun p => (p, 2) }

/-- An accumulator emits (R129, R131). -/
def State.plyEmit (s : State) (k : Nat) : State :=
  let a := s.plyAcc k
  let sat := a.sums.any fun x => satInt 48 x != x
  let s := s.sendSum (k % 256) (k / 256) a
  let s := s.setPlyAcc k { a with isOpen := false, last := some a.time }
  if sat then (s.count C.SWC_PLY_SAT).raise F.SWC_EVT_PLY_SAT else s

/-- An accumulator opens a block, under its table entry as it now stands (R132). -/
def State.plyOpen (s : State) (k time : Nat) : State :=
  let a := s.plyAcc k
  s.setPlyAcc k { a with isOpen := true, time := time, sums := silence 48, arrived := 0, ent := s.plyEnt k }

/-- A contribution is summed into the open block of its accumulator, which emits when its last contributor is in. -/
def State.plyAdd (s : State) (k i : Nat) (b : Bytes) : State :=
  let a := s.plyAcc k
  if !bitOf a.ent.mask i || bitOf a.arrived i then s.plyStray (k % 256) i (bitOf a.arrived i)
  else
    let a := { a with arrived := setBit a.arrived i, sums := (a.sums.zip (smpAt b 48 32)).map fun x => x.1 + x.2 }
    let s := s.setPlyAcc k a
    if a.arrived = a.ent.mask then s.plyEmit k else s

/-- The procedure of R129 on a contribution. -/
def State.plyTake (s : State) (k i time : Nat) (b : Bytes) : State :=
  let a := s.plyAcc k
  if !a.isOpen then
    match a.last with
    | some t => if before t time then (s.plyOpen k time).plyAdd k i b else s.plyLate k i
    | none => (s.plyOpen k time).plyAdd k i b
  else if before time a.time then s.plyLate k i
  else if time != a.time then ((s.plyEmit k).plyOpen k time).plyAdd k i b
  else s.plyAdd k i b

/-- A KIND 0x21 frame at the accumulator. A group whose entry is not in use has no declared contributor, but for the block
that it opened before (R132). -/
def State.plyFrameIn (s : State) (b : Bytes) : State :=
  let g := u8 b 2
  let i := u8 b 3 % 64
  match s.plySide (u32 b 20) with
  | none => s.plyStray g i false
  | some side =>
    let k := g + 256 * side
    let inOpen := (s.plyAcc k).isOpen && (s.plyAcc k).time == u32 b 4
    if u16 b 8 != 48 || u8 b 1 != 1 || !((s.plyEnt k).en || inOpen) then s.plyStray g i false
    else s.plyTake k i (u32 b 4) b

/-- PLY_CONTRIBUTION: frame `k` on its way through port A reaches the accumulator. -/
def execPlyContribution (k : Nat) (s : State) : Res :=
  .next (match s.swc.transit[k]? with
    | none => s
    | some (_, b) =>
      if u8 b 0 != 0x21 then s
      else (s.onSwc fun w => { w with transit := w.transit.eraseIdx k }).plyFrameIn b)

/-- PLY_DEADLINE: an open block reaches its window's end (R129). -/
def execPlyDeadline (acc : Nat) (s : State) : Res :=
  .next (let a := s.plyAcc acc
    if a.isOpen && !before s.timNow ((a.time + 1000 * a.ent.window) % 2 ^ 32) then s.plyEmit acc else s)

end Sys2Proof.Machine
end

