-- ==== Sys2Proof/Machine/Audio.lean ====
section
/-! DEFINITION. The audio function: blocks (R211 to R215), the processing of nodes (R212, R217, R218), deadlines (R213,
R214), and the opcodes of R240. -/
namespace Sys2Proof.Machine

/-! Blocks. -/

/-- The output that a SINK of an interface drives. -/
def PNode.outCode (n : PNode) : Nat := 256 * n.ioType + 16 * n.ioUnit + (if n.ioType = 1 then n.ioChan else 0)

/-- The outputs of a pattern. -/
def Pattern.outputs (p : Pattern) : List Nat := (p.nodes.filter fun n => n.kind == K.SINK && n.ioType != 2).map PNode.outCode

/-- TDM slots of a port; 3 acts as 2 (R221). -/
def State.tdmSlots (s : State) (p : Nat) : Nat := 4 * 2 ^ min 2 (s.get (F.AUD_TDM_CTL_SLOTS p))

/-- An output is driven: it is enabled, its die's link is up (R220), the module is no standby (R483) and not in DOZE
(R325). -/
def State.outDriven (s : State) (code : Nat) : Bool :=
  let u := code / 16 % 16
  if s.standby || s.cor.doze then false
  else if code / 256 = 0 then s.on (F.AUD_AOUT_CTL_EN u) && s.aud.linkUp
  else s.on (F.AUD_TDM_CTL_EN u) && decide (code % 16 < s.tdmSlots u)

/-- Blocks left of an output's mute ramp. -/
def State.outRamp (s : State) (code : Nat) : Nat := storeGet cntDefault s.aud.outRamp code

/-- A sample on a ramp: the part of it that is left is free (R220). -/
def ramped (x : Int) (free : Nat) : Int := (x * (free % (2 ^ 24 + 1) : Nat)).tdiv (2 ^ 24)

/-- What an output carries for a block: the samples rounded to 24 bits, zero where it is not driven or muted, and on a ramp while
a change of MUTE is under way (R216, R220). -/
def State.outSamples (s : State) (code : Nat) (l : List Int) : List Int :=
  let muted := code / 256 == 0 && s.on (F.AUD_AOUT_CTL_MUTE (code / 16 % 16))
  if !s.outDriven code then silence 48
  else if s.outRamp code != 0 then
    (List.range 48).map fun k => ramped (roundTo 24 (smp l k)) (Config.freeNat 13 (s.fresh + k))
  else if muted then silence 48 else (List.range 48).map fun k => roundTo 24 (smp l k)

def outDefault (_ : Nat) : Int := 0

/-- A block leaves AOUT `u`. -/
def State.play (s : State) (u : Nat) (l : List Int) : State :=
  let c := 16 * u
  let r := s.outRamp c
  let out := s.outSamples c l
  let s := if r = 0 then s
    else s.setFresh (s.fresh + 48) |>.onAud fun a => { a with outRamp := storeSet cntDefault a.outRamp c (r - 1) }
  (s.onAud fun a => { a with lastOut := storeSet outDefault a.lastOut u (out.getLastD 0) }).emit (.audio u out)

/-- The samples that wait at an output; none where it has no sink, or its block is not there. -/
def waiting (rd : Store (List Int)) (code : Nat) : List Int := storeGet noBlk rd code

/-- A block leaves TDM port `p`, while it runs: in each slot 24 bits and 8 zeros (R221). -/
def State.playTdm (rd : Store (List Int)) (p : Nat) (s : State) : State :=
  if !s.on (F.AUD_TDM_CTL_EN p) then s
  else
    let n := s.tdmSlots p
    let chans := (List.range n).map fun c => s.outSamples (256 + 16 * p + c) (waiting rd (256 + 16 * p + c))
    s.emit (.tdm p (if s.on (F.AUD_TDM_CTL_FSYNC_WIDE p) then 16 * n else 1) (s.get (F.AUD_TDM_CTL_DELAY p)) n
      ((List.range 48).flatMap fun k => chans.map fun l => 256 * ofInt 24 (smp l k)))

/-- An output plays silence for want of a block (R214); in a TDM frame its slot is 0 already. -/
def State.silentOut (s : State) (code : Nat) : State :=
  let s := if code < 256 then s.play (code / 16) (silence 48) else s
  (s.count C.AUD_SILENT_BLOCK).raise F.AUD_EVT_SILENT_BLOCK

/-- The audio die ramps every output to zero within 5 ms (R220). -/
def State.rampDown (s : State) : State :=
  forEach (List.range 8) (fun u t =>
    let x := storeGet outDefault t.aud.lastOut u
    if x = 0 then t
    else
      let l := (List.range 239).map fun k => ramped x (Config.freeNat 13 (t.fresh + k))
      ((t.setFresh (t.fresh + 239)).onAud fun a => { a with lastOut := storeSet outDefault a.lastOut u 0 }).emit
        (.audio u (l ++ [0]))) s

/-- The blocks that wait at outputs are played, zeros where there is no sink, and outputs without their block are noted; `lost`
blocks were skipped (R204, R214, R220, R221). -/
def State.playBlocks (s : State) (lost : Nat) : State :=
  if s.aud.block.isNone then s
  else
    let due := match s.aud.pat with | some p => p.outputs | none => []
    let rd := s.aud.ready
    let miss := due.filter fun c => !rd.any fun x => x.1 == c
    let s := s.onAud fun a => { a with ready := [], missing := miss }
    let s := forEach ((List.range 8).filter fun u => !miss.contains (16 * u)) (fun u t => t.play u (waiting rd (16 * u))) s
    let s := forEach (List.range 4) (State.playTdm rd) s
    if lost = 0 then s
    else forEach due (fun _ t => (t.count C.AUD_SILENT_BLOCK lost).raise F.AUD_EVT_SILENT_BLOCK) s

/-- After a large step the buffers are reset and a block of silence plays (R236, case TIM_STEP). -/
def State.realign (s : State) : State :=
  if s.mediaTied || decide ((s.mediaPhase - s.aud.elBase).natAbs ≤ 500000) then
    s.onAud fun a => { a with mutedBlk := false, elBase := if s.mediaTied then 0 else a.elBase }
  else
    let s := s.onAud fun a => { a with elBase := s.mediaPhase, mutedBlk := true }
    let s := forEach s.aud.slots (fun x t =>
      let sl := t.slot x.1
      if sl.tx && !sl.aes then t.setSlot x.1 { sl with mr := !sl.mr } else t) s
    (s.count C.AUD_REALIGN).raise F.AUD_EVT_REALIGN

/-- The busy times measured in the last block, free (R212). -/
def State.measure (s : State) : State :=
  (forEach ((List.range 16).filter s.engineOn) (fun e t =>
    let b := t.free (60 + e) % 65536
    (t.put (F.CHT_ENG_MEAS_BUSY_LAST e) b).put (F.CHT_ENG_MEAS_BUSY_MAX e) (max b (t.free (80 + e) % 65536))) s).drawn

/-- The copies of a node in the running pattern's state store. -/
def copiesAll (n : Nat) : List Nat := [n, n + 512, n + 1024, n + 1536]

/-- What a parameter change does to the state of a node at its block: PLAY and STOP of a chime, RESET of an AEC. -/
def editSt (n : PNode) (e : NodeEdit) (st : NodeSt) : NodeSt :=
  let byte := fun (i : Nat) => if e.off ≤ i && decide (i < e.off + e.val.length) then u8 e.val (i - e.off) else 0
  if n.kind = K.CHIME then
    let b := byte 11
    if bitOf b 1 then { st with open_ := false }
    else if bitOf b 0 then { st with open_ := true, pos := 0, reps := 0 } else st
  else if n.kind = K.AEC ∧ bitOf (byte 13) 1 then { nodeRest with count := st.count } else st

/-- A pattern with a change of node parameters. -/
def Pattern.edited (p : Pattern) (e : NodeEdit) : Pattern :=
  { p with nodes := setAt p.nodes e.node { p.node e.node with raw := patch (p.node e.node).raw e.off e.val } }

/-- A shadow of the running pattern with the change. -/
def Shadow.edited (e : NodeEdit) (sh : Shadow) : Shadow :=
  if sh.causes.any isLoad then sh else { sh with pat := sh.pat.edited e }

/-- A change of node parameters takes effect (R236); a shadow of the same pattern takes it too. -/
def State.applyEdit (e : NodeEdit) (s : State) : State :=
  match s.aud.pat with
  | none => s
  | some p =>
    let s := s.onAud fun a => { a with pat := some (p.edited e) }
    let s := s.onCht fun c => { c with shadow := c.shadow.map (Shadow.edited e) }
    forEach [e.node, e.node + 512] (fun c t => t.setNodeSt c (editSt (p.node e.node) e (t.nodeSt c))) s

/-- Block `t` begins (R211, R215): trigger 0 has fired. -/
def State.blockStart (t : Nat) (s : State) : State :=
  let lost := match s.aud.block with
    | some b => if ahead32 b t < 2 ^ 31 then ahead32 b t / 1000000 - 1 else 0
    | none => 0
  let s := (s.playBlocks lost).realign.measure.streaks
  let s := (s.put F.AUD_AIN_STAT_CLIP s.aud.clipNow).onAud fun a => { a with
    clipNow := 0, block := some t, done := []
    inbox := a.inbox.filter fun b => b.time == t || b.time == (t + 2 ^ 32 - 1000000) % 2 ^ 32
    net := a.net.filter fun x => !before x.due t }
  let s := (forEach s.aud.edits State.applyEdit s).onAud fun a => { a with edits := [] }
  match s.cht.shadow with
  | some sh =>
    if sh.block.isNone || (sh.mirrored && !sh.passed) then s.onCht fun c => { c with shadow := some { sh with block := some t } }
    else s
  | none => s

/-! Processing. -/

/-- The block that waits at input `i` of a node copy. -/
def State.inputOf (s : State) (c i t : Nat) : Option InBlk :=
  s.aud.inbox.find? fun b => b.at_ == c && b.inp == i && b.time == t

/-- The samples a network stream has brought for block `t`. -/
def State.netTake (s : State) (slot chan n t : Nat) : List Int :=
  (List.range n).map fun k =>
    match s.aud.net.find? fun x => x.slot == slot && x.chan == chan && x.due == t && x.k == k with
    | some x => x.val
    | none => 0

/-- What a SOURCE takes from its interface: the samples converted, 24 bits each, or those of its stream (R216). -/
def State.sourceIn (s : State) (n : PNode) (t : Nat) (l : List Int) : List Int :=
  if s.aud.mutedBlk then n.noOut s.slot
  else if n.ioType = 2 then
    s.netTake n.ioUnit n.ioChan (s.slot n.ioUnit).per t
  else
    let on := if n.ioType = 0 then s.on (F.AUD_AIN_CTL_EN n.ioUnit) && s.aud.linkUp
      else s.on (F.AUD_TDM_CTL_EN n.ioUnit) && decide (n.ioChan < s.tdmSlots n.ioUnit)
    if on then (List.range 48).map fun k => satInt 24 (smp l k) * 2 ^ 24 else silence 48

/-- What is known at once of input `i` of node `j`: silence, where the node that feeds it is not placed (R256). -/
def State.unfed (s : State) (p : Pattern) (pl : Placement) (j i : Nat) : Option (List Int) :=
  if (p.node j).kind = K.PLY_IN then
    if (List.range p.nodes.length).any fun k => (p.node k).kind == K.PLY_OUT && u8 (p.node k).raw 8 == u8 (p.node j).raw 8 &&
        !(pl.copies 0 k).isEmpty then none else some (silence 48)
  else
    match p.edges.find? fun e => e.dst == j && e.inp == i with
    | some e => if (pl.copies 0 e.frm).isEmpty then some ((p.node e.frm).noOut s.slot) else none
    | none => none

/-- The inputs of a node copy for block `t`; none while one is missing. A delay that breaks a cycle takes the block
before. -/
def State.inputs (s : State) (p : Pattern) (pl : Placement) (c t : Nat) (l : List Int) : Option (List InBlk) :=
  let j := copyNode c
  let n := p.node j
  let get := fun (i u : Nat) =>
    match s.unfed p pl j i with
    | some z => some ⟨c, i, u, z, false, true⟩
    | none => s.inputOf c i u
  if n.kind = K.SOURCE then some [⟨c, 0, t, s.sourceIn n t l, false, false⟩]
  else if p.breaks j then
    some [(get 0 ((t + 2 ^ 32 - 1000000) % 2 ^ 32)).getD ⟨c, 0, t, silence 48, false, true⟩]
  else
    let l := (List.range (if n.kind = K.PLY_IN then 1 else n.ins)).map fun i => get i t
    if l.all (·.isSome) then some (l.filterMap id) else none

/-- A node copy may be processed now: its block is under way and its engine runs; the shadow runs in its own block, and
the old placement no longer once the shadow has passed. -/
def State.mayProcess (s : State) (c t : Nat) : Bool :=
  s.engineOn (s.engineOf c) && !s.aud.done.contains c &&
    (match s.cht.shadow with
     | some sh => if copyShadow c = 1 then sh.block == some t && !sh.passed else !(sh.passed && sh.block != some t)
     | none => copyShadow c == 0)

/-- The output of a node copy goes along edge `e`: to copies on its own engine at once, to others in a frame through
port A. -/
def State.alongEdge (s : State) (p : Pattern) (pl : Placement) (c t : Nat) (l : List Int) (sat : Bool) (i : Nat) : State :=
  match p.edges[i]? with
  | none => s
  | some e =>
    if e.frm ≠ copyNode c then s
    else
      let silent := l.all (· == 0)
      let feeds := p.feedsCopies pl (copyShadow c) (copyTwin c) e
      let here := feeds.filter fun x => s.engineOf x == s.engineOf c
      let s := forEach here (fun x u => u.toInbox ⟨x, e.inp, t, l, sat, false⟩ (p.node e.frm).twin) s
      if here.length = feeds.length then s
      else s.sendEdge (p.node e.frm) (copyTwin c) (edgeFrame i t (s.genOf (copyShadow c)) l sat silent)

/-- A node copy's output leaves: along its edges, as a ply contribution, or to its output or stream. -/
def State.sendOut (s : State) (p : Pattern) (pl : Placement) (c t : Nat) (l : List Int) (sat : Bool) : State :=
  let n := p.node (copyNode c)
  let s := forEach (List.range p.edges.length) (fun i u => u.alongEdge p pl c t l sat i) s
  if n.kind = K.PLY_OUT then
    s.sendPly (plyFrame (p.groupOf (u8 n.raw 8)) (p.plyIndex (copyNode c)) t (s.genOf (copyShadow c)) l)
  else if n.kind = K.SINK ∧ copyShadow c = 0 then
    let l := if s.aud.mutedBlk then silence 48 else l
    if n.ioType = 2 then s.txBlock p n t l
    else s.onAud fun a => { a with ready := storeSet noBlk a.ready n.outCode l }
  else s

/-- The events of a node copy's block: of copy A, or of copy B where A's engine is out of service. A shadow's raise nothing. -/
def State.nodeEvents (s : State) (c : Nat) (r : Ran) : State :=
  if copyShadow c = 1 || (copyTwin c == 1 && s.engineOn (s.engineOf (copyNode c))) then s
  else
    let s := if r.sat then
        ((s.count C.AUD_SAT).put F.AUD_SAT_INFO_NODE (copyNode c)).raise F.AUD_EVT_SAT else s
    let s := if r.chimeDone then s.raise F.AUD_EVT_CHIME_DONE else s
    if r.pei then s.raise F.AUD_EVT_PEI else s

/-- An empty chime slot. -/
def noChime (_ : Nat) : List Nat := []

/-- A shadow node finishes after Tₙ + 850 µs (R254). -/
def State.shadowLate (s : State) (c t : Nat) : State :=
  if copyShadow c = 1 ∧ !before s.timNow ((t + 850001) % 2 ^ 32) then
    match s.cht.shadow with
    | some sh => s.onCht fun x => { x with shadow := some { sh with late := true } }
    | none => s
  else s

/-- A copy of a node processes block `t` with the inputs found. -/
def State.process (s : State) (p : Pattern) (pl : Placement) (c t : Nat) (ins : List InBlk) (l : List Int) : State :=
  let n := p.node (copyNode c)
  let r := nodeRun n (p.breaks (copyNode c)) (s.nodeSt c) (ins.map (·.samples))
    (storeGet noChime s.aud.chimes (u8 n.raw 9))
  let sat := r.sat || (n.kind == K.PLY_IN && ins.any (·.sat))
  let s := s.onAud fun a => { a with done := c :: a.done }
  let full := n.kind == K.SOURCE && n.ioType == 0 && l.any fun x => x == 2 ^ 23 - 1 || x == -(2 ^ 23)
  let s := if full && copyShadow c == 0 then s.onAud fun a => { a with clipNow := setBit a.clipNow n.ioUnit } else s
  let s := ((s.setNodeSt c { r.st with time := t }).shadowLate c t).nodeEvents c r
  s.sendOut p pl c t r.out sat

/-- NODE_PROCESS: an engine processes node copy `c`; `samples` are what the interface of a SOURCE has converted. -/
def execNodeProcess (c : Nat) (samples : List Int) (s : State) : Res :=
  .next (match s.aud.block, s.patOf (copyShadow c), s.placeOf (copyShadow c) with
    | some t, some p, some pl =>
      if copyNode c < p.nodes.length && decide (c < 2048) && s.mayProcess c t then
        match s.inputs p pl c t samples with
        | some ins => s.process p pl c t ins samples
        | none => s
      else s
    | _, _, _ => s)

/-! Arrivals and deadlines. -/

/-- The side that a generation belongs to: 0 running, 1 shadow. -/
def State.sideOf (s : State) (gen : Nat) : Option Nat := s.plySide gen

/-- An edge frame at port A (R218). -/
def State.edgeFrameIn (s : State) (b : Bytes) : State :=
  match s.sideOf (u32 b 12) with
  | none => s.count C.AUD_STRAY
  | some sh =>
    match s.patOf sh, s.placeOf sh with
    | some p, some pl =>
      match p.edges[u16 b 2]? with
      | some e =>
        let l := smpAt b (u16 b 8) 32
        forEach (pl.copies sh e.dst) (fun c t =>
          t.toInbox ⟨c, e.inp, u32 b 4, l, bitOf (u8 b 10) 0, false⟩ (p.node e.frm).twin) s
      | none => s.count C.AUD_STRAY
    | _, _ => s.count C.AUD_STRAY

/-- A ply sum at port A reaches the PLY_IN nodes of its group. -/
def State.sumFrameIn (s : State) (b : Bytes) : State :=
  match s.sideOf (u32 b 20) with
  | none => s.count C.AUD_STRAY
  | some sh =>
    match s.patOf sh, s.placeOf sh with
    | some p, some pl =>
      let l := smpAt b 48 32
      forEach ((List.range p.nodes.length).filter fun i =>
          (p.node i).kind == K.PLY_IN && p.groupOf (u8 (p.node i).raw 8) == u8 b 2)
        (fun i t => forEach (pl.copies sh i) (fun c u =>
          u.toInbox ⟨c, 0, u32 b 4, l, bitOf (u8 b 10) 0, false⟩ 0) t) s
    | _, _ => s.count C.AUD_STRAY

/-- EDGE_FRAME_ARRIVAL: frame `k` on its way through port A, an edge frame or a ply sum, reaches its engines, behind the
earlier ones of its class (R117). -/
def execEdgeFrameArrival (k : Nat) (s : State) : Res :=
  .next (match s.swc.transit[k]? with
    | none => s
    | some (_, b) =>
      let t := s.onSwc fun w => { w with transit := w.transit.eraseIdx k }
      if !s.firstIn k then s else if u8 b 0 = 0x20 then t.edgeFrameIn b else if u8 b 0 = 0x22 then t.sumFrameIn b else s)

/-- An input of a node copy has missed its deadline: it takes the silence `z`, and AUD_MISS_INFO shows the edge; which it shows
for a ply sum, that comes along none, is free (R213, R234). -/
def State.missInput (s : State) (c inp t : Nat) (z : List Int) (edge : Option Nat) (from_ : List Nat) : State :=
  let s := s.toInbox ⟨c, inp, t, z, false, true⟩ 0
  let s := match edge with
    | some e => s.put F.AUD_MISS_INFO_EDGE e
    | none => (s.put F.AUD_MISS_INFO_EDGE (s.free 14)).drawn
  forEach from_ (fun e u => u.lateEngine e) ((s.count C.AUD_EDGE_MISS).raise F.AUD_EVT_EDGE_MISS)

/-- The block's deadline of Tₙ + 850 µs has come. -/
def State.pastInput (s : State) (t : Nat) : Bool := !before s.timNow ((t + 850000) % 2 ^ 32)

/-- EDGE_DEADLINE: copy `copy` of the node that edge `edge` feeds has no frame at Tₙ + 850 µs. An `edge` of 1,024 + i
stands for the sum that PLY_IN node i takes. -/
def execEdgeDeadline (edge copy : Nat) (s : State) : Res :=
  .next (match s.aud.block, s.aud.pat, s.cht.place with
    | some t, some p, some pl =>
      if !s.pastInput t then s
      else if 1024 ≤ edge then
        let i := edge - 1024
        let c := i + 512 * (copy % 2)
        if (p.node i).kind == K.PLY_IN && (pl.copies 0 i).contains c && (s.inputOf c 0 t).isNone &&
            (s.unfed p pl i 0).isNone then
          s.missInput c 0 t (silence 48) none []
        else s
      else
        match p.edges[edge]? with
        | none => s
        | some e =>
          let c := e.dst + 512 * (copy % 2)
          let far := ((pl.copies 0 e.frm).map s.engineOf).filter fun x => x != s.engineOf c
          if (pl.copies 0 e.dst).contains c && !far.isEmpty && (s.inputOf c e.inp t).isNone then
            s.missInput c e.inp t ((p.node e.frm).noOut s.slot) (some edge) far
          else s
    | _, _, _ => s)

/-- SINK_DEADLINE: an output without its block at Tₙ + 1 ms plays silence (R214). -/
def execSinkDeadline (kind unit chan : Nat) (s : State) : Res :=
  .next (let c := 256 * kind + 16 * unit + chan
    if s.aud.missing.contains c then (s.onAud fun a => { a with missing := a.missing.filter (· != c) }).silentOut c else s)

/-- BIAS_FAULT: the bias current of input `n` has exceeded 12 mA for 1 ms (R219). -/
def execBiasFault (n : Nat) (s : State) : Res :=
  .next (if decide (n < 8) && s.on (F.AUD_AIN_CTL_BIAS_EN n) && !bitOf s.aud.biasOff n then
      ((s.onAud fun a => { a with biasOff := setBit a.biasOff n }).set1 F.AUD_AIN_STAT_BIAS_FAULT n).raise F.AUD_EVT_BIAS_FAULT
    else s)

/-- A write of AUD_AINn_CTL: BIAS_EN rising again ends a bias fault. -/
def State.writeAin (s : State) (n v : Nat) : State :=
  let rise := bitOf v 30 && !s.on (F.AUD_AIN_CTL_BIAS_EN n)
  let s := s.regApply (R.AUD_AIN_CTL n) v
  if rise then (s.onAud fun a => { a with biasOff := clearBit a.biasOff n }).clr1 F.AUD_AIN_STAT_BIAS_FAULT n else s

/-- A write of AUD_AOUTn_CTL: a change of MUTE ramps the output over 5 ms (R220). -/
def State.writeAout (s : State) (n v : Nat) : State :=
  let turn := bitOf v 30 != s.on (F.AUD_AOUT_CTL_MUTE n)
  let s := s.regApply (R.AUD_AOUT_CTL n) v
  if turn then s.onAud fun a => { a with outRamp := storeSet cntDefault a.outRamp (16 * n) 5 } else s

/-- AUDIO_LINK_LOSS: the audio die ramps every output to zero and holds it there. -/
def execAudioLinkLoss (s : State) : Res := .next (s.rampDown.onAud fun a => { a with linkUp := false })
/-- AUDIO_LINK_RESTORED: the running pattern may drive the outputs again. -/
def execAudioLinkRestored (s : State) : Res := .next (s.onAud fun a => { a with linkUp := true })

/-! Opcodes (R240). -/

/-- The byte ranges of a node's parameters that NODE_SET may change, first and last (R229). -/
def PNode.starred (n : PNode) : List (Nat × Nat) :=
  match n.kind with
  | 0x03 => [(8, 11)]
  | 0x04 => [(10, 9 + 2 * u8 n.raw 8)]
  | 0x05 => [(18, 25)]
  | 0x07 => [(8, 11)]
  | 0x08 => [(8, 9)]
  | 0x0A => [(8, 19)]
  | 0x0B => [(13, 17)]
  | 0x0C => [(11, 13)]
  | 0x0F => [(8, 13)]
  | _ => []

/-- Own status codes of AUD. -/
def St.PATTERN_BAD : Nat := 0x0800
def St.NOT_PLACED : Nat := 0x0801
def St.NO_NODE : Nat := 0x0802
def St.SLOT_BUSY : Nat := 0x0803

/-- NODE_SET (R236). -/
def State.nodeSet (s : State) (d : Desc) : State :=
  let i := u16 d.raw 20
  let off := u8 d.raw 22
  let len := u8 d.raw 23
  match s.aud.pat with
  | none => s.finish d St.NO_NODE 0
  | some p =>
    if p.nodes.length ≤ i then s.finish d St.NO_NODE 0
    else
      let n := p.node i
      let v := slice d.raw 24 len
      let n' := { n with raw := patch n.raw off v }
      if !d.noBuf || len == 0 || decide (32 < len) ||
          !(n.starred.any fun r => decide (r.1 ≤ off) && decide (off + len ≤ r.2 + 1)) || !n'.paramOk then
        s.finish d St.BADARG 0
      else (s.onAud fun a => { a with edits := a.edits ++ [⟨i, off, v⟩] }).finish d St.OK (s.trgTarget 0)

def execNodeSet (r : Nat) (s : State) : Res := .next (s.withOp r 7 2 fun d => s.nodeSet d)

/-- NODE_READ (R228). -/
def State.nodeRead (s : State) (d : Desc) : State :=
  let i := u16 d.raw 20
  match s.aud.pat with
  | none => s.finish d St.NO_NODE 0
  | some p =>
    if p.nodes.length ≤ i then s.finish d St.NO_NODE 0
    else
      let n := p.node i
      let st := s.nodeSt i
      let b := leBytes 1 n.kind ++ leBytes 1 (b2n st.sat) ++ [0, 0] ++ leBytes 4 st.time ++
        readout n st (p.groupOf (u8 n.raw 8)) (p.plyIndex i)
      s.finishBuf d 0 b St.OK b.length

def execNodeRead (r : Nat) (s : State) : Res := .next (s.withOp r 7 3 fun d => s.nodeRead d)

/-- A chime slot plays in the running pattern. -/
def State.slotPlays (s : State) (k : Nat) : Bool :=
  match s.aud.pat with
  | none => false
  | some p => (List.range p.nodes.length).any fun i =>
      (p.node i).kind == K.CHIME && u8 (p.node i).raw 8 == 0 && u8 (p.node i).raw 9 == k && (s.nodeSt i).open_

/-- `n` 48-bit words of a run of bytes (R65). -/
def words48 : Nat → Bytes → List Nat
  | 0, _ => []
  | n + 1, b => u48 b 0 :: words48 n (b.drop 6)

/-- One stitch of CHIME_LOAD: 4,096 samples. -/
def State.chimeLoad (s : State) (d : Desc) : State :=
  let k := u8 d.raw 20
  if decide (64 ≤ k) || d.len % 6 != 0 || decide (2880000 < d.len) then s.finish d St.BADARG 0
  else if s.slotPlays k then s.finish d St.SLOT_BUSY 0
  else
    let n := min 4096 (d.len / 6 - d.prog)
    let old := if d.prog = 0 then [] else storeGet noChime s.aud.chimes k
    let l := old ++ words48 n (d.buf.drop (6 * d.prog))
    let s := s.onAud fun a => { a with chimes := storeSet noChime a.chimes k l }
    if d.prog + n = d.len / 6 then s.lastStitch d St.OK (d.prog + n) else s.stitched d (d.prog + n) (d.prog + n)

def execChimeLoad (r : Nat) (s : State) : Res := .next (s.withOp r 7 4 fun d => s.chimeLoad d)

/-- A stream slot is used by the running pattern. -/
def State.streamUsed (s : State) (k : Nat) : Bool :=
  match s.aud.pat with
  | none => false
  | some p => p.nodes.any fun n => n.isStream && n.ioUnit == k

/-- The arguments of STREAM_SET lie in their ranges. -/
def streamSetOk (d : Desc) : Bool :=
  let b := d.raw
  let tx := u8 b 21 == 1
  let aes := u8 b 22 == 1
  decide (u8 b 20 ≤ 63) && decide (u8 b 21 ≤ 1) && decide (u8 b 22 ≤ 1) && between 1 8 (u8 b 23) && decide (u8 b 24 ≤ 1) &&
    (if u8 b 24 = 0 then [6, 12, 48].contains (u8 b 25) else [2, 4, 16].contains (u8 b 25)) && decide (u8 b 26 ≤ 1) &&
    (!tx || (between 14 64 (u8 b 48) && decide (u8 b 48 ≤ d.len))) &&
    (tx || (decide (u16 b 50 ≤ 1023) &&
      (!aes || (u32 b 36 % 1000000 == 0 && between 1 16 (u32 b 36 / 1000000)))))

/-- STREAM_SET of AUD (R222). -/
def State.audStreamSet (s : State) (d : Desc) : State :=
  let b := d.raw
  let k := u8 b 20
  if !streamSetOk d then s.finish d St.BADARG 0
  else if s.streamUsed k then s.finish d St.SLOT_BUSY 0
  else
    let aes := u8 b 22 == 1
    let sl : AudSlot := ⟨u8 b 26 == 1, u8 b 21 == 1, aes, u8 b 23, u8 b 24 == 1, u8 b 25,
      if aes then u32 b 28 else beVal (slice b 28 8), u32 b 36, u32 b 40, u32 b 44, slice d.buf 0 (u8 b 48), u16 b 50,
      0, false, false, 0, none⟩
    let s := s.setSlot k sl
    let s := (s.put (F.AUD_STR_STAT_EN k) (u8 b 26)).put (F.AUD_STR_STAT_DIR k) (u8 b 21)
    let s := (s.put (F.AUD_STR_STAT_FORMAT k) (u8 b 22)).put (F.AUD_STR_STAT_RATE16 k) (u8 b 24)
    (s.put (F.AUD_STR_STAT_CH k) (u8 b 23)).finish d St.OK 0

def execAudStreamSet (r : Nat) (s : State) : Res := .next (s.withOp r 7 5 fun d => s.audStreamSet d)

/-- The power that a pattern would add by Gauge's table (R383), in mW. -/
def State.loadMw (s : State) (p : Pattern) : Nat :=
  let c := (p.nodes.map fun n => n.cost * (if n.twin = 0 then 1 else 2)).sum
  (ceilDiv c (capacity s.figLevel) - s.enginesOn) * engMw s.gauLevel

/-- Gauge admits a pattern's load. -/
def State.loadOk (s : State) (p : Pattern) : Bool :=
  let fl := s.floorWith (some p)
  (p.nodes.all (·.critical) && decide ((fl : Int) ≤ s.leftPj)) || s.affords (s.loadMw p) fl

/-- PATTERN_LOAD is refused with a status of its own. -/
def State.rejectLoad (s : State) (d : Desc) (status result : Nat) : State :=
  (s.raise F.AUD_EVT_PAT_REJECT).finish d status result

/-- The layout of a fault in result bytes 8 to 11 (R227). -/
def PFault.result (f : PFault) : Nat := f.idx + 2 ^ 16 * f.kind + 2 ^ 24 * f.code

/-- PATTERN_LOAD (R235): its first stitch validates, tests the cost and asks Chart; it then waits for the take-over. -/
def State.patternLoad (s : State) (d : Desc) : State :=
  match patternFault s.slot d.buf d.len with
  | some f => s.rejectLoad d St.PATTERN_BAD f.result
  | none =>
    let p := parsePattern d.buf
    if !s.loadOk p then (s.energyRefuse d).raise F.AUD_EVT_PAT_REJECT
    else
      let s := if s.gauMode = 0 then s else s.gauAct (s.loadMw p)
      let s := if s.get F.AUD_STAT_STATE = 1 then s.put F.AUD_STAT_STATE 2 else s
      (s.stitched d 1 0).askChart (.load d.round d.slot)

def execPatternLoad (r : Nat) (s : State) : Res :=
  .next (s.withOp r 7 1 fun d => s.patternLoad d)

end Sys2Proof.Machine
end

