-- ==== Sys2Proof/Machine/CanOps.lean ====
section
/-! DEFINITION. CAN controllers: their queues, states and error counts (R267 to R279), classification (R265), the choice
of the next frame (R272) and the states of the integrated transceivers (R310, R311). -/
namespace Sys2Proof.Machine

def St.BUS_OFF : Nat := 0x0A00
def St.NOT_RUNNING : Nat := 0x0A01
def St.FILTER_BAD : Nat := 0x0A02

def State.setCtl (s : State) (n : Nat) (c : CanCtl) : State := s.setCan ⟨storeSet ctlDefault s.can.ctls n c⟩

/-- Controller `n` listens only, by its MODE, its transceiver or the module's role (R277, R311, R483). -/
def State.listens (s : State) (n : Nat) : Bool := s.get (F.CAN_CTL_MODE n) == 1 || s.trcv n == 1 || s.standby

/-- The descriptor of round `r`, slot `i`, whose operation is under way. -/
def State.descAt (s : State) (r i : Nat) : Option Desc :=
  s.rnd.descs.find? fun d => d.round == r && d.slot == i && d.started && d.fin.isNone && d.running

/-! Transmit queues. -/

def CanCtl.txQ (c : CanCtl) (q : Nat) : List CanTx := c.txq.getD q []
def CanCtl.setTxQ (c : CanCtl) (q : Nat) (l : List CanTx) : CanCtl := { c with txq := setAt c.txq q l }

/-- A queued frame ends; its TX_SEND, if any, completes (R282). -/
def State.endTx (s : State) (x : CanTx) (status ts : Nat) (arb : Bool) : State :=
  match x.send with
  | none => s
  | some (r, i) =>
    match s.descAt r i with
    | none => s
    | some d => s.finish d status (ts + 2 ^ 32 * min x.losses 255 + 2 ^ 40 * min x.errors 255 + 2 ^ 48 * b2n arb)

/-- The head of queue `q` leaves it and ends. -/
def State.popTx (s : State) (n q status ts : Nat) (arb : Bool) : State :=
  let c := s.ctl n
  match c.txQ q with
  | [] => s
  | x :: r => (s.setCtl n (c.setTxQ q r)).endTx x status ts arb

/-- Every frame in the queues of controller `n` ends with `status`, but for a head that is on the bus where `keep` is set. -/
def State.flushTx (s : State) (n status : Nat) (keep : Bool) : State :=
  let c := s.ctl n
  let held := fun (q : Nat) => if keep && c.cur == some q then (c.txQ q).take 1 else []
  let gone := (List.range 4).flatMap fun q => (c.txQ q).drop (held q).length
  forEach gone (fun x t => t.endTx x status 0 false) (s.setCtl n { c with txq := (List.range 4).map held })

/-- The attempt on the bus is over. -/
def State.idleTx (s : State) (n : Nat) : State := s.setCtl n { s.ctl n with cur := none, released := false, last := false }

/-- A frame is placed at the tail of queue `q`. -/
def State.placeTx (s : State) (n q : Nat) (x : CanTx) : State :=
  let c := s.ctl n
  s.setCtl n (c.setTxQ q (c.txQ q ++ [x]))

def State.txFull (s : State) (n q : Nat) : Bool := decide (32 ≤ ((s.ctl n).txQ q).length)

/-- The bits of a number, most significant first. -/
def bitList : Nat → Nat → List Bool
  | 0, _ => []
  | k + 1, v => bitOf v k :: bitList k v

/-- The arbitration field after SOF (ISO 11898-1), dominant false. -/
def arbBits (f : CanFrame) : List Bool :=
  let rtr := f.fmt == 0 && f.remote
  if f.xtd then bitList 11 (f.id / 2 ^ 18) ++ [true, true] ++ bitList 18 f.id ++ [rtr] else bitList 11 f.id ++ [rtr]

/-- The key of R272, as a number of 36 bits. -/
def canKey (f : CanFrame) : Nat :=
  let b := arbBits f ++ (if f.xtd then [] else [false]) ++ [f.fmt != 0] ++ (if f.fmt = 2 then [true] else [])
  (b ++ List.replicate (36 - b.length) false).foldl (fun k x => 2 * k + b2n x) 0

/-- The queue whose head controller `n` would start. -/
def CanCtl.best (c : CanCtl) : Option Nat :=
  (List.range 4).foldl (fun b q =>
    match (c.txQ q).head? with
    | none => b
    | some x =>
      match b with
      | none => some q
      | some p =>
        match (c.txQ p).head? with
        | some y => if canKey x.f < canKey y.f then some q else b
        | none => some q) none

/-! Error states (R275). -/

/-- BUS_OFF is entered. -/
def State.goBusOff (s : State) (n : Nat) : State :=
  let s := ((s.put (F.CAN_STAT_STATE n) 3).count (C.CAN_BUS_OFF n)).raise (F.CAN_EVT_BUS_OFF n)
  let s := s.setCtl n { s.ctl n with recovering := s.on (F.CAN_CTL_AUTO_RECOVER n) }
  if s.on (F.CAN_CTL_BUSOFF_FLUSH n) then s.flushTx n St.BUS_OFF false else s

/-- The error counts become `tec` and `rec`, and the state follows them. -/
def State.errCounts (s : State) (n tec rec : Nat) : State :=
  let c := s.ctl n
  let s := s.setCtl n { c with tec := tec, rec_ := rec }
  let s := if (c.tec < 96 ∧ 96 ≤ tec) ∨ (c.rec_ < 96 ∧ 96 ≤ rec) then s.raise (F.CAN_EVT_WARN n) else s
  if 255 < tec then s.goBusOff n
  else if s.canState n = 1 ∧ (127 < tec ∨ 127 < rec) then (s.put (F.CAN_STAT_STATE n) 2).raise (F.CAN_EVT_PASSIVE n)
  else if s.canState n = 2 ∧ tec ≤ 127 ∧ rec ≤ 127 then s.put (F.CAN_STAT_STATE n) 1
  else s

/-- Controller `n` takes part on its bus. -/
def State.onBus (s : State) (n : Nat) : Bool :=
  decide (n < 12) && (s.canState n == 1 || s.canState n == 2) && decide (s.trcv n < 2) && !(s.ctl n).integrating

/-- A LONE or SWAPPED hold ends (R278, R279). -/
def State.endHold (s : State) (n : Nat) : State :=
  ((s.put (F.CAN_STAT_LONE n) 0).put (F.CAN_STAT_SWAPPED n) 0).put (F.CAN_STAT_ACK_RUN n) 0

/-! Filtering (R264, R265). -/

/-- Records of 16 bytes. -/
def rec16 : Nat → Bytes → List Bytes
  | 0, _ => []
  | n + 1, b => b.take 16 :: rec16 n (b.drop 16)

/-- A record admits frames of this kind. -/
def fits (r : Bytes) (f : CanFrame) : Bool :=
  bitOf (u8 r 13) 0 && bitOf (u8 r 13) 1 == f.xtd && bitOf (u8 r 12) f.fmt && (!f.remote || bitOf (u8 r 12) 3) &&
    (!bitOf (u8 r 15) 0 || (f.fmt == 2 && f.vcid == u8 r 14))

/-- The first record of a list that admits the frame, with its index. -/
def firstFit (p : Bytes → Bool) : Nat → List Bytes → Option (Nat × Bytes)
  | _, [] => none
  | i, r :: l => if p r then some (i, r) else firstFit p (i + 1) l

/-- The deciding record, with its list and index. -/
def CanFilter.classify (l : CanFilter) (f : CanFrame) : Option (Nat × Nat × Bytes) :=
  match firstFit (fun r => fits r f && decide (u32 r 0 ≤ f.id) && decide (f.id ≤ u32 r 4)) 0 l.ranges with
  | some (i, r) => some (0, i, r)
  | none =>
    match firstFit (fun r => fits r f && (f.id == u32 r 0 || f.id == u32 r 4)) 0 l.duals with
    | some (i, r) => some (1, i, r)
    | none =>
      match firstFit (fun r => fits r f && (Nat.land f.id (u32 r 4) == Nat.land (u32 r 0) (u32 r 4))) 0 l.masks with
      | some (i, r) => some (2, i, r)
      | none => none

/-! Receive queues (R267, R269). -/

/-- The record of a frame (R267), padded to a multiple of 8 bytes; DLC is of CC and FD frames, SDT, VCID and AF of XL frames. -/
def canRecord (f : CanFrame) (ts filter : Nat) : Bytes :=
  let xl := fun (v : Nat) => if f.fmt = 2 then v else 0
  let b := leBytes 4 ts ++ leBytes 4 f.id ++ leBytes 2 f.data.length ++ leBytes 1 f.fmt ++
    leBytes 1 (b2n f.xtd + 2 * b2n f.remote + 4 * b2n f.brs + 8 * b2n f.esi + 16 * b2n f.sec) ++
    leBytes 1 (if f.fmt = 2 then 0 else f.dlc) ++ leBytes 1 (xl f.sdt) ++ leBytes 1 (xl f.vcid) ++ [0] ++ leBytes 4 (xl f.af) ++ leBytes 2 filter ++ [0, 0] ++ f.data
  b ++ zeros (ceilDiv b.length 8 * 8 - b.length)

def CanCtl.rxQ (c : CanCtl) (q : Nat) : List Bytes := c.rxq.getD q []
def bytesIn (l : List Bytes) : Nat := (l.map List.length).sum

/-- A record is stored in receive queue `q`, or discarded whole. -/
def State.storeRx (s : State) (n q : Nat) (r : Bytes) : State :=
  let c := s.ctl n
  let l := c.rxQ q
  if s.on (F.CAN_RXQ_CFG_EN n q) && decide (bytesIn l + r.length ≤ 1024 * s.get (F.CAN_RXQ_CFG_SIZE n q)) then
    let s := s.setCtl n { c with rxq := setAt c.rxq q (l ++ [r]) }
    if l.length + 1 = max 1 (s.get (F.CAN_RXQ_CFG_LEVEL n q)) then s.raise (F.CAN_EVT_RXQ_LEVEL n) else s
  else ((s.count (C.CAN_RX_OVF n)).put (F.CAN_STAT_OVF_QUEUE n) q).raise (F.CAN_EVT_RX_OVF n)

/-! Transceivers (R310, R311). -/

/-- Transceiver `n` moves to state `v`. -/
def State.moveTrcv (s : State) (n v : Nat) : State :=
  let old := s.trcv n
  if old = v then s
  else
    let s := (s.put (F.WAK_TRCV_STAT_STATE n) v).put (F.WAK_TRCV_CTL_STATE n) v
    let s := if v = 2 then s.put (F.WAK_TRCV_STAT_FEC n) 0 else s
    let c := s.ctl n
    if s.canState n = 0 then s
    else if 2 ≤ v then s.setCtl n { c with cur := none, released := false, last := false, slept := true, integrating := false }
    else if 2 ≤ old ∨ v = 0 then s.setCtl n { c with integrating := true }
    else s

end Sys2Proof.Machine
end

