-- ==== Sys2Proof/Machine/Cipher.lean ====
section
/-! DEFINITION. AES of FIPS 197 with keys of 16 and 32 bytes, CMAC of NIST SP 800-38B and GCM of NIST SP 800-38D, which
the gateway and the enclave use (R297, R419, R423; PRESUMED, log 40: the spec names the standards and does not repeat
them). -/
namespace Sys2Proof.Machine

/-! The field of AES: bytes as numbers. -/

/-- A byte times x modulo x^8 + x^4 + x^3 + x + 1. -/
def aesX (a : Nat) : Nat := if 128 ≤ a then (2 * a % 256) ^^^ 0x1B else 2 * a

/-- The product of two bytes; `n` bits of `b` are left to take. -/
def aesMul : Nat → Nat → Nat → Nat
  | 0, _, _ => 0
  | n + 1, a, b => (if b % 2 = 1 then a else 0) ^^^ aesMul n (aesX a) (b / 2)

def aesSq (a : Nat) : Nat := aesMul 8 a a

/-- The inverse, which is the power 254; 0 for 0. -/
def aesInv (a : Nat) : Nat :=
  let a2 := aesSq a
  let a3 := aesMul 8 a2 a
  let a12 := aesSq (aesSq a3)
  let a15 := aesMul 8 a12 a3
  let a240 := iterate aesSq 4 a15
  aesMul 8 (aesMul 8 a240 a12) a2

def rotl8 (v k : Nat) : Nat := (v * 2 ^ k) % 256 + v / 2 ^ (8 - k)

/-- The substitution of a byte. -/
def aesSub (a : Nat) : Nat :=
  let b := aesInv a
  b ^^^ rotl8 b 1 ^^^ rotl8 b 2 ^^^ rotl8 b 3 ^^^ rotl8 b 4 ^^^ 0x63

def xorList (a b : List Nat) : List Nat := List.zipWith Nat.xor a b

/-! Key expansion: words of four bytes, the latest first. -/

/-- `n` more words from word `i` on; a key of `k` words. -/
def aesWords (k : Nat) : Nat → Nat → Nat → List (List Nat) → List (List Nat)
  | 0, _, _, w => w
  | n + 1, i, rc, w =>
    let t := w.headD []
    let t' := if i % k = 0 then xorList ((t.drop 1 ++ t.take 1).map aesSub) [rc, 0, 0, 0]
      else if 6 < k ∧ i % k = 4 then t.map aesSub else t
    aesWords k n (i + 1) (if i % k = 0 then aesX rc else rc) (xorList (w.getD (k - 1) []) t' :: w)

/-- Runs of `n` items. -/
def chunks {α : Type} (n : Nat) : Nat → List α → List (List α)
  | 0, _ => []
  | k + 1, l => if l.isEmpty then [] else l.take n :: chunks n k (l.drop n)

/-- The round keys of a key, first round first, 16 bytes each. -/
def aesKeys (key : List Nat) : List (List Nat) :=
  let k := key.length / 4
  let w := aesWords k (4 * (k + 7) - k) k 1 (chunks 4 k key).reverse
  chunks 16 (k + 7) w.reverse.flatten

/-! Rounds: a block of 16 bytes, column after column. -/

def aesShift (b : List Nat) : List Nat := (List.range 16).map fun i => b.getD ((i + i % 4 * 4) % 16) 0

def aesMixCol (c : List Nat) : List Nat :=
  (List.range 4).map fun i =>
    let g := fun (j : Nat) => c.getD ((i + j) % 4) 0
    aesX (g 0) ^^^ aesX (g 1) ^^^ g 1 ^^^ g 2 ^^^ g 3

def aesMix (b : List Nat) : List Nat := ((chunks 4 4 b).map aesMixCol).flatten

def aesRounds : List (List Nat) → List Nat → List Nat
  | [], b => b
  | [k], b => xorList (aesShift (b.map aesSub)) k
  | k :: r, b => aesRounds r (xorList (aesMix (aesShift (b.map aesSub))) k)

/-- The forward cipher on one block. -/
def aesBlock (key block : List Nat) : List Nat :=
  match aesKeys key with
  | [] => block
  | k :: r => aesRounds r (xorList block k)

def nums (b : Bytes) : List Nat := b.map BitVec.toNat
def toBytes (l : List Nat) : Bytes := l.map (BitVec.ofNat 8)

/-! CMAC. -/

/-- The big-endian number of a block, and back. -/
def blockVal (b : List Nat) : Nat := b.foldl (fun v x => 256 * v + x) 0
def blockOf (v : Nat) : List Nat := nums (beBytes 16 v)

/-- A block times x, as a big-endian number. -/
def cmacDouble (v : Nat) : Nat := if 2 ^ 127 ≤ v then (2 * v % 2 ^ 128) ^^^ 0x87 else 2 * v

/-- The chaining over whole blocks and the prepared last one. -/
def cmacChain (key : List Nat) : List (List Nat) → List Nat → List Nat
  | [], c => c
  | b :: r, c => cmacChain key r (aesBlock key (xorList c b))

/-- The 16 bytes of the CMAC of a message. -/
def cmacOf (key msg : Bytes) : Bytes :=
  let k := nums key
  let m := nums msg
  let k1 := cmacDouble (blockVal (aesBlock k (blockOf 0)))
  let n := (m.length - 1) / 16 * 16
  let last := m.drop n
  let fin := if last.length = 16 then xorList last (blockOf k1)
    else xorList (last ++ [0x80] ++ List.replicate (15 - last.length) 0) (blockOf (cmacDouble k1))
  toBytes (cmacChain k (chunks 16 (n / 16) (m.take n) ++ [fin]) (blockOf 0))

/-! GCM with 12-byte initialisation vectors. -/

/-- The product in GF(2^128) of GCM: bit 0 of a block is its most significant. -/
def ghMul : Nat → Nat → Nat → Nat
  | 0, _, _ => 0
  | n + 1, x, v =>
    (if bitOf x n then v else 0) ^^^ ghMul n x (if v % 2 = 1 then (v / 2) ^^^ (0xE1 * 2 ^ 120) else v / 2)

def pad16 (b : List Nat) : List Nat := b ++ List.replicate (ceilDiv b.length 16 * 16 - b.length) 0

def ghash (h : Nat) (b : List Nat) : Nat :=
  (chunks 16 b.length b).foldl (fun y x => ghMul 128 (y ^^^ blockVal x) h) 0

/-- The key stream from counter `c` on. -/
def gcmStream (key iv : List Nat) : Nat → Nat → List Nat
  | 0, _ => []
  | n + 1, c => aesBlock key (iv ++ nums (beBytes 4 c)) ++ gcmStream key iv n (c + 1)

/-- The text encrypted, or decrypted. -/
def gcmText (key iv text : Bytes) : Bytes :=
  toBytes (xorList (nums text) (gcmStream (nums key) (nums iv) (ceilDiv text.length 16) 2))

/-- The tag over the additional data and the ciphertext. -/
def gcmTag (key iv aad ct : Bytes) : Bytes :=
  let k := nums key
  let h := blockVal (aesBlock k (blockOf 0))
  let s := ghash h (pad16 (nums aad) ++ pad16 (nums ct) ++ blockOf (aad.length * 8 * 2 ^ 64 + ct.length * 8))
  toBytes (xorList (blockOf s) (aesBlock k (nums iv ++ [0, 0, 0, 1])))

end Sys2Proof.Machine
end

