-- ==== Sys2Proof/Machine/Curve.lean ====
section
/-! DEFINITION. The curve P-384 with ECDSA and Diffie–Hellman (FIPS 186-5), which the enclave uses (R419, R422, R427,
R430; PRESUMED, log 40). -/
namespace Sys2Proof.Machine

/-- The field's prime, the curve's constant, its order, and its base point. -/
def p384 : Nat := 2 ^ 384 - 2 ^ 128 - 2 ^ 96 + 2 ^ 32 - 1
def b384 : Nat :=
  0xB3312FA7E23EE7E4988E056BE3F82D19181D9C6EFE8141120314088F5013875AC656398D8A2ED19D2A85C8EDD3EC2AEF
def n384 : Nat :=
  0xFFFFFFFFFFFFFFFFFFFFFFFFFFFFFFFFFFFFFFFFFFFFFFFFC7634D81F4372DDF581A0DB248B0A77AECEC196ACCC52973
def gx384 : Nat :=
  0xAA87CA22BE8B05378EB1C71EF320AD746E1D3B628BA79B9859F741E082542A385502F25DBF55296C3A545E3872760AB7
def gy384 : Nat :=
  0x3617DE4A96262C6F5D9E98BF9292DC29F8F41DBD289A147CE9DA3113B5F0B8C00A60B1CE1D7E819D7A431D7C90EA0E5F

/-- `b` to the power `e` modulo `m`; `n` bits of `e` are left to take. -/
def powMod (m : Nat) : Nat → Nat → Nat → Nat
  | 0, _, _ => 1 % m
  | n + 1, b, e => (if e % 2 = 1 then b else 1) * powMod m n (b * b % m) (e / 2) % m

/-- The inverse modulo a prime. -/
def invMod (m a : Nat) : Nat := powMod m 384 (a % m) (m - 2)

def subMod (a b : Nat) : Nat := (a + (p384 - b % p384)) % p384

/-- Points in affine form; none is the point at infinity. -/
abbrev Point := Option (Nat × Nat)

/-- The sum of two points. -/
def addPt (a b : Point) : Point :=
  match a, b with
  | none, q => q
  | p, none => p
  | some (x1, y1), some (x2, y2) =>
    if x1 = x2 ∧ (y1 + y2) % p384 = 0 then none
    else
      let l := if x1 = x2 then subMod (3 * x1 * x1) 3 * invMod p384 (2 * y1) % p384
        else subMod y2 y1 * invMod p384 (subMod x2 x1) % p384
      let x := subMod (l * l) (x1 + x2)
      some (x, subMod (l * subMod x1 x) y1)

/-- `k` times a point; `n` bits of `k` are left to take. -/
def mulPt : Nat → Nat → Point → Point
  | 0, _, _ => none
  | n + 1, k, q => addPt (if k % 2 = 1 then q else none) (mulPt n (k / 2) (addPt q q))

def basePt : Point := some (gx384, gy384)

/-- The point is on the curve. -/
def onCurve (x y : Nat) : Bool :=
  decide (x < p384) && decide (y < p384) && (y * y % p384 == subMod (x * x * x + b384) (3 * x))

/-- 97 bytes of an uncompressed point, and back. -/
def ptBytes : Point → Bytes
  | none => [0]
  | some (x, y) => [4] ++ beBytes 48 x ++ beBytes 48 y
def ptOf (b : Bytes) : Point :=
  let x := beVal (slice b 1 48)
  let y := beVal (slice b 49 48)
  if b.length = 97 ∧ u8 b 0 = 4 ∧ onCurve x y then some (x, y) else none

/-- The public key of a private key of 48 bytes. -/
def pubOf (d : Bytes) : Bytes := ptBytes (mulPt 384 (beVal d) basePt)

/-- The x-coordinate of the Diffie–Hellman product, 48 bytes; none where the peer key is no point of the curve. -/
def dh384 (d peer : Bytes) : Option Bytes :=
  match mulPt 384 (beVal d) (ptOf peer) with
  | some (x, _) => some (beBytes 48 x)
  | none => none

/-- An ECDSA signature r ‖ s of a digest with the per-message secret `k`; none where it must be drawn again. -/
def ecdsaSign (d digest : Bytes) (k : Nat) : Option Bytes :=
  match mulPt 384 k basePt with
  | none => none
  | some (x, _) =>
    let r := x % n384
    let t := invMod n384 k * (beVal digest + r * beVal d) % n384
    if r = 0 ∨ t = 0 then none else some (beBytes 48 r ++ beBytes 48 t)

/-- The signature r ‖ s of a digest verifies under a public key. -/
def ecdsaOk (pub digest sig : Bytes) : Bool :=
  let r := beVal (slice sig 0 48)
  let t := beVal (slice sig 48 48)
  match ptOf pub with
  | none => false
  | some q =>
    if r = 0 ∨ n384 ≤ r ∨ t = 0 ∨ n384 ≤ t then false
    else
      let w := invMod n384 t
      match addPt (mulPt 384 (beVal digest * w % n384) basePt) (mulPt 384 (r * w % n384) (some q)) with
      | none => false
      | some (x, _) => x % n384 == r

end Sys2Proof.Machine
end

