-- ==== Sys2Proof/Machine/EncOps.lean ====
section
/-! DEFINITION. The enclave's stores and shared operations: slots (R419 to R421), its state (R437, R439), measurements
(R440) and its start (R441). -/
namespace Sys2Proof.Machine

def St.NO_KEY : Nat := 0x1400
def St.NO_IDENTITY : Nat := 0x1401
def St.SLOT_USED : Nat := 0x1402
def St.TAG_BAD : Nat := 0x1403
def St.OTP_FULL : Nat := 0x1404
def St.RNG_FAIL : Nat := 0x1405
def St.DEBUG_LOCKED : Nat := 0x1406
def St.TOKEN_BAD : Nat := 0x1407

def State.onEnc (s : State) (f : Enc → Enc) : State := s.setEnc (f s.enc)

def State.keySlot (s : State) (k : Nat) : KeySlot := storeGet keySlotDefault s.enc.slots k
def State.setKeySlot (s : State) (k : Nat) (v : KeySlot) : State :=
  s.onEnc fun e => { e with slots := storeSet keySlotDefault e.slots k v, stale := false }
def State.idRec (s : State) (n : Nat) : IdRec := storeGet idRecDefault s.enc.recs n
def State.setIdRec (s : State) (n : Nat) (v : IdRec) : State :=
  s.onEnc fun e => { e with recs := storeSet idRecDefault e.recs n v }
def State.gcmCtr (s : State) (k : Nat) : Nat := storeGet cntDefault s.enc.ctr k

/-- The tamper latch, from the key store and the always-on domain. -/
def State.latched (s : State) : Nat := Nat.lor (bits (s.rd R.ENC_TAMP_STAT).toNat 6 0) s.enc.aon

/-- The module is unravelled. -/
def State.unravelled (s : State) : Bool := s.latched != 0

/-- ENC_STAT shows the state of the enclave and of its identity records. -/
def State.encShow (s : State) : State :=
  let free := ((List.range 8).filter fun n => (s.idRec n).state == 0).length
  (s.put F.ENC_STAT_STATE (if s.enc.debug then 2 else b2n s.unravelled)).put F.ENC_STAT_FREE free

/-- The operations that a type permits, and its key's bytes. -/
def typeOps (ty : Nat) : Nat := [0, 4, 8, 19, 2, 16].getD ty 0
def typeLen (ty : Nat) : Nat := [0, 16, 32, 48, 97, 48].getD ty 0

/-- Numbers of the bits of OPS. -/
def Ops.SIGN : Nat := 0
def Ops.VERIFY : Nat := 1
def Ops.CMAC : Nat := 2
def Ops.GCM : Nat := 3
def Ops.DERIVE : Nat := 4

/-- A load's policy is refused (R419). -/
def policyBad (ty ops pmask : Nat) : Bool :=
  ty == 0 || decide (5 < ty) || Nat.lor ops (typeOps ty) != typeOps ty || decide (2 ^ 19 ≤ pmask)

/-- The gateway's copy of slot `k` (R425). -/
def State.cmacKey (s : State) (k : Nat) : Option Bytes :=
  let v := s.keySlot k
  if v.ty = 1 ∧ bitOf v.ops Ops.CMAC ∧ bitOf v.pmask 0 ∧ !s.enc.debug ∧ !s.unravelled then some v.key else none

/-- A measurement is recorded, at most 32; one of kind 6 replaces any earlier one (R440). -/
def State.encMeasure (s : State) (kind id : Nat) (digest : Bytes) : State :=
  s.onEnc fun e =>
    let l := if kind = 6 then e.meas.filter (·.1 != 6) else e.meas
    { e with meas := if l.length < 32 then l ++ [(kind, id, digest)] else l }

/-- The highest good identity record: one whose key unwraps under the roots in force (R427), so wrapped under this seed. -/
def State.topRec (s : State) : Option Nat :=
  [7, 6, 5, 4, 3, 2, 1, 0].find? fun n => (s.idRec n).state == 1 && (s.idRec n).seed == s.enc.seed

/-- The identity's private key, unwrapped: record ENC_STAT.RECORD's. -/
def State.identity (s : State) : Bytes := (s.idRec (s.get F.ENC_STAT_RECORD)).key

/-- The key store is checked: one that fails counts as erased by tamper, with source VBAK (R418). -/
def State.storeCheck (s : State) : State :=
  if s.enc.stale then
    (s.put F.ENC_TAMP_STAT_VBAK 1).onEnc fun e => { e with seed := zeros 48, slots := [], ctr := [], stale := false }
  else s

/-- The enclave starts at stage 5 of cast-on (R418, R438, R441). -/
def State.encStart (s : State) : State :=
  let s := s.storeCheck
  let s := forEach (List.range 8) (fun n t =>
    if (t.idRec n).state = 3 then t.setIdRec n { t.idRec n with state := 2 } else t) s
  let s := s.onEnc fun e => { e with debug := false, chal := none, work := [] }
  let s := s.wr R.ENC_BOOT_CNT (s.rd R.ENC_BOOT_CNT + 1)
  if s.unravelled then
    let s := s.wr R.ENC_TAMP_STAT (BitVec.ofNat 32 (setBits (s.rd R.ENC_TAMP_STAT).toNat 6 0 s.latched))
    (s.encShow.raise F.ENC_EVT_TAMPER).raise F.ENC_EVT_UNRAVELLED
  else (s.put F.ENC_STAT_RECORD ((s.topRec).getD 0)).encShow

end Sys2Proof.Machine
end

