-- ==== Sys2Proof/Machine/GwyOps.lean ====
section
/-! DEFINITION. The gateway's processing of a frame: rules and chains (R285 to R287), authentication (R297 to R301), signal
maps and rebuilt PDUs (R292 to R295), rate limits (R296) and destinations (R288 to R291, R302). -/
namespace Sys2Proof.Machine

def State.onGwy (s : State) (f : Gwy → Gwy) : State := s.setGwy (f s.gwy)

def State.gwRule (s : State) (r : Nat) : GwRule := storeGet gwRuleDefault s.gwy.rules r
def State.setGwRule (s : State) (r : Nat) (v : GwRule) : State :=
  s.onGwy fun g => { g with rules := storeSet gwRuleDefault g.rules r v }
def State.gwMap (s : State) (i : Nat) : GwMap := storeGet gwMapDefault s.gwy.maps i
def State.setGwMap (s : State) (i : Nat) (v : GwMap) : State :=
  s.onGwy fun g => { g with maps := storeSet gwMapDefault g.maps i v }
def State.gwPdu (s : State) (i : Nat) : GwPdu := storeGet gwPduDefault s.gwy.pdus i
def State.setGwPdu (s : State) (i : Nat) (v : GwPdu) : State :=
  s.onGwy fun g => { g with pdus := storeSet gwPduDefault g.pdus i v }
def State.gwTmpl (s : State) (i : Nat) : GwTmpl := storeGet gwTmplDefault s.gwy.tmpls i
def State.setGwTmpl (s : State) (i : Nat) (v : GwTmpl) : State :=
  s.onGwy fun g => { g with tmpls := storeSet gwTmplDefault g.tmpls i v }
def State.gwFresh (s : State) (c : Nat) : Option Nat := storeGet noneDefault s.gwy.fresh c
def State.setGwFresh (s : State) (c : Nat) (v : Option Nat) : State :=
  s.onGwy fun g => { g with fresh := storeSet noneDefault g.fresh c v }

/-! The fields of a rule's record (R283). -/

def GwRule.srcType (r : GwRule) : Nat := u8 r.raw 0
def GwRule.srcUnit (r : GwRule) : Nat := u8 r.raw 1
def GwRule.srcSel (r : GwRule) : Nat := u16 r.raw 2
def GwRule.idLo (r : GwRule) : Nat := u32 r.raw 4
def GwRule.idHi (r : GwRule) : Nat := u32 r.raw 8
def GwRule.dstType (r : GwRule) : Nat := u8 r.raw 12
def GwRule.dstUnit (r : GwRule) : Nat := u8 r.raw 13
def GwRule.dstSub (r : GwRule) : Nat := u8 r.raw 14
def GwRule.flag (r : GwRule) (i : Nat) : Bool := bitOf (u8 r.raw 15) i
def GwRule.en (r : GwRule) : Bool := r.flag 0
def GwRule.newId (r : GwRule) : Bool := r.flag 3
def GwRule.dstId (r : GwRule) : Nat := u32 r.raw 16
def GwRule.verifies (r : GwRule) : Bool := u8 r.raw 20 == 1 || u8 r.raw 20 == 3
def GwRule.appends (r : GwRule) : Bool := u8 r.raw 20 == 2 || u8 r.raw 20 == 3
def GwRule.vkey (r : GwRule) : Nat := u8 r.raw 21
def GwRule.akey (r : GwRule) : Nat := u8 r.raw 22
def GwRule.vlens (r : GwRule) : Nat := u8 r.raw 23
def GwRule.alens (r : GwRule) : Nat := u8 r.raw 24
def GwRule.keeps (r : GwRule) : Bool := u8 r.raw 25 == 1
def GwRule.vfresh (r : GwRule) : Nat := u16 r.raw 26
def GwRule.afresh (r : GwRule) : Nat := u16 r.raw 28
def GwRule.fburst (r : GwRule) : Nat := u16 r.raw 30
def GwRule.frate (r : GwRule) : Nat := u32 r.raw 32
def GwRule.brate (r : GwRule) : Nat := u32 r.raw 36
def GwRule.bburst (r : GwRule) : Nat := u32 r.raw 40
def GwRule.minIvl (r : GwRule) : Nat := u32 r.raw 44
def GwRule.mapFirst (r : GwRule) : Nat := u16 r.raw 48
def GwRule.mapCount (r : GwRule) : Nat := u16 r.raw 50
def GwRule.nextRule (r : GwRule) : Nat := u16 r.raw 52
def GwRule.busId (r : GwRule) : Nat := u8 r.raw 54
def GwRule.ringAt (r : GwRule) : Nat := u48 r.raw 56

/-- TAG_LEN and FV_LEN of VLENS or ALENS. -/
def tagLen (l : Nat) : Nat := l % 32
def fvLen (l : Nat) : Nat := l / 32

/-! Drops and counts. -/

/-- A drop of rule `r`: its counter, its event and GWY_LAST_INFO. -/
def State.gwDrop (s : State) (c : Nat) (e : Fld) (kind r : Nat) : State :=
  (((s.count c).raise e).put F.GWY_LAST_INFO_KIND kind).put F.GWY_LAST_INFO_RULE r

def State.gwAuthFail (s : State) (r : Nat) : State := s.gwDrop C.GWY_AUTH_FAIL F.GWY_EVT_AUTH_FAIL 1 r
def State.gwFreshEnd (s : State) (r : Nat) : State := s.gwDrop C.GWY_FRESH_END F.GWY_EVT_FRESH_END 2 r
def State.gwFreshUnset (s : State) (r : Nat) : State := s.gwDrop C.GWY_FRESH_UNSET F.GWY_EVT_FRESH_UNSET 3 r
def State.gwKeyBad (s : State) (r : Nat) : State := s.gwDrop C.GWY_KEY_BAD F.GWY_EVT_KEY_BAD 4 r
def State.gwRateDrop (s : State) (r : Nat) : State := s.gwDrop C.GWY_RATE_DROP F.GWY_EVT_RATE_DROP 5 r
def State.gwDstFull (s : State) (r : Nat) : State := s.gwDrop C.GWY_DST_FULL F.GWY_EVT_DST_FULL 6 r
def State.gwDstAsleep (s : State) (r : Nat) : State := s.gwDrop C.GWY_DST_ASLEEP F.GWY_EVT_DST_ASLEEP 7 r
def State.gwDropLen (s : State) (r : Nat) : State := s.gwDrop C.GWY_DROP_LEN F.GWY_EVT_DROP_LEN 8 r
def State.gwMismatch (s : State) (r : Nat) : State := s.gwDrop C.GWY_MISMATCH F.GWY_EVT_MISMATCH 9 r
def State.gwSkip (s : State) (r : Nat) : State := s.gwDrop C.GWY_DROP_LEN F.GWY_EVT_DROP_LEN 11 r

/-- Count `i` of R533 of rule `r`: 0 matched, 1 delivered, 2 authentication drops, 3 rate drops. -/
def State.gwCount (s : State) (r i : Nat) : State :=
  let v := s.gwRule r
  s.setGwRule r { v with cnt := setAt v.cnt i (v.cnt.getD i 0 + 1) }

/-! Lengths. -/

def fdLens : List Nat := [0, 1, 2, 3, 4, 5, 6, 7, 8, 12, 16, 20, 24, 32, 48, 64]

/-- The smallest permitted data length of a format that holds `n` bytes. -/
def fitLen (fmt n : Nat) : Option Nat :=
  match fmt with
  | 0 => if n ≤ 8 then some n else none
  | 1 => fdLens.find? fun k => decide (n ≤ k)
  | 2 => if n ≤ 2048 then some (max n 1) else none
  | _ => some n

/-- The data length code of a frame of `n` bytes. -/
def dlcOf (fmt n : Nat) : Nat :=
  match fmt with
  | 0 => min n 8
  | 1 => (fdLens.findIdx? fun k => decide (n ≤ k)).getD 15
  | _ => 0

/-! Identifiers: XTD in bit 31. -/

def idWord (f : CanFrame) : Nat := if f.fmt ≤ 2 then f.id + 2 ^ 31 * b2n f.xtd else 0

/-- The identifier at the destination (R297, R290). -/
def GwRule.outId (r : GwRule) (g : GwFrame) : Nat := if g.src = 4 || r.newId then r.dstId else idWord g.f

/-! Authentication. -/

/-- The CMAC message of R297. -/
def cmacMsg (id : Nat) (data : Bytes) (fv : Nat) : Bytes := leBytes 4 id ++ leBytes 2 data.length ++ data ++ leBytes 4 fv

/-- The rebuilt freshness value (R298). -/
def rebuild (last fv n : Nat) : Nat :=
  let m := 2 ^ (8 * n)
  let c := last - last % m + fv
  if c ≤ last then c + m else c

/-- Verification of a copy (R298): the state, and the data without the trailer where it passes. -/
def State.gwVerify (s : State) (r : Nat) (v : GwRule) (g : GwFrame) : State × Option Bytes :=
  let tl := tagLen v.vlens
  let fl := fvLen v.vlens
  match s.cmacKey v.vkey with
  | none => (s.gwKeyBad r, none)
  | some key =>
    match s.gwFresh v.vfresh with
    | none => (s.gwFreshUnset r, none)
    | some last =>
      let b := g.f.data
      if b.length < tl + fl then (s.gwAuthFail r, none)
      else
        let n := b.length - tl - fl
        let c := rebuild last (leVal (slice b n fl)) fl
        if 2 ^ 32 ≤ c then (s.gwFreshEnd r, none)
        else if (cmacOf key (cmacMsg (idWord g.f) (b.take n) c)).take tl != b.drop (n + fl) then (s.gwAuthFail r, none)
        else (s.setGwFresh v.vfresh (some c), some (b.take n))

/-- The format of a copy at a CAN destination (R288). -/
def GwRule.outFmt (v : GwRule) (g : GwFrame) : Nat :=
  if v.flag 6 then 2 else if v.flag 4 then 1 else if g.f.fmt ≤ 2 then g.f.fmt else 0

/-- Appending (R299): the data with its trailer; for a CAN destination zeros come before the trailer (R288). -/
def State.gwAppend (s : State) (r : Nat) (v : GwRule) (g : GwFrame) : State × Option Bytes :=
  let tl := tagLen v.alens
  let fl := fvLen v.alens
  match s.cmacKey v.akey with
  | none => (s.gwKeyBad r, none)
  | some key =>
    match s.gwFresh v.afresh with
    | none => (s.gwFreshUnset r, none)
    | some c =>
      if c = 2 ^ 32 - 1 then (s.gwFreshEnd r, none)
      else
        let n := g.f.data.length + tl + fl
        let pad := if v.dstType = 1 then ((fitLen (v.outFmt g) n).getD n) - n else 0
        let b := g.f.data ++ zeros pad
        (s.setGwFresh v.afresh (some (c + 1)),
          some (b ++ leBytes fl (c + 1) ++ (cmacOf key (cmacMsg (v.outId g) b (c + 1))).take tl))

/-! Destinations. -/

/-- A controller cannot send at all (R302). -/
def State.cannotSend (s : State) (n : Nat) : Bool :=
  s.canState n == 0 || s.listens n || (s.canState n == 3 && s.on (F.CAN_CTL_BUSOFF_FLUSH n))

/-- The frame that a copy becomes on a CAN bus; XL fields that the spec does not give are free values. -/
def State.gwFrameOut (s : State) (v : GwRule) (g : GwFrame) (fmt : Nat) (data : Bytes) : CanFrame :=
  let id := v.outId g
  let xl := fmt == 2
  let same := g.f.fmt == 2
  let own := fun (x k m : Nat) => if !xl then 0 else if same then x else s.free k % m
  ⟨fmt, if xl ∧ 2 ^ 31 ≤ id then s.free 232 % 2048 else id % 2 ^ 29, !xl && decide (2 ^ 31 ≤ id), g.f.remote && fmt == 0,
    v.flag 5 && fmt == 1, g.f.esi && fmt == 1, xl && own (b2n g.f.sec) 236 2 == 1,
    if g.f.remote && fmt == 0 then g.f.dlc else dlcOf fmt data.length, own g.f.sdt 233 256, own g.f.vcid 234 256,
    own g.f.af 235 (2 ^ 32), data⟩

/-- Delivery to a CAN controller (R288, R302). -/
def State.gwToCan (s : State) (r : Nat) (v : GwRule) (g : GwFrame) : State :=
  let n := v.dstUnit
  let fmt := v.outFmt g
  if s.standby then s
  else if (g.f.remote && (fmt != 0 || v.appends)) || (fmt == 2 && decide (n < 8)) then s.gwDropLen r
  else
    match fitLen fmt g.f.data.length with
    | none => s.gwDropLen r
    | some k =>
      let asleep := n < 8 && decide (2 ≤ s.trcv n)
      if s.cannotSend n || (asleep && !v.flag 1) then s.gwDstAsleep r
      else
        let s := if asleep then s.moveTrcv n 0 else s
        if s.txFull n v.dstSub then s.gwDstFull r
        else
          let f := s.gwFrameOut v g fmt (g.f.data ++ zeros (k - g.f.data.length))
          let s := s.placeTx n v.dstSub ⟨f, 0, 0, none⟩
          (if fmt = 2 then s.drawn else s).gwCount r 1

/-- The record of a copy (R290). -/
def State.gwRecord (s : State) (r : Nat) (v : GwRule) (g : GwFrame) : Bytes :=
  let n := g.f.data.length
  let id := if g.f.fmt ≤ 2 then v.outId g else g.f.id
  let none_ := (fitLen g.f.fmt n).isNone && decide (g.f.fmt ≤ 1)
  let dlc := if g.f.remote then g.f.dlc else if none_ then s.free 231 % 16 else dlcOf g.f.fmt n
  canRecord { g.f with id := id % 2 ^ 29, xtd := decide (2 ^ 31 ≤ id), dlc := dlc } g.ts (3 * 2 ^ 14 + r)

/-- Delivery to a hardware queue (R290). -/
def State.gwToQueue (s : State) (r : Nat) (v : GwRule) (g : GwFrame) : State :=
  let q := v.dstUnit
  let b := s.gwRecord r v g
  if 96 < b.length then s.gwDropLen r
  else if !s.on (F.QUE_Q_CFG_EN q) || s.qFull q then s.gwDstFull r
  else
    let a := v.ringAt + 96 * (v.ring % (2 * s.get (F.QUE_Q_CFG_DEPTH q)))
    let s := (s.fabWrite .gateway a b).1.qPut q (r * 2 ^ 48 + a)
    let w := s.gwRule r
    ((s.setGwRule r { w with ring := w.ring + 1 }).gwCount r 1).drawn

/-- The started GW_RECV of a round, oldest first. -/
def State.gwRecvs (s : State) (n : Nat) : List Desc :=
  s.rnd.descs.filter fun d => d.round == n && d.started && d.running && d.fin.isNone && d.func == 0x0A && d.opcode == 6

def recvKey (d : Desc) : Nat := d.round * 4096 + d.slot

/-- A GW_RECV completes with the bytes and the records written. -/
def State.recvEnd (s : State) (d : Desc) : State := s.finish d St.OK d.acc

/-- A record for the GW_RECVs of a round, first to last (R291). -/
def State.gwRecv (r : Nat) (b : Bytes) : List Desc → State → State
  | [], s => s.gwDstFull r
  | d :: l, s =>
    let n := d.acc % 2 ^ 32
    if d.len < n + b.length then
      if d.acc = 0 then s.gwDropLen r else State.gwRecv r b l (s.recvEnd d)
    else
      let w := s.fabWrite (.round d.round) (d.addr + n) b
      if w.2 ≠ St.OK then (w.1.refuseWrite d w.2 0).gwDstFull r
      else
        let s := w.1.updDesc d fun e => { e with acc := e.acc + b.length + 2 ^ 32 }
        let s := if n = 0 then s.onGwy fun g => { g with recvAt := storeSet cntDefault g.recvAt (recvKey d) s.now } else s
        s.gwCount r 1

/-- Delivery to a round (R291). -/
def State.gwToRound (s : State) (r : Nat) (v : GwRule) (g : GwFrame) : State :=
  (State.gwRecv r (s.gwRecord r v g) (s.gwRecvs v.dstUnit) s).drawn

/-! NTSCF frames (R289; layouts of IEEE 1722, PRESUMED, log 50). -/

/-- An ACF CAN message. -/
def State.acfMsg (s : State) (v : GwRule) (g : GwFrame) : Bytes :=
  let b := g.f.data
  let pad := ceilDiv b.length 4 * 4 - b.length
  let q := (16 + b.length + pad) / 4
  let id := v.outId g
  let can := decide (g.f.fmt ≤ 2)
  beBytes 2 (0x01 * 512 + q) ++
    leBytes 1 (pad * 64 + 32 * b2n (v.flag 2) + 16 * b2n g.f.remote + 8 * b2n (decide (2 ^ 31 ≤ id)) +
      4 * b2n (can && g.f.brs) + 2 * b2n (g.f.fmt == 1) + b2n (can && g.f.esi)) ++
    leBytes 1 v.busId ++ (if v.flag 2 then beBytes 4 (s.get F.GWY_TS_HI_HI) ++ beBytes 4 g.ts else zeros 8) ++
    beBytes 4 (id % 2 ^ 29) ++ b ++ zeros pad

/-- The collected messages of template `t` leave in one NTSCF frame through port W. -/
def State.gwFlush (s : State) (t : Nat) : State :=
  let m := s.gwTmpl t
  if m.msgs.isEmpty then s
  else
    let b := m.msgs.flatten
    let k := m.hdr.length
    let h := patch m.hdr (k - 11) (leBytes 1 (u8 m.hdr (k - 11) / 8 * 8 + b.length / 256) ++ leBytes 1 b.length ++ leBytes 1 m.seq)
    let s := s.setGwTmpl t { m with seq := (m.seq + 1) % 256, msgs := [] }
    (s.swIngress ⟨23, h ++ b, some m.cls, none, []⟩).1

/-- Delivery to Ethernet (R289). -/
def State.gwToEth (s : State) (r : Nat) (v : GwRule) (g : GwFrame) : State :=
  let t := v.dstUnit
  let b := s.acfMsg v g
  if s.standby then s
  else if (s.gwTmpl t).hdr.isEmpty then s.gwDstFull r
  else if g.f.fmt == 2 || decide ((s.gwTmpl t).maxData < b.length) then s.gwDropLen r
  else
    let s := if (s.gwTmpl t).maxData < ((s.gwTmpl t).msgs.map List.length).sum + b.length then s.gwFlush t else s
    let m := s.gwTmpl t
    let s := s.setGwTmpl t { m with
      msgs := m.msgs ++ [b]
      cls := if m.msgs.isEmpty then v.dstSub else m.cls
      first := if m.msgs.isEmpty then s.now else m.first }
    let s := s.gwCount r 1
    if m.batch = 0 then s.gwFlush t else s

/-- Steps 6 and 7 of R286, after the rate limit has passed the copy (R296). -/
def State.gwSend (s : State) (r : Nat) (g : GwFrame) : State :=
  let v := s.gwRule r
  let s := s.setGwRule r { v with
    ftok := v.ftok - 10 ^ 9, btok := v.btok - 10 ^ 9 * g.f.data.length, lastSent := some s.now }
  let a := if v.appends then s.gwAppend r v g else (s, some g.f.data)
  match a.2 with
  | none => a.1.gwCount r 2
  | some b =>
    let g := { g with f := { g.f with data := b } }
    match v.dstType with
    | 1 => a.1.gwToCan r v g
    | 2 => a.1.gwToEth r v g
    | 3 => a.1.gwToQueue r (a.1.gwRule r) g
    | 4 => a.1.gwToRound r v g
    | _ => a.1

/-! The rate limit (R296). -/

def State.gwRefill (s : State) (r : Nat) : State :=
  let v := s.gwRule r
  s.setGwRule r { v with
    ftok := min (10 ^ 9 * v.fburst) (v.ftok + v.frate * (s.now - v.last))
    btok := min (10 ^ 9 * v.bburst) (v.btok + v.brate * (s.now - v.last)), last := s.now }

/-- A frame of `n` bytes is eligible now; the rule's buckets are refilled. -/
def State.gwEligible (s : State) (r n : Nat) : Bool :=
  let v := s.gwRule r
  (v.frate == 0 || decide (10 ^ 9 ≤ v.ftok)) && (v.brate == 0 || decide (10 ^ 9 * n ≤ v.btok)) &&
    (match v.lastSent with
     | none => true
     | some t => decide (1000 * v.minIvl ≤ s.now - t))

/-- A frame takes the place of the held one, which it discards. -/
def State.gwHold (s : State) (r : Nat) (g : GwFrame) : State :=
  let s := if (s.gwRule r).held.isSome then (s.count C.GWY_RATE_REPLACED).gwCount r 3 else s
  s.setGwRule r { s.gwRule r with held := some g }

/-- Step 5 for a copy. A held frame whose release is due but comes later is replaced (R296). -/
def State.gwRate (s : State) (r : Nat) (g : GwFrame) : State :=
  let s := s.gwRefill r
  let due := match (s.gwRule r).held with
    | some h => s.gwEligible r h.f.data.length
    | none => false
  if due then s.gwHold r g
  else if s.gwEligible r g.f.data.length then s.gwSend r g
  else if !(s.gwRule r).keeps then (s.gwRateDrop r).gwCount r 3
  else s.gwHold r g

/-- The held frame of rule `r` leaves, once eligible. -/
def State.gwRelease (s : State) (r : Nat) : State :=
  let s := s.gwRefill r
  match (s.gwRule r).held with
  | some h =>
    if s.gwEligible r h.f.data.length then (s.setGwRule r { s.gwRule r with held := none }).gwSend r h else s
  | none => s

/-! Signals (R292, R293). -/

def GwMap.srcStart (m : GwMap) : Nat := u16 m.raw 0
def GwMap.len (m : GwMap) : Nat := u8 m.raw 2
def GwMap.flag (m : GwMap) (i : Nat) : Bool := bitOf (u8 m.raw 3) i
def GwMap.pdu (m : GwMap) : Nat := u16 m.raw 4
def GwMap.dstStart (m : GwMap) : Nat := u16 m.raw 6
def GwMap.updBit (m : GwMap) : Nat := u16 m.raw 8
def GwMap.tmoMs (m : GwMap) : Nat := u16 m.raw 10
def GwMap.dflt (m : GwMap) : Nat := u64 m.raw 16

/-- The bits of a big-endian field, most significant first. -/
def bigBits : Nat → Nat → List Nat
  | 0, _ => []
  | n + 1, b => b :: bigBits n (if b % 8 = 0 then b + 15 else b - 1)

/-- The bits of a field, most significant first (R292). -/
def fieldBits (start len : Nat) (big : Bool) : List Nat :=
  if big then bigBits len start else ((List.range len).map (start + ·)).reverse

def pduBit (b : Bytes) (i : Nat) : Bool := bitOf (u8 b (i / 8)) (i % 8)
def setPduBit (b : Bytes) (i : Nat) (v : Bool) : Bytes :=
  let x := u8 b (i / 8)
  setAt b (i / 8) (BitVec.ofNat 8 (if v then setBit x (i % 8) else clearBit x (i % 8)))

def readField (b : Bytes) (l : List Nat) : List Bool := l.map (pduBit b)
def writeField (b : Bytes) (l : List Nat) (v : List Bool) : Bytes := (l.zip v).foldl (fun d x => setPduBit d x.1 x.2) b

/-- Every bit of a field lies within `n` bytes. -/
def fieldIn (l : List Nat) (n : Nat) : Bool := l.all fun i => decide (i < 8 * n)

def GwMap.src (m : GwMap) : List Nat := fieldBits m.srcStart m.len (m.flag 0)
def GwMap.dst (m : GwMap) : List Nat := fieldBits m.dstStart m.len (m.flag 1)

/-- A map is applied to a frame's data of rule `r`, or skipped; true where it wrote into its PDU. -/
def State.gwApply (s : State) (r i : Nat) (b : Bytes) : State × Bool :=
  let m := s.gwMap i
  if m.raw.isEmpty then (s, false)
  else
    let p := s.gwPdu m.pdu
    let n := p.data.length
    if !fieldIn m.src b.length || n == 0 || !fieldIn m.dst n || (m.flag 2 && decide (8 * n ≤ m.updBit)) then (s.gwSkip r, false)
    else
      let d := writeField p.data m.dst (readField b m.src)
      let d := if m.flag 2 then setPduBit d m.updBit true else d
      ((s.setGwPdu m.pdu { p with data := d }).setGwMap i { m with timer := s.now, tmo := false }, true)

/-- The maps of a rule over a frame's data: the PDUs written, without repeats. -/
def State.gwMaps (s : State) (r : Nat) (b : Bytes) : List Nat → State × List Nat
  | [] => (s, [])
  | i :: l =>
    let a := s.gwApply r i b
    let t := State.gwMaps a.1 r b l
    let p := (s.gwMap i).pdu
    (t.1, if a.2 && !t.2.contains p then p :: t.2 else t.2)

/-- The update bits of PDU `k` cleared. -/
def State.gwClearUpd (s : State) (k : Nat) : State :=
  let p := s.gwPdu k
  let l := s.gwy.maps.filter fun m => m.2.pdu == k && m.2.flag 2 && decide (m.2.updBit < 8 * p.data.length)
  s.setGwPdu k { p with data := l.foldl (fun d m => setPduBit d m.2.updBit false) p.data }

/-- The enabled rule of a source type, unit and selector. -/
def State.gwFind (s : State) (ty unit sel : Nat) : Option Nat :=
  (s.gwy.rules.find? fun r => r.2.en && r.2.srcType == ty && r.2.srcUnit == unit && r.2.srcSel == sel).map (·.1)

/-- The gateway runs its rules (R304, R494). -/
def State.gwOn (s : State) : Bool := s.on F.GWY_CTL_EN && !s.restarting 0x0A

/-- A PDU is sent (R294). -/
def State.gwSendPdu (s : State) (k : Nat) : State :=
  if !s.gwOn then s
  else
    match s.gwFind 4 0 k with
    | none => s
    | some r =>
      let f : CanFrame := ⟨4, k, false, false, false, false, false, 0, 0, 0, 0, (s.gwPdu k).data⟩
      let s := s.gwCount r 0
      let s := if (s.gwRule r).dstType = 0 then s else s.gwRate r ⟨f, 4, 0, k, s.timNow⟩
      s.gwClearUpd k

/-! Rules and chains. -/

/-- A CAN or Ethernet frame disagrees with a rule's source fields (R285). -/
def GwRule.mismatches (v : GwRule) (g : GwFrame) : Bool :=
  (g.src == 1 || g.src == 3) &&
    (v.srcType != g.src || v.srcUnit != g.unit || (g.src == 3 && v.srcSel != g.sel) ||
      decide (2 ^ 31 ≤ v.idLo) != g.f.xtd || decide (g.f.id < v.idLo % 2 ^ 29) || decide (v.idHi % 2 ^ 29 < g.f.id))

/-- Steps 2 to 7 of R286 for a copy that has passed step 1. -/
def State.gwCopy (s : State) (r : Nat) (g : GwFrame) : State :=
  let v := s.gwRule r
  let a := if v.verifies then s.gwVerify r v g else (s, some g.f.data)
  match a.2 with
  | none => a.1.gwCount r 2
  | some b =>
    let m := a.1.gwMaps r b ((List.range v.mapCount).map (v.mapFirst + ·))
    let s := forEach (m.2.filter fun k => bitOf (m.1.gwPdu k).mode 0) (fun k t => t.gwSendPdu k) m.1
    if v.dstType = 0 then s else s.gwRate r { g with f := { g.f with data := b } }

/-- A chain of rules from rule `r` (R287); `k` rules are left. -/
def State.gwChain : Nat → Nat → GwFrame → State → State
  | k, r, g, s =>
    if r = 0xFFFF then s
    else
      match k with
      | 0 => (s.count C.GWY_CHAIN_CUT).raise F.GWY_EVT_CHAIN_CUT
      | k + 1 =>
        let v := s.gwRule r
        if !v.en then s
        else if v.mismatches g then s.gwMismatch r
        else State.gwChain k v.nextRule g ((s.gwCount r 0).gwCopy r g)

/-- A frame reaches its first rule. -/
def State.gateway (s : State) (r : Nat) (g : GwFrame) : State := if s.gwOn then State.gwChain 8 r g s else s

/-- A CAN frame that a filter record hands to rule `r`. -/
def State.gwCan (s : State) (n r : Nat) (f : CanFrame) (ts : Nat) : State := s.gateway r ⟨f, 1, n, 0, ts⟩

/-- A PDU framed on serial port `p` by pattern `k`. -/
def State.gwSerial (s : State) (p k : Nat) (b : Bytes) (ts : Nat) : State :=
  match s.gwFind 2 p k with
  | some r => s.gateway r ⟨⟨3, p * 16 + k, false, false, false, false, false, 0, 0, 0, 0, b⟩, 2, p, k, ts⟩
  | none => s

end Sys2Proof.Machine
end

