-- ==== Sys2Proof/Machine/Can.lean ====
section
/-! DEFINITION. The CAN controllers' commands: enabling (R262, R275), frames received (R261, R265), attempts to send
(R272 to R274), error states (R275 to R279), and the opcodes of R282. -/
namespace Sys2Proof.Machine

/-! Enabling. -/

/-- Periods of 12.5 ns in a nominal and in a data bit, and in the part of a nominal bit before its sample point. -/
def State.nbtPeriods (s : State) (n : Nat) : Nat :=
  (s.get (F.CAN_NBT_BRP n) + 1) * (s.get (F.CAN_NBT_TSEG1 n) + s.get (F.CAN_NBT_TSEG2 n) + 3)
def State.dbtPeriods (s : State) (n : Nat) : Nat :=
  (s.get (F.CAN_DBT_BRP n) + 1) * (s.get (F.CAN_DBT_TSEG1 n) + s.get (F.CAN_DBT_TSEG2 n) + 3)
def State.sampleAt (s : State) (n : Nat) : Nat := (s.get (F.CAN_NBT_BRP n) + 1) * (s.get (F.CAN_NBT_TSEG1 n) + 2)

/-- An enable is refused (R262, R267). -/
def State.canCfgBad (s : State) (n : Nat) : Bool :=
  let least := if n < 8 then 16 else if s.on (F.CAN_CTL_FD_EN n) then 10 else 8
  let area := ((List.range 8).filter fun q => s.on (F.CAN_RXQ_CFG_EN n q)).map fun q => s.get (F.CAN_RXQ_CFG_SIZE n q)
  s.get (F.CAN_NBT_TSEG1 n) == 0 || decide (s.get (F.CAN_NBT_TSEG2 n) < s.get (F.CAN_NBT_SJW n)) ||
    decide (s.get (F.CAN_DBT_TSEG2 n) < s.get (F.CAN_DBT_SJW n)) || decide (s.nbtPeriods n < s.dbtPeriods n) ||
    decide (s.dbtPeriods n < least) || decide (64 < area.sum)

/-- The controller is enabled: it integrates on its bus with its error counts at 0. -/
def State.canOn (s : State) (n : Nat) : State :=
  if s.on (F.CAN_CTL_EN n) then s
  else if s.canCfgBad n then s.raise (F.CAN_EVT_CFG_BAD n)
  else
    let s := (s.put (F.CAN_CTL_EN n) 1).put (F.CAN_STAT_STATE n) 1
    s.setCtl n { s.ctl n with tec := 0, rec_ := 0, integrating := true, slept := false, recovering := false }

/-- The controller is disabled: the frame on the bus completes, every other ends NOT_RUNNING. -/
def State.canOff (s : State) (n : Nat) : State :=
  if !s.on (F.CAN_CTL_EN n) then s
  else
    let s := ((s.put (F.CAN_CTL_EN n) 0).put (F.CAN_STAT_STATE n) 0).flushTx n St.NOT_RUNNING true
    s.setCtl n { s.ctl n with last := (s.ctl n).cur.isSome, recovering := false, integrating := false, slept := false }

/-- A write of CAN_CTL but for EN: MODE changes only while EN is 0, and XL_EN is 0 on C0 to C7. BUSOFF_FLUSH set while in BUS_OFF
ends the queued frames (R276). -/
def State.canCtlFields (s : State) (n v : Nat) : State :=
  let s := if s.on (F.CAN_CTL_EN n) then s else s.put (F.CAN_CTL_MODE n) (bits v 30 29)
  let s := (s.put (F.CAN_CTL_FD_EN n) (bits v 28 28)).put (F.CAN_CTL_XL_EN n) (if n < 8 then 0 else bits v 27 27)
  let s := (s.put (F.CAN_CTL_TDC_EN n) (bits v 26 26)).put (F.CAN_CTL_AUTO_RECOVER n) (bits v 25 25)
  let s := (s.put (F.CAN_CTL_BUSOFF_FLUSH n) (bits v 24 24)).put (F.CAN_CTL_HOLD_ON_LONE n) (bits v 23 23)
  if s.canState n = 3 ∧ bitOf v 24 then s.flushTx n St.BUS_OFF false else s

/-- A write of CAN_CTL. One that sets EN again with fields that break R262 is refused whole (DEDUCED, log 98). -/
def State.canCtlWrite (s : State) (n v : Nat) : State :=
  let t := s.canCtlFields n v
  if !bitOf v 31 then t.canOff n
  else if s.on (F.CAN_CTL_EN n) && t.canCfgBad n then s.raise (F.CAN_EVT_CFG_BAD n)
  else t.canOn n

/-- CAN_ENABLE and CAN_DISABLE: a write of CAN_CTL of controller `n`. -/
def execCanEnable (n val : Nat) (s : State) : Res := .next (if n < 12 then s.canCtlWrite n (setBit val 31) else s)
def execCanDisable (n val : Nat) (s : State) : Res := .next (if n < 12 then s.canCtlWrite n (clearBit val 31) else s)

/-! Receiving. -/

/-- Controller `n` may not receive this format (R261). -/
def State.canBarred (s : State) (n fmt : Nat) : Bool :=
  (fmt == 2 && (decide (n < 8) || !s.on (F.CAN_CTL_XL_EN n))) || (fmt == 1 && !s.on (F.CAN_CTL_FD_EN n))

/-- The protocol exception event (R261). -/
def State.canPexc (s : State) (n : Nat) : State :=
  ((s.count (C.CAN_PEXC n)).raise (F.CAN_EVT_PEXC n)).setCtl n { s.ctl n with integrating := true }

/-- A frame is classified and delivered (R265). -/
def State.canDeliver (s : State) (n : Nat) (f : CanFrame) (ts : Nat) : State :=
  let l := (s.ctl n).filt
  match l.classify f with
  | none =>
    let s := s.count (C.CAN_RX_NOMATCH n)
    if l.queueRest then s.storeRx n l.restQ (canRecord f ts (3 * 2 ^ 14)) else s
  | some (k, i, r) =>
    let a := u8 r 11
    if a = 3 then s.count (C.CAN_RX_REJECT n)
    else
      let s := if a ≤ 1 then s.storeRx n (u8 r 10 % 8) (canRecord f ts (k * 2 ^ 14 + i)) else s
      if (a = 1 ∨ a = 2) ∧ u16 r 8 ≠ 0xFFFF then s.gwCan n (u16 r 8) f ts else s

/-- A timestamp of controller `n`: RX_LAT is taken off on C8 to C11 (R268). -/
def State.canTs (s : State) (n t : Nat) : Nat :=
  if n < 8 then t % 2 ^ 32 else ofInt 32 ((t : Int) - s.get (F.CAN_RX_LAT_LAT n))

/-- REC after a frame received without error (R275). -/
def recGood (r : Nat) : Nat := if 127 < r then 119 else r - 1

/-- The mirrored transmit queue of controller `n`, queue `q`, in a standby (R480). -/
def noMirror (_ : Nat) : List Bytes := []
def State.mirTxq (s : State) (n q : Nat) : List Bytes := storeGet noMirror s.pai.txq (n * 4 + q)
def State.setMirTxq (s : State) (n q : Nat) (l : List Bytes) : State :=
  s.onPai fun p => { p with txq := storeSet noMirror p.txq (n * 4 + q) l }

/-- The record of a queued frame and a received frame agree in identifier, format and data (R481). -/
def sameFrame (r : Bytes) (f : CanFrame) : Bool :=
  let g := canRecord f 0 0
  slice r 4 7 == slice g 4 7 && bitOf (u8 r 11) 0 == f.xtd && r.drop 24 == g.drop 24

/-- A head of a mirrored transmit queue that the bus has carried is removed as sent (R481). -/
def State.mirSeen (s : State) (n : Nat) (f : CanFrame) : State :=
  if !s.standby then s
  else
    match (List.range 4).find? fun q => match s.mirTxq n q with | r :: _ => sameFrame r f | [] => false with
    | some q => s.setMirTxq n q ((s.mirTxq n q).drop 1)
    | none => s

/-- A frame is received without error. -/
def State.canRx (s : State) (n : Nat) (f : CanFrame) (sof : Nat) : State :=
  let s := s.mirSeen n f
  let s := (s.count (C.CAN_RX_OK n)).endHold n
  let s := if s.listens n then s else s.errCounts n (s.ctl n).tec (recGood (s.ctl n).rec_)
  let s := if n < 8 then s.wakeMeets n else s
  s.canDeliver n f (s.canTs n sof)

/-- CAN_FRAME_RECEIVED on the bus of controller `n`; its start-of-frame edge lies `ago` ns back, and its timestamp is TIM_NOW at
the tick nearest the edge (R268). In loopback the controller does not see its bus. -/
def execCanFrameReceived (n : Nat) (f : CanFrame) (ago : Nat) (s : State) : Res :=
  .next (if !s.onBus n || s.get (F.CAN_CTL_MODE n) == 2 then s
    else if s.canBarred n f.fmt then s.canPexc n
    else s.canRx n f (s.timAt (s.now - ago)))

/-- CAN_PROTOCOL_EXCEPTION: controller `n` meets a frame of a format that it may not receive. -/
def execCanProtocolException (n fmt : Nat) (s : State) : Res :=
  .next (if s.onBus n && s.canBarred n fmt then s.canPexc n else s)

/-! Sending. -/

/-- CAN_TX_START: a start opportunity of controller `n` (R272); none is taken while a SWITCH is under way (R489). -/
def execCanTxStart (n : Nat) (s : State) : Res :=
  .next (let c := s.ctl n
    if !s.onBus n || s.listens n || s.pai.sw.isSome || s.canHeld n || c.cur.isSome then s
    else
      match c.best with
      | none => s
      | some q => s.setCtl n { c with cur := some q, curAt := s.now, curTs := s.canTs n s.timNow })

/-- The frame on the bus of controller `n`, with its queue. -/
def State.onWire (s : State) (n : Nat) : Option (Nat × CanTx) :=
  match (s.ctl n).cur with
  | some q => ((s.ctl n).txQ q).head?.map fun x => (q, x)
  | none => none

/-- A cancel is ordered against the frame's TX_SEND. -/
def State.txCancelled (s : State) (x : CanTx) : Bool :=
  match x.send with
  | some (r, i) => match s.descAt r i with | some d => d.cancelled | none => false
  | none => false

/-- The head of queue `q` is replaced. -/
def State.setHead (s : State) (n q : Nat) (x : CanTx) : State :=
  let c := s.ctl n
  s.setCtl n (c.setTxQ q (x :: (c.txQ q).drop 1))

/-- The head of queue `q` is abandoned (R273). -/
def State.txAbandon (s : State) (n q ts : Nat) (arb : Bool) : State :=
  ((s.count (C.CAN_TX_ABANDON n)).raise (F.CAN_EVT_TX_ABANDON n)).popTx n q St.RETRY_EXHAUSTED ts arb

/-- CAN_ARB_LOST: the frame on the bus loses arbitration (R273). A cancel of it was then ordered before its point of no return
(R274). -/
def execCanArbLost (n : Nat) (s : State) : Res :=
  .next (match s.onWire n with
    | none => s
    | some (q, x) =>
      let c := s.ctl n
      let s := (s.count (C.CAN_ARB_LOST n)).idleTx n
      let x := { x with losses := x.losses + 1 }
      let s := s.setHead n q x
      let lim := s.get (F.CAN_LIMITS_ARB_LIMIT n)
      if s.txCancelled x then s.popTx n q St.CANCELLED c.curTs false
      else if c.last then s.popTx n q St.NOT_RUNNING c.curTs false
      else if lim ≠ 0 ∧ lim ≤ x.losses then s.txAbandon n q c.curTs true
      else s)

/-- The loop delay that the controller has measured in an FD or XL frame is free (R263). -/
def State.measureLoop (s : State) (n : Nat) (x : CanTx) : State :=
  if x.f.fmt ≠ 0 ∧ s.on (F.CAN_CTL_TDC_EN n) then (s.put (F.CAN_TDC_TDCV n) (s.free 221)).drawn else s

/-- A frame is sent: TEC falls, and the run of ACK errors ends (R275, R278). It is delivered to no queue of its own
controller, in loopback neither (R265). -/
def State.canSent (s : State) (n q : Nat) (x : CanTx) : State :=
  let c := s.ctl n
  let s := (s.count (C.CAN_TX_OK n)).put (F.CAN_STAT_ACK_RUN n) 0
  let s := s.measureLoop n x
  let s := (s.idleTx n).popTx n q St.OK c.curTs false
  if c.last then s else s.errCounts n (c.tec - 1) c.rec_

/-- CAN_TX_DONE: the frame on the bus has been sent without error. A released transmitter sends none (R519). -/
def execCanTxDone (n : Nat) (s : State) : Res :=
  .next (match s.onWire n with
    | none => s
    | some (q, x) => if (s.ctl n).released then s else s.canSent n q x)

/-- TEC after an error while sending (R275). -/
def tecAfter (tec : Nat) (passive : Bool) (e : CanErr) : Nat :=
  (if (e.kind == 3 && passive && !e.dominant) || e.arbStuff then tec else tec + 8) + (if e.inFlag then 8 else 0) + 8 * e.runs

/-- The error is shown in CAN_STAT, and counts toward the run of ACK errors (R278). -/
def State.showErr (s : State) (n : Nat) (e : CanErr) : State :=
  let s := (s.put (F.CAN_STAT_LEC n) e.kind).put (F.CAN_STAT_LEC_DATA n) (b2n e.dataPhase)
  s.put (F.CAN_STAT_ACK_RUN n) (if e.kind = 3 then min 32 (s.get (F.CAN_STAT_ACK_RUN n) + 1) else 0)

/-- The run of ACK errors reaches 32 (R278). -/
def State.aloneNow (s : State) (n before : Nat) : Bool :=
  decide (before < 32) && decide (32 ≤ s.get (F.CAN_STAT_ACK_RUN n))

/-- The error came after arbitration, once the loop delay had been measured. A delay above 127 periods is itself such an error: a
bit error in the data phase (R263). -/
def afterArb (e : CanErr) : Bool := e.dataPhase || e.kind == 3 || e.kind == 6

/-- An attempt of queue `q` has ended in an error: a frame whose cancel was ordered ends; then bus-off, LONE and
ERR_LIMIT are looked at in turn. -/
def State.canFailed (s : State) (n q : Nat) (x : CanTx) (e : CanErr) : State :=
  let c := s.ctl n
  let run := s.get (F.CAN_STAT_ACK_RUN n)
  let x := { x with errors := x.errors + 1 }
  let s := if afterArb e then s.measureLoop n x else s
  let s := (((s.count (C.CAN_TX_ERR n)).idleTx n).setHead n q x).showErr n e
  let gone := s.txCancelled x
  let s := if gone then s.popTx n q St.CANCELLED c.curTs false else s
  let s := s.errCounts n (tecAfter c.tec (s.canState n == 2) e) c.rec_
  let alone := s.aloneNow n run
  let s := if alone then (s.put (F.CAN_STAT_LONE n) 1).raise (F.CAN_EVT_LONE n) else s
  let lim := s.get (F.CAN_LIMITS_ERR_LIMIT n)
  if gone || s.canState n == 3 then s
  else if alone && s.on (F.CAN_CTL_HOLD_ON_LONE n) then s.setHead n q { x with errors := 0 }
  else if lim ≠ 0 ∧ lim ≤ x.errors then s.txAbandon n q c.curTs false
  else s

/-- CAN_TX_ERROR: the attempt on the bus of controller `n` ends in an error. -/
def execCanTxError (n : Nat) (e : CanErr) (s : State) : Res :=
  .next (match s.onWire n with
    | none => s
    | some (q, x) =>
      if (s.ctl n).last then
        let ts := (s.ctl n).curTs
        let st := if s.txCancelled x then St.CANCELLED else St.NOT_RUNNING
        let s := if afterArb e then s.measureLoop n x else s
        ((s.count (C.CAN_TX_ERR n)).idleTx n).popTx n q st ts false
      else s.canFailed n q x e)

/-- REC after an error while receiving (R275). -/
def recAfter (r : Nat) (e : CanErr) : Nat :=
  min 255 (r + 1 + (if e.dominant then 8 else 0) + (if e.inFlag then 8 else 0) + 8 * e.runs)

/-- CAN_RX_ERROR: controller `n` detects an error while receiving; one that listens keeps its counts (R277). -/
def execCanRxError (n : Nat) (e : CanErr) (s : State) : Res :=
  .next (if !s.onBus n || s.get (F.CAN_CTL_MODE n) == 2 then s
    else
      let s := (s.count (C.CAN_RX_ERR n)).showErr n { e with kind := if e.kind = 3 then 2 else e.kind }
      if s.listens n then s else s.errCounts n (s.ctl n).tec (recAfter (s.ctl n).rec_ e))

/-! Bus-off, holds and transceivers. -/

/-- CAN_BUSOFF_RECOVERED: 128 occurrences of eleven recessive bits, once recovery has started. -/
def execCanBusoffRecovered (n : Nat) (s : State) : Res :=
  .next (let c := s.ctl n
    if s.canState n = 3 ∧ c.recovering then
      ((s.setCtl n { c with tec := 0, rec_ := 0, recovering := false }).put (F.CAN_STAT_STATE n) 1).raise (F.CAN_EVT_RECOVERED n)
    else s)

/-- A write of CAN_TXCTL (R276, R278, R279). -/
def State.txctlWrite (s : State) (n v : Nat) : State :=
  let s := if bitOf v 0 && s.canState n == 3 then s.setCtl n { s.ctl n with recovering := true } else s
  if bitOf v 1 && (s.on (F.CAN_STAT_LONE n) || s.on (F.CAN_STAT_SWAPPED n)) then s.endHold n else s

/-- CAN_RECOVER and CAN_RELEASE: a write of CAN_TXCTL with the bit set. -/
def execCanRecover (n val : Nat) (s : State) : Res := .next (if n < 12 then s.txctlWrite n (setBit val 0) else s)
def execCanRelease (n val : Nat) (s : State) : Res := .next (if n < 12 then s.txctlWrite n (setBit val 1) else s)

/-- CAN_SWAP_DETECT: 16 inverted bit periods without a frame received, while the controller does not send (R279). -/
def execCanSwapDetect (n : Nat) (s : State) : Res :=
  .next (if n < 8 ∧ s.onBus n ∧ (s.ctl n).cur.isNone ∧ !s.on (F.CAN_STAT_SWAPPED n) then
      ((s.put (F.CAN_STAT_SWAPPED n) 1).raise (F.CAN_EVT_SWAP n)).count (C.CAN_SWAP n)
    else s)

/-- CAN_DOMINANT_TIMEOUT: the transmitter of controller `n` is released to recessive, which ends in a bit error
(R519). -/
def execCanDominantTimeout (n : Nat) (s : State) : Res :=
  .next (let c := s.ctl n
    if n < 8 ∧ c.cur.isSome then s.setCtl n { c with released := true } else s)

/-- CAN_BUS_INTEGRATED: controller `n` has seen eleven recessive bits; its held queues are released (R311). -/
def execCanBusIntegrated (n : Nat) (s : State) : Res :=
  .next (let c := s.ctl n
    if n < 12 ∧ s.canState n ≠ 0 ∧ s.trcv n < 2 ∧ c.integrating then
      s.setCtl n { c with integrating := false, slept := false }
    else s)

/-! Opcodes (R282). -/

/-- The frame of a TX_SEND. -/
def txFrame (d : Desc) : CanFrame :=
  let fl := u8 d.raw 23
  let fmt := u8 d.raw 22
  ⟨fmt, u32 d.raw 24, bitOf fl 0, bitOf fl 1, bitOf fl 2, false, bitOf fl 3,
    if bitOf fl 1 then u8 d.raw 28 else dlcOf fmt d.len, u8 d.raw 29, u8 d.raw 30, u32 d.raw 32, d.buf⟩

/-- A TX_SEND's frame is refused with BADARG. -/
def State.txBad (s : State) (d : Desc) : Bool :=
  let f := txFrame d
  let n := u8 d.raw 20
  decide (2 < f.fmt) || decide (16 ≤ u8 d.raw 23) || decide ((if f.xtd then 0x1FFFFFFF else 0x7FF) < f.id) ||
    (!f.remote && u8 d.raw 28 != 0) || decide (8 < u8 d.raw 28) || (f.fmt != 2 && (f.sec || !allZero d.raw 29 36)) ||
    (match f.fmt with
     | 0 => f.brs || (if f.remote then d.len != 0 else decide (8 < d.len))
     | 1 => f.remote || !fdLens.contains d.len || !s.on (F.CAN_CTL_FD_EN n)
     | _ => f.xtd || f.remote || f.brs || d.len == 0 || decide (2048 < d.len) || decide (n < 8) || !s.on (F.CAN_CTL_XL_EN n))

/-- TX_SEND. One that finds its queue full stays undone, and holds its round (R271). -/
def State.txSend (s : State) (d : Desc) : State :=
  let n := u8 d.raw 20
  let q := u8 d.raw 21
  if 11 < n ∨ 3 < q then s.finish d St.BADARG 0
  else if !s.bit (F.CAN_TX_MASK_MASK n) (s.dPid d) then s.finish d St.NOTPERMIT 0
  else if s.txBad d then s.finish d St.BADARG 0
  else if s.canState n = 0 ∨ s.listens n then s.finish d St.NOT_RUNNING 0
  else if s.canState n = 3 ∧ s.on (F.CAN_CTL_BUSOFF_FLUSH n) then s.finish d St.BUS_OFF 0
  else if s.txFull n q then s
  else (s.placeTx n q ⟨txFrame d, 0, 0, some (d.round, d.slot)⟩).hold d

/-- The records at the head of a queue that fit whole in `n` bytes. -/
def takeFit : Nat → List Bytes → List Bytes
  | _, [] => []
  | n, r :: l => if r.length ≤ n then r :: takeFit (n - r.length) l else []

/-- RX_READ (R270). -/
def State.rxRead (s : State) (d : Desc) : State :=
  let n := u8 d.raw 20
  let q := u8 d.raw 21
  if 11 < n ∨ 7 < q then s.finish d St.BADARG 0
  else if !s.bit (F.CAN_RX_MASK_MASK n) (s.dPid d) then s.finish d St.NOTPERMIT 0
  else
    let l := (s.ctl n).rxQ q
    let t := takeFit d.len l
    let b := t.flatten
    let w := if b.isEmpty then (s, St.OK) else s.fabWrite (.round d.round) d.addr b
    if w.2 ≠ St.OK then w.1.refuseWrite d w.2 0
    else
      let left := l.drop t.length
      let s := w.1.setCtl n { w.1.ctl n with rxq := setAt (w.1.ctl n).rxq q left }
      s.finish d St.OK (b.length + 2 ^ 32 * t.length + 2 ^ 48 * left.length)

/-- A filter record of list `k` is refused (R282). -/
def filterBad (n k : Nat) (r : Bytes) : Bool :=
  let a := u32 r 0
  let b := u32 r 4
  let x := bitOf (u8 r 13) 1
  let idBad := fun (v : Nat) => decide ((if x then 0x1FFFFFFF else 0x7FF) < v)
  idBad a || (decide (k < 2) && idBad b) || (k == 0 && decide (b < a)) ||
    (decide (2047 < u16 r 8) && u16 r 8 != 0xFFFF) || decide (8 ≤ u8 r 10) || decide (4 ≤ u8 r 11) ||
    decide (16 ≤ u8 r 12) || decide (4 ≤ u8 r 13) || decide (2 ≤ u8 r 15) || (decide (n < 8) && bitOf (u8 r 12) 2)

/-- The first refused record of a list, with its index. -/
def firstFilterBad (n k : Nat) : Nat → List Bytes → Option Nat
  | _, [] => none
  | i, r :: l => if filterBad n k r then some i else firstFilterBad n k (i + 1) l

/-- FILTER_LOAD (R266). -/
def State.filterLoad (s : State) (d : Desc) : State :=
  let n := u8 d.raw 20
  let a := u16 d.raw 22
  let b := u16 d.raw 24
  let c := u16 d.raw 26
  if 11 < n then s.finish d St.BADARG 0
  else if !s.bit (F.CAN_RX_MASK_MASK n) (s.dPid d) then s.finish d St.NOTPERMIT 0
  else if 256 < a ∨ 256 < b ∨ 128 < c ∨ 1 < u8 d.raw 28 ∨ 7 < u8 d.raw 29 ∨ d.len ≠ 16 * (a + b + c) then s.finish d St.BADARG 0
  else
    let rs := rec16 a d.buf
    let ds := rec16 b (d.buf.drop (16 * a))
    let ms := rec16 c (d.buf.drop (16 * (a + b)))
    match firstFilterBad n 0 0 rs, firstFilterBad n 1 0 ds, firstFilterBad n 2 0 ms with
    | some i, _, _ => s.finish d St.FILTER_BAD i
    | none, some i, _ => s.finish d St.FILTER_BAD (i + 2 ^ 16)
    | none, none, some i => s.finish d St.FILTER_BAD (i + 2 ^ 17)
    | none, none, none =>
      (s.setCtl n { s.ctl n with filt := ⟨rs, ds, ms, u8 d.raw 28 == 1, u8 d.raw 29⟩ }).finish d St.OK 0

def execTxSend (r : Nat) (s : State) : Res := .next (s.withOp r 0x09 1 fun d => s.txSend d)
def execRxRead (r : Nat) (s : State) : Res := .next (s.withOp r 0x09 2 fun d => s.rxRead d)
def execFilterLoad (r : Nat) (s : State) : Res := .next (s.withOp r 0x09 3 fun d => s.filterLoad d)

/-! Cancelling a TX_SEND (R274). -/

/-- Bits with their stuff bits: `run` of the last `n` bits were equal to `last`. -/
def stuffed (last : Bool) (run : Nat) : List Bool → Nat
  | [] => 0
  | b :: r =>
    let k := if b = last then run + 1 else 1
    if k = 5 then 2 + stuffed (!b) 1 r else 1 + stuffed b k r

/-- The point of no return of the frame on the bus has been passed: the sample point of the last arbitration bit. Within
one bit of its place, where resynchronisation decides, this is a free value. -/
def State.pastArb (s : State) (n : Nat) (f : CanFrame) : Bool :=
  let bit := s.nbtPeriods n
  let at_ := (1 + stuffed false 1 (arbBits f).dropLast) * bit + s.sampleAt n
  let t := (s.now - (s.ctl n).curAt) * 2 / 25
  if t + bit < at_ then false else if at_ + bit < t then true else s.free 220 % 2 == 1

/-- A cancel reaches a TX_SEND that is still under way: it removes the frame before its point of no return. -/
def State.txCancel (s : State) (d : Desc) : State :=
  let n := u8 d.raw 20
  let q := u8 d.raw 21
  let mine := fun (x : CanTx) => x.send == some (d.round, d.slot)
  let c := s.ctl n
  let l := c.txQ q
  if !d.running then s.finish d St.CANCELLED 0
  else
    let wire := c.cur == some q && (match l.head? with | some x => mine x | none => false)
    if wire && s.pastArb n (txFrame d) then s
    else
      let s := if wire then s.idleTx n else s
      match l.find? mine with
      | some x => (s.setCtl n ((s.ctl n).setTxQ q (dropFirst mine l))).endTx x St.CANCELLED 0 false
      | none => s

end Sys2Proof.Machine
end

