-- ==== Sys2Proof/Machine/Cores.lean ====
section
/-! DEFINITION. The commands of COR, MBX, QUE and SEM (R390 to R416). -/
namespace Sys2Proof.Machine

/-! Windows (R394, R395). -/

/-- Core `k` enters window `i` of its table at crystal time `t`, or idles past its end. -/
def State.enterWindow (k i t : Nat) (s : State) : State :=
  let s := match (s.tblOf k)[i]? with
    | some e => s.onCor fun c => { c with
        win := storeSet cntDefault c.win k (i + 1), winEnd := storeSet cntDefault c.winEnd k (t + 1000 * e.1) }
    | none => s.onCor fun c => { c with win := storeSet cntDefault c.win k 0, winEnd := storeSet cntDefault c.winEnd k 0 }
  s.emit (.windowNmi k)

/-- The core runs a schedule and is not held in reset. -/
def State.scheduled (s : State) (k : Nat) : Bool :=
  decide (k < 8) && s.actingCore k == k && s.on (F.COR_A_CTL_SCHED_EN k) && !bitOf s.cor.held k

/-- WINDOW_BOUNDARY: the window in force of core `k` ends, and the next begins at that moment. -/
def execWindowBoundary (k : Nat) (s : State) : Res :=
  .next (if s.scheduled k && s.winOf k != 0 && decide (storeGet cntDefault s.cor.winEnd k ≤ s.now) then
      s.coreChange (State.enterWindow k (s.winOf k) (storeGet cntDefault s.cor.winEnd k))
    else s)

/-- A pending table becomes operational. -/
def State.adoptTable (k : Nat) (s : State) : State :=
  if s.on (F.COR_A_STAT_PENDING k) then
    (s.put (F.COR_A_STAT_PENDING k) 0).onCor fun c => { c with
      tbl := storeSet noTbl c.tbl k (storeGet noTbl c.pendTbl k), pendTbl := storeSet noTbl c.pendTbl k [] }
  else s

/-- A pending table becomes operational, and the table starts from entry 0. -/
def State.startTable (k : Nat) (s : State) : State := (s.adoptTable k).enterWindow k 0 s.now

/-- SCHEDULE_TRIGGER: core `k` answers a firing of its trigger; a window in force is cut. A core that runs no schedule
takes a pending table only. -/
def execScheduleTrigger (k : Nat) (s : State) : Res :=
  .next (let f := s.fires (s.get (F.COR_A_CTL_TRG k))
    if s.scheduled k && f != storeGet cntDefault s.cor.seen k then
      let s := s.onCor fun c => { c with seen := storeSet cntDefault c.seen k f }
      let cut := s.winOf k != 0
      let s := s.coreChange (State.startTable k)
      if cut then s.raise F.COR_EVT_SCHED_CUT else s
    else if decide (k < 8) && s.actingCore k == k && f != storeGet cntDefault s.cor.seen k then
      (s.onCor fun c => { c with seen := storeSet cntDefault c.seen k f }).adoptTable k
    else s)

/-- PARTITION_KICK: a write to COR_Pp_KICK. -/
def State.partKick (s : State) (pid p : Nat) : State := if pid = p ∧ isPart p then (s.wdSync).wdLoad p else s

def execPartitionKick (pid p : Nat) (s : State) : Res := .next (s.partKick pid p)

/-- PARTITION_WD_EXPIRY: the watchdog of partition `p` runs out. -/
def execPartitionWdExpiry (p : Nat) (s : State) : Res :=
  .next (let t := s.wdSync
    if t.partOn p && t.get (F.COR_P_CTL_WD_MS p) != 0 && t.canRun p && t.wdLeft p == 0 then
      ((t.count (C.COR_WD p)).raise F.COR_EVT_WD).restartPart p
    else s)

/-- LOCKSTEP_MISMATCH: the outputs of a lockstep pair differ (R390). -/
def execLockstepMismatch (pair : Nat) (s : State) : Res :=
  .next (let p := s.get (F.COR_A_STAT_PID (2 * pair))
    if decide (pair < 4) && s.bit F.COR_LS_ACTIVE pair then
      let s := (s.count C.COR_LOCKSTEP).raise F.COR_EVT_LOCKSTEP
      if isPart p && s.get (F.COR_A_STAT_STATE (2 * pair)) != 3 then s.restartPart p else s
    else s)

/-- The entries of a schedule. -/
def schedEntries : Nat → Bytes → List (Nat × Nat)
  | 0, _ => []
  | n + 1, b => (u32 b 0, u8 b 4) :: schedEntries n (b.drop 8)

/-- The entries are well formed. -/
def schedOk : Nat → Bytes → Bool
  | 0, _ => true
  | n + 1, b =>
    decide (10 ≤ u32 b 0) && decide (u32 b 0 ≤ 1000000) && (isPart (u8 b 4) || u8 b 4 == 0xFF) && allZero b 5 8 &&
      schedOk n (b.drop 8)

/-- SCHED_LOAD. -/
def State.schedLoad (s : State) (d : Desc) : State :=
  let k := u8 d.raw 20
  let n := u16 d.raw 22
  if s.dPid d != 0 && s.dPid d != 2 then s.finish d St.NOTPERMIT 0
  else if decide (8 ≤ k) || s.actingCore k != k || n == 0 || decide (32 < n) || decide (d.len < 8 * n) ||
      !schedOk n d.buf then s.finish d St.BADARG 0
  else
    let s := (s.put (F.COR_A_STAT_PENDING k) 1).onCor fun c => { c with
      pendTbl := storeSet noTbl c.pendTbl k (schedEntries n d.buf) }
    s.finish d St.OK s.timNow

def execSchedLoad (r : Nat) (s : State) : Res := .next (s.withOp r 0x0F 1 fun d => s.schedLoad d)

/-- PART_RESTART. -/
def State.partRestart (s : State) (d : Desc) : State :=
  let p := u8 d.raw 20
  if s.dPid d != 0 && s.dPid d != 2 then s.finish d St.NOTPERMIT 0
  else if !d.noBuf || !isPart p then s.finish d St.BADARG 0
  else
    let s := s.restartPart p
    s.finish d St.OK s.timNow

def execPartRestart (r : Nat) (s : State) : Res := .next (s.withOp r 0x0F 2 fun d => s.partRestart d)

/-! Mailboxes. -/

/-- A mailbox's sides may be the partitions that a write of MBX_n_CFG names (R400). -/
def State.mbCfgOk (s : State) (n v : Nat) : Bool :=
  let tx := bits v 4 0
  let rx := bits v 12 8
  let p := bits v 20 16
  let side := fun (q : Nat) =>
    decide (q ≤ 18) && (if n < 16 then q != 1 else q == 0 || q == 1 || (s.partOn q && s.on (F.COR_P_CTL_SECURE q)))
  tx != rx && side tx && side rx && (!bitOf v 25 || (s.mbSender p == rx && s.mbReceiver p == tx))

/-- A write to MBX_n_CFG, by partition 0 only; one that sets EN may be refused. -/
def State.mbCfg (s : State) (pid n v : Nat) : State :=
  if pid != 0 then s
  else if bitOf v 31 && !s.mbCfgOk n v then s.raise F.MBX_EVT_CFG_BAD
  else s.regApply (R.MBX_CFG n) v

def execMbxEnable (pid n val : Nat) (s : State) : Res := .next (if n < 32 then s.mbCfg pid n val else s)

/-- A write to word `w` of a slot (R403). -/
def State.mbSlot (s : State) (pid n w v : Nat) : State :=
  if !s.mbMaySend pid n then s.mbDeny
  else
    let s := s.put (F.MBX_SLOT_DATA n w) v
    if s.mbFull n then
      let s := (s.put (F.MBX_STAT_SEQ n) (s.get (F.MBX_STAT_SEQ n) + 1)).put (F.MBX_STAT_COLLISION n) 1
      (s.count (C.MBX_COLL n)).raise F.MBX_EVT_COLLISION
    else s

def execMbxSlotWrite (pid n w val : Nat) (s : State) : Res :=
  .next (if n < 32 ∧ w < 16 then s.mbSlot pid n w val else s)

/-- The receiver of a mailbox is disabled or halted in DOZE; a restart ends within its step. -/
def State.mbDown (s : State) (n : Nat) : Bool :=
  let p := s.mbReceiver n
  decide (3 ≤ p) && (!s.partOn p || s.cor.doze)

/-- A full mailbox times out (R404). -/
def State.mbTimeout (s : State) (n : Nat) : State :=
  let s := (s.put (F.MBX_STAT_TIMEOUT n) 1).onCor fun c => { c with mbxDue := storeSet cntDefault c.mbxDue n 0 }
  ((s.mbSignalTx n).count (C.MBX_TMO n)).raise F.MBX_EVT_TIMEOUT

/-- A mailbox and a peer of it are both full (R406). -/
def State.mbCross (n m : Nat) (s : State) : State :=
  if !s.mbFull m || s.on (F.MBX_STAT_CROSSED n) then s
  else
    let s := ((s.put (F.MBX_STAT_CROSSED n) 1).put (F.MBX_STAT_CROSSED m) 1).raise F.MBX_EVT_CROSSED
    (s.mbSignalRx n).mbSignalRx m

/-- A doorbell (R402, R403). -/
def State.mbRing (s : State) (n : Nat) : State :=
  let full := s.mbFull n
  let s := if full then s
    else ((s.put (F.MBX_STAT_FULL n) 1).put (F.MBX_STAT_TAKEN n) 0).put (F.MBX_STAT_SEQ n) (s.get (F.MBX_STAT_SEQ n) + 1)
  let s := s.onCor fun c => { c with mbxDue := storeSet cntDefault c.mbxDue n (s.now + 1000 * s.get (F.MBX_TMO_US n)) }
  let s := s.mbSignalRx n
  let s := if s.mbDown n then (s.put (F.MBX_STAT_DOWN n) 1).mbTimeout n else s
  if full then s else forEach (s.mbPeers n) (State.mbCross n) s

def State.mbBell (s : State) (pid n v : Nat) : State :=
  if !s.mbMaySend pid n then s.mbDeny else if bitOf v 0 then s.mbRing n else s

def execMbxDoorbell (pid n val : Nat) (s : State) : Res := .next (if n < 32 then s.mbBell pid n val else s)

/-- A take (R402). -/
def State.mbTake (s : State) (n val : Nat) : State :=
  if bitOf val 31 && s.mbFull n && bits val 7 0 == s.get (F.MBX_STAT_SEQ n) then
    ((s.mbEmpty n).put (F.MBX_STAT_TAKEN n) 1).mbSignalTx n
  else s

def State.mbTakeBy (s : State) (pid n v : Nat) : State := if s.mbMayTake pid n then s.mbTake n v else s.mbDeny

def execMbxTake (pid n val : Nat) (s : State) : Res := .next (if n < 32 then s.mbTakeBy pid n val else s)

/-- MBX_TIMEOUT: a mailbox is still full TMO µs after its last doorbell. -/
def execMbxTimeout (n : Nat) (s : State) : Res :=
  .next (let t := storeGet cntDefault s.cor.mbxDue n
    if decide (n < 32) && s.mbFull n && t != 0 && decide (t ≤ s.now) then s.mbTimeout n else s)

/-- MBX_ACCESS_DENY: an access to mailbox `n`; one that is permitted acts by its own command. -/
def execMbxAccessDeny (pid n : Nat) (write : Bool) (s : State) : Res :=
  .next (if 32 ≤ n || (if write then s.mbMaySend pid n || s.mbMayTake pid n else s.mbMayRead pid n) then s else s.mbDeny)

/-! Hardware queues. -/

/-- The fields of QUE_Qn_CFG other than EN; a DEPTH outside its range is not taken (DESIGN CHOICE, log 44). -/
def State.qFields (s : State) (n v : Nat) : State :=
  let d := bits v 10 0
  let s := s.put (F.QUE_Q_CFG_LEVEL n) (bits v 30 20)
  if !s.on (F.QUE_Q_CFG_EN n) && decide (16 ≤ d) && decide (d ≤ 1024) then s.put (F.QUE_Q_CFG_DEPTH n) d else s

/-- QUEUE_ENABLE: a write of QUE_Qn_CFG with EN 1. -/
def State.queueOn (s : State) (pid n v : Nat) : State :=
  let s := s.qFields n v
  if pid = 0 ∧ !s.on (F.QUE_Q_CFG_EN n) then ((s.put (F.QUE_Q_CFG_EN n) 1).setItems n []).setQLast n 0 else s

/-- QUEUE_DISABLE: a write with EN 0. -/
def State.queueOff (s : State) (pid n v : Nat) : State :=
  if pid = 0 ∧ s.on (F.QUE_Q_CFG_EN n) then
    ((s.qFields n v).put (F.QUE_Q_CFG_EN n) 0).dropPushes fun h => h.q == n
  else s.qFields n v

def execQueueEnable (pid n val : Nat) (s : State) : Res := .next (if n < 64 then s.queueOn pid n val else s)
def execQueueDisable (pid n val : Nat) (s : State) : Res := .next (if n < 64 then s.queueOff pid n val else s)

/-- A source that reaches the queue windows: any on-chip master (R407). -/
def onChip : Source → Bool
  | .host => false
  | .bar0 => false
  | _ => true

/-- A source that issues accesses: a core that runs a partition (R41), any other. -/
def State.issues (s : State) : Source → Bool
  | .core k => s.coreRuns k
  | .pair pid => decide (pid < 19)
  | _ => true

/-- An access to a queue window at `off`, checked by guard 21; `k` performs it. A master with 64 writes unacknowledged
issues no further one (R33). -/
def State.queueAccess (s : State) (src : Source) (n off : Nat) (write : Bool) (k : State → State) : State :=
  let a := 0x120000000 + 0x1000 * n + off
  if 64 ≤ n || !onChip src || !s.issues src || (write && decide (64 ≤ s.unacked src)) then s
  else
    match s.denied (s.pidOf src) write a 8 with
    | some _ => (s.deny src (s.pidOf src) 21 write a).emit (.answer src St.NOTPERMIT (zeros (if write then 0 else 8)))
    | none => k s

def execQueuePush (src : Source) (n item : Nat) (s : State) : Res :=
  .next (s.queueAccess src n 0 true fun t => t.qPush src n item)

/-- A 64-bit read at `off` of queue `n`'s window: it waits under a tag while a push of its own master is held (R37), and is
answered at once otherwise. -/
def State.queueGet (s : State) (src : Source) (n off : Nat) : State :=
  let pid := s.pidOf src
  if s.pushHeld src then
    let a : Access := ⟨src, 0x120000000 + 0x1000 * n + off, 8, false, [], none, []⟩
    match (masterOf src).bind s.tagNow with
    | some t => s.useTag t pid a false
    | none => s.waitTag a pid
  else let r := s.queueAnswer n off pid; r.1.emit (.answer src r.2.1 r.2.2)

def execQueuePop (src : Source) (n : Nat) (s : State) : Res :=
  .next (s.queueAccess src n 8 false fun t => t.queueGet src n 8)

def execQueuePeek (src : Source) (n : Nat) (s : State) : Res :=
  .next (s.queueAccess src n 0x10 false fun t => t.queueGet src n 0x10)

/-- The place among all held pushes of the one that is `i`-th at queue `n`. -/
def State.heldPlace (s : State) (n i : Nat) : Option Nat :=
  ((s.que.held.zipIdx.filter fun x => x.1.q == n).map (·.2))[i]?

/-- A held push `e` that stands before push `h` keeps it from completing: one of the same queue that was passed over once, or
one of the same master (R36). -/
def HeldPush.blocks (e h : HeldPush) : Bool := (e.q == h.q && e.skipped) || sameMaster e.src h.src

/-- The held push `i` of queue `n` completes: those at the queue that waited before it have been passed over, which none of
them may be twice in a row. Reads that waited behind it are answered. -/
def State.heldDone (s : State) (n i : Nat) : State :=
  match s.heldPlace n i with
  | none => s
  | some g =>
    match s.que.held[g]? with
    | none => s
    | some h =>
      let before := s.que.held.take g
      if (s.on (F.QUE_Q_CFG_EN n) && s.qFull n) || before.any (·.blocks h) then s
      else
        let rest := (before.map fun e => { e with skipped := e.skipped || e.q == n }) ++ s.que.held.drop (g + 1)
        (((s.setQue { s.que with held := rest }).pushNow n h.val).answer h.src 0 []).queueReads

/-- QUEUE_HELD_PUSH_DONE: the mutual-exclusion element lets held push `k` of queue `n` complete (R409). -/
def execQueueHeldPushDone (n k : Nat) (s : State) : Res := .next (s.heldDone n k)

/-! Semaphores. -/

def execSemAcquire (pid n : Nat) (s : State) : Res :=
  .next (if n < 64 then let r := s.semAcquire pid n; r.1.emit (.regValue pid (R.SEM_ACQ n) r.2) else s)

def State.semRelease (s : State) (pid n v : Nat) : State :=
  if s.get (F.SEM_STAT_OWNER n) = pid + 1 ∧ v % 32 = pid ∧ !s.partOff pid then s.put (F.SEM_STAT_OWNER n) 0
  else s.raise F.SEM_EVT_BAD_REL

def execSemRelease (pid n val : Nat) (s : State) : Res := .next (if n < 64 then s.semRelease pid n val else s)

def State.semReclaim (s : State) (pid v : Nat) : State :=
  let n := bits v 5 0
  if pid = 0 ∧ bitOf v 31 ∧ s.get (F.SEM_STAT_OWNER n) ≠ 0 then
    (s.put (F.SEM_STAT_OWNER n) 0).raise F.SEM_EVT_RECLAIM
  else s

def execSemReclaim (pid val : Nat) (s : State) : Res := .next (s.semReclaim pid val)

end Sys2Proof.Machine
end

