-- ==== Sys2Proof/Machine/Serial.lean ====
section
/-! DEFINITION. Serial ports (R355 to R361) and supervised inputs (R362 to R366), with the opcodes of R369. -/
namespace Sys2Proof.Machine

def St.COLLISION : Nat := 0x0E00
def St.PORT_OFF : Nat := 0x0E01

def State.ser (s : State) (n : Nat) : SerPort := storeGet serDefault s.sio.ports n
def State.setSer (s : State) (n : Nat) (v : SerPort) : State :=
  s.setSio { s.sio with ports := storeSet serDefault s.sio.ports n v }
def State.din (s : State) (k : Nat) : DinState := storeGet dinDefault s.sio.dins k
def State.setDin (s : State) (k : Nat) (v : DinState) : State :=
  s.setSio { s.sio with dins := storeSet dinDefault s.sio.dins k v }

/-! Receiving. -/

/-- RX_BUSY shows whether a PDU is being received; a polarity written applies between PDUs (R358). -/
def State.serShow (s : State) (n : Nat) : State :=
  let p := s.ser n
  let s := (s.put (F.SIO_U_STAT_RX_BUSY n) (b2n p.inPdu)).put (F.SIO_U_STAT_TX_BUSY n) (b2n p.send.isSome)
  if p.inPdu || p.send.isSome then s else s.put (F.SIO_U_STAT_POL_INV n) (s.get (F.SIO_U_CTL_POL_INV n))

/-- Pattern `k` of port `n` matches a PDU (R360). -/
def State.serMatches (s : State) (n : Nat) (b : Bytes) (k : Nat) : Bool :=
  let m := s.get (F.SIO_U_PAT_MASK n k)
  let o := s.get (F.SIO_U_PAT_OFF n k)
  s.on (F.SIO_U_PAT_EN n k) &&
    (m == 0 || (decide (o < b.length) && Nat.land (u8 b o) m == Nat.land (s.get (F.SIO_U_PAT_VAL n k)) m))

/-- The started descriptors of a SIO opcode on port `n`, oldest first. -/
def State.serDescs (s : State) (op n : Nat) : List Desc :=
  s.rnd.descs.filter fun d => d.started && d.running && d.fin.isNone && d.func == 0x0D && d.opcode == op && u8 d.raw 20 == n

def State.serNoMatch (s : State) (n : Nat) : State := (s.count (C.SIO_NOMATCH n)).raise F.SIO_EVT_NOMATCH
def State.serLong (s : State) (n : Nat) : State := (s.count (C.SIO_PDU_LONG n)).raise F.SIO_EVT_PDU_LONG

/-- A complete PDU goes to the gateway rule of its first matching pattern, or to the oldest SER_RECV (R360). -/
def State.serDeliver (s : State) (n : Nat) (b : Bytes) (ts : Nat) : State :=
  match (List.range 16).find? (s.serMatches n b) with
  | some k => if (s.gwFind 2 n k).isSome then s.gwSerial n k b ts else s.serNoMatch n
  | none =>
    match s.serDescs 2 n with
    | [] => s.serNoMatch n
    | d :: _ => if d.len < b.length then s.serLong n else s.finishBuf d 0 b St.OK (b.length + 2 ^ 32 * ts)

/-- The PDU being received on port `n` ends (R356, R359). -/
def State.serEnd (s : State) (n : Nat) : State :=
  let p := s.ser n
  let s := (s.setSer n { p with inPdu := false, rx := [], bad := false, esc := false }).serShow n
  if p.bad then (s.count (C.SIO_CHAR_ERR n)).raise F.SIO_EVT_CHAR_ERR
  else if p.rx.isEmpty then s
  else if s.get (F.SIO_U_CTL_MAX_PDU n) < p.rx.length then s.serLong n
  else (s.count (C.SIO_PDU_OK n)).serDeliver n p.rx p.rxTs

/-- A character joins the PDU; of one already too long no more is kept. -/
def SerPort.add (p : SerPort) (ch : Byte) (ok : Bool) (start : Nat) : SerPort :=
  { p with inPdu := true, esc := false, bad := p.bad || !ok, rxTs := if p.rx.isEmpty then start else p.rxTs,
           rx := if p.rx.length ≤ 512 then p.rx ++ [ch] else p.rx }

/-- A character in delimited framing. -/
def State.serDelimited (s : State) (n : Nat) (ch : Byte) (ok : Bool) (start : Nat) : State :=
  let p := s.ser n
  let is := fun (f : Fld) => ch.toNat == s.get f
  if !p.inPdu then
    if ok && is (F.SIO_U_FRM_SOF n) then s.setSer n { p with inPdu := true, rx := [], bad := false, esc := false } else s
  else if p.esc then s.setSer n (p.add ch ok start)
  else if s.on (F.SIO_U_FRM_ESC_EN n) && is (F.SIO_U_FRM_ESC n) then s.setSer n { p with esc := true, bad := p.bad || !ok }
  else if is (F.SIO_U_FRM_EOF n) then (s.setSer n { p with bad := p.bad || !ok }).serEnd n
  else s.setSer n (p.add ch ok start)

/-- The data bits of a character on port `n`: 7 or 8 (R356). -/
def State.serBits (s : State) (n : Nat) (ch : Byte) : Byte := if s.on (F.SIO_U_CTL_DATA7 n) then ch % 128 else ch

/-- SERIAL_CHAR_RECEIVED on port `n`: the character, whether its framing and parity are right, and how many ns ago its start
bit began, whose TIM_NOW at the nearest tick is its time (R359). A half-duplex port does not deliver what it hears while it
drives the bus (R357). -/
def execSerialCharReceived (n : Nat) (ch : Byte) (ok : Bool) (ago : Nat) (s : State) : Res :=
  .next (let p := s.ser n
    let ch := s.serBits n ch
    let start := s.timAt (s.now - ago)
    if decide (7 < n) || !s.on (F.SIO_U_CTL_EN n) || (decide (n < 4) && p.send.isSome) then s
    else if s.on (F.SIO_U_FRM_MODE n) then (s.serDelimited n ch ok start).serShow n
    else (s.setSer n (p.add ch ok start)).serShow n)

/-- SERIAL_GAP_TIMEOUT: the line of port `n` has been idle for GAP bit times. -/
def execSerialGapTimeout (n : Nat) (s : State) : Res :=
  .next (if decide (n < 8) && s.on (F.SIO_U_CTL_EN n) && !s.on (F.SIO_U_FRM_MODE n) && (s.ser n).inPdu then s.serEnd n else s)

/-! Sending. -/

/-- The characters of a SER_SEND (R369). -/
def State.serChars (s : State) (n : Nat) (b : Bytes) : Bytes :=
  let c := fun (f : Fld) => (BitVec.ofNat 8 (s.get f) : Byte)
  if s.on (F.SIO_U_FRM_MODE n) then
    let special := [c (F.SIO_U_FRM_SOF n), c (F.SIO_U_FRM_EOF n), c (F.SIO_U_FRM_ESC n)]
    [c (F.SIO_U_FRM_SOF n)] ++
      (b.flatMap fun x => if s.on (F.SIO_U_FRM_ESC_EN n) && special.contains x then [c (F.SIO_U_FRM_ESC n), x] else [x]) ++
      [c (F.SIO_U_FRM_EOF n)]
  else b

/-- SERIAL_TX_START: the line of port `n` has been idle for TX_IDLE bit times, and its oldest SER_SEND starts; a PDU whose
end has not come does not hold it (R357). -/
def execSerialTxStart (n : Nat) (s : State) : Res :=
  .next (let p := s.ser n
    if decide (7 < n) || p.send.isSome then s
    else
      match s.serDescs 1 n with
      | [] => s
      | d :: _ =>
        (s.setSer n { p with send := some (d.round, d.slot), tx := (s.serChars n d.buf).map (s.serBits n), sent := 0, txTs := s.timNow }).serShow n)

/-- The transmission of port `n` is over. -/
def State.serDone (s : State) (n status : Nat) : State :=
  let p := s.ser n
  let s := (s.setSer n { p with send := none, tx := [] }).serShow n
  match p.send with
  | some (r, i) =>
    match s.descAt r i with
    | some d => s.finish d status (p.txTs + 2 ^ 32 * p.sent)
    | none => s
  | none => s

/-- SERIAL_CHAR_SENT on port `n`: `heard` is the character heard meanwhile, 256 where none was heard right. -/
def execSerialCharSent (n heard : Nat) (s : State) : Res :=
  .next (let p := s.ser n
    match p.tx with
    | [] => s
    | c :: r =>
      let s := s.setSer n { p with tx := r, sent := p.sent + 1 }
      if decide (n < 4) && s.on (F.SIO_U_CTL_ECHO_CHK n) && heard != c.toNat then
        ((s.count (C.SIO_COLLISION n)).raise F.SIO_EVT_COLLISION).serDone n St.COLLISION
      else if r.isEmpty then s.serDone n St.OK
      else s)

/-- POLARITY_DECIDE: the differential of port `n`, in mV, held for 10 ms on an idle bus (R358). -/
def execPolarityDecide (n : Nat) (mV : Int) (s : State) : Res :=
  .next (if decide (3 < n) || !s.on (F.SIO_U_CTL_POL_AUTO n) || (s.ser n).inPdu || (s.ser n).send.isSome then s
    else if -200 ≤ mV ∧ mV ≤ 200 then s.put (F.SIO_U_STAT_POL_UNKNOWN n) 1
    else
      let inv := b2n (decide (mV < -200))
      let s := s.put (F.SIO_U_STAT_POL_UNKNOWN n) 0
      ((s.put (F.SIO_U_CTL_POL_INV n) inv).serShow n).raise F.SIO_EVT_POL)

/-! Inputs. -/

/-- Off and on thresholds of a system voltage, in mV (R362). -/
def dinLow (sys : Nat) : Int := [7200, 14400, 21600, 33000].getD sys 0
def dinHigh (sys : Nat) : Int := [14400, 28800, 43200, 66000].getD sys 0

/-- The class of a loop resistance in Ω (R364). -/
def loopClass (r : Int) : Nat := if r < 400 then 0 else if r < 2500 then 1 else if r ≤ 12000 then 2 else 3

/-- The raw value of input `k` after a sample, and none where a faulty loop gives none. -/
def State.dinRaw (s : State) (k : Nat) (x : Int) : Option Bool :=
  let sys := s.get (F.SIO_G_CTL_SYS (k / 8))
  if s.bit F.SIO_DIN_MODE_SUP k then
    match loopClass x with
    | 1 => some true
    | 2 => some false
    | _ => none
  else if dinHigh sys ≤ x then some true
  else if x ≤ dinLow sys then some false
  else some (s.bit F.SIO_DIN_RAW_RAW k)

def putBit (s : State) (f : Fld) (i : Nat) (v : Bool) : State := if v then s.set1 f i else s.clr1 f i

/-- The class register of an input. -/
def supFld (k : Nat) : Fld :=
  let r := if k < 16 then R.SIO_DIN_SUP_LO else R.SIO_DIN_SUP_HI
  ⟨r, 2 * (k % 16) + 1, 2 * (k % 16)⟩

/-- Debouncing of the value (R365). -/
def DinState.value (d : DinState) (raw : Option Bool) (deb : Nat) : DinState :=
  match raw with
  | none => { d with valCnt := 0 }
  | some r =>
    if d.direct then { d with val := r, valCnt := 0 }
    else if r = d.val then { d with valCnt := 0 }
    else if deb ≤ d.valCnt + 1 then { d with val := r, valCnt := 0 }
    else { d with valCnt := d.valCnt + 1 }

/-- Debouncing of the class. -/
def DinState.classed (d : DinState) (c deb : Nat) : DinState :=
  if d.direct then { d with cls := c, clsCnt := 0 }
  else if c = d.cls then { d with clsCnt := 0 }
  else
    let n := if c = d.newCls then d.clsCnt + 1 else 1
    if deb ≤ n then { d with cls := c, clsCnt := 0 } else { d with newCls := c, clsCnt := n }

/-- The reported value of input `k`. -/
def State.dinOut (s : State) (k : Nat) : Bool := (s.din k).val != s.bit F.SIO_DIN_INV_INV k

/-- A sample of input `k` at TIM_NOW (R364 to R366). -/
def State.dinSample (s : State) (k : Nat) (x : Int) : State :=
  let sup := s.bit F.SIO_DIN_MODE_SUP k
  let deb := max 1 (s.get (F.SIO_G_CTL_DEB (k / 8)))
  let old := s.dinOut k
  let d := s.din k
  let raw := s.dinRaw k x
  let e := d.value raw deb
  let e := if sup then e.classed (loopClass x) deb else e
  let s := match raw with
    | some r => putBit s F.SIO_DIN_RAW_RAW k r
    | none => s
  let s := s.setDin k { e with direct := false }
  let s := if sup then s.put (supFld k) e.cls else s
  let s := if sup && (d.direct || e.cls != d.cls) && (e.cls == 0 || e.cls == 3) then s.raise F.SIO_EVT_SUP_FAULT else s
  let new := s.dinOut k
  let s := putBit s F.SIO_DIN_STATE_VALUE k new
  if new != old && (if new then s.bit F.SIO_DIN_RISE_EN_EN k else s.bit F.SIO_DIN_FALL_EN_EN k) then
    ((s.set1 F.SIO_DIN_CHG_CHG k).setDin k { s.din k with chgAt := s.timNow }).raise F.SIO_EVT_DIN_CHG
  else s

/-- INPUT_SAMPLE: group `g` is sampled, once for each firing of its SAMPLE_TRG; `xs` holds, for each of its inputs, the
voltage in mV or, in supervised mode, the loop resistance in Ω. -/
def execInputSample (g : Nat) (xs : List Int) (s : State) : Res :=
  .next (if g < 4 ∧ bitOf s.sio.due g then
      forEach (List.range 8) (fun i t => t.dinSample (8 * g + i) (xs.getD i 0))
        (s.setSio { s.sio with due := clearBit s.sio.due g })
    else s)

/-! Register writes. -/

/-- The debounce counts of an input restart; `direct` where its next sample is taken directly (R365). -/
def State.dinRestart (s : State) (k : Nat) (direct : Bool) : State :=
  let d := s.din k
  s.setDin k { d with valCnt := 0, clsCnt := 0, direct := d.direct || direct }

/-- A write of SIO_Un_CTL. -/
def State.serCtlWrite (s : State) (n v : Nat) : State :=
  let was := s.on (F.SIO_U_CTL_EN n)
  let set := fun (t : State) (f : Fld) => t.put f (bits v f.hi f.lo)
  let s := if n < 4 then set s (F.SIO_U_CTL_POL_AUTO n) else s
  let s := if n < 4 ∧ !s.on (F.SIO_U_CTL_POL_AUTO n) then set s (F.SIO_U_CTL_POL_INV n) else s
  let s := if !was then
      let s := if n < 4 then
          set (set (set (set s (F.SIO_U_CTL_TERM_EN n)) (F.SIO_U_CTL_BIAS_EN n)) (F.SIO_U_CTL_SLEW n)) (F.SIO_U_CTL_ECHO_CHK n)
        else s
      set (set (set s (F.SIO_U_CTL_PARITY n)) (F.SIO_U_CTL_STOP2 n)) (F.SIO_U_CTL_DATA7 n)
    else s
  let s := set (set s (F.SIO_U_CTL_TURN n)) (F.SIO_U_CTL_TX_IDLE n)
  let m := bits v 9 0
  let s := if 1 ≤ m ∧ m ≤ 512 then s.put (F.SIO_U_CTL_MAX_PDU n) m else s
  let s := s.put (F.SIO_U_CTL_EN n) (bits v 31 31)
  let s := if was && !bitOf v 31 then
      let s := forEach ((s.serDescs 1 n).filter fun d => some (d.round, d.slot) != (s.ser n).send)
        (fun d t => t.finish d St.PORT_OFF 0) s
      s.setSer n { s.ser n with inPdu := false, rx := [], bad := false, esc := false }
    else s
  s.serShow n

/-- A write of SIO_Un_BAUD. -/
def State.baudWrite (s : State) (n v : Nat) : State :=
  let d := v % 2 ^ 23
  if (if n < 4 then 64 else 107) ≤ d ∧ d ≤ 4266667 then s.put (F.SIO_U_BAUD_DIV n) d else s

/-- A write of SIO_Gg_CTL. -/
def State.dinCtlWrite (s : State) (g v : Nat) : State :=
  let sys := s.get (F.SIO_G_CTL_SYS g)
  let deb := s.get (F.SIO_G_CTL_DEB g)
  let s := ((s.put (F.SIO_G_CTL_SYS g) (bits v 31 30)).put (F.SIO_G_CTL_SAMPLE_TRG g) (bits v 29 26)).put
    (F.SIO_G_CTL_DEB g) (bits v 21 14)
  let ma := bits v 25 22
  let us := bits v 9 0
  let s := if 2 ≤ ma ∧ ma ≤ 10 then s.put (F.SIO_G_CTL_WET_MA g) ma else s
  let s := if 20 ≤ us ∧ us ≤ 1000 then s.put (F.SIO_G_CTL_WET_US g) us else s
  if sys = bits v 31 30 ∧ deb = bits v 21 14 then s
  else forEach (List.range 8) (fun i t => t.dinRestart (8 * g + i) (sys != bits v 31 30)) s

/-- A write of SIO_DIN_MODE. -/
def State.dinModeWrite (s : State) (v : Nat) : State :=
  let old := s.get F.SIO_DIN_MODE_SUP
  forEach ((List.range 32).filter fun k => bitOf old k != bitOf v k) (fun k t => t.dinRestart k true) (s.put F.SIO_DIN_MODE_SUP v)

/-- A write of SIO_DIN_INV: the reported values follow. -/
def State.dinInvWrite (s : State) (v : Nat) : State :=
  forEach (List.range 32) (fun k t => putBit t F.SIO_DIN_STATE_VALUE k (t.dinOut k)) (s.put F.SIO_DIN_INV_INV v)

/-- A write of a SIO register by partition `pid`, beyond the access codes (R369). -/
def State.sioWrite (s : State) (pid a v : Nat) : State :=
  if a = R.SIO_CFG_MASK then (if pid = 0 then s.regApply a v else s)
  else if !s.bit F.SIO_CFG_MASK_MASK pid then s
  else if R.SIO_U_CTL 0 ≤ a ∧ a < R.SIO_U_CTL 8 then
    let n := (a - R.SIO_U_CTL 0) / 0x80
    if a = R.SIO_U_CTL n then s.serCtlWrite n v
    else if a = R.SIO_U_BAUD n then s.baudWrite n v
    else s.regApply a v
  else if R.SIO_G_CTL 0 ≤ a ∧ a < R.SIO_G_CTL 4 then s.dinCtlWrite ((a - R.SIO_G_CTL 0) / 4) v
  else if a = R.SIO_DIN_MODE then s.dinModeWrite v
  else if a = R.SIO_DIN_INV then s.dinInvWrite v
  else s.regApply a v

/-! Opcodes (R369). -/

/-- A SIO opcode of a partition that SIO_CFG_MASK admits. -/
def State.sioMay (s : State) (d : Desc) (k : State) : State :=
  if s.bit F.SIO_CFG_MASK_MASK (s.dPid d) then k else s.finish d St.NOTPERMIT 0

def State.serSend (s : State) (d : Desc) : State :=
  let n := u8 d.raw 20
  s.sioMay d
    (if 7 < n ∨ d.len = 0 ∨ 512 < d.len then s.finish d St.BADARG 0
     else if !s.on (F.SIO_U_CTL_EN n) then s.finish d St.PORT_OFF 0
     else s.hold d)

def State.serRecv (s : State) (d : Desc) : State :=
  s.sioMay d (if 7 < u8 d.raw 20 then s.finish d St.BADARG 0 else s.hold d)

/-- DIN_READ. -/
def State.dinRead (s : State) (d : Desc) : State :=
  let b := (List.range 32).flatMap fun k =>
    leBytes 1 (b2n (s.bit F.SIO_DIN_STATE_VALUE k)) ++ leBytes 1 (s.get (supFld k)) ++
      leBytes 1 (b2n (s.bit F.SIO_DIN_RAW_RAW k)) ++ [0] ++ leBytes 4 (s.din k).chgAt
  s.sioMay d (if d.len < 256 then s.finish d St.BADARG 0 else s.finishBuf d 0 b St.OK 256)

/-- A cancel reaches a SER_SEND before its first start bit, or a SER_RECV that waits (R369). -/
def State.sioCancel (s : State) (d : Desc) : State :=
  if d.opcode = 1 ∧ (s.ser (u8 d.raw 20)).send = some (d.round, d.slot) then s else s.finish d St.CANCELLED 0

def execSerSend (r : Nat) (s : State) : Res := .next (s.withOp r 0x0D 1 fun d => s.serSend d)
def execSerRecv (r : Nat) (s : State) : Res := .next (s.withOp r 0x0D 2 fun d => s.serRecv d)
def execDinRead (r : Nat) (s : State) : Res := .next (s.withOp r 0x0D 3 fun d => s.dinRead d)

end Sys2Proof.Machine
end

