-- ==== Sys2Proof/Machine/Chart.lean ====
section
/-! DEFINITION. Chart: replans (R253, R256, R257), the switch of placements (R254), engines that fail and return (R255),
and the opcodes of R259. -/
namespace Sys2Proof.Machine

/-! Engines. -/

/-- The engines that a placement needs are powered on. -/
def State.powerOn (s : State) (pl : Placement) : State :=
  (forEach (List.range 16) (fun e t =>
    if pl.on e != 0 && t.get (F.CHT_ENG_STAT_STATE e) == 0 then t.put (F.CHT_ENG_STAT_STATE e) 1 else t) s).countEngines

/-- Engines that hold no node of the running or the shadow placement are switched off. -/
def State.powerOff (s : State) : State :=
  let need := fun (e : Nat) =>
    (match s.cht.place with | some pl => pl.on e != 0 | none => false) ||
      (match s.cht.shadow with | some sh => sh.place.on e != 0 | none => false)
  (forEach (List.range 16) (fun e t =>
    if t.get (F.CHT_ENG_STAT_STATE e) == 1 && !need e then t.put (F.CHT_ENG_STAT_STATE e) 0 else t) s).countEngines

/-! The pattern a replan places. -/

/-- The buffer of a PATTERN_LOAD that waits. -/
def State.loadDesc (s : State) (r i : Nat) : Option Desc :=
  s.rnd.descs.find? fun d => d.round == r && d.slot == i && d.started && d.fin.isNone && d.running

/-- The causes the next replan serves: the first load, and everything else that waits. -/
def State.serving (s : State) : List Cause :=
  (s.cht.asks.filter isLoad).take 1 ++ s.cht.asks.filter fun c => !isLoad c

/-- The load among some causes. -/
def loadOf (l : List Cause) : Option (Nat × Nat) :=
  l.findSome? fun c => match c with | .load r i => some (r, i) | _ => none

/-- The level among some causes. -/
def levelOf (l : List Cause) : Option Nat := l.findSome? fun c => match c with | .level x => some x | _ => none

/-- The nodes that Chart leaves out in the floor state (R380): those not CRITICAL. -/
def State.floorSkip (s : State) (p : Pattern) : List Nat :=
  if s.inFloor then (List.range p.nodes.length).filter fun i => !(p.node i).critical else []

/-- The reason layout of a failed placement, bytes 8 to 15 of a result. -/
def State.noPlace (s : State) (f : NoPlace) : Nat :=
  f.reason + 2 ^ 8 * (16 - s.badEngines.length) + 2 ^ 16 * f.node + 2 ^ 32 * min f.excess (2 ^ 32 - 1)

/-! Outcomes of a replan. -/

/-- Requests wait for the next replan. -/
def State.waitAgain (s : State) (l : List Cause) : State :=
  (s.onCht fun t => { t with asks := l ++ t.asks }).chartIdle

/-- AUD_STAT.STATE: a pattern runs, and a load waits or not. -/
def State.showLoads (s : State) : State :=
  let busy := s.cht.asks.any isLoad || (match s.cht.shadow with | some sh => sh.causes.any isLoad | none => false)
  s.put F.AUD_STAT_STATE (if s.aud.pat.isNone then 0 else if busy then 2 else 1)

/-- A PATTERN_LOAD ends without a placement. -/
def State.loadFails (s : State) (r i result : Nat) : State :=
  match s.loadDesc r i with
  | some d => s.rejectLoad d St.NOT_PLACED result
  | none => s

/-- A lower level is refused (R257). -/
def State.refuseLevel (s : State) (l reason : Nat) : State :=
  ((s.put F.CHT_STAT_LAST_REASON reason).raise F.CHT_EVT_LEVEL_REFUSED).levelRefused l

/-- The window of a group in a placement. -/
def Placement.window (pl : Placement) (m : Nat) : Nat :=
  match pl.groups.find? (·.1 == m) with | some x => x.2 | none => 100

/-- The ply entries of a shadow: every group that a placed node contributes to, through port A (R132, R134). -/
def State.plyShadow (s : State) (p : Pattern) (pl : Placement) : State :=
  forEach (List.range p.mixes.length) (fun g t =>
    let m := p.mixes.getD g 0
    let outs := (List.range p.nodes.length).filter fun j =>
      (p.node j).kind == K.PLY_OUT && u8 (p.node j).raw 8 == m && !(pl.copies 0 j).isEmpty
    t.setPlyEnt (256 + g) (if outs.isEmpty then plyEntDefault 0 else
      ⟨true, pl.window m, (p.node (outs.headD 0)).cls, 2 ^ 22, outs.foldl (fun k j => setBit k (p.plyIndex j)) 0⟩)) s

/-- The windows of the running placement's groups are set anew (R245). -/
def State.plyWindows (s : State) (p : Pattern) (pl : Placement) : State :=
  forEach (List.range p.mixes.length) (fun g t =>
    t.setPlyEnt g { t.plyEnt g with window := pl.window (p.mixes.getD g 0) }) s

/-- A placement has been admitted: it is to run as a shadow (R254 steps 1 to 3). -/
def State.startShadow (s : State) (p : Pattern) (pl : Placement) (l : List Cause) : State :=
  let s := s.clearShadowSt.onCht fun t => { t with shadow := some ⟨p, pl, l, none, false, false⟩ }
  (s.powerOn pl).plyShadow p pl

/-- The search with nodes left out, the highest of `cand` first, until a placement is admitted (R256). -/
def Pattern.degrade (p : Pattern) (cons : Bool) (level : Nat) (bad : List Nat) : List Nat → List Nat → Option (Placement × List Nat)
  | [], _ => none
  | i :: r, skip =>
    match p.search cons level bad (i :: skip) with
    | .ok pl => some (pl, i :: skip)
    | .error _ => p.degrade cons level bad r (i :: skip)

/-- A placement without the nodes of some engines. -/
def Placement.without (p : Placement) (bad : List Nat) : Placement :=
  { p with eng := p.eng.map fun e => if bad.contains e then 31 else e,
           twin := p.twin.map fun e => if bad.contains e then 31 else e }

/-- No placement was found for the running pattern: a higher level is asked of Gauge, then nodes are dropped (R256). -/
def State.degraded (s : State) (p : Pattern) (cons : Bool) (level : Nat) (l : List Cause) (f : NoPlace) : State :=
  let s := (s.put F.CHT_STAT_LAST_REASON f.reason).raise F.CHT_EVT_REPLAN_FAIL
  if s.raiseGranted then (s.moveLevel (s.gauLevel + 1)).waitAgain l
  else
    let s := if s.gauLevel < 4 then s.raise F.GAU_EVT_RAISE_DENIED else s
    let base := s.floorSkip p
    let cand := ((List.range p.nodes.length).filter fun i => !(p.node i).critical && !base.contains i).reverse
    match p.degrade cons level s.badEngines cand base with
    | some (pl, skip) =>
      ((s.onCht fun t => { t with dropped := skip }).raise F.CHT_EVT_DEGRADED).startShadow p pl l
    | none =>
      let s := s.onCht fun t => { t with place := t.place.map fun pl => pl.without s.badEngines }
      s.powerOff.showEngines.chartIdle

/-- A replan finds nothing. A load ends and what else was asked waits; a level is refused; anything else degrades. -/
def State.replanFails (s : State) (p : Pattern) (cons : Bool) (level : Nat) (l : List Cause) (f : NoPlace) : State :=
  match loadOf l with
  | some (r, i) =>
    let s := (s.put F.CHT_STAT_LAST_REASON f.reason).raise F.CHT_EVT_REPLAN_FAIL
    ((s.loadFails r i (s.noPlace f)).waitAgain (l.filter fun c => !isLoad c)).showLoads
  | none =>
    match levelOf l with
    | some x =>
      let s := s.waitAgain (l.filter fun c => match c with | .level _ => false | _ => true)
      (s.raise F.CHT_EVT_REPLAN_FAIL).refuseLevel x f.reason
    | none => s.degraded p cons level l f

/-- Chart grants a level: VCORE may move to it. -/
def State.grantLevel (s : State) (l : Nat) : State := (s.put F.CHT_STAT_LEVEL l).moveLevel l

/-- The running placement is admitted at another level, if it can be, with the windows of its groups (R245, R257). -/
def State.readmit (s : State) (l : Nat) : Option Placement :=
  match s.aud.pat, s.cht.place with
  | some p, some pl => (p.admitted l (p.placedOf pl)).toOption
  | _, _ => none

/-- One replan, for the causes `l`. -/
def State.replan (s : State) (l : List Cause) : State :=
  let s := (s.onCht fun t => { t with asks := t.asks.filter fun c => !l.contains c }).count C.CHT_REPLAN
  let pat := match loadOf l with
    | some (r, i) => (s.loadDesc r i).map fun (d : Desc) => parsePattern d.buf
    | none => s.aud.pat
  let level := (levelOf l).getD s.figLevel
  let only := l.all fun c => match c with | .level _ => true | _ => false
  match pat with
  | none => (match levelOf l with | some x => s.grantLevel x | none => s).chartIdle
  | some p =>
    match (if only then s.readmit level else none) with
    | some pl =>
      (((s.onCht fun t => { t with place := some pl }).plyWindows p pl).grantLevel level).showEngines.chartIdle
    | none =>
      let cons := s.on F.CHT_STAT_MODE && !l.contains .spread
      match p.search cons level s.badEngines (s.floorSkip p) with
      | .ok pl => (s.onCht fun t => { t with dropped := s.floorSkip p }).startShadow p pl l
      | .error f => s.replanFails p cons level l f

/-- A load whose descriptor has ended, cancelled or stopped. -/
def State.deadLoad (s : State) : Cause → Bool
  | .load r i => (s.loadDesc r i).isNone
  | _ => false

/-- Chart serves no load whose descriptor has ended: a placement on its way for it is abandoned. -/
def State.dropLoads (s : State) : State :=
  let inShadow := match s.cht.shadow with
    | some sh => sh.causes.any s.deadLoad
    | none => false
  if !inShadow && !s.cht.asks.any s.deadLoad then s
  else
    let t := if inShadow then (s.dropShadow true).powerOff else s
    (t.onCht fun c => { c with asks := c.asks.filter fun x => !s.deadLoad x }).showLoads.chartIdle

/-- The placement that the partner mirrors, over the running pattern; none where it is of another pattern. -/
def State.mirrorOf (s : State) : Option (Pattern × Placement) :=
  let b := s.pai.place.drop 4
  match s.aud.pat, s.cht.place with
  | some p, some pl =>
    if b.length = 8 * p.nodes.length then
      let l := List.range p.nodes.length
      let eng := fun (v : Nat) => if v = 0xFF then 31 else v
      let at_ : Placement := { pl with
        eng := l.map fun i => eng (u8 b (8 * i + 2))
        twin := l.map fun i => eng (u8 b (8 * i + 3))
        finish := l.map fun i => u16 b (8 * i + 6) }
      some (p, { at_ with groups := p.windows at_.finish })
    else none
  | _, _ => none

/-- On a standby the mirrored placement runs as a shadow (R134, R483). -/
def State.mirrorPlace (s : State) : State :=
  match s.mirrorOf with
  | some (p, pl) => if s.standby && s.cht.asks.isEmpty && s.cht.shadow.isNone && !s.cor.doze then s.startShadow p pl [.mirror] else s
  | none => s

/-- A standby's mirrored placement stops. -/
def State.dropMirror (s : State) : State :=
  match s.cht.shadow with
  | some sh => if sh.mirrored then (s.dropShadow false).powerOff.chartIdle else s
  | none => s

/-- The mirrored placement becomes live at the next block boundary (R478). -/
def State.mirrorLive (s : State) : State :=
  match s.cht.shadow with
  | some sh =>
    if sh.mirrored && sh.block.isSome then
      let bad := s.badEngines.any fun e => (sh.place.eng ++ sh.place.twin).contains e
      let s := (s.onCht fun c => { c with shadow := some { sh with passed := true } }).put F.CHT_STAT_BUSY 1
      if bad then s.askChart .failure else s
    else s.dropMirror
  | none => s

/-- CHART_REPLAN: Chart serves what has asked for a replan, while none is on its way and the level stands; none in
DOZE, which keeps the engines off (R325). On a standby for which nothing is asked the mirrored placement runs. -/
def execChartReplan (s : State) : Res :=
  .next (let s := s.dropLoads
    if s.cor.doze || s.gau.moving.isSome || s.placing then s
    else if s.cht.asks.isEmpty then s.mirrorPlace
    else (s.dropShadow false).replan s.serving)

/-! The switch-over. -/

/-- Every copy of a shadow's placement. -/
def Shadow.copies (sh : Shadow) : List Nat := (List.range sh.pat.nodes.length).flatMap (sh.place.copies 1)

/-- A late switch-over is abandoned (R254 step 4). -/
def State.abandon (s : State) (sh : Shadow) : State :=
  let s := (s.count C.CHT_SHADOW_LATE).raise F.CHT_EVT_SHADOW_LATE
  let s := ((s.dropShadow false).powerOff).put F.CHT_STAT_LAST_REASON Rsn.SHADOW_LATE
  let s := match loadOf sh.causes with
    | some (r, i) => s.loadFails r i (s.noPlace ⟨Rsn.SHADOW_LATE, 0xFFFF, 0⟩)
    | none => s
  let s := match levelOf sh.causes with
    | some x => s.refuseLevel x Rsn.SHADOW_LATE
    | none => s
  let s := if sh.causes.contains .failure || sh.causes.contains .restart then
      (s.askChart .spread).askChart .failure else s
  s.showLoads.chartIdle

/-- SHADOW_DEADLINE_CHECK: after Tₙ + 850 µs of the shadow block. -/
def execShadowDeadlineCheck (s : State) : Res :=
  .next (let s := s.dropLoads
    match s.cht.shadow with
    | none => s
    | some sh =>
      match sh.block with
      | none => s
      | some t =>
        if sh.passed || sh.mirrored || !s.pastInput t then s
        else if sh.late || s.aud.block != some t || !(sh.copies.all fun c => s.aud.done.contains c) then s.abandon sh
        else s.onCht fun x => { x with shadow := some { sh with passed := true } })

/-- The state a node starts with: a chime whose description says PLAY plays. -/
def startSt (n : PNode) : NodeSt :=
  if n.kind = K.CHIME ∧ bitOf (u8 n.raw 11) 0 then { nodeRest with open_ := true } else nodeRest

/-- The old node whose state node `i` of a shadow takes over: the same one on a replan, on a load the first of its kind
and key (R235, R254); none starts from rest. -/
def State.carryFrom (s : State) (sh : Shadow) (i : Nat) : Option Nat :=
  match s.aud.pat with
  | none => none
  | some old =>
    if sh.causes.contains .restart then none
    else if (loadOf sh.causes).isNone then some i
    else
      let n := sh.pat.node i
      if n.key = 0 then none
      else (List.range old.nodes.length).find? fun j => (old.node j).kind == n.kind && (old.node j).key == n.key

/-- Copy B of a running node stands for it: copy A's engine is not in service. -/
def State.runB (s : State) (j : Nat) : Bool := !s.engineOn (s.engineOf j) && s.engineOn (s.engineOf (j + 512))

/-- The state of a running node. -/
def State.runSt (s : State) (j : Nat) : NodeSt := if s.runB j then s.nodeSt (j + 512) else s.nodeSt j

/-- The states of the new placement's copies; the mirrored placement of a standby keeps its own (R483). -/
def State.carried (s : State) (sh : Shadow) : Store NodeSt :=
  (sh.copies.map fun c => c - 1024).foldl (fun m c =>
    storeSet stDefault m c (if sh.mirrored then s.nodeSt (c + 1024) else match s.carryFrom sh (copyNode c) with
      | some j => s.runSt j
      | none => startSt (sh.pat.node (copyNode c)))) []

/-- The blocks that wait at the delays that break a cycle, for the new placement's copies: those of the old ones that they
carry from, so that the block before is not lost (R235); a mirrored placement keeps its own. -/
def State.carriedIn (s : State) (sh : Shadow) : List InBlk :=
  sh.copies.flatMap fun c =>
    if !sh.pat.breaks (copyNode c) then []
    else
      let from_ := if sh.mirrored then some c else
        (s.carryFrom sh (copyNode c)).map fun j => if s.runB j then j + 512 else j
      match from_ with
      | some k => (s.aud.inbox.filter fun b => b.at_ == k).map fun b => { b with at_ := c - 1024 }
      | none => []

/-- The shadow accumulators and entries become the running ones (R134). -/
def State.plySwitch (s : State) : State :=
  forEach (List.range 256) (fun g t =>
    (((t.setPlyEnt g (t.plyEnt (256 + g))).setPlyAcc g (t.plyAcc (256 + g))).setPlyEnt (256 + g)
      (plyEntDefault 0)).setPlyAcc (256 + g) (plyAccDefault 0)) s

/-- The PATTERN_LOAD of a pattern that has taken over at block `t` ends (R235). -/
def State.endLoad (s : State) (t : Nat) (ld : Nat × Nat) : State :=
  match s.loadDesc ld.1 ld.2 with
  | some d => (s.encMeasure 6 (u32 d.buf 8) (sha384 d.buf)).finish d St.OK (s.aud.gen % 2 ^ 32 + 2 ^ 32 * t)
  | none => s

/-- A loaded pattern has taken over at block `t` (R235). -/
def State.takeover (s : State) (t : Nat) (ld : Nat × Nat) : State :=
  let s := s.onAud fun a => { a with gen := a.gen + 1 }
  let s := (s.put F.AUD_STAT_GEN s.aud.gen).put F.AUD_PAT_TIME_BLOCK_TIME t
  (s.raise F.AUD_EVT_PAT_SWITCH).newFloor.endLoad t ld

/-- The new placement becomes live at block `t` (R254 steps 5 to 7). -/
def State.switchOver (s : State) (sh : Shadow) (t : Nat) : State :=
  let before := s.enginesOn
  let st := s.carried sh
  let s := s.onAud fun a => { a with
    pat := some sh.pat, st := st, edits := if sh.causes.any isLoad then [] else a.edits, inbox := s.carriedIn sh }
  let s := s.onCht fun c => { c with place := some sh.place, shadow := none }
  let s := s.plySwitch.put F.CHT_PLACE_GEN_GEN (s.get F.CHT_PLACE_GEN_GEN + 1)
  let s := (s.put F.CHT_STAT_LEVEL sh.place.level).recarve.1.raise F.CHT_EVT_SWITCH
  let s := match loadOf sh.causes with
    | some ld => s.takeover t ld
    | none => s
  let s := s.powerOff
  let s := s.gauAct (((s.enginesOn : Int) - before) * engMw s.gauLevel)
  let s := if sh.causes.contains .mode && s.on F.CHT_STAT_MODE then s.raise F.CHT_EVT_CONSOLIDATED else s
  let s := match levelOf sh.causes with
    | some x => s.grantLevel x
    | none => s
  (s.onGau fun g => { g with refused := [] }).gaugeDue.showEngines.showLoads.chartIdle

/-- PLACEMENT_SWITCH: at the boundary of the block after the shadow's, before any node of it is processed. -/
def execPlacementSwitch (s : State) : Res :=
  .next (let s := s.dropLoads
    match s.cht.shadow, s.aud.block with
    | some sh, some t => if sh.passed && sh.block != some t then s.switchOver sh t else s
    | _, _ => s)

/-! Engines (R255). -/

/-- ENGINE_DEADLINE: engine `e` has not completed the block by Tₙ + 950 µs. -/
def execEngineDeadline (e : Nat) (s : State) : Res :=
  .next (match s.aud.block, s.aud.pat, s.cht.place with
    | some t, some p, some pl =>
      let left := (List.range p.nodes.length).any fun i =>
        (pl.copies 0 i).any fun c => s.engineOf c == e && !s.aud.done.contains c
      if left && !before s.timNow ((t + 950000) % 2 ^ 32) then s.engineFail e else s
    | _, _, _ => s)

/-- ENGINE_FAIL: a kernel of engine `e` faults, or a read of its memory is uncorrectable. -/
def execEngineFail (e : Nat) (s : State) : Res := .next (s.engineFail e)

/-- ENGINE_BACK: engine `e` has passed its test. -/
def execEngineBack (e : Nat) (s : State) : Res :=
  .next (if decide (e < 16) && s.get (F.CHT_ENG_STAT_STATE e) == 2 then
      (s.put (F.CHT_ENG_STAT_STATE e) 0).raise F.CHT_EVT_ENG_BACK
    else s)

/-- ENGINE_UNEXCLUDE: a write of CHT_EXCLUDED. -/
def State.unexclude (s : State) (pid v : Nat) : State :=
  if pid != 0 then s
  else
    forEach ((List.range 16).filter fun e => bitOf v e && s.bit F.CHT_EXCLUDED_ENG e)
      (fun e t => (t.clr1 F.CHT_EXCLUDED_ENG e).put (F.CHT_ENG_STAT_STATE e) 0) s

def execEngineUnexclude (pid val : Nat) (s : State) : Res := .next (s.unexclude pid val)

/-! Opcodes (R259). -/

def St.NOT_ADMITTED : Nat := 0x0900
def St.CHECK_BAD : Nat := 0x0901

/-- The engine number that PLACE_READ shows. -/
def engByte (e : Nat) : Byte := if e = 31 then 0xFF else BitVec.ofNat 8 e

/-- The entries of PLACE_READ (R259). -/
def State.placeEntries (s : State) : Bytes :=
  match s.aud.pat, s.cht.place with
  | some p, some pl =>
    let us := s.finishNow
    (List.range p.nodes.length).flatMap fun i =>
      leBytes 2 i ++ [engByte (pl.engine i 0), engByte (pl.engine i 1), BitVec.ofNat 8 (p.node i).loc, 0] ++
        leBytes 2 (us.getD i 0)
  | _, _ => []

/-- PLACE_READ. -/
def State.placeRead (s : State) (d : Desc) : State :=
  let b := s.placeEntries
  if d.len < b.length then s.finish d St.BADARG 0
  else s.finishBuf d 0 b St.OK (b.length + 2 ^ 32 * s.get F.CHT_PLACE_GEN_GEN)

def execPlaceRead (r : Nat) (s : State) : Res := .next (s.withOp r 8 1 fun d => s.placeRead d)

/-- PATTERN_CHECK, in one stitch. -/
def State.patternCheck (s : State) (d : Desc) : State :=
  let lv := u8 d.raw 20
  let fl := u8 d.raw 21
  if decide (4 < lv) || decide (4 ≤ fl) then s.lastStitch d St.BADARG 0
  else
    match patternFault s.slot d.buf d.len with
    | some f => s.lastStitch d St.CHECK_BAD f.result
    | none =>
      let p := parsePattern d.buf
      match p.search (bitOf fl 0) lv (if bitOf fl 1 then [] else s.badEngines) [] with
      | .error f => s.lastStitch d St.NOT_ADMITTED (s.noPlace f)
      | .ok pl =>
        let used := (List.range 16).filter fun e => pl.on e != 0
        s.lastStitch d St.OK
          (used.length + 2 ^ 16 * greatest pl.finish + 2 ^ 32 * greatest (used.map (p.plannedOn pl)))

def execPatternCheck (r : Nat) (s : State) : Res := .next (s.withOp r 8 2 fun d => s.patternCheck d)

/-- The entries of CARVE_HINT are well formed. -/
def carveOk (b : Bytes) : Bool :=
  (List.range 192).all fun q => (u8 b (4 * q + 2) == 0xFF || decide (u8 b (4 * q + 2) ≤ 9)) && u8 b (4 * q + 3) == 0

/-- CARVE_HINT (R252). -/
def State.carveHint (s : State) (d : Desc) : State :=
  if decide (d.len < 768) || !carveOk d.buf then s.finish d St.BADARG 0
  else
    let b := d.buf
    let s := forEach (List.range 192) (fun q t => t.onCht fun c => { c with
      hintMin := storeSet minHintDefault c.hintMin q (u16 b (4 * q))
      hintK := storeSet kHintDefault c.hintK q (if u8 b (4 * q + 2) = 0xFF then 6 else u8 b (4 * q + 2)) }) s
    let r := s.recarve
    r.1.finish d St.OK (r.1.get F.SWC_CARVE_GEN_GEN + 2 ^ 32 * b2n r.2)

def execCarveHint (r : Nat) (s : State) : Res := .next (s.withOp r 8 3 fun d => s.carveHint d)

end Sys2Proof.Machine
end

