-- ==== Sys2Proof/Machine/Enclave.lean ====
section
/-! DEFINITION. The enclave's opcodes (R443): keys (R419 to R425), tokens (R428 to R430), enrolment (R438), debug (R439),
attestation (R440), and tamper (R433, R436). -/
namespace Sys2Proof.Machine

/-! Random bits: free values. -/

/-- `n` bytes of the random bit generator. -/
def State.randBytes (s : State) (n : Nat) : Bytes := beBytes n (s.free 301)

/-- The private key that 48 bytes give (R422). -/
def privOf (b : Bytes) : Bytes := beBytes 48 (beVal b % (n384 - 1) + 1)

/-- A signature with a per-message secret from the generator. -/
def State.signBytes (s : State) (d digest : Bytes) : Bytes :=
  (ecdsaSign d digest (s.free 300 % (n384 - 1) + 1)).getD (zeros 96)

/-! Checks. -/

/-- The descriptor's round may issue administrative opcodes (R421). -/
def State.encAdmin (s : State) (d : Desc) : Bool := s.dPid d == 0 || s.bit F.ENC_ADMIN_MASK_MASK (s.dPid d)

/-- The checks of a descriptor that uses slot `k` for operation `op` (R420). -/
def State.slotCheck (s : State) (d : Desc) (k op : Nat) : Option Nat :=
  let v := s.keySlot k
  if s.enc.debug then some St.DEBUG_LOCKED
  else if s.unravelled then some St.NO_IDENTITY
  else if v.ty = 0 then some St.NO_KEY
  else if !bitOf v.pmask (s.dPid d) || !bitOf v.ops op then some St.NOTPERMIT
  else none

/-- The place of the output, and its check: OUT_OFF is at least LENGTH, and the area is mapped and permitted (R443). -/
def Desc.outOff (d : Desc) : Nat := u32 d.raw 24
def State.outCheck (s : State) (d : Desc) (n : Nat) : Option Nat :=
  let a := d.addr + d.outOff
  if d.outOff < d.len || !s.mapped true a n then some St.BADARG
  else match s.denied (s.dPid d) true a n with
    | some _ => some St.NOTPERMIT
    | none => none

/-- The first refusal of a list decides; else the operation goes ahead. -/
def State.encTry (s : State) (d : Desc) (l : List (Option Nat)) (k : State) : State :=
  match l.findSome? id with
  | some st => s.finish d st 0
  | none => k

def failIf (b : Bool) (st : Nat) : Option Nat := if b then some st else none

/-- A stitched operation goes on with the secret it has taken. -/
def State.encBegin (s : State) (d : Desc) (key seed : Bytes) (rec_ : Nat) : State :=
  (s.stitched d 1 0).onEnc fun e => { e with work := e.work ++ [⟨d.round, d.slot, key, seed, rec_⟩] }

def EncWork.is (w : EncWork) (d : Desc) : Bool := w.round == d.round && w.slot == d.slot

def State.dropWork (s : State) (d : Desc) : State :=
  s.onEnc fun e => { e with work := e.work.filter fun w => !w.is d }

/-! Keys. -/

def Desc.policy (d : Desc) : Bytes := leBytes 4 (u32 d.raw 24) ++ leBytes 1 (u8 d.raw 22) ++ leBytes 1 (u8 d.raw 21) ++ [0, 0]
def Desc.target (d : Desc) (key : Bytes) : KeySlot := ⟨u8 d.raw 21, u8 d.raw 22, u32 d.raw 24, key⟩
def Desc.policyBad (d : Desc) : Bool := decide (63 < u8 d.raw 20) || Machine.policyBad (u8 d.raw 21) (u8 d.raw 22) (u32 d.raw 24)

def State.slotUsed (s : State) (k : Nat) : Option Nat := failIf ((s.keySlot k).ty != 0) St.SLOT_USED
def State.adminOnly (s : State) (d : Desc) : Option Nat := failIf (!s.encAdmin d) St.NOTPERMIT
def State.needIdentity (s : State) : Option Nat := failIf s.unravelled St.NO_IDENTITY

/-- KEY_GENERATE; `healthy` tells whether the generator's health tests pass. -/
def State.keyGenerate (s : State) (healthy : Bool) (d : Desc) : State :=
  let ty := u8 d.raw 21
  s.encTry d [s.adminOnly d, failIf (d.policyBad || ty == 4) St.BADARG, s.needIdentity, s.slotUsed (u8 d.raw 20)]
    (if !healthy then (s.raise F.ENC_EVT_RNG_FAIL).finish d St.RNG_FAIL 0
     else
       let b := s.randBytes (typeLen ty)
       ((s.setKeySlot (u8 d.raw 20) (d.target (if ty = 3 then privOf b else b))).drawn).finish d St.OK 0)

/-- The serial as the salt of R422. -/
def State.serial (s : State) : Bytes := leBytes 4 (s.rd R.ENC_SERIAL_LO).toNat ++ leBytes 4 (s.rd R.ENC_SERIAL_HI).toNat

/-- The roots: OTP root and sealing seed, or the test root in place of both while debug is open (R439). -/
def State.roots (s : State) : Bytes := if s.enc.debug then List.replicate 96 0x5A else s.enc.root ++ s.enc.seed

/-- The key that R422 derives. -/
def State.derive (s : State) (ikm label policy : Bytes) (ty : Nat) : Bytes :=
  let k := hkdf384 s.serial ikm (label ++ policy) (typeLen ty)
  if ty = 3 then privOf k else k

/-- KEY_DERIVE: its first stitch takes the key. -/
def State.keyDerive (s : State) (d : Desc) : State :=
  let src := u8 d.raw 23
  let n := u8 d.raw 28
  let v := s.keySlot src
  let fromSlot := src != 0xFF
  let ikm := if !fromSlot then some s.roots
    else if v.ty = 3 then dh384 v.key (d.buf.drop n) else some v.key
  let want := if fromSlot && v.ty == 3 then n + 97 else n
  s.encTry d [s.adminOnly d, failIf (d.policyBad || (fromSlot && decide (63 < src)) || n == 0 || decide (64 < n)) St.BADARG,
      if fromSlot then s.slotCheck d src Ops.DERIVE else s.needIdentity,
      failIf (d.len != want || ikm.isNone) St.BADARG, s.slotUsed (u8 d.raw 20)]
    (s.encBegin d (s.derive (ikm.getD []) (d.buf.take n) d.policy (u8 d.raw 21)) [] 0)

/-- KEY_IMPORT. -/
def State.keyImport (s : State) (d : Desc) : State :=
  let u := u8 d.raw 23
  let n := typeLen (u8 d.raw 21)
  let iv := d.buf.take 12
  let ct := slice d.buf 12 n
  let k := (s.keySlot u).key
  s.encTry d [s.adminOnly d, failIf (d.policyBad || decide (63 < u) || d.len != 28 + n) St.BADARG, s.slotCheck d u Ops.GCM,
      s.slotUsed (u8 d.raw 20), failIf (gcmTag k iv d.policy ct != slice d.buf (12 + n) 16) St.TAG_BAD]
    ((s.setKeySlot (u8 d.raw 20) (d.target (gcmText k iv ct))).finish d St.OK 0)

/-- KEY_ERASE. -/
def State.keyErase (s : State) (d : Desc) : State :=
  let k := u8 d.raw 20
  let v := s.keySlot k
  s.encTry d [failIf (decide (63 < k)) St.BADARG, failIf s.enc.debug St.DEBUG_LOCKED, s.needIdentity,
      failIf (v.ty == 0) St.NO_KEY, failIf (!s.encAdmin d && !bitOf v.pmask (s.dPid d)) St.NOTPERMIT]
    ((s.setKeySlot k (keySlotDefault k)).finish d St.OK v.ty)

/-- The test identity's private key (R439); the spec gives its policy no OPS and no PMASK: free values. -/
def State.testIdentity (s : State) : Bytes :=
  hkdf384 s.serial (List.replicate 96 0x5A) ([0x74, 0x65, 0x73, 0x74, 0x2D, 0x69, 0x64] ++
    leBytes 4 (Config.freeFn 305 0) ++ leBytes 1 (Config.freeFn 304 0) ++ [3, 0, 0]) 48

/-- The private key that signs statements. -/
def State.signer (s : State) : Bytes := if s.enc.debug then privOf s.testIdentity else s.identity

/-- PUBKEY_READ. -/
def State.pubkeyRead (s : State) (d : Desc) : State :=
  let k := u8 d.raw 20
  let v := s.keySlot k
  let key := if k = 0xFF then pubOf s.signer else if v.ty = 3 then pubOf v.key else v.key
  s.encTry d [failIf (decide (63 < k) && k != 0xFF) St.BADARG,
      if k = 0xFF then s.needIdentity
      else if s.enc.debug then some St.DEBUG_LOCKED
      else if s.unravelled then some St.NO_IDENTITY
      else if v.ty = 0 then some St.NO_KEY
      else failIf (!bitOf v.pmask (s.dPid d) || (v.ty != 3 && v.ty != 4)) St.NOTPERMIT,
      s.outCheck d 97]
    (s.finishBuf d d.outOff key St.OK 97)

/-! Operations with keys. -/

/-- SIGN. -/
def State.signOp (s : State) (d : Desc) : State :=
  let k := u8 d.raw 20
  s.encTry d [failIf (decide (63 < k) || d.len != 48) St.BADARG, s.slotCheck d k Ops.SIGN, s.outCheck d 96]
    (s.encBegin d (s.keySlot k).key [] 0)

/-- VERIFY. -/
def State.verifyOp (s : State) (d : Desc) : State :=
  let k := u8 d.raw 20
  let v := s.keySlot k
  s.encTry d [failIf (decide (63 < k) || d.len != 144) St.BADARG, s.slotCheck d k Ops.VERIFY]
    (s.encBegin d (if v.ty = 3 then pubOf v.key else v.key) [] 0)

/-- CMAC. -/
def State.cmacOp (s : State) (d : Desc) : State :=
  let k := u8 d.raw 20
  let n := u8 d.raw 21
  s.encTry d [failIf (decide (63 < k) || decide (n < 4) || decide (16 < n)) St.BADARG, s.slotCheck d k Ops.CMAC, s.outCheck d n]
    (s.finishBuf d d.outOff ((cmacOf (s.keySlot k).key d.buf).take n) St.OK 0)

/-- The initialisation vector that a slot's counter gives; the spec does not say how: a free function of it. -/
def ivOf (ctr : Nat) : Bytes := leBytes 12 (Config.freeFn 303 ctr)

/-- GCM_SEAL. -/
def State.gcmSeal (s : State) (d : Desc) : State :=
  let k := u8 d.raw 20
  let n := u32 d.raw 28
  let iv := ivOf (s.gcmCtr k)
  let key := (s.keySlot k).key
  let ct := gcmText key iv (d.buf.drop n)
  let out := iv ++ ct ++ gcmTag key iv (d.buf.take n) ct
  s.encTry d [failIf (decide (63 < k) || decide (d.len < n)) St.BADARG, s.slotCheck d k Ops.GCM, s.outCheck d (d.len - n + 28)]
    ((s.onEnc fun e => { e with ctr := storeSet cntDefault e.ctr k (s.gcmCtr k + 1), stale := false }).finishBuf d d.outOff out St.OK
      out.length)

/-- GCM_OPEN: a bad tag leaves the output area zeroed. -/
def State.gcmOpen (s : State) (d : Desc) : State :=
  let k := u8 d.raw 20
  let n := u32 d.raw 28
  let m := d.len - n - 28
  let iv := d.buf.take 12
  let key := (s.keySlot k).key
  let ct := slice d.buf (12 + n) m
  let ok := gcmTag key iv (slice d.buf 12 n) ct == slice d.buf (12 + n + m) 16
  s.encTry d [failIf (decide (63 < k) || decide (d.len < n + 28)) St.BADARG, s.slotCheck d k Ops.GCM, s.outCheck d m]
    (if ok then s.finishBuf d d.outOff (gcmText key iv ct) St.OK m
     else s.finishBuf d d.outOff (zeros m) St.TAG_BAD 0)

/-! Attestation: CBOR in core deterministic encoding (R440). -/

/-- The head of an item of major type `m` with argument `n`. -/
def cborHead (m n : Nat) : Bytes :=
  let b := fun (x : Nat) => leBytes 1 (32 * m + x)
  if n < 24 then b n else if n < 256 then b 24 ++ beBytes 1 n else if n < 65536 then b 25 ++ beBytes 2 n
  else if n < 2 ^ 32 then b 26 ++ beBytes 4 n else b 27 ++ beBytes 8 n
def cborUint (n : Nat) : Bytes := cborHead 0 n
def cborBstr (b : Bytes) : Bytes := cborHead 2 b.length ++ b

/-- The pair role of a statement: 0 unpaired, 1 primary, 2 standby. -/
def State.pairRole (s : State) : Nat :=
  match s.get F.PAI_STAT_ROLE with
  | 3 => 1
  | 2 => 2
  | _ => 0

/-- The payload of a statement. -/
def State.attestPayload (s : State) (pub nonce : Bytes) : Bytes :=
  cborHead 5 11 ++ cborUint 1 ++ cborBstr (sha384 pub) ++ cborUint 2 ++ cborUint (leVal s.serial) ++
    cborUint 3 ++ cborUint (s.rd R.ENC_BOOT_CNT).toNat ++
    cborUint 4 ++ cborHead 4 s.enc.meas.length ++
      (s.enc.meas.flatMap fun m => cborHead 4 3 ++ cborUint m.1 ++ cborUint m.2.1 ++ cborBstr m.2.2) ++
    cborUint 5 ++ cborUint (b2n s.enc.debug) ++ cborUint 6 ++ cborUint (b2n s.enc.debug) ++
    cborUint 7 ++ cborUint (bits (s.rd R.ENC_TAMP_STAT).toNat 6 0) ++ cborUint 8 ++ cborUint (s.get F.ENC_STAT_RECORD) ++
    cborUint 9 ++ cborHead 4 2 ++ cborUint s.pairRole ++ cborUint (s.get F.PAI_TERM_TERM) ++
    cborUint 10 ++ cborBstr nonce ++ cborUint 11 ++ cborUint s.timNow

/-- The COSE_Sign1 statement. -/
def State.statement (s : State) (nonce : Bytes) : Bytes :=
  let pub := pubOf s.signer
  let prot := cborBstr (cborHead 5 2 ++ cborUint 1 ++ cborHead 1 34 ++ cborUint 4 ++ cborBstr ((sha384 pub).take 16))
  let pay := cborBstr (s.attestPayload pub nonce)
  let sig := [0x6A, 0x53, 0x69, 0x67, 0x6E, 0x61, 0x74, 0x75, 0x72, 0x65, 0x31]
  [0xD2] ++ cborHead 4 4 ++ prot ++ cborHead 5 0 ++ pay ++
    cborBstr (s.signBytes s.signer (sha384 (cborHead 4 4 ++ sig ++ prot ++ cborBstr [] ++ pay)))

/-- ATTEST. -/
def State.attest (s : State) (d : Desc) : State :=
  let n := u8 d.raw 20
  s.encTry d [failIf (decide (n < 8) || decide (64 < n) || d.len != n) St.BADARG, s.needIdentity,
      s.outCheck d (s.statement d.buf).length]
    (s.encBegin d [] [] 0)

/-! Challenges and tokens (R429, R430). -/

def State.debugChallenge (s : State) (d : Desc) : State :=
  s.encTry d [s.adminOnly d]
    (((s.onEnc fun e => { e with chal := some (s.free 306 % 2 ^ 64, s.now) }).drawn).finish d St.OK (s.free 306 % 2 ^ 64))

/-- The hash against which the signer's key is held. -/
def State.signerHash (s : State) (n : Nat) : Option Bytes :=
  if n = 0 then some s.enc.vendor
  else if n = 1 then (if s.on F.ENC_ROOTS_SET0 && !s.on F.ENC_ROOTS_REV0 then some (storeGet noBytes s.enc.cust 0) else none)
  else if n = 2 then (if s.on F.ENC_ROOTS_SET1 && !s.on F.ENC_ROOTS_REV1 then some (storeGet noBytes s.enc.cust 1) else none)
  else none

/-- A token is accepted for opcode kind `kind`. -/
def State.tokenOk (s : State) (t : Bytes) (kind : Nat) : Bool :=
  let a := u8 t 2
  let key := slice t 20 97
  u8 t 0 == kind &&
    (if kind = 1 then a == 0 else if kind = 2 then decide (a < 8) || a == 0xFF else decide (a < 2) && u8 t 1 != a + 1) &&
    u8 t 3 == 0 && slice t 4 8 == s.serial && allZero t 117 120 && t.length == 216 &&
    (match s.enc.chal with
     | some (c, at_) => u64 t 12 == c && decide (s.now < at_ + 60 * 10 ^ 9)
     | none => false) &&
    s.signerHash (u8 t 1) == some (sha384 key) && ecdsaOk key (sha384 (t.take 120)) (slice t 120 96)

/-- The challenge is used up; a token that is not accepted is counted. -/
def State.withToken (s : State) (d : Desc) (kind : Nat) (k : State → State) : State :=
  let ok := s.tokenOk d.buf kind
  let s := s.onEnc fun e => { e with chal := none }
  if ok then k s else (s.count C.ENC_TOKEN_BAD).finish d St.TOKEN_BAD 0

def State.debugOpen (s : State) (d : Desc) : State :=
  s.encTry d [s.adminOnly d, failIf (s.on F.ENC_STAT_DEBUG_FUSE) St.NOTPERMIT]
    (s.withToken d 1 fun s => (((s.onEnc fun e => { e with debug := true }).encShow).raise F.ENC_EVT_DEBUG).finish d St.OK 0)

def State.revoke (s : State) (d : Desc) : State :=
  s.encTry d [s.adminOnly d]
    (s.withToken d 3 fun s =>
      let s := (s.put (if u8 d.buf 2 = 0 then F.ENC_ROOTS_REV0 else F.ENC_ROOTS_REV1) 1).raise F.ENC_EVT_REVOKED
      s.finish d St.OK ((s.rd R.ENC_ROOTS).toNat % 256))

/-- CUSTKEY_SET. -/
def State.custSet (s : State) (n : Nat) : Bool := s.on (if n = 0 then F.ENC_ROOTS_SET0 else F.ENC_ROOTS_SET1)
def State.custkeySet (s : State) (d : Desc) : State :=
  let n := u8 d.raw 20
  s.encTry d [s.adminOnly d, failIf (decide (1 < n) || d.len != 48) St.BADARG, failIf (s.custSet n) St.OTP_FULL]
    (s.encBegin d d.buf [] n)

/-! Enrolment (R438). -/

/-- The record a token's ARG names, if it is free. -/
def State.enrolRec (s : State) (a : Nat) : Option Nat :=
  if a = 0xFF then (List.range 8).find? fun n => (s.idRec n).state == 0
  else if (s.idRec a).state = 0 then some a else none

/-- ENROL: its first stitch takes the token and draws the seed and the key. -/
def State.enrol (s : State) (healthy : Bool) (d : Desc) : State :=
  s.encTry d [s.adminOnly d, s.outCheck d 97]
    (s.withToken d 2 fun s =>
      if !healthy then (s.raise F.ENC_EVT_RNG_FAIL).finish d St.RNG_FAIL 0
      else
        match s.enrolRec (u8 d.buf 2) with
        | none => s.finish d St.OTP_FULL 0
        | some n => ((s.encBegin d (privOf (s.drawn.randBytes 48)) (s.randBytes 48) n).drawn).drawn)

/-- Step 5 of R438, after the record is programmed and verified. -/
def State.enrolled (s : State) (d : Desc) (w : EncWork) : State :=
  let s := (s.dropWork d).setIdRec w.rec_ ⟨1, w.key, w.seed⟩
  let s := s.onEnc fun e => { e with seed := w.seed, slots := [], aon := 0, stale := false }
  let s := s.wr R.ENC_TAMP_STAT (BitVec.ofNat 32 (setBits (s.rd R.ENC_TAMP_STAT).toNat 6 0 0))
  let s := (s.put F.ENC_TAMP_CFG_LOCK 0).put F.ENC_STAT_RECORD w.rec_
  let s := s.encShow.raise F.ENC_EVT_ENROLLED
  s.finishBuf d d.outOff (pubOf w.key) St.OK w.rec_

/-! The later stitches of a stitched opcode. -/

/-- The next stitch of an enclave operation. -/
def State.encStitch (s : State) (d : Desc) : State :=
  match s.enc.work.find? (·.is d) with
  | none => s
  | some w =>
    let s := if d.opcode = 14 then s else s.updDesc d fun e => { e with stitches := d.stitches + 1 }
    match d.opcode with
    | 2 =>
      let s := s.dropWork d
      if (s.keySlot (u8 d.raw 20)).ty != 0 then s.finish d St.SLOT_USED 0
      else (s.setKeySlot (u8 d.raw 20) (d.target w.key)).finish d St.OK 0
    | 6 => ((s.dropWork d).finishBuf d d.outOff (s.signBytes w.key d.buf) St.OK 0).drawn
    | 7 => (s.dropWork d).finish d St.OK (b2n (ecdsaOk w.key (d.buf.take 48) (d.buf.drop 48)))
    | 11 =>
      let b := s.statement d.buf
      ((s.dropWork d).finishBuf d d.outOff b St.OK b.length).drawn
    | 14 =>
      if d.prog = 1 then (s.setIdRec w.rec_ ⟨3, w.key, w.seed⟩).encShow.stitched d 2 0
      else (s.updDesc d fun e => { e with stitches := d.stitches + 1 }).enrolled d w
    | _ =>
      let s := s.dropWork d
      if s.custSet w.rec_ then s.finish d St.OTP_FULL 0
      else ((s.onEnc fun e => { e with cust := storeSet noBytes e.cust w.rec_ w.key }).put
        (if w.rec_ = 0 then F.ENC_ROOTS_SET0 else F.ENC_ROOTS_SET1) 1).finish d St.OK 0

/-! Tamper (R433, R436). -/

/-- The bytes of an operation's output area. -/
def State.outLen (s : State) (d : Desc) : Nat :=
  match d.opcode with
  | 6 => 96
  | 11 => (s.statement d.buf).length
  | 14 => 97
  | _ => 0

/-- An enclave operation in progress is torn. -/
def State.tear (s : State) (d : Desc) : State :=
  let s := ((s.fabWrite (.round d.round) (d.addr + d.outOff) (zeros (s.outLen d))).1.count C.ENC_TORN).raise F.ENC_EVT_TORN
  s.finish d St.TORN 0

/-- The enclave's operations in progress. -/
def State.encRunning (s : State) : List Desc :=
  s.rnd.descs.filter fun d => d.func == 0x13 && d.started && d.running && d.fin.isNone

/-- The tamper line is asserted by source `src`: a bit of ENC_TAMP_STAT. -/
def State.tamper (s : State) (src : Nat) : State :=
  let run := if s.pow.logic then s.encRunning else []
  let s := forEach run (fun d t => if t.outLen d = 0 then ((t.count C.ENC_TORN).raise F.ENC_EVT_TORN).finish d St.TORN 0 else t.tear d) s
  let s := s.onEnc fun e => { e with
    seed := zeros 48, slots := [], ctr := [], work := [], aon := setBit e.aon src }
  let s := s.wr R.ENC_TAMP_STAT (BitVec.ofNat 32 (setBit (s.rd R.ENC_TAMP_STAT).toNat src))
  let s := s.put F.ENC_TAMP_STAT_COUNT (min 255 (s.get F.ENC_TAMP_STAT_COUNT + 1))
  if !s.pow.logic then s
  else (if s.get F.ENC_STAT_STATE = 3 then s else s.encShow).raise F.ENC_EVT_TAMPER

/-- A gateway CMAC in progress stops: its frame is dropped (R301). -/
def State.gwTorn (s : State) (rule : Option Nat) : State :=
  match rule with
  | none => s
  | some r =>
    let s := (s.count C.GWY_AUTH_TORN).raise F.GWY_EVT_AUTH_TORN
    (s.put F.GWY_LAST_INFO_KIND 10).put F.GWY_LAST_INFO_RULE r

/-- Tamper source `src` is watched (R431): a pin only when enabled, glitches only while VLOG is up. -/
def State.tampWatched (s : State) (src : Nat) : Bool :=
  match src with
  | 0 => s.on F.ENC_TAMP_CFG_TAMP0_EN
  | 1 => s.on F.ENC_TAMP_CFG_TAMP1_EN
  | 5 => s.pow.vlog
  | n => decide (n ≤ 4)

/-- TAMPER_ASSERT: `src` is the source's bit in ENC_TAMP_STAT, `torn` the rule whose CMAC was in progress. Source VBAK asserts
no line: VBAK has been out of range, and the next check of the key store finds it so (R418). -/
def execTamperAssert (src : Nat) (torn : Option Nat) (s : State) : Res :=
  .next (if src = 6 then s.onEnc fun e => { e with stale := true }
    else if s.tampWatched src then (s.tamper src).gwTorn (if s.pow.logic then torn else none) else s)

/-- CHALLENGE_EXPIRY: 60 s after the challenge was given. -/
def execChallengeExpiry (s : State) : Res :=
  .next (match s.enc.chal with
    | some (_, t) => if t + 60 * 10 ^ 9 ≤ s.now then s.onEnc fun e => { e with chal := none } else s
    | none => s)

def execKeyGenerate (r : Nat) (healthy : Bool) (s : State) : Res :=
  .next (s.withOp r 0x13 1 fun d => s.keyGenerate healthy d)
def execKeyDerive (r : Nat) (s : State) : Res := .next (s.withOp r 0x13 2 fun d => s.keyDerive d)
def execKeyImport (r : Nat) (s : State) : Res := .next (s.withOp r 0x13 3 fun d => s.keyImport d)
def execKeyErase (r : Nat) (s : State) : Res := .next (s.withOp r 0x13 4 fun d => s.keyErase d)
def execPubkeyRead (r : Nat) (s : State) : Res := .next (s.withOp r 0x13 5 fun d => s.pubkeyRead d)
def execSign (r : Nat) (s : State) : Res := .next (s.withOp r 0x13 6 fun d => s.signOp d)
def execVerify (r : Nat) (s : State) : Res := .next (s.withOp r 0x13 7 fun d => s.verifyOp d)
def execCmac (r : Nat) (s : State) : Res := .next (s.withOp r 0x13 8 fun d => s.cmacOp d)
def execGcmSeal (r : Nat) (s : State) : Res := .next (s.withOp r 0x13 9 fun d => s.gcmSeal d)
def execGcmOpen (r : Nat) (s : State) : Res := .next (s.withOp r 0x13 10 fun d => s.gcmOpen d)
def execAttest (r : Nat) (s : State) : Res := .next (s.withOp r 0x13 11 fun d => s.attest d)
def execDebugChallenge (r : Nat) (s : State) : Res := .next (s.withOp r 0x13 12 fun d => s.debugChallenge d)
def execDebugOpen (r : Nat) (s : State) : Res := .next (s.withOp r 0x13 13 fun d => s.debugOpen d)
def execEnrol (r : Nat) (healthy : Bool) (s : State) : Res := .next (s.withOp r 0x13 14 fun d => s.enrol healthy d)
def execRevoke (r : Nat) (s : State) : Res := .next (s.withOp r 0x13 15 fun d => s.revoke d)
def execCustkeySet (r : Nat) (s : State) : Res := .next (s.withOp r 0x13 16 fun d => s.custkeySet d)

end Sys2Proof.Machine
end

