-- ==== Sys2Proof/Machine/Gateway.lean ====
section
/-! DEFINITION. The gateway's commands: Ethernet frames at port W (R285, R289), releases and time-outs (R291, R294 to
R296), and the opcodes of R306. -/
namespace Sys2Proof.Machine

def St.RULE_DUP : Nat := 0x0B00
def St.KEY_BAD : Nat := 0x0B01
def St.FRESH_LOW : Nat := 0x0B02

/-! Frames of IEEE 1722 received at port W. -/

/-- An ACF CAN message of stream handle `h` as a frame: type 1 with its 16-byte header, or 2, the brief form. -/
def acfFrame (ty : Nat) (b : Bytes) : CanFrame :=
  let fl := u8 b 2
  let h := if ty = 1 then 16 else 8
  let id := be32 b (h - 4) % 2 ^ 29
  let d := b.drop h
  let data := d.take (d.length - fl / 64)
  let rtr := bitOf fl 4
  let fmt := b2n (bitOf fl 1)
  ⟨fmt, id, bitOf fl 3, rtr, bitOf fl 2, bitOf fl 0, false, dlcOf fmt data.length, 0, 0, 0, if rtr then [] else data⟩

/-- The lowest-numbered enabled rule that takes an ACF CAN message. -/
def State.acfRule (s : State) (h bus : Nat) (f : CanFrame) : Option Nat :=
  (s.gwy.rules.find? fun r => r.2.en && r.2.srcType == 3 && !r.2.mismatches ⟨f, 3, bus, h, 0⟩).map (·.1)

def State.gwNoMatch (s : State) : State := (s.count C.GWY_ETH_NOMATCH).raise F.GWY_EVT_ETH_NOMATCH

/-- One ACF message. Its source timestamp in the gateway is not given: a free value. -/
def State.acfMessage (s : State) (h : Nat) (b : Bytes) : State :=
  let ty := u8 b 0 / 2
  if ty ≠ 1 ∧ ty ≠ 2 then s.gwNoMatch
  else
    let f := acfFrame ty b
    let bus := u8 b 3 % 32
    match s.acfRule h bus f with
    | none => s.gwNoMatch
    | some r => (s.gateway r ⟨f, 3, bus, h, s.free 230 % 2 ^ 32⟩).drawn

/-- The ACF messages of a payload, first to last; a message without length ends it. -/
def State.acfAll (h : Nat) : Nat → Bytes → State → State
  | 0, _, s => s
  | k + 1, b, s =>
    let n := 4 * (be16 b 0 % 512)
    if b.length < 4 ∨ n = 0 then s else State.acfAll h k (b.drop n) (s.acfMessage h (slice b 0 n))

/-- A sequence number of stream handle `h` is received. -/
def State.acfSeq (s : State) (h n : Nat) : State :=
  let s' := s.onGwy fun g => { g with seqs := storeSet noneDefault g.seqs h (some n) }
  match storeGet noneDefault s.gwy.seqs h with
  | some l => if (l + 1) % 256 = n then s' else s'.count C.GWY_ACF_GAP
  | none => s'

/-- A frame that the switch core has delivered to port W. -/
def State.gwEthFrame (s : State) (h : Nat) (b : Bytes) : State :=
  let b := stripTag b
  let p := b.drop 14
  if !s.gwOn || etherType b != 0x22F0 then s
  else if u8 p 0 = 0x82 then State.acfAll h 512 ((p.drop 12).take (be16 p 1 % 2048)) (s.acfSeq h (u8 p 3))
  else if u8 p 0 = 0x05 then State.acfAll h 512 ((p.drop 24).take (be16 p 20)) (s.acfSeq h (u8 p 2))
  else s

/-- GATEWAY_ETH_FRAME: the oldest frame at port W is taken apart; a frame of no stream matches no rule. -/
def execGatewayEthFrame (s : State) : Res :=
  .next (match s.swc.wIn with
    | [] => s
    | (h, b) :: r => (s.onSwc fun w => { w with wIn := r }).gwEthFrame (h.getD 1024) b)

/-- RATE_HOLD_RELEASE: the held frame of rule `rule` leaves once it is eligible. -/
def execRateHoldRelease (rule : Nat) (s : State) : Res := .next (s.gwRelease rule)

/-- Map `i` enters timeout (R295). -/
def State.gwMapTmo (s : State) (i : Nat) : State :=
  let m := s.gwMap i
  let p := s.gwPdu m.pdu
  let n := p.data.length
  let d := if m.flag 2 && decide (m.updBit < 8 * n) then setPduBit p.data m.updBit false else p.data
  let d := if m.flag 3 && fieldIn m.dst n then writeField d m.dst (bitList m.len m.dflt) else d
  let s := (s.setGwMap i { m with tmo := true }).setGwPdu m.pdu { p with data := d }
  (s.count C.GWY_SIG_TMO).raise F.GWY_EVT_SIG_TMO

/-- MAP_TIMEOUT: TMO ms have passed on the timer of map `k`. -/
def execMapTimeout (k : Nat) (s : State) : Res :=
  .next (let m := s.gwMap k
    if !m.raw.isEmpty && !m.tmo && m.tmoMs != 0 && decide (m.timer + 1000000 * m.tmoMs ≤ s.now) then s.gwMapTmo k else s)

/-- PDU_PERIODIC_SEND: a periodic time of PDU `k` has come. -/
def execPduPeriodicSend (k : Nat) (s : State) : Res :=
  .next (let p := s.gwPdu k
    if bitOf p.mode 1 && decide (p.next ≤ s.now) then
      (s.setGwPdu k { p with next := p.next + 1000000 * p.period }).gwSendPdu k
    else s)

/-- NTSCF_BATCH_TIMEOUT: BATCH_US after the first collected message of template `t`. -/
def execNtscfBatchTimeout (t : Nat) (s : State) : Res :=
  .next (let m := s.gwTmpl t
    if !m.msgs.isEmpty && decide (m.first + 1000 * m.batch ≤ s.now) then s.gwFlush t else s)

/-- GW_RECV_HOLD_TIMEOUT: HOLD_US after the first record of the GW_RECV that round `r` fills. -/
def execGwRecvHoldTimeout (r : Nat) (s : State) : Res :=
  .next (match s.gwRecvs r with
    | [] => s
    | d :: _ =>
      if d.acc != 0 && decide (storeGet cntDefault s.gwy.recvAt (recvKey d) + 1000 * u32 d.raw 20 ≤ s.now) then s.recvEnd d
      else s)

/-! Opcodes (R306). -/

/-- A configuring opcode, for a round whose partition GWY_CFG_MASK admits. -/
def State.gwCfg (s : State) (d : Desc) (k : State) : State :=
  if s.bit F.GWY_CFG_MASK_MASK (s.dPid d) then k else s.finish d St.NOTPERMIT 0

/-- An identifier field breaks its range (R284). -/
def gwIdBad (v : Nat) : Bool := v / 2 ^ 29 % 4 != 0 || (decide (v < 2 ^ 31) && decide (0x7FF < v))

/-- The greatest unit and selector of a source type, and unit and sub of a destination type. -/
def srcMax (t : Nat) : Nat × Nat := [(255, 65535), (11, 0), (7, 15), (31, 1023), (0, 511)].getD t (0, 0)
def dstMax (t : Nat) : Nat × Nat := [(255, 0), (11, 3), (63, 7), (63, 0), (255, 0)].getD t (0, 0)

/-- VLENS or ALENS breaks its range. -/
def lensBad (l : Nat) : Bool := decide (tagLen l < 4) || decide (16 < tagLen l) || fvLen l == 0 || decide (4 < fvLen l)

/-- A rule's record is refused (R284). -/
def GwRule.bad (v : GwRule) : Bool :=
  decide (4 < v.srcType) || decide (4 < v.dstType) || v.flag 7 || decide (3 < u8 v.raw 20) ||
  decide ((srcMax v.srcType).1 < v.srcUnit) || decide ((srcMax v.srcType).2 < v.srcSel) ||
  decide ((dstMax v.dstType).1 < v.dstUnit) || decide ((dstMax v.dstType).2 < v.dstSub) ||
  gwIdBad v.idLo || gwIdBad v.idHi || gwIdBad v.dstId || v.idLo / 2 ^ 31 != v.idHi / 2 ^ 31 ||
  (v.verifies && lensBad v.vlens) || (v.appends && lensBad v.alens) ||
  decide (63 < v.vkey) || decide (63 < v.akey) || decide (1 < u8 v.raw 25) || decide (511 < v.vfresh) ||
  decide (511 < v.afresh) || v.fburst == 0 || decide (10000000 < v.minIvl) || decide (4095 < v.mapFirst) ||
  decide (64 < v.mapCount) || decide (4096 < v.mapFirst + v.mapCount) ||
  (decide (2047 < v.nextRule) && v.nextRule != 0xFFFF) || decide (31 < v.busId) || u8 v.raw 55 != 0 ||
  !allZero v.raw 62 64 ||
  (v.dstType == 3 && (v.ringAt % 8 != 0 || regionOf v.ringAt != some (.sram, 0x100000000, 0x100800000))) ||
  (v.srcType == 4 && v.dstType == 1 && !v.newId) || (v.flag 6 && v.dstType == 1 && decide (v.dstUnit < 8))

/-- Another enabled rule takes the same serial PDUs or the same PDU. -/
def State.gwDup (s : State) (r : Nat) (v : GwRule) : Bool :=
  v.en && (v.srcType == 2 || v.srcType == 4) && s.gwy.rules.any fun w =>
    w.1 != r && w.2.en && w.2.srcType == v.srcType && w.2.srcUnit == v.srcUnit && w.2.srcSel == v.srcSel

/-- A key that the rule needs is not in the gateway (R301). -/
def State.gwNoKey (s : State) (v : GwRule) : Bool :=
  (v.verifies && (s.cmacKey v.vkey).isNone) || (v.appends && (s.cmacKey v.akey).isNone)

/-- RULE_SET. -/
def State.ruleSet (s : State) (d : Desc) : State :=
  let r := u16 d.raw 20
  let v : GwRule := { gwRuleDefault 0 with raw := d.buf, last := s.now }
  s.gwCfg d
    (if decide (2047 < r) || d.len != 64 || v.bad then s.finish d St.BADARG 0
     else if s.gwDup r v then s.finish d St.RULE_DUP 0
     else if s.gwNoKey v then s.finish d St.KEY_BAD 0
     else (s.setGwRule r { v with ftok := 10 ^ 9 * v.fburst, btok := 10 ^ 9 * v.bburst }).finish d St.OK 0)

/-- A map's record is refused (R293). -/
def GwMap.bad (m : GwMap) : Bool :=
  decide (16383 < m.srcStart) || m.len == 0 || decide (64 < m.len) || decide (16 ≤ u8 m.raw 3) || decide (511 < m.pdu) ||
    decide (511 < m.dstStart) || decide (511 < m.updBit) || !allZero m.raw 12 16

/-- One stitch of MAP_LOAD: at most 256 maps. -/
def State.mapStitch (s : State) (d : Desc) : State :=
  let cnt := u16 d.raw 22
  let n := min 256 (cnt - d.prog)
  let s := forEach (List.range n) (fun i t =>
    t.setGwMap (u16 d.raw 20 + d.prog + i) ⟨slice d.buf (24 * (d.prog + i)) 24, s.now, false⟩) s
  if d.prog + n = cnt then s.lastStitch d St.OK cnt else s.stitched d (d.prog + n) (d.prog + n)

/-- MAP_LOAD: every map is checked before the first is loaded. -/
def State.mapLoad (s : State) (d : Desc) : State :=
  let first := u16 d.raw 20
  let cnt := u16 d.raw 22
  s.gwCfg d
    (if cnt == 0 || decide (4096 < first + cnt) || d.len != 24 * cnt ||
        (List.range cnt).any fun i => GwMap.bad ⟨slice d.buf (24 * i) 24, 0, false⟩ then s.finish d St.BADARG 0
     else s.mapStitch d)

/-- PDU_SET (R294). -/
def State.pduSet (s : State) (d : Desc) : State :=
  let k := u16 d.raw 20
  let n := u8 d.raw 22
  let m := u8 d.raw 23
  let per := u16 d.raw 24
  s.gwCfg d
    (if decide (511 < k) || n == 0 || decide (64 < n) || decide (3 < m) || d.len != n || (bitOf m 1 && per == 0) then
      s.finish d St.BADARG 0
     else (s.setGwPdu k ⟨d.buf, m, per, s.now + 1000000 * per⟩).finish d St.OK s.timNow)

/-- TEMPLATE_SET; messages that have collected leave under the old template. -/
def State.templateSet (s : State) (d : Desc) : State :=
  let t := u8 d.raw 20
  let n := u8 d.raw 21
  let b := u16 d.raw 22
  let m := u16 d.raw 24
  s.gwCfg d
    (if decide (63 < t) || n == 0 || decide (64 < n) || d.len != n || decide (1000 < b) || decide (m < 20) || decide (1480 < m) then
      s.finish d St.BADARG 0
     else
       let s := s.gwFlush t
       (s.setGwTmpl t { s.gwTmpl t with hdr := d.buf, batch := b, maxData := m }).finish d St.OK 0)

/-- FRESH_SET (R300). -/
def State.freshSet (s : State) (d : Desc) : State :=
  let c := u16 d.raw 20
  let v := u32 d.raw 24
  s.gwCfg d
    (if 511 < c then s.finish d St.BADARG 0
     else
       match s.gwFresh c with
       | none => (s.setGwFresh c (some v)).finish d St.OK 0
       | some o => if v < o then s.finish d St.FRESH_LOW 0 else (s.setGwFresh c (some v)).finish d St.OK o)

/-- RULE_READ (R533). -/
def State.ruleRead (s : State) (d : Desc) : State :=
  let r := u16 d.raw 20
  if decide (2047 < r) || decide (d.len < 32) then s.finish d St.BADARG 0
  else
    let v := s.gwRule r
    (s.setGwRule r { v with cnt := [0, 0, 0, 0] }).finishBuf d 0 (v.cnt.flatMap (leBytes 8)) St.OK 32

def execRuleSet (r : Nat) (s : State) : Res := .next (s.withOp r 0x0A 1 fun d => s.ruleSet d)
def execMapLoad (r : Nat) (s : State) : Res := .next (s.withOp r 0x0A 2 fun d => s.mapLoad d)
def execPduSet (r : Nat) (s : State) : Res := .next (s.withOp r 0x0A 3 fun d => s.pduSet d)
def execTemplateSet (r : Nat) (s : State) : Res := .next (s.withOp r 0x0A 4 fun d => s.templateSet d)
def execFreshSet (r : Nat) (s : State) : Res := .next (s.withOp r 0x0A 5 fun d => s.freshSet d)
/-- GW_RECV: its buffer waits for records. -/
def execGwRecv (r : Nat) (s : State) : Res :=
  .next (s.withOp r 0x0A 6 fun d => if 1000000 < u32 d.raw 20 then s.finish d St.BADARG 0 else s.hold d)
def execRuleRead (r : Nat) (s : State) : Res := .next (s.withOp r 0x0A 7 fun d => s.ruleRead d)

end Sys2Proof.Machine
end

