-- ==== Sys2Proof/Machine/Ldc.lean ====
section
/-! DEFINITION. Load channels: the opcodes of R354, and what the power dies do on their own (R335 to R351). -/
namespace Sys2Proof.Machine

def St.LATCHED : Nat := 0x0D00
def St.CAST_OFF : Nat := 0x0D01
def St.NOT_OFF : Nat := 0x0D02
def St.NV_FAIL : Nat := 0x0D03

/-- The partition of a descriptor may issue LDC opcodes (R354). -/
def State.ldcMay (s : State) (d : Desc) : Bool := s.bit F.LDC_CFG_MASK_MASK (s.dPid d)

/-- A channel number in use as a leader (R331). -/
def State.isLeader (s : State) (n : Nat) : Bool := decide (n < 32) && s.leader n == n

/-! CH_SET (R336, R348 to R350, R383). -/

/-- P(on) of the channel or group that `l` leads, in mW: the sum over its members. -/
def State.groupOn (s : State) (l : Nat) : Nat := ((s.members l).map s.pOn).sum

/-- The change of power of a CH_SET, in mW (R535); 0 for a CRITICAL channel. -/
def State.setDelta (s : State) (l cmd duty : Nat) : Int :=
  let p := s.groupOn l
  let c := s.ldcCh l
  let now := if !s.cmdOn l then 0 else if c.pwm then p * c.duty / 4096 else p
  let new := if cmd = 0 then 0 else if cmd = 2 then p * duty / 4096 else p
  if s.isCritical l then 0 else (new : Int) - now

/-- The command is kept, in every state (R336), and counts in Gauge's projection. -/
def State.recordCmd (s : State) (l cmd duty : Nat) : State :=
  let d := s.setDelta l cmd duty
  let s := s.onGau fun g => if d = 0 then g else { g with acts := (s.now, d) :: g.acts }
  forEach (s.members l) (fun n t => t.put (F.LDC_L_STAT_CMD_ON n) (b2n (cmd != 0)))
    (s.setCh l { s.ldcCh l with pwm := cmd == 2, duty := if cmd = 2 then duty else (s.ldcCh l).duty })

/-- A kept command takes effect in the states that follow it. -/
def State.obeyCmd (s : State) (l : Nat) : State :=
  let st := s.chState l
  let c := s.ldcCh l
  if st = Ch.OFF then (if s.cmdOn l then s.startCh l else s)
  else if st = Ch.INRUSH ∨ st = Ch.ON then
    if !s.cmdOn l then s.toState l Ch.OFF
    else if !c.pwm then s.setPwm l false
    else if s.on (F.LDC_L_STAT_PWM l) then s
    else (s.setCh l { c with dutyNow := c.duty }).setPwm l true
  else if st = Ch.TRIPPED ∧ !s.cmdOn l then s.toState l Ch.OFF
  else s

/-- The status of a CH_SET that has been kept. -/
def setStatus (st cmd : Nat) : Nat :=
  if cmd = 0 then St.OK
  else if st = Ch.LATCH_THERM then St.LATCHED
  else if st = Ch.LATCH_RETRY then St.RETRY_EXHAUSTED
  else if st = Ch.SHED then St.ENERGY
  else St.OK

/-- CH_SET. -/
def State.chSet (s : State) (d : Desc) : State :=
  let n := u8 d.raw 20
  let cmd := u8 d.raw 21
  let duty := u16 d.raw 22
  let term := u32 d.raw 24
  let answer := fun (t : State) (st : Nat) => t.finish d st (t.chState n + 2 ^ 32 * t.get F.TIM_NOW_NOW)
  if !s.ldcMay d then s.finish d St.NOTPERMIT 0
  else if !s.isLeader n || decide (2 < cmd) || decide (4095 < duty) || (!s.on F.PAI_CTL_EN && term != 0) then
    s.finish d St.BADARG 0
  else if s.on F.PAI_CTL_EN && term != s.get F.PAI_TERM_TERM then s.finish d St.TERM 0
  else if !s.dieThere (n / 8) || (s.ldcBank (n / 8)).castOff then answer s St.CAST_OFF
  else if s.chState n = Ch.HELD then answer s St.NOTPERMIT
  else if 0 < s.setDelta n cmd duty ∧ !s.affords (s.setDelta n cmd duty) s.floorPj then s.energyRefuse d
  else
    let t := (s.recordCmd n cmd duty).obeyCmd n
    answer t (setStatus (t.chState n) cmd)

def execChSet (r : Nat) (s : State) : Res := .next (s.withOp r 0x0C 1 fun d => s.chSet d)

/-! CH_CONFIG (R353). -/

def inRange (lo hi v : Nat) : Bool := decide (lo ≤ v) && decide (v ≤ hi)

/-- The ranges of a configuration record. -/
def cfgOk (c : Bytes) : Bool :=
  inRange 200 1600 (cfgIlim c) && inRange 200 1600 (cfgInrush c) && decide (cfgInrushMs c ≤ 2000) &&
    inRange 1 1000 (cfgLimTime c) && decide (cfgRetryN c ≤ 15) && inRange 1 15 (cfgThermN c) &&
    inRange 10 60000 (cfgRetryMs c) && inRange 20 90 (cfgTlim c) && decide (u8 c 13 ≤ 2) &&
    decide (cfgOlOn c ≤ 60000) && inRange 1 1000 (u16 c 16) && decide (u8 c 18 < 16) && decide (cfgShedPrio c ≤ 7) &&
    decide (cfgCoMode c ≤ 3) && u8 c 21 == 0 && decide (cfgCoDuty c ≤ 4095) && decide (u16 c 24 ≤ 4095) && allZero c 26 32

/-- With `join` the bank of channel `n` has a JOIN on its first channel, or a group of five (R331). -/
def joinBad (join : Nat → Bool) (b : Nat) : Bool :=
  join (8 * b) || (chansOf b).any fun n => decide (n < leadFrom join 7 n + 8) && decide (leadFrom join 7 n + 4 ≤ n)

/-- A member of a group shows its leader's state and command. -/
def State.follow (n : Nat) (s : State) : State :=
  let l := s.leader n
  if l = n then s
  else ((s.put (F.LDC_L_STAT_STATE n) (s.chState l)).put (F.LDC_L_STAT_CMD_ON n) (b2n (s.cmdOn l))).put
    (F.LDC_L_STAT_PWM n) (s.get (F.LDC_L_STAT_PWM l))

/-- A configuration record is in force. -/
def State.configure (s : State) (n : Nat) (c : Bytes) : State :=
  let crit := s.isCritical n
  let s := (s.setCh n { s.ldcCh n with cfg := c }).put (F.LDC_L_STAT_RETRY_LEFT n) (cfgRetryN c)
  let s := (s.put (F.LDC_L_STAT_THERM_CNT n) 0).relead (n / 8)
  let s := State.shedCh n (forEach (chansOf (n / 8)) State.follow s)
  if crit != cfgCritical c then s.newFloor else s

/-- CH_CONFIG. -/
def State.chConfig (s : State) (d : Desc) : State :=
  let n := u8 d.raw 20
  let c := d.buf
  if !s.ldcMay d then s.finish d St.NOTPERMIT 0
  else if decide (32 ≤ n) || d.len != 32 || !cfgOk c ||
      joinBad (fun m => if m = n then cfgJoin c else cfgJoin (s.cfg m)) (n / 8) then s.finish d St.BADARG 0
  else if !s.dieThere (n / 8) then s.finish d St.CAST_OFF 0
  else if s.chState n ≠ Ch.OFF then s.finish d St.NOT_OFF 0
  else (s.configure n c).finish d St.OK 0

def execChConfig (r : Nat) (s : State) : Res := .next (s.withOp r 0x0C 2 fun d => s.chConfig d)

/-! LATCH_CLR (R341) and WD_ARM (R348). -/

/-- LATCH_CLR. -/
def State.latchClr (s : State) (d : Desc) : State :=
  let n := u8 d.raw 20
  let m := u8 d.raw 21
  if !s.ldcMay d then s.finish d St.NOTPERMIT 0
  else if !s.isLeader n || decide (4 ≤ m) then s.finish d St.BADARG 0
  else if !s.dieThere (n / 8) then s.finish d St.CAST_OFF 0
  else
    let st := s.chState n
    let t := if (st = Ch.LATCH_THERM ∧ bitOf m 0) ∨ (st = Ch.LATCH_RETRY ∧ bitOf m 1) then
        let t := (s.toState n Ch.OFF).put (F.LDC_L_STAT_RETRY_LEFT n) (cfgRetryN (s.cfg n))
        State.shedCh n (t.put (F.LDC_L_STAT_THERM_CNT n) 0)
      else s
    t.finish d St.OK (t.chState n)

def execLatchClr (r : Nat) (s : State) : Res := .next (s.withOp r 0x0C 3 fun d => s.latchClr d)

/-- WD_ARM. -/
def State.wdArm (s : State) (d : Desc) : State :=
  let m := u8 d.raw 20
  if !s.ldcMay d then s.finish d St.NOTPERMIT 0
  else if decide (16 ≤ m) then s.finish d St.BADARG 0
  else
    let bs := (List.range 4).filter fun b => bitOf m b && s.dieThere b
    let left := bs.filter fun b => (s.ldcBank b).castOff
    (forEach bs State.armBank s).finish d St.OK (setAll 0 left)

def execWdArm (r : Nat) (s : State) : Res := .next (s.withOp r 0x0C 4 fun d => s.wdArm d)

/-! CO_STORE (R353). -/

/-- The die stores the records of a commit, as one event. -/
def State.storeNv (s : State) (b : Nat) (recs : List Bytes) : State :=
  forEach (chansOf b) (fun n t => t.setCh n { t.ldcCh n with nv := recs.getD (n % 8) [] }) s

/-- A stitch of CO_STORE: it sends the commit, asks whether it is done, or reads the stored set back. The die is done at
some moment within 20 ms of the commit (a free draw). A commit lost with the link fails its read-back (log 48). -/
def State.coStore (s : State) (d : Desc) : State :=
  let b := u8 d.raw 20
  if d.prog = 0 then
    if !s.ldcMay d then s.lastStitch d St.NOTPERMIT 0
    else if 4 ≤ b then s.lastStitch d St.BADARG 0
    else if !s.dieThere b then s.lastStitch d St.CAST_OFF 0
    else if (chansOf b).any fun n => s.chState n == Ch.HELD then s.lastStitch d St.NOT_OFF 0
    else (s.setBank b { s.ldcBank b with commit := some ((chansOf b).map s.cfg, s.now) }).stitched d 1 0
  else
    match (s.ldcBank b).commit with
    | none => s.lastStitch d St.NV_FAIL 0
    | some (recs, t) =>
      if d.prog = 1 then
        let done := decide (t + 20000000 ≤ s.now) || bitOf (s.free 204) 0
        let s := s.drawn
        if done then (s.storeNv b recs).stitched d 2 0 else s.stitched d 1 0
      else
        let ok := (chansOf b).map (fun n => (s.ldcCh n).nv) == recs
        (s.setBank b { s.ldcBank b with commit := none }).lastStitch d (if ok then St.OK else St.NV_FAIL) 0

def execCoStore (r : Nat) (s : State) : Res := .next (s.withOp r 0x0C 5 fun d => s.coStore d)

/-! TEST_SWEEP (R354). -/

/-- The four channels of group `g` of a sweep's mask. -/
def sweepGroup (mask g : Nat) : List Nat := (((List.range 32).filter (bitOf mask)).drop (4 * g)).take 4

/-- A diagnostic flag of R344 rises. -/
def State.flagUp (s : State) (n : Nat) (f e : Fld) (ol : Bool) : State :=
  if s.on f then s
  else
    let s := (s.put f 1).chEvent n e
    if ol then s.dieCount (n / 8) (C.LDC_OL n) else s

/-- An OFF channel has been checked for 10 ms: what its output shows is free. -/
def State.sweepOff (s : State) (n : Nat) : State :=
  let stb := bitOf (s.free 201) 0
  let ol := stb || bitOf (s.free 202) 0
  let s := s.drawn
  let s := if ol then s.flagUp n (F.LDC_L_STAT_OL_OFF n) F.LDC_EVT_OPEN_LOAD true else s.put (F.LDC_L_STAT_OL_OFF n) 0
  if stb then s.flagUp n (F.LDC_L_STAT_STB n) F.LDC_EVT_STB false else s.put (F.LDC_L_STAT_STB n) 0

/-- The entry of channel `n`, with its live measurements, which are free. -/
def State.sweepEntry (s : State) (n : Nat) : State × Bytes :=
  if !s.dieThere (n / 8) then (s, zeros 8)
  else
    let s := if s.chState n = Ch.OFF then s.sweepOff n else s
    let fl := s.get (F.LDC_L_STAT_OL_OFF n) + 2 * s.get (F.LDC_L_STAT_STB n) + 4 * s.get (F.LDC_L_STAT_OL_ON n)
    (s.drawn, leBytes 1 (s.chState n) ++ leBytes 1 fl ++ leBytes 2 (s.free 203) ++ leBytes 4 (s.free 205 % 2 ^ 24))

/-- The entries of some channels. -/
def State.sweepEntries : List Nat → State → State × Bytes
  | [], s => (s, [])
  | n :: r, s =>
    let e := s.sweepEntry n
    let t := State.sweepEntries r e.1
    (t.1, e.2 ++ t.2)

/-- A stitch of TEST_SWEEP: stitch 2 g starts the checks of group g, and stitch 2 g + 1 writes its entries. -/
def State.testSweep (s : State) (d : Desc) : State :=
  let mask := u32 d.raw 20
  let n := ((List.range 32).filter (bitOf mask)).length
  if d.prog = 0 ∧ !s.ldcMay d then s.lastStitch d St.NOTPERMIT 0
  else if d.prog = 0 ∧ d.len < 8 * n then s.lastStitch d St.BADARG 0
  else if n = 0 then s.lastStitch d St.OK 0
  else if d.prog % 2 = 0 then s.stitched d (d.prog + 1) d.acc
  else
    let e := State.sweepEntries (sweepGroup mask (d.prog / 2)) s
    let w := e.1.fabWrite (.round d.round) (d.addr + d.acc) e.2
    let k := d.acc + e.2.length
    if w.2 ≠ St.OK then w.1.refuseWrite d w.2 0
    else if k = 8 * n then w.1.lastStitch d St.OK k
    else w.1.stitched d (d.prog + 1) k

def execTestSweep (r : Nat) (s : State) : Res := .next (s.withOp r 0x0C 6 fun d => s.testSweep d)

/-! What a power die does on its own. -/

/-- A channel conducts. -/
def State.conducts (s : State) (n : Nat) : Bool := s.chState n == Ch.INRUSH || s.chState n == Ch.ON

/-- INRUSH_END: INRUSH_MS have elapsed. -/
def execInrushEnd (ch : Nat) (s : State) : Res :=
  .next (if s.isLeader ch && s.chState ch == Ch.INRUSH &&
      decide (1000000 * cfgInrushMs (s.cfg ch) ≤ s.dieSince (ch / 8) (s.ldcCh ch).inrushAt) then s.enterOn ch else s)

/-- LIM_TIME_EXPIRY: the channel has been in regulation for LIM_TIME while ON (R337); so it has been ON for that long. -/
def execLimTimeExpiry (ch : Nat) (s : State) : Res :=
  .next (if decide (ch < 32) && s.chState ch == Ch.ON &&
      decide (100000 * cfgLimTime (s.cfg ch) ≤ s.dieSince (ch / 8) (s.ldcCh (s.leader ch)).onAt) then s.trip ch Trip.OC else s)

/-- The current limit in force of channel `n`, in mA. -/
def State.limitMa (s : State) (n : Nat) : Nat :=
  if s.chState n = Ch.INRUSH ∧ !s.on (F.LDC_B_STAT_FOLD (n / 8)) then 10 * cfgInrush (s.cfg n) else 10 * cfgIlim (s.cfg n)

/-- FAST_TRIP: channel `ch` carries `mA`. -/
def execFastTrip (ch mA : Nat) (s : State) : Res :=
  .next (if decide (ch < 32) && s.conducts ch && decide (3 * s.limitMa ch ≤ mA) then s.trip ch Trip.FAST else s)

/-- THERMAL_TRIP: junction and case temperature of channel `ch`, in °C. -/
def execThermalTrip (ch : Nat) (tj tc : Int) (s : State) : Res :=
  .next (if ch < 32 ∧ s.conducts ch then
      if 175 ≤ tj then s.trip ch Trip.ABS
      else if (cfgTlim (s.cfg ch) : Int) < tj - tc then s.trip ch Trip.THERM
      else s
    else s)

/-- RESTART_DUE: the restart is due and the channel is thermally re-armed (R338, R340). -/
def execRestartDue (ch : Nat) (tj tc : Int) (s : State) : Res :=
  .next (if s.isLeader ch && s.chState ch == Ch.TRIPPED && decide (1000000 * cfgRetryMs (s.cfg ch) ≤ s.dieSince (ch / 8) (s.ldcCh ch).tripAt) &&
      decide (tj - tc < (cfgTlim (s.cfg ch) : Int) - 15) && decide (tj < 160) then
      (s.put (F.LDC_L_STAT_RETRY_LEFT ch) (s.get (F.LDC_L_STAT_RETRY_LEFT ch) - 1)).resumeCh ch
    else s)

/-- RETRY_RESET: a second in ON without a trip. -/
def execRetryReset (ch : Nat) (s : State) : Res :=
  .next (if s.isLeader ch && s.chState ch == Ch.ON && decide (1000000000 ≤ s.dieSince (ch / 8) (s.ldcCh ch).onAt) then
      (s.put (F.LDC_L_STAT_RETRY_LEFT ch) (cfgRetryN (s.cfg ch))).put (F.LDC_L_STAT_THERM_CNT ch) 0
    else s)

/-- BANK_FOLD: the bank current is `mA`. -/
def execBankFold (b mA : Nat) (s : State) : Res :=
  .next (if decide (b < 4) && (s.ldcBank b).powered && decide (60000 ≤ mA) && !s.on (F.LDC_B_STAT_FOLD b) then
      ((s.put (F.LDC_B_STAT_FOLD b) 1).dieCount b (C.LDC_FOLD b)).bankEvent b F.LDC_EVT_BANK_FOLD
    else s)

/-- BANK_FOLD_END: the current the bank would draw without the fold is estimated at `mA`. -/
def execBankFoldEnd (b mA : Nat) (s : State) : Res :=
  .next (if b < 4 ∧ mA < 60000 then s.put (F.LDC_B_STAT_FOLD b) 0 else s)

/-- Leader `l` is shed before leader `k` in an overload: CRITICAL last, then the lowest SHED_PRIO, then the highest
number (R342). -/
def State.tripsBefore (s : State) (l k : Nat) : Bool :=
  let key := fun (n : Nat) => b2n (s.isCritical n) * 1024 + cfgShedPrio (s.cfg n) * 64 + (63 - n)
  decide (key l ≤ key k)

/-- BANK_OVERLOAD: the bank current has stayed above 24 A for 100 ms and is `mA`. One channel trips each millisecond. -/
def execBankOverload (b mA : Nat) (s : State) : Res :=
  let bk := s.ldcBank b
  let may : Bool := match bk.ovlAt with | some t => decide (1000000 ≤ s.dieSince b t) | none => true
  let new : Bool := match bk.ovlAt with | some t => decide (100000000 ≤ s.dieSince b t) | none => true
  let cand := (chansOf b).filter fun n => s.isLeader n && s.conducts n
  .next (if b < 4 ∧ bk.powered ∧ 24000 < mA ∧ may then
      match cand.find? fun l => cand.all (s.tripsBefore l) with
      | some l =>
        let s := if new then s.bankEvent b F.LDC_EVT_BANK_OVL else s
        (s.setBank b { bk with ovlAt := some s.now }).trip l Trip.BANK
      | none => s
    else s)

/-- BLANKING_END: 200 µs after the last trip of the bank. -/
def execBlankingEnd (b : Nat) (s : State) : Res :=
  .next (match (s.ldcBank b).blank with
    | some (_, t) => if b < 4 ∧ 200000 ≤ s.dieSince b t then s.setBank b { s.ldcBank b with blank := none } else s
    | none => s)

/-- BANK_UNDERVOLTAGE: VBANK, in mV, has stayed below 14 V for 500 µs (R343). -/
def execBankUndervoltage (b mV : Nat) (s : State) : Res :=
  .next (if decide (b < 4) && (s.ldcBank b).powered && decide (mV < 14000) && !s.on (F.LDC_B_STAT_UV b) then
      (s.put (F.LDC_B_STAT_UV b) 1).bankEvent b F.LDC_EVT_BANK_UV
    else s)

/-- BANK_UV_RECOVER: VBANK has risen to `mV`. -/
def execBankUvRecover (b mV : Nat) (s : State) : Res :=
  .next (if decide (b < 4) && (s.ldcBank b).powered && decide (15500 < mV) && s.on (F.LDC_B_STAT_UV b) then
      forEach (chansOf b) (fun n t => if t.isLeader n && t.conducts n then t.enterInrush n else t)
        (s.put (F.LDC_B_STAT_UV b) 0)
    else s)

/-- The states, latches and counts of a channel whose die loses its supply, or gains it. -/
def State.clearCh (n : Nat) (s : State) : State :=
  let c := s.ldcCh n
  ((s.setCh n { chDefault n with cfg := c.nv, nv := c.nv }).wr (R.LDC_L_STAT n) (BitVec.ofNat 32 n)).put
    (F.LDC_L_STAT_RETRY_LEFT n) (cfgRetryN c.nv)

/-- POWER_DIE_POWER_UP: VBANK has risen to `mV`; the die enters cast-off and holds its outputs off (R343, R348). -/
def execPowerDiePowerUp (b mV : Nat) (s : State) : Res :=
  .next (if decide (b < 4) && !(s.ldcBank b).powered && decide (10000 < mV) then
      let s := (forEach (chansOf b) State.clearCh s).relead b
      let s := s.setBank b { bankDefault b with powered := true, castOff := false, sampleAt := (s.ldcBank b).sampleAt }
      let s := (s.put (F.LDC_B_STAT_UV b) 1).put (F.LDC_B_STAT_REV b) 0
      (if s.silent then forEach (chansOf b) State.holdCh s else s).castOff b
    else s)

/-- POWER_DIE_UNPOWERED: VBANK, in mV, is below 9 V; a negative one is reversed (R343, R351). -/
def execPowerDieUnpowered (b : Nat) (mV : Int) (s : State) : Res :=
  .next (if b < 4 ∧ mV < 9000 then
      let k := s.ldcBank b
      let s := if k.powered then (forEach (chansOf b) State.clearCh s).relead b else s
      let s := s.setBank b { bankDefault b with link := k.link, sampleAt := k.sampleAt }
      let s := (s.put (F.LDC_B_STAT_UV b) 0).put (F.LDC_B_STAT_FOLD b) 0
      if mV < 0 then
        ((s.put (F.LDC_B_STAT_REV b) 1).put (F.LDC_B_V_VBANK b) (ofInt 16 (mV / 10))).raise F.LDC_EVT_REV
      else s
    else s)

/-- The flags of R344. -/
def diagFlag (n : Nat) : Nat → Fld
  | 0 => F.LDC_L_STAT_OL_ON n
  | 1 => F.LDC_L_STAT_OL_OFF n
  | 2 => F.LDC_L_STAT_STB n
  | _ => F.LDC_L_STAT_UV n

/-- The on-time of a pulse of channel `n`, in ns: period × DUTY / 4,096, and one that is not 0 is at least 2 µs (R345). -/
def State.onTime (s : State) (n : Nat) : Nat :=
  let d := (s.ldcCh (s.leader n)).dutyNow
  if d = 0 then 0 else max 2000 (1000000000 * d / (4096 * s.get (F.LDC_B_CTL_PWM_HZ (n / 8))))

/-- Open load in ON is evaluated: in PWM, only on-times of at least 50 µs are (R344). -/
def State.evaluated (s : State) (n which : Nat) : Bool :=
  which != 0 || !s.on (F.LDC_L_STAT_PWM n) || decide (50000 ≤ s.onTime n)

/-- A condition of R344 can be present on channel `n`. -/
def State.diagArmed (s : State) (n : Nat) : Nat → Bool
  | 0 => s.chState n == Ch.ON && cfgOlOn (s.cfg n) != 0
  | 1 => s.chState n == Ch.OFF && cfgOlOffEn (s.cfg n)
  | 2 => s.chState n == Ch.OFF && cfgOlOffEn (s.cfg n)
  | _ => s.chState n == Ch.ON && cfgUvEn (s.cfg n)

/-- Undervoltage and open-load evaluation is suspended on channel `n` (R342). -/
def State.blanked (s : State) (n which : Nat) : Bool :=
  which != 2 && (match (s.ldcBank (n / 8)).blank with
    | some (c, t) => c != n && decide (s.dieSince (n / 8) t < 200000)
    | none => false)

/-- OUTPUT_DIAG_DEBOUNCE: condition `which` (0 open load in ON, 1 in OFF, 2 short to battery, 3 undervoltage) has been
present, or absent, for its debounce. -/
def execOutputDiagDebounce (ch which : Nat) (present : Bool) (s : State) : Res :=
  let f := diagFlag ch which
  .next (if !(decide (ch < 32) && decide (which < 4) && (s.ldcBank (ch / 8)).powered) || s.blanked ch which || !s.evaluated ch which then s
    else if !present then s.put f 0
    else if !s.diagArmed ch which then s
    else
      match which with
      | 0 => s.flagUp ch f F.LDC_EVT_OPEN_LOAD true
      | 1 => s.flagUp ch f F.LDC_EVT_OPEN_LOAD true
      | 2 => s.flagUp ch f F.LDC_EVT_STB false
      | _ => s.flagUp ch f F.LDC_EVT_CH_UV false)

/-- The frame of bank `b` starts: a change of duty applies. -/
def State.pwmFrame (b : Nat) (s : State) : State :=
  forEach (chansOf b) (fun n t =>
    if t.isLeader n && t.on (F.LDC_L_STAT_PWM n) then t.setCh n { t.ldcCh n with dutyNow := (t.wantPwm n).2 } else t) s

/-- PWM_FRAME_START: a frame from the bank's PWM timer, which runs with SYNC_EN clear; with it set a firing of SYNC_TRG
starts the frame at its tick (R346). -/
def execPwmFrameStart (b : Nat) (s : State) : Res :=
  .next (if b < 4 ∧ !s.on (F.LDC_B_CTL_SYNC_EN b) then s.pwmFrame b else s)

/-- KEEP_ALIVE_SEND: the frame reaches the die whole, or not, and its answer does (R347). -/
def execKeepAliveSend (b : Nat) (whole answered : Bool) (s : State) : Res :=
  .next (if b < 4 ∧ s.pow.logic then
      let k := s.ldcBank b
      let s := if whole && k.powered && k.armed then s.setBank b { k with lastValid := s.now } else s
      if answered then s else s.count (C.LDC_LINK_ERR b)
    else s)

/-- DIE_WATCHDOG_EXPIRY: WD_MS, as the die last had it and on its own clock, without a valid frame. -/
def execDieWatchdogExpiry (b : Nat) (s : State) : Res :=
  .next (if b < 4 ∧ 1000000 * (s.ldcBank b).wdMs ≤ s.dieSince b (s.ldcBank b).lastValid then s.castOff b else s)

/-- Gauge starts to charge a bank without readings (R384), from its last reading on. -/
def State.gapBegins (s : State) (b : Nat) : State :=
  if s.gau.gaps.contains b then s
  else
    let before := s.leftPj
    let s := State.gapCharge (s.gau.monAt - (s.ldcBank b).sampleAt) b s
    ((s.onGau fun g => { g with gaps := g.gaps ++ [b] }).showLeft before).raise F.GAU_EVT_SAMPLE_GAP

/-- LDC_LINK_LOST: no valid reply for 2 ms; a commit under way is cut short. -/
def execLdcLinkLost (b : Nat) (s : State) : Res :=
  .next (if b < 4 ∧ (s.ldcBank b).link then
      ((s.setBank b { s.ldcBank b with link := false, commit := none }).raise F.LDC_EVT_LINK_LOST).gapBegins b
    else s)

/-- The events of the conditions that stand on channel `n` (R534). -/
def State.standing (n : Nat) (s : State) : State :=
  let st := s.chState n
  let ev := fun (c : Bool) (e : Fld) (s : State) => if c then s.chEvent n e else s
  let s := ev (st == Ch.LATCH_THERM && s.leader n == n) F.LDC_EVT_LATCH s
  let s := ev (st == Ch.LATCH_RETRY && s.leader n == n) F.LDC_EVT_RETRY_EXH s
  let s := ev (s.on (F.LDC_L_STAT_OL_ON n) || s.on (F.LDC_L_STAT_OL_OFF n)) F.LDC_EVT_OPEN_LOAD s
  let s := ev (s.on (F.LDC_L_STAT_STB n)) F.LDC_EVT_STB s
  ev (s.on (F.LDC_L_STAT_UV n)) F.LDC_EVT_CH_UV s

/-- LDC holds the link of bank `b` again, reads its state and sends it LDC_SHED (R534). -/
def State.hearDie (s : State) (b : Nat) : State :=
  let k := s.ldcBank b
  let s := s.setBank b { k with link := true, told := k.told || k.castOff, wdMs := s.get (F.LDC_B_CTL_WD_MS b) }
  let s := if k.castOff then (if k.told then s else s.count (C.LDC_CASTOFF b)).bankEvent b F.LDC_EVT_CAST_OFF else s
  let s := if s.on (F.LDC_B_STAT_UV b) then s.bankEvent b F.LDC_EVT_BANK_UV else s
  let s := if s.on (F.LDC_B_STAT_REV b) then s.bankEvent b F.LDC_EVT_REV else s
  (forEach (chansOf b) State.standing s).applyShed

def execLdcLinkRestored (b : Nat) (s : State) : Res :=
  .next (if b < 4 ∧ (s.ldcBank b).powered ∧ !(s.ldcBank b).link then s.hearDie b else s)

/-- LDC_SHED_WRITE (R349): partition 0 only. -/
def execLdcShedWrite (pid val : Nat) (s : State) : Res := .next (if pid = 0 then s.writeShed val else s)

/-! Sampling (R333, R334, R370). -/

/-- The range in which channel `n` measures a current of `i` µA: true is L (R332). -/
def State.lowRange (s : State) (n i : Nat) : Bool :=
  match u8 (s.cfg n) 13 with
  | 0 => false
  | 1 => true
  | _ => decide (i < 100000) || (decide (i ≤ 110000) && s.on (F.LDC_L_STAT_RANGE_L n))

/-- The reading of a current of `i` µA, within the span and to the resolution of its range (R332). -/
def rangeRead (low : Bool) (i : Nat) : Nat := if low then min i 120000 / 30 * 30 else min i 8000000 / 2000 * 2000

/-- A channel's readings are loaded; the quantities measured are free. -/
def State.sampleCh (tc : Int) (n : Nat) (s : State) : State :=
  let low := s.lowRange n (s.free 210)
  let i := rangeRead low (s.free 210)
  let tj := sint 10 (s.free 211)
  let s := ((s.put (F.LDC_L_I_CURRENT n) i).put (F.LDC_L_V_VOUT n) (s.free 212)).put (F.LDC_L_T_TJ n) (ofInt 10 tj)
  let s := (s.put (F.LDC_L_T_DT n) (tj - tc).toNat).put (F.LDC_L_STAT_RANGE_L n) (b2n low)
  (s.put (F.LDC_L_STAT_LIMITING n) (if s.conducts n then s.free 213 else 0)).drawn

/-- The summed current of a group (R334). -/
def State.sampleGroup (n : Nat) (s : State) : State :=
  let m := s.members n
  s.put (F.LDC_IGRP_CURRENT n)
    (if 2 ≤ m.length then (m.map fun c => s.get (F.LDC_L_I_CURRENT c)).sum / 1000 else 0)

/-- SAMPLE_TRG of bank `b` fires: its readings are loaded, and Gauge counts their energy. -/
def State.sampleBank (b : Nat) (s : State) : State :=
  if !s.dieThere b then s
  else
    let before := s.leftPj
    let from_ := if s.gau.gaps.contains b then s.gau.monAt else (s.ldcBank b).sampleAt
    let ns := s.now - from_
    let tc := sint 9 (s.free 214)
    let own := s.free 215 % 2 ^ 16
    let s := (s.put (F.LDC_B_V_VBANK b) (s.free 216)).put (F.LDC_B_TC_TC b) (ofInt 9 tc)
    let s := forEach (chansOf b) (State.sampleCh tc) s.drawn
    let s := forEach (chansOf b) State.sampleGroup s
    let s := s.put (F.LDC_B_I_CURRENT b)
      ((((chansOf b).filter s.conducts).map fun n => s.get (F.LDC_L_I_CURRENT n)).sum / 1000)
    let s := forEach (chansOf b) (fun n t =>
      ((t.addEnergy (10 + n) (t.pMeas n * ns / 1000)).onGau fun g => { g with mw := storeSet cntDefault g.mw (10 + n) (t.pMeas n) }).addEnergy
        (2 + b) (t.pMeas n * ns / 1000)) s
    let s := s.addEnergy (2 + b) (own * ns / 1000)
    let s := s.onGau fun g => { g with gaps := g.gaps.filter (· != b) }
    (s.setBank b { s.ldcBank b with sampleAt := s.now }).showLeft before

end Sys2Proof.Machine
end

