-- ==== Sys2Proof/Machine/Gauge.lean ====
section
/-! DEFINITION. Gauge's commands: MODE_SET (R373, R386), evaluations (R376), missing readings (R384), the latch (R372) and
the end of a change of level (R25, R381). -/
namespace Sys2Proof.Machine

/-- A partition may write GAU registers and issue MODE_SET. -/
def State.gauMay (s : State) (pid : Nat) : Bool := decide (pid < 32) && s.bit F.GAU_CFG_MASK_MASK pid

/-- The mode is declared: USED is 0, and what the mode asks at once happens, in a standby nothing (R483). -/
def State.declare (s : State) (mode budget req : Nat) : State :=
  let s := ((s.put F.GAU_STAT_MODE mode).put F.GAU_BUDGET_J budget).put F.GAU_REQ_S req
  let s := ((s.onGau fun g => { g with used := 0 }).newFloor).showLeft 1
  if mode = 0 then (s.put F.GAU_STAT_LIMITED 0).leaveFloor
  else if mode = 2 && !s.standby then (if s.inFloor then s.raise F.GAU_EVT_EMERGENCY else s).floorState
  else s

/-- MODE_SET. -/
def State.modeSet (s : State) (d : Desc) : State :=
  let mode := u8 d.raw 20
  let req := u32 d.raw 28
  if !s.gauMay (s.dPid d) then s.finish d St.NOTPERMIT 0
  else if decide (2 < mode) || (mode != 0 && !inRange 60 86400 req) then s.finish d St.BADARG 0
  else
    let t := s.declare mode (u32 d.raw 24) req
    t.finish d St.OK (t.get F.GAU_FLOOR_J + 2 ^ 32 * b2n (decide (t.leftPj ≤ t.floorPj)))

def execModeSet (r : Nat) (s : State) : Res := .next (s.withOp r 0x0E 1 fun d => s.modeSet d)

/-- GAUGE_EVALUATE, when an evaluation is due. -/
def execGaugeEvaluate (s : State) : Res :=
  .next (if s.gau.due || decide (s.gau.evalAt + 1000000 * s.get F.GAU_CTL_EVAL_MS ≤ s.now) then s.evaluate else s)

/-- SAMPLE_GAP: SAMPLE_TRG of bank `b` has not fired for 100 ms, or its die is not heard. -/
def execSampleGap (b : Nat) (s : State) : Res :=
  .next (if b < 4 ∧ ((s.ldcBank b).sampleAt + 100000000 ≤ s.now ∨ !(s.ldcBank b).link) then s.gapBegins b else s)

/-- GAUGE_LATCH: a write of GAU_LATCH. -/
def State.gauLatch (s : State) (pid v : Nat) : State :=
  if s.gauMay pid && bitOf v 0 then
    let w := s.snapAt 1000000000
    forEach (List.range 42) (fun i t =>
      let u := s.gauE i / 1000 % 2 ^ 48
      ((t.put (F.GAU_E_LO_UJ i) u).put (F.GAU_E_HI_UJ i) (u / 2 ^ 32)).put (F.GAU_P_MW i)
        (meanMw (s.gauE i - w.e.getD i 0) (s.now - w.at_))) s
  else s

def execGaugeLatch (pid val : Nat) (s : State) : Res := .next (s.gauLatch pid val)

/-- LEVEL_CHANGE_DONE: VCORE has reached the level it moved to. After a rise in SPREAD mode Chart replans (R257). -/
def execLevelChangeDone (s : State) : Res :=
  .next (match s.gau.moving with
    | none => s
    | some l =>
      let up := decide (s.gauLevel < l)
      let s := ((s.onGau fun g => { g with moving := none }).put F.GAU_STAT_LEVEL l).raise F.GAU_EVT_LEVEL
      let s := s.gaugeDue.showEngines
      if up && !s.on F.CHT_STAT_MODE && s.aud.pat.isSome then s.askChart .mode else s)

end Sys2Proof.Machine
end

