-- ==== Sys2Proof/Machine/PairOps.lean ====
section
/-! DEFINITION. The pair function's operations: the standby's silence (R483), promotion and demotion (R477, R478), the
mirrored state (R480 to R482) and the end of bridged accesses (R486). -/
namespace Sys2Proof.Machine

/-! Silence (R483). -/

/-- Chain frames leave a silent port. -/
def isChain (b : Bytes) : Bool := etherType b == 0x88B5

/-- The frames that wait for port `p` are dropped and counted. -/
def State.silencePort (p : Nat) (s : State) : State :=
  let fs := (s.framesTo p).filter fun f => !isChain f.bytes
  let s := s.count C.PAI_SILENT_DROP fs.length
  let s := forEach fs (fun f t => t.endSend f.send 0x503 0) s
  s.dropPort p fun f => !isChain f.bytes

/-- The external ports fall silent. -/
def State.silence (s : State) : State := forEach (List.range 20) State.silencePort s

/-- What a module does at once on becoming a standby: its tied channels are HELD and its ports silent. -/
def State.stand (s : State) : State := s.holdTied.silence

def State.setRole (s : State) (r : Nat) : State := s.put F.PAI_STAT_ROLE r

/-- The records and mirrored queues of a standby start afresh, and its own FDB and sequence state give way to the
mirrored ones. -/
def State.clearMirror (s : State) : State :=
  let s := forEach s.swc.cb (fun x t => t.setCb x.1 { cbDefault 0 with gen := (t.cbOf x.1).gen }) s
  ((s.onSwc fun w => { w with fdb := w.fdb.filter (·.static) }).onPai fun p =>
    { p with txq := [], chs := [], gau := [], place := [] }).dropMirror

/-- SYNCING is entered. -/
def State.enterSyncing (s : State) : State :=
  ((s.setRole Role.SYNCING).put F.PAI_STAT_SYNCED 0).onPai fun p => { p with held := [], expect := none }

/-! Mirror records (R472). -/

/-- A record: class, OP, length, content. -/
def mirRec (cls op : Nat) (b : Bytes) : Bytes := leBytes 1 cls ++ leBytes 1 op ++ leBytes 2 b.length ++ b

/-- A mark of the resync: CLASS 0, with 0 before the first chunk and 1 after the last (DESIGN CHOICE, log 51). -/
def mirMark (done : Nat) : Bytes := mirRec 0 2 (leBytes 1 done)

/-- The seen-vector of a recovery stream: bit `i` for sequence number NEXT_SEQ − 1 − `i` (DESIGN CHOICE, log 51). -/
def seenVector (c : CbState) : Nat :=
  (List.range 32).foldl (fun v i => if c.seen.contains ((c.next + 65535 - i) % 65536) then v + 2 ^ i else v) 0

/-- The numbers a seen-vector marks. -/
def seenOf (next v : Nat) : List Nat :=
  ((List.range 32).filter fun i => bitOf v i).map fun i => (next + 65535 - i) % 65536

/-- Gauge's record. -/
def State.gauRecord (s : State) : Bytes :=
  leBytes 1 s.gauMode ++ leBytes 4 (s.get F.GAU_BUDGET_J) ++ leBytes 4 (s.get F.GAU_REQ_S) ++ leBytes 8 (s.gau.used / 1000) ++
    leBytes 1 (s.get F.GAU_STAT_SHED_LVL) ++ (List.range 42).flatMap fun i => leBytes 6 (s.gauE i / 1000)

/-- The placement's record. -/
def State.placeRecord (s : State) : Bytes :=
  leBytes 4 (s.get F.CHT_PLACE_GEN_GEN) ++ s.placeEntries

/-- The mirrored state apart from the transmit queues: each item with its record's content. -/
def State.mirState (s : State) : List (MirItem × Bytes) :=
  ((s.swc.fdb.filter fun e => !e.static).map fun e =>
    (⟨1, e.mac * 4096 + e.fid, leBytes 4 e.ports⟩,
      beBytes 6 e.mac ++ leBytes 2 e.fid ++ leBytes 4 e.ports ++ leBytes 2 (min 65535 ((s.now - e.seen) / 1000000000)))) ++
  ((s.swc.cb.filter fun x => x.2.started && decide (2 ≤ s.cbRole x.1)).map fun x =>
    let b := leBytes 2 x.2.next ++ leBytes 4 (seenVector x.2)
    (⟨2, x.1, b⟩, leBytes 2 x.1 ++ b)) ++
  ((List.range 32).map fun n =>
    let b := leBytes 1 n ++ leBytes 4 (s.rd (R.LDC_L_STAT n)).toNat ++ leBytes 2 (s.ldcCh n).duty
    (⟨4, n, b⟩, b)) ++
  [(⟨5, 0, leBytes 8 s.gau.evalAt⟩, s.gauRecord), (⟨6, 0, leBytes 4 (s.get F.CHT_PLACE_GEN_GEN)⟩, s.placeRecord)]

/-- The content of a record that removes an item. -/
def MirItem.gone (i : MirItem) : Bytes :=
  if i.cls = 1 then beBytes 6 (i.key / 4096) ++ leBytes 2 (i.key % 4096) ++ zeros 6 else leBytes 2 i.key ++ zeros 6

/-- The list without one occurrence of each member of the other. -/
def without (a b : List Bytes) : List Bytes := b.foldl (fun l x => dropFirst (· == x) l) a

/-- The frames that wait in transmit queue `q` of controller `n`, as records. -/
def State.txRecords (s : State) (n q : Nat) : List Bytes := ((s.ctl n).txQ q).map fun x => canRecord x.f 0 0

/-- The changes of transmit queue `q` of controller `n` since it was last mirrored. -/
def State.txChanges (s : State) (op n q : Nat) : List Bytes :=
  let old := s.mirTxq n q
  let new := s.txRecords n q
  let head := leBytes 1 n ++ leBytes 1 q
  ((without old new).map fun r => mirRec 3 op (head ++ [1] ++ r)) ++
    (without new old).map fun r => mirRec 3 op (head ++ [0] ++ r)

/-- Every (controller, queue). -/
def canQueues : List (Nat × Nat) := (List.range 12).flatMap fun n => (List.range 4).map fun q => (n, q)

/-- Every change of the mirrored state since it was last sent, as records with the OP given. -/
def State.mirChanges (s : State) (op : Nat) : List Bytes :=
  let new := s.mirState
  let old := s.pai.image
  ((old.filter fun i => decide (i.cls ≤ 2) && !new.any fun x => x.1.cls == i.cls && x.1.key == i.key).map fun i =>
      mirRec i.cls 1 i.gone) ++
    ((new.filter fun x => !old.contains x.1).map fun x => mirRec x.1.cls op x.2) ++
    canQueues.flatMap fun x => s.txChanges op x.1 x.2

/-- The state just mirrored is noted. -/
def State.noteMirror (s : State) : State :=
  let img := s.mirState.map (·.1)
  let s := s.onPai fun p => { p with image := img }
  forEach canQueues (fun x t => t.setMirTxq x.1 x.2 (t.txRecords x.1 x.2)) s

/-- Records packed into payloads of at most 9,000 bytes. -/
def packRecs (l : List Bytes) : List Bytes :=
  l.foldl (fun (a : List Bytes) r =>
    match a.reverse with
    | [] => [r]
    | x :: y => if x.length + r.length ≤ 9000 then (y.reverse ++ [x ++ r]) else a ++ [r]) []

/-- A MIRROR frame is sent, and kept until it is acknowledged (R473). -/
def State.sendMirror (b : Bytes) (s : State) : State :=
  let q := s.pairSeq Kind.MIRROR
  let l := s.lanesUp.headD 0
  let s := if s.laneUp l then s.sendOn l Kind.MIRROR b else s.pairSeqStep Kind.MIRROR
  s.onPai fun p => { p with unacked := p.unacked ++ [⟨q, l, s.now, b⟩] }

/-- The primary mirrors what has changed, once the partner's full copy is under way (R480). -/
def State.mirror (s : State) : State :=
  if s.isPrimary && s.pai.resynced then
    forEach (packRecs (s.mirChanges 0)) State.sendMirror s.noteMirror
  else s

/-- The full copy of every class (R482). -/
def State.resync (s : State) : State :=
  let s := s.onPai fun p => { p with image := [], txq := [], resynced := true }
  forEach (packRecs ([mirMark 0] ++ s.mirChanges 2 ++ [mirMark 1])) State.sendMirror s.noteMirror

/-! The standby's copy (R481). -/

/-- A mirrored FDB entry. -/
def State.mirFdb (s : State) (b : Bytes) (remove : Bool) : State :=
  let mac := be48 b 0
  let fid := u16 b 6
  let s := s.onSwc fun w => { w with fdb := w.fdb.filter fun e => e.static || !(e.mac == mac && e.fid == fid) }
  if remove then s
  else
    match s.fdbWay (fdbBucket mac fid) with
    | some i => s.fdbPut ⟨i, mac, fid, u32 b 8, false, false, s.now - 1000000000 * u16 b 12⟩
    | none => s

/-- A mirrored recovery stream. -/
def State.mirStream (s : State) (b : Bytes) (remove : Bool) : State :=
  let h := u16 b 0
  let g := (s.cbOf h).gen
  if remove then s.setCb h { cbDefault 0 with gen := g }
  else s.setCb h ⟨true, u16 b 2, seenOf (u16 b 2) (u32 b 4), s.now, g⟩

/-- A change of a mirrored transmit queue. -/
def State.mirTx (s : State) (b : Bytes) : State :=
  let n := u8 b 0
  let q := u8 b 1
  let l := s.mirTxq n q
  s.setMirTxq n q (if u8 b 2 = 0 then l ++ [b.drop 3] else dropFirst (· == b.drop 3) l)

/-- Gauge's counters, budget and mode become those mirrored. -/
def State.gauTake (s : State) : State :=
  let b := s.pai.gau
  if b.isEmpty then s
  else
    let s := ((s.put F.GAU_STAT_MODE (u8 b 0)).put F.GAU_BUDGET_J (u32 b 1)).put F.GAU_REQ_S (u32 b 5)
    let s := s.onGau fun g => { g with used := 1000 * u64 b 9 }
    forEach (List.range 42) (fun i t => t.onGau fun g => { g with
      e := storeSet cntDefault g.e i (1000 * u48 b (18 + 6 * i)) }) s

/-- The resync is complete (R482): the standby's own counters give way to the mirrored ones. -/
def State.synced (s : State) : State :=
  if s.role = Role.SYNCING then
    (((s.setRole Role.STANDBY).put F.PAI_STAT_SYNCED 1).raise F.PAI_EVT_SYNCED).gauTake
  else s

/-- One record is applied. -/
def State.applyRec (cls op : Nat) (b : Bytes) (s : State) : State :=
  match cls with
  | 0 => if u8 b 0 = 0 then s.clearMirror else s.synced
  | 1 => s.mirFdb b (op == 1)
  | 2 => s.mirStream b (op == 1)
  | 3 => s.mirTx b
  | 4 => s.onPai fun p => { p with chs := storeSet noBytes p.chs (u8 b 0) b }
  | 5 =>
    let s := s.onPai fun p => { p with gau := b }
    if s.role = Role.STANDBY then s.gauTake else s
  | 6 => ((s.onPai fun p => { p with place := b }).dropMirror).mirrorPlace
  | _ => s

/-- The records of a MIRROR payload are applied in order; `fuel` bounds their number. -/
def State.applyRecs : Nat → Bytes → State → State
  | 0, _, s => s
  | fuel + 1, b, s =>
    if b.length < 4 then s
    else
      let n := u16 b 2
      State.applyRecs fuel (b.drop (4 + n)) (s.applyRec (u8 b 0) (u8 b 1) (slice b 4 n))

/-- The held MIRROR frames that follow without a gap are applied in SEQ order; before the resync has begun, none but
the frame that begins it (R480). -/
def State.applyHeld : Nat → State → State
  | 0, s => s
  | fuel + 1, s =>
    let next := match s.pai.expect with
      | some q => s.pai.held.find? (·.1 == q)
      | none => s.pai.held.find? fun x => x.2.take 5 == mirMark 0
    match next with
    | none => s
    | some x =>
      let s := s.onPai fun p => { p with held := p.held.filter (· != x), expect := some ((x.1 + 1) % 2 ^ 32) }
      State.applyHeld fuel (State.applyRecs x.2.length x.2 s)

/-- A MIRROR frame arrives at a standby. -/
def State.mirrorIn (s : State) (seq : Nat) (b : Bytes) : State :=
  let old := match s.pai.expect with | some q => decide (2 ^ 31 ≤ ahead32 q seq) | none => false
  if !s.standby || old || s.pai.held.any (·.1 == seq) then s
  else
    let s := s.onPai fun p => { p with held := p.held ++ [(seq, b)] }
    State.applyHeld s.pai.held.length s

/-- The highest MIRROR SEQ applied without a gap; before any is applied the number before the first (DESIGN CHOICE, log 51). -/
def State.mirAck (s : State) : Nat := (s.pai.expect.getD 0 + 2 ^ 32 - 1) % 2 ^ 32

/-- The partner has acknowledged up to `q`. -/
def State.mirAcked (s : State) (q : Nat) : State :=
  s.onPai fun p => { p with unacked := p.unacked.filter fun m => decide (0 < ahead32 q m.seq) && decide (ahead32 q m.seq < 2 ^ 31) }

/-! Promotion (R478). -/

/-- A HELD channel takes the state mirrored for it. -/
def State.takeCh (n : Nat) (s : State) : State :=
  if s.leader n ≠ n ∨ s.chState n ≠ Ch.HELD then s
  else
    let b := storeGet noBytes s.pai.chs n
    if b.isEmpty then s.resumeCh n
    else
      let w := u32 b 1
      let st := bits w 31 29
      let s := forEach (s.members n) (fun m t => t.put (F.LDC_L_STAT_CMD_ON m) (bits w 28 28)) s
      let s := (s.put (F.LDC_L_STAT_RETRY_LEFT n) (bits w 17 14)).put (F.LDC_L_STAT_THERM_CNT n) (bits w 13 10)
      let s := s.put (F.LDC_L_STAT_TRIP_KIND n) (bits w 20 18)
      let s := s.setCh n { s.ldcCh n with
        pwm := bitOf w 27, duty := u16 b 5, tripAt := s.now }
      if st = Ch.INRUSH ∨ st = Ch.ON then s.startCh n
      else if st = Ch.SHED then
        (s.toState n Ch.SHED).set1 F.LDC_SHED_CH n
      else if st = Ch.HELD then s.resumeCh n
      else s.toState n st

/-- The CAN frame of a record (R267). -/
def recFrame (r : Bytes) : CanFrame :=
  let fl := u8 r 11
  ⟨u8 r 10, u32 r 4, bitOf fl 0, bitOf fl 1, bitOf fl 2, bitOf fl 3, bitOf fl 4, u8 r 12, u8 r 13, u8 r 14, u32 r 16,
    slice r 24 (u16 r 8)⟩

/-- The mirrored transmit queues stand at the heads of the controllers' own. Their frames have no descriptor. -/
def State.takeTx (x : Nat × Nat) (s : State) : State :=
  let c := s.ctl x.1
  let l := (s.mirTxq x.1 x.2).map fun r => (⟨recFrame r, 0, 0, none⟩ : CanTx)
  if l.isEmpty then s else s.setCtl x.1 (c.setTxQ x.2 (l ++ c.txQ x.2))

/-- The priorities that the old primary had shed are shed, and no others. -/
def State.takeShed (s : State) : State :=
  let b := s.pai.gau
  let k := min 8 (u8 b 17)
  let of := fun (n : Nat) => (List.range n).flatMap s.ofPrio
  if b.isEmpty then s
  else (s.put F.GAU_STAT_SHED_LVL k).writeShed
    (setAll (clearAll (s.get F.LDC_SHED_CH) (of (s.get F.GAU_STAT_SHED_LVL))) (of k))

/-- A TERM frame's payload. -/
def termBody (term reason : Nat) : Bytes := leBytes 4 term ++ leBytes 1 reason

/-- The module becomes PRIMARY. -/
def State.promote (s : State) (reason : Nat) : State :=
  let s := s.put F.PAI_TERM_TERM (s.get F.PAI_TERM_TERM + 1)
  let s := ((s.setRole Role.PRIMARY).put F.PAI_STAT_SYNCED 0).raise F.PAI_EVT_PROMOTED
  let s := s.sendAll Kind.TERM (termBody (s.get F.PAI_TERM_TERM) reason)
  let s := forEach canQueues State.takeTx (forEach (List.range 32) State.takeCh s)
  let s := s.gauTake.takeShed.mirrorLive.newFloor
  s.onPai fun p => { p with
    image := [], unacked := [], resynced := false, held := [], expect := none, txq := [], chs := [], gau := [], place := [] }

/-- A promotion falls due: at once, or withheld by WITNESS (R479). -/
def State.promoteOr (s : State) : State :=
  if s.on F.PAI_CTL_WITNESS then (s.setRole Role.ISOLATED).raise F.PAI_EVT_ISOLATED else s.promote 0

/-! Demotion (R477). -/

/-- A channel that is not tied is switched off. -/
def State.offCh (n : Nat) (s : State) : State :=
  if s.leader n ≠ n ∨ s.bit F.LDC_TIED_CH n then s
  else
    let s := forEach (s.members n) (fun m t => t.put (F.LDC_L_STAT_CMD_ON m) 0) s
    if s.chState n ≤ Ch.TRIPPED then s.toState n Ch.OFF else s

/-- The SWITCH under way ends. -/
def State.endSwitch (s : State) (status result : Nat) : State :=
  match s.pai.sw with
  | none => s
  | some (r, i) =>
    let s := s.onPai fun p => { p with sw := none }
    match s.descAt r i with
    | some d => s.finish d status result
    | none => s

/-- A PRIMARY hears the term that demotes it. -/
def State.demote (s : State) (term : Nat) : State :=
  let s := s.put F.PAI_TERM_TERM term
  let s := s.enterSyncing
  let s := (forEach (List.range 32) State.offCh s.holdTied).silence
  let s := s.clearMirror
  let s := s.onGau fun g => { g with e := [], used := 0, snaps := [] }
  let s := forEach (List.range 12) (fun n t => (t.idleTx n).flushTx n St.TERM false) s
  let s := s.onPai fun p => { p with image := [], unacked := [], resynced := false }
  (s.raise F.PAI_EVT_DEMOTED).endSwitch St.OK term

/-! Lanes and the function's switch (R471, R475). -/

/-- X2 or X3 is taken by the pair function: its switch port is DOWN and its MAC runs in 10GBASE-R; one that was UP in another
mode leaves it (R161). -/
def State.takeLane (l : Nat) (s : State) : State :=
  let p := 2 + l
  let fs := s.framesTo p
  let s := forEach fs (fun f t => t.endSend f.send 0x503 0) s
  let s := ((s.dropPort p fun _ => true).put (F.SWC_PSTAT_STATE p) 0).cancelPauses p
  let runs := s.isUp p && s.get (F.PRT_MODE_MODE p) == 0
  let s := if s.isUp p && !runs then
      (((s.raise (F.PRT_EVT_LINK_DOWN p)).count (C.PRT_LINK_DOWN p)).loseFrames p).put (F.PRT_STAT_VERIFY p) 0 else s
  let s := (s.put (F.PRT_MODE_MODE p) 0).put (F.PRT_MODE_ANEG_EN p) 0
  if runs then s.setLane l true
  else ((s.put (F.PRT_MODE_EN p) 1).put (F.PRT_STAT_LINK p) 1)

/-- X2 or X3 returns to the switch. -/
def State.giveLane (l : Nat) (s : State) : State :=
  let s := s.put (if l = 0 then F.PAI_STAT_LANE0_UP else F.PAI_STAT_LANE1_UP) 0
  if s.isUp (2 + l) then s.swLinkUp (2 + l) else s

/-- EN is set: STARTING, with heartbeats and START_MS running. -/
def State.pairEnable (s : State) : State :=
  if s.pairOn then s
  else
    let s := (s.put F.PAI_CTL_EN 1).setRole Role.STARTING
    let s := (s.put F.PAI_STAT_PARTNER_ROLE 7).put F.PAI_STAT_PARTNER_ALIVE 0
    let s := s.onPai fun p => { Pai.reset with seq := p.seq, nextId := p.nextId, outs := p.outs, startAt := s.now, hbNext := s.now }
    forEach [0, 1] State.takeLane s.stand

/-- A descriptor's write to the partner has failed: its final completion carries the status. -/
def State.writeFailed (s : State) (n status : Nat) : State :=
  s.setDescs (updFirst (fun d => d.round == n && d.started && d.fin.isSome)
    (fun d => { d with fin := some (d.final ⟨status, 0⟩) }) s.rnd.descs)

/-- An access to the partner window ends: the answer of the read under its tag, or the acknowledgement of a write, which for
a descriptor is the end of its wait, with its status where it failed. -/
def State.bridgeEnd (s : State) (o : BrOut) (status : Nat) (data : Bytes) : State :=
  let s := s.onPai fun p => { p with outs := dropFirst (· == o) p.outs }
  match s.fab.tags.find? fun t => t.tag == o.tag && t.acc == o.acc with
  | some t => s.tagDone t status data
  | none =>
    match o.acc.src with
    | .round n => if status = St.OK then s else s.writeFailed n status
    | src => s.answer src status data

/-- A request of access `o` has been answered; with the last one the access ends. -/
def State.bridgeGot (s : State) (o : BrOut) (id status : Nat) (data : Bytes) : State :=
  let parts := o.parts.map fun p => if p.id = id then { p with got := some (status, data) } else p
  let o' := { o with parts := parts }
  let s := s.onPai fun p => { p with outs := updFirst (· == o) (fun _ => o') p.outs }
  let all := parts.filterMap (·.got)
  if all.length < parts.length then s
  else
    match all.find? fun g => g.1 != St.OK with
    | some g => s.bridgeEnd o' g.1 (zeros (if o.acc.write then 0 else o.acc.size))
    | none => s.bridgeEnd o' St.OK (if o.acc.write then [] else (all.map (·.2)).flatten)

/-- Request `id` ends with PEER (R486). -/
def State.bridgePeer (id : Nat) (s : State) : State :=
  match s.pai.outs.find? fun o => o.parts.any fun p => p.id == id && p.got.isNone with
  | none => s
  | some o => (s.count C.PAI_BRIDGE_PEER).bridgeGot o id St.PEER []

/-- The REQ_IDs of the requests without an answer. -/
def State.openIds (s : State) : List Nat :=
  s.pai.outs.flatMap fun o => (o.parts.filter (·.got.isNone)).map (·.id)

/-- Every open request ends with PEER. -/
def State.bridgeDead (s : State) : State := forEach s.openIds State.bridgePeer s

/-- EN is cleared: tied channels HELD, ports silent. -/
def State.pairDisable (s : State) : State :=
  if !s.pairOn then s
  else
    let s := (s.bridgeDead.endSwitch St.PEER 0).onPai fun p => { p with quiet := true, resynced := false, unacked := [] }
    let s := (((s.put F.PAI_CTL_EN 0).setRole Role.DISABLED).put F.PAI_STAT_SYNCED 0).dropMirror
    (forEach [0, 1] State.giveLane s).stand

/-- A write of PAI_CTL: EN and WITNESS are partition 0's; START_MS outside its range stays. -/
def State.paiCtl (s : State) (pid v : Nat) : State :=
  let s := s.put F.PAI_CTL_BEACON_EN (bits v 29 29)
  let s := if 100 ≤ bits v 15 0 ∧ bits v 15 0 ≤ 60000 then s.put F.PAI_CTL_START_MS (bits v 15 0) else s
  if pid ≠ 0 then s
  else
    let s := s.put F.PAI_CTL_WITNESS (bits v 30 30)
    if bitOf v 31 then s.pairEnable else s.pairDisable

end Sys2Proof.Machine
end

