-- ==== Sys2Proof/Machine/Reset.lean ====
section
/-! DEFINITION. What a reset of the logic die clears and keeps (R20, R57, R191, R308, R498, R501), the stop of the logic die
and the first lock of the lattice. -/
namespace Sys2Proof.Machine

def State.onWak (s : State) (f : Wak → Wak) : State := s.setWak (f s.wak)
def State.onPow (s : State) (f : Pow → Pow) : State := s.setPow (f s.pow)
def State.onBoo (s : State) (f : Boo → Boo) : State := s.setBoo (f s.boo)

/-! Registers that outlive a reset. -/

/-- A WAK register of the always-on domain (R308). -/
def keptWak (a : Nat) : Bool :=
  a / 0x10000 == 0xB && a != R.WAK_EVT && a != R.WAK_EVT_EN && a != R.WAK_EVT_VEC && a != R.WAK_STAT

/-- A register held by the power dies (R501). -/
def keptDie (a : Nat) : Bool :=
  (List.range 4).any (fun b => a == R.LDC_B_STAT b) || (List.range 32).any fun n => a == R.LDC_L_STAT n

/-- A register of the key store, of OTP or of the tamper latch (R418, R452). -/
def keptEnc (a : Nat) : Bool :=
  a == R.ENC_STAT || a == R.ENC_TAMP_CFG || a == R.ENC_TAMP_STAT || a == R.ENC_ROOTS || a == R.ENC_SERIAL_LO ||
    a == R.ENC_SERIAL_HI || a == R.ENC_BOOT_CNT || a == R.BOO_FLOOR

/-- A register that every reset keeps. -/
def keptAlways (a : Nat) : Bool :=
  keptWak a || keptDie a || keptEnc a || a == R.FLT_RESET_CAUSE || a == R.FLT_ESC_CTL || a == R.PAI_TERM

/-- A register that a warm reset keeps beside those (R57, R446, R498). -/
def keptWarm (a : Nat) : Bool :=
  a == R.TIM_NOW || a == R.TIM_INC || a == R.TIM_STAT || a == R.BOO_STAT || a == R.BOO_STRAP || a == R.RND_LINK

def keptReg (warm : Bool) (a : Nat) : Bool := keptAlways a || (warm && keptWarm a)

/-- A byte of memory that outlives a reset: the flashes, and across a warm reset DRAM and common SRAM (R501). -/
def keptMem (warm : Bool) (a : Nat) : Bool :=
  (decide (0x300000000 ≤ a) && decide (a < 0x320000000)) ||
    (warm && (decide (a < 0xE0000000) || (decide (0x100000000 ≤ a) && decide (a < 0x100800000))))

/-- A flash operation cut off by a reset leaves its sector or page with contents the spec does not give. -/
def State.tearFlash (o : FlashOp) (s : State) : State :=
  (s.writeBytes o.addr (beBytes o.size (s.free 311))).drawn

/-- The time base after a warm reset: counting as before, triggers disarmed, pins low, timestamp queues empty (R191). -/
def Tim.warm (t : Tim) : Tim := 
  { Tim.reset with
    frac := t.frac, inc := t.inc, incNext := t.incNext, lockAt := t.lockAt, marks := t.marks
    media := { t.media with off := none } }

/-- The enclave after a reset: OTP and key store stay (R418), the rest ends. -/
def Enc.kept (e : Enc) : Enc := { e with debug := false, chal := none, meas := [], work := [] }

/-- A power die after a reset of the logic die: its own state stays, without a link. -/
def State.unlinkDie (b : Nat) (s : State) : State :=
  s.setBank b { s.ldcBank b with link := false }

/-- The logic die's own state after a reset: live registers, counters, queues and units as they are at reset, but for what
the reset keeps (R57). -/
def State.clearLogic (s : State) (warm : Bool) : State :=
  { s with
    regs := s.regs.filter fun x => keptReg warm x.1
    cnts := s.cnts.filter fun x => keptWak x.1
    mem := s.mem.filter fun x => keptMem warm x.1
    fab := { Fab.reset with
      flashA := s.fab.flashA, flashB := s.fab.flashB, patrolAt := s.now
      ecc := s.fab.ecc.filter fun m => keptMem warm m.addr }
    rnd := if warm then { Rnd.reset with msixTbl := s.rnd.msixTbl, msixPend := s.rnd.msixPend, pci := s.rnd.pci } else Rnd.reset
    que := Que.reset
    swc := Swc.reset
    prt := Prt.reset
    tim := if warm then s.tim.warm else Tim.reset
    aud := { Aud.reset with linkUp := !warm || s.aud.linkUp }
    cht := Cht.reset
    cor := { Cor.reset with wdAt := s.now }
    gau := { Gau.reset with monAt := s.now, evalAt := s.now }
    can := Can.reset
    enc := s.enc.kept
    gwy := Gwy.reset
    sio := Sio.reset
    boo := Boo.reset
    pai := Pai.reset }

/-- Every live register, counter and queue of the logic die is reset (R57); the audio die ramps its outputs down (R220). -/
def State.resetLogic (s : State) (warm : Bool) : State :=
  let s := forEach s.flashBusy State.tearFlash s.rampDown
  let next := s.get F.COR_LS_NEXT
  let t := s.clearLogic warm
  let t := forEach (List.range 4) State.unlinkDie t
  let t := (t.onPow fun p => { p with hostAt := s.now }).onWak fun w => { w with sleep := none, ports := [] }
  let t := ((t.put F.TIM_STAT_DROPPED 0).put F.TIM_STAT_MEDIA_LOCKED 0).put F.TIM_STAT_STEP_BUSY 0
  let t := t.put F.BOO_STAT_STAGING 0
  let t := ((t.put F.BOO_STAT_STAGE 0).put F.BOO_STAT_BOOT_STATE 0).put F.BOO_STAT_WRITER 0
  if warm then (t.put F.COR_LS_NEXT next).put F.COR_LS_ACTIVE next else t

/-- A frame on the line goes out whole before its MAC stops (R497). -/
def State.lastFrame (p : Nat) (s : State) : State := if (s.line p).cur.isSome then s.txEnd p else s

/-- Steps 2 and 3 of R497: cast-off, frames ended, every round frogged. -/
def State.windDown (s : State) : State :=
  let s := forEach (List.range 21) State.lastFrame s.castOffAll
  forEach (List.range 256) (fun n t => t.frogRound n) s

/-- The logic die stops: what it alone holds is lost (R20). -/
def State.stopLogic (s : State) : State :=
  (s.resetLogic false).onPow fun p => { p with logic := false, warm := none, cycle := none, held := false }

/-- The lattice locks for the first time at cast-on: TIM_NOW starts from 0 at the nominal rate (R191). -/
def State.latticeLock (s : State) : State :=
  if s.on F.TIM_STAT_LOCKED || !s.pow.logic then s
  else
    let s := (s.put F.TIM_STAT_LOCKED 1).put F.TIM_STAT_XTAL_OK 1
    let s := ((s.putNow 0).wr R.TIM_INC 0x04000000).put F.TIM_STAT_MEDIA_LOCKED 0
    State.drawn <| s.onTim fun t => { t with
      frac := 0, inc := 0x04000000, incNext := none, fires := [], media := ⟨s.free 1 % mediaTurn, none⟩
      marks := [⟨s.now, 0, 0x04000000⟩], lockAt := s.now }

/-- The `time` CSR of the application cores (R389). -/
def State.timeCsr (s : State) : Nat := (s.now - s.tim.lockAt) / 4 % 2 ^ 64

end Sys2Proof.Machine
end

