-- ==== Sys2Proof/Machine/WakeOps.lean ====
section
/-! DEFINITION. The wake function's operations: validity windows and back-off (R318, R319), the entries to RUN and to DOZE
(R316, R325), the sleep sequence (R321) and what a wake does in each module state (R307, R317, R322, R323). -/
namespace Sys2Proof.Machine

def St.NO_SOURCE : Nat := 0x0C00
def St.DRAIN_TMO : Nat := 0x0C01
def St.WRONG_STATE : Nat := 0x0C02

def Mod.RUN : Nat := 0
def Mod.ENTERING : Nat := 1
def Mod.DOZE : Nat := 2
def Mod.BOOT : Nat := 3

/-- The module state while the logic die is powered (R307). -/
def State.modState (s : State) : Nat := s.get F.WAK_STAT_STATE

/-- A partition may write WAK registers and issue SLEEP. -/
def State.wakMay (s : State) (pid : Nat) : Bool := decide (pid < 32) && s.bit F.WAK_CFG_MASK_MASK pid

/-- A WAK event; the stopped logic die shows none. -/
def State.wakRaise (s : State) (e : Fld) : State := if s.pow.logic then s.raise e else s

/-- Bits of WAK_BACKOFF. -/
def State.inBackoff (s : State) (src : Nat) : Bool := s.bit F.WAK_BACKOFF_SRC src

def State.backoffUntil (s : State) (src : Nat) : Nat := storeGet cntDefault s.wak.backoff src

/-! Validity windows. -/

def winDefault (_ : Nat) : WakeWin := ⟨0, false⟩
def noHist (_ : Nat) : List Nat := []

/-- A wake from `src` has been found false (R319). -/
def State.falseWake (s : State) (src : Nat) : State :=
  let s := (s.count (C.WAK_FALSE src)).wakRaise F.WAK_EVT_FALSE_WAKE
  let h := (s.aonS :: storeGet noHist s.wak.hist src).take 15
  let lim := max 1 (s.get F.WAK_FW_CTL_LIMIT)
  let period := max 1 (s.get F.WAK_FW_TIME_PERIOD_S)
  let set := fun (t : State) (v : List Nat) => t.onWak fun w => { w with hist := storeSet noHist w.hist src v }
  if src ≠ 26 ∧ src ≠ 28 ∧ lim ≤ h.length ∧ s.aonS - h.getD (lim - 1) 0 < period then
    let till := s.aonS + max 1 (s.get F.WAK_FW_TIME_BACKOFF_S)
    let s := (set s []).onWak fun w => { w with backoff := storeSet cntDefault w.backoff src till }
    (s.set1 F.WAK_BACKOFF_SRC src).wakRaise F.WAK_EVT_BACKOFF
  else set s h

/-- A validity window ends. -/
def State.windowEnd (x : Nat × WakeWin) (s : State) : State :=
  let s := s.onWak fun w => { w with windows := w.windows.filter (·.1 != x.1) }
  if x.2.valid then s else s.falseWake x.1

/-- Every open window is evaluated at once (R318). -/
def State.windowsEnd (s : State) : State := forEach s.wak.windows State.windowEnd s

/-- A source's back-off ends; BACKOFF_END is raised when RUN is next entered. -/
def State.backoffEnd (s : State) (src : Nat) : State :=
  if s.inBackoff src then
    (s.clr1 F.WAK_BACKOFF_SRC src).onWak fun w => { w with backoff := storeSet cntDefault w.backoff src 0, boEnd := true }
  else s

/-- The window of a wake opens as RUN is entered; the timer's wakes are valid. -/
def State.openWindow (src : Nat) (s : State) : State :=
  let x : WakeWin := ⟨s.aonNs + 1000000000 * max 1 (s.get F.WAK_FW_CTL_WINDOW_S), src == 26⟩
  s.onWak fun w => { w with windows := storeSet winDefault w.windows src x }

/-- The module enters RUN (R316, R318). -/
def State.enterRun (s : State) : State :=
  let woken := s.wak.woken
  let s := (s.put F.WAK_STAT_STATE Mod.RUN).put F.WAK_PEND_SRC 0
  let s := forEach woken State.openWindow s
  let s := if s.wak.boEnd then s.raise F.WAK_EVT_BACKOFF_END else s
  s.onWak fun w => { w with live := false, woken := [], boEnd := false, sleep := none, timerAt := none }

/-! Sleep and doze. -/

/-- Source `src` can wake the module in mode 0, sleep, or 1, doze (R315). -/
def State.armed (s : State) (mode src : Nat) : Bool :=
  decide (src < 29) && s.bit F.WAK_SRC_EN_SRC src && !s.inBackoff src &&
    (if 8 ≤ src ∧ src < 24 then mode == 1 && s.bit F.WAK_DOZE_PORTS_PORTS (src - 8)
     else if src = 25 then s.get F.WAK_DIN_MASK_MASK != 0
     else if src = 26 then s.get F.WAK_TIMER_MS != 0
     else true)

/-- The SLEEP under way. -/
def State.sleepDesc (s : State) : Option Desc :=
  match s.wak.sleep with
  | none => none
  | some (r, i) => s.rnd.descs.find? fun d => d.round == r && d.slot == i && d.started && d.fin.isNone

/-- The SLEEP under way ends. -/
def State.sleepEnds (s : State) (status result : Nat) : State :=
  let s := match s.sleepDesc with
    | some d => s.finish d status result
    | none => s
  s.onWak fun w => { w with sleep := none }

/-- A wake before the commit aborts the sequence: the result shows its source and WAK_PEND (R322). -/
def State.sleepAbort (s : State) (src : Nat) : State :=
  (s.sleepEnds St.ABORTED_BY_WAKE (src + 2 ^ 32 * s.get F.WAK_PEND_SRC)).enterRun

/-- A stitched descriptor stops at its boundary as a SLEEP drains (R321). -/
def State.sleepStop (d : Desc) (s : State) : State :=
  if d.fin.isSome then s
  else if d.func = 0x0A ∧ d.opcode = 6 then s.recvEnd d
  else if d.isStitched then (s.stopStitched d).dropWork d
  else s

/-- The armed sources now pending abort a SLEEP that starts; where there is none the rounds drain. -/
def State.sleepGo (s : State) : List Nat → State
  | n :: l => (s.onWak fun w => { w with woken := n :: l }).sleepAbort n
  | [] => (forEach (s.rnd.descs.filter (·.started)) State.sleepStop s).dropLoads

/-- An accepted SLEEP starts: sources are armed, or one that is pending aborts it at once; then the rounds drain. -/
def State.sleepStart (s : State) (d : Desc) (mode : Nat) : State :=
  let s := (s.hold d).put F.WAK_STAT_STATE Mod.ENTERING
  let s := s.onWak fun w => { w with
    sleep := some (d.round, d.slot), mode := mode, live := true, caused := false, woken := [], timerAt := none
    drainBy := s.now + 1000000 * max 1 (s.get F.WAK_CTL_DRAIN_MS) }
  s.sleepGo ((List.range 29).filter fun n => s.bit F.WAK_PEND_SRC n && s.armed mode n)

/-- SLEEP (R320). -/
def State.sleepOp (s : State) (d : Desc) : State :=
  let mode := u8 d.raw 20
  if !s.wakMay (s.dPid d) then s.finish d St.NOTPERMIT 0
  else if 1 < mode then s.finish d St.BADARG 0
  else if s.modState ≠ Mod.RUN then s.finish d St.WRONG_STATE 0
  else
    let s := s.windowsEnd
    if (List.range 29).any (s.armed mode) then s.sleepStart d mode else s.finish d St.NO_SOURCE 0

/-- Every descriptor but the SLEEP has completed. -/
def State.drained (s : State) : Bool :=
  match s.sleepDesc with
  | some d => s.rnd.descs.all fun e => !e.started || e.same d
  | none => false

/-- A port leaves for DOZE, or comes back. -/
def State.dozePort (p : Nat) (s : State) : State :=
  let s' := s.macOff p
  if s.linkOf p = 0 then s else s'.dozePorts (s'.wak.ports ++ [p])

/-- An engine is switched off, or a failed one stays out of service. -/
def State.engineOff (e : Nat) (s : State) : State := if s.engineOn e then s.put (F.CHT_ENG_STAT_STATE e) 0 else s

/-- The module enters DOZE (R325): cores halted, engines off, ports held, PL0. -/
def State.enterDoze (s : State) : State :=
  let s := s.haltCores true
  let s := s.put F.WAK_STAT_STATE Mod.DOZE
  let s := forEach ((List.range 20).filter s.dozeHolds) State.dozePort s
  let s := (forEach (List.range 16) State.engineOff (s.dropShadow false)).countEngines.chartIdle
  let s := s.onAud fun a => { a with block := none, done := [], ready := [], missing := [], inbox := [] }
  let s := if s.gauLevel = 0 then s else s.grantLevel 0
  s.onWak fun w => { w with timerAt := some s.now }

/-- The commit (R321 step 5): INH released. Steps 6 to 8 complete 200 µs later, VLOG being kept that long (R324;
DESIGN CHOICE, log 93). -/
def State.commit (s : State) : State :=
  (s.onPow fun p => { p with inh := false }).onWak fun w =>
    { w with asleep := true, commitAt := s.now, timerAt := some s.now }

/-- The commit has been, and the logic die still runs. -/
def State.closing (s : State) : Bool := s.wak.asleep && s.pow.logic

/-- Steps 6 to 8 of R321: the completion with WAK_AON_S of the commit is written, loads are cast off, the logic die is
stopped. -/
def State.sleepClose (s : State) : State :=
  let r := match s.wak.sleep with | some x => x.1 | none => 0
  let s := s.sleepEnds St.OK (2 ^ 32 * s.aonAt s.wak.commitAt)
  (s.complete r).windDown.stopLogic

/-- Steps 6 to 8 complete once 200 µs have passed since the commit. -/
def State.sleepDue (s : State) : State :=
  if s.closing && decide (s.wak.commitAt + 200000 ≤ s.now) then s.sleepClose else s

/-- The drain is complete: the transceivers move, and the module dozes or commits. -/
def State.sleepOn (s : State) : State :=
  let s := forEach (List.range 8) (fun n t =>
    t.moveTrcv n (if t.get (F.WAK_TRCV_CTL_SLEEP_STATE n) = 2 then 2 else 3)) s
  if s.wak.mode = 1 then (s.sleepEnds St.OK 0).enterDoze else s.commit

/-! Wakes. -/

/-- A wake of source `src` is kept (R317); the first since SLEEP started is WAK_CAUSE. -/
def State.recordWake (s : State) (src : Nat) (after doze : Bool) : State :=
  let s := (s.set1 F.WAK_PEND_SRC src).count (C.WAK_WAKE src)
  if s.wak.caused then s
  else
    let s := ((s.put F.WAK_CAUSE_SOURCE src).put F.WAK_CAUSE_AFTER_COMMIT (b2n after)).put F.WAK_CAUSE_FROM_DOZE (b2n doze)
    s.onWak fun w => { w with caused := true }

/-- The module leaves DOZE (R325). -/
def State.dozeWake (s : State) : State :=
  let ports := s.wak.ports
  let s := ((s.dozePorts []).enterRun.haltCores false).raise F.WAK_EVT_WOKE
  (forEach ports (fun p t => t.macOn p) s).gaugeDue.askChart .restart

/-- An event of source `src`. A wake that comes after the commit, in BOOT too, is valid and opens no window (R318). -/
def State.wakeEvent (s : State) (src : Nat) : State :=
  if 29 ≤ src ∨ !s.wak.vaon then s
  else if s.inBackoff src then s.count (C.WAK_SUPPRESSED src)
  else if s.wak.live then
    if s.wak.asleep then if s.armed 0 src then s.recordWake src true false else s
    else if !s.armed s.wak.mode src then s
    else
      let st := s.modState
      let s := s.recordWake src (!s.pow.logic) (s.pow.logic && st == Mod.DOZE)
      if !s.pow.logic then s
      else
        let t := s.onWak fun w => { w with woken := if w.woken.contains src then w.woken else w.woken ++ [src] }
        if st = Mod.ENTERING then t.sleepAbort src else if st = Mod.DOZE then t.dozeWake else s
  else if s.bit F.WAK_SRC_EN_SRC src || (decide (src < 8) && s.trcv src == 2) then
    (s.set1 F.WAK_PEND_SRC src).wakRaise F.WAK_EVT_SRC_EVENT
  else s

/-- A transceiver has detected a wake (R310). -/
def State.trcvWoke (s : State) (n : Nat) (ovf : Bool) : State :=
  let s := s.put (F.WAK_TRCV_STAT_WOKE n) 1
  let s := if ovf then s.put (F.WAK_TRCV_STAT_FEC_OVF n) 1 else s
  (s.wakRaise F.WAK_EVT_TRCV_WAKE).wakeEvent n

/-- The frame is the wake-up frame of transceiver `n` (R312). -/
def State.wakeFrame (s : State) (n : Nat) (f : CanFrame) : Bool :=
  let m := s.get (F.WAK_TRCV_IDMASK_VALUE n)
  let dm := leBytes 4 (s.get (F.WAK_TRCV_DMASK_LO_MASK n)) ++ leBytes 4 (s.get (F.WAK_TRCV_DMASK_HI_MASK n))
  f.fmt == 0 && !f.remote && f.xtd == s.on (F.WAK_TRCV_CTL_XTD n) &&
    Nat.land f.id m == Nat.land (s.get (F.WAK_TRCV_ID_VALUE n)) m && f.dlc == s.get (F.WAK_TRCV_CTL_DLC n) &&
    (!s.on (F.WAK_TRCV_CTL_DMASK_EN n) || (List.range 8).any fun i => Nat.land (u8 f.data i) (u8 dm i) != 0)

/-- A transceiver that decodes frames has decoded one (R312, R313); `err` says with an error. -/
def State.trcvFrame (s : State) (n : Nat) (f : CanFrame) (err : Bool) : State :=
  if s.on (F.WAK_TRCV_CTL_FD_PASSIVE n) && f.fmt != 0 then s
  else
    let k := s.get (F.WAK_TRCV_STAT_FEC n)
    if err then
      let s := s.put (F.WAK_TRCV_STAT_FEC n) (min 63 (k + 1))
      if k = 31 then s.trcvWoke n true else s
    else
      let s := s.put (F.WAK_TRCV_STAT_FEC n) (k - 1)
      if s.wakeFrame n f then s.trcvWoke n false else s

/-- A transceiver in STANDBY with SW_EN decodes frames; any other that sleeps sees the wake-up pattern (R312; DEDUCED,
log 52). -/
def State.decodes (s : State) (n : Nat) : Bool := s.trcv n == 2 && s.on (F.WAK_TRCV_CTL_SW_EN n)

def State.trcvSign (s : State) (n : Nat) (x : TrcvSign) : State :=
  if 8 ≤ n ∨ !s.wak.vaon ∨ s.trcv n < 2 then s
  else
    match x with
    | .pattern => if s.decodes n then s else s.trcvWoke n false
    | .frame f err => if s.decodes n then s.trcvFrame n f err else s

/-- A write of WAK_TRCVn_CTL (R310). -/
def State.trcvWrite (s : State) (pid n v : Nat) : State :=
  if s.wakMay pid then (s.regApply (R.WAK_TRCV_CTL n) v).moveTrcv n (bits v 31 30) else s

end Sys2Proof.Machine
end

