-- ==== Sys2Proof/Machine/Wake.lean ====
section
/-! DEFINITION. The commands of function 0x0B: SLEEP and its drain (R320 to R322), wakes (R315 to R319, R323), transceivers
(R310 to R313) and the rise and loss of VAON (R307, R308, R511). -/
namespace Sys2Proof.Machine

def execSleep (r : Nat) (s : State) : Res := .next (s.withOp r 0x0B 1 fun d => s.sleepOp d)

def execSleepDrainEnd (s : State) : Res :=
  .next (if s.modState = Mod.ENTERING ∧ !s.wak.asleep ∧ s.drained then s.sleepOn else s)

/-- SLEEP_DRAIN_TIMEOUT: DRAIN_MS are over; the drain has failed unless it is complete. -/
def execSleepDrainTimeout (s : State) : Res :=
  .next (if s.modState ≠ Mod.ENTERING ∨ s.wak.asleep ∨ s.now < s.wak.drainBy then s
    else if s.drained then s.sleepOn
    else (s.sleepEnds St.DRAIN_TMO 0).enterRun)

def execWakeEvent (src : Nat) (s : State) : Res := .next (s.wakeEvent src)

/-- WAKE_TIMER_EXPIRY: WAK_TIMER ms after the commit or after the entry to DOZE. -/
def execWakeTimerExpiry (s : State) : Res :=
  .next (match s.wak.timerAt with
    | some t =>
      if s.get F.WAK_TIMER_MS = 0 ∨ s.rcNs (s.now - t) < 1000000 * s.get F.WAK_TIMER_MS then s
      else (s.onWak fun w => { w with timerAt := none }).wakeEvent 26
    | none => s)

/-- FLT_RESET_CAUSE is written (R502): the rung, the cause and the cause that it replaces. -/
def State.setCause (s : State) (rung cause orig : Nat) : State :=
  ((s.put F.FLT_RESET_CAUSE_RUNG rung).put F.FLT_RESET_CAUSE_CAUSE cause).put F.FLT_RESET_CAUSE_ORIG orig

/-- OFF_WAIT_EXPIRY: a wake is latched and 2 ms have passed since the commit; INH is active again, and VLOG brings
cast-on. -/
def execOffWaitExpiry (s : State) : Res :=
  .next (if s.wak.asleep && s.wak.caused && decide (2000000 ≤ s.rcNs (s.now - s.wak.commitAt)) then
      let s := (s.onPow fun p => { p with inh := true }).onWak fun w => { w with asleep := false, timerAt := none }
      s.setCause 4 13 0
    else s)

def execTrcvStateWrite (pid n val : Nat) (s : State) : Res := .next (if n < 8 then s.trcvWrite pid n val else s)

def execTrcvWake (n : Nat) (sign : TrcvSign) (s : State) : Res := .next (s.trcvSign n sign)

/-- WAKE_VALIDITY_END: the window of a wake of `src` ends. -/
def execWakeValidityEnd (src : Nat) (s : State) : Res :=
  .next (match s.wak.windows.find? fun x => x.1 == src with
    | some x => if x.2.ends ≤ s.aonNs then s.windowEnd x else s
    | none => s)

/-- A write of WAK_CONFIRM. -/
def State.wakConfirm (s : State) (pid v : Nat) : State :=
  if s.wakMay pid then forEach ((List.range 29).filter (bitOf v)) (fun n t => t.wakeMeets n) s else s

def execWakeConfirm (pid val : Nat) (s : State) : Res := .next (s.wakConfirm pid val)

def execBackoffEnd (src : Nat) (s : State) : Res :=
  .next (if src < 29 ∧ s.backoffUntil src ≤ s.aonS then s.backoffEnd src else s)

/-- A write of WAK_BACKOFF. -/
def State.wakBackoff (s : State) (pid v : Nat) : State :=
  if s.wakMay pid then forEach ((List.range 29).filter (bitOf v)) (fun n t => t.backoffEnd n) s else s

def execBackoffClear (pid val : Nat) (s : State) : Res := .next (s.wakBackoff pid val)

/-- VAON_RISE: the always-on domain takes its reset values and INH is active (R307, R308). -/
def execVaonRise (s : State) : Res :=
  .next (if s.wak.vaon then s
    else
      let aon := fun a => keptWak a || a == R.FLT_RESET_CAUSE || a == R.FLT_ESC_CTL || a == R.PAI_TERM
      let t := (s.setRegs (s.regs.filter fun x => !aon x.1)).setCnts (s.cnts.filter fun x => !keptWak x.1)
      (t.onWak fun _ => { Wak.reset with vaonAt := s.now }).onPow fun p => { p with inh := true, hist := [] })

/-- VAON_LOSS: the always-on state is lost, INH is released, and the logic die is held in reset (R511). -/
def execVaonLoss (s : State) : Res :=
  .next (if !s.wak.vaon then s
    else
      let s := s.stopLogic.onPow fun p => { p with inh := false, cycle := none, off := none, hist := [] }
      (s.onWak fun _ => { Wak.reset with vaon := false }).onEnc fun e => { e with aon := 0 })

end Sys2Proof.Machine
end

