-- ==== Sys2Proof/Machine/RegPages.lean ====
section
/-! DEFINITION. Writes to set-up registers (R10 to R12, R61), page by page: what each register takes, from whom, and what it does
beyond storing; the event registers (R530), the staged guard rules (R77) and the effect ranges (R75). -/
namespace Sys2Proof.Machine

/-- The index of the register at `a` in a run of `count` registers from `base`. -/
def nth (base stride count a : Nat) : Option Nat :=
  if base ≤ a ∧ (a - base) % stride = 0 ∧ (a - base) / stride < count then some ((a - base) / stride) else none

/-- A write by the access codes (R10) in which the fields of `only0` take nothing from any partition but 0, and each
field of `ranges` nothing outside its range. -/
def State.applyBut (s : State) (pid a v : Nat) (only0 : List Fld) (ranges : List (Fld × Nat × Nat)) : State :=
  let t := s.regApply a v
  let t := forEach only0 (fun f u => if pid = 0 then u else u.put f (s.get f)) t
  forEach ranges (fun x u =>
    let n := bits v x.1.hi x.1.lo
    if x.2.1 ≤ n ∧ n ≤ x.2.2 then u else u.put x.1 (s.get x.1)) t

/-- A write to a register that partition 0 alone may write. -/
def State.apply0 (s : State) (pid a v : Nat) : State := if pid = 0 then s.regApply a v else s

/-- Partition `pid` may write the registers of the page of `a`: those of WAK, GAU and SIO are open to the partitions of
their masks. -/
def State.mayWrite (s : State) (pid a : Nat) : Bool :=
  match a / 0x10000 with
  | 0xB => s.wakMay pid
  | 0xD => decide (pid < 32) && s.bit F.SIO_CFG_MASK_MASK pid
  | 0xE => s.gauMay pid
  | _ => true

/-! Event registers (R12, R530). -/

/-- The W1C bits of the register at `a`. -/
def w1cOf (a : Nat) : Nat := match rowOf a with | some r => r.w1c | none => 0

/-- The events with one counter of their own, and that counter. -/
def evtCounters : List (Fld × Nat) :=
  [(F.JER_EVT_DENY, C.JER_DENY), (F.JER_EVT_READ_TMO, C.JER_TMO), (F.JER_EVT_LATE, C.JER_LATE), 
   (F.JER_EVT_UNMAPPED, C.JER_UNMAP), (F.MEM_EVT_CE, C.MEM_CE), (F.MEM_EVT_UE, C.MEM_UE), 
   (F.RND_EVT_FROGFX, C.RND_FROGFX), (F.RND_EVT_HOST_ERR, C.RND_HOSTERR), (F.SWC_EVT_BUF_DROP, C.SWC_BUF_DROP), 
   (F.SWC_EVT_VLAN_DROP, C.SWC_VLAN_DROP), (F.SWC_EVT_MC_RESIDUE, C.SWC_MC_RESIDUE), 
   (F.SWC_EVT_MIRROR_DROP, C.SWC_MIRROR_DROP), (F.SWC_EVT_STOMP, C.SWC_STOMP), 
   (F.SWC_EVT_PLY_LATE, C.SWC_PLY_LATE), (F.SWC_EVT_PLY_SAT, C.SWC_PLY_SAT), 
   (F.SWC_EVT_PLY_STRAY, C.SWC_PLY_STRAY), (F.SWC_EVT_LEARN_FULL, C.SWC_LEARN_FULL), 
   (F.SWC_EVT_CB_GAP, C.SWC_CB_GAP), (F.SWC_EVT_NOBUF, C.SWC_HOST_NOBUF), 
   (F.SWC_EVT_MEDIA_DROP, C.SWC_MEDIA_DROP), (F.AUD_EVT_SAT, C.AUD_SAT), (F.AUD_EVT_EDGE_MISS, C.AUD_EDGE_MISS), 
   (F.AUD_EVT_NET_LATE, C.AUD_NET_LATE), (F.AUD_EVT_NET_EARLY, C.AUD_NET_EARLY), 
   (F.AUD_EVT_NET_GAP, C.AUD_NET_GAP), (F.AUD_EVT_SILENT_BLOCK, C.AUD_SILENT_BLOCK), 
   (F.AUD_EVT_REALIGN, C.AUD_REALIGN), (F.CHT_EVT_TWIN_DIFF, C.CHT_TWIN_DIFF), 
   (F.CHT_EVT_SHADOW_LATE, C.CHT_SHADOW_LATE), (F.GWY_EVT_MISMATCH, C.GWY_MISMATCH), 
   (F.GWY_EVT_ETH_NOMATCH, C.GWY_ETH_NOMATCH), (F.GWY_EVT_CHAIN_CUT, C.GWY_CHAIN_CUT), 
   (F.GWY_EVT_AUTH_FAIL, C.GWY_AUTH_FAIL), (F.GWY_EVT_FRESH_END, C.GWY_FRESH_END), 
   (F.GWY_EVT_FRESH_UNSET, C.GWY_FRESH_UNSET), (F.GWY_EVT_KEY_BAD, C.GWY_KEY_BAD), 
   (F.GWY_EVT_AUTH_TORN, C.GWY_AUTH_TORN), (F.GWY_EVT_RATE_DROP, C.GWY_RATE_DROP), 
   (F.GWY_EVT_SIG_TMO, C.GWY_SIG_TMO), (F.GWY_EVT_DST_FULL, C.GWY_DST_FULL), 
   (F.GWY_EVT_DST_ASLEEP, C.GWY_DST_ASLEEP), (F.GWY_EVT_DROP_LEN, C.GWY_DROP_LEN), 
   (F.GAU_EVT_REFUSED, C.GAU_REFUSE), (F.COR_EVT_LOCKSTEP, C.COR_LOCKSTEP), 
   (F.COR_EVT_ROUTE_MISS, C.COR_ROUTE_MISS), (F.MBX_EVT_DENY, C.MBX_DENY), (F.QUE_EVT_ABANDON, C.QUE_ABANDON), 
   (F.ENC_EVT_TORN, C.ENC_TORN), (F.PAI_EVT_STALE_TERM, C.PAI_STALE_TERM), 
   (F.PAI_EVT_CROSSED, C.PAI_CROSS_RETRACT), (F.FLT_EVT_MASTER_DENY, C.FLT_DENY)]

/-- The counters of the events of the EVT register at `a`, with those of port and controller pages. An event that counts in
one of several counters, by a unit that the register does not name, has none here (DESIGN CHOICE, log 92). -/
def countersOf (a : Nat) : List (Fld × Nat) :=
  let p := a % 0x10000 / 0x800
  let n := a % 0x10000 / 0x1000
  match a / 0x10000 with
  | 5 => [(F.PRT_EVT_LIMIT_DROP p, C.PRT_RX_LIMIT_DROP p), (F.PRT_EVT_NEVER_FITS p, C.PRT_TX_NEVER_FITS p),
      (F.PRT_EVT_LINK_DOWN p, C.PRT_LINK_DOWN p)]
  | 9 => [(F.CAN_EVT_BUS_OFF n, C.CAN_BUS_OFF n), (F.CAN_EVT_PEXC n, C.CAN_PEXC n), (F.CAN_EVT_RX_OVF n, C.CAN_RX_OVF n),
      (F.CAN_EVT_TX_ABANDON n, C.CAN_TX_ABANDON n), (F.CAN_EVT_SWAP n, C.CAN_SWAP n)]
  | _ => evtCounters.filter fun e => e.1.reg == a

/-- Occurrences of the events in the bits `m` of the EVT register at `a` count, whatever becomes of their flags (R12). -/
def State.countEvts (s : State) (a m : Nat) : State :=
  forEach (countersOf a) (fun e t => if bitOf m e.1.lo then t.count e.2 else t) s

/-- Bits written as 1 to the EVT register at `a` are cleared; those of `coincide` occur in the same event, count, and set
wins over clear. An occurrence at a bit that was clear, or is being cleared, sends its interrupt where enabled. -/
def State.evtClear (s : State) (pid a v coincide : Nat) : State :=
  let s := s.countEvts a (coincide &&& w1cOf a)
  let old := (s.rd a).toNat
  let v := if s.mayWrite pid a then v &&& w1cOf a else 0
  let c := coincide &&& w1cOf a
  let kept := old ^^^ (old &&& v)
  (s.wr a (BitVec.ofNat 32 (kept ||| c))).sendEvtBits a ((c ^^^ (c &&& kept)) &&& (s.rd (a + 4)).toNat)

/-- A write to the EVT_EN register at `a`: a newly enabled bit whose EVT bit is set sends the interrupt. -/
def State.evtEnWrite (s : State) (pid a v : Nat) : State :=
  if s.mayWrite pid a then
    let old := (s.rd a).toNat
    let t := s.regApply a v
    let new := (t.rd a).toNat
    t.sendEvtBits (a - 4) ((new ^^^ (new &&& old)) &&& (t.rd (a - 4)).toNat)
  else s

def isEvtEn (a : Nat) : Bool := decide (4 ≤ a) && isEvt (a - 4)

/-! JER (R75, R77). -/

/-- The guard rule that JER_GSEL names; a GUARD above 25 selects none. -/
def State.ruleSel (s : State) : Option Nat :=
  let g := s.get F.JER_GSEL_GUARD
  if g ≤ 25 then some (32 * g + s.get F.JER_GSEL_RULE) else none

/-- A write to JER_GSEL copies the active rule it selects into staging. -/
def State.guardSelect (s : State) (v : Nat) : State :=
  let s := s.regApply R.JER_GSEL v
  match s.ruleSel with
  | none => s
  | some k =>
    let r := storeGet guardDefault s.fab.guards k
    let s := ((s.put F.JER_GBASE_LO_ADDR r.base).put F.JER_GBASE_LO_VALID (b2n r.valid)).put F.JER_GBASE_HI_ADDR
      (r.base / 2 ^ 20)
    let s := (s.put F.JER_GLIMIT_LO_ADDR r.limit).put F.JER_GLIMIT_HI_ADDR (r.limit / 2 ^ 20)
    (s.put F.JER_GRD_MASK r.rd).put F.JER_GWR_MASK r.wr

/-- The rule in staging, its ends in units of 4 KiB. -/
def State.stagedRule (s : State) : GRule :=
  ⟨s.on F.JER_GBASE_LO_VALID, s.get F.JER_GBASE_LO_ADDR + 2 ^ 20 * s.get F.JER_GBASE_HI_ADDR,
    s.get F.JER_GLIMIT_LO_ADDR + 2 ^ 20 * s.get F.JER_GLIMIT_HI_ADDR, s.get F.JER_GRD_MASK, s.get F.JER_GWR_MASK⟩

/-- A write of GO to JER_GCOMMIT replaces the selected rule with the staging. -/
def State.guardCommit (s : State) (v : Nat) : State :=
  match s.ruleSel with
  | some k => if bitOf v 0 then s.setFab { s.fab with guards := storeSet guardDefault s.fab.guards k s.stagedRule } else s
  | none => s

/-- A write to a register of effect range `n`: EFF_BAD where it leaves the range enabled and not valid. -/
def State.effWrite (s : State) (n a v : Nat) : State :=
  let t := s.regApply a v
  if t.on (F.JER_EFF_BASE_LO_EN n) && !t.effValid n then t.raise F.JER_EVT_EFF_BAD else t

/-- The register of effect range `n` that `which` names: BASE_LO, BASE_HI, LIMIT_LO, LIMIT_HI. -/
def effReg (n which : Nat) : Nat := R.JER_EFF_BASE_LO n + 4 * (which % 4)

def State.jerWrite (s : State) (a v : Nat) : State :=
  if a = R.JER_GSEL then s.guardSelect v
  else if a = R.JER_GCOMMIT then s.guardCommit v
  else if 0x10100 ≤ a ∧ a < 0x10180 then s.effWrite ((a - 0x10100) / 0x10) a v
  else s.regApply a v

/-! RND (R85, R87, R88, R102). -/

def State.rndWrite (s : State) (pid a v : Nat) : State :=
  if a = R.RND_CTL then s.applyBut pid a v [] [(F.RND_CTL_CPL_TMO, 1, 95)]
  else if 0x31000 ≤ a ∧ a < 0x31800 then
    let n := (a - 0x31000) / 8
    if a % 8 = 0 then s.bellCmd pid n v else s.bellCpl pid n v
  else if 0x32000 ≤ a ∧ a < 0x34000 then
    let n := (a - 0x32000) / 0x20
    match a % 0x20 / 4 with
    | 4 => s.apply0 pid a v
    | 5 => if bitOf v 0 then s.ctlOn pid n v else s.ctlOff pid n v
    | 6 => if s.rMay pid n then s.regApply a v else s
    | 7 => s
    | k => s.baseWrite pid n k v
  else s.regApply a v

/-! SWC (R119, R121, R126, R132, R157). -/

/-- A write to a register of the ply group that SWC_PLY_SEL selects. -/
def State.plyWrite (s : State) (a v : Nat) : State :=
  let e := s.plyEnt s.plySel
  let w := bits v 25 16
  if a = R.SWC_PLY_CFG then
    let e := { e with en := bitOf v 31, cls := bits v 2 0 }
    s.setPlyEnt s.plySel (if 100 ≤ w ∧ w ≤ 800 then { e with window := w } else e)
  else if a = R.SWC_PLY_DEST then s.setPlyEnt s.plySel { e with dest := bits v 23 0 }
  else if a = R.SWC_PLY_MASK_LO then s.setPlyEnt s.plySel { e with mask := setBits e.mask 31 0 v }
  else s.setPlyEnt s.plySel { e with mask := setBits e.mask 63 32 v }

/-- A write to SWC_BUF_CARVE: a carve of the selected queue alone; an ALPHA above 9 is not taken. -/
def State.carveWrite (s : State) (v : Nat) : State :=
  let k := if 9 < bits v 31 28 then s.alphaOf s.bufPort s.bufClass else bits v 31 28
  s.applyCarve [(8 * s.bufPort + s.bufClass, 65536 * k + bits v 15 0)] (s.get F.SWC_POOL_RSV_PLY_RSV)
    (s.get F.SWC_POOL_RSV_MIR_CAP)

def State.swcWrite (s : State) (pid a v : Nat) : State :=
  if a = R.SWC_AGE then s.applyBut pid a v [] [(F.SWC_AGE_AGE_S, 1, 65535)]
  else if a = R.SWC_MC_TMO then s.applyBut pid a v [] [(F.SWC_MC_TMO_TMO_US, 100, 100000)]
  else if a = R.SWC_SCHED_CTL then s.applyBut pid a v [] [(F.SWC_SCHED_CTL_ITER, 1, 4)]
  else if a = R.SWC_HRX_MAP_LO ∨ a = R.SWC_HRX_MAP_HI then (if pid = 0 ∨ pid = 2 then s.regApply a v else s)
  else if a = R.SWC_CRX_MAP_LO ∨ a = R.SWC_CRX_MAP_HI then s.apply0 pid a v
  else if a = R.SWC_BUF_CARVE then (if pid = 0 then s.carveWrite v else s)
  else if a = R.SWC_POOL_RSV then
    (if pid = 0 then s.applyCarve [] (bits v 15 0) (bits v 31 16) else s)
  else if a = R.SWC_PLY_SEL then s.apply0 pid a v
  else if a = R.SWC_PCP_MAP then (s.regApply a v).remapPfc
  else if R.SWC_PLY_CFG ≤ a ∧ a ≤ R.SWC_PLY_MASK_HI then (if pid = 0 then s.plyWrite a v else s)
  else
    match nth (R.SWC_PCFG 0) 4 24 a, nth (R.SWC_MIR_CTL 0) 0x10 4 a with
    | some n, _ =>
      let t := s.applyBut pid a v [] [(F.SWC_PCFG_LINK_HOLD n, 0, 1000)]
      if 3 < n then t.put (F.SWC_PCFG_CUT n) 0 else t
    | _, some m => s.applyBut pid a v [] [(F.SWC_MIR_CTL_DEST m, 0, 20)]
    | _, _ => s.regApply a v

/-! PRT (R158, R160, R171, R176, R177, R181). -/

/-- The enabled idle slopes of port `p` sum above its line rate. -/
def State.slopesOver (s : State) (p : Nat) : Bool :=
  decide (s.portRate p < ((List.range 8).map fun c =>
    if s.on (F.PRT_CBS_EN p c) then s.get (F.PRT_CBS_IDLE_SLOPE p c) else 0).sum)

def State.prtWrite (s : State) (p off v : Nat) : State :=
  let a := R.PRT_EVT p + off
  if 20 < p || prtLacks p off then s
  else if off = 0x10 then s.writeMode p v
  else if off = 0x24 then (if bits v 15 0 < bits v 31 16 then s.regApply a v else s)
  else if off = 0x28 then
    let was := s.on (F.PRT_PREEMPT_EN p)
    let dis := s.on (F.PRT_PREEMPT_VERIFY_DIS p)
    let t := s.applyBut 0 a v [] [(F.PRT_PREEMPT_VERIFY_MS p, 1, 128)]
    if t.on (F.PRT_PREEMPT_EN p) == was && t.on (F.PRT_PREEMPT_VERIFY_DIS p) == dis then t else t.verifyStart p
  else if off = 0x2C then s.writeGateCtl p v
  else if 0x40 ≤ off ∧ off < 0x60 then
    let t := (s.cbsUpdate p).regApply a v
    if t.slopesOver p then s else t
  else s.regApply a v

/-! TIM, AUD, CHT. -/

def State.timWrite (s : State) (pid a v : Nat) : State :=
  if a = R.TIM_INC then s.writeInc v
  else if a = R.TIM_STEP then s.writeStep v
  else if a = R.TIM_MEDIA then s.applyBut pid a v [] [(F.TIM_MEDIA_SLEW, 50, 1000)]
  else
    match nth (R.TIM_TRG_CTL 0) 0x10 16 a, nth (R.TIM_PIN_CTL 0) 4 5 a with
    | some n, _ => s.writeTrgCtl pid n v
    | _, some k => s.writePin k v
    | _, _ => if a = R.TIM_PPS_CTL then s.writePps v else s.regApply a v

def State.audWrite (s : State) (a v : Nat) : State :=
  match nth (R.AUD_AIN_CTL 0) 4 8 a, nth (R.AUD_AOUT_CTL 0) 4 8 a with
  | some n, _ => s.writeAin n v
  | _, some n => s.writeAout n v
  | _, _ => s.regApply a v

def State.chtWrite (s : State) (pid a v : Nat) : State :=
  if a = R.CHT_CTL then s.applyBut pid a v [F.CHT_CTL_LATE_LIMIT, F.CHT_CTL_FAIL_LIMIT] []
  else if a = R.CHT_EXCLUDED then s.unexclude pid v
  else s.regApply a v

/-! CAN and GWY (R262, R267, R282, R304). -/

def State.canWrite (s : State) (pid n off v : Nat) : State :=
  let a := R.CAN_EVT n + off
  if 11 < n then s
  else if off = 0x10 then s.canCtlWrite n v
  else if off = 0x14 ∨ off = 0x18 then (if s.on (F.CAN_CTL_EN n) then s else s.regApply a v)
  else if off = 0x2C then s.txctlWrite n v
  else if off = 0x30 ∨ off = 0x34 then s.apply0 pid a v
  else
    match nth (R.CAN_RXQ_CFG n 0) 8 8 a with
    | some q =>
      let t := s.applyBut pid a v [] [(F.CAN_RXQ_CFG_SIZE n q, 1, 64)]
      if s.on (F.CAN_CTL_EN n) then
        (t.put (F.CAN_RXQ_CFG_EN n q) (s.get (F.CAN_RXQ_CFG_EN n q))).put (F.CAN_RXQ_CFG_SIZE n q)
          (s.get (F.CAN_RXQ_CFG_SIZE n q))
      else t
    | none => s.regApply a v

def State.gwyWrite (s : State) (pid a v : Nat) : State :=
  if a = R.GWY_CTL ∨ a = R.GWY_CFG_MASK then s.apply0 pid a v else s.regApply a v

/-! WAK, LDC, GAU. -/

def State.wakWrite (s : State) (pid a v : Nat) : State :=
  if a = R.WAK_CFG_MASK then s.apply0 pid a v
  else if a = R.WAK_CONFIRM then s.wakConfirm pid v
  else if a = R.WAK_BACKOFF then s.wakBackoff pid v
  else
    match nth (R.WAK_TRCV_CTL 0) 0x20 8 a with
    | some n => s.trcvWrite pid n v
    | none => if s.wakMay pid then s.regApply a v else s

/-- LDC_TIED becomes `v`: in a standby a tied channel is held, and one no longer tied is released (R349, R483). -/
def State.writeTied (s : State) (v : Nat) : State :=
  let s := s.put F.LDC_TIED_CH v
  if s.silent then
    (forEach ((List.range 32).filter fun n =>
      s.leader n == n && s.chState n == Ch.HELD && !s.bit F.LDC_TIED_CH n) State.resumeCh s).holdTied.applyShed
  else s

/-- A die that LDC reaches takes the bank's WD_MS (R347). -/
def State.tellWd (s : State) (b : Nat) : State :=
  if s.dieThere b then s.setBank b { s.ldcBank b with wdMs := s.get (F.LDC_B_CTL_WD_MS b) } else s

def State.ldcWrite (s : State) (pid a v : Nat) : State :=
  if a = R.LDC_SHED then (if pid = 0 then s.writeShed v else s)
  else if a = R.LDC_TIED then (if pid = 0 then s.writeTied v else s)
  else if a = R.LDC_CFG_MASK then s.apply0 pid a v
  else
    match nth (R.LDC_B_CTL 0) 0x20 4 a with
    | some b => (s.applyBut pid a v [] [(F.LDC_B_CTL_PWM_HZ b, 100, 20000), (F.LDC_B_CTL_WD_MS b, 2, 50)]).tellWd b
    | none => s.regApply a v

def State.gauWrite (s : State) (pid a v : Nat) : State :=
  if a = R.GAU_CFG_MASK then s.apply0 pid a v
  else if !s.gauMay pid then s
  else if a = R.GAU_LATCH then s.gauLatch pid v
  else if a = R.GAU_CTL then s.applyBut pid a v [] [(F.GAU_CTL_EVAL_MS, 10, 255)]
  else if a = R.GAU_HORIZON then s.applyBut pid a v [] [(F.GAU_HORIZON_S, 10, 86400)]
  else if a = R.GAU_BASE ∨ (R.GAU_PNOM 0 ≤ a ∧ a < R.GAU_PNOM 32) then (s.regApply a v).newFloor
  else s.regApply a v

/-! COR, MBX, QUE, SEM (R390 to R414). -/

/-- A write to COR_Ak_CTL: a scheduled core waits for the next firing of its trigger. -/
def State.coreCtl (s : State) (k v : Nat) : State :=
  s.coreChange fun t =>
    let t := t.regApply (R.COR_A_CTL k) v
    t.onCor fun c => { c with seen := storeSet cntDefault c.seen k (t.fires (t.get (F.COR_A_CTL_TRG k))) }

/-- A write to COR_Pp_CTL; its watchdog starts afresh. -/
def State.partCtl (s : State) (p v : Nat) : State :=
  (s.coreChange fun t => t.applyBut 0 (R.COR_P_CTL p) v [] [(F.COR_P_CTL_WD_MS p, 0, 10000)]).wdLoad p

def State.corWrite (s : State) (pid a v : Nat) : State :=
  if a = R.COR_LS then s.apply0 pid a v
  else if 0xF0100 ≤ a ∧ a < 0xF0200 then
    let k := (a - 0xF0100) / 0x20
    if s.actingCore k != k then s
    else if a % 0x20 = 0 then (if pid = 0 then s.coreCtl k v else s)
    else s.regApply a v
  else if 0xF0400 ≤ a ∧ a < 0xF0600 then
    let p := (a - 0xF0400) / 0x10
    if !isPart p then s
    else if a % 0x10 = 0 then (if pid = 0 then s.partCtl p v else s)
    else if a % 0x10 = 4 then s.partKick pid p
    else s
  else if 0xF1000 ≤ a ∧ a < 0xF2000 then s.apply0 pid a v
  else s.regApply a v

/-- A write to a register of mailbox `n` (R401). -/
def State.mbxWrite (s : State) (pid n off v : Nat) : State :=
  let a := R.MBX_SLOT n 0 + off
  if 16 ≤ n && !s.mbMayRead pid n then s.mbDeny
  else if off < 0x40 then (if off % 4 = 0 then s.mbSlot pid n (off / 4) v else s)
  else if off = 0x40 then s.mbCfg pid n v
  else if off = 0x44 then (if pid = 0 then s.applyBut pid a v [] [(F.MBX_TMO_US n, 10, 1000000)] else s)
  else if off = 0x48 then s.applyBut pid a v [F.MBX_VEC_RX_AIA n] []
  else if off = 0x4C then (if s.mbMayRead pid n then s.regApply a v else s.mbDeny)
  else if off = 0x50 then s.mbBell pid n v
  else if off = 0x54 then s.mbTakeBy pid n v
  else s

def State.queWrite (s : State) (pid a v : Nat) : State :=
  match nth (R.QUE_Q_CFG 0) 0x10 64 a with
  | some n => if bitOf v 31 then s.queueOn pid n v else s.queueOff pid n v
  | none => s.regApply a v

def State.semWrite (s : State) (pid a v : Nat) : State :=
  if a = R.SEM_RECLAIM then s.semReclaim pid v
  else
    match nth (R.SEM_REL 0) 4 64 a with
    | some n => s.semRelease pid n v
    | none => s.regApply a v

/-! ENC, PAI, FLT. -/

def State.encWrite (s : State) (pid a v : Nat) : State :=
  if a = R.ENC_ADMIN_MASK then s.apply0 pid a v
  else if a = R.ENC_TAMP_CFG then (if s.on F.ENC_TAMP_CFG_LOCK then s else s.apply0 pid a v)
  else s.regApply a v

def State.paiWrite (s : State) (pid a v : Nat) : State :=
  if a = R.PAI_CTL then s.paiCtl pid v
  else if a = R.PAI_DEAD then s.applyBut pid a v [] [(F.PAI_DEAD_DEAD_US, 300, 50000)]
  else if a = R.PAI_WITNESS then
    s.applyBut pid a v [] [(F.PAI_WITNESS_WITNESS_MS, 3, 1000), (F.PAI_WITNESS_BEACON_MS, 1, 100)]
  else if a = R.PAI_BRIDGE then
    s.applyBut pid a v [] [(F.PAI_BRIDGE_TMO_US, 1000, 9000), (F.PAI_BRIDGE_CROSS_US, 10, 1000)]
  else if a = R.PAI_IN_MASK then s.apply0 pid a (v &&& 0x7FFFC)
  else if a = R.PAI_ID ∨ a = R.PAI_CFG_MASK then s.apply0 pid a v
  else s.regApply a v

def State.fltWrite (s : State) (pid a v : Nat) : State :=
  if a = R.FLT_ESC_CTL then s.applyBut pid a v [F.FLT_ESC_CTL_EN] []
  else if a = R.FLT_THERM ∨ a = R.FLT_CFG_MASK then s.apply0 pid a v
  else s.regApply a v

/-! Every page but those of DEV and BOO. -/

/-- A write of `v` by partition `pid` to the register at set-up offset `a`, which is none of DEV's and BOO's and not RND_CANCEL;
an offset that holds no register ignores it (R61). -/
def State.pageWrite (s : State) (pid a v : Nat) : State :=
  let off := a % 0x10000
  if isEvt a then s.evtClear pid a v 0
  else if isEvtEn a then s.evtEnWrite pid a v
  else
    match a / 0x10000 with
    | 0x1 => s.jerWrite a v
    | 0x2 => s.applyBut pid a v [] (if a = R.MEM_SCRUB_INTERVAL then
        [(F.MEM_SCRUB_INTERVAL_INTERVAL, 1000, 10000000)] else [])
    | 0x3 => s.rndWrite pid a v
    | 0x4 => s.swcWrite pid a v
    | 0x5 => s.prtWrite (off / 0x800) (off % 0x800) v
    | 0x6 => s.timWrite pid a v
    | 0x7 => s.audWrite a v
    | 0x8 => s.chtWrite pid a v
    | 0x9 => s.canWrite pid (off / 0x1000) (off % 0x1000) v
    | 0xA => s.gwyWrite pid a v
    | 0xB => s.wakWrite pid a v
    | 0xC => s.ldcWrite pid a v
    | 0xD => s.sioWrite pid a v
    | 0xE => s.gauWrite pid a v
    | 0xF => s.corWrite pid a v
    | 0x10 =>
      if 0x1000 ≤ off ∧ off < 0x3000 then s.mbxWrite pid ((off - 0x1000) / 0x100) (off % 0x100) v else s.regApply a v
    | 0x11 => s.queWrite pid a v
    | 0x12 => s.semWrite pid a v
    | 0x13 => s.encWrite pid a v
    | 0x15 => s.paiWrite pid a v
    | 0x16 => s.fltWrite pid a v
    | _ => s

end Sys2Proof.Machine
end

