-- ==== Sys2Proof/Machine/Loading.lean ====
section
/-! DEFINITION. Loading the configuration store (R85, R201, R266, R280, R304, R348, R392, R454, R494). -/
namespace Sys2Proof.Machine

/-- An opcode that loads a table, performed for a step of the configuration store. -/
def State.tableOp (s : State) (d : Desc) : State :=
  match d.func, d.opcode with
  | 4, 1 => s.fdbAdd d
  | 4, 5 => s.vlanSet d
  | 4, 6 => s.streamSet d
  | 5, 1 => s.gclLoad d
  | 5, 2 => s.filterSet d
  | 5, 3 => s.qciGateLoad d
  | 5, 4 => s.meterSet d
  | 7, 5 => s.audStreamSet d
  | 9, 3 => s.filterLoad d
  | 0xA, 1 => s.ruleSet d
  | 0xA, 2 => s.mapLoad d
  | 0xA, 3 => s.pduSet d
  | 0xA, 4 => s.templateSet d
  | 0xC, 2 => s.chConfig d
  | 0xF, 1 => s.schedLoad d
  | _, _ => s

/-- A step of the configuration store. It acts for partition 0, and no round holds its opcode: its descriptor is of none. -/
def State.storeStep (s : State) (x : Nat × Nat × Bytes × Bytes) : State :=
  if x.2.2.1.isEmpty then s.pageWrite 0 x.1 (x.2.1 % 2 ^ 32)
  else s.tableOp ⟨256, 0, x.2.2.1, some x.2.2.2, none, false, false, [], true, true, 0, false, false, false, 0, 0, 0, none⟩

/-- The function that a step is part of. -/
def stepFunc (x : Nat × Nat × Bytes × Bytes) : Nat := if x.2.2.1.isEmpty then x.1 / 0x10000 else u8 x.2.2.1 2

/-- The steps of `l` in order. -/
def State.storeRun (s : State) (l : List (Nat × Nat × Bytes × Bytes)) : State := forEach l (fun x t => t.storeStep x) s

end Sys2Proof.Machine
end

