-- ==== Sys2Proof/Machine/CastOn.lean ====
section
/-! DEFINITION. Cast-on: the flash areas and their verification (R448 to R452), the journal and its copies (R455, R456) and
the sequence to the release of the cores (R444). -/
namespace Sys2Proof.Machine

/-! Areas (R448). -/

def Area.ACTIVE : Nat := 0
def Area.FALLBACK : Nat := 1
def Area.STAGING : Nat := 2

def areaBase (a : Nat) : Nat := if a = 0 then 0x300000000 else if a = 1 then 0x310000000 else 0x313000000
def areaSize : Nat := 0x3000000
def journalBase : Nat := 0x303400000

/-- The configuration store's copies. -/
def configBase (i : Nat) : Nat := if i = 0 then 0x303000000 else 0x316000000

/-- Bytes programmed into a flash: bits only clear. -/
def flashAnd : Bytes → Bytes → Bytes
  | a :: r, b :: t => (a &&& b) :: flashAnd r t
  | a, _ => a

def State.program (s : State) (a : Nat) (b : Bytes) : State := s.writeBytes a (flashAnd (s.readBytes a b.length) b)
def State.erase (s : State) (a : Nat) : State := s.writeBytes a (List.replicate 65536 0xFF)

/-! The area directory (R449). -/

def State.areaDir (s : State) (a : Nat) : Bytes := s.readBytes (areaBase a) 60
def dirUsed (b : Bytes) : Nat := u32 b 12
def dirCrc (b : Bytes) : Nat := u32 b 16
def dirSum (b : Bytes) : Nat := crc32 (slice b 0 8 ++ slice b 12 4 ++ slice b 20 40)

/-- Offset and length of entry `i`. -/
def dirEntry (b : Bytes) (i : Nat) : Nat × Nat := (u32 b (20 + 8 * i), u32 b (24 + 8 * i))

/-- STATE of the staging directory as BOO_STAT.STAGING shows it. -/
def stagingState (b : Bytes) : Nat :=
  if u32 b 8 = 0xFFFF0000 then 2 else if u32 b 8 = 0 then 3 else 0

/-- The container of a kind in an area: its address and the room it has. -/
def State.container (s : State) (a kind : Nat) : Option (Nat × Nat) :=
  let b := s.areaDir a
  ((List.range 5).map (dirEntry b)).findSome? fun e =>
    if (s.rdMem (areaBase a + e.1 + 5)).toNat = kind then some (areaBase a + e.1, e.2) else none

/-- The directory holds each of kinds 1 to 5 once within USED, and its DIR_CRC is correct (reason 7). -/
def State.dirOk (s : State) (a : Nat) : Bool :=
  let b := s.areaDir a
  let es := (List.range 5).map (dirEntry b)
  u32 b 0 == 0x52415A46 && u32 b 4 == 5 && dirCrc b == dirSum b && decide (dirUsed b ≤ areaSize) &&
    es.all (fun e => e.1 % 4096 == 0 && decide (4096 ≤ e.1) && decide (e.1 + e.2 ≤ dirUsed b)) &&
    [1, 2, 3, 4, 5].all fun k =>
      (es.filter fun e => (s.rdMem (areaBase a + e.1 + 5)).toNat == k).length == 1

/-! The image container (R450, R451). -/

/-- A container's header, as far as it is used, and a load-map entry: destination, offset, length, hash. -/
def State.header (s : State) (a : Nat) : Bytes := s.readBytes a 4096
def hdrVersion (h : Bytes) : Nat := u32 h 12
def hdrTrial (h : Bytes) : Nat := u32 h 20
def hdrRollback (h : Bytes) : Nat := u32 h 8
def mapDest (h : Bytes) (i : Nat) : Nat := u48 h (128 + 64 * i)
def mapOff (h : Bytes) (i : Nat) : Nat := u32 h (136 + 64 * i)
def mapLen (h : Bytes) (i : Nat) : Nat := u32 h (140 + 64 * i)
def mapHash (h : Bytes) (i : Nat) : Bytes := slice h (144 + 64 * i) 48

/-- Reason 1: the form of a container of `kind` that has `room` bytes. -/
def formOk (h : Bytes) (kind room : Nat) : Bool :=
  let n := u8 h 7
  let total := u32 h 16
  u32 h 0 == 0x4D495A46 && u8 h 4 == 1 && u8 h 5 == kind && decide (u8 h 6 ≤ 2) && decide (1 ≤ n) && decide (n ≤ 16) &&
    decide (hdrRollback h ≤ 64) && decide (total ≤ room) &&
    (if kind = 2 then decide (30 ≤ hdrTrial h) && decide (hdrTrial h ≤ 1800) else hdrTrial h == 0) &&
    allZero h 121 128 && allZero h (128 + 64 * n) 1152 && allZero h 1296 4096 &&
    (List.range n).all fun i => u16 h (134 + 64 * i) == 0 && (kind == 2 || mapDest h i == 0) &&
      decide (4096 ≤ mapOff h i) && decide (mapOff h i + mapLen h i ≤ total)

/-- The rollback floor of a kind's class (R452). -/
def State.floorOf (s : State) (kind : Nat) : Nat :=
  if kind = 1 ∨ kind = 3 ∨ kind = 5 then s.get F.BOO_FLOOR_VENDOR else s.get F.BOO_FLOOR_CUSTOMER

/-- The reason for which a container with header `h` fails verification; 0 if it passes. `rd` gives its bytes. -/
def State.verifyBy (s : State) (h : Bytes) (rd : Nat → Nat → Bytes) (kind room : Nat) : Nat :=
  let n := u8 h 7
  if !formOk h kind room then 1
  else if s.signerHash (u8 h 6) != some (sha384 (slice h 24 97)) then 2
  else if (kind == 1 || kind == 3 || kind == 5) && u8 h 6 != 0 then 3
  else if hdrRollback h < s.floorOf kind then 4
  else if sha384 (slice h 0 1152) != slice h 1152 48 || !ecdsaOk (slice h 24 97) (slice h 1152 48) (slice h 1200 96) ||
      (List.range n).any (fun i => sha384 (rd (mapOff h i) (mapLen h i)) != mapHash h i) then 5
  else if kind == 2 && (List.range n).any (fun i => decide (0xE0000000 < mapDest h i + mapLen h i)) then 6
  else 0

/-- The reason for which the container at `a` fails verification. -/
def State.verify (s : State) (a kind room : Nat) : Nat :=
  s.verifyBy (s.header a) (fun o n => s.readBytes (a + o) n) kind room

/-- The reason for which an area fails; 0 if every container passes. -/
def State.verifyArea (s : State) (a : Nat) : Nat :=
  if !s.dirOk a then 7
  else
    (([1, 2, 3, 4, 5].map fun k => match s.container a k with
      | some c => s.verify c.1 k c.2
      | none => 7).find? (· != 0)).getD 0

/-- BOO_VER_*: VERSION of an area's kind 2 container; 0 where the area is not valid. -/
def State.areaVersion (s : State) (a : Nat) : Nat :=
  if s.verifyArea a ≠ 0 then 0
  else
    match s.container a 2 with
    | some c => hdrVersion (s.header c.1)
    | none => 0

/-- BOO_STAT.STAGING and the versions follow the areas. -/
def State.showAreas (s : State) : State :=
  let writing := s.get F.BOO_STAT_WRITER != 0
  let st := stagingState (s.areaDir Area.STAGING)
  let s := s.put F.BOO_STAT_STAGING (if writing then 1 else st)
  let s := s.put F.BOO_VER_ACTIVE_VERSION (s.areaVersion Area.ACTIVE)
  let s := s.put F.BOO_VER_FALLBACK_VERSION (s.areaVersion Area.FALLBACK)
  s.put F.BOO_VER_STAGING_VERSION (if writing then 0 else s.areaVersion Area.STAGING)

/-- The staging directory's STATE: ready, or consumed. -/
def State.markStaging (s : State) (v : Nat) : State := (s.program (areaBase Area.STAGING + 8) (leBytes 4 v)).showAreas

/-! The journal (R455): records by index, 2,048 in each half. -/

def Phase.VERIFIED : Nat := 1
def Phase.COPY_A2F : Nat := 2
def Phase.COPY_S2A : Nat := 3
def Phase.TRIAL : Nat := 4
def Phase.CONFIRMED : Nat := 5
def Phase.RESTORE : Nat := 6
def Phase.RESTORED : Nat := 7

def State.record (s : State) (i : Nat) : Bytes := s.readBytes (journalBase + 64 * i) 64
def recordOk (b : Bytes) : Bool := u32 b 0 == 0x4C4E524A && u32 b 60 == crc32 (b.take 60)

/-- The records with a byte that is not erased, in rising order. -/
def State.written (s : State) : List Nat :=
  ((s.mem.filter fun c => decide (journalBase ≤ c.1) && decide (c.1 < journalBase + 0x40000)).map
    fun c => (c.1 - journalBase) / 64).eraseDups

/-- The index of the record in force: a correct CRC and the highest SEQ. -/
def State.inForce (s : State) : Option Nat :=
  s.written.foldl (fun m i =>
    if !recordOk (s.record i) then m
    else match m with
      | none => some i
      | some j => if u32 (s.record j) 4 < u32 (s.record i) 4 then some i else m) none

/-- The first erased record of half `h`, none where it is full. -/
def State.freeRecord (s : State) (h : Nat) : Option Nat :=
  let w := s.written.filter fun i => i / 2048 == h
  let i := match w.getLast? with | some l => l + 1 | none => 2048 * h
  if i / 2048 = h then some i else none

/-- A record is appended; a full half gives way to the other, which takes the record in force first. -/
def State.append (s : State) (phase chunk crc used : Nat) : State :=
  let seq := match s.inForce with | some i => u32 (s.record i) 4 + 1 | none => 1
  let b := leBytes 4 0x4C4E524A ++ leBytes 4 seq ++ leBytes 1 phase ++ zeros 3 ++ leBytes 4 chunk ++ leBytes 4 crc ++
    leBytes 4 used ++ zeros 36
  let b := b ++ leBytes 4 (crc32 b)
  let half := match s.inForce with | some i => i / 2048 | none => 0
  match s.freeRecord half with
  | some i => s.program (journalBase + 64 * i) b
  | none =>
    let o := 2048 * (1 - half)
    let s := match s.inForce with
      | some i => s.program (journalBase + 64 * o) (s.record i)
      | none => s
    let s := (s.erase (journalBase + 0x20000 * half)).erase (journalBase + 0x20000 * half + 0x10000)
    s.program (journalBase + 64 * (o + 1)) b

/-- A record about area `a`. -/
def State.appendFor (s : State) (phase chunk a : Nat) : State :=
  s.append phase chunk (dirCrc (s.areaDir a)) (dirUsed (s.areaDir a))

/-! From a verified area to the release of the cores. -/

def State.bootState (s : State) (v : Nat) : State := s.put F.BOO_STAT_BOOT_STATE v

/-- Service mode (R453). -/
def State.service (s : State) : State := ((s.bootState 4).put F.DEV_STAT_STATE 2).showAreas

/-- Floors rise to the highest ROLLBACK of their class in the active area (R459). -/
def State.raiseFloors (s : State) : State :=
  let rb := fun (k : Nat) => match s.container Area.ACTIVE k with
    | some c => hdrRollback (s.header c.1)
    | none => 0
  let s := s.put F.BOO_FLOOR_VENDOR (max (s.get F.BOO_FLOOR_VENDOR) (max (rb 1) (max (rb 3) (rb 5))))
  s.put F.BOO_FLOOR_CUSTOMER (max (s.get F.BOO_FLOOR_CUSTOMER) (max (rb 2) (rb 4)))

/-- DIGEST of a kind of the active area is measured (R451). -/
def State.measureKind (kind : Nat) (s : State) : State :=
  match s.container Area.ACTIVE kind with
  | some c => s.encMeasure kind 0 (slice (s.header c.1) 1152 48)
  | none => s

/-- Entry `i` of the application images is loaded and measured. -/
def State.loadImage (a : Nat) (i : Nat) (s : State) : State :=
  let h := s.header a
  let d := mapDest h i
  let b := s.readBytes (a + mapOff h i) (mapLen h i)
  ((s.eccWrite d b.length 0).writeBytes d b).encMeasure 2 i (mapHash h i)

def State.loadImages (s : State) : State :=
  match s.container Area.ACTIVE 2 with
  | some c => forEach (List.range (u8 (s.header c.1) 7)) (State.loadImage c.1) s
  | none => s

/-- The configuration copy that cast-on uses: the valid one with the higher VERSION (R454). -/
def State.configCopy (s : State) : Option Nat :=
  let ok := fun (i : Nat) => s.verify (configBase i) 8 0x400000 == 0
  let v := fun (i : Nat) => hdrVersion (s.header (configBase i))
  if ok 0 then if ok 1 && decide (v 0 < v 1) then some 1 else some 0 else if ok 1 then some 1 else none

/-- The power die of a bank whose VBANK is present is heard, or armed. -/
def State.castDie (f : State → Nat → State) (b : Nat) (s : State) : State := if (s.ldcBank b).powered then f s b else s

/-- The steps that the configuration copy in use holds. -/
def State.storeSteps (s : State) (i : Nat) : List (Nat × Nat × Bytes × Bytes) :=
  Config.storeSteps (beVal (s.header (configBase i)))

/-- Stage 6a: the configuration store is applied and every bank armed; without a valid copy the host gets round 0 (R454). -/
def State.applyConfig (s : State) : State :=
  let s := (s.put F.BOO_STAT_STAGE 6).put F.SWC_CTL_FWD_EN 1
  let s := forEach (List.range 4) (State.castDie State.hearDie) s
  match s.configCopy with
  | some i => forEach (List.range 4) (State.castDie fun t b => t.armBank b) (s.storeRun (s.storeSteps i))
  | none =>
    let s := ((s.raise F.BOO_EVT_CONFIG_BAD).put F.DEV_STAT_STATE 3).put (F.RND_R_ASSIGN_OWNER 0) 2
    (s.put (F.RND_R_ASSIGN_FUNC 0) 0x14).put (F.RND_R_CTL_SIZE 0) 6

/-- The part of function `f` in the configuration store is loaded again (R494). -/
def State.reload (s : State) (f : Nat) : State :=
  match s.configCopy with
  | some i => s.storeRun ((s.storeSteps i).filter fun x => stepFunc x == f)
  | none => s

/-- The pattern of the active area: its pattern table's first segment, where that is a description (DESIGN CHOICE,
log 54). -/
def State.bootPattern (s : State) : Option Pattern :=
  match s.container Area.ACTIVE 4 with
  | none => none
  | some c =>
    let h := s.header c.1
    let b := s.readBytes (c.1 + mapOff h 0) (mapLen h 0)
    if (patternFault s.slot b b.length).isNone then some (parsePattern b) else none

/-- The pattern of the active area starts, with every node at rest (R237). -/
def State.startPattern (s : State) : State :=
  match s.bootPattern with
  | none => s
  | some p => ((s.onAud fun a => { a with pat := some p, st := [] }).newFloor.showLoads).askChart .restart

/-- Trigger 0 is armed as the audio block trigger; its first TARGET is free (R201). -/
def State.armBlocks (s : State) : State :=
  let s := (s.put (F.TIM_TRG_TARGET_VALUE 0) (s.free 310)).drawn
  let s := (s.put (F.TIM_TRG_PERIOD_VALUE 0) 1000000).put (F.TIM_TRG_CTL_ARMED 0) 1
  s.onTim fun t => { t with armNew := setBit t.armNew 0 }

/-- The trial window starts (R457). -/
def State.startTrial (s : State) : State :=
  let t := match s.container Area.ACTIVE 2 with | some c => hdrTrial (s.header c.1) | none => 0
  ((s.bootState 2).onBoo fun b => { b with trial := some (s.now + 1000000000 * t) }).raise F.BOO_EVT_TRIAL

/-- Stage 7: the cores are released, and the module is in RUN. -/
def State.releaseCores (s : State) (trial : Bool) : State :=
  let s := s.coreChange fun t => t.onCor fun c => { c with held := 0 }
  let s := ((s.put F.BOO_STAT_STAGE 7).put F.DEV_STAT_STATE 0).enterRun
  if trial then s.startTrial else s

/-- Steps 5 to 10 of R444, from a verified active area. -/
def State.bootArea (s : State) (trial : Bool) : State :=
  let s := (s.bootState (if trial then 2 else 0)).put F.BOO_STAT_STAGE 4
  let s := (s.encStart.put F.BOO_STAT_STAGE 5).measureKind 1
  let s := s.applyConfig
  let s := (forEach [3, 4, 5] State.measureKind s).startPattern.armBlocks.loadImages.showAreas
  if s.get F.DEV_STAT_STATE = 3 then s else s.releaseCores trial

/-! The boot decision (R456). -/

/-- Chunks of an area. -/
def chunksOf (used : Nat) : Nat := min 768 (ceilDiv used 65536)

/-- An operation of a flash starts, or waits for the one before it. -/
def State.flashStart (s : State) (o : FlashOp) : State := s.onBoo fun b => { b with ops := b.ops ++ [o] }

/-- An erase or a program at a flash-window address. -/
def flashOp (erase : Bool) (a : Nat) (data : Bytes) (who : FlashFor) (last : Bool) : FlashOp :=
  ⟨(a - 0x300000000) / 0x10000000, erase, (a - 0x300000000) % 0x10000000, data, who, last⟩

/-- The chunk under way is erased; its program follows. -/
def State.copyChunk (s : State) (j : CopyJob) : State :=
  (s.onBoo fun b => { b with job := some j }).flashStart
    (flashOp true (areaBase j.dst + 65536 * j.k) [] .copy false)

/-- A copy runs from chunk `k` on; with none left `done` follows at once. -/
def State.copyFrom (s : State) (src dst phase k : Nat) (done : State → State) : State :=
  let n := chunksOf (dirUsed (s.areaDir src))
  if k < n then s.copyChunk ⟨src, dst, phase, k, n, false⟩ else done (s.onBoo fun b => { b with job := none })

/-- The active area boots; one that fails is restored from the fallback, which must pass, or service mode follows
(R453). -/
def State.bootActive (trial : Bool) (s : State) : State :=
  let r := s.verifyArea Area.ACTIVE
  if r = 0 then
    let s := match s.inForce with
      | some i => if u8 (s.record i) 8 = Phase.CONFIRMED then s.raiseFloors else s
      | none => s
    s.bootArea trial
  else
    let s := s.put F.BOO_STAT_LAST_RESULT r
    if s.verifyArea Area.FALLBACK ≠ 0 then s.service
    else (s.bootState 3).copyFrom Area.FALLBACK Area.ACTIVE Phase.RESTORE 0 State.service

/-- The fallback has been restored; after an expired trial LAST_RESULT is 8 (R457). -/
def State.restored (s : State) : State :=
  let s := (s.appendFor Phase.RESTORED 0 Area.ACTIVE).raise F.BOO_EVT_RESTORED
  (if s.get F.FLT_RESET_CAUSE_CAUSE = 6 then s.put F.BOO_STAT_LAST_RESULT 8 else s).bootActive false

def State.restoreFrom (s : State) (k : Nat) : State :=
  (s.bootState 3).copyFrom Area.FALLBACK Area.ACTIVE Phase.RESTORE k State.restored

/-- Staging is in place: consumed, and booted on trial. -/
def State.applied (s : State) : State :=
  ((s.markStaging 0).appendFor Phase.TRIAL 0 Area.ACTIVE).bootActive true

def State.applyFrom (s : State) (k : Nat) : State :=
  (s.bootState 1).copyFrom Area.STAGING Area.ACTIVE Phase.COPY_S2A k State.applied

def State.backupFrom (s : State) (k : Nat) : State :=
  (s.bootState 1).copyFrom Area.ACTIVE Area.FALLBACK Phase.COPY_A2F k fun t => t.applyFrom 0

/-- The record in force names a copy cut short. -/
def State.resume (s : State) (go : State → Nat → State) (k : Nat) : State := go (s.count C.BOO_COPY_RESUME) (k + 1)

def State.bootDecide (s : State) : State :=
  let j := match s.inForce with | some i => s.record i | none => zeros 64
  let ph := u8 j 8
  if ph = Phase.VERIFIED then (s.count C.BOO_COPY_RESUME).backupFrom 0
  else if ph = Phase.COPY_A2F then s.resume State.backupFrom (u32 j 12)
  else if ph = Phase.COPY_S2A then s.resume State.applyFrom (u32 j 12)
  else if ph = Phase.TRIAL then s.restoreFrom 0
  else if ph = Phase.RESTORE then s.resume State.restoreFrom (u32 j 12)
  else if stagingState (s.areaDir Area.STAGING) = 2 then
    let r := s.verifyArea Area.STAGING
    if r ≠ 0 then
      (((s.markStaging 0).put F.BOO_STAT_LAST_RESULT r).raise F.BOO_EVT_STAGE_FAIL).bootActive false
    else (s.appendFor Phase.VERIFIED 0 Area.STAGING).backupFrom 0
  else s.bootActive false

/-- Cast-on from step 4 of R444, or for a cold one from step 3; until stage 5 ENC_STAT shows that the enclave is starting. -/
def State.castOn (s : State) (warm : Bool) : State :=
  let s := if warm then s else s.latticeLock
  let s := ((s.put F.WAK_STAT_STATE Mod.BOOT).put F.DEV_STAT_STATE 1).put F.PAI_STAT_RANK s.rank
  ((s.put F.ENC_STAT_STATE 3).put F.BOO_STAT_STAGE 3).showAreas.bootDecide

/-- A cold cast-on samples the straps (R446). -/
def State.coldStart (s : State) (rank updMode : Nat) : State :=
  ((s.put F.BOO_STRAP_PAIR_RANK rank).put F.BOO_STRAP_UPD_MODE updMode).castOn false

/-- A copy has ended. -/
def State.copyDone (s : State) (j : CopyJob) : State :=
  let s := s.onBoo fun b => { b with job := none }
  if j.phase = Phase.COPY_A2F then s.applyFrom 0
  else if j.phase = Phase.COPY_S2A then s.applied
  else if j.phase = Phase.RESTORE then s.restored
  else ((s.markStaging 0).appendFor Phase.RESTORED 0 Area.ACTIVE).bootDecide

/-- Bytes of chunk `k` of an area. -/
def State.chunk (s : State) (a k : Nat) : Bytes := s.readBytes (areaBase a + 65536 * k) 65536

/-- The chunk under way has been programmed and is read back; one that differs is done once more, then service mode
follows. -/
def State.copyCheck (s : State) (j : CopyJob) : State :=
  if s.chunk j.dst j.k == s.chunk j.src j.k then
    let s := if j.phase = 0 then s else s.appendFor j.phase j.k j.src
    if j.k + 1 < j.n then s.copyChunk { j with k := j.k + 1, again := false } else s.copyDone j
  else if j.again then (s.onBoo fun b => { b with job := none }).service
  else s.copyChunk { j with again := true }

/-- An operation of the copy under way has ended. -/
def State.copyNext (s : State) (o : FlashOp) : State :=
  match s.boo.job with
  | none => s
  | some j =>
    if o.erase then s.flashStart (flashOp false (areaBase j.dst + 65536 * j.k) (s.chunk j.src j.k) .copy true)
    else s.copyCheck j

end Sys2Proof.Machine
end

