-- ==== Sys2Proof/Machine/Recovery.lean ====
section
/-! DEFINITION. The recovery ladder (R492 to R508): function restarts, warm resets, power cycles, their triggers and
watchdogs, the loss of VLOG and the logic die's temperature. -/
namespace Sys2Proof.Machine

/-! Function restart (R494). -/

def St.NOT_RESTARTABLE : Nat := 0x1700

def State.fltMay (s : State) (d : Desc) : Bool := decide (s.dPid d < 32) && s.bit F.FLT_CFG_MASK_MASK (s.dPid d)

/-- PRT, AUD, CAN, GWY, LDC and SIO restart. -/
def restartable (f : Nat) : Bool := f == 5 || f == 7 || f == 9 || f == 0xA || f == 0xC || f == 0xD

/-- A register that a restart of its function leaves: a counter's high register, and what acts on the power dies. -/
def restartKeeps (a : Nat) : Bool :=
  isCounter (a - 4) || keptDie a || a == R.LDC_SHED || a == R.LDC_TIED || (List.range 4).any (fun b => a == R.LDC_B_CTL b) ||
    a == R.SIO_DIN_STATE

/-- The registers of function `f`'s page take their reset values. -/
def State.resetPage (s : State) (f : Nat) : State :=
  s.setRegs (s.regs.filter fun x => x.1 / 0x10000 != f || restartKeeps x.1)

/-- A port leaves UP as PRT restarts; its switch port enters HOLD (R152). -/
def State.restartPort (p : Nat) (s : State) : State :=
  let s := if (s.line p).cur.isSome then s.txEnd p else s
  s.macOff p

/-- A controller's queues and states as CAN restarts; the frame on its bus completes. -/
def State.restartCan (n : Nat) (s : State) : State :=
  let c := s.ctl n
  let s := (s.setCtl n { c with txq := c.txq.map fun q => q.map fun x => { x with send := none } }).canOff n
  let c := s.ctl n
  s.setCtl n { ctlDefault n with txq := c.txq, cur := c.cur, curAt := c.curAt, curTs := c.curTs, last := c.last }

/-- An input as SIO restarts: its value stays until its next sample, taken without debounce (R365). -/
def State.restartDin (k : Nat) (s : State) : State :=
  s.setDin k { s.din k with valCnt := 0, clsCnt := 0, direct := true }

/-- What function `f` clears. -/
def State.clearFunc (s : State) (f : Nat) : State :=
  if f = 5 then
    let s := forEach (List.range 21) State.restartPort s
    (s.resetPage 5).onPrt fun t => { Prt.reset with filtCnt := t.filtCnt }
  else if f = 7 then
    let s := (s.resetPage 7).onAud fun a => { Aud.reset with linkUp := a.linkUp, elBase := a.elBase }
    let s := s.clearShadowSt.onCht fun c => { c with place := none, shadow := none, asks := c.asks.filter fun x => !isLoad x }
    s.powerOff.showEngines
  else if f = 9 then (forEach (List.range 12) State.restartCan s).resetPage 9
  else if f = 0xA then (s.resetPage 0xA).setGwy { Gwy.reset with fresh := s.gwy.fresh }
  else if f = 0xC then s.resetPage 0xC
  else if f = 0xD then
    let s := forEach (List.range 32) State.restartDin (s.resetPage 0xD)
    s.setSio { s.sio with ports := [] }
  else s

/-- A descriptor of a restarting function ends with FUNC_DOWN. -/
def State.downDesc (d : Desc) (s : State) : State :=
  s.updDesc d fun e => { e with running := false, fin := some ⟨St.FUNC_DOWN, 0⟩ }

/-- Function `f` begins to restart: it is cleared, and its part of the configuration store loaded again. -/
def State.restartFunc (s : State) (f : Nat) : State :=
  let rounds := (List.range 256).filter fun n => s.rFunc n == f
  let going := s.rnd.descs.filter fun d => d.started && d.fin.isNone && s.rFunc d.round == f
  let s := forEach rounds (fun n t => t.frogRound n) (s.set1 F.FLT_RESTART_STAT_FUNC f)
  let s := forEach going State.downDesc ((s.clearFunc f).reload f)
  if f = 7 then s.startPattern else s

/-- FUNC_RESTART; one for a function that restarts already ends with it (R495). -/
def State.funcRestart (s : State) (d : Desc) : State :=
  let f := u8 d.raw 20
  if !s.fltMay d then s.finish d St.NOTPERMIT 0
  else if !restartable f then s.finish d St.NOT_RESTARTABLE 0
  else if s.restarting f then s.hold d
  else (s.hold d).restartFunc f

def execFuncRestart (r : Nat) (s : State) : Res := .next (s.withOp r 0x16 1 fun d => s.funcRestart d)

/-- The restart of function `f` ends. -/
def State.restartDone (s : State) (f : Nat) : State :=
  let s := ((s.clr1 F.FLT_RESTART_STAT_FUNC f).raise F.FLT_EVT_RESTART_DONE).count (C.FLT_RESTART f)
  let l := s.rnd.descs.filter fun d =>
    d.started && d.running && d.fin.isNone && d.func == 0x16 && d.opcode == 1 && u8 d.raw 20 == f
  forEach l (fun d t => t.finish d St.OK t.timNow) s

def execFuncRestartDone (fn : Nat) (s : State) : Res :=
  .next (if fn < 23 ∧ s.restarting fn then s.restartDone fn else s)

/-! Triggers. -/

/-- A warm reset of this cause, falling due now, is escalated (R500). -/
def State.escalates (s : State) (cause : Nat) : Bool :=
  let lim := max 1 (s.get F.FLT_ESC_CTL_LIMIT)
  (cause == 4 || cause == 5 || cause == 12) && s.on F.FLT_ESC_CTL_EN && decide (lim ≤ s.pow.hist.length) &&
    decide (s.aonS - s.pow.hist.getD (lim - 1) 0 < max 1 (s.get F.FLT_ESC_CTL_WINDOW_S))

def State.escalate (s : State) (cause : Nat) : State :=
  (s.onPow fun p => { p with hist := [] }).cycleAt 11 cause s.now

/-- A warm reset, or a power cycle, has fallen due and has not begun. -/
def State.warmWaits (s : State) : Bool := match s.pow.warm with | some (_, t) => decide (t ≤ s.now) | none => false
def State.cycleWaits (s : State) : Bool := match s.pow.cycle with | some (_, _, t) => decide (t ≤ s.now) | none => false

/-- A warm reset falls due now; one ordered after another that has fallen due has no effect. -/
def State.warmDue (s : State) (cause : Nat) : State :=
  if !s.pow.logic || s.wak.asleep || s.warmWaits || s.cycleWaits then s
  else if s.escalates cause && !s.pow.held then s.escalate cause
  else s.warmAt cause s.now

/-- WARM_RESET: its rung follows its completion. -/
def execWarmReset (r : Nat) (s : State) : Res :=
  .next (s.withOp r 0x16 2 fun d => s.finish d (if s.fltMay d then St.OK else St.NOTPERMIT) 0)

def execPowerCycle (r : Nat) (s : State) : Res :=
  .next (s.withOp r 0x16 3 fun d => s.finish d (if s.fltMay d then St.OK else St.NOTPERMIT) 0)

def State.devReset (s : State) (pid v : Nat) : State :=
  if (pid = 0 ∨ pid = 2) ∧ v % 65536 = 0x5EA7 then s.warmDue 3 else s

def State.devPwrcyc (s : State) (pid v : Nat) : State :=
  if (pid = 0 ∨ pid = 2) ∧ v % 65536 = 0xC7C1 ∧ s.pow.logic then s.cycleAt 8 0 s.now else s

def execDevResetWrite (pid val : Nat) (s : State) : Res := .next (s.devReset pid val)
def execDevPwrcycWrite (pid val : Nat) (s : State) : Res := .next (s.devPwrcyc pid val)

/-- RESET_N has been low for 1 µs. -/
def execResetNAssert (s : State) : Res := .next ((s.onPow fun p => { p with resetN := true }).warmDue 2)

def execMgmtWdExpiry (s : State) : Res := .next (s.warmDue 4)
def execMgmtFault (s : State) : Res := .next (s.warmDue 12)

def State.hostKick (s : State) (pid : Nat) : State := if pid = 2 then s.onPow fun p => { p with hostAt := s.now } else s

def execHostKick (pid _val : Nat) (s : State) : Res := .next (s.hostKick pid)

/-- A write of DEV_HOST_WD starts the period afresh; a TMO_MS outside its range stays (R503). -/
def State.hostWdWrite (s : State) (v : Nat) : State :=
  let s := (s.put F.DEV_HOST_WD_EN (bits v 31 31)).put F.DEV_HOST_WD_ACTION (bits v 30 30)
  let s := if 10 ≤ bits v 15 0 ∧ bits v 15 0 ≤ 60000 then s.put F.DEV_HOST_WD_TMO_MS (bits v 15 0) else s
  s.onPow fun p => { p with hostAt := s.now }

def execHostWdExpiry (s : State) : Res :=
  .next (if s.pow.logic && s.on F.DEV_HOST_WD_EN &&
      decide (s.pow.hostAt + 1000000 * s.get F.DEV_HOST_WD_TMO_MS ≤ s.now) then
    let s := (s.raise F.DEV_EVT_HOST_WD).onPow fun p => { p with hostAt := s.now }
    if s.on F.DEV_HOST_WD_ACTION then s.warmDue 5 else s
  else s)

/-! Rung 3 (R497). -/

/-- Steps 4 to 7: every live register reset, and cast-on. -/
def State.warmOn (s : State) : State :=
  ((s.onPow fun p => { p with held := false }).resetLogic true).castOn true

/-- Steps 1 to 3; a low RESET_N holds there. -/
def State.warmBegin (s : State) (cause : Nat) : State :=
  let s := (s.setCause 3 cause 0).put F.FLT_RESET_CAUSE_COUNT (min 255 (s.get F.FLT_RESET_CAUSE_COUNT + 1))
  let s := s.onPow fun p => { p with
    warm := none, hist := if cause = 4 ∨ cause = 5 ∨ cause = 12 then (s.aonS :: p.hist).take 15 else p.hist }
  let s := s.windDown.put F.DEV_STAT_STATE 1
  if s.pow.resetN then s.onPow fun p => { p with held := true } else s.warmOn

def execWarmResetBegin (s : State) : Res :=
  .next (match s.pow.warm with
    | some (cause, t) =>
      if s.now < t ∨ !s.pow.logic ∨ s.pow.held ∨ s.wak.asleep then s
      else if s.cycleWaits then s.onPow fun p => { p with warm := none }
      else if s.escalates cause then (s.onPow fun p => { p with warm := none }).escalate cause
      else s.warmBegin cause
    | none => s)

def execResetNRelease (s : State) : Res :=
  .next (let s := s.onPow fun p => { p with resetN := false }
    if s.pow.held && s.pow.logic then s.warmOn else s)

/-! Rung 4 (R499). -/

/-- POWER_CYCLE_BEGIN: steps 1 to 3 of R497, then the logic die stops and INH is released for 20 ms. -/
def execPowerCycleBegin (s : State) : Res :=
  .next (match s.pow.cycle with
    | some (cause, orig, t) =>
      if s.now < t ∨ !s.pow.logic ∨ s.wak.asleep then s
      else
        let s := (s.setCause 4 cause orig).windDown.stopLogic
        s.onPow fun p => { p with inh := false, cycle := none, off := some (s.now + 20000000), fell := false }
    | none => s)

/-- POWER_CYCLE_END: INH returns; a VLOG that has not fallen lets the logic die restart at once, unless it is hot. -/
def execPowerCycleEnd (rank updMode : Nat) (s : State) : Res :=
  .next (match s.pow.off with
    | some t =>
      if s.now < t then s
      else
        let s := s.onPow fun p => { p with inh := true, off := none }
        if s.pow.fell then s
        else
          let s := if s.get F.FLT_RESET_CAUSE_CAUSE = 8 then s.put F.FLT_RESET_CAUSE_CAUSE 9 else s
          if s.pow.hot || s.pow.resetN || !s.wak.vaon then s
          else (s.onPow fun p => { p with logic := true }).coldStart rank updMode
    | none => s)

/-- VLOG_LOSS: the logic die stops; within a power cycle or after a commit the loss is the one asked for. One within 200 µs of
the commit loses the SLEEP completion, and leaves the loads to the power dies' watchdogs (R324). -/
def execVlogLoss (s : State) : Res :=
  .next (let s := s.onPow fun p => { p with vlog := false }
    if s.pow.off.isSome then s.onPow fun p => { p with fell := true }
    else if !s.pow.logic then s
    else if s.wak.asleep then s.stopLogic
    else (s.setCause 4 1 0).stopLogic)

/-- COLD_CAST_ON: VLOG is within its range; with VAON valid too the logic die starts (R444, R511). -/
def execColdCastOn (rank updMode : Nat) (s : State) : Res :=
  .next (let s := s.onPow fun p => { p with vlog := true }
    let idle := !s.pow.logic || (s.get F.DEV_STAT_STATE == 1 && s.boo.job.isNone && !s.pow.held)
    if s.wak.vaon && s.pow.inh && !s.wak.asleep && s.pow.off.isNone && !s.pow.hot && !s.pow.resetN && idle then
      (s.onPow fun p => { p with logic := true }).coldStart rank updMode
    else s)

/-- THERMAL_POLL: each 1 ms the junction temperature of the logic die is read (R504). -/
def State.thermal (s : State) (tj : Int) : State :=
  let old := sint 10 (s.get F.FLT_THERM_TJ)
  let s := (s.put F.FLT_THERM_TJ (ofInt 10 tj)).put F.FLT_FAULT_THERM_CRIT (b2n (decide (160 ≤ tj)))
  let s := if 150 ≤ tj ∧ old < 150 then s.raise F.FLT_EVT_THERM_WARN else s
  let s := if 160 ≤ tj ∧ old < 160 then s.raise F.FLT_EVT_THERM_CRIT else s
  if 162 ≤ tj ∧ s.on F.FLT_THERM_SHUT_EN then (s.onPow fun p => { p with hot := true }).cycleAt 10 0 s.now else s

def execThermalPoll (tj : Int) (s : State) : Res :=
  .next (let s := if tj < 140 then s.onPow fun p => { p with hot := false } else s
    if s.pow.logic then s.thermal tj else s)

end Sys2Proof.Machine
end

