-- ==== Sys2Proof/Machine/Cancel.lean ====
section
/-! DEFINITION. Cancelling a descriptor (R102, R103), with the points of no return that opcodes define. -/
namespace Sys2Proof.Machine

/-- The descriptor's cancel is ordered: an effect that ends with OK completes TOO_LATE. -/
def State.flagCancel (s : State) (d : Desc) : State :=
  s.updDesc d fun e => { e with cancelled := true, fin := e.fin.map fun c => { e with cancelled := true }.final c }

/-- A SLEEP is cancelled before its step 3: CANCELLED, and the module stays in RUN (R329). -/
def State.sleepCancel (s : State) (d : Desc) : State :=
  if !d.running then s.finish d St.CANCELLED 0
  else if s.modState = Mod.ENTERING ∧ !s.wak.asleep then (s.sleepEnds St.CANCELLED 0).enterRun
  else s

/-- A started descriptor is cancelled. -/
def State.cancelStarted (s : State) (d : Desc) : State :=
  let d := { d with cancelled := true }
  let s := s.flagCancel d
  if d.fin.isSome then s
  else if d.func = 0x09 ∧ d.opcode = 1 then s.txCancel d
  else if d.func = 0x0D ∧ d.opcode ≤ 2 then s.sioCancel d
  else if d.func = 0x0A ∧ d.opcode = 6 then s.finish d St.CANCELLED d.acc
  else if d.func = 0x04 ∧ d.opcode = 9 ∨ d.func = 0x05 ∧ d.opcode = 7 then s.finish d St.CANCELLED 0
  else if d.func = 0x0B then s.sleepCancel d
  else if d.func = 0x13 ∧ d.opcode = 14 ∧ 2 ≤ d.prog then s
  else if d.isStitched && !d.lastBegun then ((s.stopStitched d).dropWork d).dropLoads
  else s

/-- A descriptor fetched ahead is cancelled: its staging is released, and the cancel is held against its slot. A read under
way is dropped when its answer comes. -/
def State.cancelAhead (s : State) (d : Desc) : State :=
  let s := (s.updDesc d fun e => { e with cancelled := true, src := none, wait := none, hostReads := [] }).frogFx d
  s.setRnd { s.rnd with held := s.rnd.held ++ [(d.round, d.slot)] }

/-- A cancel's RESULT: 1 ACCEPTED, 2 NOT_FOUND, 3 NOTPERMIT. -/
def State.cancelStat (s : State) (n result : Nat) : State :=
  (s.put F.RND_CANCEL_STAT_ROUND n).put F.RND_CANCEL_STAT_RESULT result

/-- A write of RND_CANCEL. -/
def State.cancelWrite (s : State) (pid v : Nat) : State :=
  let n := v % 256
  if !bitOf v 31 then s
  else if !s.rMay pid n then s.cancelStat n 3
  else
    let tag := s.get F.RND_CANCEL_TAG_TAG
    match (s.started n).find? (·.tag == tag) with
    | some d => (s.cancelStarted d).cancelStat n 1
    | none =>
      match (s.ahead n).find? fun d => !d.raw.isEmpty && d.tag == tag with
      | some d => (if d.cancelled then s else s.cancelAhead d).cancelStat n 1
      | none => s.cancelStat n 2

def execCancel (pid val : Nat) (s : State) : Res := .next (s.cancelWrite pid val)

end Sys2Proof.Machine
end

