-- ==== Sys2Proof/Machine/RegWrite.lean ====
section
/-! DEFINITION. Writes to set-up registers (R10 to R12, R61): every page of them, the registers of DEV and BOO among them, the
trial of an image (R457 to R459), and the commands that write a register. -/
namespace Sys2Proof.Machine

/-! BOO and DEV. -/

/-- BOO_CONFIRM: 0xC0F1 in TRIAL, by a partition of BOO_CFG_MASK, confirms the image (R458, R459). -/
def State.confirm (s : State) (pid v : Nat) : State :=
  if bits v 15 0 = 0xC0F1 ∧ pid < 32 ∧ s.bit F.BOO_CFG_MASK_MASK pid ∧ s.get F.BOO_STAT_BOOT_STATE = 2
  then
    let s := ((s.appendFor Phase.CONFIRMED 0 Area.ACTIVE).raiseFloors.bootState 0).onBoo fun b => { b with trial := none }
    s.raise F.BOO_EVT_CONFIRMED
  else s

def State.booWrite (s : State) (pid a v : Nat) : State :=
  if a = R.BOO_CTL then s.applyBut pid a v [F.BOO_CTL_IGION_EN] []
  else if a = R.BOO_CFG_MASK then s.apply0 pid a v
  else if a = R.BOO_CONFIRM then s.confirm pid v
  else s.regApply a v

def State.devWrite (s : State) (pid a v : Nat) : State :=
  if a = R.DEV_RESET then s.devReset pid v
  else if a = R.DEV_PWRCYC then s.devPwrcyc pid v
  else if a = R.DEV_HOST_WD then s.hostWdWrite v
  else if a = R.DEV_HOST_KICK then s.hostKick pid
  else s.regApply a v

/-! Every register. -/

/-- A write of `v` by partition `pid` to the register at set-up offset `a`; an offset that holds no register ignores it
(R61). -/
def State.regWrite (s : State) (pid a v : Nat) : State :=
  if isEvt a || isEvtEn a then s.pageWrite pid a v
  else if a = R.RND_CANCEL then s.cancelWrite pid v
  else
    match a / 0x10000 with
    | 0x0 => s.devWrite pid a v
    | 0x14 => s.booWrite pid a v
    | _ => s.pageWrite pid a v

def execRegisterWrite (pid addr val : Nat) (s : State) : Res := .next (s.regWrite pid addr (val % 2 ^ 32))
def execEvtClear (pid addr val coincide : Nat) (s : State) : Res :=
  .next (if isEvt addr then s.evtClear pid addr val coincide else s)
def execEvtEnWrite (pid addr val : Nat) (s : State) : Res :=
  .next (if isEvtEn addr then s.evtEnWrite pid addr (val % 2 ^ 32) else s)
/-- COUNTER_READ_LOW: the value read goes to partition `pid`. -/
def execCounterReadLow (pid addr : Nat) (s : State) : Res :=
  .next (if isCounter addr then let r := s.readCounter addr; r.1.emit (.regValue pid addr r.2) else s)
def execGuardSelect (_pid val : Nat) (s : State) : Res := .next (s.guardSelect (val % 2 ^ 32))
def execGuardCommit (_pid val : Nat) (s : State) : Res := .next (s.guardCommit val)
def execEffectRangeWrite (_pid n which val : Nat) (s : State) : Res :=
  .next (if n < 8 then s.effWrite n (effReg n which) (val % 2 ^ 32) else s)

/-- BOO_CONFIRM: a write of `val` to the register. -/
def execBooConfirm (pid val : Nat) (s : State) : Res := .next (s.confirm pid val)

/-- TRIAL_EXPIRY: the window ends unconfirmed; a warm reset with cause TRIAL_EXPIRED follows (R457). -/
def execTrialExpiry (s : State) : Res :=
  .next (match s.boo.trial with
    | some t =>
      if s.get F.BOO_STAT_BOOT_STATE = 2 ∧ t ≤ s.now then
        ((s.bootState 3).onBoo fun b => { b with trial := none }).warmDue 6
      else s
    | none => s)

end Sys2Proof.Machine
end

