-- ==== Sys2Proof/Machine/Fabric.lean ====
section
/-! DEFINITION. Accesses of the masters on the fabric: their checks (R42 to R46, R60), writes and atomic operations, the BARs
(R81 to R83), the ends of reads (R34, R35, R109), the PCIe link (R111), and the commands of the round engine that read and
write set-up space (R89, R90, R93). -/
namespace Sys2Proof.Machine

/-! Answers. The second part of a result is the answer now known: its status and data; none where it comes later. -/

/-- The answer goes to the access's source. -/
def State.reply (s : State) (src : Source) (r : Option (Nat × Bytes)) : State :=
  match r with
  | some x => s.answer src x.1 x.2
  | none => s

/-! Atomic operations (R110). -/

/-- The value an atomic operation writes, of `8 n` bits. -/
def amoResult (op : AmoOp) (n old v : Nat) : Nat :=
  match op with
  | .add => (old + v) % 2 ^ (8 * n)
  | .swap => v
  | .and => old &&& v
  | .or => old ||| v
  | .xor => old ^^^ v
  | .min => if sint (8 * n) old ≤ sint (8 * n) v then old else v
  | .max => if sint (8 * n) old ≤ sint (8 * n) v then v else old
  | .minu => min old v
  | .maxu => max old v
  | .lr => old
  | .sc => v

def amoBytes (op : AmoOp) (n : Nat) (old : Bytes) (data : Bytes) : Bytes :=
  leBytes n (amoResult op n (leVal old) (leVal (slice data 0 n)))

/-! Targets. -/

/-- Words written to set-up space, lowest address first. -/
def State.setupWords32 (pid : Nat) : State → Nat → Bytes → State
  | s, a, b0 :: b1 :: b2 :: b3 :: r => State.setupWords32 pid (s.regWrite pid a (leVal [b0, b1, b2, b3])) (a + 4) r
  | s, _, _ => s

/-- A push at queue `q` by an access: held, or performed and acknowledged (R36, R408, R409). -/
def State.pushAt (s : State) (src : Source) (q v : Nat) : State × Option (Nat × Bytes) :=
  if s.mustHold src q then (s.holdPush src q v, none) else (s.pushNow q v, some (St.OK, []))

/-- A read that is mapped and permitted; an engine that meets an uncorrectable granule fails (R70). -/
def State.readAt (s : State) (a : Access) (pid tag : Nat) : State × Option (Nat × Bytes) :=
  let r := s.readTarget a pid tag
  match a.src, r.2 with
  | .engine e, some (st, _) => (if st = St.MEDIA then r.1.engineFail e else r.1, r.2)
  | _, _ => r

/-- A write that is mapped and permitted. -/
def State.writeAt (s : State) (a : Access) (pid : Nat) : State × Option (Nat × Bytes) :=
  let b := slice a.data 0 a.size
  match regionOf a.addr with
  | some (.setup, lo, _) =>
    (if a.addr % 4 = 0 ∧ a.size % 4 = 0 then State.setupWords32 pid s (a.addr - lo) b else s, some (St.OK, []))
  | some (.queues, lo, _) =>
    if queueRefused a.addr a.size true then (s.deny a.src pid 21 true a.addr, some (St.NOTPERMIT, []))
    else if a.addr % 0x1000 = 0 then s.pushAt a.src ((a.addr - lo) / 0x1000) (leVal b)
    else (s, some (St.OK, []))
  | some (.host, _, _) =>
    if s.hostLocked a.addr a.size then (s.waitLock a pid 256, none)
    else if s.linkIssues then (s.hostWrites a.addr b, some (St.OK, []))
    else (s.hostErr, some (St.HOST_ABORT, []))
  | some (.partner, _, _) => (s.bridge a pid 256, none)
  | _ =>
    if s.eccTorn a.addr a.size then (s.eccRefuse a.addr a.size pid, some (St.MEDIA, []))
    else ((s.eccWrite a.addr a.size pid).writeBytes a.addr b, some (St.OK, []))

/-- An atomic operation that is mapped and permitted (R110, R487). One that the round engine emulates locks its location
until it has written. -/
def State.amoAt (s : State) (a : Access) (op : AmoOp) (pid tag : Nat) : State × Option (Nat × Bytes) :=
  let lrsc := op == .lr || op == .sc
  let no : State × Option (Nat × Bytes) := (s, some (errAnswer a St.NOTPERMIT))
  if (a.size != 4 && a.size != 8) || a.addr % a.size != 0 then no
  else
    match regionOf a.addr with
    | some (.setup, lo, _) =>
      let r := s.setupBytes pid (a.addr - lo) a.size
      (if op == .lr then r.1 else State.setupWords32 pid r.1 (a.addr - lo) (amoBytes op a.size r.2 a.data), some (St.OK, r.2))
    | some (.queues, _, _) => (s.deny a.src pid 21 true a.addr, some (errAnswer a St.NOTPERMIT))
    | some (.host, _, _) =>
      if lrsc then no
      else if s.hostLocked a.addr a.size then ((s.useTag tag pid a false).waitLock a pid tag, none)
      else if !s.linkIssues then (s.hostErr, some (errAnswer a St.HOST_ABORT))
      else if s.on F.RND_LINK_ATOMIC_EN && (op == .add || op == .swap) then
        ((s.useTag tag pid a false).emit (.hostAtomic tag op (s.pcieAddr a.addr) (slice a.data 0 a.size)), none)
      else ((s.useTag tag pid a true).hostReads tag a.addr a.size, none)
    | some (.partner, _, _) => if lrsc then no else ((s.useTag tag pid a false).bridge a pid tag, none)
    | _ =>
      if s.eccBad a.addr a.size then (s.eccRead a.addr a.size pid false, some (errAnswer a St.MEDIA))
      else
        let t := s.eccRead a.addr a.size pid false
        let old := s.readBytes a.addr a.size
        if op == .lr then (t, some (St.OK, old))
        else ((t.eccWrite a.addr a.size pid).writeBytes a.addr (amoBytes op a.size old a.data),
          some (St.OK, if op == .sc then zeros a.size else old))

/-- The access writes: an atomic operation does, LR apart, which only reads (DEDUCED, log 100). -/
def accWrites (a : Access) : Bool := a.write || (a.amo.isSome && a.amo != some .lr)

/-- The lowest address at which a guard denies the access, and the direction denied: an atomic operation reads and
writes. -/
def State.deniedAt (s : State) (a : Access) (pid : Nat) : Option (Nat × Bool) :=
  let rd := if a.write then none else s.denied pid false a.addr a.size
  let wr := if accWrites a then s.denied pid true a.addr a.size else none
  match rd, wr with
  | some x, _ => some (x, false)
  | none, some x => some (x, true)
  | none, none => none

/-- An access that carries partition ID `pid` is checked and performed with tag `tag` (R43, R45, R60). -/
def State.perform (s : State) (a : Access) (pid tag : Nat) : State × Option (Nat × Bytes) :=
  if !s.mapped (accWrites a) a.addr a.size then (s.unmapped, some (errAnswer a St.BADARG))
  else
    match s.deniedAt a pid with
    | some x => (s.deny a.src pid (guardAt x.1) x.2 x.1, some (errAnswer a St.NOTPERMIT))
    | none =>
      match a.amo with
      | some op => s.amoAt a op pid tag
      | none => if a.write then s.writeAt a pid else s.readAt a pid tag

/-- An access is issued with the partition ID of its source (R40, R395): a read or atomic operation first takes a tag, or
waits for one. -/
def State.access (s : State) (a : Access) : State × Option (Nat × Bytes) :=
  let pid := s.pidOf a.src
  if a.write && a.amo.isNone then s.perform a pid 256
  else
    match masterOf a.src with
    | none => s.perform a pid 256
    | some m =>
      match s.tagNow m with
      | some t => s.perform a pid t
      | none => (s.waitTag a pid, none)

/-! The inbound side of the pair bridge. -/

/-- The atomic operation of a code of BRIDGE_REQ. -/
def amoOf (code : Nat) : Option AmoOp :=
  [AmoOp.add, .swap, .and, .or, .xor, .min, .max, .minu, .maxu][code]?

/-! BARs (R81 to R83). -/

/-- A BAR access of a size or alignment that R82 does not allow. -/
def State.barBad (s : State) (a : Access) (bar off : Nat) : State :=
  (if a.write then s else s.emit (.barAbort bar off)).raise F.RND_EVT_HOST_ERR

/-- A word of the MSI-X table is written; an entry that is unmasked sends its pending message. -/
def State.msixWrite (s : State) (i v : Nat) : State :=
  let set := fun (t : State) (w : Nat) =>
    t.setRnd { t.rnd with msixTbl := storeSet msixDefault t.rnd.msixTbl i (BitVec.ofNat 32 w) }
  if i % 4 != 3 then set s v
  else if bitOf v 0 then set s 1
  else s.unmask (i / 4)

/-- The fabric address by which guard 22 checks an access to BAR0 (R83): a doorbell's own; the first of the doorbells' 4 KiB
for the MSI-X structures and the reserved offsets, which have none (DESIGN CHOICE, log 55). -/
def bar0Addr (off : Nat) : Nat := 0x200031000 + (if off < 0x800 then off else 0)

/-- A 32-bit access to BAR0 at offset `off` that the guard permits; the answer to a read is its value. -/
def State.bar0Reg (s : State) (write : Bool) (off v : Nat) : State × Option Nat :=
  if off < 0x800 then
    if write then ((if off % 8 = 0 then s.bellCmd 2 (off / 8) v else s.bellCpl 2 (off / 8) v), none)
    else (s, some (s.view (0x31000 + off)))
  else if 0x8000 ≤ off ∧ off < 0x8400 then
    let i := (off - 0x8000) / 4
    if write then (s.msixWrite i v, none) else (s, some (s.msixWord i))
  else if off = 0x9000 ∨ off = 0x9004 then
    (s, if write then none else some (s.rnd.msixPend / 2 ^ (8 * (off - 0x9000)) % 2 ^ 32))
  else (s, if write then none else some 0)

/-- A 32-bit access to BAR0, checked by guard 22. -/
def State.bar0Word (s : State) (write : Bool) (off v : Nat) : State × Option Nat :=
  match s.denied 2 write (bar0Addr off) 4 with
  | some x => (s.deny .bar0 2 22 write x, none)
  | none => s.bar0Reg write off v

def State.bar0 (s : State) (a : Access) : State × Option (Nat × Bytes) :=
  if (a.size != 4 && a.size != 8) || a.addr % a.size != 0 || a.amo.isSome then (s.barBad a 0 a.addr, none)
  else
    let lo := s.bar0Word a.write a.addr (u32 a.data 0)
    let hi := if a.size = 8 then lo.1.bar0Word a.write (a.addr + 4) (u32 a.data 4) else (lo.1, some 0)
    if a.write then (hi.1, none)
    else
      match lo.2, hi.2 with
      | some x, some y => (hi.1, some (St.OK, slice (leBytes 4 x ++ leBytes 4 y) 0 a.size))
      | _, _ => (hi.1, some (errAnswer a St.NOTPERMIT))

/-- A warm reset has begun and has not ended (R498). -/
def State.inWarm (s : State) : Bool :=
  s.pow.held || (s.get F.FLT_RESET_CAUSE_RUNG == 3 && s.get F.DEV_STAT_STATE == 1)

def State.bar2 (s : State) (a : Access) : State × Option (Nat × Bytes) :=
  let off := a.addr - 0x200000000
  if (a.size != 4 && a.size != 8) || a.addr % a.size != 0 || a.amo.isSome then (s.barBad a 2 off, none)
  else if s.inWarm && off / 4 * 4 != R.DEV_STAT && off / 4 * 4 != R.FLT_RESET_CAUSE then
    (s, if a.write then none else some (St.OK, List.replicate a.size 0xFF))
  else s.perform a 2 256

/-! Commands. -/

/-- The source can issue an access: the logic die runs, a core is running, a host access lies in a BAR while the link is up
in D0 (R80), and its master has fewer than 64 writes unacknowledged before it issues one more (R33). The round engine's
accesses and the pair bridge's come with commands of their own. -/
def State.mayIssue (s : State) (a : Access) : Bool :=
  s.pow.logic && decide (0 < a.size) && (!a.write || decide (s.unacked a.src < 64)) &&
    (match a.src with
     | .core k => s.coreRuns k
     | .bar0 => decide (a.addr + a.size ≤ 0x10000) && s.linkIssues
     | .host => decide (0x200000000 ≤ a.addr) && decide (a.addr + a.size ≤ 0x200200000) && s.linkIssues
     | .round _ | .pair _ => false
     | _ => true)

/-- MEMORY_ACCESS: an access, after memory errors that arose since the last one. -/
def execMemoryAccess (a : Access) (s : State) : Res :=
  .next (let s := s.upset a.upsets
    if s.mayIssue a then
      let r := match a.src with
        | .bar0 => s.bar0 a
        | .host => s.bar2 a
        | _ => s.access a
      r.1.reply a.src r.2
    else s)

/-- Master `m` may be granted a tag: no other waiting master that could take one had its last grant before it (R34). -/
def State.mayGrant (s : State) (m : Master) : Bool :=
  s.waitingMasters.all fun x => x == m || (s.freeTag x).isNone || !turnBefore s.fab.turn x m

/-- A waiting read that now has tag `t`, with the partition ID it was issued with. -/
def State.granted (s : State) (a : Access) (pid t : Nat) : State :=
  match a.src with
  | .round n => s.grantDesc n a pid t
  | _ => let r := s.perform a pid t; r.1.reply a.src r.2

/-- Set-up words that the round engine has written are performed, with every effect of a register write (R10, R37, R90). -/
def State.performSetups (s : State) : State :=
  forEach s.fab.setups (fun w t => t.regWrite w.1 w.2.1 w.2.2) (s.setFab { s.fab with setups := [] })

/-- TAG_GRANT: the first waiting read of master `m` takes a free tag. -/
def execTagGrant (m : Master) (s : State) : Res :=
  .next (let s := s.performSetups
    match s.fab.waiting.find? (fun a => masterOf a.1.src == some m), s.freeTag m with
    | some a, some t =>
      if s.mayGrant m then
        (s.setFab { s.fab with
          turn := lastIn m s.fab.turn
          waiting := dropFirst (fun x => masterOf x.1.src == some m) s.fab.waiting }).granted a.1 a.2 t
      else s
    | _, _ => s)

/-! The commands of the round engine that read and write. -/

/-- RUNAHEAD_FETCH: the round engine fetches a descriptor of round `n` ahead, or its source buffer. -/
def execRunaheadFetch (n : Nat) (upsets : List EccMark) (s : State) : Res :=
  .next ((s.upset upsets).performSetups.fetchAhead n)

/-- DESCRIPTOR_START: the round engine starts the descriptor at HEAD of round `n` where it may serve that round, or issues
the reads that it needs first. -/
def execDescriptorStart (n : Nat) (upsets : List EccMark) (s : State) : Res :=
  .next (let s := (s.upset upsets).performSetups
    if s.served n then s.startHead n else s)

/-- COMPLETION_WRITE: the descriptor's own writes are performed first (R90). -/
def execCompletionWrite (r : Nat) (s : State) : Res := .next (s.performSetups.complete r)

/-! Ends of reads. -/

/-- A read that Jersey ends is counted and shown (R35). -/
def State.timedOut (s : State) (t : TagUse) : State :=
  let s := s.putAddr F.JER_TMO_ADDR_LO_ADDR F.JER_TMO_ADDR_HI_ADDR t.acc.addr
  let s := ((s.put F.JER_TMO_INFO_PID t.pid).put F.JER_TMO_INFO_TAG t.tag).count C.JER_TMO
  s.raise F.JER_EVT_READ_TMO

/-- READ_TIMEOUT: a read has received no response 10 ms after issue (R35). One that run-ahead made leaves no visible effect
(R52; DEDUCED, log 11). -/
def execReadTimeout (tag : Nat) (s : State) : Res :=
  .next (match s.fab.tags.find? fun t => t.tag == tag && decide (t.issued + 10000000 ≤ s.now) with
    | none => s
    | some t =>
      let s := s.setFab { s.fab with
        ended := s.fab.ended ++ [tag], locked := s.fab.locked.filter fun x => x.2.2 != tag }
      let s := s.onPai fun p => { p with outs := dropFirst (fun o => o.tag == tag) p.outs }
      let s := if s.unsure t then s else s.timedOut t
      s.tagDone t St.TIMEOUT (errAnswer t.acc St.TIMEOUT).2)

/-- A response to an ended read is discarded and counted. -/
def State.lateResponse (s : State) (tag : Nat) : State :=
  if s.fab.ended.contains tag then
    ((s.setFab { s.fab with ended := dropFirst (· == tag) s.fab.ended }).count C.JER_LATE).raise F.JER_EVT_LATE
  else s

def execLateResponse (tag : Nat) (s : State) : Res := .next (s.lateResponse tag)

/-- A read or atomic operation that has been issued on the PCIe link is outstanding under a tag. -/
def TagUse.toHost (t : TagUse) : Bool :=
  match regionOf t.acc.addr with
  | some (.host, _, _) => true
  | _ => false

/-- The outstanding host request under a tag; one that waits for the lock has not been issued. -/
def State.hostTag (s : State) (tag : Nat) : Option TagUse :=
  s.fab.tags.find? fun t => t.tag == tag && t.toHost && !s.fab.locked.any fun x => x.2.2 == tag

/-- Accesses that waited for the lock of an emulated operation are performed, in the order of their issue; one that meets a
further lock waits again (R110). -/
def State.unlocked (s : State) : State :=
  forEach s.fab.locked (fun x t =>
    let t := if x.2.2 = 256 then t else t.dropTag x.2.2
    match x.1.src with
    | .round n =>
      if x.1.write then let r := t.perform x.1 x.2.1 256; r.1.reply x.1.src r.2
      else
        match t.waiter n x.2.2 with
        | some d =>
          let r := t.readTarget x.1 x.2.1 x.2.2
          (match r.2 with | some y => r.1.descAnswer d y.1 y.2 | none => r.1)
        | none => t
    | src => let r := t.perform x.1 x.2.1 x.2.2; r.1.reply src r.2) (s.setFab { s.fab with locked := [] })

/-- The lock of an emulated operation that has ended is released. -/
def State.unlock (s : State) (t : TagUse) : State := if t.emulate then s.unlocked else s

/-- An outstanding host request ends with an error; what run-ahead reads leaves no visible effect (R52). -/
def State.hostFails (s : State) (t : TagUse) (status : Nat) : State :=
  let u := if s.unsure t then s else s.hostErr
  (u.tagDone t status (errAnswer t.acc status).2).unlock t

/-- The data of an outstanding host request are there; an emulated atomic operation now writes. -/
def State.hostData (s : State) (t : TagUse) (b : Bytes) : State :=
  let u := match t.acc.amo with
    | some op =>
      if !t.emulate then s
      else if s.linkIssues then s.hostWrites t.acc.addr (amoBytes op t.acc.size b t.acc.data)
      else s.hostErr
    | none => s
  (u.tagDone t St.OK b).unlock t

/-- Split completions of a read are put together, in address order (R108). -/
def State.hostPart (s : State) (t : TagUse) (b : Bytes) : State :=
  let g := slice (t.got ++ b) 0 (min t.acc.size (t.got.length + b.length))
  if g.length = t.acc.size then s.hostData t g
  else s.setFab { s.fab with tags := updFirst (· == t) (fun x => { x with got := g }) s.fab.tags }

/-- HOST_COMPLETION (R109): data, whole or the next part of them, or an error. -/
def execHostCompletion (tag : Nat) (c : HostCpl) (s : State) : Res :=
  .next (match s.hostTag tag with
    | none => s.lateResponse tag
    | some t =>
      match c with
      | .data b => s.hostPart t b
      | .abort => s.hostFails t St.HOST_ABORT
      | .poisoned => s.hostFails t St.MEDIA
      | .timeout => s.hostFails t St.TIMEOUT)

/-- HOST_CPL_TIMEOUT: no completion within CPL_TMO. -/
def execHostCplTimeout (tag : Nat) (s : State) : Res :=
  .next (match s.hostTag tag with
    | none => s
    | some t => if t.issued + 100000 * s.get F.RND_CTL_CPL_TMO ≤ s.now then s.hostFails t St.TIMEOUT else s)

/-- An outstanding host request meets the loss of the link (R109): a descriptor is frogged, any other source sees an error. -/
def State.hostLost (s : State) (t : TagUse) : State :=
  match t.acc.src with
  | .round n =>
    (match s.waiter n t.tag with
     | some d =>
       let u := s.dropTag t.tag
       ((if d.head then u.hostErr else u).setDescs (dropFirst (fun e => e.same d) s.rnd.descs)).frogOne d
     | none => s.dropTag t.tag)
  | _ => s.hostFails t St.HOST_ABORT

/-- What a Function Level Reset and a loss of the link share (R111). -/
def State.hostGone (s : State) : State :=
  let s := forEach (List.range 256) (fun n t => if t.rOwner n = 2 then t.roundOff n else t) s
  let s := s.setRnd { s.rnd with msixTbl := [], msixPend := 0, pci := PciCfg.reset }
  (s.swLinkDown 20).reclaimAll 2

def execFunctionLevelReset (s : State) : Res :=
  .next (if s.on F.RND_LINK_UP then s.hostGone.raise F.RND_EVT_FLR else s)

def execPcieLinkDown (s : State) : Res :=
  .next (if s.on F.RND_LINK_UP then
      let s := (s.put F.RND_LINK_UP 0).hostGone
      let s := forEach (s.fab.tags.filter TagUse.toHost) (fun t u => u.hostLost t) s
      s.raise F.RND_EVT_LINK_DOWN
    else s)

/-- What the host configures (R80): MSI-X messages that it no longer masks are sent. -/
def State.pciConfig (s : State) (mps mrrs : Nat) (host : HostCfg) : State :=
  let s := (s.put F.RND_LINK_MPS (min mps 2)).put F.RND_LINK_MRRS (min mrrs 5)
  let s := (s.put F.RND_LINK_ATOMIC_EN (b2n host.atomicEn)).onRnd fun r => { r with pci := host.pci }
  forEach (List.range 64) (fun v t => t.msixFlush v) s

/-- PCIE_LINK_UP: the link has trained, with what it negotiated and what the host configured. While the link is up and port
H has not gone down since it last trained (R154), the host changes its configuration alone. -/
def execPcieLinkUp (speed width mps mrrs : Nat) (host : HostCfg) (s : State) : Res :=
  .next (if !s.pow.logic then s
    else if s.on F.RND_LINK_UP && s.swState 20 == 1 then s.pciConfig mps mrrs host
    else
      let s := ((s.put F.RND_LINK_SPEED speed).put F.RND_LINK_WIDTH width).put F.RND_LINK_UP 1
      ((s.pciConfig mps mrrs host).swLinkUp 20).raise F.RND_EVT_LINK_UP)

end Sys2Proof.Machine
end

