-- ==== Sys2Proof/Machine/Igion.lean ====
section
/-! DEFINITION. The claim on the staging area (R461) and the Igion service protocol (R462 to R464). -/
namespace Sys2Proof.Machine

/-! The staging area. -/

/-- BOO_STAT.WRITER: 0 none, 1 Igion, 2 a chain reception, 3 STAGE_ERASE. -/
def State.writer (s : State) : Nat := s.get F.BOO_STAT_WRITER

/-- Staging can be claimed (R461); not while service mode copies it either. -/
def State.mayClaim (s : State) : Bool :=
  let b := s.get F.BOO_STAT_BOOT_STATE
  s.writer == 0 && b != 1 && b != 2 && b != 3 && s.boo.job.isNone

/-- Writer `w` claims staging. -/
def State.claim (s : State) (w : Nat) : State := (s.put F.BOO_STAT_WRITER w).showAreas

/-- The claim ends. -/
def State.release (s : State) : State := (s.put F.BOO_STAT_WRITER 0).showAreas

/-- The sectors of staging that `n` bytes take are erased, at least the first, which sets STATE to empty. -/
def State.eraseStaging (s : State) (n : Nat) (who : FlashFor) : State :=
  let k := max 1 (ceilDiv n 65536)
  forEach (List.range k)
    (fun i t => t.flashStart (flashOp true (areaBase Area.STAGING + 65536 * i) [] who (i + 1 == k))) s

/-- The bytes programmed at staging offset `off`: STATE stays empty until the writer has completed (R461). -/
def stageData (off : Nat) (b : Bytes) : Bytes :=
  if off ≠ 0 then b else b.zipIdx.map fun x => if 8 ≤ x.2 ∧ x.2 < 12 then 0xFF else x.1

/-- Pages of at most 256 bytes are programmed from flash-window address `a` on. -/
def State.programPages (s : State) (a : Nat) (b : Bytes) (who : FlashFor) : State :=
  let n := ceilDiv b.length 256
  forEach (List.range n)
    (fun i t => t.flashStart (flashOp false (a + 256 * i) ((b.drop (256 * i)).take 256) who (i + 1 == n))) s

/-- The waiting operations of a writer that has ended are dropped, but for the erase that leaves STATE empty. -/
def State.dropOps (s : State) (f : FlashFor → Bool) : State :=
  let stays := fun (o : FlashOp) => (!(f o.who)) || s.flashBusy.contains o || (o.erase && o.off == 0x3000000)
  s.onBoo fun b => { b with ops := b.ops.filter stays }

/-- The staging directory's own DIR_CRC is correct. -/
def State.stagedCrcOk (s : State) : Bool :=
  dirCrc (s.areaDir Area.STAGING) == dirSum (s.areaDir Area.STAGING)

/-- The writer has completed: STATE ready, and the claim ends. -/
def State.stagedReady (s : State) : State := ((s.markStaging 0xFFFF0000).release).raise F.BOO_EVT_STAGED

/-! Messages (R463). -/

/-- A request. -/
structure IgMsg where
  ask : IgAsk
  op : Nat
  data : Bytes
  deriving DecidableEq, Repr

def Ig.OK : Nat := 0
def Ig.WAIT : Nat := 1
def Ig.BUSY : Nat := 2
def Ig.REFUSED : Nat := 3
def Ig.BAD : Nat := 4
def Ig.NO_SESSION : Nat := 5

/-- The MAC address of port `p` as bytes, byte 0 first. -/
def State.macBytes (s : State) (p : Nat) : Bytes :=
  leBytes 4 (s.get (F.PRT_MAC_LO_ADDR p)) ++ leBytes 2 (s.get (F.PRT_MAC_HI_ADDR p))

/-- 16-bit big-endian words, summed. -/
def wordSum : Bytes → Nat
  | a :: b :: r => 256 * a.toNat + b.toNat + wordSum r
  | _ => 0

/-- The IPv4 header checksum; 0 over a correct header. -/
def ipSum (b : Bytes) : Nat :=
  let n := wordSum b
  let n := n % 65536 + n / 65536
  65535 - (n % 65536 + n / 65536)

/-- The frame is UDP for the Igion service. -/
def State.isIgion (s : State) (f : Bytes) : Bool :=
  be16 f 12 == 0x0800 && u8 f 14 / 16 == 4 && u8 f 23 == 17 && be32 f 30 == s.get F.BOO_IGION_IP_ADDR &&
    (be16 f 20 % 0x2000 != 0 || be16 f (16 + 4 * (u8 f 14 % 16)) == 47448)

/-- The request in a frame for the service; none where the frame is dropped. -/
def igMsg (f : Bytes) : Option IgMsg :=
  let m := f.drop 42
  let n := u16 m 16
  if u8 f 14 % 16 = 5 ∧ be16 f 20 % 0x4000 = 0 ∧ ipSum (slice f 14 20) = 0 ∧ u16 m 0 = 0x4749 ∧ u8 m 2 = 1 ∧ n ≤ 1024 ∧
      32 + n ≤ be16 f 38 ∧ 24 + n ≤ m.length ∧ u32 m 20 = crc32 (slice m 0 20 ++ slice m 24 n) then
    some ⟨⟨be48 f 6, be32 f 26, be16 f 34, u32 m 4, u32 m 8, u32 m 12⟩, u8 m 3, slice m 24 n⟩
  else none

/-- A reply's bytes. -/
def State.igBytes (s : State) (a : IgAsk) (op status : Nat) (data : Bytes) : Bytes :=
  let h := leBytes 2 0x4749 ++ [1] ++ leBytes 1 (op + 0x80) ++ leBytes 4 a.id ++ leBytes 4 a.seq ++ leBytes 4 a.off ++
    leBytes 2 data.length ++ leBytes 2 status
  let m := h ++ leBytes 4 (crc32 (h ++ data)) ++ data
  let me := s.get F.BOO_IGION_IP_ADDR
  let ip := fun (c : Nat) => [0x45, 0] ++ beBytes 2 (28 + m.length) ++ [0, 0, 0x40, 0, 64, 17] ++ beBytes 2 c ++
    beBytes 4 me ++ beBytes 4 a.ip
  let f := beBytes 6 a.mac ++ s.macBytes 20 ++ [0x08, 0x00] ++ ip (ipSum (ip 0)) ++ beBytes 2 47448 ++ beBytes 2 a.port ++
    beBytes 2 (8 + m.length) ++ [0, 0] ++ m
  f ++ zeros (60 - f.length)

/-- A reply to the source address and port of a request. -/
def State.igReply (s : State) (a : IgAsk) (op status : Nat) (data : Bytes := []) : State :=
  s.stageOwn 20 0 (s.igBytes a op status data)

/-- Igion is permitted (R453, R462). -/
def State.igPermitted (s : State) : Bool := s.get F.BOO_STAT_BOOT_STATE == 4 || s.on F.BOO_CTL_IGION_EN

/-- The request names the session that exists. -/
def State.inSession (s : State) (a : IgAsk) : Bool := match s.boo.session with | some x => x.id == a.id | none => false

/-- A request of the session restarts its 60 s. -/
def State.igTouch (s : State) (a : IgAsk) : State :=
  if s.inSession a then s.onBoo fun b => { b with session := b.session.map fun x => { x with lastAt := s.now } } else s

def FlashFor.isIgion : FlashFor → Bool
  | .igErase => true
  | .igData _ => true
  | _ => false

/-- The session ends, and with it its claim (R464). -/
def State.igEnd (s : State) : State :=
  ((s.dropOps FlashFor.isIgion).onBoo fun b => { b with session := none }).release

/-! Operations. -/

/-- The module's identity and state. -/
def State.igHello (m : IgMsg) (s : State) : State :=
  let w := fun (a : Nat) => leBytes 4 (s.view a)
  s.igReply m.ask 1 Ig.OK (w R.ENC_SERIAL_LO ++ w R.ENC_SERIAL_HI ++ w R.BOO_STAT ++ w R.BOO_VER_ACTIVE ++
    w R.BOO_VER_FALLBACK ++ w R.BOO_VER_STAGING ++ w R.BOO_STRAP ++ w R.BOO_FLOOR)

/-- The erase of a session is not yet complete. -/
def State.igErasing (s : State) : Bool := s.boo.ops.any fun o => o.who == .igErase

def State.igOpen (m : IgMsg) (s : State) : State :=
  let total := u32 m.data 0
  if s.boo.session.isSome then
    s.igReply m.ask 2 (if !s.inSession m.ask then Ig.BUSY else if s.igErasing then Ig.WAIT else Ig.OK)
  else if m.data.length ≠ 4 ∨ areaSize < total then s.igReply m.ask 2 Ig.REFUSED
  else if !s.mayClaim then s.igReply m.ask 2 Ig.BUSY
  else
    let s := (s.claim 1).onBoo fun b => { b with session := some ⟨m.ask.id, total, [], s.now⟩ }
    ((s.eraseStaging total .igErase).raise F.BOO_EVT_IGION).igReply m.ask 2 Ig.WAIT

def State.igData (m : IgMsg) (s : State) : State :=
  match s.boo.session with
  | none => s.igReply m.ask 3 Ig.NO_SESSION
  | some x =>
    let o := m.ask.off
    if x.id ≠ m.ask.id then s.igReply m.ask 3 Ig.NO_SESSION
    else if o % 1024 ≠ 0 ∨ m.data.length = 0 ∨ x.total < o + m.data.length then s.igReply m.ask 3 Ig.BAD
    else if x.done.contains (o / 1024) then s.igReply m.ask 3 Ig.OK
    else s.programPages (areaBase Area.STAGING + o) (stageData o m.data) (.igData m.ask)

/-- Every kilobyte of the session has been written. -/
def IgSession.full (x : IgSession) : Bool := (List.range (ceilDiv x.total 1024)).all x.done.contains

/-- The staging area that a session in service mode has committed is verified and copied (R453). -/
def State.serviceApply (s : State) : State :=
  if s.get F.BOO_STAT_BOOT_STATE ≠ 4 then s
  else
    let r := s.verifyArea Area.STAGING
    if r ≠ 0 then ((s.markStaging 0).put F.BOO_STAT_LAST_RESULT r).raise F.BOO_EVT_STAGE_FAIL
    else s.copyFrom Area.STAGING Area.ACTIVE 0 0 id

def State.igCommit (m : IgMsg) (s : State) : State :=
  match s.boo.session with
  | none => s.igReply m.ask 4 Ig.NO_SESSION
  | some x =>
    if x.id ≠ m.ask.id then s.igReply m.ask 4 Ig.NO_SESSION
    else if !s.igErasing && x.full && s.stagedCrcOk then (s.igEnd.stagedReady.igReply m.ask 4 Ig.OK).serviceApply
    else s.igEnd.igReply m.ask 4 Ig.BAD

def State.igAbort (m : IgMsg) (s : State) : State :=
  if s.inSession m.ask then s.igEnd.igReply m.ask 5 Ig.OK else s.igReply m.ask 5 Ig.NO_SESSION

def State.igReset (m : IgMsg) (s : State) : State :=
  if s.on F.BOO_CTL_IGION_RESET then (s.igReply m.ask 6 Ig.OK).warmAt 7 (s.now + 10000000)
  else s.igReply m.ask 6 Ig.REFUSED

/-- A request of operation `op` is performed by `k` where Igion is permitted. -/
def State.igRun (s : State) (m : IgMsg) (k : IgMsg → State → State) : State :=
  if s.igPermitted then k m (s.igTouch m.ask) else s.igReply m.ask m.op Ig.REFUSED

/-- A frame for the service that SP has received; its request, where it is of operation `op`, is performed. -/
def State.igAs (s : State) (op : Nat) (f : Bytes) (k : IgMsg → State → State) : State :=
  if !s.isUp 20 || !s.isIgion f then s
  else
    match igMsg f with
    | none => s.count C.BOO_IGION_DROP
    | some m => if m.op = op then s.igRun m k else s

/-- A frame for the service of any operation; one that is none of R463 is answered BAD. -/
def State.igFrame (s : State) (f : Bytes) : State :=
  match igMsg f with
  | none => s.count C.BOO_IGION_DROP
  | some m =>
    match m.op with
    | 1 => s.igRun m State.igHello
    | 2 => s.igRun m State.igOpen
    | 3 => s.igRun m State.igData
    | 4 => s.igRun m State.igCommit
    | 5 => s.igRun m State.igAbort
    | 6 => s.igRun m State.igReset
    | _ => s.igRun m fun m t => t.igReply m.ask m.op Ig.BAD

/-- The frame is an ARP request for BOO_IGION_IP. -/
def State.isArp (s : State) (f : Bytes) : Bool :=
  be16 f 12 == 0x0806 && slice f 14 8 == [0, 1, 8, 0, 6, 4, 0, 1] && be32 f 38 == s.get F.BOO_IGION_IP_ADDR

/-- The answer to an ARP request. -/
def State.arpAnswer (s : State) (f : Bytes) : State :=
  let b := slice f 22 6 ++ s.macBytes 20 ++ [0x08, 0x06, 0, 1, 8, 0, 6, 4, 0, 2] ++ s.macBytes 20 ++
    beBytes 4 (s.get F.BOO_IGION_IP_ADDR) ++ slice f 22 10
  s.stageOwn 20 0 (b ++ zeros (60 - b.length))

def execIgionArp (frame : Bytes) (s : State) : Res :=
  .next (if s.isUp 20 && s.isArp frame then s.arpAnswer frame else s)
def execIgionHello (frame : Bytes) (s : State) : Res := .next (s.igAs 1 frame State.igHello)
def execIgionOpen (frame : Bytes) (s : State) : Res := .next (s.igAs 2 frame State.igOpen)
def execIgionData (frame : Bytes) (s : State) : Res := .next (s.igAs 3 frame State.igData)
def execIgionCommit (frame : Bytes) (s : State) : Res := .next (s.igAs 4 frame State.igCommit)
def execIgionAbort (frame : Bytes) (s : State) : Res := .next (s.igAs 5 frame State.igAbort)
def execIgionReset (frame : Bytes) (s : State) : Res := .next (s.igAs 6 frame State.igReset)

/-- IGION_SESSION_TIMEOUT: 60 s without a request (R464). -/
def execIgionSessionTimeout (s : State) : Res :=
  .next (match s.boo.session with
    | some x => if x.lastAt + 60000000000 ≤ s.now then s.igEnd else s
    | none => s)

end Sys2Proof.Machine
end

