-- ==== Sys2Proof/Machine/ChainUpd.lean ====
section
/-! DEFINITION. Chain update, hop by hop over X0 and X1 (R465 to R467). -/
namespace Sys2Proof.Machine

def St.AREA_BAD : Nat := 0x1500
def St.BOO_BUSY : Nat := 0x1501
def St.NOT_READY : Nat := 0x1502
def St.CHAIN_FAIL : Nat := 0x1503

/-! Frames (R465). -/

def Chain.START : Nat := 1
def Chain.BLOCK : Nat := 2
def Chain.ACK : Nat := 3
def Chain.END : Nat := 4
def Chain.NAK : Nat := 5

/-- BLOCK of the frames about the START. -/
def chainStartIdx : Nat := 0xFFFFFFFF

def State.chainClass (s : State) : Nat := s.get F.BOO_CTL_CHAIN_CLASS

/-- The next hop's MAC address on port `p`. -/
def State.chainMac (s : State) (p : Nat) : Bytes :=
  leBytes 4 (s.get (F.BOO_CHAIN_MAC_LO_ADDR p)) ++ leBytes 2 (s.get (F.BOO_CHAIN_MAC_HI_ADDR p))

/-- A chain frame's payload. -/
def chainPayload (kind hop image block blocks : Nat) (data : Bytes) : Bytes :=
  let h := leBytes 1 kind ++ [1] ++ leBytes 1 hop ++ [0] ++ leBytes 4 image ++ leBytes 4 block ++ leBytes 4 blocks ++
    leBytes 4 (if kind = Chain.BLOCK then crc32 data else 0)
  h ++ leBytes 4 (crc32 h) ++ zeros 8 ++ data

/-- A chain frame is sent on port `p`, tagged with its class as PCP (DESIGN CHOICE, log 56). -/
def State.chainTx (s : State) (p kind hop image block blocks : Nat) (data : Bytes := []) : State :=
  let c := s.chainClass
  let b := s.chainMac p ++ s.macBytes p ++ [0x81, 0x00] ++ beBytes 2 (c * 8192) ++ [0x88, 0xB5] ++
    chainPayload kind hop image block blocks data
  s.stageOwn p c (b ++ zeros (60 - b.length))

/-- The frame is a chain frame addressed to port `p` itself. -/
def State.isChain (s : State) (p : Nat) (f : Bytes) : Bool :=
  decide (p < 2) && etherType (stripTag f) == 0x88B5 && slice f 0 6 == s.macBytes p

/-- Chain frames are handed to the management core (R462). -/
def State.chainPermitted (s : State) : Bool := s.on F.BOO_CTL_CHAIN_EN && s.on F.BOO_STRAP_UPD_MODE

/-- A chain frame is dropped and counted. -/
def State.chainDrop (s : State) : State := s.count C.BOO_CHAIN_DROP

/-! The staged image. -/

/-- Staging is ready and holds the image. -/
def State.holdsImage (s : State) (image : Nat) : Bool :=
  let b := s.areaDir Area.STAGING
  stagingState b == 2 && dirCrc b == image

/-- The image is the active area's, or ready staging's (R467). -/
def State.hasImage (s : State) (image : Nat) : Bool :=
  (s.dirOk Area.ACTIVE && dirCrc (s.areaDir Area.ACTIVE) == image) || s.holdsImage image

/-! The sender. -/

def State.chainOutAt (s : State) (p : Nat) : Option ChainOut := s.boo.chainOut.find? (·.port == p)

def State.updOut (s : State) (p : Nat) (f : ChainOut → ChainOut) : State :=
  s.onBoo fun b => { b with chainOut := updFirst (·.port == p) f b.chainOut }

/-- The CHAIN_SEND that asked for a transfer ends. -/
def State.outDesc (s : State) (c : ChainOut) (status : Nat) : State :=
  match c.desc with
  | none => s
  | some (r, i) =>
    match s.curRunning r 0x14 3 with
    | some d => if d.slot = i then s.lastStitch d status c.acked.length else s
    | none => s

/-- A transfer ends at its sender. -/
def State.outEnd (s : State) (c : ChainOut) (status : Nat) : State :=
  (s.onBoo fun b => { b with chainOut := dropFirst (·.port == c.port) b.chainOut }).outDesc c status

/-- A transfer fails at its sender. -/
def State.outFail (s : State) (c : ChainOut) : State := (s.outEnd c St.CHAIN_FAIL).raise F.BOO_EVT_CHAIN_FAIL

/-- A transfer starts: START is sent. -/
def State.outStart (s : State) (p image blocks hop : Nat) (desc : Option (Nat × Nat)) : State :=
  let s := s.onBoo fun b => { b with chainOut := b.chainOut ++ [⟨p, image, blocks, hop, 1, s.now, false, [], [], desc⟩] }
  (s.put F.BOO_CHAIN_STAT_SENT 0).chainTx p Chain.START hop image chainStartIdx blocks

/-- Block `k` is there to be sent. -/
def State.blockThere (s : State) (c : ChainOut) (k : Nat) : Bool :=
  s.holdsImage c.image ||
    (match s.boo.chainIn with | some i => i.image == c.image && i.done.contains k | none => false)

/-- The data of block `k`, padded with 0xFF past USED. -/
def State.blockData (s : State) (k : Nat) : Bytes :=
  let used := dirUsed (s.areaDir Area.STAGING)
  let n := min 4096 (used - 4096 * k)
  stageData (4096 * k) (s.readBytes (areaBase Area.STAGING + 4096 * k) n ++ List.replicate (4096 - n) 0xFF)

/-- Block `k` leaves; under the index `blocks`, END. -/
def State.outTx (s : State) (c : ChainOut) (k : Nat) : State :=
  if k = c.blocks then s.chainTx c.port Chain.END c.hop c.image k c.blocks
  else s.chainTx c.port Chain.BLOCK c.hop c.image k c.blocks (s.blockData k)

/-- What the sender may send next: with fewer than 8 blocks in flight the lowest block that is there, and END when every
block is acknowledged. -/
def State.outNext (s : State) (c : ChainOut) : Option Nat :=
  if !c.begun then none
  else if c.acked.length = c.blocks then
    if c.flight.isEmpty && s.holdsImage c.image then some c.blocks else none
  else if 8 ≤ c.flight.length then none
  else (List.range c.blocks).find? fun k =>
    !c.acked.contains k && !c.flight.any (·.1 == k) && s.blockThere c k

def State.outOne (p : Nat) (s : State) : State :=
  match s.chainOutAt p with
  | none => s
  | some c =>
    match s.outNext c with
    | none => s
    | some k => (s.updOut p fun c => { c with flight := c.flight ++ [(k, s.now, 1)] }).outTx c k

/-- The sender on port `p` sends what it may. -/
def State.outPump (s : State) (p : Nat) : State := forEach (List.range 8) (fun _ t => t.outOne p) s

/-- The sendings after which a block or END fails: the spec gives blocks no limit, and it is free. -/
def chainLimit : Nat := Config.freeNat 312 0

/-- The block or END `k` in flight is sent again. -/
def State.outAgain (s : State) (c : ChainOut) (k : Nat) : State :=
  if c.flight.any (fun x => x.1 == k && decide (chainLimit ≤ x.2.2)) then s.outFail c
  else
    let s := s.updOut c.port fun c => { c with flight := updFirst (·.1 == k) (fun x => (x.1, s.now, x.2.2 + 1)) c.flight }
    (if k = c.blocks then s else s.count C.BOO_CHAIN_RETX).outTx c k

/-- An ACK of START, a block or END. -/
def State.outAck (s : State) (c : ChainOut) (k : Nat) : State :=
  if k = chainStartIdx then (s.updOut c.port fun c => { c with begun := true }).outPump c.port
  else if !c.flight.any (·.1 == k) then s
  else if k = c.blocks then s.outEnd c St.OK
  else
    let n := c.acked.length + 1
    let s := s.updOut c.port fun c => { c with acked := c.acked ++ [k], flight := dropFirst (·.1 == k) c.flight }
    let s := match c.desc with
      | some (r, i) => s.setDescs (updFirst (fun d => d.round == r && d.slot == i && d.started) (fun d => { d with acc := n })
          s.rnd.descs)
      | none => s
    (s.put F.BOO_CHAIN_STAT_SENT n).outPump c.port

/-- A NAK: START waits for its repeat, a block is sent again, and END ends the transfer. -/
def State.outNak (s : State) (c : ChainOut) (k : Nat) : State :=
  if !c.flight.any (·.1 == k) then s
  else if k = c.blocks then s.outFail c
  else s.outAgain c k

/-- A received ACK or NAK. -/
def State.chainAck (p : Nat) (b : Bytes) (s : State) : State :=
  match s.chainOutAt p with
  | some c =>
    if c.image ≠ u32 b 4 then s.chainDrop
    else if u8 b 0 = Chain.ACK then s.outAck c (u32 b 8) else s.outNak c (u32 b 8)
  | none => s.chainDrop

/-! The receiver. -/

/-- An answer to the sender about block `k`. -/
def State.chainSay (s : State) (i : ChainIn) (kind k : Nat) : State := s.chainTx i.port kind i.hop i.image k i.blocks

def State.updIn (s : State) (f : ChainIn → ChainIn) : State := s.onBoo fun b => { b with chainIn := b.chainIn.map f }

def FlashFor.isChain : FlashFor → Bool
  | .chErase => true
  | .chBlock _ => true
  | _ => false

/-- The reception ends without a ready staging: its claim is released, and a transfer that forwards it fails. -/
def State.inEnd (s : State) (i : ChainIn) : State :=
  let s := ((s.dropOps FlashFor.isChain).onBoo fun b => { b with chainIn := none }).release
  forEach (s.boo.chainOut.filter fun c => c.desc.isNone && c.image == i.image) (fun c t => t.outFail c) s

/-- A reception is forwarded on the other port (R467). -/
def State.forward (s : State) (i : ChainIn) : State :=
  if !s.on F.BOO_CTL_CHAIN_FWD || (s.chainOutAt (1 - i.port)).isSome then s
  else s.outStart (1 - i.port) i.image i.blocks (i.hop + 1) none

/-- The erase of a reception is not yet complete. -/
def State.inErasing (s : State) : Bool := s.boo.ops.any fun o => o.who == .chErase

/-- A received START. -/
def State.chainStart (p : Nat) (b : Bytes) (s : State) : State :=
  let i : ChainIn := ⟨p, u32 b 4, u32 b 12, u8 b 2, [], s.now⟩
  if 31 < i.hop then s.chainDrop
  else if s.boo.chainIn.any fun x => x.port == p && x.image == i.image then
    let s := s.updIn fun x => { x with heardAt := s.now }
    if s.inErasing then s else s.chainSay i Chain.ACK chainStartIdx
  else if s.hasImage i.image then (s.chainSay i Chain.ACK chainStartIdx).chainSay i Chain.END i.blocks
  else if !s.mayClaim || i.blocks = 0 || decide (areaSize / 4096 < i.blocks) then
    s.chainDrop.chainSay i Chain.NAK chainStartIdx
  else
    let s := (s.claim 2).onBoo fun t => { t with chainIn := some i }
    ((s.put F.BOO_CHAIN_STAT_STORED 0).eraseStaging (4096 * i.blocks) .chErase).forward i

/-- The reception to which a frame on port `p` belongs; the frame is heard. -/
def State.inOf (s : State) (p : Nat) (b : Bytes) : Option ChainIn :=
  s.boo.chainIn.filter fun i => i.port == p && i.image == u32 b 4

/-- A received BLOCK. -/
def State.chainBlock (p : Nat) (b : Bytes) (s : State) : State :=
  match s.inOf p b with
  | none => s.chainDrop
  | some i =>
    let k := u32 b 8
    let s := s.updIn fun x => { x with heardAt := s.now }
    if i.blocks ≤ k then s.chainDrop
    else if b.length < 4128 ∨ u32 b 16 ≠ crc32 (slice b 32 4096) then s.chainDrop.chainSay i Chain.NAK k
    else if i.done.contains k then s.chainSay i Chain.ACK k
    else if s.boo.ops.any fun o => o.who == .chBlock k then s
    else s.programPages (areaBase Area.STAGING + 4096 * k) (stageData (4096 * k) (slice b 32 4096)) (.chBlock k)

/-- A received END: of the reception, or from a receiver that already has the image. -/
def State.chainEnd (p : Nat) (b : Bytes) (s : State) : State :=
  let k := u32 b 8
  match s.inOf p b with
  | some i =>
    if i.done.length = i.blocks && s.stagedCrcOk && dirCrc (s.areaDir Area.STAGING) == i.image then
      let s := (s.onBoo fun t => { t with chainIn := none }).stagedReady
      (s.chainSay i Chain.ACK k).outPump (1 - p)
    else (s.inEnd i).chainSay i Chain.NAK k
  | none =>
    match s.chainOutAt p with
    | some c => if c.image = u32 b 4 then s.outEnd c St.OK else s.chainDrop
    | none =>
      if s.holdsImage (u32 b 4) then s.chainTx p Chain.ACK (u8 b 2) (u32 b 4) k (u32 b 12) else s.chainDrop

/-- The payload's header is one of R465. -/
def chainHeaderOk (b : Bytes) : Bool := u8 b 1 == 1 && u32 b 20 == crc32 (slice b 0 20)

/-- A chain frame received on port `p`, handed to the management core. -/
def State.chainFrame (s : State) (p : Nat) (f : Bytes) : State :=
  let b := (stripTag f).drop 14
  if !chainHeaderOk b then s.chainDrop
  else
    match u8 b 0 with
    | 1 => s.chainStart p b
    | 2 => s.chainBlock p b
    | 3 => s.chainAck p b
    | 4 => s.chainEnd p b
    | 5 => s.chainAck p b
    | _ => s.chainDrop

/-- A chain frame of the kinds `kinds` that port `p` has received; one not permitted is dropped and counted. -/
def State.chainAs (s : State) (p : Nat) (f : Bytes) (kinds : List Nat) (k : Nat → Bytes → State → State) : State :=
  let b := (stripTag f).drop 14
  if !s.isUp p || !s.isChain p f then s
  else if !s.chainPermitted then (if u8 b 0 = Chain.START then s.chainDrop else s)
  else if !chainHeaderOk b then s.chainDrop
  else if kinds.contains (u8 b 0) then k p b s else s

def execChainStart (p : Nat) (frame : Bytes) (s : State) : Res := .next (s.chainAs p frame [1] State.chainStart)
def execChainBlock (p : Nat) (frame : Bytes) (s : State) : Res := .next (s.chainAs p frame [2] State.chainBlock)
def execChainEnd (p : Nat) (frame : Bytes) (s : State) : Res := .next (s.chainAs p frame [4] State.chainEnd)
/-- CHAIN_ACK: a received ACK or NAK. -/
def execChainAck (p : Nat) (frame : Bytes) (s : State) : Res := .next (s.chainAs p frame [3, 5] State.chainAck)

/-- What the sender on port `p` has in flight unacknowledged for 50 ms is repeated, and an unacknowledged START after
1 s, up to 60 times. -/
def State.outRepeat (s : State) (p : Nat) : State :=
  match s.chainOutAt p with
  | none => s
  | some c =>
    if c.begun then
      forEach (c.flight.filter fun x => decide (x.2.1 + 50000000 ≤ s.now))
        (fun x t => match t.chainOutAt p with | some d => t.outAgain d x.1 | none => t) s
    else if s.now < c.startAt + 1000000000 then s
    else if 60 < c.starts then s.outFail c
    else
      ((s.updOut p fun c => { c with starts := c.starts + 1, startAt := s.now }).count C.BOO_CHAIN_RETX).chainTx p
        Chain.START c.hop c.image chainStartIdx c.blocks

def execChainRepeatTimeout (p : Nat) (s : State) : Res := .next (s.outRepeat p)

/-- CHAIN_RX_TIMEOUT: the receiver has heard nothing from its sender for 10 s. -/
def execChainRxTimeout (s : State) : Res :=
  .next (match s.boo.chainIn with
    | some i => if i.heardAt + 10000000000 ≤ s.now then s.inEnd i else s
    | none => s)

end Sys2Proof.Machine
end

