-- ==== Sys2Proof/Machine/FlashOps.lean ====
section
/-! DEFINITION. The BOO opcodes, stitch by stitch (R469, R470), and the end of a flash operation (R62). -/
namespace Sys2Proof.Machine

/-! A stitched erase or write. A descriptor's `prog` is 4 times the unit it works on, a sector or a page, plus 0 before
its first issue, 1 after it, 2 before the second and 3 after that. -/

/-- The partition of the descriptor's round has a bit in BOO_CFG_MASK. -/
def State.booMay (s : State) (d : Desc) : Bool := decide (s.dPid d < 32) && s.bit F.BOO_CFG_MASK_MASK (s.dPid d)

/-- The descriptor ends. -/
def State.booLast (s : State) (d : Desc) (status result : Nat) : State := (s.booEnd d).lastStitch d status result

/-- A unit of a stitched write: an erase of the sector at an address, or a program of a page. -/
structure FlashUnit where
  erase : Bool
  addr : Nat
  data : Bytes
  deriving DecidableEq, Repr

/-- What the unit reads back once done. -/
def FlashUnit.want (u : FlashUnit) : Bytes := if u.erase then List.replicate 65536 0xFF else u.data

/-- One stitch on unit `u`; `next` follows once it has been read back. -/
def State.unitStitch (s : State) (d : Desc) (u : FlashUnit) (next : State → State) : State :=
  if s.flashPending d then s.stitched d d.prog d.acc
  else if d.prog % 2 = 0 then
    (s.flashStart (flashOp u.erase u.addr u.data (.desc d.round d.slot) true)).stitched d (d.prog + 1) d.acc
  else if s.readBytes u.addr u.want.length == u.want then next s
  else if d.prog % 4 = 1 then s.stitched d (d.prog + 1) d.acc
  else s.booLast d St.MEDIA d.acc

/-! STAGE_ERASE. -/

/-- A stitch of STAGE_ERASE. -/
def State.stageEraseStitch (s : State) (d : Desc) : State :=
  let k := d.prog / 4
  s.unitStitch d ⟨true, areaBase Area.STAGING + 65536 * k, []⟩ fun t =>
    let n := 65536 * (k + 1)
    if n = areaSize then t.booLast d St.OK n else t.stitched d (4 * (k + 1)) n

/-- STAGE_ERASE claims staging with its first stitch. -/
def State.stageErase (s : State) (d : Desc) : State :=
  if !d.noBuf then s.lastStitch d St.BADARG 0
  else if !s.booMay d then s.lastStitch d St.NOTPERMIT 0
  else if !s.mayClaim then s.lastStitch d St.BOO_BUSY 0
  else (s.claim 3).stageEraseStitch d

def execStageErase (r : Nat) (s : State) : Res := .next (s.withOp r 0x14 1 fun d => s.stageErase d)

/-! CONFIG_WRITE. -/

/-- The reason for which the container in the buffer fails verification. -/
def State.verifyBuf (s : State) (b : Bytes) : Nat := s.verifyBy (slice b 0 4096) (slice b) 8 b.length

/-- Unit `k` of the write of container `b`: its sectors are erased first, then its pages programmed. -/
def configUnit (base : Nat) (b : Bytes) (k : Nat) : FlashUnit :=
  let e := ceilDiv b.length 65536
  if k < e then ⟨true, base + 65536 * k, []⟩
  else ⟨false, base + 256 * (k - e), (b.drop (256 * (k - e))).take 256⟩

/-- A stitch of CONFIG_WRITE. -/
def State.configStitch (s : State) (d : Desc) : State :=
  let b := d.buf
  let k := d.prog / 4
  s.unitStitch d (configUnit (configBase s.boo.copy) b k) fun t =>
    if k + 1 < ceilDiv b.length 65536 + ceilDiv b.length 256 then t.stitched d (4 * (k + 1)) d.acc
    else t.booLast d St.OK (2 ^ 32 * hdrVersion (slice b 0 4096))

/-- CONFIG_WRITE verifies the container and writes the copy that cast-on does not use (R454). -/
def State.configWrite (s : State) (d : Desc) : State :=
  if 0x400000 < d.len then s.lastStitch d St.BADARG 0
  else if !s.booMay d then s.lastStitch d St.NOTPERMIT 0
  else if s.rnd.descs.any fun e => e.func == 0x14 && e.opcode == 2 && e.running && e.fin.isNone then
    s.lastStitch d St.BOO_BUSY 0
  else if s.verifyBuf d.buf ≠ 0 then s.lastStitch d St.AREA_BAD (s.verifyBuf d.buf)
  else (s.onBoo fun b => { b with copy := 1 - s.configCopy.getD 1 }).configStitch d

def execConfigWrite (r : Nat) (s : State) : Res := .next (s.withOp r 0x14 2 fun d => s.configWrite d)

/-! CHAIN_SEND. -/

/-- CHAIN_SEND starts the exchange of R466 from ready staging. -/
def State.chainSend (s : State) (d : Desc) : State :=
  let p := u8 d.raw 20
  let b := s.areaDir Area.STAGING
  if 2 ≤ p ∨ !d.noBuf then s.lastStitch d St.BADARG 0
  else if !s.booMay d then s.lastStitch d St.NOTPERMIT 0
  else if (s.chainOutAt p).isSome then s.lastStitch d St.BOO_BUSY 0
  else if stagingState b ≠ 2 ∨ s.writer ≠ 0 then s.lastStitch d St.NOT_READY 0
  else (s.stitched d 0 0).outStart p (dirCrc b) (ceilDiv (dirUsed b) 4096) 0 (some (d.round, d.slot))

def execChainSend (r : Nat) (s : State) : Res := .next (s.withOp r 0x14 3 fun d => s.chainSend d)

/-- A further stitch of a BOO descriptor under way. -/
def State.booStitch (s : State) (d : Desc) : State :=
  if d.cancelled && !d.lastBegun then s.stopStitched d
  else if d.opcode = 1 then s.stageEraseStitch d
  else if d.opcode = 2 then s.configStitch d
  else s.stitched d d.prog d.acc

/-! The end of a flash operation. -/

/-- What a flash operation leaves in its sector or page: `left` where it did not succeed. -/
def State.flashEffect (s : State) (o : FlashOp) (left : Option Bytes) : State :=
  match left with
  | some b => s.writeBytes o.addr (slice b 0 o.size)
  | none => if o.erase then s.erase o.addr else s.program o.addr o.data

/-- The reads that waited for the sector are answered (R62). -/
def State.answerHeld (s : State) (o : FlashOp) : State :=
  let b := o.addr / 65536 * 65536
  let held := s.fab.tags.filter fun t => decide (t.acc.addr < b + 65536) && decide (b < t.acc.addr + t.acc.size)
  forEach held (fun t s => s.tagDone t St.OK (s.readBytes t.acc.addr t.acc.size)) s

/-- A page of an Igion kilobyte has been programmed and is read back. -/
def State.igPage (s : State) (o : FlashOp) (a : IgAsk) : State :=
  if s.readBytes o.addr o.data.length != o.data then
    let s := s.onBoo fun b => { b with ops := b.ops.filter fun p => p.who != o.who }
    if s.inSession a then s.igReply a 3 Ig.BAD else s
  else if o.last && s.inSession a then
    (s.onBoo fun b => { b with session := b.session.map fun x => { x with done := x.done ++ [a.off / 1024] } }).igReply
      a 3 Ig.OK
  else s

/-- A page of a chain's block has been programmed and is read back; the block is then stored, acknowledged and sent
on. -/
def State.chainPage (s : State) (o : FlashOp) (k : Nat) : State :=
  match s.boo.chainIn with
  | none => s
  | some i =>
    if s.readBytes o.addr o.data.length != o.data then
      (s.onBoo fun b => { b with ops := b.ops.filter fun p => p.who != o.who }).chainSay i Chain.NAK k
    else if o.last then
      let s := s.updIn fun x => { x with done := x.done ++ [k] }
      ((s.put F.BOO_CHAIN_STAT_STORED (i.done.length + 1)).chainSay i Chain.ACK k).outPump (1 - i.port)
    else s

/-- A cancelled descriptor stops once its flash operation has ended (R470). -/
def State.descOpDone (s : State) (r i : Nat) : State :=
  match s.rnd.descs.find? fun d => d.round == r && d.slot == i && d.started && d.fin.isNone with
  | some d => if d.cancelled && !d.lastBegun then s.stopStitched d else s
  | none => s

/-- What the end of an operation leads to. -/
def State.opEnded (s : State) (o : FlashOp) : State :=
  match o.who with
  | .igErase => s
  | .igData a => s.igPage o a
  | .chErase => if o.last then (match s.boo.chainIn with | some i => s.chainSay i Chain.ACK chainStartIdx | none => s) else s
  | .chBlock k => s.chainPage o k
  | .desc r i => s.descOpDone r i
  | .copy => s.copyNext o

/-- FLASH_OPERATION_DONE: the operation under way in flash `w` ends. -/
def State.flashDone (s : State) (w : Nat) (left : Option Bytes) : State :=
  match s.boo.ops.find? fun o => o.flash == w with
  | none => s
  | some o =>
    let s := (s.onBoo fun b => { b with ops := dropFirst (fun p => p.flash == w) b.ops }).flashEffect o left
    (s.answerHeld o).opEnded o

def execFlashOperationDone (flash : Nat) (left : Option Bytes) (s : State) : Res := .next (s.flashDone flash left)

end Sys2Proof.Machine
end

