-- ==== Sys2Proof/Machine/Mem.lean ====
section
/-! DEFINITION. The commands of function 0x02: the patrol scrub (R73) and the opcodes SCRUB_REGION and FILL_REGION
(R79). -/
namespace Sys2Proof.Machine

/-- The region of a MEM descriptor is well formed (R79). -/
def memRegionOk (d : Desc) : Bool :=
  d.addr % 4 == 0 && d.len % 4 == 0 && d.len != 0 &&
    (match wholeTarget d.addr d.len with
     | some (.dram _) => true
     | some .sram => true
     | some (.engine _) => true
     | _ => false)

/-- A MEM opcode's argument and guard checks, then its first stitch. -/
def State.memStart (s : State) (d : Desc) (write : Bool) (k : State → State) : State :=
  if !memRegionOk d then s.finish d St.BADARG 0
  else
    match s.denied (s.dPid d) write d.addr d.len with
    | some a => (s.deny (.round d.round) (s.dPid d) (guardAt a) write a).finish d St.NOTPERMIT 0
    | none => k s

/-- One stitch of SCRUB_REGION: at most 64 KiB, each error corrected or counted. The result holds the granules
corrected and, above them, those uncorrectable. -/
def State.scrubStitch (s : State) (d : Desc) : State :=
  let a := d.addr + d.prog
  let n := min 65536 (d.len - d.prog)
  let ms := s.marksIn a n
  let acc : Nat := d.acc + (ms.filter fun m => !m.ue).length + 2 ^ 32 * (ms.filter fun m => m.ue).length
  let s := s.eccRead a n (s.dPid d) true
  if d.prog + n = d.len then s.lastStitch d (if acc / 2 ^ 32 = 0 then St.OK else St.MEDIA) acc
  else s.stitched d (d.prog + n) acc

/-- `n` granules of one pattern. -/
def patternBytes : Nat → Nat → Bytes
  | 0, _ => []
  | n + 1, p => leBytes 4 p ++ patternBytes n p

/-- One stitch of FILL_REGION: at most 64 KiB written. -/
def State.fillStitch (s : State) (d : Desc) : State :=
  let a := d.addr + d.prog
  let n := min 65536 (d.len - d.prog)
  if s.eccTorn a n then (s.eccRefuse a n (s.dPid d)).lastStitch d St.MEDIA d.prog
  else
    let s := (s.eccWrite a n (s.dPid d)).writeBytes a (patternBytes (n / 4) (u32 d.raw 20))
    if d.prog + n = d.len then s.lastStitch d St.OK d.len
    else s.stitched d (d.prog + n) (d.prog + n)

def execScrubRegion (r : Nat) (s : State) : Res :=
  .next (s.withOp r 0x02 1 fun d => s.memStart d false fun s => s.scrubStitch d)

def execFillRegion (r : Nat) (s : State) : Res :=
  .next (s.withOp r 0x02 2 fun d => s.memStart d true fun s => s.fillStitch d)

/-- The on-die memories the patrol scrubs, by their first address, with their sizes (R73). -/
def patrolMems : List (Nat × Nat) :=
  [(0x100000000, 0x800000), (0x108000000, 0xC00000), (0x130000000, 0x40000), (poolBase, 0x80000)] ++
    (List.range 16).map fun k => (0x110000000 + k * 0x40000, 0x40000)

/-- The patrol's place in the memory at base `b`. -/
def State.patrolPos (s : State) (b : Nat) : Nat := storeGet cntDefault s.fab.patrol b

def State.setPatrol (s : State) (b v : Nat) : State :=
  s.setFab { s.fab with patrol := storeSet cntDefault s.fab.patrol b v }

/-- 4 KiB of an on-die memory are scrubbed and its place moves on, wrapping at its end. -/
def State.patrolDie (m : Nat × Nat) (s : State) : State :=
  let p := s.patrolPos m.1
  (s.eccRead (m.1 + p) 4096 0 true).setPatrol m.1 ((p + 4096) % m.2)

/-- One interval of the patrol: 64 KiB of DRAM and 4 KiB of each on-die memory (R73). -/
def State.patrolRun (s : State) : State :=
  let p := s.get F.MEM_SCRUB_DRAM_POS_ADDR
  let s := s.eccRead (p * 65536) 65536 0 true
  let q := (p + 1) % 0xE000
  let s := s.put F.MEM_SCRUB_DRAM_POS_ADDR q
  let s := if q = 0 then s.raise F.MEM_EVT_SCRUB_PASS else s
  let s := forEach patrolMems State.patrolDie s
  s.setFab { s.fab with patrolAt := s.now }

/-- PATROL_STITCH: while VLOG is there, PATROL_EN is 1 and an interval has passed since the last. -/
def execPatrolStitch (upsets : List EccMark) (s : State) : Res :=
  let s := s.upset upsets
  .next (if s.pow.logic && s.on F.MEM_SCRUB_CTL_PATROL_EN &&
      decide (s.fab.patrolAt + 1000 * s.get F.MEM_SCRUB_INTERVAL_INTERVAL ≤ s.now) then s.patrolRun else s)

end Sys2Proof.Machine
end

