-- ==== Sys2Proof/Machine/PairLink.lean ====
section
/-! DEFINITION. Pair frames received (R471 to R476, R480, R484), the inbound side of the bridge (R485 to R488) and the
hand-over (R489). -/
namespace Sys2Proof.Machine

/-! The bridge's inbound side. -/

/-- The access of an inbound request, stamped with its partition; none where its atomic code is none of an atomic
operation of R487. -/
def BrIn.access (q : BrIn) : Option Access :=
  let src := Source.pair q.pid
  if q.op = 0 then some ⟨src, q.addr, q.len, false, [], none, []⟩
  else if q.op = 1 then some ⟨src, q.addr, q.len, true, q.data, none, []⟩
  else (amoOf (q.code % 128)).map fun op => ⟨src, q.addr, if 128 ≤ q.code then 8 else 4, false, q.data, some op, []⟩

/-- The request at the front is performed; one whose answer comes later holds the inbound side. -/
def State.bridgeOne (s : State) (q : BrIn) : State :=
  match q.access with
  | none => s.pairAnswer St.NOTPERMIT []
  | some a =>
    let r := s.access a
    match r.2 with
    | some x => r.1.pairAnswer x.1 (if x.1 = St.OK ∧ q.op ≠ 1 then x.2 else [])
    | none => r.1.onPai fun p => { p with inWait := true }

/-- Requests are performed one at a time, in arrival order. -/
def State.bridgeRunN : Nat → State → State
  | 0, s => s
  | n + 1, s =>
    match s.pai.ins with
    | [] => s
    | q :: _ => if s.pai.inWait then s else State.bridgeRunN n (s.bridgeOne q)

def State.bridgeRun (s : State) : State := State.bridgeRunN s.pai.ins.length s

/-- A BRIDGE_REQ's payload. -/
def brIn (b : Bytes) : BrIn := ⟨u8 b 6, u8 b 7, u48 b 0, u16 b 8, u8 b 10, u32 b 12, slice b 16 (if u8 b 6 = 0 then 0 else u16 b 8)⟩

/-- The partition of an inbound request is admitted (R485). -/
def State.admits (s : State) (pid : Nat) : Bool := decide (2 ≤ pid) && decide (pid ≤ 18) && s.bit F.PAI_IN_MASK_MASK pid

/-- A BRIDGE_REQ arrives. -/
def State.bridgeIn (s : State) (b : Bytes) : State :=
  let q := brIn b
  if !s.admits q.pid then (s.count C.PAI_DENY_IN).bridgeReply q.id St.NOTPERMIT []
  else (s.onPai fun p => { p with ins := p.ins ++ [q] }).bridgeRun

/-- A BRIDGE_CPL arrives: it ends its request, or is late. -/
def State.bridgeCpl (s : State) (b : Bytes) : State :=
  let id := u32 b 0
  match s.pai.outs.find? fun o => o.parts.any fun p => p.id == id && p.got.isNone with
  | none => s.count C.PAI_BRIDGE_PEER
  | some o => s.bridgeGot o id (u16 b 4) (slice b 8 (u16 b 6))

/-- Both modules have reported both bits, and this one still holds both transfers (R488). -/
def State.crossNow (s : State) : State :=
  let both := s.inHeld && !s.pai.outs.isEmpty && (s.pai.said % 4 == 3) && (s.pai.partner % 4 == 3)
  s.onPai fun p => { p with crossAt := if both then some (p.crossAt.getD s.now) else none }

/-- The inbound request that its target cannot accept waits no longer: a push to a full queue, an access that waits for a tag or
for a lock. -/
def State.dropInbound (s : State) : State :=
  let s := s.setQue { s.que with held := s.que.held.filter fun h => match h.src with | .pair _ => false | _ => true }
  s.setFab { s.fab with
    waiting := s.fab.waiting.filter fun x => !accOfPair x.1
    locked := s.fab.locked.filter fun x => !accOfPair x.1 }

/-- CROSS_US have passed: rank 0 retracts its request, and rank 1 removes it unperformed and answers RETRY. -/
def State.uncross (s : State) : State :=
  match s.pai.crossAt with
  | none => s
  | some t =>
    if s.now < t + 1000 * s.get F.PAI_BRIDGE_CROSS_US then s
    else
      let s := s.onPai fun p => { p with crossAt := none }
      if s.rank = 0 then
        match s.pai.outs with
        | [] => s
        | o :: _ =>
          let op := if o.acc.amo.isSome then 2 else b2n o.acc.write
          let s := (s.put F.PAI_CROSS_INFO_OP op).put F.PAI_CROSS_INFO_PID (s.pidOf o.acc.src)
          (s.count C.PAI_CROSS_RETRACT).raise F.PAI_EVT_CROSSED
      else
        (s.dropInbound.pairAnswer St.RETRY []).bridgeRun

/-! Heartbeats. -/

/-- PAI_OFFSET from a heartbeat, with equal delay in both directions: the mean of what its echo and its own arrival
show, rounded down. Without an echo yet there is none (R484; DESIGN CHOICE, log 51). -/
def State.offset (s : State) (time : Nat) (b : Bytes) : State :=
  let et := u32 b 8
  let er := u32 b 12
  if et = 0 ∧ er = 0 then s
  else
    let d := (sint 32 (ahead32 et er) + sint 32 (ahead32 s.timNow time)) / 2
    let s := s.put F.PAI_OFFSET_NS (ofInt 32 d)
    if 100000 < d.natAbs then s.raise F.PAI_EVT_SKEW else s

/-- What a PRIMARY does at a heartbeat of its partner. -/
def State.primaryBeat (s : State) (role : Nat) (bits_ : Nat) : State :=
  if role = Role.STARTING ∨ role = Role.ISOLATED then
    (s.onPai fun p => { p with resynced := false }).sendAll Kind.TERM (termBody (s.get F.PAI_TERM_TERM) 0)
  else if role = Role.SYNCING ∧ !s.pai.resynced then s.resync
  else if role = Role.STANDBY ∧ bitOf bits_ 2 ∧ !s.on F.PAI_STAT_SYNCED then
    (s.put F.PAI_STAT_SYNCED 1).raise F.PAI_EVT_SYNCED
  else if role = Role.SYNCING then s.put F.PAI_STAT_SYNCED 0
  else s

/-- A HEARTBEAT of the partner in role `role` arrives on a lane (R475). -/
def State.beat (s : State) (lane role time : Nat) (b : Bytes) : State :=
  let s := s.onPai fun p => { p with
    hbAt := some s.now, hbSeen := lane :: p.hbSeen.filter (· != lane), partner := u8 b 4
    echo := storeSet noneDefault p.echo lane (some (time, s.timNow)) }
  let s := if s.on F.PAI_STAT_PARTNER_ALIVE then s else (s.put F.PAI_STAT_PARTNER_ALIVE 1).raise F.PAI_EVT_PARTNER_UP
  let s := (s.offset time b).crossNow
  let own := s.role
  if own = Role.STARTING then
    if role = Role.PRIMARY then s.enterSyncing
    else if role = Role.STARTING ∧ s.rank = 0 then s.promote 2
    else s
  else if own = Role.ISOLATED then (if role = Role.PRIMARY then s.enterSyncing else s)
  else if own = Role.PRIMARY then (s.mirAcked (u32 b 0)).primaryBeat role (u8 b 4)
  else s

/-! Frames. -/

/-- A frame from a partner of the same rank (R471). -/
def State.rankClash (s : State) : State :=
  let s := if s.pai.clashAt.isNone then s.raise F.PAI_EVT_RANK_CLASH else s
  (s.onPai fun p => { p with clashAt := some s.now }).count C.PAI_DENY_IN

/-- A frame with a lower term is discarded; a request is answered with TERM (R476). -/
def State.staleTerm (s : State) (kind : Nat) (b : Bytes) : State :=
  let s := (s.count C.PAI_STALE_TERM).raise F.PAI_EVT_STALE_TERM
  if kind = Kind.BRIDGE_REQ then s.bridgeReply (u32 b 12) St.TERM [] else s

/-- The term a frame carries: a TERM frame's is the higher of its header and its NEW_TERM. -/
def frameTerm (kind term : Nat) (b : Bytes) : Nat := if kind = Kind.TERM then max term (u32 b 0) else term

/-- A higher term is adopted, after the demotion of a PRIMARY; an equal one demotes a PRIMARY of rank 1 where the
partner is PRIMARY (R475, R476). -/
def State.adopt (s : State) (term role : Nat) : State :=
  let own := s.get F.PAI_TERM_TERM
  if s.role = Role.PRIMARY ∧ (own < term ∨ (own = term ∧ role = Role.PRIMARY ∧ s.rank = 1)) then s.demote term
  else if own < term then s.put F.PAI_TERM_TERM term
  else s

/-- A beacon with a matching PAIR_ID from another serial restarts the witness interval (R479). -/
def State.beacon (s : State) (b : Bytes) : State :=
  if u32 b 0 = s.get F.PAI_ID_PAIR_ID ∧ slice b 4 8 ≠ s.serial then s.onPai fun p => { p with beaconAt := some s.now }
  else s

/-- A pair frame of the other rank and of no lower term acts by its KIND. -/
def State.pairKind (s : State) (kind lane role seq time : Nat) (b : Bytes) : State :=
  if kind = Kind.HEARTBEAT then s.beat lane role time b
  else if kind = Kind.MIRROR then s.mirrorIn seq b
  else if kind = Kind.BRIDGE_REQ then s.bridgeIn b
  else if kind = Kind.BRIDGE_CPL then s.bridgeCpl b
  else if kind = Kind.TERM then (if u8 b 4 = 1 ∧ s.role = Role.STANDBY then s.promote 0 else s)
  else if kind = Kind.BEACON then s.beacon b
  else s

/-- A pair frame that has passed its MAC's checks, from its destination address on (R472). -/
def State.pairFrame (s : State) (lane : Nat) (b : Bytes) : State :=
  let h := b.drop 14
  let kind := u8 h 0
  let body := slice h 20 (u16 h 16)
  let own := s.get F.PAI_TERM_TERM
  let role := bits (u8 h 2) 3 1
  if !s.pairOn then s
  else if etherType b ≠ 0x88B6 then s.count C.PAI_DENY_IN
  else if u8 h 1 ≠ 1 then s
  else if u8 h 2 % 2 = s.rank then s.rankClash
  else if u32 h 4 < own then s.staleTerm kind body
  else
    let s := s.put F.PAI_STAT_PARTNER_ROLE role
    (s.adopt (frameTerm kind (u32 h 4) body) role).pairKind kind lane role (u32 h 8) (u32 h 12) body

/-- A pair frame with a correct FCS arrives on lane `lane` while it is up. -/
def State.laneFrame (s : State) (lane : Nat) (b : Bytes) : State := if s.laneUp lane then s.pairFrame lane b else s

/-- A BEACON arrives on X0 or X1: one of this module's own, or of another pair, ends here (R479). -/
def State.beaconFrame (s : State) (port : Nat) (b : Bytes) : State :=
  let body := slice (b.drop 14) 20 (u16 (b.drop 14) 16)
  if u32 body 0 ≠ s.get F.PAI_ID_PAIR_ID ∨ slice body 4 8 = s.serial then s else s.pairFrame (2 + port) b

/-! The primary's timed work. -/

/-- Step 3 of a hand-over: once no controller has a frame on its bus and every change has been mirrored and
acknowledged, TERM with REASON 1 asks the standby to promote (R489). -/
def State.switchRun (s : State) : State :=
  if s.pai.sw.isSome && !s.pai.asked && s.pai.unacked.isEmpty && (List.range 12).all (fun n => (s.ctl n).cur.isNone) then
    (s.onPai fun p => { p with asked := true }).sendOne Kind.TERM (termBody (s.get F.PAI_TERM_TERM) 1)
  else s

/-- The pair function's work each 20 µs: changes are mirrored, a hand-over and inbound requests go on. -/
def State.pairTick (s : State) : State := if s.pairOn then s.mirror.switchRun.bridgeRun.crossNow else s

/-- A HEARTBEAT on a lane (R473). -/
def State.beatOn (lane : Nat) (s : State) : State :=
  let e := (storeGet noneDefault s.pai.echo lane).getD (0, 0)
  let s := s.onPai fun p => { p with said := s.beatBits }
  s.sendOn lane Kind.HEARTBEAT (leBytes 4 s.mirAck ++ leBytes 1 s.pai.said ++ zeros 3 ++ leBytes 4 e.1 ++ leBytes 4 e.2)

/-- A heartbeat period without a heartbeat on a lane is counted. -/
def State.missed (lane : Nat) (s : State) : State :=
  if s.pai.hbSeen.contains lane then s else s.count (if lane = 0 then C.PAI_HB_MISS0 else C.PAI_HB_MISS1)

/-- The heartbeats of one period. -/
def State.beats (s : State) : State :=
  let s := forEach s.lanesUp State.beatOn (forEach [0, 1] State.missed s)
  (s.onPai fun p => { p with hbSeen := [], hbNext := (s.now / 100000 + 1) * 100000 }).crossNow

/-- The partner is declared dead (R474, R475). -/
def State.partnerDead (s : State) : State :=
  let s := (s.put F.PAI_STAT_PARTNER_ALIVE 0).raise F.PAI_EVT_PARTNER_LOST
  let s := (s.bridgeDead.endSwitch St.PEER 0).onPai fun p => { p with resynced := false, unacked := [], partner := 0 }
  let r := s.role
  if r = Role.STANDBY then s.promoteOr
  else if r = Role.SYNCING then (s.setRole Role.STARTING).onPai fun p => { p with startAt := s.now }
  else if r = Role.PRIMARY then s.put F.PAI_STAT_SYNCED 0
  else s

/-- Crystal time from which START_MS runs: the start, the last heartbeat or the last frame of the same rank. -/
def State.startFrom (s : State) : Nat := max s.pai.startAt (max (s.pai.hbAt.getD 0) (s.pai.clashAt.getD 0))

/-- The bytes of a BEACON on X0 or X1. -/
def State.beaconBytes (s : State) (port : Nat) : Bytes :=
  let dst := leBytes 4 (s.get F.PAI_BEACON_MAC_LO_ADDR) ++ leBytes 2 (s.get F.PAI_BEACON_MAC_HI_ADDR)
  s.pairBytes dst Kind.BEACON (2 + port) (s.pairSeq Kind.BEACON)
    (leBytes 4 (s.get F.PAI_ID_PAIR_ID) ++ s.serial ++ leBytes 1 s.rank)

/-- A BEACON on one port. -/
def State.beaconOn (port : Nat) (s : State) : State := (s.stageOwn port 7 (s.beaconBytes port)).pairSeqStep Kind.BEACON

/-! Commands. -/

/-- PAIR_ENABLE: a write of PAI_CTL with EN 1. -/
def execPairEnable (pid val : Nat) (s : State) : Res := .next (s.paiCtl pid (setBit val 31))

/-- PAIR_DISABLE: a write of PAI_CTL with EN 0. -/
def execPairDisable (pid val : Nat) (s : State) : Res := .next (s.paiCtl pid (clearBit val 31))

/-- HEARTBEAT_SEND, once every 100 µs. -/
def execHeartbeatSend (s : State) : Res := .next (if s.pairOn && decide (s.pai.hbNext ≤ s.now) then s.beats else s)

/-- The KIND of a pair frame. -/
def frameKind (b : Bytes) : Nat := u8 b 14

/-- HEARTBEAT_RECEIVE: a HEARTBEAT arrives on a lane. -/
def execHeartbeatReceive (lane : Nat) (b : Bytes) (s : State) : Res :=
  .next (if lane < 2 ∧ frameKind b = Kind.HEARTBEAT then s.laneFrame lane b else s)

/-- PARTNER_DEAD: DEAD_US have passed without a heartbeat. -/
def execPartnerDead (s : State) : Res :=
  .next (match s.pai.hbAt with
    | some t => if s.pairOn && s.on F.PAI_STAT_PARTNER_ALIVE && decide (t + 1000 * s.get F.PAI_DEAD_DEAD_US ≤ s.now)
        then s.partnerDead else s
    | none => s)

/-- START_TIMEOUT. -/
def execStartTimeout (s : State) : Res :=
  .next (if s.pairOn && s.role == Role.STARTING && decide (s.startFrom + 1000000 * s.get F.PAI_CTL_START_MS ≤ s.now)
    then s.promoteOr else s)

/-- TERM_RECEIVE: a pair frame of any KIND brings its term. -/
def execTermReceive (lane : Nat) (b : Bytes) (s : State) : Res := .next (if lane < 2 then s.laneFrame lane b else s)

/-- WITNESS_TIMEOUT: no beacon of the partner for WITNESS_MS; before the first, the interval runs from the function's
start (DEDUCED, log 78). -/
def execWitnessTimeout (s : State) : Res :=
  .next (if s.pairOn && s.role == Role.ISOLATED &&
      decide (s.pai.beaconAt.getD s.pai.startAt + 1000000 * s.get F.PAI_WITNESS_WITNESS_MS ≤ s.now) then s.promote 0 else s)

/-- BEACON_SEND. -/
def execBeaconSend (s : State) : Res :=
  .next (if s.isPrimary && s.on F.PAI_CTL_BEACON_EN && decide (s.pai.beaconNext ≤ s.now) then
      (forEach [0, 1] State.beaconOn s).onPai fun p => { p with
        beaconNext := s.now + 1000000 * s.get F.PAI_WITNESS_BEACON_MS }
    else s)

/-- BEACON_RECEIVE: a BEACON arrives on X0 or X1. -/
def execBeaconReceive (port : Nat) (b : Bytes) (s : State) : Res :=
  .next (if port < 2 ∧ s.isUp port ∧ etherType b = 0x88B6 ∧ frameKind b = Kind.BEACON then s.beaconFrame port b else s)

/-- MIRROR_RECEIVE: a MIRROR frame arrives on a lane. -/
def execMirrorReceive (lane : Nat) (b : Bytes) (s : State) : Res :=
  .next (if lane < 2 ∧ frameKind b = Kind.MIRROR then s.laneFrame lane b else s)

/-- The lane for a frame that is sent again: the other one where it is up, else any that is. -/
def State.otherLane (s : State) (l : Nat) : Option Nat :=
  if s.laneUp (1 - l) then some (1 - l) else if s.laneUp l then some l else none

/-- MIRROR_RETX: MIRROR frame `seq` has not been acknowledged for 50 µs (R473). -/
def execMirrorRetx (seq : Nat) (s : State) : Res :=
  .next (match s.pai.unacked.find? fun m => m.seq == seq && decide (m.at_ + 50000 ≤ s.now) with
    | none => s
    | some m =>
      match s.otherLane m.lane with
      | none => s
      | some l =>
        let s := (s.laneSend l (s.pairBytes (zeros 6) Kind.MIRROR l seq m.body)).count C.PAI_MIRROR_RETX
        s.onPai fun p => { p with unacked := updFirst (·.seq == seq) (fun m => { m with lane := l, at_ := s.now }) p.unacked })

/-- BRIDGE_REQUEST: a BRIDGE_REQ arrives on a lane. -/
def execBridgeRequest (lane : Nat) (b : Bytes) (s : State) : Res :=
  .next (if lane < 2 ∧ frameKind b = Kind.BRIDGE_REQ then s.laneFrame lane b else s)

/-- BRIDGE_COMPLETION: a BRIDGE_CPL arrives on a lane. -/
def execBridgeCompletion (lane : Nat) (b : Bytes) (s : State) : Res :=
  .next (if lane < 2 ∧ frameKind b = Kind.BRIDGE_CPL then s.laneFrame lane b else s)

/-- BRIDGE_TIMEOUT: request `id` has been open for BRIDGE_TMO. -/
def execBridgeTimeout (id : Nat) (s : State) : Res :=
  .next (let due := fun (p : BrPart) =>
      p.id == id && p.got.isNone && decide (p.at_ + 1000 * s.get F.PAI_BRIDGE_TMO_US ≤ s.now)
    if s.pai.outs.any fun o => o.parts.any due then s.bridgePeer id else s)

/-- CROSS_TIMEOUT (R488). -/
def execCrossTimeout (s : State) : Res := .next s.uncross

def St.NOT_PRIMARY : Nat := 0x1600
def St.NOT_SYNCED : Nat := 0x1601

/-- SWITCH (R489, R491). -/
def State.switchOp (s : State) (d : Desc) : State :=
  if !s.bit F.PAI_CFG_MASK_MASK (s.dPid d) then s.finish d St.NOTPERMIT 0
  else if !d.noBuf then s.finish d St.BADARG 0
  else if !s.isPrimary then s.finish d St.NOT_PRIMARY 0
  else if !s.on F.PAI_STAT_SYNCED || !s.on F.PAI_STAT_PARTNER_ALIVE || !s.pai.unacked.isEmpty ||
      s.pai.sw.isSome then s.finish d St.NOT_SYNCED 0
  else (s.hold d).onPai fun p => { p with sw := some (d.round, d.slot), asked := false }

def execSwitch (r : Nat) (s : State) : Res := .next (s.withOp r 0x15 1 fun d => s.switchOp d)

end Sys2Proof.Machine
end

