-- ==== Sys2Proof/Machine/Receive.lean ====
section
/-! DEFINITION. The reception of a frame: checks and counters (R162, R163), wake patterns (R166 to R168), ingress limits
(R183), stream filters (R182, R184), the service port (R185) and the ways that lead past the switch core. -/
namespace Sys2Proof.Machine

/-! Wake patterns (R166, R167). -/

/-- The window bytes that pattern `w` of port `p` selects; none where one lies past the frame or none is selected. -/
def State.wakeBytes (s : State) (p w : Nat) (b : Bytes) : Option Bytes :=
  let o := s.get (F.PRT_WP_CTL_OFFSET p w)
  let sel := (List.range 128).filter fun i => bitOf (s.get (F.PRT_WP_MASK_MASK p w (i / 32))) (i % 32)
  if sel.isEmpty || sel.any (fun i => decide (b.length ≤ o + i)) then none else some (sel.map fun i => b.getD (o + i) 0)

/-- Pattern `w` of port `p` matches frame `b`, which ends with its FCS. -/
def State.wakeHit (s : State) (p w : Nat) (b : Bytes) : Bool :=
  s.on (F.PRT_WP_CTL_EN p w) &&
    (match s.wakeBytes p w b with
     | some x => crc16 0xFFFF x == s.get (F.PRT_WP_CTL_CRC p w)
     | none => false)

/-- The bytes hold six of 0xFF and sixteen copies of `mac` in a row. -/
def magicIn (mac : Bytes) : Bytes → Bool
  | [] => false
  | x :: r =>
    (x :: r).take 102 == List.replicate 6 0xFF ++ (List.replicate 16 mac).flatten || magicIn mac r

def State.magicHit (s : State) (p : Nat) (b : Bytes) : Bool :=
  s.on (F.PRT_WAKE_CTL_MAGIC_EN p) && magicIn (s.macBytes p) (b.drop 12)

/-- What a good frame on a G port does as a wake: it meets the port's criterion, and a match signals WAK once (R168). -/
def State.wakeCheck (s : State) (p : Nat) (b : Bytes) : State :=
  if p < 4 ∨ 20 ≤ p then s
  else
    let pat := (List.range 8).any fun w => s.wakeHit p w (b ++ leBytes 4 (crc32 b))
    let mag := s.magicHit p b
    let s := s.wakeMeets (4 + p)
    let s := if pat then (s.count (C.PRT_WAKE p)).raise (F.PRT_EVT_WAKE_MATCH p) else s
    let s := if mag then (s.count (C.PRT_WAKE p)).raise (F.PRT_EVT_MAGIC p) else s
    if pat || mag then s.wakeEvent (4 + p) else s

/-! Ingress limits (R183); tokens in units of 1 / 8,000,000 byte. -/

def bucketDefault (_ : Nat) : Bucket := ⟨0, 0⟩

/-- Bucket `k` of port `p` refilled to now. -/
def State.refill (s : State) (p k : Nat) : Bucket :=
  let b := storeGet bucketDefault s.prt.buckets (4 * p + k)
  ⟨min (s.get (F.PRT_ILIM_BURST_BURST p k) * 8000000) (b.tokens + s.get (F.PRT_ILIM_RATE_RATE p k) * (s.now - b.last)),
    s.now⟩

def State.setBucket (s : State) (p k : Nat) (b : Bucket) : State :=
  s.onPrt fun t => { t with buckets := storeSet bucketDefault t.buckets (4 * p + k) b }

/-- The bucket of a frame's own kind, if any: broadcast, multicast, or unicast to an unknown address. The service port has no
VLANs: an address is known to it in any FID (DESIGN CHOICE, log 28). -/
def State.kindBucket (s : State) (p : Nat) (b : Bytes) : List Nat :=
  let dst := be48 b 0
  if dst = 0xFFFFFFFFFFFF then [1]
  else if isGroup dst then [2]
  else if p = 20 then (if s.swc.fdb.any (·.mac == dst) then [] else [3])
  else
    match s.vlan (s.entryVid ⟨p, b, none, none, []⟩) with
    | some v => if (s.fdbFind dst v.fid).isSome then [] else [3]
    | none => [3]

/-- The ingress limits of port `p` let a frame in, or drop and count it. -/
def State.admitRx (s : State) (p : Nat) (b : Bytes) : State × Bool :=
  let ks := (0 :: s.kindBucket p b).filter fun k => s.on (F.PRT_ILIM_RATE_EN p k)
  let n := (b.length + 4) * 8000000
  let s := forEach ks (fun k t => t.setBucket p k (t.refill p k)) s
  let toks := fun (k : Nat) => storeGet bucketDefault s.prt.buckets (4 * p + k)
  if ks.any fun k => decide ((toks k).tokens < n) then
    ((s.count (C.PRT_RX_LIMIT_DROP p)).raise (F.PRT_EVT_LIMIT_DROP p), false)
  else (forEach ks (fun k t => t.setBucket p k { toks k with tokens := (toks k).tokens - n }) s, true)

/-! Stream filters (R182, R184). -/

/-- The filter that takes a frame of stream `h` and priority `pcp`. -/
def State.filterOf (s : State) (h : Option Nat) (pcp : Nat) : Option (Nat × QFilter) :=
  (s.prt.filters.filter fun x => x.2.en && !x.2.blocked).find? fun x =>
    (x.2.handle == 0xFFFF || h == some x.2.handle) && (x.2.pcp == 0xFF || x.2.pcp == pcp)

/-- A frame is dropped by a stream filter: counter `c` of its port, count `i` of the filter. -/
def State.qciDrop (s : State) (p f c i : Nat) : State :=
  ((s.count c).raise (F.PRT_EVT_QCI_DROP p)).setFiltCnt f i (s.filtCnt f i + 1)

/-- A meter refilled to now; tokens in units of 1 / 8,000,000 byte. With COUPLING what overflows the first bucket goes to
the second. -/
def QMeter.refill (m : QMeter) (now : Nat) : QMeter :=
  let c := m.c.tokens + m.cir * (now - m.c.last)
  let cMax := m.cbs * 8000000
  let e := m.e.tokens + m.eir * (now - m.e.last) + (if m.coupling then c - cMax else 0)
  { m with c := ⟨min c cMax, now⟩, e := ⟨min e (m.ebs * 8000000), now⟩ }

/-- The meter's colour of a frame of `n` bytes, 0 green, 1 yellow, 2 red, and the meter after it. -/
def QMeter.colour (m : QMeter) (n : Nat) : Nat × QMeter :=
  let k := n * 8000000
  if m.allRed then (2, m)
  else if k ≤ m.c.tokens then (0, { m with c := { m.c with tokens := m.c.tokens - k } })
  else if k ≤ m.e.tokens then (1, { m with e := { m.e with tokens := m.e.tokens - k } })
  else (2, { m with allRed := m.markAllRed })

/-- The stream gate of a filter: whether it is open, and its IPV, 0xFF for none. -/
def State.gateOf (s : State) (f : QFilter) : Bool × Nat :=
  if f.gate = 0xFF then (true, 0xFF)
  else
    match (s.gate (32 + f.gate)).ent with
    | some e => (bitOf e.states 0, e.op)
    | none => (true, 0xFF)

/-- The frame's SDU: what follows its EtherType, its tag apart (PRESUMED, log 30). -/
def sduOf (b : Bytes) : Nat := (stripTag b).length - 14

/-- The class a filter and its gate give a frame; none leaves it to its PCP. -/
def qciClass (f : QFilter) (ipv : Nat) : Option Nat :=
  if f.cls ≠ 0xFF then some f.cls else if ipv ≠ 0xFF then some (ipv % 8) else none

/-- The last check of a filter, its meter. -/
def State.qciMeter (s : State) (p i : Nat) (f : QFilter) (b : Bytes) : State × Bool :=
  if f.meter = 0xFFFF then (s, true)
  else
    let r := ((s.meter f.meter).refill s.now).colour (b.length + 4)
    let s := s.setMeter f.meter r.2
    if r.1 = 2 ∨ (r.1 = 1 ∧ r.2.dropYellow) then (s.qciDrop p i (C.PRT_RX_QCI_RED p) 4, false) else (s, true)

/-- The stream filter checks of a frame on port `p`: the class they give it where it passes. -/
def State.qci (s : State) (p : Nat) (b : Bytes) : State × Option (Option Nat) :=
  let e : Entry := ⟨p, b, none, none, []⟩
  match s.filterOf (s.streamOf (be48 b 0) (be48 b 6) (s.entryVid e)) (s.entryPri e / 2) with
  | none => (s, some none)
  | some (i, f) =>
    let s := s.setFiltCnt i 0 (s.filtCnt i 0 + 1)
    let g := s.gateOf f
    if !g.1 then (s.qciDrop p i (C.PRT_RX_QCI_GATE p) 2, none)
    else if f.maxSdu ≠ 0 ∧ f.maxSdu < sduOf b then
      let s := s.qciDrop p i (C.PRT_RX_QCI_SDU p) 3
      (if f.blockOversize then
        s.onPrt fun t => { t with filters := storeSet filterDefault t.filters i { f with blocked := true } }
       else s, none)
    else
      let r := s.qciMeter p i f b
      if r.2 then (r.1.setFiltCnt i 1 (r.1.filtCnt i 1 + 1), some (qciClass f g.2)) else (r.1, none)

/-! Cut-through (R149, R150). -/

/-- The X ports to which a frame of class `c` and `n` bytes from port `p` may be cut through: UP, running at the same speed, idle,
with an empty queue for a class that is express there and may start (R149). -/
def State.cutPorts (s : State) (p c n : Nat) : List Nat :=
  if 4 ≤ p || !s.on (F.SWC_PCFG_CUT p) || s.silent then []
  else
    (List.range 4).filter fun o =>
      s.isUp o && s.portRate o == s.portRate p && !s.preemptable o c && (s.line o).cur.isNone && (s.line o).rest.isNone &&
        !s.queued o c && s.mayStart o c && s.fits o c n && decide (n ≤ s.get (F.PRT_MODE_MAX_LEN o))

/-- The mirror copies of a bad frame cut through from port `p` to `o` are dropped and counted, one for each session that
selects it (R136). -/
def State.mirrorBad (s : State) (p o : Nat) (h : Option Nat) : State :=
  forEach (List.range 4) (fun m t =>
    if s.mirrorHit m p h false || s.mirrorHit m o h true then
      (t.count C.SWC_MIRROR_DROP).raise F.SWC_EVT_MIRROR_DROP
    else t) s

/-- A frame with what its checks make of it as it enters the switch core. -/
def State.entry (s : State) (p : Nat) (b : Bytes) (cls ts : Option Nat) : Entry :=
  let e : Entry := ⟨p, b, cls, ts, []⟩
  let gen := match s.streamOf (be48 b 0) (be48 b 6) (s.entryVid e) with
    | some h => s.cbRole h == 1
    | none => false
  { e with cut := s.cutPorts p (s.entryClass e) (b.length + (if gen then 10 else 4)) }

/-- A frame that proves bad once its egress has begun is stomped: it leaves as far as it came, at most 9,216 bytes, as its egress
port sends it (R150); one that is not cut through leaves `was`. -/
def State.stompCut (s : State) (was : State) (e : Entry) : State :=
  if !s.swRuns || isReserved (be48 e.bytes 0) || s.vlanFails e.port (s.entryVid e) ||
      s.get (F.SWC_PCFG_STP e.port) != 2 then was
  else
    match s.route e with
    | none => was
    | some r =>
      let c := s.cbApply r.stream (stripTag e.bytes)
      match r.cutTo e c.2.2 with
      | none => was
      | some o =>
        let b := c.1.egressBytes (c.1.frameOf e r c.2.1) o
        (c.1.mirrorBad e.port o r.stream).sentStomped o (b.take 9212)

/-- A frame that ends badly on port `p` after `b`: one of fewer than 192 bytes has not begun egress, and the limits and filters
have dropped what they drop (R149, R150). -/
def State.stompBad (s : State) (p : Nat) (b : Bytes) : State :=
  if b.length + 4 < 192 then s
  else
    let a := s.admitRx p b
    let q := a.1.qci p b
    match a.2, q.2 with
    | true, some c => q.1.stompCut s (q.1.entry p b c none)
    | _, _ => s

/-! A frame that is not the MAC's own. -/

/-- The receive timestamp of an 802.1AS event message (R194): TIM_NOW at its first bit after the delimiter, which came as long ago
as its bytes take on the line. -/
def State.rxStamp (s : State) (p : Nat) (b : Bytes) : Option Nat :=
  let u := stripTag b
  let t := u8 u 14 % 16
  if etherType u = 0x88F7 ∧ (t = 0 ∨ t = 2 ∨ t = 3) then
    some (ofInt 32 ((s.timAt (s.now - (b.length + 4) * s.byteTime p / 10) : Int) - sint 16 (s.get (F.TIM_PORT_LAT_ING_LAT p))))
  else none

/-- A beacon of this module's pair (R479). -/
def State.isBeacon (s : State) (p : Nat) (b : Bytes) : Bool :=
  let u := stripTag b
  decide (p < 2) && etherType u == 0x88B6 && frameKind u == Kind.BEACON &&
    u32 (slice (u.drop 14) 20 4) 0 == s.get F.PAI_ID_PAIR_ID

/-- An 802.1AS frame that is trapped. -/
def isTrappedAs (b : Bytes) : Bool := etherType (stripTag b) == 0x88F7 && isReserved (be48 b 0)

/-- A good frame on X0 to X3 or a G port goes on to the switch core, or past it (R182, R465, R479, R483). -/
def State.rxData (s : State) (p : Nat) (b : Bytes) : State :=
  if s.isBeacon p b then s.beaconFrame p (stripTag b)
  else if s.isChain p b && (s.chainPermitted || u8 (stripTag b) 14 == Chain.START) then
    if s.chainPermitted then s.chainFrame p b else s.chainDrop
  else if s.silent && !isTrappedAs b then s
  else
    let a := s.admitRx p b
    if !a.2 then a.1
    else
      let q := a.1.qci p b
      match q.2 with
      | none => q.1
      | some c => (q.1.swIngress (q.1.entry p b c (q.1.rxStamp p b))).1

/-- A good frame on the service port passes its ingress limits (R183), and goes to Igion or to a buffer (R185, R463). -/
def State.rxService (s : State) (b : Bytes) : State :=
  let a := s.admitRx 20 b
  let s := a.1
  if !a.2 then s
  else if s.isArp b then s.arpAnswer b
  else if s.isIgion b then s.igFrame b
  else
    match s.rnd.descs.find? fun d => d.func == 5 && d.opcode == 7 && d.running && d.fin.isNone with
    | some d => s.finishBuf d 0 b St.OK (b.length + 2 ^ 32 * s.timNow)
    | none => s.count (C.PRT_RX_NOBUF 20)

/-- A MAC Control frame (R163). -/
def State.rxControl (s : State) (p : Nat) (b : Bytes) : State :=
  let s := s.count (C.PRT_RX_CTL p)
  if be16 b 14 = 1 then s.rxPause p (be48 b 0) (be16 b 16)
  else if be16 b 14 = 0x0101 then s.rxPfc p (be16 b 16) ((List.range 8).map fun k => be16 b (18 + 2 * k))
  else s.count (C.PRT_RX_CTL_DROP p)

/-- A frame passes R162. -/
def State.rxGood (s : State) (p : Nat) (b : Bytes) : State :=
  let s := ((s.count (C.PRT_RX_OK p)).count (C.PRT_RX_OCTETS p) (b.length + 4)).wakeCheck p b
  if s.pairHolds p then s.laneFrame (p - 2) b
  else if etherType b = 0x8808 then s.rxControl p b
  else if p = 20 then s.rxService b
  else s.rxData p b

/-- The largest frame port `p` takes; a lane takes every pair frame (R472). -/
def State.rxMax (s : State) (p : Nat) : Nat := if s.pairHolds p then 9216 else s.get (F.PRT_MODE_MAX_LEN p)

/-- A frame with a bad FCS. -/
def State.rxBadFcs (s : State) (p : Nat) (b : Bytes) : State :=
  let s := (s.count (C.PRT_RX_FCS p)).stompBad p b
  if s.pairHolds p then s.count C.PAI_DENY_IN else s

/-- The checks of R162, in order. -/
def State.rxFrame (s : State) (p : Nat) (f : RxFrame) : State :=
  let n := f.bytes.length + 4
  if !f.preambleOk then s.count (C.PRT_RX_PREAMBLE p)
  else if p = 20 ∧ !f.alignOk then s.count (C.PRT_RX_ALIGN p)
  else if n < 64 then s.count (C.PRT_RX_RUNT p)
  else if s.rxMax p < n then
    let s := s.count (C.PRT_RX_OVERSIZE p)
    if 9216 < n then s.stompBad p f.bytes else s
  else if !f.fcsOk then s.rxBadFcs p f.bytes
  else s.rxGood p f.bytes

/-- The answer to a verification of this port's own arrives (R177). -/
def State.verified (s : State) (p : Nat) : State :=
  if s.get (F.PRT_STAT_VERIFY p) = 1 then (s.put (F.PRT_STAT_VERIFY p) 2).raise (F.PRT_EVT_VERIFY_OK p) else s

/-- FRAME_RECEIVE: what a MAC that is UP receives; SP has neither preemption nor its counters (R165). -/
def execFrameReceive (port : Nat) (f : RxFrame) (s : State) : Res :=
  .next (if !s.isUp port then s
    else
      match f.kind with
      | .frame => s.rxFrame port f
      | .verify => if port < 20 then s.emit (.respond port) else s
      | .respond => if port < 20 then s.verified port else s
      | .assyErr => if port < 20 then s.count (C.PRT_RX_ASSY_ERR port) else s
      | .smdErr => if port < 20 then s.count (C.PRT_RX_SMD_ERR port) else s
      | .lost => (s.stompBad port f.bytes).linkLost port)

end Sys2Proof.Machine
end

