-- ==== Sys2Proof/Machine/Stitch.lean ====
section
/-! DEFINITION. The further stitches of a stitched operation (R100). -/
namespace Sys2Proof.Machine

/-- The ns between a descriptor's last stitch and its next: CO_STORE asks the die every 250 µs (R353), and the checks of
TEST_SWEEP run for their debounce of 10 ms (R354), and a flash operation's status is read every 250 µs (R470). -/
def Desc.stitchGap (d : Desc) : Nat :=
  if d.func = 0x0C ∧ d.opcode = 5 ∧ d.prog = 1 then 250000
  else if d.func = 0x0C ∧ d.opcode = 6 ∧ d.prog % 2 = 1 then 10000000
  else if d.func = 0x14 ∧ d.opcode ≤ 2 ∧ d.prog % 2 = 1 then 250000
  else 0

/-- The stitched descriptor of round `r` whose next stitch is due; the oldest. While the completion round is full it stops at its
stitch boundary (R92). -/
def State.stitching (s : State) (r : Nat) : Option Desc :=
  s.rnd.descs.find? fun d => d.round == r && d.started && d.fin.isNone && d.running && d.isStitched &&
    decide (d.stitchAt + d.stitchGap ≤ s.now) && (d.lastBegun || (!s.on (F.RND_R_STAT_STALLED r) && s.freeSlots r != 0))

/-- The next stitch of descriptor `d`. A PATTERN_LOAD only waits for its take-over. -/
def State.nextStitch (s : State) (d : Desc) : State :=
  match d.func, d.opcode with
  | 0x02, 1 => s.scrubStitch d
  | 0x02, 2 => s.fillStitch d
  | 0x04, 4 => s.fdbFlush d
  | 0x07, 4 => s.chimeLoad d
  | 0x0A, 2 => s.mapStitch d
  | 0x0C, 5 => s.coStore d
  | 0x0C, 6 => s.testSweep d
  | 0x13, _ => s.encStitch d
  | 0x14, _ => s.booStitch d
  | _, _ => s.stitched d d.prog d.acc

/-- The operation of descriptor `d` has ended. -/
def State.settled (s : State) (d : Desc) : Bool := s.rnd.descs.any fun e => e.same d && e.fin.isSome

/-- Round `m` has work for the round engine: a descriptor ready to start, or a stitch. -/
def State.hasWork (s : State) (m : Nat) : Bool := s.ready m || (s.stitching m).isSome

/-- Every other round that has work has been served since round `r` was (R100). -/
def State.othersServed (s : State) (r : Nat) : Bool :=
  (List.range 256).all fun m => m == r || !s.hasWork m || turnBefore s.rnd.turn r m

/-- STITCH: the next stitch of round `r` is performed, once the round engine has served every other round that has work
since the last one. With `last` a last stitch only begins, and ends with the command
after it, so that a cancel may come between (R103). -/
def execStitch (r : Nat) (last : Bool) (s : State) : Res :=
  .next (match s.stitching r with
    | none => s
    | some d =>
      if !s.othersServed r then s else
      let s := s.servedNow r
      let t := s.nextStitch d
      if last && !d.lastBegun && t.settled d then s.updDesc d fun e => { e with lastBegun := true } else t)

end Sys2Proof.Machine
end

