-- ==== Sys2Proof/Machine/Tick.lean ====
section
/-! DEFINITION. The tick of the time lattice: counting (R187 to R190), steps (R189, R204) and the firing of triggers
(R200, R203). -/
namespace Sys2Proof.Machine

/-- Trigger `n` fires: it signals its consumers and rearms or disarms (R200, R203). -/
def State.fire (n : Nat) (late : Bool) (s : State) : State :=
  let s := s.onTim fun t => { t with
    fired := storeSet cntDefault t.fired n (storeGet cntDefault t.fired n + 1)
    fires := storeSet cntDefault t.fires n (storeGet cntDefault t.fires n + 1) }
  let s := s.raiseTrigger n
  let s := if late then (s.put (F.TIM_TRG_CTL_LATE n) 1).raise F.TIM_EVT_TRG_LATE else s
  let s := forEach (List.range 5) (State.pinFire n) s
  let s := if n = 0 then s.mediaTie (ahead32 (s.trgTarget 0) s.timNow) else s
  let s := if n = 0 ∧ !s.cor.doze then s.blockStart (s.trgTarget 0) else s
  let s := forEach (List.range 4) (fun b t => if t.get (F.LDC_B_CTL_SAMPLE_TRG b) = n then t.sampleBank b else t) s
  let s := forEach (List.range 4) (fun b t =>
    if t.on (F.LDC_B_CTL_SYNC_EN b) && t.get (F.LDC_B_CTL_SYNC_TRG b) == n then t.pwmFrame b else t) s
  let s := forEach (List.range 4) (fun g t =>
    if t.get (F.SIO_G_CTL_SAMPLE_TRG g) = n then t.setSio { t.sio with due := setBit t.sio.due g } else t) s
  if s.trgPeriod n = 0 then s.put (F.TIM_TRG_CTL_ARMED n) 0
  else
    let k := ahead32 (s.trgTarget n) s.timNow / s.trgPeriod n + 1
    let s := s.put (F.TIM_TRG_TARGET_VALUE n) ((s.trgTarget n + k * s.trgPeriod n) % 2 ^ 32)
    s.put (F.TIM_TRG_CTL_SKIPPED n) (min 255 (s.get (F.TIM_TRG_CTL_SKIPPED n) + (k - 1)))

/-- What a tick knows of TIM_NOW: before it, after counting, and whether a step was applied. -/
structure Tick where
  prev : Nat
  counted : Nat
  stepped : Bool
  /-- triggers armed since the last tick -/
  armNew : Nat

/-- A firing at this tick is on time (R203): counting met its test, which no earlier tick did; a trigger armed since the last
tick may have its target at that tick, but not before it. -/
def Tick.onTime (k : Tick) (n target now : Nat) : Bool :=
  (trgMet k.counted target && (!trgMet k.prev target || (bitOf k.armNew n && target == k.prev))) ||
    (k.stepped && target == now)

/-- Trigger `n` at a tick. -/
def State.trgTick (k : Tick) (n : Nat) (s : State) : State :=
  if s.trgArmed n && trgMet s.timNow (s.trgTarget n) then
    s.fire n !(k.onTime n (s.trgTarget n) s.timNow)
  else s

/-- A backward step disarms a trigger whose TARGET then lies 2^31 ns or more ahead of TIM_NOW (R204). -/
def State.trgDrop (prev n : Nat) (s : State) : State :=
  if s.trgArmed n && decide (2 ^ 31 ≤ ahead32 s.timNow (s.trgTarget n)) && !trgMet prev (s.trgTarget n) then
    ((s.put (F.TIM_TRG_CTL_ARMED n) 0).put F.TIM_STAT_DROPPED n).raise F.TIM_EVT_TRG_DROP
  else s

/-! The tick. -/

/-- A step that waits is applied (R189, R204). -/
def State.applyStep (s : State) : State :=
  match s.tim.step with
  | none => s
  | some v =>
    let d := sint 32 v
    let prev := s.timNow
    let t : Int := (s.timNow : Int) + d
    let s := (s.onTim fun t => { t with step := none }).put F.TIM_STAT_STEP_BUSY 0
    let s := (s.putNow (ofInt 32 t)).put F.TIM_STEP_LAST_DELTA v
    let s := s.raise F.TIM_EVT_STEPPED
    let s := if 2 ^ 32 ≤ t then s.raise F.TIM_EVT_WRAP else if t < 0 then s.raise F.TIM_EVT_UNWRAP else s
    let s := s.gatesStepped d
    let s := if d < 0 then forEach (List.range 16) (State.trgDrop prev) s else s
    (s.mediaMove (-d)).mark

/-- TIM_NOW counts by TIM_INC in force, an accepted write of which takes effect now (R187, R188). -/
def State.countTime (s : State) : State :=
  let inc := s.tim.incNext.getD s.tim.inc
  let v := s.timNow * 2 ^ 24 + s.tim.frac + inc
  let slew := s.get F.TIM_MEDIA_SLEW
  let new := s.tim.incNext.isSome
  let s := s.onTim fun t => { t with inc := inc, incNext := none, frac := v % 2 ^ 24, media := t.media.tick inc slew }
  let s := s.putNow (v / 2 ^ 24 % 2 ^ 32)
  let s := if new then s.mark else s
  if 2 ^ 56 ≤ v then s.raise F.TIM_EVT_WRAP else s

/-- What recurs in crystal time: Gauge's monitors each 100 µs, the pair's mirror within 20 µs (DESIGN CHOICE, log 45,
51). -/
def State.recurs (s : State) : State :=
  let s := if s.now % 100000 = 0 then s.monitor else s
  if s.now % 20000 = 0 then s.pairTick else s

/-- One tick of the lattice: 4 ns of crystal time. Before the lattice locks, crystal time alone goes on. -/
def State.tick (s : State) : State :=
  let s := (s.setNow (s.now + 4)).sleepDue
  if !s.on F.TIM_STAT_LOCKED || !s.pow.logic then s
  else
    let s := s.recurs
    let prev := s.timNow
    let new := s.tim.armNew
    let s := (s.onTim fun t => { t with armNew := 0 }).countTime
    let k : Tick := ⟨prev, s.timNow, s.tim.step.isSome, new⟩
    forEach (List.range 16) (State.trgTick k) s.applyStep

/-- The count after the next tick, before any step. -/
def State.nextCount (s : State) : Nat := s.timNow * 2 ^ 24 + s.tim.frac + s.tim.incNext.getD s.tim.inc

/-! Commands. Those that name what happens at a tick are the tick at which it happens. -/

/-- LATTICE_LOCK: the lattice first locks at cast-on; TIM_NOW starts from 0 at the nominal rate (R191). -/
def execLatticeLock (s : State) : Res := .next s.latticeLock

/-- TIM_WRAP: the tick at which counting carries out of bit 31. -/
def execTimWrap (s : State) : Res :=
  .next (if s.on F.TIM_STAT_LOCKED && decide (2 ^ 56 ≤ s.nextCount) then s.tick else s)

/-- TIM_INC_APPLY: the tick at which an accepted write takes effect. -/
def execTimIncApply (s : State) : Res :=
  .next (if s.on F.TIM_STAT_LOCKED && s.tim.incNext.isSome then s.tick else s)

/-- TIME_STEP_APPLY: the tick at which a step is added. -/
def execTimeStepApply (s : State) : Res :=
  .next (if s.on F.TIM_STAT_LOCKED && s.tim.step.isSome then s.tick else s)

/-- TRIGGER_FIRE: the tick at which trigger `n` fires (R200). -/
def execTriggerFire (n : Nat) (s : State) : Res :=
  .next (let t := s.tick
    if decide (n < 16) && s.on F.TIM_STAT_LOCKED && t.fires n != s.fires n then t else s)

end Sys2Proof.Machine
end

