-- ==== Sys2Proof/Machine/Dispatch.lean ====
section
/-! DEFINITION. One arm for each command: a direct call of its meaning. -/
namespace Sys2Proof.Machine

def exec (i : Instr) (s : State) : Host.Outcome State Fault Refusal :=
  match i with
  | .registerWrite pid addr val => Sys2Proof.Machine.execRegisterWrite pid addr val s
  | .evtClear pid addr val coincide => Sys2Proof.Machine.execEvtClear pid addr val coincide s
  | .evtEnWrite pid addr val => Sys2Proof.Machine.execEvtEnWrite pid addr val s
  | .counterReadLow pid addr => Sys2Proof.Machine.execCounterReadLow pid addr s
  | .memoryAccess a => Sys2Proof.Machine.execMemoryAccess a s
  | .tagGrant m => Sys2Proof.Machine.execTagGrant m s
  | .readTimeout tag => Sys2Proof.Machine.execReadTimeout tag s
  | .lateResponse tag => Sys2Proof.Machine.execLateResponse tag s
  | .guardSelect pid val => Sys2Proof.Machine.execGuardSelect pid val s
  | .guardCommit pid val => Sys2Proof.Machine.execGuardCommit pid val s
  | .effectRangeWrite pid n which val => Sys2Proof.Machine.execEffectRangeWrite pid n which val s
  | .patrolStitch upsets => Sys2Proof.Machine.execPatrolStitch upsets s
  | .scrubRegion r => Sys2Proof.Machine.execScrubRegion r s
  | .fillRegion r => Sys2Proof.Machine.execFillRegion r s
  | .levelChangeDone => Sys2Proof.Machine.execLevelChangeDone s
  | .barBadAccess write bar off => Sys2Proof.Machine.execBarBadAccess write bar off s
  | .doorbellCmd pid n val => Sys2Proof.Machine.execDoorbellCmd pid n val s
  | .doorbellCpl pid n val => Sys2Proof.Machine.execDoorbellCpl pid n val s
  | .roundEnable pid n val => Sys2Proof.Machine.execRoundEnable pid n val s
  | .roundDisable pid n val => Sys2Proof.Machine.execRoundDisable pid n val s
  | .roundBaseWrite pid n which val => Sys2Proof.Machine.execRoundBaseWrite pid n which val s
  | .runaheadFetch n upsets => Sys2Proof.Machine.execRunaheadFetch n upsets s
  | .descriptorStart n upsets => Sys2Proof.Machine.execDescriptorStart n upsets s
  | .stitch r last => Sys2Proof.Machine.execStitch r last s
  | .completionWrite r => Sys2Proof.Machine.execCompletionWrite r s
  | .cancel pid val => Sys2Proof.Machine.execCancel pid val s
  | .moderationTimer r => Sys2Proof.Machine.execModerationTimer r s
  | .msixUnmask vec => Sys2Proof.Machine.execMsixUnmask vec s
  | .hostCompletion tag c => Sys2Proof.Machine.execHostCompletion tag c s
  | .hostCplTimeout tag => Sys2Proof.Machine.execHostCplTimeout tag s
  | .functionLevelReset => Sys2Proof.Machine.execFunctionLevelReset s
  | .pcieLinkDown => Sys2Proof.Machine.execPcieLinkDown s
  | .pcieLinkUp speed width mps mrrs host => Sys2Proof.Machine.execPcieLinkUp speed width mps mrrs host s
  | .frameReceive port f => Sys2Proof.Machine.execFrameReceive port f s
  | .pauseReceive port dst quanta => Sys2Proof.Machine.execPauseReceive port dst quanta s
  | .pfcReceive port vec times => Sys2Proof.Machine.execPfcReceive port vec times s
  | .pauseExpiry port cls => Sys2Proof.Machine.execPauseExpiry port cls s
  | .pauseRefresh port => Sys2Proof.Machine.execPauseRefresh port s
  | .matching => Sys2Proof.Machine.execMatching s
  | .txFrameStart port upsets => Sys2Proof.Machine.execTxFrameStart port upsets s
  | .txFrameEnd port upsets => Sys2Proof.Machine.execTxFrameEnd port upsets s
  | .mcResidueTimeout => Sys2Proof.Machine.execMcResidueTimeout s
  | .ageExpiry idx => Sys2Proof.Machine.execAgeExpiry idx s
  | .cbReseqTimeout h => Sys2Proof.Machine.execCbReseqTimeout h s
  | .cbResetTimeout h => Sys2Proof.Machine.execCbResetTimeout h s
  | .holdExpire p => Sys2Proof.Machine.execHoldExpire p s
  | .plyContribution k => Sys2Proof.Machine.execPlyContribution k s
  | .plyDeadline acc => Sys2Proof.Machine.execPlyDeadline acc s
  | .fdbAdd r => Sys2Proof.Machine.execFdbAdd r s
  | .fdbDel r => Sys2Proof.Machine.execFdbDel r s
  | .fdbLookup r => Sys2Proof.Machine.execFdbLookup r s
  | .fdbFlush r => Sys2Proof.Machine.execFdbFlush r s
  | .vlanSet r => Sys2Proof.Machine.execVlanSet r s
  | .swcStreamSet r => Sys2Proof.Machine.execSwcStreamSet r s
  | .streamClear r => Sys2Proof.Machine.execStreamClear r s
  | .frameSend r => Sys2Proof.Machine.execFrameSend r s
  | .frameRecv r => Sys2Proof.Machine.execFrameRecv r s
  | .macEnable pid port val => Sys2Proof.Machine.execMacEnable pid port val s
  | .macDisable pid port val => Sys2Proof.Machine.execMacDisable pid port val s
  | .anegComplete port good => Sys2Proof.Machine.execAnegComplete port good s
  | .anegRestartTimeout port => Sys2Proof.Machine.execAnegRestartTimeout port s
  | .linkLockTimer port => Sys2Proof.Machine.execLinkLockTimer port s
  | .linkLoss port => Sys2Proof.Machine.execLinkLoss port s
  | .gateChange port => Sys2Proof.Machine.execGateChange port s
  | .gateSwitch port => Sys2Proof.Machine.execGateSwitch port s
  | .gateEnable pid port val => Sys2Proof.Machine.execGateEnable pid port val s
  | .preemptVerifyTimeout port => Sys2Proof.Machine.execPreemptVerifyTimeout port s
  | .qciGateChange g => Sys2Proof.Machine.execQciGateChange g s
  | .gclLoad r => Sys2Proof.Machine.execGclLoad r s
  | .qciFilterSet r => Sys2Proof.Machine.execQciFilterSet r s
  | .qciGateLoad r => Sys2Proof.Machine.execQciGateLoad r s
  | .qciMeterSet r => Sys2Proof.Machine.execQciMeterSet r s
  | .qciRead r => Sys2Proof.Machine.execQciRead r s
  | .spSend r => Sys2Proof.Machine.execSpSend r s
  | .spRecv r => Sys2Proof.Machine.execSpRecv r s
  | .latticeLock => Sys2Proof.Machine.execLatticeLock s
  | .timWrap => Sys2Proof.Machine.execTimWrap s
  | .timIncWrite pid val => Sys2Proof.Machine.execTimIncWrite pid val s
  | .timIncApply => Sys2Proof.Machine.execTimIncApply s
  | .timeStepWrite pid val => Sys2Proof.Machine.execTimeStepWrite pid val s
  | .timeStepApply => Sys2Proof.Machine.execTimeStepApply s
  | .xtalLost => Sys2Proof.Machine.execXtalLost s
  | .xtalRestored => Sys2Proof.Machine.execXtalRestored s
  | .txtsEnqueue port => Sys2Proof.Machine.execTxtsEnqueue port s
  | .triggerFire n => Sys2Proof.Machine.execTriggerFire n s
  | .trgArm r => Sys2Proof.Machine.execTrgArm r s
  | .trgDisarm r => Sys2Proof.Machine.execTrgDisarm r s
  | .txtsRead r => Sys2Proof.Machine.execTxtsRead r s
  | .skipClr pid n val => Sys2Proof.Machine.execSkipClr pid n val s
  | .pinPulseEnd k => Sys2Proof.Machine.execPinPulseEnd k s
  | .ppsEdge rising => Sys2Proof.Machine.execPpsEdge rising s
  | .ppsCapture => Sys2Proof.Machine.execPpsCapture s
  | .mediaLock => Sys2Proof.Machine.execMediaLock s
  | .nodeProcess c samples => Sys2Proof.Machine.execNodeProcess c samples s
  | .edgeFrameArrival k => Sys2Proof.Machine.execEdgeFrameArrival k s
  | .edgeDeadline edge copy => Sys2Proof.Machine.execEdgeDeadline edge copy s
  | .sinkDeadline kind unit chan => Sys2Proof.Machine.execSinkDeadline kind unit chan s
  | .audioStreamReceive => Sys2Proof.Machine.execAudioStreamReceive s
  | .biasFault n => Sys2Proof.Machine.execBiasFault n s
  | .audioLinkLoss => Sys2Proof.Machine.execAudioLinkLoss s
  | .patternLoad r => Sys2Proof.Machine.execPatternLoad r s
  | .nodeSet r => Sys2Proof.Machine.execNodeSet r s
  | .nodeRead r => Sys2Proof.Machine.execNodeRead r s
  | .chimeLoad r => Sys2Proof.Machine.execChimeLoad r s
  | .audStreamSet r => Sys2Proof.Machine.execAudStreamSet r s
  | .chartReplan => Sys2Proof.Machine.execChartReplan s
  | .shadowDeadlineCheck => Sys2Proof.Machine.execShadowDeadlineCheck s
  | .placementSwitch => Sys2Proof.Machine.execPlacementSwitch s
  | .engineDeadline e => Sys2Proof.Machine.execEngineDeadline e s
  | .engineFail e => Sys2Proof.Machine.execEngineFail e s
  | .engineBack e => Sys2Proof.Machine.execEngineBack e s
  | .engineUnexclude pid val => Sys2Proof.Machine.execEngineUnexclude pid val s
  | .placeRead r => Sys2Proof.Machine.execPlaceRead r s
  | .patternCheck r => Sys2Proof.Machine.execPatternCheck r s
  | .carveHint r => Sys2Proof.Machine.execCarveHint r s
  | .canEnable n val => Sys2Proof.Machine.execCanEnable n val s
  | .canDisable n val => Sys2Proof.Machine.execCanDisable n val s
  | .canFrameReceived n f ago => Sys2Proof.Machine.execCanFrameReceived n f ago s
  | .canProtocolException n fmt => Sys2Proof.Machine.execCanProtocolException n fmt s
  | .canTxStart n => Sys2Proof.Machine.execCanTxStart n s
  | .canArbLost n => Sys2Proof.Machine.execCanArbLost n s
  | .canTxDone n => Sys2Proof.Machine.execCanTxDone n s
  | .canTxError n e => Sys2Proof.Machine.execCanTxError n e s
  | .canRxError n e => Sys2Proof.Machine.execCanRxError n e s
  | .canBusoffRecovered n => Sys2Proof.Machine.execCanBusoffRecovered n s
  | .canRecover n val => Sys2Proof.Machine.execCanRecover n val s
  | .canRelease n val => Sys2Proof.Machine.execCanRelease n val s
  | .canSwapDetect n => Sys2Proof.Machine.execCanSwapDetect n s
  | .canDominantTimeout n => Sys2Proof.Machine.execCanDominantTimeout n s
  | .txSend r => Sys2Proof.Machine.execTxSend r s
  | .rxRead r => Sys2Proof.Machine.execRxRead r s
  | .filterLoad r => Sys2Proof.Machine.execFilterLoad r s
  | .gatewayEthFrame => Sys2Proof.Machine.execGatewayEthFrame s
  | .rateHoldRelease rule => Sys2Proof.Machine.execRateHoldRelease rule s
  | .mapTimeout k => Sys2Proof.Machine.execMapTimeout k s
  | .pduPeriodicSend k => Sys2Proof.Machine.execPduPeriodicSend k s
  | .ntscfBatchTimeout t => Sys2Proof.Machine.execNtscfBatchTimeout t s
  | .gwRecvHoldTimeout r => Sys2Proof.Machine.execGwRecvHoldTimeout r s
  | .ruleSet r => Sys2Proof.Machine.execRuleSet r s
  | .mapLoad r => Sys2Proof.Machine.execMapLoad r s
  | .pduSet r => Sys2Proof.Machine.execPduSet r s
  | .templateSet r => Sys2Proof.Machine.execTemplateSet r s
  | .freshSet r => Sys2Proof.Machine.execFreshSet r s
  | .gwRecv r => Sys2Proof.Machine.execGwRecv r s
  | .ruleRead r => Sys2Proof.Machine.execRuleRead r s
  | .sleep r => Sys2Proof.Machine.execSleep r s
  | .sleepDrainEnd => Sys2Proof.Machine.execSleepDrainEnd s
  | .sleepDrainTimeout => Sys2Proof.Machine.execSleepDrainTimeout s
  | .wakeEvent src => Sys2Proof.Machine.execWakeEvent src s
  | .wakeTimerExpiry => Sys2Proof.Machine.execWakeTimerExpiry s
  | .offWaitExpiry => Sys2Proof.Machine.execOffWaitExpiry s
  | .trcvStateWrite pid n val => Sys2Proof.Machine.execTrcvStateWrite pid n val s
  | .trcvWake n sign => Sys2Proof.Machine.execTrcvWake n sign s
  | .wakeValidityEnd src => Sys2Proof.Machine.execWakeValidityEnd src s
  | .wakeConfirm pid val => Sys2Proof.Machine.execWakeConfirm pid val s
  | .backoffEnd src => Sys2Proof.Machine.execBackoffEnd src s
  | .backoffClear pid val => Sys2Proof.Machine.execBackoffClear pid val s
  | .vaonRise => Sys2Proof.Machine.execVaonRise s
  | .vaonLoss => Sys2Proof.Machine.execVaonLoss s
  | .chSet r => Sys2Proof.Machine.execChSet r s
  | .chConfig r => Sys2Proof.Machine.execChConfig r s
  | .latchClr r => Sys2Proof.Machine.execLatchClr r s
  | .wdArm r => Sys2Proof.Machine.execWdArm r s
  | .coStore r => Sys2Proof.Machine.execCoStore r s
  | .testSweep r => Sys2Proof.Machine.execTestSweep r s
  | .inrushEnd ch => Sys2Proof.Machine.execInrushEnd ch s
  | .limTimeExpiry ch => Sys2Proof.Machine.execLimTimeExpiry ch s
  | .fastTrip ch mA => Sys2Proof.Machine.execFastTrip ch mA s
  | .thermalTrip ch tj tc => Sys2Proof.Machine.execThermalTrip ch tj tc s
  | .restartDue ch tj tc => Sys2Proof.Machine.execRestartDue ch tj tc s
  | .retryReset ch => Sys2Proof.Machine.execRetryReset ch s
  | .bankFold b mA => Sys2Proof.Machine.execBankFold b mA s
  | .bankFoldEnd b mA => Sys2Proof.Machine.execBankFoldEnd b mA s
  | .bankOverload b mA => Sys2Proof.Machine.execBankOverload b mA s
  | .blankingEnd b => Sys2Proof.Machine.execBlankingEnd b s
  | .bankUndervoltage b mV => Sys2Proof.Machine.execBankUndervoltage b mV s
  | .bankUvRecover b mV => Sys2Proof.Machine.execBankUvRecover b mV s
  | .powerDiePowerUp b mV => Sys2Proof.Machine.execPowerDiePowerUp b mV s
  | .powerDieUnpowered b mV => Sys2Proof.Machine.execPowerDieUnpowered b mV s
  | .outputDiagDebounce ch which present => Sys2Proof.Machine.execOutputDiagDebounce ch which present s
  | .pwmFrameStart b => Sys2Proof.Machine.execPwmFrameStart b s
  | .keepAliveSend b whole answered => Sys2Proof.Machine.execKeepAliveSend b whole answered s
  | .dieWatchdogExpiry b => Sys2Proof.Machine.execDieWatchdogExpiry b s
  | .ldcLinkLost b => Sys2Proof.Machine.execLdcLinkLost b s
  | .ldcLinkRestored b => Sys2Proof.Machine.execLdcLinkRestored b s
  | .ldcShedWrite pid val => Sys2Proof.Machine.execLdcShedWrite pid val s
  | .serialCharReceived n ch ok ago => Sys2Proof.Machine.execSerialCharReceived n ch ok ago s
  | .serialGapTimeout n => Sys2Proof.Machine.execSerialGapTimeout n s
  | .serialTxStart n => Sys2Proof.Machine.execSerialTxStart n s
  | .serialCharSent n heard => Sys2Proof.Machine.execSerialCharSent n heard s
  | .polarityDecide n mV => Sys2Proof.Machine.execPolarityDecide n mV s
  | .inputSample g xs => Sys2Proof.Machine.execInputSample g xs s
  | .serSend r => Sys2Proof.Machine.execSerSend r s
  | .serRecv r => Sys2Proof.Machine.execSerRecv r s
  | .dinRead r => Sys2Proof.Machine.execDinRead r s
  | .modeSet r => Sys2Proof.Machine.execModeSet r s
  | .gaugeEvaluate => Sys2Proof.Machine.execGaugeEvaluate s
  | .sampleGap b => Sys2Proof.Machine.execSampleGap b s
  | .gaugeLatch pid val => Sys2Proof.Machine.execGaugeLatch pid val s
  | .windowBoundary k => Sys2Proof.Machine.execWindowBoundary k s
  | .scheduleTrigger k => Sys2Proof.Machine.execScheduleTrigger k s
  | .partitionKick pid p => Sys2Proof.Machine.execPartitionKick pid p s
  | .partitionWdExpiry p => Sys2Proof.Machine.execPartitionWdExpiry p s
  | .lockstepMismatch pair => Sys2Proof.Machine.execLockstepMismatch pair s
  | .schedLoad r => Sys2Proof.Machine.execSchedLoad r s
  | .partRestart r => Sys2Proof.Machine.execPartRestart r s
  | .mbxEnable pid n val => Sys2Proof.Machine.execMbxEnable pid n val s
  | .mbxSlotWrite pid n w val => Sys2Proof.Machine.execMbxSlotWrite pid n w val s
  | .mbxDoorbell pid n val => Sys2Proof.Machine.execMbxDoorbell pid n val s
  | .mbxTake pid n val => Sys2Proof.Machine.execMbxTake pid n val s
  | .mbxTimeout n => Sys2Proof.Machine.execMbxTimeout n s
  | .mbxAccessDeny pid n write => Sys2Proof.Machine.execMbxAccessDeny pid n write s
  | .queueEnable pid n val => Sys2Proof.Machine.execQueueEnable pid n val s
  | .queueDisable pid n val => Sys2Proof.Machine.execQueueDisable pid n val s
  | .queuePush src n item => Sys2Proof.Machine.execQueuePush src n item s
  | .queueHeldPushDone n k => Sys2Proof.Machine.execQueueHeldPushDone n k s
  | .queuePop src n => Sys2Proof.Machine.execQueuePop src n s
  | .queuePeek src n => Sys2Proof.Machine.execQueuePeek src n s
  | .semAcquire pid n => Sys2Proof.Machine.execSemAcquire pid n s
  | .semRelease pid n val => Sys2Proof.Machine.execSemRelease pid n val s
  | .semReclaim pid val => Sys2Proof.Machine.execSemReclaim pid val s
  | .keyGenerate r healthy => Sys2Proof.Machine.execKeyGenerate r healthy s
  | .keyDerive r => Sys2Proof.Machine.execKeyDerive r s
  | .keyImport r => Sys2Proof.Machine.execKeyImport r s
  | .keyErase r => Sys2Proof.Machine.execKeyErase r s
  | .pubkeyRead r => Sys2Proof.Machine.execPubkeyRead r s
  | .sign r => Sys2Proof.Machine.execSign r s
  | .verify r => Sys2Proof.Machine.execVerify r s
  | .cmac r => Sys2Proof.Machine.execCmac r s
  | .gcmSeal r => Sys2Proof.Machine.execGcmSeal r s
  | .gcmOpen r => Sys2Proof.Machine.execGcmOpen r s
  | .attest r => Sys2Proof.Machine.execAttest r s
  | .debugChallenge r => Sys2Proof.Machine.execDebugChallenge r s
  | .debugOpen r => Sys2Proof.Machine.execDebugOpen r s
  | .enrol r healthy => Sys2Proof.Machine.execEnrol r healthy s
  | .revoke r => Sys2Proof.Machine.execRevoke r s
  | .custkeySet r => Sys2Proof.Machine.execCustkeySet r s
  | .challengeExpiry => Sys2Proof.Machine.execChallengeExpiry s
  | .tamperAssert src torn => Sys2Proof.Machine.execTamperAssert src torn s
  | .coldCastOn rank updMode => Sys2Proof.Machine.execColdCastOn rank updMode s
  | .trialExpiry => Sys2Proof.Machine.execTrialExpiry s
  | .booConfirm pid val => Sys2Proof.Machine.execBooConfirm pid val s
  | .igionArp frame => Sys2Proof.Machine.execIgionArp frame s
  | .igionHello frame => Sys2Proof.Machine.execIgionHello frame s
  | .igionOpen frame => Sys2Proof.Machine.execIgionOpen frame s
  | .igionData frame => Sys2Proof.Machine.execIgionData frame s
  | .igionCommit frame => Sys2Proof.Machine.execIgionCommit frame s
  | .igionAbort frame => Sys2Proof.Machine.execIgionAbort frame s
  | .igionReset frame => Sys2Proof.Machine.execIgionReset frame s
  | .igionSessionTimeout => Sys2Proof.Machine.execIgionSessionTimeout s
  | .chainStart p frame => Sys2Proof.Machine.execChainStart p frame s
  | .chainBlock p frame => Sys2Proof.Machine.execChainBlock p frame s
  | .chainEnd p frame => Sys2Proof.Machine.execChainEnd p frame s
  | .chainAck p frame => Sys2Proof.Machine.execChainAck p frame s
  | .chainRepeatTimeout p => Sys2Proof.Machine.execChainRepeatTimeout p s
  | .chainRxTimeout => Sys2Proof.Machine.execChainRxTimeout s
  | .stageErase r => Sys2Proof.Machine.execStageErase r s
  | .configWrite r => Sys2Proof.Machine.execConfigWrite r s
  | .chainSend r => Sys2Proof.Machine.execChainSend r s
  | .pairEnable pid val => Sys2Proof.Machine.execPairEnable pid val s
  | .pairDisable pid val => Sys2Proof.Machine.execPairDisable pid val s
  | .heartbeatSend => Sys2Proof.Machine.execHeartbeatSend s
  | .heartbeatReceive lane b => Sys2Proof.Machine.execHeartbeatReceive lane b s
  | .partnerDead => Sys2Proof.Machine.execPartnerDead s
  | .startTimeout => Sys2Proof.Machine.execStartTimeout s
  | .termReceive lane b => Sys2Proof.Machine.execTermReceive lane b s
  | .witnessTimeout => Sys2Proof.Machine.execWitnessTimeout s
  | .beaconSend => Sys2Proof.Machine.execBeaconSend s
  | .beaconReceive port b => Sys2Proof.Machine.execBeaconReceive port b s
  | .mirrorReceive lane b => Sys2Proof.Machine.execMirrorReceive lane b s
  | .mirrorRetx seq => Sys2Proof.Machine.execMirrorRetx seq s
  | .bridgeRequest lane b => Sys2Proof.Machine.execBridgeRequest lane b s
  | .bridgeCompletion lane b => Sys2Proof.Machine.execBridgeCompletion lane b s
  | .bridgeTimeout id => Sys2Proof.Machine.execBridgeTimeout id s
  | .crossTimeout => Sys2Proof.Machine.execCrossTimeout s
  | .switch r => Sys2Proof.Machine.execSwitch r s
  | .funcRestart r => Sys2Proof.Machine.execFuncRestart r s
  | .funcRestartDone fn => Sys2Proof.Machine.execFuncRestartDone fn s
  | .warmReset r => Sys2Proof.Machine.execWarmReset r s
  | .powerCycle r => Sys2Proof.Machine.execPowerCycle r s
  | .devResetWrite pid val => Sys2Proof.Machine.execDevResetWrite pid val s
  | .devPwrcycWrite pid val => Sys2Proof.Machine.execDevPwrcycWrite pid val s
  | .resetNAssert => Sys2Proof.Machine.execResetNAssert s
  | .resetNRelease => Sys2Proof.Machine.execResetNRelease s
  | .warmResetBegin => Sys2Proof.Machine.execWarmResetBegin s
  | .powerCycleBegin => Sys2Proof.Machine.execPowerCycleBegin s
  | .powerCycleEnd rank updMode => Sys2Proof.Machine.execPowerCycleEnd rank updMode s
  | .vlogLoss => Sys2Proof.Machine.execVlogLoss s
  | .mgmtWdExpiry => Sys2Proof.Machine.execMgmtWdExpiry s
  | .mgmtFault => Sys2Proof.Machine.execMgmtFault s
  | .hostKick pid _val => Sys2Proof.Machine.execHostKick pid _val s
  | .hostWdExpiry => Sys2Proof.Machine.execHostWdExpiry s
  | .thermalPoll tj => Sys2Proof.Machine.execThermalPoll tj s
  | .flashOperationDone flash left => Sys2Proof.Machine.execFlashOperationDone flash left s
  | .canBusIntegrated n => Sys2Proof.Machine.execCanBusIntegrated n s
  | .audioLinkRestored => Sys2Proof.Machine.execAudioLinkRestored s

end Sys2Proof.Machine
end

