-- ==== Sys2Proof/Safety.lean ====
section
/-! DEFINITION. What claims mean by a well-formed state, and which parts of State each command may change. -/
namespace Sys2Proof.Machine

/-- Memory, registers and counters are in canonical form. -/
abbrev State.Wf (s : State) : Prop :=
  Memory.wf s.mem = true ∧ storeWf resetVal s.regs = true ∧ storeWf cntDefault s.cnts = true

/-- The parts of State beside the queue of commands. -/
inductive Part where
  /-- the set-up registers -/
  | regs
  /-- the counters -/
  | cnts
  /-- memory -/
  | mem
  /-- what has left the module -/
  | out
  /-- the free values drawn -/
  | fresh
  /-- crystal time -/
  | now
  /-- the fabric: tags, waiting accesses, guards and ECC marks -/
  | fab
  /-- the rounds -/
  | rnd
  /-- queues and semaphores -/
  | que
  /-- the switch core -/
  | swc
  /-- the ports -/
  | prt
  /-- the time lattice -/
  | tim
  /-- wake and sleep -/
  | wak
  /-- audio -/
  | aud
  /-- Chart -/
  | cht
  /-- the cores and partitions -/
  | cor
  /-- the load channels -/
  | ldc
  /-- Gauge -/
  | gau
  /-- the CAN controllers -/
  | can
  /-- power and recovery -/
  | pow
  /-- the enclave -/
  | enc
  /-- the gateway -/
  | gwy
  /-- the serial ports and digital inputs -/
  | sio
  /-- boot and update -/
  | boo
  /-- the pair function -/
  | pai
  deriving DecidableEq, Repr

/-- A part is the same in two states. -/
def Part.same (p : Part) (s t : State) : Prop :=
  match p with
  | .regs => t.regs = s.regs
  | .cnts => t.cnts = s.cnts
  | .mem => t.mem = s.mem
  | .out => t.out = s.out
  | .fresh => t.fresh = s.fresh
  | .now => t.now = s.now
  | .fab => t.fab = s.fab
  | .rnd => t.rnd = s.rnd
  | .que => t.que = s.que
  | .swc => t.swc = s.swc
  | .prt => t.prt = s.prt
  | .tim => t.tim = s.tim
  | .wak => t.wak = s.wak
  | .aud => t.aud = s.aud
  | .cht => t.cht = s.cht
  | .cor => t.cor = s.cor
  | .ldc => t.ldc = s.ldc
  | .gau => t.gau = s.gau
  | .can => t.can = s.can
  | .pow => t.pow = s.pow
  | .enc => t.enc = s.enc
  | .gwy => t.gwy = s.gwy
  | .sio => t.sio = s.sio
  | .boo => t.boo = s.boo
  | .pai => t.pai = s.pai

/-- Every part. -/
def Part.all : List Part :=
  [.regs, .cnts, .mem, .out, .fresh, .now, .fab, .rnd, .que, .swc, .prt, .tim, .wak,
   .aud, .cht, .cor, .ldc, .gau, .can, .pow, .enc, .gwy, .sio, .boo, .pai]

/-- Every part but those given. -/
def Part.but (l : List Part) : List Part := Part.all.filter fun p => !l.contains p

/-- The parts that a command may change; it leaves every other part as it is. -/
def changes (i : Instr) : List Part :=
  match i with
  | .registerWrite _ _ _ => Part.but [.now, .gwy]
  | .evtClear _ _ _ _ => [.regs, .cnts, .out, .rnd]
  | .evtEnWrite _ _ _ => [.regs, .cnts, .out, .rnd]
  | .counterReadLow _ _ => [.regs, .cnts, .out]
  | .memoryAccess _ => Part.but [.now, .gwy]
  | .tagGrant _ => Part.but [.now, .gwy]
  | .readTimeout _ => [.regs, .cnts, .out, .fresh, .fab, .rnd, .que, .pai]
  | .lateResponse _ => [.regs, .cnts, .out, .fab, .rnd]
  | .guardSelect _ _ => [.regs]
  | .guardCommit _ _ => [.fab]
  | .effectRangeWrite _ _ _ _ => [.regs, .cnts, .out, .rnd]
  | .patrolStitch _ => [.regs, .cnts, .out, .fab, .rnd]
  | .scrubRegion _ => [.regs, .cnts, .mem, .out, .fab, .rnd, .que, .pai]
  | .fillRegion _ => [.regs, .cnts, .mem, .out, .fab, .rnd, .que, .pai]
  | .levelChangeDone => [.regs, .cnts, .out, .rnd, .cht, .gau]
  | .barBadAccess _ _ _ => [.regs, .cnts, .out, .rnd]
  | .doorbellCmd _ _ _ => [.regs, .cnts, .out, .rnd]
  | .doorbellCpl _ _ _ => [.regs, .cnts, .out, .rnd]
  | .roundEnable _ _ _ => [.regs, .cnts, .out, .rnd]
  | .roundDisable _ _ _ => [.regs, .cnts, .mem, .out, .rnd, .boo]
  | .roundBaseWrite _ _ _ _ => [.regs, .rnd]
  | .runaheadFetch _ _ => Part.but [.now, .gwy]
  | .descriptorStart _ _ => Part.but [.now, .gwy]
  | .stitch _ _ => Part.but [.now, .prt, .tim, .cht, .cor, .gau, .can, .sio]
  | .completionWrite _ => Part.but [.now, .gwy]
  | .cancel _ _ => [.regs, .cnts, .mem, .out, .rnd, .wak, .aud, .cht, .can, .enc, .boo, .pai]
  | .moderationTimer _ => [.regs, .cnts, .out, .rnd]
  | .msixUnmask _ => [.out, .rnd]
  | .hostCompletion _ _ => Part.but [.now, .gwy]
  | .hostCplTimeout _ => Part.but [.now, .gwy]
  | .functionLevelReset => [.regs, .cnts, .mem, .out, .rnd, .swc, .prt, .boo]
  | .pcieLinkDown => Part.but [.now, .gwy]
  | .pcieLinkUp _ _ _ _ _ => [.regs, .cnts, .out, .rnd]
  | .frameReceive _ _ => Part.but [.now, .gwy]
  | .pauseReceive _ _ _ => [.regs, .cnts, .out, .rnd, .prt]
  | .pfcReceive _ _ _ => [.regs, .cnts, .out, .rnd, .prt]
  | .pauseExpiry _ _ => [.regs, .prt]
  | .pauseRefresh _ => [.regs, .cnts, .out, .rnd, .prt]
  | .matching => [.regs, .cnts, .mem, .out, .fab, .rnd, .que, .swc, .prt, .pai]
  | .txFrameStart _ _ => [.regs, .cnts, .out, .fab, .rnd, .swc, .prt]
  | .txFrameEnd _ _ => [.regs, .cnts, .out, .fresh, .fab, .rnd, .prt, .tim]
  | .mcResidueTimeout => [.regs, .cnts, .out, .rnd, .swc, .prt, .pai]
  | .ageExpiry _ => [.swc]
  | .cbReseqTimeout _ => [.regs, .cnts, .out, .rnd, .swc]
  | .cbResetTimeout _ => [.regs, .cnts, .out, .rnd, .swc]
  | .holdExpire _ => [.regs, .cnts, .out, .rnd, .swc, .prt]
  | .plyContribution _ => [.regs, .cnts, .out, .fab, .rnd, .swc, .prt, .cht]
  | .plyDeadline _ => [.regs, .cnts, .out, .fab, .rnd, .swc, .prt]
  | .fdbAdd _ => [.regs, .cnts, .out, .rnd, .swc]
  | .fdbDel _ => [.regs, .cnts, .out, .rnd, .swc]
  | .fdbLookup _ => [.regs, .cnts, .out, .rnd]
  | .fdbFlush _ => [.regs, .cnts, .mem, .out, .fab, .rnd, .que, .swc, .pai]
  | .vlanSet _ => [.regs, .cnts, .out, .rnd, .swc]
  | .swcStreamSet _ => [.regs, .cnts, .out, .rnd, .swc]
  | .streamClear _ => [.regs, .cnts, .out, .rnd, .swc]
  | .frameSend _ => [.regs, .cnts, .out, .fab, .rnd, .swc, .prt]
  | .frameRecv _ => [.rnd]
  | .macEnable _ _ _ => [.regs, .cnts, .out, .rnd, .swc, .prt, .wak]
  | .macDisable _ _ _ => [.regs, .cnts, .out, .rnd, .swc, .prt, .wak]
  | .anegComplete _ _ => [.regs, .cnts, .out, .rnd, .prt, .wak]
  | .anegRestartTimeout _ => [.out, .prt]
  | .linkLockTimer _ => [.regs, .cnts, .out, .rnd, .prt, .wak]
  | .linkLoss _ => [.regs, .cnts, .out, .rnd, .swc, .prt]
  | .gateChange _ => [.regs, .cnts, .out, .rnd, .swc, .prt]
  | .gateSwitch _ => [.regs, .cnts, .out, .rnd, .swc, .prt]
  | .gateEnable _ _ _ => [.regs, .cnts, .out, .rnd, .swc, .prt]
  | .preemptVerifyTimeout _ => [.regs, .cnts, .out, .rnd, .prt]
  | .qciGateChange _ => [.regs, .cnts, .out, .rnd, .swc, .prt]
  | .gclLoad _ => [.regs, .cnts, .out, .rnd, .swc, .prt]
  | .qciFilterSet _ => [.regs, .cnts, .out, .rnd, .prt]
  | .qciGateLoad _ => [.regs, .cnts, .out, .rnd, .swc, .prt]
  | .qciMeterSet _ => [.regs, .cnts, .out, .rnd, .prt]
  | .qciRead _ => [.regs, .cnts, .mem, .out, .fab, .rnd, .que, .prt, .pai]
  | .spSend _ => [.fab, .rnd, .swc]
  | .spRecv _ => [.rnd]
  | .latticeLock => [.regs, .fresh, .tim]
  | .timWrap => Part.but []
  | .timIncWrite _ _ => [.regs, .tim]
  | .timIncApply => Part.but []
  | .timeStepWrite _ _ => [.regs, .cnts, .out, .rnd, .tim]
  | .timeStepApply => Part.but []
  | .xtalLost => [.regs, .cnts, .out, .rnd]
  | .xtalRestored => [.regs]
  | .txtsEnqueue _ => [.regs, .cnts, .out, .rnd, .tim]
  | .triggerFire _ => Part.but []
  | .trgArm _ => [.regs, .cnts, .out, .rnd, .tim]
  | .trgDisarm _ => [.regs, .cnts, .out, .rnd]
  | .txtsRead _ => [.regs, .cnts, .mem, .out, .fab, .rnd, .que, .tim, .pai]
  | .skipClr _ _ _ => [.regs]
  | .pinPulseEnd _ => [.tim]
  | .ppsEdge _ => [.tim]
  | .ppsCapture => [.regs, .cnts, .out, .rnd, .tim]
  | .mediaLock => [.regs, .cnts, .out, .rnd]
  | .nodeProcess _ _ => [.regs, .cnts, .out, .fab, .rnd, .swc, .prt, .aud, .cht]
  | .edgeFrameArrival _ => [.regs, .cnts, .out, .rnd, .swc, .aud]
  | .edgeDeadline _ _ => [.regs, .cnts, .out, .fresh, .rnd, .aud, .cht]
  | .sinkDeadline _ _ _ => [.regs, .cnts, .out, .fresh, .rnd, .aud]
  | .audioStreamReceive => [.regs, .cnts, .out, .rnd, .swc, .aud, .gau]
  | .biasFault _ => [.regs, .cnts, .out, .rnd, .aud]
  | .audioLinkLoss => [.out, .fresh, .aud]
  | .patternLoad _ => [.regs, .cnts, .mem, .out, .fab, .rnd, .que, .cht, .gau, .pai]
  | .nodeSet _ => [.regs, .cnts, .out, .rnd, .aud]
  | .nodeRead _ => [.regs, .cnts, .mem, .out, .fab, .rnd, .que, .pai]
  | .chimeLoad _ => [.regs, .cnts, .mem, .out, .fab, .rnd, .que, .aud, .pai]
  | .audStreamSet _ => [.regs, .rnd, .aud]
  | .chartReplan => [.regs, .cnts, .out, .rnd, .swc, .aud, .cht, .gau, .pai]
  | .shadowDeadlineCheck => [.regs, .cnts, .out, .rnd, .aud, .cht, .gau, .pai]
  | .placementSwitch => [.regs, .cnts, .out, .rnd, .swc, .aud, .cht, .gau, .enc, .pai]
  | .engineDeadline _ => [.regs, .cnts, .out, .rnd, .aud, .cht, .pai]
  | .engineFail _ => [.regs, .cnts, .out, .rnd, .aud, .cht, .pai]
  | .engineBack _ => [.regs, .cnts, .out, .rnd]
  | .engineUnexclude _ _ => [.regs]
  | .placeRead _ => [.regs, .cnts, .mem, .out, .fab, .rnd, .que, .pai]
  | .patternCheck _ => [.rnd]
  | .carveHint _ => [.regs, .cnts, .out, .rnd, .swc, .cht]
  | .canEnable _ _ => [.regs, .cnts, .out, .rnd, .can]
  | .canDisable _ _ => [.regs, .cnts, .out, .rnd, .can]
  | .canFrameReceived _ _ _ => [.regs, .cnts, .mem, .out, .fresh, .fab, .rnd, .que, .swc, .prt, .wak, .can, .gwy, .pai]
  | .canProtocolException _ _ => [.regs, .cnts, .out, .rnd, .can]
  | .canTxStart _ => [.can]
  | .canArbLost _ => [.regs, .cnts, .out, .rnd, .can]
  | .canTxDone _ => [.regs, .cnts, .out, .fresh, .rnd, .can]
  | .canTxError _ _ => [.regs, .cnts, .out, .fresh, .rnd, .can]
  | .canRxError _ _ => [.regs, .cnts, .out, .rnd, .can]
  | .canBusoffRecovered _ => [.regs, .cnts, .out, .rnd, .can]
  | .canRecover _ _ => [.regs, .can]
  | .canRelease _ _ => [.regs, .can]
  | .canSwapDetect _ => [.regs, .cnts, .out, .rnd]
  | .canDominantTimeout _ => [.can]
  | .txSend _ => [.rnd, .can]
  | .rxRead _ => [.regs, .cnts, .mem, .out, .fab, .rnd, .que, .can, .pai]
  | .filterLoad _ => [.rnd, .can]
  | .gatewayEthFrame => [.regs, .cnts, .mem, .out, .fresh, .fab, .rnd, .que, .swc, .prt, .can, .gwy, .pai]
  | .rateHoldRelease _ => [.regs, .cnts, .mem, .out, .fresh, .fab, .rnd, .que, .swc, .prt, .can, .gwy, .pai]
  | .mapTimeout _ => [.regs, .cnts, .out, .rnd, .gwy]
  | .pduPeriodicSend _ => [.regs, .cnts, .mem, .out, .fresh, .fab, .rnd, .que, .swc, .prt, .can, .gwy, .pai]
  | .ntscfBatchTimeout _ => [.regs, .cnts, .out, .fab, .rnd, .swc, .prt, .gwy]
  | .gwRecvHoldTimeout _ => [.rnd]
  | .ruleSet _ => [.rnd, .gwy]
  | .mapLoad _ => [.regs, .cnts, .mem, .out, .fab, .rnd, .que, .gwy, .pai]
  | .pduSet _ => [.rnd, .gwy]
  | .templateSet _ => [.regs, .cnts, .out, .fab, .rnd, .swc, .prt, .gwy]
  | .freshSet _ => [.rnd, .gwy]
  | .gwRecv _ => [.rnd]
  | .ruleRead _ => [.regs, .cnts, .mem, .out, .fab, .rnd, .que, .gwy, .pai]
  | .sleep _ => [.regs, .cnts, .mem, .out, .rnd, .wak, .aud, .cht, .enc, .boo, .pai]
  | .sleepDrainEnd => [.regs, .cnts, .out, .rnd, .swc, .prt, .wak, .aud, .cht, .cor, .gau, .can, .pow, .pai]
  | .sleepDrainTimeout => [.regs, .cnts, .out, .rnd, .swc, .prt, .wak, .aud, .cht, .cor, .gau, .can, .pow, .pai]
  | .wakeEvent _ => [.regs, .cnts, .out, .rnd, .prt, .wak, .cht, .cor, .gau]
  | .wakeTimerExpiry => [.regs, .cnts, .out, .rnd, .prt, .wak, .cht, .cor, .gau]
  | .offWaitExpiry => [.regs, .wak, .pow]
  | .trcvStateWrite _ _ _ => [.regs, .can]
  | .trcvWake _ _ => [.regs, .cnts, .out, .rnd, .prt, .wak, .cht, .cor, .gau]
  | .wakeValidityEnd _ => [.regs, .cnts, .out, .rnd, .wak]
  | .wakeConfirm _ _ => [.wak]
  | .backoffEnd _ => [.regs, .wak]
  | .backoffClear _ _ => [.regs, .wak]
  | .vaonRise => [.regs, .cnts, .wak, .pow]
  | .vaonLoss => Part.but [.now]
  | .chSet _ => [.regs, .cnts, .out, .rnd, .ldc, .gau]
  | .chConfig _ => [.regs, .cnts, .out, .rnd, .ldc, .gau]
  | .latchClr _ => [.regs, .cnts, .out, .rnd]
  | .wdArm _ => [.regs, .cnts, .out, .rnd, .ldc]
  | .coStore _ => [.regs, .cnts, .mem, .out, .fresh, .fab, .rnd, .que, .wak, .ldc, .pow, .pai]
  | .testSweep _ => [.regs, .cnts, .mem, .out, .fresh, .fab, .rnd, .que, .pai]
  | .inrushEnd _ => [.regs, .ldc]
  | .limTimeExpiry _ => [.regs, .cnts, .out, .rnd, .ldc, .gau]
  | .fastTrip _ _ => [.regs, .cnts, .out, .rnd, .ldc, .gau]
  | .thermalTrip _ _ _ => [.regs, .cnts, .out, .rnd, .ldc, .gau]
  | .restartDue _ _ _ => [.regs, .ldc]
  | .retryReset _ => [.regs]
  | .bankFold _ _ => [.regs, .cnts, .out, .rnd]
  | .bankFoldEnd _ _ => [.regs]
  | .bankOverload _ _ => [.regs, .cnts, .out, .rnd, .ldc, .gau]
  | .blankingEnd _ => [.regs, .cnts, .out, .rnd, .ldc]
  | .bankUndervoltage _ _ => [.regs, .cnts, .out, .rnd]
  | .bankUvRecover _ _ => [.regs, .ldc]
  | .powerDiePowerUp _ _ => [.regs, .cnts, .out, .rnd, .ldc]
  | .powerDieUnpowered _ _ => [.regs, .cnts, .out, .rnd, .ldc]
  | .outputDiagDebounce _ _ _ => [.regs, .cnts, .out, .rnd]
  | .pwmFrameStart _ => [.ldc]
  | .keepAliveSend _ _ _ => [.regs, .cnts, .out, .rnd, .ldc]
  | .dieWatchdogExpiry _ => [.regs, .cnts, .out, .rnd, .ldc]
  | .ldcLinkLost _ => [.regs, .cnts, .out, .rnd, .ldc, .gau]
  | .ldcLinkRestored _ => [.regs, .cnts, .out, .rnd, .ldc]
  | .ldcShedWrite _ _ => [.regs, .cnts, .out, .rnd, .ldc]
  | .serialCharReceived _ _ _ _ => [.regs, .cnts, .mem, .out, .fresh, .fab, .rnd, .que, .swc, .prt, .can, .gwy, .sio, .pai]
  | .serialGapTimeout _ => [.regs, .cnts, .mem, .out, .fresh, .fab, .rnd, .que, .swc, .prt, .can, .gwy, .sio, .pai]
  | .serialTxStart _ => [.regs, .sio]
  | .serialCharSent _ _ => [.regs, .cnts, .out, .rnd, .sio]
  | .polarityDecide _ _ => [.regs, .cnts, .out, .rnd]
  | .inputSample _ _ => [.regs, .cnts, .out, .rnd, .sio]
  | .serSend _ => [.rnd]
  | .serRecv _ => [.rnd]
  | .dinRead _ => [.regs, .cnts, .mem, .out, .fab, .rnd, .que, .pai]
  | .modeSet _ => [.regs, .cnts, .out, .rnd, .cht, .cor, .ldc, .gau]
  | .gaugeEvaluate => [.regs, .cnts, .out, .rnd, .cht, .cor, .ldc, .gau]
  | .sampleGap _ => [.regs, .cnts, .out, .rnd, .gau]
  | .gaugeLatch _ _ => [.regs]
  | .windowBoundary _ => [.regs, .out, .cor]
  | .scheduleTrigger _ => [.regs, .cnts, .out, .rnd, .cor]
  | .partitionKick _ _ => [.cor]
  | .partitionWdExpiry _ => [.regs, .cnts, .mem, .out, .fresh, .fab, .rnd, .que, .cor, .boo, .pai]
  | .lockstepMismatch _ => [.regs, .cnts, .mem, .out, .fresh, .fab, .rnd, .que, .cor, .boo, .pai]
  | .schedLoad _ => [.regs, .rnd, .cor]
  | .partRestart _ => [.regs, .cnts, .mem, .out, .fresh, .fab, .rnd, .que, .cor, .boo, .pai]
  | .mbxEnable _ _ _ => [.regs, .cnts, .out, .rnd]
  | .mbxSlotWrite _ _ _ _ => [.regs, .cnts, .out, .rnd]
  | .mbxDoorbell _ _ _ => [.regs, .cnts, .out, .rnd, .cor]
  | .mbxTake _ _ _ => [.regs, .cnts, .out, .rnd, .cor]
  | .mbxTimeout _ => [.regs, .cnts, .out, .rnd, .cor]
  | .mbxAccessDeny _ _ _ => [.regs, .cnts, .out, .rnd]
  | .queueEnable _ _ _ => [.regs, .que]
  | .queueDisable _ _ _ => [.regs, .cnts, .out, .fresh, .fab, .rnd, .que, .pai]
  | .queuePush _ _ _ => [.regs, .cnts, .out, .fab, .rnd, .que, .pai]
  | .queueHeldPushDone _ _ => [.regs, .cnts, .out, .fresh, .fab, .rnd, .que, .pai]
  | .queuePop _ _ => [.regs, .cnts, .out, .fab, .rnd, .que, .pai]
  | .queuePeek _ _ => [.regs, .cnts, .out, .fab, .rnd, .que, .pai]
  | .semAcquire _ _ => [.regs, .cnts, .out, .fresh]
  | .semRelease _ _ _ => [.regs, .cnts, .out, .rnd]
  | .semReclaim _ _ => [.regs, .cnts, .out, .rnd]
  | .keyGenerate _ _ => [.regs, .cnts, .out, .fresh, .rnd, .enc]
  | .keyDerive _ => [.regs, .cnts, .mem, .out, .fab, .rnd, .que, .enc, .pai]
  | .keyImport _ => [.rnd, .enc]
  | .keyErase _ => [.rnd, .enc]
  | .pubkeyRead _ => [.regs, .cnts, .mem, .out, .fab, .rnd, .que, .pai]
  | .sign _ => [.regs, .cnts, .mem, .out, .fab, .rnd, .que, .enc, .pai]
  | .verify _ => [.regs, .cnts, .mem, .out, .fab, .rnd, .que, .enc, .pai]
  | .cmac _ => [.regs, .cnts, .mem, .out, .fab, .rnd, .que, .pai]
  | .gcmSeal _ => [.regs, .cnts, .mem, .out, .fab, .rnd, .que, .enc, .pai]
  | .gcmOpen _ => [.regs, .cnts, .mem, .out, .fab, .rnd, .que, .pai]
  | .attest _ => [.regs, .cnts, .mem, .out, .fab, .rnd, .que, .enc, .pai]
  | .debugChallenge _ => [.fresh, .rnd, .enc]
  | .debugOpen _ => [.regs, .cnts, .out, .rnd, .enc]
  | .enrol _ _ => [.regs, .cnts, .mem, .out, .fresh, .fab, .rnd, .que, .enc, .pai]
  | .revoke _ => [.regs, .cnts, .out, .rnd, .enc]
  | .custkeySet _ => [.regs, .cnts, .mem, .out, .fab, .rnd, .que, .enc, .pai]
  | .challengeExpiry => [.enc]
  | .tamperAssert _ _ => [.regs, .cnts, .mem, .out, .fab, .rnd, .que, .enc, .pai]
  | .coldCastOn _ _ => Part.but [.now]
  | .trialExpiry => [.regs, .pow, .boo]
  | .booConfirm _ _ => [.regs, .cnts, .mem, .out, .rnd, .boo]
  | .igionArp _ => [.fab, .swc, .prt]
  | .igionHello _ => [.cnts, .fab, .swc, .prt, .boo]
  | .igionOpen _ => [.regs, .cnts, .out, .fab, .rnd, .swc, .prt, .boo]
  | .igionData _ => [.cnts, .fab, .swc, .prt, .boo]
  | .igionCommit _ => [.regs, .cnts, .mem, .out, .fab, .rnd, .swc, .prt, .boo]
  | .igionAbort _ => [.regs, .cnts, .mem, .fab, .swc, .prt, .boo]
  | .igionReset _ => [.cnts, .fab, .swc, .prt, .pow, .boo]
  | .igionSessionTimeout => [.regs, .mem, .boo]
  | .chainStart _ _ => [.regs, .cnts, .fab, .swc, .prt, .boo]
  | .chainBlock _ _ => [.cnts, .fab, .swc, .prt, .boo]
  | .chainEnd _ _ => [.regs, .cnts, .mem, .out, .fab, .rnd, .swc, .prt, .boo]
  | .chainAck _ _ => [.regs, .cnts, .out, .fab, .rnd, .swc, .prt, .boo]
  | .chainRepeatTimeout _ => [.regs, .cnts, .out, .fab, .rnd, .swc, .prt, .boo]
  | .chainRxTimeout => [.regs, .cnts, .mem, .out, .rnd, .boo]
  | .stageErase _ => [.regs, .cnts, .mem, .out, .fab, .rnd, .que, .boo, .pai]
  | .configWrite _ => [.regs, .cnts, .mem, .out, .fab, .rnd, .que, .boo, .pai]
  | .chainSend _ => [.regs, .cnts, .mem, .out, .fab, .rnd, .que, .swc, .prt, .boo, .pai]
  | .pairEnable _ _ => [.regs, .cnts, .out, .fresh, .fab, .rnd, .que, .swc, .prt, .aud, .cht, .pai]
  | .pairDisable _ _ => [.regs, .cnts, .out, .fresh, .fab, .rnd, .que, .swc, .prt, .aud, .cht, .pai]
  | .heartbeatSend => [.cnts, .out, .pai]
  | .heartbeatReceive _ _ => Part.but [.now, .gwy]
  | .partnerDead => [.regs, .cnts, .out, .fresh, .fab, .rnd, .que, .aud, .cht, .ldc, .gau, .can, .pai]
  | .startTimeout => [.regs, .cnts, .out, .rnd, .aud, .cht, .ldc, .gau, .can, .pai]
  | .termReceive _ _ => Part.but [.now, .gwy]
  | .witnessTimeout => [.regs, .cnts, .out, .rnd, .aud, .cht, .ldc, .gau, .can, .pai]
  | .beaconSend => [.fab, .swc, .prt, .pai]
  | .beaconReceive _ _ => Part.but [.now, .gwy]
  | .mirrorReceive _ _ => Part.but [.now, .gwy]
  | .mirrorRetx _ => [.cnts, .out, .pai]
  | .bridgeRequest _ _ => Part.but [.now, .gwy]
  | .bridgeCompletion _ _ => Part.but [.now, .gwy]
  | .bridgeTimeout _ => [.regs, .cnts, .out, .fresh, .fab, .rnd, .que, .pai]
  | .crossTimeout => Part.but [.now, .gwy]
  | .switch _ => [.regs, .cnts, .out, .rnd, .pai]
  | .funcRestart _ => Part.but [.now, .pow, .enc]
  | .funcRestartDone _ => [.regs, .cnts, .out, .rnd]
  | .warmReset _ => [.rnd]
  | .powerCycle _ => [.rnd]
  | .devResetWrite _ _ => [.pow]
  | .devPwrcycWrite _ _ => [.pow]
  | .resetNAssert => [.pow]
  | .resetNRelease => Part.but [.now]
  | .warmResetBegin => Part.but [.now]
  | .powerCycleBegin => Part.but [.now]
  | .powerCycleEnd _ _ => Part.but [.now]
  | .vlogLoss => Part.but [.now]
  | .mgmtWdExpiry => [.pow]
  | .mgmtFault => [.pow]
  | .hostKick _ _ => [.pow]
  | .hostWdExpiry => [.regs, .cnts, .out, .rnd, .pow]
  | .thermalPoll _ => [.regs, .cnts, .out, .rnd, .pow]
  | .flashOperationDone _ _ => Part.but [.now, .pow]
  | .canBusIntegrated _ => [.can]
  | .audioLinkRestored => [.aud]

end Sys2Proof.Machine
end

