-- ==== Sys2Proof/WellFormed.lean ====
section
/-! DEFINITION. Which commands are well formed: their operands lie in the ranges the spec gives them. -/
namespace Sys2Proof

/-- The offset of a 32-bit set-up register from 0x2_0000_0000 (R7). -/
def setupReg (a : Nat) : Bool := decide (a < 0x200000) && decide (a % 4 = 0)

/-- The index of a source of accesses lies in its range; IDs 19 to 31 are never stamped (R41). -/
def Source.wf : Source → Bool
  | .core k => decide (k < 8)
  | .round n => decide (n < 256)
  | .engine k => decide (k < 16)
  | .pair pid => decide (pid < 19)
  | _ => true

/-- The index of a master lies in its range. -/
def Master.wf : Master → Bool
  | .cluster k => decide (k < 2)
  | .engine k => decide (k < 16)
  | _ => true

/-- The bit of an upset lies in its ECC unit. -/
def EccMark.wf (m : EccMark) : Bool := decide (m.bit < 72)

/-- An access lies in the 48-bit address space, a write carries its bytes, and an atomic operation is of 4 or 8 bytes. -/
def Access.wf (a : Access) : Bool :=
  a.src.wf && decide (0 < a.size) && decide (a.addr + a.size ≤ 2 ^ 48) && (!a.write || decide (a.data.length = a.size)) &&
    (a.amo.isNone || decide (a.size = 4) || decide (a.size = 8)) && a.upsets.all EccMark.wf

/-- The fields of a CAN frame lie in their ranges, and its data fit its format (R267). -/
def CanFrame.wf (f : CanFrame) : Bool :=
  decide (f.id < if f.xtd then 2 ^ 29 else 2 ^ 11) && decide (f.dlc < 2048) && decide (f.sdt < 256) && decide (f.vcid < 256) &&
    decide (f.af < 2 ^ 32) && !(f.remote && f.data != []) &&
    (match f.fmt with
     | 0 => decide (f.dlc < 16) && !f.brs && !f.esi && !f.sec && f.sdt == 0 && f.vcid == 0 && f.af == 0 && decide (f.data.length ≤ 8)
     | 1 => decide (f.dlc < 16) && !f.remote && !f.sec && f.sdt == 0 && f.vcid == 0 && f.af == 0 &&
         [0, 1, 2, 3, 4, 5, 6, 7, 8, 12, 16, 20, 24, 32, 48, 64].contains f.data.length
     | 2 => !f.xtd && !f.remote && !f.brs && f.data != [] && decide (f.data.length ≤ 2048)
     | _ => false)

/-- Every operand of a command lies in its range. -/
def Instr.wf (i : Instr) : Bool :=
  match i with
  | .registerWrite pid addr val => decide (pid < 32) && decide (val < 2 ^ 32) && setupReg addr
  | .evtClear pid addr val coincide => decide (pid < 32) && decide (val < 2 ^ 32) && setupReg addr && decide (coincide < 2 ^ 32)
  | .evtEnWrite pid addr val => decide (pid < 32) && decide (val < 2 ^ 32) && setupReg addr
  | .counterReadLow pid addr => decide (pid < 32) && setupReg addr
  | .memoryAccess a => a.wf
  | .tagGrant m => m.wf
  | .readTimeout tag => decide (tag < 256)
  | .lateResponse tag => decide (tag < 256)
  | .guardSelect pid val => decide (pid < 32) && decide (val < 2 ^ 32)
  | .guardCommit pid val => decide (pid < 32) && decide (val < 2 ^ 32)
  | .effectRangeWrite pid n which val => decide (pid < 32) && decide (n < 8) && decide (which < 4) && decide (val < 2 ^ 32)
  | .patrolStitch upsets => upsets.all EccMark.wf
  | .scrubRegion r => decide (r < 256)
  | .fillRegion r => decide (r < 256)
  | .levelChangeDone => true
  | .barBadAccess _ bar off => decide (bar < 6) && decide (off < 2 ^ 64)
  | .doorbellCmd pid n val => decide (pid < 32) && decide (n < 256) && decide (val < 2 ^ 32)
  | .doorbellCpl pid n val => decide (pid < 32) && decide (n < 256) && decide (val < 2 ^ 32)
  | .roundEnable pid n val => decide (pid < 32) && decide (n < 256) && decide (val < 2 ^ 32)
  | .roundDisable pid n val => decide (pid < 32) && decide (n < 256) && decide (val < 2 ^ 32)
  | .roundBaseWrite pid n which val => decide (pid < 32) && decide (n < 256) && decide (which < 4) && decide (val < 2 ^ 32)
  | .runaheadFetch n upsets => decide (n < 256) && upsets.all EccMark.wf
  | .descriptorStart n upsets => decide (n < 256) && upsets.all EccMark.wf
  | .stitch r _ => decide (r < 256)
  | .completionWrite r => decide (r < 256)
  | .cancel pid val => decide (pid < 32) && decide (val < 2 ^ 32)
  | .moderationTimer r => decide (r < 256)
  | .msixUnmask vec => decide (vec < 64)
  | .hostCompletion tag _ => decide (tag < 256)
  | .hostCplTimeout tag => decide (tag < 256)
  | .functionLevelReset => true
  | .pcieLinkDown => true
  | .pcieLinkUp speed width mps mrrs _ => decide (speed < 5) && decide (width < 5) && decide (mps < 6) && decide (mrrs < 6)
  | .frameReceive port f => decide (port < 21) && decide (f.bytes.length ≤ 16000)
  | .pauseReceive port dst quanta => decide (port < 21) && decide (dst < 2 ^ 48) && decide (quanta < 65536)
  | .pfcReceive port vec times => decide (port < 21) && decide (vec < 256) && decide (times.length = 8) && times.all (decide <| · < 65536)
  | .pauseExpiry port cls => decide (port < 21) && decide (cls < 9)
  | .pauseRefresh port => decide (port < 21)
  | .matching => true
  | .txFrameStart port upsets => decide (port < 21) && upsets.all EccMark.wf
  | .txFrameEnd port upsets => decide (port < 21) && upsets.all EccMark.wf
  | .mcResidueTimeout => true
  | .ageExpiry idx => decide (idx < 16384)
  | .cbReseqTimeout h => decide (h < 1024)
  | .cbResetTimeout h => decide (h < 1024)
  | .holdExpire p => decide (p < 24)
  | .plyContribution _ => true
  | .plyDeadline acc => decide (acc < 512)
  | .fdbAdd r => decide (r < 256)
  | .fdbDel r => decide (r < 256)
  | .fdbLookup r => decide (r < 256)
  | .fdbFlush r => decide (r < 256)
  | .vlanSet r => decide (r < 256)
  | .swcStreamSet r => decide (r < 256)
  | .streamClear r => decide (r < 256)
  | .frameSend r => decide (r < 256)
  | .frameRecv r => decide (r < 256)
  | .macEnable pid port val => decide (pid < 32) && decide (port < 21) && decide (val < 2 ^ 32)
  | .macDisable pid port val => decide (pid < 32) && decide (port < 21) && decide (val < 2 ^ 32)
  | .anegComplete port _ => decide (port < 21)
  | .anegRestartTimeout port => decide (port < 21)
  | .linkLockTimer port => decide (port < 21)
  | .linkLoss port => decide (port < 21)
  | .gateChange port => decide (port < 21)
  | .gateSwitch port => decide (port < 21)
  | .gateEnable pid port val => decide (pid < 32) && decide (port < 21) && decide (val < 2 ^ 32)
  | .preemptVerifyTimeout port => decide (port < 21)
  | .qciGateChange g => decide (g < 128)
  | .gclLoad r => decide (r < 256)
  | .qciFilterSet r => decide (r < 256)
  | .qciGateLoad r => decide (r < 256)
  | .qciMeterSet r => decide (r < 256)
  | .qciRead r => decide (r < 256)
  | .spSend r => decide (r < 256)
  | .spRecv r => decide (r < 256)
  | .latticeLock => true
  | .timWrap => true
  | .timIncWrite pid val => decide (pid < 32) && decide (val < 2 ^ 32)
  | .timIncApply => true
  | .timeStepWrite pid val => decide (pid < 32) && decide (val < 2 ^ 32)
  | .timeStepApply => true
  | .xtalLost => true
  | .xtalRestored => true
  | .txtsEnqueue port => decide (port < 21)
  | .triggerFire n => decide (n < 16)
  | .trgArm r => decide (r < 256)
  | .trgDisarm r => decide (r < 256)
  | .txtsRead r => decide (r < 256)
  | .skipClr pid n val => decide (pid < 32) && decide (n < 16) && decide (val < 2 ^ 32)
  | .pinPulseEnd k => decide (k < 5)
  | .ppsEdge _ => true
  | .ppsCapture => true
  | .mediaLock => true
  | .nodeProcess c _ => decide (c < 2048)
  | .edgeFrameArrival _ => true
  | .edgeDeadline edge copy => decide (edge < 1536) && decide (copy < 2)
  | .sinkDeadline kind unit chan => decide (kind < 8) && decide (unit < 16) && decide (chan < 16)
  | .audioStreamReceive => true
  | .biasFault n => decide (n < 8)
  | .audioLinkLoss => true
  | .patternLoad r => decide (r < 256)
  | .nodeSet r => decide (r < 256)
  | .nodeRead r => decide (r < 256)
  | .chimeLoad r => decide (r < 256)
  | .audStreamSet r => decide (r < 256)
  | .chartReplan => true
  | .shadowDeadlineCheck => true
  | .placementSwitch => true
  | .engineDeadline e => decide (e < 16)
  | .engineFail e => decide (e < 16)
  | .engineBack e => decide (e < 16)
  | .engineUnexclude pid val => decide (pid < 32) && decide (val < 2 ^ 32)
  | .placeRead r => decide (r < 256)
  | .patternCheck r => decide (r < 256)
  | .carveHint r => decide (r < 256)
  | .canEnable n val => decide (n < 12) && decide (val < 2 ^ 32)
  | .canDisable n val => decide (n < 12) && decide (val < 2 ^ 32)
  | .canFrameReceived n f ago => decide (n < 12) && decide (ago < 2 ^ 32) && f.wf
  | .canProtocolException n fmt => decide (n < 12) && decide (fmt < 3)
  | .canTxStart n => decide (n < 12)
  | .canArbLost n => decide (n < 12)
  | .canTxDone n => decide (n < 12)
  | .canTxError n _ => decide (n < 12)
  | .canRxError n _ => decide (n < 12)
  | .canBusoffRecovered n => decide (n < 12)
  | .canRecover n val => decide (n < 12) && decide (val < 2 ^ 32)
  | .canRelease n val => decide (n < 12) && decide (val < 2 ^ 32)
  | .canSwapDetect n => decide (n < 12)
  | .canDominantTimeout n => decide (n < 12)
  | .txSend r => decide (r < 256)
  | .rxRead r => decide (r < 256)
  | .filterLoad r => decide (r < 256)
  | .gatewayEthFrame => true
  | .rateHoldRelease rule => decide (rule < 2048)
  | .mapTimeout k => decide (k < 512)
  | .pduPeriodicSend k => decide (k < 256)
  | .ntscfBatchTimeout t => decide (t < 64)
  | .gwRecvHoldTimeout r => decide (r < 256)
  | .ruleSet r => decide (r < 256)
  | .mapLoad r => decide (r < 256)
  | .pduSet r => decide (r < 256)
  | .templateSet r => decide (r < 256)
  | .freshSet r => decide (r < 256)
  | .gwRecv r => decide (r < 256)
  | .ruleRead r => decide (r < 256)
  | .sleep r => decide (r < 256)
  | .sleepDrainEnd => true
  | .sleepDrainTimeout => true
  | .wakeEvent src => decide (src < 29)
  | .wakeTimerExpiry => true
  | .offWaitExpiry => true
  | .trcvStateWrite pid n val => decide (pid < 32) && decide (n < 8) && decide (val < 2 ^ 32)
  | .trcvWake n _ => decide (n < 8)
  | .wakeValidityEnd src => decide (src < 29)
  | .wakeConfirm pid val => decide (pid < 32) && decide (val < 2 ^ 32)
  | .backoffEnd src => decide (src < 29)
  | .backoffClear pid val => decide (pid < 32) && decide (val < 2 ^ 32)
  | .vaonRise => true
  | .vaonLoss => true
  | .chSet r => decide (r < 256)
  | .chConfig r => decide (r < 256)
  | .latchClr r => decide (r < 256)
  | .wdArm r => decide (r < 256)
  | .coStore r => decide (r < 256)
  | .testSweep r => decide (r < 256)
  | .inrushEnd ch => decide (ch < 32)
  | .limTimeExpiry ch => decide (ch < 32)
  | .fastTrip ch _ => decide (ch < 32)
  | .thermalTrip ch _ _ => decide (ch < 32)
  | .restartDue ch _ _ => decide (ch < 32)
  | .retryReset ch => decide (ch < 32)
  | .bankFold b _ => decide (b < 4)
  | .bankFoldEnd b _ => decide (b < 4)
  | .bankOverload b _ => decide (b < 4)
  | .blankingEnd b => decide (b < 4)
  | .bankUndervoltage b _ => decide (b < 4)
  | .bankUvRecover b _ => decide (b < 4)
  | .powerDiePowerUp b _ => decide (b < 4)
  | .powerDieUnpowered b _ => decide (b < 4)
  | .outputDiagDebounce ch which _ => decide (ch < 32) && decide (which < 4)
  | .pwmFrameStart b => decide (b < 4)
  | .keepAliveSend b _ _ => decide (b < 4)
  | .dieWatchdogExpiry b => decide (b < 4)
  | .ldcLinkLost b => decide (b < 4)
  | .ldcLinkRestored b => decide (b < 4)
  | .ldcShedWrite pid val => decide (pid < 32) && decide (val < 2 ^ 32)
  | .serialCharReceived n _ _ _ => decide (n < 8)
  | .serialGapTimeout n => decide (n < 8)
  | .serialTxStart n => decide (n < 8)
  | .serialCharSent n heard => decide (n < 8) && decide (heard < 256)
  | .polarityDecide n _ => decide (n < 4)
  | .inputSample g xs => decide (g < 4) && decide (xs.length = 8)
  | .serSend r => decide (r < 256)
  | .serRecv r => decide (r < 256)
  | .dinRead r => decide (r < 256)
  | .modeSet r => decide (r < 256)
  | .gaugeEvaluate => true
  | .sampleGap b => decide (b < 4)
  | .gaugeLatch pid val => decide (pid < 32) && decide (val < 2 ^ 32)
  | .windowBoundary k => decide (k < 8)
  | .scheduleTrigger k => decide (k < 8)
  | .partitionKick pid p => decide (pid < 32) && decide (p < 32)
  | .partitionWdExpiry p => decide (p < 32)
  | .lockstepMismatch pair => decide (pair < 4)
  | .schedLoad r => decide (r < 256)
  | .partRestart r => decide (r < 256)
  | .mbxEnable pid n val => decide (pid < 32) && decide (n < 32) && decide (val < 2 ^ 32)
  | .mbxSlotWrite pid n w val => decide (pid < 32) && decide (n < 32) && decide (w < 16) && decide (val < 2 ^ 32)
  | .mbxDoorbell pid n val => decide (pid < 32) && decide (n < 32) && decide (val < 2 ^ 32)
  | .mbxTake pid n val => decide (pid < 32) && decide (n < 32) && decide (val < 2 ^ 32)
  | .mbxTimeout n => decide (n < 32)
  | .mbxAccessDeny pid n _ => decide (pid < 32) && decide (n < 32)
  | .queueEnable pid n val => decide (pid < 32) && decide (n < 64) && decide (val < 2 ^ 32)
  | .queueDisable pid n val => decide (pid < 32) && decide (n < 64) && decide (val < 2 ^ 32)
  | .queuePush src n item => decide (n < 64) && decide (item < 2 ^ 48) && src.wf
  | .queueHeldPushDone n _ => decide (n < 64)
  | .queuePop src n => decide (n < 64) && src.wf
  | .queuePeek src n => decide (n < 64) && src.wf
  | .semAcquire pid n => decide (pid < 32) && decide (n < 64)
  | .semRelease pid n val => decide (pid < 32) && decide (n < 64) && decide (val < 2 ^ 32)
  | .semReclaim pid val => decide (pid < 32) && decide (val < 2 ^ 32)
  | .keyGenerate r _ => decide (r < 256)
  | .keyDerive r => decide (r < 256)
  | .keyImport r => decide (r < 256)
  | .keyErase r => decide (r < 256)
  | .pubkeyRead r => decide (r < 256)
  | .sign r => decide (r < 256)
  | .verify r => decide (r < 256)
  | .cmac r => decide (r < 256)
  | .gcmSeal r => decide (r < 256)
  | .gcmOpen r => decide (r < 256)
  | .attest r => decide (r < 256)
  | .debugChallenge r => decide (r < 256)
  | .debugOpen r => decide (r < 256)
  | .enrol r _ => decide (r < 256)
  | .revoke r => decide (r < 256)
  | .custkeySet r => decide (r < 256)
  | .challengeExpiry => true
  | .tamperAssert src _ => decide (src < 7)
  | .coldCastOn rank updMode => decide (rank < 2) && decide (updMode < 2)
  | .trialExpiry => true
  | .booConfirm pid val => decide (pid < 32) && decide (val < 2 ^ 32)
  | .igionArp frame => decide (frame.length ≤ 16000)
  | .igionHello frame => decide (frame.length ≤ 16000)
  | .igionOpen frame => decide (frame.length ≤ 16000)
  | .igionData frame => decide (frame.length ≤ 16000)
  | .igionCommit frame => decide (frame.length ≤ 16000)
  | .igionAbort frame => decide (frame.length ≤ 16000)
  | .igionReset frame => decide (frame.length ≤ 16000)
  | .igionSessionTimeout => true
  | .chainStart p frame => decide (p < 2) && decide (frame.length ≤ 16000)
  | .chainBlock p frame => decide (p < 2) && decide (frame.length ≤ 16000)
  | .chainEnd p frame => decide (p < 2) && decide (frame.length ≤ 16000)
  | .chainAck p frame => decide (p < 2) && decide (frame.length ≤ 16000)
  | .chainRepeatTimeout p => decide (p < 2)
  | .chainRxTimeout => true
  | .stageErase r => decide (r < 256)
  | .configWrite r => decide (r < 256)
  | .chainSend r => decide (r < 256)
  | .pairEnable pid val => decide (pid < 32) && decide (val < 2 ^ 32)
  | .pairDisable pid val => decide (pid < 32) && decide (val < 2 ^ 32)
  | .heartbeatSend => true
  | .heartbeatReceive lane b => decide (lane < 2) && decide (b.length ≤ 16000)
  | .partnerDead => true
  | .startTimeout => true
  | .termReceive lane b => decide (lane < 2) && decide (b.length ≤ 16000)
  | .witnessTimeout => true
  | .beaconSend => true
  | .beaconReceive port b => decide (port < 2) && decide (b.length ≤ 16000)
  | .mirrorReceive lane b => decide (lane < 2) && decide (b.length ≤ 16000)
  | .mirrorRetx seq => decide (seq < 2 ^ 32)
  | .bridgeRequest lane b => decide (lane < 2) && decide (b.length ≤ 16000)
  | .bridgeCompletion lane b => decide (lane < 2) && decide (b.length ≤ 16000)
  | .bridgeTimeout id => decide (id < 2 ^ 32)
  | .crossTimeout => true
  | .switch r => decide (r < 256)
  | .funcRestart r => decide (r < 256)
  | .funcRestartDone fn => decide (fn < 23)
  | .warmReset r => decide (r < 256)
  | .powerCycle r => decide (r < 256)
  | .devResetWrite pid val => decide (pid < 32) && decide (val < 2 ^ 32)
  | .devPwrcycWrite pid val => decide (pid < 32) && decide (val < 2 ^ 32)
  | .resetNAssert => true
  | .resetNRelease => true
  | .warmResetBegin => true
  | .powerCycleBegin => true
  | .powerCycleEnd rank updMode => decide (rank < 2) && decide (updMode < 2)
  | .vlogLoss => true
  | .mgmtWdExpiry => true
  | .mgmtFault => true
  | .hostKick pid _val => decide (pid < 32) && decide (_val < 2 ^ 32)
  | .hostWdExpiry => true
  | .thermalPoll _ => true
  | .flashOperationDone flash _ => decide (flash < 2)
  | .canBusIntegrated n => decide (n < 12)
  | .audioLinkRestored => true

end Sys2Proof
end

