-- ==== Sys2Proof/Certificates/Slice0/Obligations.lean ====
section
/-! DEFINITION. The statements for the provers. -/
open Sys2Proof Sys2Proof.Machine


/-- Register writes, event clears, counter reads, guard staging and bad BAR accesses complete with the effects of their
rules. REGISTER_WRITE completes for every register and value; on the memory page a plain register takes the value
through its access codes. EVT_CLEAR clears the bits written as 1; EVT_EN_WRITE enables bits and sends the newly
enabled ones that are set. COUNTER_READ_LOW latches the high bits, clears the counter and returns the low bits.
GUARD_SELECT copies the selected rule into staging, GUARD_COMMIT with GO stores the staging as the rule.
EFFECT_RANGE_WRITE sets the register and raises EFF_BAD where the range is left enabled and not valid. BAR_BAD_ACCESS
answers Completer Abort to a read and raises HOST_ERR. -/
def Obligations.RegisterCommandsComplete : Prop :=
  (∀ (pid addr val : Nat) (s : State), exec (.registerWrite pid addr val) s = .next (s.regWrite pid addr (val % 2 ^ 32))) ∧
  (∀ (pid addr val : Nat) (s : State), addr / 0x10000 = 2 → addr ≠ R.MEM_SCRUB_INTERVAL → isEvt addr = false → isEvtEn addr = false → 
      exec (.registerWrite pid addr val) s = .next (s.regApply addr (val % 2 ^ 32))) ∧
  (∀ (pid addr val : Nat) (s : State), isEvt addr = true → addr ≠ R.TIM_TRG_EVT → s.mayWrite pid addr = true → 
      exec (.evtClear pid addr val 0) s =
      .next (s.wr addr (BitVec.ofNat 32 ((s.rd addr).toNat ^^^ ((s.rd addr).toNat &&& (val &&& w1cOf addr)))))) ∧
  (∀ (pid addr val coincide : Nat) (s : State), isEvt addr = true → 
      exec (.evtClear pid addr val coincide) s = .next (s.evtClear pid addr val coincide)) ∧
  (∀ (pid addr val : Nat) (s t : State), isEvtEn addr = true → s.mayWrite pid addr = true → t = s.regApply addr (val % 2 ^ 32) → 
      exec (.evtEnWrite pid addr val) s = .next (t.sendEvtBits (addr - 4)
      (((t.rd addr).toNat ^^^ ((t.rd addr).toNat &&& (s.rd addr).toNat)) &&& (t.rd (addr - 4)).toNat))) ∧
  (∀ (pid addr : Nat) (s : State), isCounter addr = true → 
      exec (.counterReadLow pid addr) s =
      .next (((s.wr (addr + 4) (BitVec.ofNat 32 (s.cnt addr / 2 ^ 32))).setCnt addr 0).emit
      (.regValue pid addr (s.cnt addr % 2 ^ 32)))) ∧
  (∀ (pid val k : Nat) (s t : State), t = s.regApply R.JER_GSEL (val % 2 ^ 32) → t.ruleSel = some k → 
      exec (.guardSelect pid val) s = .next (
      let r := storeGet guardDefault t.fab.guards k
      ((((((t.put F.JER_GBASE_LO_ADDR r.base).put F.JER_GBASE_LO_VALID (b2n r.valid)).put F.JER_GBASE_HI_ADDR
      (r.base / 2 ^ 20)).put F.JER_GLIMIT_LO_ADDR r.limit).put F.JER_GLIMIT_HI_ADDR (r.limit / 2 ^ 20)).put
      F.JER_GRD_MASK r.rd).put F.JER_GWR_MASK r.wr)) ∧
  (∀ (pid val k : Nat) (s : State), s.ruleSel = some k → bitOf val 0 = true → 
      exec (.guardCommit pid val) s =
      .next (s.setFab { s.fab with guards := storeSet guardDefault s.fab.guards k s.stagedRule })) ∧
  (∀ (pid n which val : Nat) (s t : State), n < 8 → t = s.regApply (effReg n which) (val % 2 ^ 32) → (t.on (F.JER_EFF_BASE_LO_EN n) = false ∨ t.effValid n = true) → 
      exec (.effectRangeWrite pid n which val) s = .next t) ∧
  (∀ (pid n which val : Nat) (s t : State), n < 8 → t = s.regApply (effReg n which) (val % 2 ^ 32) → t.on (F.JER_EFF_BASE_LO_EN n) = true → t.effValid n = false → 
      exec (.effectRangeWrite pid n which val) s = .next (t.raise F.JER_EVT_EFF_BAD)) ∧
  (∀ (write : Bool) (bar off : Nat) (s : State), exec (.barBadAccess write bar off) s =
      .next ((if write then s else s.emit (.barAbort bar off)).raise F.RND_EVT_HOST_ERR))

/-- Fabric accesses, read tags, the patrol scrub and the MEM opcodes complete. An access that its source may issue is
performed: a permitted write to memory stores its bytes and is answered OK, a permitted read with a tag returns the
bytes, a denied one is reported and answered NOTPERMIT, an unmapped one is counted and answered in error, and one
without a free tag waits. A freed tag goes to a waiting read, a read without response ends with TIMEOUT, a late
response is counted. The patrol scrubs at its interval. SCRUB_REGION and FILL_REGION perform a stitch, or end with
BADARG or NOTPERMIT. Which sources take tags and the status of a core's access fault are the model's choices (log 55). -/
def Obligations.MemoryCommandsComplete : Prop :=
  (∀ (a : Access) (s u : State), u = s.upset a.upsets → u.mayIssue a = true → a.src ≠ .bar0 ∧ a.src ≠ .host → 
      exec (.memoryAccess a) s = .next ((u.access a).1.reply a.src (u.access a).2)) ∧
  (∀ (a : Access) (s u : State), u = s.upset a.upsets → u.mayIssue a = true → a.src = .bar0 → 
      exec (.memoryAccess a) s = .next ((u.bar0 a).1.reply .bar0 (u.bar0 a).2)) ∧
  (∀ (a : Access) (s u : State), u = s.upset a.upsets → u.mayIssue a = true → a.src = .host → 
      exec (.memoryAccess a) s = .next ((u.bar2 a).1.reply .host (u.bar2 a).2)) ∧
  (∀ (a : Access) (s u : State) (t : Target) (lo hi : Nat), u = s.upset a.upsets → u.mayIssue a = true → a.src ≠ .bar0 ∧ a.src ≠ .host → a.write = true → a.amo = none → u.mapped true a.addr a.size = true → u.denied (u.pidOf a.src) true a.addr a.size = none → regionOf a.addr = some (t, lo, hi) → (memKind t).isSome = true ∧ t ≠ .queues → u.eccTorn a.addr a.size = false → 
      exec (.memoryAccess a) s =
      .next (((u.eccWrite a.addr a.size (u.pidOf a.src)).writeBytes a.addr (slice a.data 0 a.size)).answer a.src St.OK [])) ∧
  (∀ (a : Access) (s u : State) (t : Target) (lo hi tag : Nat) (m : Master), u = s.upset a.upsets → u.mayIssue a = true → a.write = false → a.amo = none → masterOf a.src = some m → u.tagNow m = some tag → u.mapped false a.addr a.size = true → u.denied (u.pidOf a.src) false a.addr a.size = none → regionOf a.addr = some (t, lo, hi) → (memKind t).isSome = true ∧ t ≠ .queues → u.eccBad a.addr a.size = false → 
      exec (.memoryAccess a) s =
      .next ((u.eccRead a.addr a.size (u.pidOf a.src) false).answer a.src St.OK (u.readBytes a.addr a.size))) ∧
  (∀ (a : Access) (s u : State) (x : Nat), u = s.upset a.upsets → u.mayIssue a = true → a.src ≠ .bar0 ∧ a.src ≠ .host → a.write = true → a.amo = none → u.mapped true a.addr a.size = true → u.denied (u.pidOf a.src) true a.addr a.size = some x → 
      exec (.memoryAccess a) s =
      .next ((u.deny a.src (u.pidOf a.src) (guardAt x) true x).answer a.src St.NOTPERMIT [])) ∧
  (∀ (a : Access) (s u : State), u = s.upset a.upsets → u.mayIssue a = true → a.src ≠ .bar0 ∧ a.src ≠ .host → a.write = true → a.amo = none → u.mapped true a.addr a.size = false → 
      exec (.memoryAccess a) s = .next (u.unmapped.answer a.src St.BADARG [])) ∧
  (∀ (m : Master) (x : Access × Nat) (tag : Nat) (s u : State), s.fab.setups = [] → (s.fab.waiting.find? (fun y => masterOf y.1.src == some m) = some x) → s.freeTag m = some tag → s.mayGrant m = true → (u = s.setFab { s.fab with turn := lastIn m s.fab.turn, waiting := dropFirst (fun y => masterOf y.1.src == some m) s.fab.waiting }) → (∀ n, x.1.src ≠ .round n) → 
      exec (.tagGrant m) s = .next ((u.perform x.1 x.2 tag).1.reply x.1.src (u.perform x.1 x.2 tag).2)) ∧
  (∀ (m : Master) (n : Nat) (x : Access × Nat) (d : Desc) (tag : Nat) (s u : State), s.fab.setups = [] → (s.fab.waiting.find? (fun y => masterOf y.1.src == some m) = some x) → s.freeTag m = some tag → s.mayGrant m = true → (u = s.setFab { s.fab with turn := lastIn m s.fab.turn, waiting := dropFirst (fun y => masterOf y.1.src == some m) s.fab.waiting }) → x.1.src = .round n → u.tagless n x.1 = some d → d.head = true → (u.readChecked x.1 x.2 tag).2 = none → 
      exec (.tagGrant m) s = .next ((u.readChecked x.1 x.2 tag).1.updDesc d fun _ => { d with wait := some tag })) ∧
  (∀ (tag : Nat) (t : TagUse) (s : State), (s.fab.tags.find? (fun t => t.tag == tag && decide (t.issued + 10000000 ≤ s.now)) = some t) → (∀ n, t.acc.src ≠ .round n) → 
      exec (.readTimeout tag) s = .next (
      let u := s.setFab { s.fab with ended := s.fab.ended ++ [tag], locked := s.fab.locked.filter fun x => x.2.2 != tag }
      let u := u.onPai fun p => { p with outs := dropFirst (fun o => o.tag == tag) p.outs }
      let u := u.putAddr F.JER_TMO_ADDR_LO_ADDR F.JER_TMO_ADDR_HI_ADDR t.acc.addr
      let u := ((u.put F.JER_TMO_INFO_PID t.pid).put F.JER_TMO_INFO_TAG t.tag).count C.JER_TMO
      ((u.raise F.JER_EVT_READ_TMO).dropTag t.tag).answer t.acc.src St.TIMEOUT (zeros (if t.acc.write then 0 else t.acc.size)))) ∧
  (∀ (tag : Nat) (t : TagUse) (s : State), (s.fab.tags.find? (fun t => t.tag == tag && decide (t.issued + 10000000 ≤ s.now)) = some t) → 
      exec (.readTimeout tag) s = .next (
      let u := s.setFab { s.fab with ended := s.fab.ended ++ [tag], locked := s.fab.locked.filter fun x => x.2.2 != tag }
      let u := u.onPai fun p => { p with outs := dropFirst (fun o => o.tag == tag) p.outs }
      (if u.unsure t then u else u.timedOut t).tagDone t St.TIMEOUT (errAnswer t.acc St.TIMEOUT).2)) ∧
  (∀ (tag : Nat) (s : State), s.fab.ended.contains tag = true → 
      exec (.lateResponse tag) s =
      .next (((s.setFab { s.fab with ended := dropFirst (· == tag) s.fab.ended }).count C.JER_LATE).raise F.JER_EVT_LATE)) ∧
  (∀ (upsets : List EccMark) (s u : State), u = s.upset upsets → u.on F.MEM_SCRUB_CTL_PATROL_EN = true → u.fab.patrolAt + 1000 * u.get F.MEM_SCRUB_INTERVAL_INTERVAL ≤ u.now → u.pow.logic = true → 
      exec (.patrolStitch upsets) s = .next u.patrolRun) ∧
  (∀ (r : Nat) (d : Desc) (s : State), s.cur r 0x02 1 = some d → memRegionOk d = true → s.denied (s.dPid d) false d.addr d.len = none → 
      exec (.scrubRegion r) s = .next (s.scrubStitch d)) ∧
  (∀ (r : Nat) (d : Desc) (s : State), s.cur r 0x02 2 = some d → memRegionOk d = true → s.denied (s.dPid d) true d.addr d.len = none → d.prog = 0 ∧ d.len ≤ 65536 → s.eccTorn d.addr d.len = false → 
      exec (.fillRegion r) s = .next (((s.eccWrite d.addr d.len (s.dPid d)).writeBytes d.addr
      (patternBytes (d.len / 4) (u32 d.raw 20))).lastStitch d St.OK d.len)) ∧
  (∀ (r : Nat) (d : Desc) (s : State), s.cur r 0x02 1 = some d → memRegionOk d = false → 
      exec (.scrubRegion r) s = .next (s.finish d St.BADARG 0)) ∧
  (∀ (r x : Nat) (d : Desc) (s : State), s.cur r 0x02 2 = some d → memRegionOk d = true → s.denied (s.dPid d) true d.addr d.len = some x → 
      exec (.fillRegion r) s = .next ((s.deny (.round d.round) (s.dPid d) (guardAt x) true x).finish d St.NOTPERMIT 0))

/-- PCIe completions, timeouts, link changes, function level resets and MSI-X unmasking complete. Data that completes a
plain host read frees its tag and answers it; data of a split completion waits for the rest; the data of an emulated
atomic operation also make it write. A completion in error, or none within CPL_TMO, counts and raises HOST_ERR, frees
the tag and answers in error; a completion for no outstanding request is late. A function level reset and a link loss
end the host's rounds, reset its configuration and MSI-X, take port H down and reclaim the host's semaphores; a link
loss also ends the outstanding requests. A link that trains shows what it negotiated and brings port H up; while it
stays up the host changes its configuration alone. Unmasking a vector with its pending bit set sends the message where
nothing else masks it. -/
def Obligations.HostLinkCommandsComplete : Prop :=
  (∀ (tag : Nat) (b g : Bytes) (t : TagUse) (s : State), s.hostTag tag = some t → t.emulate = false → g = slice (t.got ++ b) 0 (min t.acc.size (t.got.length + b.length)) → g.length = t.acc.size → 
      exec (.hostCompletion tag (.data b)) s = .next (s.tagDone t St.OK g)) ∧
  (∀ (tag : Nat) (b g : Bytes) (t : TagUse) (s : State), s.hostTag tag = some t → t.emulate = false → (∀ n, t.acc.src ≠ .round n) → g = slice (t.got ++ b) 0 (min t.acc.size (t.got.length + b.length)) → g.length = t.acc.size → 
      exec (.hostCompletion tag (.data b)) s = .next ((s.dropTag t.tag).answer t.acc.src St.OK g)) ∧
  (∀ (tag : Nat) (b g : Bytes) (t : TagUse) (s : State), s.hostTag tag = some t → g = slice (t.got ++ b) 0 (min t.acc.size (t.got.length + b.length)) → g.length ≠ t.acc.size → 
      exec (.hostCompletion tag (.data b)) s =
      .next (s.setFab { s.fab with tags := updFirst (· == t) (fun x => { x with got := g }) s.fab.tags })) ∧
  (∀ (tag : Nat) (b g : Bytes) (op : AmoOp) (t : TagUse) (s : State), s.hostTag tag = some t → t.acc.amo = some op ∧ t.emulate = true → s.linkIssues = true → g = slice (t.got ++ b) 0 (min t.acc.size (t.got.length + b.length)) → g.length = t.acc.size → 
      exec (.hostCompletion tag (.data b)) s = .next (((s.hostWrites t.acc.addr
      (amoBytes op t.acc.size g t.acc.data)).tagDone t St.OK g).unlocked)) ∧
  (∀ (tag : Nat) (t : TagUse) (s u : State), s.hostTag tag = some t → (u = (if s.unsure t then s else s.hostErr)) → 
      exec (.hostCompletion tag .abort) s = .next ((u.tagDone t St.HOST_ABORT (errAnswer t.acc St.HOST_ABORT).2).unlock t) ∧
      exec (.hostCompletion tag .poisoned) s = .next ((u.tagDone t St.MEDIA (errAnswer t.acc St.MEDIA).2).unlock t) ∧
      exec (.hostCompletion tag .timeout) s = .next ((u.tagDone t St.TIMEOUT (errAnswer t.acc St.TIMEOUT).2).unlock t)) ∧
  (∀ (tag : Nat) (t : TagUse) (s : State), s.hostTag tag = some t → t.emulate = false → (∀ n, t.acc.src ≠ .round n) → 
      exec (.hostCompletion tag .abort) s = .next ((s.hostErr.dropTag t.tag).answer t.acc.src St.HOST_ABORT (zeros (if t.acc.write then 0 else t.acc.size)))) ∧
  (∀ (tag : Nat) (c : HostCpl) (s : State), s.hostTag tag = none → s.fab.ended.contains tag = true → 
      exec (.hostCompletion tag c) s =
      .next (((s.setFab { s.fab with ended := dropFirst (· == tag) s.fab.ended }).count C.JER_LATE).raise F.JER_EVT_LATE)) ∧
  (∀ (tag : Nat) (t : TagUse) (s u : State), s.hostTag tag = some t → t.issued + 100000 * s.get F.RND_CTL_CPL_TMO ≤ s.now → (u = (if s.unsure t then s else s.hostErr)) → 
      exec (.hostCplTimeout tag) s = .next ((u.tagDone t St.TIMEOUT (errAnswer t.acc St.TIMEOUT).2).unlock t)) ∧
  (∀ (s : State), s.on F.RND_LINK_UP = true → 
      exec .functionLevelReset s = .next (
      let u := forEach (List.range 256) (fun n t => if t.rOwner n = 2 then t.roundOff n else t) s
      let u := u.setRnd { u.rnd with msixTbl := [], msixPend := 0, pci := PciCfg.reset }
      ((u.swLinkDown 20).reclaimAll 2).raise F.RND_EVT_FLR)) ∧
  (∀ (s : State), s.on F.RND_LINK_UP = true → 
      exec .pcieLinkDown s = .next (
      let u := (s.put F.RND_LINK_UP 0).hostGone
      (forEach (u.fab.tags.filter TagUse.toHost) (fun t v => v.hostLost t) u).raise F.RND_EVT_LINK_DOWN)) ∧
  (∀ (speed width mps mrrs : Nat) (host : HostCfg) (s : State), (s.on F.RND_LINK_UP = false ∨ s.swState 20 ≠ 1) → s.pow.logic = true → 
      exec (.pcieLinkUp speed width mps mrrs host) s = .next (
      let u := ((s.put F.RND_LINK_SPEED speed).put F.RND_LINK_WIDTH width).put F.RND_LINK_UP 1
      let u := (u.put F.RND_LINK_MPS (min mps 2)).put F.RND_LINK_MRRS (min mrrs 5)
      let u := (u.put F.RND_LINK_ATOMIC_EN (b2n host.atomicEn)).onRnd fun r => { r with pci := host.pci }
      ((forEach (List.range 64) (fun v t => t.msixFlush v) u).swLinkUp 20).raise F.RND_EVT_LINK_UP)) ∧
  (∀ (speed width mps mrrs : Nat) (host : HostCfg) (s : State), s.on F.RND_LINK_UP = true ∧ s.swState 20 = 1 → s.pow.logic = true → 
      exec (.pcieLinkUp speed width mps mrrs host) s = .next (
      let u := (s.put F.RND_LINK_MPS (min mps 2)).put F.RND_LINK_MRRS (min mrrs 5)
      let u := (u.put F.RND_LINK_ATOMIC_EN (b2n host.atomicEn)).onRnd fun r => { r with pci := host.pci }
      forEach (List.range 64) (fun v t => t.msixFlush v) u)) ∧
  (∀ (vec : Nat) (s u : State), vec < 64 → u = s.setRnd { s.rnd with msixTbl := storeSet msixDefault s.rnd.msixTbl (4 * vec + 3) (BitVec.ofNat 32 (clearBit (s.msixWord (4 * vec + 3)) 0)) } → 
      exec (.msixUnmask vec) s = .next (if bitOf u.rnd.msixPend vec && !u.msixMasked vec then
      (u.setRnd { u.rnd with msixPend := clearBit u.rnd.msixPend vec }).msixMessage vec else u))

/-- Doorbells, round control writes and cancels complete with the effects of their rules. An accepted doorbell records its
index, a completion doorbell that frees a slot ends a stall, and a refused one raises DB_BAD. A write of CTL with EN
sets the other fields and then enables the round, or raises CFG_BAD; one without EN frogs the unstarted descriptors
and stops stitched ones. A base write of a stopped round resets its indices. A cancel takes the oldest started or else
fetched descriptor with the tag, and shows ACCEPTED, NOT_FOUND or NOTPERMIT. -/
def Obligations.RoundRegisterCommandsComplete : Prop :=
  (∀ (pid n val : Nat) (s : State), s.rMay pid n = true → val < s.rSize n → 
      exec (.doorbellCmd pid n val) s = .next (s.put (F.RND_DB_CMD_INDEX n) val)) ∧
  (∀ (pid n val : Nat) (s : State), s.bellOk pid n val = false → 
      exec (.doorbellCmd pid n val) s = .next (s.raise F.RND_EVT_DB_BAD) ∧
      exec (.doorbellCpl pid n val) s = .next (s.raise F.RND_EVT_DB_BAD)) ∧
  (∀ (pid n val : Nat) (s u : State), s.bellOk pid n val = true → u = s.put (F.RND_DB_CPL_INDEX n) val → 
      exec (.doorbellCpl pid n val) s = .next (if u.freeSlots n = 0 then u.fullCheck n else u.put (F.RND_R_STAT_STALLED n) 0)) ∧
  (∀ (pid n val : Nat) (s u : State), s.rMay pid n = true → u = s.ctlFields n val → u.rEn n = false → u.enableBad n = false → 
      exec (.roundEnable pid n val) s = .next ((u.put (F.RND_R_CTL_EN n) 1).put (F.RND_R_STAT_RUN n) 1)) ∧
  (∀ (pid n val : Nat) (s u : State), s.rMay pid n = true → u = s.ctlFields n val → u.rEn n = false → u.enableBad n = true → 
      exec (.roundEnable pid n val) s = .next (u.raise F.RND_EVT_CFG_BAD)) ∧
  (∀ (pid n val : Nat) (s u v : State), s.rMay pid n = true → u = s.ctlFields n val → u.rEn n = true → v = (u.put (F.RND_R_CTL_EN n) 0).frogRound n → 
      exec (.roundDisable pid n val) s = .next ((forEach (v.started n)
      (fun d t => if d.isStitched && d.fin.isNone then
      (if d.lastBegun then t.updDesc d fun e => { e with stopped := true } else t.stopStitched d) else t) v).runFalls n)) ∧
  (∀ (pid n which val : Nat) (s : State), s.rMay pid n = true → s.rEn n = false ∧ s.rRun n = false → 
      exec (.roundBaseWrite pid n which val) s = .next ((if which = 4 then s.put (F.RND_R_CTL_SIZE n) val
      else s.regApply (baseReg n which) val).resetIdx n)) ∧
  (∀ (pid val : Nat) (d : Desc) (s : State), bitOf val 31 = true → s.rMay pid (val % 256) = true → (s.started (val % 256)).find? (·.tag == s.get F.RND_CANCEL_TAG_TAG) = some d → 
      exec (.cancel pid val) s = .next ((s.cancelStarted d).cancelStat (val % 256) 1)) ∧
  (∀ (pid val : Nat) (d : Desc) (s : State), bitOf val 31 = true → s.rMay pid (val % 256) = true → (s.started (val % 256)).find? (·.tag == s.get F.RND_CANCEL_TAG_TAG) = none → ((s.ahead (val % 256)).find? (fun d => !d.raw.isEmpty && d.tag == s.get F.RND_CANCEL_TAG_TAG) = some d) → d.cancelled = false → 
      exec (.cancel pid val) s = .next ((s.cancelAhead d).cancelStat (val % 256) 1)) ∧
  (∀ (pid val : Nat) (s : State), bitOf val 31 = true → s.rMay pid (val % 256) = true → (s.started (val % 256)).find? (·.tag == s.get F.RND_CANCEL_TAG_TAG) = none → ((s.ahead (val % 256)).find? (fun d => !d.raw.isEmpty && d.tag == s.get F.RND_CANCEL_TAG_TAG) = none) → 
      exec (.cancel pid val) s = .next (s.cancelStat (val % 256) 2)) ∧
  (∀ (pid val : Nat) (s : State), bitOf val 31 = true → s.rMay pid (val % 256) = false → 
      exec (.cancel pid val) s = .next (s.cancelStat (val % 256) 3))

/-- Run-ahead, the start of a descriptor, its stitches, its final completion and moderation complete. A fetch ahead reads
the source buffer that is due, or else the next descriptor, where run-ahead may; with no place free the round waits
for one. The round served starts the descriptor at HEAD, fetched ahead or read now; a cancelled one completes
CANCELLED, one with a bad header BADARG. A stitch of the stitched descriptor under way is performed; a last stitch may
only begin. The final completion of the oldest started descriptor is written in slot order once settled, counted for
moderation where it interrupts or failed; with no free slot the round stalls with CPL_FULL; with the link down a
host's round gets no completion, as its descriptor is frogged. A round whose pending completions reach their count or
time signals. -/
def Obligations.RoundEngineCommandsComplete : Prop :=
  (∀ (n : Nat) (upsets : List EccMark) (d : Desc) (s u : State), u = (s.upset upsets).performSetups → u.mayRun n = true ∧ u.on (F.RND_R_CTL_RA_OFF n) = false → (u.ahead n).find? u.bufferDue = some d → u.stagingRoom d.len = true → 
      exec (.runaheadFetch n upsets) s = .next (u.bufferAhead d)) ∧
  (∀ (n i : Nat) (upsets : List EccMark) (s u : State), u = (s.upset upsets).performSetups → u.mayRun n = true ∧ u.on (F.RND_R_CTL_RA_OFF n) = false → (u.ahead n).find? u.bufferDue = none → u.nextAhead n = some i → u.touchesEffect (u.slotAddr n i) 64 = false ∧ u.stagingRoom 1 = true → 
      exec (.runaheadFetch n upsets) s = .next (if u.mayPlace n then (u.takePlace n true).descAhead n i else u.takePlace n false)) ∧
  (∀ (n : Nat) (upsets : List EccMark) (d : Desc) (s u : State), u = (s.upset upsets).performSetups → u.served n = true → u.aheadAt n (u.rHead n) = some d → d.cancelled = false ∧ d.wait = none ∧ d.fence = false → u.badHeader d = false → (d.readsBuf && d.src.isNone && decide (0 < d.len)) = false → 
      exec (.descriptorStart n upsets) s = .next (u.startNow d none)) ∧
  (∀ (n : Nat) (upsets : List EccMark) (d : Desc) (s u : State), u = (s.upset upsets).performSetups → u.served n = true → u.aheadAt n (u.rHead n) = some d → d.cancelled = false ∧ d.wait = none ∧ d.fence = false → u.badHeader d = true → 
      exec (.descriptorStart n upsets) s = .next (u.startNow d (some ⟨St.BADARG, 0⟩))) ∧
  (∀ (n : Nat) (upsets : List EccMark) (d : Desc) (s u : State), u = (s.upset upsets).performSetups → u.served n = true → u.aheadAt n (u.rHead n) = some d → d.cancelled = true ∧ d.wait = none ∧ d.head = true → 
      exec (.descriptorStart n upsets) s = .next (u.startNow d (some ⟨St.CANCELLED, 0⟩))) ∧
  (∀ (n : Nat) (upsets : List EccMark) (s u : State), u = (s.upset upsets).performSetups → u.served n = true → u.aheadAt n (u.rHead n) = none → u.linkGone (u.slotAddr n (u.rHead n)) = false → 
      exec (.descriptorStart n upsets) s = .next (
      let d := { Desc.fresh n (u.rHead n) [] with head := true }
      (((u.takePlace n true).setDescs (u.rnd.descs ++ [d])).headRead d).startIfRead n (u.rHead n))) ∧
  (∀ (n : Nat) (d : Desc) (c : Cpl) (l : List Desc) (s u v : State), u = s.performSetups → u.started n = d :: l → d.fin = some c → u.writesOpen n = false → u.cplGone n = false ∧ u.freeSlots n ≠ 0 → v = (u.putCpl n d.tag c.status d.stitches c.result) → 
      exec (.completionWrite n) s = .next (
      let v := v.setDescs (dropFirst (fun e => e.same d) v.rnd.descs)
      let v := if d.interrupt || c.status != St.OK then v.modCount n else v
      (v.rungOf d c.status).runFalls n)) ∧
  (∀ (n : Nat) (d : Desc) (c : Cpl) (l : List Desc) (s u : State), u = s.performSetups → u.started n = d :: l → d.fin = some c → u.writesOpen n = false → u.cplGone n = false ∧ u.freeSlots n = 0 ∧ u.on (F.RND_R_STAT_STALLED n) = false → 
      exec (.completionWrite n) s = .next ((u.put (F.RND_R_STAT_STALLED n) 1).raise F.RND_EVT_CPL_FULL)) ∧
  (∀ (n : Nat) (d : Desc) (c : Cpl) (l : List Desc) (s u : State), u = s.performSetups → u.started n = d :: l → d.fin = some c → u.writesOpen n = false → u.cplGone n = true → 
      exec (.completionWrite n) s = .next (u.frogCpl d)) ∧
  (∀ (r : Nat) (s : State), s.modPend r ≠ 0 → (max (s.get (F.RND_R_MOD_COUNT r)) 1 ≤ s.modPend r ∨ s.get (F.RND_R_MOD_TIME r) ≤ s.now / 1000 - s.modFirst r) → 
      exec (.moderationTimer r) s = .next ((s.signalRound r).setModPend r 0)) ∧
  (∀ (r : Nat) (d : Desc) (s u : State), s.stitching r = some d → s.othersServed r = true → u = s.servedNow r → 
      exec (.stitch r false) s = .next (u.nextStitch d)) ∧
  (∀ (r : Nat) (d : Desc) (s u : State), s.stitching r = some d → s.othersServed r = true → u = s.servedNow r → d.lastBegun = false → (u.nextStitch d).settled d = true → 
      exec (.stitch r true) s = .next (u.updDesc d fun e => { e with lastBegun := true }))

/-- Matchings, multicast residues, ageing, resequencing, hold expiry and ply accumulation complete. A matching runs unless
the module dozes. Every frame whose residue is due is dropped and counted. An aged learned entry is removed. A
resequencer whose oldest held frame has waited RESEQ_US skips to the lowest held number; a recovery stream idle for
RESET_MS clears and raises CB_RESET. A port whose HOLD has run out flushes and goes DOWN. A contribution that reaches
the accumulator leaves its transit and is summed or dropped; an open block at its window's end is emitted. -/
def Obligations.SwitchEventsComplete : Prop :=
  (∀ (s : State), s.get F.WAK_STAT_STATE ≠ 2 → 
      exec .matching s = .next s.runMatching) ∧
  (∀ (s : State), exec .mcResidueTimeout s = .next (forEach (s.swc.frames.filter s.residueDue) State.dropResidue s)) ∧
  (∀ (idx : Nat) (e : FdbEnt) (s : State), s.on F.SWC_CTL_AGE_EN = true → e ∈ s.swc.fdb → e.idx = idx ∧ e.static = false ∧ e.seen + 1000000000 * s.get F.SWC_AGE_AGE_S ≤ s.now → 
      exec (.ageExpiry idx) s = .next (s.onSwc fun w => { w with fdb := w.fdb.filter fun x => x.idx != idx })) ∧
  (∀ (h t : Nat) (e : StreamEnt) (s : State), s.stream h = some e → s.oldestHeld h = some t → t + 1000 * e.reseqUs ≤ s.now → 
      exec (.cbReseqTimeout h) s = .next (s.skipToHeld h)) ∧
  (∀ (h : Nat) (e : StreamEnt) (s : State), s.stream h = some e → 2 ≤ e.role → (s.cbOf h).started = true → (s.cbOf h).lastAt + 1000000 * e.resetMs ≤ s.now → 
      exec (.cbResetTimeout h) s = .next ((s.cbClear h).raise F.SWC_EVT_CB_RESET)) ∧
  (∀ (p : Nat) (s : State), s.swState p = 2 → storeGet cntDefault s.swc.holdEnd p ≤ s.now → 
      exec (.holdExpire p) s = .next (s.holdExpire p)) ∧
  (∀ (k n : Nat) (b : Bytes) (s : State), s.swc.transit[k]? = some (n, b) → u8 b 0 = 0x21 → 
      exec (.plyContribution k) s =
      .next ((s.onSwc fun w => { w with transit := w.transit.eraseIdx k }).plyFrameIn b)) ∧
  (∀ (k : Nat) (s : State), (s.plyAcc k).isOpen = true → before s.timNow (((s.plyAcc k).time + 1000 * (s.plyAcc k).ent.window) % 2 ^ 32) = false → 
      exec (.plyDeadline k) s = .next (s.plyEmit k))

/-- The opcodes of the switch core complete on well-formed descriptors. FDB_ADD stores the entry at the place of the one
it replaces or at a way of its bucket, and returns the place; FDB_DEL removes the entry and FDB_LOOKUP returns it, or
both end with the no-entry status. FDB_FLUSH removes the hit entries among the next 1,024 in a stitch. VLAN_SET stores
or removes a VLAN entry, STREAM_SET binds a handle that no other has, STREAM_CLEAR clears one. FRAME_SEND hands the
frame to the switch core, and ends DROPPED where admission or an ingress check refuses it, or queues it at the named
port and waits; FRAME_RECV waits for a frame. Malformed arguments end with BADARG. -/
def Obligations.SwitchOpcodesComplete : Prop :=
  (∀ (r i : Nat) (d : Desc) (s : State), s.cur r 4 1 = some d → d.noBuf = true → d.fdbFid < 4096 ∧ u32 d.raw 28 < 2 ^ 24 ∧ u8 d.raw 32 < 4 → ((match s.fdbFind d.fdbMac d.fdbFid with | some e => some e.idx | none => s.fdbWay (fdbBucket d.fdbMac d.fdbFid)) = some i) → 
      exec (.fdbAdd r) s = .next ((s.fdbPut ⟨i, d.fdbMac, d.fdbFid, u32 d.raw 28, bitOf (u8 d.raw 32) 0,
      bitOf (u8 d.raw 32) 1, s.now⟩).finish d St.OK i)) ∧
  (∀ (r : Nat) (d : Desc) (e : FdbEnt) (s : State), s.cur r 4 2 = some d → d.noBuf = true → s.fdbFind d.fdbMac d.fdbFid = some e → 
      exec (.fdbDel r) s = .next ((s.fdbDrop e.idx).finish d St.OK 0)) ∧
  (∀ (r : Nat) (d : Desc) (e : FdbEnt) (s : State), s.cur r 4 3 = some d → d.noBuf = true → s.fdbFind d.fdbMac d.fdbFid = some e → 
      exec (.fdbLookup r) s = .next (s.finish d St.OK (e.ports + 2 ^ 32 * (b2n e.static + 2 * b2n e.discard) +
      2 ^ 48 * min 65535 ((s.now - e.seen) / 1000000000)))) ∧
  (∀ (r : Nat) (d : Desc) (s : State), s.cur r 4 4 = some d → d.noBuf = true → 
      exec (.fdbFlush r) s = .next (
      let hit := fun (e : FdbEnt) => decide (d.prog ≤ e.idx) && decide (e.idx < d.prog + 1024) && flushHits d e
      let u := s.onSwc fun w => { w with fdb := w.fdb.filter fun e => !hit e }
      let acc := d.acc + (s.swc.fdb.filter hit).length + 2 ^ 32 * 1024
      if 32768 ≤ d.prog + 1024 then u.lastStitch d St.OK acc else u.stitched d (d.prog + 1024) acc)) ∧
  (∀ (r : Nat) (d : Desc) (s : State), s.cur r 4 5 = some d → d.noBuf = true → 0 < u16 d.raw 20 ∧ u16 d.raw 20 < 4095 ∧ u16 d.raw 22 < 4096 ∧ u32 d.raw 24 < 2 ^ 24 ∧ u32 d.raw 28 < 2 ^ 24 → 
      exec (.vlanSet r) s = .next ((s.onSwc fun w => { w with vlans := (storeSet noneDefault w.vlans (u16 d.raw 20) (if u32 d.raw 24 = 0 then none else some ⟨u16 d.raw 22, u32 d.raw 24, u32 d.raw 28⟩)) }).finish d St.OK 0)) ∧
  (∀ (r : Nat) (d : Desc) (s : State), s.cur r 4 6 = some d → d.noBuf = true → u16 d.raw 20 < 1024 → d.streamEnt.ok = true → s.streamDup (u16 d.raw 20) d.streamEnt = false → 
      exec (.swcStreamSet r) s = .next ((s.putStream (u16 d.raw 20) (some d.streamEnt)).finish d St.OK 0)) ∧
  (∀ (r : Nat) (d : Desc) (s : State), s.cur r 4 7 = some d → d.noBuf = true → u16 d.raw 20 < 1024 → 
      exec (.streamClear r) s = .next (((s.putStream (u16 d.raw 20) none).setCb (u16 d.raw 20) (cbDefault 0)).finish d St.OK 0)) ∧
  (∀ (r : Nat) (d : Desc) (s : State), s.cur r 4 8 = some d → 60 ≤ d.len ∧ d.len ≤ 9212 ∧ u8 d.raw 20 = 0 ∧ u8 d.raw 21 = 0xFF ∧ u8 d.raw 22 = 0xFF → (s.swIngress ⟨s.swcPort d, d.buf, none, none, []⟩).2 ≠ .refused → 
      exec (.frameSend r) s = .next ((s.swIngress ⟨s.swcPort d, d.buf, none, none, []⟩).1.finish d St.OK s.timNow)) ∧
  (∀ (r : Nat) (d : Desc) (s : State), s.cur r 4 8 = some d → 60 ≤ d.len ∧ d.len ≤ 9212 ∧ u8 d.raw 20 = 0 ∧ u8 d.raw 21 = 0xFF ∧ u8 d.raw 22 = 0xFF → (s.swIngress ⟨s.swcPort d, d.buf, none, none, []⟩).2 = .refused → 
      exec (.frameSend r) s = .next (s.finish d 0x503 0)) ∧
  (∀ (r o c : Nat) (d : Desc) (f : SwFrame) (s : State), s.cur r 4 8 = some d → 60 ≤ d.len ∧ d.len ≤ 9212 ∧ u8 d.raw 20 < 2 ∧ u8 d.raw 21 = o ∧ o < 20 ∧ u8 d.raw 22 = c ∧ c < 8 → s.swState o ≠ 0 ∧ s.silent = false → s.queueTakes c (cellsOf (d.len + 4)) o = true ∧ d.len + 4 ≤ s.get (F.PRT_MODE_MAX_LEN o) → (f = { SwFrame.new (s.swcPort d) c d.buf (d.len + 4) 4096 0 with send := some (d.round, d.slot), tsTag := (if bitOf (u8 d.raw 20) 0 then some (u16 d.raw 24) else none), stream := s.streamOf (be48 d.buf 0) (be48 d.buf 6) (s.entryVid ⟨s.swcPort d, d.buf, some c, none, []⟩) }) → 
      exec (.frameSend r) s = .next ((s.storeFrame f d.buf [o]).1.updDesc d fun e => { e with running := true, acc := s.timNow })) ∧
  (∀ (r : Nat) (d : Desc) (s : State), s.cur r 4 9 = some d → 
      exec (.frameRecv r) s = .next (s.hold d)) ∧
  (∀ (r : Nat) (d : Desc) (s : State), d.noBuf = false → 
      (s.cur r 4 1 = some d → exec (.fdbAdd r) s = .next (s.finish d St.BADARG 0)) ∧
      (s.cur r 4 2 = some d → exec (.fdbDel r) s = .next (s.finish d St.BADARG 0)) ∧
      (s.cur r 4 3 = some d → exec (.fdbLookup r) s = .next (s.finish d St.BADARG 0)) ∧
      (s.cur r 4 4 = some d → exec (.fdbFlush r) s = .next (s.finish d St.BADARG 0)) ∧
      (s.cur r 4 5 = some d → exec (.vlanSet r) s = .next (s.finish d St.BADARG 0)) ∧
      (s.cur r 4 6 = some d → exec (.swcStreamSet r) s = .next (s.finish d St.BADARG 0)) ∧
      (s.cur r 4 7 = some d → exec (.streamClear r) s = .next (s.finish d St.BADARG 0)))

/-- Frame arrivals, PAUSE and PFC, transmission, mode writes and link events of a port complete. On a port whose link is
UP a frame arrival runs the receive checks of its kind, and PAUSE and PFC frames are counted and set the pause times.
A pause that has run out ends; a port below its refresh point sends PAUSE again. Transmission starts the frame the
port picks and a frame whose bits have all left is counted, or leaves stomped where a cell of it could not be read; a
port that is not UP still ends a held remainder. A MODE write with ENABLE switches the port's link process on, without
it off, unless the pair holds the port. Auto-negotiation completes into UP or shows MODE_ERR and starts again after 1
s; a link without it comes up; a lost link starts over. A verification without an answer tries again up to three times
and then fails. -/
def Obligations.PortEventsComplete : Prop :=
  (∀ (p : Nat) (f : RxFrame) (s : State), s.isUp p = true → 
      exec (.frameReceive p f) s = .next (match f.kind with
      | .frame => s.rxFrame p f
      | .verify => if p < 20 then s.emit (.respond p) else s
      | .respond => if p < 20 then s.verified p else s
      | .assyErr => if p < 20 then s.count (C.PRT_RX_ASSY_ERR p) else s
      | .smdErr => if p < 20 then s.count (C.PRT_RX_SMD_ERR p) else s
      | .lost => (s.stompBad p f.bytes).linkLost p)) ∧
  (∀ (p dst q : Nat) (s : State), s.isUp p = true → 
      exec (.pauseReceive p dst q) s = .next
      ((((s.count (C.PRT_RX_OK p)).count (C.PRT_RX_OCTETS p) 64).count (C.PRT_RX_CTL p)).rxPause p dst q)) ∧
  (∀ (p vec : Nat) (times : List Nat) (s : State), s.isUp p = true → 
      exec (.pfcReceive p vec times) s = .next
      ((((s.count (C.PRT_RX_OK p)).count (C.PRT_RX_OCTETS p) 64).count (C.PRT_RX_CTL p)).rxPfc p vec times)) ∧
  (∀ (p : Nat) (s : State), p < 20 → s.on (F.PRT_STAT_PAUSED p) = true → storeGet cntDefault s.prt.pauseEnd p ≤ 10 * s.now → 
      exec (.pauseExpiry p 8) s = .next ((s.setPauseEnd p 0).put (F.PRT_STAT_PAUSED p) 0)) ∧
  (∀ (p k : Nat) (s : State), p < 20 → k < 8 → s.pfcEnd p k ≠ 0 ∧ s.pfcEnd p k ≤ 10 * s.now → 
      exec (.pauseExpiry p k) s =
      .next ((s.setPfcEnd (p * 8 + k) 0).put (F.PRT_STAT_PFC_PAUSED p) ((s.setPfcEnd (p * 8 + k) 0).pfcMask p))) ∧
  (∀ (p : Nat) (s : State), p < 20 → s.isUp p = true → 
      exec (.pauseRefresh p) s = .next (forEach (s.pauseClasses p) (State.refreshClass p) s)) ∧
  (∀ (p c : Nat) (upsets : List EccMark) (r s u : State), s = r.upset upsets → s.isUp p = true → (((s.cbsUpdate p).cutCur p).line p).cur.isSome = false → u = forEach (List.range 8) (State.dropNever p) ((s.cbsUpdate p).cutCur p) → u.pick p = some c → u.canResume p c = false → 
      exec (.txFrameStart p upsets) r = .next (u.startNew p c)) ∧
  (∀ (p c : Nat) (upsets : List EccMark) (t : TxCur) (r s u : State), s = r.upset upsets → s.isUp p = true → (((s.cbsUpdate p).cutCur p).line p).cur.isSome = false → u = forEach (List.range 8) (State.dropNever p) ((s.cbsUpdate p).cutCur p) → u.pick p = some c → u.canResume p c = true → (u.line p).rest = some t → 
      exec (.txFrameStart p upsets) r = .next
      (((u.cbsUpdate p).setLine p { u.line p with cur := some { t with start := u.now }, rest := none }).count (C.PRT_TX_FRAG p))) ∧
  (∀ (p : Nat) (upsets : List EccMark) (t : TxCur) (r s : State), s = r.upset upsets → s.isUp p = false ∧ p < 20 → (s.line p).cur = none → ((List.range 8).any (fun c => s.canResume p c) = true) → (s.line p).rest = some t → 
      exec (.txFrameStart p upsets) r = .next
      (((s.cbsUpdate p).setLine p { s.line p with cur := some { t with start := s.now }, rest := none }).count (C.PRT_TX_FRAG p))) ∧
  (∀ (p : Nat) (upsets : List EccMark) (t : TxCur) (r s : State), s = r.upset upsets → (s.line p).cur = some t → s.lineTime p (s.lineLen p t.frame - t.sent + 8) ≤ 10 * (s.now - t.start) → 
      exec (.txFrameEnd p upsets) r = .next
      (let r := ((s.cbsUpdate p).setLine p { s.line p with cur := none }).readCells t.frame 1 (cellsOf t.frame.len - 1)
      if r.2 then (r.1.sentStomped p (s.lineBytes p t.frame)).endSend t.frame.send 0x503 0 else r.1.sentOk p t)) ∧
  (∀ (pid p val : Nat) (s : State), s.pairHolds p = false → p < 21 → 
      exec (.macEnable pid p val) s = .next ((s.modeFields p (setBit val 31)).macOn p) ∧
      exec (.macDisable pid p val) s = .next ((s.modeFields p (clearBit val 31)).macOff p)) ∧
  (∀ (p : Nat) (s : State), p < 21 → s.linkOf p = 2 → s.anegAt p = 0 → 
      exec (.anegComplete p true) s = .next (s.linkUp p) ∧
      exec (.anegComplete p false) s = .next ((s.onPrt fun t => { t with anegAt := storeSet cntDefault t.anegAt p (s.now + 1) }).raise
      (F.PRT_EVT_MODE_ERR p))) ∧
  (∀ (p : Nat) (s : State), p < 21 → s.linkOf p = 2 → s.anegAt p ≠ 0 → s.anegAt p + 1000000000 ≤ s.now + 1 → 
      exec (.anegRestartTimeout p) s = .next
      ((s.onPrt fun t => { t with anegAt := storeSet cntDefault t.anegAt p 0 }).emit (.aneg p))) ∧
  (∀ (p : Nat) (s : State), p < 21 → s.linkOf p = 1 → s.get (F.PRT_MODE_MODE p) ≤ 1 → 
      exec (.linkLockTimer p) s = .next (s.linkUp p)) ∧
  (∀ (p : Nat) (s : State), s.isUp p = true → 
      exec (.linkLoss p) s = .next (
      if p = 20 then (((s.leaveUp p).loseFrames p).linkStart p).spFlush else ((s.leaveUp p).loseFrames p).linkStart p)) ∧
  (∀ (p : Nat) (s : State), p < 20 → s.get (F.PRT_STAT_VERIFY p) = 1 → storeGet cntDefault s.prt.verAt p + 1000000 * s.get (F.PRT_PREEMPT_VERIFY_MS p) ≤ s.now → 
      exec (.preemptVerifyTimeout p) s = .next (
      if s.verTries p < 3 then s.verifyTry p (s.verTries p + 1)
      else (s.put (F.PRT_STAT_VERIFY p) 3).raise (F.PRT_EVT_VERIFY_FAIL p)))

/-- Gate changes, gate lists, stream filters and meters, and the management port complete. A running gate list passes to
its next entry, and to a loaded list when its base time is reached; GATE_CTL enables a port's list, taken up in phase.
GCL_LOAD and QCI_GATE_LOAD store a well-formed list as the one to switch to, QCI_FILTER_SET and QCI_METER_SET store a
filter and a meter, QCI_READ returns a filter's five counters and clears them, SP_SEND queues a frame at the
management port and waits, SP_RECV waits for a frame. Port 20 and malformed arguments end with their statuses. -/
def Obligations.GateAndPortOpsComplete : Prop :=
  (∀ (p : Nat) (s : State), p < 20 → s.gateRuns p = true → 
      exec (.gateChange p) s = .next (s.gateStep p)) ∧
  (∀ (p : Nat) (q : GateList) (s : State), p < 20 → (s.gate p).pend = some q → s.gateRuns p = true → s.reached q.base = true → 
      exec (.gateSwitch p) s = .next (((s.setGate p ⟨some q, (q.seek q.base s.timNow).1, (q.seek q.base s.timNow).2, false, none⟩).showGate p).raise
      (F.PRT_EVT_GATE_SWITCH p))) ∧
  (∀ (pid p val : Nat) (s : State), p < 20 → 
      exec (.gateEnable pid p val) s = .next (s.writeGateCtl p val)) ∧
  (∀ (g : Nat) (s : State), g < 128 → (s.gate (32 + g)).pend = none → 
      exec (.qciGateChange g) s = .next (s.gateStep (32 + g))) ∧
  (∀ (g : Nat) (q : GateList) (s : State), g < 128 → (s.gate (32 + g)).pend = some q → s.reached q.base = true → 
      exec (.qciGateChange g) s = .next (s.gateSwitch (32 + g))) ∧
  (∀ (r : Nat) (d : Desc) (s : State), s.cur r 5 1 = some d → u8 d.raw 20 < 20 → s.gateListOk d false = true → 
      exec (.gclLoad r) s = .next (s.gateLoad (u8 d.raw 20) d)) ∧
  (∀ (r : Nat) (d : Desc) (s : State), s.cur r 5 1 = some d → 
      (u8 d.raw 20 = 20 → exec (.gclLoad r) s = .next (s.finish d St.WRONG_PORT 0)) ∧
      (20 < u8 d.raw 20 → exec (.gclLoad r) s = .next (s.finish d St.BADARG 0)) ∧
      (u8 d.raw 20 < 20 → s.gateListOk d false = false → exec (.gclLoad r) s = .next (s.finish d St.BADARG 0))) ∧
  (∀ (r : Nat) (d : Desc) (s : State), s.cur r 5 3 = some d → u8 d.raw 20 < 128 → s.gateListOk d true = true → 
      exec (.qciGateLoad r) s = .next (s.gateLoad (32 + u8 d.raw 20) d)) ∧
  (∀ (r : Nat) (d : Desc) (s : State), s.cur r 5 2 = some d → d.noBuf = true → u16 d.raw 20 < 256 ∧ idxOk 1024 0xFFFF (u16 d.raw 22) = true ∧ idxOk 8 0xFF (u8 d.raw 24) = true ∧ idxOk 128 0xFF (u8 d.raw 25) = true → idxOk 256 0xFFFF (u16 d.raw 28) = true ∧ idxOk 8 0xFF (u8 d.raw 30) = true ∧ u8 d.raw 31 < 4 → 
      exec (.qciFilterSet r) s = .next ((s.onPrt fun t => { t with filters := (storeSet filterDefault t.filters (u16 d.raw 20)
      ⟨bitOf (u8 d.raw 31) 0, u16 d.raw 22, u8 d.raw 24, u8 d.raw 25, u16 d.raw 26, u16 d.raw 28, u8 d.raw 30, bitOf (u8 d.raw 31) 1, false⟩) }).finish d St.OK 0)) ∧
  (∀ (r : Nat) (d : Desc) (s : State), s.cur r 5 4 = some d → d.noBuf = true → u16 d.raw 20 < 256 ∧ u8 d.raw 40 < 16 → 
      exec (.qciMeterSet r) s = .next ((s.setMeter (u16 d.raw 20) ⟨u32 d.raw 24, u32 d.raw 28, u32 d.raw 32, u32 d.raw 36,
      bitOf (u8 d.raw 40) 0, bitOf (u8 d.raw 40) 1, bitOf (u8 d.raw 40) 2, ⟨u32 d.raw 28 * 8000000, s.now⟩, ⟨u32 d.raw 36 * 8000000, s.now⟩,
      (s.meter (u16 d.raw 20)).allRed && !bitOf (u8 d.raw 40) 3⟩).finish d St.OK 0)) ∧
  (∀ (r : Nat) (d : Desc) (s : State), s.cur r 5 5 = some d → u16 d.raw 20 < 256 ∧ 40 ≤ d.len → 
      exec (.qciRead r) s = .next ((forEach (List.range 5) (fun i t => t.setFiltCnt (u16 d.raw 20) i 0) s).finishBuf d 0
      ((List.range 5).flatMap fun i => leBytes 8 (s.filtCnt (u16 d.raw 20) i)) St.OK 40)) ∧
  (∀ (r : Nat) (d : Desc) (s : State), s.cur r 5 6 = some d → 60 ≤ d.len ∧ d.len + 4 ≤ s.get (F.PRT_MODE_MAX_LEN 20) → s.isUp 20 = true → 
      exec (.spSend r) s = .next
      (let q := s.placed { SwFrame.new 24 0 d.buf (d.len + 4) 4096 0 with send := some (d.round, d.slot) }
      (q.1.onSwc fun w => { w with staged := w.staged ++ [⟨24, q.2, cellsOf (d.len + 4)⟩] }).hold d)) ∧
  (∀ (r : Nat) (d : Desc) (s : State), s.cur r 5 7 = some d → s.get (F.PRT_MODE_MAX_LEN 20) ≤ d.len → 
      exec (.spRecv r) s = .next (s.hold d))

/-- Lattice lock, time-base writes and their ticks, stamps, triggers, pulses, PPS and media lock complete. LATTICE_LOCK
starts TIM_NOW at 0 with INC 0x04000000, frees the media clock and disarms nothing else. A valid INC is written and
waits for the next tick; a STEP below 2^30 in size waits, a larger one raises STEP_BAD, one on a busy register is
ignored. TIM_WRAP, TIM_INC_APPLY, TIME_STEP_APPLY and TRIGGER_FIRE are the tick at which each happens. Losing and
regaining the crystal changes XTAL_OK. A stamp joins its port's FIFO or is lost on a full one. A pulse ends at its
time; a PPS edge starts a capture, the other edge ends it, and 100 ns later the time is captured. The media clock
locks within 20 ns. -/
def Obligations.TimeEventsComplete : Prop :=
  (∀ (s : State), s.on F.TIM_STAT_LOCKED = false → s.pow.logic = true → 
      exec .latticeLock s = .next (
      let u := (((s.put F.TIM_STAT_LOCKED 1).put F.TIM_STAT_XTAL_OK 1).putNow 0 |>.wr R.TIM_INC 0x04000000).put F.TIM_STAT_MEDIA_LOCKED 0
      State.drawn <| u.onTim fun t => { t with
      frac := 0, inc := 0x04000000, incNext := none, fires := [], media := ⟨u.free 1 % mediaTurn, none⟩
      marks := [⟨u.now, 0, 0x04000000⟩], lockAt := u.now })) ∧
  (∀ (s : State), s.on F.TIM_STAT_LOCKED = true → 2 ^ 56 ≤ s.nextCount → 
      exec .timWrap s = .next s.tick) ∧
  (∀ (pid v : Nat) (s : State), 0x03FF0000 ≤ v ∧ v ≤ 0x04010000 → 
      exec (.timIncWrite pid v) s = .next ((s.wr R.TIM_INC (BitVec.ofNat 32 v)).onTim fun t => { t with incNext := some v })) ∧
  (∀ (pid v : Nat) (s : State), (v < 0x03FF0000 ∨ 0x04010000 < v) → 
      exec (.timIncWrite pid v) s = .next s) ∧
  (∀ (s : State), s.on F.TIM_STAT_LOCKED = true → s.tim.incNext.isSome = true → 
      exec .timIncApply s = .next s.tick) ∧
  (∀ (pid v : Nat) (s : State), s.on F.TIM_STAT_STEP_BUSY = false → (sint 32 v).natAbs < 2 ^ 30 → 
      exec (.timeStepWrite pid v) s = .next ((s.put F.TIM_STAT_STEP_BUSY 1).onTim fun t => { t with step := some (v % 2 ^ 32) })) ∧
  (∀ (pid v : Nat) (s : State), (s.on F.TIM_STAT_STEP_BUSY = true → exec (.timeStepWrite pid v) s = .next s) ∧
      (s.on F.TIM_STAT_STEP_BUSY = false → 2 ^ 30 ≤ (sint 32 v).natAbs → exec (.timeStepWrite pid v) s = .next (s.raise F.TIM_EVT_STEP_BAD))) ∧
  (∀ (s : State), s.on F.TIM_STAT_LOCKED = true → s.tim.step.isSome = true → 
      exec .timeStepApply s = .next s.tick) ∧
  (∀ (s : State), exec .xtalLost s = .next ((s.put F.TIM_STAT_XTAL_OK 0).raise F.TIM_EVT_XTAL_LOST) ∧
      exec .xtalRestored s = .next (s.put F.TIM_STAT_XTAL_OK 1)) ∧
  (∀ (p : Nat) (x : TxStamp) (s u : State), s.tim.stamps.find? (·.port == p) = some x → (u = s.onTim fun t => { t with stamps := dropFirst (·.port == p) t.stamps }) → 
      (64 ≤ (u.txts x.port).length → exec (.txtsEnqueue p) s = .next
      (((u.count (C.TIM_TSLOST x.port)).raise F.TIM_EVT_TS_LOST).endStamp x.send St.LOST (2 ^ 32))) ∧
      ((u.txts x.port).length < 64 → (u.txts x.port).isEmpty = false → exec (.txtsEnqueue p) s = .next
      ((u.setTxts x.port (u.txts x.port ++ [leBytes 4 x.time ++ leBytes 2 x.tag ++ leBytes 1 (x.msg % 16) ++ [0]])).endStamp x.send St.OK 0)) ∧
      ((u.txts x.port).isEmpty = true → exec (.txtsEnqueue p) s = .next
      (((u.setTxts x.port [leBytes 4 x.time ++ leBytes 2 x.tag ++ leBytes 1 (x.msg % 16) ++ [0]]).raise F.TIM_EVT_TXTS).endStamp x.send St.OK 0))) ∧
  (∀ (n : Nat) (s : State), n < 16 → s.on F.TIM_STAT_LOCKED = true → s.tick.fires n ≠ s.fires n → 
      exec (.triggerFire n) s = .next s.tick) ∧
  (∀ (pid n val : Nat) (s : State), n < 16 → 
      exec (.skipClr pid n val) s = .next (s.writeTrgCtl pid n val)) ∧
  (∀ (pid n val : Nat) (s : State), n < 16 → (pid ≠ 0 ∨ n = 0) → bitOf val 15 = true → bitOf val 30 = false → 
      exec (.skipClr pid n val) s = .next (s.put (F.TIM_TRG_CTL_SKIPPED n) 0)) ∧
  (∀ (k : Nat) (s : State), bitOf s.tim.pins k = true → s.on (F.TIM_PIN_CTL_TOGGLE k) = false → storeGet cntDefault s.tim.pinEnd k ≤ s.now → 
      exec (.pinPulseEnd k) s = .next (s.onTim fun t => { t with pins := clearBit t.pins k })) ∧
  (∀ (up : Bool) (s : State), s.on F.TIM_PPS_CTL_IN_EN = true → 
      (s.on F.TIM_PPS_CTL_IN_FALL = !up → exec (.ppsEdge up) s = .next (s.onTim fun t => { t with pps := some (s.timAt s.now, s.now) })) ∧
      (s.on F.TIM_PPS_CTL_IN_FALL = up → exec (.ppsEdge up) s = .next (s.onTim fun t => { t with pps := none }))) ∧
  (∀ (v t : Nat) (s u : State), s.on F.TIM_PPS_CTL_IN_EN = true → s.tim.pps = some (v, t) → t + 100 ≤ s.now → (u = (s.onTim fun t => { t with pps := none }).put F.TIM_PPS_CAP_TIME v) → 
      exec .ppsCapture s = .next ((if u.on F.TIM_EVT_PPS then u.raise F.TIM_EVT_PPS_OVR else u).raise F.TIM_EVT_PPS)) ∧
  (∀ (s : State), s.mediaTied = true → s.on F.TIM_STAT_MEDIA_LOCKED = false → 
      exec .mediaLock s = .next ((s.put F.TIM_STAT_MEDIA_LOCKED 1).raise F.TIM_EVT_MEDIA_LOCK))

/-- TRG_ARM, TRG_DISARM and TXTS_READ complete. TRG_ARM by partition 0 or the trigger's owner, with a period of 0 or 1 µs
to 1 s and a target less than 2^31 ns ahead, writes target and period, clears SKIPPED, arms the trigger and returns
the time. TRG_DISARM disarms it and returns how often it fired and whether it was armed. TXTS_READ returns up to the
number of stamps asked for and removes them. Others are denied or end with BADARG. -/
def Obligations.TriggerOpsComplete : Prop :=
  (∀ (r n : Nat) (d : Desc) (s u : State), s.cur r 6 1 = some d → d.noBuf = true → u8 d.raw 20 = n ∧ n < 16 → (s.dPid d = 0 ∨ s.dPid d = s.get (F.TIM_TRG_CTL_OWNER n)) → (u32 d.raw 28 = 0 ∨ (1000 ≤ u32 d.raw 28 ∧ u32 d.raw 28 ≤ 1000000000)) → ahead32 s.timNow (u32 d.raw 24) < 2 ^ 31 → (u = ((((s.put (F.TIM_TRG_TARGET_VALUE n) (u32 d.raw 24)).put (F.TIM_TRG_PERIOD_VALUE n) (u32 d.raw 28)).put (F.TIM_TRG_CTL_SKIPPED n) 0).put (F.TIM_TRG_CTL_ARMED n) 1).onTim fun t => { t with armNew := setBit t.armNew n, fired := storeSet cntDefault t.fired n 0 }) → 
      exec (.trgArm r) s = .next (
      if n = 0 then (u.mediaMove ((sint 32 (ahead32 (s.trgTarget n) (u32 d.raw 24)) + 500000) % 1000000 - 500000)).finish d St.OK
      (u.mediaMove ((sint 32 (ahead32 (s.trgTarget n) (u32 d.raw 24)) + 500000) % 1000000 - 500000)).timNow
      else u.finish d St.OK u.timNow)) ∧
  (∀ (r n : Nat) (d : Desc) (s : State), s.cur r 6 2 = some d → d.noBuf = true → u8 d.raw 20 = n ∧ n < 16 → (s.dPid d = 0 ∨ s.dPid d = s.get (F.TIM_TRG_CTL_OWNER n)) → 
      exec (.trgDisarm r) s = .next ((s.put (F.TIM_TRG_CTL_ARMED n) 0).finish d St.OK
      (storeGet cntDefault s.tim.fired n % 2 ^ 32 + 2 ^ 32 * b2n (s.trgArmed n)))) ∧
  (∀ (r n : Nat) (d : Desc) (s : State), d.noBuf = true → u8 d.raw 20 = n ∧ n < 16 → s.dPid d ≠ 0 ∧ s.dPid d ≠ s.get (F.TIM_TRG_CTL_OWNER n) → 
      (s.cur r 6 1 = some d → exec (.trgArm r) s = .next (s.finish d St.NOTPERMIT 0)) ∧
      (s.cur r 6 2 = some d → exec (.trgDisarm r) s = .next (s.finish d St.NOTPERMIT 0))) ∧
  (∀ (r : Nat) (d : Desc) (s : State), s.cur r 6 3 = some d → u8 d.raw 20 < 20 → 1 ≤ u16 d.raw 22 ∧ u16 d.raw 22 ≤ 64 ∧ 8 * u16 d.raw 22 ≤ d.len → 
      exec (.txtsRead r) s = .next ((s.setTxts (u8 d.raw 20) ((s.txts (u8 d.raw 20)).drop (min (u16 d.raw 22) (s.txts (u8 d.raw 20)).length))).finishBuf d 0
      ((s.txts (u8 d.raw 20)).take (min (u16 d.raw 22) (s.txts (u8 d.raw 20)).length)).flatten St.OK
      (min (u16 d.raw 22) (s.txts (u8 d.raw 20)).length + 2 ^ 32 * ((s.txts (u8 d.raw 20)).length - min (u16 d.raw 22) (s.txts (u8 d.raw 20)).length))))

/-- Audio blocks, their deadlines, streams and the audio die's faults complete. A node copy that may process the block
with all its inputs processes it. A channel frame or sum that reaches a Lattice goes to the inboxes of its node copies
or is counted as stray. An input still missing at its deadline is replaced by silence and counted, an output without a
block plays silence. A stream frame waiting for the audio unit is taken up. A bias fault latches off the bias and
raises its event; a lost link ramps every output down, and the link goes down and up. -/
def Obligations.AudioEventsComplete : Prop :=
  (∀ (c t : Nat) (l : List Int) (p : Pattern) (pl : Placement) (ins : List InBlk) (s : State), s.aud.block = some t → s.patOf (copyShadow c) = some p → s.placeOf (copyShadow c) = some pl → copyNode c < p.nodes.length ∧ c < 2048 → s.mayProcess c t = true → s.inputs p pl c t l = some ins → 
      exec (.nodeProcess c l) s = .next (s.process p pl c t ins l)) ∧
  (∀ (k n : Nat) (b : Bytes) (s u : State), s.swc.transit[k]? = some (n, b) → s.firstIn k = true → (u = s.onSwc fun w => { w with transit := w.transit.eraseIdx k }) → 
      (u8 b 0 = 0x20 → exec (.edgeFrameArrival k) s = .next (u.edgeFrameIn b)) ∧
      (u8 b 0 = 0x22 → exec (.edgeFrameArrival k) s = .next (u.sumFrameIn b))) ∧
  (∀ (edge copy t : Nat) (p : Pattern) (pl : Placement) (e : PEdge) (s : State), s.aud.block = some t → s.aud.pat = some p → s.cht.place = some pl → s.pastInput t = true → edge < 1024 → p.edges[edge]? = some e → (pl.copies 0 e.dst).contains (e.dst + 512 * (copy % 2)) = true → ((((pl.copies 0 e.frm).map s.engineOf).filter fun x => x != s.engineOf (e.dst + 512 * (copy % 2))) ≠ []) → s.inputOf (e.dst + 512 * (copy % 2)) e.inp t = none → 
      exec (.edgeDeadline edge copy) s = .next (s.missInput (e.dst + 512 * (copy % 2)) e.inp t ((p.node e.frm).noOut s.slot) (some edge)
      (((pl.copies 0 e.frm).map s.engineOf).filter fun x => x != s.engineOf (e.dst + 512 * (copy % 2))))) ∧
  (∀ (edge copy t : Nat) (p : Pattern) (pl : Placement) (s : State), s.aud.block = some t → s.aud.pat = some p → s.cht.place = some pl → s.pastInput t = true → 1024 ≤ edge → (p.node (edge - 1024)).kind = K.PLY_IN → (pl.copies 0 (edge - 1024)).contains (edge - 1024 + 512 * (copy % 2)) = true → s.inputOf (edge - 1024 + 512 * (copy % 2)) 0 t = none → s.unfed p pl (edge - 1024) 0 = none → 
      exec (.edgeDeadline edge copy) s = .next (s.missInput (edge - 1024 + 512 * (copy % 2)) 0 t (silence 48) none [])) ∧
  (∀ (kind unit chan : Nat) (s : State), s.aud.missing.contains (256 * kind + 16 * unit + chan) = true → 
      exec (.sinkDeadline kind unit chan) s = .next
      ((s.onAud fun a => { a with missing := a.missing.filter (· != 256 * kind + 16 * unit + chan) }).silentOut (256 * kind + 16 * unit + chan))) ∧
  (∀ (b : Bytes) (l : List Bytes) (s : State), s.swc.aIn = b :: l → 
      exec .audioStreamReceive s = .next ((s.onSwc fun w => { w with aIn := l }).netFrame b)) ∧
  (∀ (n : Nat) (s : State), n < 8 → s.on (F.AUD_AIN_CTL_BIAS_EN n) = true → bitOf s.aud.biasOff n = false → 
      exec (.biasFault n) s = .next
      (((s.onAud fun a => { a with biasOff := setBit a.biasOff n }).set1 F.AUD_AIN_STAT_BIAS_FAULT n).raise F.AUD_EVT_BIAS_FAULT)) ∧
  (∀ (s : State), exec .audioLinkLoss s = .next (s.rampDown.onAud fun a => { a with linkUp := false }) ∧
      exec .audioLinkRestored s = .next (s.onAud fun a => { a with linkUp := true }))

/-- Pattern loads, node parameters, chime slots and stream slots complete. PATTERN_LOAD of a description without fault
that the energy budget affords asks Chart for a placement and waits; a fault ends it with PATTERN_BAD and the fault's
code, kind and index. NODE_SET within one starred range with valid parameters is queued for the next block and returns
the lattice trigger's target; NODE_READ returns the node's state. CHIME_LOAD stores up to 4,096 samples in a stitch;
AUD_STREAM_SET sets a stream slot that no node uses. Unknown nodes, busy slots and malformed arguments end with their
statuses. -/
def Obligations.AudioOpcodesComplete : Prop :=
  (∀ (r : Nat) (d : Desc) (s t u : State), s.cur r 7 1 = some d → patternFault s.slot d.buf d.len = none → s.loadOk (parsePattern d.buf) = true → (t = if s.gauMode = 0 then s else s.gauAct (s.loadMw (parsePattern d.buf))) → (u = if t.get F.AUD_STAT_STATE = 1 then t.put F.AUD_STAT_STATE 2 else t) → 
      exec (.patternLoad r) s = .next ((u.stitched d 1 0).askChart (.load d.round d.slot))) ∧
  (∀ (r : Nat) (f : PFault) (d : Desc) (s : State), s.cur r 7 1 = some d → patternFault s.slot d.buf d.len = some f → 
      exec (.patternLoad r) s = .next ((s.raise F.AUD_EVT_PAT_REJECT).finish d St.PATTERN_BAD f.result)) ∧
  (∀ (r i off len : Nat) (d : Desc) (p : Pattern) (s : State), s.cur r 7 2 = some d → s.aud.pat = some p → u16 d.raw 20 = i ∧ u8 d.raw 22 = off ∧ u8 d.raw 23 = len ∧ i < p.nodes.length ∧ 0 < len ∧ len ≤ 32 → d.noBuf = true → (((p.node i).starred.any fun r => decide (r.1 ≤ off) && decide (off + len ≤ r.2 + 1)) = true) → ({ p.node i with raw := patch (p.node i).raw off (slice d.raw 24 len) } : PNode).paramOk = true → 
      exec (.nodeSet r) s = .next ((s.onAud fun a => { a with edits := a.edits ++ [⟨i, off, slice d.raw 24 len⟩] }).finish d St.OK (s.trgTarget 0))) ∧
  (∀ (r : Nat) (d : Desc) (p : Pattern) (s : State), s.cur r 7 3 = some d → s.aud.pat = some p → u16 d.raw 20 < p.nodes.length → 
      exec (.nodeRead r) s = .next (
      let i := u16 d.raw 20
      let b := leBytes 1 (p.node i).kind ++ leBytes 1 (b2n (s.nodeSt i).sat) ++ [0, 0] ++ leBytes 4 (s.nodeSt i).time ++
      readout (p.node i) (s.nodeSt i) (p.groupOf (u8 (p.node i).raw 8)) (p.plyIndex i)
      s.finishBuf d 0 b St.OK b.length)) ∧
  (∀ (r : Nat) (d : Desc) (s : State), s.aud.pat = none → 
      (s.cur r 7 2 = some d → exec (.nodeSet r) s = .next (s.finish d St.NO_NODE 0)) ∧
      (s.cur r 7 3 = some d → exec (.nodeRead r) s = .next (s.finish d St.NO_NODE 0))) ∧
  (∀ (r k n : Nat) (l : List Nat) (d : Desc) (s : State), s.cur r 7 4 = some d → u8 d.raw 20 = k ∧ k < 64 ∧ d.len % 6 = 0 ∧ d.len ≤ 2880000 → s.slotPlays k = false → n = min 4096 (d.len / 6 - d.prog) → (l = (if d.prog = 0 then [] else storeGet noChime s.aud.chimes k) ++ words48 n (d.buf.drop (6 * d.prog))) → 
      exec (.chimeLoad r) s = .next (
      if d.prog + n = d.len / 6 then (s.onAud fun a => { a with chimes := storeSet noChime a.chimes k l }).lastStitch d St.OK (d.prog + n)
      else (s.onAud fun a => { a with chimes := storeSet noChime a.chimes k l }).stitched d (d.prog + n) (d.prog + n))) ∧
  (∀ (r k : Nat) (d : Desc) (s : State), s.cur r 7 5 = some d → u8 d.raw 20 = k → streamSetOk d = true → s.streamUsed k = false → 
      exec (.audStreamSet r) s = .next (
      let b := d.raw
      let aes := u8 b 22 == 1
      let u := s.setSlot k ⟨u8 b 26 == 1, u8 b 21 == 1, aes, u8 b 23, u8 b 24 == 1, u8 b 25,
      if aes then u32 b 28 else beVal (slice b 28 8), u32 b 36, u32 b 40, u32 b 44, slice d.buf 0 (u8 b 48), u16 b 50,
      0, false, false, 0, none⟩
      (((((u.put (F.AUD_STR_STAT_EN k) (u8 b 26)).put (F.AUD_STR_STAT_DIR k) (u8 b 21)).put (F.AUD_STR_STAT_FORMAT k)
      (u8 b 22)).put (F.AUD_STR_STAT_RATE16 k) (u8 b 24)).put (F.AUD_STR_STAT_CH k) (u8 b 23)).finish d St.OK 0))

/-- Chart replans, judges a shadow block, switches over, and handles late and failed engines. A replan serves the requests
that wait when none is under way. A shadow whose block ended in time passes, one late is abandoned, and a passed one
is switched to at the next block. An engine with work of the block left 950 µs in, or one that fails, leaves RUN, is
counted, raises ENG_FAIL, is excluded after FAIL_LIMIT failures, and asks Chart; after its time-out it is back to
idle. Partition 0 may clear exclusions; others may not. -/
def Obligations.ChartEventsComplete : Prop :=
  (∀ (s t : State), t = s.dropLoads → t.cht.asks.isEmpty = false → t.placing = false → t.gau.moving = none → t.cor.doze = false → 
      exec .chartReplan s = .next ((t.dropShadow false).replan t.serving)) ∧
  (∀ (b : Nat) (sh : Shadow) (s t : State), t = s.dropLoads → t.cht.shadow = some sh → sh.block = some b → sh.passed = false → sh.mirrored = false → t.pastInput b = true → sh.late = false → t.aud.block = some b → ((sh.copies.all fun c => t.aud.done.contains c) = true) → 
      exec .shadowDeadlineCheck s = .next (t.onCht fun x => { x with shadow := some { sh with passed := true } })) ∧
  (∀ (b : Nat) (sh : Shadow) (s t : State), t = s.dropLoads → t.cht.shadow = some sh → sh.block = some b → sh.passed = false → sh.mirrored = false → t.pastInput b = true → (sh.late = true ∨ t.aud.block ≠ some b) → 
      exec .shadowDeadlineCheck s = .next (t.abandon sh)) ∧
  (∀ (b : Nat) (sh : Shadow) (s t : State), t = s.dropLoads → t.cht.shadow = some sh → t.aud.block = some b → sh.passed = true → sh.block ≠ some b → 
      exec .placementSwitch s = .next (t.switchOver sh b)) ∧
  (∀ (e b : Nat) (p : Pattern) (pl : Placement) (s : State), s.aud.block = some b → s.aud.pat = some p → s.cht.place = some pl → (((List.range p.nodes.length).any fun i => (pl.copies 0 i).any fun c => s.engineOf c == e && !s.aud.done.contains c) = true) → before s.timNow ((b + 950000) % 2 ^ 32) = false → 
      exec (.engineDeadline e) s = .next (s.engineFail e)) ∧
  (∀ (e n : Nat) (s u v : State), e < 16 → s.engineOn e = true → n = min 15 (s.get (F.CHT_ENG_STAT_FAILS e) + 1) → u = ((s.put (F.CHT_ENG_STAT_FAILS e) n).count C.CHT_ENG_FAIL).raise F.CHT_EVT_ENG_FAIL → (v = if max 1 (u.get F.CHT_CTL_FAIL_LIMIT) ≤ n then ((u.put (F.CHT_ENG_STAT_STATE e) 3).set1 F.CHT_EXCLUDED_ENG e).raise F.CHT_EVT_ENG_EXCLUDED else u.put (F.CHT_ENG_STAT_STATE e) 2) → 
      (v.cht.shadow = none → exec (.engineFail e) s = .next (v.askChart .failure)) ∧
      (∀ sh, v.cht.shadow = some sh → exec (.engineFail e) s = .next
      ((if (sh.place.eng ++ sh.place.twin).contains e then v.dropShadow true else v).askChart .failure))) ∧
  (∀ (e : Nat) (s : State), e < 16 → s.get (F.CHT_ENG_STAT_STATE e) = 2 → 
      exec (.engineBack e) s = .next ((s.put (F.CHT_ENG_STAT_STATE e) 0).raise F.CHT_EVT_ENG_BACK)) ∧
  (∀ (pid v : Nat) (s : State), (pid = 0 → exec (.engineUnexclude pid v) s = .next (forEach ((List.range 16).filter fun e => bitOf v e && s.bit F.CHT_EXCLUDED_ENG e)
      (fun e t => (t.clr1 F.CHT_EXCLUDED_ENG e).put (F.CHT_ENG_STAT_STATE e) 0) s)) ∧
      (pid ≠ 0 → exec (.engineUnexclude pid v) s = .next s))

/-- PLACE_READ, PATTERN_CHECK and CARVE_HINT complete. PLACE_READ returns the placement's entries with their generation,
or BADARG into a short buffer. PATTERN_CHECK of a faultless description returns the engines used, the latest planned
finish and the heaviest load, or says why no placement exists, or the fault. CARVE_HINT stores hints for all 192
queues and carves again. -/
def Obligations.ChartOpcodesComplete : Prop :=
  (∀ (r : Nat) (d : Desc) (s : State), s.cur r 8 1 = some d → 
      (s.placeEntries.length ≤ d.len → exec (.placeRead r) s = .next (s.finishBuf d 0 s.placeEntries St.OK
      (s.placeEntries.length + 2 ^ 32 * s.get F.CHT_PLACE_GEN_GEN))) ∧
      (d.len < s.placeEntries.length → exec (.placeRead r) s = .next (s.finish d St.BADARG 0))) ∧
  (∀ (r : Nat) (d : Desc) (pl : Placement) (s : State), s.cur r 8 2 = some d → u8 d.raw 20 ≤ 4 ∧ u8 d.raw 21 < 4 → patternFault s.slot d.buf d.len = none → (((parsePattern d.buf).search (bitOf (u8 d.raw 21) 0) (u8 d.raw 20) (if bitOf (u8 d.raw 21) 1 then [] else s.badEngines) []).toOption = some pl) → 
      exec (.patternCheck r) s = .next (
      let used := (List.range 16).filter fun e => pl.on e != 0
      s.lastStitch d St.OK
      (used.length + 2 ^ 16 * greatest pl.finish + 2 ^ 32 * greatest (used.map ((parsePattern d.buf).plannedOn pl))))) ∧
  (∀ (r : Nat) (d : Desc) (f : PFault) (s : State), s.cur r 8 2 = some d → u8 d.raw 20 ≤ 4 ∧ u8 d.raw 21 < 4 → patternFault s.slot d.buf d.len = some f → 
      exec (.patternCheck r) s = .next (s.lastStitch d St.CHECK_BAD f.result)) ∧
  (∀ (r : Nat) (d : Desc) (s : State), s.cur r 8 3 = some d → 768 ≤ d.len → carveOk d.buf = true → 
      exec (.carveHint r) s = .next (
      let u := forEach (List.range 192) (fun q t => t.onCht fun c => { c with
      hintMin := storeSet minHintDefault c.hintMin q (u16 d.buf (4 * q)),
      hintK := (storeSet kHintDefault c.hintK q (if u8 d.buf (4 * q + 2) = 0xFF then 6 else u8 d.buf (4 * q + 2))) }) s
      u.recarve.1.finish d St.OK (u.recarve.1.get F.SWC_CARVE_GEN_GEN + 2 ^ 32 * b2n u.recarve.2)))

/-- Control writes and bus conditions of the CAN controllers complete. CAN_ENABLE and CAN_DISABLE write CTL with EN set
and clear (a write that sets EN again with fields that break the configuration rules is refused whole: the model's
choice, log 98), CAN_RECOVER and CAN_RELEASE write TXCTL. Eleven recessive bits put a waiting controller on the bus. A
format that the controller does not take is a protocol exception. Swapped lines and a dominant time-out of a
transceiver are shown and release the bus. A bus-off controller that recovers starts with its counters at 0 and raises
RECOVERED. -/
def Obligations.CanControllerCommandsComplete : Prop :=
  (∀ (n v : Nat) (s : State), n < 12 → 
      exec (.canEnable n v) s = .next (s.canCtlWrite n (setBit v 31)) ∧ exec (.canDisable n v) s = .next (s.canCtlWrite n (clearBit v 31)) ∧
      exec (.canRecover n v) s = .next (s.txctlWrite n (setBit v 0)) ∧ exec (.canRelease n v) s = .next (s.txctlWrite n (setBit v 1))) ∧
  (∀ (n v : Nat) (s : State), n < 12 → 
      (s.on (F.CAN_CTL_EN n) = true → (s.canCtlFields n (setBit v 31)).canCfgBad n = true →
      exec (.canEnable n v) s = .next (s.raise (F.CAN_EVT_CFG_BAD n))) ∧
      (s.on (F.CAN_CTL_EN n) = false → exec (.canEnable n v) s = .next ((s.canCtlFields n (setBit v 31)).canOn n)) ∧
      exec (.canDisable n v) s = .next ((s.canCtlFields n (clearBit v 31)).canOff n)) ∧
  (∀ (n v : Nat) (s : State), n < 12 → s.canState n = 3 → bitOf v 1 = false → 
      exec (.canRecover n v) s = .next (s.setCtl n { s.ctl n with recovering := true })) ∧
  (∀ (n fmt : Nat) (s : State), s.onBus n = true → s.canBarred n fmt = true → 
      exec (.canProtocolException n fmt) s = .next
      (((s.count (C.CAN_PEXC n)).raise (F.CAN_EVT_PEXC n)).setCtl n { s.ctl n with integrating := true })) ∧
  (∀ (n : Nat) (s : State), s.canState n = 3 → (s.ctl n).recovering = true → 
      exec (.canBusoffRecovered n) s = .next
      (((s.setCtl n { s.ctl n with tec := 0, rec_ := 0, recovering := false }).put (F.CAN_STAT_STATE n) 1).raise (F.CAN_EVT_RECOVERED n))) ∧
  (∀ (n : Nat) (s : State), n < 8 → s.onBus n = true → (s.ctl n).cur = none → s.on (F.CAN_STAT_SWAPPED n) = false → 
      exec (.canSwapDetect n) s = .next (((s.put (F.CAN_STAT_SWAPPED n) 1).raise (F.CAN_EVT_SWAP n)).count (C.CAN_SWAP n))) ∧
  (∀ (n : Nat) (s : State), n < 8 → (s.ctl n).cur.isSome = true → 
      exec (.canDominantTimeout n) s = .next (s.setCtl n { s.ctl n with released := true })) ∧
  (∀ (n : Nat) (s : State), n < 12 → s.canState n ≠ 0 → s.trcv n < 2 → (s.ctl n).integrating = true → 
      exec (.canBusIntegrated n) s = .next (s.setCtl n { s.ctl n with integrating := false, slept := false }))

/-- CAN reception, transmission, arbitration and errors complete. A frame on the bus of a format the controller takes is
received. A transmission starts with the queue head that wins inside the controller. A lost arbitration is counted on
the head, which is abandoned at ARB_LIMIT losses, or ends CANCELLED where it has been cancelled. A frame sent leaves
its queue and completes its descriptor. An error in transmission or reception is counted, shown, and moves the error
counters by its rule. -/
def Obligations.CanFrameEventsComplete : Prop :=
  (∀ (n ago : Nat) (f : CanFrame) (s : State), s.onBus n = true → s.get (F.CAN_CTL_MODE n) ≠ 2 → s.canBarred n f.fmt = false → 
      exec (.canFrameReceived n f ago) s = .next (s.canRx n f (s.timAt (s.now - ago)))) ∧
  (∀ (n q : Nat) (s : State), s.onBus n = true → s.listens n = false → s.pai.sw.isSome = false → s.canHeld n = false → (s.ctl n).cur = none → (s.ctl n).best = some q → 
      exec (.canTxStart n) s = .next (s.setCtl n { s.ctl n with cur := some q, curAt := s.now, curTs := s.canTs n s.timNow })) ∧
  (∀ (n q : Nat) (x : CanTx) (s u : State), s.onWire n = some (q, x) → (s.ctl n).last = false → u = ((s.count (C.CAN_ARB_LOST n)).idleTx n).setHead n q { x with losses := x.losses + 1 } → 
      (u.txCancelled { x with losses := x.losses + 1 } = true → exec (.canArbLost n) s = .next (u.popTx n q St.CANCELLED (s.ctl n).curTs false)) ∧
      (u.txCancelled { x with losses := x.losses + 1 } = false →
      (u.get (F.CAN_LIMITS_ARB_LIMIT n) = 0 ∨ x.losses + 1 < u.get (F.CAN_LIMITS_ARB_LIMIT n) → exec (.canArbLost n) s = .next u) ∧
      (u.get (F.CAN_LIMITS_ARB_LIMIT n) ≠ 0 → u.get (F.CAN_LIMITS_ARB_LIMIT n) ≤ x.losses + 1 →
      exec (.canArbLost n) s = .next (u.txAbandon n q (s.ctl n).curTs true)))) ∧
  (∀ (n q : Nat) (x : CanTx) (s : State), s.onWire n = some (q, x) → (s.ctl n).released = false → 
      exec (.canTxDone n) s = .next (s.canSent n q x)) ∧
  (∀ (n q : Nat) (x : CanTx) (e : CanErr) (s : State), s.onWire n = some (q, x) → (s.ctl n).last = false → 
      exec (.canTxError n e) s = .next (s.canFailed n q x e)) ∧
  (∀ (n : Nat) (e : CanErr) (s u : State), s.onBus n = true → s.get (F.CAN_CTL_MODE n) ≠ 2 → (u = (s.count (C.CAN_RX_ERR n)).showErr n { e with kind := if e.kind = 3 then 2 else e.kind }) → 
      exec (.canRxError n e) s = .next (if u.listens n then u else u.errCounts n (u.ctl n).tec (recAfter (u.ctl n).rec_ e)))

/-- TX_SEND, RX_READ and FILTER_LOAD complete. TX_SEND by a partition of TX_MASK to a running controller with a free place
queues the frame and waits; otherwise it ends with NOTPERMIT, NOT_RUNNING or BADARG. RX_READ returns whole records
from the oldest on and removes them. FILTER_LOAD of well-formed lists replaces all filters of the controller. -/
def Obligations.CanOpcodesComplete : Prop :=
  (∀ (r n q : Nat) (d : Desc) (s : State), s.cur r 9 1 = some d → u8 d.raw 20 = n ∧ u8 d.raw 21 = q ∧ n ≤ 11 ∧ q ≤ 3 → s.bit (F.CAN_TX_MASK_MASK n) (s.dPid d) = true → s.txBad d = false → (s.canState n = 1 ∨ s.canState n = 2) → s.listens n = false → s.txFull n q = false → 
      exec (.txSend r) s = .next ((s.placeTx n q ⟨txFrame d, 0, 0, some (d.round, d.slot)⟩).hold d)) ∧
  (∀ (r n q : Nat) (d : Desc) (s : State), s.cur r 9 1 = some d → u8 d.raw 20 = n ∧ u8 d.raw 21 = q ∧ n ≤ 11 ∧ q ≤ 3 → 
      (s.bit (F.CAN_TX_MASK_MASK n) (s.dPid d) = false → exec (.txSend r) s = .next (s.finish d St.NOTPERMIT 0)) ∧
      (s.bit (F.CAN_TX_MASK_MASK n) (s.dPid d) = true → s.txBad d = true → exec (.txSend r) s = .next (s.finish d St.BADARG 0)) ∧
      (s.bit (F.CAN_TX_MASK_MASK n) (s.dPid d) = true → s.txBad d = false → s.canState n = 0 →
      exec (.txSend r) s = .next (s.finish d St.NOT_RUNNING 0))) ∧
  (∀ (r n q : Nat) (t : List Bytes) (d : Desc) (s : State), s.cur r 9 2 = some d → u8 d.raw 20 = n ∧ u8 d.raw 21 = q ∧ n ≤ 11 ∧ q ≤ 7 → s.bit (F.CAN_RX_MASK_MASK n) (s.dPid d) = true → t = takeFit d.len ((s.ctl n).rxQ q) → (t.flatten = [] ∨ (s.fabWrite (.round d.round) d.addr t.flatten).2 = St.OK) → 
      exec (.rxRead r) s = .next (
      let u := if t.flatten.isEmpty then s else (s.fabWrite (.round d.round) d.addr t.flatten).1
      let left := ((s.ctl n).rxQ q).drop t.length
      (u.setCtl n { u.ctl n with rxq := setAt (u.ctl n).rxq q left }).finish d St.OK
      (t.flatten.length + 2 ^ 32 * t.length + 2 ^ 48 * left.length))) ∧
  (∀ (r n a b c : Nat) (d : Desc) (s : State), s.cur r 9 3 = some d → u8 d.raw 20 = n ∧ n ≤ 11 → s.bit (F.CAN_RX_MASK_MASK n) (s.dPid d) = true → u16 d.raw 22 = a ∧ u16 d.raw 24 = b ∧ u16 d.raw 26 = c ∧ a ≤ 256 ∧ b ≤ 256 ∧ c ≤ 128 → u8 d.raw 28 ≤ 1 ∧ u8 d.raw 29 ≤ 7 ∧ d.len = 16 * (a + b + c) → firstFilterBad n 0 0 (rec16 a d.buf) = none → firstFilterBad n 1 0 (rec16 b (d.buf.drop (16 * a))) = none → firstFilterBad n 2 0 (rec16 c (d.buf.drop (16 * (a + b)))) = none → 
      exec (.filterLoad r) s = .next ((s.setCtl n { s.ctl n with filt := ⟨rec16 a d.buf, rec16 b (d.buf.drop (16 * a)),
      rec16 c (d.buf.drop (16 * (a + b))), u8 d.raw 28 == 1, u8 d.raw 29⟩ }).finish d St.OK 0))

/-- Gateway arrivals, held frames, mappings, PDUs, batches and GW_RECV holds complete. A frame waiting at the gateway is
taken up with its stream's handle. A frame held by a rule leaves once the rule's buckets allow it. A mapping that has
waited its time-out sends its default and is counted once. A periodic PDU is sent and its next time set; a batch that
has waited is flushed as one frame; a GW_RECV that has held records for its time ends. -/
def Obligations.GatewayEventsComplete : Prop :=
  (∀ (h : Option Nat) (b : Bytes) (l : List (Option Nat × Bytes)) (s : State), s.swc.wIn = (h, b) :: l → 
      exec .gatewayEthFrame s = .next ((s.onSwc fun w => { w with wIn := l }).gwEthFrame (h.getD 1024) b)) ∧
  (∀ (r : Nat) (h : GwFrame) (s u : State), u = s.gwRefill r → (u.gwRule r).held = some h → u.gwEligible r h.f.data.length = true → 
      exec (.rateHoldRelease r) s = .next ((u.setGwRule r { u.gwRule r with held := none }).gwSend r h)) ∧
  (∀ (k : Nat) (m : GwMap) (s : State), s.gwMap k = m → m.raw.isEmpty = false → m.tmo = false → m.tmoMs ≠ 0 → m.timer + 1000000 * m.tmoMs ≤ s.now → 
      exec (.mapTimeout k) s = .next (s.gwMapTmo k)) ∧
  (∀ (k : Nat) (p : GwPdu) (s : State), s.gwPdu k = p → bitOf p.mode 1 = true → p.next ≤ s.now → 
      exec (.pduPeriodicSend k) s = .next ((s.setGwPdu k { p with next := p.next + 1000000 * p.period }).gwSendPdu k)) ∧
  (∀ (t : Nat) (s : State), (s.gwTmpl t).msgs.isEmpty = false → (s.gwTmpl t).first + 1000 * (s.gwTmpl t).batch ≤ s.now → 
      exec (.ntscfBatchTimeout t) s = .next (s.gwFlush t)) ∧
  (∀ (r : Nat) (d : Desc) (l : List Desc) (s : State), s.gwRecvs r = d :: l → d.acc ≠ 0 → storeGet cntDefault s.gwy.recvAt (recvKey d) + 1000 * u32 d.raw 20 ≤ s.now → 
      exec (.gwRecvHoldTimeout r) s = .next (s.finish d St.OK d.acc))

/-- The opcodes of the gateway complete. A partition of CFG_MASK may configure the gateway, any other gets NOTPERMIT.
RULE_SET of a well-formed rule that duplicates none and whose keys are there stores it with full buckets; MAP_LOAD
stores 256 mappings a stitch; PDU_SET, TEMPLATE_SET and FRESH_SET store a PDU, a template and a freshness value that
does not fall. GW_RECV holds for records, RULE_READ returns and clears a rule's counters. -/
def Obligations.GatewayOpcodesComplete : Prop :=
  (∀ (r k : Nat) (d : Desc) (v : GwRule) (s : State), s.cur r 10 1 = some d → s.bit F.GWY_CFG_MASK_MASK (s.dPid d) = true → v = { gwRuleDefault 0 with raw := d.buf, last := s.now } → u16 d.raw 20 = k ∧ k ≤ 2047 ∧ d.len = 64 → v.bad = false → s.gwDup k v = false → s.gwNoKey v = false → 
      exec (.ruleSet r) s = .next ((s.setGwRule k { v with ftok := 10 ^ 9 * v.fburst, btok := 10 ^ 9 * v.bburst }).finish d St.OK 0)) ∧
  (∀ (r : Nat) (d : Desc) (s : State), s.cur r 10 2 = some d → s.bit F.GWY_CFG_MASK_MASK (s.dPid d) = true → 0 < u16 d.raw 22 ∧ u16 d.raw 20 + u16 d.raw 22 ≤ 4096 ∧ d.len = 24 * u16 d.raw 22 → (((List.range (u16 d.raw 22)).any fun i => GwMap.bad ⟨slice d.buf (24 * i) 24, 0, false⟩) = false) → 
      exec (.mapLoad r) s = .next (
      let cnt := u16 d.raw 22
      let n := min 256 (cnt - d.prog)
      let u := forEach (List.range n) (fun i t =>
      t.setGwMap (u16 d.raw 20 + d.prog + i) ⟨slice d.buf (24 * (d.prog + i)) 24, s.now, false⟩) s
      if d.prog + n = cnt then u.lastStitch d St.OK cnt else u.stitched d (d.prog + n) (d.prog + n))) ∧
  (∀ (r k n m per : Nat) (d : Desc) (s : State), s.cur r 10 3 = some d → s.bit F.GWY_CFG_MASK_MASK (s.dPid d) = true → u16 d.raw 20 = k ∧ u8 d.raw 22 = n ∧ u8 d.raw 23 = m ∧ u16 d.raw 24 = per → k ≤ 511 ∧ 0 < n ∧ n ≤ 64 ∧ m ≤ 3 ∧ d.len = n → (bitOf m 1 = false ∨ 0 < per) → 
      exec (.pduSet r) s = .next ((s.setGwPdu k ⟨d.buf, m, per, s.now + 1000000 * per⟩).finish d St.OK s.timNow)) ∧
  (∀ (r t : Nat) (d : Desc) (s : State), s.cur r 10 4 = some d → s.bit F.GWY_CFG_MASK_MASK (s.dPid d) = true → u8 d.raw 20 = t ∧ t ≤ 63 ∧ 0 < u8 d.raw 21 ∧ u8 d.raw 21 ≤ 64 ∧ d.len = u8 d.raw 21 → u16 d.raw 22 ≤ 1000 ∧ 20 ≤ u16 d.raw 24 ∧ u16 d.raw 24 ≤ 1480 → 
      exec (.templateSet r) s = .next (((s.gwFlush t).setGwTmpl t { (s.gwFlush t).gwTmpl t with
      hdr := d.buf, batch := u16 d.raw 22, maxData := u16 d.raw 24 }).finish d St.OK 0)) ∧
  (∀ (r c v : Nat) (d : Desc) (s : State), s.cur r 10 5 = some d → s.bit F.GWY_CFG_MASK_MASK (s.dPid d) = true → u16 d.raw 20 = c ∧ c ≤ 511 ∧ u32 d.raw 24 = v → 
      (s.gwFresh c = none → exec (.freshSet r) s = .next ((s.setGwFresh c (some v)).finish d St.OK 0)) ∧
      (∀ o, s.gwFresh c = some o → o ≤ v → exec (.freshSet r) s = .next ((s.setGwFresh c (some v)).finish d St.OK o)) ∧
      (∀ o, s.gwFresh c = some o → v < o → exec (.freshSet r) s = .next (s.finish d St.FRESH_LOW 0))) ∧
  (∀ (r : Nat) (d : Desc) (s : State), s.cur r 10 6 = some d → 
      (u32 d.raw 20 ≤ 1000000 → exec (.gwRecv r) s = .next (s.hold d)) ∧
      (1000000 < u32 d.raw 20 → exec (.gwRecv r) s = .next (s.finish d St.BADARG 0))) ∧
  (∀ (r : Nat) (d : Desc) (s : State), s.cur r 10 7 = some d → u16 d.raw 20 ≤ 2047 ∧ 32 ≤ d.len → 
      exec (.ruleRead r) s = .next ((s.setGwRule (u16 d.raw 20) { s.gwRule (u16 d.raw 20) with cnt := [0, 0, 0, 0] }).finishBuf d 0
      ((s.gwRule (u16 d.raw 20)).cnt.flatMap (leBytes 8)) St.OK 32)) ∧
  (∀ (r : Nat) (d : Desc) (s : State), s.bit F.GWY_CFG_MASK_MASK (s.dPid d) = false → 
      (s.cur r 10 1 = some d → exec (.ruleSet r) s = .next (s.finish d St.NOTPERMIT 0)) ∧
      (s.cur r 10 2 = some d → exec (.mapLoad r) s = .next (s.finish d St.NOTPERMIT 0)) ∧
      (s.cur r 10 3 = some d → exec (.pduSet r) s = .next (s.finish d St.NOTPERMIT 0)) ∧
      (s.cur r 10 4 = some d → exec (.templateSet r) s = .next (s.finish d St.NOTPERMIT 0)) ∧
      (s.cur r 10 5 = some d → exec (.freshSet r) s = .next (s.finish d St.NOTPERMIT 0)))

/-- Sleep, wake events, transceivers, wake windows, back-off and the VAON and OFF_WAIT conditions complete. SLEEP in RUN
with an armed source enters ENTERING; a drain that has ended goes on, one that has timed out aborts the sleep with
DRAIN_TMO. A wake event outside a sleep sets its pending bit; one from an armed source during ENTERING aborts the
sleep and in DOZE ends it; in OFF_WAIT it is recorded; in back-off it is counted only. Transceiver writes and signs
move the transceiver. A wake window that ends without confirmation counts a false wake; WAKE_CONFIRM and BACKOFF_CLEAR
by allowed partitions act on the sources written. The wake timer wakes as source 26. VAON rising resets the always-on
page, losing it stops the module. -/
def Obligations.WakeCommandsComplete : Prop :=
  (∀ (r mode : Nat) (d : Desc) (s : State), s.cur r 11 1 = some d → s.wakMay (s.dPid d) = true → u8 d.raw 20 = mode ∧ mode ≤ 1 → s.modState = Mod.RUN → (List.range 29).any (s.windowsEnd.armed mode) = true → 
      exec (.sleep r) s = .next (s.windowsEnd.sleepStart d mode)) ∧
  (∀ (r : Nat) (d : Desc) (s : State), s.cur r 11 1 = some d → 
      (s.wakMay (s.dPid d) = false → exec (.sleep r) s = .next (s.finish d St.NOTPERMIT 0)) ∧
      (s.wakMay (s.dPid d) = true → 1 < u8 d.raw 20 → exec (.sleep r) s = .next (s.finish d St.BADARG 0)) ∧
      (s.wakMay (s.dPid d) = true → u8 d.raw 20 ≤ 1 → s.modState ≠ Mod.RUN → exec (.sleep r) s = .next (s.finish d St.WRONG_STATE 0))) ∧
  (∀ (s : State), s.modState = Mod.ENTERING → s.wak.asleep = false → s.drained = true → 
      exec .sleepDrainEnd s = .next s.sleepOn) ∧
  (∀ (s : State), s.modState = Mod.ENTERING → s.wak.asleep = false → s.wak.drainBy ≤ s.now → s.drained = false → 
      exec .sleepDrainTimeout s = .next (s.sleepEnds St.DRAIN_TMO 0).enterRun) ∧
  (∀ (src : Nat) (s : State), src < 29 → s.wak.vaon = true → s.inBackoff src = true → 
      exec (.wakeEvent src) s = .next (s.count (C.WAK_SUPPRESSED src))) ∧
  (∀ (src : Nat) (s : State), src < 29 → s.wak.vaon = true → s.inBackoff src = false → s.wak.live = false → s.bit F.WAK_SRC_EN_SRC src = true → 
      exec (.wakeEvent src) s = .next ((s.set1 F.WAK_PEND_SRC src).wakRaise F.WAK_EVT_SRC_EVENT)) ∧
  (∀ (src : Nat) (s u : State), src < 29 → s.wak.vaon = true → s.inBackoff src = false → s.wak.live = true → s.wak.asleep = false → s.pow.logic = true → s.armed s.wak.mode src = true → (u = (s.recordWake src false (s.modState == Mod.DOZE)).onWak fun w => { w with woken := if w.woken.contains src then w.woken else w.woken ++ [src] }) → 
      (s.modState = Mod.ENTERING → exec (.wakeEvent src) s = .next (u.sleepAbort src)) ∧
      (s.modState = Mod.DOZE → exec (.wakeEvent src) s = .next u.dozeWake)) ∧
  (∀ (t : Nat) (s : State), s.wak.timerAt = some t → s.get F.WAK_TIMER_MS ≠ 0 → 1000000 * s.get F.WAK_TIMER_MS ≤ s.rcNs (s.now - t) → 
      exec .wakeTimerExpiry s = .next ((s.onWak fun w => { w with timerAt := none }).wakeEvent 26)) ∧
  (∀ (s : State), s.wak.asleep = true → s.wak.caused = true → 2000000 ≤ s.rcNs (s.now - s.wak.commitAt) → 
      exec .offWaitExpiry s = .next
      (((s.onPow fun p => { p with inh := true }).onWak fun w => { w with asleep := false, timerAt := none }).setCause 4 13 0)) ∧
  (∀ (pid n v : Nat) (s : State), n < 8 → s.wakMay pid = true → 
      exec (.trcvStateWrite pid n v) s = .next ((s.regApply (R.WAK_TRCV_CTL n) v).moveTrcv n (bits v 31 30))) ∧
  (∀ (n : Nat) (s : State), n < 8 → s.wak.vaon = true → 2 ≤ s.trcv n → 
      (s.decodes n = false → exec (.trcvWake n .pattern) s = .next (s.trcvWoke n false)) ∧
      (∀ f err, s.decodes n = true → exec (.trcvWake n (.frame f err)) s = .next (s.trcvFrame n f err))) ∧
  (∀ (src : Nat) (x : Nat × WakeWin) (s : State), ((s.wak.windows.find? fun x => x.1 == src) = some x) → x.2.ends ≤ s.aonNs → 
      exec (.wakeValidityEnd src) s = .next (
      let u := s.onWak fun w => { w with windows := w.windows.filter (·.1 != x.1) }
      if x.2.valid then u else u.falseWake x.1)) ∧
  (∀ (pid v : Nat) (s : State), s.wakMay pid = true → 
      exec (.wakeConfirm pid v) s = .next (forEach ((List.range 29).filter (bitOf v)) (fun n t => t.wakeMeets n) s) ∧
      exec (.backoffClear pid v) s = .next (forEach ((List.range 29).filter (bitOf v)) (fun n t => t.backoffEnd n) s)) ∧
  (∀ (pid v : Nat) (s : State), s.wakMay pid = false → 
      exec (.wakeConfirm pid v) s = .next s ∧ exec (.backoffClear pid v) s = .next s ∧ (∀ n, exec (.trcvStateWrite pid n v) s = .next s)) ∧
  (∀ (src : Nat) (s : State), src < 29 → s.backoffUntil src ≤ s.aonS → s.inBackoff src = true → 
      exec (.backoffEnd src) s = .next ((s.clr1 F.WAK_BACKOFF_SRC src).onWak fun w => { w with
      backoff := storeSet cntDefault w.backoff src 0, boEnd := true })) ∧
  (∀ (s : State), s.wak.vaon = false → 
      exec .vaonRise s = .next (
      let aon := fun a => keptWak a || a == R.FLT_RESET_CAUSE || a == R.FLT_ESC_CTL || a == R.PAI_TERM
      (((s.setRegs (s.regs.filter fun x => !aon x.1)).setCnts (s.cnts.filter fun x => !keptWak x.1)).onWak fun _ =>
      { Wak.reset with vaonAt := s.now }).onPow fun p => { p with inh := true, hist := [] })) ∧
  (∀ (s : State), s.wak.vaon = true → 
      exec .vaonLoss s = .next (
      ((s.stopLogic.onPow fun p => { p with inh := false, cycle := none, off := none, hist := [] }).onWak fun _ =>
      { Wak.reset with vaon := false }).onEnc fun e => { e with aon := 0 }))

/-- Inrush ends, trips, restarts and diagnostics of load channels complete. The inrush of a leader ends into ON after its
time. A channel that conducts trips at the end of its limit time, at three times its limit, above its thermal limit
and at 175 °C. A tripped leader restarts when its time is due and its junction has cooled, with one retry less; one
second of ON restores its retries. A diagnostic that has been debounced sets its flag and raises its event where its
check is armed, and its end clears the flag; one under blanking, or of a pulse too short to be evaluated, is ignored.
Times count on the die's own clock. -/
def Obligations.LoadChannelEventsComplete : Prop :=
  (∀ (n : Nat) (s : State), s.isLeader n = true → s.chState n = Ch.INRUSH → 1000000 * cfgInrushMs (s.cfg n) ≤ s.dieSince (n / 8) (s.ldcCh n).inrushAt → 
      exec (.inrushEnd n) s = .next ((s.toState n Ch.ON).setCh n { s.ldcCh n with onAt := s.now })) ∧
  (∀ (n : Nat) (s : State), n < 32 → s.chState n = Ch.ON → 100000 * cfgLimTime (s.cfg n) ≤ s.dieSince (n / 8) (s.ldcCh (s.leader n)).onAt → 
      exec (.limTimeExpiry n) s = .next (s.trip n Trip.OC)) ∧
  (∀ (n mA : Nat) (s : State), n < 32 → s.conducts n = true → 3 * s.limitMa n ≤ mA → 
      exec (.fastTrip n mA) s = .next (s.trip n Trip.FAST)) ∧
  (∀ (n : Nat) (tj tc : Int) (s : State), n < 32 → s.conducts n = true → 
      (175 ≤ tj → exec (.thermalTrip n tj tc) s = .next (s.trip n Trip.ABS)) ∧
      (tj < 175 → (cfgTlim (s.cfg n) : Int) < tj - tc → exec (.thermalTrip n tj tc) s = .next (s.trip n Trip.THERM)) ∧
      (tj < 175 → tj - tc ≤ (cfgTlim (s.cfg n) : Int) → exec (.thermalTrip n tj tc) s = .next s)) ∧
  (∀ (n : Nat) (tj tc : Int) (s : State), s.isLeader n = true → s.chState n = Ch.TRIPPED → 1000000 * cfgRetryMs (s.cfg n) ≤ s.dieSince (n / 8) (s.ldcCh n).tripAt → tj - tc < (cfgTlim (s.cfg n) : Int) - 15 → tj < 160 → 
      exec (.restartDue n tj tc) s = .next
      ((s.put (F.LDC_L_STAT_RETRY_LEFT n) (s.get (F.LDC_L_STAT_RETRY_LEFT n) - 1)).resumeCh n)) ∧
  (∀ (n : Nat) (s : State), s.isLeader n = true → s.chState n = Ch.ON → 1000000000 ≤ s.dieSince (n / 8) (s.ldcCh n).onAt → 
      exec (.retryReset n) s = .next
      ((s.put (F.LDC_L_STAT_RETRY_LEFT n) (cfgRetryN (s.cfg n))).put (F.LDC_L_STAT_THERM_CNT n) 0)) ∧
  (∀ (n w : Nat) (s : State), n < 32 → w < 4 → (s.ldcBank (n / 8)).powered = true → s.blanked n w = false → s.evaluated n w = true → 
      exec (.outputDiagDebounce n w false) s = .next (s.put (diagFlag n w) 0)) ∧
  (∀ (n w : Nat) (s : State), n < 32 → w < 4 → (s.ldcBank (n / 8)).powered = true → s.blanked n w = false → s.evaluated n w = true → s.diagArmed n w = true → 
      exec (.outputDiagDebounce n w true) s = .next (s.flagUp n (diagFlag n w)
      (if w < 2 then F.LDC_EVT_OPEN_LOAD else if w = 2 then F.LDC_EVT_STB else F.LDC_EVT_CH_UV) (decide (w < 2))))

/-- Bank currents and voltages of the power dies complete. A bank at 60 A folds back until it is below; a bank above 24 A
trips the least important conducting channel, at most one each millisecond; blanking after a trip ends at its time. A
bank below 14 V is shown undervolted; above 15.5 V its conducting leaders start again with an inrush. A die that
powers up above 10 V starts from its stored configuration in cast-off; below 9 V it is unpowered, and a negative
voltage is shown as reversed. -/
def Obligations.LoadBankEventsComplete : Prop :=
  (∀ (b mA : Nat) (s : State), b < 4 → (s.ldcBank b).powered = true → 
      (60000 ≤ mA → s.on (F.LDC_B_STAT_FOLD b) = false → exec (.bankFold b mA) s = .next
      (((s.put (F.LDC_B_STAT_FOLD b) 1).dieCount b (C.LDC_FOLD b)).bankEvent b F.LDC_EVT_BANK_FOLD)) ∧
      (mA < 60000 → exec (.bankFoldEnd b mA) s = .next (s.put (F.LDC_B_STAT_FOLD b) 0))) ∧
  (∀ (b mA l : Nat) (s : State), b < 4 → (s.ldcBank b).powered = true → 24000 < mA → (s.ldcBank b).ovlAt = none → ((((chansOf b).filter fun n => s.isLeader n && s.conducts n).find? fun l => ((chansOf b).filter fun n => s.isLeader n && s.conducts n).all (s.tripsBefore l)) = some l) → 
      exec (.bankOverload b mA) s = .next (((s.bankEvent b F.LDC_EVT_BANK_OVL).setBank b { s.ldcBank b with ovlAt := some (s.bankEvent b F.LDC_EVT_BANK_OVL).now }).trip l Trip.BANK)) ∧
  (∀ (b mA l t : Nat) (s u : State), b < 4 → (s.ldcBank b).powered = true → 24000 < mA → (s.ldcBank b).ovlAt = some t → 1000000 ≤ s.dieSince b t → ((((chansOf b).filter fun n => s.isLeader n && s.conducts n).find? fun l => ((chansOf b).filter fun n => s.isLeader n && s.conducts n).all (s.tripsBefore l)) = some l) → (u = if 100000000 ≤ s.dieSince b t then s.bankEvent b F.LDC_EVT_BANK_OVL else s) → 
      exec (.bankOverload b mA) s = .next ((u.setBank b { s.ldcBank b with ovlAt := some u.now }).trip l Trip.BANK)) ∧
  (∀ (b n t : Nat) (s : State), b < 4 → (s.ldcBank b).blank = some (n, t) → 200000 ≤ s.dieSince b t → 
      exec (.blankingEnd b) s = .next (s.setBank b { s.ldcBank b with blank := none })) ∧
  (∀ (b mV : Nat) (s : State), b < 4 → (s.ldcBank b).powered = true → 
      (mV < 14000 → s.on (F.LDC_B_STAT_UV b) = false → exec (.bankUndervoltage b mV) s = .next
      ((s.put (F.LDC_B_STAT_UV b) 1).bankEvent b F.LDC_EVT_BANK_UV)) ∧
      (15500 < mV → s.on (F.LDC_B_STAT_UV b) = true → exec (.bankUvRecover b mV) s = .next
      (forEach (chansOf b) (fun n t => if t.isLeader n && t.conducts n then t.enterInrush n else t) (s.put (F.LDC_B_STAT_UV b) 0)))) ∧
  (∀ (b mV : Nat) (s : State), b < 4 → (s.ldcBank b).powered = false → 10000 < mV → 
      exec (.powerDiePowerUp b mV) s = .next (
      let u := (((((forEach (chansOf b) State.clearCh s).relead b).setBank b { bankDefault b with powered := true, castOff := false, sampleAt := (((forEach (chansOf b) State.clearCh s).relead b).ldcBank b).sampleAt }).put (F.LDC_B_STAT_UV b) 1).put (F.LDC_B_STAT_REV b) 0)
      (if u.silent then forEach (chansOf b) State.holdCh u else u).castOff b)) ∧
  (∀ (b : Nat) (mV : Int) (s : State), b < 4 → mV < 9000 → 
      exec (.powerDieUnpowered b mV) s = .next (
      let u := if (s.ldcBank b).powered then (forEach (chansOf b) State.clearCh s).relead b else s
      let u := ((u.setBank b { bankDefault b with link := (s.ldcBank b).link, sampleAt := (s.ldcBank b).sampleAt }).put
      (F.LDC_B_STAT_UV b) 0).put (F.LDC_B_STAT_FOLD b) 0
      if mV < 0 then ((u.put (F.LDC_B_STAT_REV b) 1).put (F.LDC_B_V_VBANK b) (ofInt 16 (mV / 10))).raise F.LDC_EVT_REV else u))

/-- PWM frames, keep-alives, die watchdogs, die links, shedding and ended sampling complete. A PWM frame start takes each
leader's wanted duty. A keep-alive heard by an armed, powered die reloads its watchdog, and one without an answer is
counted. A watchdog that has run out casts the bank off. A lost link ends a store in the die and starts a gap of
samples; a restored one is heard again. SHED written by partition 0 takes effect. -/
def Obligations.LoadLinkCommandsComplete : Prop :=
  (∀ (b : Nat) (s : State), b < 4 → s.on (F.LDC_B_CTL_SYNC_EN b) = false → 
      exec (.pwmFrameStart b) s = .next (forEach (chansOf b) (fun n t =>
      if t.isLeader n && t.on (F.LDC_L_STAT_PWM n) then t.setCh n { t.ldcCh n with dutyNow := (t.wantPwm n).2 } else t) s)) ∧
  (∀ (b : Nat) (whole answered : Bool) (s u : State), b < 4 → s.pow.logic = true → (u = if whole && (s.ldcBank b).powered && (s.ldcBank b).armed then s.setBank b { s.ldcBank b with lastValid := s.now } else s) → 
      exec (.keepAliveSend b whole answered) s = .next (if answered then u else u.count (C.LDC_LINK_ERR b))) ∧
  (∀ (b : Nat) (s : State), b < 4 → 1000000 * (s.ldcBank b).wdMs ≤ s.dieSince b (s.ldcBank b).lastValid → 
      exec (.dieWatchdogExpiry b) s = .next (s.castOff b)) ∧
  (∀ (b : Nat) (s : State), b < 4 → (s.ldcBank b).link = true → 
      exec (.ldcLinkLost b) s = .next
      (((s.setBank b { s.ldcBank b with link := false, commit := none }).raise F.LDC_EVT_LINK_LOST).gapBegins b)) ∧
  (∀ (b : Nat) (s : State), b < 4 → (s.ldcBank b).powered = true → (s.ldcBank b).link = false → 
      exec (.ldcLinkRestored b) s = .next (s.hearDie b)) ∧
  (∀ (pid v : Nat) (s : State), (pid = 0 → exec (.ldcShedWrite pid v) s = .next ((s.put F.LDC_SHED_CH v).applyShed)) ∧
      (pid ≠ 0 → exec (.ldcShedWrite pid v) s = .next s))

/-- The opcodes of the load channels complete. A partition of CFG_MASK may command load channels, any other gets
NOTPERMIT. CH_SET to a leader whose die is there, in service and affordable records the command, obeys it and returns
the state. CH_CONFIG of a well-formed configuration to a channel that is off takes force; LATCH_CLR unlatches a
channel; WD_ARM arms the banks written; CO_STORE starts the die's store; TEST_SWEEP waits for its first measurements. -/
def Obligations.LoadOpcodesComplete : Prop :=
  (∀ (r n cmd duty : Nat) (d : Desc) (s : State), s.cur r 12 1 = some d → s.ldcMay d = true → u8 d.raw 20 = n ∧ u8 d.raw 21 = cmd ∧ u16 d.raw 22 = duty ∧ cmd ≤ 2 ∧ duty ≤ 4095 → s.isLeader n = true → ((s.on F.PAI_CTL_EN = false ∧ u32 d.raw 24 = 0) ∨ (s.on F.PAI_CTL_EN = true ∧ u32 d.raw 24 = s.get F.PAI_TERM_TERM)) → s.dieThere (n / 8) = true → (s.ldcBank (n / 8)).castOff = false → s.chState n ≠ Ch.HELD → s.affords (s.setDelta n cmd duty) s.floorPj = true → 
      exec (.chSet r) s = .next (((s.recordCmd n cmd duty).obeyCmd n).finish d
      (setStatus (((s.recordCmd n cmd duty).obeyCmd n).chState n) cmd)
      (((s.recordCmd n cmd duty).obeyCmd n).chState n + 2 ^ 32 * ((s.recordCmd n cmd duty).obeyCmd n).get F.TIM_NOW_NOW))) ∧
  (∀ (r n : Nat) (d : Desc) (s : State), s.cur r 12 2 = some d → s.ldcMay d = true → u8 d.raw 20 = n ∧ n < 32 ∧ d.len = 32 → cfgOk d.buf = true → (joinBad (fun m => if m = n then cfgJoin d.buf else cfgJoin (s.cfg m)) (n / 8) = false) → s.dieThere (n / 8) = true → s.chState n = Ch.OFF → 
      exec (.chConfig r) s = .next ((s.configure n d.buf).finish d St.OK 0)) ∧
  (∀ (r n m : Nat) (d : Desc) (s : State), s.cur r 12 3 = some d → s.ldcMay d = true → u8 d.raw 20 = n ∧ u8 d.raw 21 = m ∧ m < 4 → s.isLeader n = true → s.dieThere (n / 8) = true → ((s.chState n = Ch.LATCH_THERM ∧ bitOf m 0 = true) ∨ (s.chState n = Ch.LATCH_RETRY ∧ bitOf m 1 = true)) → 
      exec (.latchClr r) s = .next (
      let t := State.shedCh n ((((s.toState n Ch.OFF).put (F.LDC_L_STAT_RETRY_LEFT n) (cfgRetryN (s.cfg n)))).put (F.LDC_L_STAT_THERM_CNT n) 0)
      t.finish d St.OK (t.chState n))) ∧
  (∀ (r : Nat) (d : Desc) (s : State), s.cur r 12 4 = some d → s.ldcMay d = true → u8 d.raw 20 < 16 → 
      exec (.wdArm r) s = .next (
      let bs := (List.range 4).filter fun b => bitOf (u8 d.raw 20) b && s.dieThere b
      (forEach bs State.armBank s).finish d St.OK (setAll 0 (bs.filter fun b => (s.ldcBank b).castOff)))) ∧
  (∀ (r b : Nat) (d : Desc) (s : State), s.cur r 12 5 = some d → d.prog = 0 → s.ldcMay d = true → u8 d.raw 20 = b ∧ b < 4 → s.dieThere b = true → (((chansOf b).any fun n => s.chState n == Ch.HELD) = false) → 
      exec (.coStore r) s = .next ((s.setBank b { s.ldcBank b with commit := some ((chansOf b).map s.cfg, s.now) }).stitched d 1 0)) ∧
  (∀ (r n : Nat) (d : Desc) (s : State), s.cur r 12 6 = some d → d.prog = 0 → s.ldcMay d = true → n = ((List.range 32).filter (bitOf (u32 d.raw 20))).length → 0 < n ∧ 8 * n ≤ d.len → 
      exec (.testSweep r) s = .next (s.stitched d 1 d.acc)) ∧
  (∀ (r : Nat) (d : Desc) (s : State), s.ldcMay d = false → 
      (s.cur r 12 1 = some d → exec (.chSet r) s = .next (s.finish d St.NOTPERMIT 0)) ∧
      (s.cur r 12 2 = some d → exec (.chConfig r) s = .next (s.finish d St.NOTPERMIT 0)) ∧
      (s.cur r 12 3 = some d → exec (.latchClr r) s = .next (s.finish d St.NOTPERMIT 0)) ∧
      (s.cur r 12 4 = some d → exec (.wdArm r) s = .next (s.finish d St.NOTPERMIT 0)))

/-- Serial characters, gaps, transmissions, polarity and input samples complete. A character heard by an enabled port that
is not sending joins its PDU, or is read as a delimiter in delimited mode; a gap ends the PDU. A port that may send
starts its oldest SER_SEND; each character sent is compared with what is heard where ECHO_CHK asks it, a difference
ending the PDU as a collision, and the last one ends it with OK. Automatic polarity follows the line's voltage beyond
200 mV and is unknown within. Eight inputs of a group are sampled once its trigger has fired. -/
def Obligations.SerialAndInputCommandsComplete : Prop :=
  (∀ (n ago : Nat) (c : Byte) (ok : Bool) (s : State), n < 8 → s.on (F.SIO_U_CTL_EN n) = true → (s.ser n).send = none → 
      exec (.serialCharReceived n c ok ago) s = .next (
      let b := if s.on (F.SIO_U_CTL_DATA7 n) then c % 128 else c
      if s.on (F.SIO_U_FRM_MODE n) then (s.serDelimited n b ok (s.timAt (s.now - ago))).serShow n
      else (s.setSer n ((s.ser n).add b ok (s.timAt (s.now - ago)))).serShow n)) ∧
  (∀ (n : Nat) (s : State), n < 8 → s.on (F.SIO_U_CTL_EN n) = true → s.on (F.SIO_U_FRM_MODE n) = false → (s.ser n).inPdu = true → 
      exec (.serialGapTimeout n) s = .next (s.serEnd n)) ∧
  (∀ (n : Nat) (d : Desc) (l : List Desc) (s : State), n < 8 → (s.ser n).send = none → s.serDescs 1 n = d :: l → 
      exec (.serialTxStart n) s = .next ((s.setSer n { s.ser n with
      send := some (d.round, d.slot), tx := (s.serChars n d.buf).map (s.serBits n), sent := 0, txTs := s.timNow }).serShow n)) ∧
  (∀ (n heard : Nat) (c : Byte) (l : Bytes) (s u : State), (s.ser n).tx = c :: l → u = s.setSer n { s.ser n with tx := l, sent := (s.ser n).sent + 1 } → 
      (n < 4 → u.on (F.SIO_U_CTL_ECHO_CHK n) = true → heard ≠ c.toNat → exec (.serialCharSent n heard) s = .next
      (((u.count (C.SIO_COLLISION n)).raise F.SIO_EVT_COLLISION).serDone n St.COLLISION)) ∧
      (4 ≤ n ∨ u.on (F.SIO_U_CTL_ECHO_CHK n) = false ∨ heard = c.toNat → exec (.serialCharSent n heard) s = .next
      (if l.isEmpty then u.serDone n St.OK else u))) ∧
  (∀ (n : Nat) (mV : Int) (s : State), n < 4 → s.on (F.SIO_U_CTL_POL_AUTO n) = true → (s.ser n).inPdu = false → (s.ser n).send = none → 
      (-200 ≤ mV → mV ≤ 200 → exec (.polarityDecide n mV) s = .next (s.put (F.SIO_U_STAT_POL_UNKNOWN n) 1)) ∧
      (mV < -200 ∨ 200 < mV →
      exec (.polarityDecide n mV) s = .next ((((s.put (F.SIO_U_STAT_POL_UNKNOWN n) 0).put (F.SIO_U_CTL_POL_INV n)
      (b2n (decide (mV < -200)))).serShow n).raise F.SIO_EVT_POL))) ∧
  (∀ (g : Nat) (l : List Int) (s : State), g < 4 → bitOf s.sio.due g = true → 
      exec (.inputSample g l) s = .next (forEach (List.range 8) (fun i t => t.dinSample (8 * g + i) (l.getD i 0))
      (s.setSio { s.sio with due := clearBit s.sio.due g }))) ∧
  (∀ (r : Nat) (d : Desc) (s : State), s.bit F.SIO_CFG_MASK_MASK (s.dPid d) = true → 
      (s.cur r 13 1 = some d → u8 d.raw 20 ≤ 7 → 0 < d.len → d.len ≤ 512 → s.on (F.SIO_U_CTL_EN (u8 d.raw 20)) = true →
      exec (.serSend r) s = .next (s.hold d)) ∧
      (s.cur r 13 1 = some d → u8 d.raw 20 ≤ 7 → 0 < d.len → d.len ≤ 512 → s.on (F.SIO_U_CTL_EN (u8 d.raw 20)) = false →
      exec (.serSend r) s = .next (s.finish d St.PORT_OFF 0)) ∧
      (s.cur r 13 2 = some d → u8 d.raw 20 ≤ 7 → exec (.serRecv r) s = .next (s.hold d)) ∧
      (s.cur r 13 2 = some d → 7 < u8 d.raw 20 → exec (.serRecv r) s = .next (s.finish d St.BADARG 0)) ∧
      (s.cur r 13 3 = some d → 256 ≤ d.len → exec (.dinRead r) s = .next (s.finishBuf d 0 ((List.range 32).flatMap fun k =>
      leBytes 1 (b2n (s.bit F.SIO_DIN_STATE_VALUE k)) ++ leBytes 1 (s.get (supFld k)) ++
      leBytes 1 (b2n (s.bit F.SIO_DIN_RAW_RAW k)) ++ [0] ++ leBytes 4 (s.din k).chgAt) St.OK 256)) ∧
      (s.cur r 13 3 = some d → d.len < 256 → exec (.dinRead r) s = .next (s.finish d St.BADARG 0))) ∧
  (∀ (r : Nat) (d : Desc) (s : State), s.bit F.SIO_CFG_MASK_MASK (s.dPid d) = false → 
      (s.cur r 13 1 = some d → exec (.serSend r) s = .next (s.finish d St.NOTPERMIT 0)) ∧
      (s.cur r 13 2 = some d → exec (.serRecv r) s = .next (s.finish d St.NOTPERMIT 0)) ∧
      (s.cur r 13 3 = some d → exec (.dinRead r) s = .next (s.finish d St.NOTPERMIT 0)))

/-- Gauge's mode, evaluation, latch and level changes complete. MODE_SET by an allowed partition with a mode up to 2 and,
beside mains, a required time of 60 to 86,400 s declares the budget and returns the floor and whether it is reached.
An evaluation that is due projects the power and acts. A latch by an allowed partition copies every rail's energy and
power. A bank without samples for 100 ms starts a gap. A finished move of VCORE shows the level and raises LEVEL. -/
def Obligations.GaugeCommandsComplete : Prop :=
  (∀ (r : Nat) (d : Desc) (s : State), s.cur r 14 1 = some d → s.gauMay (s.dPid d) = true → u8 d.raw 20 ≤ 2 → (u8 d.raw 20 = 0 ∨ (60 ≤ u32 d.raw 28 ∧ u32 d.raw 28 ≤ 86400)) → 
      exec (.modeSet r) s = .next (
      let t := s.declare (u8 d.raw 20) (u32 d.raw 24) (u32 d.raw 28)
      t.finish d St.OK (t.get F.GAU_FLOOR_J + 2 ^ 32 * b2n (decide (t.leftPj ≤ t.floorPj))))) ∧
  (∀ (r : Nat) (d : Desc) (s : State), s.cur r 14 1 = some d → 
      (s.gauMay (s.dPid d) = false → exec (.modeSet r) s = .next (s.finish d St.NOTPERMIT 0)) ∧
      (s.gauMay (s.dPid d) = true → 2 < u8 d.raw 20 → exec (.modeSet r) s = .next (s.finish d St.BADARG 0))) ∧
  (∀ (s : State), (s.gau.due = true ∨ s.gau.evalAt + 1000000 * s.get F.GAU_CTL_EVAL_MS ≤ s.now) → 
      exec .gaugeEvaluate s = .next s.evaluate) ∧
  (∀ (b : Nat) (s : State), b < 4 → ((s.ldcBank b).sampleAt + 100000000 ≤ s.now ∨ (s.ldcBank b).link = false) → 
      exec (.sampleGap b) s = .next (s.gapBegins b)) ∧
  (∀ (pid v : Nat) (s : State), s.gauMay pid = true → bitOf v 0 = true → 
      exec (.gaugeLatch pid v) s = .next (forEach (List.range 42) (fun i t =>
      ((t.put (F.GAU_E_LO_UJ i) (s.gauE i / 1000 % 2 ^ 48)).put (F.GAU_E_HI_UJ i) (s.gauE i / 1000 % 2 ^ 48 / 2 ^ 32)).put (F.GAU_P_MW i)
      (meanMw (s.gauE i - (s.snapAt 1000000000).e.getD i 0) (s.now - (s.snapAt 1000000000).at_))) s)) ∧
  (∀ (lv : Nat) (s u : State), s.gau.moving = some lv → (u = ((((s.onGau fun g => { g with moving := none }).put F.GAU_STAT_LEVEL lv).raise F.GAU_EVT_LEVEL).gaugeDue.showEngines)) → 
      exec .levelChangeDone s = .next (if s.gauLevel < lv ∧ u.on F.CHT_STAT_MODE = false ∧ u.aud.pat.isSome = true then u.askChart .mode else u))

/-- Core schedules, partition restarts, watchdogs and lockstep complete. The window of a scheduled core that has run out
passes to the next; its trigger starts its table, cutting a window with SCHED_CUT. A partition reloads its own
watchdog only; a watchdog run down restarts its partition. A lockstep difference of an active pair is counted and
restarts the partition that the pair runs. SCHED_LOAD and PART_RESTART by partition 0 or 2 store a table and restart a
partition, enabled or not; others get NOTPERMIT. -/
def Obligations.CoreCommandsComplete : Prop :=
  (∀ (k : Nat) (s : State), s.scheduled k = true → s.winOf k ≠ 0 → storeGet cntDefault s.cor.winEnd k ≤ s.now → 
      exec (.windowBoundary k) s = .next (s.coreChange (State.enterWindow k (s.winOf k) (storeGet cntDefault s.cor.winEnd k)))) ∧
  (∀ (k f : Nat) (s u : State), s.scheduled k = true → f = s.fires (s.get (F.COR_A_CTL_TRG k)) → f ≠ storeGet cntDefault s.cor.seen k → (u = (s.onCor fun c => { c with seen := storeSet cntDefault c.seen k f }).coreChange (State.startTable k)) → 
      exec (.scheduleTrigger k) s = .next (if (s.onCor fun c => { c with seen := storeSet cntDefault c.seen k f }).winOf k ≠ 0 then u.raise F.COR_EVT_SCHED_CUT else u)) ∧
  (∀ (pid p : Nat) (s : State), (pid = p → isPart p = true → exec (.partitionKick pid p) s = .next (s.wdSync.wdLoad p)) ∧
      (pid ≠ p → exec (.partitionKick pid p) s = .next s)) ∧
  (∀ (p : Nat) (s t : State), t = s.wdSync → t.partOn p = true → t.get (F.COR_P_CTL_WD_MS p) ≠ 0 → t.canRun p = true → t.wdLeft p = 0 → 
      exec (.partitionWdExpiry p) s = .next (((t.count (C.COR_WD p)).raise F.COR_EVT_WD).restartPart p)) ∧
  (∀ (pair : Nat) (s u : State), pair < 4 → s.bit F.COR_LS_ACTIVE pair = true → u = (s.count C.COR_LOCKSTEP).raise F.COR_EVT_LOCKSTEP → 
      exec (.lockstepMismatch pair) s = .next (
      if isPart (s.get (F.COR_A_STAT_PID (2 * pair))) && u.get (F.COR_A_STAT_STATE (2 * pair)) != 3 then
      u.restartPart (s.get (F.COR_A_STAT_PID (2 * pair))) else u)) ∧
  (∀ (r k n : Nat) (d : Desc) (s : State), s.cur r 15 1 = some d → (s.dPid d = 0 ∨ s.dPid d = 2) → u8 d.raw 20 = k ∧ u16 d.raw 22 = n ∧ k < 8 ∧ 0 < n ∧ n ≤ 32 ∧ 8 * n ≤ d.len → s.actingCore k = k → schedOk n d.buf = true → 
      exec (.schedLoad r) s = .next (
      let u := (s.put (F.COR_A_STAT_PENDING k) 1).onCor fun c => { c with pendTbl := storeSet noTbl c.pendTbl k (schedEntries n d.buf) }
      u.finish d St.OK u.timNow)) ∧
  (∀ (r p : Nat) (d : Desc) (s : State), s.cur r 15 2 = some d → (s.dPid d = 0 ∨ s.dPid d = 2) → d.noBuf = true → u8 d.raw 20 = p → isPart p = true → 
      exec (.partRestart r) s = .next ((s.restartPart p).finish d St.OK (s.restartPart p).timNow)) ∧
  (∀ (r : Nat) (d : Desc) (s : State), s.dPid d ≠ 0 ∧ s.dPid d ≠ 2 → 
      (s.cur r 15 1 = some d → exec (.schedLoad r) s = .next (s.finish d St.NOTPERMIT 0)) ∧
      (s.cur r 15 2 = some d → exec (.partRestart r) s = .next (s.finish d St.NOTPERMIT 0)))

/-- Mailbox configuration, slots, doorbells, takes and time-outs complete. Partition 0 writes a mailbox's configuration, a
bad one raises CFG_BAD. The sender writes the slot, which on a full mailbox counts as a collision, and rings; the
receiver takes. Accesses of any other partition are counted as denied. A full mailbox whose time has run out shows
TIMEOUT and signals its sender. -/
def Obligations.MailboxCommandsComplete : Prop :=
  (∀ (pid n v : Nat) (s : State), n < 32 → 
      (pid = 0 → bitOf v 31 = false ∨ s.mbCfgOk n v = true → exec (.mbxEnable pid n v) s = .next (s.regApply (R.MBX_CFG n) v)) ∧
      (pid = 0 → bitOf v 31 = true → s.mbCfgOk n v = false → exec (.mbxEnable pid n v) s = .next (s.raise F.MBX_EVT_CFG_BAD)) ∧
      (pid ≠ 0 → exec (.mbxEnable pid n v) s = .next s)) ∧
  (∀ (pid n w v : Nat) (s : State), n < 32 ∧ w < 16 → s.mbMaySend pid n = true → 
      (s.put (F.MBX_SLOT_DATA n w) v).mbFull n = false → exec (.mbxSlotWrite pid n w v) s = .next (s.put (F.MBX_SLOT_DATA n w) v)) ∧
  (∀ (pid n w v : Nat) (s u : State), n < 32 ∧ w < 16 → s.mbMaySend pid n = true → u = s.put (F.MBX_SLOT_DATA n w) v → u.mbFull n = true → 
      exec (.mbxSlotWrite pid n w v) s = .next ((((u.put (F.MBX_STAT_SEQ n) (u.get (F.MBX_STAT_SEQ n) + 1)).put (F.MBX_STAT_COLLISION n) 1).count
      (C.MBX_COLL n)).raise F.MBX_EVT_COLLISION)) ∧
  (∀ (pid n v : Nat) (s : State), n < 32 → 
      (s.mbMaySend pid n = true → bitOf v 0 = true → exec (.mbxDoorbell pid n v) s = .next (s.mbRing n)) ∧
      (s.mbMaySend pid n = false → exec (.mbxDoorbell pid n v) s = .next s.mbDeny) ∧
      (s.mbMaySend pid n = false → ∀ w, w < 16 → exec (.mbxSlotWrite pid n w v) s = .next s.mbDeny) ∧
      (s.mbMayTake pid n = true → exec (.mbxTake pid n v) s = .next (s.mbTake n v)) ∧
      (s.mbMayTake pid n = false → exec (.mbxTake pid n v) s = .next s.mbDeny)) ∧
  (∀ (n t : Nat) (s : State), n < 32 → s.mbFull n = true → storeGet cntDefault s.cor.mbxDue n = t → t ≠ 0 ∧ t ≤ s.now → 
      exec (.mbxTimeout n) s = .next (s.mbTimeout n)) ∧
  (∀ (pid n : Nat) (s : State), n < 32 → 
      (s.mbMayRead pid n = false → exec (.mbxAccessDeny pid n false) s = .next s.mbDeny) ∧
      (s.mbMaySend pid n = false → s.mbMayTake pid n = false → exec (.mbxAccessDeny pid n true) s = .next s.mbDeny))

/-- Queue control, pushes, pops and peeks, and semaphores complete. Partition 0 enables a queue, which empties it, and
disables it, which drops its held pushes. Through the guard a push to an enabled queue with room joins its tail and is
answered; one to a full queue, or behind a held push (of the same queue: log 89), is held; one to a queue that is off
raises OFF_WRITE. A pop takes the head, or on an empty queue counts an underrun and returns the last item popped; a
peek takes nothing. A pop waits behind a held push of its own master, and one that meets an uncorrectable error ends
with MEDIA (the model's choice, log 90). A held push is put in once there is room, before the reads that wait behind
it. A free semaphore is acquired by its reader, a held one returns its holder and is counted; its holder releases it;
partition 0 reclaims it. A disabled partition acquires and releases none, and what its read returns is free (the
model's choice, log 102). -/
def Obligations.QueueAndSemaphoreCommandsComplete : Prop :=
  (∀ (n v : Nat) (s u : State), n < 64 → u = s.qFields n v → u.on (F.QUE_Q_CFG_EN n) = false → 
      exec (.queueEnable 0 n v) s = .next (((u.put (F.QUE_Q_CFG_EN n) 1).setItems n []).setQLast n 0)) ∧
  (∀ (n v : Nat) (s : State), n < 64 → s.on (F.QUE_Q_CFG_EN n) = true → 
      exec (.queueDisable 0 n v) s = .next (((s.qFields n v).put (F.QUE_Q_CFG_EN n) 0).dropPushes fun h => h.q == n)) ∧
  (∀ (src : Source) (n item : Nat) (s : State), n < 64 → onChip src = true → s.issues src = true → s.unacked src < 64 → s.denied (s.pidOf src) true (0x120000000 + 0x1000 * n + 0) 8 = none → 
      (s.mustHold src n = true → exec (.queuePush src n item) s = .next (s.setQue { s.que with held := s.que.held ++ [⟨n, src, s.pidOf src, item % 2 ^ 64, false⟩] })) ∧
      (s.mustHold src n = false → s.on (F.QUE_Q_CFG_EN n) = true → exec (.queuePush src n item) s = .next ((s.qPut n item).answer src 0 [])) ∧
      (s.mustHold src n = false → s.on (F.QUE_Q_CFG_EN n) = false → exec (.queuePush src n item) s = .next ((s.raise F.QUE_EVT_OFF_WRITE).answer src 0 []))) ∧
  (∀ (src : Source) (n : Nat) (s : State), n < 64 → onChip src = true → s.issues src = true → s.pushHeld src = false → s.denied (s.pidOf src) false (0x120000000 + 0x1000 * n + 8) 8 = none → s.on (F.QUE_Q_CFG_EN n) = true → s.marksIn (poolAddr n) 8 = [] → 
      (∀ v l, s.qItems n = v :: l → exec (.queuePop src n) s = .next ((((s.qShift n).setItems n l).setQLast n v).emit (.answer src 0 (leBytes 8 v)))) ∧
      (s.qItems n = [] → exec (.queuePop src n) s = .next ((((s.put (F.QUE_Q_STAT_UNDERRUN n) 1).count (C.QUE_UNDER n)).raise
      F.QUE_EVT_UNDERRUN).emit (.answer src 0 (leBytes 8 (s.qLast n)))))) ∧
  (∀ (src : Source) (n : Nat) (s : State), n < 64 → onChip src = true → s.issues src = true → s.pushHeld src = false → s.denied (s.pidOf src) false (0x120000000 + 0x1000 * n + 0x10) 8 = none → s.marksIn (poolAddr n) 8 = [] → 
      exec (.queuePeek src n) s = .next (s.emit (.answer src 0 (leBytes 8 (s.qPeek n))))) ∧
  (∀ (src : Source) (n : Nat) (s : State), n < 64 → onChip src = true → s.issues src = true → s.pushHeld src = false → s.denied (s.pidOf src) false (0x120000000 + 0x1000 * n + 8) 8 = none → s.on (F.QUE_Q_CFG_EN n) = true → s.qItems n ≠ [] → s.eccBad (poolAddr n) 8 = true → 
      exec (.queuePop src n) s = .next ((s.eccRead (poolAddr n) 8 (s.pidOf src) false).emit (.answer src St.MEDIA (leBytes 8 0)))) ∧
  (∀ (src : Source) (n : Nat) (m : Master) (t : Nat) (s : State), n < 64 → onChip src = true → s.issues src = true → s.pushHeld src = true → s.denied (s.pidOf src) false (0x120000000 + 0x1000 * n + 8) 8 = none → masterOf src = some m ∧ s.tagNow m = some t → 
      exec (.queuePop src n) s = .next (s.useTag t (s.pidOf src) ⟨src, 0x120000000 + 0x1000 * n + 8, 8, false, [], none, []⟩ false)) ∧
  (∀ (n i g : Nat) (h : HeldPush) (s : State), s.heldPlace n i = some g → s.que.held[g]? = some h → s.on (F.QUE_Q_CFG_EN n) = true ∧ s.qFull n = false → (s.que.held.take g).any (·.blocks h) = false → 
      exec (.queueHeldPushDone n i) s = .next (((((s.setQue { s.que with held :=
      ((s.que.held.take g).map fun e => { e with skipped := e.skipped || e.q == n }) ++ s.que.held.drop (g + 1) }).pushNow n h.val).answer
      h.src 0 [])).queueReads)) ∧
  (∀ (pid n : Nat) (s : State), n < 64 → s.partOff pid = false → 
      (s.get (F.SEM_STAT_OWNER n) = 0 → exec (.semAcquire pid n) s = .next ((s.put (F.SEM_STAT_OWNER n) (pid + 1)).emit (.regValue pid (R.SEM_ACQ n) 0))) ∧
      (s.get (F.SEM_STAT_OWNER n) ≠ 0 → exec (.semAcquire pid n) s = .next ((s.count C.SEM_FAIL).emit (.regValue pid (R.SEM_ACQ n) (s.get (F.SEM_STAT_OWNER n)))))) ∧
  (∀ (pid n : Nat) (s : State), n < 64 → s.partOff pid = true → 
      exec (.semAcquire pid n) s = .next (s.drawn.emit (.regValue pid (R.SEM_ACQ n) (s.free 240 % 64)))) ∧
  (∀ (pid n v : Nat) (s : State), n < 64 → 
      (s.get (F.SEM_STAT_OWNER n) = pid + 1 → v % 32 = pid → s.partOff pid = false → exec (.semRelease pid n v) s = .next (s.put (F.SEM_STAT_OWNER n) 0)) ∧
      (s.get (F.SEM_STAT_OWNER n) ≠ pid + 1 ∨ v % 32 ≠ pid ∨ s.partOff pid = true → exec (.semRelease pid n v) s = .next (s.raise F.SEM_EVT_BAD_REL))) ∧
  (∀ (v : Nat) (s : State), bitOf v 31 = true → s.get (F.SEM_STAT_OWNER (bits v 5 0)) ≠ 0 → 
      exec (.semReclaim 0 v) s = .next ((s.put (F.SEM_STAT_OWNER (bits v 5 0)) 0).raise F.SEM_EVT_RECLAIM)) ∧
  (∀ (pid v : Nat) (s : State), pid ≠ 0 → 
      exec (.semReclaim pid v) s = .next s)

/-- The key commands of the enclave complete. KEY_GENERATE by an administrator of a valid policy into a free slot stores a
fresh key, or raises RNG_FAIL where the generator is unhealthy; KEY_DERIVE starts its derivation from the roots or a
slot; KEY_IMPORT unwraps a key whose tag matches and ends others with TAG_BAD; KEY_ERASE frees a slot and returns its
type; PUBKEY_READ returns a public key. CUSTKEY_SET starts programming a free customer hash. Commands of partitions
that are no administrators end with NOTPERMIT. -/
def Obligations.KeyCommandsComplete : Prop :=
  (∀ (r : Nat) (healthy : Bool) (d : Desc) (s : State), s.cur r 0x13 1 = some d → s.encAdmin d = true → d.policyBad = false → u8 d.raw 21 ≠ 4 → s.unravelled = false → (s.keySlot (u8 d.raw 20)).ty = 0 → 
      exec (.keyGenerate r healthy) s = .next (
      if healthy then ((s.setKeySlot (u8 d.raw 20) (d.target (if u8 d.raw 21 = 3 then privOf (s.randBytes (typeLen (u8 d.raw 21)))
      else s.randBytes (typeLen (u8 d.raw 21))))).drawn).finish d St.OK 0
      else (s.raise F.ENC_EVT_RNG_FAIL).finish d St.RNG_FAIL 0)) ∧
  (∀ (r : Nat) (d : Desc) (s : State), s.cur r 0x13 2 = some d → s.encAdmin d = true → d.policyBad = false → u8 d.raw 23 = 0xFF ∧ 0 < u8 d.raw 28 ∧ u8 d.raw 28 ≤ 64 ∧ d.len = u8 d.raw 28 → s.unravelled = false → (s.keySlot (u8 d.raw 20)).ty = 0 → 
      exec (.keyDerive r) s = .next (s.encBegin d (s.derive s.roots (d.buf.take (u8 d.raw 28)) d.policy (u8 d.raw 21)) [] 0)) ∧
  (∀ (r k : Nat) (ikm : Bytes) (d : Desc) (s : State), s.cur r 0x13 2 = some d → s.encAdmin d = true → d.policyBad = false → u8 d.raw 23 = k ∧ k ≤ 63 ∧ 0 < u8 d.raw 28 ∧ u8 d.raw 28 ≤ 64 → s.slotCheck d k Ops.DERIVE = none → (d.len = (if (s.keySlot k).ty = 3 then u8 d.raw 28 + 97 else u8 d.raw 28)) → ((if (s.keySlot k).ty = 3 then dh384 (s.keySlot k).key (d.buf.drop (u8 d.raw 28)) else some (s.keySlot k).key) = some ikm) → (s.keySlot (u8 d.raw 20)).ty = 0 → 
      exec (.keyDerive r) s = .next (s.encBegin d (s.derive ikm (d.buf.take (u8 d.raw 28)) d.policy (u8 d.raw 21)) [] 0)) ∧
  (∀ (r u n : Nat) (d : Desc) (s : State), s.cur r 0x13 3 = some d → s.encAdmin d = true → d.policyBad = false → u8 d.raw 23 = u ∧ u ≤ 63 ∧ n = typeLen (u8 d.raw 21) ∧ d.len = 28 + n → s.slotCheck d u Ops.GCM = none → (s.keySlot (u8 d.raw 20)).ty = 0 → 
      exec (.keyImport r) s = .next (
      if gcmTag (s.keySlot u).key (d.buf.take 12) d.policy (slice d.buf 12 n) = slice d.buf (12 + n) 16 then
      (s.setKeySlot (u8 d.raw 20) (d.target (gcmText (s.keySlot u).key (d.buf.take 12) (slice d.buf 12 n)))).finish d St.OK 0
      else s.finish d St.TAG_BAD 0)) ∧
  (∀ (r k : Nat) (d : Desc) (s : State), s.cur r 0x13 4 = some d → u8 d.raw 20 = k ∧ k ≤ 63 → s.enc.debug = false → s.unravelled = false → (s.keySlot k).ty ≠ 0 → (s.encAdmin d = true ∨ bitOf (s.keySlot k).pmask (s.dPid d) = true) → 
      exec (.keyErase r) s = .next ((s.setKeySlot k (keySlotDefault k)).finish d St.OK (s.keySlot k).ty)) ∧
  (∀ (r k : Nat) (d : Desc) (s : State), s.cur r 0x13 5 = some d → u8 d.raw 20 = k → s.unravelled = false → s.outCheck d 97 = none → 
      (k = 0xFF → exec (.pubkeyRead r) s = .next (s.finishBuf d d.outOff (pubOf s.signer) St.OK 97)) ∧
      (k ≤ 63 → s.enc.debug = false → bitOf (s.keySlot k).pmask (s.dPid d) = true → (s.keySlot k).ty = 3 →
      exec (.pubkeyRead r) s = .next (s.finishBuf d d.outOff (pubOf (s.keySlot k).key) St.OK 97)) ∧
      (k ≤ 63 → s.enc.debug = false → bitOf (s.keySlot k).pmask (s.dPid d) = true → (s.keySlot k).ty = 4 →
      exec (.pubkeyRead r) s = .next (s.finishBuf d d.outOff (s.keySlot k).key St.OK 97))) ∧
  (∀ (r n : Nat) (d : Desc) (s : State), s.cur r 0x13 16 = some d → s.encAdmin d = true → u8 d.raw 20 = n ∧ n ≤ 1 ∧ d.len = 48 → s.custSet n = false → 
      exec (.custkeySet r) s = .next (s.encBegin d d.buf [] n)) ∧
  (∀ (r : Nat) (healthy : Bool) (d : Desc) (s : State), s.encAdmin d = false → 
      (s.cur r 0x13 1 = some d → exec (.keyGenerate r healthy) s = .next (s.finish d St.NOTPERMIT 0)) ∧
      (s.cur r 0x13 2 = some d → exec (.keyDerive r) s = .next (s.finish d St.NOTPERMIT 0)) ∧
      (s.cur r 0x13 3 = some d → exec (.keyImport r) s = .next (s.finish d St.NOTPERMIT 0)) ∧
      (s.cur r 0x13 12 = some d → exec (.debugChallenge r) s = .next (s.finish d St.NOTPERMIT 0)) ∧
      (s.cur r 0x13 13 = some d → exec (.debugOpen r) s = .next (s.finish d St.NOTPERMIT 0)) ∧
      (s.cur r 0x13 14 = some d → exec (.enrol r healthy) s = .next (s.finish d St.NOTPERMIT 0)) ∧
      (s.cur r 0x13 15 = some d → exec (.revoke r) s = .next (s.finish d St.NOTPERMIT 0)) ∧
      (s.cur r 0x13 16 = some d → exec (.custkeySet r) s = .next (s.finish d St.NOTPERMIT 0)))

/-- Signing, verifying, CMAC, GCM and attestation complete. Of a slot that the caller may use so, SIGN and VERIFY start,
CMAC returns the tag's first bytes, GCM_SEAL returns vector, text and tag and counts its slot's counter, GCM_OPEN
returns the text where the tag matches and zeros with TAG_BAD where not; ATTEST with a nonce of 8 to 64 bytes starts.
The layouts of the algorithms are those of the standards that the spec names (log 40). -/
def Obligations.CryptoCommandsComplete : Prop :=
  (∀ (r k : Nat) (d : Desc) (s : State), s.cur r 0x13 6 = some d → u8 d.raw 20 = k ∧ k ≤ 63 ∧ d.len = 48 → s.slotCheck d k Ops.SIGN = none → s.outCheck d 96 = none → 
      exec (.sign r) s = .next (s.encBegin d (s.keySlot k).key [] 0)) ∧
  (∀ (r k : Nat) (d : Desc) (s : State), s.cur r 0x13 7 = some d → u8 d.raw 20 = k ∧ k ≤ 63 ∧ d.len = 144 → s.slotCheck d k Ops.VERIFY = none → 
      exec (.verify r) s = .next (s.encBegin d (if (s.keySlot k).ty = 3 then pubOf (s.keySlot k).key else (s.keySlot k).key) [] 0)) ∧
  (∀ (r k n : Nat) (d : Desc) (s : State), s.cur r 0x13 8 = some d → u8 d.raw 20 = k ∧ k ≤ 63 ∧ u8 d.raw 21 = n ∧ 4 ≤ n ∧ n ≤ 16 → s.slotCheck d k Ops.CMAC = none → s.outCheck d n = none → 
      exec (.cmac r) s = .next (s.finishBuf d d.outOff ((cmacOf (s.keySlot k).key d.buf).take n) St.OK 0)) ∧
  (∀ (r k n : Nat) (d : Desc) (s : State), s.cur r 0x13 9 = some d → u8 d.raw 20 = k ∧ k ≤ 63 ∧ u32 d.raw 28 = n ∧ n ≤ d.len → s.slotCheck d k Ops.GCM = none → s.outCheck d (d.len - n + 28) = none → 
      exec (.gcmSeal r) s = .next (
      let iv := ivOf (s.gcmCtr k)
      let ct := gcmText (s.keySlot k).key iv (d.buf.drop n)
      let out := iv ++ ct ++ gcmTag (s.keySlot k).key iv (d.buf.take n) ct
      (s.onEnc fun e => { e with ctr := storeSet cntDefault e.ctr k (s.gcmCtr k + 1), stale := false }).finishBuf d d.outOff out St.OK out.length)) ∧
  (∀ (r k n m : Nat) (d : Desc) (s : State), s.cur r 0x13 10 = some d → u8 d.raw 20 = k ∧ k ≤ 63 ∧ u32 d.raw 28 = n ∧ m = d.len - n - 28 ∧ n + 28 ≤ d.len → s.slotCheck d k Ops.GCM = none → s.outCheck d m = none → 
      exec (.gcmOpen r) s = .next (
      if gcmTag (s.keySlot k).key (d.buf.take 12) (slice d.buf 12 n) (slice d.buf (12 + n) m) = slice d.buf (12 + n + m) 16 then
      s.finishBuf d d.outOff (gcmText (s.keySlot k).key (d.buf.take 12) (slice d.buf (12 + n) m)) St.OK m
      else s.finishBuf d d.outOff (zeros m) St.TAG_BAD 0)) ∧
  (∀ (r n : Nat) (d : Desc) (s : State), s.cur r 0x13 11 = some d → u8 d.raw 20 = n ∧ 8 ≤ n ∧ n ≤ 64 ∧ d.len = n → s.unravelled = false → 
      exec (.attest r) s = .next (match s.outCheck d (s.statement d.buf).length with
      | none => s.encBegin d [] [] 0
      | some st => s.finish d st 0))

/-- Tamper, challenges, debug, enrolment and revocation complete. A tamper source that is watched unravels the key store,
and the gateway rule whose CMAC it tore is counted; the loss of VBAK shows at the next check of the store. A challenge
an administrator asks for is a fresh value; it ends after 60 s. DEBUG_OPEN with a good token opens debug unless the
debug fuse is set, REVOKE revokes a customer root, ENROL with a healthy generator and a free record starts; each
spends the challenge, and a bad token is counted and ends with TOKEN_BAD. -/
def Obligations.EnclaveLifeCommandsComplete : Prop :=
  (∀ (src : Nat) (torn : Option Nat) (s : State), src ≠ 6 → s.tampWatched src = true → 
      exec (.tamperAssert src torn) s = .next ((s.tamper src).gwTorn (if s.pow.logic then torn else none))) ∧
  (∀ (torn : Option Nat) (s : State), exec (.tamperAssert 6 torn) s = .next (s.onEnc fun e => { e with stale := true })) ∧
  (∀ (c t : Nat) (s : State), s.enc.chal = some (c, t) → t + 60000000000 ≤ s.now → 
      exec .challengeExpiry s = .next (s.onEnc fun e => { e with chal := none })) ∧
  (∀ (r : Nat) (d : Desc) (s : State), s.cur r 0x13 12 = some d → s.encAdmin d = true → 
      exec (.debugChallenge r) s = .next
      (((s.onEnc fun e => { e with chal := some (s.free 306 % 2 ^ 64, s.now) }).drawn).finish d St.OK (s.free 306 % 2 ^ 64))) ∧
  (∀ (r : Nat) (d : Desc) (s u : State), s.cur r 0x13 13 = some d → s.encAdmin d = true → s.on F.ENC_STAT_DEBUG_FUSE = false → (u = s.onEnc fun e => { e with chal := none }) → 
      exec (.debugOpen r) s = .next (
      if s.tokenOk d.buf 1 then (((u.onEnc fun e => { e with debug := true }).encShow).raise F.ENC_EVT_DEBUG).finish d St.OK 0
      else (u.count C.ENC_TOKEN_BAD).finish d St.TOKEN_BAD 0)) ∧
  (∀ (r : Nat) (d : Desc) (s u : State), s.cur r 0x13 15 = some d → s.encAdmin d = true → (u = s.onEnc fun e => { e with chal := none }) → 
      exec (.revoke r) s = .next (
      if s.tokenOk d.buf 3 then
      let v := (u.put (if u8 d.buf 2 = 0 then F.ENC_ROOTS_REV0 else F.ENC_ROOTS_REV1) 1).raise F.ENC_EVT_REVOKED
      v.finish d St.OK ((v.rd R.ENC_ROOTS).toNat % 256)
      else (u.count C.ENC_TOKEN_BAD).finish d St.TOKEN_BAD 0)) ∧
  (∀ (r n : Nat) (d : Desc) (s u : State), s.cur r 0x13 14 = some d → s.encAdmin d = true → s.outCheck d 97 = none → (u = s.onEnc fun e => { e with chal := none }) → u.enrolRec (u8 d.buf 2) = some n → 
      exec (.enrol r true) s = .next (
      if s.tokenOk d.buf 2 then ((u.encBegin d (privOf (u.drawn.randBytes 48)) (u.randBytes 48) n).drawn).drawn
      else (u.count C.ENC_TOKEN_BAD).finish d St.TOKEN_BAD 0))

/-- The Igion service commands of the management port complete. On the management port's link an ARP request for the
service address is answered. A well-formed message, while the service link is permitted, keeps its session alive:
HELLO returns the identification; OPEN claims the staging area, erases it and answers WAIT; DATA programs a part of
the image; COMMIT ends the session with OK where the image is whole and its CRC matches, else with BAD; ABORT ends it;
RESET orders a warm reset where enabled. A malformed message is counted. A session without messages for 60 s ends. The
layouts are the model's reading (log 56). -/
def Obligations.ServiceLinkCommandsComplete : Prop :=
  (∀ (f : Bytes) (s : State), s.isUp 20 = true → s.isArp f = true → 
      exec (.igionArp f) s = .next (s.arpAnswer f)) ∧
  (∀ (f : Bytes) (s : State), s.isUp 20 = true → s.isIgion f = true → igMsg f = none → 
      exec (.igionHello f) s = .next (s.count C.BOO_IGION_DROP)) ∧
  (∀ (f : Bytes) (m : IgMsg) (s t : State), s.isUp 20 = true → s.isIgion f = true → igMsg f = some m → s.igPermitted = true → t = s.igTouch m.ask → 
      (m.op = 1 → exec (.igionHello f) s = .next (t.igReply m.ask 1 Ig.OK (leBytes 4 (t.view R.ENC_SERIAL_LO) ++ leBytes 4 (t.view R.ENC_SERIAL_HI) ++
      leBytes 4 (t.view R.BOO_STAT) ++ leBytes 4 (t.view R.BOO_VER_ACTIVE) ++ leBytes 4 (t.view R.BOO_VER_FALLBACK) ++
      leBytes 4 (t.view R.BOO_VER_STAGING) ++ leBytes 4 (t.view R.BOO_STRAP) ++ leBytes 4 (t.view R.BOO_FLOOR)))) ∧
      (m.op = 6 → t.on F.BOO_CTL_IGION_RESET = true → exec (.igionReset f) s = .next ((t.igReply m.ask 6 Ig.OK).warmAt 7 (t.now + 10000000))) ∧
      (m.op = 6 → t.on F.BOO_CTL_IGION_RESET = false → exec (.igionReset f) s = .next (t.igReply m.ask 6 Ig.REFUSED))) ∧
  (∀ (f : Bytes) (m : IgMsg) (s t : State), s.isUp 20 = true → s.isIgion f = true → igMsg f = some m → m.op = 2 → s.igPermitted = true → t = s.igTouch m.ask → t.boo.session = none → m.data.length = 4 ∧ u32 m.data 0 ≤ areaSize → t.mayClaim = true → 
      exec (.igionOpen f) s = .next (
      let u := (t.claim 1).onBoo fun b => { b with session := some ⟨m.ask.id, u32 m.data 0, [], t.now⟩ }
      ((u.eraseStaging (u32 m.data 0) .igErase).raise F.BOO_EVT_IGION).igReply m.ask 2 Ig.WAIT)) ∧
  (∀ (f : Bytes) (m : IgMsg) (x : IgSession) (s t : State), s.isUp 20 = true → s.isIgion f = true → igMsg f = some m → m.op = 3 → s.igPermitted = true → t = s.igTouch m.ask → t.boo.session = some x → x.id = m.ask.id → m.ask.off % 1024 = 0 ∧ 0 < m.data.length ∧ m.ask.off + m.data.length ≤ x.total → 
      exec (.igionData f) s = .next (if x.done.contains (m.ask.off / 1024) then t.igReply m.ask 3 Ig.OK
      else t.programPages (areaBase Area.STAGING + m.ask.off) (stageData m.ask.off m.data) (.igData m.ask))) ∧
  (∀ (f : Bytes) (m : IgMsg) (x : IgSession) (s t : State), s.isUp 20 = true → s.isIgion f = true → igMsg f = some m → s.igPermitted = true → t = s.igTouch m.ask → t.boo.session = some x → x.id = m.ask.id → 
      (m.op = 4 → exec (.igionCommit f) s = .next (if !t.igErasing && x.full && t.stagedCrcOk then (t.igEnd.stagedReady.igReply m.ask 4 Ig.OK).serviceApply
      else t.igEnd.igReply m.ask 4 Ig.BAD)) ∧
      (m.op = 5 → exec (.igionAbort f) s = .next (t.igEnd.igReply m.ask 5 Ig.OK))) ∧
  (∀ (x : IgSession) (s : State), s.boo.session = some x → x.lastAt + 60000000000 ≤ s.now → 
      exec .igionSessionTimeout s = .next (((s.dropOps FlashFor.isIgion).onBoo fun b => { b with session := none }).release))

/-- The chain update frames complete. A frame of the update chain for a port that is UP, while chain updates are
permitted, with a sound header acts by its kind: a START of a new image claims and erases the staging area and goes on
to the next port; a BLOCK of the reception under way is programmed, a known one acknowledged, a bad one refused; an
END completes the image where all blocks are there and its CRC matches; ACK and NAK move the outgoing transfer. Other
frames are counted as dropped. Frames not acknowledged within 50 ms go out again; a reception unheard for 10 s ends. -/
def Obligations.ChainUpdateCommandsComplete : Prop :=
  (∀ (p : Nat) (f b : Bytes) (i : ChainIn) (s u : State), s.isUp p = true → s.isChain p f = true → s.chainPermitted = true → (stripTag f).drop 14 = b → chainHeaderOk b = true → u8 b 0 = Chain.START → i = ⟨p, u32 b 4, u32 b 12, u8 b 2, [], s.now⟩ → i.hop ≤ 31 ∧ 0 < i.blocks ∧ i.blocks ≤ areaSize / 4096 → s.boo.chainIn = none → s.hasImage i.image = false → s.mayClaim = true → (u = (s.claim 2).onBoo fun t => { t with chainIn := some i }) → 
      exec (.chainStart p f) s = .next (((u.put F.BOO_CHAIN_STAT_STORED 0).eraseStaging (4096 * i.blocks) .chErase).forward i)) ∧
  (∀ (p : Nat) (f b : Bytes) (i : ChainIn) (s u : State), s.isUp p = true → s.isChain p f = true → s.chainPermitted = true → (stripTag f).drop 14 = b → chainHeaderOk b = true → u8 b 0 = Chain.BLOCK → s.inOf p b = some i → (u = s.updIn fun x => { x with heardAt := s.now }) → u32 b 8 < i.blocks → 
      exec (.chainBlock p f) s = .next (
      if b.length < 4128 ∨ u32 b 16 ≠ crc32 (slice b 32 4096) then u.chainDrop.chainSay i Chain.NAK (u32 b 8)
      else if i.done.contains (u32 b 8) then u.chainSay i Chain.ACK (u32 b 8)
      else if u.boo.ops.any fun o => o.who == .chBlock (u32 b 8) then u
      else u.programPages (areaBase Area.STAGING + 4096 * u32 b 8) (stageData (4096 * u32 b 8) (slice b 32 4096)) (.chBlock (u32 b 8)))) ∧
  (∀ (p : Nat) (f b : Bytes) (i : ChainIn) (s : State), s.isUp p = true → s.isChain p f = true → s.chainPermitted = true → (stripTag f).drop 14 = b → chainHeaderOk b = true → u8 b 0 = Chain.END → s.inOf p b = some i → 
      exec (.chainEnd p f) s = .next (
      if i.done.length = i.blocks && s.stagedCrcOk && dirCrc (s.areaDir Area.STAGING) == i.image then
      (((s.onBoo fun t => { t with chainIn := none }).stagedReady).chainSay i Chain.ACK (u32 b 8)).outPump (1 - p)
      else (s.inEnd i).chainSay i Chain.NAK (u32 b 8))) ∧
  (∀ (p : Nat) (f b : Bytes) (c : ChainOut) (s : State), s.isUp p = true → s.isChain p f = true → s.chainPermitted = true → (stripTag f).drop 14 = b → chainHeaderOk b = true → s.chainOutAt p = some c → c.image = u32 b 4 → 
      (u8 b 0 = Chain.ACK → exec (.chainAck p f) s = .next (s.outAck c (u32 b 8))) ∧
      (u8 b 0 = Chain.NAK → exec (.chainAck p f) s = .next (s.outNak c (u32 b 8)))) ∧
  (∀ (p : Nat) (c : ChainOut) (s : State), s.chainOutAt p = some c → 
      (c.begun = true → exec (.chainRepeatTimeout p) s = .next (forEach (c.flight.filter fun x => decide (x.2.1 + 50000000 ≤ s.now))
      (fun x t => match t.chainOutAt p with | some d => t.outAgain d x.1 | none => t) s)) ∧
      (c.begun = false → c.startAt + 1000000000 ≤ s.now → c.starts ≤ 60 → exec (.chainRepeatTimeout p) s = .next
      (((s.updOut p fun c => { c with starts := c.starts + 1, startAt := s.now }).count C.BOO_CHAIN_RETX).chainTx p Chain.START c.hop c.image
      chainStartIdx c.blocks))) ∧
  (∀ (i : ChainIn) (s : State), s.boo.chainIn = some i → i.heardAt + 10000000000 ≤ s.now → 
      exec .chainRxTimeout s = .next (s.inEnd i))

/-- Flash operations, the opcodes of the boot unit, the confirmation and the trial's end complete. STAGE_ERASE by an
allowed partition while nothing else writes claims the staging area; CONFIG_WRITE of a container that verifies starts
on the copy not in use and ends with AREA_BAD otherwise; CHAIN_SEND of a ready staging area starts a transfer. A flash
operation that ends takes effect, or leaves what a reset left, and its owner goes on. CONFIRM with its key during a
trial ends it, appends CONFIRMED and raises the floors; a trial that runs out orders a warm reset. Others get
NOTPERMIT. -/
def Obligations.UpdateCommandsComplete : Prop :=
  (∀ (r : Nat) (d : Desc) (s : State), s.cur r 0x14 1 = some d → d.noBuf = true → s.booMay d = true → s.mayClaim = true → 
      exec (.stageErase r) s = .next ((s.claim 3).stageEraseStitch d)) ∧
  (∀ (r : Nat) (d : Desc) (s : State), s.cur r 0x14 2 = some d → d.len ≤ 0x400000 → s.booMay d = true → ((s.rnd.descs.any fun e => e.func == 0x14 && e.opcode == 2 && e.running && e.fin.isNone) = false) → 
      exec (.configWrite r) s = .next (if s.verifyBuf d.buf ≠ 0 then s.lastStitch d St.AREA_BAD (s.verifyBuf d.buf)
      else (s.onBoo fun b => { b with copy := 1 - s.configCopy.getD 1 }).configStitch d)) ∧
  (∀ (r p : Nat) (d : Desc) (s : State), s.cur r 0x14 3 = some d → u8 d.raw 20 = p ∧ p < 2 → d.noBuf = true → s.booMay d = true → s.chainOutAt p = none → stagingState (s.areaDir Area.STAGING) = 2 → s.writer = 0 → 
      exec (.chainSend r) s = .next ((s.stitched d 0 0).outStart p (dirCrc (s.areaDir Area.STAGING))
      (ceilDiv (dirUsed (s.areaDir Area.STAGING)) 4096) 0 (some (d.round, d.slot)))) ∧
  (∀ (r : Nat) (d : Desc) (s : State), s.booMay d = false → 
      (s.cur r 0x14 1 = some d → d.noBuf = true → exec (.stageErase r) s = .next (s.lastStitch d St.NOTPERMIT 0)) ∧
      (s.cur r 0x14 2 = some d → d.len ≤ 0x400000 → exec (.configWrite r) s = .next (s.lastStitch d St.NOTPERMIT 0)) ∧
      (s.cur r 0x14 3 = some d → d.noBuf = true → u8 d.raw 20 < 2 → exec (.chainSend r) s = .next (s.lastStitch d St.NOTPERMIT 0))) ∧
  (∀ (w : Nat) (left : Option Bytes) (o : FlashOp) (s : State), ((s.boo.ops.find? fun o => o.flash == w) = some o) → 
      exec (.flashOperationDone w left) s = .next (
      let u := (s.onBoo fun b => { b with ops := dropFirst (fun p => p.flash == w) b.ops }).flashEffect o left
      (u.answerHeld o).opEnded o)) ∧
  (∀ (pid v : Nat) (s : State), bits v 15 0 = 0xC0F1 → pid < 32 → s.bit F.BOO_CFG_MASK_MASK pid = true → s.get F.BOO_STAT_BOOT_STATE = 2 → 
      exec (.booConfirm pid v) s = .next ((((s.appendFor Phase.CONFIRMED 0 Area.ACTIVE).raiseFloors.bootState 0).onBoo fun b =>
      { b with trial := none }).raise F.BOO_EVT_CONFIRMED)) ∧
  (∀ (t : Nat) (s : State), s.boo.trial = some t → s.get F.BOO_STAT_BOOT_STATE = 2 → t ≤ s.now → 
      exec .trialExpiry s = .next (((s.bootState 3).onBoo fun b => { b with trial := none }).warmDue 6))

/-- The pair function's switch, its timers and its frames complete. EN set by partition 0 takes both lanes and enters
STARTING; EN cleared ends bridged accesses with PEER, gives the lanes back and makes the module silent. The heartbeats
of a period leave every 100 µs. DEAD_US without one declares the partner dead; START_MS promotes a STARTING module or
isolates it; WITNESS_MS without a beacon promotes an ISOLATED one; a PRIMARY sends beacons on X0 and X1. A frame of
the other rank and of no lower term adopts its term and acts by its KIND; a lower one is counted and discarded, a
request answered TERM. Frame details the spec leaves open are the model's (log 51). -/
def Obligations.PairCommandsComplete : Prop :=
  (∀ (v : Nat) (s : State), exec (.pairEnable 0 v) s = .next (
      let w := setBit v 31
      let u := s.put F.PAI_CTL_BEACON_EN (bits w 29 29)
      let u := if 100 ≤ bits w 15 0 ∧ bits w 15 0 ≤ 60000 then u.put F.PAI_CTL_START_MS (bits w 15 0) else u
      (u.put F.PAI_CTL_WITNESS (bits w 30 30)).pairEnable)) ∧
  (∀ (v : Nat) (s : State), exec (.pairDisable 0 v) s = .next (
      let w := clearBit v 31
      let u := s.put F.PAI_CTL_BEACON_EN (bits w 29 29)
      let u := if 100 ≤ bits w 15 0 ∧ bits w 15 0 ≤ 60000 then u.put F.PAI_CTL_START_MS (bits w 15 0) else u
      (u.put F.PAI_CTL_WITNESS (bits w 30 30)).pairDisable)) ∧
  (∀ (s : State), s.pairOn = true → s.pai.hbNext ≤ s.now → 
      exec .heartbeatSend s = .next (
      let v := forEach s.lanesUp State.beatOn (forEach [0, 1] State.missed s)
      (v.onPai fun p => { p with hbSeen := [], hbNext := (v.now / 100000 + 1) * 100000 }).crossNow)) ∧
  (∀ (t : Nat) (s : State), s.pai.hbAt = some t → s.pairOn = true → s.on F.PAI_STAT_PARTNER_ALIVE = true → t + 1000 * s.get F.PAI_DEAD_DEAD_US ≤ s.now → 
      exec .partnerDead s = .next s.partnerDead) ∧
  (∀ (s : State), s.pairOn = true → s.role = Role.STARTING → max s.pai.startAt (max (s.pai.hbAt.getD 0) (s.pai.clashAt.getD 0)) + 1000000 * s.get F.PAI_CTL_START_MS ≤ s.now → 
      exec .startTimeout s = .next (if s.on F.PAI_CTL_WITNESS then (s.setRole Role.ISOLATED).raise F.PAI_EVT_ISOLATED else s.promote 0)) ∧
  (∀ (s : State), s.pairOn = true → s.role = Role.ISOLATED → s.pai.beaconAt.getD s.pai.startAt + 1000000 * s.get F.PAI_WITNESS_WITNESS_MS ≤ s.now → 
      exec .witnessTimeout s = .next (s.promote 0)) ∧
  (∀ (s : State), s.isPrimary = true → s.on F.PAI_CTL_BEACON_EN = true → s.pai.beaconNext ≤ s.now → 
      exec .beaconSend s = .next ((forEach [0, 1] State.beaconOn s).onPai fun p => { p with
      beaconNext := s.now + 1000000 * s.get F.PAI_WITNESS_BEACON_MS })) ∧
  (∀ (lane : Nat) (b h body : Bytes) (role : Nat) (s : State), lane < 2 → s.laneUp lane = true → s.pairOn = true → etherType b = 0x88B6 → h = b.drop 14 → body = slice h 20 (u16 h 16) → role = bits (u8 h 2) 3 1 → u8 h 1 = 1 ∧ u8 h 2 % 2 ≠ s.rank → 
      (u8 h 0 = Kind.HEARTBEAT → s.get F.PAI_TERM_TERM ≤ u32 h 4 →
      exec (.heartbeatReceive lane b) s = .next (((s.put F.PAI_STAT_PARTNER_ROLE role).adopt (u32 h 4) role).beat lane role (u32 h 12) body)) ∧
      (u8 h 0 = Kind.MIRROR → s.get F.PAI_TERM_TERM ≤ u32 h 4 →
      exec (.mirrorReceive lane b) s = .next (((s.put F.PAI_STAT_PARTNER_ROLE role).adopt (u32 h 4) role).mirrorIn (u32 h 8) body)) ∧
      (u8 h 0 = Kind.BRIDGE_REQ → s.get F.PAI_TERM_TERM ≤ u32 h 4 →
      exec (.bridgeRequest lane b) s = .next (((s.put F.PAI_STAT_PARTNER_ROLE role).adopt (u32 h 4) role).bridgeIn body)) ∧
      (u8 h 0 = Kind.BRIDGE_CPL → s.get F.PAI_TERM_TERM ≤ u32 h 4 →
      exec (.bridgeCompletion lane b) s = .next (((s.put F.PAI_STAT_PARTNER_ROLE role).adopt (u32 h 4) role).bridgeCpl body)) ∧
      (u8 h 0 = Kind.TERM → s.get F.PAI_TERM_TERM ≤ u32 h 4 → exec (.termReceive lane b) s = .next (
      let u := (s.put F.PAI_STAT_PARTNER_ROLE role).adopt (max (u32 h 4) (u32 body 0)) role
      if u8 body 4 = 1 ∧ u.role = Role.STANDBY then u.promote 0 else u)) ∧
      (u32 h 4 < s.get F.PAI_TERM_TERM → exec (.termReceive lane b) s = .next (
      let u := (s.count C.PAI_STALE_TERM).raise F.PAI_EVT_STALE_TERM
      if u8 h 0 = Kind.BRIDGE_REQ then u.bridgeReply (u32 body 12) St.TERM [] else u))) ∧
  (∀ (port : Nat) (b h body : Bytes) (s : State), port < 2 ∧ s.isUp port → etherType b = 0x88B6 → h = b.drop 14 → body = slice h 20 (u16 h 16) → u8 h 0 = Kind.BEACON → s.pairOn = true → u8 h 1 = 1 ∧ u8 h 2 % 2 ≠ s.rank → u32 body 0 = s.get F.PAI_ID_PAIR_ID → slice body 4 8 ≠ s.serial → u32 h 4 = s.get F.PAI_TERM_TERM ∧ s.role ≠ Role.PRIMARY → 
      exec (.beaconReceive port b) s = .next
      ((s.put F.PAI_STAT_PARTNER_ROLE (bits (u8 h 2) 3 1)).onPai fun p => { p with beaconAt := some s.now }))

/-- Mirror repeats, bridge time-outs, crossed transfers and SWITCH complete. A MIRROR frame unacknowledged for 50 µs goes
out again, on the other lane where that is up, counted in PAI_MIRROR_RETX. A bridge request open for BRIDGE_TMO ends
with PEER. When CROSS_US pass with crossed transfers, rank 0 records and counts its request and rank 1 answers RETRY
to the one it removes. SWITCH by an allowed partition starts the hand-over, which goes on as the mirrored state is
acknowledged, where the pair is synchronised; otherwise it ends with NOTPERMIT, BADARG, NOT_PRIMARY or NOT_SYNCED. -/
def Obligations.PairTransferCommandsComplete : Prop :=
  (∀ (seq l : Nat) (m : Mirrored) (s : State), ((s.pai.unacked.find? fun m => m.seq == seq && decide (m.at_ + 50000 ≤ s.now)) = some m) → ((if s.laneUp (1 - m.lane) then some (1 - m.lane) else if s.laneUp m.lane then some m.lane else none) = some l) → 
      exec (.mirrorRetx seq) s = .next (
      let u := (s.laneSend l (s.pairBytes (zeros 6) Kind.MIRROR l seq m.body)).count C.PAI_MIRROR_RETX
      u.onPai fun p => { p with unacked := updFirst (·.seq == seq) (fun m => { m with lane := l, at_ := u.now }) p.unacked })) ∧
  (∀ (id : Nat) (s : State), ((s.pai.outs.any fun o => o.parts.any fun p => p.id == id && p.got.isNone && decide (p.at_ + 1000 * s.get F.PAI_BRIDGE_TMO_US ≤ s.now)) = true) → 
      exec (.bridgeTimeout id) s = .next (match s.pai.outs.find? fun o => o.parts.any fun p => p.id == id && p.got.isNone with
      | none => s
      | some o => (s.count C.PAI_BRIDGE_PEER).bridgeGot o id St.PEER [])) ∧
  (∀ (t : Nat) (s u : State), s.pai.crossAt = some t → t + 1000 * s.get F.PAI_BRIDGE_CROSS_US ≤ s.now → (u = s.onPai fun p => { p with crossAt := none }) → 
      (s.rank = 0 → ∀ o, u.pai.outs.head? = some o → exec .crossTimeout s = .next (
      (((u.put F.PAI_CROSS_INFO_OP (if o.acc.amo.isSome then 2 else b2n o.acc.write)).put F.PAI_CROSS_INFO_PID (u.pidOf o.acc.src)).count
      C.PAI_CROSS_RETRACT).raise F.PAI_EVT_CROSSED)) ∧
      (s.rank ≠ 0 → exec .crossTimeout s = .next (
      (u.dropInbound.pairAnswer St.RETRY []).bridgeRun))) ∧
  (∀ (r : Nat) (d : Desc) (s : State), s.cur r 0x15 1 = some d → s.bit F.PAI_CFG_MASK_MASK (s.dPid d) = true → d.noBuf = true → s.isPrimary = true → s.on F.PAI_STAT_SYNCED = true → s.on F.PAI_STAT_PARTNER_ALIVE = true → s.pai.unacked = [] ∧ s.pai.sw = none → 
      exec (.switch r) s = .next ((s.hold d).onPai fun p => { p with sw := some (d.round, d.slot), asked := false })) ∧
  (∀ (r : Nat) (d : Desc) (s : State), s.cur r 0x15 1 = some d → 
      (s.bit F.PAI_CFG_MASK_MASK (s.dPid d) = false → exec (.switch r) s = .next (s.finish d St.NOTPERMIT 0)) ∧
      (s.bit F.PAI_CFG_MASK_MASK (s.dPid d) = true → d.noBuf = false → exec (.switch r) s = .next (s.finish d St.BADARG 0)) ∧
      (s.bit F.PAI_CFG_MASK_MASK (s.dPid d) = true → d.noBuf = true → s.isPrimary = false →
      exec (.switch r) s = .next (s.finish d St.NOT_PRIMARY 0)) ∧
      (s.bit F.PAI_CFG_MASK_MASK (s.dPid d) = true → d.noBuf = true → s.isPrimary = true → s.on F.PAI_STAT_SYNCED = false →
      exec (.switch r) s = .next (s.finish d St.NOT_SYNCED 0)))

/-- The opcodes of the recovery unit and the end of a function restart complete. FUNC_RESTART by an allowed partition
restarts a restartable function: its rounds are frogged, its state cleared, its part of the configuration store loaded
again, and its descriptors under way end with FUNC_DOWN; one for a function that restarts already only waits. Others
end with NOTPERMIT or NOT_RESTARTABLE. At the end of the restart its bit is cleared, RESTART_DONE raised, the restart
counted and the waiting descriptors end with OK. WARM_RESET and POWER_CYCLE end with OK by an allowed partition and
with NOTPERMIT by others. -/
def Obligations.FunctionRestartCommandsComplete : Prop :=
  (∀ (r f : Nat) (d : Desc) (s : State), s.cur r 0x16 1 = some d → u8 d.raw 20 = f → s.fltMay d = true → (f = 5 ∨ f = 7 ∨ f = 9 ∨ f = 10 ∨ f = 12 ∨ f = 13) → 
      (s.restarting f = true → exec (.funcRestart r) s = .next (s.hold d)) ∧
      (s.restarting f = false → exec (.funcRestart r) s = .next (
      let u := s.hold d
      let going := u.rnd.descs.filter fun d => d.started && d.fin.isNone && u.rFunc d.round == f
      let v := forEach going State.downDesc ((State.clearFunc (forEach ((List.range 256).filter fun n => u.rFunc n == f)
      (fun n t => t.frogRound n) (u.set1 F.FLT_RESTART_STAT_FUNC f)) f).reload f)
      if f = 7 then v.startPattern else v))) ∧
  (∀ (r : Nat) (d : Desc) (s : State), s.cur r 0x16 1 = some d → 
      (s.fltMay d = false → exec (.funcRestart r) s = .next (s.finish d St.NOTPERMIT 0)) ∧
      (s.fltMay d = true → restartable (u8 d.raw 20) = false → exec (.funcRestart r) s = .next (s.finish d St.NOT_RESTARTABLE 0))) ∧
  (∀ (fn : Nat) (s u : State), fn < 23 → s.restarting fn = true → u = ((s.clr1 F.FLT_RESTART_STAT_FUNC fn).raise F.FLT_EVT_RESTART_DONE).count (C.FLT_RESTART fn) → 
      exec (.funcRestartDone fn) s = .next (forEach (u.rnd.descs.filter fun d =>
      d.started && d.running && d.fin.isNone && d.func == 0x16 && d.opcode == 1 && u8 d.raw 20 == fn) (fun d t => t.finish d St.OK t.timNow) u)) ∧
  (∀ (r : Nat) (d : Desc) (s : State), (s.cur r 0x16 2 = some d → exec (.warmReset r) s = .next (s.finish d (if s.fltMay d then St.OK else St.NOTPERMIT) 0)) ∧
      (s.cur r 0x16 3 = some d → exec (.powerCycle r) s = .next (s.finish d (if s.fltMay d then St.OK else St.NOTPERMIT) 0)))

/-- Reset requests, the warm reset and the power cycle complete. DEV_RESET with 0x5EA7 and DEV_PWRCYC with 0xC7C1 by
partition 0 or 2, RESET_N low, the management watchdog or core, and the host watchdog with ACTION 1 each make a warm
reset or power cycle due, escalated where R500 says so, and none while another is due. A warm reset that is due gives
way to a power cycle that is due (the model's choice, log 70); else it records its cause, winds down, and resets and
casts on unless RESET_N holds it; its release goes on. A power cycle winds down, stops the logic die and releases INH
for 20 ms. -/
def Obligations.ResetCommandsComplete : Prop :=
  (∀ (pid v : Nat) (s : State), (pid = 0 ∨ pid = 2 → v % 65536 = 0x5EA7 → exec (.devResetWrite pid v) s = .next (s.warmDue 3)) ∧
      ((pid ≠ 0 ∧ pid ≠ 2) ∨ v % 65536 ≠ 0x5EA7 → exec (.devResetWrite pid v) s = .next s) ∧
      (pid = 0 ∨ pid = 2 → v % 65536 = 0xC7C1 → s.pow.logic = true → exec (.devPwrcycWrite pid v) s = .next (s.cycleAt 8 0 s.now)) ∧
      ((pid ≠ 0 ∧ pid ≠ 2) ∨ v % 65536 ≠ 0xC7C1 → exec (.devPwrcycWrite pid v) s = .next s)) ∧
  (∀ (s : State), s.pow.logic = true ∧ s.wak.asleep = false → s.warmWaits = false ∧ s.cycleWaits = false → 
      exec .resetNAssert s = .next (
      let u := s.onPow fun p => { p with resetN := true }
      u.warmAt 2 u.now) ∧
      exec .mgmtWdExpiry s = .next (if s.escalates 4 && !s.pow.held then s.escalate 4 else s.warmAt 4 s.now) ∧
      exec .mgmtFault s = .next (if s.escalates 12 && !s.pow.held then s.escalate 12 else s.warmAt 12 s.now) ∧
      (∀ v, exec (.hostKick 2 v) s = .next (s.onPow fun p => { p with hostAt := s.now })) ∧
      (∀ pid v, pid ≠ 2 → exec (.hostKick pid v) s = .next s)) ∧
  (∀ (s : State), (s.warmWaits = true ∨ s.cycleWaits = true) → 
      exec .mgmtWdExpiry s = .next s ∧ exec .mgmtFault s = .next s) ∧
  (∀ (s u : State), s.pow.logic = true → s.on F.DEV_HOST_WD_EN = true → s.pow.hostAt + 1000000 * s.get F.DEV_HOST_WD_TMO_MS ≤ s.now → (u = (s.raise F.DEV_EVT_HOST_WD).onPow fun p => { p with hostAt := s.now }) → 
      exec .hostWdExpiry s = .next (if u.on F.DEV_HOST_WD_ACTION then u.warmDue 5 else u)) ∧
  (∀ (cause t : Nat) (s u v : State), s.pow.warm = some (cause, t) → t ≤ s.now → s.pow.logic = true ∧ s.wak.asleep = false → s.pow.held = false → u = (s.setCause 3 cause 0).put F.FLT_RESET_CAUSE_COUNT (min 255 (s.get F.FLT_RESET_CAUSE_COUNT + 1)) → (v = (u.onPow fun p => { p with warm := none, hist := if cause = 4 ∨ cause = 5 ∨ cause = 12 then (u.aonS :: p.hist).take 15 else p.hist }).windDown.put F.DEV_STAT_STATE 1) → 
      (s.cycleWaits = true → exec .warmResetBegin s = .next (s.onPow fun p => { p with warm := none })) ∧
      (s.cycleWaits = false →
      (s.escalates cause = true → exec .warmResetBegin s = .next ((s.onPow fun p => { p with warm := none }).escalate cause)) ∧
      (s.escalates cause = false → v.pow.resetN = true → exec .warmResetBegin s = .next (v.onPow fun p => { p with held := true })) ∧
      (s.escalates cause = false → v.pow.resetN = false → exec .warmResetBegin s = .next v.warmOn))) ∧
  (∀ (s u : State), s.pow.held = true → s.pow.logic = true → (u = s.onPow fun p => { p with resetN := false }) → 
      exec .resetNRelease s = .next (((u.onPow fun p => { p with held := false }).resetLogic true).castOn true)) ∧
  (∀ (cause orig t : Nat) (s u : State), s.pow.cycle = some (cause, orig, t) → t ≤ s.now → s.pow.logic = true ∧ s.wak.asleep = false → u = (s.setCause 4 cause orig).windDown.stopLogic → 
      exec .powerCycleBegin s = .next (u.onPow fun p => { p with inh := false, cycle := none, off := some (u.now + 20000000), fell := false })) ∧
  (∀ (rank updMode t : Nat) (s u v : State), s.pow.off = some t → t ≤ s.now → (u = s.onPow fun p => { p with inh := true, off := none }) → (v = if u.get F.FLT_RESET_CAUSE_CAUSE = 8 then u.put F.FLT_RESET_CAUSE_CAUSE 9 else u) → 
      (s.pow.fell = true → exec (.powerCycleEnd rank updMode) s = .next u) ∧
      (s.pow.fell = false → v.pow.hot = false → v.pow.resetN = false → v.wak.vaon = true →
      exec (.powerCycleEnd rank updMode) s = .next ((v.onPow fun p => { p with logic := true }).coldStart rank updMode)))

/-- The loss and return of VLOG and the thermal poll complete. VLOG lost within a power cycle or after a SLEEP's commit is
the loss asked for, and a commit whose completion is not yet written never gets it; otherwise the loss stops the logic
die, cause 1. With VLOG and VAON valid, INH active and nothing that holds it off, the logic die starts, sampling
PAIR_RANK and UPD_MODE. Each poll shows the junction temperature, raises THERM_WARN on reaching 150 and THERM_CRIT on
reaching 160 °C, and at 162 °C with SHUT_EN makes a power cycle due; below 140 °C the logic die may start again. -/
def Obligations.PowerCommandsComplete : Prop :=
  (∀ (s u : State), (u = s.onPow fun p => { p with vlog := false }) → 
      (s.pow.off ≠ none → exec .vlogLoss s = .next (u.onPow fun p => { p with fell := true })) ∧
      (s.pow.off = none → s.pow.logic = true → s.wak.asleep = true → exec .vlogLoss s = .next u.stopLogic) ∧
      (s.pow.off = none → s.pow.logic = true → s.wak.asleep = false → exec .vlogLoss s = .next (u.setCause 4 1 0).stopLogic) ∧
      (s.pow.off = none → s.pow.logic = false → exec .vlogLoss s = .next u)) ∧
  (∀ (rank updMode : Nat) (s : State), s.pow.logic = false → s.wak.vaon = true ∧ s.wak.asleep = false → s.pow.inh = true ∧ s.pow.off = none → s.pow.hot = false ∧ s.pow.resetN = false → 
      exec (.coldCastOn rank updMode) s = .next ((s.onPow fun p => { p with vlog := true, logic := true }).coldStart rank updMode)) ∧
  (∀ (tj : Int) (s u : State), s.pow.logic = true → (u = (if tj < 140 then s.onPow fun p => { p with hot := false } else s)) → 
      exec (.thermalPoll tj) s = .next (
      let old := sint 10 (u.get F.FLT_THERM_TJ)
      let s1 := (u.put F.FLT_THERM_TJ (ofInt 10 tj)).put F.FLT_FAULT_THERM_CRIT (b2n (decide (160 ≤ tj)))
      let s2 := if 150 ≤ tj ∧ old < 150 then s1.raise F.FLT_EVT_THERM_WARN else s1
      let s3 := if 160 ≤ tj ∧ old < 160 then s2.raise F.FLT_EVT_THERM_CRIT else s2
      if 162 ≤ tj ∧ s3.on F.FLT_THERM_SHUT_EN then (s3.onPow fun p => { p with hot := true }).cycleAt 10 0 s3.now else s3))

/-- A step performs the command at the front of the queue. The next state of a step is the effect of the command at the
front of the queue on the state with the rest of the queue. The queue is the model's form of the events that R47
orders one after another (log 1). -/
def Obligations.StepTakesTheFrontCommand : Prop :=
  (∀ (c : Instr) (rest : List Instr) (s : State), s.pending = c :: rest → 
      step s = exec c { s with pending := rest }) ∧
  (∀ (c : Instr) (s : State), step { s with pending := c :: s.pending } = exec c s)

/-- On an empty queue the time lattice ticks. With no command waiting, a step is one tick of the lattice: crystal time
goes on by 4 ns, and nothing else happens while the logic die is stopped, or while the lattice is not locked and no
sleep has been committed. That the tick stands for idling is the model's choice (log 1). -/
def Obligations.IdleQueueTicks : Prop :=
  (∀ (s : State), s.pending = [] → 
      step s = .next s.tick) ∧
  (∀ (s : State), (s.pow.logic = false ∨ (s.on F.TIM_STAT_LOCKED = false ∧ s.wak.asleep = false)) → 
      s.tick = s.setNow (s.now + 4))

/-- Reset leaves registers at the reset values of the register tables and nothing waiting. After reset no command waits,
nothing has left the module, memory lists nothing and every counter reads 0. The named registers of the register
tables read their reset values: identity, lattice increment, switch ageing, bit timing, wake sources, Gauge's level,
queue depth, the service link's address, the pair's timers and the escalation limits. -/
def Obligations.ResetRegisters : Prop :=
  (∀ (a : Nat), State.reset.pending = [] ∧ State.reset.out = [] ∧ State.reset.mem = [] ∧ State.reset.cnt a = 0 ∧ State.reset.rd a = resetVal a) ∧
  (∀ (s : State), s = State.reset → 
      s.rd R.DEV_ID = 0x74480000 ∧ s.rd R.RND_PCI_ID = 0x74481F8E ∧ s.rd R.TIM_INC = 0x4000000 ∧ s.rd R.SWC_AGE = 300 ∧
      s.rd (R.CAN_NBT 11) = 0x7E3E7C ∧ s.rd R.WAK_SRC_EN = 0x10000000 ∧ s.rd R.GAU_STAT = 0x2000000 ∧ s.rd (R.QUE_Q_CFG 63) = 0x100010 ∧
      s.rd R.BOO_IGION_IP = 0xA9FE4A30 ∧ s.rd R.PAI_CTL = 0x1F4 ∧ s.rd R.PAI_DEAD = 0x12C ∧ s.rd R.FLT_ESC_CTL = 0x83000258)

/-- The state after reset has memory, registers and counters in canonical form. In the state after reset the lists that
hold memory, registers and counters are sorted, without repeats, and list nothing equal to what an unlisted address
reads as. -/
def Obligations.ResetIsWellFormed : Prop :=
  (State.reset.Wf)

/-- Every step from a well-formed state reaches a well-formed state. For every state whose memory, registers and counters
are in canonical form, a step answers a next state, and there they are in canonical form again, so that equal
memories, registers and counters stay equal data. It holds for every command and for the tick. -/
def Obligations.EveryStepKeepsCanonicalForms : Prop :=
  (∀ (s : State), s.Wf → 
      ∃ t, step s = .next t ∧ t.Wf)

/-- Every command completes, keeps the queue, and never takes back an output, a free value or time. Every command answers
a next state. There the queue of waiting commands is as it was, what had left the module stands at the front of what
has left it now, crystal time has not gone back, and no free value is drawn again. The free values are the model's
(log 3). -/
def Obligations.CommandsKeepTheQueueAndAddOutputs : Prop :=
  (∀ (c : Instr) (s : State), ∃ t, exec c s = .next t ∧ t.pending = s.pending ∧ (∃ l, t.out = s.out ++ l) ∧ s.now ≤ t.now ∧ s.fresh ≤ t.fresh)

/-- A command changes memory, registers or counters only where its list of parts names them. For each command, Safety.lean
lists the parts of State it may change. A command that does not list memory leaves every byte as it reads; one that
does not list the registers leaves every register; one that does not list the counters leaves every counter. -/
def Obligations.FrameOfMemoryRegistersCounters : Prop :=
  (∀ (c : Instr) (s : State), ∃ t, exec c s = .next t ∧ (Part.mem ∉ changes c → ∀ a, t.rdMem a = s.rdMem a) ∧ (Part.regs ∉ changes c → ∀ a, t.rd a = s.rd a) ∧
      (Part.cnts ∉ changes c → ∀ a, t.cnt a = s.cnt a))

/-- A command leaves every unit's state that its list of parts does not name. For each command, Safety.lean lists the
parts of State it may change: the fabric, rounds, queues, switch, ports, time, wake, audio, Chart, cores, load
channels, Gauge, CAN, power, enclave, gateway, serial, boot and pair state among them. Every part not listed is the
same after the command. -/
def Obligations.FrameOfTheUnits : Prop :=
  (∀ (c : Instr) (p : Part) (s : State), p ∉ changes c → 
      ∃ t, exec c s = .next t ∧ p.same s t)

/-- A register read outside offsets 0xF000 to 0xFFFF changes nothing. A read of a register by any partition leaves the
whole state as it was unless the register's offset in its page is 0xF000 or above. A read that a mailbox refuses reads
no register and is set apart. -/
def Obligations.ReadsBelowF000HaveNoEffect : Prop :=
  (∀ (pid a : Nat) (s : State), s.mbRefused pid a = false → a % 0x10000 < 0xF000 → 
      (s.regRead pid a).1 = s)

/-- A doorbell write out of range or by another partition raises DB_BAD and moves no index. A command or completion
doorbell of a round written with its size or more, or by a partition that is neither the owner nor 0, completes with
the event DB_BAD set and every doorbell index, every descriptor and memory as they were. -/
def Obligations.BadDoorbellHasNoEffect : Prop :=
  (∀ (pid n val : Nat) (s : State), n < 256 → (s.rSize n ≤ val ∨ (pid ≠ 0 ∧ pid ≠ s.rOwner n)) → 
      ∀ i, i = Instr.doorbellCmd pid n val ∨ i = Instr.doorbellCpl pid n val → ∃ t, exec i s = .next t ∧ t.on F.RND_EVT_DB_BAD = true ∧
      t.rnd.descs = s.rnd.descs ∧ t.mem = s.mem ∧
      ∀ m, m < 256 → t.get (F.RND_DB_CMD_INDEX m) = s.get (F.RND_DB_CMD_INDEX m) ∧ t.get (F.RND_DB_CPL_INDEX m) = s.get (F.RND_DB_CPL_INDEX m))

/-- Only the owner's own partition ID releases a semaphore. A write of its own partition ID by the owner frees the
semaphore and no other. Any other write, and one of a partition that is disabled, which R392 has semaphores refuse,
leaves every semaphore's owner and raises BAD_REL. -/
def Obligations.SemaphoreIsReleasedByItsOwner : Prop :=
  (∀ (pid n val : Nat) (s : State), n < 64 → s.get (F.SEM_STAT_OWNER n) = pid + 1 → val % 32 = pid → s.partOff pid = false → 
      ∃ t, exec (.semRelease pid n val) s = .next t ∧ t.get (F.SEM_STAT_OWNER n) = 0 ∧
      ∀ m, m ≠ n → t.get (F.SEM_STAT_OWNER m) = s.get (F.SEM_STAT_OWNER m)) ∧
  (∀ (pid n val : Nat) (s : State), n < 64 → (s.get (F.SEM_STAT_OWNER n) ≠ pid + 1 ∨ val % 32 ≠ pid ∨ s.partOff pid = true) → 
      ∃ t, exec (.semRelease pid n val) s = .next t ∧ t.on F.SEM_EVT_BAD_REL = true ∧
      ∀ m, m < 64 → t.get (F.SEM_STAT_OWNER m) = s.get (F.SEM_STAT_OWNER m))

/-- TRG_ARM arms a trigger whose target lies ahead, and refuses one behind. With d the distance from TIM_NOW to the target
modulo 2^32, a TRG_ARM of a trigger, by its owner or partition 0 and with a period R199 allows, completes with BADARG
and changes nothing else where d is 2^31 or more. Otherwise it completes with OK and the trigger holds its target and
period and is armed. -/
def Obligations.TriggerArmsAheadOnly : Prop :=
  (∀ (r n : Nat) (d : Desc) (s : State), s.cur r 6 1 = some d → d.noBuf = true → u8 d.raw 20 = n ∧ n < 16 → (s.dPid d = 0 ∨ s.dPid d = s.get (F.TIM_TRG_CTL_OWNER n)) → (u32 d.raw 28 = 0 ∨ (1000 ≤ u32 d.raw 28 ∧ u32 d.raw 28 ≤ 1000000000)) → 
      (2 ^ 31 ≤ ahead32 s.timNow (u32 d.raw 24) → exec (.trgArm r) s = .next (s.finish d St.BADARG 0)) ∧
      (ahead32 s.timNow (u32 d.raw 24) < 2 ^ 31 → ∃ u : State, exec (.trgArm r) s = .next (u.finish d St.OK u.timNow) ∧
      u.get (F.TIM_TRG_TARGET_VALUE n) = u32 d.raw 24 ∧ u.get (F.TIM_TRG_PERIOD_VALUE n) = u32 d.raw 28 ∧
      u.get (F.TIM_TRG_CTL_ARMED n) = 1))

/-- A CH_SET with a wrong pair term completes with TERM, or with BADARG where the pair function is disabled. For a CH_SET
of a channel or group leader by an allowed partition with a command and duty in range: while the pair function is
enabled, a term other than PAI_TERM completes with TERM; while it is disabled, a term other than 0 completes with
BADARG; neither changes anything but the descriptor. -/
def Obligations.ChannelCommandCarriesTheTerm : Prop :=
  (∀ (r n : Nat) (d : Desc) (s : State), s.cur r 0x0C 1 = some d → s.ldcMay d = true → u8 d.raw 20 = n ∧ s.isLeader n = true → u8 d.raw 21 ≤ 2 ∧ u16 d.raw 22 ≤ 4095 → 
      (s.on F.PAI_CTL_EN = true → u32 d.raw 24 ≠ s.get F.PAI_TERM_TERM → exec (.chSet r) s = .next (s.finish d St.TERM 0)) ∧
      (s.on F.PAI_CTL_EN = false → u32 d.raw 24 ≠ 0 → exec (.chSet r) s = .next (s.finish d St.BADARG 0)))

/-- The enclave's private memory is reachable by partition 1 alone, whatever the guard rules. For every state, and so for
every set of guard rules, a 4 KiB page of the enclave's private 256 KiB permits reads and writes by partition 1 and by
no other; and an access by another partition that begins there is denied at its first byte. -/
def Obligations.EnclaveMemoryIsClosed : Prop :=
  (∀ (pid page : Nat) (write : Bool) (s : State), 0x130000 ≤ page ∧ page < 0x130040 → 
      s.permitted pid write page = decide (pid = 1)) ∧
  (∀ (pid a n : Nat) (write : Bool) (s : State), 0x130000000 ≤ a ∧ a < 0x130040000 → 0 < n → pid ≠ 1 → 
      s.denied pid write a n = some a)

/-- GAU_LATCH.GO copies every energy counter and power figure at once, and reads move none. A write of GO by an allowed
partition leaves, for every rail, its counter in µJ in the LO and HI read registers and its mean power over the last
second in its power register, all of one moment. A read of any register by any partition leaves every counter as it
was. -/
def Obligations.EnergyLatchCopiesEveryCounter : Prop :=
  (∀ (pid val i : Nat) (s : State), s.gauMay pid = true → bitOf val 0 = true → i < 42 → 
      ∃ t, exec (.gaugeLatch pid val) s = .next t ∧
      t.get (F.GAU_E_LO_UJ i) + 2 ^ 32 * t.get (F.GAU_E_HI_UJ i) = s.gauE i / 1000 % 2 ^ 48 ∧
      t.get (F.GAU_P_MW i) = meanMw (s.gauE i - (s.snapAt 1000000000).e.getD i 0) (s.now - (s.snapAt 1000000000).at_) % 2 ^ 32 ∧
      t.gau = s.gau) ∧
  (∀ (pid a i : Nat) (s : State), (s.regRead pid a).1.gauE i = s.gauE i)
end

