-- ==== Sys2Proof/Laws/Bytes.lean ====
section
/-! SUPPORT. What setting, clearing and reading a bit of a number do. -/
namespace Sys2Proof.Machine

theorem bitOf_setBit (w i : Nat) : bitOf (setBit w i) i = true := by
  unfold setBit
  split
  · assumption
  · rename_i h
    simp only [bitOf, beq_iff_eq] at *
    rw [Nat.add_div_right _ (Nat.two_pow_pos i)]
    omega

theorem bitOf_clearBit (w i : Nat) : bitOf (clearBit w i) i = false := by
  unfold clearBit
  split
  · rename_i h
    simp only [bitOf, beq_iff_eq, beq_eq_false_iff_ne] at *
    rw [show w - 2 ^ i = w - 2 ^ i * 1 by omega, Nat.sub_mul_div]
    omega
  · rename_i h
    simpa using h

end Sys2Proof.Machine
end

