-- ==== Sys2Proof/Laws/Clocks.lean ====
section
/-! SUPPORT. What is known of the two clocks that are not the lattice's: the always-on oscillator runs within 3 % of its rate
(R308), and that of a power die runs. -/
namespace Sys2Proof.Machine

/-- The always-on oscillator counts at least 97 ns in 100 ns. -/
theorem State.rcNs_ge (s : State) (d : Nat) : 97 * d / 100 ≤ s.rcNs d := by
  unfold State.rcNs
  generalize Config.freeFn 21 s.wak.vaonAt % 60001 = q
  have h : d * 970000 ≤ d * (970000 + q) := Nat.mul_le_mul_left d (Nat.le_add_right _ _)
  omega

/-- The always-on oscillator counts at most 103 ns in 100 ns. -/
theorem State.rcNs_le (s : State) (d : Nat) : s.rcNs d ≤ 103 * d / 100 := by
  unfold State.rcNs
  have hq : Config.freeFn 21 s.wak.vaonAt % 60001 ≤ 60000 := Nat.le_of_lt_succ (Nat.mod_lt _ (by decide))
  generalize Config.freeFn 21 s.wak.vaonAt % 60001 = q at hq
  have h : d * (970000 + q) ≤ d * 1030000 := Nat.mul_le_mul_left d (by omega)
  omega

/-- The oscillator of a power die runs, however slowly. -/
theorem State.dieSince_ge (s : State) (b t : Nat) : (s.now - t) / 1000000 ≤ s.dieSince b t := by
  unfold State.dieSince
  exact Nat.div_le_div_right (Nat.le_mul_of_pos_right _ (Nat.lt_of_lt_of_le Nat.zero_lt_one (Nat.le_add_right 1 _)))

end Sys2Proof.Machine
end

