-- ==== Sys2Proof/Laws/State.lean ====
section
/-! SUPPORT. What each setter of State does to each field; all true by rfl. -/
namespace Sys2Proof.Machine

@[simp] theorem State.setRegs_pending (s : State) (v : Store Word) : (s.setRegs v).pending = s.pending := (rfl)
@[simp] theorem State.setRegs_regs (s : State) (v : Store Word) : (s.setRegs v).regs = v := (rfl)
@[simp] theorem State.setRegs_cnts (s : State) (v : Store Word) : (s.setRegs v).cnts = s.cnts := (rfl)
@[simp] theorem State.setRegs_mem (s : State) (v : Store Word) : (s.setRegs v).mem = s.mem := (rfl)
@[simp] theorem State.setRegs_out (s : State) (v : Store Word) : (s.setRegs v).out = s.out := (rfl)
@[simp] theorem State.setRegs_fresh (s : State) (v : Store Word) : (s.setRegs v).fresh = s.fresh := (rfl)
@[simp] theorem State.setRegs_now (s : State) (v : Store Word) : (s.setRegs v).now = s.now := (rfl)
@[simp] theorem State.setRegs_fab (s : State) (v : Store Word) : (s.setRegs v).fab = s.fab := (rfl)
@[simp] theorem State.setRegs_rnd (s : State) (v : Store Word) : (s.setRegs v).rnd = s.rnd := (rfl)
@[simp] theorem State.setRegs_que (s : State) (v : Store Word) : (s.setRegs v).que = s.que := (rfl)
@[simp] theorem State.setRegs_swc (s : State) (v : Store Word) : (s.setRegs v).swc = s.swc := (rfl)
@[simp] theorem State.setRegs_prt (s : State) (v : Store Word) : (s.setRegs v).prt = s.prt := (rfl)
@[simp] theorem State.setRegs_tim (s : State) (v : Store Word) : (s.setRegs v).tim = s.tim := (rfl)
@[simp] theorem State.setRegs_wak (s : State) (v : Store Word) : (s.setRegs v).wak = s.wak := (rfl)
@[simp] theorem State.setRegs_aud (s : State) (v : Store Word) : (s.setRegs v).aud = s.aud := (rfl)
@[simp] theorem State.setRegs_cht (s : State) (v : Store Word) : (s.setRegs v).cht = s.cht := (rfl)
@[simp] theorem State.setRegs_cor (s : State) (v : Store Word) : (s.setRegs v).cor = s.cor := (rfl)
@[simp] theorem State.setRegs_ldc (s : State) (v : Store Word) : (s.setRegs v).ldc = s.ldc := (rfl)
@[simp] theorem State.setRegs_gau (s : State) (v : Store Word) : (s.setRegs v).gau = s.gau := (rfl)
@[simp] theorem State.setRegs_can (s : State) (v : Store Word) : (s.setRegs v).can = s.can := (rfl)
@[simp] theorem State.setRegs_pow (s : State) (v : Store Word) : (s.setRegs v).pow = s.pow := (rfl)
@[simp] theorem State.setRegs_enc (s : State) (v : Store Word) : (s.setRegs v).enc = s.enc := (rfl)
@[simp] theorem State.setRegs_gwy (s : State) (v : Store Word) : (s.setRegs v).gwy = s.gwy := (rfl)
@[simp] theorem State.setRegs_sio (s : State) (v : Store Word) : (s.setRegs v).sio = s.sio := (rfl)
@[simp] theorem State.setRegs_boo (s : State) (v : Store Word) : (s.setRegs v).boo = s.boo := (rfl)
@[simp] theorem State.setRegs_pai (s : State) (v : Store Word) : (s.setRegs v).pai = s.pai := (rfl)

@[simp] theorem State.setCnts_pending (s : State) (v : Store Nat) : (s.setCnts v).pending = s.pending := (rfl)
@[simp] theorem State.setCnts_regs (s : State) (v : Store Nat) : (s.setCnts v).regs = s.regs := (rfl)
@[simp] theorem State.setCnts_cnts (s : State) (v : Store Nat) : (s.setCnts v).cnts = v := (rfl)
@[simp] theorem State.setCnts_mem (s : State) (v : Store Nat) : (s.setCnts v).mem = s.mem := (rfl)
@[simp] theorem State.setCnts_out (s : State) (v : Store Nat) : (s.setCnts v).out = s.out := (rfl)
@[simp] theorem State.setCnts_fresh (s : State) (v : Store Nat) : (s.setCnts v).fresh = s.fresh := (rfl)
@[simp] theorem State.setCnts_now (s : State) (v : Store Nat) : (s.setCnts v).now = s.now := (rfl)
@[simp] theorem State.setCnts_fab (s : State) (v : Store Nat) : (s.setCnts v).fab = s.fab := (rfl)
@[simp] theorem State.setCnts_rnd (s : State) (v : Store Nat) : (s.setCnts v).rnd = s.rnd := (rfl)
@[simp] theorem State.setCnts_que (s : State) (v : Store Nat) : (s.setCnts v).que = s.que := (rfl)
@[simp] theorem State.setCnts_swc (s : State) (v : Store Nat) : (s.setCnts v).swc = s.swc := (rfl)
@[simp] theorem State.setCnts_prt (s : State) (v : Store Nat) : (s.setCnts v).prt = s.prt := (rfl)
@[simp] theorem State.setCnts_tim (s : State) (v : Store Nat) : (s.setCnts v).tim = s.tim := (rfl)
@[simp] theorem State.setCnts_wak (s : State) (v : Store Nat) : (s.setCnts v).wak = s.wak := (rfl)
@[simp] theorem State.setCnts_aud (s : State) (v : Store Nat) : (s.setCnts v).aud = s.aud := (rfl)
@[simp] theorem State.setCnts_cht (s : State) (v : Store Nat) : (s.setCnts v).cht = s.cht := (rfl)
@[simp] theorem State.setCnts_cor (s : State) (v : Store Nat) : (s.setCnts v).cor = s.cor := (rfl)
@[simp] theorem State.setCnts_ldc (s : State) (v : Store Nat) : (s.setCnts v).ldc = s.ldc := (rfl)
@[simp] theorem State.setCnts_gau (s : State) (v : Store Nat) : (s.setCnts v).gau = s.gau := (rfl)
@[simp] theorem State.setCnts_can (s : State) (v : Store Nat) : (s.setCnts v).can = s.can := (rfl)
@[simp] theorem State.setCnts_pow (s : State) (v : Store Nat) : (s.setCnts v).pow = s.pow := (rfl)
@[simp] theorem State.setCnts_enc (s : State) (v : Store Nat) : (s.setCnts v).enc = s.enc := (rfl)
@[simp] theorem State.setCnts_gwy (s : State) (v : Store Nat) : (s.setCnts v).gwy = s.gwy := (rfl)
@[simp] theorem State.setCnts_sio (s : State) (v : Store Nat) : (s.setCnts v).sio = s.sio := (rfl)
@[simp] theorem State.setCnts_boo (s : State) (v : Store Nat) : (s.setCnts v).boo = s.boo := (rfl)
@[simp] theorem State.setCnts_pai (s : State) (v : Store Nat) : (s.setCnts v).pai = s.pai := (rfl)

@[simp] theorem State.setMem_pending (s : State) (v : List Host.Cell) : (s.setMem v).pending = s.pending := (rfl)
@[simp] theorem State.setMem_regs (s : State) (v : List Host.Cell) : (s.setMem v).regs = s.regs := (rfl)
@[simp] theorem State.setMem_cnts (s : State) (v : List Host.Cell) : (s.setMem v).cnts = s.cnts := (rfl)
@[simp] theorem State.setMem_mem (s : State) (v : List Host.Cell) : (s.setMem v).mem = v := (rfl)
@[simp] theorem State.setMem_out (s : State) (v : List Host.Cell) : (s.setMem v).out = s.out := (rfl)
@[simp] theorem State.setMem_fresh (s : State) (v : List Host.Cell) : (s.setMem v).fresh = s.fresh := (rfl)
@[simp] theorem State.setMem_now (s : State) (v : List Host.Cell) : (s.setMem v).now = s.now := (rfl)
@[simp] theorem State.setMem_fab (s : State) (v : List Host.Cell) : (s.setMem v).fab = s.fab := (rfl)
@[simp] theorem State.setMem_rnd (s : State) (v : List Host.Cell) : (s.setMem v).rnd = s.rnd := (rfl)
@[simp] theorem State.setMem_que (s : State) (v : List Host.Cell) : (s.setMem v).que = s.que := (rfl)
@[simp] theorem State.setMem_swc (s : State) (v : List Host.Cell) : (s.setMem v).swc = s.swc := (rfl)
@[simp] theorem State.setMem_prt (s : State) (v : List Host.Cell) : (s.setMem v).prt = s.prt := (rfl)
@[simp] theorem State.setMem_tim (s : State) (v : List Host.Cell) : (s.setMem v).tim = s.tim := (rfl)
@[simp] theorem State.setMem_wak (s : State) (v : List Host.Cell) : (s.setMem v).wak = s.wak := (rfl)
@[simp] theorem State.setMem_aud (s : State) (v : List Host.Cell) : (s.setMem v).aud = s.aud := (rfl)
@[simp] theorem State.setMem_cht (s : State) (v : List Host.Cell) : (s.setMem v).cht = s.cht := (rfl)
@[simp] theorem State.setMem_cor (s : State) (v : List Host.Cell) : (s.setMem v).cor = s.cor := (rfl)
@[simp] theorem State.setMem_ldc (s : State) (v : List Host.Cell) : (s.setMem v).ldc = s.ldc := (rfl)
@[simp] theorem State.setMem_gau (s : State) (v : List Host.Cell) : (s.setMem v).gau = s.gau := (rfl)
@[simp] theorem State.setMem_can (s : State) (v : List Host.Cell) : (s.setMem v).can = s.can := (rfl)
@[simp] theorem State.setMem_pow (s : State) (v : List Host.Cell) : (s.setMem v).pow = s.pow := (rfl)
@[simp] theorem State.setMem_enc (s : State) (v : List Host.Cell) : (s.setMem v).enc = s.enc := (rfl)
@[simp] theorem State.setMem_gwy (s : State) (v : List Host.Cell) : (s.setMem v).gwy = s.gwy := (rfl)
@[simp] theorem State.setMem_sio (s : State) (v : List Host.Cell) : (s.setMem v).sio = s.sio := (rfl)
@[simp] theorem State.setMem_boo (s : State) (v : List Host.Cell) : (s.setMem v).boo = s.boo := (rfl)
@[simp] theorem State.setMem_pai (s : State) (v : List Host.Cell) : (s.setMem v).pai = s.pai := (rfl)

@[simp] theorem State.setOut_pending (s : State) (v : List Out) : (s.setOut v).pending = s.pending := (rfl)
@[simp] theorem State.setOut_regs (s : State) (v : List Out) : (s.setOut v).regs = s.regs := (rfl)
@[simp] theorem State.setOut_cnts (s : State) (v : List Out) : (s.setOut v).cnts = s.cnts := (rfl)
@[simp] theorem State.setOut_mem (s : State) (v : List Out) : (s.setOut v).mem = s.mem := (rfl)
@[simp] theorem State.setOut_out (s : State) (v : List Out) : (s.setOut v).out = v := (rfl)
@[simp] theorem State.setOut_fresh (s : State) (v : List Out) : (s.setOut v).fresh = s.fresh := (rfl)
@[simp] theorem State.setOut_now (s : State) (v : List Out) : (s.setOut v).now = s.now := (rfl)
@[simp] theorem State.setOut_fab (s : State) (v : List Out) : (s.setOut v).fab = s.fab := (rfl)
@[simp] theorem State.setOut_rnd (s : State) (v : List Out) : (s.setOut v).rnd = s.rnd := (rfl)
@[simp] theorem State.setOut_que (s : State) (v : List Out) : (s.setOut v).que = s.que := (rfl)
@[simp] theorem State.setOut_swc (s : State) (v : List Out) : (s.setOut v).swc = s.swc := (rfl)
@[simp] theorem State.setOut_prt (s : State) (v : List Out) : (s.setOut v).prt = s.prt := (rfl)
@[simp] theorem State.setOut_tim (s : State) (v : List Out) : (s.setOut v).tim = s.tim := (rfl)
@[simp] theorem State.setOut_wak (s : State) (v : List Out) : (s.setOut v).wak = s.wak := (rfl)
@[simp] theorem State.setOut_aud (s : State) (v : List Out) : (s.setOut v).aud = s.aud := (rfl)
@[simp] theorem State.setOut_cht (s : State) (v : List Out) : (s.setOut v).cht = s.cht := (rfl)
@[simp] theorem State.setOut_cor (s : State) (v : List Out) : (s.setOut v).cor = s.cor := (rfl)
@[simp] theorem State.setOut_ldc (s : State) (v : List Out) : (s.setOut v).ldc = s.ldc := (rfl)
@[simp] theorem State.setOut_gau (s : State) (v : List Out) : (s.setOut v).gau = s.gau := (rfl)
@[simp] theorem State.setOut_can (s : State) (v : List Out) : (s.setOut v).can = s.can := (rfl)
@[simp] theorem State.setOut_pow (s : State) (v : List Out) : (s.setOut v).pow = s.pow := (rfl)
@[simp] theorem State.setOut_enc (s : State) (v : List Out) : (s.setOut v).enc = s.enc := (rfl)
@[simp] theorem State.setOut_gwy (s : State) (v : List Out) : (s.setOut v).gwy = s.gwy := (rfl)
@[simp] theorem State.setOut_sio (s : State) (v : List Out) : (s.setOut v).sio = s.sio := (rfl)
@[simp] theorem State.setOut_boo (s : State) (v : List Out) : (s.setOut v).boo = s.boo := (rfl)
@[simp] theorem State.setOut_pai (s : State) (v : List Out) : (s.setOut v).pai = s.pai := (rfl)

@[simp] theorem State.setFresh_pending (s : State) (v : Nat) : (s.setFresh v).pending = s.pending := (rfl)
@[simp] theorem State.setFresh_regs (s : State) (v : Nat) : (s.setFresh v).regs = s.regs := (rfl)
@[simp] theorem State.setFresh_cnts (s : State) (v : Nat) : (s.setFresh v).cnts = s.cnts := (rfl)
@[simp] theorem State.setFresh_mem (s : State) (v : Nat) : (s.setFresh v).mem = s.mem := (rfl)
@[simp] theorem State.setFresh_out (s : State) (v : Nat) : (s.setFresh v).out = s.out := (rfl)
@[simp] theorem State.setFresh_fresh (s : State) (v : Nat) : (s.setFresh v).fresh = v := (rfl)
@[simp] theorem State.setFresh_now (s : State) (v : Nat) : (s.setFresh v).now = s.now := (rfl)
@[simp] theorem State.setFresh_fab (s : State) (v : Nat) : (s.setFresh v).fab = s.fab := (rfl)
@[simp] theorem State.setFresh_rnd (s : State) (v : Nat) : (s.setFresh v).rnd = s.rnd := (rfl)
@[simp] theorem State.setFresh_que (s : State) (v : Nat) : (s.setFresh v).que = s.que := (rfl)
@[simp] theorem State.setFresh_swc (s : State) (v : Nat) : (s.setFresh v).swc = s.swc := (rfl)
@[simp] theorem State.setFresh_prt (s : State) (v : Nat) : (s.setFresh v).prt = s.prt := (rfl)
@[simp] theorem State.setFresh_tim (s : State) (v : Nat) : (s.setFresh v).tim = s.tim := (rfl)
@[simp] theorem State.setFresh_wak (s : State) (v : Nat) : (s.setFresh v).wak = s.wak := (rfl)
@[simp] theorem State.setFresh_aud (s : State) (v : Nat) : (s.setFresh v).aud = s.aud := (rfl)
@[simp] theorem State.setFresh_cht (s : State) (v : Nat) : (s.setFresh v).cht = s.cht := (rfl)
@[simp] theorem State.setFresh_cor (s : State) (v : Nat) : (s.setFresh v).cor = s.cor := (rfl)
@[simp] theorem State.setFresh_ldc (s : State) (v : Nat) : (s.setFresh v).ldc = s.ldc := (rfl)
@[simp] theorem State.setFresh_gau (s : State) (v : Nat) : (s.setFresh v).gau = s.gau := (rfl)
@[simp] theorem State.setFresh_can (s : State) (v : Nat) : (s.setFresh v).can = s.can := (rfl)
@[simp] theorem State.setFresh_pow (s : State) (v : Nat) : (s.setFresh v).pow = s.pow := (rfl)
@[simp] theorem State.setFresh_enc (s : State) (v : Nat) : (s.setFresh v).enc = s.enc := (rfl)
@[simp] theorem State.setFresh_gwy (s : State) (v : Nat) : (s.setFresh v).gwy = s.gwy := (rfl)
@[simp] theorem State.setFresh_sio (s : State) (v : Nat) : (s.setFresh v).sio = s.sio := (rfl)
@[simp] theorem State.setFresh_boo (s : State) (v : Nat) : (s.setFresh v).boo = s.boo := (rfl)
@[simp] theorem State.setFresh_pai (s : State) (v : Nat) : (s.setFresh v).pai = s.pai := (rfl)

@[simp] theorem State.setNow_pending (s : State) (v : Nat) : (s.setNow v).pending = s.pending := (rfl)
@[simp] theorem State.setNow_regs (s : State) (v : Nat) : (s.setNow v).regs = s.regs := (rfl)
@[simp] theorem State.setNow_cnts (s : State) (v : Nat) : (s.setNow v).cnts = s.cnts := (rfl)
@[simp] theorem State.setNow_mem (s : State) (v : Nat) : (s.setNow v).mem = s.mem := (rfl)
@[simp] theorem State.setNow_out (s : State) (v : Nat) : (s.setNow v).out = s.out := (rfl)
@[simp] theorem State.setNow_fresh (s : State) (v : Nat) : (s.setNow v).fresh = s.fresh := (rfl)
@[simp] theorem State.setNow_now (s : State) (v : Nat) : (s.setNow v).now = v := (rfl)
@[simp] theorem State.setNow_fab (s : State) (v : Nat) : (s.setNow v).fab = s.fab := (rfl)
@[simp] theorem State.setNow_rnd (s : State) (v : Nat) : (s.setNow v).rnd = s.rnd := (rfl)
@[simp] theorem State.setNow_que (s : State) (v : Nat) : (s.setNow v).que = s.que := (rfl)
@[simp] theorem State.setNow_swc (s : State) (v : Nat) : (s.setNow v).swc = s.swc := (rfl)
@[simp] theorem State.setNow_prt (s : State) (v : Nat) : (s.setNow v).prt = s.prt := (rfl)
@[simp] theorem State.setNow_tim (s : State) (v : Nat) : (s.setNow v).tim = s.tim := (rfl)
@[simp] theorem State.setNow_wak (s : State) (v : Nat) : (s.setNow v).wak = s.wak := (rfl)
@[simp] theorem State.setNow_aud (s : State) (v : Nat) : (s.setNow v).aud = s.aud := (rfl)
@[simp] theorem State.setNow_cht (s : State) (v : Nat) : (s.setNow v).cht = s.cht := (rfl)
@[simp] theorem State.setNow_cor (s : State) (v : Nat) : (s.setNow v).cor = s.cor := (rfl)
@[simp] theorem State.setNow_ldc (s : State) (v : Nat) : (s.setNow v).ldc = s.ldc := (rfl)
@[simp] theorem State.setNow_gau (s : State) (v : Nat) : (s.setNow v).gau = s.gau := (rfl)
@[simp] theorem State.setNow_can (s : State) (v : Nat) : (s.setNow v).can = s.can := (rfl)
@[simp] theorem State.setNow_pow (s : State) (v : Nat) : (s.setNow v).pow = s.pow := (rfl)
@[simp] theorem State.setNow_enc (s : State) (v : Nat) : (s.setNow v).enc = s.enc := (rfl)
@[simp] theorem State.setNow_gwy (s : State) (v : Nat) : (s.setNow v).gwy = s.gwy := (rfl)
@[simp] theorem State.setNow_sio (s : State) (v : Nat) : (s.setNow v).sio = s.sio := (rfl)
@[simp] theorem State.setNow_boo (s : State) (v : Nat) : (s.setNow v).boo = s.boo := (rfl)
@[simp] theorem State.setNow_pai (s : State) (v : Nat) : (s.setNow v).pai = s.pai := (rfl)

@[simp] theorem State.setFab_pending (s : State) (v : Fab) : (s.setFab v).pending = s.pending := (rfl)
@[simp] theorem State.setFab_regs (s : State) (v : Fab) : (s.setFab v).regs = s.regs := (rfl)
@[simp] theorem State.setFab_cnts (s : State) (v : Fab) : (s.setFab v).cnts = s.cnts := (rfl)
@[simp] theorem State.setFab_mem (s : State) (v : Fab) : (s.setFab v).mem = s.mem := (rfl)
@[simp] theorem State.setFab_out (s : State) (v : Fab) : (s.setFab v).out = s.out := (rfl)
@[simp] theorem State.setFab_fresh (s : State) (v : Fab) : (s.setFab v).fresh = s.fresh := (rfl)
@[simp] theorem State.setFab_now (s : State) (v : Fab) : (s.setFab v).now = s.now := (rfl)
@[simp] theorem State.setFab_fab (s : State) (v : Fab) : (s.setFab v).fab = v := (rfl)
@[simp] theorem State.setFab_rnd (s : State) (v : Fab) : (s.setFab v).rnd = s.rnd := (rfl)
@[simp] theorem State.setFab_que (s : State) (v : Fab) : (s.setFab v).que = s.que := (rfl)
@[simp] theorem State.setFab_swc (s : State) (v : Fab) : (s.setFab v).swc = s.swc := (rfl)
@[simp] theorem State.setFab_prt (s : State) (v : Fab) : (s.setFab v).prt = s.prt := (rfl)
@[simp] theorem State.setFab_tim (s : State) (v : Fab) : (s.setFab v).tim = s.tim := (rfl)
@[simp] theorem State.setFab_wak (s : State) (v : Fab) : (s.setFab v).wak = s.wak := (rfl)
@[simp] theorem State.setFab_aud (s : State) (v : Fab) : (s.setFab v).aud = s.aud := (rfl)
@[simp] theorem State.setFab_cht (s : State) (v : Fab) : (s.setFab v).cht = s.cht := (rfl)
@[simp] theorem State.setFab_cor (s : State) (v : Fab) : (s.setFab v).cor = s.cor := (rfl)
@[simp] theorem State.setFab_ldc (s : State) (v : Fab) : (s.setFab v).ldc = s.ldc := (rfl)
@[simp] theorem State.setFab_gau (s : State) (v : Fab) : (s.setFab v).gau = s.gau := (rfl)
@[simp] theorem State.setFab_can (s : State) (v : Fab) : (s.setFab v).can = s.can := (rfl)
@[simp] theorem State.setFab_pow (s : State) (v : Fab) : (s.setFab v).pow = s.pow := (rfl)
@[simp] theorem State.setFab_enc (s : State) (v : Fab) : (s.setFab v).enc = s.enc := (rfl)
@[simp] theorem State.setFab_gwy (s : State) (v : Fab) : (s.setFab v).gwy = s.gwy := (rfl)
@[simp] theorem State.setFab_sio (s : State) (v : Fab) : (s.setFab v).sio = s.sio := (rfl)
@[simp] theorem State.setFab_boo (s : State) (v : Fab) : (s.setFab v).boo = s.boo := (rfl)
@[simp] theorem State.setFab_pai (s : State) (v : Fab) : (s.setFab v).pai = s.pai := (rfl)

@[simp] theorem State.setRnd_pending (s : State) (v : Rnd) : (s.setRnd v).pending = s.pending := (rfl)
@[simp] theorem State.setRnd_regs (s : State) (v : Rnd) : (s.setRnd v).regs = s.regs := (rfl)
@[simp] theorem State.setRnd_cnts (s : State) (v : Rnd) : (s.setRnd v).cnts = s.cnts := (rfl)
@[simp] theorem State.setRnd_mem (s : State) (v : Rnd) : (s.setRnd v).mem = s.mem := (rfl)
@[simp] theorem State.setRnd_out (s : State) (v : Rnd) : (s.setRnd v).out = s.out := (rfl)
@[simp] theorem State.setRnd_fresh (s : State) (v : Rnd) : (s.setRnd v).fresh = s.fresh := (rfl)
@[simp] theorem State.setRnd_now (s : State) (v : Rnd) : (s.setRnd v).now = s.now := (rfl)
@[simp] theorem State.setRnd_fab (s : State) (v : Rnd) : (s.setRnd v).fab = s.fab := (rfl)
@[simp] theorem State.setRnd_rnd (s : State) (v : Rnd) : (s.setRnd v).rnd = v := (rfl)
@[simp] theorem State.setRnd_que (s : State) (v : Rnd) : (s.setRnd v).que = s.que := (rfl)
@[simp] theorem State.setRnd_swc (s : State) (v : Rnd) : (s.setRnd v).swc = s.swc := (rfl)
@[simp] theorem State.setRnd_prt (s : State) (v : Rnd) : (s.setRnd v).prt = s.prt := (rfl)
@[simp] theorem State.setRnd_tim (s : State) (v : Rnd) : (s.setRnd v).tim = s.tim := (rfl)
@[simp] theorem State.setRnd_wak (s : State) (v : Rnd) : (s.setRnd v).wak = s.wak := (rfl)
@[simp] theorem State.setRnd_aud (s : State) (v : Rnd) : (s.setRnd v).aud = s.aud := (rfl)
@[simp] theorem State.setRnd_cht (s : State) (v : Rnd) : (s.setRnd v).cht = s.cht := (rfl)
@[simp] theorem State.setRnd_cor (s : State) (v : Rnd) : (s.setRnd v).cor = s.cor := (rfl)
@[simp] theorem State.setRnd_ldc (s : State) (v : Rnd) : (s.setRnd v).ldc = s.ldc := (rfl)
@[simp] theorem State.setRnd_gau (s : State) (v : Rnd) : (s.setRnd v).gau = s.gau := (rfl)
@[simp] theorem State.setRnd_can (s : State) (v : Rnd) : (s.setRnd v).can = s.can := (rfl)
@[simp] theorem State.setRnd_pow (s : State) (v : Rnd) : (s.setRnd v).pow = s.pow := (rfl)
@[simp] theorem State.setRnd_enc (s : State) (v : Rnd) : (s.setRnd v).enc = s.enc := (rfl)
@[simp] theorem State.setRnd_gwy (s : State) (v : Rnd) : (s.setRnd v).gwy = s.gwy := (rfl)
@[simp] theorem State.setRnd_sio (s : State) (v : Rnd) : (s.setRnd v).sio = s.sio := (rfl)
@[simp] theorem State.setRnd_boo (s : State) (v : Rnd) : (s.setRnd v).boo = s.boo := (rfl)
@[simp] theorem State.setRnd_pai (s : State) (v : Rnd) : (s.setRnd v).pai = s.pai := (rfl)

@[simp] theorem State.setQue_pending (s : State) (v : Que) : (s.setQue v).pending = s.pending := (rfl)
@[simp] theorem State.setQue_regs (s : State) (v : Que) : (s.setQue v).regs = s.regs := (rfl)
@[simp] theorem State.setQue_cnts (s : State) (v : Que) : (s.setQue v).cnts = s.cnts := (rfl)
@[simp] theorem State.setQue_mem (s : State) (v : Que) : (s.setQue v).mem = s.mem := (rfl)
@[simp] theorem State.setQue_out (s : State) (v : Que) : (s.setQue v).out = s.out := (rfl)
@[simp] theorem State.setQue_fresh (s : State) (v : Que) : (s.setQue v).fresh = s.fresh := (rfl)
@[simp] theorem State.setQue_now (s : State) (v : Que) : (s.setQue v).now = s.now := (rfl)
@[simp] theorem State.setQue_fab (s : State) (v : Que) : (s.setQue v).fab = s.fab := (rfl)
@[simp] theorem State.setQue_rnd (s : State) (v : Que) : (s.setQue v).rnd = s.rnd := (rfl)
@[simp] theorem State.setQue_que (s : State) (v : Que) : (s.setQue v).que = v := (rfl)
@[simp] theorem State.setQue_swc (s : State) (v : Que) : (s.setQue v).swc = s.swc := (rfl)
@[simp] theorem State.setQue_prt (s : State) (v : Que) : (s.setQue v).prt = s.prt := (rfl)
@[simp] theorem State.setQue_tim (s : State) (v : Que) : (s.setQue v).tim = s.tim := (rfl)
@[simp] theorem State.setQue_wak (s : State) (v : Que) : (s.setQue v).wak = s.wak := (rfl)
@[simp] theorem State.setQue_aud (s : State) (v : Que) : (s.setQue v).aud = s.aud := (rfl)
@[simp] theorem State.setQue_cht (s : State) (v : Que) : (s.setQue v).cht = s.cht := (rfl)
@[simp] theorem State.setQue_cor (s : State) (v : Que) : (s.setQue v).cor = s.cor := (rfl)
@[simp] theorem State.setQue_ldc (s : State) (v : Que) : (s.setQue v).ldc = s.ldc := (rfl)
@[simp] theorem State.setQue_gau (s : State) (v : Que) : (s.setQue v).gau = s.gau := (rfl)
@[simp] theorem State.setQue_can (s : State) (v : Que) : (s.setQue v).can = s.can := (rfl)
@[simp] theorem State.setQue_pow (s : State) (v : Que) : (s.setQue v).pow = s.pow := (rfl)
@[simp] theorem State.setQue_enc (s : State) (v : Que) : (s.setQue v).enc = s.enc := (rfl)
@[simp] theorem State.setQue_gwy (s : State) (v : Que) : (s.setQue v).gwy = s.gwy := (rfl)
@[simp] theorem State.setQue_sio (s : State) (v : Que) : (s.setQue v).sio = s.sio := (rfl)
@[simp] theorem State.setQue_boo (s : State) (v : Que) : (s.setQue v).boo = s.boo := (rfl)
@[simp] theorem State.setQue_pai (s : State) (v : Que) : (s.setQue v).pai = s.pai := (rfl)

@[simp] theorem State.setSwc_pending (s : State) (v : Swc) : (s.setSwc v).pending = s.pending := (rfl)
@[simp] theorem State.setSwc_regs (s : State) (v : Swc) : (s.setSwc v).regs = s.regs := (rfl)
@[simp] theorem State.setSwc_cnts (s : State) (v : Swc) : (s.setSwc v).cnts = s.cnts := (rfl)
@[simp] theorem State.setSwc_mem (s : State) (v : Swc) : (s.setSwc v).mem = s.mem := (rfl)
@[simp] theorem State.setSwc_out (s : State) (v : Swc) : (s.setSwc v).out = s.out := (rfl)
@[simp] theorem State.setSwc_fresh (s : State) (v : Swc) : (s.setSwc v).fresh = s.fresh := (rfl)
@[simp] theorem State.setSwc_now (s : State) (v : Swc) : (s.setSwc v).now = s.now := (rfl)
@[simp] theorem State.setSwc_fab (s : State) (v : Swc) : (s.setSwc v).fab = s.fab := (rfl)
@[simp] theorem State.setSwc_rnd (s : State) (v : Swc) : (s.setSwc v).rnd = s.rnd := (rfl)
@[simp] theorem State.setSwc_que (s : State) (v : Swc) : (s.setSwc v).que = s.que := (rfl)
@[simp] theorem State.setSwc_swc (s : State) (v : Swc) : (s.setSwc v).swc = v := (rfl)
@[simp] theorem State.setSwc_prt (s : State) (v : Swc) : (s.setSwc v).prt = s.prt := (rfl)
@[simp] theorem State.setSwc_tim (s : State) (v : Swc) : (s.setSwc v).tim = s.tim := (rfl)
@[simp] theorem State.setSwc_wak (s : State) (v : Swc) : (s.setSwc v).wak = s.wak := (rfl)
@[simp] theorem State.setSwc_aud (s : State) (v : Swc) : (s.setSwc v).aud = s.aud := (rfl)
@[simp] theorem State.setSwc_cht (s : State) (v : Swc) : (s.setSwc v).cht = s.cht := (rfl)
@[simp] theorem State.setSwc_cor (s : State) (v : Swc) : (s.setSwc v).cor = s.cor := (rfl)
@[simp] theorem State.setSwc_ldc (s : State) (v : Swc) : (s.setSwc v).ldc = s.ldc := (rfl)
@[simp] theorem State.setSwc_gau (s : State) (v : Swc) : (s.setSwc v).gau = s.gau := (rfl)
@[simp] theorem State.setSwc_can (s : State) (v : Swc) : (s.setSwc v).can = s.can := (rfl)
@[simp] theorem State.setSwc_pow (s : State) (v : Swc) : (s.setSwc v).pow = s.pow := (rfl)
@[simp] theorem State.setSwc_enc (s : State) (v : Swc) : (s.setSwc v).enc = s.enc := (rfl)
@[simp] theorem State.setSwc_gwy (s : State) (v : Swc) : (s.setSwc v).gwy = s.gwy := (rfl)
@[simp] theorem State.setSwc_sio (s : State) (v : Swc) : (s.setSwc v).sio = s.sio := (rfl)
@[simp] theorem State.setSwc_boo (s : State) (v : Swc) : (s.setSwc v).boo = s.boo := (rfl)
@[simp] theorem State.setSwc_pai (s : State) (v : Swc) : (s.setSwc v).pai = s.pai := (rfl)

@[simp] theorem State.setPrt_pending (s : State) (v : Prt) : (s.setPrt v).pending = s.pending := (rfl)
@[simp] theorem State.setPrt_regs (s : State) (v : Prt) : (s.setPrt v).regs = s.regs := (rfl)
@[simp] theorem State.setPrt_cnts (s : State) (v : Prt) : (s.setPrt v).cnts = s.cnts := (rfl)
@[simp] theorem State.setPrt_mem (s : State) (v : Prt) : (s.setPrt v).mem = s.mem := (rfl)
@[simp] theorem State.setPrt_out (s : State) (v : Prt) : (s.setPrt v).out = s.out := (rfl)
@[simp] theorem State.setPrt_fresh (s : State) (v : Prt) : (s.setPrt v).fresh = s.fresh := (rfl)
@[simp] theorem State.setPrt_now (s : State) (v : Prt) : (s.setPrt v).now = s.now := (rfl)
@[simp] theorem State.setPrt_fab (s : State) (v : Prt) : (s.setPrt v).fab = s.fab := (rfl)
@[simp] theorem State.setPrt_rnd (s : State) (v : Prt) : (s.setPrt v).rnd = s.rnd := (rfl)
@[simp] theorem State.setPrt_que (s : State) (v : Prt) : (s.setPrt v).que = s.que := (rfl)
@[simp] theorem State.setPrt_swc (s : State) (v : Prt) : (s.setPrt v).swc = s.swc := (rfl)
@[simp] theorem State.setPrt_prt (s : State) (v : Prt) : (s.setPrt v).prt = v := (rfl)
@[simp] theorem State.setPrt_tim (s : State) (v : Prt) : (s.setPrt v).tim = s.tim := (rfl)
@[simp] theorem State.setPrt_wak (s : State) (v : Prt) : (s.setPrt v).wak = s.wak := (rfl)
@[simp] theorem State.setPrt_aud (s : State) (v : Prt) : (s.setPrt v).aud = s.aud := (rfl)
@[simp] theorem State.setPrt_cht (s : State) (v : Prt) : (s.setPrt v).cht = s.cht := (rfl)
@[simp] theorem State.setPrt_cor (s : State) (v : Prt) : (s.setPrt v).cor = s.cor := (rfl)
@[simp] theorem State.setPrt_ldc (s : State) (v : Prt) : (s.setPrt v).ldc = s.ldc := (rfl)
@[simp] theorem State.setPrt_gau (s : State) (v : Prt) : (s.setPrt v).gau = s.gau := (rfl)
@[simp] theorem State.setPrt_can (s : State) (v : Prt) : (s.setPrt v).can = s.can := (rfl)
@[simp] theorem State.setPrt_pow (s : State) (v : Prt) : (s.setPrt v).pow = s.pow := (rfl)
@[simp] theorem State.setPrt_enc (s : State) (v : Prt) : (s.setPrt v).enc = s.enc := (rfl)
@[simp] theorem State.setPrt_gwy (s : State) (v : Prt) : (s.setPrt v).gwy = s.gwy := (rfl)
@[simp] theorem State.setPrt_sio (s : State) (v : Prt) : (s.setPrt v).sio = s.sio := (rfl)
@[simp] theorem State.setPrt_boo (s : State) (v : Prt) : (s.setPrt v).boo = s.boo := (rfl)
@[simp] theorem State.setPrt_pai (s : State) (v : Prt) : (s.setPrt v).pai = s.pai := (rfl)

@[simp] theorem State.setTim_pending (s : State) (v : Tim) : (s.setTim v).pending = s.pending := (rfl)
@[simp] theorem State.setTim_regs (s : State) (v : Tim) : (s.setTim v).regs = s.regs := (rfl)
@[simp] theorem State.setTim_cnts (s : State) (v : Tim) : (s.setTim v).cnts = s.cnts := (rfl)
@[simp] theorem State.setTim_mem (s : State) (v : Tim) : (s.setTim v).mem = s.mem := (rfl)
@[simp] theorem State.setTim_out (s : State) (v : Tim) : (s.setTim v).out = s.out := (rfl)
@[simp] theorem State.setTim_fresh (s : State) (v : Tim) : (s.setTim v).fresh = s.fresh := (rfl)
@[simp] theorem State.setTim_now (s : State) (v : Tim) : (s.setTim v).now = s.now := (rfl)
@[simp] theorem State.setTim_fab (s : State) (v : Tim) : (s.setTim v).fab = s.fab := (rfl)
@[simp] theorem State.setTim_rnd (s : State) (v : Tim) : (s.setTim v).rnd = s.rnd := (rfl)
@[simp] theorem State.setTim_que (s : State) (v : Tim) : (s.setTim v).que = s.que := (rfl)
@[simp] theorem State.setTim_swc (s : State) (v : Tim) : (s.setTim v).swc = s.swc := (rfl)
@[simp] theorem State.setTim_prt (s : State) (v : Tim) : (s.setTim v).prt = s.prt := (rfl)
@[simp] theorem State.setTim_tim (s : State) (v : Tim) : (s.setTim v).tim = v := (rfl)
@[simp] theorem State.setTim_wak (s : State) (v : Tim) : (s.setTim v).wak = s.wak := (rfl)
@[simp] theorem State.setTim_aud (s : State) (v : Tim) : (s.setTim v).aud = s.aud := (rfl)
@[simp] theorem State.setTim_cht (s : State) (v : Tim) : (s.setTim v).cht = s.cht := (rfl)
@[simp] theorem State.setTim_cor (s : State) (v : Tim) : (s.setTim v).cor = s.cor := (rfl)
@[simp] theorem State.setTim_ldc (s : State) (v : Tim) : (s.setTim v).ldc = s.ldc := (rfl)
@[simp] theorem State.setTim_gau (s : State) (v : Tim) : (s.setTim v).gau = s.gau := (rfl)
@[simp] theorem State.setTim_can (s : State) (v : Tim) : (s.setTim v).can = s.can := (rfl)
@[simp] theorem State.setTim_pow (s : State) (v : Tim) : (s.setTim v).pow = s.pow := (rfl)
@[simp] theorem State.setTim_enc (s : State) (v : Tim) : (s.setTim v).enc = s.enc := (rfl)
@[simp] theorem State.setTim_gwy (s : State) (v : Tim) : (s.setTim v).gwy = s.gwy := (rfl)
@[simp] theorem State.setTim_sio (s : State) (v : Tim) : (s.setTim v).sio = s.sio := (rfl)
@[simp] theorem State.setTim_boo (s : State) (v : Tim) : (s.setTim v).boo = s.boo := (rfl)
@[simp] theorem State.setTim_pai (s : State) (v : Tim) : (s.setTim v).pai = s.pai := (rfl)

@[simp] theorem State.setWak_pending (s : State) (v : Wak) : (s.setWak v).pending = s.pending := (rfl)
@[simp] theorem State.setWak_regs (s : State) (v : Wak) : (s.setWak v).regs = s.regs := (rfl)
@[simp] theorem State.setWak_cnts (s : State) (v : Wak) : (s.setWak v).cnts = s.cnts := (rfl)
@[simp] theorem State.setWak_mem (s : State) (v : Wak) : (s.setWak v).mem = s.mem := (rfl)
@[simp] theorem State.setWak_out (s : State) (v : Wak) : (s.setWak v).out = s.out := (rfl)
@[simp] theorem State.setWak_fresh (s : State) (v : Wak) : (s.setWak v).fresh = s.fresh := (rfl)
@[simp] theorem State.setWak_now (s : State) (v : Wak) : (s.setWak v).now = s.now := (rfl)
@[simp] theorem State.setWak_fab (s : State) (v : Wak) : (s.setWak v).fab = s.fab := (rfl)
@[simp] theorem State.setWak_rnd (s : State) (v : Wak) : (s.setWak v).rnd = s.rnd := (rfl)
@[simp] theorem State.setWak_que (s : State) (v : Wak) : (s.setWak v).que = s.que := (rfl)
@[simp] theorem State.setWak_swc (s : State) (v : Wak) : (s.setWak v).swc = s.swc := (rfl)
@[simp] theorem State.setWak_prt (s : State) (v : Wak) : (s.setWak v).prt = s.prt := (rfl)
@[simp] theorem State.setWak_tim (s : State) (v : Wak) : (s.setWak v).tim = s.tim := (rfl)
@[simp] theorem State.setWak_wak (s : State) (v : Wak) : (s.setWak v).wak = v := (rfl)
@[simp] theorem State.setWak_aud (s : State) (v : Wak) : (s.setWak v).aud = s.aud := (rfl)
@[simp] theorem State.setWak_cht (s : State) (v : Wak) : (s.setWak v).cht = s.cht := (rfl)
@[simp] theorem State.setWak_cor (s : State) (v : Wak) : (s.setWak v).cor = s.cor := (rfl)
@[simp] theorem State.setWak_ldc (s : State) (v : Wak) : (s.setWak v).ldc = s.ldc := (rfl)
@[simp] theorem State.setWak_gau (s : State) (v : Wak) : (s.setWak v).gau = s.gau := (rfl)
@[simp] theorem State.setWak_can (s : State) (v : Wak) : (s.setWak v).can = s.can := (rfl)
@[simp] theorem State.setWak_pow (s : State) (v : Wak) : (s.setWak v).pow = s.pow := (rfl)
@[simp] theorem State.setWak_enc (s : State) (v : Wak) : (s.setWak v).enc = s.enc := (rfl)
@[simp] theorem State.setWak_gwy (s : State) (v : Wak) : (s.setWak v).gwy = s.gwy := (rfl)
@[simp] theorem State.setWak_sio (s : State) (v : Wak) : (s.setWak v).sio = s.sio := (rfl)
@[simp] theorem State.setWak_boo (s : State) (v : Wak) : (s.setWak v).boo = s.boo := (rfl)
@[simp] theorem State.setWak_pai (s : State) (v : Wak) : (s.setWak v).pai = s.pai := (rfl)

@[simp] theorem State.setAud_pending (s : State) (v : Aud) : (s.setAud v).pending = s.pending := (rfl)
@[simp] theorem State.setAud_regs (s : State) (v : Aud) : (s.setAud v).regs = s.regs := (rfl)
@[simp] theorem State.setAud_cnts (s : State) (v : Aud) : (s.setAud v).cnts = s.cnts := (rfl)
@[simp] theorem State.setAud_mem (s : State) (v : Aud) : (s.setAud v).mem = s.mem := (rfl)
@[simp] theorem State.setAud_out (s : State) (v : Aud) : (s.setAud v).out = s.out := (rfl)
@[simp] theorem State.setAud_fresh (s : State) (v : Aud) : (s.setAud v).fresh = s.fresh := (rfl)
@[simp] theorem State.setAud_now (s : State) (v : Aud) : (s.setAud v).now = s.now := (rfl)
@[simp] theorem State.setAud_fab (s : State) (v : Aud) : (s.setAud v).fab = s.fab := (rfl)
@[simp] theorem State.setAud_rnd (s : State) (v : Aud) : (s.setAud v).rnd = s.rnd := (rfl)
@[simp] theorem State.setAud_que (s : State) (v : Aud) : (s.setAud v).que = s.que := (rfl)
@[simp] theorem State.setAud_swc (s : State) (v : Aud) : (s.setAud v).swc = s.swc := (rfl)
@[simp] theorem State.setAud_prt (s : State) (v : Aud) : (s.setAud v).prt = s.prt := (rfl)
@[simp] theorem State.setAud_tim (s : State) (v : Aud) : (s.setAud v).tim = s.tim := (rfl)
@[simp] theorem State.setAud_wak (s : State) (v : Aud) : (s.setAud v).wak = s.wak := (rfl)
@[simp] theorem State.setAud_aud (s : State) (v : Aud) : (s.setAud v).aud = v := (rfl)
@[simp] theorem State.setAud_cht (s : State) (v : Aud) : (s.setAud v).cht = s.cht := (rfl)
@[simp] theorem State.setAud_cor (s : State) (v : Aud) : (s.setAud v).cor = s.cor := (rfl)
@[simp] theorem State.setAud_ldc (s : State) (v : Aud) : (s.setAud v).ldc = s.ldc := (rfl)
@[simp] theorem State.setAud_gau (s : State) (v : Aud) : (s.setAud v).gau = s.gau := (rfl)
@[simp] theorem State.setAud_can (s : State) (v : Aud) : (s.setAud v).can = s.can := (rfl)
@[simp] theorem State.setAud_pow (s : State) (v : Aud) : (s.setAud v).pow = s.pow := (rfl)
@[simp] theorem State.setAud_enc (s : State) (v : Aud) : (s.setAud v).enc = s.enc := (rfl)
@[simp] theorem State.setAud_gwy (s : State) (v : Aud) : (s.setAud v).gwy = s.gwy := (rfl)
@[simp] theorem State.setAud_sio (s : State) (v : Aud) : (s.setAud v).sio = s.sio := (rfl)
@[simp] theorem State.setAud_boo (s : State) (v : Aud) : (s.setAud v).boo = s.boo := (rfl)
@[simp] theorem State.setAud_pai (s : State) (v : Aud) : (s.setAud v).pai = s.pai := (rfl)

@[simp] theorem State.setCht_pending (s : State) (v : Cht) : (s.setCht v).pending = s.pending := (rfl)
@[simp] theorem State.setCht_regs (s : State) (v : Cht) : (s.setCht v).regs = s.regs := (rfl)
@[simp] theorem State.setCht_cnts (s : State) (v : Cht) : (s.setCht v).cnts = s.cnts := (rfl)
@[simp] theorem State.setCht_mem (s : State) (v : Cht) : (s.setCht v).mem = s.mem := (rfl)
@[simp] theorem State.setCht_out (s : State) (v : Cht) : (s.setCht v).out = s.out := (rfl)
@[simp] theorem State.setCht_fresh (s : State) (v : Cht) : (s.setCht v).fresh = s.fresh := (rfl)
@[simp] theorem State.setCht_now (s : State) (v : Cht) : (s.setCht v).now = s.now := (rfl)
@[simp] theorem State.setCht_fab (s : State) (v : Cht) : (s.setCht v).fab = s.fab := (rfl)
@[simp] theorem State.setCht_rnd (s : State) (v : Cht) : (s.setCht v).rnd = s.rnd := (rfl)
@[simp] theorem State.setCht_que (s : State) (v : Cht) : (s.setCht v).que = s.que := (rfl)
@[simp] theorem State.setCht_swc (s : State) (v : Cht) : (s.setCht v).swc = s.swc := (rfl)
@[simp] theorem State.setCht_prt (s : State) (v : Cht) : (s.setCht v).prt = s.prt := (rfl)
@[simp] theorem State.setCht_tim (s : State) (v : Cht) : (s.setCht v).tim = s.tim := (rfl)
@[simp] theorem State.setCht_wak (s : State) (v : Cht) : (s.setCht v).wak = s.wak := (rfl)
@[simp] theorem State.setCht_aud (s : State) (v : Cht) : (s.setCht v).aud = s.aud := (rfl)
@[simp] theorem State.setCht_cht (s : State) (v : Cht) : (s.setCht v).cht = v := (rfl)
@[simp] theorem State.setCht_cor (s : State) (v : Cht) : (s.setCht v).cor = s.cor := (rfl)
@[simp] theorem State.setCht_ldc (s : State) (v : Cht) : (s.setCht v).ldc = s.ldc := (rfl)
@[simp] theorem State.setCht_gau (s : State) (v : Cht) : (s.setCht v).gau = s.gau := (rfl)
@[simp] theorem State.setCht_can (s : State) (v : Cht) : (s.setCht v).can = s.can := (rfl)
@[simp] theorem State.setCht_pow (s : State) (v : Cht) : (s.setCht v).pow = s.pow := (rfl)
@[simp] theorem State.setCht_enc (s : State) (v : Cht) : (s.setCht v).enc = s.enc := (rfl)
@[simp] theorem State.setCht_gwy (s : State) (v : Cht) : (s.setCht v).gwy = s.gwy := (rfl)
@[simp] theorem State.setCht_sio (s : State) (v : Cht) : (s.setCht v).sio = s.sio := (rfl)
@[simp] theorem State.setCht_boo (s : State) (v : Cht) : (s.setCht v).boo = s.boo := (rfl)
@[simp] theorem State.setCht_pai (s : State) (v : Cht) : (s.setCht v).pai = s.pai := (rfl)

@[simp] theorem State.setCor_pending (s : State) (v : Cor) : (s.setCor v).pending = s.pending := (rfl)
@[simp] theorem State.setCor_regs (s : State) (v : Cor) : (s.setCor v).regs = s.regs := (rfl)
@[simp] theorem State.setCor_cnts (s : State) (v : Cor) : (s.setCor v).cnts = s.cnts := (rfl)
@[simp] theorem State.setCor_mem (s : State) (v : Cor) : (s.setCor v).mem = s.mem := (rfl)
@[simp] theorem State.setCor_out (s : State) (v : Cor) : (s.setCor v).out = s.out := (rfl)
@[simp] theorem State.setCor_fresh (s : State) (v : Cor) : (s.setCor v).fresh = s.fresh := (rfl)
@[simp] theorem State.setCor_now (s : State) (v : Cor) : (s.setCor v).now = s.now := (rfl)
@[simp] theorem State.setCor_fab (s : State) (v : Cor) : (s.setCor v).fab = s.fab := (rfl)
@[simp] theorem State.setCor_rnd (s : State) (v : Cor) : (s.setCor v).rnd = s.rnd := (rfl)
@[simp] theorem State.setCor_que (s : State) (v : Cor) : (s.setCor v).que = s.que := (rfl)
@[simp] theorem State.setCor_swc (s : State) (v : Cor) : (s.setCor v).swc = s.swc := (rfl)
@[simp] theorem State.setCor_prt (s : State) (v : Cor) : (s.setCor v).prt = s.prt := (rfl)
@[simp] theorem State.setCor_tim (s : State) (v : Cor) : (s.setCor v).tim = s.tim := (rfl)
@[simp] theorem State.setCor_wak (s : State) (v : Cor) : (s.setCor v).wak = s.wak := (rfl)
@[simp] theorem State.setCor_aud (s : State) (v : Cor) : (s.setCor v).aud = s.aud := (rfl)
@[simp] theorem State.setCor_cht (s : State) (v : Cor) : (s.setCor v).cht = s.cht := (rfl)
@[simp] theorem State.setCor_cor (s : State) (v : Cor) : (s.setCor v).cor = v := (rfl)
@[simp] theorem State.setCor_ldc (s : State) (v : Cor) : (s.setCor v).ldc = s.ldc := (rfl)
@[simp] theorem State.setCor_gau (s : State) (v : Cor) : (s.setCor v).gau = s.gau := (rfl)
@[simp] theorem State.setCor_can (s : State) (v : Cor) : (s.setCor v).can = s.can := (rfl)
@[simp] theorem State.setCor_pow (s : State) (v : Cor) : (s.setCor v).pow = s.pow := (rfl)
@[simp] theorem State.setCor_enc (s : State) (v : Cor) : (s.setCor v).enc = s.enc := (rfl)
@[simp] theorem State.setCor_gwy (s : State) (v : Cor) : (s.setCor v).gwy = s.gwy := (rfl)
@[simp] theorem State.setCor_sio (s : State) (v : Cor) : (s.setCor v).sio = s.sio := (rfl)
@[simp] theorem State.setCor_boo (s : State) (v : Cor) : (s.setCor v).boo = s.boo := (rfl)
@[simp] theorem State.setCor_pai (s : State) (v : Cor) : (s.setCor v).pai = s.pai := (rfl)

@[simp] theorem State.setLdc_pending (s : State) (v : Ldc) : (s.setLdc v).pending = s.pending := (rfl)
@[simp] theorem State.setLdc_regs (s : State) (v : Ldc) : (s.setLdc v).regs = s.regs := (rfl)
@[simp] theorem State.setLdc_cnts (s : State) (v : Ldc) : (s.setLdc v).cnts = s.cnts := (rfl)
@[simp] theorem State.setLdc_mem (s : State) (v : Ldc) : (s.setLdc v).mem = s.mem := (rfl)
@[simp] theorem State.setLdc_out (s : State) (v : Ldc) : (s.setLdc v).out = s.out := (rfl)
@[simp] theorem State.setLdc_fresh (s : State) (v : Ldc) : (s.setLdc v).fresh = s.fresh := (rfl)
@[simp] theorem State.setLdc_now (s : State) (v : Ldc) : (s.setLdc v).now = s.now := (rfl)
@[simp] theorem State.setLdc_fab (s : State) (v : Ldc) : (s.setLdc v).fab = s.fab := (rfl)
@[simp] theorem State.setLdc_rnd (s : State) (v : Ldc) : (s.setLdc v).rnd = s.rnd := (rfl)
@[simp] theorem State.setLdc_que (s : State) (v : Ldc) : (s.setLdc v).que = s.que := (rfl)
@[simp] theorem State.setLdc_swc (s : State) (v : Ldc) : (s.setLdc v).swc = s.swc := (rfl)
@[simp] theorem State.setLdc_prt (s : State) (v : Ldc) : (s.setLdc v).prt = s.prt := (rfl)
@[simp] theorem State.setLdc_tim (s : State) (v : Ldc) : (s.setLdc v).tim = s.tim := (rfl)
@[simp] theorem State.setLdc_wak (s : State) (v : Ldc) : (s.setLdc v).wak = s.wak := (rfl)
@[simp] theorem State.setLdc_aud (s : State) (v : Ldc) : (s.setLdc v).aud = s.aud := (rfl)
@[simp] theorem State.setLdc_cht (s : State) (v : Ldc) : (s.setLdc v).cht = s.cht := (rfl)
@[simp] theorem State.setLdc_cor (s : State) (v : Ldc) : (s.setLdc v).cor = s.cor := (rfl)
@[simp] theorem State.setLdc_ldc (s : State) (v : Ldc) : (s.setLdc v).ldc = v := (rfl)
@[simp] theorem State.setLdc_gau (s : State) (v : Ldc) : (s.setLdc v).gau = s.gau := (rfl)
@[simp] theorem State.setLdc_can (s : State) (v : Ldc) : (s.setLdc v).can = s.can := (rfl)
@[simp] theorem State.setLdc_pow (s : State) (v : Ldc) : (s.setLdc v).pow = s.pow := (rfl)
@[simp] theorem State.setLdc_enc (s : State) (v : Ldc) : (s.setLdc v).enc = s.enc := (rfl)
@[simp] theorem State.setLdc_gwy (s : State) (v : Ldc) : (s.setLdc v).gwy = s.gwy := (rfl)
@[simp] theorem State.setLdc_sio (s : State) (v : Ldc) : (s.setLdc v).sio = s.sio := (rfl)
@[simp] theorem State.setLdc_boo (s : State) (v : Ldc) : (s.setLdc v).boo = s.boo := (rfl)
@[simp] theorem State.setLdc_pai (s : State) (v : Ldc) : (s.setLdc v).pai = s.pai := (rfl)

@[simp] theorem State.setGau_pending (s : State) (v : Gau) : (s.setGau v).pending = s.pending := (rfl)
@[simp] theorem State.setGau_regs (s : State) (v : Gau) : (s.setGau v).regs = s.regs := (rfl)
@[simp] theorem State.setGau_cnts (s : State) (v : Gau) : (s.setGau v).cnts = s.cnts := (rfl)
@[simp] theorem State.setGau_mem (s : State) (v : Gau) : (s.setGau v).mem = s.mem := (rfl)
@[simp] theorem State.setGau_out (s : State) (v : Gau) : (s.setGau v).out = s.out := (rfl)
@[simp] theorem State.setGau_fresh (s : State) (v : Gau) : (s.setGau v).fresh = s.fresh := (rfl)
@[simp] theorem State.setGau_now (s : State) (v : Gau) : (s.setGau v).now = s.now := (rfl)
@[simp] theorem State.setGau_fab (s : State) (v : Gau) : (s.setGau v).fab = s.fab := (rfl)
@[simp] theorem State.setGau_rnd (s : State) (v : Gau) : (s.setGau v).rnd = s.rnd := (rfl)
@[simp] theorem State.setGau_que (s : State) (v : Gau) : (s.setGau v).que = s.que := (rfl)
@[simp] theorem State.setGau_swc (s : State) (v : Gau) : (s.setGau v).swc = s.swc := (rfl)
@[simp] theorem State.setGau_prt (s : State) (v : Gau) : (s.setGau v).prt = s.prt := (rfl)
@[simp] theorem State.setGau_tim (s : State) (v : Gau) : (s.setGau v).tim = s.tim := (rfl)
@[simp] theorem State.setGau_wak (s : State) (v : Gau) : (s.setGau v).wak = s.wak := (rfl)
@[simp] theorem State.setGau_aud (s : State) (v : Gau) : (s.setGau v).aud = s.aud := (rfl)
@[simp] theorem State.setGau_cht (s : State) (v : Gau) : (s.setGau v).cht = s.cht := (rfl)
@[simp] theorem State.setGau_cor (s : State) (v : Gau) : (s.setGau v).cor = s.cor := (rfl)
@[simp] theorem State.setGau_ldc (s : State) (v : Gau) : (s.setGau v).ldc = s.ldc := (rfl)
@[simp] theorem State.setGau_gau (s : State) (v : Gau) : (s.setGau v).gau = v := (rfl)
@[simp] theorem State.setGau_can (s : State) (v : Gau) : (s.setGau v).can = s.can := (rfl)
@[simp] theorem State.setGau_pow (s : State) (v : Gau) : (s.setGau v).pow = s.pow := (rfl)
@[simp] theorem State.setGau_enc (s : State) (v : Gau) : (s.setGau v).enc = s.enc := (rfl)
@[simp] theorem State.setGau_gwy (s : State) (v : Gau) : (s.setGau v).gwy = s.gwy := (rfl)
@[simp] theorem State.setGau_sio (s : State) (v : Gau) : (s.setGau v).sio = s.sio := (rfl)
@[simp] theorem State.setGau_boo (s : State) (v : Gau) : (s.setGau v).boo = s.boo := (rfl)
@[simp] theorem State.setGau_pai (s : State) (v : Gau) : (s.setGau v).pai = s.pai := (rfl)

@[simp] theorem State.setCan_pending (s : State) (v : Can) : (s.setCan v).pending = s.pending := (rfl)
@[simp] theorem State.setCan_regs (s : State) (v : Can) : (s.setCan v).regs = s.regs := (rfl)
@[simp] theorem State.setCan_cnts (s : State) (v : Can) : (s.setCan v).cnts = s.cnts := (rfl)
@[simp] theorem State.setCan_mem (s : State) (v : Can) : (s.setCan v).mem = s.mem := (rfl)
@[simp] theorem State.setCan_out (s : State) (v : Can) : (s.setCan v).out = s.out := (rfl)
@[simp] theorem State.setCan_fresh (s : State) (v : Can) : (s.setCan v).fresh = s.fresh := (rfl)
@[simp] theorem State.setCan_now (s : State) (v : Can) : (s.setCan v).now = s.now := (rfl)
@[simp] theorem State.setCan_fab (s : State) (v : Can) : (s.setCan v).fab = s.fab := (rfl)
@[simp] theorem State.setCan_rnd (s : State) (v : Can) : (s.setCan v).rnd = s.rnd := (rfl)
@[simp] theorem State.setCan_que (s : State) (v : Can) : (s.setCan v).que = s.que := (rfl)
@[simp] theorem State.setCan_swc (s : State) (v : Can) : (s.setCan v).swc = s.swc := (rfl)
@[simp] theorem State.setCan_prt (s : State) (v : Can) : (s.setCan v).prt = s.prt := (rfl)
@[simp] theorem State.setCan_tim (s : State) (v : Can) : (s.setCan v).tim = s.tim := (rfl)
@[simp] theorem State.setCan_wak (s : State) (v : Can) : (s.setCan v).wak = s.wak := (rfl)
@[simp] theorem State.setCan_aud (s : State) (v : Can) : (s.setCan v).aud = s.aud := (rfl)
@[simp] theorem State.setCan_cht (s : State) (v : Can) : (s.setCan v).cht = s.cht := (rfl)
@[simp] theorem State.setCan_cor (s : State) (v : Can) : (s.setCan v).cor = s.cor := (rfl)
@[simp] theorem State.setCan_ldc (s : State) (v : Can) : (s.setCan v).ldc = s.ldc := (rfl)
@[simp] theorem State.setCan_gau (s : State) (v : Can) : (s.setCan v).gau = s.gau := (rfl)
@[simp] theorem State.setCan_can (s : State) (v : Can) : (s.setCan v).can = v := (rfl)
@[simp] theorem State.setCan_pow (s : State) (v : Can) : (s.setCan v).pow = s.pow := (rfl)
@[simp] theorem State.setCan_enc (s : State) (v : Can) : (s.setCan v).enc = s.enc := (rfl)
@[simp] theorem State.setCan_gwy (s : State) (v : Can) : (s.setCan v).gwy = s.gwy := (rfl)
@[simp] theorem State.setCan_sio (s : State) (v : Can) : (s.setCan v).sio = s.sio := (rfl)
@[simp] theorem State.setCan_boo (s : State) (v : Can) : (s.setCan v).boo = s.boo := (rfl)
@[simp] theorem State.setCan_pai (s : State) (v : Can) : (s.setCan v).pai = s.pai := (rfl)

@[simp] theorem State.setPow_pending (s : State) (v : Pow) : (s.setPow v).pending = s.pending := (rfl)
@[simp] theorem State.setPow_regs (s : State) (v : Pow) : (s.setPow v).regs = s.regs := (rfl)
@[simp] theorem State.setPow_cnts (s : State) (v : Pow) : (s.setPow v).cnts = s.cnts := (rfl)
@[simp] theorem State.setPow_mem (s : State) (v : Pow) : (s.setPow v).mem = s.mem := (rfl)
@[simp] theorem State.setPow_out (s : State) (v : Pow) : (s.setPow v).out = s.out := (rfl)
@[simp] theorem State.setPow_fresh (s : State) (v : Pow) : (s.setPow v).fresh = s.fresh := (rfl)
@[simp] theorem State.setPow_now (s : State) (v : Pow) : (s.setPow v).now = s.now := (rfl)
@[simp] theorem State.setPow_fab (s : State) (v : Pow) : (s.setPow v).fab = s.fab := (rfl)
@[simp] theorem State.setPow_rnd (s : State) (v : Pow) : (s.setPow v).rnd = s.rnd := (rfl)
@[simp] theorem State.setPow_que (s : State) (v : Pow) : (s.setPow v).que = s.que := (rfl)
@[simp] theorem State.setPow_swc (s : State) (v : Pow) : (s.setPow v).swc = s.swc := (rfl)
@[simp] theorem State.setPow_prt (s : State) (v : Pow) : (s.setPow v).prt = s.prt := (rfl)
@[simp] theorem State.setPow_tim (s : State) (v : Pow) : (s.setPow v).tim = s.tim := (rfl)
@[simp] theorem State.setPow_wak (s : State) (v : Pow) : (s.setPow v).wak = s.wak := (rfl)
@[simp] theorem State.setPow_aud (s : State) (v : Pow) : (s.setPow v).aud = s.aud := (rfl)
@[simp] theorem State.setPow_cht (s : State) (v : Pow) : (s.setPow v).cht = s.cht := (rfl)
@[simp] theorem State.setPow_cor (s : State) (v : Pow) : (s.setPow v).cor = s.cor := (rfl)
@[simp] theorem State.setPow_ldc (s : State) (v : Pow) : (s.setPow v).ldc = s.ldc := (rfl)
@[simp] theorem State.setPow_gau (s : State) (v : Pow) : (s.setPow v).gau = s.gau := (rfl)
@[simp] theorem State.setPow_can (s : State) (v : Pow) : (s.setPow v).can = s.can := (rfl)
@[simp] theorem State.setPow_pow (s : State) (v : Pow) : (s.setPow v).pow = v := (rfl)
@[simp] theorem State.setPow_enc (s : State) (v : Pow) : (s.setPow v).enc = s.enc := (rfl)
@[simp] theorem State.setPow_gwy (s : State) (v : Pow) : (s.setPow v).gwy = s.gwy := (rfl)
@[simp] theorem State.setPow_sio (s : State) (v : Pow) : (s.setPow v).sio = s.sio := (rfl)
@[simp] theorem State.setPow_boo (s : State) (v : Pow) : (s.setPow v).boo = s.boo := (rfl)
@[simp] theorem State.setPow_pai (s : State) (v : Pow) : (s.setPow v).pai = s.pai := (rfl)

@[simp] theorem State.setEnc_pending (s : State) (v : Enc) : (s.setEnc v).pending = s.pending := (rfl)
@[simp] theorem State.setEnc_regs (s : State) (v : Enc) : (s.setEnc v).regs = s.regs := (rfl)
@[simp] theorem State.setEnc_cnts (s : State) (v : Enc) : (s.setEnc v).cnts = s.cnts := (rfl)
@[simp] theorem State.setEnc_mem (s : State) (v : Enc) : (s.setEnc v).mem = s.mem := (rfl)
@[simp] theorem State.setEnc_out (s : State) (v : Enc) : (s.setEnc v).out = s.out := (rfl)
@[simp] theorem State.setEnc_fresh (s : State) (v : Enc) : (s.setEnc v).fresh = s.fresh := (rfl)
@[simp] theorem State.setEnc_now (s : State) (v : Enc) : (s.setEnc v).now = s.now := (rfl)
@[simp] theorem State.setEnc_fab (s : State) (v : Enc) : (s.setEnc v).fab = s.fab := (rfl)
@[simp] theorem State.setEnc_rnd (s : State) (v : Enc) : (s.setEnc v).rnd = s.rnd := (rfl)
@[simp] theorem State.setEnc_que (s : State) (v : Enc) : (s.setEnc v).que = s.que := (rfl)
@[simp] theorem State.setEnc_swc (s : State) (v : Enc) : (s.setEnc v).swc = s.swc := (rfl)
@[simp] theorem State.setEnc_prt (s : State) (v : Enc) : (s.setEnc v).prt = s.prt := (rfl)
@[simp] theorem State.setEnc_tim (s : State) (v : Enc) : (s.setEnc v).tim = s.tim := (rfl)
@[simp] theorem State.setEnc_wak (s : State) (v : Enc) : (s.setEnc v).wak = s.wak := (rfl)
@[simp] theorem State.setEnc_aud (s : State) (v : Enc) : (s.setEnc v).aud = s.aud := (rfl)
@[simp] theorem State.setEnc_cht (s : State) (v : Enc) : (s.setEnc v).cht = s.cht := (rfl)
@[simp] theorem State.setEnc_cor (s : State) (v : Enc) : (s.setEnc v).cor = s.cor := (rfl)
@[simp] theorem State.setEnc_ldc (s : State) (v : Enc) : (s.setEnc v).ldc = s.ldc := (rfl)
@[simp] theorem State.setEnc_gau (s : State) (v : Enc) : (s.setEnc v).gau = s.gau := (rfl)
@[simp] theorem State.setEnc_can (s : State) (v : Enc) : (s.setEnc v).can = s.can := (rfl)
@[simp] theorem State.setEnc_pow (s : State) (v : Enc) : (s.setEnc v).pow = s.pow := (rfl)
@[simp] theorem State.setEnc_enc (s : State) (v : Enc) : (s.setEnc v).enc = v := (rfl)
@[simp] theorem State.setEnc_gwy (s : State) (v : Enc) : (s.setEnc v).gwy = s.gwy := (rfl)
@[simp] theorem State.setEnc_sio (s : State) (v : Enc) : (s.setEnc v).sio = s.sio := (rfl)
@[simp] theorem State.setEnc_boo (s : State) (v : Enc) : (s.setEnc v).boo = s.boo := (rfl)
@[simp] theorem State.setEnc_pai (s : State) (v : Enc) : (s.setEnc v).pai = s.pai := (rfl)

@[simp] theorem State.setGwy_pending (s : State) (v : Gwy) : (s.setGwy v).pending = s.pending := (rfl)
@[simp] theorem State.setGwy_regs (s : State) (v : Gwy) : (s.setGwy v).regs = s.regs := (rfl)
@[simp] theorem State.setGwy_cnts (s : State) (v : Gwy) : (s.setGwy v).cnts = s.cnts := (rfl)
@[simp] theorem State.setGwy_mem (s : State) (v : Gwy) : (s.setGwy v).mem = s.mem := (rfl)
@[simp] theorem State.setGwy_out (s : State) (v : Gwy) : (s.setGwy v).out = s.out := (rfl)
@[simp] theorem State.setGwy_fresh (s : State) (v : Gwy) : (s.setGwy v).fresh = s.fresh := (rfl)
@[simp] theorem State.setGwy_now (s : State) (v : Gwy) : (s.setGwy v).now = s.now := (rfl)
@[simp] theorem State.setGwy_fab (s : State) (v : Gwy) : (s.setGwy v).fab = s.fab := (rfl)
@[simp] theorem State.setGwy_rnd (s : State) (v : Gwy) : (s.setGwy v).rnd = s.rnd := (rfl)
@[simp] theorem State.setGwy_que (s : State) (v : Gwy) : (s.setGwy v).que = s.que := (rfl)
@[simp] theorem State.setGwy_swc (s : State) (v : Gwy) : (s.setGwy v).swc = s.swc := (rfl)
@[simp] theorem State.setGwy_prt (s : State) (v : Gwy) : (s.setGwy v).prt = s.prt := (rfl)
@[simp] theorem State.setGwy_tim (s : State) (v : Gwy) : (s.setGwy v).tim = s.tim := (rfl)
@[simp] theorem State.setGwy_wak (s : State) (v : Gwy) : (s.setGwy v).wak = s.wak := (rfl)
@[simp] theorem State.setGwy_aud (s : State) (v : Gwy) : (s.setGwy v).aud = s.aud := (rfl)
@[simp] theorem State.setGwy_cht (s : State) (v : Gwy) : (s.setGwy v).cht = s.cht := (rfl)
@[simp] theorem State.setGwy_cor (s : State) (v : Gwy) : (s.setGwy v).cor = s.cor := (rfl)
@[simp] theorem State.setGwy_ldc (s : State) (v : Gwy) : (s.setGwy v).ldc = s.ldc := (rfl)
@[simp] theorem State.setGwy_gau (s : State) (v : Gwy) : (s.setGwy v).gau = s.gau := (rfl)
@[simp] theorem State.setGwy_can (s : State) (v : Gwy) : (s.setGwy v).can = s.can := (rfl)
@[simp] theorem State.setGwy_pow (s : State) (v : Gwy) : (s.setGwy v).pow = s.pow := (rfl)
@[simp] theorem State.setGwy_enc (s : State) (v : Gwy) : (s.setGwy v).enc = s.enc := (rfl)
@[simp] theorem State.setGwy_gwy (s : State) (v : Gwy) : (s.setGwy v).gwy = v := (rfl)
@[simp] theorem State.setGwy_sio (s : State) (v : Gwy) : (s.setGwy v).sio = s.sio := (rfl)
@[simp] theorem State.setGwy_boo (s : State) (v : Gwy) : (s.setGwy v).boo = s.boo := (rfl)
@[simp] theorem State.setGwy_pai (s : State) (v : Gwy) : (s.setGwy v).pai = s.pai := (rfl)

@[simp] theorem State.setSio_pending (s : State) (v : Sio) : (s.setSio v).pending = s.pending := (rfl)
@[simp] theorem State.setSio_regs (s : State) (v : Sio) : (s.setSio v).regs = s.regs := (rfl)
@[simp] theorem State.setSio_cnts (s : State) (v : Sio) : (s.setSio v).cnts = s.cnts := (rfl)
@[simp] theorem State.setSio_mem (s : State) (v : Sio) : (s.setSio v).mem = s.mem := (rfl)
@[simp] theorem State.setSio_out (s : State) (v : Sio) : (s.setSio v).out = s.out := (rfl)
@[simp] theorem State.setSio_fresh (s : State) (v : Sio) : (s.setSio v).fresh = s.fresh := (rfl)
@[simp] theorem State.setSio_now (s : State) (v : Sio) : (s.setSio v).now = s.now := (rfl)
@[simp] theorem State.setSio_fab (s : State) (v : Sio) : (s.setSio v).fab = s.fab := (rfl)
@[simp] theorem State.setSio_rnd (s : State) (v : Sio) : (s.setSio v).rnd = s.rnd := (rfl)
@[simp] theorem State.setSio_que (s : State) (v : Sio) : (s.setSio v).que = s.que := (rfl)
@[simp] theorem State.setSio_swc (s : State) (v : Sio) : (s.setSio v).swc = s.swc := (rfl)
@[simp] theorem State.setSio_prt (s : State) (v : Sio) : (s.setSio v).prt = s.prt := (rfl)
@[simp] theorem State.setSio_tim (s : State) (v : Sio) : (s.setSio v).tim = s.tim := (rfl)
@[simp] theorem State.setSio_wak (s : State) (v : Sio) : (s.setSio v).wak = s.wak := (rfl)
@[simp] theorem State.setSio_aud (s : State) (v : Sio) : (s.setSio v).aud = s.aud := (rfl)
@[simp] theorem State.setSio_cht (s : State) (v : Sio) : (s.setSio v).cht = s.cht := (rfl)
@[simp] theorem State.setSio_cor (s : State) (v : Sio) : (s.setSio v).cor = s.cor := (rfl)
@[simp] theorem State.setSio_ldc (s : State) (v : Sio) : (s.setSio v).ldc = s.ldc := (rfl)
@[simp] theorem State.setSio_gau (s : State) (v : Sio) : (s.setSio v).gau = s.gau := (rfl)
@[simp] theorem State.setSio_can (s : State) (v : Sio) : (s.setSio v).can = s.can := (rfl)
@[simp] theorem State.setSio_pow (s : State) (v : Sio) : (s.setSio v).pow = s.pow := (rfl)
@[simp] theorem State.setSio_enc (s : State) (v : Sio) : (s.setSio v).enc = s.enc := (rfl)
@[simp] theorem State.setSio_gwy (s : State) (v : Sio) : (s.setSio v).gwy = s.gwy := (rfl)
@[simp] theorem State.setSio_sio (s : State) (v : Sio) : (s.setSio v).sio = v := (rfl)
@[simp] theorem State.setSio_boo (s : State) (v : Sio) : (s.setSio v).boo = s.boo := (rfl)
@[simp] theorem State.setSio_pai (s : State) (v : Sio) : (s.setSio v).pai = s.pai := (rfl)

@[simp] theorem State.setBoo_pending (s : State) (v : Boo) : (s.setBoo v).pending = s.pending := (rfl)
@[simp] theorem State.setBoo_regs (s : State) (v : Boo) : (s.setBoo v).regs = s.regs := (rfl)
@[simp] theorem State.setBoo_cnts (s : State) (v : Boo) : (s.setBoo v).cnts = s.cnts := (rfl)
@[simp] theorem State.setBoo_mem (s : State) (v : Boo) : (s.setBoo v).mem = s.mem := (rfl)
@[simp] theorem State.setBoo_out (s : State) (v : Boo) : (s.setBoo v).out = s.out := (rfl)
@[simp] theorem State.setBoo_fresh (s : State) (v : Boo) : (s.setBoo v).fresh = s.fresh := (rfl)
@[simp] theorem State.setBoo_now (s : State) (v : Boo) : (s.setBoo v).now = s.now := (rfl)
@[simp] theorem State.setBoo_fab (s : State) (v : Boo) : (s.setBoo v).fab = s.fab := (rfl)
@[simp] theorem State.setBoo_rnd (s : State) (v : Boo) : (s.setBoo v).rnd = s.rnd := (rfl)
@[simp] theorem State.setBoo_que (s : State) (v : Boo) : (s.setBoo v).que = s.que := (rfl)
@[simp] theorem State.setBoo_swc (s : State) (v : Boo) : (s.setBoo v).swc = s.swc := (rfl)
@[simp] theorem State.setBoo_prt (s : State) (v : Boo) : (s.setBoo v).prt = s.prt := (rfl)
@[simp] theorem State.setBoo_tim (s : State) (v : Boo) : (s.setBoo v).tim = s.tim := (rfl)
@[simp] theorem State.setBoo_wak (s : State) (v : Boo) : (s.setBoo v).wak = s.wak := (rfl)
@[simp] theorem State.setBoo_aud (s : State) (v : Boo) : (s.setBoo v).aud = s.aud := (rfl)
@[simp] theorem State.setBoo_cht (s : State) (v : Boo) : (s.setBoo v).cht = s.cht := (rfl)
@[simp] theorem State.setBoo_cor (s : State) (v : Boo) : (s.setBoo v).cor = s.cor := (rfl)
@[simp] theorem State.setBoo_ldc (s : State) (v : Boo) : (s.setBoo v).ldc = s.ldc := (rfl)
@[simp] theorem State.setBoo_gau (s : State) (v : Boo) : (s.setBoo v).gau = s.gau := (rfl)
@[simp] theorem State.setBoo_can (s : State) (v : Boo) : (s.setBoo v).can = s.can := (rfl)
@[simp] theorem State.setBoo_pow (s : State) (v : Boo) : (s.setBoo v).pow = s.pow := (rfl)
@[simp] theorem State.setBoo_enc (s : State) (v : Boo) : (s.setBoo v).enc = s.enc := (rfl)
@[simp] theorem State.setBoo_gwy (s : State) (v : Boo) : (s.setBoo v).gwy = s.gwy := (rfl)
@[simp] theorem State.setBoo_sio (s : State) (v : Boo) : (s.setBoo v).sio = s.sio := (rfl)
@[simp] theorem State.setBoo_boo (s : State) (v : Boo) : (s.setBoo v).boo = v := (rfl)
@[simp] theorem State.setBoo_pai (s : State) (v : Boo) : (s.setBoo v).pai = s.pai := (rfl)

@[simp] theorem State.setPai_pending (s : State) (v : Pai) : (s.setPai v).pending = s.pending := (rfl)
@[simp] theorem State.setPai_regs (s : State) (v : Pai) : (s.setPai v).regs = s.regs := (rfl)
@[simp] theorem State.setPai_cnts (s : State) (v : Pai) : (s.setPai v).cnts = s.cnts := (rfl)
@[simp] theorem State.setPai_mem (s : State) (v : Pai) : (s.setPai v).mem = s.mem := (rfl)
@[simp] theorem State.setPai_out (s : State) (v : Pai) : (s.setPai v).out = s.out := (rfl)
@[simp] theorem State.setPai_fresh (s : State) (v : Pai) : (s.setPai v).fresh = s.fresh := (rfl)
@[simp] theorem State.setPai_now (s : State) (v : Pai) : (s.setPai v).now = s.now := (rfl)
@[simp] theorem State.setPai_fab (s : State) (v : Pai) : (s.setPai v).fab = s.fab := (rfl)
@[simp] theorem State.setPai_rnd (s : State) (v : Pai) : (s.setPai v).rnd = s.rnd := (rfl)
@[simp] theorem State.setPai_que (s : State) (v : Pai) : (s.setPai v).que = s.que := (rfl)
@[simp] theorem State.setPai_swc (s : State) (v : Pai) : (s.setPai v).swc = s.swc := (rfl)
@[simp] theorem State.setPai_prt (s : State) (v : Pai) : (s.setPai v).prt = s.prt := (rfl)
@[simp] theorem State.setPai_tim (s : State) (v : Pai) : (s.setPai v).tim = s.tim := (rfl)
@[simp] theorem State.setPai_wak (s : State) (v : Pai) : (s.setPai v).wak = s.wak := (rfl)
@[simp] theorem State.setPai_aud (s : State) (v : Pai) : (s.setPai v).aud = s.aud := (rfl)
@[simp] theorem State.setPai_cht (s : State) (v : Pai) : (s.setPai v).cht = s.cht := (rfl)
@[simp] theorem State.setPai_cor (s : State) (v : Pai) : (s.setPai v).cor = s.cor := (rfl)
@[simp] theorem State.setPai_ldc (s : State) (v : Pai) : (s.setPai v).ldc = s.ldc := (rfl)
@[simp] theorem State.setPai_gau (s : State) (v : Pai) : (s.setPai v).gau = s.gau := (rfl)
@[simp] theorem State.setPai_can (s : State) (v : Pai) : (s.setPai v).can = s.can := (rfl)
@[simp] theorem State.setPai_pow (s : State) (v : Pai) : (s.setPai v).pow = s.pow := (rfl)
@[simp] theorem State.setPai_enc (s : State) (v : Pai) : (s.setPai v).enc = s.enc := (rfl)
@[simp] theorem State.setPai_gwy (s : State) (v : Pai) : (s.setPai v).gwy = s.gwy := (rfl)
@[simp] theorem State.setPai_sio (s : State) (v : Pai) : (s.setPai v).sio = s.sio := (rfl)
@[simp] theorem State.setPai_boo (s : State) (v : Pai) : (s.setPai v).boo = s.boo := (rfl)
@[simp] theorem State.setPai_pai (s : State) (v : Pai) : (s.setPai v).pai = v := (rfl)

end Sys2Proof.Machine
end

