-- ==== Sys2Proof/Laws/Store.lean ====
section
/-! SUPPORT. Sparse stores: what a read gives after a write, and that a write keeps the canonical form. -/
namespace Sys2Proof.Machine

theorem storeErase_keys {α : Type} (m : Store α) (k : Nat) : ∀ x ∈ storeErase m k, x.1 ≠ k := by
  induction m with
  | nil => simp [storeErase]
  | cons x r ih =>
    obtain ⟨i, v⟩ := x
    by_cases h : i = k
    · simpa [storeErase, h] using ih
    · simp only [storeErase, h, if_false, List.mem_cons, forall_eq_or_imp]
      exact ⟨h, ih⟩

theorem storeGet_erase {α : Type} (d : Nat → α) (m : Store α) (k j : Nat) :
    storeGet d (storeErase m k) j = if k = j then d j else storeGet d m j := by
  induction m with
  | nil => simp [storeErase, storeGet]
  | cons x r ih =>
    obtain ⟨i, v⟩ := x
    by_cases h : i = k <;> by_cases g : k = j
    · subst h; subst g; simpa [storeErase, storeGet] using ih
    · subst h; simp only [storeErase, if_true, ih, storeGet, if_neg g]
    · subst g; simp only [storeErase, storeGet, if_neg h, ih, if_true]
    · simp only [storeErase, storeGet, if_neg h, ih, if_neg g]

theorem storeGet_ins {α : Type} (d : Nat → α) (m : Store α) (k : Nat) (v : α) (j : Nat)
    (hm : ∀ x ∈ m, x.1 ≠ k) :
    storeGet d (storeIns m k v) j = if k = j then v else storeGet d m j := by
  induction m with
  | nil => simp [storeIns, storeGet]
  | cons x r ih =>
    obtain ⟨i, w⟩ := x
    have hi : i ≠ k := hm (i, w) (List.mem_cons_self ..)
    have hr : ∀ x ∈ r, x.1 ≠ k := fun x h => hm x (List.mem_cons_of_mem _ h)
    by_cases h : k < i
    · simp only [storeIns, if_pos h, storeGet]
    · simp only [storeIns, if_neg h, storeGet, ih hr]
      by_cases g : i = j
      · have e : k ≠ j := fun e => hi (g.trans e.symm)
        simp [g, e]
      · simp [g]

/-- A read after a write. -/
theorem storeGet_set {α : Type} [DecidableEq α] (d : Nat → α) (m : Store α) (k : Nat) (v : α) (j : Nat) :
    storeGet d (storeSet d m k v) j = if k = j then v else storeGet d m j := by
  unfold storeSet
  split
  · rename_i h
    rw [storeGet_erase]
    split
    · rename_i e; rw [h, e]
    · rfl
  · rw [storeGet_ins d _ k v j (storeErase_keys m k), storeGet_erase]
    split <;> rfl

@[simp] theorem storeGet_set_self {α : Type} [DecidableEq α] (d : Nat → α) (m : Store α) (k : Nat) (v : α) :
    storeGet d (storeSet d m k v) k = v := by
  rw [storeGet_set, if_pos rfl]

theorem storeGet_set_other {α : Type} [DecidableEq α] (d : Nat → α) (m : Store α) (k j : Nat) (v : α) (h : k ≠ j) :
    storeGet d (storeSet d m k v) j = storeGet d m j := by
  rw [storeGet_set, if_neg h]

theorem storeAbove_mono {α : Type} {a b : Nat} (h : a ≤ b) :
    ∀ m : Store α, storeAbove b m = true → storeAbove a m = true := by
  intro m
  induction m with
  | nil => simp [storeAbove]
  | cons x r ih =>
    obtain ⟨i, v⟩ := x
    simp only [storeAbove, Bool.and_eq_true, decide_eq_true_eq]
    exact fun w => ⟨Nat.lt_of_le_of_lt h w.1, ih w.2⟩

theorem storeAbove_erase {α : Type} (a k : Nat) (m : Store α) (h : storeAbove a m = true) :
    storeAbove a (storeErase m k) = true := by
  induction m with
  | nil => exact h
  | cons x r ih =>
    obtain ⟨i, v⟩ := x
    simp only [storeAbove, Bool.and_eq_true] at h
    by_cases g : i = k
    · simpa [storeErase, g] using ih h.2
    · simp [storeErase, g, storeAbove, ih h.2, of_decide_eq_true h.1]

theorem storeAbove_ins {α : Type} (a k : Nat) (v : α) (m : Store α) (h : storeAbove a m = true) (hk : a < k) :
    storeAbove a (storeIns m k v) = true := by
  induction m with
  | nil => simp [storeIns, storeAbove, hk]
  | cons x r ih =>
    obtain ⟨i, w⟩ := x
    simp only [storeAbove, Bool.and_eq_true] at h
    by_cases g : k < i
    · simp [storeIns, g, storeAbove, hk, h.2, of_decide_eq_true h.1]
    · simp [storeIns, g, storeAbove, ih h.2, of_decide_eq_true h.1]

theorem storeErase_wf {α : Type} [DecidableEq α] (d : Nat → α) (m : Store α) (k : Nat) (h : storeWf d m = true) :
    storeWf d (storeErase m k) = true := by
  induction m with
  | nil => exact h
  | cons x r ih =>
    obtain ⟨i, v⟩ := x
    simp only [storeWf, Bool.and_eq_true] at h
    by_cases g : i = k
    · simpa [storeErase, g] using ih h.2
    · simp only [storeErase, g, if_false, storeWf, Bool.and_eq_true]
      exact ⟨⟨storeAbove_erase i k r h.1.1, h.1.2⟩, ih h.2⟩

theorem storeIns_wf {α : Type} [DecidableEq α] (d : Nat → α) (m : Store α) (k : Nat) (v : α) (h : storeWf d m = true)
    (hm : ∀ x ∈ m, x.1 ≠ k) (hv : v ≠ d k) : storeWf d (storeIns m k v) = true := by
  induction m with
  | nil => simp [storeIns, storeWf, storeAbove, hv]
  | cons x r ih =>
    obtain ⟨i, w⟩ := x
    have hi : i ≠ k := hm (i, w) (List.mem_cons_self ..)
    have hw := h
    simp only [storeWf, Bool.and_eq_true] at h
    by_cases g : k < i
    · simp only [storeIns, if_pos g]
      have e : storeAbove k ((i, w) :: r) = true := by
        simp [storeAbove, g, storeAbove_mono (Nat.le_of_lt g) r h.1.1]
      simp only [storeWf] at hw ⊢
      simp [e, hv, hw]
    · simp only [storeIns, if_neg g, storeWf, Bool.and_eq_true]
      exact ⟨⟨storeAbove_ins i k v r h.1.1 (by omega), h.1.2⟩, ih h.2 fun x z => hm x (List.mem_cons_of_mem _ z)⟩

/-- A write keeps the canonical form. -/
theorem storeSet_wf {α : Type} [DecidableEq α] (d : Nat → α) (m : Store α) (k : Nat) (v : α) (h : storeWf d m = true) :
    storeWf d (storeSet d m k v) = true := by
  unfold storeSet
  split
  · exact storeErase_wf d m k h
  · exact storeIns_wf d _ k v (storeErase_wf d m k h) (storeErase_keys m k) (by assumption)

theorem storeAbove_filter {α : Type} (a : Nat) (p : Nat × α → Bool) (m : Store α) (h : storeAbove a m = true) :
    storeAbove a (m.filter p) = true := by
  induction m with
  | nil => exact h
  | cons x r ih =>
    obtain ⟨i, v⟩ := x
    simp only [storeAbove, Bool.and_eq_true] at h
    by_cases g : p (i, v) = true
    · simp [g, storeAbove, ih h.2, of_decide_eq_true h.1]
    · simpa [g] using ih h.2

/-- Leaving entries out keeps the canonical form. -/
theorem storeFilter_wf {α : Type} [DecidableEq α] (d : Nat → α) (p : Nat × α → Bool) (m : Store α)
    (h : storeWf d m = true) : storeWf d (m.filter p) = true := by
  induction m with
  | nil => exact h
  | cons x r ih =>
    obtain ⟨i, v⟩ := x
    simp only [storeWf, Bool.and_eq_true] at h
    by_cases g : p (i, v) = true
    · simp only [List.filter_cons, g, if_true, storeWf, Bool.and_eq_true]
      exact ⟨⟨storeAbove_filter i p r h.1.1, h.1.2⟩, ih h.2⟩
    · simpa [g] using ih h.2

end Sys2Proof.Machine
end

