-- ==== Sys2Proof/Laws/Keeps.lean ====
section
/-! SUPPORT. What an operation may do to State: `Keeps m s t` says that `t` comes from `s` with canonical forms kept, the
queue untouched, outputs only added and no part of State changed whose bit in the mask `m` is 0. One lemma for each
operation of Machine/ follows in the files Keeps*.lean, with the mask of what it may change. -/
namespace Sys2Proof.Machine

/-- The mask `a` holds no bit that `b` lacks. -/
def Sub (a b : Nat) : Prop := a &&& b = a

theorem Sub.trans {a b c : Nat} (h : a &&& b = a) (k : Sub b c) : Sub a c := by
  unfold Sub at *
  rw [← h, Nat.and_assoc, k]

theorem Sub.bit {a b i : Nat} (h : Sub a b) (k : b.testBit i = false) : a.testBit i = false := by
  rw [← h, Nat.testBit_and, k, Bool.and_false]

/-- What every operation keeps, and the parts of State that it leaves as they are: those whose bit in `m` is 0. -/
structure Keeps (m : Nat) (s t : State) : Prop where
  mem_wf : Memory.wf s.mem = true → Memory.wf t.mem = true
  regs_wf : storeWf resetVal s.regs = true → storeWf resetVal t.regs = true
  cnts_wf : storeWf cntDefault s.cnts = true → storeWf cntDefault t.cnts = true
  pending : t.pending = s.pending
  out_adds : ∃ l, t.out = s.out ++ l
  fresh_le : s.fresh ≤ t.fresh
  now_le : s.now ≤ t.now
  regs : m.testBit 0 = false → t.regs = s.regs
  cnts : m.testBit 1 = false → t.cnts = s.cnts
  mem : m.testBit 2 = false → t.mem = s.mem
  out : m.testBit 3 = false → t.out = s.out
  fresh : m.testBit 4 = false → t.fresh = s.fresh
  now : m.testBit 5 = false → t.now = s.now
  fab : m.testBit 6 = false → t.fab = s.fab
  rnd : m.testBit 7 = false → t.rnd = s.rnd
  que : m.testBit 8 = false → t.que = s.que
  swc : m.testBit 9 = false → t.swc = s.swc
  prt : m.testBit 10 = false → t.prt = s.prt
  tim : m.testBit 11 = false → t.tim = s.tim
  wak : m.testBit 12 = false → t.wak = s.wak
  aud : m.testBit 13 = false → t.aud = s.aud
  cht : m.testBit 14 = false → t.cht = s.cht
  cor : m.testBit 15 = false → t.cor = s.cor
  ldc : m.testBit 16 = false → t.ldc = s.ldc
  gau : m.testBit 17 = false → t.gau = s.gau
  can : m.testBit 18 = false → t.can = s.can
  pow : m.testBit 19 = false → t.pow = s.pow
  enc : m.testBit 20 = false → t.enc = s.enc
  gwy : m.testBit 21 = false → t.gwy = s.gwy
  sio : m.testBit 22 = false → t.sio = s.sio
  boo : m.testBit 23 = false → t.boo = s.boo
  pai : m.testBit 24 = false → t.pai = s.pai

theorem Keeps.refl (m : Nat) (s : State) : Keeps m s s :=
  ⟨id, id, id, rfl, ⟨[], by simp⟩, Nat.le_refl _, Nat.le_refl _, fun _ => rfl, fun _ => rfl, fun _ => rfl, fun _ => rfl, fun _ => rfl, fun _ => rfl, fun _ => rfl, fun _ => rfl, fun _ => rfl, fun _ => rfl, fun _ => rfl, fun _ => rfl, fun _ => rfl, fun _ => rfl, fun _ => rfl, fun _ => rfl, fun _ => rfl, fun _ => rfl, fun _ => rfl, fun _ => rfl, fun _ => rfl, fun _ => rfl, fun _ => rfl, fun _ => rfl, fun _ => rfl⟩

theorem Keeps.wf {m : Nat} {s t : State} (h : Keeps m s t) (w : s.Wf) : t.Wf :=
  ⟨h.mem_wf w.1, h.regs_wf w.2.1, h.cnts_wf w.2.2⟩

theorem State.setRegs_keeps {m : Nat} {σ s : State} {v : Store Word} (k : Sub 1 m) (w : storeWf resetVal s.regs = true → storeWf resetVal v = true) (h : Keeps m σ s) :
    Keeps m σ (s.setRegs v) :=
  ⟨h.mem_wf, fun z => w (h.regs_wf z), h.cnts_wf, h.pending, h.out_adds, h.fresh_le,
    h.now_le, fun z => absurd ((Sub.bit k z).symm.trans (by decide)) Bool.false_ne_true, h.cnts, h.mem, h.out, h.fresh,
    h.now, h.fab, h.rnd, h.que, h.swc, h.prt,
    h.tim, h.wak, h.aud, h.cht, h.cor, h.ldc,
    h.gau, h.can, h.pow, h.enc, h.gwy, h.sio,
    h.boo, h.pai⟩
theorem State.setCnts_keeps {m : Nat} {σ s : State} {v : Store Nat} (k : Sub 2 m) (w : storeWf cntDefault s.cnts = true → storeWf cntDefault v = true) (h : Keeps m σ s) :
    Keeps m σ (s.setCnts v) :=
  ⟨h.mem_wf, h.regs_wf, fun z => w (h.cnts_wf z), h.pending, h.out_adds, h.fresh_le,
    h.now_le, h.regs, fun z => absurd ((Sub.bit k z).symm.trans (by decide)) Bool.false_ne_true, h.mem, h.out, h.fresh,
    h.now, h.fab, h.rnd, h.que, h.swc, h.prt,
    h.tim, h.wak, h.aud, h.cht, h.cor, h.ldc,
    h.gau, h.can, h.pow, h.enc, h.gwy, h.sio,
    h.boo, h.pai⟩
theorem State.setMem_keeps {m : Nat} {σ s : State} {v : List Host.Cell} (k : Sub 4 m) (w : Memory.wf s.mem = true → Memory.wf v = true) (h : Keeps m σ s) :
    Keeps m σ (s.setMem v) :=
  ⟨fun z => w (h.mem_wf z), h.regs_wf, h.cnts_wf, h.pending, h.out_adds, h.fresh_le,
    h.now_le, h.regs, h.cnts, fun z => absurd ((Sub.bit k z).symm.trans (by decide)) Bool.false_ne_true, h.out, h.fresh,
    h.now, h.fab, h.rnd, h.que, h.swc, h.prt,
    h.tim, h.wak, h.aud, h.cht, h.cor, h.ldc,
    h.gau, h.can, h.pow, h.enc, h.gwy, h.sio,
    h.boo, h.pai⟩
theorem State.setOut_keeps {m : Nat} {σ s : State} {v : Out} (k : Sub 8 m) (h : Keeps m σ s) :
    Keeps m σ (s.setOut (s.out ++ [v])) :=
  ⟨h.mem_wf, h.regs_wf, h.cnts_wf, h.pending, h.out_adds.elim fun l e => ⟨l ++ [v], by simp [e]⟩, h.fresh_le,
    h.now_le, h.regs, h.cnts, h.mem, fun z => absurd ((Sub.bit k z).symm.trans (by decide)) Bool.false_ne_true, h.fresh,
    h.now, h.fab, h.rnd, h.que, h.swc, h.prt,
    h.tim, h.wak, h.aud, h.cht, h.cor, h.ldc,
    h.gau, h.can, h.pow, h.enc, h.gwy, h.sio,
    h.boo, h.pai⟩
theorem State.setFresh_keeps {m : Nat} {σ s : State} {n : Nat} (k : Sub 16 m) (h : Keeps m σ s) :
    Keeps m σ (s.setFresh (s.fresh + n)) :=
  ⟨h.mem_wf, h.regs_wf, h.cnts_wf, h.pending, h.out_adds, Nat.le_trans h.fresh_le (Nat.le_add_right _ _),
    h.now_le, h.regs, h.cnts, h.mem, h.out, fun z => absurd ((Sub.bit k z).symm.trans (by decide)) Bool.false_ne_true,
    h.now, h.fab, h.rnd, h.que, h.swc, h.prt,
    h.tim, h.wak, h.aud, h.cht, h.cor, h.ldc,
    h.gau, h.can, h.pow, h.enc, h.gwy, h.sio,
    h.boo, h.pai⟩
theorem State.setNow_keeps {m : Nat} {σ s : State} {n : Nat} (k : Sub 32 m) (h : Keeps m σ s) :
    Keeps m σ (s.setNow (s.now + n)) :=
  ⟨h.mem_wf, h.regs_wf, h.cnts_wf, h.pending, h.out_adds, h.fresh_le,
    Nat.le_trans h.now_le (Nat.le_add_right _ _), h.regs, h.cnts, h.mem, h.out, h.fresh,
    fun z => absurd ((Sub.bit k z).symm.trans (by decide)) Bool.false_ne_true, h.fab, h.rnd, h.que, h.swc, h.prt,
    h.tim, h.wak, h.aud, h.cht, h.cor, h.ldc,
    h.gau, h.can, h.pow, h.enc, h.gwy, h.sio,
    h.boo, h.pai⟩
theorem State.setFab_keeps {m : Nat} {σ s : State} {v : Fab} (k : Sub 64 m) (h : Keeps m σ s) :
    Keeps m σ (s.setFab v) :=
  ⟨h.mem_wf, h.regs_wf, h.cnts_wf, h.pending, h.out_adds, h.fresh_le,
    h.now_le, h.regs, h.cnts, h.mem, h.out, h.fresh,
    h.now, fun z => absurd ((Sub.bit k z).symm.trans (by decide)) Bool.false_ne_true, h.rnd, h.que, h.swc, h.prt,
    h.tim, h.wak, h.aud, h.cht, h.cor, h.ldc,
    h.gau, h.can, h.pow, h.enc, h.gwy, h.sio,
    h.boo, h.pai⟩
theorem State.setRnd_keeps {m : Nat} {σ s : State} {v : Rnd} (k : Sub 128 m) (h : Keeps m σ s) :
    Keeps m σ (s.setRnd v) :=
  ⟨h.mem_wf, h.regs_wf, h.cnts_wf, h.pending, h.out_adds, h.fresh_le,
    h.now_le, h.regs, h.cnts, h.mem, h.out, h.fresh,
    h.now, h.fab, fun z => absurd ((Sub.bit k z).symm.trans (by decide)) Bool.false_ne_true, h.que, h.swc, h.prt,
    h.tim, h.wak, h.aud, h.cht, h.cor, h.ldc,
    h.gau, h.can, h.pow, h.enc, h.gwy, h.sio,
    h.boo, h.pai⟩
theorem State.setQue_keeps {m : Nat} {σ s : State} {v : Que} (k : Sub 256 m) (h : Keeps m σ s) :
    Keeps m σ (s.setQue v) :=
  ⟨h.mem_wf, h.regs_wf, h.cnts_wf, h.pending, h.out_adds, h.fresh_le,
    h.now_le, h.regs, h.cnts, h.mem, h.out, h.fresh,
    h.now, h.fab, h.rnd, fun z => absurd ((Sub.bit k z).symm.trans (by decide)) Bool.false_ne_true, h.swc, h.prt,
    h.tim, h.wak, h.aud, h.cht, h.cor, h.ldc,
    h.gau, h.can, h.pow, h.enc, h.gwy, h.sio,
    h.boo, h.pai⟩
theorem State.setSwc_keeps {m : Nat} {σ s : State} {v : Swc} (k : Sub 512 m) (h : Keeps m σ s) :
    Keeps m σ (s.setSwc v) :=
  ⟨h.mem_wf, h.regs_wf, h.cnts_wf, h.pending, h.out_adds, h.fresh_le,
    h.now_le, h.regs, h.cnts, h.mem, h.out, h.fresh,
    h.now, h.fab, h.rnd, h.que, fun z => absurd ((Sub.bit k z).symm.trans (by decide)) Bool.false_ne_true, h.prt,
    h.tim, h.wak, h.aud, h.cht, h.cor, h.ldc,
    h.gau, h.can, h.pow, h.enc, h.gwy, h.sio,
    h.boo, h.pai⟩
theorem State.setPrt_keeps {m : Nat} {σ s : State} {v : Prt} (k : Sub 1024 m) (h : Keeps m σ s) :
    Keeps m σ (s.setPrt v) :=
  ⟨h.mem_wf, h.regs_wf, h.cnts_wf, h.pending, h.out_adds, h.fresh_le,
    h.now_le, h.regs, h.cnts, h.mem, h.out, h.fresh,
    h.now, h.fab, h.rnd, h.que, h.swc, fun z => absurd ((Sub.bit k z).symm.trans (by decide)) Bool.false_ne_true,
    h.tim, h.wak, h.aud, h.cht, h.cor, h.ldc,
    h.gau, h.can, h.pow, h.enc, h.gwy, h.sio,
    h.boo, h.pai⟩
theorem State.setTim_keeps {m : Nat} {σ s : State} {v : Tim} (k : Sub 2048 m) (h : Keeps m σ s) :
    Keeps m σ (s.setTim v) :=
  ⟨h.mem_wf, h.regs_wf, h.cnts_wf, h.pending, h.out_adds, h.fresh_le,
    h.now_le, h.regs, h.cnts, h.mem, h.out, h.fresh,
    h.now, h.fab, h.rnd, h.que, h.swc, h.prt,
    fun z => absurd ((Sub.bit k z).symm.trans (by decide)) Bool.false_ne_true, h.wak, h.aud, h.cht, h.cor, h.ldc,
    h.gau, h.can, h.pow, h.enc, h.gwy, h.sio,
    h.boo, h.pai⟩
theorem State.setWak_keeps {m : Nat} {σ s : State} {v : Wak} (k : Sub 4096 m) (h : Keeps m σ s) :
    Keeps m σ (s.setWak v) :=
  ⟨h.mem_wf, h.regs_wf, h.cnts_wf, h.pending, h.out_adds, h.fresh_le,
    h.now_le, h.regs, h.cnts, h.mem, h.out, h.fresh,
    h.now, h.fab, h.rnd, h.que, h.swc, h.prt,
    h.tim, fun z => absurd ((Sub.bit k z).symm.trans (by decide)) Bool.false_ne_true, h.aud, h.cht, h.cor, h.ldc,
    h.gau, h.can, h.pow, h.enc, h.gwy, h.sio,
    h.boo, h.pai⟩
theorem State.setAud_keeps {m : Nat} {σ s : State} {v : Aud} (k : Sub 8192 m) (h : Keeps m σ s) :
    Keeps m σ (s.setAud v) :=
  ⟨h.mem_wf, h.regs_wf, h.cnts_wf, h.pending, h.out_adds, h.fresh_le,
    h.now_le, h.regs, h.cnts, h.mem, h.out, h.fresh,
    h.now, h.fab, h.rnd, h.que, h.swc, h.prt,
    h.tim, h.wak, fun z => absurd ((Sub.bit k z).symm.trans (by decide)) Bool.false_ne_true, h.cht, h.cor, h.ldc,
    h.gau, h.can, h.pow, h.enc, h.gwy, h.sio,
    h.boo, h.pai⟩
theorem State.setCht_keeps {m : Nat} {σ s : State} {v : Cht} (k : Sub 16384 m) (h : Keeps m σ s) :
    Keeps m σ (s.setCht v) :=
  ⟨h.mem_wf, h.regs_wf, h.cnts_wf, h.pending, h.out_adds, h.fresh_le,
    h.now_le, h.regs, h.cnts, h.mem, h.out, h.fresh,
    h.now, h.fab, h.rnd, h.que, h.swc, h.prt,
    h.tim, h.wak, h.aud, fun z => absurd ((Sub.bit k z).symm.trans (by decide)) Bool.false_ne_true, h.cor, h.ldc,
    h.gau, h.can, h.pow, h.enc, h.gwy, h.sio,
    h.boo, h.pai⟩
theorem State.setCor_keeps {m : Nat} {σ s : State} {v : Cor} (k : Sub 32768 m) (h : Keeps m σ s) :
    Keeps m σ (s.setCor v) :=
  ⟨h.mem_wf, h.regs_wf, h.cnts_wf, h.pending, h.out_adds, h.fresh_le,
    h.now_le, h.regs, h.cnts, h.mem, h.out, h.fresh,
    h.now, h.fab, h.rnd, h.que, h.swc, h.prt,
    h.tim, h.wak, h.aud, h.cht, fun z => absurd ((Sub.bit k z).symm.trans (by decide)) Bool.false_ne_true, h.ldc,
    h.gau, h.can, h.pow, h.enc, h.gwy, h.sio,
    h.boo, h.pai⟩
theorem State.setLdc_keeps {m : Nat} {σ s : State} {v : Ldc} (k : Sub 65536 m) (h : Keeps m σ s) :
    Keeps m σ (s.setLdc v) :=
  ⟨h.mem_wf, h.regs_wf, h.cnts_wf, h.pending, h.out_adds, h.fresh_le,
    h.now_le, h.regs, h.cnts, h.mem, h.out, h.fresh,
    h.now, h.fab, h.rnd, h.que, h.swc, h.prt,
    h.tim, h.wak, h.aud, h.cht, h.cor, fun z => absurd ((Sub.bit k z).symm.trans (by decide)) Bool.false_ne_true,
    h.gau, h.can, h.pow, h.enc, h.gwy, h.sio,
    h.boo, h.pai⟩
theorem State.setGau_keeps {m : Nat} {σ s : State} {v : Gau} (k : Sub 131072 m) (h : Keeps m σ s) :
    Keeps m σ (s.setGau v) :=
  ⟨h.mem_wf, h.regs_wf, h.cnts_wf, h.pending, h.out_adds, h.fresh_le,
    h.now_le, h.regs, h.cnts, h.mem, h.out, h.fresh,
    h.now, h.fab, h.rnd, h.que, h.swc, h.prt,
    h.tim, h.wak, h.aud, h.cht, h.cor, h.ldc,
    fun z => absurd ((Sub.bit k z).symm.trans (by decide)) Bool.false_ne_true, h.can, h.pow, h.enc, h.gwy, h.sio,
    h.boo, h.pai⟩
theorem State.setCan_keeps {m : Nat} {σ s : State} {v : Can} (k : Sub 262144 m) (h : Keeps m σ s) :
    Keeps m σ (s.setCan v) :=
  ⟨h.mem_wf, h.regs_wf, h.cnts_wf, h.pending, h.out_adds, h.fresh_le,
    h.now_le, h.regs, h.cnts, h.mem, h.out, h.fresh,
    h.now, h.fab, h.rnd, h.que, h.swc, h.prt,
    h.tim, h.wak, h.aud, h.cht, h.cor, h.ldc,
    h.gau, fun z => absurd ((Sub.bit k z).symm.trans (by decide)) Bool.false_ne_true, h.pow, h.enc, h.gwy, h.sio,
    h.boo, h.pai⟩
theorem State.setPow_keeps {m : Nat} {σ s : State} {v : Pow} (k : Sub 524288 m) (h : Keeps m σ s) :
    Keeps m σ (s.setPow v) :=
  ⟨h.mem_wf, h.regs_wf, h.cnts_wf, h.pending, h.out_adds, h.fresh_le,
    h.now_le, h.regs, h.cnts, h.mem, h.out, h.fresh,
    h.now, h.fab, h.rnd, h.que, h.swc, h.prt,
    h.tim, h.wak, h.aud, h.cht, h.cor, h.ldc,
    h.gau, h.can, fun z => absurd ((Sub.bit k z).symm.trans (by decide)) Bool.false_ne_true, h.enc, h.gwy, h.sio,
    h.boo, h.pai⟩
theorem State.setEnc_keeps {m : Nat} {σ s : State} {v : Enc} (k : Sub 1048576 m) (h : Keeps m σ s) :
    Keeps m σ (s.setEnc v) :=
  ⟨h.mem_wf, h.regs_wf, h.cnts_wf, h.pending, h.out_adds, h.fresh_le,
    h.now_le, h.regs, h.cnts, h.mem, h.out, h.fresh,
    h.now, h.fab, h.rnd, h.que, h.swc, h.prt,
    h.tim, h.wak, h.aud, h.cht, h.cor, h.ldc,
    h.gau, h.can, h.pow, fun z => absurd ((Sub.bit k z).symm.trans (by decide)) Bool.false_ne_true, h.gwy, h.sio,
    h.boo, h.pai⟩
theorem State.setGwy_keeps {m : Nat} {σ s : State} {v : Gwy} (k : Sub 2097152 m) (h : Keeps m σ s) :
    Keeps m σ (s.setGwy v) :=
  ⟨h.mem_wf, h.regs_wf, h.cnts_wf, h.pending, h.out_adds, h.fresh_le,
    h.now_le, h.regs, h.cnts, h.mem, h.out, h.fresh,
    h.now, h.fab, h.rnd, h.que, h.swc, h.prt,
    h.tim, h.wak, h.aud, h.cht, h.cor, h.ldc,
    h.gau, h.can, h.pow, h.enc, fun z => absurd ((Sub.bit k z).symm.trans (by decide)) Bool.false_ne_true, h.sio,
    h.boo, h.pai⟩
theorem State.setSio_keeps {m : Nat} {σ s : State} {v : Sio} (k : Sub 4194304 m) (h : Keeps m σ s) :
    Keeps m σ (s.setSio v) :=
  ⟨h.mem_wf, h.regs_wf, h.cnts_wf, h.pending, h.out_adds, h.fresh_le,
    h.now_le, h.regs, h.cnts, h.mem, h.out, h.fresh,
    h.now, h.fab, h.rnd, h.que, h.swc, h.prt,
    h.tim, h.wak, h.aud, h.cht, h.cor, h.ldc,
    h.gau, h.can, h.pow, h.enc, h.gwy, fun z => absurd ((Sub.bit k z).symm.trans (by decide)) Bool.false_ne_true,
    h.boo, h.pai⟩
theorem State.setBoo_keeps {m : Nat} {σ s : State} {v : Boo} (k : Sub 8388608 m) (h : Keeps m σ s) :
    Keeps m σ (s.setBoo v) :=
  ⟨h.mem_wf, h.regs_wf, h.cnts_wf, h.pending, h.out_adds, h.fresh_le,
    h.now_le, h.regs, h.cnts, h.mem, h.out, h.fresh,
    h.now, h.fab, h.rnd, h.que, h.swc, h.prt,
    h.tim, h.wak, h.aud, h.cht, h.cor, h.ldc,
    h.gau, h.can, h.pow, h.enc, h.gwy, h.sio,
    fun z => absurd ((Sub.bit k z).symm.trans (by decide)) Bool.false_ne_true, h.pai⟩
theorem State.setPai_keeps {m : Nat} {σ s : State} {v : Pai} (k : Sub 16777216 m) (h : Keeps m σ s) :
    Keeps m σ (s.setPai v) :=
  ⟨h.mem_wf, h.regs_wf, h.cnts_wf, h.pending, h.out_adds, h.fresh_le,
    h.now_le, h.regs, h.cnts, h.mem, h.out, h.fresh,
    h.now, h.fab, h.rnd, h.que, h.swc, h.prt,
    h.tim, h.wak, h.aud, h.cht, h.cor, h.ldc,
    h.gau, h.can, h.pow, h.enc, h.gwy, h.sio,
    h.boo, fun z => absurd ((Sub.bit k z).symm.trans (by decide)) Bool.false_ne_true⟩

theorem State.wr_keeps {m : Nat} {σ s : State} {a : Nat} {v : Word} (k : Sub 1 m) (h : Keeps m σ s) :
    Keeps m σ (s.wr a v) :=
  State.setRegs_keeps k (storeSet_wf resetVal s.regs a v) h

theorem State.setCnt_keeps {m : Nat} {σ s : State} {a v : Nat} (k : Sub 2 m) (h : Keeps m σ s) :
    Keeps m σ (s.setCnt a v) :=
  State.setCnts_keeps k (storeSet_wf cntDefault s.cnts a _) h

theorem State.wrMem_keeps {m : Nat} {σ s : State} {a : Nat} {v : Byte} (k : Sub 4 m) (h : Keeps m σ s) :
    Keeps m σ (s.wrMem a v) :=
  State.setMem_keeps k (storeSet_wf memDefault s.mem a v) h

theorem forEach_keeps {α : Type} {m : Nat} {σ : State} {f : α → State → State}
    (hf : ∀ x t, Keeps m σ t → Keeps m σ (f x t)) {l : List α} {s : State} (h : Keeps m σ s) :
    Keeps m σ (forEach l f s) := by
  unfold forEach
  induction l generalizing s with
  | nil => exact h
  | cons x l ih => exact ih (hf x s h)

theorem foldl_keeps {α : Type} {m : Nat} {σ : State} {f : State → α → State}
    (hf : ∀ t x, Keeps m σ t → Keeps m σ (f t x)) {l : List α} {s : State} (h : Keeps m σ s) :
    Keeps m σ (l.foldl f s) := by
  induction l generalizing s with
  | nil => exact h
  | cons x l ih => exact ih (hf s x h)

theorem foldl_fst_keeps {α β : Type} {m : Nat} {σ : State} {f : State × β → α → State × β}
    (hf : ∀ t x, Keeps m σ t.1 → Keeps m σ (f t x).1) {l : List α} {s : State × β} (h : Keeps m σ s.1) :
    Keeps m σ (l.foldl f s).1 := by
  induction l generalizing s with
  | nil => exact h
  | cons x l ih => exact ih (hf s x h)

theorem ite_keeps {m : Nat} {σ : State} {c : Prop} [Decidable c] {a b : State} (ha : Keeps m σ a) (hb : Keeps m σ b) :
    Keeps m σ (if c then a else b) := by
  split
  · exact ha
  · exact hb

theorem ite_fst_keeps {α : Type} {m : Nat} {σ : State} {c : Prop} [Decidable c] {a b : State × α}
    (ha : Keeps m σ a.1) (hb : Keeps m σ b.1) : Keeps m σ (if c then a else b).1 := by
  split
  · exact ha
  · exact hb

/-- A command's outcome is a next state that comes from `s` by a change within the mask. -/
def NextKeeps (m : Nat) (s : State) (r : Res) : Prop := ∃ t, r = .next t ∧ Keeps m s t

theorem next_keeps {m : Nat} {s t : State} (h : Keeps m s t) : NextKeeps m s (.next t) := ⟨t, rfl, h⟩

theorem ite_next_keeps {m : Nat} {σ : State} {c : Prop} [Decidable c] {a b : Res} (ha : NextKeeps m σ a)
    (hb : NextKeeps m σ b) : NextKeeps m σ (if c then a else b) := by
  split
  · exact ha
  · exact hb

end Sys2Proof.Machine
end

