-- ==== Sys2Proof/Laws/KeepsOps.lean ====
section
/-! SUPPORT. What each operation of Machine/Ops may do to State. -/
namespace Sys2Proof.Machine

theorem State.put_keeps {κ : Nat} {σ : State} {s : State} {f : Fld} {v : Nat} (hκ : Sub 1 κ) (hσ : Keeps κ σ s) :
    Keeps κ σ (State.put s f v) := by
  have k0 : Sub 1 κ := Sub.trans (by decide : 1 &&& 1 = 1) hκ
  unfold State.put
  repeat' first
    | with_reducible assumption
    | with_reducible apply State.wr_keeps k0

theorem State.set1_keeps {κ : Nat} {σ : State} {s : State} {f : Fld} {i : Nat} (hκ : Sub 1 κ) (hσ : Keeps κ σ s) :
    Keeps κ σ (State.set1 s f i) := by
  have k0 : Sub 1 κ := Sub.trans (by decide : 1 &&& 1 = 1) hκ
  unfold State.set1
  repeat' first
    | with_reducible assumption
    | with_reducible apply State.put_keeps k0

theorem State.clr1_keeps {κ : Nat} {σ : State} {s : State} {f : Fld} {i : Nat} (hκ : Sub 1 κ) (hσ : Keeps κ σ s) :
    Keeps κ σ (State.clr1 s f i) := by
  have k0 : Sub 1 κ := Sub.trans (by decide : 1 &&& 1 = 1) hκ
  unfold State.clr1
  repeat' first
    | with_reducible assumption
    | with_reducible apply State.put_keeps k0

theorem State.putAddr_keeps {κ : Nat} {σ : State} {s : State} {lo hi : Fld} {a : Nat} (hκ : Sub 1 κ) (hσ : Keeps κ σ s) :
    Keeps κ σ (State.putAddr s lo hi a) := by
  have k0 : Sub 1 κ := Sub.trans (by decide : 1 &&& 1 = 1) hκ
  unfold State.putAddr
  repeat' first
    | with_reducible assumption
    | with_reducible apply State.put_keeps k0

theorem State.regApply_keeps {κ : Nat} {σ : State} {s : State} {a v : Nat} (hκ : Sub 1 κ) (hσ : Keeps κ σ s) :
    Keeps κ σ (State.regApply s a v) := by
  have k0 : Sub 1 κ := Sub.trans (by decide : 1 &&& 1 = 1) hκ
  unfold State.regApply
  repeat' first
    | with_reducible assumption
    | with_reducible apply State.wr_keeps k0
    | split

theorem State.count_keeps {κ : Nat} {σ : State} {s : State} {a : Nat} {n : Nat} (hκ : Sub 2 κ) (hσ : Keeps κ σ s) :
    Keeps κ σ (State.count s a n) := by
  have k0 : Sub 2 κ := Sub.trans (by decide : 2 &&& 2 = 2) hκ
  unfold State.count
  repeat' first
    | with_reducible assumption
    | with_reducible apply State.setCnt_keeps k0

theorem State.readCounter_keeps {κ : Nat} {σ : State} {s : State} {a : Nat} (hκ : Sub 3 κ) (hσ : Keeps κ σ s) :
    Keeps κ σ (State.readCounter s a).1 := by
  have k0 : Sub 1 κ := Sub.trans (by decide : 1 &&& 3 = 1) hκ
  have k1 : Sub 2 κ := Sub.trans (by decide : 2 &&& 3 = 2) hκ
  unfold State.readCounter
  repeat' first
    | with_reducible assumption
    | with_reducible apply State.wr_keeps k0
    | with_reducible apply State.setCnt_keeps k1

theorem State.writeBytes_keeps {κ : Nat} {σ : State} {a0 : State} {a1 : Nat} {a2 : Bytes} (hκ : Sub 4 κ) (hσ : Keeps κ σ a0) :
    Keeps κ σ (State.writeBytes a0 a1 a2) := by
  have k0 : Sub 4 κ := Sub.trans (by decide : 4 &&& 4 = 4) hκ
  fun_induction State.writeBytes a0 a1 a2
  all_goals repeat' first
    | with_reducible assumption
    | with_reducible apply State.wrMem_keeps k0
    | split
    | with_reducible apply_assumption

theorem State.emit_keeps {κ : Nat} {σ : State} {s : State} {o : Out} (hκ : Sub 8 κ) (hσ : Keeps κ σ s) :
    Keeps κ σ (State.emit s o) := by
  have k0 : Sub 8 κ := Sub.trans (by decide : 8 &&& 8 = 8) hκ
  unfold State.emit
  repeat' first
    | with_reducible assumption
    | with_reducible apply State.setOut_keeps k0

theorem State.drawn_keeps {κ : Nat} {σ : State} {s : State} (hκ : Sub 16 κ) (hσ : Keeps κ σ s) :
    Keeps κ σ (State.drawn s) := by
  have k0 : Sub 16 κ := Sub.trans (by decide : 16 &&& 16 = 16) hκ
  unfold State.drawn
  repeat' first
    | with_reducible assumption
    | with_reducible apply State.setFresh_keeps k0

theorem State.onRnd_keeps {κ : Nat} {σ : State} {s : State} {f : Rnd → Rnd} (hκ : Sub 128 κ) (hσ : Keeps κ σ s) :
    Keeps κ σ (State.onRnd s f) := by
  have k0 : Sub 128 κ := Sub.trans (by decide : 128 &&& 128 = 128) hκ
  unfold State.onRnd
  repeat' first
    | with_reducible assumption
    | with_reducible apply State.setRnd_keeps k0

theorem State.setDescs_keeps {κ : Nat} {σ : State} {s : State} {d : List Desc} (hκ : Sub 128 κ) (hσ : Keeps κ σ s) :
    Keeps κ σ (State.setDescs s d) := by
  have k0 : Sub 128 κ := Sub.trans (by decide : 128 &&& 128 = 128) hκ
  unfold State.setDescs
  repeat' first
    | with_reducible assumption
    | with_reducible apply State.setRnd_keeps k0

end Sys2Proof.Machine
end

