-- ==== Sys2Proof/Laws/KeepsFlags.lean ====
section
/-! SUPPORT. What each operation of Machine/Flags may do to State. -/
namespace Sys2Proof.Machine

theorem State.msixMessage_keeps {κ : Nat} {σ : State} {s : State} {v : Nat} (hκ : Sub 8 κ) (hσ : Keeps κ σ s) :
    Keeps κ σ (State.msixMessage s v) := by
  have k0 : Sub 8 κ := Sub.trans (by decide : 8 &&& 8 = 8) hκ
  unfold State.msixMessage
  repeat' first
    | with_reducible assumption
    | with_reducible apply State.emit_keeps k0
    | with_reducible apply ite_keeps

theorem State.sendMsix_keeps {κ : Nat} {σ : State} {s : State} {v : Nat} (hκ : Sub 136 κ) (hσ : Keeps κ σ s) :
    Keeps κ σ (State.sendMsix s v) := by
  have k0 : Sub 128 κ := Sub.trans (by decide : 128 &&& 136 = 128) hκ
  have k1 : Sub 8 κ := Sub.trans (by decide : 8 &&& 136 = 8) hκ
  unfold State.sendMsix
  repeat' first
    | with_reducible assumption
    | with_reducible apply State.setRnd_keeps k0
    | with_reducible apply State.msixMessage_keeps k1
    | with_reducible apply ite_keeps

theorem State.deliverAia_keeps {κ : Nat} {σ : State} {s : State} {id : Nat} (hκ : Sub 8 κ) (hσ : Keeps κ σ s) :
    Keeps κ σ (State.deliverAia s id) := by
  have k0 : Sub 8 κ := Sub.trans (by decide : 8 &&& 8 = 8) hκ
  unfold State.deliverAia
  repeat' first
    | with_reducible assumption
    | with_reducible apply State.emit_keeps k0
    | dsimp only [id]

theorem State.sendAiaCounted_keeps {κ : Nat} {σ : State} {s : State} {id : Nat} (hκ : Sub 10 κ) (hσ : Keeps κ σ s) :
    Keeps κ σ (State.sendAiaCounted s id) := by
  have k0 : Sub 8 κ := Sub.trans (by decide : 8 &&& 10 = 8) hκ
  have k1 : Sub 2 κ := Sub.trans (by decide : 2 &&& 10 = 2) hκ
  unfold State.sendAiaCounted
  repeat' first
    | with_reducible assumption
    | with_reducible apply State.deliverAia_keeps k0
    | with_reducible apply State.count_keeps k1
    | with_reducible apply ite_keeps
    | dsimp only [id]

theorem State.raiseRouteMiss_keeps {κ : Nat} {σ : State} {s : State} (hκ : Sub 139 κ) (hσ : Keeps κ σ s) :
    Keeps κ σ (State.raiseRouteMiss s) := by
  have k0 : Sub 1 κ := Sub.trans (by decide : 1 &&& 139 = 1) hκ
  have k1 : Sub 136 κ := Sub.trans (by decide : 136 &&& 139 = 136) hκ
  have k2 : Sub 10 κ := Sub.trans (by decide : 10 &&& 139 = 10) hκ
  unfold State.raiseRouteMiss
  repeat' first
    | with_reducible assumption
    | with_reducible apply State.put_keeps k0
    | with_reducible apply State.sendMsix_keeps k1
    | with_reducible apply State.sendAiaCounted_keeps k2
    | with_reducible apply ite_keeps
    | dsimp -simprocs only
    | dsimp only

theorem State.sendAia_keeps {κ : Nat} {σ : State} {s : State} {id : Nat} (hκ : Sub 139 κ) (hσ : Keeps κ σ s) :
    Keeps κ σ (State.sendAia s id) := by
  have k0 : Sub 8 κ := Sub.trans (by decide : 8 &&& 139 = 8) hκ
  have k1 : Sub 2 κ := Sub.trans (by decide : 2 &&& 139 = 2) hκ
  have k2 : Sub 139 κ := Sub.trans (by decide : 139 &&& 139 = 139) hκ
  unfold State.sendAia
  repeat' first
    | with_reducible assumption
    | with_reducible apply State.deliverAia_keeps k0
    | with_reducible apply State.count_keeps k1
    | with_reducible apply State.raiseRouteMiss_keeps k2
    | with_reducible apply ite_keeps
    | dsimp only [id]

theorem State.sendVec_keeps {κ : Nat} {σ : State} {s : State} {v : Nat} (hκ : Sub 139 κ) (hσ : Keeps κ σ s) :
    Keeps κ σ (State.sendVec s v) := by
  have k0 : Sub 136 κ := Sub.trans (by decide : 136 &&& 139 = 136) hκ
  have k1 : Sub 139 κ := Sub.trans (by decide : 139 &&& 139 = 139) hκ
  unfold State.sendVec
  repeat' first
    | with_reducible assumption
    | with_reducible apply State.sendMsix_keeps k0
    | with_reducible apply State.sendAia_keeps k1

theorem State.raise_keeps {κ : Nat} {σ : State} {s : State} {b : Fld} (hκ : Sub 139 κ) (hσ : Keeps κ σ s) :
    Keeps κ σ (State.raise s b) := by
  have k0 : Sub 1 κ := Sub.trans (by decide : 1 &&& 139 = 1) hκ
  have k1 : Sub 139 κ := Sub.trans (by decide : 139 &&& 139 = 139) hκ
  unfold State.raise
  repeat' first
    | with_reducible assumption
    | with_reducible apply State.put_keeps k0
    | with_reducible apply State.sendVec_keeps k1
    | with_reducible apply ite_keeps
    | dsimp -simprocs only
    | dsimp only

theorem State.sendEvtBits_keeps {κ : Nat} {σ : State} {s : State} {a m : Nat} (hκ : Sub 139 κ) (hσ : Keeps κ σ s) :
    Keeps κ σ (State.sendEvtBits s a m) := by
  have k0 : Sub 139 κ := Sub.trans (by decide : 139 &&& 139 = 139) hκ
  unfold State.sendEvtBits
  repeat' first
    | with_reducible assumption
    | with_reducible apply State.sendVec_keeps k0
    | with_reducible apply ite_keeps
    | with_reducible refine forEach_keeps (fun _ _ _ => ?_) ?_

end Sys2Proof.Machine
end

