-- ==== Sys2Proof/Laws/KeepsGuard.lean ====
section
/-! SUPPORT. What each operation of Machine/Guard may do to State. -/
namespace Sys2Proof.Machine

theorem State.unmapped_keeps {κ : Nat} {σ : State} {s : State} (hκ : Sub 139 κ) (hσ : Keeps κ σ s) :
    Keeps κ σ (State.unmapped s) := by
  have k0 : Sub 2 κ := Sub.trans (by decide : 2 &&& 139 = 2) hκ
  have k1 : Sub 139 κ := Sub.trans (by decide : 139 &&& 139 = 139) hκ
  unfold State.unmapped
  repeat' first
    | with_reducible assumption
    | with_reducible apply State.count_keeps k0
    | with_reducible apply State.raise_keeps k1

theorem State.deny_keeps {κ : Nat} {σ : State} {s : State} {src : Source} {pid g : Nat} {write : Bool} {a : Nat} (hκ : Sub 139 κ) (hσ : Keeps κ σ s) :
    Keeps κ σ (State.deny s src pid g write a) := by
  have k0 : Sub 1 κ := Sub.trans (by decide : 1 &&& 139 = 1) hκ
  have k1 : Sub 2 κ := Sub.trans (by decide : 2 &&& 139 = 2) hκ
  have k2 : Sub 139 κ := Sub.trans (by decide : 139 &&& 139 = 139) hκ
  unfold State.deny
  repeat' first
    | with_reducible assumption
    | with_reducible apply State.putAddr_keeps k0
    | with_reducible apply State.put_keeps k0
    | with_reducible apply State.count_keeps k1
    | with_reducible apply State.raise_keeps k2
    | with_reducible apply ite_keeps
    | dsimp -simprocs only
    | dsimp only

theorem State.dropMark_keeps {κ : Nat} {σ : State} {s : State} {m : EccMark} (hκ : Sub 64 κ) (hσ : Keeps κ σ s) :
    Keeps κ σ (State.dropMark s m) := by
  have k0 : Sub 64 κ := Sub.trans (by decide : 64 &&& 64 = 64) hκ
  unfold State.dropMark
  repeat' first
    | with_reducible assumption
    | with_reducible apply State.setFab_keeps k0

theorem State.upset_keeps {κ : Nat} {σ : State} {s : State} {u : List EccMark} (hκ : Sub 64 κ) (hσ : Keeps κ σ s) :
    Keeps κ σ (State.upset s u) := by
  have k0 : Sub 64 κ := Sub.trans (by decide : 64 &&& 64 = 64) hκ
  unfold State.upset
  repeat' first
    | with_reducible assumption
    | with_reducible apply State.setFab_keeps k0
    | with_reducible refine foldl_keeps (fun _ _ _ => ?_) ?_
    | with_reducible refine foldl_fst_keeps (fun _ _ _ => ?_) ?_

theorem State.reportCe_keeps {κ : Nat} {σ : State} {s : State} {m : EccMark} {patrol : Bool} (hκ : Sub 203 κ) (hσ : Keeps κ σ s) :
    Keeps κ σ (State.reportCe s m patrol) := by
  have k0 : Sub 64 κ := Sub.trans (by decide : 64 &&& 203 = 64) hκ
  have k1 : Sub 2 κ := Sub.trans (by decide : 2 &&& 203 = 2) hκ
  have k2 : Sub 1 κ := Sub.trans (by decide : 1 &&& 203 = 1) hκ
  have k3 : Sub 139 κ := Sub.trans (by decide : 139 &&& 203 = 139) hκ
  unfold State.reportCe
  repeat' first
    | with_reducible assumption
    | with_reducible apply State.dropMark_keeps k0
    | with_reducible apply State.count_keeps k1
    | with_reducible apply State.setFab_keeps k0
    | with_reducible apply State.putAddr_keeps k2
    | with_reducible apply State.put_keeps k2
    | with_reducible apply State.raise_keeps k3
    | with_reducible apply ite_keeps
    | dsimp -simprocs only
    | dsimp only

theorem State.reportUe_keeps {κ : Nat} {σ : State} {s : State} {m : EccMark} {pid : Nat} {patrol : Bool} (hκ : Sub 203 κ) (hσ : Keeps κ σ s) :
    Keeps κ σ (State.reportUe s m pid patrol) := by
  have k0 : Sub 2 κ := Sub.trans (by decide : 2 &&& 203 = 2) hκ
  have k1 : Sub 64 κ := Sub.trans (by decide : 64 &&& 203 = 64) hκ
  have k2 : Sub 1 κ := Sub.trans (by decide : 1 &&& 203 = 1) hκ
  have k3 : Sub 139 κ := Sub.trans (by decide : 139 &&& 203 = 139) hκ
  unfold State.reportUe
  repeat' first
    | with_reducible assumption
    | with_reducible apply State.count_keeps k0
    | with_reducible apply State.setFab_keeps k1
    | with_reducible apply State.putAddr_keeps k2
    | with_reducible apply State.put_keeps k2
    | with_reducible apply State.raise_keeps k3
    | dsimp -simprocs only
    | dsimp only

theorem State.eccRead_keeps {κ : Nat} {σ : State} {s : State} {a n pid : Nat} {patrol : Bool} (hκ : Sub 203 κ) (hσ : Keeps κ σ s) :
    Keeps κ σ (State.eccRead s a n pid patrol) := by
  have k0 : Sub 203 κ := Sub.trans (by decide : 203 &&& 203 = 203) hκ
  unfold State.eccRead
  repeat' first
    | with_reducible assumption
    | with_reducible apply State.reportUe_keeps k0
    | with_reducible apply State.reportCe_keeps k0
    | with_reducible apply ite_keeps
    | with_reducible refine forEach_keeps (fun _ _ _ => ?_) ?_

theorem State.eccWrite_keeps {κ : Nat} {σ : State} {s : State} {a n pid : Nat} (hκ : Sub 203 κ) (hσ : Keeps κ σ s) :
    Keeps κ σ (State.eccWrite s a n pid) := by
  have k0 : Sub 64 κ := Sub.trans (by decide : 64 &&& 203 = 64) hκ
  have k1 : Sub 203 κ := Sub.trans (by decide : 203 &&& 203 = 203) hκ
  unfold State.eccWrite
  repeat' first
    | with_reducible assumption
    | with_reducible apply State.dropMark_keeps k0
    | with_reducible apply State.reportUe_keeps k1
    | with_reducible apply State.reportCe_keeps k1
    | with_reducible apply ite_keeps
    | with_reducible refine forEach_keeps (fun _ _ _ => ?_) ?_

theorem State.eccRefuse_keeps {κ : Nat} {σ : State} {s : State} {a n pid : Nat} (hκ : Sub 203 κ) (hσ : Keeps κ σ s) :
    Keeps κ σ (State.eccRefuse s a n pid) := by
  have k0 : Sub 203 κ := Sub.trans (by decide : 203 &&& 203 = 203) hκ
  unfold State.eccRefuse
  repeat' first
    | with_reducible assumption
    | with_reducible apply State.reportUe_keeps k0
    | with_reducible refine forEach_keeps (fun _ _ _ => ?_) ?_

end Sys2Proof.Machine
end

