-- ==== Sys2Proof/Laws/KeepsPairBase.lean ====
section
/-! SUPPORT. What each operation of Machine/PairBase may do to State. -/
namespace Sys2Proof.Machine

theorem State.onPai_keeps {κ : Nat} {σ : State} {s : State} {f : Pai → Pai} (hκ : Sub 16777216 κ) (hσ : Keeps κ σ s) :
    Keeps κ σ (State.onPai s f) := by
  have k0 : Sub 16777216 κ := Sub.trans (by decide : 16777216 &&& 16777216 = 16777216) hκ
  unfold State.onPai
  repeat' first
    | with_reducible assumption
    | with_reducible apply State.setPai_keeps k0

theorem State.setLane_keeps {κ : Nat} {σ : State} {s : State} {l : Nat} {up : Bool} (hκ : Sub 139 κ) (hσ : Keeps κ σ s) :
    Keeps κ σ (State.setLane s l up) := by
  have k0 : Sub 1 κ := Sub.trans (by decide : 1 &&& 139 = 1) hκ
  have k1 : Sub 139 κ := Sub.trans (by decide : 139 &&& 139 = 139) hκ
  unfold State.setLane
  repeat' first
    | with_reducible assumption
    | with_reducible apply State.put_keeps k0
    | with_reducible apply State.raise_keeps k1
    | with_reducible apply ite_keeps

theorem State.pairSeqStep_keeps {κ : Nat} {σ : State} {s : State} {kind : Nat} (hκ : Sub 16777216 κ) (hσ : Keeps κ σ s) :
    Keeps κ σ (State.pairSeqStep s kind) := by
  have k0 : Sub 16777216 κ := Sub.trans (by decide : 16777216 &&& 16777216 = 16777216) hκ
  unfold State.pairSeqStep
  repeat' first
    | with_reducible assumption
    | with_reducible apply State.onPai_keeps k0
    | intro _

theorem State.laneSend_keeps {κ : Nat} {σ : State} {s : State} {lane : Nat} {b : Bytes} (hκ : Sub 10 κ) (hσ : Keeps κ σ s) :
    Keeps κ σ (State.laneSend s lane b) := by
  have k0 : Sub 8 κ := Sub.trans (by decide : 8 &&& 10 = 8) hκ
  have k1 : Sub 2 κ := Sub.trans (by decide : 2 &&& 10 = 2) hκ
  unfold State.laneSend
  repeat' first
    | with_reducible assumption
    | with_reducible apply State.emit_keeps k0
    | with_reducible apply State.count_keeps k1

theorem State.sendOn_keeps {κ : Nat} {σ : State} {s : State} {lane kind : Nat} {body : Bytes} (hκ : Sub 16777226 κ) (hσ : Keeps κ σ s) :
    Keeps κ σ (State.sendOn s lane kind body) := by
  have k0 : Sub 10 κ := Sub.trans (by decide : 10 &&& 16777226 = 10) hκ
  have k1 : Sub 16777216 κ := Sub.trans (by decide : 16777216 &&& 16777226 = 16777216) hκ
  unfold State.sendOn
  repeat' first
    | with_reducible assumption
    | with_reducible apply State.laneSend_keeps k0
    | with_reducible apply State.pairSeqStep_keeps k1

theorem State.sendAll_keeps {κ : Nat} {σ : State} {s : State} {kind : Nat} {body : Bytes} (hκ : Sub 16777226 κ) (hσ : Keeps κ σ s) :
    Keeps κ σ (State.sendAll s kind body) := by
  have k0 : Sub 16777226 κ := Sub.trans (by decide : 16777226 &&& 16777226 = 16777226) hκ
  unfold State.sendAll
  repeat' first
    | with_reducible assumption
    | with_reducible apply State.sendOn_keeps k0
    | with_reducible refine forEach_keeps (fun _ _ _ => ?_) ?_

theorem State.sendOne_keeps {κ : Nat} {σ : State} {s : State} {kind : Nat} {body : Bytes} (hκ : Sub 16777226 κ) (hσ : Keeps κ σ s) :
    Keeps κ σ (State.sendOne s kind body) := by
  have k0 : Sub 16777226 κ := Sub.trans (by decide : 16777226 &&& 16777226 = 16777226) hκ
  unfold State.sendOne
  repeat' first
    | with_reducible assumption
    | with_reducible apply State.sendOn_keeps k0
    | split

theorem State.bridgeReply_keeps {κ : Nat} {σ : State} {s : State} {id status : Nat} {data : Bytes} (hκ : Sub 16777226 κ) (hσ : Keeps κ σ s) :
    Keeps κ σ (State.bridgeReply s id status data) := by
  have k0 : Sub 16777226 κ := Sub.trans (by decide : 16777226 &&& 16777226 = 16777226) hκ
  unfold State.bridgeReply
  repeat' first
    | with_reducible assumption
    | with_reducible apply State.sendOne_keeps k0
    | dsimp only [id]

theorem State.bridgeSend_keeps {κ : Nat} {σ : State} {s : State} {a : Access} {pid off addr len id : Nat} (hκ : Sub 16777226 κ) (hσ : Keeps κ σ s) :
    Keeps κ σ (State.bridgeSend s a pid off addr len id) := by
  have k0 : Sub 16777226 κ := Sub.trans (by decide : 16777226 &&& 16777226 = 16777226) hκ
  unfold State.bridgeSend
  repeat' first
    | with_reducible assumption
    | with_reducible apply State.sendOne_keeps k0
    | with_reducible apply ite_keeps
    | dsimp -simprocs only
    | dsimp only
    | dsimp only [id]
    | split

theorem State.bridge_keeps {κ : Nat} {σ : State} {s : State} {a : Access} {pid tag : Nat} (hκ : Sub 16777226 κ) (hσ : Keeps κ σ s) :
    Keeps κ σ (State.bridge s a pid tag) := by
  have k0 : Sub 16777216 κ := Sub.trans (by decide : 16777216 &&& 16777226 = 16777216) hκ
  have k1 : Sub 16777226 κ := Sub.trans (by decide : 16777226 &&& 16777226 = 16777226) hκ
  unfold State.bridge
  repeat' first
    | with_reducible assumption
    | with_reducible apply State.onPai_keeps k0
    | with_reducible apply State.bridgeSend_keeps k1
    | with_reducible refine foldl_keeps (fun _ _ _ => ?_) ?_
    | with_reducible refine foldl_fst_keeps (fun _ _ _ => ?_) ?_
    | intro _
    | dsimp -simprocs only
    | dsimp only
    | dsimp only [id]

theorem State.pairAnswer_keeps {κ : Nat} {σ : State} {s : State} {status : Nat} {data : Bytes} (hκ : Sub 16777226 κ) (hσ : Keeps κ σ s) :
    Keeps κ σ (State.pairAnswer s status data) := by
  have k0 : Sub 16777216 κ := Sub.trans (by decide : 16777216 &&& 16777226 = 16777216) hκ
  have k1 : Sub 16777226 κ := Sub.trans (by decide : 16777226 &&& 16777226 = 16777226) hκ
  unfold State.pairAnswer
  repeat' first
    | with_reducible assumption
    | with_reducible apply State.onPai_keeps k0
    | with_reducible apply State.bridgeReply_keeps k1
    | intro _
    | dsimp only [id]
    | split

theorem State.answer_keeps {κ : Nat} {σ : State} {s : State} {src : Source} {status : Nat} {data : Bytes} (hκ : Sub 16777226 κ) (hσ : Keeps κ σ s) :
    Keeps κ σ (State.answer s src status data) := by
  have k0 : Sub 8 κ := Sub.trans (by decide : 8 &&& 16777226 = 8) hκ
  have k1 : Sub 16777226 κ := Sub.trans (by decide : 16777226 &&& 16777226 = 16777226) hκ
  unfold State.answer
  repeat' first
    | with_reducible assumption
    | with_reducible apply State.emit_keeps k0
    | with_reducible apply State.pairAnswer_keeps k1
    | with_reducible apply ite_keeps
    | dsimp -simprocs only
    | dsimp only
    | split

end Sys2Proof.Machine
end

