-- ==== Sys2Proof/Laws/KeepsQueues.lean ====
section
/-! SUPPORT. What each operation of Machine/Queues may do to State. -/
namespace Sys2Proof.Machine

theorem State.setItems_keeps {κ : Nat} {σ : State} {s : State} {q : Nat} {l : List Nat} (hκ : Sub 256 κ) (hσ : Keeps κ σ s) :
    Keeps κ σ (State.setItems s q l) := by
  have k0 : Sub 256 κ := Sub.trans (by decide : 256 &&& 256 = 256) hκ
  unfold State.setItems
  repeat' first
    | with_reducible assumption
    | with_reducible apply State.setQue_keeps k0

theorem State.setQLast_keeps {κ : Nat} {σ : State} {s : State} {q v : Nat} (hκ : Sub 256 κ) (hσ : Keeps κ σ s) :
    Keeps κ σ (State.setQLast s q v) := by
  have k0 : Sub 256 κ := Sub.trans (by decide : 256 &&& 256 = 256) hκ
  unfold State.setQLast
  repeat' first
    | with_reducible assumption
    | with_reducible apply State.setQue_keeps k0

theorem State.qCells_keeps {κ : Nat} {σ : State} {s : State} {q i : Nat} (hκ : Sub 64 κ) (hσ : Keeps κ σ s) :
    Keeps κ σ (State.qCells s q i) := by
  have k0 : Sub 64 κ := Sub.trans (by decide : 64 &&& 64 = 64) hκ
  unfold State.qCells
  repeat' first
    | with_reducible assumption
    | with_reducible apply State.setFab_keeps k0

theorem State.qShift_keeps {κ : Nat} {σ : State} {s : State} {q : Nat} (hκ : Sub 64 κ) (hσ : Keeps κ σ s) :
    Keeps κ σ (State.qShift s q) := by
  have k0 : Sub 64 κ := Sub.trans (by decide : 64 &&& 64 = 64) hκ
  unfold State.qShift
  repeat' first
    | with_reducible assumption
    | with_reducible apply State.setFab_keeps k0

theorem State.qPut_keeps {κ : Nat} {σ : State} {s : State} {q v : Nat} (hκ : Sub 459 κ) (hσ : Keeps κ σ s) :
    Keeps κ σ (State.qPut s q v) := by
  have k0 : Sub 64 κ := Sub.trans (by decide : 64 &&& 459 = 64) hκ
  have k1 : Sub 256 κ := Sub.trans (by decide : 256 &&& 459 = 256) hκ
  have k2 : Sub 1 κ := Sub.trans (by decide : 1 &&& 459 = 1) hκ
  have k3 : Sub 139 κ := Sub.trans (by decide : 139 &&& 459 = 139) hκ
  unfold State.qPut
  repeat' first
    | with_reducible assumption
    | with_reducible apply State.qCells_keeps k0
    | with_reducible apply State.setItems_keeps k1
    | with_reducible apply State.put_keeps k2
    | with_reducible apply State.raise_keeps k3
    | with_reducible apply State.sendAia_keeps k3
    | with_reducible apply ite_keeps
    | dsimp -simprocs only
    | dsimp only

theorem State.holdPush_keeps {κ : Nat} {σ : State} {s : State} {src : Source} {q v : Nat} (hκ : Sub 256 κ) (hσ : Keeps κ σ s) :
    Keeps κ σ (State.holdPush s src q v) := by
  have k0 : Sub 256 κ := Sub.trans (by decide : 256 &&& 256 = 256) hκ
  unfold State.holdPush
  repeat' first
    | with_reducible assumption
    | with_reducible apply State.setQue_keeps k0

theorem State.pushNow_keeps {κ : Nat} {σ : State} {s : State} {q v : Nat} (hκ : Sub 459 κ) (hσ : Keeps κ σ s) :
    Keeps κ σ (State.pushNow s q v) := by
  have k0 : Sub 459 κ := Sub.trans (by decide : 459 &&& 459 = 459) hκ
  have k1 : Sub 139 κ := Sub.trans (by decide : 139 &&& 459 = 139) hκ
  unfold State.pushNow
  repeat' first
    | with_reducible assumption
    | with_reducible apply State.qPut_keeps k0
    | with_reducible apply State.raise_keeps k1
    | with_reducible apply ite_keeps

theorem State.qPush_keeps {κ : Nat} {σ : State} {s : State} {src : Source} {q v : Nat} (hκ : Sub 16777675 κ) (hσ : Keeps κ σ s) :
    Keeps κ σ (State.qPush s src q v) := by
  have k0 : Sub 256 κ := Sub.trans (by decide : 256 &&& 16777675 = 256) hκ
  have k1 : Sub 459 κ := Sub.trans (by decide : 459 &&& 16777675 = 459) hκ
  have k2 : Sub 16777226 κ := Sub.trans (by decide : 16777226 &&& 16777675 = 16777226) hκ
  unfold State.qPush
  repeat' first
    | with_reducible assumption
    | with_reducible apply State.holdPush_keeps k0
    | with_reducible apply State.pushNow_keeps k1
    | with_reducible apply State.answer_keeps k2
    | with_reducible apply ite_keeps

theorem State.qPop_keeps {κ : Nat} {σ : State} {s : State} {q : Nat} (hκ : Sub 459 κ) (hσ : Keeps κ σ s) :
    Keeps κ σ (State.qPop s q).1 := by
  have k0 : Sub 1 κ := Sub.trans (by decide : 1 &&& 459 = 1) hκ
  have k1 : Sub 2 κ := Sub.trans (by decide : 2 &&& 459 = 2) hκ
  have k2 : Sub 139 κ := Sub.trans (by decide : 139 &&& 459 = 139) hκ
  have k3 : Sub 64 κ := Sub.trans (by decide : 64 &&& 459 = 64) hκ
  have k4 : Sub 256 κ := Sub.trans (by decide : 256 &&& 459 = 256) hκ
  unfold State.qPop
  repeat' first
    | with_reducible assumption
    | with_reducible apply State.put_keeps k0
    | with_reducible apply State.count_keeps k1
    | with_reducible apply State.raise_keeps k2
    | with_reducible apply State.qShift_keeps k3
    | with_reducible apply State.setItems_keeps k4
    | with_reducible apply State.setQLast_keeps k4
    | with_reducible apply ite_keeps
    | with_reducible apply ite_fst_keeps
    | split

theorem State.semAcquire_keeps {κ : Nat} {σ : State} {s : State} {pid n : Nat} (hκ : Sub 19 κ) (hσ : Keeps κ σ s) :
    Keeps κ σ (State.semAcquire s pid n).1 := by
  have k0 : Sub 16 κ := Sub.trans (by decide : 16 &&& 19 = 16) hκ
  have k1 : Sub 1 κ := Sub.trans (by decide : 1 &&& 19 = 1) hκ
  have k2 : Sub 2 κ := Sub.trans (by decide : 2 &&& 19 = 2) hκ
  unfold State.semAcquire
  repeat' first
    | with_reducible assumption
    | with_reducible apply State.drawn_keeps k0
    | with_reducible apply State.put_keeps k1
    | with_reducible apply State.count_keeps k2
    | with_reducible apply ite_keeps
    | with_reducible apply ite_fst_keeps
    | dsimp -simprocs only
    | dsimp only

theorem State.mbDeny_keeps {κ : Nat} {σ : State} {s : State} (hκ : Sub 139 κ) (hσ : Keeps κ σ s) :
    Keeps κ σ (State.mbDeny s) := by
  have k0 : Sub 2 κ := Sub.trans (by decide : 2 &&& 139 = 2) hκ
  have k1 : Sub 139 κ := Sub.trans (by decide : 139 &&& 139 = 139) hκ
  unfold State.mbDeny
  repeat' first
    | with_reducible assumption
    | with_reducible apply State.count_keeps k0
    | with_reducible apply State.raise_keeps k1

end Sys2Proof.Machine
end

