-- ==== Sys2Proof/Laws/KeepsSwcBase.lean ====
section
/-! SUPPORT. What each operation of Machine/SwcBase may do to State. -/
namespace Sys2Proof.Machine

theorem State.onSwc_keeps {κ : Nat} {σ : State} {s : State} {f : Swc → Swc} (hκ : Sub 512 κ) (hσ : Keeps κ σ s) :
    Keeps κ σ (State.onSwc s f) := by
  have k0 : Sub 512 κ := Sub.trans (by decide : 512 &&& 512 = 512) hκ
  unfold State.onSwc
  repeat' first
    | with_reducible assumption
    | with_reducible apply State.setSwc_keeps k0

theorem State.onPrt_keeps {κ : Nat} {σ : State} {s : State} {f : Prt → Prt} (hκ : Sub 1024 κ) (hσ : Keeps κ σ s) :
    Keeps κ σ (State.onPrt s f) := by
  have k0 : Sub 1024 κ := Sub.trans (by decide : 1024 &&& 1024 = 1024) hκ
  unfold State.onPrt
  repeat' first
    | with_reducible assumption
    | with_reducible apply State.setPrt_keeps k0

theorem State.setCb_keeps {κ : Nat} {σ : State} {s : State} {h : Nat} {c : CbState} (hκ : Sub 512 κ) (hσ : Keeps κ σ s) :
    Keeps κ σ (State.setCb s h c) := by
  have k0 : Sub 512 κ := Sub.trans (by decide : 512 &&& 512 = 512) hκ
  unfold State.setCb
  repeat' first
    | with_reducible assumption
    | with_reducible apply State.onSwc_keeps k0
    | intro _

theorem State.setPlyEnt_keeps {κ : Nat} {σ : State} {s : State} {k : Nat} {e : PlyEnt} (hκ : Sub 512 κ) (hσ : Keeps κ σ s) :
    Keeps κ σ (State.setPlyEnt s k e) := by
  have k0 : Sub 512 κ := Sub.trans (by decide : 512 &&& 512 = 512) hκ
  unfold State.setPlyEnt
  repeat' first
    | with_reducible assumption
    | with_reducible apply State.onSwc_keeps k0
    | intro _

theorem State.setPlyAcc_keeps {κ : Nat} {σ : State} {s : State} {k : Nat} {a : PlyAcc} (hκ : Sub 512 κ) (hσ : Keeps κ σ s) :
    Keeps κ σ (State.setPlyAcc s k a) := by
  have k0 : Sub 512 κ := Sub.trans (by decide : 512 &&& 512 = 512) hκ
  unfold State.setPlyAcc
  repeat' first
    | with_reducible assumption
    | with_reducible apply State.onSwc_keeps k0
    | intro _

end Sys2Proof.Machine
end

