-- ==== Sys2Proof/Laws/KeepsViews.lean ====
section
/-! SUPPORT. What each operation of Machine/Views may do to State. -/
namespace Sys2Proof.Machine

theorem State.regRead_keeps {κ : Nat} {σ : State} {s : State} {pid a : Nat} (hκ : Sub 155 κ) (hσ : Keeps κ σ s) :
    Keeps κ σ (State.regRead s pid a).1 := by
  have k0 : Sub 139 κ := Sub.trans (by decide : 139 &&& 155 = 139) hκ
  have k1 : Sub 3 κ := Sub.trans (by decide : 3 &&& 155 = 3) hκ
  have k2 : Sub 19 κ := Sub.trans (by decide : 19 &&& 155 = 19) hκ
  unfold State.regRead
  repeat' first
    | with_reducible assumption
    | with_reducible apply State.mbDeny_keeps k0
    | with_reducible apply State.readCounter_keeps k1
    | with_reducible apply State.semAcquire_keeps k2
    | with_reducible apply ite_keeps
    | with_reducible apply ite_fst_keeps

end Sys2Proof.Machine
end

