-- ==== Sys2Proof/Laws/KeepsAccess.lean ====
section
/-! SUPPORT. What each operation of Machine/Access may do to State. -/
namespace Sys2Proof.Machine

theorem State.useTag_keeps {κ : Nat} {σ : State} {s : State} {tag pid : Nat} {a : Access} {emulate : Bool} (hκ : Sub 64 κ) (hσ : Keeps κ σ s) :
    Keeps κ σ (State.useTag s tag pid a emulate) := by
  have k0 : Sub 64 κ := Sub.trans (by decide : 64 &&& 64 = 64) hκ
  unfold State.useTag
  repeat' first
    | with_reducible assumption
    | with_reducible apply State.setFab_keeps k0

theorem State.dropTag_keeps {κ : Nat} {σ : State} {s : State} {tag : Nat} (hκ : Sub 64 κ) (hσ : Keeps κ σ s) :
    Keeps κ σ (State.dropTag s tag) := by
  have k0 : Sub 64 κ := Sub.trans (by decide : 64 &&& 64 = 64) hκ
  unfold State.dropTag
  repeat' first
    | with_reducible assumption
    | with_reducible apply State.setFab_keeps k0

theorem State.waitTag_keeps {κ : Nat} {σ : State} {s : State} {a : Access} {pid : Nat} (hκ : Sub 64 κ) (hσ : Keeps κ σ s) :
    Keeps κ σ (State.waitTag s a pid) := by
  have k0 : Sub 64 κ := Sub.trans (by decide : 64 &&& 64 = 64) hκ
  unfold State.waitTag
  repeat' first
    | with_reducible assumption
    | with_reducible apply State.setFab_keeps k0

theorem State.waitLock_keeps {κ : Nat} {σ : State} {s : State} {a : Access} {pid tag : Nat} (hκ : Sub 64 κ) (hσ : Keeps κ σ s) :
    Keeps κ σ (State.waitLock s a pid tag) := by
  have k0 : Sub 64 κ := Sub.trans (by decide : 64 &&& 64 = 64) hκ
  unfold State.waitLock
  repeat' first
    | with_reducible assumption
    | with_reducible apply State.setFab_keeps k0

theorem State.hostWrites_keeps {κ : Nat} {σ : State} {s : State} {a : Nat} {b : Bytes} (hκ : Sub 8 κ) (hσ : Keeps κ σ s) :
    Keeps κ σ (State.hostWrites s a b) := by
  have k0 : Sub 8 κ := Sub.trans (by decide : 8 &&& 8 = 8) hκ
  unfold State.hostWrites
  repeat' first
    | with_reducible assumption
    | with_reducible apply State.emit_keeps k0
    | with_reducible refine forEach_keeps (fun _ _ _ => ?_) ?_

theorem State.hostReads_keeps {κ : Nat} {σ : State} {s : State} {tag a n : Nat} (hκ : Sub 8 κ) (hσ : Keeps κ σ s) :
    Keeps κ σ (State.hostReads s tag a n) := by
  have k0 : Sub 8 κ := Sub.trans (by decide : 8 &&& 8 = 8) hκ
  unfold State.hostReads
  repeat' first
    | with_reducible assumption
    | with_reducible apply State.emit_keeps k0
    | with_reducible refine forEach_keeps (fun _ _ _ => ?_) ?_

theorem State.setupWords_keeps {κ : Nat} {σ : State} {pid : Nat} {a0 : Nat} {a1 : Nat} {a2 : State} (hκ : Sub 155 κ) (hσ : Keeps κ σ a2) :
    Keeps κ σ (State.setupWords pid a0 a1 a2).1 := by
  have k0 : Sub 155 κ := Sub.trans (by decide : 155 &&& 155 = 155) hκ
  fun_induction State.setupWords pid a0 a1 a2
  all_goals repeat' first
    | with_reducible assumption
    | with_reducible apply State.regRead_keeps k0
    | dsimp -simprocs only
    | dsimp only
    | split
    | with_reducible apply_assumption

theorem State.setupBytes_keeps {κ : Nat} {σ : State} {s : State} {pid a n : Nat} (hκ : Sub 155 κ) (hσ : Keeps κ σ s) :
    Keeps κ σ (State.setupBytes s pid a n).1 := by
  have k0 : Sub 155 κ := Sub.trans (by decide : 155 &&& 155 = 155) hκ
  unfold State.setupBytes
  repeat' first
    | with_reducible assumption
    | with_reducible apply State.setupWords_keeps k0
    | dsimp -simprocs only
    | dsimp only

theorem State.qHeadRead_keeps {κ : Nat} {σ : State} {s : State} {q pid : Nat} {k : State → State × Nat} (hκ : Sub 203 κ) (h_k : ∀ x0, Keeps κ σ x0 → Keeps κ σ (k x0).1) (hσ : Keeps κ σ s) :
    Keeps κ σ (State.qHeadRead s q pid k).1 := by
  have k0 : Sub 203 κ := Sub.trans (by decide : 203 &&& 203 = 203) hκ
  unfold State.qHeadRead
  repeat' first
    | with_reducible assumption
    | with_reducible apply h_k
    | with_reducible apply State.eccRead_keeps k0
    | with_reducible apply ite_keeps
    | with_reducible apply ite_fst_keeps
    | dsimp -simprocs only
    | dsimp only

theorem State.queueRead_keeps {κ : Nat} {σ : State} {s : State} {q off pid : Nat} (hκ : Sub 459 κ) (hσ : Keeps κ σ s) :
    Keeps κ σ (State.queueRead s q off pid).1 := by
  have k0 : Sub 203 κ := Sub.trans (by decide : 203 &&& 459 = 203) hκ
  have k1 : Sub 459 κ := Sub.trans (by decide : 459 &&& 459 = 459) hκ
  unfold State.queueRead
  repeat' first
    | with_reducible assumption
    | with_reducible apply State.qHeadRead_keeps k0
    | with_reducible apply State.qPop_keeps k1
    | with_reducible apply ite_keeps
    | with_reducible apply ite_fst_keeps
    | intro _

theorem State.queueAnswer_keeps {κ : Nat} {σ : State} {s : State} {q off pid : Nat} (hκ : Sub 459 κ) (hσ : Keeps κ σ s) :
    Keeps κ σ (State.queueAnswer s q off pid).1 := by
  have k0 : Sub 459 κ := Sub.trans (by decide : 459 &&& 459 = 459) hκ
  unfold State.queueAnswer
  repeat' first
    | with_reducible assumption
    | with_reducible apply State.queueRead_keeps k0
    | dsimp -simprocs only
    | dsimp only

theorem State.hostErr_keeps {κ : Nat} {σ : State} {s : State} (hκ : Sub 139 κ) (hσ : Keeps κ σ s) :
    Keeps κ σ (State.hostErr s) := by
  have k0 : Sub 2 κ := Sub.trans (by decide : 2 &&& 139 = 2) hκ
  have k1 : Sub 139 κ := Sub.trans (by decide : 139 &&& 139 = 139) hκ
  unfold State.hostErr
  repeat' first
    | with_reducible assumption
    | with_reducible apply State.count_keeps k0
    | with_reducible apply State.raise_keeps k1

theorem State.readTarget_keeps {κ : Nat} {σ : State} {s : State} {a : Access} {pid tag : Nat} (hκ : Sub 16777691 κ) (hσ : Keeps κ σ s) :
    Keeps κ σ (State.readTarget s a pid tag).1 := by
  have k0 : Sub 155 κ := Sub.trans (by decide : 155 &&& 16777691 = 155) hκ
  have k1 : Sub 139 κ := Sub.trans (by decide : 139 &&& 16777691 = 139) hκ
  have k2 : Sub 64 κ := Sub.trans (by decide : 64 &&& 16777691 = 64) hκ
  have k3 : Sub 459 κ := Sub.trans (by decide : 459 &&& 16777691 = 459) hκ
  have k4 : Sub 8 κ := Sub.trans (by decide : 8 &&& 16777691 = 8) hκ
  have k5 : Sub 16777226 κ := Sub.trans (by decide : 16777226 &&& 16777691 = 16777226) hκ
  have k6 : Sub 203 κ := Sub.trans (by decide : 203 &&& 16777691 = 203) hκ
  unfold State.readTarget
  repeat' first
    | with_reducible assumption
    | with_reducible apply State.setupBytes_keeps k0
    | with_reducible apply State.deny_keeps k1
    | with_reducible apply State.useTag_keeps k2
    | with_reducible apply State.queueAnswer_keeps k3
    | with_reducible apply State.waitLock_keeps k2
    | with_reducible apply State.hostReads_keeps k4
    | with_reducible apply State.hostErr_keeps k1
    | with_reducible apply State.bridge_keeps k5
    | with_reducible apply State.eccRead_keeps k6
    | with_reducible apply ite_keeps
    | with_reducible apply ite_fst_keeps
    | dsimp -simprocs only
    | dsimp only
    | split

theorem State.readChecked_keeps {κ : Nat} {σ : State} {s : State} {a : Access} {pid tag : Nat} (hκ : Sub 16777691 κ) (hσ : Keeps κ σ s) :
    Keeps κ σ (State.readChecked s a pid tag).1 := by
  have k0 : Sub 139 κ := Sub.trans (by decide : 139 &&& 16777691 = 139) hκ
  have k1 : Sub 16777691 κ := Sub.trans (by decide : 16777691 &&& 16777691 = 16777691) hκ
  unfold State.readChecked
  repeat' first
    | with_reducible assumption
    | with_reducible apply State.unmapped_keeps k0
    | with_reducible apply State.deny_keeps k0
    | with_reducible apply State.readTarget_keeps k1
    | with_reducible apply ite_keeps
    | with_reducible apply ite_fst_keeps
    | split

theorem State.setupWrite_keeps {κ : Nat} {σ : State} {pid : Nat} {a0 : State} {a1 : Nat} {a2 : Bytes} (hκ : Sub 64 κ) (hσ : Keeps κ σ a0) :
    Keeps κ σ (State.setupWrite pid a0 a1 a2) := by
  have k0 : Sub 64 κ := Sub.trans (by decide : 64 &&& 64 = 64) hκ
  fun_induction State.setupWrite pid a0 a1 a2
  all_goals repeat' first
    | with_reducible assumption
    | with_reducible apply State.setFab_keeps k0
    | split
    | with_reducible apply_assumption

theorem State.fabWrite_keeps {κ : Nat} {σ : State} {s : State} {src : Source} {a : Nat} {b : Bytes} (hκ : Sub 16777679 κ) (hσ : Keeps κ σ s) :
    Keeps κ σ (State.fabWrite s src a b).1 := by
  have k0 : Sub 139 κ := Sub.trans (by decide : 139 &&& 16777679 = 139) hκ
  have k1 : Sub 64 κ := Sub.trans (by decide : 64 &&& 16777679 = 64) hκ
  have k2 : Sub 16777675 κ := Sub.trans (by decide : 16777675 &&& 16777679 = 16777675) hκ
  have k3 : Sub 8 κ := Sub.trans (by decide : 8 &&& 16777679 = 8) hκ
  have k4 : Sub 16777226 κ := Sub.trans (by decide : 16777226 &&& 16777679 = 16777226) hκ
  have k5 : Sub 203 κ := Sub.trans (by decide : 203 &&& 16777679 = 203) hκ
  have k6 : Sub 4 κ := Sub.trans (by decide : 4 &&& 16777679 = 4) hκ
  unfold State.fabWrite
  repeat' first
    | with_reducible assumption
    | with_reducible apply State.unmapped_keeps k0
    | with_reducible apply State.deny_keeps k0
    | with_reducible apply State.setupWrite_keeps k1
    | with_reducible apply State.qPush_keeps k2
    | with_reducible apply State.waitLock_keeps k1
    | with_reducible apply State.hostWrites_keeps k3
    | with_reducible apply State.hostErr_keeps k0
    | with_reducible apply State.bridge_keeps k4
    | with_reducible apply State.eccRefuse_keeps k5
    | with_reducible apply State.eccWrite_keeps k5
    | with_reducible apply State.writeBytes_keeps k6
    | with_reducible apply ite_keeps
    | with_reducible apply ite_fst_keeps
    | dsimp -simprocs only
    | dsimp only
    | split

end Sys2Proof.Machine
end

