-- ==== Sys2Proof/Laws/KeepsRounds.lean ====
section
/-! SUPPORT. What each operation of Machine/Rounds may do to State. -/
namespace Sys2Proof.Machine

theorem State.updDesc_keeps {κ : Nat} {σ : State} {s : State} {d : Desc} {f : Desc → Desc} (hκ : Sub 128 κ) (hσ : Keeps κ σ s) :
    Keeps κ σ (State.updDesc s d f) := by
  have k0 : Sub 128 κ := Sub.trans (by decide : 128 &&& 128 = 128) hκ
  unfold State.updDesc
  repeat' first
    | with_reducible assumption
    | with_reducible apply State.setDescs_keeps k0

theorem State.issueWith_keeps {κ : Nat} {σ : State} {s : State} {a : Access} {pid t : Nat} (hκ : Sub 16777691 κ) (hσ : Keeps κ σ s) :
    Keeps κ σ (State.issueWith s a pid t).s := by
  have k0 : Sub 16777691 κ := Sub.trans (by decide : 16777691 &&& 16777691 = 16777691) hκ
  unfold State.issueWith
  repeat' first
    | with_reducible assumption
    | with_reducible apply State.readChecked_keeps k0
    | with_reducible apply ite_keeps
    | with_reducible apply ite_fst_keeps
    | dsimp -simprocs only
    | dsimp only

theorem State.issue_keeps {κ : Nat} {σ : State} {s : State} {head : Bool} {n a len : Nat} (hκ : Sub 16777691 κ) (hσ : Keeps κ σ s) :
    Keeps κ σ (State.issue s head n a len).s := by
  have k0 : Sub 64 κ := Sub.trans (by decide : 64 &&& 16777691 = 64) hκ
  have k1 : Sub 16777691 κ := Sub.trans (by decide : 16777691 &&& 16777691 = 16777691) hκ
  unfold State.issue
  repeat' first
    | with_reducible assumption
    | with_reducible apply State.waitTag_keeps k0
    | with_reducible apply State.issueWith_keeps k1
    | with_reducible apply ite_keeps
    | dsimp -simprocs only
    | dsimp only
    | split

theorem State.dropHeld_keeps {κ : Nat} {σ : State} {s : State} {n i : Nat} (hκ : Sub 128 κ) (hσ : Keeps κ σ s) :
    Keeps κ σ (State.dropHeld s n i) := by
  have k0 : Sub 128 κ := Sub.trans (by decide : 128 &&& 128 = 128) hκ
  unfold State.dropHeld
  repeat' first
    | with_reducible assumption
    | with_reducible apply State.setRnd_keeps k0

theorem State.takePlace_keeps {κ : Nat} {σ : State} {s : State} {n : Nat} {got : Bool} (hκ : Sub 128 κ) (hσ : Keeps κ σ s) :
    Keeps κ σ (State.takePlace s n got) := by
  have k0 : Sub 128 κ := Sub.trans (by decide : 128 &&& 128 = 128) hκ
  unfold State.takePlace
  repeat' first
    | with_reducible assumption
    | with_reducible apply State.setRnd_keeps k0
    | with_reducible apply ite_keeps
    | dsimp -simprocs only
    | dsimp only

theorem State.aheadBuf_keeps {κ : Nat} {σ : State} {s : State} {d : Desc} {status : Nat} {b : Bytes} (hκ : Sub 128 κ) (hσ : Keeps κ σ s) :
    Keeps κ σ (State.aheadBuf s d status b) := by
  have k0 : Sub 128 κ := Sub.trans (by decide : 128 &&& 128 = 128) hκ
  unfold State.aheadBuf
  repeat' first
    | with_reducible assumption
    | with_reducible apply State.updDesc_keeps k0
    | with_reducible apply ite_keeps
    | intro _

theorem State.bufferAhead_keeps {κ : Nat} {σ : State} {s : State} {d : Desc} (hκ : Sub 16777691 κ) (hσ : Keeps κ σ s) :
    Keeps κ σ (State.bufferAhead s d) := by
  have k0 : Sub 16777691 κ := Sub.trans (by decide : 16777691 &&& 16777691 = 16777691) hκ
  have k1 : Sub 128 κ := Sub.trans (by decide : 128 &&& 16777691 = 128) hκ
  unfold State.bufferAhead
  repeat' first
    | with_reducible assumption
    | with_reducible apply State.issue_keeps k0
    | with_reducible apply State.updDesc_keeps k1
    | with_reducible apply State.aheadBuf_keeps k1
    | intro _
    | dsimp -simprocs only
    | dsimp only
    | split

theorem State.bufferNext_keeps {κ : Nat} {σ : State} {s : State} {d : Desc} (hκ : Sub 16777691 κ) (hσ : Keeps κ σ s) :
    Keeps κ σ (State.bufferNext s d) := by
  have k0 : Sub 16777691 κ := Sub.trans (by decide : 16777691 &&& 16777691 = 16777691) hκ
  unfold State.bufferNext
  repeat' first
    | with_reducible assumption
    | with_reducible apply State.bufferAhead_keeps k0
    | with_reducible apply ite_keeps

theorem State.aheadDesc_keeps {κ : Nat} {σ : State} {s : State} {d : Desc} {status : Nat} {b : Bytes} (hκ : Sub 16777691 κ) (hσ : Keeps κ σ s) :
    Keeps κ σ (State.aheadDesc s d status b) := by
  have k0 : Sub 128 κ := Sub.trans (by decide : 128 &&& 16777691 = 128) hκ
  have k1 : Sub 16777691 κ := Sub.trans (by decide : 16777691 &&& 16777691 = 16777691) hκ
  unfold State.aheadDesc
  repeat' first
    | with_reducible assumption
    | with_reducible apply State.setDescs_keeps k0
    | with_reducible apply State.updDesc_keeps k0
    | with_reducible apply State.bufferNext_keeps k1
    | with_reducible apply ite_keeps
    | intro _
    | dsimp -simprocs only
    | dsimp only
    | split

theorem State.descAhead_keeps {κ : Nat} {σ : State} {s : State} {n i : Nat} (hκ : Sub 16777691 κ) (hσ : Keeps κ σ s) :
    Keeps κ σ (State.descAhead s n i) := by
  have k0 : Sub 16777691 κ := Sub.trans (by decide : 16777691 &&& 16777691 = 16777691) hκ
  have k1 : Sub 128 κ := Sub.trans (by decide : 128 &&& 16777691 = 128) hκ
  unfold State.descAhead
  repeat' first
    | with_reducible assumption
    | with_reducible apply State.issue_keeps k0
    | with_reducible apply State.setDescs_keeps k1
    | with_reducible apply State.aheadDesc_keeps k0
    | dsimp -simprocs only
    | dsimp only
    | split

theorem State.fetchAhead_keeps {κ : Nat} {σ : State} {s : State} {n : Nat} (hκ : Sub 16777691 κ) (hσ : Keeps κ σ s) :
    Keeps κ σ (State.fetchAhead s n) := by
  have k0 : Sub 16777691 κ := Sub.trans (by decide : 16777691 &&& 16777691 = 16777691) hκ
  have k1 : Sub 128 κ := Sub.trans (by decide : 128 &&& 16777691 = 128) hκ
  unfold State.fetchAhead
  repeat' first
    | with_reducible assumption
    | with_reducible apply State.bufferNext_keeps k0
    | with_reducible apply State.takePlace_keeps k1
    | with_reducible apply State.descAhead_keeps k0
    | with_reducible apply ite_keeps
    | split

theorem State.servedNow_keeps {κ : Nat} {σ : State} {s : State} {n : Nat} (hκ : Sub 128 κ) (hσ : Keeps κ σ s) :
    Keeps κ σ (State.servedNow s n) := by
  have k0 : Sub 128 κ := Sub.trans (by decide : 128 &&& 128 = 128) hκ
  unfold State.servedNow
  repeat' first
    | with_reducible assumption
    | with_reducible apply State.setRnd_keeps k0

theorem State.headStep_keeps {κ : Nat} {σ : State} {s : State} {n : Nat} (hκ : Sub 129 κ) (hσ : Keeps κ σ s) :
    Keeps κ σ (State.headStep s n) := by
  have k0 : Sub 1 κ := Sub.trans (by decide : 1 &&& 129 = 1) hκ
  have k1 : Sub 128 κ := Sub.trans (by decide : 128 &&& 129 = 128) hκ
  unfold State.headStep
  repeat' first
    | with_reducible assumption
    | with_reducible apply State.put_keeps k0
    | with_reducible apply State.servedNow_keeps k1

theorem State.eccDue_keeps {κ : Nat} {σ : State} {s : State} {d : Desc} (hκ : Sub 203 κ) (hσ : Keeps κ σ s) :
    Keeps κ σ (State.eccDue s d) := by
  have k0 : Sub 203 κ := Sub.trans (by decide : 203 &&& 203 = 203) hκ
  unfold State.eccDue
  repeat' first
    | with_reducible assumption
    | with_reducible apply State.eccRead_keeps k0
    | with_reducible apply ite_keeps
    | dsimp -simprocs only
    | dsimp only

theorem State.startNow_keeps {κ : Nat} {σ : State} {s : State} {d : Desc} {fin : Option Cpl} (hκ : Sub 203 κ) (hσ : Keeps κ σ s) :
    Keeps κ σ (State.startNow s d fin) := by
  have k0 : Sub 128 κ := Sub.trans (by decide : 128 &&& 203 = 128) hκ
  have k1 : Sub 129 κ := Sub.trans (by decide : 129 &&& 203 = 129) hκ
  have k2 : Sub 203 κ := Sub.trans (by decide : 203 &&& 203 = 203) hκ
  unfold State.startNow
  repeat' first
    | with_reducible assumption
    | with_reducible apply State.setDescs_keeps k0
    | with_reducible apply State.headStep_keeps k1
    | with_reducible apply State.dropHeld_keeps k0
    | with_reducible apply State.eccDue_keeps k2
    | dsimp -simprocs only
    | dsimp only

theorem State.headDesc_keeps {κ : Nat} {σ : State} {s : State} {d : Desc} {status : Nat} {b : Bytes} (hκ : Sub 203 κ) (hσ : Keeps κ σ s) :
    Keeps κ σ (State.headDesc s d status b) := by
  have k0 : Sub 203 κ := Sub.trans (by decide : 203 &&& 203 = 203) hκ
  have k1 : Sub 128 κ := Sub.trans (by decide : 128 &&& 203 = 128) hκ
  unfold State.headDesc
  repeat' first
    | with_reducible assumption
    | with_reducible apply State.startNow_keeps k0
    | with_reducible apply State.updDesc_keeps k1
    | with_reducible apply ite_keeps
    | intro _
    | split

theorem State.headBuf_keeps {κ : Nat} {σ : State} {s : State} {d : Desc} {status : Nat} {b : Bytes} (hκ : Sub 203 κ) (hσ : Keeps κ σ s) :
    Keeps κ σ (State.headBuf s d status b) := by
  have k0 : Sub 203 κ := Sub.trans (by decide : 203 &&& 203 = 203) hκ
  have k1 : Sub 128 κ := Sub.trans (by decide : 128 &&& 203 = 128) hκ
  unfold State.headBuf
  repeat' first
    | with_reducible assumption
    | with_reducible apply State.startNow_keeps k0
    | with_reducible apply State.updDesc_keeps k1
    | with_reducible apply ite_keeps
    | intro _

theorem State.headRead_keeps {κ : Nat} {σ : State} {s : State} {d : Desc} (hκ : Sub 16777691 κ) (hσ : Keeps κ σ s) :
    Keeps κ σ (State.headRead s d) := by
  have k0 : Sub 16777691 κ := Sub.trans (by decide : 16777691 &&& 16777691 = 16777691) hκ
  have k1 : Sub 128 κ := Sub.trans (by decide : 128 &&& 16777691 = 128) hκ
  have k2 : Sub 203 κ := Sub.trans (by decide : 203 &&& 16777691 = 203) hκ
  unfold State.headRead
  repeat' first
    | with_reducible assumption
    | with_reducible apply State.issue_keeps k0
    | with_reducible apply State.updDesc_keeps k1
    | with_reducible apply State.headDesc_keeps k2
    | with_reducible apply State.headBuf_keeps k2
    | with_reducible apply ite_keeps
    | with_reducible apply ite_fst_keeps
    | intro _
    | dsimp -simprocs only
    | dsimp only
    | split

theorem State.frogFx_keeps {κ : Nat} {σ : State} {s : State} {d : Desc} (hκ : Sub 139 κ) (hσ : Keeps κ σ s) :
    Keeps κ σ (State.frogFx s d) := by
  have k0 : Sub 8 κ := Sub.trans (by decide : 8 &&& 139 = 8) hκ
  have k1 : Sub 2 κ := Sub.trans (by decide : 2 &&& 139 = 2) hκ
  have k2 : Sub 1 κ := Sub.trans (by decide : 1 &&& 139 = 1) hκ
  have k3 : Sub 139 κ := Sub.trans (by decide : 139 &&& 139 = 139) hκ
  unfold State.frogFx
  repeat' first
    | with_reducible assumption
    | with_reducible apply State.hostReads_keeps k0
    | with_reducible apply State.count_keeps k1
    | with_reducible apply State.putAddr_keeps k2
    | with_reducible apply State.put_keeps k2
    | with_reducible apply State.raise_keeps k3
    | with_reducible refine forEach_keeps (fun _ _ _ => ?_) ?_
    | dsimp -simprocs only
    | dsimp only

theorem State.frogOne_keeps {κ : Nat} {σ : State} {s : State} {d : Desc} (hκ : Sub 139 κ) (hσ : Keeps κ σ s) :
    Keeps κ σ (State.frogOne s d) := by
  have k0 : Sub 2 κ := Sub.trans (by decide : 2 &&& 139 = 2) hκ
  have k1 : Sub 139 κ := Sub.trans (by decide : 139 &&& 139 = 139) hκ
  unfold State.frogOne
  repeat' first
    | with_reducible assumption
    | with_reducible apply State.count_keeps k0
    | with_reducible apply State.frogFx_keeps k1
    | with_reducible apply ite_keeps

theorem State.frogRound_keeps {κ : Nat} {σ : State} {s : State} {n : Nat} (hκ : Sub 139 κ) (hσ : Keeps κ σ s) :
    Keeps κ σ (State.frogRound s n) := by
  have k0 : Sub 139 κ := Sub.trans (by decide : 139 &&& 139 = 139) hκ
  have k1 : Sub 128 κ := Sub.trans (by decide : 128 &&& 139 = 128) hκ
  unfold State.frogRound
  repeat' first
    | with_reducible assumption
    | with_reducible apply State.frogOne_keeps k0
    | with_reducible apply State.setDescs_keeps k1
    | with_reducible refine forEach_keeps (fun _ _ _ => ?_) ?_

theorem State.frogHead_keeps {κ : Nat} {σ : State} {s : State} {d : Desc} (hκ : Sub 139 κ) (hσ : Keeps κ σ s) :
    Keeps κ σ (State.frogHead s d) := by
  have k0 : Sub 139 κ := Sub.trans (by decide : 139 &&& 139 = 139) hκ
  have k1 : Sub 128 κ := Sub.trans (by decide : 128 &&& 139 = 128) hκ
  unfold State.frogHead
  repeat' first
    | with_reducible assumption
    | with_reducible apply State.hostErr_keeps k0
    | with_reducible apply State.setDescs_keeps k1
    | with_reducible apply State.frogOne_keeps k0

theorem State.startFetched_keeps {κ : Nat} {σ : State} {s : State} {d : Desc} (hκ : Sub 16777691 κ) (hσ : Keeps κ σ s) :
    Keeps κ σ (State.startFetched s d) := by
  have k0 : Sub 203 κ := Sub.trans (by decide : 203 &&& 16777691 = 203) hκ
  have k1 : Sub 139 κ := Sub.trans (by decide : 139 &&& 16777691 = 139) hκ
  have k2 : Sub 16777691 κ := Sub.trans (by decide : 16777691 &&& 16777691 = 16777691) hκ
  unfold State.startFetched
  repeat' first
    | with_reducible assumption
    | with_reducible apply State.startNow_keeps k0
    | with_reducible apply State.frogHead_keeps k1
    | with_reducible apply State.headRead_keeps k2
    | with_reducible apply ite_keeps
    | dsimp -simprocs only
    | dsimp only
    | split

theorem State.startIfRead_keeps {κ : Nat} {σ : State} {s : State} {n i : Nat} (hκ : Sub 16777691 κ) (hσ : Keeps κ σ s) :
    Keeps κ σ (State.startIfRead s n i) := by
  have k0 : Sub 16777691 κ := Sub.trans (by decide : 16777691 &&& 16777691 = 16777691) hκ
  unfold State.startIfRead
  repeat' first
    | with_reducible assumption
    | with_reducible apply State.startFetched_keeps k0
    | with_reducible apply ite_keeps
    | split

theorem State.startHead_keeps {κ : Nat} {σ : State} {s : State} {n : Nat} (hκ : Sub 16777691 κ) (hσ : Keeps κ σ s) :
    Keeps κ σ (State.startHead s n) := by
  have k0 : Sub 128 κ := Sub.trans (by decide : 128 &&& 16777691 = 128) hκ
  have k1 : Sub 16777691 κ := Sub.trans (by decide : 16777691 &&& 16777691 = 16777691) hκ
  have k2 : Sub 139 κ := Sub.trans (by decide : 139 &&& 16777691 = 139) hκ
  unfold State.startHead
  repeat' first
    | with_reducible assumption
    | with_reducible apply State.updDesc_keeps k0
    | with_reducible apply State.headRead_keeps k1
    | with_reducible apply State.startIfRead_keeps k1
    | with_reducible apply State.hostErr_keeps k2
    | with_reducible apply State.takePlace_keeps k0
    | with_reducible apply State.setDescs_keeps k0
    | with_reducible apply ite_keeps
    | intro _
    | dsimp -simprocs only
    | dsimp only
    | split

theorem State.finish_keeps {κ : Nat} {σ : State} {s : State} {d : Desc} {status result : Nat} (hκ : Sub 128 κ) (hσ : Keeps κ σ s) :
    Keeps κ σ (State.finish s d status result) := by
  have k0 : Sub 128 κ := Sub.trans (by decide : 128 &&& 128 = 128) hκ
  unfold State.finish
  repeat' first
    | with_reducible assumption
    | with_reducible apply State.updDesc_keeps k0
    | intro _

theorem State.fullCheck_keeps {κ : Nat} {σ : State} {s : State} {n : Nat} (hκ : Sub 139 κ) (hσ : Keeps κ σ s) :
    Keeps κ σ (State.fullCheck s n) := by
  have k0 : Sub 1 κ := Sub.trans (by decide : 1 &&& 139 = 1) hκ
  have k1 : Sub 139 κ := Sub.trans (by decide : 139 &&& 139 = 139) hκ
  unfold State.fullCheck
  repeat' first
    | with_reducible assumption
    | with_reducible apply State.put_keeps k0
    | with_reducible apply State.raise_keeps k1
    | with_reducible apply ite_keeps

theorem State.putCpl_keeps {κ : Nat} {σ : State} {s : State} {n tag status stitches result : Nat} (hκ : Sub 16777679 κ) (hσ : Keeps κ σ s) :
    Keeps κ σ (State.putCpl s n tag status stitches result) := by
  have k0 : Sub 16777679 κ := Sub.trans (by decide : 16777679 &&& 16777679 = 16777679) hκ
  have k1 : Sub 1 κ := Sub.trans (by decide : 1 &&& 16777679 = 1) hκ
  have k2 : Sub 139 κ := Sub.trans (by decide : 139 &&& 16777679 = 139) hκ
  unfold State.putCpl
  repeat' first
    | with_reducible assumption
    | with_reducible apply State.fabWrite_keeps k0
    | with_reducible apply State.put_keeps k1
    | with_reducible apply State.fullCheck_keeps k2
    | with_reducible apply ite_keeps
    | with_reducible apply ite_fst_keeps
    | dsimp -simprocs only
    | dsimp only

theorem State.signalRound_keeps {κ : Nat} {σ : State} {s : State} {n : Nat} (hκ : Sub 139 κ) (hσ : Keeps κ σ s) :
    Keeps κ σ (State.signalRound s n) := by
  have k0 : Sub 136 κ := Sub.trans (by decide : 136 &&& 139 = 136) hκ
  have k1 : Sub 139 κ := Sub.trans (by decide : 139 &&& 139 = 139) hκ
  unfold State.signalRound
  repeat' first
    | with_reducible assumption
    | with_reducible apply State.sendMsix_keeps k0
    | with_reducible apply State.sendAia_keeps k1
    | with_reducible apply ite_keeps

theorem State.setModPend_keeps {κ : Nat} {σ : State} {s : State} {n v : Nat} (hκ : Sub 128 κ) (hσ : Keeps κ σ s) :
    Keeps κ σ (State.setModPend s n v) := by
  have k0 : Sub 128 κ := Sub.trans (by decide : 128 &&& 128 = 128) hκ
  unfold State.setModPend
  repeat' first
    | with_reducible assumption
    | with_reducible apply State.setRnd_keeps k0

theorem State.setModFirst_keeps {κ : Nat} {σ : State} {s : State} {n v : Nat} (hκ : Sub 128 κ) (hσ : Keeps κ σ s) :
    Keeps κ σ (State.setModFirst s n v) := by
  have k0 : Sub 128 κ := Sub.trans (by decide : 128 &&& 128 = 128) hκ
  unfold State.setModFirst
  repeat' first
    | with_reducible assumption
    | with_reducible apply State.setRnd_keeps k0

theorem State.modCheck_keeps {κ : Nat} {σ : State} {s : State} {n : Nat} (hκ : Sub 139 κ) (hσ : Keeps κ σ s) :
    Keeps κ σ (State.modCheck s n) := by
  have k0 : Sub 139 κ := Sub.trans (by decide : 139 &&& 139 = 139) hκ
  have k1 : Sub 128 κ := Sub.trans (by decide : 128 &&& 139 = 128) hκ
  unfold State.modCheck
  repeat' first
    | with_reducible assumption
    | with_reducible apply State.signalRound_keeps k0
    | with_reducible apply State.setModPend_keeps k1
    | with_reducible apply ite_keeps
    | split

theorem State.modCount_keeps {κ : Nat} {σ : State} {s : State} {n : Nat} (hκ : Sub 139 κ) (hσ : Keeps κ σ s) :
    Keeps κ σ (State.modCount s n) := by
  have k0 : Sub 128 κ := Sub.trans (by decide : 128 &&& 139 = 128) hκ
  have k1 : Sub 139 κ := Sub.trans (by decide : 139 &&& 139 = 139) hκ
  unfold State.modCount
  repeat' first
    | with_reducible assumption
    | with_reducible apply State.setModFirst_keeps k0
    | with_reducible apply State.setModPend_keeps k0
    | with_reducible apply State.modCheck_keeps k1
    | with_reducible apply ite_keeps
    | dsimp -simprocs only
    | dsimp only

theorem State.runFalls_keeps {κ : Nat} {σ : State} {s : State} {n : Nat} (hκ : Sub 1 κ) (hσ : Keeps κ σ s) :
    Keeps κ σ (State.runFalls s n) := by
  have k0 : Sub 1 κ := Sub.trans (by decide : 1 &&& 1 = 1) hκ
  unfold State.runFalls
  repeat' first
    | with_reducible assumption
    | with_reducible apply State.put_keeps k0
    | with_reducible apply ite_keeps

theorem State.warmAt_keeps {κ : Nat} {σ : State} {s : State} {cause t : Nat} (hκ : Sub 524288 κ) (hσ : Keeps κ σ s) :
    Keeps κ σ (State.warmAt s cause t) := by
  have k0 : Sub 524288 κ := Sub.trans (by decide : 524288 &&& 524288 = 524288) hκ
  unfold State.warmAt
  repeat' first
    | with_reducible assumption
    | with_reducible apply State.setPow_keeps k0
    | with_reducible apply ite_keeps
    | split

theorem State.cycleAt_keeps {κ : Nat} {σ : State} {s : State} {cause orig t : Nat} (hκ : Sub 524288 κ) (hσ : Keeps κ σ s) :
    Keeps κ σ (State.cycleAt s cause orig t) := by
  have k0 : Sub 524288 κ := Sub.trans (by decide : 524288 &&& 524288 = 524288) hκ
  unfold State.cycleAt
  repeat' first
    | with_reducible assumption
    | with_reducible apply State.setPow_keeps k0
    | with_reducible apply ite_keeps
    | split

theorem State.rungOf_keeps {κ : Nat} {σ : State} {s : State} {d : Desc} {status : Nat} (hκ : Sub 524288 κ) (hσ : Keeps κ σ s) :
    Keeps κ σ (State.rungOf s d status) := by
  have k0 : Sub 524288 κ := Sub.trans (by decide : 524288 &&& 524288 = 524288) hκ
  unfold State.rungOf
  repeat' first
    | with_reducible assumption
    | with_reducible apply State.warmAt_keeps k0
    | with_reducible apply State.cycleAt_keeps k0
    | with_reducible apply ite_keeps
    | split

theorem State.frogDesc_keeps {κ : Nat} {σ : State} {s : State} {d : Desc} (hκ : Sub 131 κ) (hσ : Keeps κ σ s) :
    Keeps κ σ (State.frogDesc s d) := by
  have k0 : Sub 2 κ := Sub.trans (by decide : 2 &&& 131 = 2) hκ
  have k1 : Sub 128 κ := Sub.trans (by decide : 128 &&& 131 = 128) hκ
  have k2 : Sub 1 κ := Sub.trans (by decide : 1 &&& 131 = 1) hκ
  unfold State.frogDesc
  repeat' first
    | with_reducible assumption
    | with_reducible apply State.count_keeps k0
    | with_reducible apply State.setDescs_keeps k1
    | with_reducible apply State.runFalls_keeps k2
    | dsimp -simprocs only
    | dsimp only

theorem State.frogCpl_keeps {κ : Nat} {σ : State} {s : State} {d : Desc} (hκ : Sub 139 κ) (hσ : Keeps κ σ s) :
    Keeps κ σ (State.frogCpl s d) := by
  have k0 : Sub 139 κ := Sub.trans (by decide : 139 &&& 139 = 139) hκ
  have k1 : Sub 131 κ := Sub.trans (by decide : 131 &&& 139 = 131) hκ
  unfold State.frogCpl
  repeat' first
    | with_reducible assumption
    | with_reducible apply State.hostErr_keeps k0
    | with_reducible apply State.frogDesc_keeps k1

theorem State.complete_keeps {κ : Nat} {σ : State} {s : State} {n : Nat} (hκ : Sub 17301967 κ) (hσ : Keeps κ σ s) :
    Keeps κ σ (State.complete s n) := by
  have k0 : Sub 139 κ := Sub.trans (by decide : 139 &&& 17301967 = 139) hκ
  have k1 : Sub 16777679 κ := Sub.trans (by decide : 16777679 &&& 17301967 = 16777679) hκ
  have k2 : Sub 128 κ := Sub.trans (by decide : 128 &&& 17301967 = 128) hκ
  have k3 : Sub 524288 κ := Sub.trans (by decide : 524288 &&& 17301967 = 524288) hκ
  have k4 : Sub 1 κ := Sub.trans (by decide : 1 &&& 17301967 = 1) hκ
  unfold State.complete
  repeat' first
    | with_reducible assumption
    | with_reducible apply State.frogCpl_keeps k0
    | with_reducible apply State.fullCheck_keeps k0
    | with_reducible apply State.putCpl_keeps k1
    | with_reducible apply State.setDescs_keeps k2
    | with_reducible apply State.modCount_keeps k0
    | with_reducible apply State.rungOf_keeps k3
    | with_reducible apply State.runFalls_keeps k4
    | with_reducible apply ite_keeps
    | dsimp -simprocs only
    | dsimp only
    | split

theorem State.hold_keeps {κ : Nat} {σ : State} {s : State} {d : Desc} (hκ : Sub 128 κ) (hσ : Keeps κ σ s) :
    Keeps κ σ (State.hold s d) := by
  have k0 : Sub 128 κ := Sub.trans (by decide : 128 &&& 128 = 128) hκ
  unfold State.hold
  repeat' first
    | with_reducible assumption
    | with_reducible apply State.updDesc_keeps k0
    | intro _

theorem State.withOp_keeps {κ : Nat} {σ : State} {s : State} {n f op : Nat} {k : Desc → State} (_ : Sub 0 κ) (h_k : ∀ x0, Keeps κ σ (k x0)) (hσ : Keeps κ σ s) :
    Keeps κ σ (State.withOp s n f op k) := by
  unfold State.withOp
  repeat' first
    | with_reducible assumption
    | with_reducible apply h_k
    | split

theorem State.refuseWrite_keeps {κ : Nat} {σ : State} {s : State} {d : Desc} {status result : Nat} (hκ : Sub 131 κ) (hσ : Keeps κ σ s) :
    Keeps κ σ (State.refuseWrite s d status result) := by
  have k0 : Sub 131 κ := Sub.trans (by decide : 131 &&& 131 = 131) hκ
  have k1 : Sub 128 κ := Sub.trans (by decide : 128 &&& 131 = 128) hκ
  unfold State.refuseWrite
  repeat' first
    | with_reducible assumption
    | with_reducible apply State.frogDesc_keeps k0
    | with_reducible apply State.finish_keeps k1
    | with_reducible apply ite_keeps

theorem State.finishBuf_keeps {κ : Nat} {σ : State} {s : State} {d : Desc} {off : Nat} {b : Bytes} {status result : Nat} (hκ : Sub 16777679 κ) (hσ : Keeps κ σ s) :
    Keeps κ σ (State.finishBuf s d off b status result) := by
  have k0 : Sub 128 κ := Sub.trans (by decide : 128 &&& 16777679 = 128) hκ
  have k1 : Sub 16777679 κ := Sub.trans (by decide : 16777679 &&& 16777679 = 16777679) hκ
  have k2 : Sub 131 κ := Sub.trans (by decide : 131 &&& 16777679 = 131) hκ
  unfold State.finishBuf
  repeat' first
    | with_reducible assumption
    | with_reducible apply State.finish_keeps k0
    | with_reducible apply State.fabWrite_keeps k1
    | with_reducible apply State.refuseWrite_keeps k2
    | with_reducible apply ite_keeps
    | with_reducible apply ite_fst_keeps
    | dsimp -simprocs only
    | dsimp only

theorem State.stitched_keeps {κ : Nat} {σ : State} {s : State} {d : Desc} {prog acc : Nat} (hκ : Sub 16777679 κ) (hσ : Keeps κ σ s) :
    Keeps κ σ (State.stitched s d prog acc) := by
  have k0 : Sub 128 κ := Sub.trans (by decide : 128 &&& 16777679 = 128) hκ
  have k1 : Sub 16777679 κ := Sub.trans (by decide : 16777679 &&& 16777679 = 16777679) hκ
  have k2 : Sub 139 κ := Sub.trans (by decide : 139 &&& 16777679 = 139) hκ
  unfold State.stitched
  repeat' first
    | with_reducible assumption
    | with_reducible apply State.updDesc_keeps k0
    | with_reducible apply State.putCpl_keeps k1
    | with_reducible apply State.modCount_keeps k2
    | with_reducible apply ite_keeps
    | intro _
    | dsimp -simprocs only
    | dsimp only

theorem State.lastStitch_keeps {κ : Nat} {σ : State} {s : State} {d : Desc} {status result : Nat} (hκ : Sub 128 κ) (hσ : Keeps κ σ s) :
    Keeps κ σ (State.lastStitch s d status result) := by
  have k0 : Sub 128 κ := Sub.trans (by decide : 128 &&& 128 = 128) hκ
  unfold State.lastStitch
  repeat' first
    | with_reducible assumption
    | with_reducible apply State.updDesc_keeps k0
    | with_reducible apply State.finish_keeps k0
    | intro _

theorem State.spoilCopy_keeps {κ : Nat} {σ : State} {s : State} {d : Desc} (hκ : Sub 4 κ) (hσ : Keeps κ σ s) :
    Keeps κ σ (State.spoilCopy s d) := by
  have k0 : Sub 4 κ := Sub.trans (by decide : 4 &&& 4 = 4) hκ
  unfold State.spoilCopy
  repeat' first
    | with_reducible assumption
    | with_reducible apply State.writeBytes_keeps k0
    | with_reducible apply ite_keeps

theorem State.booEnd_keeps {κ : Nat} {σ : State} {s : State} {d : Desc} (hκ : Sub 8388609 κ) (hσ : Keeps κ σ s) :
    Keeps κ σ (State.booEnd s d) := by
  have k0 : Sub 8388608 κ := Sub.trans (by decide : 8388608 &&& 8388609 = 8388608) hκ
  have k1 : Sub 1 κ := Sub.trans (by decide : 1 &&& 8388609 = 1) hκ
  unfold State.booEnd
  repeat' first
    | with_reducible assumption
    | with_reducible apply State.setBoo_keeps k0
    | with_reducible apply State.put_keeps k1
    | with_reducible apply ite_keeps
    | dsimp -simprocs only
    | dsimp only

theorem State.stopStitched_keeps {κ : Nat} {σ : State} {s : State} {d : Desc} (hκ : Sub 8388741 κ) (hσ : Keeps κ σ s) :
    Keeps κ σ (State.stopStitched s d) := by
  have k0 : Sub 128 κ := Sub.trans (by decide : 128 &&& 8388741 = 128) hκ
  have k1 : Sub 4 κ := Sub.trans (by decide : 4 &&& 8388741 = 4) hκ
  have k2 : Sub 8388609 κ := Sub.trans (by decide : 8388609 &&& 8388741 = 8388609) hκ
  unfold State.stopStitched
  repeat' first
    | with_reducible assumption
    | with_reducible apply State.updDesc_keeps k0
    | with_reducible apply State.spoilCopy_keeps k1
    | with_reducible apply State.booEnd_keeps k2
    | with_reducible apply ite_keeps
    | intro _

theorem State.descAnswer_keeps {κ : Nat} {σ : State} {s : State} {d : Desc} {status : Nat} {b : Bytes} (hκ : Sub 16777691 κ) (hσ : Keeps κ σ s) :
    Keeps κ σ (State.descAnswer s d status b) := by
  have k0 : Sub 203 κ := Sub.trans (by decide : 203 &&& 16777691 = 203) hκ
  have k1 : Sub 16777691 κ := Sub.trans (by decide : 16777691 &&& 16777691 = 16777691) hκ
  have k2 : Sub 128 κ := Sub.trans (by decide : 128 &&& 16777691 = 128) hκ
  unfold State.descAnswer
  repeat' first
    | with_reducible assumption
    | with_reducible apply State.headDesc_keeps k0
    | with_reducible apply State.headBuf_keeps k0
    | with_reducible apply State.aheadDesc_keeps k1
    | with_reducible apply State.aheadBuf_keeps k2
    | split

theorem State.tagDone_keeps {κ : Nat} {σ : State} {s : State} {t : TagUse} {status : Nat} {b : Bytes} (hκ : Sub 16777691 κ) (hσ : Keeps κ σ s) :
    Keeps κ σ (State.tagDone s t status b) := by
  have k0 : Sub 64 κ := Sub.trans (by decide : 64 &&& 16777691 = 64) hκ
  have k1 : Sub 16777691 κ := Sub.trans (by decide : 16777691 &&& 16777691 = 16777691) hκ
  have k2 : Sub 16777226 κ := Sub.trans (by decide : 16777226 &&& 16777691 = 16777226) hκ
  unfold State.tagDone
  repeat' first
    | with_reducible assumption
    | with_reducible apply State.dropTag_keeps k0
    | with_reducible apply State.descAnswer_keeps k1
    | with_reducible apply State.answer_keeps k2
    | dsimp -simprocs only
    | dsimp only
    | split

theorem State.grantDesc_keeps {κ : Nat} {σ : State} {s : State} {n : Nat} {a : Access} {pid t : Nat} (hκ : Sub 16777691 κ) (hσ : Keeps κ σ s) :
    Keeps κ σ (State.grantDesc s n a pid t) := by
  have k0 : Sub 16777691 κ := Sub.trans (by decide : 16777691 &&& 16777691 = 16777691) hκ
  have k1 : Sub 8 κ := Sub.trans (by decide : 8 &&& 16777691 = 8) hκ
  have k2 : Sub 128 κ := Sub.trans (by decide : 128 &&& 16777691 = 128) hκ
  unfold State.grantDesc
  repeat' first
    | with_reducible assumption
    | with_reducible apply State.issueWith_keeps k0
    | with_reducible apply State.hostReads_keeps k1
    | with_reducible apply State.updDesc_keeps k2
    | with_reducible apply State.descAnswer_keeps k0
    | with_reducible apply ite_keeps
    | with_reducible apply ite_fst_keeps
    | intro _
    | dsimp -simprocs only
    | dsimp only
    | split

theorem State.queueReads_keeps {κ : Nat} {σ : State} {s : State} (hκ : Sub 16777691 κ) (hσ : Keeps κ σ s) :
    Keeps κ σ (State.queueReads s) := by
  have k0 : Sub 459 κ := Sub.trans (by decide : 459 &&& 16777691 = 459) hκ
  have k1 : Sub 16777691 κ := Sub.trans (by decide : 16777691 &&& 16777691 = 16777691) hκ
  unfold State.queueReads
  repeat' first
    | with_reducible assumption
    | with_reducible apply State.queueAnswer_keeps k0
    | with_reducible apply State.tagDone_keeps k1
    | with_reducible apply ite_keeps
    | with_reducible apply ite_fst_keeps
    | with_reducible refine forEach_keeps (fun _ _ _ => ?_) ?_
    | dsimp -simprocs only
    | dsimp only
    | split

end Sys2Proof.Machine
end

