-- ==== Sys2Proof/Laws/KeepsRoundCmds.lean ====
section
/-! SUPPORT. What each operation of Machine/RoundCmds may do to State. -/
namespace Sys2Proof.Machine

theorem State.bellCmd_keeps {κ : Nat} {σ : State} {s : State} {pid n val : Nat} (hκ : Sub 139 κ) (hσ : Keeps κ σ s) :
    Keeps κ σ (State.bellCmd s pid n val) := by
  have k0 : Sub 1 κ := Sub.trans (by decide : 1 &&& 139 = 1) hκ
  have k1 : Sub 139 κ := Sub.trans (by decide : 139 &&& 139 = 139) hκ
  unfold State.bellCmd
  repeat' first
    | with_reducible assumption
    | with_reducible apply State.put_keeps k0
    | with_reducible apply State.raise_keeps k1
    | with_reducible apply ite_keeps

theorem State.bellCpl_keeps {κ : Nat} {σ : State} {s : State} {pid n val : Nat} (hκ : Sub 139 κ) (hσ : Keeps κ σ s) :
    Keeps κ σ (State.bellCpl s pid n val) := by
  have k0 : Sub 1 κ := Sub.trans (by decide : 1 &&& 139 = 1) hκ
  have k1 : Sub 139 κ := Sub.trans (by decide : 139 &&& 139 = 139) hκ
  unfold State.bellCpl
  repeat' first
    | with_reducible assumption
    | with_reducible apply State.put_keeps k0
    | with_reducible apply State.fullCheck_keeps k1
    | with_reducible apply State.raise_keeps k1
    | with_reducible apply ite_keeps
    | dsimp -simprocs only
    | dsimp only

theorem State.resetIdx_keeps {κ : Nat} {σ : State} {s : State} {n : Nat} (hκ : Sub 129 κ) (hσ : Keeps κ σ s) :
    Keeps κ σ (State.resetIdx s n) := by
  have k0 : Sub 1 κ := Sub.trans (by decide : 1 &&& 129 = 1) hκ
  have k1 : Sub 128 κ := Sub.trans (by decide : 128 &&& 129 = 128) hκ
  unfold State.resetIdx
  repeat' first
    | with_reducible assumption
    | with_reducible apply State.put_keeps k0
    | with_reducible apply State.setRnd_keeps k1
    | dsimp -simprocs only
    | dsimp only

theorem State.roundOn_keeps {κ : Nat} {σ : State} {s : State} {n : Nat} (hκ : Sub 139 κ) (hσ : Keeps κ σ s) :
    Keeps κ σ (State.roundOn s n) := by
  have k0 : Sub 139 κ := Sub.trans (by decide : 139 &&& 139 = 139) hκ
  have k1 : Sub 1 κ := Sub.trans (by decide : 1 &&& 139 = 1) hκ
  unfold State.roundOn
  repeat' first
    | with_reducible assumption
    | with_reducible apply State.raise_keeps k0
    | with_reducible apply State.put_keeps k1
    | with_reducible apply ite_keeps

theorem State.offStarted_keeps {κ : Nat} {σ : State} {d : Desc} {s : State} (hκ : Sub 8388741 κ) (hσ : Keeps κ σ s) :
    Keeps κ σ (State.offStarted d s) := by
  have k0 : Sub 128 κ := Sub.trans (by decide : 128 &&& 8388741 = 128) hκ
  have k1 : Sub 8388741 κ := Sub.trans (by decide : 8388741 &&& 8388741 = 8388741) hκ
  unfold State.offStarted
  repeat' first
    | with_reducible assumption
    | with_reducible apply State.updDesc_keeps k0
    | with_reducible apply State.stopStitched_keeps k1
    | with_reducible apply ite_keeps
    | intro _

theorem State.roundOff_keeps {κ : Nat} {σ : State} {s : State} {n : Nat} (hκ : Sub 8388751 κ) (hσ : Keeps κ σ s) :
    Keeps κ σ (State.roundOff s n) := by
  have k0 : Sub 1 κ := Sub.trans (by decide : 1 &&& 8388751 = 1) hκ
  have k1 : Sub 139 κ := Sub.trans (by decide : 139 &&& 8388751 = 139) hκ
  have k2 : Sub 8388741 κ := Sub.trans (by decide : 8388741 &&& 8388751 = 8388741) hκ
  unfold State.roundOff
  repeat' first
    | with_reducible assumption
    | with_reducible apply State.put_keeps k0
    | with_reducible apply State.frogRound_keeps k1
    | with_reducible apply State.offStarted_keeps k2
    | with_reducible apply State.runFalls_keeps k0
    | with_reducible apply ite_keeps
    | with_reducible refine forEach_keeps (fun _ _ _ => ?_) ?_
    | dsimp -simprocs only
    | dsimp only

theorem State.ctlFields_keeps {κ : Nat} {σ : State} {s : State} {n val : Nat} (hκ : Sub 129 κ) (hσ : Keeps κ σ s) :
    Keeps κ σ (State.ctlFields s n val) := by
  have k0 : Sub 1 κ := Sub.trans (by decide : 1 &&& 129 = 1) hκ
  have k1 : Sub 129 κ := Sub.trans (by decide : 129 &&& 129 = 129) hκ
  unfold State.ctlFields
  repeat' first
    | with_reducible assumption
    | with_reducible apply State.put_keeps k0
    | with_reducible apply State.resetIdx_keeps k1
    | with_reducible apply ite_keeps
    | dsimp -simprocs only
    | dsimp only
    | split

theorem State.ctlOn_keeps {κ : Nat} {σ : State} {s : State} {pid n val : Nat} (hκ : Sub 139 κ) (hσ : Keeps κ σ s) :
    Keeps κ σ (State.ctlOn s pid n val) := by
  have k0 : Sub 129 κ := Sub.trans (by decide : 129 &&& 139 = 129) hκ
  have k1 : Sub 139 κ := Sub.trans (by decide : 139 &&& 139 = 139) hκ
  unfold State.ctlOn
  repeat' first
    | with_reducible assumption
    | with_reducible apply State.ctlFields_keeps k0
    | with_reducible apply State.roundOn_keeps k1
    | with_reducible apply ite_keeps

theorem State.ctlOff_keeps {κ : Nat} {σ : State} {s : State} {pid n val : Nat} (hκ : Sub 8388751 κ) (hσ : Keeps κ σ s) :
    Keeps κ σ (State.ctlOff s pid n val) := by
  have k0 : Sub 129 κ := Sub.trans (by decide : 129 &&& 8388751 = 129) hκ
  have k1 : Sub 8388751 κ := Sub.trans (by decide : 8388751 &&& 8388751 = 8388751) hκ
  unfold State.ctlOff
  repeat' first
    | with_reducible assumption
    | with_reducible apply State.ctlFields_keeps k0
    | with_reducible apply State.roundOff_keeps k1
    | with_reducible apply ite_keeps

theorem State.baseWrite_keeps {κ : Nat} {σ : State} {s : State} {pid n which val : Nat} (hκ : Sub 129 κ) (hσ : Keeps κ σ s) :
    Keeps κ σ (State.baseWrite s pid n which val) := by
  have k0 : Sub 1 κ := Sub.trans (by decide : 1 &&& 129 = 1) hκ
  have k1 : Sub 129 κ := Sub.trans (by decide : 129 &&& 129 = 129) hκ
  unfold State.baseWrite
  repeat' first
    | with_reducible assumption
    | with_reducible apply State.put_keeps k0
    | with_reducible apply State.resetIdx_keeps k1
    | with_reducible apply State.regApply_keeps k0
    | with_reducible apply ite_keeps
    | split

theorem execDoorbellCmd_keeps {κ : Nat} {σ : State} {pid n val : Nat} {s : State} (hκ : Sub 139 κ) (hσ : Keeps κ σ s) :
    NextKeeps κ σ (execDoorbellCmd pid n val s) := by
  have k0 : Sub 139 κ := Sub.trans (by decide : 139 &&& 139 = 139) hκ
  unfold execDoorbellCmd
  repeat' first
    | with_reducible assumption
    | with_reducible apply next_keeps
    | with_reducible apply ite_next_keeps
    | with_reducible apply State.bellCmd_keeps k0

theorem execDoorbellCpl_keeps {κ : Nat} {σ : State} {pid n val : Nat} {s : State} (hκ : Sub 139 κ) (hσ : Keeps κ σ s) :
    NextKeeps κ σ (execDoorbellCpl pid n val s) := by
  have k0 : Sub 139 κ := Sub.trans (by decide : 139 &&& 139 = 139) hκ
  unfold execDoorbellCpl
  repeat' first
    | with_reducible assumption
    | with_reducible apply next_keeps
    | with_reducible apply ite_next_keeps
    | with_reducible apply State.bellCpl_keeps k0

theorem execRoundEnable_keeps {κ : Nat} {σ : State} {pid n val : Nat} {s : State} (hκ : Sub 139 κ) (hσ : Keeps κ σ s) :
    NextKeeps κ σ (execRoundEnable pid n val s) := by
  have k0 : Sub 139 κ := Sub.trans (by decide : 139 &&& 139 = 139) hκ
  unfold execRoundEnable
  repeat' first
    | with_reducible assumption
    | with_reducible apply next_keeps
    | with_reducible apply ite_next_keeps
    | with_reducible apply State.ctlOn_keeps k0

theorem execRoundDisable_keeps {κ : Nat} {σ : State} {pid n val : Nat} {s : State} (hκ : Sub 8388751 κ) (hσ : Keeps κ σ s) :
    NextKeeps κ σ (execRoundDisable pid n val s) := by
  have k0 : Sub 8388751 κ := Sub.trans (by decide : 8388751 &&& 8388751 = 8388751) hκ
  unfold execRoundDisable
  repeat' first
    | with_reducible assumption
    | with_reducible apply next_keeps
    | with_reducible apply ite_next_keeps
    | with_reducible apply State.ctlOff_keeps k0

theorem execRoundBaseWrite_keeps {κ : Nat} {σ : State} {pid n which val : Nat} {s : State} (hκ : Sub 129 κ) (hσ : Keeps κ σ s) :
    NextKeeps κ σ (execRoundBaseWrite pid n which val s) := by
  have k0 : Sub 129 κ := Sub.trans (by decide : 129 &&& 129 = 129) hκ
  unfold execRoundBaseWrite
  repeat' first
    | with_reducible assumption
    | with_reducible apply next_keeps
    | with_reducible apply ite_next_keeps
    | with_reducible apply State.baseWrite_keeps k0

theorem execModerationTimer_keeps {κ : Nat} {σ : State} {r : Nat} {s : State} (hκ : Sub 139 κ) (hσ : Keeps κ σ s) :
    NextKeeps κ σ (execModerationTimer r s) := by
  have k0 : Sub 139 κ := Sub.trans (by decide : 139 &&& 139 = 139) hκ
  unfold execModerationTimer
  repeat' first
    | with_reducible assumption
    | with_reducible apply next_keeps
    | with_reducible apply ite_next_keeps
    | with_reducible apply State.modCheck_keeps k0
    | with_reducible apply ite_keeps

theorem State.msixFlush_keeps {κ : Nat} {σ : State} {s : State} {v : Nat} (hκ : Sub 136 κ) (hσ : Keeps κ σ s) :
    Keeps κ σ (State.msixFlush s v) := by
  have k0 : Sub 128 κ := Sub.trans (by decide : 128 &&& 136 = 128) hκ
  have k1 : Sub 8 κ := Sub.trans (by decide : 8 &&& 136 = 8) hκ
  unfold State.msixFlush
  repeat' first
    | with_reducible assumption
    | with_reducible apply State.setRnd_keeps k0
    | with_reducible apply State.msixMessage_keeps k1
    | with_reducible apply ite_keeps

theorem State.unmask_keeps {κ : Nat} {σ : State} {s : State} {v : Nat} (hκ : Sub 136 κ) (hσ : Keeps κ σ s) :
    Keeps κ σ (State.unmask s v) := by
  have k0 : Sub 128 κ := Sub.trans (by decide : 128 &&& 136 = 128) hκ
  have k1 : Sub 136 κ := Sub.trans (by decide : 136 &&& 136 = 136) hκ
  unfold State.unmask
  repeat' first
    | with_reducible assumption
    | with_reducible apply State.setRnd_keeps k0
    | with_reducible apply State.msixFlush_keeps k1
    | dsimp -simprocs only
    | dsimp only

theorem execMsixUnmask_keeps {κ : Nat} {σ : State} {vec : Nat} {s : State} (hκ : Sub 136 κ) (hσ : Keeps κ σ s) :
    NextKeeps κ σ (execMsixUnmask vec s) := by
  have k0 : Sub 136 κ := Sub.trans (by decide : 136 &&& 136 = 136) hκ
  unfold execMsixUnmask
  repeat' first
    | with_reducible assumption
    | with_reducible apply next_keeps
    | with_reducible apply ite_next_keeps
    | with_reducible apply State.unmask_keeps k0
    | with_reducible apply ite_keeps

theorem execBarBadAccess_keeps {κ : Nat} {σ : State} {write : Bool} {bar off : Nat} {s : State} (hκ : Sub 139 κ) (hσ : Keeps κ σ s) :
    NextKeeps κ σ (execBarBadAccess write bar off s) := by
  have k0 : Sub 8 κ := Sub.trans (by decide : 8 &&& 139 = 8) hκ
  have k1 : Sub 139 κ := Sub.trans (by decide : 139 &&& 139 = 139) hκ
  unfold execBarBadAccess
  repeat' first
    | with_reducible assumption
    | with_reducible apply next_keeps
    | with_reducible apply ite_next_keeps
    | with_reducible apply State.emit_keeps k0
    | with_reducible apply State.raise_keeps k1
    | with_reducible apply ite_keeps

end Sys2Proof.Machine
end

