-- ==== Sys2Proof/Laws/KeepsSwcOps.lean ====
section
/-! SUPPORT. What each operation of Machine/SwcOps may do to State. -/
namespace Sys2Proof.Machine

theorem State.setLine_keeps {κ : Nat} {σ : State} {s : State} {p : Nat} {l : Line} (hκ : Sub 1024 κ) (hσ : Keeps κ σ s) :
    Keeps κ σ (State.setLine s p l) := by
  have k0 : Sub 1024 κ := Sub.trans (by decide : 1024 &&& 1024 = 1024) hκ
  unfold State.setLine
  repeat' first
    | with_reducible assumption
    | with_reducible apply State.onPrt_keeps k0
    | intro _

theorem State.setCredit_keeps {κ : Nat} {σ : State} {s : State} {p c : Nat} {v : Int} (hκ : Sub 1024 κ) (hσ : Keeps κ σ s) :
    Keeps κ σ (State.setCredit s p c v) := by
  have k0 : Sub 1024 κ := Sub.trans (by decide : 1024 &&& 1024 = 1024) hκ
  unfold State.setCredit
  repeat' first
    | with_reducible assumption
    | with_reducible apply State.onPrt_keeps k0
    | intro _

theorem State.cbsUpdate_keeps {κ : Nat} {σ : State} {s : State} {p : Nat} (hκ : Sub 1024 κ) (hσ : Keeps κ σ s) :
    Keeps κ σ (State.cbsUpdate s p) := by
  have k0 : Sub 1024 κ := Sub.trans (by decide : 1024 &&& 1024 = 1024) hκ
  unfold State.cbsUpdate
  repeat' first
    | with_reducible assumption
    | with_reducible apply State.setCredit_keeps k0
    | with_reducible apply State.onPrt_keeps k0
    | with_reducible apply ite_keeps
    | with_reducible refine forEach_keeps (fun _ _ _ => ?_) ?_
    | intro _
    | dsimp -simprocs only
    | dsimp only

theorem State.fdbDrop_keeps {κ : Nat} {σ : State} {s : State} {i : Nat} (hκ : Sub 512 κ) (hσ : Keeps κ σ s) :
    Keeps κ σ (State.fdbDrop s i) := by
  have k0 : Sub 512 κ := Sub.trans (by decide : 512 &&& 512 = 512) hκ
  unfold State.fdbDrop
  repeat' first
    | with_reducible assumption
    | with_reducible apply State.onSwc_keeps k0
    | intro _

theorem State.fdbPut_keeps {κ : Nat} {σ : State} {s : State} {e : FdbEnt} (hκ : Sub 512 κ) (hσ : Keeps κ σ s) :
    Keeps κ σ (State.fdbPut s e) := by
  have k0 : Sub 512 κ := Sub.trans (by decide : 512 &&& 512 = 512) hκ
  unfold State.fdbPut
  repeat' first
    | with_reducible assumption
    | with_reducible apply State.fdbDrop_keeps k0
    | with_reducible apply State.onSwc_keeps k0
    | intro _

theorem State.learn_keeps {κ : Nat} {σ : State} {s : State} {p mac fid : Nat} (hκ : Sub 651 κ) (hσ : Keeps κ σ s) :
    Keeps κ σ (State.learn s p mac fid) := by
  have k0 : Sub 512 κ := Sub.trans (by decide : 512 &&& 651 = 512) hκ
  have k1 : Sub 2 κ := Sub.trans (by decide : 2 &&& 651 = 2) hκ
  have k2 : Sub 139 κ := Sub.trans (by decide : 139 &&& 651 = 139) hκ
  unfold State.learn
  repeat' first
    | with_reducible assumption
    | with_reducible apply State.fdbPut_keeps k0
    | with_reducible apply State.count_keeps k1
    | with_reducible apply State.raise_keeps k2
    | with_reducible apply ite_keeps
    | dsimp -simprocs only
    | dsimp only
    | split

theorem State.cbInfo_keeps {κ : Nat} {σ : State} {s : State} {h kind : Nat} (hκ : Sub 1 κ) (hσ : Keeps κ σ s) :
    Keeps κ σ (State.cbInfo s h kind) := by
  have k0 : Sub 1 κ := Sub.trans (by decide : 1 &&& 1 = 1) hκ
  unfold State.cbInfo
  repeat' first
    | with_reducible assumption
    | with_reducible apply State.put_keeps k0

theorem State.cbDup_keeps {κ : Nat} {σ : State} {s : State} (hκ : Sub 2 κ) (hσ : Keeps κ σ s) :
    Keeps κ σ (State.cbDup s) := by
  have k0 : Sub 2 κ := Sub.trans (by decide : 2 &&& 2 = 2) hκ
  unfold State.cbDup
  repeat' first
    | with_reducible assumption
    | with_reducible apply State.count_keeps k0

theorem State.cbLate_keeps {κ : Nat} {σ : State} {s : State} {h : Nat} (hκ : Sub 139 κ) (hσ : Keeps κ σ s) :
    Keeps κ σ (State.cbLate s h) := by
  have k0 : Sub 2 κ := Sub.trans (by decide : 2 &&& 139 = 2) hκ
  have k1 : Sub 139 κ := Sub.trans (by decide : 139 &&& 139 = 139) hκ
  have k2 : Sub 1 κ := Sub.trans (by decide : 1 &&& 139 = 1) hκ
  unfold State.cbLate
  repeat' first
    | with_reducible assumption
    | with_reducible apply State.count_keeps k0
    | with_reducible apply State.raise_keeps k1
    | with_reducible apply State.cbInfo_keeps k2

theorem State.cbRogue_keeps {κ : Nat} {σ : State} {s : State} {h : Nat} (hκ : Sub 139 κ) (hσ : Keeps κ σ s) :
    Keeps κ σ (State.cbRogue s h) := by
  have k0 : Sub 2 κ := Sub.trans (by decide : 2 &&& 139 = 2) hκ
  have k1 : Sub 139 κ := Sub.trans (by decide : 139 &&& 139 = 139) hκ
  have k2 : Sub 1 κ := Sub.trans (by decide : 1 &&& 139 = 1) hκ
  unfold State.cbRogue
  repeat' first
    | with_reducible assumption
    | with_reducible apply State.count_keeps k0
    | with_reducible apply State.raise_keeps k1
    | with_reducible apply State.cbInfo_keeps k2

theorem State.cbEmit_keeps {κ : Nat} {σ : State} {s : State} {h q : Nat} (hκ : Sub 512 κ) (hσ : Keeps κ σ s) :
    Keeps κ σ (State.cbEmit s h q) := by
  have k0 : Sub 512 κ := Sub.trans (by decide : 512 &&& 512 = 512) hκ
  unfold State.cbEmit
  repeat' first
    | with_reducible assumption
    | with_reducible apply State.onSwc_keeps k0
    | intro _
    | dsimp -simprocs only
    | dsimp only
    | split

theorem State.releaseRun_keeps {κ : Nat} {σ : State} {a0 : Nat} {a1 : Nat} {a2 : State} (hκ : Sub 512 κ) (hσ : Keeps κ σ a2) :
    Keeps κ σ (State.releaseRun a0 a1 a2) := by
  have k0 : Sub 512 κ := Sub.trans (by decide : 512 &&& 512 = 512) hκ
  fun_induction State.releaseRun a0 a1 a2
  all_goals repeat' first
    | with_reducible assumption
    | with_reducible apply State.cbEmit_keeps k0
    | with_reducible apply State.setCb_keeps k0
    | with_reducible apply ite_keeps
    | with_reducible apply ite_fst_keeps
    | dsimp -simprocs only
    | dsimp only
    | split
    | with_reducible apply_assumption

theorem State.skipToHeld_keeps {κ : Nat} {σ : State} {s : State} {h : Nat} (hκ : Sub 651 κ) (hσ : Keeps κ σ s) :
    Keeps κ σ (State.skipToHeld s h) := by
  have k0 : Sub 2 κ := Sub.trans (by decide : 2 &&& 651 = 2) hκ
  have k1 : Sub 139 κ := Sub.trans (by decide : 139 &&& 651 = 139) hκ
  have k2 : Sub 1 κ := Sub.trans (by decide : 1 &&& 651 = 1) hκ
  have k3 : Sub 512 κ := Sub.trans (by decide : 512 &&& 651 = 512) hκ
  unfold State.skipToHeld
  repeat' first
    | with_reducible assumption
    | with_reducible apply State.count_keeps k0
    | with_reducible apply State.raise_keeps k1
    | with_reducible apply State.cbInfo_keeps k2
    | with_reducible apply State.setCb_keeps k3
    | with_reducible apply State.releaseRun_keeps k3
    | dsimp -simprocs only
    | dsimp only
    | split

theorem State.cbVector_keeps {κ : Nat} {σ : State} {s : State} {h : Nat} {e : StreamEnt} {q : Nat} (hκ : Sub 651 κ) (hσ : Keeps κ σ s) :
    Keeps κ σ (State.cbVector s h e q).1 := by
  have k0 : Sub 512 κ := Sub.trans (by decide : 512 &&& 651 = 512) hκ
  have k1 : Sub 2 κ := Sub.trans (by decide : 2 &&& 651 = 2) hκ
  have k2 : Sub 139 κ := Sub.trans (by decide : 139 &&& 651 = 139) hκ
  unfold State.cbVector
  repeat' first
    | with_reducible assumption
    | with_reducible apply State.setCb_keeps k0
    | with_reducible apply State.cbDup_keeps k1
    | with_reducible apply State.cbRogue_keeps k2
    | with_reducible apply ite_keeps
    | with_reducible apply ite_fst_keeps
    | dsimp -simprocs only
    | dsimp only

theorem State.cbReseq_keeps {κ : Nat} {σ : State} {s : State} {h : Nat} {e : StreamEnt} {q : Nat} (hκ : Sub 651 κ) (hσ : Keeps κ σ s) :
    Keeps κ σ (State.cbReseq s h e q).1 := by
  have k0 : Sub 512 κ := Sub.trans (by decide : 512 &&& 651 = 512) hκ
  have k1 : Sub 2 κ := Sub.trans (by decide : 2 &&& 651 = 2) hκ
  have k2 : Sub 139 κ := Sub.trans (by decide : 139 &&& 651 = 139) hκ
  have k3 : Sub 128 κ := Sub.trans (by decide : 128 &&& 651 = 128) hκ
  unfold State.cbReseq
  repeat' first
    | with_reducible assumption
    | with_reducible apply State.setCb_keeps k0
    | with_reducible apply State.cbDup_keeps k1
    | with_reducible apply State.cbLate_keeps k2
    | with_reducible apply State.cbRogue_keeps k2
    | with_reducible apply State.hold_keeps k3
    | with_reducible apply ite_keeps
    | with_reducible apply ite_fst_keeps
    | dsimp -simprocs only
    | dsimp only

theorem State.sendPause_keeps {κ : Nat} {σ : State} {s : State} {p c quanta : Nat} (hκ : Sub 1163 κ) (hσ : Keeps κ σ s) :
    Keeps κ σ (State.sendPause s p c quanta) := by
  have k0 : Sub 8 κ := Sub.trans (by decide : 8 &&& 1163 = 8) hκ
  have k1 : Sub 2 κ := Sub.trans (by decide : 2 &&& 1163 = 2) hκ
  have k2 : Sub 1024 κ := Sub.trans (by decide : 1024 &&& 1163 = 1024) hκ
  have k3 : Sub 139 κ := Sub.trans (by decide : 139 &&& 1163 = 139) hκ
  unfold State.sendPause
  repeat' first
    | with_reducible assumption
    | with_reducible apply State.emit_keeps k0
    | with_reducible apply State.count_keeps k1
    | with_reducible apply State.onPrt_keeps k2
    | with_reducible apply State.raise_keeps k3
    | with_reducible apply ite_keeps
    | intro _
    | dsimp -simprocs only
    | dsimp only

theorem State.setXoff_keeps {κ : Nat} {σ : State} {s : State} {p c : Nat} {v : Bool} (hκ : Sub 1 κ) (hσ : Keeps κ σ s) :
    Keeps κ σ (State.setXoff s p c v) := by
  have k0 : Sub 1 κ := Sub.trans (by decide : 1 &&& 1 = 1) hκ
  unfold State.setXoff
  repeat' first
    | with_reducible assumption
    | with_reducible apply State.put_keeps k0
    | with_reducible apply State.set1_keeps k0
    | with_reducible apply State.clr1_keeps k0
    | with_reducible apply ite_keeps

theorem State.pauseClass_keeps {κ : Nat} {σ : State} {p c : Nat} {s : State} (hκ : Sub 1163 κ) (hσ : Keeps κ σ s) :
    Keeps κ σ (State.pauseClass p c s) := by
  have k0 : Sub 1 κ := Sub.trans (by decide : 1 &&& 1163 = 1) hκ
  have k1 : Sub 1163 κ := Sub.trans (by decide : 1163 &&& 1163 = 1163) hκ
  unfold State.pauseClass
  repeat' first
    | with_reducible assumption
    | with_reducible apply State.setXoff_keeps k0
    | with_reducible apply State.sendPause_keeps k1
    | with_reducible apply ite_keeps
    | dsimp -simprocs only
    | dsimp only

theorem State.pauseEval_keeps {κ : Nat} {σ : State} {s : State} {p : Nat} (hκ : Sub 1163 κ) (hσ : Keeps κ σ s) :
    Keeps κ σ (State.pauseEval s p) := by
  have k0 : Sub 1163 κ := Sub.trans (by decide : 1163 &&& 1163 = 1163) hκ
  unfold State.pauseEval
  repeat' first
    | with_reducible assumption
    | with_reducible apply State.pauseClass_keeps k0
    | with_reducible apply ite_keeps
    | with_reducible refine forEach_keeps (fun _ _ _ => ?_) ?_
    | split

theorem State.refuse_keeps {κ : Nat} {σ : State} {s : State} {o : Nat} (hκ : Sub 139 κ) (hσ : Keeps κ σ s) :
    Keeps κ σ (State.refuse s o) := by
  have k0 : Sub 2 κ := Sub.trans (by decide : 2 &&& 139 = 2) hκ
  have k1 : Sub 139 κ := Sub.trans (by decide : 139 &&& 139 = 139) hκ
  unfold State.refuse
  repeat' first
    | with_reducible assumption
    | with_reducible apply State.count_keeps k0
    | with_reducible apply State.raise_keeps k1
    | with_reducible apply ite_keeps

theorem State.healCells_keeps {κ : Nat} {σ : State} {s : State} {f : SwFrame} (hκ : Sub 64 κ) (hσ : Keeps κ σ s) :
    Keeps κ σ (State.healCells s f) := by
  have k0 : Sub 64 κ := Sub.trans (by decide : 64 &&& 64 = 64) hκ
  unfold State.healCells
  repeat' first
    | with_reducible assumption
    | with_reducible apply State.setFab_keeps k0
    | dsimp -simprocs only
    | dsimp only

theorem State.placed_keeps {κ : Nat} {σ : State} {s : State} {f : SwFrame} (hκ : Sub 576 κ) (hσ : Keeps κ σ s) :
    Keeps κ σ (State.placed s f).1 := by
  have k0 : Sub 64 κ := Sub.trans (by decide : 64 &&& 576 = 64) hκ
  have k1 : Sub 512 κ := Sub.trans (by decide : 512 &&& 576 = 512) hκ
  unfold State.placed
  repeat' first
    | with_reducible assumption
    | with_reducible apply State.healCells_keeps k0
    | with_reducible apply State.onSwc_keeps k1
    | with_reducible apply ite_keeps
    | with_reducible apply ite_fst_keeps
    | with_reducible refine foldl_keeps (fun _ _ _ => ?_) ?_
    | with_reducible refine foldl_fst_keeps (fun _ _ _ => ?_) ?_
    | intro _
    | dsimp -simprocs only
    | dsimp only
    | dsimp only [id]

theorem State.readCells_keeps {κ : Nat} {σ : State} {s : State} {f : SwFrame} {k n : Nat} (hκ : Sub 203 κ) (hσ : Keeps κ σ s) :
    Keeps κ σ (State.readCells s f k n).1 := by
  have k0 : Sub 203 κ := Sub.trans (by decide : 203 &&& 203 = 203) hκ
  have k1 : Sub 2 κ := Sub.trans (by decide : 2 &&& 203 = 2) hκ
  have k2 : Sub 139 κ := Sub.trans (by decide : 139 &&& 203 = 139) hκ
  unfold State.readCells
  repeat' first
    | with_reducible assumption
    | with_reducible apply State.eccRead_keeps k0
    | with_reducible apply State.count_keeps k1
    | with_reducible apply State.raise_keeps k2
    | with_reducible apply ite_keeps
    | with_reducible apply ite_fst_keeps
    | with_reducible refine forEach_keeps (fun _ _ _ => ?_) ?_
    | dsimp -simprocs only
    | dsimp only

theorem State.enqueue_keeps {κ : Nat} {σ : State} {s : State} {f : SwFrame} (hκ : Sub 1739 κ) (hσ : Keeps κ σ s) :
    Keeps κ σ (State.enqueue s f) := by
  have k0 : Sub 1024 κ := Sub.trans (by decide : 1024 &&& 1739 = 1024) hκ
  have k1 : Sub 576 κ := Sub.trans (by decide : 576 &&& 1739 = 576) hκ
  have k2 : Sub 512 κ := Sub.trans (by decide : 512 &&& 1739 = 512) hκ
  have k3 : Sub 1163 κ := Sub.trans (by decide : 1163 &&& 1739 = 1163) hκ
  unfold State.enqueue
  repeat' first
    | with_reducible assumption
    | with_reducible apply State.cbsUpdate_keeps k0
    | with_reducible apply State.placed_keeps k1
    | with_reducible apply State.onSwc_keeps k2
    | with_reducible apply State.pauseEval_keeps k3
    | with_reducible refine forEach_keeps (fun _ _ _ => ?_) ?_
    | intro _
    | dsimp -simprocs only
    | dsimp only

theorem State.mirrorTo_keeps {κ : Nat} {σ : State} {s : State} {p : Nat} {b : Bytes} {dest : Nat} (hκ : Sub 1739 κ) (hσ : Keeps κ σ s) :
    Keeps κ σ (State.mirrorTo s p b dest) := by
  have k0 : Sub 2 κ := Sub.trans (by decide : 2 &&& 1739 = 2) hκ
  have k1 : Sub 1739 κ := Sub.trans (by decide : 1739 &&& 1739 = 1739) hκ
  have k2 : Sub 139 κ := Sub.trans (by decide : 139 &&& 1739 = 139) hκ
  unfold State.mirrorTo
  repeat' first
    | with_reducible assumption
    | with_reducible apply State.count_keeps k0
    | with_reducible apply State.enqueue_keeps k1
    | with_reducible apply State.raise_keeps k2
    | with_reducible apply ite_keeps
    | dsimp -simprocs only
    | dsimp only

theorem State.mirrors_keeps {κ : Nat} {σ : State} {s : State} {p : Nat} {h : Option Nat} {egress : Bool} {b : Bytes} {done : Nat} (hκ : Sub 1739 κ) (hσ : Keeps κ σ s) :
    Keeps κ σ (State.mirrors s p h egress b done).1 := by
  have k0 : Sub 1739 κ := Sub.trans (by decide : 1739 &&& 1739 = 1739) hκ
  unfold State.mirrors
  repeat' first
    | with_reducible assumption
    | with_reducible apply State.mirrorTo_keeps k0
    | with_reducible apply ite_keeps
    | with_reducible apply ite_fst_keeps
    | with_reducible refine foldl_keeps (fun _ _ _ => ?_) ?_
    | with_reducible refine foldl_fst_keeps (fun _ _ _ => ?_) ?_

theorem State.storeFrame_keeps {κ : Nat} {σ : State} {s : State} {f : SwFrame} {raw : Bytes} {ports : List Nat} (hκ : Sub 1739 κ) (hσ : Keeps κ σ s) :
    Keeps κ σ (State.storeFrame s f raw ports).1 := by
  have k0 : Sub 2 κ := Sub.trans (by decide : 2 &&& 1739 = 2) hκ
  have k1 : Sub 139 κ := Sub.trans (by decide : 139 &&& 1739 = 139) hκ
  have k2 : Sub 1739 κ := Sub.trans (by decide : 1739 &&& 1739 = 1739) hκ
  have k3 : Sub 512 κ := Sub.trans (by decide : 512 &&& 1739 = 512) hκ
  unfold State.storeFrame
  repeat' first
    | with_reducible assumption
    | with_reducible apply State.count_keeps k0
    | with_reducible apply State.refuse_keeps k1
    | with_reducible apply State.enqueue_keeps k2
    | with_reducible apply State.mirrors_keeps k2
    | with_reducible apply State.onSwc_keeps k3
    | with_reducible apply ite_keeps
    | with_reducible apply ite_fst_keeps
    | with_reducible refine forEach_keeps (fun _ _ _ => ?_) ?_
    | intro _
    | dsimp -simprocs only
    | dsimp only
    | dsimp only [id]

theorem State.trap_keeps {κ : Nat} {σ : State} {s : State} {e : Entry} {h : Option Nat} {dst : Nat} (hκ : Sub 1739 κ) (hσ : Keeps κ σ s) :
    Keeps κ σ (State.trap s e h dst).1 := by
  have k0 : Sub 1739 κ := Sub.trans (by decide : 1739 &&& 1739 = 1739) hκ
  have k1 : Sub 2 κ := Sub.trans (by decide : 2 &&& 1739 = 2) hκ
  unfold State.trap
  repeat' first
    | with_reducible assumption
    | with_reducible apply State.storeFrame_keeps k0
    | with_reducible apply State.count_keeps k1
    | with_reducible apply ite_keeps
    | with_reducible apply ite_fst_keeps
    | dsimp -simprocs only
    | dsimp only

theorem State.cbApply_keeps {κ : Nat} {σ : State} {s : State} {h : Option Nat} {b : Bytes} (hκ : Sub 651 κ) (hσ : Keeps κ σ s) :
    Keeps κ σ (State.cbApply s h b).1 := by
  have k0 : Sub 512 κ := Sub.trans (by decide : 512 &&& 651 = 512) hκ
  have k1 : Sub 651 κ := Sub.trans (by decide : 651 &&& 651 = 651) hκ
  unfold State.cbApply
  repeat' first
    | with_reducible assumption
    | with_reducible apply State.setCb_keeps k0
    | with_reducible apply State.cbVector_keeps k1
    | with_reducible apply State.cbReseq_keeps k1
    | with_reducible apply ite_keeps
    | with_reducible apply ite_fst_keeps
    | dsimp -simprocs only
    | dsimp only
    | split

theorem State.storeCb_keeps {κ : Nat} {σ : State} {s : State} {f : SwFrame} {raw : Bytes} {h : Option Nat} {v : CbVerdict} {q : Nat} {ports : List Nat} (hκ : Sub 1739 κ) (hσ : Keeps κ σ s) :
    Keeps κ σ (State.storeCb s f raw h v q ports).1 := by
  have k0 : Sub 128 κ := Sub.trans (by decide : 128 &&& 1739 = 128) hκ
  have k1 : Sub 1739 κ := Sub.trans (by decide : 1739 &&& 1739 = 1739) hκ
  have k2 : Sub 651 κ := Sub.trans (by decide : 651 &&& 1739 = 651) hκ
  have k3 : Sub 512 κ := Sub.trans (by decide : 512 &&& 1739 = 512) hκ
  unfold State.storeCb
  repeat' first
    | with_reducible assumption
    | with_reducible apply State.hold_keeps k0
    | with_reducible apply State.storeFrame_keeps k1
    | with_reducible apply State.skipToHeld_keeps k2
    | with_reducible apply State.releaseRun_keeps k3
    | with_reducible apply ite_keeps
    | with_reducible apply ite_fst_keeps
    | dsimp -simprocs only
    | dsimp only
    | split

theorem State.cutThrough_keeps {κ : Nat} {σ : State} {s : State} {f : SwFrame} {o : Nat} {raw : Bytes} (hκ : Sub 1739 κ) (hσ : Keeps κ σ s) :
    Keeps κ σ (State.cutThrough s f o raw) := by
  have k0 : Sub 1024 κ := Sub.trans (by decide : 1024 &&& 1739 = 1024) hκ
  have k1 : Sub 576 κ := Sub.trans (by decide : 576 &&& 1739 = 576) hκ
  have k2 : Sub 1739 κ := Sub.trans (by decide : 1739 &&& 1739 = 1739) hκ
  unfold State.cutThrough
  repeat' first
    | with_reducible assumption
    | with_reducible apply State.cbsUpdate_keeps k0
    | with_reducible apply State.placed_keeps k1
    | with_reducible apply State.setLine_keeps k0
    | with_reducible apply State.mirrors_keeps k2
    | dsimp -simprocs only
    | dsimp only

theorem State.forwardFrame_keeps {κ : Nat} {σ : State} {s : State} {e : Entry} {r : Route} (hκ : Sub 1739 κ) (hσ : Keeps κ σ s) :
    Keeps κ σ (State.forwardFrame s e r).1 := by
  have k0 : Sub 651 κ := Sub.trans (by decide : 651 &&& 1739 = 651) hκ
  have k1 : Sub 1739 κ := Sub.trans (by decide : 1739 &&& 1739 = 1739) hκ
  have k2 : Sub 512 κ := Sub.trans (by decide : 512 &&& 1739 = 512) hκ
  have k3 : Sub 139 κ := Sub.trans (by decide : 139 &&& 1739 = 139) hκ
  unfold State.forwardFrame
  repeat' first
    | with_reducible assumption
    | with_reducible apply State.cbApply_keeps k0
    | with_reducible apply State.cutThrough_keeps k1
    | with_reducible apply State.releaseRun_keeps k2
    | with_reducible apply State.refuse_keeps k3
    | with_reducible apply State.storeCb_keeps k1
    | with_reducible apply ite_keeps
    | with_reducible apply ite_fst_keeps
    | dsimp -simprocs only
    | dsimp only
    | split

theorem State.swIngress_keeps {κ : Nat} {σ : State} {s : State} {e : Entry} (hκ : Sub 1739 κ) (hσ : Keeps κ σ s) :
    Keeps κ σ (State.swIngress s e).1 := by
  have k0 : Sub 651 κ := Sub.trans (by decide : 651 &&& 1739 = 651) hκ
  have k1 : Sub 1739 κ := Sub.trans (by decide : 1739 &&& 1739 = 1739) hκ
  have k2 : Sub 2 κ := Sub.trans (by decide : 2 &&& 1739 = 2) hκ
  have k3 : Sub 139 κ := Sub.trans (by decide : 139 &&& 1739 = 139) hκ
  unfold State.swIngress
  repeat' first
    | with_reducible assumption
    | with_reducible apply State.learn_keeps k0
    | with_reducible apply State.trap_keeps k1
    | with_reducible apply State.count_keeps k2
    | with_reducible apply State.raise_keeps k3
    | with_reducible apply State.forwardFrame_keeps k1
    | with_reducible apply ite_keeps
    | with_reducible apply ite_fst_keeps
    | dsimp -simprocs only
    | dsimp only
    | split

theorem State.noBuf_keeps {κ : Nat} {σ : State} {s : State} (hκ : Sub 139 κ) (hσ : Keeps κ σ s) :
    Keeps κ σ (State.noBuf s) := by
  have k0 : Sub 2 κ := Sub.trans (by decide : 2 &&& 139 = 2) hκ
  have k1 : Sub 139 κ := Sub.trans (by decide : 139 &&& 139 = 139) hκ
  unfold State.noBuf
  repeat' first
    | with_reducible assumption
    | with_reducible apply State.count_keeps k0
    | with_reducible apply State.raise_keeps k1

theorem State.deliver_keeps {κ : Nat} {σ : State} {s : State} {p : Nat} {f : SwFrame} (hκ : Sub 16777679 κ) (hσ : Keeps κ σ s) :
    Keeps κ σ (State.deliver s p f) := by
  have k0 : Sub 139 κ := Sub.trans (by decide : 139 &&& 16777679 = 139) hκ
  have k1 : Sub 16777679 κ := Sub.trans (by decide : 16777679 &&& 16777679 = 16777679) hκ
  unfold State.deliver
  repeat' first
    | with_reducible assumption
    | with_reducible apply State.noBuf_keeps k0
    | with_reducible apply State.finishBuf_keeps k1
    | with_reducible apply ite_keeps
    | dsimp -simprocs only
    | dsimp only
    | split

theorem State.dropPort_keeps {κ : Nat} {σ : State} {s : State} {p : Nat} {which : SwFrame → Bool} (hκ : Sub 1675 κ) (hσ : Keeps κ σ s) :
    Keeps κ σ (State.dropPort s p which) := by
  have k0 : Sub 1024 κ := Sub.trans (by decide : 1024 &&& 1675 = 1024) hκ
  have k1 : Sub 512 κ := Sub.trans (by decide : 512 &&& 1675 = 512) hκ
  have k2 : Sub 1163 κ := Sub.trans (by decide : 1163 &&& 1675 = 1163) hκ
  unfold State.dropPort
  repeat' first
    | with_reducible assumption
    | with_reducible apply State.cbsUpdate_keeps k0
    | with_reducible apply State.onSwc_keeps k1
    | with_reducible apply State.pauseEval_keeps k2
    | with_reducible apply ite_keeps
    | with_reducible apply ite_fst_keeps
    | with_reducible refine forEach_keeps (fun _ _ _ => ?_) ?_
    | intro _
    | dsimp -simprocs only
    | dsimp only

theorem State.endSend_keeps {κ : Nat} {σ : State} {s : State} {sd : Option (Nat × Nat)} {status result : Nat} (hκ : Sub 128 κ) (hσ : Keeps κ σ s) :
    Keeps κ σ (State.endSend s sd status result) := by
  have k0 : Sub 128 κ := Sub.trans (by decide : 128 &&& 128 = 128) hκ
  unfold State.endSend
  repeat' first
    | with_reducible assumption
    | with_reducible apply State.finish_keeps k0
    | split

theorem State.holdExpire_keeps {κ : Nat} {σ : State} {s : State} {p : Nat} (hκ : Sub 1675 κ) (hσ : Keeps κ σ s) :
    Keeps κ σ (State.holdExpire s p) := by
  have k0 : Sub 2 κ := Sub.trans (by decide : 2 &&& 1675 = 2) hκ
  have k1 : Sub 128 κ := Sub.trans (by decide : 128 &&& 1675 = 128) hκ
  have k2 : Sub 1675 κ := Sub.trans (by decide : 1675 &&& 1675 = 1675) hκ
  have k3 : Sub 512 κ := Sub.trans (by decide : 512 &&& 1675 = 512) hκ
  have k4 : Sub 1 κ := Sub.trans (by decide : 1 &&& 1675 = 1) hκ
  have k5 : Sub 139 κ := Sub.trans (by decide : 139 &&& 1675 = 139) hκ
  unfold State.holdExpire
  repeat' first
    | with_reducible assumption
    | with_reducible apply State.count_keeps k0
    | with_reducible apply State.endSend_keeps k1
    | with_reducible apply State.dropPort_keeps k2
    | with_reducible apply State.onSwc_keeps k3
    | with_reducible apply State.put_keeps k4
    | with_reducible apply State.raise_keeps k5
    | with_reducible refine forEach_keeps (fun _ _ _ => ?_) ?_
    | intro _
    | dsimp -simprocs only
    | dsimp only
    | dsimp only [id]
    | split

theorem State.swLinkDown_keeps {κ : Nat} {σ : State} {s : State} {p : Nat} (hκ : Sub 1675 κ) (hσ : Keeps κ σ s) :
    Keeps κ σ (State.swLinkDown s p) := by
  have k0 : Sub 1 κ := Sub.trans (by decide : 1 &&& 1675 = 1) hκ
  have k1 : Sub 139 κ := Sub.trans (by decide : 139 &&& 1675 = 139) hκ
  have k2 : Sub 512 κ := Sub.trans (by decide : 512 &&& 1675 = 512) hκ
  have k3 : Sub 1675 κ := Sub.trans (by decide : 1675 &&& 1675 = 1675) hκ
  unfold State.swLinkDown
  repeat' first
    | with_reducible assumption
    | with_reducible apply State.put_keeps k0
    | with_reducible apply State.raise_keeps k1
    | with_reducible apply State.onSwc_keeps k2
    | with_reducible apply State.holdExpire_keeps k3
    | with_reducible apply ite_keeps
    | intro _
    | dsimp -simprocs only
    | dsimp only
    | split

theorem State.swLinkUp_keeps {κ : Nat} {σ : State} {s : State} {p : Nat} (hκ : Sub 1 κ) (hσ : Keeps κ σ s) :
    Keeps κ σ (State.swLinkUp s p) := by
  have k0 : Sub 1 κ := Sub.trans (by decide : 1 &&& 1 = 1) hκ
  unfold State.swLinkUp
  repeat' first
    | with_reducible assumption
    | with_reducible apply State.put_keeps k0
    | with_reducible apply ite_keeps

end Sys2Proof.Machine
end

