-- ==== Sys2Proof/Laws/KeepsSwitch.lean ====
section
/-! SUPPORT. What each operation of Machine/Switch may do to State. -/
namespace Sys2Proof.Machine

theorem State.reach_keeps {κ : Nat} {σ : State} {s : State} {j : Nat} {f : SwFrame} (hκ : Sub 16779215 κ) (hσ : Keeps κ σ s) :
    Keeps κ σ (State.reach s j f) := by
  have k0 : Sub 203 κ := Sub.trans (by decide : 203 &&& 16779215 = 203) hκ
  have k1 : Sub 16777226 κ := Sub.trans (by decide : 16777226 &&& 16779215 = 16777226) hκ
  have k2 : Sub 1739 κ := Sub.trans (by decide : 1739 &&& 16779215 = 1739) hκ
  have k3 : Sub 512 κ := Sub.trans (by decide : 512 &&& 16779215 = 512) hκ
  have k4 : Sub 16777679 κ := Sub.trans (by decide : 16777679 &&& 16779215 = 16777679) hκ
  unfold State.reach
  repeat' first
    | with_reducible assumption
    | with_reducible apply State.readCells_keeps k0
    | with_reducible apply State.mirror_keeps k1
    | with_reducible apply State.mirrors_keeps k2
    | with_reducible apply State.onSwc_keeps k3
    | with_reducible apply State.deliver_keeps k4
    | with_reducible apply ite_keeps
    | with_reducible apply ite_fst_keeps
    | intro _
    | dsimp -simprocs only
    | dsimp only
    | dsimp only [id]

theorem State.moveCell_keeps {κ : Nat} {σ : State} {r : VReq} {s : State} (hκ : Sub 16779215 κ) (hσ : Keeps κ σ s) :
    Keeps κ σ (State.moveCell r s) := by
  have k0 : Sub 512 κ := Sub.trans (by decide : 512 &&& 16779215 = 512) hκ
  have k1 : Sub 16779215 κ := Sub.trans (by decide : 16779215 &&& 16779215 = 16779215) hκ
  have k2 : Sub 1163 κ := Sub.trans (by decide : 1163 &&& 16779215 = 1163) hκ
  unfold State.moveCell
  repeat' first
    | with_reducible assumption
    | with_reducible apply State.onSwc_keeps k0
    | with_reducible apply State.reach_keeps k1
    | with_reducible apply State.pauseEval_keeps k2
    | with_reducible apply ite_keeps
    | intro _
    | dsimp -simprocs only
    | dsimp only
    | dsimp only [id]
    | split

theorem State.countMatching_keeps {κ : Nat} {σ : State} {s : State} (hκ : Sub 513 κ) (hσ : Keeps κ σ s) :
    Keeps κ σ (State.countMatching s) := by
  have k0 : Sub 512 κ := Sub.trans (by decide : 512 &&& 513 = 512) hκ
  have k1 : Sub 1 κ := Sub.trans (by decide : 1 &&& 513 = 1) hκ
  unfold State.countMatching
  repeat' first
    | with_reducible assumption
    | with_reducible apply State.onSwc_keeps k0
    | with_reducible apply State.put_keeps k1
    | with_reducible apply ite_keeps
    | intro _
    | dsimp -simprocs only
    | dsimp only

theorem State.runMatching_keeps {κ : Nat} {σ : State} {s : State} (hκ : Sub 16779215 κ) (hσ : Keeps κ σ s) :
    Keeps κ σ (State.runMatching s) := by
  have k0 : Sub 1024 κ := Sub.trans (by decide : 1024 &&& 16779215 = 1024) hκ
  have k1 : Sub 512 κ := Sub.trans (by decide : 512 &&& 16779215 = 512) hκ
  have k2 : Sub 16779215 κ := Sub.trans (by decide : 16779215 &&& 16779215 = 16779215) hκ
  have k3 : Sub 513 κ := Sub.trans (by decide : 513 &&& 16779215 = 513) hκ
  unfold State.runMatching
  repeat' first
    | with_reducible assumption
    | with_reducible apply State.cbsUpdate_keeps k0
    | with_reducible apply State.onSwc_keeps k1
    | with_reducible apply State.moveCell_keeps k2
    | with_reducible apply State.countMatching_keeps k3
    | with_reducible refine forEach_keeps (fun _ _ _ => ?_) ?_
    | intro _
    | dsimp -simprocs only
    | dsimp only

theorem execMatching_keeps {κ : Nat} {σ : State} {s : State} (hκ : Sub 16779215 κ) (hσ : Keeps κ σ s) :
    NextKeeps κ σ (execMatching s) := by
  have k0 : Sub 16779215 κ := Sub.trans (by decide : 16779215 &&& 16779215 = 16779215) hκ
  unfold execMatching
  repeat' first
    | with_reducible assumption
    | with_reducible apply next_keeps
    | with_reducible apply ite_next_keeps
    | with_reducible apply State.runMatching_keeps k0
    | with_reducible apply ite_keeps

theorem State.dropResidue_keeps {κ : Nat} {σ : State} {f : SwFrame} {s : State} (hκ : Sub 16778891 κ) (hσ : Keeps κ σ s) :
    Keeps κ σ (State.dropResidue f s) := by
  have k0 : Sub 1024 κ := Sub.trans (by decide : 1024 &&& 16778891 = 1024) hκ
  have k1 : Sub 512 κ := Sub.trans (by decide : 512 &&& 16778891 = 512) hκ
  have k2 : Sub 2 κ := Sub.trans (by decide : 2 &&& 16778891 = 2) hκ
  have k3 : Sub 139 κ := Sub.trans (by decide : 139 &&& 16778891 = 139) hκ
  have k4 : Sub 16777226 κ := Sub.trans (by decide : 16777226 &&& 16778891 = 16777226) hκ
  have k5 : Sub 1163 κ := Sub.trans (by decide : 1163 &&& 16778891 = 1163) hκ
  unfold State.dropResidue
  repeat' first
    | with_reducible assumption
    | with_reducible apply State.cbsUpdate_keeps k0
    | with_reducible apply State.onSwc_keeps k1
    | with_reducible apply State.count_keeps k2
    | with_reducible apply State.raise_keeps k3
    | with_reducible apply State.mirror_keeps k4
    | with_reducible apply State.pauseEval_keeps k5
    | with_reducible apply ite_keeps
    | with_reducible apply ite_fst_keeps
    | with_reducible refine forEach_keeps (fun _ _ _ => ?_) ?_
    | intro _
    | dsimp -simprocs only
    | dsimp only
    | dsimp only [id]

theorem execMcResidueTimeout_keeps {κ : Nat} {σ : State} {s : State} (hκ : Sub 16778891 κ) (hσ : Keeps κ σ s) :
    NextKeeps κ σ (execMcResidueTimeout s) := by
  have k0 : Sub 16778891 κ := Sub.trans (by decide : 16778891 &&& 16778891 = 16778891) hκ
  unfold execMcResidueTimeout
  repeat' first
    | with_reducible assumption
    | with_reducible apply next_keeps
    | with_reducible apply ite_next_keeps
    | with_reducible apply State.dropResidue_keeps k0
    | with_reducible refine forEach_keeps (fun _ _ _ => ?_) ?_

theorem execAgeExpiry_keeps {κ : Nat} {σ : State} {idx : Nat} {s : State} (hκ : Sub 512 κ) (hσ : Keeps κ σ s) :
    NextKeeps κ σ (execAgeExpiry idx s) := by
  have k0 : Sub 512 κ := Sub.trans (by decide : 512 &&& 512 = 512) hκ
  unfold execAgeExpiry
  repeat' first
    | with_reducible assumption
    | with_reducible apply next_keeps
    | with_reducible apply ite_next_keeps
    | with_reducible apply State.fdbDrop_keeps k0
    | with_reducible apply ite_keeps

theorem execCbReseqTimeout_keeps {κ : Nat} {σ : State} {h : Nat} {s : State} (hκ : Sub 651 κ) (hσ : Keeps κ σ s) :
    NextKeeps κ σ (execCbReseqTimeout h s) := by
  have k0 : Sub 651 κ := Sub.trans (by decide : 651 &&& 651 = 651) hκ
  unfold execCbReseqTimeout
  repeat' first
    | with_reducible assumption
    | with_reducible apply next_keeps
    | with_reducible apply ite_next_keeps
    | with_reducible apply State.skipToHeld_keeps k0
    | with_reducible apply ite_keeps
    | split

theorem State.releaseAll_keeps {κ : Nat} {σ : State} {a0 : Nat} {a1 : Nat} {a2 : State} (hκ : Sub 512 κ) (hσ : Keeps κ σ a2) :
    Keeps κ σ (State.releaseAll a0 a1 a2) := by
  have k0 : Sub 512 κ := Sub.trans (by decide : 512 &&& 512 = 512) hκ
  fun_induction State.releaseAll a0 a1 a2
  all_goals repeat' first
    | with_reducible assumption
    | with_reducible apply State.cbEmit_keeps k0
    | with_reducible apply State.setCb_keeps k0
    | dsimp -simprocs only
    | dsimp only
    | split
    | with_reducible apply_assumption

theorem State.cbClear_keeps {κ : Nat} {σ : State} {s : State} {h : Nat} (hκ : Sub 512 κ) (hσ : Keeps κ σ s) :
    Keeps κ σ (State.cbClear s h) := by
  have k0 : Sub 512 κ := Sub.trans (by decide : 512 &&& 512 = 512) hκ
  unfold State.cbClear
  repeat' first
    | with_reducible assumption
    | with_reducible apply State.releaseAll_keeps k0
    | with_reducible apply State.setCb_keeps k0
    | dsimp -simprocs only
    | dsimp only

theorem execCbResetTimeout_keeps {κ : Nat} {σ : State} {h : Nat} {s : State} (hκ : Sub 651 κ) (hσ : Keeps κ σ s) :
    NextKeeps κ σ (execCbResetTimeout h s) := by
  have k0 : Sub 512 κ := Sub.trans (by decide : 512 &&& 651 = 512) hκ
  have k1 : Sub 139 κ := Sub.trans (by decide : 139 &&& 651 = 139) hκ
  unfold execCbResetTimeout
  repeat' first
    | with_reducible assumption
    | with_reducible apply next_keeps
    | with_reducible apply ite_next_keeps
    | with_reducible apply State.cbClear_keeps k0
    | with_reducible apply State.raise_keeps k1
    | with_reducible apply ite_keeps
    | split

theorem execHoldExpire_keeps {κ : Nat} {σ : State} {p : Nat} {s : State} (hκ : Sub 1675 κ) (hσ : Keeps κ σ s) :
    NextKeeps κ σ (execHoldExpire p s) := by
  have k0 : Sub 1675 κ := Sub.trans (by decide : 1675 &&& 1675 = 1675) hκ
  unfold execHoldExpire
  repeat' first
    | with_reducible assumption
    | with_reducible apply next_keeps
    | with_reducible apply ite_next_keeps
    | with_reducible apply State.holdExpire_keeps k0
    | with_reducible apply ite_keeps

theorem State.fdbAdd_keeps {κ : Nat} {σ : State} {s : State} {d : Desc} (hκ : Sub 651 κ) (hσ : Keeps κ σ s) :
    Keeps κ σ (State.fdbAdd s d) := by
  have k0 : Sub 139 κ := Sub.trans (by decide : 139 &&& 651 = 139) hκ
  have k1 : Sub 128 κ := Sub.trans (by decide : 128 &&& 651 = 128) hκ
  have k2 : Sub 512 κ := Sub.trans (by decide : 512 &&& 651 = 512) hκ
  unfold State.fdbAdd
  repeat' first
    | with_reducible assumption
    | with_reducible apply State.noBuf_keeps k0
    | with_reducible apply State.finish_keeps k1
    | with_reducible apply State.fdbPut_keeps k2
    | with_reducible apply ite_keeps
    | dsimp -simprocs only
    | dsimp only
    | split

theorem execFdbAdd_keeps {κ : Nat} {σ : State} {r : Nat} {s : State} (hκ : Sub 651 κ) (hσ : Keeps κ σ s) :
    NextKeeps κ σ (execFdbAdd r s) := by
  have k0 : Sub 0 κ := Sub.trans (by decide : 0 &&& 651 = 0) hκ
  have k1 : Sub 651 κ := Sub.trans (by decide : 651 &&& 651 = 651) hκ
  unfold execFdbAdd
  repeat' first
    | with_reducible assumption
    | with_reducible apply next_keeps
    | with_reducible apply ite_next_keeps
    | with_reducible apply State.withOp_keeps k0
    | with_reducible apply State.fdbAdd_keeps k1
    | intro _

theorem State.fdbDel_keeps {κ : Nat} {σ : State} {s : State} {d : Desc} (hκ : Sub 651 κ) (hσ : Keeps κ σ s) :
    Keeps κ σ (State.fdbDel s d) := by
  have k0 : Sub 139 κ := Sub.trans (by decide : 139 &&& 651 = 139) hκ
  have k1 : Sub 128 κ := Sub.trans (by decide : 128 &&& 651 = 128) hκ
  have k2 : Sub 512 κ := Sub.trans (by decide : 512 &&& 651 = 512) hκ
  unfold State.fdbDel
  repeat' first
    | with_reducible assumption
    | with_reducible apply State.noBuf_keeps k0
    | with_reducible apply State.finish_keeps k1
    | with_reducible apply State.fdbDrop_keeps k2
    | with_reducible apply ite_keeps
    | split

theorem execFdbDel_keeps {κ : Nat} {σ : State} {r : Nat} {s : State} (hκ : Sub 651 κ) (hσ : Keeps κ σ s) :
    NextKeeps κ σ (execFdbDel r s) := by
  have k0 : Sub 0 κ := Sub.trans (by decide : 0 &&& 651 = 0) hκ
  have k1 : Sub 651 κ := Sub.trans (by decide : 651 &&& 651 = 651) hκ
  unfold execFdbDel
  repeat' first
    | with_reducible assumption
    | with_reducible apply next_keeps
    | with_reducible apply ite_next_keeps
    | with_reducible apply State.withOp_keeps k0
    | with_reducible apply State.fdbDel_keeps k1
    | intro _

theorem State.fdbLookup_keeps {κ : Nat} {σ : State} {s : State} {d : Desc} (hκ : Sub 139 κ) (hσ : Keeps κ σ s) :
    Keeps κ σ (State.fdbLookup s d) := by
  have k0 : Sub 139 κ := Sub.trans (by decide : 139 &&& 139 = 139) hκ
  have k1 : Sub 128 κ := Sub.trans (by decide : 128 &&& 139 = 128) hκ
  unfold State.fdbLookup
  repeat' first
    | with_reducible assumption
    | with_reducible apply State.noBuf_keeps k0
    | with_reducible apply State.finish_keeps k1
    | with_reducible apply ite_keeps
    | split

theorem execFdbLookup_keeps {κ : Nat} {σ : State} {r : Nat} {s : State} (hκ : Sub 139 κ) (hσ : Keeps κ σ s) :
    NextKeeps κ σ (execFdbLookup r s) := by
  have k0 : Sub 0 κ := Sub.trans (by decide : 0 &&& 139 = 0) hκ
  have k1 : Sub 139 κ := Sub.trans (by decide : 139 &&& 139 = 139) hκ
  unfold execFdbLookup
  repeat' first
    | with_reducible assumption
    | with_reducible apply next_keeps
    | with_reducible apply ite_next_keeps
    | with_reducible apply State.withOp_keeps k0
    | with_reducible apply State.fdbLookup_keeps k1
    | intro _

theorem State.fdbFlush_keeps {κ : Nat} {σ : State} {s : State} {d : Desc} (hκ : Sub 16778191 κ) (hσ : Keeps κ σ s) :
    Keeps κ σ (State.fdbFlush s d) := by
  have k0 : Sub 139 κ := Sub.trans (by decide : 139 &&& 16778191 = 139) hκ
  have k1 : Sub 128 κ := Sub.trans (by decide : 128 &&& 16778191 = 128) hκ
  have k2 : Sub 512 κ := Sub.trans (by decide : 512 &&& 16778191 = 512) hκ
  have k3 : Sub 16777679 κ := Sub.trans (by decide : 16777679 &&& 16778191 = 16777679) hκ
  unfold State.fdbFlush
  repeat' first
    | with_reducible assumption
    | with_reducible apply State.noBuf_keeps k0
    | with_reducible apply State.finish_keeps k1
    | with_reducible apply State.onSwc_keeps k2
    | with_reducible apply State.lastStitch_keeps k1
    | with_reducible apply State.stitched_keeps k3
    | with_reducible apply ite_keeps
    | intro _
    | dsimp -simprocs only
    | dsimp only

theorem execFdbFlush_keeps {κ : Nat} {σ : State} {r : Nat} {s : State} (hκ : Sub 16778191 κ) (hσ : Keeps κ σ s) :
    NextKeeps κ σ (execFdbFlush r s) := by
  have k0 : Sub 0 κ := Sub.trans (by decide : 0 &&& 16778191 = 0) hκ
  have k1 : Sub 16778191 κ := Sub.trans (by decide : 16778191 &&& 16778191 = 16778191) hκ
  unfold execFdbFlush
  repeat' first
    | with_reducible assumption
    | with_reducible apply next_keeps
    | with_reducible apply ite_next_keeps
    | with_reducible apply State.withOp_keeps k0
    | with_reducible apply State.fdbFlush_keeps k1
    | intro _

theorem State.vlanSet_keeps {κ : Nat} {σ : State} {s : State} {d : Desc} (hκ : Sub 651 κ) (hσ : Keeps κ σ s) :
    Keeps κ σ (State.vlanSet s d) := by
  have k0 : Sub 139 κ := Sub.trans (by decide : 139 &&& 651 = 139) hκ
  have k1 : Sub 128 κ := Sub.trans (by decide : 128 &&& 651 = 128) hκ
  have k2 : Sub 512 κ := Sub.trans (by decide : 512 &&& 651 = 512) hκ
  unfold State.vlanSet
  repeat' first
    | with_reducible assumption
    | with_reducible apply State.noBuf_keeps k0
    | with_reducible apply State.finish_keeps k1
    | with_reducible apply State.onSwc_keeps k2
    | with_reducible apply ite_keeps
    | intro _
    | dsimp -simprocs only
    | dsimp only
    | split

theorem execVlanSet_keeps {κ : Nat} {σ : State} {r : Nat} {s : State} (hκ : Sub 651 κ) (hσ : Keeps κ σ s) :
    NextKeeps κ σ (execVlanSet r s) := by
  have k0 : Sub 0 κ := Sub.trans (by decide : 0 &&& 651 = 0) hκ
  have k1 : Sub 651 κ := Sub.trans (by decide : 651 &&& 651 = 651) hκ
  unfold execVlanSet
  repeat' first
    | with_reducible assumption
    | with_reducible apply next_keeps
    | with_reducible apply ite_next_keeps
    | with_reducible apply State.withOp_keeps k0
    | with_reducible apply State.vlanSet_keeps k1
    | intro _

theorem State.putStream_keeps {κ : Nat} {σ : State} {s : State} {h : Nat} {e : Option StreamEnt} (hκ : Sub 512 κ) (hσ : Keeps κ σ s) :
    Keeps κ σ (State.putStream s h e) := by
  have k0 : Sub 512 κ := Sub.trans (by decide : 512 &&& 512 = 512) hκ
  unfold State.putStream
  repeat' first
    | with_reducible assumption
    | with_reducible apply State.cbClear_keeps k0
    | with_reducible apply State.onSwc_keeps k0
    | intro _

theorem State.streamSet_keeps {κ : Nat} {σ : State} {s : State} {d : Desc} (hκ : Sub 651 κ) (hσ : Keeps κ σ s) :
    Keeps κ σ (State.streamSet s d) := by
  have k0 : Sub 139 κ := Sub.trans (by decide : 139 &&& 651 = 139) hκ
  have k1 : Sub 128 κ := Sub.trans (by decide : 128 &&& 651 = 128) hκ
  have k2 : Sub 512 κ := Sub.trans (by decide : 512 &&& 651 = 512) hκ
  unfold State.streamSet
  repeat' first
    | with_reducible assumption
    | with_reducible apply State.noBuf_keeps k0
    | with_reducible apply State.finish_keeps k1
    | with_reducible apply State.putStream_keeps k2
    | with_reducible apply ite_keeps
    | dsimp -simprocs only
    | dsimp only
    | split

theorem execSwcStreamSet_keeps {κ : Nat} {σ : State} {r : Nat} {s : State} (hκ : Sub 651 κ) (hσ : Keeps κ σ s) :
    NextKeeps κ σ (execSwcStreamSet r s) := by
  have k0 : Sub 0 κ := Sub.trans (by decide : 0 &&& 651 = 0) hκ
  have k1 : Sub 651 κ := Sub.trans (by decide : 651 &&& 651 = 651) hκ
  unfold execSwcStreamSet
  repeat' first
    | with_reducible assumption
    | with_reducible apply next_keeps
    | with_reducible apply ite_next_keeps
    | with_reducible apply State.withOp_keeps k0
    | with_reducible apply State.streamSet_keeps k1
    | intro _

theorem State.streamClear_keeps {κ : Nat} {σ : State} {s : State} {d : Desc} (hκ : Sub 651 κ) (hσ : Keeps κ σ s) :
    Keeps κ σ (State.streamClear s d) := by
  have k0 : Sub 139 κ := Sub.trans (by decide : 139 &&& 651 = 139) hκ
  have k1 : Sub 128 κ := Sub.trans (by decide : 128 &&& 651 = 128) hκ
  have k2 : Sub 512 κ := Sub.trans (by decide : 512 &&& 651 = 512) hκ
  unfold State.streamClear
  repeat' first
    | with_reducible assumption
    | with_reducible apply State.noBuf_keeps k0
    | with_reducible apply State.finish_keeps k1
    | with_reducible apply State.putStream_keeps k2
    | with_reducible apply State.setCb_keeps k2
    | with_reducible apply ite_keeps
    | dsimp -simprocs only
    | dsimp only
    | split

theorem execStreamClear_keeps {κ : Nat} {σ : State} {r : Nat} {s : State} (hκ : Sub 651 κ) (hσ : Keeps κ σ s) :
    NextKeeps κ σ (execStreamClear r s) := by
  have k0 : Sub 0 κ := Sub.trans (by decide : 0 &&& 651 = 0) hκ
  have k1 : Sub 651 κ := Sub.trans (by decide : 651 &&& 651 = 651) hκ
  unfold execStreamClear
  repeat' first
    | with_reducible assumption
    | with_reducible apply next_keeps
    | with_reducible apply ite_next_keeps
    | with_reducible apply State.withOp_keeps k0
    | with_reducible apply State.streamClear_keeps k1
    | intro _

theorem State.sendNamed_keeps {κ : Nat} {σ : State} {s : State} {d : Desc} {o c : Nat} (hκ : Sub 1739 κ) (hσ : Keeps κ σ s) :
    Keeps κ σ (State.sendNamed s d o c) := by
  have k0 : Sub 128 κ := Sub.trans (by decide : 128 &&& 1739 = 128) hκ
  have k1 : Sub 1739 κ := Sub.trans (by decide : 1739 &&& 1739 = 1739) hκ
  unfold State.sendNamed
  repeat' first
    | with_reducible assumption
    | with_reducible apply State.finish_keeps k0
    | with_reducible apply State.storeFrame_keeps k1
    | with_reducible apply State.updDesc_keeps k0
    | with_reducible apply ite_keeps
    | with_reducible apply ite_fst_keeps
    | intro _
    | dsimp -simprocs only
    | dsimp only
    | split

theorem State.frameSend_keeps {κ : Nat} {σ : State} {s : State} {d : Desc} (hκ : Sub 1739 κ) (hσ : Keeps κ σ s) :
    Keeps κ σ (State.frameSend s d) := by
  have k0 : Sub 128 κ := Sub.trans (by decide : 128 &&& 1739 = 128) hκ
  have k1 : Sub 1739 κ := Sub.trans (by decide : 1739 &&& 1739 = 1739) hκ
  unfold State.frameSend
  repeat' first
    | with_reducible assumption
    | with_reducible apply State.finish_keeps k0
    | with_reducible apply State.swIngress_keeps k1
    | with_reducible apply State.sendNamed_keeps k1
    | with_reducible apply ite_keeps
    | with_reducible apply ite_fst_keeps
    | dsimp -simprocs only
    | dsimp only
    | split

theorem execFrameSend_keeps {κ : Nat} {σ : State} {r : Nat} {s : State} (hκ : Sub 1739 κ) (hσ : Keeps κ σ s) :
    NextKeeps κ σ (execFrameSend r s) := by
  have k0 : Sub 0 κ := Sub.trans (by decide : 0 &&& 1739 = 0) hκ
  have k1 : Sub 1739 κ := Sub.trans (by decide : 1739 &&& 1739 = 1739) hκ
  unfold execFrameSend
  repeat' first
    | with_reducible assumption
    | with_reducible apply next_keeps
    | with_reducible apply ite_next_keeps
    | with_reducible apply State.withOp_keeps k0
    | with_reducible apply State.frameSend_keeps k1
    | intro _

theorem execFrameRecv_keeps {κ : Nat} {σ : State} {r : Nat} {s : State} (hκ : Sub 128 κ) (hσ : Keeps κ σ s) :
    NextKeeps κ σ (execFrameRecv r s) := by
  have k0 : Sub 0 κ := Sub.trans (by decide : 0 &&& 128 = 0) hκ
  have k1 : Sub 128 κ := Sub.trans (by decide : 128 &&& 128 = 128) hκ
  unfold execFrameRecv
  repeat' first
    | with_reducible assumption
    | with_reducible apply next_keeps
    | with_reducible apply ite_next_keeps
    | with_reducible apply State.withOp_keeps k0
    | with_reducible apply State.hold_keeps k1
    | intro _

end Sys2Proof.Machine
end

