-- ==== Sys2Proof/Laws/KeepsGates.lean ====
section
/-! SUPPORT. What each operation of Machine/Gates may do to State. -/
namespace Sys2Proof.Machine

theorem State.setGate_keeps {κ : Nat} {σ : State} {s : State} {k : Nat} {g : GateCtl} (hκ : Sub 1024 κ) (hσ : Keeps κ σ s) :
    Keeps κ σ (State.setGate s k g) := by
  have k0 : Sub 1024 κ := Sub.trans (by decide : 1024 &&& 1024 = 1024) hκ
  unfold State.setGate
  repeat' first
    | with_reducible assumption
    | with_reducible apply State.onPrt_keeps k0
    | intro _

theorem State.holdLate_keeps {κ : Nat} {σ : State} {s : State} {p c : Nat} (hκ : Sub 1675 κ) (hσ : Keeps κ σ s) :
    Keeps κ σ (State.holdLate s p c) := by
  have k0 : Sub 2 κ := Sub.trans (by decide : 2 &&& 1675 = 2) hκ
  have k1 : Sub 128 κ := Sub.trans (by decide : 128 &&& 1675 = 128) hκ
  have k2 : Sub 1675 κ := Sub.trans (by decide : 1675 &&& 1675 = 1675) hκ
  unfold State.holdLate
  repeat' first
    | with_reducible assumption
    | with_reducible apply State.count_keeps k0
    | with_reducible apply State.endSend_keeps k1
    | with_reducible apply State.dropPort_keeps k2
    | with_reducible apply ite_keeps
    | with_reducible refine forEach_keeps (fun _ _ _ => ?_) ?_
    | intro _
    | dsimp -simprocs only
    | dsimp only
    | dsimp only [id]

theorem State.setStates_keeps {κ : Nat} {σ : State} {s : State} {p v : Nat} (hκ : Sub 1675 κ) (hσ : Keeps κ σ s) :
    Keeps κ σ (State.setStates s p v) := by
  have k0 : Sub 1024 κ := Sub.trans (by decide : 1024 &&& 1675 = 1024) hκ
  have k1 : Sub 1 κ := Sub.trans (by decide : 1 &&& 1675 = 1) hκ
  have k2 : Sub 1675 κ := Sub.trans (by decide : 1675 &&& 1675 = 1675) hκ
  unfold State.setStates
  repeat' first
    | with_reducible assumption
    | with_reducible apply State.cbsUpdate_keeps k0
    | with_reducible apply State.put_keeps k1
    | with_reducible apply State.holdLate_keeps k2
    | with_reducible apply ite_keeps
    | with_reducible refine forEach_keeps (fun _ _ _ => ?_) ?_
    | dsimp -simprocs only
    | dsimp only

theorem State.gateOp_keeps {κ : Nat} {σ : State} {s : State} {p op : Nat} (hκ : Sub 1024 κ) (hσ : Keeps κ σ s) :
    Keeps κ σ (State.gateOp s p op) := by
  have k0 : Sub 1024 κ := Sub.trans (by decide : 1024 &&& 1024 = 1024) hκ
  unfold State.gateOp
  repeat' first
    | with_reducible assumption
    | with_reducible apply State.setLine_keeps k0
    | with_reducible apply ite_keeps

theorem State.showGate_keeps {κ : Nat} {σ : State} {s : State} {p : Nat} (hκ : Sub 1675 κ) (hσ : Keeps κ σ s) :
    Keeps κ σ (State.showGate s p) := by
  have k0 : Sub 1 κ := Sub.trans (by decide : 1 &&& 1675 = 1) hκ
  have k1 : Sub 1675 κ := Sub.trans (by decide : 1675 &&& 1675 = 1675) hκ
  have k2 : Sub 1024 κ := Sub.trans (by decide : 1024 &&& 1675 = 1024) hκ
  unfold State.showGate
  repeat' first
    | with_reducible assumption
    | with_reducible apply State.put_keeps k0
    | with_reducible apply State.setStates_keeps k1
    | with_reducible apply State.gateOp_keeps k2
    | with_reducible apply ite_keeps
    | dsimp -simprocs only
    | dsimp only
    | split

theorem State.gateStep_keeps {κ : Nat} {σ : State} {s : State} {k : Nat} (hκ : Sub 1675 κ) (hσ : Keeps κ σ s) :
    Keeps κ σ (State.gateStep s k) := by
  have k0 : Sub 1024 κ := Sub.trans (by decide : 1024 &&& 1675 = 1024) hκ
  have k1 : Sub 1675 κ := Sub.trans (by decide : 1675 &&& 1675 = 1675) hκ
  unfold State.gateStep
  repeat' first
    | with_reducible assumption
    | with_reducible apply State.setGate_keeps k0
    | with_reducible apply State.showGate_keeps k1
    | with_reducible apply ite_keeps
    | dsimp -simprocs only
    | dsimp only
    | split

theorem State.gateSwitch_keeps {κ : Nat} {σ : State} {s : State} {k : Nat} (hκ : Sub 1675 κ) (hσ : Keeps κ σ s) :
    Keeps κ σ (State.gateSwitch s k) := by
  have k0 : Sub 1024 κ := Sub.trans (by decide : 1024 &&& 1675 = 1024) hκ
  have k1 : Sub 1675 κ := Sub.trans (by decide : 1675 &&& 1675 = 1675) hκ
  have k2 : Sub 139 κ := Sub.trans (by decide : 139 &&& 1675 = 139) hκ
  unfold State.gateSwitch
  repeat' first
    | with_reducible assumption
    | with_reducible apply State.setGate_keeps k0
    | with_reducible apply State.showGate_keeps k1
    | with_reducible apply State.raise_keeps k2
    | with_reducible apply ite_keeps
    | with_reducible apply ite_fst_keeps
    | dsimp -simprocs only
    | dsimp only
    | split

theorem State.gateSeek_keeps {κ : Nat} {σ : State} {s : State} {k : Nat} (hκ : Sub 1675 κ) (hσ : Keeps κ σ s) :
    Keeps κ σ (State.gateSeek s k) := by
  have k0 : Sub 1024 κ := Sub.trans (by decide : 1024 &&& 1675 = 1024) hκ
  have k1 : Sub 1675 κ := Sub.trans (by decide : 1675 &&& 1675 = 1675) hκ
  unfold State.gateSeek
  repeat' first
    | with_reducible assumption
    | with_reducible apply State.setGate_keeps k0
    | with_reducible apply State.showGate_keeps k1
    | with_reducible apply ite_keeps
    | with_reducible apply ite_fst_keeps
    | dsimp -simprocs only
    | dsimp only
    | split

theorem State.gateStepped_keeps {κ : Nat} {σ : State} {d : Int} {k : Nat} {s : State} (hκ : Sub 1675 κ) (hσ : Keeps κ σ s) :
    Keeps κ σ (State.gateStepped d k s) := by
  have k0 : Sub 1675 κ := Sub.trans (by decide : 1675 &&& 1675 = 1675) hκ
  have k1 : Sub 139 κ := Sub.trans (by decide : 139 &&& 1675 = 139) hκ
  unfold State.gateStepped
  repeat' first
    | with_reducible assumption
    | with_reducible apply State.gateSwitch_keeps k0
    | with_reducible apply State.gateSeek_keeps k0
    | with_reducible apply State.raise_keeps k1
    | with_reducible apply ite_keeps
    | dsimp -simprocs only
    | dsimp only

theorem State.gatesStepped_keeps {κ : Nat} {σ : State} {s : State} {d : Int} (hκ : Sub 1675 κ) (hσ : Keeps κ σ s) :
    Keeps κ σ (State.gatesStepped s d) := by
  have k0 : Sub 1675 κ := Sub.trans (by decide : 1675 &&& 1675 = 1675) hκ
  unfold State.gatesStepped
  repeat' first
    | with_reducible assumption
    | with_reducible apply State.gateStepped_keeps k0
    | with_reducible refine forEach_keeps (fun _ _ _ => ?_) ?_

theorem State.gateLoad_keeps {κ : Nat} {σ : State} {s : State} {k : Nat} {d : Desc} (hκ : Sub 1675 κ) (hσ : Keeps κ σ s) :
    Keeps κ σ (State.gateLoad s k d) := by
  have k0 : Sub 1024 κ := Sub.trans (by decide : 1024 &&& 1675 = 1024) hκ
  have k1 : Sub 1675 κ := Sub.trans (by decide : 1675 &&& 1675 = 1675) hκ
  have k2 : Sub 128 κ := Sub.trans (by decide : 128 &&& 1675 = 128) hκ
  unfold State.gateLoad
  repeat' first
    | with_reducible assumption
    | with_reducible apply State.setGate_keeps k0
    | with_reducible apply State.showGate_keeps k1
    | with_reducible apply State.finish_keeps k2
    | dsimp -simprocs only
    | dsimp only
    | split

end Sys2Proof.Machine
end

