-- ==== Sys2Proof/Laws/KeepsTime.lean ====
section
/-! SUPPORT. What each operation of Machine/Time may do to State. -/
namespace Sys2Proof.Machine

theorem State.onTim_keeps {κ : Nat} {σ : State} {s : State} {f : Tim → Tim} (hκ : Sub 2048 κ) (hσ : Keeps κ σ s) :
    Keeps κ σ (State.onTim s f) := by
  have k0 : Sub 2048 κ := Sub.trans (by decide : 2048 &&& 2048 = 2048) hκ
  unfold State.onTim
  repeat' first
    | with_reducible assumption
    | with_reducible apply State.setTim_keeps k0

theorem State.putNow_keeps {κ : Nat} {σ : State} {s : State} {v : Nat} (hκ : Sub 1 κ) (hσ : Keeps κ σ s) :
    Keeps κ σ (State.putNow s v) := by
  have k0 : Sub 1 κ := Sub.trans (by decide : 1 &&& 1 = 1) hκ
  unfold State.putNow
  repeat' first
    | with_reducible assumption
    | with_reducible apply State.put_keeps k0

theorem State.pinFire_keeps {κ : Nat} {σ : State} {n k : Nat} {s : State} (hκ : Sub 2048 κ) (hσ : Keeps κ σ s) :
    Keeps κ σ (State.pinFire n k s) := by
  have k0 : Sub 2048 κ := Sub.trans (by decide : 2048 &&& 2048 = 2048) hκ
  unfold State.pinFire
  repeat' first
    | with_reducible assumption
    | with_reducible apply State.onTim_keeps k0
    | with_reducible apply ite_keeps
    | intro _
    | split

theorem State.raiseTrigger_keeps {κ : Nat} {σ : State} {s : State} {n : Nat} (hκ : Sub 139 κ) (hσ : Keeps κ σ s) :
    Keeps κ σ (State.raiseTrigger s n) := by
  have k0 : Sub 1 κ := Sub.trans (by decide : 1 &&& 139 = 1) hκ
  have k1 : Sub 139 κ := Sub.trans (by decide : 139 &&& 139 = 139) hκ
  unfold State.raiseTrigger
  repeat' first
    | with_reducible assumption
    | with_reducible apply State.set1_keeps k0
    | with_reducible apply State.sendVec_keeps k1
    | with_reducible apply ite_keeps
    | dsimp -simprocs only
    | dsimp only

theorem State.mediaMove_keeps {κ : Nat} {σ : State} {s : State} {d : Int} (hκ : Sub 2187 κ) (hσ : Keeps κ σ s) :
    Keeps κ σ (State.mediaMove s d) := by
  have k0 : Sub 2048 κ := Sub.trans (by decide : 2048 &&& 2187 = 2048) hκ
  have k1 : Sub 1 κ := Sub.trans (by decide : 1 &&& 2187 = 1) hκ
  have k2 : Sub 139 κ := Sub.trans (by decide : 139 &&& 2187 = 139) hκ
  unfold State.mediaMove
  repeat' first
    | with_reducible assumption
    | with_reducible apply State.onTim_keeps k0
    | with_reducible apply State.put_keeps k1
    | with_reducible apply State.raise_keeps k2
    | with_reducible apply ite_keeps
    | intro _
    | dsimp -simprocs only
    | dsimp only
    | split

theorem State.mediaTie_keeps {κ : Nat} {σ : State} {s : State} {k : Nat} (hκ : Sub 2048 κ) (hσ : Keeps κ σ s) :
    Keeps κ σ (State.mediaTie s k) := by
  have k0 : Sub 2048 κ := Sub.trans (by decide : 2048 &&& 2048 = 2048) hκ
  unfold State.mediaTie
  repeat' first
    | with_reducible assumption
    | with_reducible apply State.onTim_keeps k0
    | with_reducible apply ite_keeps
    | intro _
    | dsimp -simprocs only
    | dsimp only
    | split

theorem State.mark_keeps {κ : Nat} {σ : State} {s : State} (hκ : Sub 2048 κ) (hσ : Keeps κ σ s) :
    Keeps κ σ (State.mark s) := by
  have k0 : Sub 2048 κ := Sub.trans (by decide : 2048 &&& 2048 = 2048) hκ
  unfold State.mark
  repeat' first
    | with_reducible assumption
    | with_reducible apply State.onTim_keeps k0
    | intro _

theorem State.writeInc_keeps {κ : Nat} {σ : State} {s : State} {v : Nat} (hκ : Sub 2049 κ) (hσ : Keeps κ σ s) :
    Keeps κ σ (State.writeInc s v) := by
  have k0 : Sub 1 κ := Sub.trans (by decide : 1 &&& 2049 = 1) hκ
  have k1 : Sub 2048 κ := Sub.trans (by decide : 2048 &&& 2049 = 2048) hκ
  unfold State.writeInc
  repeat' first
    | with_reducible assumption
    | with_reducible apply State.wr_keeps k0
    | with_reducible apply State.onTim_keeps k1
    | with_reducible apply ite_keeps
    | intro _

theorem execTimIncWrite_keeps {κ : Nat} {σ : State} {_pid val : Nat} {s : State} (hκ : Sub 2049 κ) (hσ : Keeps κ σ s) :
    NextKeeps κ σ (execTimIncWrite _pid val s) := by
  have k0 : Sub 2049 κ := Sub.trans (by decide : 2049 &&& 2049 = 2049) hκ
  unfold execTimIncWrite
  repeat' first
    | with_reducible assumption
    | with_reducible apply next_keeps
    | with_reducible apply ite_next_keeps
    | with_reducible apply State.writeInc_keeps k0

theorem State.writeStep_keeps {κ : Nat} {σ : State} {s : State} {v : Nat} (hκ : Sub 2187 κ) (hσ : Keeps κ σ s) :
    Keeps κ σ (State.writeStep s v) := by
  have k0 : Sub 139 κ := Sub.trans (by decide : 139 &&& 2187 = 139) hκ
  have k1 : Sub 1 κ := Sub.trans (by decide : 1 &&& 2187 = 1) hκ
  have k2 : Sub 2048 κ := Sub.trans (by decide : 2048 &&& 2187 = 2048) hκ
  unfold State.writeStep
  repeat' first
    | with_reducible assumption
    | with_reducible apply State.raise_keeps k0
    | with_reducible apply State.put_keeps k1
    | with_reducible apply State.onTim_keeps k2
    | with_reducible apply ite_keeps
    | intro _

theorem execTimeStepWrite_keeps {κ : Nat} {σ : State} {_pid val : Nat} {s : State} (hκ : Sub 2187 κ) (hσ : Keeps κ σ s) :
    NextKeeps κ σ (execTimeStepWrite _pid val s) := by
  have k0 : Sub 2187 κ := Sub.trans (by decide : 2187 &&& 2187 = 2187) hκ
  unfold execTimeStepWrite
  repeat' first
    | with_reducible assumption
    | with_reducible apply next_keeps
    | with_reducible apply ite_next_keeps
    | with_reducible apply State.writeStep_keeps k0

theorem execXtalLost_keeps {κ : Nat} {σ : State} {s : State} (hκ : Sub 139 κ) (hσ : Keeps κ σ s) :
    NextKeeps κ σ (execXtalLost s) := by
  have k0 : Sub 1 κ := Sub.trans (by decide : 1 &&& 139 = 1) hκ
  have k1 : Sub 139 κ := Sub.trans (by decide : 139 &&& 139 = 139) hκ
  unfold execXtalLost
  repeat' first
    | with_reducible assumption
    | with_reducible apply next_keeps
    | with_reducible apply ite_next_keeps
    | with_reducible apply State.put_keeps k0
    | with_reducible apply State.raise_keeps k1

theorem execXtalRestored_keeps {κ : Nat} {σ : State} {s : State} (hκ : Sub 1 κ) (hσ : Keeps κ σ s) :
    NextKeeps κ σ (execXtalRestored s) := by
  have k0 : Sub 1 κ := Sub.trans (by decide : 1 &&& 1 = 1) hκ
  unfold execXtalRestored
  repeat' first
    | with_reducible assumption
    | with_reducible apply next_keeps
    | with_reducible apply ite_next_keeps
    | with_reducible apply State.put_keeps k0

theorem State.setTxts_keeps {κ : Nat} {σ : State} {s : State} {p : Nat} {l : List Bytes} (hκ : Sub 2049 κ) (hσ : Keeps κ σ s) :
    Keeps κ σ (State.setTxts s p l) := by
  have k0 : Sub 2048 κ := Sub.trans (by decide : 2048 &&& 2049 = 2048) hκ
  have k1 : Sub 1 κ := Sub.trans (by decide : 1 &&& 2049 = 1) hκ
  unfold State.setTxts
  repeat' first
    | with_reducible assumption
    | with_reducible apply State.onTim_keeps k0
    | with_reducible apply State.put_keeps k1
    | intro _

theorem State.endStamp_keeps {κ : Nat} {σ : State} {s : State} {sd : Option (Nat × Nat)} {status more : Nat} (hκ : Sub 128 κ) (hσ : Keeps κ σ s) :
    Keeps κ σ (State.endStamp s sd status more) := by
  have k0 : Sub 128 κ := Sub.trans (by decide : 128 &&& 128 = 128) hκ
  unfold State.endStamp
  repeat' first
    | with_reducible assumption
    | with_reducible apply State.finish_keeps k0
    | split

theorem State.enqueueStamp_keeps {κ : Nat} {σ : State} {s : State} {x : TxStamp} (hκ : Sub 2187 κ) (hσ : Keeps κ σ s) :
    Keeps κ σ (State.enqueueStamp s x) := by
  have k0 : Sub 2 κ := Sub.trans (by decide : 2 &&& 2187 = 2) hκ
  have k1 : Sub 139 κ := Sub.trans (by decide : 139 &&& 2187 = 139) hκ
  have k2 : Sub 128 κ := Sub.trans (by decide : 128 &&& 2187 = 128) hκ
  have k3 : Sub 2049 κ := Sub.trans (by decide : 2049 &&& 2187 = 2049) hκ
  unfold State.enqueueStamp
  repeat' first
    | with_reducible assumption
    | with_reducible apply State.count_keeps k0
    | with_reducible apply State.raise_keeps k1
    | with_reducible apply State.endStamp_keeps k2
    | with_reducible apply State.setTxts_keeps k3
    | with_reducible apply ite_keeps
    | dsimp -simprocs only
    | dsimp only

theorem execTxtsEnqueue_keeps {κ : Nat} {σ : State} {port : Nat} {s : State} (hκ : Sub 2187 κ) (hσ : Keeps κ σ s) :
    NextKeeps κ σ (execTxtsEnqueue port s) := by
  have k0 : Sub 2048 κ := Sub.trans (by decide : 2048 &&& 2187 = 2048) hκ
  have k1 : Sub 2187 κ := Sub.trans (by decide : 2187 &&& 2187 = 2187) hκ
  unfold execTxtsEnqueue
  repeat' first
    | with_reducible assumption
    | with_reducible apply next_keeps
    | with_reducible apply ite_next_keeps
    | with_reducible apply State.onTim_keeps k0
    | with_reducible apply State.enqueueStamp_keeps k1
    | intro _
    | split

theorem State.trgArm_keeps {κ : Nat} {σ : State} {s : State} {d : Desc} (hκ : Sub 2187 κ) (hσ : Keeps κ σ s) :
    Keeps κ σ (State.trgArm s d) := by
  have k0 : Sub 139 κ := Sub.trans (by decide : 139 &&& 2187 = 139) hκ
  have k1 : Sub 128 κ := Sub.trans (by decide : 128 &&& 2187 = 128) hκ
  have k2 : Sub 1 κ := Sub.trans (by decide : 1 &&& 2187 = 1) hκ
  have k3 : Sub 2048 κ := Sub.trans (by decide : 2048 &&& 2187 = 2048) hκ
  have k4 : Sub 2187 κ := Sub.trans (by decide : 2187 &&& 2187 = 2187) hκ
  unfold State.trgArm
  repeat' first
    | with_reducible assumption
    | with_reducible apply State.noBuf_keeps k0
    | with_reducible apply State.finish_keeps k1
    | with_reducible apply State.put_keeps k2
    | with_reducible apply State.onTim_keeps k3
    | with_reducible apply State.mediaMove_keeps k4
    | with_reducible apply ite_keeps
    | intro _
    | dsimp -simprocs only
    | dsimp only
    | split

theorem execTrgArm_keeps {κ : Nat} {σ : State} {r : Nat} {s : State} (hκ : Sub 2187 κ) (hσ : Keeps κ σ s) :
    NextKeeps κ σ (execTrgArm r s) := by
  have k0 : Sub 0 κ := Sub.trans (by decide : 0 &&& 2187 = 0) hκ
  have k1 : Sub 2187 κ := Sub.trans (by decide : 2187 &&& 2187 = 2187) hκ
  unfold execTrgArm
  repeat' first
    | with_reducible assumption
    | with_reducible apply next_keeps
    | with_reducible apply ite_next_keeps
    | with_reducible apply State.withOp_keeps k0
    | with_reducible apply State.trgArm_keeps k1
    | intro _

theorem State.trgDisarm_keeps {κ : Nat} {σ : State} {s : State} {d : Desc} (hκ : Sub 139 κ) (hσ : Keeps κ σ s) :
    Keeps κ σ (State.trgDisarm s d) := by
  have k0 : Sub 139 κ := Sub.trans (by decide : 139 &&& 139 = 139) hκ
  have k1 : Sub 128 κ := Sub.trans (by decide : 128 &&& 139 = 128) hκ
  have k2 : Sub 1 κ := Sub.trans (by decide : 1 &&& 139 = 1) hκ
  unfold State.trgDisarm
  repeat' first
    | with_reducible assumption
    | with_reducible apply State.noBuf_keeps k0
    | with_reducible apply State.finish_keeps k1
    | with_reducible apply State.put_keeps k2
    | with_reducible apply ite_keeps
    | dsimp -simprocs only
    | dsimp only
    | split

theorem execTrgDisarm_keeps {κ : Nat} {σ : State} {r : Nat} {s : State} (hκ : Sub 139 κ) (hσ : Keeps κ σ s) :
    NextKeeps κ σ (execTrgDisarm r s) := by
  have k0 : Sub 0 κ := Sub.trans (by decide : 0 &&& 139 = 0) hκ
  have k1 : Sub 139 κ := Sub.trans (by decide : 139 &&& 139 = 139) hκ
  unfold execTrgDisarm
  repeat' first
    | with_reducible assumption
    | with_reducible apply next_keeps
    | with_reducible apply ite_next_keeps
    | with_reducible apply State.withOp_keeps k0
    | with_reducible apply State.trgDisarm_keeps k1
    | intro _

theorem State.txtsRead_keeps {κ : Nat} {σ : State} {s : State} {d : Desc} (hκ : Sub 16779727 κ) (hσ : Keeps κ σ s) :
    Keeps κ σ (State.txtsRead s d) := by
  have k0 : Sub 128 κ := Sub.trans (by decide : 128 &&& 16779727 = 128) hκ
  have k1 : Sub 2049 κ := Sub.trans (by decide : 2049 &&& 16779727 = 2049) hκ
  have k2 : Sub 16777679 κ := Sub.trans (by decide : 16777679 &&& 16779727 = 16777679) hκ
  unfold State.txtsRead
  repeat' first
    | with_reducible assumption
    | with_reducible apply State.finish_keeps k0
    | with_reducible apply State.setTxts_keeps k1
    | with_reducible apply State.finishBuf_keeps k2
    | with_reducible apply ite_keeps
    | dsimp -simprocs only
    | dsimp only
    | split

theorem execTxtsRead_keeps {κ : Nat} {σ : State} {r : Nat} {s : State} (hκ : Sub 16779727 κ) (hσ : Keeps κ σ s) :
    NextKeeps κ σ (execTxtsRead r s) := by
  have k0 : Sub 0 κ := Sub.trans (by decide : 0 &&& 16779727 = 0) hκ
  have k1 : Sub 16779727 κ := Sub.trans (by decide : 16779727 &&& 16779727 = 16779727) hκ
  unfold execTxtsRead
  repeat' first
    | with_reducible assumption
    | with_reducible apply next_keeps
    | with_reducible apply ite_next_keeps
    | with_reducible apply State.withOp_keeps k0
    | with_reducible apply State.txtsRead_keeps k1
    | intro _

theorem State.writeTrgCtl_keeps {κ : Nat} {σ : State} {s : State} {pid n v : Nat} (hκ : Sub 1 κ) (hσ : Keeps κ σ s) :
    Keeps κ σ (State.writeTrgCtl s pid n v) := by
  have k0 : Sub 1 κ := Sub.trans (by decide : 1 &&& 1 = 1) hκ
  unfold State.writeTrgCtl
  repeat' first
    | with_reducible assumption
    | with_reducible apply State.put_keeps k0
    | with_reducible apply ite_keeps
    | dsimp -simprocs only
    | dsimp only

theorem execSkipClr_keeps {κ : Nat} {σ : State} {pid n val : Nat} {s : State} (hκ : Sub 1 κ) (hσ : Keeps κ σ s) :
    NextKeeps κ σ (execSkipClr pid n val s) := by
  have k0 : Sub 1 κ := Sub.trans (by decide : 1 &&& 1 = 1) hκ
  unfold execSkipClr
  repeat' first
    | with_reducible assumption
    | with_reducible apply next_keeps
    | with_reducible apply ite_next_keeps
    | with_reducible apply State.writeTrgCtl_keeps k0
    | with_reducible apply ite_keeps

theorem execPinPulseEnd_keeps {κ : Nat} {σ : State} {k : Nat} {s : State} (hκ : Sub 2048 κ) (hσ : Keeps κ σ s) :
    NextKeeps κ σ (execPinPulseEnd k s) := by
  have k0 : Sub 2048 κ := Sub.trans (by decide : 2048 &&& 2048 = 2048) hκ
  unfold execPinPulseEnd
  repeat' first
    | with_reducible assumption
    | with_reducible apply next_keeps
    | with_reducible apply ite_next_keeps
    | with_reducible apply State.onTim_keeps k0
    | with_reducible apply ite_keeps
    | intro _

theorem execPpsEdge_keeps {κ : Nat} {σ : State} {rising : Bool} {s : State} (hκ : Sub 2048 κ) (hσ : Keeps κ σ s) :
    NextKeeps κ σ (execPpsEdge rising s) := by
  have k0 : Sub 2048 κ := Sub.trans (by decide : 2048 &&& 2048 = 2048) hκ
  unfold execPpsEdge
  repeat' first
    | with_reducible assumption
    | with_reducible apply next_keeps
    | with_reducible apply ite_next_keeps
    | with_reducible apply State.onTim_keeps k0
    | with_reducible apply ite_keeps
    | intro _

theorem execPpsCapture_keeps {κ : Nat} {σ : State} {s : State} (hκ : Sub 2187 κ) (hσ : Keeps κ σ s) :
    NextKeeps κ σ (execPpsCapture s) := by
  have k0 : Sub 2048 κ := Sub.trans (by decide : 2048 &&& 2187 = 2048) hκ
  have k1 : Sub 1 κ := Sub.trans (by decide : 1 &&& 2187 = 1) hκ
  have k2 : Sub 139 κ := Sub.trans (by decide : 139 &&& 2187 = 139) hκ
  unfold execPpsCapture
  repeat' first
    | with_reducible assumption
    | with_reducible apply next_keeps
    | with_reducible apply ite_next_keeps
    | with_reducible apply State.onTim_keeps k0
    | with_reducible apply State.put_keeps k1
    | with_reducible apply State.raise_keeps k2
    | with_reducible apply ite_keeps
    | intro _
    | dsimp -simprocs only
    | dsimp only
    | split

theorem State.writePin_keeps {κ : Nat} {σ : State} {s : State} {k v : Nat} (hκ : Sub 2049 κ) (hσ : Keeps κ σ s) :
    Keeps κ σ (State.writePin s k v) := by
  have k0 : Sub 1 κ := Sub.trans (by decide : 1 &&& 2049 = 1) hκ
  have k1 : Sub 2048 κ := Sub.trans (by decide : 2048 &&& 2049 = 2048) hκ
  unfold State.writePin
  repeat' first
    | with_reducible assumption
    | with_reducible apply State.regApply_keeps k0
    | with_reducible apply State.onTim_keeps k1
    | with_reducible apply ite_keeps
    | intro _
    | dsimp -simprocs only
    | dsimp only

theorem State.writePps_keeps {κ : Nat} {σ : State} {s : State} {v : Nat} (hκ : Sub 2049 κ) (hσ : Keeps κ σ s) :
    Keeps κ σ (State.writePps s v) := by
  have k0 : Sub 1 κ := Sub.trans (by decide : 1 &&& 2049 = 1) hκ
  have k1 : Sub 2048 κ := Sub.trans (by decide : 2048 &&& 2049 = 2048) hκ
  unfold State.writePps
  repeat' first
    | with_reducible assumption
    | with_reducible apply State.regApply_keeps k0
    | with_reducible apply State.onTim_keeps k1
    | with_reducible apply ite_keeps
    | intro _
    | dsimp -simprocs only
    | dsimp only

theorem execMediaLock_keeps {κ : Nat} {σ : State} {s : State} (hκ : Sub 139 κ) (hσ : Keeps κ σ s) :
    NextKeeps κ σ (execMediaLock s) := by
  have k0 : Sub 1 κ := Sub.trans (by decide : 1 &&& 139 = 1) hκ
  have k1 : Sub 139 κ := Sub.trans (by decide : 139 &&& 139 = 139) hκ
  unfold execMediaLock
  repeat' first
    | with_reducible assumption
    | with_reducible apply next_keeps
    | with_reducible apply ite_next_keeps
    | with_reducible apply State.put_keeps k0
    | with_reducible apply State.raise_keeps k1
    | with_reducible apply ite_keeps

end Sys2Proof.Machine
end

