-- ==== Sys2Proof/Laws/KeepsPortOps.lean ====
section
/-! SUPPORT. What each operation of Machine/PortOps may do to State. -/
namespace Sys2Proof.Machine

theorem State.wakeMeets_keeps {κ : Nat} {σ : State} {s : State} {src : Nat} (hκ : Sub 4096 κ) (hσ : Keeps κ σ s) :
    Keeps κ σ (State.wakeMeets s src) := by
  have k0 : Sub 4096 κ := Sub.trans (by decide : 4096 &&& 4096 = 4096) hκ
  unfold State.wakeMeets
  repeat' first
    | with_reducible assumption
    | with_reducible apply State.setWak_keeps k0
    | with_reducible apply ite_keeps
    | with_reducible apply ite_fst_keeps
    | split

theorem State.setPauseEnd_keeps {κ : Nat} {σ : State} {s : State} {p v : Nat} (hκ : Sub 1024 κ) (hσ : Keeps κ σ s) :
    Keeps κ σ (State.setPauseEnd s p v) := by
  have k0 : Sub 1024 κ := Sub.trans (by decide : 1024 &&& 1024 = 1024) hκ
  unfold State.setPauseEnd
  repeat' first
    | with_reducible assumption
    | with_reducible apply State.onPrt_keeps k0
    | intro _

theorem State.setPfcEnd_keeps {κ : Nat} {σ : State} {s : State} {k v : Nat} (hκ : Sub 1024 κ) (hσ : Keeps κ σ s) :
    Keeps κ σ (State.setPfcEnd s k v) := by
  have k0 : Sub 1024 κ := Sub.trans (by decide : 1024 &&& 1024 = 1024) hκ
  unfold State.setPfcEnd
  repeat' first
    | with_reducible assumption
    | with_reducible apply State.onPrt_keeps k0
    | intro _

theorem State.rxPause_keeps {κ : Nat} {σ : State} {s : State} {p dst t : Nat} (hκ : Sub 1163 κ) (hσ : Keeps κ σ s) :
    Keeps κ σ (State.rxPause s p dst t) := by
  have k0 : Sub 1024 κ := Sub.trans (by decide : 1024 &&& 1163 = 1024) hκ
  have k1 : Sub 1 κ := Sub.trans (by decide : 1 &&& 1163 = 1) hκ
  have k2 : Sub 139 κ := Sub.trans (by decide : 139 &&& 1163 = 139) hκ
  unfold State.rxPause
  repeat' first
    | with_reducible assumption
    | with_reducible apply State.setPauseEnd_keeps k0
    | with_reducible apply State.put_keeps k1
    | with_reducible apply State.raise_keeps k2
    | with_reducible apply ite_keeps
    | dsimp -simprocs only
    | dsimp only
    | split

theorem State.remapPfc_keeps {κ : Nat} {σ : State} {s : State} (hκ : Sub 1 κ) (hσ : Keeps κ σ s) :
    Keeps κ σ (State.remapPfc s) := by
  have k0 : Sub 1 κ := Sub.trans (by decide : 1 &&& 1 = 1) hκ
  unfold State.remapPfc
  repeat' first
    | with_reducible assumption
    | with_reducible apply State.put_keeps k0
    | with_reducible refine forEach_keeps (fun _ _ _ => ?_) ?_

theorem State.rxPfc_keeps {κ : Nat} {σ : State} {s : State} {p vec : Nat} {times : List Nat} (hκ : Sub 1163 κ) (hσ : Keeps κ σ s) :
    Keeps κ σ (State.rxPfc s p vec times) := by
  have k0 : Sub 1024 κ := Sub.trans (by decide : 1024 &&& 1163 = 1024) hκ
  have k1 : Sub 1 κ := Sub.trans (by decide : 1 &&& 1163 = 1) hκ
  have k2 : Sub 139 κ := Sub.trans (by decide : 139 &&& 1163 = 139) hκ
  unfold State.rxPfc
  repeat' first
    | with_reducible assumption
    | with_reducible apply State.setPfcEnd_keeps k0
    | with_reducible apply State.put_keeps k1
    | with_reducible apply State.raise_keeps k2
    | with_reducible apply ite_keeps
    | with_reducible refine forEach_keeps (fun _ _ _ => ?_) ?_
    | dsimp -simprocs only
    | dsimp only
    | split

theorem State.cancelPauses_keeps {κ : Nat} {σ : State} {s : State} {p : Nat} (hκ : Sub 1025 κ) (hσ : Keeps κ σ s) :
    Keeps κ σ (State.cancelPauses s p) := by
  have k0 : Sub 1024 κ := Sub.trans (by decide : 1024 &&& 1025 = 1024) hκ
  have k1 : Sub 1 κ := Sub.trans (by decide : 1 &&& 1025 = 1) hκ
  unfold State.cancelPauses
  repeat' first
    | with_reducible assumption
    | with_reducible apply State.setPfcEnd_keeps k0
    | with_reducible apply State.setPauseEnd_keeps k0
    | with_reducible apply State.put_keeps k1
    | with_reducible refine forEach_keeps (fun _ _ _ => ?_) ?_
    | dsimp -simprocs only
    | dsimp only

theorem State.verifyTry_keeps {κ : Nat} {σ : State} {s : State} {p n : Nat} (hκ : Sub 1033 κ) (hσ : Keeps κ σ s) :
    Keeps κ σ (State.verifyTry s p n) := by
  have k0 : Sub 8 κ := Sub.trans (by decide : 8 &&& 1033 = 8) hκ
  have k1 : Sub 1 κ := Sub.trans (by decide : 1 &&& 1033 = 1) hκ
  have k2 : Sub 1024 κ := Sub.trans (by decide : 1024 &&& 1033 = 1024) hκ
  unfold State.verifyTry
  repeat' first
    | with_reducible assumption
    | with_reducible apply State.emit_keeps k0
    | with_reducible apply State.put_keeps k1
    | with_reducible apply State.onPrt_keeps k2
    | intro _

theorem State.verifyStart_keeps {κ : Nat} {σ : State} {s : State} {p : Nat} (hκ : Sub 1033 κ) (hσ : Keeps κ σ s) :
    Keeps κ σ (State.verifyStart s p) := by
  have k0 : Sub 1033 κ := Sub.trans (by decide : 1033 &&& 1033 = 1033) hκ
  have k1 : Sub 1 κ := Sub.trans (by decide : 1 &&& 1033 = 1) hκ
  unfold State.verifyStart
  repeat' first
    | with_reducible assumption
    | with_reducible apply State.verifyTry_keeps k0
    | with_reducible apply State.put_keeps k1
    | with_reducible apply ite_keeps

theorem State.linkStart_keeps {κ : Nat} {σ : State} {s : State} {p : Nat} (hκ : Sub 1033 κ) (hσ : Keeps κ σ s) :
    Keeps κ σ (State.linkStart s p) := by
  have k0 : Sub 1024 κ := Sub.trans (by decide : 1024 &&& 1033 = 1024) hκ
  have k1 : Sub 1 κ := Sub.trans (by decide : 1 &&& 1033 = 1) hκ
  have k2 : Sub 8 κ := Sub.trans (by decide : 8 &&& 1033 = 8) hκ
  unfold State.linkStart
  repeat' first
    | with_reducible assumption
    | with_reducible apply State.onPrt_keeps k0
    | with_reducible apply State.put_keeps k1
    | with_reducible apply State.emit_keeps k2
    | with_reducible apply ite_keeps
    | intro _
    | dsimp -simprocs only
    | dsimp only

theorem State.linkUp_keeps {κ : Nat} {σ : State} {s : State} {p : Nat} (hκ : Sub 5259 κ) (hσ : Keeps κ σ s) :
    Keeps κ σ (State.linkUp s p) := by
  have k0 : Sub 1 κ := Sub.trans (by decide : 1 &&& 5259 = 1) hκ
  have k1 : Sub 139 κ := Sub.trans (by decide : 139 &&& 5259 = 139) hκ
  have k2 : Sub 4096 κ := Sub.trans (by decide : 4096 &&& 5259 = 4096) hκ
  have k3 : Sub 1033 κ := Sub.trans (by decide : 1033 &&& 5259 = 1033) hκ
  unfold State.linkUp
  repeat' first
    | with_reducible assumption
    | with_reducible apply State.put_keeps k0
    | with_reducible apply State.raise_keeps k1
    | with_reducible apply State.setLane_keeps k1
    | with_reducible apply State.swLinkUp_keeps k0
    | with_reducible apply State.wakeMeets_keeps k2
    | with_reducible apply State.verifyStart_keeps k3
    | with_reducible apply ite_keeps
    | dsimp -simprocs only
    | dsimp only

theorem State.leaveUp_keeps {κ : Nat} {σ : State} {s : State} {p : Nat} (hκ : Sub 1675 κ) (hσ : Keeps κ σ s) :
    Keeps κ σ (State.leaveUp s p) := by
  have k0 : Sub 139 κ := Sub.trans (by decide : 139 &&& 1675 = 139) hκ
  have k1 : Sub 2 κ := Sub.trans (by decide : 2 &&& 1675 = 2) hκ
  have k2 : Sub 1025 κ := Sub.trans (by decide : 1025 &&& 1675 = 1025) hκ
  have k3 : Sub 1 κ := Sub.trans (by decide : 1 &&& 1675 = 1) hκ
  have k4 : Sub 1675 κ := Sub.trans (by decide : 1675 &&& 1675 = 1675) hκ
  unfold State.leaveUp
  repeat' first
    | with_reducible assumption
    | with_reducible apply State.raise_keeps k0
    | with_reducible apply State.count_keeps k1
    | with_reducible apply State.cancelPauses_keeps k2
    | with_reducible apply State.put_keeps k3
    | with_reducible apply State.setLane_keeps k0
    | with_reducible apply State.swLinkDown_keeps k4
    | with_reducible apply ite_keeps
    | dsimp -simprocs only
    | dsimp only

theorem State.loseFrames_keeps {κ : Nat} {σ : State} {s : State} {p : Nat} (hκ : Sub 1152 κ) (hσ : Keeps κ σ s) :
    Keeps κ σ (State.loseFrames s p) := by
  have k0 : Sub 1024 κ := Sub.trans (by decide : 1024 &&& 1152 = 1024) hκ
  have k1 : Sub 128 κ := Sub.trans (by decide : 128 &&& 1152 = 128) hκ
  unfold State.loseFrames
  repeat' first
    | with_reducible assumption
    | with_reducible apply State.cbsUpdate_keeps k0
    | with_reducible apply State.setLine_keeps k0
    | with_reducible apply State.endSend_keeps k1
    | with_reducible apply ite_keeps
    | with_reducible refine forEach_keeps (fun _ _ _ => ?_) ?_
    | dsimp -simprocs only
    | dsimp only

theorem State.spFlush_keeps {κ : Nat} {σ : State} {s : State} (hκ : Sub 640 κ) (hσ : Keeps κ σ s) :
    Keeps κ σ (State.spFlush s) := by
  have k0 : Sub 128 κ := Sub.trans (by decide : 128 &&& 640 = 128) hκ
  have k1 : Sub 512 κ := Sub.trans (by decide : 512 &&& 640 = 512) hκ
  unfold State.spFlush
  repeat' first
    | with_reducible assumption
    | with_reducible apply State.endSend_keeps k0
    | with_reducible apply State.onSwc_keeps k1
    | with_reducible refine forEach_keeps (fun _ _ _ => ?_) ?_
    | intro _
    | dsimp -simprocs only
    | dsimp only

theorem State.dozePorts_keeps {κ : Nat} {σ : State} {s : State} {ports : List Nat} (hκ : Sub 4096 κ) (hσ : Keeps κ σ s) :
    Keeps κ σ (State.dozePorts s ports) := by
  have k0 : Sub 4096 κ := Sub.trans (by decide : 4096 &&& 4096 = 4096) hκ
  unfold State.dozePorts
  repeat' first
    | with_reducible assumption
    | with_reducible apply State.setWak_keeps k0

theorem State.macOn_keeps {κ : Nat} {σ : State} {s : State} {p : Nat} (hκ : Sub 5129 κ) (hσ : Keeps κ σ s) :
    Keeps κ σ (State.macOn s p) := by
  have k0 : Sub 4096 κ := Sub.trans (by decide : 4096 &&& 5129 = 4096) hκ
  have k1 : Sub 1 κ := Sub.trans (by decide : 1 &&& 5129 = 1) hκ
  have k2 : Sub 1033 κ := Sub.trans (by decide : 1033 &&& 5129 = 1033) hκ
  unfold State.macOn
  repeat' first
    | with_reducible assumption
    | with_reducible apply State.dozePorts_keeps k0
    | with_reducible apply State.put_keeps k1
    | with_reducible apply State.linkStart_keeps k2
    | with_reducible apply ite_keeps
    | split

theorem State.macOff_keeps {κ : Nat} {σ : State} {s : State} {p : Nat} (hκ : Sub 5771 κ) (hσ : Keeps κ σ s) :
    Keeps κ σ (State.macOff s p) := by
  have k0 : Sub 4096 κ := Sub.trans (by decide : 4096 &&& 5771 = 4096) hκ
  have k1 : Sub 1 κ := Sub.trans (by decide : 1 &&& 5771 = 1) hκ
  have k2 : Sub 1675 κ := Sub.trans (by decide : 1675 &&& 5771 = 1675) hκ
  have k3 : Sub 1025 κ := Sub.trans (by decide : 1025 &&& 5771 = 1025) hκ
  have k4 : Sub 640 κ := Sub.trans (by decide : 640 &&& 5771 = 640) hκ
  unfold State.macOff
  repeat' first
    | with_reducible assumption
    | with_reducible apply State.dozePorts_keeps k0
    | with_reducible apply State.put_keeps k1
    | with_reducible apply State.leaveUp_keeps k2
    | with_reducible apply State.cancelPauses_keeps k3
    | with_reducible apply State.spFlush_keeps k4
    | with_reducible apply ite_keeps
    | dsimp -simprocs only
    | dsimp only
    | split

theorem State.linkLost_keeps {κ : Nat} {σ : State} {s : State} {p : Nat} (hκ : Sub 1675 κ) (hσ : Keeps κ σ s) :
    Keeps κ σ (State.linkLost s p) := by
  have k0 : Sub 1675 κ := Sub.trans (by decide : 1675 &&& 1675 = 1675) hκ
  have k1 : Sub 1152 κ := Sub.trans (by decide : 1152 &&& 1675 = 1152) hκ
  have k2 : Sub 1033 κ := Sub.trans (by decide : 1033 &&& 1675 = 1033) hκ
  have k3 : Sub 640 κ := Sub.trans (by decide : 640 &&& 1675 = 640) hκ
  unfold State.linkLost
  repeat' first
    | with_reducible assumption
    | with_reducible apply State.leaveUp_keeps k0
    | with_reducible apply State.loseFrames_keeps k1
    | with_reducible apply State.linkStart_keeps k2
    | with_reducible apply State.spFlush_keeps k3
    | with_reducible apply ite_keeps
    | dsimp -simprocs only
    | dsimp only

theorem State.modeFields_keeps {κ : Nat} {σ : State} {s : State} {p v : Nat} (hκ : Sub 1025 κ) (hσ : Keeps κ σ s) :
    Keeps κ σ (State.modeFields s p v) := by
  have k0 : Sub 1 κ := Sub.trans (by decide : 1 &&& 1025 = 1) hκ
  have k1 : Sub 1025 κ := Sub.trans (by decide : 1025 &&& 1025 = 1025) hκ
  unfold State.modeFields
  repeat' first
    | with_reducible assumption
    | with_reducible apply State.put_keeps k0
    | with_reducible apply State.cancelPauses_keeps k1
    | with_reducible apply ite_keeps
    | dsimp -simprocs only
    | dsimp only

theorem State.writeMode_keeps {κ : Nat} {σ : State} {s : State} {p v : Nat} (hκ : Sub 5771 κ) (hσ : Keeps κ σ s) :
    Keeps κ σ (State.writeMode s p v) := by
  have k0 : Sub 1025 κ := Sub.trans (by decide : 1025 &&& 5771 = 1025) hκ
  have k1 : Sub 5129 κ := Sub.trans (by decide : 5129 &&& 5771 = 5129) hκ
  have k2 : Sub 5771 κ := Sub.trans (by decide : 5771 &&& 5771 = 5771) hκ
  unfold State.writeMode
  repeat' first
    | with_reducible assumption
    | with_reducible apply State.modeFields_keeps k0
    | with_reducible apply State.macOn_keeps k1
    | with_reducible apply State.macOff_keeps k2
    | with_reducible apply ite_keeps
    | split

theorem State.stageOwn_keeps {κ : Nat} {σ : State} {s : State} {port c : Nat} {b : Bytes} (hκ : Sub 1600 κ) (hσ : Keeps κ σ s) :
    Keeps κ σ (State.stageOwn s port c b) := by
  have k0 : Sub 1024 κ := Sub.trans (by decide : 1024 &&& 1600 = 1024) hκ
  have k1 : Sub 576 κ := Sub.trans (by decide : 576 &&& 1600 = 576) hκ
  have k2 : Sub 512 κ := Sub.trans (by decide : 512 &&& 1600 = 512) hκ
  unfold State.stageOwn
  repeat' first
    | with_reducible assumption
    | with_reducible apply State.cbsUpdate_keeps k0
    | with_reducible apply State.placed_keeps k1
    | with_reducible apply State.onSwc_keeps k2
    | with_reducible apply ite_keeps
    | with_reducible apply ite_fst_keeps
    | intro _
    | dsimp -simprocs only
    | dsimp only

theorem State.cutCur_keeps {κ : Nat} {σ : State} {s : State} {p : Nat} (hκ : Sub 1024 κ) (hσ : Keeps κ σ s) :
    Keeps κ σ (State.cutCur s p) := by
  have k0 : Sub 1024 κ := Sub.trans (by decide : 1024 &&& 1024 = 1024) hκ
  unfold State.cutCur
  repeat' first
    | with_reducible assumption
    | with_reducible apply State.cbsUpdate_keeps k0
    | with_reducible apply State.setLine_keeps k0
    | split

theorem State.unstage_keeps {κ : Nat} {σ : State} {s : State} {p : Nat} {f : SwFrame} (hκ : Sub 512 κ) (hσ : Keeps κ σ s) :
    Keeps κ σ (State.unstage s p f) := by
  have k0 : Sub 512 κ := Sub.trans (by decide : 512 &&& 512 = 512) hκ
  unfold State.unstage
  repeat' first
    | with_reducible assumption
    | with_reducible apply State.onSwc_keeps k0
    | intro _
    | dsimp only [id]

theorem State.dropHead_keeps {κ : Nat} {σ : State} {s : State} {p : Nat} {f : SwFrame} (hκ : Sub 1664 κ) (hσ : Keeps κ σ s) :
    Keeps κ σ (State.dropHead s p f) := by
  have k0 : Sub 1024 κ := Sub.trans (by decide : 1024 &&& 1664 = 1024) hκ
  have k1 : Sub 512 κ := Sub.trans (by decide : 512 &&& 1664 = 512) hκ
  have k2 : Sub 128 κ := Sub.trans (by decide : 128 &&& 1664 = 128) hκ
  unfold State.dropHead
  repeat' first
    | with_reducible assumption
    | with_reducible apply State.cbsUpdate_keeps k0
    | with_reducible apply State.unstage_keeps k1
    | with_reducible apply State.endSend_keeps k2

theorem State.dropNever_keeps {κ : Nat} {σ : State} {p c : Nat} {s : State} (hκ : Sub 1675 κ) (hσ : Keeps κ σ s) :
    Keeps κ σ (State.dropNever p c s) := by
  have k0 : Sub 1664 κ := Sub.trans (by decide : 1664 &&& 1675 = 1664) hκ
  have k1 : Sub 2 κ := Sub.trans (by decide : 2 &&& 1675 = 2) hκ
  have k2 : Sub 139 κ := Sub.trans (by decide : 139 &&& 1675 = 139) hκ
  unfold State.dropNever
  repeat' first
    | with_reducible assumption
    | with_reducible apply State.dropHead_keeps k0
    | with_reducible apply State.count_keeps k1
    | with_reducible apply State.raise_keeps k2
    | with_reducible apply ite_keeps
    | split

theorem State.startNew_keeps {κ : Nat} {σ : State} {s : State} {p c : Nat} (hκ : Sub 1739 κ) (hσ : Keeps κ σ s) :
    Keeps κ σ (State.startNew s p c) := by
  have k0 : Sub 1024 κ := Sub.trans (by decide : 1024 &&& 1739 = 1024) hκ
  have k1 : Sub 512 κ := Sub.trans (by decide : 512 &&& 1739 = 512) hκ
  have k2 : Sub 203 κ := Sub.trans (by decide : 203 &&& 1739 = 203) hκ
  have k3 : Sub 128 κ := Sub.trans (by decide : 128 &&& 1739 = 128) hκ
  unfold State.startNew
  repeat' first
    | with_reducible assumption
    | with_reducible apply State.cbsUpdate_keeps k0
    | with_reducible apply State.unstage_keeps k1
    | with_reducible apply State.readCells_keeps k2
    | with_reducible apply State.endSend_keeps k3
    | with_reducible apply State.setLine_keeps k0
    | with_reducible apply ite_keeps
    | with_reducible apply ite_fst_keeps
    | dsimp -simprocs only
    | dsimp only
    | split

theorem State.resumeRest_keeps {κ : Nat} {σ : State} {s : State} {p : Nat} (hκ : Sub 1026 κ) (hσ : Keeps κ σ s) :
    Keeps κ σ (State.resumeRest s p) := by
  have k0 : Sub 1024 κ := Sub.trans (by decide : 1024 &&& 1026 = 1024) hκ
  have k1 : Sub 2 κ := Sub.trans (by decide : 2 &&& 1026 = 2) hκ
  unfold State.resumeRest
  repeat' first
    | with_reducible assumption
    | with_reducible apply State.cbsUpdate_keeps k0
    | with_reducible apply State.setLine_keeps k0
    | with_reducible apply State.count_keeps k1
    | split

theorem State.txStart_keeps {κ : Nat} {σ : State} {s : State} {p : Nat} (hκ : Sub 1739 κ) (hσ : Keeps κ σ s) :
    Keeps κ σ (State.txStart s p) := by
  have k0 : Sub 1026 κ := Sub.trans (by decide : 1026 &&& 1739 = 1026) hκ
  have k1 : Sub 1024 κ := Sub.trans (by decide : 1024 &&& 1739 = 1024) hκ
  have k2 : Sub 1675 κ := Sub.trans (by decide : 1675 &&& 1739 = 1675) hκ
  have k3 : Sub 1739 κ := Sub.trans (by decide : 1739 &&& 1739 = 1739) hκ
  unfold State.txStart
  repeat' first
    | with_reducible assumption
    | with_reducible apply State.resumeRest_keeps k0
    | with_reducible apply State.cbsUpdate_keeps k1
    | with_reducible apply State.cutCur_keeps k1
    | with_reducible apply State.dropNever_keeps k2
    | with_reducible apply State.startNew_keeps k3
    | with_reducible apply ite_keeps
    | with_reducible refine forEach_keeps (fun _ _ _ => ?_) ?_
    | dsimp -simprocs only
    | dsimp only
    | split

theorem State.txStamp_keeps {κ : Nat} {σ : State} {s : State} {p : Nat} {t : TxCur} {b : Bytes} (hκ : Sub 2064 κ) (hσ : Keeps κ σ s) :
    Keeps κ σ (State.txStamp s p t b) := by
  have k0 : Sub 2048 κ := Sub.trans (by decide : 2048 &&& 2064 = 2048) hκ
  have k1 : Sub 16 κ := Sub.trans (by decide : 16 &&& 2064 = 16) hκ
  unfold State.txStamp
  repeat' first
    | with_reducible assumption
    | with_reducible apply State.onTim_keeps k0
    | with_reducible apply State.drawn_keeps k1
    | intro _
    | dsimp -simprocs only
    | dsimp only
    | split

theorem State.sentOk_keeps {κ : Nat} {σ : State} {s : State} {p : Nat} {t : TxCur} (hκ : Sub 2202 κ) (hσ : Keeps κ σ s) :
    Keeps κ σ (State.sentOk s p t) := by
  have k0 : Sub 8 κ := Sub.trans (by decide : 8 &&& 2202 = 8) hκ
  have k1 : Sub 2 κ := Sub.trans (by decide : 2 &&& 2202 = 2) hκ
  have k2 : Sub 2064 κ := Sub.trans (by decide : 2064 &&& 2202 = 2064) hκ
  have k3 : Sub 128 κ := Sub.trans (by decide : 128 &&& 2202 = 128) hκ
  unfold State.sentOk
  repeat' first
    | with_reducible assumption
    | with_reducible apply State.emit_keeps k0
    | with_reducible apply State.count_keeps k1
    | with_reducible apply State.txStamp_keeps k2
    | with_reducible apply State.finish_keeps k3
    | dsimp -simprocs only
    | dsimp only
    | split

theorem State.sentStomped_keeps {κ : Nat} {σ : State} {s : State} {p : Nat} {b : Bytes} (hκ : Sub 139 κ) (hσ : Keeps κ σ s) :
    Keeps κ σ (State.sentStomped s p b) := by
  have k0 : Sub 8 κ := Sub.trans (by decide : 8 &&& 139 = 8) hκ
  have k1 : Sub 2 κ := Sub.trans (by decide : 2 &&& 139 = 2) hκ
  have k2 : Sub 139 κ := Sub.trans (by decide : 139 &&& 139 = 139) hκ
  unfold State.sentStomped
  repeat' first
    | with_reducible assumption
    | with_reducible apply State.emit_keeps k0
    | with_reducible apply State.count_keeps k1
    | with_reducible apply State.raise_keeps k2

theorem State.txEnd_keeps {κ : Nat} {σ : State} {s : State} {p : Nat} (hκ : Sub 3291 κ) (hσ : Keeps κ σ s) :
    Keeps κ σ (State.txEnd s p) := by
  have k0 : Sub 1024 κ := Sub.trans (by decide : 1024 &&& 3291 = 1024) hκ
  have k1 : Sub 203 κ := Sub.trans (by decide : 203 &&& 3291 = 203) hκ
  have k2 : Sub 139 κ := Sub.trans (by decide : 139 &&& 3291 = 139) hκ
  have k3 : Sub 128 κ := Sub.trans (by decide : 128 &&& 3291 = 128) hκ
  have k4 : Sub 2202 κ := Sub.trans (by decide : 2202 &&& 3291 = 2202) hκ
  unfold State.txEnd
  repeat' first
    | with_reducible assumption
    | with_reducible apply State.cbsUpdate_keeps k0
    | with_reducible apply State.setLine_keeps k0
    | with_reducible apply State.readCells_keeps k1
    | with_reducible apply State.sentStomped_keeps k2
    | with_reducible apply State.endSend_keeps k3
    | with_reducible apply State.sentOk_keeps k4
    | with_reducible apply ite_keeps
    | with_reducible apply ite_fst_keeps
    | dsimp -simprocs only
    | dsimp only
    | split

end Sys2Proof.Machine
end

