-- ==== Sys2Proof/Laws/KeepsPorts.lean ====
section
/-! SUPPORT. What each operation of Machine/Ports may do to State. -/
namespace Sys2Proof.Machine

theorem execPauseReceive_keeps {κ : Nat} {σ : State} {port dst quanta : Nat} {s : State} (hκ : Sub 1163 κ) (hσ : Keeps κ σ s) :
    NextKeeps κ σ (execPauseReceive port dst quanta s) := by
  have k0 : Sub 2 κ := Sub.trans (by decide : 2 &&& 1163 = 2) hκ
  have k1 : Sub 1163 κ := Sub.trans (by decide : 1163 &&& 1163 = 1163) hκ
  unfold execPauseReceive
  repeat' first
    | with_reducible assumption
    | with_reducible apply next_keeps
    | with_reducible apply ite_next_keeps
    | with_reducible apply State.count_keeps k0
    | with_reducible apply State.rxPause_keeps k1
    | with_reducible apply ite_keeps

theorem execPfcReceive_keeps {κ : Nat} {σ : State} {port vec : Nat} {times : List Nat} {s : State} (hκ : Sub 1163 κ) (hσ : Keeps κ σ s) :
    NextKeeps κ σ (execPfcReceive port vec times s) := by
  have k0 : Sub 2 κ := Sub.trans (by decide : 2 &&& 1163 = 2) hκ
  have k1 : Sub 1163 κ := Sub.trans (by decide : 1163 &&& 1163 = 1163) hκ
  unfold execPfcReceive
  repeat' first
    | with_reducible assumption
    | with_reducible apply next_keeps
    | with_reducible apply ite_next_keeps
    | with_reducible apply State.count_keeps k0
    | with_reducible apply State.rxPfc_keeps k1
    | with_reducible apply ite_keeps

theorem State.pauseOver_keeps {κ : Nat} {σ : State} {s : State} {p k : Nat} (hκ : Sub 1025 κ) (hσ : Keeps κ σ s) :
    Keeps κ σ (State.pauseOver s p k) := by
  have k0 : Sub 1024 κ := Sub.trans (by decide : 1024 &&& 1025 = 1024) hκ
  have k1 : Sub 1 κ := Sub.trans (by decide : 1 &&& 1025 = 1) hκ
  unfold State.pauseOver
  repeat' first
    | with_reducible assumption
    | with_reducible apply State.setPauseEnd_keeps k0
    | with_reducible apply State.put_keeps k1
    | with_reducible apply State.setPfcEnd_keeps k0
    | with_reducible apply ite_keeps
    | dsimp -simprocs only
    | dsimp only

theorem execPauseExpiry_keeps {κ : Nat} {σ : State} {port cls : Nat} {s : State} (hκ : Sub 1025 κ) (hσ : Keeps κ σ s) :
    NextKeeps κ σ (execPauseExpiry port cls s) := by
  have k0 : Sub 1025 κ := Sub.trans (by decide : 1025 &&& 1025 = 1025) hκ
  unfold execPauseExpiry
  repeat' first
    | with_reducible assumption
    | with_reducible apply next_keeps
    | with_reducible apply ite_next_keeps
    | with_reducible apply State.pauseOver_keeps k0

theorem State.refreshClass_keeps {κ : Nat} {σ : State} {p c : Nat} {s : State} (hκ : Sub 1163 κ) (hσ : Keeps κ σ s) :
    Keeps κ σ (State.refreshClass p c s) := by
  have k0 : Sub 1163 κ := Sub.trans (by decide : 1163 &&& 1163 = 1163) hκ
  unfold State.refreshClass
  repeat' first
    | with_reducible assumption
    | with_reducible apply State.sendPause_keeps k0
    | with_reducible apply ite_keeps
    | dsimp -simprocs only
    | dsimp only

theorem execPauseRefresh_keeps {κ : Nat} {σ : State} {port : Nat} {s : State} (hκ : Sub 1163 κ) (hσ : Keeps κ σ s) :
    NextKeeps κ σ (execPauseRefresh port s) := by
  have k0 : Sub 1163 κ := Sub.trans (by decide : 1163 &&& 1163 = 1163) hκ
  unfold execPauseRefresh
  repeat' first
    | with_reducible assumption
    | with_reducible apply next_keeps
    | with_reducible apply ite_next_keeps
    | with_reducible apply State.refreshClass_keeps k0
    | with_reducible apply ite_keeps
    | with_reducible refine forEach_keeps (fun _ _ _ => ?_) ?_

theorem execTxFrameStart_keeps {κ : Nat} {σ : State} {port : Nat} {upsets : List EccMark} {s : State} (hκ : Sub 1739 κ) (hσ : Keeps κ σ s) :
    NextKeeps κ σ (execTxFrameStart port upsets s) := by
  have k0 : Sub 64 κ := Sub.trans (by decide : 64 &&& 1739 = 64) hκ
  have k1 : Sub 1739 κ := Sub.trans (by decide : 1739 &&& 1739 = 1739) hκ
  unfold execTxFrameStart
  repeat' first
    | with_reducible assumption
    | with_reducible apply next_keeps
    | with_reducible apply ite_next_keeps
    | with_reducible apply State.upset_keeps k0
    | with_reducible apply State.txStart_keeps k1

theorem execTxFrameEnd_keeps {κ : Nat} {σ : State} {port : Nat} {upsets : List EccMark} {s : State} (hκ : Sub 3291 κ) (hσ : Keeps κ σ s) :
    NextKeeps κ σ (execTxFrameEnd port upsets s) := by
  have k0 : Sub 64 κ := Sub.trans (by decide : 64 &&& 3291 = 64) hκ
  have k1 : Sub 3291 κ := Sub.trans (by decide : 3291 &&& 3291 = 3291) hκ
  unfold execTxFrameEnd
  repeat' first
    | with_reducible assumption
    | with_reducible apply next_keeps
    | with_reducible apply ite_next_keeps
    | with_reducible apply State.upset_keeps k0
    | with_reducible apply State.txEnd_keeps k1

theorem execMacEnable_keeps {κ : Nat} {σ : State} {_pid port val : Nat} {s : State} (hκ : Sub 5771 κ) (hσ : Keeps κ σ s) :
    NextKeeps κ σ (execMacEnable _pid port val s) := by
  have k0 : Sub 5771 κ := Sub.trans (by decide : 5771 &&& 5771 = 5771) hκ
  unfold execMacEnable
  repeat' first
    | with_reducible assumption
    | with_reducible apply next_keeps
    | with_reducible apply ite_next_keeps
    | with_reducible apply State.writeMode_keeps k0

theorem execMacDisable_keeps {κ : Nat} {σ : State} {_pid port val : Nat} {s : State} (hκ : Sub 5771 κ) (hσ : Keeps κ σ s) :
    NextKeeps κ σ (execMacDisable _pid port val s) := by
  have k0 : Sub 5771 κ := Sub.trans (by decide : 5771 &&& 5771 = 5771) hκ
  unfold execMacDisable
  repeat' first
    | with_reducible assumption
    | with_reducible apply next_keeps
    | with_reducible apply ite_next_keeps
    | with_reducible apply State.writeMode_keeps k0

theorem execAnegComplete_keeps {κ : Nat} {σ : State} {port : Nat} {good : Bool} {s : State} (hκ : Sub 5259 κ) (hσ : Keeps κ σ s) :
    NextKeeps κ σ (execAnegComplete port good s) := by
  have k0 : Sub 5259 κ := Sub.trans (by decide : 5259 &&& 5259 = 5259) hκ
  have k1 : Sub 1024 κ := Sub.trans (by decide : 1024 &&& 5259 = 1024) hκ
  have k2 : Sub 139 κ := Sub.trans (by decide : 139 &&& 5259 = 139) hκ
  unfold execAnegComplete
  repeat' first
    | with_reducible assumption
    | with_reducible apply next_keeps
    | with_reducible apply ite_next_keeps
    | with_reducible apply State.linkUp_keeps k0
    | with_reducible apply State.onPrt_keeps k1
    | with_reducible apply State.raise_keeps k2
    | with_reducible apply ite_keeps
    | intro _
    | split

theorem execAnegRestartTimeout_keeps {κ : Nat} {σ : State} {port : Nat} {s : State} (hκ : Sub 1032 κ) (hσ : Keeps κ σ s) :
    NextKeeps κ σ (execAnegRestartTimeout port s) := by
  have k0 : Sub 1024 κ := Sub.trans (by decide : 1024 &&& 1032 = 1024) hκ
  have k1 : Sub 8 κ := Sub.trans (by decide : 8 &&& 1032 = 8) hκ
  unfold execAnegRestartTimeout
  repeat' first
    | with_reducible assumption
    | with_reducible apply next_keeps
    | with_reducible apply ite_next_keeps
    | with_reducible apply State.onPrt_keeps k0
    | with_reducible apply State.emit_keeps k1
    | with_reducible apply ite_keeps
    | intro _

theorem execLinkLockTimer_keeps {κ : Nat} {σ : State} {port : Nat} {s : State} (hκ : Sub 5259 κ) (hσ : Keeps κ σ s) :
    NextKeeps κ σ (execLinkLockTimer port s) := by
  have k0 : Sub 5259 κ := Sub.trans (by decide : 5259 &&& 5259 = 5259) hκ
  unfold execLinkLockTimer
  repeat' first
    | with_reducible assumption
    | with_reducible apply next_keeps
    | with_reducible apply ite_next_keeps
    | with_reducible apply State.linkUp_keeps k0
    | with_reducible apply ite_keeps

theorem execLinkLoss_keeps {κ : Nat} {σ : State} {port : Nat} {s : State} (hκ : Sub 1675 κ) (hσ : Keeps κ σ s) :
    NextKeeps κ σ (execLinkLoss port s) := by
  have k0 : Sub 1675 κ := Sub.trans (by decide : 1675 &&& 1675 = 1675) hκ
  unfold execLinkLoss
  repeat' first
    | with_reducible assumption
    | with_reducible apply next_keeps
    | with_reducible apply ite_next_keeps
    | with_reducible apply State.linkLost_keeps k0

theorem execGateChange_keeps {κ : Nat} {σ : State} {port : Nat} {s : State} (hκ : Sub 1675 κ) (hσ : Keeps κ σ s) :
    NextKeeps κ σ (execGateChange port s) := by
  have k0 : Sub 1675 κ := Sub.trans (by decide : 1675 &&& 1675 = 1675) hκ
  unfold execGateChange
  repeat' first
    | with_reducible assumption
    | with_reducible apply next_keeps
    | with_reducible apply ite_next_keeps
    | with_reducible apply State.gateStep_keeps k0
    | with_reducible apply ite_keeps

theorem execGateSwitch_keeps {κ : Nat} {σ : State} {port : Nat} {s : State} (hκ : Sub 1675 κ) (hσ : Keeps κ σ s) :
    NextKeeps κ σ (execGateSwitch port s) := by
  have k0 : Sub 1675 κ := Sub.trans (by decide : 1675 &&& 1675 = 1675) hκ
  unfold execGateSwitch
  repeat' first
    | with_reducible assumption
    | with_reducible apply next_keeps
    | with_reducible apply ite_next_keeps
    | with_reducible apply State.gateSwitch_keeps k0
    | with_reducible apply ite_keeps

theorem State.writeGateCtl_keeps {κ : Nat} {σ : State} {s : State} {p v : Nat} (hκ : Sub 1675 κ) (hσ : Keeps κ σ s) :
    Keeps κ σ (State.writeGateCtl s p v) := by
  have k0 : Sub 1 κ := Sub.trans (by decide : 1 &&& 1675 = 1) hκ
  have k1 : Sub 1675 κ := Sub.trans (by decide : 1675 &&& 1675 = 1675) hκ
  have k2 : Sub 1024 κ := Sub.trans (by decide : 1024 &&& 1675 = 1024) hκ
  unfold State.writeGateCtl
  repeat' first
    | with_reducible assumption
    | with_reducible apply State.put_keeps k0
    | with_reducible apply State.showGate_keeps k1
    | with_reducible apply State.setGate_keeps k2
    | with_reducible apply State.gateSeek_keeps k1
    | with_reducible apply ite_keeps
    | dsimp -simprocs only
    | dsimp only
    | split

theorem execGateEnable_keeps {κ : Nat} {σ : State} {_pid port val : Nat} {s : State} (hκ : Sub 1675 κ) (hσ : Keeps κ σ s) :
    NextKeeps κ σ (execGateEnable _pid port val s) := by
  have k0 : Sub 1675 κ := Sub.trans (by decide : 1675 &&& 1675 = 1675) hκ
  unfold execGateEnable
  repeat' first
    | with_reducible assumption
    | with_reducible apply next_keeps
    | with_reducible apply ite_next_keeps
    | with_reducible apply State.writeGateCtl_keeps k0

theorem execPreemptVerifyTimeout_keeps {κ : Nat} {σ : State} {port : Nat} {s : State} (hκ : Sub 1163 κ) (hσ : Keeps κ σ s) :
    NextKeeps κ σ (execPreemptVerifyTimeout port s) := by
  have k0 : Sub 1033 κ := Sub.trans (by decide : 1033 &&& 1163 = 1033) hκ
  have k1 : Sub 1 κ := Sub.trans (by decide : 1 &&& 1163 = 1) hκ
  have k2 : Sub 139 κ := Sub.trans (by decide : 139 &&& 1163 = 139) hκ
  unfold execPreemptVerifyTimeout
  repeat' first
    | with_reducible assumption
    | with_reducible apply next_keeps
    | with_reducible apply ite_next_keeps
    | with_reducible apply State.verifyTry_keeps k0
    | with_reducible apply State.put_keeps k1
    | with_reducible apply State.raise_keeps k2
    | with_reducible apply ite_keeps

theorem execQciGateChange_keeps {κ : Nat} {σ : State} {g : Nat} {s : State} (hκ : Sub 1675 κ) (hσ : Keeps κ σ s) :
    NextKeeps κ σ (execQciGateChange g s) := by
  have k0 : Sub 1675 κ := Sub.trans (by decide : 1675 &&& 1675 = 1675) hκ
  unfold execQciGateChange
  repeat' first
    | with_reducible assumption
    | with_reducible apply next_keeps
    | with_reducible apply ite_next_keeps
    | with_reducible apply State.gateSwitch_keeps k0
    | with_reducible apply State.gateStep_keeps k0
    | with_reducible apply ite_keeps
    | split

theorem State.gclLoad_keeps {κ : Nat} {σ : State} {s : State} {d : Desc} (hκ : Sub 1675 κ) (hσ : Keeps κ σ s) :
    Keeps κ σ (State.gclLoad s d) := by
  have k0 : Sub 128 κ := Sub.trans (by decide : 128 &&& 1675 = 128) hκ
  have k1 : Sub 1675 κ := Sub.trans (by decide : 1675 &&& 1675 = 1675) hκ
  unfold State.gclLoad
  repeat' first
    | with_reducible assumption
    | with_reducible apply State.finish_keeps k0
    | with_reducible apply State.gateLoad_keeps k1
    | with_reducible apply ite_keeps
    | split

theorem execGclLoad_keeps {κ : Nat} {σ : State} {r : Nat} {s : State} (hκ : Sub 1675 κ) (hσ : Keeps κ σ s) :
    NextKeeps κ σ (execGclLoad r s) := by
  have k0 : Sub 0 κ := Sub.trans (by decide : 0 &&& 1675 = 0) hκ
  have k1 : Sub 1675 κ := Sub.trans (by decide : 1675 &&& 1675 = 1675) hκ
  unfold execGclLoad
  repeat' first
    | with_reducible assumption
    | with_reducible apply next_keeps
    | with_reducible apply ite_next_keeps
    | with_reducible apply State.withOp_keeps k0
    | with_reducible apply State.gclLoad_keeps k1
    | intro _

theorem State.qciGateLoad_keeps {κ : Nat} {σ : State} {s : State} {d : Desc} (hκ : Sub 1675 κ) (hσ : Keeps κ σ s) :
    Keeps κ σ (State.qciGateLoad s d) := by
  have k0 : Sub 128 κ := Sub.trans (by decide : 128 &&& 1675 = 128) hκ
  have k1 : Sub 1675 κ := Sub.trans (by decide : 1675 &&& 1675 = 1675) hκ
  unfold State.qciGateLoad
  repeat' first
    | with_reducible assumption
    | with_reducible apply State.finish_keeps k0
    | with_reducible apply State.gateLoad_keeps k1
    | with_reducible apply ite_keeps
    | split

theorem execQciGateLoad_keeps {κ : Nat} {σ : State} {r : Nat} {s : State} (hκ : Sub 1675 κ) (hσ : Keeps κ σ s) :
    NextKeeps κ σ (execQciGateLoad r s) := by
  have k0 : Sub 0 κ := Sub.trans (by decide : 0 &&& 1675 = 0) hκ
  have k1 : Sub 1675 κ := Sub.trans (by decide : 1675 &&& 1675 = 1675) hκ
  unfold execQciGateLoad
  repeat' first
    | with_reducible assumption
    | with_reducible apply next_keeps
    | with_reducible apply ite_next_keeps
    | with_reducible apply State.withOp_keeps k0
    | with_reducible apply State.qciGateLoad_keeps k1
    | intro _

theorem State.filterSet_keeps {κ : Nat} {σ : State} {s : State} {d : Desc} (hκ : Sub 1163 κ) (hσ : Keeps κ σ s) :
    Keeps κ σ (State.filterSet s d) := by
  have k0 : Sub 139 κ := Sub.trans (by decide : 139 &&& 1163 = 139) hκ
  have k1 : Sub 128 κ := Sub.trans (by decide : 128 &&& 1163 = 128) hκ
  have k2 : Sub 1024 κ := Sub.trans (by decide : 1024 &&& 1163 = 1024) hκ
  unfold State.filterSet
  repeat' first
    | with_reducible assumption
    | with_reducible apply State.noBuf_keeps k0
    | with_reducible apply State.finish_keeps k1
    | with_reducible apply State.onPrt_keeps k2
    | with_reducible apply ite_keeps
    | intro _
    | dsimp -simprocs only
    | dsimp only
    | split

theorem execQciFilterSet_keeps {κ : Nat} {σ : State} {r : Nat} {s : State} (hκ : Sub 1163 κ) (hσ : Keeps κ σ s) :
    NextKeeps κ σ (execQciFilterSet r s) := by
  have k0 : Sub 0 κ := Sub.trans (by decide : 0 &&& 1163 = 0) hκ
  have k1 : Sub 1163 κ := Sub.trans (by decide : 1163 &&& 1163 = 1163) hκ
  unfold execQciFilterSet
  repeat' first
    | with_reducible assumption
    | with_reducible apply next_keeps
    | with_reducible apply ite_next_keeps
    | with_reducible apply State.withOp_keeps k0
    | with_reducible apply State.filterSet_keeps k1
    | intro _

theorem State.setMeter_keeps {κ : Nat} {σ : State} {s : State} {m : Nat} {v : QMeter} (hκ : Sub 1024 κ) (hσ : Keeps κ σ s) :
    Keeps κ σ (State.setMeter s m v) := by
  have k0 : Sub 1024 κ := Sub.trans (by decide : 1024 &&& 1024 = 1024) hκ
  unfold State.setMeter
  repeat' first
    | with_reducible assumption
    | with_reducible apply State.onPrt_keeps k0
    | intro _

theorem State.meterSet_keeps {κ : Nat} {σ : State} {s : State} {d : Desc} (hκ : Sub 1163 κ) (hσ : Keeps κ σ s) :
    Keeps κ σ (State.meterSet s d) := by
  have k0 : Sub 139 κ := Sub.trans (by decide : 139 &&& 1163 = 139) hκ
  have k1 : Sub 128 κ := Sub.trans (by decide : 128 &&& 1163 = 128) hκ
  have k2 : Sub 1024 κ := Sub.trans (by decide : 1024 &&& 1163 = 1024) hκ
  unfold State.meterSet
  repeat' first
    | with_reducible assumption
    | with_reducible apply State.noBuf_keeps k0
    | with_reducible apply State.finish_keeps k1
    | with_reducible apply State.setMeter_keeps k2
    | with_reducible apply ite_keeps
    | dsimp -simprocs only
    | dsimp only
    | split

theorem execQciMeterSet_keeps {κ : Nat} {σ : State} {r : Nat} {s : State} (hκ : Sub 1163 κ) (hσ : Keeps κ σ s) :
    NextKeeps κ σ (execQciMeterSet r s) := by
  have k0 : Sub 0 κ := Sub.trans (by decide : 0 &&& 1163 = 0) hκ
  have k1 : Sub 1163 κ := Sub.trans (by decide : 1163 &&& 1163 = 1163) hκ
  unfold execQciMeterSet
  repeat' first
    | with_reducible assumption
    | with_reducible apply next_keeps
    | with_reducible apply ite_next_keeps
    | with_reducible apply State.withOp_keeps k0
    | with_reducible apply State.meterSet_keeps k1
    | intro _

theorem State.setFiltCnt_keeps {κ : Nat} {σ : State} {s : State} {f i v : Nat} (hκ : Sub 1024 κ) (hσ : Keeps κ σ s) :
    Keeps κ σ (State.setFiltCnt s f i v) := by
  have k0 : Sub 1024 κ := Sub.trans (by decide : 1024 &&& 1024 = 1024) hκ
  unfold State.setFiltCnt
  repeat' first
    | with_reducible assumption
    | with_reducible apply State.onPrt_keeps k0
    | intro _

theorem State.qciRead_keeps {κ : Nat} {σ : State} {s : State} {d : Desc} (hκ : Sub 16778703 κ) (hσ : Keeps κ σ s) :
    Keeps κ σ (State.qciRead s d) := by
  have k0 : Sub 128 κ := Sub.trans (by decide : 128 &&& 16778703 = 128) hκ
  have k1 : Sub 1024 κ := Sub.trans (by decide : 1024 &&& 16778703 = 1024) hκ
  have k2 : Sub 16777679 κ := Sub.trans (by decide : 16777679 &&& 16778703 = 16777679) hκ
  unfold State.qciRead
  repeat' first
    | with_reducible assumption
    | with_reducible apply State.finish_keeps k0
    | with_reducible apply State.setFiltCnt_keeps k1
    | with_reducible apply State.finishBuf_keeps k2
    | with_reducible apply ite_keeps
    | with_reducible refine forEach_keeps (fun _ _ _ => ?_) ?_
    | dsimp -simprocs only
    | dsimp only
    | split

theorem execQciRead_keeps {κ : Nat} {σ : State} {r : Nat} {s : State} (hκ : Sub 16778703 κ) (hσ : Keeps κ σ s) :
    NextKeeps κ σ (execQciRead r s) := by
  have k0 : Sub 0 κ := Sub.trans (by decide : 0 &&& 16778703 = 0) hκ
  have k1 : Sub 16778703 κ := Sub.trans (by decide : 16778703 &&& 16778703 = 16778703) hκ
  unfold execQciRead
  repeat' first
    | with_reducible assumption
    | with_reducible apply next_keeps
    | with_reducible apply ite_next_keeps
    | with_reducible apply State.withOp_keeps k0
    | with_reducible apply State.qciRead_keeps k1
    | intro _

theorem State.spSend_keeps {κ : Nat} {σ : State} {s : State} {d : Desc} (hκ : Sub 704 κ) (hσ : Keeps κ σ s) :
    Keeps κ σ (State.spSend s d) := by
  have k0 : Sub 128 κ := Sub.trans (by decide : 128 &&& 704 = 128) hκ
  have k1 : Sub 576 κ := Sub.trans (by decide : 576 &&& 704 = 576) hκ
  have k2 : Sub 512 κ := Sub.trans (by decide : 512 &&& 704 = 512) hκ
  unfold State.spSend
  repeat' first
    | with_reducible assumption
    | with_reducible apply State.finish_keeps k0
    | with_reducible apply State.placed_keeps k1
    | with_reducible apply State.onSwc_keeps k2
    | with_reducible apply State.hold_keeps k0
    | with_reducible apply ite_keeps
    | with_reducible apply ite_fst_keeps
    | intro _
    | dsimp -simprocs only
    | dsimp only
    | split

theorem execSpSend_keeps {κ : Nat} {σ : State} {r : Nat} {s : State} (hκ : Sub 704 κ) (hσ : Keeps κ σ s) :
    NextKeeps κ σ (execSpSend r s) := by
  have k0 : Sub 0 κ := Sub.trans (by decide : 0 &&& 704 = 0) hκ
  have k1 : Sub 704 κ := Sub.trans (by decide : 704 &&& 704 = 704) hκ
  unfold execSpSend
  repeat' first
    | with_reducible assumption
    | with_reducible apply next_keeps
    | with_reducible apply ite_next_keeps
    | with_reducible apply State.withOp_keeps k0
    | with_reducible apply State.spSend_keeps k1
    | intro _

theorem execSpRecv_keeps {κ : Nat} {σ : State} {r : Nat} {s : State} (hκ : Sub 128 κ) (hσ : Keeps κ σ s) :
    NextKeeps κ σ (execSpRecv r s) := by
  have k0 : Sub 0 κ := Sub.trans (by decide : 0 &&& 128 = 0) hκ
  have k1 : Sub 128 κ := Sub.trans (by decide : 128 &&& 128 = 128) hκ
  unfold execSpRecv
  repeat' first
    | with_reducible assumption
    | with_reducible apply next_keeps
    | with_reducible apply ite_next_keeps
    | with_reducible apply State.withOp_keeps k0
    | with_reducible apply State.finish_keeps k1
    | with_reducible apply State.hold_keeps k1
    | with_reducible apply ite_keeps
    | intro _

end Sys2Proof.Machine
end

