-- ==== Sys2Proof/Laws/KeepsChartOps.lean ====
section
/-! SUPPORT. What each operation of Machine/ChartOps may do to State. -/
namespace Sys2Proof.Machine

theorem State.onAud_keeps {κ : Nat} {σ : State} {s : State} {f : Aud → Aud} (hκ : Sub 8192 κ) (hσ : Keeps κ σ s) :
    Keeps κ σ (State.onAud s f) := by
  have k0 : Sub 8192 κ := Sub.trans (by decide : 8192 &&& 8192 = 8192) hκ
  unfold State.onAud
  repeat' first
    | with_reducible assumption
    | with_reducible apply State.setAud_keeps k0

theorem State.onCht_keeps {κ : Nat} {σ : State} {s : State} {f : Cht → Cht} (hκ : Sub 16384 κ) (hσ : Keeps κ σ s) :
    Keeps κ σ (State.onCht s f) := by
  have k0 : Sub 16384 κ := Sub.trans (by decide : 16384 &&& 16384 = 16384) hκ
  unfold State.onCht
  repeat' first
    | with_reducible assumption
    | with_reducible apply State.setCht_keeps k0

theorem State.setNodeSt_keeps {κ : Nat} {σ : State} {s : State} {c : Nat} {v : NodeSt} (hκ : Sub 8192 κ) (hσ : Keeps κ σ s) :
    Keeps κ σ (State.setNodeSt s c v) := by
  have k0 : Sub 8192 κ := Sub.trans (by decide : 8192 &&& 8192 = 8192) hκ
  unfold State.setNodeSt
  repeat' first
    | with_reducible assumption
    | with_reducible apply State.onAud_keeps k0
    | intro _

theorem State.clearShadowSt_keeps {κ : Nat} {σ : State} {s : State} (hκ : Sub 8192 κ) (hσ : Keeps κ σ s) :
    Keeps κ σ (State.clearShadowSt s) := by
  have k0 : Sub 8192 κ := Sub.trans (by decide : 8192 &&& 8192 = 8192) hκ
  unfold State.clearShadowSt
  repeat' first
    | with_reducible assumption
    | with_reducible apply State.onAud_keeps k0
    | intro _

theorem State.sendPly_keeps {κ : Nat} {σ : State} {s : State} {b : Bytes} (hκ : Sub 512 κ) (hσ : Keeps κ σ s) :
    Keeps κ σ (State.sendPly s b) := by
  have k0 : Sub 512 κ := Sub.trans (by decide : 512 &&& 512 = 512) hκ
  unfold State.sendPly
  repeat' first
    | with_reducible assumption
    | with_reducible apply State.onSwc_keeps k0
    | intro _

theorem State.sendEdge_keeps {κ : Nat} {σ : State} {s : State} {n : PNode} {k : Nat} {b : Bytes} (hκ : Sub 1739 κ) (hσ : Keeps κ σ s) :
    Keeps κ σ (State.sendEdge s n k b) := by
  have k0 : Sub 1739 κ := Sub.trans (by decide : 1739 &&& 1739 = 1739) hκ
  unfold State.sendEdge
  repeat' first
    | with_reducible assumption
    | with_reducible apply State.storeFrame_keeps k0
    | with_reducible apply ite_keeps
    | with_reducible apply ite_fst_keeps

theorem State.toInbox_keeps {κ : Nat} {σ : State} {s : State} {b : InBlk} {twin : Nat} (hκ : Sub 8331 κ) (hσ : Keeps κ σ s) :
    Keeps κ σ (State.toInbox s b twin) := by
  have k0 : Sub 8192 κ := Sub.trans (by decide : 8192 &&& 8331 = 8192) hκ
  have k1 : Sub 2 κ := Sub.trans (by decide : 2 &&& 8331 = 2) hκ
  have k2 : Sub 1 κ := Sub.trans (by decide : 1 &&& 8331 = 1) hκ
  have k3 : Sub 139 κ := Sub.trans (by decide : 139 &&& 8331 = 139) hκ
  unfold State.toInbox
  repeat' first
    | with_reducible assumption
    | with_reducible apply State.onAud_keeps k0
    | with_reducible apply State.missed_keeps k1
    | with_reducible apply State.count_keeps k1
    | with_reducible apply State.put_keeps k2
    | with_reducible apply State.raise_keeps k3
    | with_reducible apply ite_keeps
    | intro _
    | split

theorem State.applyCarve_keeps {κ : Nat} {σ : State} {s : State} {l : List (Nat × Nat)} {ply mir : Nat} (hκ : Sub 651 κ) (hσ : Keeps κ σ s) :
    Keeps κ σ (State.applyCarve s l ply mir) := by
  have k0 : Sub 512 κ := Sub.trans (by decide : 512 &&& 651 = 512) hκ
  have k1 : Sub 1 κ := Sub.trans (by decide : 1 &&& 651 = 1) hκ
  have k2 : Sub 139 κ := Sub.trans (by decide : 139 &&& 651 = 139) hκ
  unfold State.applyCarve
  repeat' first
    | with_reducible assumption
    | with_reducible apply State.onSwc_keeps k0
    | with_reducible apply State.put_keeps k1
    | with_reducible apply State.raise_keeps k2
    | with_reducible refine forEach_keeps (fun _ _ _ => ?_) ?_
    | intro _
    | dsimp -simprocs only
    | dsimp only

theorem State.recarve_keeps {κ : Nat} {σ : State} {s : State} (hκ : Sub 651 κ) (hσ : Keeps κ σ s) :
    Keeps κ σ (State.recarve s).1 := by
  have k0 : Sub 651 κ := Sub.trans (by decide : 651 &&& 651 = 651) hκ
  have k1 : Sub 139 κ := Sub.trans (by decide : 139 &&& 651 = 139) hκ
  unfold State.recarve
  repeat' first
    | with_reducible assumption
    | with_reducible apply State.applyCarve_keeps k0
    | with_reducible apply State.raise_keeps k1
    | with_reducible apply ite_keeps
    | with_reducible apply ite_fst_keeps
    | dsimp -simprocs only
    | dsimp only
    | split

theorem State.askChart_keeps {κ : Nat} {σ : State} {s : State} {c : Cause} (hκ : Sub 16385 κ) (hσ : Keeps κ σ s) :
    Keeps κ σ (State.askChart s c) := by
  have k0 : Sub 16384 κ := Sub.trans (by decide : 16384 &&& 16385 = 16384) hκ
  have k1 : Sub 1 κ := Sub.trans (by decide : 1 &&& 16385 = 1) hκ
  unfold State.askChart
  repeat' first
    | with_reducible assumption
    | with_reducible apply State.onCht_keeps k0
    | with_reducible apply State.put_keeps k1
    | intro _

theorem State.chartIdle_keeps {κ : Nat} {σ : State} {s : State} (hκ : Sub 1 κ) (hσ : Keeps κ σ s) :
    Keeps κ σ (State.chartIdle s) := by
  have k0 : Sub 1 κ := Sub.trans (by decide : 1 &&& 1 = 1) hκ
  unfold State.chartIdle
  repeat' first
    | with_reducible assumption
    | with_reducible apply State.put_keeps k0
    | with_reducible apply ite_keeps

theorem State.dropShadow_keeps {κ : Nat} {σ : State} {s : State} {again : Bool} (hκ : Sub 16801802 κ) (hσ : Keeps κ σ s) :
    Keeps κ σ (State.dropShadow s again) := by
  have k0 : Sub 8192 κ := Sub.trans (by decide : 8192 &&& 16801802 = 8192) hκ
  have k1 : Sub 16384 κ := Sub.trans (by decide : 16384 &&& 16801802 = 16384) hκ
  have k2 : Sub 16777226 κ := Sub.trans (by decide : 16777226 &&& 16801802 = 16777226) hκ
  unfold State.dropShadow
  repeat' first
    | with_reducible assumption
    | with_reducible apply State.clearShadowSt_keeps k0
    | with_reducible apply State.onCht_keeps k1
    | with_reducible apply State.mirror_keeps k2
    | with_reducible apply ite_keeps
    | intro _
    | dsimp -simprocs only
    | dsimp only
    | split

theorem State.engineFail_keeps {κ : Nat} {σ : State} {s : State} {e : Nat} (hκ : Sub 16801931 κ) (hσ : Keeps κ σ s) :
    Keeps κ σ (State.engineFail s e) := by
  have k0 : Sub 1 κ := Sub.trans (by decide : 1 &&& 16801931 = 1) hκ
  have k1 : Sub 2 κ := Sub.trans (by decide : 2 &&& 16801931 = 2) hκ
  have k2 : Sub 139 κ := Sub.trans (by decide : 139 &&& 16801931 = 139) hκ
  have k3 : Sub 16801802 κ := Sub.trans (by decide : 16801802 &&& 16801931 = 16801802) hκ
  have k4 : Sub 16385 κ := Sub.trans (by decide : 16385 &&& 16801931 = 16385) hκ
  unfold State.engineFail
  repeat' first
    | with_reducible assumption
    | with_reducible apply State.put_keeps k0
    | with_reducible apply State.count_keeps k1
    | with_reducible apply State.raise_keeps k2
    | with_reducible apply State.set1_keeps k0
    | with_reducible apply State.dropShadow_keeps k3
    | with_reducible apply State.askChart_keeps k4
    | with_reducible apply ite_keeps
    | dsimp -simprocs only
    | dsimp only
    | split

theorem State.countEngines_keeps {κ : Nat} {σ : State} {s : State} (hκ : Sub 1 κ) (hσ : Keeps κ σ s) :
    Keeps κ σ (State.countEngines s) := by
  have k0 : Sub 1 κ := Sub.trans (by decide : 1 &&& 1 = 1) hκ
  unfold State.countEngines
  repeat' first
    | with_reducible assumption
    | with_reducible apply State.put_keeps k0

theorem State.lateEngine_keeps {κ : Nat} {σ : State} {s : State} {e : Nat} (hκ : Sub 16384 κ) (hσ : Keeps κ σ s) :
    Keeps κ σ (State.lateEngine s e) := by
  have k0 : Sub 16384 κ := Sub.trans (by decide : 16384 &&& 16384 = 16384) hκ
  unfold State.lateEngine
  repeat' first
    | with_reducible assumption
    | with_reducible apply State.onCht_keeps k0
    | intro _

theorem State.streaks_keeps {κ : Nat} {σ : State} {s : State} (hκ : Sub 16801931 κ) (hσ : Keeps κ σ s) :
    Keeps κ σ (State.streaks s) := by
  have k0 : Sub 16384 κ := Sub.trans (by decide : 16384 &&& 16801931 = 16384) hκ
  have k1 : Sub 16801931 κ := Sub.trans (by decide : 16801931 &&& 16801931 = 16801931) hκ
  unfold State.streaks
  repeat' first
    | with_reducible assumption
    | with_reducible apply State.onCht_keeps k0
    | with_reducible apply State.engineFail_keeps k1
    | with_reducible apply ite_keeps
    | with_reducible refine forEach_keeps (fun _ _ _ => ?_) ?_
    | intro _
    | dsimp -simprocs only
    | dsimp only

end Sys2Proof.Machine
end

