-- ==== Sys2Proof/Laws/KeepsAudioNet.lean ====
section
/-! SUPPORT. What each operation of Machine/AudioNet may do to State. -/
namespace Sys2Proof.Machine

theorem State.setSlot_keeps {κ : Nat} {σ : State} {s : State} {k : Nat} {v : AudSlot} (hκ : Sub 8193 κ) (hσ : Keeps κ σ s) :
    Keeps κ σ (State.setSlot s k v) := by
  have k0 : Sub 8192 κ := Sub.trans (by decide : 8192 &&& 8193 = 8192) hκ
  have k1 : Sub 1 κ := Sub.trans (by decide : 1 &&& 8193 = 1) hκ
  unfold State.setSlot
  repeat' first
    | with_reducible assumption
    | with_reducible apply State.onAud_keeps k0
    | with_reducible apply State.put_keeps k1
    | intro _

theorem State.netInfo_keeps {κ : Nat} {σ : State} {s : State} {slot kind : Nat} (hκ : Sub 1 κ) (hσ : Keeps κ σ s) :
    Keeps κ σ (State.netInfo s slot kind) := by
  have k0 : Sub 1 κ := Sub.trans (by decide : 1 &&& 1 = 1) hκ
  unfold State.netInfo
  repeat' first
    | with_reducible assumption
    | with_reducible apply State.put_keeps k0

theorem State.netLate_keeps {κ : Nat} {σ : State} {s : State} {slot : Nat} (hκ : Sub 139 κ) (hσ : Keeps κ σ s) :
    Keeps κ σ (State.netLate s slot) := by
  have k0 : Sub 2 κ := Sub.trans (by decide : 2 &&& 139 = 2) hκ
  have k1 : Sub 139 κ := Sub.trans (by decide : 139 &&& 139 = 139) hκ
  have k2 : Sub 1 κ := Sub.trans (by decide : 1 &&& 139 = 1) hκ
  unfold State.netLate
  repeat' first
    | with_reducible assumption
    | with_reducible apply State.count_keeps k0
    | with_reducible apply State.raise_keeps k1
    | with_reducible apply State.netInfo_keeps k2

theorem State.netEarly_keeps {κ : Nat} {σ : State} {s : State} {slot : Nat} (hκ : Sub 139 κ) (hσ : Keeps κ σ s) :
    Keeps κ σ (State.netEarly s slot) := by
  have k0 : Sub 2 κ := Sub.trans (by decide : 2 &&& 139 = 2) hκ
  have k1 : Sub 139 κ := Sub.trans (by decide : 139 &&& 139 = 139) hκ
  have k2 : Sub 1 κ := Sub.trans (by decide : 1 &&& 139 = 1) hκ
  unfold State.netEarly
  repeat' first
    | with_reducible assumption
    | with_reducible apply State.count_keeps k0
    | with_reducible apply State.raise_keeps k1
    | with_reducible apply State.netInfo_keeps k2

theorem State.netGap_keeps {κ : Nat} {σ : State} {s : State} {slot n : Nat} (hκ : Sub 139 κ) (hσ : Keeps κ σ s) :
    Keeps κ σ (State.netGap s slot n) := by
  have k0 : Sub 2 κ := Sub.trans (by decide : 2 &&& 139 = 2) hκ
  have k1 : Sub 139 κ := Sub.trans (by decide : 139 &&& 139 = 139) hκ
  have k2 : Sub 1 κ := Sub.trans (by decide : 1 &&& 139 = 1) hκ
  unfold State.netGap
  repeat' first
    | with_reducible assumption
    | with_reducible apply State.count_keeps k0
    | with_reducible apply State.raise_keeps k1
    | with_reducible apply State.netInfo_keeps k2
    | with_reducible apply ite_keeps

theorem State.netSample_keeps {κ : Nat} {σ : State} {slot t0 : Nat} {sl : AudSlot} {p : NetPkt} {i : Nat} {s : State} (hκ : Sub 8331 κ) (hσ : Keeps κ σ s) :
    Keeps κ σ (State.netSample slot t0 sl p i s) := by
  have k0 : Sub 139 κ := Sub.trans (by decide : 139 &&& 8331 = 139) hκ
  have k1 : Sub 8192 κ := Sub.trans (by decide : 8192 &&& 8331 = 8192) hκ
  unfold State.netSample
  repeat' first
    | with_reducible assumption
    | with_reducible apply State.netLate_keeps k0
    | with_reducible apply State.netEarly_keeps k0
    | with_reducible apply State.onAud_keeps k1
    | with_reducible apply ite_keeps
    | with_reducible apply ite_fst_keeps
    | intro _
    | dsimp -simprocs only
    | dsimp only

theorem State.netPacket_keeps {κ : Nat} {σ : State} {s : State} {slot t0 : Nat} {sl : AudSlot} {p : NetPkt} {tv : Bool} (hκ : Sub 139403 κ) (hσ : Keeps κ σ s) :
    Keeps κ σ (State.netPacket s slot t0 sl p tv) := by
  have k0 : Sub 131211 κ := Sub.trans (by decide : 131211 &&& 139403 = 131211) hκ
  have k1 : Sub 8193 κ := Sub.trans (by decide : 8193 &&& 139403 = 8193) hκ
  have k2 : Sub 139 κ := Sub.trans (by decide : 139 &&& 139403 = 139) hκ
  have k3 : Sub 8331 κ := Sub.trans (by decide : 8331 &&& 139403 = 8331) hκ
  unfold State.netPacket
  repeat' first
    | with_reducible assumption
    | with_reducible apply State.synced_keeps k0
    | with_reducible apply State.setSlot_keeps k1
    | with_reducible apply State.netGap_keeps k2
    | with_reducible apply State.netSample_keeps k3
    | with_reducible apply ite_keeps
    | with_reducible refine forEach_keeps (fun _ _ _ => ?_) ?_
    | dsimp -simprocs only
    | dsimp only

theorem State.slotFrame_keeps {κ : Nat} {σ : State} {s : State} {t0 : Nat} {u : Bytes} {k : Nat} {sl : AudSlot} (hκ : Sub 139403 κ) (hσ : Keeps κ σ s) :
    Keeps κ σ (State.slotFrame s t0 u k sl) := by
  have k0 : Sub 139403 κ := Sub.trans (by decide : 139403 &&& 139403 = 139403) hκ
  unfold State.slotFrame
  repeat' first
    | with_reducible assumption
    | with_reducible apply State.netPacket_keeps k0
    | with_reducible apply ite_keeps
    | split

theorem State.netFrame_keeps {κ : Nat} {σ : State} {s : State} {b : Bytes} (hκ : Sub 139403 κ) (hσ : Keeps κ σ s) :
    Keeps κ σ (State.netFrame s b) := by
  have k0 : Sub 139403 κ := Sub.trans (by decide : 139403 &&& 139403 = 139403) hκ
  unfold State.netFrame
  repeat' first
    | with_reducible assumption
    | with_reducible apply State.slotFrame_keeps k0
    | with_reducible apply ite_keeps
    | with_reducible apply ite_fst_keeps
    | with_reducible refine forEach_keeps (fun _ _ _ => ?_) ?_
    | dsimp -simprocs only
    | dsimp only
    | split

theorem execAudioStreamReceive_keeps {κ : Nat} {σ : State} {s : State} (hκ : Sub 139915 κ) (hσ : Keeps κ σ s) :
    NextKeeps κ σ (execAudioStreamReceive s) := by
  have k0 : Sub 512 κ := Sub.trans (by decide : 512 &&& 139915 = 512) hκ
  have k1 : Sub 139403 κ := Sub.trans (by decide : 139403 &&& 139915 = 139403) hκ
  unfold execAudioStreamReceive
  repeat' first
    | with_reducible assumption
    | with_reducible apply next_keeps
    | with_reducible apply ite_next_keeps
    | with_reducible apply State.onSwc_keeps k0
    | with_reducible apply State.netFrame_keeps k1
    | intro _
    | split

theorem State.netSend_keeps {κ : Nat} {σ : State} {s : State} {k t cls : Nat} {a0 : Nat} {a1 : Nat} {a2 : List (List Int)} (hκ : Sub 9931 κ) (hσ : Keeps κ σ s) :
    Keeps κ σ (State.netSend s k t cls a0 a1 a2) := by
  have k0 : Sub 8193 κ := Sub.trans (by decide : 8193 &&& 9931 = 8193) hκ
  have k1 : Sub 1739 κ := Sub.trans (by decide : 1739 &&& 9931 = 1739) hκ
  fun_induction State.netSend s k t cls a0 a1 a2
  all_goals repeat' first
    | with_reducible assumption
    | with_reducible apply State.setSlot_keeps k0
    | with_reducible apply State.swIngress_keeps k1
    | with_reducible apply ite_keeps
    | with_reducible apply ite_fst_keeps
    | dsimp -simprocs only
    | dsimp only
    | split
    | with_reducible apply_assumption

theorem State.txBlock_keeps {κ : Nat} {σ : State} {s : State} {p : Pattern} {n : PNode} {t : Nat} {l : List Int} (hκ : Sub 9931 κ) (hσ : Keeps κ σ s) :
    Keeps κ σ (State.txBlock s p n t l) := by
  have k0 : Sub 8192 κ := Sub.trans (by decide : 8192 &&& 9931 = 8192) hκ
  have k1 : Sub 9931 κ := Sub.trans (by decide : 9931 &&& 9931 = 9931) hκ
  unfold State.txBlock
  repeat' first
    | with_reducible assumption
    | with_reducible apply State.onAud_keeps k0
    | with_reducible apply State.netSend_keeps k1
    | with_reducible apply ite_keeps
    | with_reducible apply ite_fst_keeps
    | intro _
    | dsimp -simprocs only
    | dsimp only

end Sys2Proof.Machine
end

