-- ==== Sys2Proof/Laws/KeepsCoreOps.lean ====
section
/-! SUPPORT. What each operation of Machine/CoreOps may do to State. -/
namespace Sys2Proof.Machine

theorem State.onCor_keeps {κ : Nat} {σ : State} {s : State} {f : Cor → Cor} (hκ : Sub 32768 κ) (hσ : Keeps κ σ s) :
    Keeps κ σ (State.onCor s f) := by
  have k0 : Sub 32768 κ := Sub.trans (by decide : 32768 &&& 32768 = 32768) hκ
  unfold State.onCor
  repeat' first
    | with_reducible assumption
    | with_reducible apply State.setCor_keeps k0

theorem State.showCore_keeps {κ : Nat} {σ : State} {k : Nat} {s : State} (hκ : Sub 32769 κ) (hσ : Keeps κ σ s) :
    Keeps κ σ (State.showCore k s) := by
  have k0 : Sub 1 κ := Sub.trans (by decide : 1 &&& 32769 = 1) hκ
  have k1 : Sub 32768 κ := Sub.trans (by decide : 32768 &&& 32769 = 32768) hκ
  unfold State.showCore
  repeat' first
    | with_reducible assumption
    | with_reducible apply State.wr_keeps k0
    | with_reducible apply State.onCor_keeps k1
    | with_reducible apply State.put_keeps k0
    | with_reducible apply ite_keeps
    | with_reducible apply ite_fst_keeps
    | intro _
    | dsimp -simprocs only
    | dsimp only

theorem State.showPart_keeps {κ : Nat} {σ : State} {p : Nat} {s : State} (hκ : Sub 1 κ) (hσ : Keeps κ σ s) :
    Keeps κ σ (State.showPart p s) := by
  have k0 : Sub 1 κ := Sub.trans (by decide : 1 &&& 1 = 1) hκ
  unfold State.showPart
  repeat' first
    | with_reducible assumption
    | with_reducible apply State.put_keeps k0
    | with_reducible apply ite_keeps

theorem State.showCores_keeps {κ : Nat} {σ : State} {s : State} (hκ : Sub 32769 κ) (hσ : Keeps κ σ s) :
    Keeps κ σ (State.showCores s) := by
  have k0 : Sub 1 κ := Sub.trans (by decide : 1 &&& 32769 = 1) hκ
  have k1 : Sub 32769 κ := Sub.trans (by decide : 32769 &&& 32769 = 32769) hκ
  unfold State.showCores
  repeat' first
    | with_reducible assumption
    | with_reducible apply State.showPart_keeps k0
    | with_reducible apply State.showCore_keeps k1
    | with_reducible refine forEach_keeps (fun _ _ _ => ?_) ?_

theorem State.setWd_keeps {κ : Nat} {σ : State} {s : State} {p v : Nat} (hκ : Sub 32768 κ) (hσ : Keeps κ σ s) :
    Keeps κ σ (State.setWd s p v) := by
  have k0 : Sub 32768 κ := Sub.trans (by decide : 32768 &&& 32768 = 32768) hκ
  unfold State.setWd
  repeat' first
    | with_reducible assumption
    | with_reducible apply State.onCor_keeps k0
    | intro _

theorem State.wdLoad_keeps {κ : Nat} {σ : State} {s : State} {p : Nat} (hκ : Sub 32768 κ) (hσ : Keeps κ σ s) :
    Keeps κ σ (State.wdLoad s p) := by
  have k0 : Sub 32768 κ := Sub.trans (by decide : 32768 &&& 32768 = 32768) hκ
  unfold State.wdLoad
  repeat' first
    | with_reducible assumption
    | with_reducible apply State.setWd_keeps k0

theorem State.wdSync_keeps {κ : Nat} {σ : State} {s : State} (hκ : Sub 32768 κ) (hσ : Keeps κ σ s) :
    Keeps κ σ (State.wdSync s) := by
  have k0 : Sub 32768 κ := Sub.trans (by decide : 32768 &&& 32768 = 32768) hκ
  unfold State.wdSync
  repeat' first
    | with_reducible assumption
    | with_reducible apply State.onCor_keeps k0
    | with_reducible apply State.setWd_keeps k0
    | with_reducible apply ite_keeps
    | with_reducible refine forEach_keeps (fun _ _ _ => ?_) ?_
    | intro _
    | dsimp -simprocs only
    | dsimp only

theorem State.coreChange_keeps {κ : Nat} {σ : State} {s : State} {f : State → State} (hκ : Sub 32769 κ) (h_f : ∀ x0, Keeps κ σ x0 → Keeps κ σ (f x0)) (hσ : Keeps κ σ s) :
    Keeps κ σ (State.coreChange s f) := by
  have k0 : Sub 32768 κ := Sub.trans (by decide : 32768 &&& 32769 = 32768) hκ
  have k1 : Sub 32769 κ := Sub.trans (by decide : 32769 &&& 32769 = 32769) hκ
  unfold State.coreChange
  repeat' first
    | with_reducible assumption
    | with_reducible apply h_f
    | with_reducible apply State.wdSync_keeps k0
    | with_reducible apply State.showCores_keeps k1

theorem State.suspendComfort_keeps {κ : Nat} {σ : State} {s : State} {on : Bool} (hκ : Sub 32907 κ) (hσ : Keeps κ σ s) :
    Keeps κ σ (State.suspendComfort s on) := by
  have k0 : Sub 32769 κ := Sub.trans (by decide : 32769 &&& 32907 = 32769) hκ
  have k1 : Sub 32768 κ := Sub.trans (by decide : 32768 &&& 32907 = 32768) hκ
  have k2 : Sub 139 κ := Sub.trans (by decide : 139 &&& 32907 = 139) hκ
  unfold State.suspendComfort
  repeat' first
    | with_reducible assumption
    | with_reducible apply State.coreChange_keeps k0
    | with_reducible apply State.onCor_keeps k1
    | with_reducible apply State.raise_keeps k2
    | with_reducible apply ite_keeps
    | intro _

theorem State.haltCores_keeps {κ : Nat} {σ : State} {s : State} {on : Bool} (hκ : Sub 32769 κ) (hσ : Keeps κ σ s) :
    Keeps κ σ (State.haltCores s on) := by
  have k0 : Sub 32769 κ := Sub.trans (by decide : 32769 &&& 32769 = 32769) hκ
  have k1 : Sub 32768 κ := Sub.trans (by decide : 32768 &&& 32769 = 32768) hκ
  unfold State.haltCores
  repeat' first
    | with_reducible assumption
    | with_reducible apply State.coreChange_keeps k0
    | with_reducible apply State.onCor_keeps k1
    | intro _

theorem State.mbSignal_keeps {κ : Nat} {σ : State} {s : State} {n side aia : Nat} (hκ : Sub 139 κ) (hσ : Keeps κ σ s) :
    Keeps κ σ (State.mbSignal s n side aia) := by
  have k0 : Sub 136 κ := Sub.trans (by decide : 136 &&& 139 = 136) hκ
  have k1 : Sub 139 κ := Sub.trans (by decide : 139 &&& 139 = 139) hκ
  unfold State.mbSignal
  repeat' first
    | with_reducible assumption
    | with_reducible apply State.sendMsix_keeps k0
    | with_reducible apply State.sendAia_keeps k1
    | with_reducible apply ite_keeps

theorem State.mbSignalRx_keeps {κ : Nat} {σ : State} {s : State} {n : Nat} (hκ : Sub 139 κ) (hσ : Keeps κ σ s) :
    Keeps κ σ (State.mbSignalRx s n) := by
  have k0 : Sub 139 κ := Sub.trans (by decide : 139 &&& 139 = 139) hκ
  unfold State.mbSignalRx
  repeat' first
    | with_reducible assumption
    | with_reducible apply State.mbSignal_keeps k0

theorem State.mbSignalTx_keeps {κ : Nat} {σ : State} {s : State} {n : Nat} (hκ : Sub 139 κ) (hσ : Keeps κ σ s) :
    Keeps κ σ (State.mbSignalTx s n) := by
  have k0 : Sub 139 κ := Sub.trans (by decide : 139 &&& 139 = 139) hκ
  unfold State.mbSignalTx
  repeat' first
    | with_reducible assumption
    | with_reducible apply State.mbSignal_keeps k0

theorem State.mbEmpty_keeps {κ : Nat} {σ : State} {s : State} {n : Nat} (hκ : Sub 32769 κ) (hσ : Keeps κ σ s) :
    Keeps κ σ (State.mbEmpty s n) := by
  have k0 : Sub 1 κ := Sub.trans (by decide : 1 &&& 32769 = 1) hκ
  have k1 : Sub 32768 κ := Sub.trans (by decide : 32768 &&& 32769 = 32768) hκ
  unfold State.mbEmpty
  repeat' first
    | with_reducible assumption
    | with_reducible apply State.put_keeps k0
    | with_reducible apply State.onCor_keeps k1
    | with_reducible refine forEach_keeps (fun _ _ _ => ?_) ?_
    | intro _
    | dsimp -simprocs only
    | dsimp only

theorem State.abandonPush_keeps {κ : Nat} {σ : State} {h : HeldPush} {s : State} (hκ : Sub 16777355 κ) (hσ : Keeps κ σ s) :
    Keeps κ σ (State.abandonPush h s) := by
  have k0 : Sub 2 κ := Sub.trans (by decide : 2 &&& 16777355 = 2) hκ
  have k1 : Sub 139 κ := Sub.trans (by decide : 139 &&& 16777355 = 139) hκ
  have k2 : Sub 16777226 κ := Sub.trans (by decide : 16777226 &&& 16777355 = 16777226) hκ
  unfold State.abandonPush
  repeat' first
    | with_reducible assumption
    | with_reducible apply State.count_keeps k0
    | with_reducible apply State.raise_keeps k1
    | with_reducible apply State.answer_keeps k2

theorem State.dropPushes_keeps {κ : Nat} {σ : State} {s : State} {f : HeldPush → Bool} (hκ : Sub 16777691 κ) (hσ : Keeps κ σ s) :
    Keeps κ σ (State.dropPushes s f) := by
  have k0 : Sub 16777355 κ := Sub.trans (by decide : 16777355 &&& 16777691 = 16777355) hκ
  have k1 : Sub 256 κ := Sub.trans (by decide : 256 &&& 16777691 = 256) hκ
  have k2 : Sub 16777691 κ := Sub.trans (by decide : 16777691 &&& 16777691 = 16777691) hκ
  unfold State.dropPushes
  repeat' first
    | with_reducible assumption
    | with_reducible apply State.abandonPush_keeps k0
    | with_reducible apply State.setQue_keeps k1
    | with_reducible apply State.queueReads_keeps k2
    | with_reducible refine forEach_keeps (fun _ _ _ => ?_) ?_

theorem State.reclaimFrom_keeps {κ : Nat} {σ : State} {p n : Nat} {s : State} (hκ : Sub 139 κ) (hσ : Keeps κ σ s) :
    Keeps κ σ (State.reclaimFrom p n s) := by
  have k0 : Sub 1 κ := Sub.trans (by decide : 1 &&& 139 = 1) hκ
  have k1 : Sub 139 κ := Sub.trans (by decide : 139 &&& 139 = 139) hκ
  unfold State.reclaimFrom
  repeat' first
    | with_reducible assumption
    | with_reducible apply State.put_keeps k0
    | with_reducible apply State.raise_keeps k1
    | with_reducible apply ite_keeps

theorem State.reclaimAll_keeps {κ : Nat} {σ : State} {s : State} {p : Nat} (hκ : Sub 139 κ) (hσ : Keeps κ σ s) :
    Keeps κ σ (State.reclaimAll s p) := by
  have k0 : Sub 139 κ := Sub.trans (by decide : 139 &&& 139 = 139) hκ
  unfold State.reclaimAll
  repeat' first
    | with_reducible assumption
    | with_reducible apply State.reclaimFrom_keeps k0
    | with_reducible refine forEach_keeps (fun _ _ _ => ?_) ?_

theorem State.restartCore_keeps {κ : Nat} {σ : State} {p k : Nat} {s : State} (hκ : Sub 9 κ) (hσ : Keeps κ σ s) :
    Keeps κ σ (State.restartCore p k s) := by
  have k0 : Sub 1 κ := Sub.trans (by decide : 1 &&& 9 = 1) hκ
  have k1 : Sub 8 κ := Sub.trans (by decide : 8 &&& 9 = 8) hκ
  unfold State.restartCore
  repeat' first
    | with_reducible assumption
    | with_reducible apply State.put_keeps k0
    | with_reducible apply State.emit_keeps k1
    | with_reducible apply ite_keeps
    | split

theorem State.mbRestart_keeps {κ : Nat} {σ : State} {p n : Nat} {s : State} (hκ : Sub 32769 κ) (hσ : Keeps κ σ s) :
    Keeps κ σ (State.mbRestart p n s) := by
  have k0 : Sub 32769 κ := Sub.trans (by decide : 32769 &&& 32769 = 32769) hκ
  have k1 : Sub 1 κ := Sub.trans (by decide : 1 &&& 32769 = 1) hκ
  unfold State.mbRestart
  repeat' first
    | with_reducible assumption
    | with_reducible apply State.mbEmpty_keeps k0
    | with_reducible apply State.put_keeps k1
    | with_reducible apply ite_keeps
    | dsimp -simprocs only
    | dsimp only

theorem State.restartPart_keeps {κ : Nat} {σ : State} {s : State} {p : Nat} (hκ : Sub 25199071 κ) (hσ : Keeps κ σ s) :
    Keeps κ σ (State.restartPart s p) := by
  have k0 : Sub 9 κ := Sub.trans (by decide : 9 &&& 25199071 = 9) hκ
  have k1 : Sub 32768 κ := Sub.trans (by decide : 32768 &&& 25199071 = 32768) hκ
  have k2 : Sub 16777691 κ := Sub.trans (by decide : 16777691 &&& 25199071 = 16777691) hκ
  have k3 : Sub 8388751 κ := Sub.trans (by decide : 8388751 &&& 25199071 = 8388751) hκ
  have k4 : Sub 32769 κ := Sub.trans (by decide : 32769 &&& 25199071 = 32769) hκ
  have k5 : Sub 139 κ := Sub.trans (by decide : 139 &&& 25199071 = 139) hκ
  have k6 : Sub 2 κ := Sub.trans (by decide : 2 &&& 25199071 = 2) hκ
  unfold State.restartPart
  repeat' first
    | with_reducible assumption
    | with_reducible apply State.restartCore_keeps k0
    | with_reducible apply State.wdSync_keeps k1
    | with_reducible apply State.dropPushes_keeps k2
    | with_reducible apply State.roundOff_keeps k3
    | with_reducible apply State.mbRestart_keeps k4
    | with_reducible apply State.reclaimAll_keeps k5
    | with_reducible apply State.wdLoad_keeps k1
    | with_reducible apply State.count_keeps k6
    | with_reducible apply State.raise_keeps k5
    | with_reducible apply ite_keeps
    | with_reducible refine forEach_keeps (fun _ _ _ => ?_) ?_
    | intro _
    | dsimp -simprocs only
    | dsimp only

end Sys2Proof.Machine
end

