-- ==== Sys2Proof/Laws/KeepsLdcOps.lean ====
section
/-! SUPPORT. What each operation of Machine/LdcOps may do to State. -/
namespace Sys2Proof.Machine

theorem State.setCh_keeps {κ : Nat} {σ : State} {s : State} {n : Nat} {v : LdcCh} (hκ : Sub 65536 κ) (hσ : Keeps κ σ s) :
    Keeps κ σ (State.setCh s n v) := by
  have k0 : Sub 65536 κ := Sub.trans (by decide : 65536 &&& 65536 = 65536) hκ
  unfold State.setCh
  repeat' first
    | with_reducible assumption
    | with_reducible apply State.setLdc_keeps k0

theorem State.setBank_keeps {κ : Nat} {σ : State} {s : State} {b : Nat} {v : LdcBank} (hκ : Sub 65675 κ) (hσ : Keeps κ σ s) :
    Keeps κ σ (State.setBank s b v) := by
  have k0 : Sub 65536 κ := Sub.trans (by decide : 65536 &&& 65675 = 65536) hκ
  have k1 : Sub 1 κ := Sub.trans (by decide : 1 &&& 65675 = 1) hκ
  have k2 : Sub 65675 κ := Sub.trans (by decide : 65675 &&& 65675 = 65675) hκ
  unfold State.setBank
  repeat' first
    | with_reducible assumption
    | with_reducible apply State.setLdc_keeps k0
    | with_reducible apply State.put_keeps k1
    | with_reducible apply State.castOff_keeps k2
    | dsimp -simprocs only
    | dsimp only
    | split

theorem State.ungroup_keeps {κ : Nat} {σ : State} {n : Nat} {s : State} (hκ : Sub 1 κ) (hσ : Keeps κ σ s) :
    Keeps κ σ (State.ungroup n s) := by
  have k0 : Sub 1 κ := Sub.trans (by decide : 1 &&& 1 = 1) hκ
  unfold State.ungroup
  repeat' first
    | with_reducible assumption
    | with_reducible apply State.put_keeps k0
    | with_reducible apply ite_keeps

theorem State.relead_keeps {κ : Nat} {σ : State} {s : State} {b : Nat} (hκ : Sub 1 κ) (hσ : Keeps κ σ s) :
    Keeps κ σ (State.relead s b) := by
  have k0 : Sub 1 κ := Sub.trans (by decide : 1 &&& 1 = 1) hκ
  unfold State.relead
  repeat' first
    | with_reducible assumption
    | with_reducible apply State.ungroup_keeps k0
    | with_reducible apply State.put_keeps k0
    | with_reducible refine forEach_keeps (fun _ _ _ => ?_) ?_
    | dsimp -simprocs only
    | dsimp only

theorem State.toState_keeps {κ : Nat} {σ : State} {s : State} {l v : Nat} (hκ : Sub 1 κ) (hσ : Keeps κ σ s) :
    Keeps κ σ (State.toState s l v) := by
  have k0 : Sub 1 κ := Sub.trans (by decide : 1 &&& 1 = 1) hκ
  unfold State.toState
  repeat' first
    | with_reducible assumption
    | with_reducible apply State.put_keeps k0
    | with_reducible apply ite_keeps
    | with_reducible refine forEach_keeps (fun _ _ _ => ?_) ?_
    | dsimp -simprocs only
    | dsimp only

theorem State.setPwm_keeps {κ : Nat} {σ : State} {s : State} {l : Nat} {on : Bool} (hκ : Sub 1 κ) (hσ : Keeps κ σ s) :
    Keeps κ σ (State.setPwm s l on) := by
  have k0 : Sub 1 κ := Sub.trans (by decide : 1 &&& 1 = 1) hκ
  unfold State.setPwm
  repeat' first
    | with_reducible assumption
    | with_reducible apply State.put_keeps k0
    | with_reducible refine forEach_keeps (fun _ _ _ => ?_) ?_

theorem State.enterOn_keeps {κ : Nat} {σ : State} {s : State} {l : Nat} (hκ : Sub 65537 κ) (hσ : Keeps κ σ s) :
    Keeps κ σ (State.enterOn s l) := by
  have k0 : Sub 1 κ := Sub.trans (by decide : 1 &&& 65537 = 1) hκ
  have k1 : Sub 65536 κ := Sub.trans (by decide : 65536 &&& 65537 = 65536) hκ
  unfold State.enterOn
  repeat' first
    | with_reducible assumption
    | with_reducible apply State.toState_keeps k0
    | with_reducible apply State.setCh_keeps k1

theorem State.enterInrush_keeps {κ : Nat} {σ : State} {s : State} {l : Nat} (hκ : Sub 65537 κ) (hσ : Keeps κ σ s) :
    Keeps κ σ (State.enterInrush s l) := by
  have k0 : Sub 1 κ := Sub.trans (by decide : 1 &&& 65537 = 1) hκ
  have k1 : Sub 65536 κ := Sub.trans (by decide : 65536 &&& 65537 = 65536) hκ
  have k2 : Sub 65537 κ := Sub.trans (by decide : 65537 &&& 65537 = 65537) hκ
  unfold State.enterInrush
  repeat' first
    | with_reducible assumption
    | with_reducible apply State.toState_keeps k0
    | with_reducible apply State.setCh_keeps k1
    | with_reducible apply State.enterOn_keeps k2
    | with_reducible apply ite_keeps
    | dsimp -simprocs only
    | dsimp only

theorem State.startCh_keeps {κ : Nat} {σ : State} {s : State} {l : Nat} (hκ : Sub 65537 κ) (hσ : Keeps κ σ s) :
    Keeps κ σ (State.startCh s l) := by
  have k0 : Sub 65536 κ := Sub.trans (by decide : 65536 &&& 65537 = 65536) hκ
  have k1 : Sub 65537 κ := Sub.trans (by decide : 65537 &&& 65537 = 65537) hκ
  have k2 : Sub 1 κ := Sub.trans (by decide : 1 &&& 65537 = 1) hκ
  unfold State.startCh
  repeat' first
    | with_reducible assumption
    | with_reducible apply State.setCh_keeps k0
    | with_reducible apply State.enterInrush_keeps k1
    | with_reducible apply State.setPwm_keeps k2
    | dsimp -simprocs only
    | dsimp only

theorem State.chEvent_keeps {κ : Nat} {σ : State} {s : State} {n : Nat} {e : Fld} (hκ : Sub 139 κ) (hσ : Keeps κ σ s) :
    Keeps κ σ (State.chEvent s n e) := by
  have k0 : Sub 1 κ := Sub.trans (by decide : 1 &&& 139 = 1) hκ
  have k1 : Sub 139 κ := Sub.trans (by decide : 139 &&& 139 = 139) hκ
  unfold State.chEvent
  repeat' first
    | with_reducible assumption
    | with_reducible apply State.set1_keeps k0
    | with_reducible apply State.put_keeps k0
    | with_reducible apply State.raise_keeps k1
    | with_reducible apply ite_keeps
    | dsimp -simprocs only
    | dsimp only

theorem State.bankEvent_keeps {κ : Nat} {σ : State} {s : State} {b : Nat} {e : Fld} (hκ : Sub 139 κ) (hσ : Keeps κ σ s) :
    Keeps κ σ (State.bankEvent s b e) := by
  have k0 : Sub 139 κ := Sub.trans (by decide : 139 &&& 139 = 139) hκ
  unfold State.bankEvent
  repeat' first
    | with_reducible assumption
    | with_reducible apply State.raise_keeps k0
    | with_reducible apply ite_keeps

theorem State.dieCount_keeps {κ : Nat} {σ : State} {s : State} {b c : Nat} (hκ : Sub 2 κ) (hσ : Keeps κ σ s) :
    Keeps κ σ (State.dieCount s b c) := by
  have k0 : Sub 2 κ := Sub.trans (by decide : 2 &&& 2 = 2) hκ
  unfold State.dieCount
  repeat' first
    | with_reducible assumption
    | with_reducible apply State.count_keeps k0
    | with_reducible apply ite_keeps

theorem State.shedCh_keeps {κ : Nat} {σ : State} {l : Nat} {s : State} (hκ : Sub 139 κ) (hσ : Keeps κ σ s) :
    Keeps κ σ (State.shedCh l s) := by
  have k0 : Sub 1 κ := Sub.trans (by decide : 1 &&& 139 = 1) hκ
  have k1 : Sub 139 κ := Sub.trans (by decide : 139 &&& 139 = 139) hκ
  unfold State.shedCh
  repeat' first
    | with_reducible assumption
    | with_reducible apply State.toState_keeps k0
    | with_reducible apply State.chEvent_keeps k1
    | with_reducible apply ite_keeps

theorem State.resumeCh_keeps {κ : Nat} {σ : State} {l : Nat} {s : State} (hκ : Sub 65537 κ) (hσ : Keeps κ σ s) :
    Keeps κ σ (State.resumeCh l s) := by
  have k0 : Sub 65537 κ := Sub.trans (by decide : 65537 &&& 65537 = 65537) hκ
  have k1 : Sub 1 κ := Sub.trans (by decide : 1 &&& 65537 = 1) hκ
  unfold State.resumeCh
  repeat' first
    | with_reducible assumption
    | with_reducible apply State.startCh_keeps k0
    | with_reducible apply State.toState_keeps k1
    | with_reducible apply ite_keeps

theorem State.unshedCh_keeps {κ : Nat} {σ : State} {l : Nat} {s : State} (hκ : Sub 65537 κ) (hσ : Keeps κ σ s) :
    Keeps κ σ (State.unshedCh l s) := by
  have k0 : Sub 65537 κ := Sub.trans (by decide : 65537 &&& 65537 = 65537) hκ
  unfold State.unshedCh
  repeat' first
    | with_reducible assumption
    | with_reducible apply State.resumeCh_keeps k0
    | with_reducible apply ite_keeps

theorem State.applyShed_keeps {κ : Nat} {σ : State} {s : State} (hκ : Sub 65675 κ) (hσ : Keeps κ σ s) :
    Keeps κ σ (State.applyShed s) := by
  have k0 : Sub 65537 κ := Sub.trans (by decide : 65537 &&& 65675 = 65537) hκ
  have k1 : Sub 139 κ := Sub.trans (by decide : 139 &&& 65675 = 139) hκ
  unfold State.applyShed
  repeat' first
    | with_reducible assumption
    | with_reducible apply State.unshedCh_keeps k0
    | with_reducible apply State.shedCh_keeps k1
    | with_reducible refine forEach_keeps (fun _ _ _ => ?_) ?_

theorem State.writeShed_keeps {κ : Nat} {σ : State} {s : State} {v : Nat} (hκ : Sub 65675 κ) (hσ : Keeps κ σ s) :
    Keeps κ σ (State.writeShed s v) := by
  have k0 : Sub 1 κ := Sub.trans (by decide : 1 &&& 65675 = 1) hκ
  have k1 : Sub 65675 κ := Sub.trans (by decide : 65675 &&& 65675 = 65675) hκ
  unfold State.writeShed
  repeat' first
    | with_reducible assumption
    | with_reducible apply State.put_keeps k0
    | with_reducible apply State.applyShed_keeps k1

theorem State.holdCh_keeps {κ : Nat} {σ : State} {l : Nat} {s : State} (hκ : Sub 1 κ) (hσ : Keeps κ σ s) :
    Keeps κ σ (State.holdCh l s) := by
  have k0 : Sub 1 κ := Sub.trans (by decide : 1 &&& 1 = 1) hκ
  unfold State.holdCh
  repeat' first
    | with_reducible assumption
    | with_reducible apply State.toState_keeps k0
    | with_reducible apply ite_keeps

theorem State.holdTied_keeps {κ : Nat} {σ : State} {s : State} (hκ : Sub 1 κ) (hσ : Keeps κ σ s) :
    Keeps κ σ (State.holdTied s) := by
  have k0 : Sub 1 κ := Sub.trans (by decide : 1 &&& 1 = 1) hκ
  unfold State.holdTied
  repeat' first
    | with_reducible assumption
    | with_reducible apply State.holdCh_keeps k0
    | with_reducible refine forEach_keeps (fun _ _ _ => ?_) ?_

theorem State.unholdAll_keeps {κ : Nat} {σ : State} {s : State} (hκ : Sub 65675 κ) (hσ : Keeps κ σ s) :
    Keeps κ σ (State.unholdAll s) := by
  have k0 : Sub 65537 κ := Sub.trans (by decide : 65537 &&& 65675 = 65537) hκ
  have k1 : Sub 65675 κ := Sub.trans (by decide : 65675 &&& 65675 = 65675) hκ
  unfold State.unholdAll
  repeat' first
    | with_reducible assumption
    | with_reducible apply State.resumeCh_keeps k0
    | with_reducible apply State.applyShed_keeps k1
    | with_reducible apply ite_keeps
    | with_reducible refine forEach_keeps (fun _ _ _ => ?_) ?_

theorem State.gaugeDue_keeps {κ : Nat} {σ : State} {s : State} (hκ : Sub 131072 κ) (hσ : Keeps κ σ s) :
    Keeps κ σ (State.gaugeDue s) := by
  have k0 : Sub 131072 κ := Sub.trans (by decide : 131072 &&& 131072 = 131072) hκ
  unfold State.gaugeDue
  repeat' first
    | with_reducible assumption
    | with_reducible apply State.setGau_keeps k0

theorem State.trip_keeps {κ : Nat} {σ : State} {s : State} {n kind : Nat} (hκ : Sub 196747 κ) (hσ : Keeps κ σ s) :
    Keeps κ σ (State.trip s n kind) := by
  have k0 : Sub 2 κ := Sub.trans (by decide : 2 &&& 196747 = 2) hκ
  have k1 : Sub 139 κ := Sub.trans (by decide : 139 &&& 196747 = 139) hκ
  have k2 : Sub 1 κ := Sub.trans (by decide : 1 &&& 196747 = 1) hκ
  have k3 : Sub 65675 κ := Sub.trans (by decide : 65675 &&& 196747 = 65675) hκ
  have k4 : Sub 65536 κ := Sub.trans (by decide : 65536 &&& 196747 = 65536) hκ
  have k5 : Sub 131072 κ := Sub.trans (by decide : 131072 &&& 196747 = 131072) hκ
  unfold State.trip
  repeat' first
    | with_reducible assumption
    | with_reducible apply State.dieCount_keeps k0
    | with_reducible apply State.chEvent_keeps k1
    | with_reducible apply State.put_keeps k2
    | with_reducible apply State.setBank_keeps k3
    | with_reducible apply State.toState_keeps k2
    | with_reducible apply State.setCh_keeps k4
    | with_reducible apply State.gaugeDue_keeps k5
    | with_reducible apply ite_keeps
    | dsimp -simprocs only
    | dsimp only
    | split

theorem State.castCh_keeps {κ : Nat} {σ : State} {l : Nat} {s : State} (hκ : Sub 65537 κ) (hσ : Keeps κ σ s) :
    Keeps κ σ (State.castCh l s) := by
  have k0 : Sub 1 κ := Sub.trans (by decide : 1 &&& 65537 = 1) hκ
  have k1 : Sub 65537 κ := Sub.trans (by decide : 65537 &&& 65537 = 65537) hκ
  have k2 : Sub 65536 κ := Sub.trans (by decide : 65536 &&& 65537 = 65536) hκ
  unfold State.castCh
  repeat' first
    | with_reducible assumption
    | with_reducible apply State.toState_keeps k0
    | with_reducible apply State.startCh_keeps k1
    | with_reducible apply State.setPwm_keeps k0
    | with_reducible apply State.setCh_keeps k2
    | with_reducible apply ite_keeps
    | dsimp -simprocs only
    | dsimp only
    | split

theorem State.castOff_keeps {κ : Nat} {σ : State} {s : State} {b : Nat} (hκ : Sub 65675 κ) (hσ : Keeps κ σ s) :
    Keeps κ σ (State.castOff s b) := by
  have k0 : Sub 2 κ := Sub.trans (by decide : 2 &&& 65675 = 2) hκ
  have k1 : Sub 65675 κ := Sub.trans (by decide : 65675 &&& 65675 = 65675) hκ
  have k2 : Sub 139 κ := Sub.trans (by decide : 139 &&& 65675 = 139) hκ
  have k3 : Sub 65537 κ := Sub.trans (by decide : 65537 &&& 65675 = 65537) hκ
  unfold State.castOff
  repeat' first
    | with_reducible assumption
    | with_reducible apply State.dieCount_keeps k0
    | with_reducible apply State.setBank_keeps k1
    | with_reducible apply State.bankEvent_keeps k2
    | with_reducible apply State.castCh_keeps k3
    | with_reducible apply ite_keeps
    | with_reducible refine forEach_keeps (fun _ _ _ => ?_) ?_
    | dsimp -simprocs only
    | dsimp only
    | split

theorem State.castOffAll_keeps {κ : Nat} {σ : State} {s : State} (hκ : Sub 65675 κ) (hσ : Keeps κ σ s) :
    Keeps κ σ (State.castOffAll s) := by
  have k0 : Sub 65675 κ := Sub.trans (by decide : 65675 &&& 65675 = 65675) hκ
  unfold State.castOffAll
  repeat' first
    | with_reducible assumption
    | with_reducible apply State.castOff_keeps k0
    | with_reducible refine forEach_keeps (fun _ _ _ => ?_) ?_

theorem State.matchCmd_keeps {κ : Nat} {σ : State} {l : Nat} {s : State} (hκ : Sub 65537 κ) (hσ : Keeps κ σ s) :
    Keeps κ σ (State.matchCmd l s) := by
  have k0 : Sub 1 κ := Sub.trans (by decide : 1 &&& 65537 = 1) hκ
  have k1 : Sub 65536 κ := Sub.trans (by decide : 65536 &&& 65537 = 65536) hκ
  unfold State.matchCmd
  repeat' first
    | with_reducible assumption
    | with_reducible apply State.put_keeps k0
    | with_reducible apply State.setCh_keeps k1
    | with_reducible apply ite_keeps
    | with_reducible apply ite_fst_keeps
    | with_reducible refine forEach_keeps (fun _ _ _ => ?_) ?_
    | dsimp -simprocs only
    | dsimp only

theorem State.armBank_keeps {κ : Nat} {σ : State} {b : Nat} {s : State} (hκ : Sub 65675 κ) (hσ : Keeps κ σ s) :
    Keeps κ σ (State.armBank b s) := by
  have k0 : Sub 65675 κ := Sub.trans (by decide : 65675 &&& 65675 = 65675) hκ
  have k1 : Sub 65537 κ := Sub.trans (by decide : 65537 &&& 65675 = 65537) hκ
  unfold State.armBank
  repeat' first
    | with_reducible assumption
    | with_reducible apply State.castOff_keeps k0
    | with_reducible apply State.matchCmd_keeps k1
    | with_reducible apply State.setBank_keeps k0
    | with_reducible apply ite_keeps
    | with_reducible refine forEach_keeps (fun _ _ _ => ?_) ?_
    | dsimp -simprocs only
    | dsimp only

end Sys2Proof.Machine
end

