-- ==== Sys2Proof/Laws/KeepsGaugeOps.lean ====
section
/-! SUPPORT. What each operation of Machine/GaugeOps may do to State. -/
namespace Sys2Proof.Machine

theorem State.onGau_keeps {κ : Nat} {σ : State} {s : State} {f : Gau → Gau} (hκ : Sub 131072 κ) (hσ : Keeps κ σ s) :
    Keeps κ σ (State.onGau s f) := by
  have k0 : Sub 131072 κ := Sub.trans (by decide : 131072 &&& 131072 = 131072) hκ
  unfold State.onGau
  repeat' first
    | with_reducible assumption
    | with_reducible apply State.setGau_keeps k0

theorem State.addEnergy_keeps {κ : Nat} {σ : State} {s : State} {i nj : Nat} (hκ : Sub 131072 κ) (hσ : Keeps κ σ s) :
    Keeps κ σ (State.addEnergy s i nj) := by
  have k0 : Sub 131072 κ := Sub.trans (by decide : 131072 &&& 131072 = 131072) hκ
  unfold State.addEnergy
  repeat' first
    | with_reducible assumption
    | with_reducible apply State.onGau_keeps k0
    | with_reducible apply ite_keeps
    | intro _
    | dsimp -simprocs only
    | dsimp only

theorem State.showLeft_keeps {κ : Nat} {σ : State} {s : State} {before : Int} (hκ : Sub 139 κ) (hσ : Keeps κ σ s) :
    Keeps κ σ (State.showLeft s before) := by
  have k0 : Sub 1 κ := Sub.trans (by decide : 1 &&& 139 = 1) hκ
  have k1 : Sub 139 κ := Sub.trans (by decide : 139 &&& 139 = 139) hκ
  unfold State.showLeft
  repeat' first
    | with_reducible assumption
    | with_reducible apply State.put_keeps k0
    | with_reducible apply State.raise_keeps k1
    | with_reducible apply ite_keeps
    | dsimp -simprocs only
    | dsimp only

theorem State.gapCharge_keeps {κ : Nat} {σ : State} {ns b : Nat} {s : State} (hκ : Sub 131072 κ) (hσ : Keeps κ σ s) :
    Keeps κ σ (State.gapCharge ns b s) := by
  have k0 : Sub 131072 κ := Sub.trans (by decide : 131072 &&& 131072 = 131072) hκ
  unfold State.gapCharge
  repeat' first
    | with_reducible assumption
    | with_reducible apply State.addEnergy_keeps k0
    | with_reducible refine forEach_keeps (fun _ _ _ => ?_) ?_

theorem State.monitor_keeps {κ : Nat} {σ : State} {s : State} (hκ : Sub 131227 κ) (hσ : Keeps κ σ s) :
    Keeps κ σ (State.monitor s) := by
  have k0 : Sub 131072 κ := Sub.trans (by decide : 131072 &&& 131227 = 131072) hκ
  have k1 : Sub 16 κ := Sub.trans (by decide : 16 &&& 131227 = 16) hκ
  have k2 : Sub 139 κ := Sub.trans (by decide : 139 &&& 131227 = 139) hκ
  unfold State.monitor
  repeat' first
    | with_reducible assumption
    | with_reducible apply State.addEnergy_keeps k0
    | with_reducible apply State.onGau_keeps k0
    | with_reducible apply State.gapCharge_keeps k0
    | with_reducible apply State.drawn_keeps k1
    | with_reducible apply State.showLeft_keeps k2
    | with_reducible apply ite_keeps
    | with_reducible refine forEach_keeps (fun _ _ _ => ?_) ?_
    | intro _
    | dsimp -simprocs only
    | dsimp only

theorem State.gauAct_keeps {κ : Nat} {σ : State} {s : State} {d : Int} (hκ : Sub 131072 κ) (hσ : Keeps κ σ s) :
    Keeps κ σ (State.gauAct s d) := by
  have k0 : Sub 131072 κ := Sub.trans (by decide : 131072 &&& 131072 = 131072) hκ
  unfold State.gauAct
  repeat' first
    | with_reducible assumption
    | with_reducible apply State.onGau_keeps k0
    | intro _

theorem State.newFloor_keeps {κ : Nat} {σ : State} {s : State} (hκ : Sub 131073 κ) (hσ : Keeps κ σ s) :
    Keeps κ σ (State.newFloor s) := by
  have k0 : Sub 131072 κ := Sub.trans (by decide : 131072 &&& 131073 = 131072) hκ
  have k1 : Sub 1 κ := Sub.trans (by decide : 1 &&& 131073 = 1) hκ
  unfold State.newFloor
  repeat' first
    | with_reducible assumption
    | with_reducible apply State.onGau_keeps k0
    | with_reducible apply State.put_keeps k1
    | with_reducible apply State.gaugeDue_keeps k0
    | intro _
    | dsimp -simprocs only
    | dsimp only

theorem State.energyRefuse_keeps {κ : Nat} {σ : State} {s : State} {d : Desc} (hκ : Sub 139 κ) (hσ : Keeps κ σ s) :
    Keeps κ σ (State.energyRefuse s d) := by
  have k0 : Sub 1 κ := Sub.trans (by decide : 1 &&& 139 = 1) hκ
  have k1 : Sub 2 κ := Sub.trans (by decide : 2 &&& 139 = 2) hκ
  have k2 : Sub 139 κ := Sub.trans (by decide : 139 &&& 139 = 139) hκ
  have k3 : Sub 128 κ := Sub.trans (by decide : 128 &&& 139 = 128) hκ
  unfold State.energyRefuse
  repeat' first
    | with_reducible assumption
    | with_reducible apply State.put_keeps k0
    | with_reducible apply State.count_keeps k1
    | with_reducible apply State.raise_keeps k2
    | with_reducible apply State.finish_keeps k3
    | dsimp -simprocs only
    | dsimp only

theorem State.showEngines_keeps {κ : Nat} {σ : State} {s : State} (hκ : Sub 1 κ) (hσ : Keeps κ σ s) :
    Keeps κ σ (State.showEngines s) := by
  have k0 : Sub 1 κ := Sub.trans (by decide : 1 &&& 1 = 1) hκ
  unfold State.showEngines
  repeat' first
    | with_reducible assumption
    | with_reducible apply State.put_keeps k0
    | with_reducible apply State.countEngines_keeps k0
    | with_reducible refine forEach_keeps (fun _ _ _ => ?_) ?_
    | dsimp -simprocs only
    | dsimp only
    | split

theorem State.moveLevel_keeps {κ : Nat} {σ : State} {s : State} {l : Nat} (hκ : Sub 131073 κ) (hσ : Keeps κ σ s) :
    Keeps κ σ (State.moveLevel s l) := by
  have k0 : Sub 131072 κ := Sub.trans (by decide : 131072 &&& 131073 = 131072) hκ
  have k1 : Sub 1 κ := Sub.trans (by decide : 1 &&& 131073 = 1) hκ
  unfold State.moveLevel
  repeat' first
    | with_reducible assumption
    | with_reducible apply State.gauAct_keeps k0
    | with_reducible apply State.onGau_keeps k0
    | with_reducible apply State.showEngines_keeps k1
    | intro _

theorem State.propose_keeps {κ : Nat} {σ : State} {s : State} {l : Nat} (hκ : Sub 147457 κ) (hσ : Keeps κ σ s) :
    Keeps κ σ (State.propose s l) := by
  have k0 : Sub 131072 κ := Sub.trans (by decide : 131072 &&& 147457 = 131072) hκ
  have k1 : Sub 16384 κ := Sub.trans (by decide : 16384 &&& 147457 = 16384) hκ
  have k2 : Sub 16385 κ := Sub.trans (by decide : 16385 &&& 147457 = 16385) hκ
  unfold State.propose
  repeat' first
    | with_reducible assumption
    | with_reducible apply State.onGau_keeps k0
    | with_reducible apply State.onCht_keeps k1
    | with_reducible apply State.askChart_keeps k2
    | intro _
    | dsimp -simprocs only
    | dsimp only
    | split

theorem State.proposeFrom_keeps {κ : Nat} {σ : State} {s : State} {l : Nat} (hκ : Sub 147457 κ) (hσ : Keeps κ σ s) :
    Keeps κ σ (State.proposeFrom s l) := by
  have k0 : Sub 147457 κ := Sub.trans (by decide : 147457 &&& 147457 = 147457) hκ
  unfold State.proposeFrom
  repeat' first
    | with_reducible assumption
    | with_reducible apply State.propose_keeps k0
    | with_reducible apply ite_keeps
    | split

theorem State.levelRefused_keeps {κ : Nat} {σ : State} {s : State} {l : Nat} (hκ : Sub 147457 κ) (hσ : Keeps κ σ s) :
    Keeps κ σ (State.levelRefused s l) := by
  have k0 : Sub 131072 κ := Sub.trans (by decide : 131072 &&& 147457 = 131072) hκ
  have k1 : Sub 147457 κ := Sub.trans (by decide : 147457 &&& 147457 = 147457) hκ
  unfold State.levelRefused
  repeat' first
    | with_reducible assumption
    | with_reducible apply State.onGau_keeps k0
    | with_reducible apply State.proposeFrom_keeps k1
    | intro _
    | dsimp -simprocs only
    | dsimp only

theorem State.shedPrio_keeps {κ : Nat} {σ : State} {s : State} {k : Nat} (hκ : Sub 196747 κ) (hσ : Keeps κ σ s) :
    Keeps κ σ (State.shedPrio s k) := by
  have k0 : Sub 65675 κ := Sub.trans (by decide : 65675 &&& 196747 = 65675) hκ
  have k1 : Sub 131072 κ := Sub.trans (by decide : 131072 &&& 196747 = 131072) hκ
  have k2 : Sub 1 κ := Sub.trans (by decide : 1 &&& 196747 = 1) hκ
  have k3 : Sub 139 κ := Sub.trans (by decide : 139 &&& 196747 = 139) hκ
  unfold State.shedPrio
  repeat' first
    | with_reducible assumption
    | with_reducible apply State.writeShed_keeps k0
    | with_reducible apply State.gauAct_keeps k1
    | with_reducible apply State.put_keeps k2
    | with_reducible apply State.raise_keeps k3
    | dsimp -simprocs only
    | dsimp only
    | split

theorem State.shedSteps_keeps {κ : Nat} {σ : State} {all : Bool} {a0 : Nat} {a1 : State} (hκ : Sub 196747 κ) (hσ : Keeps κ σ a1) :
    Keeps κ σ (State.shedSteps all a0 a1) := by
  have k0 : Sub 196747 κ := Sub.trans (by decide : 196747 &&& 196747 = 196747) hκ
  fun_induction State.shedSteps all a0 a1
  all_goals repeat' first
    | with_reducible assumption
    | with_reducible apply State.shedPrio_keeps k0
    | with_reducible apply ite_keeps
    | dsimp -simprocs only
    | dsimp only
    | split
    | with_reducible apply_assumption

theorem State.setConsol_keeps {κ : Nat} {σ : State} {s : State} {on : Bool} (hκ : Sub 147595 κ) (hσ : Keeps κ σ s) :
    Keeps κ σ (State.setConsol s on) := by
  have k0 : Sub 1 κ := Sub.trans (by decide : 1 &&& 147595 = 1) hκ
  have k1 : Sub 139 κ := Sub.trans (by decide : 139 &&& 147595 = 139) hκ
  have k2 : Sub 16385 κ := Sub.trans (by decide : 16385 &&& 147595 = 16385) hκ
  have k3 : Sub 131072 κ := Sub.trans (by decide : 131072 &&& 147595 = 131072) hκ
  unfold State.setConsol
  repeat' first
    | with_reducible assumption
    | with_reducible apply State.put_keeps k0
    | with_reducible apply State.raise_keeps k1
    | with_reducible apply State.askChart_keeps k2
    | with_reducible apply State.onGau_keeps k3
    | with_reducible apply ite_keeps
    | intro _
    | dsimp -simprocs only
    | dsimp only

theorem State.floorState_keeps {κ : Nat} {σ : State} {s : State} (hκ : Sub 245899 κ) (hσ : Keeps κ σ s) :
    Keeps κ σ (State.floorState s) := by
  have k0 : Sub 1 κ := Sub.trans (by decide : 1 &&& 245899 = 1) hκ
  have k1 : Sub 139 κ := Sub.trans (by decide : 139 &&& 245899 = 139) hκ
  have k2 : Sub 32907 κ := Sub.trans (by decide : 32907 &&& 245899 = 32907) hκ
  have k3 : Sub 16385 κ := Sub.trans (by decide : 16385 &&& 245899 = 16385) hκ
  have k4 : Sub 196747 κ := Sub.trans (by decide : 196747 &&& 245899 = 196747) hκ
  have k5 : Sub 147595 κ := Sub.trans (by decide : 147595 &&& 245899 = 147595) hκ
  have k6 : Sub 147457 κ := Sub.trans (by decide : 147457 &&& 245899 = 147457) hκ
  unfold State.floorState
  repeat' first
    | with_reducible assumption
    | with_reducible apply State.put_keeps k0
    | with_reducible apply State.raise_keeps k1
    | with_reducible apply State.suspendComfort_keeps k2
    | with_reducible apply State.askChart_keeps k3
    | with_reducible apply State.shedSteps_keeps k4
    | with_reducible apply State.setConsol_keeps k5
    | with_reducible apply State.propose_keeps k6
    | with_reducible apply State.proposeFrom_keeps k6
    | with_reducible apply ite_keeps
    | dsimp -simprocs only
    | dsimp only

theorem State.leaveFloor_keeps {κ : Nat} {σ : State} {s : State} (hκ : Sub 49291 κ) (hσ : Keeps κ σ s) :
    Keeps κ σ (State.leaveFloor s) := by
  have k0 : Sub 1 κ := Sub.trans (by decide : 1 &&& 49291 = 1) hκ
  have k1 : Sub 32907 κ := Sub.trans (by decide : 32907 &&& 49291 = 32907) hκ
  have k2 : Sub 16385 κ := Sub.trans (by decide : 16385 &&& 49291 = 16385) hκ
  unfold State.leaveFloor
  repeat' first
    | with_reducible assumption
    | with_reducible apply State.put_keeps k0
    | with_reducible apply State.suspendComfort_keeps k1
    | with_reducible apply State.askChart_keeps k2
    | with_reducible apply ite_keeps

theorem State.reduce_keeps {κ : Nat} {σ : State} {s : State} (hκ : Sub 213131 κ) (hσ : Keeps κ σ s) :
    Keeps κ σ (State.reduce s) := by
  have k0 : Sub 196747 κ := Sub.trans (by decide : 196747 &&& 213131 = 196747) hκ
  have k1 : Sub 147595 κ := Sub.trans (by decide : 147595 &&& 213131 = 147595) hκ
  have k2 : Sub 147457 κ := Sub.trans (by decide : 147457 &&& 213131 = 147457) hκ
  have k3 : Sub 1 κ := Sub.trans (by decide : 1 &&& 213131 = 1) hκ
  have k4 : Sub 139 κ := Sub.trans (by decide : 139 &&& 213131 = 139) hκ
  unfold State.reduce
  repeat' first
    | with_reducible assumption
    | with_reducible apply State.shedSteps_keeps k0
    | with_reducible apply State.setConsol_keeps k1
    | with_reducible apply State.propose_keeps k2
    | with_reducible apply State.put_keeps k3
    | with_reducible apply State.raise_keeps k4
    | with_reducible apply ite_keeps
    | dsimp -simprocs only
    | dsimp only
    | split

theorem State.undo_keeps {κ : Nat} {σ : State} {s : State} {u : Undo} (hκ : Sub 213131 κ) (hσ : Keeps κ σ s) :
    Keeps κ σ (State.undo s u) := by
  have k0 : Sub 147457 κ := Sub.trans (by decide : 147457 &&& 213131 = 147457) hκ
  have k1 : Sub 131073 κ := Sub.trans (by decide : 131073 &&& 213131 = 131073) hκ
  have k2 : Sub 147595 κ := Sub.trans (by decide : 147595 &&& 213131 = 147595) hκ
  have k3 : Sub 65675 κ := Sub.trans (by decide : 65675 &&& 213131 = 65675) hκ
  have k4 : Sub 131072 κ := Sub.trans (by decide : 131072 &&& 213131 = 131072) hκ
  have k5 : Sub 1 κ := Sub.trans (by decide : 1 &&& 213131 = 1) hκ
  have k6 : Sub 139 κ := Sub.trans (by decide : 139 &&& 213131 = 139) hκ
  unfold State.undo
  repeat' first
    | with_reducible assumption
    | with_reducible apply State.propose_keeps k0
    | with_reducible apply State.moveLevel_keeps k1
    | with_reducible apply State.setConsol_keeps k2
    | with_reducible apply State.writeShed_keeps k3
    | with_reducible apply State.gauAct_keeps k4
    | with_reducible apply State.put_keeps k5
    | with_reducible apply State.raise_keeps k6
    | with_reducible apply ite_keeps
    | dsimp -simprocs only
    | dsimp only
    | split

theorem State.evalMains_keeps {κ : Nat} {σ : State} {s : State} (hκ : Sub 245899 κ) (hσ : Keeps κ σ s) :
    Keeps κ σ (State.evalMains s) := by
  have k0 : Sub 49291 κ := Sub.trans (by decide : 49291 &&& 245899 = 49291) hκ
  have k1 : Sub 147457 κ := Sub.trans (by decide : 147457 &&& 245899 = 147457) hκ
  have k2 : Sub 213131 κ := Sub.trans (by decide : 213131 &&& 245899 = 213131) hκ
  unfold State.evalMains
  repeat' first
    | with_reducible assumption
    | with_reducible apply State.leaveFloor_keeps k0
    | with_reducible apply State.proposeFrom_keeps k1
    | with_reducible apply State.undo_keeps k2
    | with_reducible apply ite_keeps
    | dsimp -simprocs only
    | dsimp only
    | split

theorem State.evalBattery_keeps {κ : Nat} {σ : State} {s : State} (hκ : Sub 245899 κ) (hσ : Keeps κ σ s) :
    Keeps κ σ (State.evalBattery s) := by
  have k0 : Sub 49291 κ := Sub.trans (by decide : 49291 &&& 245899 = 49291) hκ
  have k1 : Sub 213131 κ := Sub.trans (by decide : 213131 &&& 245899 = 213131) hκ
  have k2 : Sub 1 κ := Sub.trans (by decide : 1 &&& 245899 = 1) hκ
  have k3 : Sub 147457 κ := Sub.trans (by decide : 147457 &&& 245899 = 147457) hκ
  unfold State.evalBattery
  repeat' first
    | with_reducible assumption
    | with_reducible apply State.leaveFloor_keeps k0
    | with_reducible apply State.reduce_keeps k1
    | with_reducible apply State.put_keeps k2
    | with_reducible apply State.proposeFrom_keeps k3
    | with_reducible apply State.undo_keeps k1
    | with_reducible apply ite_keeps
    | dsimp -simprocs only
    | dsimp only
    | split

theorem State.evaluate_keeps {κ : Nat} {σ : State} {s : State} (hκ : Sub 245899 κ) (hσ : Keeps κ σ s) :
    Keeps κ σ (State.evaluate s) := by
  have k0 : Sub 131072 κ := Sub.trans (by decide : 131072 &&& 245899 = 131072) hκ
  have k1 : Sub 1 κ := Sub.trans (by decide : 1 &&& 245899 = 1) hκ
  have k2 : Sub 245899 κ := Sub.trans (by decide : 245899 &&& 245899 = 245899) hκ
  unfold State.evaluate
  repeat' first
    | with_reducible assumption
    | with_reducible apply State.onGau_keeps k0
    | with_reducible apply State.put_keeps k1
    | with_reducible apply State.evalMains_keeps k2
    | with_reducible apply State.floorState_keeps k2
    | with_reducible apply State.evalBattery_keeps k2
    | with_reducible apply ite_keeps
    | intro _
    | dsimp -simprocs only
    | dsimp only

end Sys2Proof.Machine
end

