-- ==== Sys2Proof/Laws/KeepsPly.lean ====
section
/-! SUPPORT. What each operation of Machine/Ply may do to State. -/
namespace Sys2Proof.Machine

theorem State.plyLate_keeps {κ : Nat} {σ : State} {s : State} {k i : Nat} (hκ : Sub 16523 κ) (hσ : Keeps κ σ s) :
    Keeps κ σ (State.plyLate s k i) := by
  have k0 : Sub 16384 κ := Sub.trans (by decide : 16384 &&& 16523 = 16384) hκ
  have k1 : Sub 1 κ := Sub.trans (by decide : 1 &&& 16523 = 1) hκ
  have k2 : Sub 2 κ := Sub.trans (by decide : 2 &&& 16523 = 2) hκ
  have k3 : Sub 139 κ := Sub.trans (by decide : 139 &&& 16523 = 139) hκ
  unfold State.plyLate
  repeat' first
    | with_reducible assumption
    | with_reducible apply State.lateEngine_keeps k0
    | with_reducible apply State.put_keeps k1
    | with_reducible apply State.count_keeps k2
    | with_reducible apply State.raise_keeps k3
    | with_reducible apply ite_keeps
    | dsimp -simprocs only
    | dsimp only
    | split

theorem State.plyStray_keeps {κ : Nat} {σ : State} {s : State} {g i : Nat} {dup : Bool} (hκ : Sub 139 κ) (hσ : Keeps κ σ s) :
    Keeps κ σ (State.plyStray s g i dup) := by
  have k0 : Sub 1 κ := Sub.trans (by decide : 1 &&& 139 = 1) hκ
  have k1 : Sub 2 κ := Sub.trans (by decide : 2 &&& 139 = 2) hκ
  have k2 : Sub 139 κ := Sub.trans (by decide : 139 &&& 139 = 139) hκ
  unfold State.plyStray
  repeat' first
    | with_reducible assumption
    | with_reducible apply State.put_keeps k0
    | with_reducible apply State.count_keeps k1
    | with_reducible apply State.raise_keeps k2
    | dsimp -simprocs only
    | dsimp only

theorem State.sendSum_keeps {κ : Nat} {σ : State} {s : State} {g side : Nat} {a : PlyAcc} (hκ : Sub 1739 κ) (hσ : Keeps κ σ s) :
    Keeps κ σ (State.sendSum s g side a) := by
  have k0 : Sub 1739 κ := Sub.trans (by decide : 1739 &&& 1739 = 1739) hκ
  unfold State.sendSum
  repeat' first
    | with_reducible assumption
    | with_reducible apply State.enqueue_keeps k0
    | with_reducible apply ite_keeps
    | dsimp -simprocs only
    | dsimp only

theorem State.plyEmit_keeps {κ : Nat} {σ : State} {s : State} {k : Nat} (hκ : Sub 1739 κ) (hσ : Keeps κ σ s) :
    Keeps κ σ (State.plyEmit s k) := by
  have k0 : Sub 1739 κ := Sub.trans (by decide : 1739 &&& 1739 = 1739) hκ
  have k1 : Sub 512 κ := Sub.trans (by decide : 512 &&& 1739 = 512) hκ
  have k2 : Sub 2 κ := Sub.trans (by decide : 2 &&& 1739 = 2) hκ
  have k3 : Sub 139 κ := Sub.trans (by decide : 139 &&& 1739 = 139) hκ
  unfold State.plyEmit
  repeat' first
    | with_reducible assumption
    | with_reducible apply State.sendSum_keeps k0
    | with_reducible apply State.setPlyAcc_keeps k1
    | with_reducible apply State.count_keeps k2
    | with_reducible apply State.raise_keeps k3
    | with_reducible apply ite_keeps
    | dsimp -simprocs only
    | dsimp only

theorem State.plyOpen_keeps {κ : Nat} {σ : State} {s : State} {k time : Nat} (hκ : Sub 512 κ) (hσ : Keeps κ σ s) :
    Keeps κ σ (State.plyOpen s k time) := by
  have k0 : Sub 512 κ := Sub.trans (by decide : 512 &&& 512 = 512) hκ
  unfold State.plyOpen
  repeat' first
    | with_reducible assumption
    | with_reducible apply State.setPlyAcc_keeps k0
    | dsimp -simprocs only
    | dsimp only

theorem State.plyAdd_keeps {κ : Nat} {σ : State} {s : State} {k i : Nat} {b : Bytes} (hκ : Sub 1739 κ) (hσ : Keeps κ σ s) :
    Keeps κ σ (State.plyAdd s k i b) := by
  have k0 : Sub 139 κ := Sub.trans (by decide : 139 &&& 1739 = 139) hκ
  have k1 : Sub 512 κ := Sub.trans (by decide : 512 &&& 1739 = 512) hκ
  have k2 : Sub 1739 κ := Sub.trans (by decide : 1739 &&& 1739 = 1739) hκ
  unfold State.plyAdd
  repeat' first
    | with_reducible assumption
    | with_reducible apply State.plyStray_keeps k0
    | with_reducible apply State.setPlyAcc_keeps k1
    | with_reducible apply State.plyEmit_keeps k2
    | with_reducible apply ite_keeps
    | with_reducible apply ite_fst_keeps
    | dsimp -simprocs only
    | dsimp only
    | split

theorem State.plyTake_keeps {κ : Nat} {σ : State} {s : State} {k i time : Nat} {b : Bytes} (hκ : Sub 18123 κ) (hσ : Keeps κ σ s) :
    Keeps κ σ (State.plyTake s k i time b) := by
  have k0 : Sub 512 κ := Sub.trans (by decide : 512 &&& 18123 = 512) hκ
  have k1 : Sub 1739 κ := Sub.trans (by decide : 1739 &&& 18123 = 1739) hκ
  have k2 : Sub 16523 κ := Sub.trans (by decide : 16523 &&& 18123 = 16523) hκ
  unfold State.plyTake
  repeat' first
    | with_reducible assumption
    | with_reducible apply State.plyOpen_keeps k0
    | with_reducible apply State.plyAdd_keeps k1
    | with_reducible apply State.plyLate_keeps k2
    | with_reducible apply State.plyEmit_keeps k1
    | with_reducible apply ite_keeps
    | dsimp -simprocs only
    | dsimp only
    | split

theorem State.plyFrameIn_keeps {κ : Nat} {σ : State} {s : State} {b : Bytes} (hκ : Sub 18123 κ) (hσ : Keeps κ σ s) :
    Keeps κ σ (State.plyFrameIn s b) := by
  have k0 : Sub 139 κ := Sub.trans (by decide : 139 &&& 18123 = 139) hκ
  have k1 : Sub 18123 κ := Sub.trans (by decide : 18123 &&& 18123 = 18123) hκ
  unfold State.plyFrameIn
  repeat' first
    | with_reducible assumption
    | with_reducible apply State.plyStray_keeps k0
    | with_reducible apply State.plyTake_keeps k1
    | with_reducible apply ite_keeps
    | dsimp -simprocs only
    | dsimp only
    | split

theorem execPlyContribution_keeps {κ : Nat} {σ : State} {k : Nat} {s : State} (hκ : Sub 18123 κ) (hσ : Keeps κ σ s) :
    NextKeeps κ σ (execPlyContribution k s) := by
  have k0 : Sub 512 κ := Sub.trans (by decide : 512 &&& 18123 = 512) hκ
  have k1 : Sub 18123 κ := Sub.trans (by decide : 18123 &&& 18123 = 18123) hκ
  unfold execPlyContribution
  repeat' first
    | with_reducible assumption
    | with_reducible apply next_keeps
    | with_reducible apply ite_next_keeps
    | with_reducible apply State.onSwc_keeps k0
    | with_reducible apply State.plyFrameIn_keeps k1
    | with_reducible apply ite_keeps
    | intro _
    | split

theorem execPlyDeadline_keeps {κ : Nat} {σ : State} {acc : Nat} {s : State} (hκ : Sub 1739 κ) (hσ : Keeps κ σ s) :
    NextKeeps κ σ (execPlyDeadline acc s) := by
  have k0 : Sub 1739 κ := Sub.trans (by decide : 1739 &&& 1739 = 1739) hκ
  unfold execPlyDeadline
  repeat' first
    | with_reducible assumption
    | with_reducible apply next_keeps
    | with_reducible apply ite_next_keeps
    | with_reducible apply State.plyEmit_keeps k0
    | with_reducible apply ite_keeps
    | dsimp -simprocs only
    | dsimp only

end Sys2Proof.Machine
end

