-- ==== Sys2Proof/Laws/KeepsAudio.lean ====
section
/-! SUPPORT. What each operation of Machine/Audio may do to State. -/
namespace Sys2Proof.Machine

theorem State.play_keeps {κ : Nat} {σ : State} {s : State} {u : Nat} {l : List Int} (hκ : Sub 8216 κ) (hσ : Keeps κ σ s) :
    Keeps κ σ (State.play s u l) := by
  have k0 : Sub 16 κ := Sub.trans (by decide : 16 &&& 8216 = 16) hκ
  have k1 : Sub 8192 κ := Sub.trans (by decide : 8192 &&& 8216 = 8192) hκ
  have k2 : Sub 8 κ := Sub.trans (by decide : 8 &&& 8216 = 8) hκ
  unfold State.play
  repeat' first
    | with_reducible assumption
    | with_reducible apply State.setFresh_keeps k0
    | with_reducible apply State.onAud_keeps k1
    | with_reducible apply State.emit_keeps k2
    | with_reducible apply ite_keeps
    | intro _
    | dsimp -simprocs only
    | dsimp only
    | split

theorem State.playTdm_keeps {κ : Nat} {σ : State} {rd : Store (List Int)} {p : Nat} {s : State} (hκ : Sub 8 κ) (hσ : Keeps κ σ s) :
    Keeps κ σ (State.playTdm rd p s) := by
  have k0 : Sub 8 κ := Sub.trans (by decide : 8 &&& 8 = 8) hκ
  unfold State.playTdm
  repeat' first
    | with_reducible assumption
    | with_reducible apply State.emit_keeps k0
    | with_reducible apply ite_keeps
    | dsimp -simprocs only
    | dsimp only

theorem State.silentOut_keeps {κ : Nat} {σ : State} {s : State} {code : Nat} (hκ : Sub 8347 κ) (hσ : Keeps κ σ s) :
    Keeps κ σ (State.silentOut s code) := by
  have k0 : Sub 8216 κ := Sub.trans (by decide : 8216 &&& 8347 = 8216) hκ
  have k1 : Sub 2 κ := Sub.trans (by decide : 2 &&& 8347 = 2) hκ
  have k2 : Sub 139 κ := Sub.trans (by decide : 139 &&& 8347 = 139) hκ
  unfold State.silentOut
  repeat' first
    | with_reducible assumption
    | with_reducible apply State.play_keeps k0
    | with_reducible apply State.count_keeps k1
    | with_reducible apply State.raise_keeps k2
    | with_reducible apply ite_keeps
    | dsimp -simprocs only
    | dsimp only

theorem State.rampDown_keeps {κ : Nat} {σ : State} {s : State} (hκ : Sub 8216 κ) (hσ : Keeps κ σ s) :
    Keeps κ σ (State.rampDown s) := by
  have k0 : Sub 16 κ := Sub.trans (by decide : 16 &&& 8216 = 16) hκ
  have k1 : Sub 8192 κ := Sub.trans (by decide : 8192 &&& 8216 = 8192) hκ
  have k2 : Sub 8 κ := Sub.trans (by decide : 8 &&& 8216 = 8) hκ
  unfold State.rampDown
  repeat' first
    | with_reducible assumption
    | with_reducible apply State.setFresh_keeps k0
    | with_reducible apply State.onAud_keeps k1
    | with_reducible apply State.emit_keeps k2
    | with_reducible apply ite_keeps
    | with_reducible refine forEach_keeps (fun _ _ _ => ?_) ?_
    | intro _
    | dsimp -simprocs only
    | dsimp only

theorem State.playBlocks_keeps {κ : Nat} {σ : State} {s : State} {lost : Nat} (hκ : Sub 8347 κ) (hσ : Keeps κ σ s) :
    Keeps κ σ (State.playBlocks s lost) := by
  have k0 : Sub 8192 κ := Sub.trans (by decide : 8192 &&& 8347 = 8192) hκ
  have k1 : Sub 8216 κ := Sub.trans (by decide : 8216 &&& 8347 = 8216) hκ
  have k2 : Sub 8 κ := Sub.trans (by decide : 8 &&& 8347 = 8) hκ
  have k3 : Sub 2 κ := Sub.trans (by decide : 2 &&& 8347 = 2) hκ
  have k4 : Sub 139 κ := Sub.trans (by decide : 139 &&& 8347 = 139) hκ
  unfold State.playBlocks
  repeat' first
    | with_reducible assumption
    | with_reducible apply State.onAud_keeps k0
    | with_reducible apply State.play_keeps k1
    | with_reducible apply State.playTdm_keeps k2
    | with_reducible apply State.count_keeps k3
    | with_reducible apply State.raise_keeps k4
    | with_reducible apply ite_keeps
    | with_reducible apply ite_fst_keeps
    | with_reducible refine forEach_keeps (fun _ _ _ => ?_) ?_
    | intro _
    | dsimp -simprocs only
    | dsimp only
    | split

theorem State.realign_keeps {κ : Nat} {σ : State} {s : State} (hκ : Sub 8331 κ) (hσ : Keeps κ σ s) :
    Keeps κ σ (State.realign s) := by
  have k0 : Sub 8192 κ := Sub.trans (by decide : 8192 &&& 8331 = 8192) hκ
  have k1 : Sub 8193 κ := Sub.trans (by decide : 8193 &&& 8331 = 8193) hκ
  have k2 : Sub 2 κ := Sub.trans (by decide : 2 &&& 8331 = 2) hκ
  have k3 : Sub 139 κ := Sub.trans (by decide : 139 &&& 8331 = 139) hκ
  unfold State.realign
  repeat' first
    | with_reducible assumption
    | with_reducible apply State.onAud_keeps k0
    | with_reducible apply State.setSlot_keeps k1
    | with_reducible apply State.count_keeps k2
    | with_reducible apply State.raise_keeps k3
    | with_reducible apply ite_keeps
    | with_reducible apply ite_fst_keeps
    | with_reducible refine forEach_keeps (fun _ _ _ => ?_) ?_
    | intro _
    | dsimp -simprocs only
    | dsimp only
    | split

theorem State.measure_keeps {κ : Nat} {σ : State} {s : State} (hκ : Sub 17 κ) (hσ : Keeps κ σ s) :
    Keeps κ σ (State.measure s) := by
  have k0 : Sub 1 κ := Sub.trans (by decide : 1 &&& 17 = 1) hκ
  have k1 : Sub 16 κ := Sub.trans (by decide : 16 &&& 17 = 16) hκ
  unfold State.measure
  repeat' first
    | with_reducible assumption
    | with_reducible apply State.put_keeps k0
    | with_reducible apply State.drawn_keeps k1
    | with_reducible refine forEach_keeps (fun _ _ _ => ?_) ?_
    | dsimp -simprocs only
    | dsimp only

theorem State.applyEdit_keeps {κ : Nat} {σ : State} {e : NodeEdit} {s : State} (hκ : Sub 24576 κ) (hσ : Keeps κ σ s) :
    Keeps κ σ (State.applyEdit e s) := by
  have k0 : Sub 8192 κ := Sub.trans (by decide : 8192 &&& 24576 = 8192) hκ
  have k1 : Sub 16384 κ := Sub.trans (by decide : 16384 &&& 24576 = 16384) hκ
  unfold State.applyEdit
  repeat' first
    | with_reducible assumption
    | with_reducible apply State.onAud_keeps k0
    | with_reducible apply State.onCht_keeps k1
    | with_reducible apply State.setNodeSt_keeps k0
    | with_reducible refine forEach_keeps (fun _ _ _ => ?_) ?_
    | intro _
    | dsimp -simprocs only
    | dsimp only
    | split

theorem State.blockStart_keeps {κ : Nat} {σ : State} {t : Nat} {s : State} (hκ : Sub 16801947 κ) (hσ : Keeps κ σ s) :
    Keeps κ σ (State.blockStart t s) := by
  have k0 : Sub 8347 κ := Sub.trans (by decide : 8347 &&& 16801947 = 8347) hκ
  have k1 : Sub 8331 κ := Sub.trans (by decide : 8331 &&& 16801947 = 8331) hκ
  have k2 : Sub 17 κ := Sub.trans (by decide : 17 &&& 16801947 = 17) hκ
  have k3 : Sub 16801931 κ := Sub.trans (by decide : 16801931 &&& 16801947 = 16801931) hκ
  have k4 : Sub 1 κ := Sub.trans (by decide : 1 &&& 16801947 = 1) hκ
  have k5 : Sub 8192 κ := Sub.trans (by decide : 8192 &&& 16801947 = 8192) hκ
  have k6 : Sub 24576 κ := Sub.trans (by decide : 24576 &&& 16801947 = 24576) hκ
  have k7 : Sub 16384 κ := Sub.trans (by decide : 16384 &&& 16801947 = 16384) hκ
  unfold State.blockStart
  repeat' first
    | with_reducible assumption
    | with_reducible apply State.playBlocks_keeps k0
    | with_reducible apply State.realign_keeps k1
    | with_reducible apply State.measure_keeps k2
    | with_reducible apply State.streaks_keeps k3
    | with_reducible apply State.put_keeps k4
    | with_reducible apply State.onAud_keeps k5
    | with_reducible apply State.applyEdit_keeps k6
    | with_reducible apply State.onCht_keeps k7
    | with_reducible apply ite_keeps
    | with_reducible refine forEach_keeps (fun _ _ _ => ?_) ?_
    | intro _
    | dsimp -simprocs only
    | dsimp only
    | split

theorem State.alongEdge_keeps {κ : Nat} {σ : State} {s : State} {p : Pattern} {pl : Placement} {c t : Nat} {l : List Int} {sat : Bool} {i : Nat} (hκ : Sub 9931 κ) (hσ : Keeps κ σ s) :
    Keeps κ σ (State.alongEdge s p pl c t l sat i) := by
  have k0 : Sub 8331 κ := Sub.trans (by decide : 8331 &&& 9931 = 8331) hκ
  have k1 : Sub 1739 κ := Sub.trans (by decide : 1739 &&& 9931 = 1739) hκ
  unfold State.alongEdge
  repeat' first
    | with_reducible assumption
    | with_reducible apply State.toInbox_keeps k0
    | with_reducible apply State.sendEdge_keeps k1
    | with_reducible apply ite_keeps
    | with_reducible refine forEach_keeps (fun _ _ _ => ?_) ?_
    | dsimp -simprocs only
    | dsimp only
    | split

theorem State.sendOut_keeps {κ : Nat} {σ : State} {s : State} {p : Pattern} {pl : Placement} {c t : Nat} {l : List Int} {sat : Bool} (hκ : Sub 9931 κ) (hσ : Keeps κ σ s) :
    Keeps κ σ (State.sendOut s p pl c t l sat) := by
  have k0 : Sub 9931 κ := Sub.trans (by decide : 9931 &&& 9931 = 9931) hκ
  have k1 : Sub 512 κ := Sub.trans (by decide : 512 &&& 9931 = 512) hκ
  have k2 : Sub 8192 κ := Sub.trans (by decide : 8192 &&& 9931 = 8192) hκ
  unfold State.sendOut
  repeat' first
    | with_reducible assumption
    | with_reducible apply State.alongEdge_keeps k0
    | with_reducible apply State.sendPly_keeps k1
    | with_reducible apply State.txBlock_keeps k0
    | with_reducible apply State.onAud_keeps k2
    | with_reducible apply ite_keeps
    | with_reducible refine forEach_keeps (fun _ _ _ => ?_) ?_
    | intro _
    | dsimp -simprocs only
    | dsimp only

theorem State.nodeEvents_keeps {κ : Nat} {σ : State} {s : State} {c : Nat} {r : Ran} (hκ : Sub 139 κ) (hσ : Keeps κ σ s) :
    Keeps κ σ (State.nodeEvents s c r) := by
  have k0 : Sub 2 κ := Sub.trans (by decide : 2 &&& 139 = 2) hκ
  have k1 : Sub 1 κ := Sub.trans (by decide : 1 &&& 139 = 1) hκ
  have k2 : Sub 139 κ := Sub.trans (by decide : 139 &&& 139 = 139) hκ
  unfold State.nodeEvents
  repeat' first
    | with_reducible assumption
    | with_reducible apply State.count_keeps k0
    | with_reducible apply State.put_keeps k1
    | with_reducible apply State.raise_keeps k2
    | with_reducible apply ite_keeps
    | dsimp -simprocs only
    | dsimp only
    | split

theorem State.shadowLate_keeps {κ : Nat} {σ : State} {s : State} {c t : Nat} (hκ : Sub 16384 κ) (hσ : Keeps κ σ s) :
    Keeps κ σ (State.shadowLate s c t) := by
  have k0 : Sub 16384 κ := Sub.trans (by decide : 16384 &&& 16384 = 16384) hκ
  unfold State.shadowLate
  repeat' first
    | with_reducible assumption
    | with_reducible apply State.onCht_keeps k0
    | with_reducible apply ite_keeps
    | intro _
    | split

theorem State.process_keeps {κ : Nat} {σ : State} {s : State} {p : Pattern} {pl : Placement} {c t : Nat} {ins : List InBlk} {l : List Int} (hκ : Sub 26315 κ) (hσ : Keeps κ σ s) :
    Keeps κ σ (State.process s p pl c t ins l) := by
  have k0 : Sub 8192 κ := Sub.trans (by decide : 8192 &&& 26315 = 8192) hκ
  have k1 : Sub 16384 κ := Sub.trans (by decide : 16384 &&& 26315 = 16384) hκ
  have k2 : Sub 139 κ := Sub.trans (by decide : 139 &&& 26315 = 139) hκ
  have k3 : Sub 9931 κ := Sub.trans (by decide : 9931 &&& 26315 = 9931) hκ
  unfold State.process
  repeat' first
    | with_reducible assumption
    | with_reducible apply State.onAud_keeps k0
    | with_reducible apply State.setNodeSt_keeps k0
    | with_reducible apply State.shadowLate_keeps k1
    | with_reducible apply State.nodeEvents_keeps k2
    | with_reducible apply State.sendOut_keeps k3
    | with_reducible apply ite_keeps
    | intro _
    | dsimp -simprocs only
    | dsimp only
    | split

theorem execNodeProcess_keeps {κ : Nat} {σ : State} {c : Nat} {samples : List Int} {s : State} (hκ : Sub 26315 κ) (hσ : Keeps κ σ s) :
    NextKeeps κ σ (execNodeProcess c samples s) := by
  have k0 : Sub 26315 κ := Sub.trans (by decide : 26315 &&& 26315 = 26315) hκ
  unfold execNodeProcess
  repeat' first
    | with_reducible assumption
    | with_reducible apply next_keeps
    | with_reducible apply ite_next_keeps
    | with_reducible apply State.process_keeps k0
    | with_reducible apply ite_keeps
    | split

theorem State.edgeFrameIn_keeps {κ : Nat} {σ : State} {s : State} {b : Bytes} (hκ : Sub 8331 κ) (hσ : Keeps κ σ s) :
    Keeps κ σ (State.edgeFrameIn s b) := by
  have k0 : Sub 2 κ := Sub.trans (by decide : 2 &&& 8331 = 2) hκ
  have k1 : Sub 8331 κ := Sub.trans (by decide : 8331 &&& 8331 = 8331) hκ
  unfold State.edgeFrameIn
  repeat' first
    | with_reducible assumption
    | with_reducible apply State.count_keeps k0
    | with_reducible apply State.toInbox_keeps k1
    | with_reducible refine forEach_keeps (fun _ _ _ => ?_) ?_
    | dsimp -simprocs only
    | dsimp only
    | split

theorem State.sumFrameIn_keeps {κ : Nat} {σ : State} {s : State} {b : Bytes} (hκ : Sub 8331 κ) (hσ : Keeps κ σ s) :
    Keeps κ σ (State.sumFrameIn s b) := by
  have k0 : Sub 2 κ := Sub.trans (by decide : 2 &&& 8331 = 2) hκ
  have k1 : Sub 8331 κ := Sub.trans (by decide : 8331 &&& 8331 = 8331) hκ
  unfold State.sumFrameIn
  repeat' first
    | with_reducible assumption
    | with_reducible apply State.count_keeps k0
    | with_reducible apply State.toInbox_keeps k1
    | with_reducible refine forEach_keeps (fun _ _ _ => ?_) ?_
    | dsimp -simprocs only
    | dsimp only
    | split

theorem execEdgeFrameArrival_keeps {κ : Nat} {σ : State} {k : Nat} {s : State} (hκ : Sub 8843 κ) (hσ : Keeps κ σ s) :
    NextKeeps κ σ (execEdgeFrameArrival k s) := by
  have k0 : Sub 512 κ := Sub.trans (by decide : 512 &&& 8843 = 512) hκ
  have k1 : Sub 8331 κ := Sub.trans (by decide : 8331 &&& 8843 = 8331) hκ
  unfold execEdgeFrameArrival
  repeat' first
    | with_reducible assumption
    | with_reducible apply next_keeps
    | with_reducible apply ite_next_keeps
    | with_reducible apply State.onSwc_keeps k0
    | with_reducible apply State.edgeFrameIn_keeps k1
    | with_reducible apply State.sumFrameIn_keeps k1
    | with_reducible apply ite_keeps
    | intro _
    | dsimp -simprocs only
    | dsimp only
    | split

theorem State.missInput_keeps {κ : Nat} {σ : State} {s : State} {c inp t : Nat} {z : List Int} {edge : Option Nat} {from_ : List Nat} (hκ : Sub 24731 κ) (hσ : Keeps κ σ s) :
    Keeps κ σ (State.missInput s c inp t z edge from_) := by
  have k0 : Sub 8331 κ := Sub.trans (by decide : 8331 &&& 24731 = 8331) hκ
  have k1 : Sub 1 κ := Sub.trans (by decide : 1 &&& 24731 = 1) hκ
  have k2 : Sub 16 κ := Sub.trans (by decide : 16 &&& 24731 = 16) hκ
  have k3 : Sub 16384 κ := Sub.trans (by decide : 16384 &&& 24731 = 16384) hκ
  have k4 : Sub 2 κ := Sub.trans (by decide : 2 &&& 24731 = 2) hκ
  have k5 : Sub 139 κ := Sub.trans (by decide : 139 &&& 24731 = 139) hκ
  unfold State.missInput
  repeat' first
    | with_reducible assumption
    | with_reducible apply State.toInbox_keeps k0
    | with_reducible apply State.put_keeps k1
    | with_reducible apply State.drawn_keeps k2
    | with_reducible apply State.lateEngine_keeps k3
    | with_reducible apply State.count_keeps k4
    | with_reducible apply State.raise_keeps k5
    | with_reducible refine forEach_keeps (fun _ _ _ => ?_) ?_
    | dsimp -simprocs only
    | dsimp only
    | split

theorem execEdgeDeadline_keeps {κ : Nat} {σ : State} {edge copy : Nat} {s : State} (hκ : Sub 24731 κ) (hσ : Keeps κ σ s) :
    NextKeeps κ σ (execEdgeDeadline edge copy s) := by
  have k0 : Sub 24731 κ := Sub.trans (by decide : 24731 &&& 24731 = 24731) hκ
  unfold execEdgeDeadline
  repeat' first
    | with_reducible assumption
    | with_reducible apply next_keeps
    | with_reducible apply ite_next_keeps
    | with_reducible apply State.missInput_keeps k0
    | with_reducible apply ite_keeps
    | dsimp -simprocs only
    | dsimp only
    | split

theorem execSinkDeadline_keeps {κ : Nat} {σ : State} {kind unit chan : Nat} {s : State} (hκ : Sub 8347 κ) (hσ : Keeps κ σ s) :
    NextKeeps κ σ (execSinkDeadline kind unit chan s) := by
  have k0 : Sub 8192 κ := Sub.trans (by decide : 8192 &&& 8347 = 8192) hκ
  have k1 : Sub 8347 κ := Sub.trans (by decide : 8347 &&& 8347 = 8347) hκ
  unfold execSinkDeadline
  repeat' first
    | with_reducible assumption
    | with_reducible apply next_keeps
    | with_reducible apply ite_next_keeps
    | with_reducible apply State.onAud_keeps k0
    | with_reducible apply State.silentOut_keeps k1
    | with_reducible apply ite_keeps
    | intro _
    | dsimp -simprocs only
    | dsimp only

theorem execBiasFault_keeps {κ : Nat} {σ : State} {n : Nat} {s : State} (hκ : Sub 8331 κ) (hσ : Keeps κ σ s) :
    NextKeeps κ σ (execBiasFault n s) := by
  have k0 : Sub 8192 κ := Sub.trans (by decide : 8192 &&& 8331 = 8192) hκ
  have k1 : Sub 1 κ := Sub.trans (by decide : 1 &&& 8331 = 1) hκ
  have k2 : Sub 139 κ := Sub.trans (by decide : 139 &&& 8331 = 139) hκ
  unfold execBiasFault
  repeat' first
    | with_reducible assumption
    | with_reducible apply next_keeps
    | with_reducible apply ite_next_keeps
    | with_reducible apply State.onAud_keeps k0
    | with_reducible apply State.set1_keeps k1
    | with_reducible apply State.raise_keeps k2
    | with_reducible apply ite_keeps
    | intro _

theorem State.writeAin_keeps {κ : Nat} {σ : State} {s : State} {n v : Nat} (hκ : Sub 8193 κ) (hσ : Keeps κ σ s) :
    Keeps κ σ (State.writeAin s n v) := by
  have k0 : Sub 1 κ := Sub.trans (by decide : 1 &&& 8193 = 1) hκ
  have k1 : Sub 8192 κ := Sub.trans (by decide : 8192 &&& 8193 = 8192) hκ
  unfold State.writeAin
  repeat' first
    | with_reducible assumption
    | with_reducible apply State.regApply_keeps k0
    | with_reducible apply State.onAud_keeps k1
    | with_reducible apply State.clr1_keeps k0
    | with_reducible apply ite_keeps
    | intro _
    | dsimp -simprocs only
    | dsimp only

theorem State.writeAout_keeps {κ : Nat} {σ : State} {s : State} {n v : Nat} (hκ : Sub 8193 κ) (hσ : Keeps κ σ s) :
    Keeps κ σ (State.writeAout s n v) := by
  have k0 : Sub 1 κ := Sub.trans (by decide : 1 &&& 8193 = 1) hκ
  have k1 : Sub 8192 κ := Sub.trans (by decide : 8192 &&& 8193 = 8192) hκ
  unfold State.writeAout
  repeat' first
    | with_reducible assumption
    | with_reducible apply State.regApply_keeps k0
    | with_reducible apply State.onAud_keeps k1
    | with_reducible apply ite_keeps
    | intro _
    | dsimp -simprocs only
    | dsimp only

theorem execAudioLinkLoss_keeps {κ : Nat} {σ : State} {s : State} (hκ : Sub 8216 κ) (hσ : Keeps κ σ s) :
    NextKeeps κ σ (execAudioLinkLoss s) := by
  have k0 : Sub 8216 κ := Sub.trans (by decide : 8216 &&& 8216 = 8216) hκ
  have k1 : Sub 8192 κ := Sub.trans (by decide : 8192 &&& 8216 = 8192) hκ
  unfold execAudioLinkLoss
  repeat' first
    | with_reducible assumption
    | with_reducible apply next_keeps
    | with_reducible apply ite_next_keeps
    | with_reducible apply State.rampDown_keeps k0
    | with_reducible apply State.onAud_keeps k1
    | intro _

theorem execAudioLinkRestored_keeps {κ : Nat} {σ : State} {s : State} (hκ : Sub 8192 κ) (hσ : Keeps κ σ s) :
    NextKeeps κ σ (execAudioLinkRestored s) := by
  have k0 : Sub 8192 κ := Sub.trans (by decide : 8192 &&& 8192 = 8192) hκ
  unfold execAudioLinkRestored
  repeat' first
    | with_reducible assumption
    | with_reducible apply next_keeps
    | with_reducible apply ite_next_keeps
    | with_reducible apply State.onAud_keeps k0
    | intro _

theorem State.nodeSet_keeps {κ : Nat} {σ : State} {s : State} {d : Desc} (hκ : Sub 8331 κ) (hσ : Keeps κ σ s) :
    Keeps κ σ (State.nodeSet s d) := by
  have k0 : Sub 128 κ := Sub.trans (by decide : 128 &&& 8331 = 128) hκ
  have k1 : Sub 139 κ := Sub.trans (by decide : 139 &&& 8331 = 139) hκ
  have k2 : Sub 8192 κ := Sub.trans (by decide : 8192 &&& 8331 = 8192) hκ
  unfold State.nodeSet
  repeat' first
    | with_reducible assumption
    | with_reducible apply State.finish_keeps k0
    | with_reducible apply State.noBuf_keeps k1
    | with_reducible apply State.onAud_keeps k2
    | with_reducible apply ite_keeps
    | with_reducible apply ite_fst_keeps
    | intro _
    | dsimp -simprocs only
    | dsimp only
    | split

theorem execNodeSet_keeps {κ : Nat} {σ : State} {r : Nat} {s : State} (hκ : Sub 8331 κ) (hσ : Keeps κ σ s) :
    NextKeeps κ σ (execNodeSet r s) := by
  have k0 : Sub 0 κ := Sub.trans (by decide : 0 &&& 8331 = 0) hκ
  have k1 : Sub 8331 κ := Sub.trans (by decide : 8331 &&& 8331 = 8331) hκ
  unfold execNodeSet
  repeat' first
    | with_reducible assumption
    | with_reducible apply next_keeps
    | with_reducible apply ite_next_keeps
    | with_reducible apply State.withOp_keeps k0
    | with_reducible apply State.nodeSet_keeps k1
    | intro _

theorem State.nodeRead_keeps {κ : Nat} {σ : State} {s : State} {d : Desc} (hκ : Sub 16777679 κ) (hσ : Keeps κ σ s) :
    Keeps κ σ (State.nodeRead s d) := by
  have k0 : Sub 128 κ := Sub.trans (by decide : 128 &&& 16777679 = 128) hκ
  have k1 : Sub 16777679 κ := Sub.trans (by decide : 16777679 &&& 16777679 = 16777679) hκ
  unfold State.nodeRead
  repeat' first
    | with_reducible assumption
    | with_reducible apply State.finish_keeps k0
    | with_reducible apply State.finishBuf_keeps k1
    | with_reducible apply ite_keeps
    | dsimp -simprocs only
    | dsimp only
    | split

theorem execNodeRead_keeps {κ : Nat} {σ : State} {r : Nat} {s : State} (hκ : Sub 16777679 κ) (hσ : Keeps κ σ s) :
    NextKeeps κ σ (execNodeRead r s) := by
  have k0 : Sub 0 κ := Sub.trans (by decide : 0 &&& 16777679 = 0) hκ
  have k1 : Sub 16777679 κ := Sub.trans (by decide : 16777679 &&& 16777679 = 16777679) hκ
  unfold execNodeRead
  repeat' first
    | with_reducible assumption
    | with_reducible apply next_keeps
    | with_reducible apply ite_next_keeps
    | with_reducible apply State.withOp_keeps k0
    | with_reducible apply State.nodeRead_keeps k1
    | intro _

theorem State.chimeLoad_keeps {κ : Nat} {σ : State} {s : State} {d : Desc} (hκ : Sub 16785871 κ) (hσ : Keeps κ σ s) :
    Keeps κ σ (State.chimeLoad s d) := by
  have k0 : Sub 128 κ := Sub.trans (by decide : 128 &&& 16785871 = 128) hκ
  have k1 : Sub 8192 κ := Sub.trans (by decide : 8192 &&& 16785871 = 8192) hκ
  have k2 : Sub 16777679 κ := Sub.trans (by decide : 16777679 &&& 16785871 = 16777679) hκ
  unfold State.chimeLoad
  repeat' first
    | with_reducible assumption
    | with_reducible apply State.finish_keeps k0
    | with_reducible apply State.onAud_keeps k1
    | with_reducible apply State.lastStitch_keeps k0
    | with_reducible apply State.stitched_keeps k2
    | with_reducible apply ite_keeps
    | intro _
    | dsimp -simprocs only
    | dsimp only
    | split

theorem execChimeLoad_keeps {κ : Nat} {σ : State} {r : Nat} {s : State} (hκ : Sub 16785871 κ) (hσ : Keeps κ σ s) :
    NextKeeps κ σ (execChimeLoad r s) := by
  have k0 : Sub 0 κ := Sub.trans (by decide : 0 &&& 16785871 = 0) hκ
  have k1 : Sub 16785871 κ := Sub.trans (by decide : 16785871 &&& 16785871 = 16785871) hκ
  unfold execChimeLoad
  repeat' first
    | with_reducible assumption
    | with_reducible apply next_keeps
    | with_reducible apply ite_next_keeps
    | with_reducible apply State.withOp_keeps k0
    | with_reducible apply State.chimeLoad_keeps k1
    | intro _

theorem State.audStreamSet_keeps {κ : Nat} {σ : State} {s : State} {d : Desc} (hκ : Sub 8321 κ) (hσ : Keeps κ σ s) :
    Keeps κ σ (State.audStreamSet s d) := by
  have k0 : Sub 128 κ := Sub.trans (by decide : 128 &&& 8321 = 128) hκ
  have k1 : Sub 8193 κ := Sub.trans (by decide : 8193 &&& 8321 = 8193) hκ
  have k2 : Sub 1 κ := Sub.trans (by decide : 1 &&& 8321 = 1) hκ
  unfold State.audStreamSet
  repeat' first
    | with_reducible assumption
    | with_reducible apply State.finish_keeps k0
    | with_reducible apply State.setSlot_keeps k1
    | with_reducible apply State.put_keeps k2
    | with_reducible apply ite_keeps
    | dsimp -simprocs only
    | dsimp only

theorem execAudStreamSet_keeps {κ : Nat} {σ : State} {r : Nat} {s : State} (hκ : Sub 8321 κ) (hσ : Keeps κ σ s) :
    NextKeeps κ σ (execAudStreamSet r s) := by
  have k0 : Sub 0 κ := Sub.trans (by decide : 0 &&& 8321 = 0) hκ
  have k1 : Sub 8321 κ := Sub.trans (by decide : 8321 &&& 8321 = 8321) hκ
  unfold execAudStreamSet
  repeat' first
    | with_reducible assumption
    | with_reducible apply next_keeps
    | with_reducible apply ite_next_keeps
    | with_reducible apply State.withOp_keeps k0
    | with_reducible apply State.audStreamSet_keeps k1
    | intro _

theorem State.rejectLoad_keeps {κ : Nat} {σ : State} {s : State} {d : Desc} {status result : Nat} (hκ : Sub 139 κ) (hσ : Keeps κ σ s) :
    Keeps κ σ (State.rejectLoad s d status result) := by
  have k0 : Sub 139 κ := Sub.trans (by decide : 139 &&& 139 = 139) hκ
  have k1 : Sub 128 κ := Sub.trans (by decide : 128 &&& 139 = 128) hκ
  unfold State.rejectLoad
  repeat' first
    | with_reducible assumption
    | with_reducible apply State.raise_keeps k0
    | with_reducible apply State.finish_keeps k1

theorem State.patternLoad_keeps {κ : Nat} {σ : State} {s : State} {d : Desc} (hκ : Sub 16925135 κ) (hσ : Keeps κ σ s) :
    Keeps κ σ (State.patternLoad s d) := by
  have k0 : Sub 139 κ := Sub.trans (by decide : 139 &&& 16925135 = 139) hκ
  have k1 : Sub 131072 κ := Sub.trans (by decide : 131072 &&& 16925135 = 131072) hκ
  have k2 : Sub 1 κ := Sub.trans (by decide : 1 &&& 16925135 = 1) hκ
  have k3 : Sub 16777679 κ := Sub.trans (by decide : 16777679 &&& 16925135 = 16777679) hκ
  have k4 : Sub 16385 κ := Sub.trans (by decide : 16385 &&& 16925135 = 16385) hκ
  unfold State.patternLoad
  repeat' first
    | with_reducible assumption
    | with_reducible apply State.rejectLoad_keeps k0
    | with_reducible apply State.energyRefuse_keeps k0
    | with_reducible apply State.raise_keeps k0
    | with_reducible apply State.gauAct_keeps k1
    | with_reducible apply State.put_keeps k2
    | with_reducible apply State.stitched_keeps k3
    | with_reducible apply State.askChart_keeps k4
    | with_reducible apply ite_keeps
    | dsimp -simprocs only
    | dsimp only
    | split

theorem execPatternLoad_keeps {κ : Nat} {σ : State} {r : Nat} {s : State} (hκ : Sub 16925135 κ) (hσ : Keeps κ σ s) :
    NextKeeps κ σ (execPatternLoad r s) := by
  have k0 : Sub 0 κ := Sub.trans (by decide : 0 &&& 16925135 = 0) hκ
  have k1 : Sub 16925135 κ := Sub.trans (by decide : 16925135 &&& 16925135 = 16925135) hκ
  unfold execPatternLoad
  repeat' first
    | with_reducible assumption
    | with_reducible apply next_keeps
    | with_reducible apply ite_next_keeps
    | with_reducible apply State.withOp_keeps k0
    | with_reducible apply State.patternLoad_keeps k1
    | intro _

end Sys2Proof.Machine
end

