-- ==== Sys2Proof/Laws/KeepsCanOps.lean ====
section
/-! SUPPORT. What each operation of Machine/CanOps may do to State. -/
namespace Sys2Proof.Machine

theorem State.setCtl_keeps {κ : Nat} {σ : State} {s : State} {n : Nat} {c : CanCtl} (hκ : Sub 262144 κ) (hσ : Keeps κ σ s) :
    Keeps κ σ (State.setCtl s n c) := by
  have k0 : Sub 262144 κ := Sub.trans (by decide : 262144 &&& 262144 = 262144) hκ
  unfold State.setCtl
  repeat' first
    | with_reducible assumption
    | with_reducible apply State.setCan_keeps k0

theorem State.endTx_keeps {κ : Nat} {σ : State} {s : State} {x : CanTx} {status ts : Nat} {arb : Bool} (hκ : Sub 128 κ) (hσ : Keeps κ σ s) :
    Keeps κ σ (State.endTx s x status ts arb) := by
  have k0 : Sub 128 κ := Sub.trans (by decide : 128 &&& 128 = 128) hκ
  unfold State.endTx
  repeat' first
    | with_reducible assumption
    | with_reducible apply State.finish_keeps k0
    | split

theorem State.popTx_keeps {κ : Nat} {σ : State} {s : State} {n q status ts : Nat} {arb : Bool} (hκ : Sub 262272 κ) (hσ : Keeps κ σ s) :
    Keeps κ σ (State.popTx s n q status ts arb) := by
  have k0 : Sub 262144 κ := Sub.trans (by decide : 262144 &&& 262272 = 262144) hκ
  have k1 : Sub 128 κ := Sub.trans (by decide : 128 &&& 262272 = 128) hκ
  unfold State.popTx
  repeat' first
    | with_reducible assumption
    | with_reducible apply State.setCtl_keeps k0
    | with_reducible apply State.endTx_keeps k1
    | dsimp -simprocs only
    | dsimp only
    | split

theorem State.flushTx_keeps {κ : Nat} {σ : State} {s : State} {n status : Nat} {keep : Bool} (hκ : Sub 262272 κ) (hσ : Keeps κ σ s) :
    Keeps κ σ (State.flushTx s n status keep) := by
  have k0 : Sub 128 κ := Sub.trans (by decide : 128 &&& 262272 = 128) hκ
  have k1 : Sub 262144 κ := Sub.trans (by decide : 262144 &&& 262272 = 262144) hκ
  unfold State.flushTx
  repeat' first
    | with_reducible assumption
    | with_reducible apply State.endTx_keeps k0
    | with_reducible apply State.setCtl_keeps k1
    | with_reducible apply ite_keeps
    | with_reducible refine forEach_keeps (fun _ _ _ => ?_) ?_
    | dsimp -simprocs only
    | dsimp only

theorem State.idleTx_keeps {κ : Nat} {σ : State} {s : State} {n : Nat} (hκ : Sub 262144 κ) (hσ : Keeps κ σ s) :
    Keeps κ σ (State.idleTx s n) := by
  have k0 : Sub 262144 κ := Sub.trans (by decide : 262144 &&& 262144 = 262144) hκ
  unfold State.idleTx
  repeat' first
    | with_reducible assumption
    | with_reducible apply State.setCtl_keeps k0

theorem State.placeTx_keeps {κ : Nat} {σ : State} {s : State} {n q : Nat} {x : CanTx} (hκ : Sub 262144 κ) (hσ : Keeps κ σ s) :
    Keeps κ σ (State.placeTx s n q x) := by
  have k0 : Sub 262144 κ := Sub.trans (by decide : 262144 &&& 262144 = 262144) hκ
  unfold State.placeTx
  repeat' first
    | with_reducible assumption
    | with_reducible apply State.setCtl_keeps k0
    | dsimp -simprocs only
    | dsimp only

theorem State.goBusOff_keeps {κ : Nat} {σ : State} {s : State} {n : Nat} (hκ : Sub 262283 κ) (hσ : Keeps κ σ s) :
    Keeps κ σ (State.goBusOff s n) := by
  have k0 : Sub 1 κ := Sub.trans (by decide : 1 &&& 262283 = 1) hκ
  have k1 : Sub 2 κ := Sub.trans (by decide : 2 &&& 262283 = 2) hκ
  have k2 : Sub 139 κ := Sub.trans (by decide : 139 &&& 262283 = 139) hκ
  have k3 : Sub 262144 κ := Sub.trans (by decide : 262144 &&& 262283 = 262144) hκ
  have k4 : Sub 262272 κ := Sub.trans (by decide : 262272 &&& 262283 = 262272) hκ
  unfold State.goBusOff
  repeat' first
    | with_reducible assumption
    | with_reducible apply State.put_keeps k0
    | with_reducible apply State.count_keeps k1
    | with_reducible apply State.raise_keeps k2
    | with_reducible apply State.setCtl_keeps k3
    | with_reducible apply State.flushTx_keeps k4
    | with_reducible apply ite_keeps
    | dsimp -simprocs only
    | dsimp only

theorem State.errCounts_keeps {κ : Nat} {σ : State} {s : State} {n tec rec : Nat} (hκ : Sub 262283 κ) (hσ : Keeps κ σ s) :
    Keeps κ σ (State.errCounts s n tec rec) := by
  have k0 : Sub 262144 κ := Sub.trans (by decide : 262144 &&& 262283 = 262144) hκ
  have k1 : Sub 139 κ := Sub.trans (by decide : 139 &&& 262283 = 139) hκ
  have k2 : Sub 262283 κ := Sub.trans (by decide : 262283 &&& 262283 = 262283) hκ
  have k3 : Sub 1 κ := Sub.trans (by decide : 1 &&& 262283 = 1) hκ
  unfold State.errCounts
  repeat' first
    | with_reducible assumption
    | with_reducible apply State.setCtl_keeps k0
    | with_reducible apply State.raise_keeps k1
    | with_reducible apply State.goBusOff_keeps k2
    | with_reducible apply State.put_keeps k3
    | with_reducible apply ite_keeps
    | dsimp -simprocs only
    | dsimp only

theorem State.endHold_keeps {κ : Nat} {σ : State} {s : State} {n : Nat} (hκ : Sub 1 κ) (hσ : Keeps κ σ s) :
    Keeps κ σ (State.endHold s n) := by
  have k0 : Sub 1 κ := Sub.trans (by decide : 1 &&& 1 = 1) hκ
  unfold State.endHold
  repeat' first
    | with_reducible assumption
    | with_reducible apply State.put_keeps k0

theorem State.storeRx_keeps {κ : Nat} {σ : State} {s : State} {n q : Nat} {r : Bytes} (hκ : Sub 262283 κ) (hσ : Keeps κ σ s) :
    Keeps κ σ (State.storeRx s n q r) := by
  have k0 : Sub 262144 κ := Sub.trans (by decide : 262144 &&& 262283 = 262144) hκ
  have k1 : Sub 139 κ := Sub.trans (by decide : 139 &&& 262283 = 139) hκ
  have k2 : Sub 2 κ := Sub.trans (by decide : 2 &&& 262283 = 2) hκ
  have k3 : Sub 1 κ := Sub.trans (by decide : 1 &&& 262283 = 1) hκ
  unfold State.storeRx
  repeat' first
    | with_reducible assumption
    | with_reducible apply State.setCtl_keeps k0
    | with_reducible apply State.raise_keeps k1
    | with_reducible apply State.count_keeps k2
    | with_reducible apply State.put_keeps k3
    | with_reducible apply ite_keeps
    | dsimp -simprocs only
    | dsimp only

theorem State.moveTrcv_keeps {κ : Nat} {σ : State} {s : State} {n v : Nat} (hκ : Sub 262145 κ) (hσ : Keeps κ σ s) :
    Keeps κ σ (State.moveTrcv s n v) := by
  have k0 : Sub 1 κ := Sub.trans (by decide : 1 &&& 262145 = 1) hκ
  have k1 : Sub 262144 κ := Sub.trans (by decide : 262144 &&& 262145 = 262144) hκ
  unfold State.moveTrcv
  repeat' first
    | with_reducible assumption
    | with_reducible apply State.put_keeps k0
    | with_reducible apply State.setCtl_keeps k1
    | with_reducible apply ite_keeps
    | dsimp -simprocs only
    | dsimp only

end Sys2Proof.Machine
end

