-- ==== Sys2Proof/Laws/KeepsEncOps.lean ====
section
/-! SUPPORT. What each operation of Machine/EncOps may do to State. -/
namespace Sys2Proof.Machine

theorem State.onEnc_keeps {κ : Nat} {σ : State} {s : State} {f : Enc → Enc} (hκ : Sub 1048576 κ) (hσ : Keeps κ σ s) :
    Keeps κ σ (State.onEnc s f) := by
  have k0 : Sub 1048576 κ := Sub.trans (by decide : 1048576 &&& 1048576 = 1048576) hκ
  unfold State.onEnc
  repeat' first
    | with_reducible assumption
    | with_reducible apply State.setEnc_keeps k0

theorem State.setKeySlot_keeps {κ : Nat} {σ : State} {s : State} {k : Nat} {v : KeySlot} (hκ : Sub 1048576 κ) (hσ : Keeps κ σ s) :
    Keeps κ σ (State.setKeySlot s k v) := by
  have k0 : Sub 1048576 κ := Sub.trans (by decide : 1048576 &&& 1048576 = 1048576) hκ
  unfold State.setKeySlot
  repeat' first
    | with_reducible assumption
    | with_reducible apply State.onEnc_keeps k0
    | intro _

theorem State.setIdRec_keeps {κ : Nat} {σ : State} {s : State} {n : Nat} {v : IdRec} (hκ : Sub 1048576 κ) (hσ : Keeps κ σ s) :
    Keeps κ σ (State.setIdRec s n v) := by
  have k0 : Sub 1048576 κ := Sub.trans (by decide : 1048576 &&& 1048576 = 1048576) hκ
  unfold State.setIdRec
  repeat' first
    | with_reducible assumption
    | with_reducible apply State.onEnc_keeps k0
    | intro _

theorem State.encShow_keeps {κ : Nat} {σ : State} {s : State} (hκ : Sub 1 κ) (hσ : Keeps κ σ s) :
    Keeps κ σ (State.encShow s) := by
  have k0 : Sub 1 κ := Sub.trans (by decide : 1 &&& 1 = 1) hκ
  unfold State.encShow
  repeat' first
    | with_reducible assumption
    | with_reducible apply State.put_keeps k0
    | with_reducible apply ite_keeps
    | dsimp -simprocs only
    | dsimp only

theorem State.encMeasure_keeps {κ : Nat} {σ : State} {s : State} {kind id : Nat} {digest : Bytes} (hκ : Sub 1048576 κ) (hσ : Keeps κ σ s) :
    Keeps κ σ (State.encMeasure s kind id digest) := by
  have k0 : Sub 1048576 κ := Sub.trans (by decide : 1048576 &&& 1048576 = 1048576) hκ
  unfold State.encMeasure
  repeat' first
    | with_reducible assumption
    | with_reducible apply State.onEnc_keeps k0
    | with_reducible apply ite_keeps
    | with_reducible apply ite_fst_keeps
    | intro _
    | dsimp -simprocs only
    | dsimp only
    | dsimp only [id]

theorem State.storeCheck_keeps {κ : Nat} {σ : State} {s : State} (hκ : Sub 1048577 κ) (hσ : Keeps κ σ s) :
    Keeps κ σ (State.storeCheck s) := by
  have k0 : Sub 1 κ := Sub.trans (by decide : 1 &&& 1048577 = 1) hκ
  have k1 : Sub 1048576 κ := Sub.trans (by decide : 1048576 &&& 1048577 = 1048576) hκ
  unfold State.storeCheck
  repeat' first
    | with_reducible assumption
    | with_reducible apply State.put_keeps k0
    | with_reducible apply State.onEnc_keeps k1
    | with_reducible apply ite_keeps
    | intro _

theorem State.encStart_keeps {κ : Nat} {σ : State} {s : State} (hκ : Sub 1048715 κ) (hσ : Keeps κ σ s) :
    Keeps κ σ (State.encStart s) := by
  have k0 : Sub 1048577 κ := Sub.trans (by decide : 1048577 &&& 1048715 = 1048577) hκ
  have k1 : Sub 1048576 κ := Sub.trans (by decide : 1048576 &&& 1048715 = 1048576) hκ
  have k2 : Sub 1 κ := Sub.trans (by decide : 1 &&& 1048715 = 1) hκ
  have k3 : Sub 139 κ := Sub.trans (by decide : 139 &&& 1048715 = 139) hκ
  unfold State.encStart
  repeat' first
    | with_reducible assumption
    | with_reducible apply State.storeCheck_keeps k0
    | with_reducible apply State.setIdRec_keeps k1
    | with_reducible apply State.onEnc_keeps k1
    | with_reducible apply State.wr_keeps k2
    | with_reducible apply State.encShow_keeps k2
    | with_reducible apply State.raise_keeps k3
    | with_reducible apply State.put_keeps k2
    | with_reducible apply ite_keeps
    | with_reducible refine forEach_keeps (fun _ _ _ => ?_) ?_
    | intro _
    | dsimp -simprocs only
    | dsimp only

end Sys2Proof.Machine
end

