-- ==== Sys2Proof/Laws/KeepsGwyOps.lean ====
section
/-! SUPPORT. What each operation of Machine/GwyOps may do to State. -/
namespace Sys2Proof.Machine

theorem State.onGwy_keeps {κ : Nat} {σ : State} {s : State} {f : Gwy → Gwy} (hκ : Sub 2097152 κ) (hσ : Keeps κ σ s) :
    Keeps κ σ (State.onGwy s f) := by
  have k0 : Sub 2097152 κ := Sub.trans (by decide : 2097152 &&& 2097152 = 2097152) hκ
  unfold State.onGwy
  repeat' first
    | with_reducible assumption
    | with_reducible apply State.setGwy_keeps k0

theorem State.setGwRule_keeps {κ : Nat} {σ : State} {s : State} {r : Nat} {v : GwRule} (hκ : Sub 2097152 κ) (hσ : Keeps κ σ s) :
    Keeps κ σ (State.setGwRule s r v) := by
  have k0 : Sub 2097152 κ := Sub.trans (by decide : 2097152 &&& 2097152 = 2097152) hκ
  unfold State.setGwRule
  repeat' first
    | with_reducible assumption
    | with_reducible apply State.onGwy_keeps k0
    | intro _

theorem State.setGwMap_keeps {κ : Nat} {σ : State} {s : State} {i : Nat} {v : GwMap} (hκ : Sub 2097152 κ) (hσ : Keeps κ σ s) :
    Keeps κ σ (State.setGwMap s i v) := by
  have k0 : Sub 2097152 κ := Sub.trans (by decide : 2097152 &&& 2097152 = 2097152) hκ
  unfold State.setGwMap
  repeat' first
    | with_reducible assumption
    | with_reducible apply State.onGwy_keeps k0
    | intro _

theorem State.setGwPdu_keeps {κ : Nat} {σ : State} {s : State} {i : Nat} {v : GwPdu} (hκ : Sub 2097152 κ) (hσ : Keeps κ σ s) :
    Keeps κ σ (State.setGwPdu s i v) := by
  have k0 : Sub 2097152 κ := Sub.trans (by decide : 2097152 &&& 2097152 = 2097152) hκ
  unfold State.setGwPdu
  repeat' first
    | with_reducible assumption
    | with_reducible apply State.onGwy_keeps k0
    | intro _

theorem State.setGwTmpl_keeps {κ : Nat} {σ : State} {s : State} {i : Nat} {v : GwTmpl} (hκ : Sub 2097152 κ) (hσ : Keeps κ σ s) :
    Keeps κ σ (State.setGwTmpl s i v) := by
  have k0 : Sub 2097152 κ := Sub.trans (by decide : 2097152 &&& 2097152 = 2097152) hκ
  unfold State.setGwTmpl
  repeat' first
    | with_reducible assumption
    | with_reducible apply State.onGwy_keeps k0
    | intro _

theorem State.setGwFresh_keeps {κ : Nat} {σ : State} {s : State} {c : Nat} {v : Option Nat} (hκ : Sub 2097152 κ) (hσ : Keeps κ σ s) :
    Keeps κ σ (State.setGwFresh s c v) := by
  have k0 : Sub 2097152 κ := Sub.trans (by decide : 2097152 &&& 2097152 = 2097152) hκ
  unfold State.setGwFresh
  repeat' first
    | with_reducible assumption
    | with_reducible apply State.onGwy_keeps k0
    | intro _

theorem State.gwDrop_keeps {κ : Nat} {σ : State} {s : State} {c : Nat} {e : Fld} {kind r : Nat} (hκ : Sub 139 κ) (hσ : Keeps κ σ s) :
    Keeps κ σ (State.gwDrop s c e kind r) := by
  have k0 : Sub 2 κ := Sub.trans (by decide : 2 &&& 139 = 2) hκ
  have k1 : Sub 139 κ := Sub.trans (by decide : 139 &&& 139 = 139) hκ
  have k2 : Sub 1 κ := Sub.trans (by decide : 1 &&& 139 = 1) hκ
  unfold State.gwDrop
  repeat' first
    | with_reducible assumption
    | with_reducible apply State.count_keeps k0
    | with_reducible apply State.raise_keeps k1
    | with_reducible apply State.put_keeps k2

theorem State.gwAuthFail_keeps {κ : Nat} {σ : State} {s : State} {r : Nat} (hκ : Sub 139 κ) (hσ : Keeps κ σ s) :
    Keeps κ σ (State.gwAuthFail s r) := by
  have k0 : Sub 139 κ := Sub.trans (by decide : 139 &&& 139 = 139) hκ
  unfold State.gwAuthFail
  repeat' first
    | with_reducible assumption
    | with_reducible apply State.gwDrop_keeps k0

theorem State.gwFreshEnd_keeps {κ : Nat} {σ : State} {s : State} {r : Nat} (hκ : Sub 139 κ) (hσ : Keeps κ σ s) :
    Keeps κ σ (State.gwFreshEnd s r) := by
  have k0 : Sub 139 κ := Sub.trans (by decide : 139 &&& 139 = 139) hκ
  unfold State.gwFreshEnd
  repeat' first
    | with_reducible assumption
    | with_reducible apply State.gwDrop_keeps k0

theorem State.gwFreshUnset_keeps {κ : Nat} {σ : State} {s : State} {r : Nat} (hκ : Sub 139 κ) (hσ : Keeps κ σ s) :
    Keeps κ σ (State.gwFreshUnset s r) := by
  have k0 : Sub 139 κ := Sub.trans (by decide : 139 &&& 139 = 139) hκ
  unfold State.gwFreshUnset
  repeat' first
    | with_reducible assumption
    | with_reducible apply State.gwDrop_keeps k0

theorem State.gwKeyBad_keeps {κ : Nat} {σ : State} {s : State} {r : Nat} (hκ : Sub 139 κ) (hσ : Keeps κ σ s) :
    Keeps κ σ (State.gwKeyBad s r) := by
  have k0 : Sub 139 κ := Sub.trans (by decide : 139 &&& 139 = 139) hκ
  unfold State.gwKeyBad
  repeat' first
    | with_reducible assumption
    | with_reducible apply State.gwDrop_keeps k0

theorem State.gwRateDrop_keeps {κ : Nat} {σ : State} {s : State} {r : Nat} (hκ : Sub 139 κ) (hσ : Keeps κ σ s) :
    Keeps κ σ (State.gwRateDrop s r) := by
  have k0 : Sub 139 κ := Sub.trans (by decide : 139 &&& 139 = 139) hκ
  unfold State.gwRateDrop
  repeat' first
    | with_reducible assumption
    | with_reducible apply State.gwDrop_keeps k0

theorem State.gwDstFull_keeps {κ : Nat} {σ : State} {s : State} {r : Nat} (hκ : Sub 139 κ) (hσ : Keeps κ σ s) :
    Keeps κ σ (State.gwDstFull s r) := by
  have k0 : Sub 139 κ := Sub.trans (by decide : 139 &&& 139 = 139) hκ
  unfold State.gwDstFull
  repeat' first
    | with_reducible assumption
    | with_reducible apply State.gwDrop_keeps k0

theorem State.gwDstAsleep_keeps {κ : Nat} {σ : State} {s : State} {r : Nat} (hκ : Sub 139 κ) (hσ : Keeps κ σ s) :
    Keeps κ σ (State.gwDstAsleep s r) := by
  have k0 : Sub 139 κ := Sub.trans (by decide : 139 &&& 139 = 139) hκ
  unfold State.gwDstAsleep
  repeat' first
    | with_reducible assumption
    | with_reducible apply State.gwDrop_keeps k0

theorem State.gwDropLen_keeps {κ : Nat} {σ : State} {s : State} {r : Nat} (hκ : Sub 139 κ) (hσ : Keeps κ σ s) :
    Keeps κ σ (State.gwDropLen s r) := by
  have k0 : Sub 139 κ := Sub.trans (by decide : 139 &&& 139 = 139) hκ
  unfold State.gwDropLen
  repeat' first
    | with_reducible assumption
    | with_reducible apply State.gwDrop_keeps k0

theorem State.gwMismatch_keeps {κ : Nat} {σ : State} {s : State} {r : Nat} (hκ : Sub 139 κ) (hσ : Keeps κ σ s) :
    Keeps κ σ (State.gwMismatch s r) := by
  have k0 : Sub 139 κ := Sub.trans (by decide : 139 &&& 139 = 139) hκ
  unfold State.gwMismatch
  repeat' first
    | with_reducible assumption
    | with_reducible apply State.gwDrop_keeps k0

theorem State.gwSkip_keeps {κ : Nat} {σ : State} {s : State} {r : Nat} (hκ : Sub 139 κ) (hσ : Keeps κ σ s) :
    Keeps κ σ (State.gwSkip s r) := by
  have k0 : Sub 139 κ := Sub.trans (by decide : 139 &&& 139 = 139) hκ
  unfold State.gwSkip
  repeat' first
    | with_reducible assumption
    | with_reducible apply State.gwDrop_keeps k0

theorem State.gwCount_keeps {κ : Nat} {σ : State} {s : State} {r i : Nat} (hκ : Sub 2097152 κ) (hσ : Keeps κ σ s) :
    Keeps κ σ (State.gwCount s r i) := by
  have k0 : Sub 2097152 κ := Sub.trans (by decide : 2097152 &&& 2097152 = 2097152) hκ
  unfold State.gwCount
  repeat' first
    | with_reducible assumption
    | with_reducible apply State.setGwRule_keeps k0
    | dsimp -simprocs only
    | dsimp only

theorem State.gwVerify_keeps {κ : Nat} {σ : State} {s : State} {r : Nat} {v : GwRule} {g : GwFrame} (hκ : Sub 2097291 κ) (hσ : Keeps κ σ s) :
    Keeps κ σ (State.gwVerify s r v g).1 := by
  have k0 : Sub 139 κ := Sub.trans (by decide : 139 &&& 2097291 = 139) hκ
  have k1 : Sub 2097152 κ := Sub.trans (by decide : 2097152 &&& 2097291 = 2097152) hκ
  unfold State.gwVerify
  repeat' first
    | with_reducible assumption
    | with_reducible apply State.gwKeyBad_keeps k0
    | with_reducible apply State.gwFreshUnset_keeps k0
    | with_reducible apply State.gwAuthFail_keeps k0
    | with_reducible apply State.gwFreshEnd_keeps k0
    | with_reducible apply State.setGwFresh_keeps k1
    | with_reducible apply ite_keeps
    | with_reducible apply ite_fst_keeps
    | dsimp -simprocs only
    | dsimp only
    | split

theorem State.gwAppend_keeps {κ : Nat} {σ : State} {s : State} {r : Nat} {v : GwRule} {g : GwFrame} (hκ : Sub 2097291 κ) (hσ : Keeps κ σ s) :
    Keeps κ σ (State.gwAppend s r v g).1 := by
  have k0 : Sub 139 κ := Sub.trans (by decide : 139 &&& 2097291 = 139) hκ
  have k1 : Sub 2097152 κ := Sub.trans (by decide : 2097152 &&& 2097291 = 2097152) hκ
  unfold State.gwAppend
  repeat' first
    | with_reducible assumption
    | with_reducible apply State.gwKeyBad_keeps k0
    | with_reducible apply State.gwFreshUnset_keeps k0
    | with_reducible apply State.gwFreshEnd_keeps k0
    | with_reducible apply State.setGwFresh_keeps k1
    | with_reducible apply ite_keeps
    | with_reducible apply ite_fst_keeps
    | dsimp -simprocs only
    | dsimp only
    | split

theorem State.gwToCan_keeps {κ : Nat} {σ : State} {s : State} {r : Nat} {v : GwRule} {g : GwFrame} (hκ : Sub 2359451 κ) (hσ : Keeps κ σ s) :
    Keeps κ σ (State.gwToCan s r v g) := by
  have k0 : Sub 139 κ := Sub.trans (by decide : 139 &&& 2359451 = 139) hκ
  have k1 : Sub 262145 κ := Sub.trans (by decide : 262145 &&& 2359451 = 262145) hκ
  have k2 : Sub 262144 κ := Sub.trans (by decide : 262144 &&& 2359451 = 262144) hκ
  have k3 : Sub 16 κ := Sub.trans (by decide : 16 &&& 2359451 = 16) hκ
  have k4 : Sub 2097152 κ := Sub.trans (by decide : 2097152 &&& 2359451 = 2097152) hκ
  unfold State.gwToCan
  repeat' first
    | with_reducible assumption
    | with_reducible apply State.gwDropLen_keeps k0
    | with_reducible apply State.gwDstAsleep_keeps k0
    | with_reducible apply State.moveTrcv_keeps k1
    | with_reducible apply State.gwDstFull_keeps k0
    | with_reducible apply State.placeTx_keeps k2
    | with_reducible apply State.drawn_keeps k3
    | with_reducible apply State.gwCount_keeps k4
    | with_reducible apply ite_keeps
    | dsimp -simprocs only
    | dsimp only
    | split

theorem State.gwToQueue_keeps {κ : Nat} {σ : State} {s : State} {r : Nat} {v : GwRule} {g : GwFrame} (hκ : Sub 19138527 κ) (hσ : Keeps κ σ s) :
    Keeps κ σ (State.gwToQueue s r v g) := by
  have k0 : Sub 139 κ := Sub.trans (by decide : 139 &&& 19138527 = 139) hκ
  have k1 : Sub 16777679 κ := Sub.trans (by decide : 16777679 &&& 19138527 = 16777679) hκ
  have k2 : Sub 19138527 κ := Sub.trans (by decide : 19138527 &&& 19138527 = 19138527) hκ
  have k3 : Sub 459 κ := Sub.trans (by decide : 459 &&& 19138527 = 459) hκ
  have k4 : Sub 2097152 κ := Sub.trans (by decide : 2097152 &&& 19138527 = 2097152) hκ
  have k5 : Sub 16 κ := Sub.trans (by decide : 16 &&& 19138527 = 16) hκ
  unfold State.gwToQueue
  repeat' first
    | with_reducible assumption
    | with_reducible apply State.gwDropLen_keeps k0
    | with_reducible apply State.gwDstFull_keeps k0
    | with_reducible apply State.fabWrite_keeps k1
    | with_reducible apply State.gateway_keeps k2
    | with_reducible apply State.qPut_keeps k3
    | with_reducible apply State.setGwRule_keeps k4
    | with_reducible apply State.gwCount_keeps k4
    | with_reducible apply State.drawn_keeps k5
    | with_reducible apply ite_keeps
    | with_reducible apply ite_fst_keeps
    | dsimp -simprocs only
    | dsimp only
    | split

theorem State.recvEnd_keeps {κ : Nat} {σ : State} {s : State} {d : Desc} (hκ : Sub 128 κ) (hσ : Keeps κ σ s) :
    Keeps κ σ (State.recvEnd s d) := by
  have k0 : Sub 128 κ := Sub.trans (by decide : 128 &&& 128 = 128) hκ
  unfold State.recvEnd
  repeat' first
    | with_reducible assumption
    | with_reducible apply State.finish_keeps k0

theorem State.gwRecv_keeps {κ : Nat} {σ : State} {r : Nat} {b : Bytes} {a0 : List Desc} {a1 : State} (hκ : Sub 18874831 κ) (hσ : Keeps κ σ a1) :
    Keeps κ σ (State.gwRecv r b a0 a1) := by
  have k0 : Sub 139 κ := Sub.trans (by decide : 139 &&& 18874831 = 139) hκ
  have k1 : Sub 128 κ := Sub.trans (by decide : 128 &&& 18874831 = 128) hκ
  have k2 : Sub 16777679 κ := Sub.trans (by decide : 16777679 &&& 18874831 = 16777679) hκ
  have k3 : Sub 131 κ := Sub.trans (by decide : 131 &&& 18874831 = 131) hκ
  have k4 : Sub 2097152 κ := Sub.trans (by decide : 2097152 &&& 18874831 = 2097152) hκ
  fun_induction State.gwRecv r b a0 a1
  all_goals repeat' first
    | with_reducible assumption
    | with_reducible apply State.gwDstFull_keeps k0
    | with_reducible apply State.gwDropLen_keeps k0
    | with_reducible apply State.recvEnd_keeps k1
    | with_reducible apply State.fabWrite_keeps k2
    | with_reducible apply State.refuseWrite_keeps k3
    | with_reducible apply State.updDesc_keeps k1
    | with_reducible apply State.onGwy_keeps k4
    | with_reducible apply State.gwCount_keeps k4
    | with_reducible apply ite_keeps
    | with_reducible apply ite_fst_keeps
    | intro _
    | dsimp -simprocs only
    | dsimp only
    | split
    | with_reducible apply_assumption

theorem State.gwToRound_keeps {κ : Nat} {σ : State} {s : State} {r : Nat} {v : GwRule} {g : GwFrame} (hκ : Sub 18874847 κ) (hσ : Keeps κ σ s) :
    Keeps κ σ (State.gwToRound s r v g) := by
  have k0 : Sub 18874831 κ := Sub.trans (by decide : 18874831 &&& 18874847 = 18874831) hκ
  have k1 : Sub 16 κ := Sub.trans (by decide : 16 &&& 18874847 = 16) hκ
  unfold State.gwToRound
  repeat' first
    | with_reducible assumption
    | with_reducible apply State.gwRecv_keeps k0
    | with_reducible apply State.drawn_keeps k1

theorem State.gwFlush_keeps {κ : Nat} {σ : State} {s : State} {t : Nat} (hκ : Sub 2098891 κ) (hσ : Keeps κ σ s) :
    Keeps κ σ (State.gwFlush s t) := by
  have k0 : Sub 2097152 κ := Sub.trans (by decide : 2097152 &&& 2098891 = 2097152) hκ
  have k1 : Sub 1739 κ := Sub.trans (by decide : 1739 &&& 2098891 = 1739) hκ
  unfold State.gwFlush
  repeat' first
    | with_reducible assumption
    | with_reducible apply State.setGwTmpl_keeps k0
    | with_reducible apply State.swIngress_keeps k1
    | with_reducible apply ite_keeps
    | with_reducible apply ite_fst_keeps
    | dsimp -simprocs only
    | dsimp only

theorem State.gwToEth_keeps {κ : Nat} {σ : State} {s : State} {r : Nat} {v : GwRule} {g : GwFrame} (hκ : Sub 2098891 κ) (hσ : Keeps κ σ s) :
    Keeps κ σ (State.gwToEth s r v g) := by
  have k0 : Sub 139 κ := Sub.trans (by decide : 139 &&& 2098891 = 139) hκ
  have k1 : Sub 2098891 κ := Sub.trans (by decide : 2098891 &&& 2098891 = 2098891) hκ
  have k2 : Sub 2097152 κ := Sub.trans (by decide : 2097152 &&& 2098891 = 2097152) hκ
  unfold State.gwToEth
  repeat' first
    | with_reducible assumption
    | with_reducible apply State.gwDstFull_keeps k0
    | with_reducible apply State.gwDropLen_keeps k0
    | with_reducible apply State.gwFlush_keeps k1
    | with_reducible apply State.setGwTmpl_keeps k2
    | with_reducible apply State.gwCount_keeps k2
    | with_reducible apply ite_keeps
    | dsimp -simprocs only
    | dsimp only
    | split

theorem State.gwSend_keeps {κ : Nat} {σ : State} {s : State} {r : Nat} {g : GwFrame} (hκ : Sub 19138527 κ) (hσ : Keeps κ σ s) :
    Keeps κ σ (State.gwSend s r g) := by
  have k0 : Sub 2097152 κ := Sub.trans (by decide : 2097152 &&& 19138527 = 2097152) hκ
  have k1 : Sub 2097291 κ := Sub.trans (by decide : 2097291 &&& 19138527 = 2097291) hκ
  have k2 : Sub 2359451 κ := Sub.trans (by decide : 2359451 &&& 19138527 = 2359451) hκ
  have k3 : Sub 2098891 κ := Sub.trans (by decide : 2098891 &&& 19138527 = 2098891) hκ
  have k4 : Sub 19138527 κ := Sub.trans (by decide : 19138527 &&& 19138527 = 19138527) hκ
  have k5 : Sub 18874847 κ := Sub.trans (by decide : 18874847 &&& 19138527 = 18874847) hκ
  unfold State.gwSend
  repeat' first
    | with_reducible assumption
    | with_reducible apply State.setGwRule_keeps k0
    | with_reducible apply State.gwAppend_keeps k1
    | with_reducible apply State.gwCount_keeps k0
    | with_reducible apply State.gwToCan_keeps k2
    | with_reducible apply State.gwToEth_keeps k3
    | with_reducible apply State.gwToQueue_keeps k4
    | with_reducible apply State.gwToRound_keeps k5
    | with_reducible apply ite_keeps
    | with_reducible apply ite_fst_keeps
    | dsimp -simprocs only
    | dsimp only
    | split

theorem State.gwRefill_keeps {κ : Nat} {σ : State} {s : State} {r : Nat} (hκ : Sub 2097152 κ) (hσ : Keeps κ σ s) :
    Keeps κ σ (State.gwRefill s r) := by
  have k0 : Sub 2097152 κ := Sub.trans (by decide : 2097152 &&& 2097152 = 2097152) hκ
  unfold State.gwRefill
  repeat' first
    | with_reducible assumption
    | with_reducible apply State.setGwRule_keeps k0
    | dsimp -simprocs only
    | dsimp only

theorem State.gwHold_keeps {κ : Nat} {σ : State} {s : State} {r : Nat} {g : GwFrame} (hκ : Sub 2097154 κ) (hσ : Keeps κ σ s) :
    Keeps κ σ (State.gwHold s r g) := by
  have k0 : Sub 2 κ := Sub.trans (by decide : 2 &&& 2097154 = 2) hκ
  have k1 : Sub 2097152 κ := Sub.trans (by decide : 2097152 &&& 2097154 = 2097152) hκ
  unfold State.gwHold
  repeat' first
    | with_reducible assumption
    | with_reducible apply State.count_keeps k0
    | with_reducible apply State.gwCount_keeps k1
    | with_reducible apply State.setGwRule_keeps k1
    | with_reducible apply ite_keeps
    | dsimp -simprocs only
    | dsimp only

theorem State.gwRate_keeps {κ : Nat} {σ : State} {s : State} {r : Nat} {g : GwFrame} (hκ : Sub 19138527 κ) (hσ : Keeps κ σ s) :
    Keeps κ σ (State.gwRate s r g) := by
  have k0 : Sub 2097152 κ := Sub.trans (by decide : 2097152 &&& 19138527 = 2097152) hκ
  have k1 : Sub 2097154 κ := Sub.trans (by decide : 2097154 &&& 19138527 = 2097154) hκ
  have k2 : Sub 19138527 κ := Sub.trans (by decide : 19138527 &&& 19138527 = 19138527) hκ
  have k3 : Sub 139 κ := Sub.trans (by decide : 139 &&& 19138527 = 139) hκ
  unfold State.gwRate
  repeat' first
    | with_reducible assumption
    | with_reducible apply State.gwRefill_keeps k0
    | with_reducible apply State.gwHold_keeps k1
    | with_reducible apply State.gwSend_keeps k2
    | with_reducible apply State.gwRateDrop_keeps k3
    | with_reducible apply State.gwCount_keeps k0
    | with_reducible apply ite_keeps
    | dsimp -simprocs only
    | dsimp only
    | split

theorem State.gwRelease_keeps {κ : Nat} {σ : State} {s : State} {r : Nat} (hκ : Sub 19138527 κ) (hσ : Keeps κ σ s) :
    Keeps κ σ (State.gwRelease s r) := by
  have k0 : Sub 2097152 κ := Sub.trans (by decide : 2097152 &&& 19138527 = 2097152) hκ
  have k1 : Sub 19138527 κ := Sub.trans (by decide : 19138527 &&& 19138527 = 19138527) hκ
  unfold State.gwRelease
  repeat' first
    | with_reducible assumption
    | with_reducible apply State.gwRefill_keeps k0
    | with_reducible apply State.setGwRule_keeps k0
    | with_reducible apply State.gwSend_keeps k1
    | with_reducible apply ite_keeps
    | dsimp -simprocs only
    | dsimp only
    | split

theorem State.gwApply_keeps {κ : Nat} {σ : State} {s : State} {r i : Nat} {b : Bytes} (hκ : Sub 2097291 κ) (hσ : Keeps κ σ s) :
    Keeps κ σ (State.gwApply s r i b).1 := by
  have k0 : Sub 139 κ := Sub.trans (by decide : 139 &&& 2097291 = 139) hκ
  have k1 : Sub 2097152 κ := Sub.trans (by decide : 2097152 &&& 2097291 = 2097152) hκ
  unfold State.gwApply
  repeat' first
    | with_reducible assumption
    | with_reducible apply State.gwSkip_keeps k0
    | with_reducible apply State.setGwPdu_keeps k1
    | with_reducible apply State.setGwMap_keeps k1
    | with_reducible apply ite_keeps
    | with_reducible apply ite_fst_keeps
    | dsimp -simprocs only
    | dsimp only
    | split

theorem State.gwMaps_keeps {κ : Nat} {σ : State} {s : State} {r : Nat} {b : Bytes} {a0 : List Nat} (hκ : Sub 2097291 κ) (hσ : Keeps κ σ s) :
    Keeps κ σ (State.gwMaps s r b a0).1 := by
  have k0 : Sub 2097291 κ := Sub.trans (by decide : 2097291 &&& 2097291 = 2097291) hκ
  fun_induction State.gwMaps s r b a0
  all_goals repeat' first
    | with_reducible assumption
    | with_reducible apply State.gwApply_keeps k0
    | with_reducible apply ite_keeps
    | with_reducible apply ite_fst_keeps
    | dsimp -simprocs only
    | dsimp only
    | split
    | with_reducible apply_assumption

theorem State.gwClearUpd_keeps {κ : Nat} {σ : State} {s : State} {k : Nat} (hκ : Sub 2097152 κ) (hσ : Keeps κ σ s) :
    Keeps κ σ (State.gwClearUpd s k) := by
  have k0 : Sub 2097152 κ := Sub.trans (by decide : 2097152 &&& 2097152 = 2097152) hκ
  unfold State.gwClearUpd
  repeat' first
    | with_reducible assumption
    | with_reducible apply State.setGwPdu_keeps k0
    | with_reducible refine foldl_keeps (fun _ _ _ => ?_) ?_
    | with_reducible refine foldl_fst_keeps (fun _ _ _ => ?_) ?_
    | dsimp -simprocs only
    | dsimp only

theorem State.gwSendPdu_keeps {κ : Nat} {σ : State} {s : State} {k : Nat} (hκ : Sub 19138527 κ) (hσ : Keeps κ σ s) :
    Keeps κ σ (State.gwSendPdu s k) := by
  have k0 : Sub 2097152 κ := Sub.trans (by decide : 2097152 &&& 19138527 = 2097152) hκ
  have k1 : Sub 19138527 κ := Sub.trans (by decide : 19138527 &&& 19138527 = 19138527) hκ
  unfold State.gwSendPdu
  repeat' first
    | with_reducible assumption
    | with_reducible apply State.gwCount_keeps k0
    | with_reducible apply State.gwRate_keeps k1
    | with_reducible apply State.gwClearUpd_keeps k0
    | with_reducible apply ite_keeps
    | dsimp -simprocs only
    | dsimp only
    | split

theorem State.gwCopy_keeps {κ : Nat} {σ : State} {s : State} {r : Nat} {g : GwFrame} (hκ : Sub 19138527 κ) (hσ : Keeps κ σ s) :
    Keeps κ σ (State.gwCopy s r g) := by
  have k0 : Sub 2097291 κ := Sub.trans (by decide : 2097291 &&& 19138527 = 2097291) hκ
  have k1 : Sub 2097152 κ := Sub.trans (by decide : 2097152 &&& 19138527 = 2097152) hκ
  have k2 : Sub 19138527 κ := Sub.trans (by decide : 19138527 &&& 19138527 = 19138527) hκ
  unfold State.gwCopy
  repeat' first
    | with_reducible assumption
    | with_reducible apply State.gwVerify_keeps k0
    | with_reducible apply State.gwCount_keeps k1
    | with_reducible apply State.gwMaps_keeps k0
    | with_reducible apply State.gwSendPdu_keeps k2
    | with_reducible apply State.gwRate_keeps k2
    | with_reducible apply ite_keeps
    | with_reducible apply ite_fst_keeps
    | with_reducible refine forEach_keeps (fun _ _ _ => ?_) ?_
    | dsimp -simprocs only
    | dsimp only
    | split

theorem State.gwChain_keeps {κ : Nat} {σ : State} {a0 : Nat} {a1 : Nat} {a2 : GwFrame} {a3 : State} (hκ : Sub 19138527 κ) (hσ : Keeps κ σ a3) :
    Keeps κ σ (State.gwChain a0 a1 a2 a3) := by
  have k0 : Sub 2 κ := Sub.trans (by decide : 2 &&& 19138527 = 2) hκ
  have k1 : Sub 139 κ := Sub.trans (by decide : 139 &&& 19138527 = 139) hκ
  have k2 : Sub 2097152 κ := Sub.trans (by decide : 2097152 &&& 19138527 = 2097152) hκ
  have k3 : Sub 19138527 κ := Sub.trans (by decide : 19138527 &&& 19138527 = 19138527) hκ
  fun_induction State.gwChain a0 a1 a2 a3
  all_goals repeat' first
    | with_reducible assumption
    | with_reducible apply State.count_keeps k0
    | with_reducible apply State.raise_keeps k1
    | with_reducible apply State.gwMismatch_keeps k1
    | with_reducible apply State.gwCount_keeps k2
    | with_reducible apply State.gwCopy_keeps k3
    | with_reducible apply ite_keeps
    | dsimp -simprocs only
    | dsimp only
    | split
    | with_reducible apply_assumption

theorem State.gateway_keeps {κ : Nat} {σ : State} {s : State} {r : Nat} {g : GwFrame} (hκ : Sub 19138527 κ) (hσ : Keeps κ σ s) :
    Keeps κ σ (State.gateway s r g) := by
  have k0 : Sub 19138527 κ := Sub.trans (by decide : 19138527 &&& 19138527 = 19138527) hκ
  unfold State.gateway
  repeat' first
    | with_reducible assumption
    | with_reducible apply State.gwChain_keeps k0
    | with_reducible apply ite_keeps

theorem State.gwCan_keeps {κ : Nat} {σ : State} {s : State} {n r : Nat} {f : CanFrame} {ts : Nat} (hκ : Sub 19138527 κ) (hσ : Keeps κ σ s) :
    Keeps κ σ (State.gwCan s n r f ts) := by
  have k0 : Sub 19138527 κ := Sub.trans (by decide : 19138527 &&& 19138527 = 19138527) hκ
  unfold State.gwCan
  repeat' first
    | with_reducible assumption
    | with_reducible apply State.gateway_keeps k0

theorem State.gwSerial_keeps {κ : Nat} {σ : State} {s : State} {p k : Nat} {b : Bytes} {ts : Nat} (hκ : Sub 19138527 κ) (hσ : Keeps κ σ s) :
    Keeps κ σ (State.gwSerial s p k b ts) := by
  have k0 : Sub 19138527 κ := Sub.trans (by decide : 19138527 &&& 19138527 = 19138527) hκ
  unfold State.gwSerial
  repeat' first
    | with_reducible assumption
    | with_reducible apply State.gateway_keeps k0
    | split

end Sys2Proof.Machine
end

