-- ==== Sys2Proof/Laws/KeepsCan.lean ====
section
/-! SUPPORT. What each operation of Machine/Can may do to State. -/
namespace Sys2Proof.Machine

theorem State.canOn_keeps {κ : Nat} {σ : State} {s : State} {n : Nat} (hκ : Sub 262283 κ) (hσ : Keeps κ σ s) :
    Keeps κ σ (State.canOn s n) := by
  have k0 : Sub 139 κ := Sub.trans (by decide : 139 &&& 262283 = 139) hκ
  have k1 : Sub 1 κ := Sub.trans (by decide : 1 &&& 262283 = 1) hκ
  have k2 : Sub 262144 κ := Sub.trans (by decide : 262144 &&& 262283 = 262144) hκ
  unfold State.canOn
  repeat' first
    | with_reducible assumption
    | with_reducible apply State.raise_keeps k0
    | with_reducible apply State.put_keeps k1
    | with_reducible apply State.setCtl_keeps k2
    | with_reducible apply ite_keeps
    | dsimp -simprocs only
    | dsimp only

theorem State.canOff_keeps {κ : Nat} {σ : State} {s : State} {n : Nat} (hκ : Sub 262273 κ) (hσ : Keeps κ σ s) :
    Keeps κ σ (State.canOff s n) := by
  have k0 : Sub 1 κ := Sub.trans (by decide : 1 &&& 262273 = 1) hκ
  have k1 : Sub 262272 κ := Sub.trans (by decide : 262272 &&& 262273 = 262272) hκ
  have k2 : Sub 262144 κ := Sub.trans (by decide : 262144 &&& 262273 = 262144) hκ
  unfold State.canOff
  repeat' first
    | with_reducible assumption
    | with_reducible apply State.put_keeps k0
    | with_reducible apply State.flushTx_keeps k1
    | with_reducible apply State.setCtl_keeps k2
    | with_reducible apply ite_keeps
    | dsimp -simprocs only
    | dsimp only

theorem State.canCtlFields_keeps {κ : Nat} {σ : State} {s : State} {n v : Nat} (hκ : Sub 262273 κ) (hσ : Keeps κ σ s) :
    Keeps κ σ (State.canCtlFields s n v) := by
  have k0 : Sub 1 κ := Sub.trans (by decide : 1 &&& 262273 = 1) hκ
  have k1 : Sub 262272 κ := Sub.trans (by decide : 262272 &&& 262273 = 262272) hκ
  unfold State.canCtlFields
  repeat' first
    | with_reducible assumption
    | with_reducible apply State.put_keeps k0
    | with_reducible apply State.flushTx_keeps k1
    | with_reducible apply ite_keeps
    | dsimp -simprocs only
    | dsimp only

theorem State.canCtlWrite_keeps {κ : Nat} {σ : State} {s : State} {n v : Nat} (hκ : Sub 262283 κ) (hσ : Keeps κ σ s) :
    Keeps κ σ (State.canCtlWrite s n v) := by
  have k0 : Sub 262273 κ := Sub.trans (by decide : 262273 &&& 262283 = 262273) hκ
  have k1 : Sub 139 κ := Sub.trans (by decide : 139 &&& 262283 = 139) hκ
  have k2 : Sub 262283 κ := Sub.trans (by decide : 262283 &&& 262283 = 262283) hκ
  unfold State.canCtlWrite
  repeat' first
    | with_reducible assumption
    | with_reducible apply State.canCtlFields_keeps k0
    | with_reducible apply State.canOff_keeps k0
    | with_reducible apply State.raise_keeps k1
    | with_reducible apply State.canOn_keeps k2
    | with_reducible apply ite_keeps
    | dsimp -simprocs only
    | dsimp only

theorem execCanEnable_keeps {κ : Nat} {σ : State} {n val : Nat} {s : State} (hκ : Sub 262283 κ) (hσ : Keeps κ σ s) :
    NextKeeps κ σ (execCanEnable n val s) := by
  have k0 : Sub 262283 κ := Sub.trans (by decide : 262283 &&& 262283 = 262283) hκ
  unfold execCanEnable
  repeat' first
    | with_reducible assumption
    | with_reducible apply next_keeps
    | with_reducible apply ite_next_keeps
    | with_reducible apply State.canCtlWrite_keeps k0
    | with_reducible apply ite_keeps

theorem execCanDisable_keeps {κ : Nat} {σ : State} {n val : Nat} {s : State} (hκ : Sub 262283 κ) (hσ : Keeps κ σ s) :
    NextKeeps κ σ (execCanDisable n val s) := by
  have k0 : Sub 262283 κ := Sub.trans (by decide : 262283 &&& 262283 = 262283) hκ
  unfold execCanDisable
  repeat' first
    | with_reducible assumption
    | with_reducible apply next_keeps
    | with_reducible apply ite_next_keeps
    | with_reducible apply State.canCtlWrite_keeps k0
    | with_reducible apply ite_keeps

theorem State.canPexc_keeps {κ : Nat} {σ : State} {s : State} {n : Nat} (hκ : Sub 262283 κ) (hσ : Keeps κ σ s) :
    Keeps κ σ (State.canPexc s n) := by
  have k0 : Sub 2 κ := Sub.trans (by decide : 2 &&& 262283 = 2) hκ
  have k1 : Sub 139 κ := Sub.trans (by decide : 139 &&& 262283 = 139) hκ
  have k2 : Sub 262144 κ := Sub.trans (by decide : 262144 &&& 262283 = 262144) hκ
  unfold State.canPexc
  repeat' first
    | with_reducible assumption
    | with_reducible apply State.count_keeps k0
    | with_reducible apply State.raise_keeps k1
    | with_reducible apply State.setCtl_keeps k2

theorem State.canDeliver_keeps {κ : Nat} {σ : State} {s : State} {n : Nat} {f : CanFrame} {ts : Nat} (hκ : Sub 19138527 κ) (hσ : Keeps κ σ s) :
    Keeps κ σ (State.canDeliver s n f ts) := by
  have k0 : Sub 2 κ := Sub.trans (by decide : 2 &&& 19138527 = 2) hκ
  have k1 : Sub 262283 κ := Sub.trans (by decide : 262283 &&& 19138527 = 262283) hκ
  have k2 : Sub 19138527 κ := Sub.trans (by decide : 19138527 &&& 19138527 = 19138527) hκ
  unfold State.canDeliver
  repeat' first
    | with_reducible assumption
    | with_reducible apply State.count_keeps k0
    | with_reducible apply State.storeRx_keeps k1
    | with_reducible apply State.gwCan_keeps k2
    | with_reducible apply ite_keeps
    | dsimp -simprocs only
    | dsimp only
    | split

theorem State.setMirTxq_keeps {κ : Nat} {σ : State} {s : State} {n q : Nat} {l : List Bytes} (hκ : Sub 16777216 κ) (hσ : Keeps κ σ s) :
    Keeps κ σ (State.setMirTxq s n q l) := by
  have k0 : Sub 16777216 κ := Sub.trans (by decide : 16777216 &&& 16777216 = 16777216) hκ
  unfold State.setMirTxq
  repeat' first
    | with_reducible assumption
    | with_reducible apply State.onPai_keeps k0
    | intro _

theorem State.mirSeen_keeps {κ : Nat} {σ : State} {s : State} {n : Nat} {f : CanFrame} (hκ : Sub 16777216 κ) (hσ : Keeps κ σ s) :
    Keeps κ σ (State.mirSeen s n f) := by
  have k0 : Sub 16777216 κ := Sub.trans (by decide : 16777216 &&& 16777216 = 16777216) hκ
  unfold State.mirSeen
  repeat' first
    | with_reducible assumption
    | with_reducible apply State.setMirTxq_keeps k0
    | with_reducible apply ite_keeps
    | split

theorem State.canRx_keeps {κ : Nat} {σ : State} {s : State} {n : Nat} {f : CanFrame} {sof : Nat} (hκ : Sub 19142623 κ) (hσ : Keeps κ σ s) :
    Keeps κ σ (State.canRx s n f sof) := by
  have k0 : Sub 16777216 κ := Sub.trans (by decide : 16777216 &&& 19142623 = 16777216) hκ
  have k1 : Sub 2 κ := Sub.trans (by decide : 2 &&& 19142623 = 2) hκ
  have k2 : Sub 1 κ := Sub.trans (by decide : 1 &&& 19142623 = 1) hκ
  have k3 : Sub 262283 κ := Sub.trans (by decide : 262283 &&& 19142623 = 262283) hκ
  have k4 : Sub 4096 κ := Sub.trans (by decide : 4096 &&& 19142623 = 4096) hκ
  have k5 : Sub 19138527 κ := Sub.trans (by decide : 19138527 &&& 19142623 = 19138527) hκ
  unfold State.canRx
  repeat' first
    | with_reducible assumption
    | with_reducible apply State.mirSeen_keeps k0
    | with_reducible apply State.count_keeps k1
    | with_reducible apply State.endHold_keeps k2
    | with_reducible apply State.errCounts_keeps k3
    | with_reducible apply State.wakeMeets_keeps k4
    | with_reducible apply State.canDeliver_keeps k5
    | with_reducible apply ite_keeps
    | dsimp -simprocs only
    | dsimp only

theorem execCanFrameReceived_keeps {κ : Nat} {σ : State} {n : Nat} {f : CanFrame} {ago : Nat} {s : State} (hκ : Sub 19142623 κ) (hσ : Keeps κ σ s) :
    NextKeeps κ σ (execCanFrameReceived n f ago s) := by
  have k0 : Sub 262283 κ := Sub.trans (by decide : 262283 &&& 19142623 = 262283) hκ
  have k1 : Sub 19142623 κ := Sub.trans (by decide : 19142623 &&& 19142623 = 19142623) hκ
  unfold execCanFrameReceived
  repeat' first
    | with_reducible assumption
    | with_reducible apply next_keeps
    | with_reducible apply ite_next_keeps
    | with_reducible apply State.canPexc_keeps k0
    | with_reducible apply State.canRx_keeps k1
    | with_reducible apply ite_keeps
    | split

theorem execCanProtocolException_keeps {κ : Nat} {σ : State} {n fmt : Nat} {s : State} (hκ : Sub 262283 κ) (hσ : Keeps κ σ s) :
    NextKeeps κ σ (execCanProtocolException n fmt s) := by
  have k0 : Sub 262283 κ := Sub.trans (by decide : 262283 &&& 262283 = 262283) hκ
  unfold execCanProtocolException
  repeat' first
    | with_reducible assumption
    | with_reducible apply next_keeps
    | with_reducible apply ite_next_keeps
    | with_reducible apply State.canPexc_keeps k0
    | with_reducible apply ite_keeps

theorem execCanTxStart_keeps {κ : Nat} {σ : State} {n : Nat} {s : State} (hκ : Sub 262144 κ) (hσ : Keeps κ σ s) :
    NextKeeps κ σ (execCanTxStart n s) := by
  have k0 : Sub 262144 κ := Sub.trans (by decide : 262144 &&& 262144 = 262144) hκ
  unfold execCanTxStart
  repeat' first
    | with_reducible assumption
    | with_reducible apply next_keeps
    | with_reducible apply ite_next_keeps
    | with_reducible apply State.setCtl_keeps k0
    | with_reducible apply ite_keeps
    | dsimp -simprocs only
    | dsimp only
    | split

theorem State.setHead_keeps {κ : Nat} {σ : State} {s : State} {n q : Nat} {x : CanTx} (hκ : Sub 262144 κ) (hσ : Keeps κ σ s) :
    Keeps κ σ (State.setHead s n q x) := by
  have k0 : Sub 262144 κ := Sub.trans (by decide : 262144 &&& 262144 = 262144) hκ
  unfold State.setHead
  repeat' first
    | with_reducible assumption
    | with_reducible apply State.setCtl_keeps k0
    | dsimp -simprocs only
    | dsimp only

theorem State.txAbandon_keeps {κ : Nat} {σ : State} {s : State} {n q ts : Nat} {arb : Bool} (hκ : Sub 262283 κ) (hσ : Keeps κ σ s) :
    Keeps κ σ (State.txAbandon s n q ts arb) := by
  have k0 : Sub 2 κ := Sub.trans (by decide : 2 &&& 262283 = 2) hκ
  have k1 : Sub 139 κ := Sub.trans (by decide : 139 &&& 262283 = 139) hκ
  have k2 : Sub 262272 κ := Sub.trans (by decide : 262272 &&& 262283 = 262272) hκ
  unfold State.txAbandon
  repeat' first
    | with_reducible assumption
    | with_reducible apply State.count_keeps k0
    | with_reducible apply State.raise_keeps k1
    | with_reducible apply State.popTx_keeps k2

theorem execCanArbLost_keeps {κ : Nat} {σ : State} {n : Nat} {s : State} (hκ : Sub 262283 κ) (hσ : Keeps κ σ s) :
    NextKeeps κ σ (execCanArbLost n s) := by
  have k0 : Sub 2 κ := Sub.trans (by decide : 2 &&& 262283 = 2) hκ
  have k1 : Sub 262144 κ := Sub.trans (by decide : 262144 &&& 262283 = 262144) hκ
  have k2 : Sub 262272 κ := Sub.trans (by decide : 262272 &&& 262283 = 262272) hκ
  have k3 : Sub 262283 κ := Sub.trans (by decide : 262283 &&& 262283 = 262283) hκ
  unfold execCanArbLost
  repeat' first
    | with_reducible assumption
    | with_reducible apply next_keeps
    | with_reducible apply ite_next_keeps
    | with_reducible apply State.count_keeps k0
    | with_reducible apply State.idleTx_keeps k1
    | with_reducible apply State.setHead_keeps k1
    | with_reducible apply State.popTx_keeps k2
    | with_reducible apply State.txAbandon_keeps k3
    | with_reducible apply ite_keeps
    | dsimp -simprocs only
    | dsimp only
    | split

theorem State.measureLoop_keeps {κ : Nat} {σ : State} {s : State} {n : Nat} {x : CanTx} (hκ : Sub 17 κ) (hσ : Keeps κ σ s) :
    Keeps κ σ (State.measureLoop s n x) := by
  have k0 : Sub 1 κ := Sub.trans (by decide : 1 &&& 17 = 1) hκ
  have k1 : Sub 16 κ := Sub.trans (by decide : 16 &&& 17 = 16) hκ
  unfold State.measureLoop
  repeat' first
    | with_reducible assumption
    | with_reducible apply State.put_keeps k0
    | with_reducible apply State.drawn_keeps k1
    | with_reducible apply ite_keeps

theorem State.canSent_keeps {κ : Nat} {σ : State} {s : State} {n q : Nat} {x : CanTx} (hκ : Sub 262299 κ) (hσ : Keeps κ σ s) :
    Keeps κ σ (State.canSent s n q x) := by
  have k0 : Sub 2 κ := Sub.trans (by decide : 2 &&& 262299 = 2) hκ
  have k1 : Sub 1 κ := Sub.trans (by decide : 1 &&& 262299 = 1) hκ
  have k2 : Sub 17 κ := Sub.trans (by decide : 17 &&& 262299 = 17) hκ
  have k3 : Sub 262144 κ := Sub.trans (by decide : 262144 &&& 262299 = 262144) hκ
  have k4 : Sub 262272 κ := Sub.trans (by decide : 262272 &&& 262299 = 262272) hκ
  have k5 : Sub 262283 κ := Sub.trans (by decide : 262283 &&& 262299 = 262283) hκ
  unfold State.canSent
  repeat' first
    | with_reducible assumption
    | with_reducible apply State.count_keeps k0
    | with_reducible apply State.put_keeps k1
    | with_reducible apply State.measureLoop_keeps k2
    | with_reducible apply State.idleTx_keeps k3
    | with_reducible apply State.popTx_keeps k4
    | with_reducible apply State.errCounts_keeps k5
    | with_reducible apply ite_keeps
    | dsimp -simprocs only
    | dsimp only

theorem execCanTxDone_keeps {κ : Nat} {σ : State} {n : Nat} {s : State} (hκ : Sub 262299 κ) (hσ : Keeps κ σ s) :
    NextKeeps κ σ (execCanTxDone n s) := by
  have k0 : Sub 262299 κ := Sub.trans (by decide : 262299 &&& 262299 = 262299) hκ
  unfold execCanTxDone
  repeat' first
    | with_reducible assumption
    | with_reducible apply next_keeps
    | with_reducible apply ite_next_keeps
    | with_reducible apply State.canSent_keeps k0
    | with_reducible apply ite_keeps
    | split

theorem State.showErr_keeps {κ : Nat} {σ : State} {s : State} {n : Nat} {e : CanErr} (hκ : Sub 1 κ) (hσ : Keeps κ σ s) :
    Keeps κ σ (State.showErr s n e) := by
  have k0 : Sub 1 κ := Sub.trans (by decide : 1 &&& 1 = 1) hκ
  unfold State.showErr
  repeat' first
    | with_reducible assumption
    | with_reducible apply State.put_keeps k0
    | with_reducible apply ite_keeps
    | dsimp -simprocs only
    | dsimp only

theorem State.canFailed_keeps {κ : Nat} {σ : State} {s : State} {n q : Nat} {x : CanTx} {e : CanErr} (hκ : Sub 262299 κ) (hσ : Keeps κ σ s) :
    Keeps κ σ (State.canFailed s n q x e) := by
  have k0 : Sub 17 κ := Sub.trans (by decide : 17 &&& 262299 = 17) hκ
  have k1 : Sub 2 κ := Sub.trans (by decide : 2 &&& 262299 = 2) hκ
  have k2 : Sub 262144 κ := Sub.trans (by decide : 262144 &&& 262299 = 262144) hκ
  have k3 : Sub 1 κ := Sub.trans (by decide : 1 &&& 262299 = 1) hκ
  have k4 : Sub 262272 κ := Sub.trans (by decide : 262272 &&& 262299 = 262272) hκ
  have k5 : Sub 262283 κ := Sub.trans (by decide : 262283 &&& 262299 = 262283) hκ
  have k6 : Sub 139 κ := Sub.trans (by decide : 139 &&& 262299 = 139) hκ
  unfold State.canFailed
  repeat' first
    | with_reducible assumption
    | with_reducible apply State.measureLoop_keeps k0
    | with_reducible apply State.count_keeps k1
    | with_reducible apply State.idleTx_keeps k2
    | with_reducible apply State.setHead_keeps k2
    | with_reducible apply State.showErr_keeps k3
    | with_reducible apply State.popTx_keeps k4
    | with_reducible apply State.errCounts_keeps k5
    | with_reducible apply State.put_keeps k3
    | with_reducible apply State.raise_keeps k6
    | with_reducible apply State.txAbandon_keeps k5
    | with_reducible apply ite_keeps
    | dsimp -simprocs only
    | dsimp only
    | split

theorem execCanTxError_keeps {κ : Nat} {σ : State} {n : Nat} {e : CanErr} {s : State} (hκ : Sub 262299 κ) (hσ : Keeps κ σ s) :
    NextKeeps κ σ (execCanTxError n e s) := by
  have k0 : Sub 17 κ := Sub.trans (by decide : 17 &&& 262299 = 17) hκ
  have k1 : Sub 2 κ := Sub.trans (by decide : 2 &&& 262299 = 2) hκ
  have k2 : Sub 262144 κ := Sub.trans (by decide : 262144 &&& 262299 = 262144) hκ
  have k3 : Sub 262272 κ := Sub.trans (by decide : 262272 &&& 262299 = 262272) hκ
  have k4 : Sub 262299 κ := Sub.trans (by decide : 262299 &&& 262299 = 262299) hκ
  unfold execCanTxError
  repeat' first
    | with_reducible assumption
    | with_reducible apply next_keeps
    | with_reducible apply ite_next_keeps
    | with_reducible apply State.measureLoop_keeps k0
    | with_reducible apply State.count_keeps k1
    | with_reducible apply State.idleTx_keeps k2
    | with_reducible apply State.popTx_keeps k3
    | with_reducible apply State.canFailed_keeps k4
    | with_reducible apply ite_keeps
    | dsimp -simprocs only
    | dsimp only
    | split

theorem execCanRxError_keeps {κ : Nat} {σ : State} {n : Nat} {e : CanErr} {s : State} (hκ : Sub 262283 κ) (hσ : Keeps κ σ s) :
    NextKeeps κ σ (execCanRxError n e s) := by
  have k0 : Sub 2 κ := Sub.trans (by decide : 2 &&& 262283 = 2) hκ
  have k1 : Sub 1 κ := Sub.trans (by decide : 1 &&& 262283 = 1) hκ
  have k2 : Sub 262283 κ := Sub.trans (by decide : 262283 &&& 262283 = 262283) hκ
  unfold execCanRxError
  repeat' first
    | with_reducible assumption
    | with_reducible apply next_keeps
    | with_reducible apply ite_next_keeps
    | with_reducible apply State.count_keeps k0
    | with_reducible apply State.showErr_keeps k1
    | with_reducible apply State.errCounts_keeps k2
    | with_reducible apply ite_keeps
    | dsimp -simprocs only
    | dsimp only
    | split

theorem execCanBusoffRecovered_keeps {κ : Nat} {σ : State} {n : Nat} {s : State} (hκ : Sub 262283 κ) (hσ : Keeps κ σ s) :
    NextKeeps κ σ (execCanBusoffRecovered n s) := by
  have k0 : Sub 262144 κ := Sub.trans (by decide : 262144 &&& 262283 = 262144) hκ
  have k1 : Sub 1 κ := Sub.trans (by decide : 1 &&& 262283 = 1) hκ
  have k2 : Sub 139 κ := Sub.trans (by decide : 139 &&& 262283 = 139) hκ
  unfold execCanBusoffRecovered
  repeat' first
    | with_reducible assumption
    | with_reducible apply next_keeps
    | with_reducible apply ite_next_keeps
    | with_reducible apply State.setCtl_keeps k0
    | with_reducible apply State.put_keeps k1
    | with_reducible apply State.raise_keeps k2
    | with_reducible apply ite_keeps
    | dsimp -simprocs only
    | dsimp only

theorem State.txctlWrite_keeps {κ : Nat} {σ : State} {s : State} {n v : Nat} (hκ : Sub 262145 κ) (hσ : Keeps κ σ s) :
    Keeps κ σ (State.txctlWrite s n v) := by
  have k0 : Sub 262144 κ := Sub.trans (by decide : 262144 &&& 262145 = 262144) hκ
  have k1 : Sub 1 κ := Sub.trans (by decide : 1 &&& 262145 = 1) hκ
  unfold State.txctlWrite
  repeat' first
    | with_reducible assumption
    | with_reducible apply State.setCtl_keeps k0
    | with_reducible apply State.endHold_keeps k1
    | with_reducible apply ite_keeps
    | dsimp -simprocs only
    | dsimp only
    | split

theorem execCanRecover_keeps {κ : Nat} {σ : State} {n val : Nat} {s : State} (hκ : Sub 262145 κ) (hσ : Keeps κ σ s) :
    NextKeeps κ σ (execCanRecover n val s) := by
  have k0 : Sub 262145 κ := Sub.trans (by decide : 262145 &&& 262145 = 262145) hκ
  unfold execCanRecover
  repeat' first
    | with_reducible assumption
    | with_reducible apply next_keeps
    | with_reducible apply ite_next_keeps
    | with_reducible apply State.txctlWrite_keeps k0
    | with_reducible apply ite_keeps

theorem execCanRelease_keeps {κ : Nat} {σ : State} {n val : Nat} {s : State} (hκ : Sub 262145 κ) (hσ : Keeps κ σ s) :
    NextKeeps κ σ (execCanRelease n val s) := by
  have k0 : Sub 262145 κ := Sub.trans (by decide : 262145 &&& 262145 = 262145) hκ
  unfold execCanRelease
  repeat' first
    | with_reducible assumption
    | with_reducible apply next_keeps
    | with_reducible apply ite_next_keeps
    | with_reducible apply State.txctlWrite_keeps k0
    | with_reducible apply ite_keeps

theorem execCanSwapDetect_keeps {κ : Nat} {σ : State} {n : Nat} {s : State} (hκ : Sub 139 κ) (hσ : Keeps κ σ s) :
    NextKeeps κ σ (execCanSwapDetect n s) := by
  have k0 : Sub 1 κ := Sub.trans (by decide : 1 &&& 139 = 1) hκ
  have k1 : Sub 139 κ := Sub.trans (by decide : 139 &&& 139 = 139) hκ
  have k2 : Sub 2 κ := Sub.trans (by decide : 2 &&& 139 = 2) hκ
  unfold execCanSwapDetect
  repeat' first
    | with_reducible assumption
    | with_reducible apply next_keeps
    | with_reducible apply ite_next_keeps
    | with_reducible apply State.put_keeps k0
    | with_reducible apply State.raise_keeps k1
    | with_reducible apply State.count_keeps k2
    | with_reducible apply ite_keeps

theorem execCanDominantTimeout_keeps {κ : Nat} {σ : State} {n : Nat} {s : State} (hκ : Sub 262144 κ) (hσ : Keeps κ σ s) :
    NextKeeps κ σ (execCanDominantTimeout n s) := by
  have k0 : Sub 262144 κ := Sub.trans (by decide : 262144 &&& 262144 = 262144) hκ
  unfold execCanDominantTimeout
  repeat' first
    | with_reducible assumption
    | with_reducible apply next_keeps
    | with_reducible apply ite_next_keeps
    | with_reducible apply State.setCtl_keeps k0
    | with_reducible apply ite_keeps
    | dsimp -simprocs only
    | dsimp only

theorem execCanBusIntegrated_keeps {κ : Nat} {σ : State} {n : Nat} {s : State} (hκ : Sub 262144 κ) (hσ : Keeps κ σ s) :
    NextKeeps κ σ (execCanBusIntegrated n s) := by
  have k0 : Sub 262144 κ := Sub.trans (by decide : 262144 &&& 262144 = 262144) hκ
  unfold execCanBusIntegrated
  repeat' first
    | with_reducible assumption
    | with_reducible apply next_keeps
    | with_reducible apply ite_next_keeps
    | with_reducible apply State.setCtl_keeps k0
    | with_reducible apply ite_keeps
    | dsimp -simprocs only
    | dsimp only

theorem State.txSend_keeps {κ : Nat} {σ : State} {s : State} {d : Desc} (hκ : Sub 262272 κ) (hσ : Keeps κ σ s) :
    Keeps κ σ (State.txSend s d) := by
  have k0 : Sub 128 κ := Sub.trans (by decide : 128 &&& 262272 = 128) hκ
  have k1 : Sub 262144 κ := Sub.trans (by decide : 262144 &&& 262272 = 262144) hκ
  unfold State.txSend
  repeat' first
    | with_reducible assumption
    | with_reducible apply State.finish_keeps k0
    | with_reducible apply State.placeTx_keeps k1
    | with_reducible apply State.hold_keeps k0
    | with_reducible apply ite_keeps
    | dsimp -simprocs only
    | dsimp only

theorem State.rxRead_keeps {κ : Nat} {σ : State} {s : State} {d : Desc} (hκ : Sub 17039823 κ) (hσ : Keeps κ σ s) :
    Keeps κ σ (State.rxRead s d) := by
  have k0 : Sub 128 κ := Sub.trans (by decide : 128 &&& 17039823 = 128) hκ
  have k1 : Sub 16777679 κ := Sub.trans (by decide : 16777679 &&& 17039823 = 16777679) hκ
  have k2 : Sub 131 κ := Sub.trans (by decide : 131 &&& 17039823 = 131) hκ
  have k3 : Sub 262144 κ := Sub.trans (by decide : 262144 &&& 17039823 = 262144) hκ
  unfold State.rxRead
  repeat' first
    | with_reducible assumption
    | with_reducible apply State.finish_keeps k0
    | with_reducible apply State.fabWrite_keeps k1
    | with_reducible apply State.refuseWrite_keeps k2
    | with_reducible apply State.setCtl_keeps k3
    | with_reducible apply ite_keeps
    | with_reducible apply ite_fst_keeps
    | dsimp -simprocs only
    | dsimp only

theorem State.filterLoad_keeps {κ : Nat} {σ : State} {s : State} {d : Desc} (hκ : Sub 262272 κ) (hσ : Keeps κ σ s) :
    Keeps κ σ (State.filterLoad s d) := by
  have k0 : Sub 128 κ := Sub.trans (by decide : 128 &&& 262272 = 128) hκ
  have k1 : Sub 262144 κ := Sub.trans (by decide : 262144 &&& 262272 = 262144) hκ
  unfold State.filterLoad
  repeat' first
    | with_reducible assumption
    | with_reducible apply State.finish_keeps k0
    | with_reducible apply State.setCtl_keeps k1
    | with_reducible apply ite_keeps
    | dsimp -simprocs only
    | dsimp only
    | split

theorem execTxSend_keeps {κ : Nat} {σ : State} {r : Nat} {s : State} (hκ : Sub 262272 κ) (hσ : Keeps κ σ s) :
    NextKeeps κ σ (execTxSend r s) := by
  have k0 : Sub 0 κ := Sub.trans (by decide : 0 &&& 262272 = 0) hκ
  have k1 : Sub 262272 κ := Sub.trans (by decide : 262272 &&& 262272 = 262272) hκ
  unfold execTxSend
  repeat' first
    | with_reducible assumption
    | with_reducible apply next_keeps
    | with_reducible apply ite_next_keeps
    | with_reducible apply State.withOp_keeps k0
    | with_reducible apply State.txSend_keeps k1
    | intro _

theorem execRxRead_keeps {κ : Nat} {σ : State} {r : Nat} {s : State} (hκ : Sub 17039823 κ) (hσ : Keeps κ σ s) :
    NextKeeps κ σ (execRxRead r s) := by
  have k0 : Sub 0 κ := Sub.trans (by decide : 0 &&& 17039823 = 0) hκ
  have k1 : Sub 17039823 κ := Sub.trans (by decide : 17039823 &&& 17039823 = 17039823) hκ
  unfold execRxRead
  repeat' first
    | with_reducible assumption
    | with_reducible apply next_keeps
    | with_reducible apply ite_next_keeps
    | with_reducible apply State.withOp_keeps k0
    | with_reducible apply State.rxRead_keeps k1
    | intro _

theorem execFilterLoad_keeps {κ : Nat} {σ : State} {r : Nat} {s : State} (hκ : Sub 262272 κ) (hσ : Keeps κ σ s) :
    NextKeeps κ σ (execFilterLoad r s) := by
  have k0 : Sub 0 κ := Sub.trans (by decide : 0 &&& 262272 = 0) hκ
  have k1 : Sub 262272 κ := Sub.trans (by decide : 262272 &&& 262272 = 262272) hκ
  unfold execFilterLoad
  repeat' first
    | with_reducible assumption
    | with_reducible apply next_keeps
    | with_reducible apply ite_next_keeps
    | with_reducible apply State.withOp_keeps k0
    | with_reducible apply State.filterLoad_keeps k1
    | intro _

theorem State.txCancel_keeps {κ : Nat} {σ : State} {s : State} {d : Desc} (hκ : Sub 262272 κ) (hσ : Keeps κ σ s) :
    Keeps κ σ (State.txCancel s d) := by
  have k0 : Sub 128 κ := Sub.trans (by decide : 128 &&& 262272 = 128) hκ
  have k1 : Sub 262144 κ := Sub.trans (by decide : 262144 &&& 262272 = 262144) hκ
  unfold State.txCancel
  repeat' first
    | with_reducible assumption
    | with_reducible apply State.finish_keeps k0
    | with_reducible apply State.idleTx_keeps k1
    | with_reducible apply State.setCtl_keeps k1
    | with_reducible apply State.endTx_keeps k0
    | with_reducible apply ite_keeps
    | dsimp -simprocs only
    | dsimp only
    | split

end Sys2Proof.Machine
end

