-- ==== Sys2Proof/Laws/KeepsCores.lean ====
section
/-! SUPPORT. What each operation of Machine/Cores may do to State. -/
namespace Sys2Proof.Machine

theorem State.enterWindow_keeps {κ : Nat} {σ : State} {k i t : Nat} {s : State} (hκ : Sub 32776 κ) (hσ : Keeps κ σ s) :
    Keeps κ σ (State.enterWindow k i t s) := by
  have k0 : Sub 32768 κ := Sub.trans (by decide : 32768 &&& 32776 = 32768) hκ
  have k1 : Sub 8 κ := Sub.trans (by decide : 8 &&& 32776 = 8) hκ
  unfold State.enterWindow
  repeat' first
    | with_reducible assumption
    | with_reducible apply State.onCor_keeps k0
    | with_reducible apply State.emit_keeps k1
    | intro _
    | dsimp -simprocs only
    | dsimp only
    | split

theorem execWindowBoundary_keeps {κ : Nat} {σ : State} {k : Nat} {s : State} (hκ : Sub 32777 κ) (hσ : Keeps κ σ s) :
    NextKeeps κ σ (execWindowBoundary k s) := by
  have k0 : Sub 32769 κ := Sub.trans (by decide : 32769 &&& 32777 = 32769) hκ
  have k1 : Sub 32776 κ := Sub.trans (by decide : 32776 &&& 32777 = 32776) hκ
  unfold execWindowBoundary
  repeat' first
    | with_reducible assumption
    | with_reducible apply next_keeps
    | with_reducible apply ite_next_keeps
    | with_reducible apply State.coreChange_keeps k0
    | with_reducible apply State.enterWindow_keeps k1
    | with_reducible apply ite_keeps
    | intro _

theorem State.adoptTable_keeps {κ : Nat} {σ : State} {k : Nat} {s : State} (hκ : Sub 32769 κ) (hσ : Keeps κ σ s) :
    Keeps κ σ (State.adoptTable k s) := by
  have k0 : Sub 1 κ := Sub.trans (by decide : 1 &&& 32769 = 1) hκ
  have k1 : Sub 32768 κ := Sub.trans (by decide : 32768 &&& 32769 = 32768) hκ
  unfold State.adoptTable
  repeat' first
    | with_reducible assumption
    | with_reducible apply State.put_keeps k0
    | with_reducible apply State.onCor_keeps k1
    | with_reducible apply ite_keeps
    | intro _

theorem State.startTable_keeps {κ : Nat} {σ : State} {k : Nat} {s : State} (hκ : Sub 32777 κ) (hσ : Keeps κ σ s) :
    Keeps κ σ (State.startTable k s) := by
  have k0 : Sub 32769 κ := Sub.trans (by decide : 32769 &&& 32777 = 32769) hκ
  have k1 : Sub 32776 κ := Sub.trans (by decide : 32776 &&& 32777 = 32776) hκ
  unfold State.startTable
  repeat' first
    | with_reducible assumption
    | with_reducible apply State.adoptTable_keeps k0
    | with_reducible apply State.enterWindow_keeps k1

theorem execScheduleTrigger_keeps {κ : Nat} {σ : State} {k : Nat} {s : State} (hκ : Sub 32907 κ) (hσ : Keeps κ σ s) :
    NextKeeps κ σ (execScheduleTrigger k s) := by
  have k0 : Sub 32768 κ := Sub.trans (by decide : 32768 &&& 32907 = 32768) hκ
  have k1 : Sub 32769 κ := Sub.trans (by decide : 32769 &&& 32907 = 32769) hκ
  have k2 : Sub 32777 κ := Sub.trans (by decide : 32777 &&& 32907 = 32777) hκ
  have k3 : Sub 139 κ := Sub.trans (by decide : 139 &&& 32907 = 139) hκ
  unfold execScheduleTrigger
  repeat' first
    | with_reducible assumption
    | with_reducible apply next_keeps
    | with_reducible apply ite_next_keeps
    | with_reducible apply State.onCor_keeps k0
    | with_reducible apply State.coreChange_keeps k1
    | with_reducible apply State.startTable_keeps k2
    | with_reducible apply State.raise_keeps k3
    | with_reducible apply State.adoptTable_keeps k1
    | with_reducible apply ite_keeps
    | intro _
    | dsimp -simprocs only
    | dsimp only

theorem State.partKick_keeps {κ : Nat} {σ : State} {s : State} {pid p : Nat} (hκ : Sub 32768 κ) (hσ : Keeps κ σ s) :
    Keeps κ σ (State.partKick s pid p) := by
  have k0 : Sub 32768 κ := Sub.trans (by decide : 32768 &&& 32768 = 32768) hκ
  unfold State.partKick
  repeat' first
    | with_reducible assumption
    | with_reducible apply State.wdSync_keeps k0
    | with_reducible apply State.wdLoad_keeps k0
    | with_reducible apply ite_keeps

theorem execPartitionKick_keeps {κ : Nat} {σ : State} {pid p : Nat} {s : State} (hκ : Sub 32768 κ) (hσ : Keeps κ σ s) :
    NextKeeps κ σ (execPartitionKick pid p s) := by
  have k0 : Sub 32768 κ := Sub.trans (by decide : 32768 &&& 32768 = 32768) hκ
  unfold execPartitionKick
  repeat' first
    | with_reducible assumption
    | with_reducible apply next_keeps
    | with_reducible apply ite_next_keeps
    | with_reducible apply State.partKick_keeps k0

theorem execPartitionWdExpiry_keeps {κ : Nat} {σ : State} {p : Nat} {s : State} (hκ : Sub 25199071 κ) (hσ : Keeps κ σ s) :
    NextKeeps κ σ (execPartitionWdExpiry p s) := by
  have k0 : Sub 32768 κ := Sub.trans (by decide : 32768 &&& 25199071 = 32768) hκ
  have k1 : Sub 2 κ := Sub.trans (by decide : 2 &&& 25199071 = 2) hκ
  have k2 : Sub 139 κ := Sub.trans (by decide : 139 &&& 25199071 = 139) hκ
  have k3 : Sub 25199071 κ := Sub.trans (by decide : 25199071 &&& 25199071 = 25199071) hκ
  unfold execPartitionWdExpiry
  repeat' first
    | with_reducible assumption
    | with_reducible apply next_keeps
    | with_reducible apply ite_next_keeps
    | with_reducible apply State.wdSync_keeps k0
    | with_reducible apply State.count_keeps k1
    | with_reducible apply State.raise_keeps k2
    | with_reducible apply State.restartPart_keeps k3
    | with_reducible apply ite_keeps
    | dsimp -simprocs only
    | dsimp only

theorem execLockstepMismatch_keeps {κ : Nat} {σ : State} {pair : Nat} {s : State} (hκ : Sub 25199071 κ) (hσ : Keeps κ σ s) :
    NextKeeps κ σ (execLockstepMismatch pair s) := by
  have k0 : Sub 2 κ := Sub.trans (by decide : 2 &&& 25199071 = 2) hκ
  have k1 : Sub 139 κ := Sub.trans (by decide : 139 &&& 25199071 = 139) hκ
  have k2 : Sub 25199071 κ := Sub.trans (by decide : 25199071 &&& 25199071 = 25199071) hκ
  unfold execLockstepMismatch
  repeat' first
    | with_reducible assumption
    | with_reducible apply next_keeps
    | with_reducible apply ite_next_keeps
    | with_reducible apply State.count_keeps k0
    | with_reducible apply State.raise_keeps k1
    | with_reducible apply State.restartPart_keeps k2
    | with_reducible apply ite_keeps
    | dsimp -simprocs only
    | dsimp only

theorem State.schedLoad_keeps {κ : Nat} {σ : State} {s : State} {d : Desc} (hκ : Sub 32897 κ) (hσ : Keeps κ σ s) :
    Keeps κ σ (State.schedLoad s d) := by
  have k0 : Sub 128 κ := Sub.trans (by decide : 128 &&& 32897 = 128) hκ
  have k1 : Sub 1 κ := Sub.trans (by decide : 1 &&& 32897 = 1) hκ
  have k2 : Sub 32768 κ := Sub.trans (by decide : 32768 &&& 32897 = 32768) hκ
  unfold State.schedLoad
  repeat' first
    | with_reducible assumption
    | with_reducible apply State.finish_keeps k0
    | with_reducible apply State.put_keeps k1
    | with_reducible apply State.onCor_keeps k2
    | with_reducible apply ite_keeps
    | intro _
    | dsimp -simprocs only
    | dsimp only
    | split

theorem execSchedLoad_keeps {κ : Nat} {σ : State} {r : Nat} {s : State} (hκ : Sub 32897 κ) (hσ : Keeps κ σ s) :
    NextKeeps κ σ (execSchedLoad r s) := by
  have k0 : Sub 0 κ := Sub.trans (by decide : 0 &&& 32897 = 0) hκ
  have k1 : Sub 32897 κ := Sub.trans (by decide : 32897 &&& 32897 = 32897) hκ
  unfold execSchedLoad
  repeat' first
    | with_reducible assumption
    | with_reducible apply next_keeps
    | with_reducible apply ite_next_keeps
    | with_reducible apply State.withOp_keeps k0
    | with_reducible apply State.schedLoad_keeps k1
    | intro _

theorem State.partRestart_keeps {κ : Nat} {σ : State} {s : State} {d : Desc} (hκ : Sub 25199071 κ) (hσ : Keeps κ σ s) :
    Keeps κ σ (State.partRestart s d) := by
  have k0 : Sub 128 κ := Sub.trans (by decide : 128 &&& 25199071 = 128) hκ
  have k1 : Sub 139 κ := Sub.trans (by decide : 139 &&& 25199071 = 139) hκ
  have k2 : Sub 25199071 κ := Sub.trans (by decide : 25199071 &&& 25199071 = 25199071) hκ
  unfold State.partRestart
  repeat' first
    | with_reducible assumption
    | with_reducible apply State.finish_keeps k0
    | with_reducible apply State.noBuf_keeps k1
    | with_reducible apply State.restartPart_keeps k2
    | with_reducible apply ite_keeps
    | dsimp -simprocs only
    | dsimp only
    | split

theorem execPartRestart_keeps {κ : Nat} {σ : State} {r : Nat} {s : State} (hκ : Sub 25199071 κ) (hσ : Keeps κ σ s) :
    NextKeeps κ σ (execPartRestart r s) := by
  have k0 : Sub 0 κ := Sub.trans (by decide : 0 &&& 25199071 = 0) hκ
  have k1 : Sub 25199071 κ := Sub.trans (by decide : 25199071 &&& 25199071 = 25199071) hκ
  unfold execPartRestart
  repeat' first
    | with_reducible assumption
    | with_reducible apply next_keeps
    | with_reducible apply ite_next_keeps
    | with_reducible apply State.withOp_keeps k0
    | with_reducible apply State.partRestart_keeps k1
    | intro _

theorem State.mbCfg_keeps {κ : Nat} {σ : State} {s : State} {pid n v : Nat} (hκ : Sub 139 κ) (hσ : Keeps κ σ s) :
    Keeps κ σ (State.mbCfg s pid n v) := by
  have k0 : Sub 139 κ := Sub.trans (by decide : 139 &&& 139 = 139) hκ
  have k1 : Sub 1 κ := Sub.trans (by decide : 1 &&& 139 = 1) hκ
  unfold State.mbCfg
  repeat' first
    | with_reducible assumption
    | with_reducible apply State.raise_keeps k0
    | with_reducible apply State.regApply_keeps k1
    | with_reducible apply ite_keeps

theorem execMbxEnable_keeps {κ : Nat} {σ : State} {pid n val : Nat} {s : State} (hκ : Sub 139 κ) (hσ : Keeps κ σ s) :
    NextKeeps κ σ (execMbxEnable pid n val s) := by
  have k0 : Sub 139 κ := Sub.trans (by decide : 139 &&& 139 = 139) hκ
  unfold execMbxEnable
  repeat' first
    | with_reducible assumption
    | with_reducible apply next_keeps
    | with_reducible apply ite_next_keeps
    | with_reducible apply State.mbCfg_keeps k0
    | with_reducible apply ite_keeps

theorem State.mbSlot_keeps {κ : Nat} {σ : State} {s : State} {pid n w v : Nat} (hκ : Sub 139 κ) (hσ : Keeps κ σ s) :
    Keeps κ σ (State.mbSlot s pid n w v) := by
  have k0 : Sub 139 κ := Sub.trans (by decide : 139 &&& 139 = 139) hκ
  have k1 : Sub 1 κ := Sub.trans (by decide : 1 &&& 139 = 1) hκ
  have k2 : Sub 2 κ := Sub.trans (by decide : 2 &&& 139 = 2) hκ
  unfold State.mbSlot
  repeat' first
    | with_reducible assumption
    | with_reducible apply State.mbDeny_keeps k0
    | with_reducible apply State.put_keeps k1
    | with_reducible apply State.count_keeps k2
    | with_reducible apply State.raise_keeps k0
    | with_reducible apply ite_keeps
    | dsimp -simprocs only
    | dsimp only

theorem execMbxSlotWrite_keeps {κ : Nat} {σ : State} {pid n w val : Nat} {s : State} (hκ : Sub 139 κ) (hσ : Keeps κ σ s) :
    NextKeeps κ σ (execMbxSlotWrite pid n w val s) := by
  have k0 : Sub 139 κ := Sub.trans (by decide : 139 &&& 139 = 139) hκ
  unfold execMbxSlotWrite
  repeat' first
    | with_reducible assumption
    | with_reducible apply next_keeps
    | with_reducible apply ite_next_keeps
    | with_reducible apply State.mbSlot_keeps k0
    | with_reducible apply ite_keeps

theorem State.mbTimeout_keeps {κ : Nat} {σ : State} {s : State} {n : Nat} (hκ : Sub 32907 κ) (hσ : Keeps κ σ s) :
    Keeps κ σ (State.mbTimeout s n) := by
  have k0 : Sub 1 κ := Sub.trans (by decide : 1 &&& 32907 = 1) hκ
  have k1 : Sub 32768 κ := Sub.trans (by decide : 32768 &&& 32907 = 32768) hκ
  have k2 : Sub 139 κ := Sub.trans (by decide : 139 &&& 32907 = 139) hκ
  have k3 : Sub 2 κ := Sub.trans (by decide : 2 &&& 32907 = 2) hκ
  unfold State.mbTimeout
  repeat' first
    | with_reducible assumption
    | with_reducible apply State.put_keeps k0
    | with_reducible apply State.onCor_keeps k1
    | with_reducible apply State.mbSignalTx_keeps k2
    | with_reducible apply State.count_keeps k3
    | with_reducible apply State.raise_keeps k2
    | intro _
    | dsimp -simprocs only
    | dsimp only

theorem State.mbCross_keeps {κ : Nat} {σ : State} {n m : Nat} {s : State} (hκ : Sub 139 κ) (hσ : Keeps κ σ s) :
    Keeps κ σ (State.mbCross n m s) := by
  have k0 : Sub 1 κ := Sub.trans (by decide : 1 &&& 139 = 1) hκ
  have k1 : Sub 139 κ := Sub.trans (by decide : 139 &&& 139 = 139) hκ
  unfold State.mbCross
  repeat' first
    | with_reducible assumption
    | with_reducible apply State.put_keeps k0
    | with_reducible apply State.raise_keeps k1
    | with_reducible apply State.mbSignalRx_keeps k1
    | with_reducible apply ite_keeps
    | dsimp -simprocs only
    | dsimp only
    | split

theorem State.mbRing_keeps {κ : Nat} {σ : State} {s : State} {n : Nat} (hκ : Sub 32907 κ) (hσ : Keeps κ σ s) :
    Keeps κ σ (State.mbRing s n) := by
  have k0 : Sub 1 κ := Sub.trans (by decide : 1 &&& 32907 = 1) hκ
  have k1 : Sub 32768 κ := Sub.trans (by decide : 32768 &&& 32907 = 32768) hκ
  have k2 : Sub 139 κ := Sub.trans (by decide : 139 &&& 32907 = 139) hκ
  have k3 : Sub 32907 κ := Sub.trans (by decide : 32907 &&& 32907 = 32907) hκ
  unfold State.mbRing
  repeat' first
    | with_reducible assumption
    | with_reducible apply State.put_keeps k0
    | with_reducible apply State.onCor_keeps k1
    | with_reducible apply State.mbSignalRx_keeps k2
    | with_reducible apply State.mbTimeout_keeps k3
    | with_reducible apply State.mbCross_keeps k2
    | with_reducible apply ite_keeps
    | with_reducible refine forEach_keeps (fun _ _ _ => ?_) ?_
    | intro _
    | dsimp -simprocs only
    | dsimp only

theorem State.mbBell_keeps {κ : Nat} {σ : State} {s : State} {pid n v : Nat} (hκ : Sub 32907 κ) (hσ : Keeps κ σ s) :
    Keeps κ σ (State.mbBell s pid n v) := by
  have k0 : Sub 139 κ := Sub.trans (by decide : 139 &&& 32907 = 139) hκ
  have k1 : Sub 32907 κ := Sub.trans (by decide : 32907 &&& 32907 = 32907) hκ
  unfold State.mbBell
  repeat' first
    | with_reducible assumption
    | with_reducible apply State.mbDeny_keeps k0
    | with_reducible apply State.mbRing_keeps k1
    | with_reducible apply ite_keeps

theorem execMbxDoorbell_keeps {κ : Nat} {σ : State} {pid n val : Nat} {s : State} (hκ : Sub 32907 κ) (hσ : Keeps κ σ s) :
    NextKeeps κ σ (execMbxDoorbell pid n val s) := by
  have k0 : Sub 32907 κ := Sub.trans (by decide : 32907 &&& 32907 = 32907) hκ
  unfold execMbxDoorbell
  repeat' first
    | with_reducible assumption
    | with_reducible apply next_keeps
    | with_reducible apply ite_next_keeps
    | with_reducible apply State.mbBell_keeps k0
    | with_reducible apply ite_keeps

theorem State.mbTake_keeps {κ : Nat} {σ : State} {s : State} {n val : Nat} (hκ : Sub 32907 κ) (hσ : Keeps κ σ s) :
    Keeps κ σ (State.mbTake s n val) := by
  have k0 : Sub 32769 κ := Sub.trans (by decide : 32769 &&& 32907 = 32769) hκ
  have k1 : Sub 1 κ := Sub.trans (by decide : 1 &&& 32907 = 1) hκ
  have k2 : Sub 139 κ := Sub.trans (by decide : 139 &&& 32907 = 139) hκ
  unfold State.mbTake
  repeat' first
    | with_reducible assumption
    | with_reducible apply State.mbEmpty_keeps k0
    | with_reducible apply State.put_keeps k1
    | with_reducible apply State.mbSignalTx_keeps k2
    | with_reducible apply ite_keeps

theorem State.mbTakeBy_keeps {κ : Nat} {σ : State} {s : State} {pid n v : Nat} (hκ : Sub 32907 κ) (hσ : Keeps κ σ s) :
    Keeps κ σ (State.mbTakeBy s pid n v) := by
  have k0 : Sub 32907 κ := Sub.trans (by decide : 32907 &&& 32907 = 32907) hκ
  have k1 : Sub 139 κ := Sub.trans (by decide : 139 &&& 32907 = 139) hκ
  unfold State.mbTakeBy
  repeat' first
    | with_reducible assumption
    | with_reducible apply State.mbTake_keeps k0
    | with_reducible apply State.mbDeny_keeps k1
    | with_reducible apply ite_keeps

theorem execMbxTake_keeps {κ : Nat} {σ : State} {pid n val : Nat} {s : State} (hκ : Sub 32907 κ) (hσ : Keeps κ σ s) :
    NextKeeps κ σ (execMbxTake pid n val s) := by
  have k0 : Sub 32907 κ := Sub.trans (by decide : 32907 &&& 32907 = 32907) hκ
  unfold execMbxTake
  repeat' first
    | with_reducible assumption
    | with_reducible apply next_keeps
    | with_reducible apply ite_next_keeps
    | with_reducible apply State.mbTakeBy_keeps k0
    | with_reducible apply ite_keeps

theorem execMbxTimeout_keeps {κ : Nat} {σ : State} {n : Nat} {s : State} (hκ : Sub 32907 κ) (hσ : Keeps κ σ s) :
    NextKeeps κ σ (execMbxTimeout n s) := by
  have k0 : Sub 32907 κ := Sub.trans (by decide : 32907 &&& 32907 = 32907) hκ
  unfold execMbxTimeout
  repeat' first
    | with_reducible assumption
    | with_reducible apply next_keeps
    | with_reducible apply ite_next_keeps
    | with_reducible apply State.mbTimeout_keeps k0
    | with_reducible apply ite_keeps
    | dsimp -simprocs only
    | dsimp only

theorem execMbxAccessDeny_keeps {κ : Nat} {σ : State} {pid n : Nat} {write : Bool} {s : State} (hκ : Sub 139 κ) (hσ : Keeps κ σ s) :
    NextKeeps κ σ (execMbxAccessDeny pid n write s) := by
  have k0 : Sub 139 κ := Sub.trans (by decide : 139 &&& 139 = 139) hκ
  unfold execMbxAccessDeny
  repeat' first
    | with_reducible assumption
    | with_reducible apply next_keeps
    | with_reducible apply ite_next_keeps
    | with_reducible apply State.mbDeny_keeps k0
    | with_reducible apply ite_keeps
    | split

theorem State.qFields_keeps {κ : Nat} {σ : State} {s : State} {n v : Nat} (hκ : Sub 1 κ) (hσ : Keeps κ σ s) :
    Keeps κ σ (State.qFields s n v) := by
  have k0 : Sub 1 κ := Sub.trans (by decide : 1 &&& 1 = 1) hκ
  unfold State.qFields
  repeat' first
    | with_reducible assumption
    | with_reducible apply State.put_keeps k0
    | with_reducible apply ite_keeps
    | dsimp -simprocs only
    | dsimp only

theorem State.queueOn_keeps {κ : Nat} {σ : State} {s : State} {pid n v : Nat} (hκ : Sub 257 κ) (hσ : Keeps κ σ s) :
    Keeps κ σ (State.queueOn s pid n v) := by
  have k0 : Sub 1 κ := Sub.trans (by decide : 1 &&& 257 = 1) hκ
  have k1 : Sub 256 κ := Sub.trans (by decide : 256 &&& 257 = 256) hκ
  unfold State.queueOn
  repeat' first
    | with_reducible assumption
    | with_reducible apply State.qFields_keeps k0
    | with_reducible apply State.put_keeps k0
    | with_reducible apply State.setItems_keeps k1
    | with_reducible apply State.setQLast_keeps k1
    | with_reducible apply ite_keeps
    | dsimp -simprocs only
    | dsimp only

theorem State.queueOff_keeps {κ : Nat} {σ : State} {s : State} {pid n v : Nat} (hκ : Sub 16777691 κ) (hσ : Keeps κ σ s) :
    Keeps κ σ (State.queueOff s pid n v) := by
  have k0 : Sub 1 κ := Sub.trans (by decide : 1 &&& 16777691 = 1) hκ
  have k1 : Sub 16777691 κ := Sub.trans (by decide : 16777691 &&& 16777691 = 16777691) hκ
  unfold State.queueOff
  repeat' first
    | with_reducible assumption
    | with_reducible apply State.qFields_keeps k0
    | with_reducible apply State.put_keeps k0
    | with_reducible apply State.dropPushes_keeps k1
    | with_reducible apply ite_keeps
    | intro _

theorem execQueueEnable_keeps {κ : Nat} {σ : State} {pid n val : Nat} {s : State} (hκ : Sub 257 κ) (hσ : Keeps κ σ s) :
    NextKeeps κ σ (execQueueEnable pid n val s) := by
  have k0 : Sub 257 κ := Sub.trans (by decide : 257 &&& 257 = 257) hκ
  unfold execQueueEnable
  repeat' first
    | with_reducible assumption
    | with_reducible apply next_keeps
    | with_reducible apply ite_next_keeps
    | with_reducible apply State.queueOn_keeps k0
    | with_reducible apply ite_keeps

theorem execQueueDisable_keeps {κ : Nat} {σ : State} {pid n val : Nat} {s : State} (hκ : Sub 16777691 κ) (hσ : Keeps κ σ s) :
    NextKeeps κ σ (execQueueDisable pid n val s) := by
  have k0 : Sub 16777691 κ := Sub.trans (by decide : 16777691 &&& 16777691 = 16777691) hκ
  unfold execQueueDisable
  repeat' first
    | with_reducible assumption
    | with_reducible apply next_keeps
    | with_reducible apply ite_next_keeps
    | with_reducible apply State.queueOff_keeps k0
    | with_reducible apply ite_keeps

theorem State.queueAccess_keeps {κ : Nat} {σ : State} {s : State} {src : Source} {n off : Nat} {write : Bool} {k : State → State} (hκ : Sub 16777355 κ) (h_k : ∀ x0, Keeps κ σ x0 → Keeps κ σ (k x0)) (hσ : Keeps κ σ s) :
    Keeps κ σ (State.queueAccess s src n off write k) := by
  have k0 : Sub 139 κ := Sub.trans (by decide : 139 &&& 16777355 = 139) hκ
  have k1 : Sub 8 κ := Sub.trans (by decide : 8 &&& 16777355 = 8) hκ
  have k2 : Sub 16777226 κ := Sub.trans (by decide : 16777226 &&& 16777355 = 16777226) hκ
  unfold State.queueAccess
  repeat' first
    | with_reducible assumption
    | with_reducible apply h_k
    | with_reducible apply State.deny_keeps k0
    | with_reducible apply State.emit_keeps k1
    | with_reducible apply State.answer_keeps k2
    | with_reducible apply ite_keeps
    | dsimp -simprocs only
    | dsimp only
    | split

theorem execQueuePush_keeps {κ : Nat} {σ : State} {src : Source} {n item : Nat} {s : State} (hκ : Sub 16777675 κ) (hσ : Keeps κ σ s) :
    NextKeeps κ σ (execQueuePush src n item s) := by
  have k0 : Sub 16777355 κ := Sub.trans (by decide : 16777355 &&& 16777675 = 16777355) hκ
  have k1 : Sub 16777675 κ := Sub.trans (by decide : 16777675 &&& 16777675 = 16777675) hκ
  unfold execQueuePush
  repeat' first
    | with_reducible assumption
    | with_reducible apply next_keeps
    | with_reducible apply ite_next_keeps
    | with_reducible apply State.queueAccess_keeps k0
    | with_reducible apply State.qPush_keeps k1
    | intro _

theorem State.queueGet_keeps {κ : Nat} {σ : State} {s : State} {src : Source} {n off : Nat} (hκ : Sub 16777675 κ) (hσ : Keeps κ σ s) :
    Keeps κ σ (State.queueGet s src n off) := by
  have k0 : Sub 64 κ := Sub.trans (by decide : 64 &&& 16777675 = 64) hκ
  have k1 : Sub 459 κ := Sub.trans (by decide : 459 &&& 16777675 = 459) hκ
  have k2 : Sub 8 κ := Sub.trans (by decide : 8 &&& 16777675 = 8) hκ
  have k3 : Sub 16777226 κ := Sub.trans (by decide : 16777226 &&& 16777675 = 16777226) hκ
  unfold State.queueGet
  repeat' first
    | with_reducible assumption
    | with_reducible apply State.useTag_keeps k0
    | with_reducible apply State.waitTag_keeps k0
    | with_reducible apply State.queueAnswer_keeps k1
    | with_reducible apply State.emit_keeps k2
    | with_reducible apply State.answer_keeps k3
    | with_reducible apply ite_keeps
    | with_reducible apply ite_fst_keeps
    | dsimp -simprocs only
    | dsimp only
    | split

theorem execQueuePop_keeps {κ : Nat} {σ : State} {src : Source} {n : Nat} {s : State} (hκ : Sub 16777675 κ) (hσ : Keeps κ σ s) :
    NextKeeps κ σ (execQueuePop src n s) := by
  have k0 : Sub 16777355 κ := Sub.trans (by decide : 16777355 &&& 16777675 = 16777355) hκ
  have k1 : Sub 16777675 κ := Sub.trans (by decide : 16777675 &&& 16777675 = 16777675) hκ
  unfold execQueuePop
  repeat' first
    | with_reducible assumption
    | with_reducible apply next_keeps
    | with_reducible apply ite_next_keeps
    | with_reducible apply State.queueAccess_keeps k0
    | with_reducible apply State.queueGet_keeps k1
    | intro _

theorem execQueuePeek_keeps {κ : Nat} {σ : State} {src : Source} {n : Nat} {s : State} (hκ : Sub 16777675 κ) (hσ : Keeps κ σ s) :
    NextKeeps κ σ (execQueuePeek src n s) := by
  have k0 : Sub 16777355 κ := Sub.trans (by decide : 16777355 &&& 16777675 = 16777355) hκ
  have k1 : Sub 16777675 κ := Sub.trans (by decide : 16777675 &&& 16777675 = 16777675) hκ
  unfold execQueuePeek
  repeat' first
    | with_reducible assumption
    | with_reducible apply next_keeps
    | with_reducible apply ite_next_keeps
    | with_reducible apply State.queueAccess_keeps k0
    | with_reducible apply State.queueGet_keeps k1
    | intro _

theorem State.heldDone_keeps {κ : Nat} {σ : State} {s : State} {n i : Nat} (hκ : Sub 16777691 κ) (hσ : Keeps κ σ s) :
    Keeps κ σ (State.heldDone s n i) := by
  have k0 : Sub 256 κ := Sub.trans (by decide : 256 &&& 16777691 = 256) hκ
  have k1 : Sub 459 κ := Sub.trans (by decide : 459 &&& 16777691 = 459) hκ
  have k2 : Sub 16777226 κ := Sub.trans (by decide : 16777226 &&& 16777691 = 16777226) hκ
  have k3 : Sub 16777691 κ := Sub.trans (by decide : 16777691 &&& 16777691 = 16777691) hκ
  unfold State.heldDone
  repeat' first
    | with_reducible assumption
    | with_reducible apply State.setQue_keeps k0
    | with_reducible apply State.pushNow_keeps k1
    | with_reducible apply State.answer_keeps k2
    | with_reducible apply State.queueReads_keeps k3
    | with_reducible apply ite_keeps
    | dsimp -simprocs only
    | dsimp only
    | split

theorem execQueueHeldPushDone_keeps {κ : Nat} {σ : State} {n k : Nat} {s : State} (hκ : Sub 16777691 κ) (hσ : Keeps κ σ s) :
    NextKeeps κ σ (execQueueHeldPushDone n k s) := by
  have k0 : Sub 16777691 κ := Sub.trans (by decide : 16777691 &&& 16777691 = 16777691) hκ
  unfold execQueueHeldPushDone
  repeat' first
    | with_reducible assumption
    | with_reducible apply next_keeps
    | with_reducible apply ite_next_keeps
    | with_reducible apply State.heldDone_keeps k0

theorem execSemAcquire_keeps {κ : Nat} {σ : State} {pid n : Nat} {s : State} (hκ : Sub 27 κ) (hσ : Keeps κ σ s) :
    NextKeeps κ σ (execSemAcquire pid n s) := by
  have k0 : Sub 19 κ := Sub.trans (by decide : 19 &&& 27 = 19) hκ
  have k1 : Sub 8 κ := Sub.trans (by decide : 8 &&& 27 = 8) hκ
  unfold execSemAcquire
  repeat' first
    | with_reducible assumption
    | with_reducible apply next_keeps
    | with_reducible apply ite_next_keeps
    | with_reducible apply State.semAcquire_keeps k0
    | with_reducible apply State.emit_keeps k1
    | with_reducible apply ite_keeps
    | with_reducible apply ite_fst_keeps
    | dsimp -simprocs only
    | dsimp only

theorem State.semRelease_keeps {κ : Nat} {σ : State} {s : State} {pid n v : Nat} (hκ : Sub 139 κ) (hσ : Keeps κ σ s) :
    Keeps κ σ (State.semRelease s pid n v) := by
  have k0 : Sub 1 κ := Sub.trans (by decide : 1 &&& 139 = 1) hκ
  have k1 : Sub 139 κ := Sub.trans (by decide : 139 &&& 139 = 139) hκ
  unfold State.semRelease
  repeat' first
    | with_reducible assumption
    | with_reducible apply State.put_keeps k0
    | with_reducible apply State.raise_keeps k1
    | with_reducible apply ite_keeps

theorem execSemRelease_keeps {κ : Nat} {σ : State} {pid n val : Nat} {s : State} (hκ : Sub 139 κ) (hσ : Keeps κ σ s) :
    NextKeeps κ σ (execSemRelease pid n val s) := by
  have k0 : Sub 139 κ := Sub.trans (by decide : 139 &&& 139 = 139) hκ
  unfold execSemRelease
  repeat' first
    | with_reducible assumption
    | with_reducible apply next_keeps
    | with_reducible apply ite_next_keeps
    | with_reducible apply State.semRelease_keeps k0
    | with_reducible apply ite_keeps

theorem State.semReclaim_keeps {κ : Nat} {σ : State} {s : State} {pid v : Nat} (hκ : Sub 139 κ) (hσ : Keeps κ σ s) :
    Keeps κ σ (State.semReclaim s pid v) := by
  have k0 : Sub 1 κ := Sub.trans (by decide : 1 &&& 139 = 1) hκ
  have k1 : Sub 139 κ := Sub.trans (by decide : 139 &&& 139 = 139) hκ
  unfold State.semReclaim
  repeat' first
    | with_reducible assumption
    | with_reducible apply State.put_keeps k0
    | with_reducible apply State.raise_keeps k1
    | with_reducible apply ite_keeps
    | dsimp -simprocs only
    | dsimp only

theorem execSemReclaim_keeps {κ : Nat} {σ : State} {pid val : Nat} {s : State} (hκ : Sub 139 κ) (hσ : Keeps κ σ s) :
    NextKeeps κ σ (execSemReclaim pid val s) := by
  have k0 : Sub 139 κ := Sub.trans (by decide : 139 &&& 139 = 139) hκ
  unfold execSemReclaim
  repeat' first
    | with_reducible assumption
    | with_reducible apply next_keeps
    | with_reducible apply ite_next_keeps
    | with_reducible apply State.semReclaim_keeps k0

end Sys2Proof.Machine
end

