-- ==== Sys2Proof/Laws/KeepsSerial.lean ====
section
/-! SUPPORT. What each operation of Machine/Serial may do to State. -/
namespace Sys2Proof.Machine

theorem State.setSer_keeps {κ : Nat} {σ : State} {s : State} {n : Nat} {v : SerPort} (hκ : Sub 4194304 κ) (hσ : Keeps κ σ s) :
    Keeps κ σ (State.setSer s n v) := by
  have k0 : Sub 4194304 κ := Sub.trans (by decide : 4194304 &&& 4194304 = 4194304) hκ
  unfold State.setSer
  repeat' first
    | with_reducible assumption
    | with_reducible apply State.setSio_keeps k0

theorem State.setDin_keeps {κ : Nat} {σ : State} {s : State} {k : Nat} {v : DinState} (hκ : Sub 4194304 κ) (hσ : Keeps κ σ s) :
    Keeps κ σ (State.setDin s k v) := by
  have k0 : Sub 4194304 κ := Sub.trans (by decide : 4194304 &&& 4194304 = 4194304) hκ
  unfold State.setDin
  repeat' first
    | with_reducible assumption
    | with_reducible apply State.setSio_keeps k0

theorem State.serShow_keeps {κ : Nat} {σ : State} {s : State} {n : Nat} (hκ : Sub 1 κ) (hσ : Keeps κ σ s) :
    Keeps κ σ (State.serShow s n) := by
  have k0 : Sub 1 κ := Sub.trans (by decide : 1 &&& 1 = 1) hκ
  unfold State.serShow
  repeat' first
    | with_reducible assumption
    | with_reducible apply State.put_keeps k0
    | with_reducible apply ite_keeps
    | dsimp -simprocs only
    | dsimp only
    | split

theorem State.serNoMatch_keeps {κ : Nat} {σ : State} {s : State} {n : Nat} (hκ : Sub 139 κ) (hσ : Keeps κ σ s) :
    Keeps κ σ (State.serNoMatch s n) := by
  have k0 : Sub 2 κ := Sub.trans (by decide : 2 &&& 139 = 2) hκ
  have k1 : Sub 139 κ := Sub.trans (by decide : 139 &&& 139 = 139) hκ
  unfold State.serNoMatch
  repeat' first
    | with_reducible assumption
    | with_reducible apply State.count_keeps k0
    | with_reducible apply State.raise_keeps k1

theorem State.serLong_keeps {κ : Nat} {σ : State} {s : State} {n : Nat} (hκ : Sub 139 κ) (hσ : Keeps κ σ s) :
    Keeps κ σ (State.serLong s n) := by
  have k0 : Sub 2 κ := Sub.trans (by decide : 2 &&& 139 = 2) hκ
  have k1 : Sub 139 κ := Sub.trans (by decide : 139 &&& 139 = 139) hκ
  unfold State.serLong
  repeat' first
    | with_reducible assumption
    | with_reducible apply State.count_keeps k0
    | with_reducible apply State.raise_keeps k1

theorem State.serDeliver_keeps {κ : Nat} {σ : State} {s : State} {n : Nat} {b : Bytes} {ts : Nat} (hκ : Sub 19138527 κ) (hσ : Keeps κ σ s) :
    Keeps κ σ (State.serDeliver s n b ts) := by
  have k0 : Sub 19138527 κ := Sub.trans (by decide : 19138527 &&& 19138527 = 19138527) hκ
  have k1 : Sub 139 κ := Sub.trans (by decide : 139 &&& 19138527 = 139) hκ
  have k2 : Sub 16777679 κ := Sub.trans (by decide : 16777679 &&& 19138527 = 16777679) hκ
  unfold State.serDeliver
  repeat' first
    | with_reducible assumption
    | with_reducible apply State.gwSerial_keeps k0
    | with_reducible apply State.serNoMatch_keeps k1
    | with_reducible apply State.serLong_keeps k1
    | with_reducible apply State.finishBuf_keeps k2
    | with_reducible apply ite_keeps
    | split

theorem State.serEnd_keeps {κ : Nat} {σ : State} {s : State} {n : Nat} (hκ : Sub 23332831 κ) (hσ : Keeps κ σ s) :
    Keeps κ σ (State.serEnd s n) := by
  have k0 : Sub 4194304 κ := Sub.trans (by decide : 4194304 &&& 23332831 = 4194304) hκ
  have k1 : Sub 1 κ := Sub.trans (by decide : 1 &&& 23332831 = 1) hκ
  have k2 : Sub 2 κ := Sub.trans (by decide : 2 &&& 23332831 = 2) hκ
  have k3 : Sub 139 κ := Sub.trans (by decide : 139 &&& 23332831 = 139) hκ
  have k4 : Sub 19138527 κ := Sub.trans (by decide : 19138527 &&& 23332831 = 19138527) hκ
  unfold State.serEnd
  repeat' first
    | with_reducible assumption
    | with_reducible apply State.setSer_keeps k0
    | with_reducible apply State.serShow_keeps k1
    | with_reducible apply State.count_keeps k2
    | with_reducible apply State.raise_keeps k3
    | with_reducible apply State.serLong_keeps k3
    | with_reducible apply State.serDeliver_keeps k4
    | with_reducible apply ite_keeps
    | dsimp -simprocs only
    | dsimp only

theorem State.serDelimited_keeps {κ : Nat} {σ : State} {s : State} {n : Nat} {ch : Byte} {ok : Bool} {start : Nat} (hκ : Sub 23332831 κ) (hσ : Keeps κ σ s) :
    Keeps κ σ (State.serDelimited s n ch ok start) := by
  have k0 : Sub 4194304 κ := Sub.trans (by decide : 4194304 &&& 23332831 = 4194304) hκ
  have k1 : Sub 23332831 κ := Sub.trans (by decide : 23332831 &&& 23332831 = 23332831) hκ
  unfold State.serDelimited
  repeat' first
    | with_reducible assumption
    | with_reducible apply State.setSer_keeps k0
    | with_reducible apply State.serEnd_keeps k1
    | with_reducible apply ite_keeps
    | dsimp -simprocs only
    | dsimp only
    | split

theorem execSerialCharReceived_keeps {κ : Nat} {σ : State} {n : Nat} {ch : Byte} {ok : Bool} {ago : Nat} {s : State} (hκ : Sub 23332831 κ) (hσ : Keeps κ σ s) :
    NextKeeps κ σ (execSerialCharReceived n ch ok ago s) := by
  have k0 : Sub 23332831 κ := Sub.trans (by decide : 23332831 &&& 23332831 = 23332831) hκ
  have k1 : Sub 1 κ := Sub.trans (by decide : 1 &&& 23332831 = 1) hκ
  have k2 : Sub 4194304 κ := Sub.trans (by decide : 4194304 &&& 23332831 = 4194304) hκ
  unfold execSerialCharReceived
  repeat' first
    | with_reducible assumption
    | with_reducible apply next_keeps
    | with_reducible apply ite_next_keeps
    | with_reducible apply State.serDelimited_keeps k0
    | with_reducible apply State.serShow_keeps k1
    | with_reducible apply State.setSer_keeps k2
    | with_reducible apply ite_keeps
    | dsimp -simprocs only
    | dsimp only
    | split

theorem execSerialGapTimeout_keeps {κ : Nat} {σ : State} {n : Nat} {s : State} (hκ : Sub 23332831 κ) (hσ : Keeps κ σ s) :
    NextKeeps κ σ (execSerialGapTimeout n s) := by
  have k0 : Sub 23332831 κ := Sub.trans (by decide : 23332831 &&& 23332831 = 23332831) hκ
  unfold execSerialGapTimeout
  repeat' first
    | with_reducible assumption
    | with_reducible apply next_keeps
    | with_reducible apply ite_next_keeps
    | with_reducible apply State.serEnd_keeps k0
    | with_reducible apply ite_keeps

theorem execSerialTxStart_keeps {κ : Nat} {σ : State} {n : Nat} {s : State} (hκ : Sub 4194305 κ) (hσ : Keeps κ σ s) :
    NextKeeps κ σ (execSerialTxStart n s) := by
  have k0 : Sub 4194304 κ := Sub.trans (by decide : 4194304 &&& 4194305 = 4194304) hκ
  have k1 : Sub 1 κ := Sub.trans (by decide : 1 &&& 4194305 = 1) hκ
  unfold execSerialTxStart
  repeat' first
    | with_reducible assumption
    | with_reducible apply next_keeps
    | with_reducible apply ite_next_keeps
    | with_reducible apply State.setSer_keeps k0
    | with_reducible apply State.serShow_keeps k1
    | with_reducible apply ite_keeps
    | dsimp -simprocs only
    | dsimp only
    | split

theorem State.serDone_keeps {κ : Nat} {σ : State} {s : State} {n status : Nat} (hκ : Sub 4194433 κ) (hσ : Keeps κ σ s) :
    Keeps κ σ (State.serDone s n status) := by
  have k0 : Sub 4194304 κ := Sub.trans (by decide : 4194304 &&& 4194433 = 4194304) hκ
  have k1 : Sub 1 κ := Sub.trans (by decide : 1 &&& 4194433 = 1) hκ
  have k2 : Sub 128 κ := Sub.trans (by decide : 128 &&& 4194433 = 128) hκ
  unfold State.serDone
  repeat' first
    | with_reducible assumption
    | with_reducible apply State.setSer_keeps k0
    | with_reducible apply State.serShow_keeps k1
    | with_reducible apply State.finish_keeps k2
    | dsimp -simprocs only
    | dsimp only
    | split

theorem execSerialCharSent_keeps {κ : Nat} {σ : State} {n heard : Nat} {s : State} (hκ : Sub 4194443 κ) (hσ : Keeps κ σ s) :
    NextKeeps κ σ (execSerialCharSent n heard s) := by
  have k0 : Sub 4194304 κ := Sub.trans (by decide : 4194304 &&& 4194443 = 4194304) hκ
  have k1 : Sub 2 κ := Sub.trans (by decide : 2 &&& 4194443 = 2) hκ
  have k2 : Sub 139 κ := Sub.trans (by decide : 139 &&& 4194443 = 139) hκ
  have k3 : Sub 4194433 κ := Sub.trans (by decide : 4194433 &&& 4194443 = 4194433) hκ
  unfold execSerialCharSent
  repeat' first
    | with_reducible assumption
    | with_reducible apply next_keeps
    | with_reducible apply ite_next_keeps
    | with_reducible apply State.setSer_keeps k0
    | with_reducible apply State.count_keeps k1
    | with_reducible apply State.raise_keeps k2
    | with_reducible apply State.serDone_keeps k3
    | with_reducible apply ite_keeps
    | dsimp -simprocs only
    | dsimp only
    | split

theorem execPolarityDecide_keeps {κ : Nat} {σ : State} {n : Nat} {mV : Int} {s : State} (hκ : Sub 139 κ) (hσ : Keeps κ σ s) :
    NextKeeps κ σ (execPolarityDecide n mV s) := by
  have k0 : Sub 1 κ := Sub.trans (by decide : 1 &&& 139 = 1) hκ
  have k1 : Sub 139 κ := Sub.trans (by decide : 139 &&& 139 = 139) hκ
  unfold execPolarityDecide
  repeat' first
    | with_reducible assumption
    | with_reducible apply next_keeps
    | with_reducible apply ite_next_keeps
    | with_reducible apply State.put_keeps k0
    | with_reducible apply State.serShow_keeps k0
    | with_reducible apply State.raise_keeps k1
    | with_reducible apply ite_keeps
    | dsimp -simprocs only
    | dsimp only
    | split

theorem putBit_keeps {κ : Nat} {σ : State} {s : State} {f : Fld} {i : Nat} {v : Bool} (hκ : Sub 1 κ) (hσ : Keeps κ σ s) :
    Keeps κ σ (putBit s f i v) := by
  have k0 : Sub 1 κ := Sub.trans (by decide : 1 &&& 1 = 1) hκ
  unfold putBit
  repeat' first
    | with_reducible assumption
    | with_reducible apply State.set1_keeps k0
    | with_reducible apply State.clr1_keeps k0
    | with_reducible apply ite_keeps

theorem State.dinSample_keeps {κ : Nat} {σ : State} {s : State} {k : Nat} {x : Int} (hκ : Sub 4194443 κ) (hσ : Keeps κ σ s) :
    Keeps κ σ (State.dinSample s k x) := by
  have k0 : Sub 1 κ := Sub.trans (by decide : 1 &&& 4194443 = 1) hκ
  have k1 : Sub 4194304 κ := Sub.trans (by decide : 4194304 &&& 4194443 = 4194304) hκ
  have k2 : Sub 139 κ := Sub.trans (by decide : 139 &&& 4194443 = 139) hκ
  unfold State.dinSample
  repeat' first
    | with_reducible assumption
    | with_reducible apply putBit_keeps k0
    | with_reducible apply State.setDin_keeps k1
    | with_reducible apply State.put_keeps k0
    | with_reducible apply State.raise_keeps k2
    | with_reducible apply State.set1_keeps k0
    | with_reducible apply ite_keeps
    | dsimp -simprocs only
    | dsimp only
    | split

theorem execInputSample_keeps {κ : Nat} {σ : State} {g : Nat} {xs : List Int} {s : State} (hκ : Sub 4194443 κ) (hσ : Keeps κ σ s) :
    NextKeeps κ σ (execInputSample g xs s) := by
  have k0 : Sub 4194443 κ := Sub.trans (by decide : 4194443 &&& 4194443 = 4194443) hκ
  have k1 : Sub 4194304 κ := Sub.trans (by decide : 4194304 &&& 4194443 = 4194304) hκ
  unfold execInputSample
  repeat' first
    | with_reducible assumption
    | with_reducible apply next_keeps
    | with_reducible apply ite_next_keeps
    | with_reducible apply State.dinSample_keeps k0
    | with_reducible apply State.setSio_keeps k1
    | with_reducible apply ite_keeps
    | with_reducible refine forEach_keeps (fun _ _ _ => ?_) ?_

theorem State.dinRestart_keeps {κ : Nat} {σ : State} {s : State} {k : Nat} {direct : Bool} (hκ : Sub 4194304 κ) (hσ : Keeps κ σ s) :
    Keeps κ σ (State.dinRestart s k direct) := by
  have k0 : Sub 4194304 κ := Sub.trans (by decide : 4194304 &&& 4194304 = 4194304) hκ
  unfold State.dinRestart
  repeat' first
    | with_reducible assumption
    | with_reducible apply State.setDin_keeps k0
    | dsimp -simprocs only
    | dsimp only
    | split

theorem State.serCtlWrite_keeps {κ : Nat} {σ : State} {s : State} {n v : Nat} (hκ : Sub 4194433 κ) (hσ : Keeps κ σ s) :
    Keeps κ σ (State.serCtlWrite s n v) := by
  have k0 : Sub 1 κ := Sub.trans (by decide : 1 &&& 4194433 = 1) hκ
  have k1 : Sub 128 κ := Sub.trans (by decide : 128 &&& 4194433 = 128) hκ
  have k2 : Sub 4194304 κ := Sub.trans (by decide : 4194304 &&& 4194433 = 4194304) hκ
  unfold State.serCtlWrite
  repeat' first
    | with_reducible assumption
    | with_reducible apply State.put_keeps k0
    | with_reducible apply State.finish_keeps k1
    | with_reducible apply State.setSer_keeps k2
    | with_reducible apply State.serShow_keeps k0
    | with_reducible apply ite_keeps
    | with_reducible refine forEach_keeps (fun _ _ _ => ?_) ?_
    | dsimp -simprocs only
    | dsimp only

theorem State.baudWrite_keeps {κ : Nat} {σ : State} {s : State} {n v : Nat} (hκ : Sub 1 κ) (hσ : Keeps κ σ s) :
    Keeps κ σ (State.baudWrite s n v) := by
  have k0 : Sub 1 κ := Sub.trans (by decide : 1 &&& 1 = 1) hκ
  unfold State.baudWrite
  repeat' first
    | with_reducible assumption
    | with_reducible apply State.put_keeps k0
    | with_reducible apply ite_keeps
    | dsimp -simprocs only
    | dsimp only

theorem State.dinCtlWrite_keeps {κ : Nat} {σ : State} {s : State} {g v : Nat} (hκ : Sub 4194305 κ) (hσ : Keeps κ σ s) :
    Keeps κ σ (State.dinCtlWrite s g v) := by
  have k0 : Sub 1 κ := Sub.trans (by decide : 1 &&& 4194305 = 1) hκ
  have k1 : Sub 4194304 κ := Sub.trans (by decide : 4194304 &&& 4194305 = 4194304) hκ
  unfold State.dinCtlWrite
  repeat' first
    | with_reducible assumption
    | with_reducible apply State.put_keeps k0
    | with_reducible apply State.dinRestart_keeps k1
    | with_reducible apply ite_keeps
    | with_reducible refine forEach_keeps (fun _ _ _ => ?_) ?_
    | dsimp -simprocs only
    | dsimp only

theorem State.dinModeWrite_keeps {κ : Nat} {σ : State} {s : State} {v : Nat} (hκ : Sub 4194305 κ) (hσ : Keeps κ σ s) :
    Keeps κ σ (State.dinModeWrite s v) := by
  have k0 : Sub 4194304 κ := Sub.trans (by decide : 4194304 &&& 4194305 = 4194304) hκ
  have k1 : Sub 1 κ := Sub.trans (by decide : 1 &&& 4194305 = 1) hκ
  unfold State.dinModeWrite
  repeat' first
    | with_reducible assumption
    | with_reducible apply State.dinRestart_keeps k0
    | with_reducible apply State.put_keeps k1
    | with_reducible refine forEach_keeps (fun _ _ _ => ?_) ?_
    | dsimp -simprocs only
    | dsimp only

theorem State.dinInvWrite_keeps {κ : Nat} {σ : State} {s : State} {v : Nat} (hκ : Sub 1 κ) (hσ : Keeps κ σ s) :
    Keeps κ σ (State.dinInvWrite s v) := by
  have k0 : Sub 1 κ := Sub.trans (by decide : 1 &&& 1 = 1) hκ
  unfold State.dinInvWrite
  repeat' first
    | with_reducible assumption
    | with_reducible apply putBit_keeps k0
    | with_reducible apply State.put_keeps k0
    | with_reducible refine forEach_keeps (fun _ _ _ => ?_) ?_

theorem State.sioWrite_keeps {κ : Nat} {σ : State} {s : State} {pid a v : Nat} (hκ : Sub 4194433 κ) (hσ : Keeps κ σ s) :
    Keeps κ σ (State.sioWrite s pid a v) := by
  have k0 : Sub 1 κ := Sub.trans (by decide : 1 &&& 4194433 = 1) hκ
  have k1 : Sub 4194433 κ := Sub.trans (by decide : 4194433 &&& 4194433 = 4194433) hκ
  have k2 : Sub 4194305 κ := Sub.trans (by decide : 4194305 &&& 4194433 = 4194305) hκ
  unfold State.sioWrite
  repeat' first
    | with_reducible assumption
    | with_reducible apply State.regApply_keeps k0
    | with_reducible apply State.serCtlWrite_keeps k1
    | with_reducible apply State.baudWrite_keeps k0
    | with_reducible apply State.dinCtlWrite_keeps k2
    | with_reducible apply State.dinModeWrite_keeps k2
    | with_reducible apply State.dinInvWrite_keeps k0
    | with_reducible apply ite_keeps
    | dsimp -simprocs only
    | dsimp only

theorem State.sioMay_keeps {κ : Nat} {σ : State} {s : State} {d : Desc} {k : State} (hκ : Sub 128 κ) (h_k : Keeps κ σ k) (hσ : Keeps κ σ s) :
    Keeps κ σ (State.sioMay s d k) := by
  have k0 : Sub 128 κ := Sub.trans (by decide : 128 &&& 128 = 128) hκ
  unfold State.sioMay
  repeat' first
    | with_reducible assumption
    | with_reducible apply h_k
    | with_reducible apply State.finish_keeps k0
    | with_reducible apply ite_keeps

theorem State.serSend_keeps {κ : Nat} {σ : State} {s : State} {d : Desc} (hκ : Sub 128 κ) (hσ : Keeps κ σ s) :
    Keeps κ σ (State.serSend s d) := by
  have k0 : Sub 128 κ := Sub.trans (by decide : 128 &&& 128 = 128) hκ
  unfold State.serSend
  repeat' first
    | with_reducible assumption
    | with_reducible apply State.sioMay_keeps k0
    | with_reducible apply State.finish_keeps k0
    | with_reducible apply State.hold_keeps k0
    | with_reducible apply ite_keeps
    | dsimp -simprocs only
    | dsimp only

theorem State.serRecv_keeps {κ : Nat} {σ : State} {s : State} {d : Desc} (hκ : Sub 128 κ) (hσ : Keeps κ σ s) :
    Keeps κ σ (State.serRecv s d) := by
  have k0 : Sub 128 κ := Sub.trans (by decide : 128 &&& 128 = 128) hκ
  unfold State.serRecv
  repeat' first
    | with_reducible assumption
    | with_reducible apply State.sioMay_keeps k0
    | with_reducible apply State.finish_keeps k0
    | with_reducible apply State.hold_keeps k0
    | with_reducible apply ite_keeps

theorem State.dinRead_keeps {κ : Nat} {σ : State} {s : State} {d : Desc} (hκ : Sub 16777679 κ) (hσ : Keeps κ σ s) :
    Keeps κ σ (State.dinRead s d) := by
  have k0 : Sub 128 κ := Sub.trans (by decide : 128 &&& 16777679 = 128) hκ
  have k1 : Sub 16777679 κ := Sub.trans (by decide : 16777679 &&& 16777679 = 16777679) hκ
  unfold State.dinRead
  repeat' first
    | with_reducible assumption
    | with_reducible apply State.sioMay_keeps k0
    | with_reducible apply State.finish_keeps k0
    | with_reducible apply State.finishBuf_keeps k1
    | with_reducible apply ite_keeps
    | dsimp -simprocs only
    | dsimp only

theorem State.sioCancel_keeps {κ : Nat} {σ : State} {s : State} {d : Desc} (hκ : Sub 128 κ) (hσ : Keeps κ σ s) :
    Keeps κ σ (State.sioCancel s d) := by
  have k0 : Sub 128 κ := Sub.trans (by decide : 128 &&& 128 = 128) hκ
  unfold State.sioCancel
  repeat' first
    | with_reducible assumption
    | with_reducible apply State.finish_keeps k0
    | with_reducible apply ite_keeps

theorem execSerSend_keeps {κ : Nat} {σ : State} {r : Nat} {s : State} (hκ : Sub 128 κ) (hσ : Keeps κ σ s) :
    NextKeeps κ σ (execSerSend r s) := by
  have k0 : Sub 0 κ := Sub.trans (by decide : 0 &&& 128 = 0) hκ
  have k1 : Sub 128 κ := Sub.trans (by decide : 128 &&& 128 = 128) hκ
  unfold execSerSend
  repeat' first
    | with_reducible assumption
    | with_reducible apply next_keeps
    | with_reducible apply ite_next_keeps
    | with_reducible apply State.withOp_keeps k0
    | with_reducible apply State.serSend_keeps k1
    | intro _

theorem execSerRecv_keeps {κ : Nat} {σ : State} {r : Nat} {s : State} (hκ : Sub 128 κ) (hσ : Keeps κ σ s) :
    NextKeeps κ σ (execSerRecv r s) := by
  have k0 : Sub 0 κ := Sub.trans (by decide : 0 &&& 128 = 0) hκ
  have k1 : Sub 128 κ := Sub.trans (by decide : 128 &&& 128 = 128) hκ
  unfold execSerRecv
  repeat' first
    | with_reducible assumption
    | with_reducible apply next_keeps
    | with_reducible apply ite_next_keeps
    | with_reducible apply State.withOp_keeps k0
    | with_reducible apply State.serRecv_keeps k1
    | intro _

theorem execDinRead_keeps {κ : Nat} {σ : State} {r : Nat} {s : State} (hκ : Sub 16777679 κ) (hσ : Keeps κ σ s) :
    NextKeeps κ σ (execDinRead r s) := by
  have k0 : Sub 0 κ := Sub.trans (by decide : 0 &&& 16777679 = 0) hκ
  have k1 : Sub 16777679 κ := Sub.trans (by decide : 16777679 &&& 16777679 = 16777679) hκ
  unfold execDinRead
  repeat' first
    | with_reducible assumption
    | with_reducible apply next_keeps
    | with_reducible apply ite_next_keeps
    | with_reducible apply State.withOp_keeps k0
    | with_reducible apply State.dinRead_keeps k1
    | intro _

end Sys2Proof.Machine
end

