-- ==== Sys2Proof/Laws/KeepsChart.lean ====
section
/-! SUPPORT. What each operation of Machine/Chart may do to State. -/
namespace Sys2Proof.Machine

theorem State.powerOn_keeps {κ : Nat} {σ : State} {s : State} {pl : Placement} (hκ : Sub 1 κ) (hσ : Keeps κ σ s) :
    Keeps κ σ (State.powerOn s pl) := by
  have k0 : Sub 1 κ := Sub.trans (by decide : 1 &&& 1 = 1) hκ
  unfold State.powerOn
  repeat' first
    | with_reducible assumption
    | with_reducible apply State.put_keeps k0
    | with_reducible apply State.countEngines_keeps k0
    | with_reducible apply ite_keeps
    | with_reducible refine forEach_keeps (fun _ _ _ => ?_) ?_

theorem State.powerOff_keeps {κ : Nat} {σ : State} {s : State} (hκ : Sub 1 κ) (hσ : Keeps κ σ s) :
    Keeps κ σ (State.powerOff s) := by
  have k0 : Sub 1 κ := Sub.trans (by decide : 1 &&& 1 = 1) hκ
  unfold State.powerOff
  repeat' first
    | with_reducible assumption
    | with_reducible apply State.put_keeps k0
    | with_reducible apply State.countEngines_keeps k0
    | with_reducible apply ite_keeps
    | with_reducible refine forEach_keeps (fun _ _ _ => ?_) ?_
    | dsimp -simprocs only
    | dsimp only
    | split

theorem State.waitAgain_keeps {κ : Nat} {σ : State} {s : State} {l : List Cause} (hκ : Sub 16385 κ) (hσ : Keeps κ σ s) :
    Keeps κ σ (State.waitAgain s l) := by
  have k0 : Sub 16384 κ := Sub.trans (by decide : 16384 &&& 16385 = 16384) hκ
  have k1 : Sub 1 κ := Sub.trans (by decide : 1 &&& 16385 = 1) hκ
  unfold State.waitAgain
  repeat' first
    | with_reducible assumption
    | with_reducible apply State.onCht_keeps k0
    | with_reducible apply State.chartIdle_keeps k1
    | intro _

theorem State.showLoads_keeps {κ : Nat} {σ : State} {s : State} (hκ : Sub 1 κ) (hσ : Keeps κ σ s) :
    Keeps κ σ (State.showLoads s) := by
  have k0 : Sub 1 κ := Sub.trans (by decide : 1 &&& 1 = 1) hκ
  unfold State.showLoads
  repeat' first
    | with_reducible assumption
    | with_reducible apply State.put_keeps k0
    | with_reducible apply ite_keeps
    | dsimp -simprocs only
    | dsimp only
    | split

theorem State.loadFails_keeps {κ : Nat} {σ : State} {s : State} {r i result : Nat} (hκ : Sub 139 κ) (hσ : Keeps κ σ s) :
    Keeps κ σ (State.loadFails s r i result) := by
  have k0 : Sub 139 κ := Sub.trans (by decide : 139 &&& 139 = 139) hκ
  unfold State.loadFails
  repeat' first
    | with_reducible assumption
    | with_reducible apply State.rejectLoad_keeps k0
    | split

theorem State.refuseLevel_keeps {κ : Nat} {σ : State} {s : State} {l reason : Nat} (hκ : Sub 147595 κ) (hσ : Keeps κ σ s) :
    Keeps κ σ (State.refuseLevel s l reason) := by
  have k0 : Sub 1 κ := Sub.trans (by decide : 1 &&& 147595 = 1) hκ
  have k1 : Sub 139 κ := Sub.trans (by decide : 139 &&& 147595 = 139) hκ
  have k2 : Sub 147457 κ := Sub.trans (by decide : 147457 &&& 147595 = 147457) hκ
  unfold State.refuseLevel
  repeat' first
    | with_reducible assumption
    | with_reducible apply State.put_keeps k0
    | with_reducible apply State.raise_keeps k1
    | with_reducible apply State.levelRefused_keeps k2

theorem State.plyShadow_keeps {κ : Nat} {σ : State} {s : State} {p : Pattern} {pl : Placement} (hκ : Sub 512 κ) (hσ : Keeps κ σ s) :
    Keeps κ σ (State.plyShadow s p pl) := by
  have k0 : Sub 512 κ := Sub.trans (by decide : 512 &&& 512 = 512) hκ
  unfold State.plyShadow
  repeat' first
    | with_reducible assumption
    | with_reducible apply State.setPlyEnt_keeps k0
    | with_reducible apply ite_keeps
    | with_reducible refine forEach_keeps (fun _ _ _ => ?_) ?_
    | with_reducible refine foldl_keeps (fun _ _ _ => ?_) ?_
    | with_reducible refine foldl_fst_keeps (fun _ _ _ => ?_) ?_
    | dsimp -simprocs only
    | dsimp only

theorem State.plyWindows_keeps {κ : Nat} {σ : State} {s : State} {p : Pattern} {pl : Placement} (hκ : Sub 512 κ) (hσ : Keeps κ σ s) :
    Keeps κ σ (State.plyWindows s p pl) := by
  have k0 : Sub 512 κ := Sub.trans (by decide : 512 &&& 512 = 512) hκ
  unfold State.plyWindows
  repeat' first
    | with_reducible assumption
    | with_reducible apply State.setPlyEnt_keeps k0
    | with_reducible refine forEach_keeps (fun _ _ _ => ?_) ?_

theorem State.startShadow_keeps {κ : Nat} {σ : State} {s : State} {p : Pattern} {pl : Placement} {l : List Cause} (hκ : Sub 25089 κ) (hσ : Keeps κ σ s) :
    Keeps κ σ (State.startShadow s p pl l) := by
  have k0 : Sub 8192 κ := Sub.trans (by decide : 8192 &&& 25089 = 8192) hκ
  have k1 : Sub 16384 κ := Sub.trans (by decide : 16384 &&& 25089 = 16384) hκ
  have k2 : Sub 1 κ := Sub.trans (by decide : 1 &&& 25089 = 1) hκ
  have k3 : Sub 512 κ := Sub.trans (by decide : 512 &&& 25089 = 512) hκ
  unfold State.startShadow
  repeat' first
    | with_reducible assumption
    | with_reducible apply State.clearShadowSt_keeps k0
    | with_reducible apply State.onCht_keeps k1
    | with_reducible apply State.powerOn_keeps k2
    | with_reducible apply State.plyShadow_keeps k3
    | intro _
    | dsimp -simprocs only
    | dsimp only

theorem State.degraded_keeps {κ : Nat} {σ : State} {s : State} {p : Pattern} {cons : Bool} {level : Nat} {l : List Cause} {f : NoPlace} (hκ : Sub 156299 κ) (hσ : Keeps κ σ s) :
    Keeps κ σ (State.degraded s p cons level l f) := by
  have k0 : Sub 1 κ := Sub.trans (by decide : 1 &&& 156299 = 1) hκ
  have k1 : Sub 139 κ := Sub.trans (by decide : 139 &&& 156299 = 139) hκ
  have k2 : Sub 131073 κ := Sub.trans (by decide : 131073 &&& 156299 = 131073) hκ
  have k3 : Sub 16385 κ := Sub.trans (by decide : 16385 &&& 156299 = 16385) hκ
  have k4 : Sub 16384 κ := Sub.trans (by decide : 16384 &&& 156299 = 16384) hκ
  have k5 : Sub 25089 κ := Sub.trans (by decide : 25089 &&& 156299 = 25089) hκ
  unfold State.degraded
  repeat' first
    | with_reducible assumption
    | with_reducible apply State.put_keeps k0
    | with_reducible apply State.raise_keeps k1
    | with_reducible apply State.moveLevel_keeps k2
    | with_reducible apply State.waitAgain_keeps k3
    | with_reducible apply State.onCht_keeps k4
    | with_reducible apply State.startShadow_keeps k5
    | with_reducible apply State.powerOff_keeps k0
    | with_reducible apply State.showEngines_keeps k0
    | with_reducible apply State.chartIdle_keeps k0
    | with_reducible apply ite_keeps
    | intro _
    | dsimp -simprocs only
    | dsimp only
    | split

theorem State.replanFails_keeps {κ : Nat} {σ : State} {s : State} {p : Pattern} {cons : Bool} {level : Nat} {l : List Cause} {f : NoPlace} (hκ : Sub 156299 κ) (hσ : Keeps κ σ s) :
    Keeps κ σ (State.replanFails s p cons level l f) := by
  have k0 : Sub 1 κ := Sub.trans (by decide : 1 &&& 156299 = 1) hκ
  have k1 : Sub 139 κ := Sub.trans (by decide : 139 &&& 156299 = 139) hκ
  have k2 : Sub 16385 κ := Sub.trans (by decide : 16385 &&& 156299 = 16385) hκ
  have k3 : Sub 147595 κ := Sub.trans (by decide : 147595 &&& 156299 = 147595) hκ
  have k4 : Sub 156299 κ := Sub.trans (by decide : 156299 &&& 156299 = 156299) hκ
  unfold State.replanFails
  repeat' first
    | with_reducible assumption
    | with_reducible apply State.put_keeps k0
    | with_reducible apply State.raise_keeps k1
    | with_reducible apply State.loadFails_keeps k1
    | with_reducible apply State.waitAgain_keeps k2
    | with_reducible apply State.showLoads_keeps k0
    | with_reducible apply State.refuseLevel_keeps k3
    | with_reducible apply State.degraded_keeps k4
    | dsimp -simprocs only
    | dsimp only
    | split

theorem State.grantLevel_keeps {κ : Nat} {σ : State} {s : State} {l : Nat} (hκ : Sub 131073 κ) (hσ : Keeps κ σ s) :
    Keeps κ σ (State.grantLevel s l) := by
  have k0 : Sub 1 κ := Sub.trans (by decide : 1 &&& 131073 = 1) hκ
  have k1 : Sub 131073 κ := Sub.trans (by decide : 131073 &&& 131073 = 131073) hκ
  unfold State.grantLevel
  repeat' first
    | with_reducible assumption
    | with_reducible apply State.put_keeps k0
    | with_reducible apply State.moveLevel_keeps k1

theorem State.replan_keeps {κ : Nat} {σ : State} {s : State} {l : List Cause} (hκ : Sub 156299 κ) (hσ : Keeps κ σ s) :
    Keeps κ σ (State.replan s l) := by
  have k0 : Sub 16384 κ := Sub.trans (by decide : 16384 &&& 156299 = 16384) hκ
  have k1 : Sub 2 κ := Sub.trans (by decide : 2 &&& 156299 = 2) hκ
  have k2 : Sub 131073 κ := Sub.trans (by decide : 131073 &&& 156299 = 131073) hκ
  have k3 : Sub 1 κ := Sub.trans (by decide : 1 &&& 156299 = 1) hκ
  have k4 : Sub 512 κ := Sub.trans (by decide : 512 &&& 156299 = 512) hκ
  have k5 : Sub 25089 κ := Sub.trans (by decide : 25089 &&& 156299 = 25089) hκ
  have k6 : Sub 156299 κ := Sub.trans (by decide : 156299 &&& 156299 = 156299) hκ
  unfold State.replan
  repeat' first
    | with_reducible assumption
    | with_reducible apply State.onCht_keeps k0
    | with_reducible apply State.count_keeps k1
    | with_reducible apply State.grantLevel_keeps k2
    | with_reducible apply State.chartIdle_keeps k3
    | with_reducible apply State.plyWindows_keeps k4
    | with_reducible apply State.showEngines_keeps k3
    | with_reducible apply State.startShadow_keeps k5
    | with_reducible apply State.replanFails_keeps k6
    | with_reducible apply ite_keeps
    | intro _
    | dsimp -simprocs only
    | dsimp only
    | split

theorem State.dropLoads_keeps {κ : Nat} {σ : State} {s : State} (hκ : Sub 16801803 κ) (hσ : Keeps κ σ s) :
    Keeps κ σ (State.dropLoads s) := by
  have k0 : Sub 16801802 κ := Sub.trans (by decide : 16801802 &&& 16801803 = 16801802) hκ
  have k1 : Sub 1 κ := Sub.trans (by decide : 1 &&& 16801803 = 1) hκ
  have k2 : Sub 16384 κ := Sub.trans (by decide : 16384 &&& 16801803 = 16384) hκ
  unfold State.dropLoads
  repeat' first
    | with_reducible assumption
    | with_reducible apply State.dropShadow_keeps k0
    | with_reducible apply State.powerOff_keeps k1
    | with_reducible apply State.onCht_keeps k2
    | with_reducible apply State.showLoads_keeps k1
    | with_reducible apply State.chartIdle_keeps k1
    | with_reducible apply ite_keeps
    | intro _
    | dsimp -simprocs only
    | dsimp only
    | split

theorem State.mirrorPlace_keeps {κ : Nat} {σ : State} {s : State} (hκ : Sub 16802315 κ) (hσ : Keeps κ σ s) :
    Keeps κ σ (State.mirrorPlace s) := by
  have k0 : Sub 25089 κ := Sub.trans (by decide : 25089 &&& 16802315 = 25089) hκ
  have k1 : Sub 16777226 κ := Sub.trans (by decide : 16777226 &&& 16802315 = 16777226) hκ
  unfold State.mirrorPlace
  repeat' first
    | with_reducible assumption
    | with_reducible apply State.startShadow_keeps k0
    | with_reducible apply State.mirror_keeps k1
    | with_reducible apply ite_keeps
    | split

theorem State.dropMirror_keeps {κ : Nat} {σ : State} {s : State} (hκ : Sub 16801803 κ) (hσ : Keeps κ σ s) :
    Keeps κ σ (State.dropMirror s) := by
  have k0 : Sub 16801802 κ := Sub.trans (by decide : 16801802 &&& 16801803 = 16801802) hκ
  have k1 : Sub 1 κ := Sub.trans (by decide : 1 &&& 16801803 = 1) hκ
  unfold State.dropMirror
  repeat' first
    | with_reducible assumption
    | with_reducible apply State.dropShadow_keeps k0
    | with_reducible apply State.powerOff_keeps k1
    | with_reducible apply State.chartIdle_keeps k1
    | with_reducible apply ite_keeps
    | split

theorem State.mirrorLive_keeps {κ : Nat} {σ : State} {s : State} (hκ : Sub 16801803 κ) (hσ : Keeps κ σ s) :
    Keeps κ σ (State.mirrorLive s) := by
  have k0 : Sub 16384 κ := Sub.trans (by decide : 16384 &&& 16801803 = 16384) hκ
  have k1 : Sub 1 κ := Sub.trans (by decide : 1 &&& 16801803 = 1) hκ
  have k2 : Sub 16385 κ := Sub.trans (by decide : 16385 &&& 16801803 = 16385) hκ
  have k3 : Sub 16801803 κ := Sub.trans (by decide : 16801803 &&& 16801803 = 16801803) hκ
  unfold State.mirrorLive
  repeat' first
    | with_reducible assumption
    | with_reducible apply State.onCht_keeps k0
    | with_reducible apply State.put_keeps k1
    | with_reducible apply State.askChart_keeps k2
    | with_reducible apply State.dropMirror_keeps k3
    | with_reducible apply ite_keeps
    | intro _
    | dsimp -simprocs only
    | dsimp only
    | split

theorem execChartReplan_keeps {κ : Nat} {σ : State} {s : State} (hκ : Sub 16933515 κ) (hσ : Keeps κ σ s) :
    NextKeeps κ σ (execChartReplan s) := by
  have k0 : Sub 16801803 κ := Sub.trans (by decide : 16801803 &&& 16933515 = 16801803) hκ
  have k1 : Sub 16802315 κ := Sub.trans (by decide : 16802315 &&& 16933515 = 16802315) hκ
  have k2 : Sub 16801802 κ := Sub.trans (by decide : 16801802 &&& 16933515 = 16801802) hκ
  have k3 : Sub 156299 κ := Sub.trans (by decide : 156299 &&& 16933515 = 156299) hκ
  unfold execChartReplan
  repeat' first
    | with_reducible assumption
    | with_reducible apply next_keeps
    | with_reducible apply ite_next_keeps
    | with_reducible apply State.dropLoads_keeps k0
    | with_reducible apply State.mirrorPlace_keeps k1
    | with_reducible apply State.dropShadow_keeps k2
    | with_reducible apply State.replan_keeps k3
    | with_reducible apply ite_keeps
    | dsimp -simprocs only
    | dsimp only
    | split

theorem State.abandon_keeps {κ : Nat} {σ : State} {s : State} {sh : Shadow} (hκ : Sub 16933003 κ) (hσ : Keeps κ σ s) :
    Keeps κ σ (State.abandon s sh) := by
  have k0 : Sub 2 κ := Sub.trans (by decide : 2 &&& 16933003 = 2) hκ
  have k1 : Sub 139 κ := Sub.trans (by decide : 139 &&& 16933003 = 139) hκ
  have k2 : Sub 16801802 κ := Sub.trans (by decide : 16801802 &&& 16933003 = 16801802) hκ
  have k3 : Sub 1 κ := Sub.trans (by decide : 1 &&& 16933003 = 1) hκ
  have k4 : Sub 147595 κ := Sub.trans (by decide : 147595 &&& 16933003 = 147595) hκ
  have k5 : Sub 16385 κ := Sub.trans (by decide : 16385 &&& 16933003 = 16385) hκ
  unfold State.abandon
  repeat' first
    | with_reducible assumption
    | with_reducible apply State.count_keeps k0
    | with_reducible apply State.raise_keeps k1
    | with_reducible apply State.dropShadow_keeps k2
    | with_reducible apply State.powerOff_keeps k3
    | with_reducible apply State.put_keeps k3
    | with_reducible apply State.loadFails_keeps k1
    | with_reducible apply State.refuseLevel_keeps k4
    | with_reducible apply State.askChart_keeps k5
    | with_reducible apply State.showLoads_keeps k3
    | with_reducible apply State.chartIdle_keeps k3
    | with_reducible apply ite_keeps
    | dsimp -simprocs only
    | dsimp only
    | split

theorem execShadowDeadlineCheck_keeps {κ : Nat} {σ : State} {s : State} (hκ : Sub 16933003 κ) (hσ : Keeps κ σ s) :
    NextKeeps κ σ (execShadowDeadlineCheck s) := by
  have k0 : Sub 16801803 κ := Sub.trans (by decide : 16801803 &&& 16933003 = 16801803) hκ
  have k1 : Sub 16933003 κ := Sub.trans (by decide : 16933003 &&& 16933003 = 16933003) hκ
  have k2 : Sub 16384 κ := Sub.trans (by decide : 16384 &&& 16933003 = 16384) hκ
  unfold execShadowDeadlineCheck
  repeat' first
    | with_reducible assumption
    | with_reducible apply next_keeps
    | with_reducible apply ite_next_keeps
    | with_reducible apply State.dropLoads_keeps k0
    | with_reducible apply State.abandon_keeps k1
    | with_reducible apply State.onCht_keeps k2
    | with_reducible apply ite_keeps
    | intro _
    | dsimp -simprocs only
    | dsimp only
    | split

theorem State.plySwitch_keeps {κ : Nat} {σ : State} {s : State} (hκ : Sub 512 κ) (hσ : Keeps κ σ s) :
    Keeps κ σ (State.plySwitch s) := by
  have k0 : Sub 512 κ := Sub.trans (by decide : 512 &&& 512 = 512) hκ
  unfold State.plySwitch
  repeat' first
    | with_reducible assumption
    | with_reducible apply State.setPlyEnt_keeps k0
    | with_reducible apply State.setPlyAcc_keeps k0
    | with_reducible refine forEach_keeps (fun _ _ _ => ?_) ?_

theorem State.endLoad_keeps {κ : Nat} {σ : State} {s : State} {t : Nat} {ld : Nat × Nat} (hκ : Sub 1048704 κ) (hσ : Keeps κ σ s) :
    Keeps κ σ (State.endLoad s t ld) := by
  have k0 : Sub 1048576 κ := Sub.trans (by decide : 1048576 &&& 1048704 = 1048576) hκ
  have k1 : Sub 128 κ := Sub.trans (by decide : 128 &&& 1048704 = 128) hκ
  unfold State.endLoad
  repeat' first
    | with_reducible assumption
    | with_reducible apply State.encMeasure_keeps k0
    | with_reducible apply State.finish_keeps k1
    | split

theorem State.takeover_keeps {κ : Nat} {σ : State} {s : State} {t : Nat} {ld : Nat × Nat} (hκ : Sub 1187979 κ) (hσ : Keeps κ σ s) :
    Keeps κ σ (State.takeover s t ld) := by
  have k0 : Sub 8192 κ := Sub.trans (by decide : 8192 &&& 1187979 = 8192) hκ
  have k1 : Sub 1 κ := Sub.trans (by decide : 1 &&& 1187979 = 1) hκ
  have k2 : Sub 139 κ := Sub.trans (by decide : 139 &&& 1187979 = 139) hκ
  have k3 : Sub 131073 κ := Sub.trans (by decide : 131073 &&& 1187979 = 131073) hκ
  have k4 : Sub 1048704 κ := Sub.trans (by decide : 1048704 &&& 1187979 = 1048704) hκ
  unfold State.takeover
  repeat' first
    | with_reducible assumption
    | with_reducible apply State.onAud_keeps k0
    | with_reducible apply State.put_keeps k1
    | with_reducible apply State.raise_keeps k2
    | with_reducible apply State.newFloor_keeps k3
    | with_reducible apply State.endLoad_keeps k4
    | intro _
    | dsimp -simprocs only
    | dsimp only

theorem State.switchOver_keeps {κ : Nat} {σ : State} {s : State} {sh : Shadow} {t : Nat} (hκ : Sub 1204875 κ) (hσ : Keeps κ σ s) :
    Keeps κ σ (State.switchOver s sh t) := by
  have k0 : Sub 8192 κ := Sub.trans (by decide : 8192 &&& 1204875 = 8192) hκ
  have k1 : Sub 16384 κ := Sub.trans (by decide : 16384 &&& 1204875 = 16384) hκ
  have k2 : Sub 512 κ := Sub.trans (by decide : 512 &&& 1204875 = 512) hκ
  have k3 : Sub 1 κ := Sub.trans (by decide : 1 &&& 1204875 = 1) hκ
  have k4 : Sub 651 κ := Sub.trans (by decide : 651 &&& 1204875 = 651) hκ
  have k5 : Sub 139 κ := Sub.trans (by decide : 139 &&& 1204875 = 139) hκ
  have k6 : Sub 1187979 κ := Sub.trans (by decide : 1187979 &&& 1204875 = 1187979) hκ
  have k7 : Sub 131072 κ := Sub.trans (by decide : 131072 &&& 1204875 = 131072) hκ
  have k8 : Sub 131073 κ := Sub.trans (by decide : 131073 &&& 1204875 = 131073) hκ
  unfold State.switchOver
  repeat' first
    | with_reducible assumption
    | with_reducible apply State.onAud_keeps k0
    | with_reducible apply State.onCht_keeps k1
    | with_reducible apply State.plySwitch_keeps k2
    | with_reducible apply State.put_keeps k3
    | with_reducible apply State.recarve_keeps k4
    | with_reducible apply State.raise_keeps k5
    | with_reducible apply State.takeover_keeps k6
    | with_reducible apply State.powerOff_keeps k3
    | with_reducible apply State.gauAct_keeps k7
    | with_reducible apply State.grantLevel_keeps k8
    | with_reducible apply State.onGau_keeps k7
    | with_reducible apply State.gaugeDue_keeps k7
    | with_reducible apply State.showEngines_keeps k3
    | with_reducible apply State.showLoads_keeps k3
    | with_reducible apply State.chartIdle_keeps k3
    | with_reducible apply ite_keeps
    | with_reducible apply ite_fst_keeps
    | intro _
    | dsimp -simprocs only
    | dsimp only
    | split

theorem execPlacementSwitch_keeps {κ : Nat} {σ : State} {s : State} (hκ : Sub 17982091 κ) (hσ : Keeps κ σ s) :
    NextKeeps κ σ (execPlacementSwitch s) := by
  have k0 : Sub 16801803 κ := Sub.trans (by decide : 16801803 &&& 17982091 = 16801803) hκ
  have k1 : Sub 1204875 κ := Sub.trans (by decide : 1204875 &&& 17982091 = 1204875) hκ
  unfold execPlacementSwitch
  repeat' first
    | with_reducible assumption
    | with_reducible apply next_keeps
    | with_reducible apply ite_next_keeps
    | with_reducible apply State.dropLoads_keeps k0
    | with_reducible apply State.switchOver_keeps k1
    | with_reducible apply ite_keeps
    | dsimp -simprocs only
    | dsimp only
    | split

theorem execEngineDeadline_keeps {κ : Nat} {σ : State} {e : Nat} {s : State} (hκ : Sub 16801931 κ) (hσ : Keeps κ σ s) :
    NextKeeps κ σ (execEngineDeadline e s) := by
  have k0 : Sub 16801931 κ := Sub.trans (by decide : 16801931 &&& 16801931 = 16801931) hκ
  unfold execEngineDeadline
  repeat' first
    | with_reducible assumption
    | with_reducible apply next_keeps
    | with_reducible apply ite_next_keeps
    | with_reducible apply State.engineFail_keeps k0
    | with_reducible apply ite_keeps
    | dsimp -simprocs only
    | dsimp only
    | split

theorem execEngineFail_keeps {κ : Nat} {σ : State} {e : Nat} {s : State} (hκ : Sub 16801931 κ) (hσ : Keeps κ σ s) :
    NextKeeps κ σ (execEngineFail e s) := by
  have k0 : Sub 16801931 κ := Sub.trans (by decide : 16801931 &&& 16801931 = 16801931) hκ
  unfold execEngineFail
  repeat' first
    | with_reducible assumption
    | with_reducible apply next_keeps
    | with_reducible apply ite_next_keeps
    | with_reducible apply State.engineFail_keeps k0

theorem execEngineBack_keeps {κ : Nat} {σ : State} {e : Nat} {s : State} (hκ : Sub 139 κ) (hσ : Keeps κ σ s) :
    NextKeeps κ σ (execEngineBack e s) := by
  have k0 : Sub 1 κ := Sub.trans (by decide : 1 &&& 139 = 1) hκ
  have k1 : Sub 139 κ := Sub.trans (by decide : 139 &&& 139 = 139) hκ
  unfold execEngineBack
  repeat' first
    | with_reducible assumption
    | with_reducible apply next_keeps
    | with_reducible apply ite_next_keeps
    | with_reducible apply State.put_keeps k0
    | with_reducible apply State.raise_keeps k1
    | with_reducible apply ite_keeps

theorem State.unexclude_keeps {κ : Nat} {σ : State} {s : State} {pid v : Nat} (hκ : Sub 1 κ) (hσ : Keeps κ σ s) :
    Keeps κ σ (State.unexclude s pid v) := by
  have k0 : Sub 1 κ := Sub.trans (by decide : 1 &&& 1 = 1) hκ
  unfold State.unexclude
  repeat' first
    | with_reducible assumption
    | with_reducible apply State.clr1_keeps k0
    | with_reducible apply State.put_keeps k0
    | with_reducible apply ite_keeps
    | with_reducible refine forEach_keeps (fun _ _ _ => ?_) ?_

theorem execEngineUnexclude_keeps {κ : Nat} {σ : State} {pid val : Nat} {s : State} (hκ : Sub 1 κ) (hσ : Keeps κ σ s) :
    NextKeeps κ σ (execEngineUnexclude pid val s) := by
  have k0 : Sub 1 κ := Sub.trans (by decide : 1 &&& 1 = 1) hκ
  unfold execEngineUnexclude
  repeat' first
    | with_reducible assumption
    | with_reducible apply next_keeps
    | with_reducible apply ite_next_keeps
    | with_reducible apply State.unexclude_keeps k0

theorem State.placeRead_keeps {κ : Nat} {σ : State} {s : State} {d : Desc} (hκ : Sub 16777679 κ) (hσ : Keeps κ σ s) :
    Keeps κ σ (State.placeRead s d) := by
  have k0 : Sub 128 κ := Sub.trans (by decide : 128 &&& 16777679 = 128) hκ
  have k1 : Sub 16777679 κ := Sub.trans (by decide : 16777679 &&& 16777679 = 16777679) hκ
  unfold State.placeRead
  repeat' first
    | with_reducible assumption
    | with_reducible apply State.finish_keeps k0
    | with_reducible apply State.finishBuf_keeps k1
    | with_reducible apply ite_keeps
    | dsimp -simprocs only
    | dsimp only

theorem execPlaceRead_keeps {κ : Nat} {σ : State} {r : Nat} {s : State} (hκ : Sub 16777679 κ) (hσ : Keeps κ σ s) :
    NextKeeps κ σ (execPlaceRead r s) := by
  have k0 : Sub 0 κ := Sub.trans (by decide : 0 &&& 16777679 = 0) hκ
  have k1 : Sub 16777679 κ := Sub.trans (by decide : 16777679 &&& 16777679 = 16777679) hκ
  unfold execPlaceRead
  repeat' first
    | with_reducible assumption
    | with_reducible apply next_keeps
    | with_reducible apply ite_next_keeps
    | with_reducible apply State.withOp_keeps k0
    | with_reducible apply State.placeRead_keeps k1
    | intro _

theorem State.patternCheck_keeps {κ : Nat} {σ : State} {s : State} {d : Desc} (hκ : Sub 128 κ) (hσ : Keeps κ σ s) :
    Keeps κ σ (State.patternCheck s d) := by
  have k0 : Sub 128 κ := Sub.trans (by decide : 128 &&& 128 = 128) hκ
  unfold State.patternCheck
  repeat' first
    | with_reducible assumption
    | with_reducible apply State.lastStitch_keeps k0
    | with_reducible apply State.finish_keeps k0
    | with_reducible apply ite_keeps
    | dsimp -simprocs only
    | dsimp only
    | split

theorem execPatternCheck_keeps {κ : Nat} {σ : State} {r : Nat} {s : State} (hκ : Sub 128 κ) (hσ : Keeps κ σ s) :
    NextKeeps κ σ (execPatternCheck r s) := by
  have k0 : Sub 0 κ := Sub.trans (by decide : 0 &&& 128 = 0) hκ
  have k1 : Sub 128 κ := Sub.trans (by decide : 128 &&& 128 = 128) hκ
  unfold execPatternCheck
  repeat' first
    | with_reducible assumption
    | with_reducible apply next_keeps
    | with_reducible apply ite_next_keeps
    | with_reducible apply State.withOp_keeps k0
    | with_reducible apply State.patternCheck_keeps k1
    | intro _

theorem State.carveHint_keeps {κ : Nat} {σ : State} {s : State} {d : Desc} (hκ : Sub 17035 κ) (hσ : Keeps κ σ s) :
    Keeps κ σ (State.carveHint s d) := by
  have k0 : Sub 128 κ := Sub.trans (by decide : 128 &&& 17035 = 128) hκ
  have k1 : Sub 16384 κ := Sub.trans (by decide : 16384 &&& 17035 = 16384) hκ
  have k2 : Sub 651 κ := Sub.trans (by decide : 651 &&& 17035 = 651) hκ
  unfold State.carveHint
  repeat' first
    | with_reducible assumption
    | with_reducible apply State.finish_keeps k0
    | with_reducible apply State.onCht_keeps k1
    | with_reducible apply State.recarve_keeps k2
    | with_reducible apply ite_keeps
    | with_reducible apply ite_fst_keeps
    | with_reducible refine forEach_keeps (fun _ _ _ => ?_) ?_
    | intro _
    | dsimp -simprocs only
    | dsimp only
    | split

theorem execCarveHint_keeps {κ : Nat} {σ : State} {r : Nat} {s : State} (hκ : Sub 17035 κ) (hσ : Keeps κ σ s) :
    NextKeeps κ σ (execCarveHint r s) := by
  have k0 : Sub 0 κ := Sub.trans (by decide : 0 &&& 17035 = 0) hκ
  have k1 : Sub 17035 κ := Sub.trans (by decide : 17035 &&& 17035 = 17035) hκ
  unfold execCarveHint
  repeat' first
    | with_reducible assumption
    | with_reducible apply next_keeps
    | with_reducible apply ite_next_keeps
    | with_reducible apply State.withOp_keeps k0
    | with_reducible apply State.carveHint_keeps k1
    | intro _

end Sys2Proof.Machine
end

