-- ==== Sys2Proof/Laws/KeepsEnclave.lean ====
section
/-! SUPPORT. What each operation of Machine/Enclave may do to State. -/
namespace Sys2Proof.Machine

theorem State.encTry_keeps {κ : Nat} {σ : State} {s : State} {d : Desc} {l : List (Option Nat)} {k : State} (hκ : Sub 128 κ) (h_k : Keeps κ σ k) (hσ : Keeps κ σ s) :
    Keeps κ σ (State.encTry s d l k) := by
  have k0 : Sub 128 κ := Sub.trans (by decide : 128 &&& 128 = 128) hκ
  unfold State.encTry
  repeat' first
    | with_reducible assumption
    | with_reducible apply h_k
    | with_reducible apply State.finish_keeps k0
    | dsimp only [id]
    | split

theorem State.encBegin_keeps {κ : Nat} {σ : State} {s : State} {d : Desc} {key seed : Bytes} {rec_ : Nat} (hκ : Sub 17826255 κ) (hσ : Keeps κ σ s) :
    Keeps κ σ (State.encBegin s d key seed rec_) := by
  have k0 : Sub 16777679 κ := Sub.trans (by decide : 16777679 &&& 17826255 = 16777679) hκ
  have k1 : Sub 1048576 κ := Sub.trans (by decide : 1048576 &&& 17826255 = 1048576) hκ
  unfold State.encBegin
  repeat' first
    | with_reducible assumption
    | with_reducible apply State.stitched_keeps k0
    | with_reducible apply State.onEnc_keeps k1
    | intro _

theorem State.dropWork_keeps {κ : Nat} {σ : State} {s : State} {d : Desc} (hκ : Sub 1048576 κ) (hσ : Keeps κ σ s) :
    Keeps κ σ (State.dropWork s d) := by
  have k0 : Sub 1048576 κ := Sub.trans (by decide : 1048576 &&& 1048576 = 1048576) hκ
  unfold State.dropWork
  repeat' first
    | with_reducible assumption
    | with_reducible apply State.onEnc_keeps k0
    | intro _

theorem State.keyGenerate_keeps {κ : Nat} {σ : State} {s : State} {healthy : Bool} {d : Desc} (hκ : Sub 1048731 κ) (hσ : Keeps κ σ s) :
    Keeps κ σ (State.keyGenerate s healthy d) := by
  have k0 : Sub 128 κ := Sub.trans (by decide : 128 &&& 1048731 = 128) hκ
  have k1 : Sub 139 κ := Sub.trans (by decide : 139 &&& 1048731 = 139) hκ
  have k2 : Sub 1048576 κ := Sub.trans (by decide : 1048576 &&& 1048731 = 1048576) hκ
  have k3 : Sub 16 κ := Sub.trans (by decide : 16 &&& 1048731 = 16) hκ
  unfold State.keyGenerate
  repeat' first
    | with_reducible assumption
    | with_reducible apply State.encTry_keeps k0
    | with_reducible apply State.raise_keeps k1
    | with_reducible apply State.finish_keeps k0
    | with_reducible apply State.setKeySlot_keeps k2
    | with_reducible apply State.drawn_keeps k3
    | with_reducible apply ite_keeps
    | dsimp -simprocs only
    | dsimp only
    | split

theorem State.keyDerive_keeps {κ : Nat} {σ : State} {s : State} {d : Desc} (hκ : Sub 17826255 κ) (hσ : Keeps κ σ s) :
    Keeps κ σ (State.keyDerive s d) := by
  have k0 : Sub 128 κ := Sub.trans (by decide : 128 &&& 17826255 = 128) hκ
  have k1 : Sub 17826255 κ := Sub.trans (by decide : 17826255 &&& 17826255 = 17826255) hκ
  unfold State.keyDerive
  repeat' first
    | with_reducible assumption
    | with_reducible apply State.encTry_keeps k0
    | with_reducible apply State.encBegin_keeps k1
    | with_reducible apply ite_keeps
    | dsimp -simprocs only
    | dsimp only
    | split

theorem State.keyImport_keeps {κ : Nat} {σ : State} {s : State} {d : Desc} (hκ : Sub 1048704 κ) (hσ : Keeps κ σ s) :
    Keeps κ σ (State.keyImport s d) := by
  have k0 : Sub 128 κ := Sub.trans (by decide : 128 &&& 1048704 = 128) hκ
  have k1 : Sub 1048576 κ := Sub.trans (by decide : 1048576 &&& 1048704 = 1048576) hκ
  unfold State.keyImport
  repeat' first
    | with_reducible assumption
    | with_reducible apply State.encTry_keeps k0
    | with_reducible apply State.setKeySlot_keeps k1
    | with_reducible apply State.finish_keeps k0
    | dsimp -simprocs only
    | dsimp only
    | split

theorem State.keyErase_keeps {κ : Nat} {σ : State} {s : State} {d : Desc} (hκ : Sub 1048704 κ) (hσ : Keeps κ σ s) :
    Keeps κ σ (State.keyErase s d) := by
  have k0 : Sub 128 κ := Sub.trans (by decide : 128 &&& 1048704 = 128) hκ
  have k1 : Sub 1048576 κ := Sub.trans (by decide : 1048576 &&& 1048704 = 1048576) hκ
  unfold State.keyErase
  repeat' first
    | with_reducible assumption
    | with_reducible apply State.encTry_keeps k0
    | with_reducible apply State.setKeySlot_keeps k1
    | with_reducible apply State.finish_keeps k0
    | dsimp -simprocs only
    | dsimp only

theorem State.pubkeyRead_keeps {κ : Nat} {σ : State} {s : State} {d : Desc} (hκ : Sub 16777679 κ) (hσ : Keeps κ σ s) :
    Keeps κ σ (State.pubkeyRead s d) := by
  have k0 : Sub 128 κ := Sub.trans (by decide : 128 &&& 16777679 = 128) hκ
  have k1 : Sub 16777679 κ := Sub.trans (by decide : 16777679 &&& 16777679 = 16777679) hκ
  unfold State.pubkeyRead
  repeat' first
    | with_reducible assumption
    | with_reducible apply State.encTry_keeps k0
    | with_reducible apply State.finishBuf_keeps k1
    | with_reducible apply ite_keeps
    | dsimp -simprocs only
    | dsimp only
    | split

theorem State.signOp_keeps {κ : Nat} {σ : State} {s : State} {d : Desc} (hκ : Sub 17826255 κ) (hσ : Keeps κ σ s) :
    Keeps κ σ (State.signOp s d) := by
  have k0 : Sub 128 κ := Sub.trans (by decide : 128 &&& 17826255 = 128) hκ
  have k1 : Sub 17826255 κ := Sub.trans (by decide : 17826255 &&& 17826255 = 17826255) hκ
  unfold State.signOp
  repeat' first
    | with_reducible assumption
    | with_reducible apply State.encTry_keeps k0
    | with_reducible apply State.encBegin_keeps k1
    | dsimp -simprocs only
    | dsimp only
    | split

theorem State.verifyOp_keeps {κ : Nat} {σ : State} {s : State} {d : Desc} (hκ : Sub 17826255 κ) (hσ : Keeps κ σ s) :
    Keeps κ σ (State.verifyOp s d) := by
  have k0 : Sub 128 κ := Sub.trans (by decide : 128 &&& 17826255 = 128) hκ
  have k1 : Sub 17826255 κ := Sub.trans (by decide : 17826255 &&& 17826255 = 17826255) hκ
  unfold State.verifyOp
  repeat' first
    | with_reducible assumption
    | with_reducible apply State.encTry_keeps k0
    | with_reducible apply State.encBegin_keeps k1
    | with_reducible apply ite_keeps
    | dsimp -simprocs only
    | dsimp only
    | split

theorem State.cmacOp_keeps {κ : Nat} {σ : State} {s : State} {d : Desc} (hκ : Sub 16777679 κ) (hσ : Keeps κ σ s) :
    Keeps κ σ (State.cmacOp s d) := by
  have k0 : Sub 128 κ := Sub.trans (by decide : 128 &&& 16777679 = 128) hκ
  have k1 : Sub 16777679 κ := Sub.trans (by decide : 16777679 &&& 16777679 = 16777679) hκ
  unfold State.cmacOp
  repeat' first
    | with_reducible assumption
    | with_reducible apply State.encTry_keeps k0
    | with_reducible apply State.finishBuf_keeps k1
    | dsimp -simprocs only
    | dsimp only
    | split

theorem State.gcmSeal_keeps {κ : Nat} {σ : State} {s : State} {d : Desc} (hκ : Sub 17826255 κ) (hσ : Keeps κ σ s) :
    Keeps κ σ (State.gcmSeal s d) := by
  have k0 : Sub 128 κ := Sub.trans (by decide : 128 &&& 17826255 = 128) hκ
  have k1 : Sub 1048576 κ := Sub.trans (by decide : 1048576 &&& 17826255 = 1048576) hκ
  have k2 : Sub 16777679 κ := Sub.trans (by decide : 16777679 &&& 17826255 = 16777679) hκ
  unfold State.gcmSeal
  repeat' first
    | with_reducible assumption
    | with_reducible apply State.encTry_keeps k0
    | with_reducible apply State.onEnc_keeps k1
    | with_reducible apply State.finishBuf_keeps k2
    | intro _
    | dsimp -simprocs only
    | dsimp only
    | split

theorem State.gcmOpen_keeps {κ : Nat} {σ : State} {s : State} {d : Desc} (hκ : Sub 16777679 κ) (hσ : Keeps κ σ s) :
    Keeps κ σ (State.gcmOpen s d) := by
  have k0 : Sub 128 κ := Sub.trans (by decide : 128 &&& 16777679 = 128) hκ
  have k1 : Sub 16777679 κ := Sub.trans (by decide : 16777679 &&& 16777679 = 16777679) hκ
  unfold State.gcmOpen
  repeat' first
    | with_reducible assumption
    | with_reducible apply State.encTry_keeps k0
    | with_reducible apply State.finishBuf_keeps k1
    | with_reducible apply ite_keeps
    | dsimp -simprocs only
    | dsimp only
    | split

theorem State.attest_keeps {κ : Nat} {σ : State} {s : State} {d : Desc} (hκ : Sub 17826255 κ) (hσ : Keeps κ σ s) :
    Keeps κ σ (State.attest s d) := by
  have k0 : Sub 128 κ := Sub.trans (by decide : 128 &&& 17826255 = 128) hκ
  have k1 : Sub 17826255 κ := Sub.trans (by decide : 17826255 &&& 17826255 = 17826255) hκ
  unfold State.attest
  repeat' first
    | with_reducible assumption
    | with_reducible apply State.encTry_keeps k0
    | with_reducible apply State.encBegin_keeps k1
    | dsimp -simprocs only
    | dsimp only
    | split

theorem State.debugChallenge_keeps {κ : Nat} {σ : State} {s : State} {d : Desc} (hκ : Sub 1048720 κ) (hσ : Keeps κ σ s) :
    Keeps κ σ (State.debugChallenge s d) := by
  have k0 : Sub 128 κ := Sub.trans (by decide : 128 &&& 1048720 = 128) hκ
  have k1 : Sub 1048576 κ := Sub.trans (by decide : 1048576 &&& 1048720 = 1048576) hκ
  have k2 : Sub 16 κ := Sub.trans (by decide : 16 &&& 1048720 = 16) hκ
  unfold State.debugChallenge
  repeat' first
    | with_reducible assumption
    | with_reducible apply State.encTry_keeps k0
    | with_reducible apply State.onEnc_keeps k1
    | with_reducible apply State.drawn_keeps k2
    | with_reducible apply State.finish_keeps k0
    | intro _

theorem State.withToken_keeps {κ : Nat} {σ : State} {s : State} {d : Desc} {kind : Nat} {k : State → State} (hκ : Sub 1048706 κ) (h_k : ∀ x0, Keeps κ σ x0 → Keeps κ σ (k x0)) (hσ : Keeps κ σ s) :
    Keeps κ σ (State.withToken s d kind k) := by
  have k0 : Sub 1048576 κ := Sub.trans (by decide : 1048576 &&& 1048706 = 1048576) hκ
  have k1 : Sub 2 κ := Sub.trans (by decide : 2 &&& 1048706 = 2) hκ
  have k2 : Sub 128 κ := Sub.trans (by decide : 128 &&& 1048706 = 128) hκ
  unfold State.withToken
  repeat' first
    | with_reducible assumption
    | with_reducible apply h_k
    | with_reducible apply State.onEnc_keeps k0
    | with_reducible apply State.count_keeps k1
    | with_reducible apply State.finish_keeps k2
    | with_reducible apply ite_keeps
    | intro _
    | dsimp -simprocs only
    | dsimp only

theorem State.debugOpen_keeps {κ : Nat} {σ : State} {s : State} {d : Desc} (hκ : Sub 1048715 κ) (hσ : Keeps κ σ s) :
    Keeps κ σ (State.debugOpen s d) := by
  have k0 : Sub 128 κ := Sub.trans (by decide : 128 &&& 1048715 = 128) hκ
  have k1 : Sub 1048706 κ := Sub.trans (by decide : 1048706 &&& 1048715 = 1048706) hκ
  have k2 : Sub 1048576 κ := Sub.trans (by decide : 1048576 &&& 1048715 = 1048576) hκ
  have k3 : Sub 1 κ := Sub.trans (by decide : 1 &&& 1048715 = 1) hκ
  have k4 : Sub 139 κ := Sub.trans (by decide : 139 &&& 1048715 = 139) hκ
  unfold State.debugOpen
  repeat' first
    | with_reducible assumption
    | with_reducible apply State.encTry_keeps k0
    | with_reducible apply State.withToken_keeps k1
    | with_reducible apply State.onEnc_keeps k2
    | with_reducible apply State.encShow_keeps k3
    | with_reducible apply State.raise_keeps k4
    | with_reducible apply State.finish_keeps k0
    | intro _

theorem State.revoke_keeps {κ : Nat} {σ : State} {s : State} {d : Desc} (hκ : Sub 1048715 κ) (hσ : Keeps κ σ s) :
    Keeps κ σ (State.revoke s d) := by
  have k0 : Sub 128 κ := Sub.trans (by decide : 128 &&& 1048715 = 128) hκ
  have k1 : Sub 1048706 κ := Sub.trans (by decide : 1048706 &&& 1048715 = 1048706) hκ
  have k2 : Sub 1 κ := Sub.trans (by decide : 1 &&& 1048715 = 1) hκ
  have k3 : Sub 139 κ := Sub.trans (by decide : 139 &&& 1048715 = 139) hκ
  unfold State.revoke
  repeat' first
    | with_reducible assumption
    | with_reducible apply State.encTry_keeps k0
    | with_reducible apply State.withToken_keeps k1
    | with_reducible apply State.put_keeps k2
    | with_reducible apply State.raise_keeps k3
    | with_reducible apply State.finish_keeps k0
    | with_reducible apply ite_keeps
    | intro _
    | dsimp -simprocs only
    | dsimp only

theorem State.custkeySet_keeps {κ : Nat} {σ : State} {s : State} {d : Desc} (hκ : Sub 17826255 κ) (hσ : Keeps κ σ s) :
    Keeps κ σ (State.custkeySet s d) := by
  have k0 : Sub 128 κ := Sub.trans (by decide : 128 &&& 17826255 = 128) hκ
  have k1 : Sub 17826255 κ := Sub.trans (by decide : 17826255 &&& 17826255 = 17826255) hκ
  unfold State.custkeySet
  repeat' first
    | with_reducible assumption
    | with_reducible apply State.encTry_keeps k0
    | with_reducible apply State.encBegin_keeps k1
    | dsimp -simprocs only
    | dsimp only
    | split

theorem State.enrol_keeps {κ : Nat} {σ : State} {s : State} {healthy : Bool} {d : Desc} (hκ : Sub 17826271 κ) (hσ : Keeps κ σ s) :
    Keeps κ σ (State.enrol s healthy d) := by
  have k0 : Sub 128 κ := Sub.trans (by decide : 128 &&& 17826271 = 128) hκ
  have k1 : Sub 1048706 κ := Sub.trans (by decide : 1048706 &&& 17826271 = 1048706) hκ
  have k2 : Sub 139 κ := Sub.trans (by decide : 139 &&& 17826271 = 139) hκ
  have k3 : Sub 17826255 κ := Sub.trans (by decide : 17826255 &&& 17826271 = 17826255) hκ
  have k4 : Sub 16 κ := Sub.trans (by decide : 16 &&& 17826271 = 16) hκ
  unfold State.enrol
  repeat' first
    | with_reducible assumption
    | with_reducible apply State.encTry_keeps k0
    | with_reducible apply State.withToken_keeps k1
    | with_reducible apply State.raise_keeps k2
    | with_reducible apply State.finish_keeps k0
    | with_reducible apply State.encBegin_keeps k3
    | with_reducible apply State.drawn_keeps k4
    | with_reducible apply ite_keeps
    | intro _
    | split

theorem State.enrolled_keeps {κ : Nat} {σ : State} {s : State} {d : Desc} {w : EncWork} (hκ : Sub 17826255 κ) (hσ : Keeps κ σ s) :
    Keeps κ σ (State.enrolled s d w) := by
  have k0 : Sub 1048576 κ := Sub.trans (by decide : 1048576 &&& 17826255 = 1048576) hκ
  have k1 : Sub 1 κ := Sub.trans (by decide : 1 &&& 17826255 = 1) hκ
  have k2 : Sub 139 κ := Sub.trans (by decide : 139 &&& 17826255 = 139) hκ
  have k3 : Sub 16777679 κ := Sub.trans (by decide : 16777679 &&& 17826255 = 16777679) hκ
  unfold State.enrolled
  repeat' first
    | with_reducible assumption
    | with_reducible apply State.dropWork_keeps k0
    | with_reducible apply State.setIdRec_keeps k0
    | with_reducible apply State.onEnc_keeps k0
    | with_reducible apply State.wr_keeps k1
    | with_reducible apply State.put_keeps k1
    | with_reducible apply State.encShow_keeps k1
    | with_reducible apply State.raise_keeps k2
    | with_reducible apply State.finishBuf_keeps k3
    | intro _
    | dsimp -simprocs only
    | dsimp only

theorem State.encStitch_keeps {κ : Nat} {σ : State} {s : State} {d : Desc} (hκ : Sub 17826271 κ) (hσ : Keeps κ σ s) :
    Keeps κ σ (State.encStitch s d) := by
  have k0 : Sub 128 κ := Sub.trans (by decide : 128 &&& 17826271 = 128) hκ
  have k1 : Sub 1048576 κ := Sub.trans (by decide : 1048576 &&& 17826271 = 1048576) hκ
  have k2 : Sub 16777679 κ := Sub.trans (by decide : 16777679 &&& 17826271 = 16777679) hκ
  have k3 : Sub 16 κ := Sub.trans (by decide : 16 &&& 17826271 = 16) hκ
  have k4 : Sub 1 κ := Sub.trans (by decide : 1 &&& 17826271 = 1) hκ
  have k5 : Sub 17826255 κ := Sub.trans (by decide : 17826255 &&& 17826271 = 17826255) hκ
  unfold State.encStitch
  repeat' first
    | with_reducible assumption
    | with_reducible apply State.updDesc_keeps k0
    | with_reducible apply State.dropWork_keeps k1
    | with_reducible apply State.finish_keeps k0
    | with_reducible apply State.setKeySlot_keeps k1
    | with_reducible apply State.finishBuf_keeps k2
    | with_reducible apply State.drawn_keeps k3
    | with_reducible apply State.setIdRec_keeps k1
    | with_reducible apply State.encShow_keeps k4
    | with_reducible apply State.stitched_keeps k2
    | with_reducible apply State.enrolled_keeps k5
    | with_reducible apply State.onEnc_keeps k1
    | with_reducible apply State.put_keeps k4
    | with_reducible apply ite_keeps
    | intro _
    | dsimp -simprocs only
    | dsimp only
    | split

theorem State.tear_keeps {κ : Nat} {σ : State} {s : State} {d : Desc} (hκ : Sub 16777679 κ) (hσ : Keeps κ σ s) :
    Keeps κ σ (State.tear s d) := by
  have k0 : Sub 16777679 κ := Sub.trans (by decide : 16777679 &&& 16777679 = 16777679) hκ
  have k1 : Sub 2 κ := Sub.trans (by decide : 2 &&& 16777679 = 2) hκ
  have k2 : Sub 139 κ := Sub.trans (by decide : 139 &&& 16777679 = 139) hκ
  have k3 : Sub 128 κ := Sub.trans (by decide : 128 &&& 16777679 = 128) hκ
  unfold State.tear
  repeat' first
    | with_reducible assumption
    | with_reducible apply State.fabWrite_keeps k0
    | with_reducible apply State.count_keeps k1
    | with_reducible apply State.raise_keeps k2
    | with_reducible apply State.finish_keeps k3
    | dsimp -simprocs only
    | dsimp only

theorem State.tamper_keeps {κ : Nat} {σ : State} {s : State} {src : Nat} (hκ : Sub 17826255 κ) (hσ : Keeps κ σ s) :
    Keeps κ σ (State.tamper s src) := by
  have k0 : Sub 2 κ := Sub.trans (by decide : 2 &&& 17826255 = 2) hκ
  have k1 : Sub 139 κ := Sub.trans (by decide : 139 &&& 17826255 = 139) hκ
  have k2 : Sub 128 κ := Sub.trans (by decide : 128 &&& 17826255 = 128) hκ
  have k3 : Sub 16777679 κ := Sub.trans (by decide : 16777679 &&& 17826255 = 16777679) hκ
  have k4 : Sub 1048576 κ := Sub.trans (by decide : 1048576 &&& 17826255 = 1048576) hκ
  have k5 : Sub 1 κ := Sub.trans (by decide : 1 &&& 17826255 = 1) hκ
  unfold State.tamper
  repeat' first
    | with_reducible assumption
    | with_reducible apply State.count_keeps k0
    | with_reducible apply State.raise_keeps k1
    | with_reducible apply State.finish_keeps k2
    | with_reducible apply State.tear_keeps k3
    | with_reducible apply State.onEnc_keeps k4
    | with_reducible apply State.wr_keeps k5
    | with_reducible apply State.put_keeps k5
    | with_reducible apply State.encShow_keeps k5
    | with_reducible apply ite_keeps
    | with_reducible refine forEach_keeps (fun _ _ _ => ?_) ?_
    | intro _
    | dsimp -simprocs only
    | dsimp only

theorem State.gwTorn_keeps {κ : Nat} {σ : State} {s : State} {rule : Option Nat} (hκ : Sub 139 κ) (hσ : Keeps κ σ s) :
    Keeps κ σ (State.gwTorn s rule) := by
  have k0 : Sub 2 κ := Sub.trans (by decide : 2 &&& 139 = 2) hκ
  have k1 : Sub 139 κ := Sub.trans (by decide : 139 &&& 139 = 139) hκ
  have k2 : Sub 1 κ := Sub.trans (by decide : 1 &&& 139 = 1) hκ
  unfold State.gwTorn
  repeat' first
    | with_reducible assumption
    | with_reducible apply State.count_keeps k0
    | with_reducible apply State.raise_keeps k1
    | with_reducible apply State.put_keeps k2
    | dsimp -simprocs only
    | dsimp only
    | split

theorem execTamperAssert_keeps {κ : Nat} {σ : State} {src : Nat} {torn : Option Nat} {s : State} (hκ : Sub 17826255 κ) (hσ : Keeps κ σ s) :
    NextKeeps κ σ (execTamperAssert src torn s) := by
  have k0 : Sub 1048576 κ := Sub.trans (by decide : 1048576 &&& 17826255 = 1048576) hκ
  have k1 : Sub 17826255 κ := Sub.trans (by decide : 17826255 &&& 17826255 = 17826255) hκ
  have k2 : Sub 139 κ := Sub.trans (by decide : 139 &&& 17826255 = 139) hκ
  unfold execTamperAssert
  repeat' first
    | with_reducible assumption
    | with_reducible apply next_keeps
    | with_reducible apply ite_next_keeps
    | with_reducible apply State.onEnc_keeps k0
    | with_reducible apply State.tamper_keeps k1
    | with_reducible apply State.gwTorn_keeps k2
    | with_reducible apply ite_keeps
    | intro _

theorem execChallengeExpiry_keeps {κ : Nat} {σ : State} {s : State} (hκ : Sub 1048576 κ) (hσ : Keeps κ σ s) :
    NextKeeps κ σ (execChallengeExpiry s) := by
  have k0 : Sub 1048576 κ := Sub.trans (by decide : 1048576 &&& 1048576 = 1048576) hκ
  unfold execChallengeExpiry
  repeat' first
    | with_reducible assumption
    | with_reducible apply next_keeps
    | with_reducible apply ite_next_keeps
    | with_reducible apply State.onEnc_keeps k0
    | with_reducible apply ite_keeps
    | intro _
    | split

theorem execKeyGenerate_keeps {κ : Nat} {σ : State} {r : Nat} {healthy : Bool} {s : State} (hκ : Sub 1048731 κ) (hσ : Keeps κ σ s) :
    NextKeeps κ σ (execKeyGenerate r healthy s) := by
  have k0 : Sub 0 κ := Sub.trans (by decide : 0 &&& 1048731 = 0) hκ
  have k1 : Sub 1048731 κ := Sub.trans (by decide : 1048731 &&& 1048731 = 1048731) hκ
  unfold execKeyGenerate
  repeat' first
    | with_reducible assumption
    | with_reducible apply next_keeps
    | with_reducible apply ite_next_keeps
    | with_reducible apply State.withOp_keeps k0
    | with_reducible apply State.keyGenerate_keeps k1
    | intro _

theorem execKeyDerive_keeps {κ : Nat} {σ : State} {r : Nat} {s : State} (hκ : Sub 17826255 κ) (hσ : Keeps κ σ s) :
    NextKeeps κ σ (execKeyDerive r s) := by
  have k0 : Sub 0 κ := Sub.trans (by decide : 0 &&& 17826255 = 0) hκ
  have k1 : Sub 17826255 κ := Sub.trans (by decide : 17826255 &&& 17826255 = 17826255) hκ
  unfold execKeyDerive
  repeat' first
    | with_reducible assumption
    | with_reducible apply next_keeps
    | with_reducible apply ite_next_keeps
    | with_reducible apply State.withOp_keeps k0
    | with_reducible apply State.keyDerive_keeps k1
    | intro _

theorem execKeyImport_keeps {κ : Nat} {σ : State} {r : Nat} {s : State} (hκ : Sub 1048704 κ) (hσ : Keeps κ σ s) :
    NextKeeps κ σ (execKeyImport r s) := by
  have k0 : Sub 0 κ := Sub.trans (by decide : 0 &&& 1048704 = 0) hκ
  have k1 : Sub 1048704 κ := Sub.trans (by decide : 1048704 &&& 1048704 = 1048704) hκ
  unfold execKeyImport
  repeat' first
    | with_reducible assumption
    | with_reducible apply next_keeps
    | with_reducible apply ite_next_keeps
    | with_reducible apply State.withOp_keeps k0
    | with_reducible apply State.keyImport_keeps k1
    | intro _

theorem execKeyErase_keeps {κ : Nat} {σ : State} {r : Nat} {s : State} (hκ : Sub 1048704 κ) (hσ : Keeps κ σ s) :
    NextKeeps κ σ (execKeyErase r s) := by
  have k0 : Sub 0 κ := Sub.trans (by decide : 0 &&& 1048704 = 0) hκ
  have k1 : Sub 1048704 κ := Sub.trans (by decide : 1048704 &&& 1048704 = 1048704) hκ
  unfold execKeyErase
  repeat' first
    | with_reducible assumption
    | with_reducible apply next_keeps
    | with_reducible apply ite_next_keeps
    | with_reducible apply State.withOp_keeps k0
    | with_reducible apply State.keyErase_keeps k1
    | intro _

theorem execPubkeyRead_keeps {κ : Nat} {σ : State} {r : Nat} {s : State} (hκ : Sub 16777679 κ) (hσ : Keeps κ σ s) :
    NextKeeps κ σ (execPubkeyRead r s) := by
  have k0 : Sub 0 κ := Sub.trans (by decide : 0 &&& 16777679 = 0) hκ
  have k1 : Sub 16777679 κ := Sub.trans (by decide : 16777679 &&& 16777679 = 16777679) hκ
  unfold execPubkeyRead
  repeat' first
    | with_reducible assumption
    | with_reducible apply next_keeps
    | with_reducible apply ite_next_keeps
    | with_reducible apply State.withOp_keeps k0
    | with_reducible apply State.pubkeyRead_keeps k1
    | intro _

theorem execSign_keeps {κ : Nat} {σ : State} {r : Nat} {s : State} (hκ : Sub 17826255 κ) (hσ : Keeps κ σ s) :
    NextKeeps κ σ (execSign r s) := by
  have k0 : Sub 0 κ := Sub.trans (by decide : 0 &&& 17826255 = 0) hκ
  have k1 : Sub 17826255 κ := Sub.trans (by decide : 17826255 &&& 17826255 = 17826255) hκ
  unfold execSign
  repeat' first
    | with_reducible assumption
    | with_reducible apply next_keeps
    | with_reducible apply ite_next_keeps
    | with_reducible apply State.withOp_keeps k0
    | with_reducible apply State.signOp_keeps k1
    | intro _

theorem execVerify_keeps {κ : Nat} {σ : State} {r : Nat} {s : State} (hκ : Sub 17826255 κ) (hσ : Keeps κ σ s) :
    NextKeeps κ σ (execVerify r s) := by
  have k0 : Sub 0 κ := Sub.trans (by decide : 0 &&& 17826255 = 0) hκ
  have k1 : Sub 17826255 κ := Sub.trans (by decide : 17826255 &&& 17826255 = 17826255) hκ
  unfold execVerify
  repeat' first
    | with_reducible assumption
    | with_reducible apply next_keeps
    | with_reducible apply ite_next_keeps
    | with_reducible apply State.withOp_keeps k0
    | with_reducible apply State.verifyOp_keeps k1
    | intro _

theorem execCmac_keeps {κ : Nat} {σ : State} {r : Nat} {s : State} (hκ : Sub 16777679 κ) (hσ : Keeps κ σ s) :
    NextKeeps κ σ (execCmac r s) := by
  have k0 : Sub 0 κ := Sub.trans (by decide : 0 &&& 16777679 = 0) hκ
  have k1 : Sub 16777679 κ := Sub.trans (by decide : 16777679 &&& 16777679 = 16777679) hκ
  unfold execCmac
  repeat' first
    | with_reducible assumption
    | with_reducible apply next_keeps
    | with_reducible apply ite_next_keeps
    | with_reducible apply State.withOp_keeps k0
    | with_reducible apply State.cmacOp_keeps k1
    | intro _

theorem execGcmSeal_keeps {κ : Nat} {σ : State} {r : Nat} {s : State} (hκ : Sub 17826255 κ) (hσ : Keeps κ σ s) :
    NextKeeps κ σ (execGcmSeal r s) := by
  have k0 : Sub 0 κ := Sub.trans (by decide : 0 &&& 17826255 = 0) hκ
  have k1 : Sub 17826255 κ := Sub.trans (by decide : 17826255 &&& 17826255 = 17826255) hκ
  unfold execGcmSeal
  repeat' first
    | with_reducible assumption
    | with_reducible apply next_keeps
    | with_reducible apply ite_next_keeps
    | with_reducible apply State.withOp_keeps k0
    | with_reducible apply State.gcmSeal_keeps k1
    | intro _

theorem execGcmOpen_keeps {κ : Nat} {σ : State} {r : Nat} {s : State} (hκ : Sub 16777679 κ) (hσ : Keeps κ σ s) :
    NextKeeps κ σ (execGcmOpen r s) := by
  have k0 : Sub 0 κ := Sub.trans (by decide : 0 &&& 16777679 = 0) hκ
  have k1 : Sub 16777679 κ := Sub.trans (by decide : 16777679 &&& 16777679 = 16777679) hκ
  unfold execGcmOpen
  repeat' first
    | with_reducible assumption
    | with_reducible apply next_keeps
    | with_reducible apply ite_next_keeps
    | with_reducible apply State.withOp_keeps k0
    | with_reducible apply State.gcmOpen_keeps k1
    | intro _

theorem execAttest_keeps {κ : Nat} {σ : State} {r : Nat} {s : State} (hκ : Sub 17826255 κ) (hσ : Keeps κ σ s) :
    NextKeeps κ σ (execAttest r s) := by
  have k0 : Sub 0 κ := Sub.trans (by decide : 0 &&& 17826255 = 0) hκ
  have k1 : Sub 17826255 κ := Sub.trans (by decide : 17826255 &&& 17826255 = 17826255) hκ
  unfold execAttest
  repeat' first
    | with_reducible assumption
    | with_reducible apply next_keeps
    | with_reducible apply ite_next_keeps
    | with_reducible apply State.withOp_keeps k0
    | with_reducible apply State.attest_keeps k1
    | intro _

theorem execDebugChallenge_keeps {κ : Nat} {σ : State} {r : Nat} {s : State} (hκ : Sub 1048720 κ) (hσ : Keeps κ σ s) :
    NextKeeps κ σ (execDebugChallenge r s) := by
  have k0 : Sub 0 κ := Sub.trans (by decide : 0 &&& 1048720 = 0) hκ
  have k1 : Sub 1048720 κ := Sub.trans (by decide : 1048720 &&& 1048720 = 1048720) hκ
  unfold execDebugChallenge
  repeat' first
    | with_reducible assumption
    | with_reducible apply next_keeps
    | with_reducible apply ite_next_keeps
    | with_reducible apply State.withOp_keeps k0
    | with_reducible apply State.debugChallenge_keeps k1
    | intro _

theorem execDebugOpen_keeps {κ : Nat} {σ : State} {r : Nat} {s : State} (hκ : Sub 1048715 κ) (hσ : Keeps κ σ s) :
    NextKeeps κ σ (execDebugOpen r s) := by
  have k0 : Sub 0 κ := Sub.trans (by decide : 0 &&& 1048715 = 0) hκ
  have k1 : Sub 1048715 κ := Sub.trans (by decide : 1048715 &&& 1048715 = 1048715) hκ
  unfold execDebugOpen
  repeat' first
    | with_reducible assumption
    | with_reducible apply next_keeps
    | with_reducible apply ite_next_keeps
    | with_reducible apply State.withOp_keeps k0
    | with_reducible apply State.debugOpen_keeps k1
    | intro _

theorem execEnrol_keeps {κ : Nat} {σ : State} {r : Nat} {healthy : Bool} {s : State} (hκ : Sub 17826271 κ) (hσ : Keeps κ σ s) :
    NextKeeps κ σ (execEnrol r healthy s) := by
  have k0 : Sub 0 κ := Sub.trans (by decide : 0 &&& 17826271 = 0) hκ
  have k1 : Sub 17826271 κ := Sub.trans (by decide : 17826271 &&& 17826271 = 17826271) hκ
  unfold execEnrol
  repeat' first
    | with_reducible assumption
    | with_reducible apply next_keeps
    | with_reducible apply ite_next_keeps
    | with_reducible apply State.withOp_keeps k0
    | with_reducible apply State.enrol_keeps k1
    | intro _

theorem execRevoke_keeps {κ : Nat} {σ : State} {r : Nat} {s : State} (hκ : Sub 1048715 κ) (hσ : Keeps κ σ s) :
    NextKeeps κ σ (execRevoke r s) := by
  have k0 : Sub 0 κ := Sub.trans (by decide : 0 &&& 1048715 = 0) hκ
  have k1 : Sub 1048715 κ := Sub.trans (by decide : 1048715 &&& 1048715 = 1048715) hκ
  unfold execRevoke
  repeat' first
    | with_reducible assumption
    | with_reducible apply next_keeps
    | with_reducible apply ite_next_keeps
    | with_reducible apply State.withOp_keeps k0
    | with_reducible apply State.revoke_keeps k1
    | intro _

theorem execCustkeySet_keeps {κ : Nat} {σ : State} {r : Nat} {s : State} (hκ : Sub 17826255 κ) (hσ : Keeps κ σ s) :
    NextKeeps κ σ (execCustkeySet r s) := by
  have k0 : Sub 0 κ := Sub.trans (by decide : 0 &&& 17826255 = 0) hκ
  have k1 : Sub 17826255 κ := Sub.trans (by decide : 17826255 &&& 17826255 = 17826255) hκ
  unfold execCustkeySet
  repeat' first
    | with_reducible assumption
    | with_reducible apply next_keeps
    | with_reducible apply ite_next_keeps
    | with_reducible apply State.withOp_keeps k0
    | with_reducible apply State.custkeySet_keeps k1
    | intro _

end Sys2Proof.Machine
end

