-- ==== Sys2Proof/Laws/KeepsGateway.lean ====
section
/-! SUPPORT. What each operation of Machine/Gateway may do to State. -/
namespace Sys2Proof.Machine

theorem State.gwNoMatch_keeps {κ : Nat} {σ : State} {s : State} (hκ : Sub 139 κ) (hσ : Keeps κ σ s) :
    Keeps κ σ (State.gwNoMatch s) := by
  have k0 : Sub 2 κ := Sub.trans (by decide : 2 &&& 139 = 2) hκ
  have k1 : Sub 139 κ := Sub.trans (by decide : 139 &&& 139 = 139) hκ
  unfold State.gwNoMatch
  repeat' first
    | with_reducible assumption
    | with_reducible apply State.count_keeps k0
    | with_reducible apply State.raise_keeps k1

theorem State.acfMessage_keeps {κ : Nat} {σ : State} {s : State} {h : Nat} {b : Bytes} (hκ : Sub 19138527 κ) (hσ : Keeps κ σ s) :
    Keeps κ σ (State.acfMessage s h b) := by
  have k0 : Sub 139 κ := Sub.trans (by decide : 139 &&& 19138527 = 139) hκ
  have k1 : Sub 19138527 κ := Sub.trans (by decide : 19138527 &&& 19138527 = 19138527) hκ
  have k2 : Sub 16 κ := Sub.trans (by decide : 16 &&& 19138527 = 16) hκ
  unfold State.acfMessage
  repeat' first
    | with_reducible assumption
    | with_reducible apply State.gwNoMatch_keeps k0
    | with_reducible apply State.gateway_keeps k1
    | with_reducible apply State.drawn_keeps k2
    | with_reducible apply ite_keeps
    | dsimp -simprocs only
    | dsimp only
    | split

theorem State.acfAll_keeps {κ : Nat} {σ : State} {h : Nat} {a0 : Nat} {a1 : Bytes} {a2 : State} (hκ : Sub 19138527 κ) (hσ : Keeps κ σ a2) :
    Keeps κ σ (State.acfAll h a0 a1 a2) := by
  have k0 : Sub 19138527 κ := Sub.trans (by decide : 19138527 &&& 19138527 = 19138527) hκ
  fun_induction State.acfAll h a0 a1 a2
  all_goals repeat' first
    | with_reducible assumption
    | with_reducible apply State.acfMessage_keeps k0
    | with_reducible apply ite_keeps
    | dsimp -simprocs only
    | dsimp only
    | split
    | with_reducible apply_assumption

theorem State.acfSeq_keeps {κ : Nat} {σ : State} {s : State} {h n : Nat} (hκ : Sub 2097154 κ) (hσ : Keeps κ σ s) :
    Keeps κ σ (State.acfSeq s h n) := by
  have k0 : Sub 2097152 κ := Sub.trans (by decide : 2097152 &&& 2097154 = 2097152) hκ
  have k1 : Sub 2 κ := Sub.trans (by decide : 2 &&& 2097154 = 2) hκ
  unfold State.acfSeq
  repeat' first
    | with_reducible assumption
    | with_reducible apply State.onGwy_keeps k0
    | with_reducible apply State.count_keeps k1
    | with_reducible apply ite_keeps
    | intro _
    | dsimp -simprocs only
    | dsimp only
    | split

theorem State.gwEthFrame_keeps {κ : Nat} {σ : State} {s : State} {h : Nat} {b : Bytes} (hκ : Sub 19138527 κ) (hσ : Keeps κ σ s) :
    Keeps κ σ (State.gwEthFrame s h b) := by
  have k0 : Sub 19138527 κ := Sub.trans (by decide : 19138527 &&& 19138527 = 19138527) hκ
  have k1 : Sub 2097154 κ := Sub.trans (by decide : 2097154 &&& 19138527 = 2097154) hκ
  unfold State.gwEthFrame
  repeat' first
    | with_reducible assumption
    | with_reducible apply State.acfAll_keeps k0
    | with_reducible apply State.acfSeq_keeps k1
    | with_reducible apply ite_keeps
    | dsimp -simprocs only
    | dsimp only
    | split

theorem execGatewayEthFrame_keeps {κ : Nat} {σ : State} {s : State} (hκ : Sub 19138527 κ) (hσ : Keeps κ σ s) :
    NextKeeps κ σ (execGatewayEthFrame s) := by
  have k0 : Sub 512 κ := Sub.trans (by decide : 512 &&& 19138527 = 512) hκ
  have k1 : Sub 19138527 κ := Sub.trans (by decide : 19138527 &&& 19138527 = 19138527) hκ
  unfold execGatewayEthFrame
  repeat' first
    | with_reducible assumption
    | with_reducible apply next_keeps
    | with_reducible apply ite_next_keeps
    | with_reducible apply State.onSwc_keeps k0
    | with_reducible apply State.gwEthFrame_keeps k1
    | intro _
    | split

theorem execRateHoldRelease_keeps {κ : Nat} {σ : State} {rule : Nat} {s : State} (hκ : Sub 19138527 κ) (hσ : Keeps κ σ s) :
    NextKeeps κ σ (execRateHoldRelease rule s) := by
  have k0 : Sub 19138527 κ := Sub.trans (by decide : 19138527 &&& 19138527 = 19138527) hκ
  unfold execRateHoldRelease
  repeat' first
    | with_reducible assumption
    | with_reducible apply next_keeps
    | with_reducible apply ite_next_keeps
    | with_reducible apply State.gwRelease_keeps k0

theorem State.gwMapTmo_keeps {κ : Nat} {σ : State} {s : State} {i : Nat} (hκ : Sub 2097291 κ) (hσ : Keeps κ σ s) :
    Keeps κ σ (State.gwMapTmo s i) := by
  have k0 : Sub 2097152 κ := Sub.trans (by decide : 2097152 &&& 2097291 = 2097152) hκ
  have k1 : Sub 2 κ := Sub.trans (by decide : 2 &&& 2097291 = 2) hκ
  have k2 : Sub 139 κ := Sub.trans (by decide : 139 &&& 2097291 = 139) hκ
  unfold State.gwMapTmo
  repeat' first
    | with_reducible assumption
    | with_reducible apply State.setGwMap_keeps k0
    | with_reducible apply State.setGwPdu_keeps k0
    | with_reducible apply State.count_keeps k1
    | with_reducible apply State.raise_keeps k2
    | with_reducible apply ite_keeps
    | dsimp -simprocs only
    | dsimp only

theorem execMapTimeout_keeps {κ : Nat} {σ : State} {k : Nat} {s : State} (hκ : Sub 2097291 κ) (hσ : Keeps κ σ s) :
    NextKeeps κ σ (execMapTimeout k s) := by
  have k0 : Sub 2097291 κ := Sub.trans (by decide : 2097291 &&& 2097291 = 2097291) hκ
  unfold execMapTimeout
  repeat' first
    | with_reducible assumption
    | with_reducible apply next_keeps
    | with_reducible apply ite_next_keeps
    | with_reducible apply State.gwMapTmo_keeps k0
    | with_reducible apply ite_keeps
    | dsimp -simprocs only
    | dsimp only

theorem execPduPeriodicSend_keeps {κ : Nat} {σ : State} {k : Nat} {s : State} (hκ : Sub 19138527 κ) (hσ : Keeps κ σ s) :
    NextKeeps κ σ (execPduPeriodicSend k s) := by
  have k0 : Sub 2097152 κ := Sub.trans (by decide : 2097152 &&& 19138527 = 2097152) hκ
  have k1 : Sub 19138527 κ := Sub.trans (by decide : 19138527 &&& 19138527 = 19138527) hκ
  unfold execPduPeriodicSend
  repeat' first
    | with_reducible assumption
    | with_reducible apply next_keeps
    | with_reducible apply ite_next_keeps
    | with_reducible apply State.setGwPdu_keeps k0
    | with_reducible apply State.gwSendPdu_keeps k1
    | with_reducible apply ite_keeps
    | dsimp -simprocs only
    | dsimp only

theorem execNtscfBatchTimeout_keeps {κ : Nat} {σ : State} {t : Nat} {s : State} (hκ : Sub 2098891 κ) (hσ : Keeps κ σ s) :
    NextKeeps κ σ (execNtscfBatchTimeout t s) := by
  have k0 : Sub 2098891 κ := Sub.trans (by decide : 2098891 &&& 2098891 = 2098891) hκ
  unfold execNtscfBatchTimeout
  repeat' first
    | with_reducible assumption
    | with_reducible apply next_keeps
    | with_reducible apply ite_next_keeps
    | with_reducible apply State.gwFlush_keeps k0
    | with_reducible apply ite_keeps
    | dsimp -simprocs only
    | dsimp only

theorem execGwRecvHoldTimeout_keeps {κ : Nat} {σ : State} {r : Nat} {s : State} (hκ : Sub 128 κ) (hσ : Keeps κ σ s) :
    NextKeeps κ σ (execGwRecvHoldTimeout r s) := by
  have k0 : Sub 128 κ := Sub.trans (by decide : 128 &&& 128 = 128) hκ
  unfold execGwRecvHoldTimeout
  repeat' first
    | with_reducible assumption
    | with_reducible apply next_keeps
    | with_reducible apply ite_next_keeps
    | with_reducible apply State.recvEnd_keeps k0
    | with_reducible apply ite_keeps
    | split

theorem State.gwCfg_keeps {κ : Nat} {σ : State} {s : State} {d : Desc} {k : State} (hκ : Sub 128 κ) (h_k : Keeps κ σ k) (hσ : Keeps κ σ s) :
    Keeps κ σ (State.gwCfg s d k) := by
  have k0 : Sub 128 κ := Sub.trans (by decide : 128 &&& 128 = 128) hκ
  unfold State.gwCfg
  repeat' first
    | with_reducible assumption
    | with_reducible apply h_k
    | with_reducible apply State.finish_keeps k0
    | with_reducible apply ite_keeps

theorem State.ruleSet_keeps {κ : Nat} {σ : State} {s : State} {d : Desc} (hκ : Sub 2097280 κ) (hσ : Keeps κ σ s) :
    Keeps κ σ (State.ruleSet s d) := by
  have k0 : Sub 128 κ := Sub.trans (by decide : 128 &&& 2097280 = 128) hκ
  have k1 : Sub 2097152 κ := Sub.trans (by decide : 2097152 &&& 2097280 = 2097152) hκ
  unfold State.ruleSet
  repeat' first
    | with_reducible assumption
    | with_reducible apply State.gwCfg_keeps k0
    | with_reducible apply State.finish_keeps k0
    | with_reducible apply State.setGwRule_keeps k1
    | with_reducible apply ite_keeps
    | dsimp -simprocs only
    | dsimp only
    | split

theorem State.mapStitch_keeps {κ : Nat} {σ : State} {s : State} {d : Desc} (hκ : Sub 18874831 κ) (hσ : Keeps κ σ s) :
    Keeps κ σ (State.mapStitch s d) := by
  have k0 : Sub 2097152 κ := Sub.trans (by decide : 2097152 &&& 18874831 = 2097152) hκ
  have k1 : Sub 128 κ := Sub.trans (by decide : 128 &&& 18874831 = 128) hκ
  have k2 : Sub 16777679 κ := Sub.trans (by decide : 16777679 &&& 18874831 = 16777679) hκ
  unfold State.mapStitch
  repeat' first
    | with_reducible assumption
    | with_reducible apply State.setGwMap_keeps k0
    | with_reducible apply State.lastStitch_keeps k1
    | with_reducible apply State.stitched_keeps k2
    | with_reducible apply ite_keeps
    | with_reducible refine forEach_keeps (fun _ _ _ => ?_) ?_
    | dsimp -simprocs only
    | dsimp only

theorem State.mapLoad_keeps {κ : Nat} {σ : State} {s : State} {d : Desc} (hκ : Sub 18874831 κ) (hσ : Keeps κ σ s) :
    Keeps κ σ (State.mapLoad s d) := by
  have k0 : Sub 128 κ := Sub.trans (by decide : 128 &&& 18874831 = 128) hκ
  have k1 : Sub 18874831 κ := Sub.trans (by decide : 18874831 &&& 18874831 = 18874831) hκ
  unfold State.mapLoad
  repeat' first
    | with_reducible assumption
    | with_reducible apply State.gwCfg_keeps k0
    | with_reducible apply State.finish_keeps k0
    | with_reducible apply State.mapStitch_keeps k1
    | with_reducible apply ite_keeps
    | dsimp -simprocs only
    | dsimp only
    | split

theorem State.pduSet_keeps {κ : Nat} {σ : State} {s : State} {d : Desc} (hκ : Sub 2097280 κ) (hσ : Keeps κ σ s) :
    Keeps κ σ (State.pduSet s d) := by
  have k0 : Sub 128 κ := Sub.trans (by decide : 128 &&& 2097280 = 128) hκ
  have k1 : Sub 2097152 κ := Sub.trans (by decide : 2097152 &&& 2097280 = 2097152) hκ
  unfold State.pduSet
  repeat' first
    | with_reducible assumption
    | with_reducible apply State.gwCfg_keeps k0
    | with_reducible apply State.finish_keeps k0
    | with_reducible apply State.setGwPdu_keeps k1
    | with_reducible apply ite_keeps
    | dsimp -simprocs only
    | dsimp only
    | split

theorem State.templateSet_keeps {κ : Nat} {σ : State} {s : State} {d : Desc} (hκ : Sub 2098891 κ) (hσ : Keeps κ σ s) :
    Keeps κ σ (State.templateSet s d) := by
  have k0 : Sub 128 κ := Sub.trans (by decide : 128 &&& 2098891 = 128) hκ
  have k1 : Sub 2098891 κ := Sub.trans (by decide : 2098891 &&& 2098891 = 2098891) hκ
  have k2 : Sub 2097152 κ := Sub.trans (by decide : 2097152 &&& 2098891 = 2097152) hκ
  unfold State.templateSet
  repeat' first
    | with_reducible assumption
    | with_reducible apply State.gwCfg_keeps k0
    | with_reducible apply State.finish_keeps k0
    | with_reducible apply State.gwFlush_keeps k1
    | with_reducible apply State.setGwTmpl_keeps k2
    | with_reducible apply ite_keeps
    | dsimp -simprocs only
    | dsimp only
    | split

theorem State.freshSet_keeps {κ : Nat} {σ : State} {s : State} {d : Desc} (hκ : Sub 2097280 κ) (hσ : Keeps κ σ s) :
    Keeps κ σ (State.freshSet s d) := by
  have k0 : Sub 128 κ := Sub.trans (by decide : 128 &&& 2097280 = 128) hκ
  have k1 : Sub 2097152 κ := Sub.trans (by decide : 2097152 &&& 2097280 = 2097152) hκ
  unfold State.freshSet
  repeat' first
    | with_reducible assumption
    | with_reducible apply State.gwCfg_keeps k0
    | with_reducible apply State.finish_keeps k0
    | with_reducible apply State.setGwFresh_keeps k1
    | with_reducible apply ite_keeps
    | dsimp -simprocs only
    | dsimp only
    | split

theorem State.ruleRead_keeps {κ : Nat} {σ : State} {s : State} {d : Desc} (hκ : Sub 18874831 κ) (hσ : Keeps κ σ s) :
    Keeps κ σ (State.ruleRead s d) := by
  have k0 : Sub 128 κ := Sub.trans (by decide : 128 &&& 18874831 = 128) hκ
  have k1 : Sub 2097152 κ := Sub.trans (by decide : 2097152 &&& 18874831 = 2097152) hκ
  have k2 : Sub 16777679 κ := Sub.trans (by decide : 16777679 &&& 18874831 = 16777679) hκ
  unfold State.ruleRead
  repeat' first
    | with_reducible assumption
    | with_reducible apply State.finish_keeps k0
    | with_reducible apply State.setGwRule_keeps k1
    | with_reducible apply State.finishBuf_keeps k2
    | with_reducible apply ite_keeps
    | dsimp -simprocs only
    | dsimp only
    | split

theorem execRuleSet_keeps {κ : Nat} {σ : State} {r : Nat} {s : State} (hκ : Sub 2097280 κ) (hσ : Keeps κ σ s) :
    NextKeeps κ σ (execRuleSet r s) := by
  have k0 : Sub 0 κ := Sub.trans (by decide : 0 &&& 2097280 = 0) hκ
  have k1 : Sub 2097280 κ := Sub.trans (by decide : 2097280 &&& 2097280 = 2097280) hκ
  unfold execRuleSet
  repeat' first
    | with_reducible assumption
    | with_reducible apply next_keeps
    | with_reducible apply ite_next_keeps
    | with_reducible apply State.withOp_keeps k0
    | with_reducible apply State.ruleSet_keeps k1
    | intro _

theorem execMapLoad_keeps {κ : Nat} {σ : State} {r : Nat} {s : State} (hκ : Sub 18874831 κ) (hσ : Keeps κ σ s) :
    NextKeeps κ σ (execMapLoad r s) := by
  have k0 : Sub 0 κ := Sub.trans (by decide : 0 &&& 18874831 = 0) hκ
  have k1 : Sub 18874831 κ := Sub.trans (by decide : 18874831 &&& 18874831 = 18874831) hκ
  unfold execMapLoad
  repeat' first
    | with_reducible assumption
    | with_reducible apply next_keeps
    | with_reducible apply ite_next_keeps
    | with_reducible apply State.withOp_keeps k0
    | with_reducible apply State.mapLoad_keeps k1
    | intro _

theorem execPduSet_keeps {κ : Nat} {σ : State} {r : Nat} {s : State} (hκ : Sub 2097280 κ) (hσ : Keeps κ σ s) :
    NextKeeps κ σ (execPduSet r s) := by
  have k0 : Sub 0 κ := Sub.trans (by decide : 0 &&& 2097280 = 0) hκ
  have k1 : Sub 2097280 κ := Sub.trans (by decide : 2097280 &&& 2097280 = 2097280) hκ
  unfold execPduSet
  repeat' first
    | with_reducible assumption
    | with_reducible apply next_keeps
    | with_reducible apply ite_next_keeps
    | with_reducible apply State.withOp_keeps k0
    | with_reducible apply State.pduSet_keeps k1
    | intro _

theorem execTemplateSet_keeps {κ : Nat} {σ : State} {r : Nat} {s : State} (hκ : Sub 2098891 κ) (hσ : Keeps κ σ s) :
    NextKeeps κ σ (execTemplateSet r s) := by
  have k0 : Sub 0 κ := Sub.trans (by decide : 0 &&& 2098891 = 0) hκ
  have k1 : Sub 2098891 κ := Sub.trans (by decide : 2098891 &&& 2098891 = 2098891) hκ
  unfold execTemplateSet
  repeat' first
    | with_reducible assumption
    | with_reducible apply next_keeps
    | with_reducible apply ite_next_keeps
    | with_reducible apply State.withOp_keeps k0
    | with_reducible apply State.templateSet_keeps k1
    | intro _

theorem execFreshSet_keeps {κ : Nat} {σ : State} {r : Nat} {s : State} (hκ : Sub 2097280 κ) (hσ : Keeps κ σ s) :
    NextKeeps κ σ (execFreshSet r s) := by
  have k0 : Sub 0 κ := Sub.trans (by decide : 0 &&& 2097280 = 0) hκ
  have k1 : Sub 2097280 κ := Sub.trans (by decide : 2097280 &&& 2097280 = 2097280) hκ
  unfold execFreshSet
  repeat' first
    | with_reducible assumption
    | with_reducible apply next_keeps
    | with_reducible apply ite_next_keeps
    | with_reducible apply State.withOp_keeps k0
    | with_reducible apply State.freshSet_keeps k1
    | intro _

theorem execGwRecv_keeps {κ : Nat} {σ : State} {r : Nat} {s : State} (hκ : Sub 128 κ) (hσ : Keeps κ σ s) :
    NextKeeps κ σ (execGwRecv r s) := by
  have k0 : Sub 0 κ := Sub.trans (by decide : 0 &&& 128 = 0) hκ
  have k1 : Sub 128 κ := Sub.trans (by decide : 128 &&& 128 = 128) hκ
  unfold execGwRecv
  repeat' first
    | with_reducible assumption
    | with_reducible apply next_keeps
    | with_reducible apply ite_next_keeps
    | with_reducible apply State.withOp_keeps k0
    | with_reducible apply State.finish_keeps k1
    | with_reducible apply State.hold_keeps k1
    | with_reducible apply ite_keeps
    | intro _

theorem execRuleRead_keeps {κ : Nat} {σ : State} {r : Nat} {s : State} (hκ : Sub 18874831 κ) (hσ : Keeps κ σ s) :
    NextKeeps κ σ (execRuleRead r s) := by
  have k0 : Sub 0 κ := Sub.trans (by decide : 0 &&& 18874831 = 0) hκ
  have k1 : Sub 18874831 κ := Sub.trans (by decide : 18874831 &&& 18874831 = 18874831) hκ
  unfold execRuleRead
  repeat' first
    | with_reducible assumption
    | with_reducible apply next_keeps
    | with_reducible apply ite_next_keeps
    | with_reducible apply State.withOp_keeps k0
    | with_reducible apply State.ruleRead_keeps k1
    | intro _

end Sys2Proof.Machine
end

