-- ==== Sys2Proof/Laws/KeepsLdc.lean ====
section
/-! SUPPORT. What each operation of Machine/Ldc may do to State. -/
namespace Sys2Proof.Machine

theorem State.recordCmd_keeps {κ : Nat} {σ : State} {s : State} {l cmd duty : Nat} (hκ : Sub 196609 κ) (hσ : Keeps κ σ s) :
    Keeps κ σ (State.recordCmd s l cmd duty) := by
  have k0 : Sub 131072 κ := Sub.trans (by decide : 131072 &&& 196609 = 131072) hκ
  have k1 : Sub 1 κ := Sub.trans (by decide : 1 &&& 196609 = 1) hκ
  have k2 : Sub 65536 κ := Sub.trans (by decide : 65536 &&& 196609 = 65536) hκ
  unfold State.recordCmd
  repeat' first
    | with_reducible assumption
    | with_reducible apply State.onGau_keeps k0
    | with_reducible apply State.put_keeps k1
    | with_reducible apply State.setCh_keeps k2
    | with_reducible apply ite_keeps
    | with_reducible refine forEach_keeps (fun _ _ _ => ?_) ?_
    | intro _
    | dsimp -simprocs only
    | dsimp only

theorem State.obeyCmd_keeps {κ : Nat} {σ : State} {s : State} {l : Nat} (hκ : Sub 65537 κ) (hσ : Keeps κ σ s) :
    Keeps κ σ (State.obeyCmd s l) := by
  have k0 : Sub 65537 κ := Sub.trans (by decide : 65537 &&& 65537 = 65537) hκ
  have k1 : Sub 1 κ := Sub.trans (by decide : 1 &&& 65537 = 1) hκ
  have k2 : Sub 65536 κ := Sub.trans (by decide : 65536 &&& 65537 = 65536) hκ
  unfold State.obeyCmd
  repeat' first
    | with_reducible assumption
    | with_reducible apply State.startCh_keeps k0
    | with_reducible apply State.toState_keeps k1
    | with_reducible apply State.setPwm_keeps k1
    | with_reducible apply State.setCh_keeps k2
    | with_reducible apply ite_keeps
    | dsimp -simprocs only
    | dsimp only

theorem State.chSet_keeps {κ : Nat} {σ : State} {s : State} {d : Desc} (hκ : Sub 196747 κ) (hσ : Keeps κ σ s) :
    Keeps κ σ (State.chSet s d) := by
  have k0 : Sub 128 κ := Sub.trans (by decide : 128 &&& 196747 = 128) hκ
  have k1 : Sub 65675 κ := Sub.trans (by decide : 65675 &&& 196747 = 65675) hκ
  have k2 : Sub 139 κ := Sub.trans (by decide : 139 &&& 196747 = 139) hκ
  have k3 : Sub 196609 κ := Sub.trans (by decide : 196609 &&& 196747 = 196609) hκ
  have k4 : Sub 65537 κ := Sub.trans (by decide : 65537 &&& 196747 = 65537) hκ
  unfold State.chSet
  repeat' first
    | with_reducible assumption
    | with_reducible apply State.finish_keeps k0
    | with_reducible apply State.castOff_keeps k1
    | with_reducible apply State.energyRefuse_keeps k2
    | with_reducible apply State.recordCmd_keeps k3
    | with_reducible apply State.obeyCmd_keeps k4
    | with_reducible apply ite_keeps
    | dsimp -simprocs only
    | dsimp only
    | split

theorem execChSet_keeps {κ : Nat} {σ : State} {r : Nat} {s : State} (hκ : Sub 196747 κ) (hσ : Keeps κ σ s) :
    NextKeeps κ σ (execChSet r s) := by
  have k0 : Sub 0 κ := Sub.trans (by decide : 0 &&& 196747 = 0) hκ
  have k1 : Sub 196747 κ := Sub.trans (by decide : 196747 &&& 196747 = 196747) hκ
  unfold execChSet
  repeat' first
    | with_reducible assumption
    | with_reducible apply next_keeps
    | with_reducible apply ite_next_keeps
    | with_reducible apply State.withOp_keeps k0
    | with_reducible apply State.chSet_keeps k1
    | intro _

theorem State.follow_keeps {κ : Nat} {σ : State} {n : Nat} {s : State} (hκ : Sub 1 κ) (hσ : Keeps κ σ s) :
    Keeps κ σ (State.follow n s) := by
  have k0 : Sub 1 κ := Sub.trans (by decide : 1 &&& 1 = 1) hκ
  unfold State.follow
  repeat' first
    | with_reducible assumption
    | with_reducible apply State.put_keeps k0
    | with_reducible apply ite_keeps
    | dsimp -simprocs only
    | dsimp only

theorem State.configure_keeps {κ : Nat} {σ : State} {s : State} {n : Nat} {c : Bytes} (hκ : Sub 196747 κ) (hσ : Keeps κ σ s) :
    Keeps κ σ (State.configure s n c) := by
  have k0 : Sub 65536 κ := Sub.trans (by decide : 65536 &&& 196747 = 65536) hκ
  have k1 : Sub 1 κ := Sub.trans (by decide : 1 &&& 196747 = 1) hκ
  have k2 : Sub 139 κ := Sub.trans (by decide : 139 &&& 196747 = 139) hκ
  have k3 : Sub 131073 κ := Sub.trans (by decide : 131073 &&& 196747 = 131073) hκ
  unfold State.configure
  repeat' first
    | with_reducible assumption
    | with_reducible apply State.setCh_keeps k0
    | with_reducible apply State.put_keeps k1
    | with_reducible apply State.relead_keeps k1
    | with_reducible apply State.shedCh_keeps k2
    | with_reducible apply State.follow_keeps k1
    | with_reducible apply State.newFloor_keeps k3
    | with_reducible apply ite_keeps
    | with_reducible refine forEach_keeps (fun _ _ _ => ?_) ?_
    | dsimp -simprocs only
    | dsimp only

theorem State.chConfig_keeps {κ : Nat} {σ : State} {s : State} {d : Desc} (hκ : Sub 196747 κ) (hσ : Keeps κ σ s) :
    Keeps κ σ (State.chConfig s d) := by
  have k0 : Sub 128 κ := Sub.trans (by decide : 128 &&& 196747 = 128) hκ
  have k1 : Sub 196747 κ := Sub.trans (by decide : 196747 &&& 196747 = 196747) hκ
  unfold State.chConfig
  repeat' first
    | with_reducible assumption
    | with_reducible apply State.finish_keeps k0
    | with_reducible apply State.configure_keeps k1
    | with_reducible apply ite_keeps
    | dsimp -simprocs only
    | dsimp only
    | split

theorem execChConfig_keeps {κ : Nat} {σ : State} {r : Nat} {s : State} (hκ : Sub 196747 κ) (hσ : Keeps κ σ s) :
    NextKeeps κ σ (execChConfig r s) := by
  have k0 : Sub 0 κ := Sub.trans (by decide : 0 &&& 196747 = 0) hκ
  have k1 : Sub 196747 κ := Sub.trans (by decide : 196747 &&& 196747 = 196747) hκ
  unfold execChConfig
  repeat' first
    | with_reducible assumption
    | with_reducible apply next_keeps
    | with_reducible apply ite_next_keeps
    | with_reducible apply State.withOp_keeps k0
    | with_reducible apply State.chConfig_keeps k1
    | intro _

theorem State.latchClr_keeps {κ : Nat} {σ : State} {s : State} {d : Desc} (hκ : Sub 139 κ) (hσ : Keeps κ σ s) :
    Keeps κ σ (State.latchClr s d) := by
  have k0 : Sub 128 κ := Sub.trans (by decide : 128 &&& 139 = 128) hκ
  have k1 : Sub 1 κ := Sub.trans (by decide : 1 &&& 139 = 1) hκ
  have k2 : Sub 139 κ := Sub.trans (by decide : 139 &&& 139 = 139) hκ
  unfold State.latchClr
  repeat' first
    | with_reducible assumption
    | with_reducible apply State.finish_keeps k0
    | with_reducible apply State.toState_keeps k1
    | with_reducible apply State.put_keeps k1
    | with_reducible apply State.shedCh_keeps k2
    | with_reducible apply ite_keeps
    | dsimp -simprocs only
    | dsimp only
    | split

theorem execLatchClr_keeps {κ : Nat} {σ : State} {r : Nat} {s : State} (hκ : Sub 139 κ) (hσ : Keeps κ σ s) :
    NextKeeps κ σ (execLatchClr r s) := by
  have k0 : Sub 0 κ := Sub.trans (by decide : 0 &&& 139 = 0) hκ
  have k1 : Sub 139 κ := Sub.trans (by decide : 139 &&& 139 = 139) hκ
  unfold execLatchClr
  repeat' first
    | with_reducible assumption
    | with_reducible apply next_keeps
    | with_reducible apply ite_next_keeps
    | with_reducible apply State.withOp_keeps k0
    | with_reducible apply State.latchClr_keeps k1
    | intro _

theorem State.wdArm_keeps {κ : Nat} {σ : State} {s : State} {d : Desc} (hκ : Sub 65675 κ) (hσ : Keeps κ σ s) :
    Keeps κ σ (State.wdArm s d) := by
  have k0 : Sub 128 κ := Sub.trans (by decide : 128 &&& 65675 = 128) hκ
  have k1 : Sub 65675 κ := Sub.trans (by decide : 65675 &&& 65675 = 65675) hκ
  unfold State.wdArm
  repeat' first
    | with_reducible assumption
    | with_reducible apply State.finish_keeps k0
    | with_reducible apply State.castOff_keeps k1
    | with_reducible apply State.armBank_keeps k1
    | with_reducible apply ite_keeps
    | with_reducible refine forEach_keeps (fun _ _ _ => ?_) ?_
    | dsimp -simprocs only
    | dsimp only

theorem execWdArm_keeps {κ : Nat} {σ : State} {r : Nat} {s : State} (hκ : Sub 65675 κ) (hσ : Keeps κ σ s) :
    NextKeeps κ σ (execWdArm r s) := by
  have k0 : Sub 0 κ := Sub.trans (by decide : 0 &&& 65675 = 0) hκ
  have k1 : Sub 65675 κ := Sub.trans (by decide : 65675 &&& 65675 = 65675) hκ
  unfold execWdArm
  repeat' first
    | with_reducible assumption
    | with_reducible apply next_keeps
    | with_reducible apply ite_next_keeps
    | with_reducible apply State.withOp_keeps k0
    | with_reducible apply State.wdArm_keeps k1
    | intro _

theorem State.storeNv_keeps {κ : Nat} {σ : State} {s : State} {b : Nat} {recs : List Bytes} (hκ : Sub 65536 κ) (hσ : Keeps κ σ s) :
    Keeps κ σ (State.storeNv s b recs) := by
  have k0 : Sub 65536 κ := Sub.trans (by decide : 65536 &&& 65536 = 65536) hκ
  unfold State.storeNv
  repeat' first
    | with_reducible assumption
    | with_reducible apply State.setCh_keeps k0
    | with_reducible refine forEach_keeps (fun _ _ _ => ?_) ?_

theorem State.coStore_keeps {κ : Nat} {σ : State} {s : State} {d : Desc} (hκ : Sub 17371615 κ) (hσ : Keeps κ σ s) :
    Keeps κ σ (State.coStore s d) := by
  have k0 : Sub 128 κ := Sub.trans (by decide : 128 &&& 17371615 = 128) hκ
  have k1 : Sub 65675 κ := Sub.trans (by decide : 65675 &&& 17371615 = 65675) hκ
  have k2 : Sub 16777679 κ := Sub.trans (by decide : 16777679 &&& 17371615 = 16777679) hκ
  have k3 : Sub 528384 κ := Sub.trans (by decide : 528384 &&& 17371615 = 528384) hκ
  have k4 : Sub 16 κ := Sub.trans (by decide : 16 &&& 17371615 = 16) hκ
  have k5 : Sub 65536 κ := Sub.trans (by decide : 65536 &&& 17371615 = 65536) hκ
  unfold State.coStore
  repeat' first
    | with_reducible assumption
    | with_reducible apply State.lastStitch_keeps k0
    | with_reducible apply State.setBank_keeps k1
    | with_reducible apply State.stitched_keeps k2
    | with_reducible apply State.commit_keeps k3
    | with_reducible apply State.drawn_keeps k4
    | with_reducible apply State.storeNv_keeps k5
    | with_reducible apply ite_keeps
    | dsimp -simprocs only
    | dsimp only
    | split

theorem execCoStore_keeps {κ : Nat} {σ : State} {r : Nat} {s : State} (hκ : Sub 17371615 κ) (hσ : Keeps κ σ s) :
    NextKeeps κ σ (execCoStore r s) := by
  have k0 : Sub 0 κ := Sub.trans (by decide : 0 &&& 17371615 = 0) hκ
  have k1 : Sub 17371615 κ := Sub.trans (by decide : 17371615 &&& 17371615 = 17371615) hκ
  unfold execCoStore
  repeat' first
    | with_reducible assumption
    | with_reducible apply next_keeps
    | with_reducible apply ite_next_keeps
    | with_reducible apply State.withOp_keeps k0
    | with_reducible apply State.coStore_keeps k1
    | intro _

theorem State.flagUp_keeps {κ : Nat} {σ : State} {s : State} {n : Nat} {f e : Fld} {ol : Bool} (hκ : Sub 139 κ) (hσ : Keeps κ σ s) :
    Keeps κ σ (State.flagUp s n f e ol) := by
  have k0 : Sub 1 κ := Sub.trans (by decide : 1 &&& 139 = 1) hκ
  have k1 : Sub 139 κ := Sub.trans (by decide : 139 &&& 139 = 139) hκ
  have k2 : Sub 2 κ := Sub.trans (by decide : 2 &&& 139 = 2) hκ
  unfold State.flagUp
  repeat' first
    | with_reducible assumption
    | with_reducible apply State.put_keeps k0
    | with_reducible apply State.chEvent_keeps k1
    | with_reducible apply State.dieCount_keeps k2
    | with_reducible apply ite_keeps
    | dsimp -simprocs only
    | dsimp only

theorem State.sweepOff_keeps {κ : Nat} {σ : State} {s : State} {n : Nat} (hκ : Sub 155 κ) (hσ : Keeps κ σ s) :
    Keeps κ σ (State.sweepOff s n) := by
  have k0 : Sub 16 κ := Sub.trans (by decide : 16 &&& 155 = 16) hκ
  have k1 : Sub 139 κ := Sub.trans (by decide : 139 &&& 155 = 139) hκ
  have k2 : Sub 1 κ := Sub.trans (by decide : 1 &&& 155 = 1) hκ
  unfold State.sweepOff
  repeat' first
    | with_reducible assumption
    | with_reducible apply State.drawn_keeps k0
    | with_reducible apply State.flagUp_keeps k1
    | with_reducible apply State.put_keeps k2
    | with_reducible apply ite_keeps
    | dsimp -simprocs only
    | dsimp only
    | split

theorem State.sweepEntry_keeps {κ : Nat} {σ : State} {s : State} {n : Nat} (hκ : Sub 155 κ) (hσ : Keeps κ σ s) :
    Keeps κ σ (State.sweepEntry s n).1 := by
  have k0 : Sub 155 κ := Sub.trans (by decide : 155 &&& 155 = 155) hκ
  have k1 : Sub 16 κ := Sub.trans (by decide : 16 &&& 155 = 16) hκ
  unfold State.sweepEntry
  repeat' first
    | with_reducible assumption
    | with_reducible apply State.sweepOff_keeps k0
    | with_reducible apply State.drawn_keeps k1
    | with_reducible apply ite_keeps
    | with_reducible apply ite_fst_keeps
    | dsimp -simprocs only
    | dsimp only

theorem State.sweepEntries_keeps {κ : Nat} {σ : State} {a0 : List Nat} {a1 : State} (hκ : Sub 155 κ) (hσ : Keeps κ σ a1) :
    Keeps κ σ (State.sweepEntries a0 a1).1 := by
  have k0 : Sub 155 κ := Sub.trans (by decide : 155 &&& 155 = 155) hκ
  fun_induction State.sweepEntries a0 a1
  all_goals repeat' first
    | with_reducible assumption
    | with_reducible apply State.sweepEntry_keeps k0
    | dsimp -simprocs only
    | dsimp only
    | split
    | with_reducible apply_assumption

theorem State.testSweep_keeps {κ : Nat} {σ : State} {s : State} {d : Desc} (hκ : Sub 16777695 κ) (hσ : Keeps κ σ s) :
    Keeps κ σ (State.testSweep s d) := by
  have k0 : Sub 128 κ := Sub.trans (by decide : 128 &&& 16777695 = 128) hκ
  have k1 : Sub 16777679 κ := Sub.trans (by decide : 16777679 &&& 16777695 = 16777679) hκ
  have k2 : Sub 155 κ := Sub.trans (by decide : 155 &&& 16777695 = 155) hκ
  have k3 : Sub 131 κ := Sub.trans (by decide : 131 &&& 16777695 = 131) hκ
  unfold State.testSweep
  repeat' first
    | with_reducible assumption
    | with_reducible apply State.lastStitch_keeps k0
    | with_reducible apply State.stitched_keeps k1
    | with_reducible apply State.sweepEntries_keeps k2
    | with_reducible apply State.fabWrite_keeps k1
    | with_reducible apply State.refuseWrite_keeps k3
    | with_reducible apply ite_keeps
    | with_reducible apply ite_fst_keeps
    | dsimp -simprocs only
    | dsimp only

theorem execTestSweep_keeps {κ : Nat} {σ : State} {r : Nat} {s : State} (hκ : Sub 16777695 κ) (hσ : Keeps κ σ s) :
    NextKeeps κ σ (execTestSweep r s) := by
  have k0 : Sub 0 κ := Sub.trans (by decide : 0 &&& 16777695 = 0) hκ
  have k1 : Sub 16777695 κ := Sub.trans (by decide : 16777695 &&& 16777695 = 16777695) hκ
  unfold execTestSweep
  repeat' first
    | with_reducible assumption
    | with_reducible apply next_keeps
    | with_reducible apply ite_next_keeps
    | with_reducible apply State.withOp_keeps k0
    | with_reducible apply State.testSweep_keeps k1
    | intro _

theorem execInrushEnd_keeps {κ : Nat} {σ : State} {ch : Nat} {s : State} (hκ : Sub 65537 κ) (hσ : Keeps κ σ s) :
    NextKeeps κ σ (execInrushEnd ch s) := by
  have k0 : Sub 65537 κ := Sub.trans (by decide : 65537 &&& 65537 = 65537) hκ
  unfold execInrushEnd
  repeat' first
    | with_reducible assumption
    | with_reducible apply next_keeps
    | with_reducible apply ite_next_keeps
    | with_reducible apply State.enterOn_keeps k0
    | with_reducible apply ite_keeps

theorem execLimTimeExpiry_keeps {κ : Nat} {σ : State} {ch : Nat} {s : State} (hκ : Sub 196747 κ) (hσ : Keeps κ σ s) :
    NextKeeps κ σ (execLimTimeExpiry ch s) := by
  have k0 : Sub 196747 κ := Sub.trans (by decide : 196747 &&& 196747 = 196747) hκ
  unfold execLimTimeExpiry
  repeat' first
    | with_reducible assumption
    | with_reducible apply next_keeps
    | with_reducible apply ite_next_keeps
    | with_reducible apply State.trip_keeps k0
    | with_reducible apply ite_keeps

theorem execFastTrip_keeps {κ : Nat} {σ : State} {ch mA : Nat} {s : State} (hκ : Sub 196747 κ) (hσ : Keeps κ σ s) :
    NextKeeps κ σ (execFastTrip ch mA s) := by
  have k0 : Sub 196747 κ := Sub.trans (by decide : 196747 &&& 196747 = 196747) hκ
  unfold execFastTrip
  repeat' first
    | with_reducible assumption
    | with_reducible apply next_keeps
    | with_reducible apply ite_next_keeps
    | with_reducible apply State.trip_keeps k0
    | with_reducible apply ite_keeps

theorem execThermalTrip_keeps {κ : Nat} {σ : State} {ch : Nat} {tj tc : Int} {s : State} (hκ : Sub 196747 κ) (hσ : Keeps κ σ s) :
    NextKeeps κ σ (execThermalTrip ch tj tc s) := by
  have k0 : Sub 196747 κ := Sub.trans (by decide : 196747 &&& 196747 = 196747) hκ
  unfold execThermalTrip
  repeat' first
    | with_reducible assumption
    | with_reducible apply next_keeps
    | with_reducible apply ite_next_keeps
    | with_reducible apply State.trip_keeps k0
    | with_reducible apply ite_keeps

theorem execRestartDue_keeps {κ : Nat} {σ : State} {ch : Nat} {tj tc : Int} {s : State} (hκ : Sub 65537 κ) (hσ : Keeps κ σ s) :
    NextKeeps κ σ (execRestartDue ch tj tc s) := by
  have k0 : Sub 1 κ := Sub.trans (by decide : 1 &&& 65537 = 1) hκ
  have k1 : Sub 65537 κ := Sub.trans (by decide : 65537 &&& 65537 = 65537) hκ
  unfold execRestartDue
  repeat' first
    | with_reducible assumption
    | with_reducible apply next_keeps
    | with_reducible apply ite_next_keeps
    | with_reducible apply State.put_keeps k0
    | with_reducible apply State.resumeCh_keeps k1
    | with_reducible apply ite_keeps

theorem execRetryReset_keeps {κ : Nat} {σ : State} {ch : Nat} {s : State} (hκ : Sub 1 κ) (hσ : Keeps κ σ s) :
    NextKeeps κ σ (execRetryReset ch s) := by
  have k0 : Sub 1 κ := Sub.trans (by decide : 1 &&& 1 = 1) hκ
  unfold execRetryReset
  repeat' first
    | with_reducible assumption
    | with_reducible apply next_keeps
    | with_reducible apply ite_next_keeps
    | with_reducible apply State.put_keeps k0
    | with_reducible apply ite_keeps

theorem execBankFold_keeps {κ : Nat} {σ : State} {b mA : Nat} {s : State} (hκ : Sub 139 κ) (hσ : Keeps κ σ s) :
    NextKeeps κ σ (execBankFold b mA s) := by
  have k0 : Sub 1 κ := Sub.trans (by decide : 1 &&& 139 = 1) hκ
  have k1 : Sub 2 κ := Sub.trans (by decide : 2 &&& 139 = 2) hκ
  have k2 : Sub 139 κ := Sub.trans (by decide : 139 &&& 139 = 139) hκ
  unfold execBankFold
  repeat' first
    | with_reducible assumption
    | with_reducible apply next_keeps
    | with_reducible apply ite_next_keeps
    | with_reducible apply State.put_keeps k0
    | with_reducible apply State.dieCount_keeps k1
    | with_reducible apply State.bankEvent_keeps k2
    | with_reducible apply ite_keeps

theorem execBankFoldEnd_keeps {κ : Nat} {σ : State} {b mA : Nat} {s : State} (hκ : Sub 1 κ) (hσ : Keeps κ σ s) :
    NextKeeps κ σ (execBankFoldEnd b mA s) := by
  have k0 : Sub 1 κ := Sub.trans (by decide : 1 &&& 1 = 1) hκ
  unfold execBankFoldEnd
  repeat' first
    | with_reducible assumption
    | with_reducible apply next_keeps
    | with_reducible apply ite_next_keeps
    | with_reducible apply State.put_keeps k0
    | with_reducible apply ite_keeps

theorem execBankOverload_keeps {κ : Nat} {σ : State} {b mA : Nat} {s : State} (hκ : Sub 196747 κ) (hσ : Keeps κ σ s) :
    NextKeeps κ σ (execBankOverload b mA s) := by
  have k0 : Sub 139 κ := Sub.trans (by decide : 139 &&& 196747 = 139) hκ
  have k1 : Sub 65675 κ := Sub.trans (by decide : 65675 &&& 196747 = 65675) hκ
  have k2 : Sub 196747 κ := Sub.trans (by decide : 196747 &&& 196747 = 196747) hκ
  unfold execBankOverload
  repeat' first
    | with_reducible assumption
    | with_reducible apply next_keeps
    | with_reducible apply ite_next_keeps
    | with_reducible apply State.bankEvent_keeps k0
    | with_reducible apply State.setBank_keeps k1
    | with_reducible apply State.trip_keeps k2
    | with_reducible apply ite_keeps
    | dsimp -simprocs only
    | dsimp only
    | split

theorem execBlankingEnd_keeps {κ : Nat} {σ : State} {b : Nat} {s : State} (hκ : Sub 65675 κ) (hσ : Keeps κ σ s) :
    NextKeeps κ σ (execBlankingEnd b s) := by
  have k0 : Sub 65675 κ := Sub.trans (by decide : 65675 &&& 65675 = 65675) hκ
  unfold execBlankingEnd
  repeat' first
    | with_reducible assumption
    | with_reducible apply next_keeps
    | with_reducible apply ite_next_keeps
    | with_reducible apply State.setBank_keeps k0
    | with_reducible apply ite_keeps
    | split

theorem execBankUndervoltage_keeps {κ : Nat} {σ : State} {b mV : Nat} {s : State} (hκ : Sub 139 κ) (hσ : Keeps κ σ s) :
    NextKeeps κ σ (execBankUndervoltage b mV s) := by
  have k0 : Sub 1 κ := Sub.trans (by decide : 1 &&& 139 = 1) hκ
  have k1 : Sub 139 κ := Sub.trans (by decide : 139 &&& 139 = 139) hκ
  unfold execBankUndervoltage
  repeat' first
    | with_reducible assumption
    | with_reducible apply next_keeps
    | with_reducible apply ite_next_keeps
    | with_reducible apply State.put_keeps k0
    | with_reducible apply State.bankEvent_keeps k1
    | with_reducible apply ite_keeps

theorem execBankUvRecover_keeps {κ : Nat} {σ : State} {b mV : Nat} {s : State} (hκ : Sub 65537 κ) (hσ : Keeps κ σ s) :
    NextKeeps κ σ (execBankUvRecover b mV s) := by
  have k0 : Sub 65537 κ := Sub.trans (by decide : 65537 &&& 65537 = 65537) hκ
  have k1 : Sub 1 κ := Sub.trans (by decide : 1 &&& 65537 = 1) hκ
  unfold execBankUvRecover
  repeat' first
    | with_reducible assumption
    | with_reducible apply next_keeps
    | with_reducible apply ite_next_keeps
    | with_reducible apply State.enterInrush_keeps k0
    | with_reducible apply State.put_keeps k1
    | with_reducible apply ite_keeps
    | with_reducible refine forEach_keeps (fun _ _ _ => ?_) ?_

theorem State.clearCh_keeps {κ : Nat} {σ : State} {n : Nat} {s : State} (hκ : Sub 65537 κ) (hσ : Keeps κ σ s) :
    Keeps κ σ (State.clearCh n s) := by
  have k0 : Sub 65536 κ := Sub.trans (by decide : 65536 &&& 65537 = 65536) hκ
  have k1 : Sub 1 κ := Sub.trans (by decide : 1 &&& 65537 = 1) hκ
  unfold State.clearCh
  repeat' first
    | with_reducible assumption
    | with_reducible apply State.setCh_keeps k0
    | with_reducible apply State.wr_keeps k1
    | with_reducible apply State.put_keeps k1
    | dsimp -simprocs only
    | dsimp only

theorem execPowerDiePowerUp_keeps {κ : Nat} {σ : State} {b mV : Nat} {s : State} (hκ : Sub 65675 κ) (hσ : Keeps κ σ s) :
    NextKeeps κ σ (execPowerDiePowerUp b mV s) := by
  have k0 : Sub 65537 κ := Sub.trans (by decide : 65537 &&& 65675 = 65537) hκ
  have k1 : Sub 1 κ := Sub.trans (by decide : 1 &&& 65675 = 1) hκ
  have k2 : Sub 65675 κ := Sub.trans (by decide : 65675 &&& 65675 = 65675) hκ
  unfold execPowerDiePowerUp
  repeat' first
    | with_reducible assumption
    | with_reducible apply next_keeps
    | with_reducible apply ite_next_keeps
    | with_reducible apply State.clearCh_keeps k0
    | with_reducible apply State.relead_keeps k1
    | with_reducible apply State.setBank_keeps k2
    | with_reducible apply State.put_keeps k1
    | with_reducible apply State.holdCh_keeps k1
    | with_reducible apply State.castOff_keeps k2
    | with_reducible apply ite_keeps
    | with_reducible refine forEach_keeps (fun _ _ _ => ?_) ?_
    | dsimp -simprocs only
    | dsimp only

theorem execPowerDieUnpowered_keeps {κ : Nat} {σ : State} {b : Nat} {mV : Int} {s : State} (hκ : Sub 65675 κ) (hσ : Keeps κ σ s) :
    NextKeeps κ σ (execPowerDieUnpowered b mV s) := by
  have k0 : Sub 65537 κ := Sub.trans (by decide : 65537 &&& 65675 = 65537) hκ
  have k1 : Sub 1 κ := Sub.trans (by decide : 1 &&& 65675 = 1) hκ
  have k2 : Sub 65675 κ := Sub.trans (by decide : 65675 &&& 65675 = 65675) hκ
  have k3 : Sub 139 κ := Sub.trans (by decide : 139 &&& 65675 = 139) hκ
  unfold execPowerDieUnpowered
  repeat' first
    | with_reducible assumption
    | with_reducible apply next_keeps
    | with_reducible apply ite_next_keeps
    | with_reducible apply State.clearCh_keeps k0
    | with_reducible apply State.relead_keeps k1
    | with_reducible apply State.setBank_keeps k2
    | with_reducible apply State.put_keeps k1
    | with_reducible apply State.raise_keeps k3
    | with_reducible apply ite_keeps
    | with_reducible refine forEach_keeps (fun _ _ _ => ?_) ?_
    | dsimp -simprocs only
    | dsimp only

theorem execOutputDiagDebounce_keeps {κ : Nat} {σ : State} {ch which : Nat} {present : Bool} {s : State} (hκ : Sub 139 κ) (hσ : Keeps κ σ s) :
    NextKeeps κ σ (execOutputDiagDebounce ch which present s) := by
  have k0 : Sub 1 κ := Sub.trans (by decide : 1 &&& 139 = 1) hκ
  have k1 : Sub 139 κ := Sub.trans (by decide : 139 &&& 139 = 139) hκ
  unfold execOutputDiagDebounce
  repeat' first
    | with_reducible assumption
    | with_reducible apply next_keeps
    | with_reducible apply ite_next_keeps
    | with_reducible apply State.put_keeps k0
    | with_reducible apply State.flagUp_keeps k1
    | with_reducible apply ite_keeps
    | dsimp -simprocs only
    | dsimp only
    | split

theorem State.pwmFrame_keeps {κ : Nat} {σ : State} {b : Nat} {s : State} (hκ : Sub 65536 κ) (hσ : Keeps κ σ s) :
    Keeps κ σ (State.pwmFrame b s) := by
  have k0 : Sub 65536 κ := Sub.trans (by decide : 65536 &&& 65536 = 65536) hκ
  unfold State.pwmFrame
  repeat' first
    | with_reducible assumption
    | with_reducible apply State.setCh_keeps k0
    | with_reducible apply ite_keeps
    | with_reducible refine forEach_keeps (fun _ _ _ => ?_) ?_

theorem execPwmFrameStart_keeps {κ : Nat} {σ : State} {b : Nat} {s : State} (hκ : Sub 65536 κ) (hσ : Keeps κ σ s) :
    NextKeeps κ σ (execPwmFrameStart b s) := by
  have k0 : Sub 65536 κ := Sub.trans (by decide : 65536 &&& 65536 = 65536) hκ
  unfold execPwmFrameStart
  repeat' first
    | with_reducible assumption
    | with_reducible apply next_keeps
    | with_reducible apply ite_next_keeps
    | with_reducible apply State.pwmFrame_keeps k0
    | with_reducible apply ite_keeps

theorem execKeepAliveSend_keeps {κ : Nat} {σ : State} {b : Nat} {whole answered : Bool} {s : State} (hκ : Sub 65675 κ) (hσ : Keeps κ σ s) :
    NextKeeps κ σ (execKeepAliveSend b whole answered s) := by
  have k0 : Sub 65675 κ := Sub.trans (by decide : 65675 &&& 65675 = 65675) hκ
  have k1 : Sub 2 κ := Sub.trans (by decide : 2 &&& 65675 = 2) hκ
  unfold execKeepAliveSend
  repeat' first
    | with_reducible assumption
    | with_reducible apply next_keeps
    | with_reducible apply ite_next_keeps
    | with_reducible apply State.setBank_keeps k0
    | with_reducible apply State.count_keeps k1
    | with_reducible apply ite_keeps
    | dsimp -simprocs only
    | dsimp only

theorem execDieWatchdogExpiry_keeps {κ : Nat} {σ : State} {b : Nat} {s : State} (hκ : Sub 65675 κ) (hσ : Keeps κ σ s) :
    NextKeeps κ σ (execDieWatchdogExpiry b s) := by
  have k0 : Sub 65675 κ := Sub.trans (by decide : 65675 &&& 65675 = 65675) hκ
  unfold execDieWatchdogExpiry
  repeat' first
    | with_reducible assumption
    | with_reducible apply next_keeps
    | with_reducible apply ite_next_keeps
    | with_reducible apply State.castOff_keeps k0
    | with_reducible apply ite_keeps

theorem State.gapBegins_keeps {κ : Nat} {σ : State} {s : State} {b : Nat} (hκ : Sub 131211 κ) (hσ : Keeps κ σ s) :
    Keeps κ σ (State.gapBegins s b) := by
  have k0 : Sub 131072 κ := Sub.trans (by decide : 131072 &&& 131211 = 131072) hκ
  have k1 : Sub 139 κ := Sub.trans (by decide : 139 &&& 131211 = 139) hκ
  unfold State.gapBegins
  repeat' first
    | with_reducible assumption
    | with_reducible apply State.gapCharge_keeps k0
    | with_reducible apply State.onGau_keeps k0
    | with_reducible apply State.showLeft_keeps k1
    | with_reducible apply State.raise_keeps k1
    | with_reducible apply ite_keeps
    | intro _
    | dsimp -simprocs only
    | dsimp only

theorem execLdcLinkLost_keeps {κ : Nat} {σ : State} {b : Nat} {s : State} (hκ : Sub 196747 κ) (hσ : Keeps κ σ s) :
    NextKeeps κ σ (execLdcLinkLost b s) := by
  have k0 : Sub 65675 κ := Sub.trans (by decide : 65675 &&& 196747 = 65675) hκ
  have k1 : Sub 139 κ := Sub.trans (by decide : 139 &&& 196747 = 139) hκ
  have k2 : Sub 131211 κ := Sub.trans (by decide : 131211 &&& 196747 = 131211) hκ
  unfold execLdcLinkLost
  repeat' first
    | with_reducible assumption
    | with_reducible apply next_keeps
    | with_reducible apply ite_next_keeps
    | with_reducible apply State.setBank_keeps k0
    | with_reducible apply State.raise_keeps k1
    | with_reducible apply State.gapBegins_keeps k2
    | with_reducible apply ite_keeps

theorem State.standing_keeps {κ : Nat} {σ : State} {n : Nat} {s : State} (hκ : Sub 139 κ) (hσ : Keeps κ σ s) :
    Keeps κ σ (State.standing n s) := by
  have k0 : Sub 139 κ := Sub.trans (by decide : 139 &&& 139 = 139) hκ
  unfold State.standing
  repeat' first
    | with_reducible assumption
    | with_reducible apply State.chEvent_keeps k0
    | with_reducible apply ite_keeps
    | dsimp -simprocs only
    | dsimp only
    | split

theorem State.hearDie_keeps {κ : Nat} {σ : State} {s : State} {b : Nat} (hκ : Sub 65675 κ) (hσ : Keeps κ σ s) :
    Keeps κ σ (State.hearDie s b) := by
  have k0 : Sub 65675 κ := Sub.trans (by decide : 65675 &&& 65675 = 65675) hκ
  have k1 : Sub 2 κ := Sub.trans (by decide : 2 &&& 65675 = 2) hκ
  have k2 : Sub 139 κ := Sub.trans (by decide : 139 &&& 65675 = 139) hκ
  unfold State.hearDie
  repeat' first
    | with_reducible assumption
    | with_reducible apply State.setBank_keeps k0
    | with_reducible apply State.castOff_keeps k0
    | with_reducible apply State.count_keeps k1
    | with_reducible apply State.bankEvent_keeps k2
    | with_reducible apply State.standing_keeps k2
    | with_reducible apply State.applyShed_keeps k0
    | with_reducible apply ite_keeps
    | with_reducible refine forEach_keeps (fun _ _ _ => ?_) ?_
    | dsimp -simprocs only
    | dsimp only
    | split

theorem execLdcLinkRestored_keeps {κ : Nat} {σ : State} {b : Nat} {s : State} (hκ : Sub 65675 κ) (hσ : Keeps κ σ s) :
    NextKeeps κ σ (execLdcLinkRestored b s) := by
  have k0 : Sub 65675 κ := Sub.trans (by decide : 65675 &&& 65675 = 65675) hκ
  unfold execLdcLinkRestored
  repeat' first
    | with_reducible assumption
    | with_reducible apply next_keeps
    | with_reducible apply ite_next_keeps
    | with_reducible apply State.hearDie_keeps k0
    | with_reducible apply ite_keeps

theorem execLdcShedWrite_keeps {κ : Nat} {σ : State} {pid val : Nat} {s : State} (hκ : Sub 65675 κ) (hσ : Keeps κ σ s) :
    NextKeeps κ σ (execLdcShedWrite pid val s) := by
  have k0 : Sub 65675 κ := Sub.trans (by decide : 65675 &&& 65675 = 65675) hκ
  unfold execLdcShedWrite
  repeat' first
    | with_reducible assumption
    | with_reducible apply next_keeps
    | with_reducible apply ite_next_keeps
    | with_reducible apply State.writeShed_keeps k0
    | with_reducible apply ite_keeps

theorem State.sampleCh_keeps {κ : Nat} {σ : State} {tc : Int} {n : Nat} {s : State} (hκ : Sub 17 κ) (hσ : Keeps κ σ s) :
    Keeps κ σ (State.sampleCh tc n s) := by
  have k0 : Sub 1 κ := Sub.trans (by decide : 1 &&& 17 = 1) hκ
  have k1 : Sub 16 κ := Sub.trans (by decide : 16 &&& 17 = 16) hκ
  unfold State.sampleCh
  repeat' first
    | with_reducible assumption
    | with_reducible apply State.put_keeps k0
    | with_reducible apply State.drawn_keeps k1
    | with_reducible apply ite_keeps
    | dsimp -simprocs only
    | dsimp only

theorem State.sampleGroup_keeps {κ : Nat} {σ : State} {n : Nat} {s : State} (hκ : Sub 1 κ) (hσ : Keeps κ σ s) :
    Keeps κ σ (State.sampleGroup n s) := by
  have k0 : Sub 1 κ := Sub.trans (by decide : 1 &&& 1 = 1) hκ
  unfold State.sampleGroup
  repeat' first
    | with_reducible assumption
    | with_reducible apply State.put_keeps k0
    | with_reducible apply ite_keeps
    | dsimp -simprocs only
    | dsimp only

theorem State.sampleBank_keeps {κ : Nat} {σ : State} {b : Nat} {s : State} (hκ : Sub 196763 κ) (hσ : Keeps κ σ s) :
    Keeps κ σ (State.sampleBank b s) := by
  have k0 : Sub 1 κ := Sub.trans (by decide : 1 &&& 196763 = 1) hκ
  have k1 : Sub 17 κ := Sub.trans (by decide : 17 &&& 196763 = 17) hκ
  have k2 : Sub 16 κ := Sub.trans (by decide : 16 &&& 196763 = 16) hκ
  have k3 : Sub 131072 κ := Sub.trans (by decide : 131072 &&& 196763 = 131072) hκ
  have k4 : Sub 65675 κ := Sub.trans (by decide : 65675 &&& 196763 = 65675) hκ
  have k5 : Sub 139 κ := Sub.trans (by decide : 139 &&& 196763 = 139) hκ
  unfold State.sampleBank
  repeat' first
    | with_reducible assumption
    | with_reducible apply State.put_keeps k0
    | with_reducible apply State.sampleCh_keeps k1
    | with_reducible apply State.drawn_keeps k2
    | with_reducible apply State.sampleGroup_keeps k0
    | with_reducible apply State.addEnergy_keeps k3
    | with_reducible apply State.onGau_keeps k3
    | with_reducible apply State.setBank_keeps k4
    | with_reducible apply State.showLeft_keeps k5
    | with_reducible apply ite_keeps
    | with_reducible refine forEach_keeps (fun _ _ _ => ?_) ?_
    | intro _
    | dsimp -simprocs only
    | dsimp only

end Sys2Proof.Machine
end

