-- ==== Sys2Proof/Laws/KeepsGauge.lean ====
section
/-! SUPPORT. What each operation of Machine/Gauge may do to State. -/
namespace Sys2Proof.Machine

theorem State.declare_keeps {κ : Nat} {σ : State} {s : State} {mode budget req : Nat} (hκ : Sub 245899 κ) (hσ : Keeps κ σ s) :
    Keeps κ σ (State.declare s mode budget req) := by
  have k0 : Sub 1 κ := Sub.trans (by decide : 1 &&& 245899 = 1) hκ
  have k1 : Sub 131072 κ := Sub.trans (by decide : 131072 &&& 245899 = 131072) hκ
  have k2 : Sub 131073 κ := Sub.trans (by decide : 131073 &&& 245899 = 131073) hκ
  have k3 : Sub 139 κ := Sub.trans (by decide : 139 &&& 245899 = 139) hκ
  have k4 : Sub 49291 κ := Sub.trans (by decide : 49291 &&& 245899 = 49291) hκ
  have k5 : Sub 245899 κ := Sub.trans (by decide : 245899 &&& 245899 = 245899) hκ
  unfold State.declare
  repeat' first
    | with_reducible assumption
    | with_reducible apply State.put_keeps k0
    | with_reducible apply State.onGau_keeps k1
    | with_reducible apply State.newFloor_keeps k2
    | with_reducible apply State.showLeft_keeps k3
    | with_reducible apply State.leaveFloor_keeps k4
    | with_reducible apply State.raise_keeps k3
    | with_reducible apply State.floorState_keeps k5
    | with_reducible apply ite_keeps
    | intro _
    | dsimp -simprocs only
    | dsimp only

theorem State.modeSet_keeps {κ : Nat} {σ : State} {s : State} {d : Desc} (hκ : Sub 245899 κ) (hσ : Keeps κ σ s) :
    Keeps κ σ (State.modeSet s d) := by
  have k0 : Sub 128 κ := Sub.trans (by decide : 128 &&& 245899 = 128) hκ
  have k1 : Sub 245899 κ := Sub.trans (by decide : 245899 &&& 245899 = 245899) hκ
  unfold State.modeSet
  repeat' first
    | with_reducible assumption
    | with_reducible apply State.finish_keeps k0
    | with_reducible apply State.declare_keeps k1
    | with_reducible apply ite_keeps
    | dsimp -simprocs only
    | dsimp only
    | split

theorem execModeSet_keeps {κ : Nat} {σ : State} {r : Nat} {s : State} (hκ : Sub 245899 κ) (hσ : Keeps κ σ s) :
    NextKeeps κ σ (execModeSet r s) := by
  have k0 : Sub 0 κ := Sub.trans (by decide : 0 &&& 245899 = 0) hκ
  have k1 : Sub 245899 κ := Sub.trans (by decide : 245899 &&& 245899 = 245899) hκ
  unfold execModeSet
  repeat' first
    | with_reducible assumption
    | with_reducible apply next_keeps
    | with_reducible apply ite_next_keeps
    | with_reducible apply State.withOp_keeps k0
    | with_reducible apply State.modeSet_keeps k1
    | intro _

theorem execGaugeEvaluate_keeps {κ : Nat} {σ : State} {s : State} (hκ : Sub 245899 κ) (hσ : Keeps κ σ s) :
    NextKeeps κ σ (execGaugeEvaluate s) := by
  have k0 : Sub 245899 κ := Sub.trans (by decide : 245899 &&& 245899 = 245899) hκ
  unfold execGaugeEvaluate
  repeat' first
    | with_reducible assumption
    | with_reducible apply next_keeps
    | with_reducible apply ite_next_keeps
    | with_reducible apply State.evaluate_keeps k0
    | with_reducible apply ite_keeps
    | split

theorem execSampleGap_keeps {κ : Nat} {σ : State} {b : Nat} {s : State} (hκ : Sub 131211 κ) (hσ : Keeps κ σ s) :
    NextKeeps κ σ (execSampleGap b s) := by
  have k0 : Sub 131211 κ := Sub.trans (by decide : 131211 &&& 131211 = 131211) hκ
  unfold execSampleGap
  repeat' first
    | with_reducible assumption
    | with_reducible apply next_keeps
    | with_reducible apply ite_next_keeps
    | with_reducible apply State.gapBegins_keeps k0
    | with_reducible apply ite_keeps

theorem State.gauLatch_keeps {κ : Nat} {σ : State} {s : State} {pid v : Nat} (hκ : Sub 1 κ) (hσ : Keeps κ σ s) :
    Keeps κ σ (State.gauLatch s pid v) := by
  have k0 : Sub 1 κ := Sub.trans (by decide : 1 &&& 1 = 1) hκ
  unfold State.gauLatch
  repeat' first
    | with_reducible assumption
    | with_reducible apply State.put_keeps k0
    | with_reducible apply ite_keeps
    | with_reducible refine forEach_keeps (fun _ _ _ => ?_) ?_
    | dsimp -simprocs only
    | dsimp only

theorem execGaugeLatch_keeps {κ : Nat} {σ : State} {pid val : Nat} {s : State} (hκ : Sub 1 κ) (hσ : Keeps κ σ s) :
    NextKeeps κ σ (execGaugeLatch pid val s) := by
  have k0 : Sub 1 κ := Sub.trans (by decide : 1 &&& 1 = 1) hκ
  unfold execGaugeLatch
  repeat' first
    | with_reducible assumption
    | with_reducible apply next_keeps
    | with_reducible apply ite_next_keeps
    | with_reducible apply State.gauLatch_keeps k0

theorem execLevelChangeDone_keeps {κ : Nat} {σ : State} {s : State} (hκ : Sub 147595 κ) (hσ : Keeps κ σ s) :
    NextKeeps κ σ (execLevelChangeDone s) := by
  have k0 : Sub 131072 κ := Sub.trans (by decide : 131072 &&& 147595 = 131072) hκ
  have k1 : Sub 1 κ := Sub.trans (by decide : 1 &&& 147595 = 1) hκ
  have k2 : Sub 139 κ := Sub.trans (by decide : 139 &&& 147595 = 139) hκ
  have k3 : Sub 16385 κ := Sub.trans (by decide : 16385 &&& 147595 = 16385) hκ
  unfold execLevelChangeDone
  repeat' first
    | with_reducible assumption
    | with_reducible apply next_keeps
    | with_reducible apply ite_next_keeps
    | with_reducible apply State.onGau_keeps k0
    | with_reducible apply State.put_keeps k1
    | with_reducible apply State.raise_keeps k2
    | with_reducible apply State.gaugeDue_keeps k0
    | with_reducible apply State.showEngines_keeps k1
    | with_reducible apply State.askChart_keeps k3
    | with_reducible apply ite_keeps
    | intro _
    | dsimp -simprocs only
    | dsimp only
    | split

end Sys2Proof.Machine
end

