-- ==== Sys2Proof/Laws/KeepsPairOps.lean ====
section
/-! SUPPORT. What each operation of Machine/PairOps may do to State. -/
namespace Sys2Proof.Machine

theorem State.silencePort_keeps {κ : Nat} {σ : State} {p : Nat} {s : State} (hκ : Sub 1675 κ) (hσ : Keeps κ σ s) :
    Keeps κ σ (State.silencePort p s) := by
  have k0 : Sub 2 κ := Sub.trans (by decide : 2 &&& 1675 = 2) hκ
  have k1 : Sub 128 κ := Sub.trans (by decide : 128 &&& 1675 = 128) hκ
  have k2 : Sub 1675 κ := Sub.trans (by decide : 1675 &&& 1675 = 1675) hκ
  unfold State.silencePort
  repeat' first
    | with_reducible assumption
    | with_reducible apply State.count_keeps k0
    | with_reducible apply State.endSend_keeps k1
    | with_reducible apply State.dropPort_keeps k2
    | with_reducible refine forEach_keeps (fun _ _ _ => ?_) ?_
    | intro _
    | dsimp -simprocs only
    | dsimp only

theorem State.silence_keeps {κ : Nat} {σ : State} {s : State} (hκ : Sub 1675 κ) (hσ : Keeps κ σ s) :
    Keeps κ σ (State.silence s) := by
  have k0 : Sub 1675 κ := Sub.trans (by decide : 1675 &&& 1675 = 1675) hκ
  unfold State.silence
  repeat' first
    | with_reducible assumption
    | with_reducible apply State.silencePort_keeps k0
    | with_reducible refine forEach_keeps (fun _ _ _ => ?_) ?_

theorem State.stand_keeps {κ : Nat} {σ : State} {s : State} (hκ : Sub 1675 κ) (hσ : Keeps κ σ s) :
    Keeps κ σ (State.stand s) := by
  have k0 : Sub 1 κ := Sub.trans (by decide : 1 &&& 1675 = 1) hκ
  have k1 : Sub 1675 κ := Sub.trans (by decide : 1675 &&& 1675 = 1675) hκ
  unfold State.stand
  repeat' first
    | with_reducible assumption
    | with_reducible apply State.holdTied_keeps k0
    | with_reducible apply State.silence_keeps k1

theorem State.setRole_keeps {κ : Nat} {σ : State} {s : State} {r : Nat} (hκ : Sub 1 κ) (hσ : Keeps κ σ s) :
    Keeps κ σ (State.setRole s r) := by
  have k0 : Sub 1 κ := Sub.trans (by decide : 1 &&& 1 = 1) hκ
  unfold State.setRole
  repeat' first
    | with_reducible assumption
    | with_reducible apply State.put_keeps k0

theorem State.clearMirror_keeps {κ : Nat} {σ : State} {s : State} (hκ : Sub 16802315 κ) (hσ : Keeps κ σ s) :
    Keeps κ σ (State.clearMirror s) := by
  have k0 : Sub 512 κ := Sub.trans (by decide : 512 &&& 16802315 = 512) hκ
  have k1 : Sub 16777216 κ := Sub.trans (by decide : 16777216 &&& 16802315 = 16777216) hκ
  have k2 : Sub 16801803 κ := Sub.trans (by decide : 16801803 &&& 16802315 = 16801803) hκ
  unfold State.clearMirror
  repeat' first
    | with_reducible assumption
    | with_reducible apply State.setCb_keeps k0
    | with_reducible apply State.onSwc_keeps k0
    | with_reducible apply State.onPai_keeps k1
    | with_reducible apply State.dropMirror_keeps k2
    | with_reducible refine forEach_keeps (fun _ _ _ => ?_) ?_
    | intro _
    | dsimp -simprocs only
    | dsimp only

theorem State.enterSyncing_keeps {κ : Nat} {σ : State} {s : State} (hκ : Sub 16777217 κ) (hσ : Keeps κ σ s) :
    Keeps κ σ (State.enterSyncing s) := by
  have k0 : Sub 1 κ := Sub.trans (by decide : 1 &&& 16777217 = 1) hκ
  have k1 : Sub 16777216 κ := Sub.trans (by decide : 16777216 &&& 16777217 = 16777216) hκ
  unfold State.enterSyncing
  repeat' first
    | with_reducible assumption
    | with_reducible apply State.setRole_keeps k0
    | with_reducible apply State.put_keeps k0
    | with_reducible apply State.onPai_keeps k1
    | intro _

theorem State.noteMirror_keeps {κ : Nat} {σ : State} {s : State} (hκ : Sub 16777216 κ) (hσ : Keeps κ σ s) :
    Keeps κ σ (State.noteMirror s) := by
  have k0 : Sub 16777216 κ := Sub.trans (by decide : 16777216 &&& 16777216 = 16777216) hκ
  unfold State.noteMirror
  repeat' first
    | with_reducible assumption
    | with_reducible apply State.onPai_keeps k0
    | with_reducible apply State.setMirTxq_keeps k0
    | with_reducible refine forEach_keeps (fun _ _ _ => ?_) ?_
    | intro _
    | dsimp -simprocs only
    | dsimp only

theorem State.sendMirror_keeps {κ : Nat} {σ : State} {b : Bytes} {s : State} (hκ : Sub 16777226 κ) (hσ : Keeps κ σ s) :
    Keeps κ σ (State.sendMirror b s) := by
  have k0 : Sub 16777226 κ := Sub.trans (by decide : 16777226 &&& 16777226 = 16777226) hκ
  have k1 : Sub 16777216 κ := Sub.trans (by decide : 16777216 &&& 16777226 = 16777216) hκ
  unfold State.sendMirror
  repeat' first
    | with_reducible assumption
    | with_reducible apply State.sendOn_keeps k0
    | with_reducible apply State.pairSeqStep_keeps k1
    | with_reducible apply State.onPai_keeps k1
    | with_reducible apply ite_keeps
    | intro _
    | dsimp -simprocs only
    | dsimp only

theorem State.mirror_keeps {κ : Nat} {σ : State} {s : State} (hκ : Sub 16777226 κ) (hσ : Keeps κ σ s) :
    Keeps κ σ (State.mirror s) := by
  have k0 : Sub 16777226 κ := Sub.trans (by decide : 16777226 &&& 16777226 = 16777226) hκ
  have k1 : Sub 16777216 κ := Sub.trans (by decide : 16777216 &&& 16777226 = 16777216) hκ
  unfold State.mirror
  repeat' first
    | with_reducible assumption
    | with_reducible apply State.sendMirror_keeps k0
    | with_reducible apply State.noteMirror_keeps k1
    | with_reducible apply ite_keeps
    | with_reducible refine forEach_keeps (fun _ _ _ => ?_) ?_

theorem State.resync_keeps {κ : Nat} {σ : State} {s : State} (hκ : Sub 16777226 κ) (hσ : Keeps κ σ s) :
    Keeps κ σ (State.resync s) := by
  have k0 : Sub 16777216 κ := Sub.trans (by decide : 16777216 &&& 16777226 = 16777216) hκ
  have k1 : Sub 16777226 κ := Sub.trans (by decide : 16777226 &&& 16777226 = 16777226) hκ
  unfold State.resync
  repeat' first
    | with_reducible assumption
    | with_reducible apply State.onPai_keeps k0
    | with_reducible apply State.sendMirror_keeps k1
    | with_reducible apply State.noteMirror_keeps k0
    | with_reducible refine forEach_keeps (fun _ _ _ => ?_) ?_
    | intro _
    | dsimp -simprocs only
    | dsimp only

theorem State.mirFdb_keeps {κ : Nat} {σ : State} {s : State} {b : Bytes} {remove : Bool} (hκ : Sub 512 κ) (hσ : Keeps κ σ s) :
    Keeps κ σ (State.mirFdb s b remove) := by
  have k0 : Sub 512 κ := Sub.trans (by decide : 512 &&& 512 = 512) hκ
  unfold State.mirFdb
  repeat' first
    | with_reducible assumption
    | with_reducible apply State.onSwc_keeps k0
    | with_reducible apply State.fdbPut_keeps k0
    | with_reducible apply ite_keeps
    | intro _
    | dsimp -simprocs only
    | dsimp only
    | split

theorem State.mirStream_keeps {κ : Nat} {σ : State} {s : State} {b : Bytes} {remove : Bool} (hκ : Sub 512 κ) (hσ : Keeps κ σ s) :
    Keeps κ σ (State.mirStream s b remove) := by
  have k0 : Sub 512 κ := Sub.trans (by decide : 512 &&& 512 = 512) hκ
  unfold State.mirStream
  repeat' first
    | with_reducible assumption
    | with_reducible apply State.setCb_keeps k0
    | with_reducible apply ite_keeps
    | dsimp -simprocs only
    | dsimp only

theorem State.mirTx_keeps {κ : Nat} {σ : State} {s : State} {b : Bytes} (hκ : Sub 16777216 κ) (hσ : Keeps κ σ s) :
    Keeps κ σ (State.mirTx s b) := by
  have k0 : Sub 16777216 κ := Sub.trans (by decide : 16777216 &&& 16777216 = 16777216) hκ
  unfold State.mirTx
  repeat' first
    | with_reducible assumption
    | with_reducible apply State.setMirTxq_keeps k0
    | with_reducible apply ite_keeps
    | dsimp -simprocs only
    | dsimp only

theorem State.gauTake_keeps {κ : Nat} {σ : State} {s : State} (hκ : Sub 131073 κ) (hσ : Keeps κ σ s) :
    Keeps κ σ (State.gauTake s) := by
  have k0 : Sub 1 κ := Sub.trans (by decide : 1 &&& 131073 = 1) hκ
  have k1 : Sub 131072 κ := Sub.trans (by decide : 131072 &&& 131073 = 131072) hκ
  unfold State.gauTake
  repeat' first
    | with_reducible assumption
    | with_reducible apply State.put_keeps k0
    | with_reducible apply State.onGau_keeps k1
    | with_reducible apply ite_keeps
    | with_reducible refine forEach_keeps (fun _ _ _ => ?_) ?_
    | intro _
    | dsimp -simprocs only
    | dsimp only

theorem State.synced_keeps {κ : Nat} {σ : State} {s : State} (hκ : Sub 131211 κ) (hσ : Keeps κ σ s) :
    Keeps κ σ (State.synced s) := by
  have k0 : Sub 1 κ := Sub.trans (by decide : 1 &&& 131211 = 1) hκ
  have k1 : Sub 139 κ := Sub.trans (by decide : 139 &&& 131211 = 139) hκ
  have k2 : Sub 131073 κ := Sub.trans (by decide : 131073 &&& 131211 = 131073) hκ
  unfold State.synced
  repeat' first
    | with_reducible assumption
    | with_reducible apply State.setRole_keeps k0
    | with_reducible apply State.put_keeps k0
    | with_reducible apply State.raise_keeps k1
    | with_reducible apply State.gauTake_keeps k2
    | with_reducible apply ite_keeps

theorem State.applyRec_keeps {κ : Nat} {σ : State} {cls op : Nat} {b : Bytes} {s : State} (hκ : Sub 16933515 κ) (hσ : Keeps κ σ s) :
    Keeps κ σ (State.applyRec cls op b s) := by
  have k0 : Sub 16802315 κ := Sub.trans (by decide : 16802315 &&& 16933515 = 16802315) hκ
  have k1 : Sub 131211 κ := Sub.trans (by decide : 131211 &&& 16933515 = 131211) hκ
  have k2 : Sub 512 κ := Sub.trans (by decide : 512 &&& 16933515 = 512) hκ
  have k3 : Sub 16777216 κ := Sub.trans (by decide : 16777216 &&& 16933515 = 16777216) hκ
  have k4 : Sub 131073 κ := Sub.trans (by decide : 131073 &&& 16933515 = 131073) hκ
  have k5 : Sub 16801803 κ := Sub.trans (by decide : 16801803 &&& 16933515 = 16801803) hκ
  unfold State.applyRec
  repeat' first
    | with_reducible assumption
    | with_reducible apply State.clearMirror_keeps k0
    | with_reducible apply State.synced_keeps k1
    | with_reducible apply State.mirFdb_keeps k2
    | with_reducible apply State.mirStream_keeps k2
    | with_reducible apply State.mirTx_keeps k3
    | with_reducible apply State.onPai_keeps k3
    | with_reducible apply State.gauTake_keeps k4
    | with_reducible apply State.dropMirror_keeps k5
    | with_reducible apply State.mirrorPlace_keeps k0
    | with_reducible apply ite_keeps
    | intro _
    | dsimp -simprocs only
    | dsimp only
    | split

theorem State.applyRecs_keeps {κ : Nat} {σ : State} {a0 : Nat} {a1 : Bytes} {a2 : State} (hκ : Sub 16933515 κ) (hσ : Keeps κ σ a2) :
    Keeps κ σ (State.applyRecs a0 a1 a2) := by
  have k0 : Sub 16933515 κ := Sub.trans (by decide : 16933515 &&& 16933515 = 16933515) hκ
  fun_induction State.applyRecs a0 a1 a2
  all_goals repeat' first
    | with_reducible assumption
    | with_reducible apply State.applyRec_keeps k0
    | with_reducible apply ite_keeps
    | dsimp -simprocs only
    | dsimp only
    | split
    | with_reducible apply_assumption

theorem State.applyHeld_keeps {κ : Nat} {σ : State} {a0 : Nat} {a1 : State} (hκ : Sub 16933515 κ) (hσ : Keeps κ σ a1) :
    Keeps κ σ (State.applyHeld a0 a1) := by
  have k0 : Sub 16777216 κ := Sub.trans (by decide : 16777216 &&& 16933515 = 16777216) hκ
  have k1 : Sub 16933515 κ := Sub.trans (by decide : 16933515 &&& 16933515 = 16933515) hκ
  fun_induction State.applyHeld a0 a1
  all_goals repeat' first
    | with_reducible assumption
    | with_reducible apply State.onPai_keeps k0
    | with_reducible apply State.applyRecs_keeps k1
    | intro _
    | dsimp -simprocs only
    | dsimp only
    | split
    | with_reducible apply_assumption

theorem State.mirrorIn_keeps {κ : Nat} {σ : State} {s : State} {seq : Nat} {b : Bytes} (hκ : Sub 16933515 κ) (hσ : Keeps κ σ s) :
    Keeps κ σ (State.mirrorIn s seq b) := by
  have k0 : Sub 16777216 κ := Sub.trans (by decide : 16777216 &&& 16933515 = 16777216) hκ
  have k1 : Sub 16933515 κ := Sub.trans (by decide : 16933515 &&& 16933515 = 16933515) hκ
  unfold State.mirrorIn
  repeat' first
    | with_reducible assumption
    | with_reducible apply State.onPai_keeps k0
    | with_reducible apply State.applyHeld_keeps k1
    | with_reducible apply ite_keeps
    | with_reducible apply ite_fst_keeps
    | intro _
    | dsimp -simprocs only
    | dsimp only
    | split

theorem State.mirAcked_keeps {κ : Nat} {σ : State} {s : State} {q : Nat} (hκ : Sub 16777216 κ) (hσ : Keeps κ σ s) :
    Keeps κ σ (State.mirAcked s q) := by
  have k0 : Sub 16777216 κ := Sub.trans (by decide : 16777216 &&& 16777216 = 16777216) hκ
  unfold State.mirAcked
  repeat' first
    | with_reducible assumption
    | with_reducible apply State.onPai_keeps k0
    | intro _

theorem State.takeCh_keeps {κ : Nat} {σ : State} {n : Nat} {s : State} (hκ : Sub 65537 κ) (hσ : Keeps κ σ s) :
    Keeps κ σ (State.takeCh n s) := by
  have k0 : Sub 65537 κ := Sub.trans (by decide : 65537 &&& 65537 = 65537) hκ
  have k1 : Sub 1 κ := Sub.trans (by decide : 1 &&& 65537 = 1) hκ
  have k2 : Sub 65536 κ := Sub.trans (by decide : 65536 &&& 65537 = 65536) hκ
  unfold State.takeCh
  repeat' first
    | with_reducible assumption
    | with_reducible apply State.resumeCh_keeps k0
    | with_reducible apply State.put_keeps k1
    | with_reducible apply State.setCh_keeps k2
    | with_reducible apply State.startCh_keeps k0
    | with_reducible apply State.toState_keeps k1
    | with_reducible apply State.set1_keeps k1
    | with_reducible apply ite_keeps
    | with_reducible refine forEach_keeps (fun _ _ _ => ?_) ?_
    | dsimp -simprocs only
    | dsimp only

theorem State.takeTx_keeps {κ : Nat} {σ : State} {x : Nat × Nat} {s : State} (hκ : Sub 262144 κ) (hσ : Keeps κ σ s) :
    Keeps κ σ (State.takeTx x s) := by
  have k0 : Sub 262144 κ := Sub.trans (by decide : 262144 &&& 262144 = 262144) hκ
  unfold State.takeTx
  repeat' first
    | with_reducible assumption
    | with_reducible apply State.setCtl_keeps k0
    | with_reducible apply ite_keeps
    | with_reducible apply ite_fst_keeps
    | dsimp -simprocs only
    | dsimp only

theorem State.takeShed_keeps {κ : Nat} {σ : State} {s : State} (hκ : Sub 65675 κ) (hσ : Keeps κ σ s) :
    Keeps κ σ (State.takeShed s) := by
  have k0 : Sub 1 κ := Sub.trans (by decide : 1 &&& 65675 = 1) hκ
  have k1 : Sub 65675 κ := Sub.trans (by decide : 65675 &&& 65675 = 65675) hκ
  unfold State.takeShed
  repeat' first
    | with_reducible assumption
    | with_reducible apply State.put_keeps k0
    | with_reducible apply State.writeShed_keeps k1
    | with_reducible apply ite_keeps
    | dsimp -simprocs only
    | dsimp only

theorem State.promote_keeps {κ : Nat} {σ : State} {s : State} {reason : Nat} (hκ : Sub 17260683 κ) (hσ : Keeps κ σ s) :
    Keeps κ σ (State.promote s reason) := by
  have k0 : Sub 1 κ := Sub.trans (by decide : 1 &&& 17260683 = 1) hκ
  have k1 : Sub 139 κ := Sub.trans (by decide : 139 &&& 17260683 = 139) hκ
  have k2 : Sub 16777226 κ := Sub.trans (by decide : 16777226 &&& 17260683 = 16777226) hκ
  have k3 : Sub 262144 κ := Sub.trans (by decide : 262144 &&& 17260683 = 262144) hκ
  have k4 : Sub 65537 κ := Sub.trans (by decide : 65537 &&& 17260683 = 65537) hκ
  have k5 : Sub 131073 κ := Sub.trans (by decide : 131073 &&& 17260683 = 131073) hκ
  have k6 : Sub 65675 κ := Sub.trans (by decide : 65675 &&& 17260683 = 65675) hκ
  have k7 : Sub 16801803 κ := Sub.trans (by decide : 16801803 &&& 17260683 = 16801803) hκ
  have k8 : Sub 16777216 κ := Sub.trans (by decide : 16777216 &&& 17260683 = 16777216) hκ
  unfold State.promote
  repeat' first
    | with_reducible assumption
    | with_reducible apply State.put_keeps k0
    | with_reducible apply State.setRole_keeps k0
    | with_reducible apply State.raise_keeps k1
    | with_reducible apply State.sendAll_keeps k2
    | with_reducible apply State.takeTx_keeps k3
    | with_reducible apply State.takeCh_keeps k4
    | with_reducible apply State.gauTake_keeps k5
    | with_reducible apply State.takeShed_keeps k6
    | with_reducible apply State.mirrorLive_keeps k7
    | with_reducible apply State.newFloor_keeps k5
    | with_reducible apply State.onPai_keeps k8
    | with_reducible refine forEach_keeps (fun _ _ _ => ?_) ?_
    | intro _
    | dsimp -simprocs only
    | dsimp only

theorem State.promoteOr_keeps {κ : Nat} {σ : State} {s : State} (hκ : Sub 17260683 κ) (hσ : Keeps κ σ s) :
    Keeps κ σ (State.promoteOr s) := by
  have k0 : Sub 1 κ := Sub.trans (by decide : 1 &&& 17260683 = 1) hκ
  have k1 : Sub 139 κ := Sub.trans (by decide : 139 &&& 17260683 = 139) hκ
  have k2 : Sub 17260683 κ := Sub.trans (by decide : 17260683 &&& 17260683 = 17260683) hκ
  unfold State.promoteOr
  repeat' first
    | with_reducible assumption
    | with_reducible apply State.setRole_keeps k0
    | with_reducible apply State.raise_keeps k1
    | with_reducible apply State.promote_keeps k2
    | with_reducible apply ite_keeps

theorem State.offCh_keeps {κ : Nat} {σ : State} {n : Nat} {s : State} (hκ : Sub 1 κ) (hσ : Keeps κ σ s) :
    Keeps κ σ (State.offCh n s) := by
  have k0 : Sub 1 κ := Sub.trans (by decide : 1 &&& 1 = 1) hκ
  unfold State.offCh
  repeat' first
    | with_reducible assumption
    | with_reducible apply State.put_keeps k0
    | with_reducible apply State.toState_keeps k0
    | with_reducible apply ite_keeps
    | with_reducible refine forEach_keeps (fun _ _ _ => ?_) ?_
    | dsimp -simprocs only
    | dsimp only

theorem State.endSwitch_keeps {κ : Nat} {σ : State} {s : State} {status result : Nat} (hκ : Sub 16777344 κ) (hσ : Keeps κ σ s) :
    Keeps κ σ (State.endSwitch s status result) := by
  have k0 : Sub 16777216 κ := Sub.trans (by decide : 16777216 &&& 16777344 = 16777216) hκ
  have k1 : Sub 128 κ := Sub.trans (by decide : 128 &&& 16777344 = 128) hκ
  unfold State.endSwitch
  repeat' first
    | with_reducible assumption
    | with_reducible apply State.onPai_keeps k0
    | with_reducible apply State.finish_keeps k1
    | intro _
    | dsimp -simprocs only
    | dsimp only
    | split

theorem State.demote_keeps {κ : Nat} {σ : State} {s : State} {term : Nat} (hκ : Sub 17196683 κ) (hσ : Keeps κ σ s) :
    Keeps κ σ (State.demote s term) := by
  have k0 : Sub 1 κ := Sub.trans (by decide : 1 &&& 17196683 = 1) hκ
  have k1 : Sub 16777217 κ := Sub.trans (by decide : 16777217 &&& 17196683 = 16777217) hκ
  have k2 : Sub 1675 κ := Sub.trans (by decide : 1675 &&& 17196683 = 1675) hκ
  have k3 : Sub 16802315 κ := Sub.trans (by decide : 16802315 &&& 17196683 = 16802315) hκ
  have k4 : Sub 131072 κ := Sub.trans (by decide : 131072 &&& 17196683 = 131072) hκ
  have k5 : Sub 262144 κ := Sub.trans (by decide : 262144 &&& 17196683 = 262144) hκ
  have k6 : Sub 262272 κ := Sub.trans (by decide : 262272 &&& 17196683 = 262272) hκ
  have k7 : Sub 16777216 κ := Sub.trans (by decide : 16777216 &&& 17196683 = 16777216) hκ
  have k8 : Sub 139 κ := Sub.trans (by decide : 139 &&& 17196683 = 139) hκ
  have k9 : Sub 16777344 κ := Sub.trans (by decide : 16777344 &&& 17196683 = 16777344) hκ
  unfold State.demote
  repeat' first
    | with_reducible assumption
    | with_reducible apply State.put_keeps k0
    | with_reducible apply State.enterSyncing_keeps k1
    | with_reducible apply State.offCh_keeps k0
    | with_reducible apply State.holdTied_keeps k0
    | with_reducible apply State.silence_keeps k2
    | with_reducible apply State.clearMirror_keeps k3
    | with_reducible apply State.onGau_keeps k4
    | with_reducible apply State.idleTx_keeps k5
    | with_reducible apply State.flushTx_keeps k6
    | with_reducible apply State.onPai_keeps k7
    | with_reducible apply State.raise_keeps k8
    | with_reducible apply State.endSwitch_keeps k9
    | with_reducible refine forEach_keeps (fun _ _ _ => ?_) ?_
    | intro _
    | dsimp -simprocs only
    | dsimp only

theorem State.takeLane_keeps {κ : Nat} {σ : State} {l : Nat} {s : State} (hκ : Sub 1675 κ) (hσ : Keeps κ σ s) :
    Keeps κ σ (State.takeLane l s) := by
  have k0 : Sub 128 κ := Sub.trans (by decide : 128 &&& 1675 = 128) hκ
  have k1 : Sub 1675 κ := Sub.trans (by decide : 1675 &&& 1675 = 1675) hκ
  have k2 : Sub 1 κ := Sub.trans (by decide : 1 &&& 1675 = 1) hκ
  have k3 : Sub 1025 κ := Sub.trans (by decide : 1025 &&& 1675 = 1025) hκ
  have k4 : Sub 139 κ := Sub.trans (by decide : 139 &&& 1675 = 139) hκ
  have k5 : Sub 2 κ := Sub.trans (by decide : 2 &&& 1675 = 2) hκ
  have k6 : Sub 1152 κ := Sub.trans (by decide : 1152 &&& 1675 = 1152) hκ
  unfold State.takeLane
  repeat' first
    | with_reducible assumption
    | with_reducible apply State.endSend_keeps k0
    | with_reducible apply State.dropPort_keeps k1
    | with_reducible apply State.put_keeps k2
    | with_reducible apply State.cancelPauses_keeps k3
    | with_reducible apply State.raise_keeps k4
    | with_reducible apply State.count_keeps k5
    | with_reducible apply State.loseFrames_keeps k6
    | with_reducible apply State.setLane_keeps k4
    | with_reducible apply ite_keeps
    | with_reducible refine forEach_keeps (fun _ _ _ => ?_) ?_
    | intro _
    | dsimp -simprocs only
    | dsimp only

theorem State.giveLane_keeps {κ : Nat} {σ : State} {l : Nat} {s : State} (hκ : Sub 1 κ) (hσ : Keeps κ σ s) :
    Keeps κ σ (State.giveLane l s) := by
  have k0 : Sub 1 κ := Sub.trans (by decide : 1 &&& 1 = 1) hκ
  unfold State.giveLane
  repeat' first
    | with_reducible assumption
    | with_reducible apply State.put_keeps k0
    | with_reducible apply State.swLinkUp_keeps k0
    | with_reducible apply ite_keeps
    | dsimp -simprocs only
    | dsimp only

theorem State.pairEnable_keeps {κ : Nat} {σ : State} {s : State} (hκ : Sub 16778891 κ) (hσ : Keeps κ σ s) :
    Keeps κ σ (State.pairEnable s) := by
  have k0 : Sub 1 κ := Sub.trans (by decide : 1 &&& 16778891 = 1) hκ
  have k1 : Sub 16777216 κ := Sub.trans (by decide : 16777216 &&& 16778891 = 16777216) hκ
  have k2 : Sub 1675 κ := Sub.trans (by decide : 1675 &&& 16778891 = 1675) hκ
  unfold State.pairEnable
  repeat' first
    | with_reducible assumption
    | with_reducible apply State.put_keeps k0
    | with_reducible apply State.setRole_keeps k0
    | with_reducible apply State.onPai_keeps k1
    | with_reducible apply State.takeLane_keeps k2
    | with_reducible apply State.stand_keeps k2
    | with_reducible apply ite_keeps
    | with_reducible refine forEach_keeps (fun _ _ _ => ?_) ?_
    | intro _
    | dsimp -simprocs only
    | dsimp only

theorem State.writeFailed_keeps {κ : Nat} {σ : State} {s : State} {n status : Nat} (hκ : Sub 128 κ) (hσ : Keeps κ σ s) :
    Keeps κ σ (State.writeFailed s n status) := by
  have k0 : Sub 128 κ := Sub.trans (by decide : 128 &&& 128 = 128) hκ
  unfold State.writeFailed
  repeat' first
    | with_reducible assumption
    | with_reducible apply State.setDescs_keeps k0

theorem State.bridgeEnd_keeps {κ : Nat} {σ : State} {s : State} {o : BrOut} {status : Nat} {data : Bytes} (hκ : Sub 16777691 κ) (hσ : Keeps κ σ s) :
    Keeps κ σ (State.bridgeEnd s o status data) := by
  have k0 : Sub 16777216 κ := Sub.trans (by decide : 16777216 &&& 16777691 = 16777216) hκ
  have k1 : Sub 16777691 κ := Sub.trans (by decide : 16777691 &&& 16777691 = 16777691) hκ
  have k2 : Sub 128 κ := Sub.trans (by decide : 128 &&& 16777691 = 128) hκ
  have k3 : Sub 16777226 κ := Sub.trans (by decide : 16777226 &&& 16777691 = 16777226) hκ
  unfold State.bridgeEnd
  repeat' first
    | with_reducible assumption
    | with_reducible apply State.onPai_keeps k0
    | with_reducible apply State.tagDone_keeps k1
    | with_reducible apply State.writeFailed_keeps k2
    | with_reducible apply State.answer_keeps k3
    | with_reducible apply ite_keeps
    | intro _
    | dsimp -simprocs only
    | dsimp only
    | split

theorem State.bridgeGot_keeps {κ : Nat} {σ : State} {s : State} {o : BrOut} {id status : Nat} {data : Bytes} (hκ : Sub 16777691 κ) (hσ : Keeps κ σ s) :
    Keeps κ σ (State.bridgeGot s o id status data) := by
  have k0 : Sub 16777216 κ := Sub.trans (by decide : 16777216 &&& 16777691 = 16777216) hκ
  have k1 : Sub 16777691 κ := Sub.trans (by decide : 16777691 &&& 16777691 = 16777691) hκ
  unfold State.bridgeGot
  repeat' first
    | with_reducible assumption
    | with_reducible apply State.onPai_keeps k0
    | with_reducible apply State.bridgeEnd_keeps k1
    | with_reducible apply ite_keeps
    | with_reducible apply ite_fst_keeps
    | intro _
    | dsimp -simprocs only
    | dsimp only
    | dsimp only [id]
    | split

theorem State.bridgePeer_keeps {κ : Nat} {σ : State} {id : Nat} {s : State} (hκ : Sub 16777691 κ) (hσ : Keeps κ σ s) :
    Keeps κ σ (State.bridgePeer id s) := by
  have k0 : Sub 2 κ := Sub.trans (by decide : 2 &&& 16777691 = 2) hκ
  have k1 : Sub 16777691 κ := Sub.trans (by decide : 16777691 &&& 16777691 = 16777691) hκ
  unfold State.bridgePeer
  repeat' first
    | with_reducible assumption
    | with_reducible apply State.count_keeps k0
    | with_reducible apply State.bridgeGot_keeps k1
    | dsimp only [id]
    | split

theorem State.bridgeDead_keeps {κ : Nat} {σ : State} {s : State} (hκ : Sub 16777691 κ) (hσ : Keeps κ σ s) :
    Keeps κ σ (State.bridgeDead s) := by
  have k0 : Sub 16777691 κ := Sub.trans (by decide : 16777691 &&& 16777691 = 16777691) hκ
  unfold State.bridgeDead
  repeat' first
    | with_reducible assumption
    | with_reducible apply State.bridgePeer_keeps k0
    | with_reducible refine forEach_keeps (fun _ _ _ => ?_) ?_

theorem State.pairDisable_keeps {κ : Nat} {σ : State} {s : State} (hκ : Sub 16803803 κ) (hσ : Keeps κ σ s) :
    Keeps κ σ (State.pairDisable s) := by
  have k0 : Sub 16777691 κ := Sub.trans (by decide : 16777691 &&& 16803803 = 16777691) hκ
  have k1 : Sub 16777344 κ := Sub.trans (by decide : 16777344 &&& 16803803 = 16777344) hκ
  have k2 : Sub 16777216 κ := Sub.trans (by decide : 16777216 &&& 16803803 = 16777216) hκ
  have k3 : Sub 1 κ := Sub.trans (by decide : 1 &&& 16803803 = 1) hκ
  have k4 : Sub 16801803 κ := Sub.trans (by decide : 16801803 &&& 16803803 = 16801803) hκ
  have k5 : Sub 1675 κ := Sub.trans (by decide : 1675 &&& 16803803 = 1675) hκ
  unfold State.pairDisable
  repeat' first
    | with_reducible assumption
    | with_reducible apply State.bridgeDead_keeps k0
    | with_reducible apply State.endSwitch_keeps k1
    | with_reducible apply State.onPai_keeps k2
    | with_reducible apply State.put_keeps k3
    | with_reducible apply State.setRole_keeps k3
    | with_reducible apply State.dropMirror_keeps k4
    | with_reducible apply State.giveLane_keeps k3
    | with_reducible apply State.stand_keeps k5
    | with_reducible apply ite_keeps
    | with_reducible refine forEach_keeps (fun _ _ _ => ?_) ?_
    | intro _
    | dsimp -simprocs only
    | dsimp only

theorem State.paiCtl_keeps {κ : Nat} {σ : State} {s : State} {pid v : Nat} (hκ : Sub 16803803 κ) (hσ : Keeps κ σ s) :
    Keeps κ σ (State.paiCtl s pid v) := by
  have k0 : Sub 1 κ := Sub.trans (by decide : 1 &&& 16803803 = 1) hκ
  have k1 : Sub 16778891 κ := Sub.trans (by decide : 16778891 &&& 16803803 = 16778891) hκ
  have k2 : Sub 16803803 κ := Sub.trans (by decide : 16803803 &&& 16803803 = 16803803) hκ
  unfold State.paiCtl
  repeat' first
    | with_reducible assumption
    | with_reducible apply State.put_keeps k0
    | with_reducible apply State.pairEnable_keeps k1
    | with_reducible apply State.pairDisable_keeps k2
    | with_reducible apply ite_keeps
    | dsimp -simprocs only
    | dsimp only

end Sys2Proof.Machine
end

