-- ==== Sys2Proof/Laws/KeepsReset.lean ====
section
/-! SUPPORT. What each operation of Machine/Reset may do to State. -/
namespace Sys2Proof.Machine

theorem State.onWak_keeps {κ : Nat} {σ : State} {s : State} {f : Wak → Wak} (hκ : Sub 4096 κ) (hσ : Keeps κ σ s) :
    Keeps κ σ (State.onWak s f) := by
  have k0 : Sub 4096 κ := Sub.trans (by decide : 4096 &&& 4096 = 4096) hκ
  unfold State.onWak
  repeat' first
    | with_reducible assumption
    | with_reducible apply State.setWak_keeps k0

theorem State.onPow_keeps {κ : Nat} {σ : State} {s : State} {f : Pow → Pow} (hκ : Sub 524288 κ) (hσ : Keeps κ σ s) :
    Keeps κ σ (State.onPow s f) := by
  have k0 : Sub 524288 κ := Sub.trans (by decide : 524288 &&& 524288 = 524288) hκ
  unfold State.onPow
  repeat' first
    | with_reducible assumption
    | with_reducible apply State.setPow_keeps k0

theorem State.onBoo_keeps {κ : Nat} {σ : State} {s : State} {f : Boo → Boo} (hκ : Sub 8388608 κ) (hσ : Keeps κ σ s) :
    Keeps κ σ (State.onBoo s f) := by
  have k0 : Sub 8388608 κ := Sub.trans (by decide : 8388608 &&& 8388608 = 8388608) hκ
  unfold State.onBoo
  repeat' first
    | with_reducible assumption
    | with_reducible apply State.setBoo_keeps k0

theorem State.tearFlash_keeps {κ : Nat} {σ : State} {o : FlashOp} {s : State} (hκ : Sub 20 κ) (hσ : Keeps κ σ s) :
    Keeps κ σ (State.tearFlash o s) := by
  have k0 : Sub 4 κ := Sub.trans (by decide : 4 &&& 20 = 4) hκ
  have k1 : Sub 16 κ := Sub.trans (by decide : 16 &&& 20 = 16) hκ
  unfold State.tearFlash
  repeat' first
    | with_reducible assumption
    | with_reducible apply State.writeBytes_keeps k0
    | with_reducible apply State.drawn_keeps k1

theorem State.unlinkDie_keeps {κ : Nat} {σ : State} {b : Nat} {s : State} (hκ : Sub 65675 κ) (hσ : Keeps κ σ s) :
    Keeps κ σ (State.unlinkDie b s) := by
  have k0 : Sub 65675 κ := Sub.trans (by decide : 65675 &&& 65675 = 65675) hκ
  unfold State.unlinkDie
  repeat' first
    | with_reducible assumption
    | with_reducible apply State.setBank_keeps k0

theorem State.clearLogic_keeps {κ : Nat} {σ : State} {s : State} {warm : Bool} (hκ : Sub 32964559 κ) (hσ : Keeps κ σ s) :
    Keeps κ σ (State.clearLogic s warm) := by
  have off : ∀ {i : Nat} {p : Prop}, κ.testBit i = false → Nat.testBit 32964559 i = true → p := fun z w =>
    absurd ((Sub.bit hκ z).symm.trans w) Bool.false_ne_true
  exact ⟨fun w => storeFilter_wf _ _ _ (hσ.mem_wf w), fun w => storeFilter_wf _ _ _ (hσ.regs_wf w), fun w => storeFilter_wf _ _ _ (hσ.cnts_wf w),
    hσ.pending, hσ.out_adds, hσ.fresh_le,
    hσ.now_le, fun z => off z (by decide), fun z => off z (by decide),
    fun z => off z (by decide), hσ.out, hσ.fresh,
    hσ.now, fun z => off z (by decide), fun z => off z (by decide),
    fun z => off z (by decide), fun z => off z (by decide), fun z => off z (by decide),
    fun z => off z (by decide), hσ.wak, fun z => off z (by decide),
    fun z => off z (by decide), fun z => off z (by decide), hσ.ldc,
    fun z => off z (by decide), fun z => off z (by decide), hσ.pow,
    fun z => off z (by decide), fun z => off z (by decide), fun z => off z (by decide),
    fun z => off z (by decide), fun z => off z (by decide)⟩

theorem State.resetLogic_keeps {κ : Nat} {σ : State} {s : State} {warm : Bool} (hκ : Sub 33554399 κ) (hσ : Keeps κ σ s) :
    Keeps κ σ (State.resetLogic s warm) := by
  have k0 : Sub 20 κ := Sub.trans (by decide : 20 &&& 33554399 = 20) hκ
  have k1 : Sub 8216 κ := Sub.trans (by decide : 8216 &&& 33554399 = 8216) hκ
  have k2 : Sub 32964559 κ := Sub.trans (by decide : 32964559 &&& 33554399 = 32964559) hκ
  have k3 : Sub 65675 κ := Sub.trans (by decide : 65675 &&& 33554399 = 65675) hκ
  have k4 : Sub 524288 κ := Sub.trans (by decide : 524288 &&& 33554399 = 524288) hκ
  have k5 : Sub 4096 κ := Sub.trans (by decide : 4096 &&& 33554399 = 4096) hκ
  have k6 : Sub 1 κ := Sub.trans (by decide : 1 &&& 33554399 = 1) hκ
  unfold State.resetLogic
  repeat' first
    | with_reducible assumption
    | with_reducible apply State.tearFlash_keeps k0
    | with_reducible apply State.rampDown_keeps k1
    | with_reducible apply State.clearLogic_keeps k2
    | with_reducible apply State.unlinkDie_keeps k3
    | with_reducible apply State.onPow_keeps k4
    | with_reducible apply State.onWak_keeps k5
    | with_reducible apply State.put_keeps k6
    | with_reducible apply ite_keeps
    | with_reducible refine forEach_keeps (fun _ _ _ => ?_) ?_
    | intro _
    | dsimp -simprocs only
    | dsimp only

theorem State.lastFrame_keeps {κ : Nat} {σ : State} {p : Nat} {s : State} (hκ : Sub 3291 κ) (hσ : Keeps κ σ s) :
    Keeps κ σ (State.lastFrame p s) := by
  have k0 : Sub 3291 κ := Sub.trans (by decide : 3291 &&& 3291 = 3291) hκ
  unfold State.lastFrame
  repeat' first
    | with_reducible assumption
    | with_reducible apply State.txEnd_keeps k0
    | with_reducible apply ite_keeps

theorem State.windDown_keeps {κ : Nat} {σ : State} {s : State} (hκ : Sub 68827 κ) (hσ : Keeps κ σ s) :
    Keeps κ σ (State.windDown s) := by
  have k0 : Sub 3291 κ := Sub.trans (by decide : 3291 &&& 68827 = 3291) hκ
  have k1 : Sub 65675 κ := Sub.trans (by decide : 65675 &&& 68827 = 65675) hκ
  have k2 : Sub 139 κ := Sub.trans (by decide : 139 &&& 68827 = 139) hκ
  unfold State.windDown
  repeat' first
    | with_reducible assumption
    | with_reducible apply State.lastFrame_keeps k0
    | with_reducible apply State.castOffAll_keeps k1
    | with_reducible apply State.frogRound_keeps k2
    | with_reducible refine forEach_keeps (fun _ _ _ => ?_) ?_
    | dsimp -simprocs only
    | dsimp only

theorem State.stopLogic_keeps {κ : Nat} {σ : State} {s : State} (hκ : Sub 33554399 κ) (hσ : Keeps κ σ s) :
    Keeps κ σ (State.stopLogic s) := by
  have k0 : Sub 33554399 κ := Sub.trans (by decide : 33554399 &&& 33554399 = 33554399) hκ
  have k1 : Sub 524288 κ := Sub.trans (by decide : 524288 &&& 33554399 = 524288) hκ
  unfold State.stopLogic
  repeat' first
    | with_reducible assumption
    | with_reducible apply State.resetLogic_keeps k0
    | with_reducible apply State.onPow_keeps k1
    | intro _

theorem State.latticeLock_keeps {κ : Nat} {σ : State} {s : State} (hκ : Sub 2065 κ) (hσ : Keeps κ σ s) :
    Keeps κ σ (State.latticeLock s) := by
  have k0 : Sub 1 κ := Sub.trans (by decide : 1 &&& 2065 = 1) hκ
  have k1 : Sub 16 κ := Sub.trans (by decide : 16 &&& 2065 = 16) hκ
  have k2 : Sub 2048 κ := Sub.trans (by decide : 2048 &&& 2065 = 2048) hκ
  unfold State.latticeLock
  repeat' first
    | with_reducible assumption
    | with_reducible apply State.put_keeps k0
    | with_reducible apply State.putNow_keeps k0
    | with_reducible apply State.wr_keeps k0
    | with_reducible apply State.drawn_keeps k1
    | with_reducible apply State.onTim_keeps k2
    | with_reducible apply ite_keeps
    | intro _
    | dsimp -simprocs only
    | dsimp only
    | split

end Sys2Proof.Machine
end

