-- ==== Sys2Proof/Laws/KeepsWakeOps.lean ====
section
/-! SUPPORT. What each operation of Machine/WakeOps may do to State. -/
namespace Sys2Proof.Machine

theorem State.wakRaise_keeps {κ : Nat} {σ : State} {s : State} {e : Fld} (hκ : Sub 139 κ) (hσ : Keeps κ σ s) :
    Keeps κ σ (State.wakRaise s e) := by
  have k0 : Sub 139 κ := Sub.trans (by decide : 139 &&& 139 = 139) hκ
  unfold State.wakRaise
  repeat' first
    | with_reducible assumption
    | with_reducible apply State.raise_keeps k0
    | with_reducible apply ite_keeps

theorem State.falseWake_keeps {κ : Nat} {σ : State} {s : State} {src : Nat} (hκ : Sub 4235 κ) (hσ : Keeps κ σ s) :
    Keeps κ σ (State.falseWake s src) := by
  have k0 : Sub 2 κ := Sub.trans (by decide : 2 &&& 4235 = 2) hκ
  have k1 : Sub 139 κ := Sub.trans (by decide : 139 &&& 4235 = 139) hκ
  have k2 : Sub 4096 κ := Sub.trans (by decide : 4096 &&& 4235 = 4096) hκ
  have k3 : Sub 1 κ := Sub.trans (by decide : 1 &&& 4235 = 1) hκ
  unfold State.falseWake
  repeat' first
    | with_reducible assumption
    | with_reducible apply State.count_keeps k0
    | with_reducible apply State.wakRaise_keeps k1
    | with_reducible apply State.onWak_keeps k2
    | with_reducible apply State.set1_keeps k3
    | with_reducible apply ite_keeps
    | intro _
    | dsimp -simprocs only
    | dsimp only

theorem State.windowEnd_keeps {κ : Nat} {σ : State} {x : Nat × WakeWin} {s : State} (hκ : Sub 4235 κ) (hσ : Keeps κ σ s) :
    Keeps κ σ (State.windowEnd x s) := by
  have k0 : Sub 4096 κ := Sub.trans (by decide : 4096 &&& 4235 = 4096) hκ
  have k1 : Sub 4235 κ := Sub.trans (by decide : 4235 &&& 4235 = 4235) hκ
  unfold State.windowEnd
  repeat' first
    | with_reducible assumption
    | with_reducible apply State.onWak_keeps k0
    | with_reducible apply State.falseWake_keeps k1
    | with_reducible apply ite_keeps
    | with_reducible apply ite_fst_keeps
    | intro _
    | dsimp -simprocs only
    | dsimp only

theorem State.windowsEnd_keeps {κ : Nat} {σ : State} {s : State} (hκ : Sub 4235 κ) (hσ : Keeps κ σ s) :
    Keeps κ σ (State.windowsEnd s) := by
  have k0 : Sub 4235 κ := Sub.trans (by decide : 4235 &&& 4235 = 4235) hκ
  unfold State.windowsEnd
  repeat' first
    | with_reducible assumption
    | with_reducible apply State.windowEnd_keeps k0
    | with_reducible refine forEach_keeps (fun _ _ _ => ?_) ?_

theorem State.backoffEnd_keeps {κ : Nat} {σ : State} {s : State} {src : Nat} (hκ : Sub 4097 κ) (hσ : Keeps κ σ s) :
    Keeps κ σ (State.backoffEnd s src) := by
  have k0 : Sub 1 κ := Sub.trans (by decide : 1 &&& 4097 = 1) hκ
  have k1 : Sub 4096 κ := Sub.trans (by decide : 4096 &&& 4097 = 4096) hκ
  unfold State.backoffEnd
  repeat' first
    | with_reducible assumption
    | with_reducible apply State.clr1_keeps k0
    | with_reducible apply State.onWak_keeps k1
    | with_reducible apply ite_keeps
    | intro _

theorem State.openWindow_keeps {κ : Nat} {σ : State} {src : Nat} {s : State} (hκ : Sub 4096 κ) (hσ : Keeps κ σ s) :
    Keeps κ σ (State.openWindow src s) := by
  have k0 : Sub 4096 κ := Sub.trans (by decide : 4096 &&& 4096 = 4096) hκ
  unfold State.openWindow
  repeat' first
    | with_reducible assumption
    | with_reducible apply State.onWak_keeps k0
    | intro _
    | dsimp -simprocs only
    | dsimp only

theorem State.enterRun_keeps {κ : Nat} {σ : State} {s : State} (hκ : Sub 4235 κ) (hσ : Keeps κ σ s) :
    Keeps κ σ (State.enterRun s) := by
  have k0 : Sub 1 κ := Sub.trans (by decide : 1 &&& 4235 = 1) hκ
  have k1 : Sub 4096 κ := Sub.trans (by decide : 4096 &&& 4235 = 4096) hκ
  have k2 : Sub 139 κ := Sub.trans (by decide : 139 &&& 4235 = 139) hκ
  unfold State.enterRun
  repeat' first
    | with_reducible assumption
    | with_reducible apply State.put_keeps k0
    | with_reducible apply State.openWindow_keeps k1
    | with_reducible apply State.raise_keeps k2
    | with_reducible apply State.onWak_keeps k1
    | with_reducible apply ite_keeps
    | with_reducible refine forEach_keeps (fun _ _ _ => ?_) ?_
    | intro _
    | dsimp -simprocs only
    | dsimp only

theorem State.sleepEnds_keeps {κ : Nat} {σ : State} {s : State} {status result : Nat} (hκ : Sub 4224 κ) (hσ : Keeps κ σ s) :
    Keeps κ σ (State.sleepEnds s status result) := by
  have k0 : Sub 128 κ := Sub.trans (by decide : 128 &&& 4224 = 128) hκ
  have k1 : Sub 4096 κ := Sub.trans (by decide : 4096 &&& 4224 = 4096) hκ
  unfold State.sleepEnds
  repeat' first
    | with_reducible assumption
    | with_reducible apply State.finish_keeps k0
    | with_reducible apply State.onWak_keeps k1
    | intro _
    | dsimp -simprocs only
    | dsimp only
    | split

theorem State.sleepAbort_keeps {κ : Nat} {σ : State} {s : State} {src : Nat} (hκ : Sub 4235 κ) (hσ : Keeps κ σ s) :
    Keeps κ σ (State.sleepAbort s src) := by
  have k0 : Sub 4224 κ := Sub.trans (by decide : 4224 &&& 4235 = 4224) hκ
  have k1 : Sub 4235 κ := Sub.trans (by decide : 4235 &&& 4235 = 4235) hκ
  unfold State.sleepAbort
  repeat' first
    | with_reducible assumption
    | with_reducible apply State.sleepEnds_keeps k0
    | with_reducible apply State.enterRun_keeps k1

theorem State.sleepStop_keeps {κ : Nat} {σ : State} {d : Desc} {s : State} (hκ : Sub 9437317 κ) (hσ : Keeps κ σ s) :
    Keeps κ σ (State.sleepStop d s) := by
  have k0 : Sub 128 κ := Sub.trans (by decide : 128 &&& 9437317 = 128) hκ
  have k1 : Sub 8388741 κ := Sub.trans (by decide : 8388741 &&& 9437317 = 8388741) hκ
  have k2 : Sub 1048576 κ := Sub.trans (by decide : 1048576 &&& 9437317 = 1048576) hκ
  unfold State.sleepStop
  repeat' first
    | with_reducible assumption
    | with_reducible apply State.recvEnd_keeps k0
    | with_reducible apply State.stopStitched_keeps k1
    | with_reducible apply State.dropWork_keeps k2
    | with_reducible apply ite_keeps

theorem State.sleepGo_keeps {κ : Nat} {σ : State} {s : State} {a0 : List Nat} (hκ : Sub 26243215 κ) (hσ : Keeps κ σ s) :
    Keeps κ σ (State.sleepGo s a0) := by
  have k0 : Sub 4096 κ := Sub.trans (by decide : 4096 &&& 26243215 = 4096) hκ
  have k1 : Sub 4235 κ := Sub.trans (by decide : 4235 &&& 26243215 = 4235) hκ
  have k2 : Sub 9437317 κ := Sub.trans (by decide : 9437317 &&& 26243215 = 9437317) hκ
  have k3 : Sub 16801803 κ := Sub.trans (by decide : 16801803 &&& 26243215 = 16801803) hκ
  unfold State.sleepGo
  repeat' first
    | with_reducible assumption
    | with_reducible apply State.onWak_keeps k0
    | with_reducible apply State.sleepAbort_keeps k1
    | with_reducible apply State.sleepStop_keeps k2
    | with_reducible apply State.dropLoads_keeps k3
    | with_reducible refine forEach_keeps (fun _ _ _ => ?_) ?_
    | intro _
    | split

theorem State.sleepStart_keeps {κ : Nat} {σ : State} {s : State} {d : Desc} {mode : Nat} (hκ : Sub 26243215 κ) (hσ : Keeps κ σ s) :
    Keeps κ σ (State.sleepStart s d mode) := by
  have k0 : Sub 128 κ := Sub.trans (by decide : 128 &&& 26243215 = 128) hκ
  have k1 : Sub 1 κ := Sub.trans (by decide : 1 &&& 26243215 = 1) hκ
  have k2 : Sub 4096 κ := Sub.trans (by decide : 4096 &&& 26243215 = 4096) hκ
  have k3 : Sub 26243215 κ := Sub.trans (by decide : 26243215 &&& 26243215 = 26243215) hκ
  unfold State.sleepStart
  repeat' first
    | with_reducible assumption
    | with_reducible apply State.hold_keeps k0
    | with_reducible apply State.put_keeps k1
    | with_reducible apply State.onWak_keeps k2
    | with_reducible apply State.sleepGo_keeps k3
    | intro _
    | dsimp -simprocs only
    | dsimp only

theorem State.sleepOp_keeps {κ : Nat} {σ : State} {s : State} {d : Desc} (hκ : Sub 26243215 κ) (hσ : Keeps κ σ s) :
    Keeps κ σ (State.sleepOp s d) := by
  have k0 : Sub 128 κ := Sub.trans (by decide : 128 &&& 26243215 = 128) hκ
  have k1 : Sub 4235 κ := Sub.trans (by decide : 4235 &&& 26243215 = 4235) hκ
  have k2 : Sub 26243215 κ := Sub.trans (by decide : 26243215 &&& 26243215 = 26243215) hκ
  unfold State.sleepOp
  repeat' first
    | with_reducible assumption
    | with_reducible apply State.finish_keeps k0
    | with_reducible apply State.windowsEnd_keeps k1
    | with_reducible apply State.sleepStart_keeps k2
    | with_reducible apply ite_keeps
    | dsimp -simprocs only
    | dsimp only

theorem State.dozePort_keeps {κ : Nat} {σ : State} {p : Nat} {s : State} (hκ : Sub 5771 κ) (hσ : Keeps κ σ s) :
    Keeps κ σ (State.dozePort p s) := by
  have k0 : Sub 5771 κ := Sub.trans (by decide : 5771 &&& 5771 = 5771) hκ
  have k1 : Sub 4096 κ := Sub.trans (by decide : 4096 &&& 5771 = 4096) hκ
  unfold State.dozePort
  repeat' first
    | with_reducible assumption
    | with_reducible apply State.macOff_keeps k0
    | with_reducible apply State.dozePorts_keeps k1
    | with_reducible apply ite_keeps
    | dsimp -simprocs only
    | dsimp only

theorem State.engineOff_keeps {κ : Nat} {σ : State} {e : Nat} {s : State} (hκ : Sub 1 κ) (hσ : Keeps κ σ s) :
    Keeps κ σ (State.engineOff e s) := by
  have k0 : Sub 1 κ := Sub.trans (by decide : 1 &&& 1 = 1) hκ
  unfold State.engineOff
  repeat' first
    | with_reducible assumption
    | with_reducible apply State.put_keeps k0
    | with_reducible apply ite_keeps

theorem State.enterDoze_keeps {κ : Nat} {σ : State} {s : State} (hκ : Sub 16971403 κ) (hσ : Keeps κ σ s) :
    Keeps κ σ (State.enterDoze s) := by
  have k0 : Sub 32769 κ := Sub.trans (by decide : 32769 &&& 16971403 = 32769) hκ
  have k1 : Sub 1 κ := Sub.trans (by decide : 1 &&& 16971403 = 1) hκ
  have k2 : Sub 5771 κ := Sub.trans (by decide : 5771 &&& 16971403 = 5771) hκ
  have k3 : Sub 16801802 κ := Sub.trans (by decide : 16801802 &&& 16971403 = 16801802) hκ
  have k4 : Sub 8192 κ := Sub.trans (by decide : 8192 &&& 16971403 = 8192) hκ
  have k5 : Sub 131073 κ := Sub.trans (by decide : 131073 &&& 16971403 = 131073) hκ
  have k6 : Sub 4096 κ := Sub.trans (by decide : 4096 &&& 16971403 = 4096) hκ
  unfold State.enterDoze
  repeat' first
    | with_reducible assumption
    | with_reducible apply State.haltCores_keeps k0
    | with_reducible apply State.put_keeps k1
    | with_reducible apply State.dozePort_keeps k2
    | with_reducible apply State.engineOff_keeps k1
    | with_reducible apply State.dropShadow_keeps k3
    | with_reducible apply State.countEngines_keeps k1
    | with_reducible apply State.chartIdle_keeps k1
    | with_reducible apply State.onAud_keeps k4
    | with_reducible apply State.grantLevel_keeps k5
    | with_reducible apply State.onWak_keeps k6
    | with_reducible apply ite_keeps
    | with_reducible refine forEach_keeps (fun _ _ _ => ?_) ?_
    | intro _
    | dsimp -simprocs only
    | dsimp only

theorem State.commit_keeps {κ : Nat} {σ : State} {s : State} (hκ : Sub 528384 κ) (hσ : Keeps κ σ s) :
    Keeps κ σ (State.commit s) := by
  have k0 : Sub 524288 κ := Sub.trans (by decide : 524288 &&& 528384 = 524288) hκ
  have k1 : Sub 4096 κ := Sub.trans (by decide : 4096 &&& 528384 = 4096) hκ
  unfold State.commit
  repeat' first
    | with_reducible assumption
    | with_reducible apply State.onPow_keeps k0
    | with_reducible apply State.onWak_keeps k1
    | intro _

theorem State.sleepClose_keeps {κ : Nat} {σ : State} {s : State} (hκ : Sub 33554399 κ) (hσ : Keeps κ σ s) :
    Keeps κ σ (State.sleepClose s) := by
  have k0 : Sub 4224 κ := Sub.trans (by decide : 4224 &&& 33554399 = 4224) hκ
  have k1 : Sub 17301967 κ := Sub.trans (by decide : 17301967 &&& 33554399 = 17301967) hκ
  have k2 : Sub 68827 κ := Sub.trans (by decide : 68827 &&& 33554399 = 68827) hκ
  have k3 : Sub 33554399 κ := Sub.trans (by decide : 33554399 &&& 33554399 = 33554399) hκ
  unfold State.sleepClose
  repeat' first
    | with_reducible assumption
    | with_reducible apply State.sleepEnds_keeps k0
    | with_reducible apply State.complete_keeps k1
    | with_reducible apply State.windDown_keeps k2
    | with_reducible apply State.stopLogic_keeps k3
    | dsimp -simprocs only
    | dsimp only
    | split

theorem State.sleepDue_keeps {κ : Nat} {σ : State} {s : State} (hκ : Sub 33554399 κ) (hσ : Keeps κ σ s) :
    Keeps κ σ (State.sleepDue s) := by
  have k0 : Sub 33554399 κ := Sub.trans (by decide : 33554399 &&& 33554399 = 33554399) hκ
  unfold State.sleepDue
  repeat' first
    | with_reducible assumption
    | with_reducible apply State.sleepClose_keeps k0
    | with_reducible apply ite_keeps

theorem State.sleepOn_keeps {κ : Nat} {σ : State} {s : State} (hκ : Sub 17757835 κ) (hσ : Keeps κ σ s) :
    Keeps κ σ (State.sleepOn s) := by
  have k0 : Sub 262145 κ := Sub.trans (by decide : 262145 &&& 17757835 = 262145) hκ
  have k1 : Sub 4224 κ := Sub.trans (by decide : 4224 &&& 17757835 = 4224) hκ
  have k2 : Sub 16971403 κ := Sub.trans (by decide : 16971403 &&& 17757835 = 16971403) hκ
  have k3 : Sub 528384 κ := Sub.trans (by decide : 528384 &&& 17757835 = 528384) hκ
  unfold State.sleepOn
  repeat' first
    | with_reducible assumption
    | with_reducible apply State.moveTrcv_keeps k0
    | with_reducible apply State.sleepEnds_keeps k1
    | with_reducible apply State.enterDoze_keeps k2
    | with_reducible apply State.commit_keeps k3
    | with_reducible apply ite_keeps
    | with_reducible refine forEach_keeps (fun _ _ _ => ?_) ?_
    | dsimp -simprocs only
    | dsimp only

theorem State.recordWake_keeps {κ : Nat} {σ : State} {s : State} {src : Nat} {after doze : Bool} (hκ : Sub 4099 κ) (hσ : Keeps κ σ s) :
    Keeps κ σ (State.recordWake s src after doze) := by
  have k0 : Sub 1 κ := Sub.trans (by decide : 1 &&& 4099 = 1) hκ
  have k1 : Sub 2 κ := Sub.trans (by decide : 2 &&& 4099 = 2) hκ
  have k2 : Sub 4096 κ := Sub.trans (by decide : 4096 &&& 4099 = 4096) hκ
  unfold State.recordWake
  repeat' first
    | with_reducible assumption
    | with_reducible apply State.set1_keeps k0
    | with_reducible apply State.count_keeps k1
    | with_reducible apply State.put_keeps k0
    | with_reducible apply State.onWak_keeps k2
    | with_reducible apply ite_keeps
    | intro _
    | dsimp -simprocs only
    | dsimp only

theorem State.dozeWake_keeps {κ : Nat} {σ : State} {s : State} (hκ : Sub 185483 κ) (hσ : Keeps κ σ s) :
    Keeps κ σ (State.dozeWake s) := by
  have k0 : Sub 4096 κ := Sub.trans (by decide : 4096 &&& 185483 = 4096) hκ
  have k1 : Sub 4235 κ := Sub.trans (by decide : 4235 &&& 185483 = 4235) hκ
  have k2 : Sub 32769 κ := Sub.trans (by decide : 32769 &&& 185483 = 32769) hκ
  have k3 : Sub 139 κ := Sub.trans (by decide : 139 &&& 185483 = 139) hκ
  have k4 : Sub 5129 κ := Sub.trans (by decide : 5129 &&& 185483 = 5129) hκ
  have k5 : Sub 131072 κ := Sub.trans (by decide : 131072 &&& 185483 = 131072) hκ
  have k6 : Sub 16385 κ := Sub.trans (by decide : 16385 &&& 185483 = 16385) hκ
  unfold State.dozeWake
  repeat' first
    | with_reducible assumption
    | with_reducible apply State.dozePorts_keeps k0
    | with_reducible apply State.enterRun_keeps k1
    | with_reducible apply State.haltCores_keeps k2
    | with_reducible apply State.raise_keeps k3
    | with_reducible apply State.macOn_keeps k4
    | with_reducible apply State.gaugeDue_keeps k5
    | with_reducible apply State.askChart_keeps k6
    | with_reducible refine forEach_keeps (fun _ _ _ => ?_) ?_
    | dsimp -simprocs only
    | dsimp only

theorem State.wakeEvent_keeps {κ : Nat} {σ : State} {s : State} {src : Nat} (hκ : Sub 185483 κ) (hσ : Keeps κ σ s) :
    Keeps κ σ (State.wakeEvent s src) := by
  have k0 : Sub 2 κ := Sub.trans (by decide : 2 &&& 185483 = 2) hκ
  have k1 : Sub 4099 κ := Sub.trans (by decide : 4099 &&& 185483 = 4099) hκ
  have k2 : Sub 4096 κ := Sub.trans (by decide : 4096 &&& 185483 = 4096) hκ
  have k3 : Sub 4235 κ := Sub.trans (by decide : 4235 &&& 185483 = 4235) hκ
  have k4 : Sub 185483 κ := Sub.trans (by decide : 185483 &&& 185483 = 185483) hκ
  have k5 : Sub 1 κ := Sub.trans (by decide : 1 &&& 185483 = 1) hκ
  have k6 : Sub 139 κ := Sub.trans (by decide : 139 &&& 185483 = 139) hκ
  unfold State.wakeEvent
  repeat' first
    | with_reducible assumption
    | with_reducible apply State.count_keeps k0
    | with_reducible apply State.recordWake_keeps k1
    | with_reducible apply State.onWak_keeps k2
    | with_reducible apply State.sleepAbort_keeps k3
    | with_reducible apply State.dozeWake_keeps k4
    | with_reducible apply State.set1_keeps k5
    | with_reducible apply State.wakRaise_keeps k6
    | with_reducible apply ite_keeps
    | intro _
    | dsimp -simprocs only
    | dsimp only
    | split

theorem State.trcvWoke_keeps {κ : Nat} {σ : State} {s : State} {n : Nat} {ovf : Bool} (hκ : Sub 185483 κ) (hσ : Keeps κ σ s) :
    Keeps κ σ (State.trcvWoke s n ovf) := by
  have k0 : Sub 1 κ := Sub.trans (by decide : 1 &&& 185483 = 1) hκ
  have k1 : Sub 139 κ := Sub.trans (by decide : 139 &&& 185483 = 139) hκ
  have k2 : Sub 185483 κ := Sub.trans (by decide : 185483 &&& 185483 = 185483) hκ
  unfold State.trcvWoke
  repeat' first
    | with_reducible assumption
    | with_reducible apply State.put_keeps k0
    | with_reducible apply State.wakRaise_keeps k1
    | with_reducible apply State.wakeEvent_keeps k2
    | with_reducible apply ite_keeps
    | dsimp -simprocs only
    | dsimp only

theorem State.trcvFrame_keeps {κ : Nat} {σ : State} {s : State} {n : Nat} {f : CanFrame} {err : Bool} (hκ : Sub 185483 κ) (hσ : Keeps κ σ s) :
    Keeps κ σ (State.trcvFrame s n f err) := by
  have k0 : Sub 1 κ := Sub.trans (by decide : 1 &&& 185483 = 1) hκ
  have k1 : Sub 185483 κ := Sub.trans (by decide : 185483 &&& 185483 = 185483) hκ
  unfold State.trcvFrame
  repeat' first
    | with_reducible assumption
    | with_reducible apply State.put_keeps k0
    | with_reducible apply State.trcvWoke_keeps k1
    | with_reducible apply ite_keeps
    | dsimp -simprocs only
    | dsimp only

theorem State.trcvSign_keeps {κ : Nat} {σ : State} {s : State} {n : Nat} {x : TrcvSign} (hκ : Sub 185483 κ) (hσ : Keeps κ σ s) :
    Keeps κ σ (State.trcvSign s n x) := by
  have k0 : Sub 185483 κ := Sub.trans (by decide : 185483 &&& 185483 = 185483) hκ
  unfold State.trcvSign
  repeat' first
    | with_reducible assumption
    | with_reducible apply State.trcvWoke_keeps k0
    | with_reducible apply State.trcvFrame_keeps k0
    | with_reducible apply ite_keeps
    | split

theorem State.trcvWrite_keeps {κ : Nat} {σ : State} {s : State} {pid n v : Nat} (hκ : Sub 262145 κ) (hσ : Keeps κ σ s) :
    Keeps κ σ (State.trcvWrite s pid n v) := by
  have k0 : Sub 1 κ := Sub.trans (by decide : 1 &&& 262145 = 1) hκ
  have k1 : Sub 262145 κ := Sub.trans (by decide : 262145 &&& 262145 = 262145) hκ
  unfold State.trcvWrite
  repeat' first
    | with_reducible assumption
    | with_reducible apply State.regApply_keeps k0
    | with_reducible apply State.moveTrcv_keeps k1
    | with_reducible apply ite_keeps

end Sys2Proof.Machine
end

