-- ==== Sys2Proof/Laws/KeepsWake.lean ====
section
/-! SUPPORT. What each operation of Machine/Wake may do to State. -/
namespace Sys2Proof.Machine

theorem execSleep_keeps {κ : Nat} {σ : State} {r : Nat} {s : State} (hκ : Sub 26243215 κ) (hσ : Keeps κ σ s) :
    NextKeeps κ σ (execSleep r s) := by
  have k0 : Sub 0 κ := Sub.trans (by decide : 0 &&& 26243215 = 0) hκ
  have k1 : Sub 26243215 κ := Sub.trans (by decide : 26243215 &&& 26243215 = 26243215) hκ
  unfold execSleep
  repeat' first
    | with_reducible assumption
    | with_reducible apply next_keeps
    | with_reducible apply ite_next_keeps
    | with_reducible apply State.withOp_keeps k0
    | with_reducible apply State.sleepOp_keeps k1
    | intro _

theorem execSleepDrainEnd_keeps {κ : Nat} {σ : State} {s : State} (hκ : Sub 17757835 κ) (hσ : Keeps κ σ s) :
    NextKeeps κ σ (execSleepDrainEnd s) := by
  have k0 : Sub 17757835 κ := Sub.trans (by decide : 17757835 &&& 17757835 = 17757835) hκ
  unfold execSleepDrainEnd
  repeat' first
    | with_reducible assumption
    | with_reducible apply next_keeps
    | with_reducible apply ite_next_keeps
    | with_reducible apply State.sleepOn_keeps k0
    | with_reducible apply ite_keeps

theorem execSleepDrainTimeout_keeps {κ : Nat} {σ : State} {s : State} (hκ : Sub 17757835 κ) (hσ : Keeps κ σ s) :
    NextKeeps κ σ (execSleepDrainTimeout s) := by
  have k0 : Sub 17757835 κ := Sub.trans (by decide : 17757835 &&& 17757835 = 17757835) hκ
  have k1 : Sub 4224 κ := Sub.trans (by decide : 4224 &&& 17757835 = 4224) hκ
  have k2 : Sub 4235 κ := Sub.trans (by decide : 4235 &&& 17757835 = 4235) hκ
  unfold execSleepDrainTimeout
  repeat' first
    | with_reducible assumption
    | with_reducible apply next_keeps
    | with_reducible apply ite_next_keeps
    | with_reducible apply State.sleepOn_keeps k0
    | with_reducible apply State.sleepEnds_keeps k1
    | with_reducible apply State.enterRun_keeps k2
    | with_reducible apply ite_keeps

theorem execWakeEvent_keeps {κ : Nat} {σ : State} {src : Nat} {s : State} (hκ : Sub 185483 κ) (hσ : Keeps κ σ s) :
    NextKeeps κ σ (execWakeEvent src s) := by
  have k0 : Sub 185483 κ := Sub.trans (by decide : 185483 &&& 185483 = 185483) hκ
  unfold execWakeEvent
  repeat' first
    | with_reducible assumption
    | with_reducible apply next_keeps
    | with_reducible apply ite_next_keeps
    | with_reducible apply State.wakeEvent_keeps k0

theorem execWakeTimerExpiry_keeps {κ : Nat} {σ : State} {s : State} (hκ : Sub 185483 κ) (hσ : Keeps κ σ s) :
    NextKeeps κ σ (execWakeTimerExpiry s) := by
  have k0 : Sub 4096 κ := Sub.trans (by decide : 4096 &&& 185483 = 4096) hκ
  have k1 : Sub 185483 κ := Sub.trans (by decide : 185483 &&& 185483 = 185483) hκ
  unfold execWakeTimerExpiry
  repeat' first
    | with_reducible assumption
    | with_reducible apply next_keeps
    | with_reducible apply ite_next_keeps
    | with_reducible apply State.onWak_keeps k0
    | with_reducible apply State.wakeEvent_keeps k1
    | with_reducible apply ite_keeps
    | intro _
    | split

theorem State.setCause_keeps {κ : Nat} {σ : State} {s : State} {rung cause orig : Nat} (hκ : Sub 1 κ) (hσ : Keeps κ σ s) :
    Keeps κ σ (State.setCause s rung cause orig) := by
  have k0 : Sub 1 κ := Sub.trans (by decide : 1 &&& 1 = 1) hκ
  unfold State.setCause
  repeat' first
    | with_reducible assumption
    | with_reducible apply State.put_keeps k0

theorem execOffWaitExpiry_keeps {κ : Nat} {σ : State} {s : State} (hκ : Sub 528385 κ) (hσ : Keeps κ σ s) :
    NextKeeps κ σ (execOffWaitExpiry s) := by
  have k0 : Sub 524288 κ := Sub.trans (by decide : 524288 &&& 528385 = 524288) hκ
  have k1 : Sub 4096 κ := Sub.trans (by decide : 4096 &&& 528385 = 4096) hκ
  have k2 : Sub 1 κ := Sub.trans (by decide : 1 &&& 528385 = 1) hκ
  unfold execOffWaitExpiry
  repeat' first
    | with_reducible assumption
    | with_reducible apply next_keeps
    | with_reducible apply ite_next_keeps
    | with_reducible apply State.onPow_keeps k0
    | with_reducible apply State.onWak_keeps k1
    | with_reducible apply State.setCause_keeps k2
    | with_reducible apply ite_keeps
    | intro _
    | dsimp -simprocs only
    | dsimp only

theorem execTrcvStateWrite_keeps {κ : Nat} {σ : State} {pid n val : Nat} {s : State} (hκ : Sub 262145 κ) (hσ : Keeps κ σ s) :
    NextKeeps κ σ (execTrcvStateWrite pid n val s) := by
  have k0 : Sub 262145 κ := Sub.trans (by decide : 262145 &&& 262145 = 262145) hκ
  unfold execTrcvStateWrite
  repeat' first
    | with_reducible assumption
    | with_reducible apply next_keeps
    | with_reducible apply ite_next_keeps
    | with_reducible apply State.trcvWrite_keeps k0
    | with_reducible apply ite_keeps

theorem execTrcvWake_keeps {κ : Nat} {σ : State} {n : Nat} {sign : TrcvSign} {s : State} (hκ : Sub 185483 κ) (hσ : Keeps κ σ s) :
    NextKeeps κ σ (execTrcvWake n sign s) := by
  have k0 : Sub 185483 κ := Sub.trans (by decide : 185483 &&& 185483 = 185483) hκ
  unfold execTrcvWake
  repeat' first
    | with_reducible assumption
    | with_reducible apply next_keeps
    | with_reducible apply ite_next_keeps
    | with_reducible apply State.trcvSign_keeps k0

theorem execWakeValidityEnd_keeps {κ : Nat} {σ : State} {src : Nat} {s : State} (hκ : Sub 4235 κ) (hσ : Keeps κ σ s) :
    NextKeeps κ σ (execWakeValidityEnd src s) := by
  have k0 : Sub 4235 κ := Sub.trans (by decide : 4235 &&& 4235 = 4235) hκ
  unfold execWakeValidityEnd
  repeat' first
    | with_reducible assumption
    | with_reducible apply next_keeps
    | with_reducible apply ite_next_keeps
    | with_reducible apply State.windowEnd_keeps k0
    | with_reducible apply ite_keeps
    | with_reducible apply ite_fst_keeps
    | split

theorem State.wakConfirm_keeps {κ : Nat} {σ : State} {s : State} {pid v : Nat} (hκ : Sub 4096 κ) (hσ : Keeps κ σ s) :
    Keeps κ σ (State.wakConfirm s pid v) := by
  have k0 : Sub 4096 κ := Sub.trans (by decide : 4096 &&& 4096 = 4096) hκ
  unfold State.wakConfirm
  repeat' first
    | with_reducible assumption
    | with_reducible apply State.wakeMeets_keeps k0
    | with_reducible apply ite_keeps
    | with_reducible refine forEach_keeps (fun _ _ _ => ?_) ?_

theorem execWakeConfirm_keeps {κ : Nat} {σ : State} {pid val : Nat} {s : State} (hκ : Sub 4096 κ) (hσ : Keeps κ σ s) :
    NextKeeps κ σ (execWakeConfirm pid val s) := by
  have k0 : Sub 4096 κ := Sub.trans (by decide : 4096 &&& 4096 = 4096) hκ
  unfold execWakeConfirm
  repeat' first
    | with_reducible assumption
    | with_reducible apply next_keeps
    | with_reducible apply ite_next_keeps
    | with_reducible apply State.wakConfirm_keeps k0

theorem execBackoffEnd_keeps {κ : Nat} {σ : State} {src : Nat} {s : State} (hκ : Sub 4097 κ) (hσ : Keeps κ σ s) :
    NextKeeps κ σ (execBackoffEnd src s) := by
  have k0 : Sub 4097 κ := Sub.trans (by decide : 4097 &&& 4097 = 4097) hκ
  unfold execBackoffEnd
  repeat' first
    | with_reducible assumption
    | with_reducible apply next_keeps
    | with_reducible apply ite_next_keeps
    | with_reducible apply State.backoffEnd_keeps k0
    | with_reducible apply ite_keeps

theorem State.wakBackoff_keeps {κ : Nat} {σ : State} {s : State} {pid v : Nat} (hκ : Sub 4097 κ) (hσ : Keeps κ σ s) :
    Keeps κ σ (State.wakBackoff s pid v) := by
  have k0 : Sub 4097 κ := Sub.trans (by decide : 4097 &&& 4097 = 4097) hκ
  unfold State.wakBackoff
  repeat' first
    | with_reducible assumption
    | with_reducible apply State.backoffEnd_keeps k0
    | with_reducible apply ite_keeps
    | with_reducible refine forEach_keeps (fun _ _ _ => ?_) ?_

theorem execBackoffClear_keeps {κ : Nat} {σ : State} {pid val : Nat} {s : State} (hκ : Sub 4097 κ) (hσ : Keeps κ σ s) :
    NextKeeps κ σ (execBackoffClear pid val s) := by
  have k0 : Sub 4097 κ := Sub.trans (by decide : 4097 &&& 4097 = 4097) hκ
  unfold execBackoffClear
  repeat' first
    | with_reducible assumption
    | with_reducible apply next_keeps
    | with_reducible apply ite_next_keeps
    | with_reducible apply State.wakBackoff_keeps k0

theorem execVaonRise_keeps {κ : Nat} {σ : State} {s : State} (hκ : Sub 528387 κ) (hσ : Keeps κ σ s) :
    NextKeeps κ σ (execVaonRise s) := by
  have k0 : Sub 1 κ := Sub.trans (by decide : 1 &&& 528387 = 1) hκ
  have k1 : Sub 2 κ := Sub.trans (by decide : 2 &&& 528387 = 2) hκ
  have k2 : Sub 4096 κ := Sub.trans (by decide : 4096 &&& 528387 = 4096) hκ
  have k3 : Sub 524288 κ := Sub.trans (by decide : 524288 &&& 528387 = 524288) hκ
  unfold execVaonRise
  repeat' first
    | with_reducible assumption
    | with_reducible apply next_keeps
    | with_reducible apply ite_next_keeps
    | with_reducible refine State.setRegs_keeps k0 (storeFilter_wf _ _ _) ?_
    | with_reducible refine State.setCnts_keeps k1 (storeFilter_wf _ _ _) ?_
    | with_reducible apply State.onWak_keeps k2
    | with_reducible apply State.onPow_keeps k3
    | with_reducible apply ite_keeps
    | with_reducible apply ite_fst_keeps
    | intro _
    | dsimp -simprocs only
    | dsimp only
    | split

theorem execVaonLoss_keeps {κ : Nat} {σ : State} {s : State} (hκ : Sub 33554399 κ) (hσ : Keeps κ σ s) :
    NextKeeps κ σ (execVaonLoss s) := by
  have k0 : Sub 33554399 κ := Sub.trans (by decide : 33554399 &&& 33554399 = 33554399) hκ
  have k1 : Sub 524288 κ := Sub.trans (by decide : 524288 &&& 33554399 = 524288) hκ
  have k2 : Sub 4096 κ := Sub.trans (by decide : 4096 &&& 33554399 = 4096) hκ
  have k3 : Sub 1048576 κ := Sub.trans (by decide : 1048576 &&& 33554399 = 1048576) hκ
  unfold execVaonLoss
  repeat' first
    | with_reducible assumption
    | with_reducible apply next_keeps
    | with_reducible apply ite_next_keeps
    | with_reducible apply State.stopLogic_keeps k0
    | with_reducible apply State.onPow_keeps k1
    | with_reducible apply State.onWak_keeps k2
    | with_reducible apply State.onEnc_keeps k3
    | with_reducible apply ite_keeps
    | intro _
    | dsimp -simprocs only
    | dsimp only

end Sys2Proof.Machine
end

