-- ==== Sys2Proof/Laws/KeepsRegPages.lean ====
section
/-! SUPPORT. What each operation of Machine/RegPages may do to State. -/
namespace Sys2Proof.Machine

theorem State.applyBut_keeps {κ : Nat} {σ : State} {s : State} {pid a v : Nat} {only0 : List Fld} {ranges : List (Fld × Nat × Nat)} (hκ : Sub 1 κ) (hσ : Keeps κ σ s) :
    Keeps κ σ (State.applyBut s pid a v only0 ranges) := by
  have k0 : Sub 1 κ := Sub.trans (by decide : 1 &&& 1 = 1) hκ
  unfold State.applyBut
  repeat' first
    | with_reducible assumption
    | with_reducible apply State.regApply_keeps k0
    | with_reducible apply State.put_keeps k0
    | with_reducible apply ite_keeps
    | with_reducible apply ite_fst_keeps
    | with_reducible refine forEach_keeps (fun _ _ _ => ?_) ?_
    | dsimp -simprocs only
    | dsimp only

theorem State.apply0_keeps {κ : Nat} {σ : State} {s : State} {pid a v : Nat} (hκ : Sub 1 κ) (hσ : Keeps κ σ s) :
    Keeps κ σ (State.apply0 s pid a v) := by
  have k0 : Sub 1 κ := Sub.trans (by decide : 1 &&& 1 = 1) hκ
  unfold State.apply0
  repeat' first
    | with_reducible assumption
    | with_reducible apply State.regApply_keeps k0
    | with_reducible apply ite_keeps

theorem State.countEvts_keeps {κ : Nat} {σ : State} {s : State} {a m : Nat} (hκ : Sub 2 κ) (hσ : Keeps κ σ s) :
    Keeps κ σ (State.countEvts s a m) := by
  have k0 : Sub 2 κ := Sub.trans (by decide : 2 &&& 2 = 2) hκ
  unfold State.countEvts
  repeat' first
    | with_reducible assumption
    | with_reducible apply State.count_keeps k0
    | with_reducible apply ite_keeps
    | with_reducible apply ite_fst_keeps
    | with_reducible refine forEach_keeps (fun _ _ _ => ?_) ?_

theorem State.evtClear_keeps {κ : Nat} {σ : State} {s : State} {pid a v coincide : Nat} (hκ : Sub 139 κ) (hσ : Keeps κ σ s) :
    Keeps κ σ (State.evtClear s pid a v coincide) := by
  have k0 : Sub 2 κ := Sub.trans (by decide : 2 &&& 139 = 2) hκ
  have k1 : Sub 1 κ := Sub.trans (by decide : 1 &&& 139 = 1) hκ
  have k2 : Sub 139 κ := Sub.trans (by decide : 139 &&& 139 = 139) hκ
  unfold State.evtClear
  repeat' first
    | with_reducible assumption
    | with_reducible apply State.countEvts_keeps k0
    | with_reducible apply State.wr_keeps k1
    | with_reducible apply State.sendEvtBits_keeps k2
    | with_reducible apply ite_keeps
    | dsimp -simprocs only
    | dsimp only
    | split

theorem State.evtEnWrite_keeps {κ : Nat} {σ : State} {s : State} {pid a v : Nat} (hκ : Sub 139 κ) (hσ : Keeps κ σ s) :
    Keeps κ σ (State.evtEnWrite s pid a v) := by
  have k0 : Sub 1 κ := Sub.trans (by decide : 1 &&& 139 = 1) hκ
  have k1 : Sub 139 κ := Sub.trans (by decide : 139 &&& 139 = 139) hκ
  unfold State.evtEnWrite
  repeat' first
    | with_reducible assumption
    | with_reducible apply State.regApply_keeps k0
    | with_reducible apply State.sendEvtBits_keeps k1
    | with_reducible apply ite_keeps
    | dsimp -simprocs only
    | dsimp only

theorem State.guardSelect_keeps {κ : Nat} {σ : State} {s : State} {v : Nat} (hκ : Sub 1 κ) (hσ : Keeps κ σ s) :
    Keeps κ σ (State.guardSelect s v) := by
  have k0 : Sub 1 κ := Sub.trans (by decide : 1 &&& 1 = 1) hκ
  unfold State.guardSelect
  repeat' first
    | with_reducible assumption
    | with_reducible apply State.regApply_keeps k0
    | with_reducible apply State.put_keeps k0
    | with_reducible apply State.wr_keeps k0
    | dsimp -simprocs only
    | dsimp only
    | split

theorem State.guardCommit_keeps {κ : Nat} {σ : State} {s : State} {v : Nat} (hκ : Sub 64 κ) (hσ : Keeps κ σ s) :
    Keeps κ σ (State.guardCommit s v) := by
  have k0 : Sub 64 κ := Sub.trans (by decide : 64 &&& 64 = 64) hκ
  unfold State.guardCommit
  repeat' first
    | with_reducible assumption
    | with_reducible apply State.setFab_keeps k0
    | with_reducible apply ite_keeps
    | split

theorem State.effWrite_keeps {κ : Nat} {σ : State} {s : State} {n a v : Nat} (hκ : Sub 139 κ) (hσ : Keeps κ σ s) :
    Keeps κ σ (State.effWrite s n a v) := by
  have k0 : Sub 1 κ := Sub.trans (by decide : 1 &&& 139 = 1) hκ
  have k1 : Sub 139 κ := Sub.trans (by decide : 139 &&& 139 = 139) hκ
  unfold State.effWrite
  repeat' first
    | with_reducible assumption
    | with_reducible apply State.regApply_keeps k0
    | with_reducible apply State.raise_keeps k1
    | with_reducible apply ite_keeps
    | dsimp -simprocs only
    | dsimp only

theorem State.jerWrite_keeps {κ : Nat} {σ : State} {s : State} {a v : Nat} (hκ : Sub 203 κ) (hσ : Keeps κ σ s) :
    Keeps κ σ (State.jerWrite s a v) := by
  have k0 : Sub 1 κ := Sub.trans (by decide : 1 &&& 203 = 1) hκ
  have k1 : Sub 64 κ := Sub.trans (by decide : 64 &&& 203 = 64) hκ
  have k2 : Sub 139 κ := Sub.trans (by decide : 139 &&& 203 = 139) hκ
  unfold State.jerWrite
  repeat' first
    | with_reducible assumption
    | with_reducible apply State.guardSelect_keeps k0
    | with_reducible apply State.guardCommit_keeps k1
    | with_reducible apply State.effWrite_keeps k2
    | with_reducible apply State.regApply_keeps k0
    | with_reducible apply ite_keeps

theorem State.rndWrite_keeps {κ : Nat} {σ : State} {s : State} {pid a v : Nat} (hκ : Sub 8388751 κ) (hσ : Keeps κ σ s) :
    Keeps κ σ (State.rndWrite s pid a v) := by
  have k0 : Sub 1 κ := Sub.trans (by decide : 1 &&& 8388751 = 1) hκ
  have k1 : Sub 139 κ := Sub.trans (by decide : 139 &&& 8388751 = 139) hκ
  have k2 : Sub 8388751 κ := Sub.trans (by decide : 8388751 &&& 8388751 = 8388751) hκ
  have k3 : Sub 129 κ := Sub.trans (by decide : 129 &&& 8388751 = 129) hκ
  unfold State.rndWrite
  repeat' first
    | with_reducible assumption
    | with_reducible apply State.applyBut_keeps k0
    | with_reducible apply State.bellCmd_keeps k1
    | with_reducible apply State.bellCpl_keeps k1
    | with_reducible apply State.apply0_keeps k0
    | with_reducible apply State.ctlOn_keeps k1
    | with_reducible apply State.ctlOff_keeps k2
    | with_reducible apply State.regApply_keeps k0
    | with_reducible apply State.baseWrite_keeps k3
    | with_reducible apply ite_keeps
    | dsimp -simprocs only
    | dsimp only
    | split

theorem State.plyWrite_keeps {κ : Nat} {σ : State} {s : State} {a v : Nat} (hκ : Sub 512 κ) (hσ : Keeps κ σ s) :
    Keeps κ σ (State.plyWrite s a v) := by
  have k0 : Sub 512 κ := Sub.trans (by decide : 512 &&& 512 = 512) hκ
  unfold State.plyWrite
  repeat' first
    | with_reducible assumption
    | with_reducible apply State.setPlyEnt_keeps k0
    | with_reducible apply ite_keeps
    | dsimp -simprocs only
    | dsimp only

theorem State.carveWrite_keeps {κ : Nat} {σ : State} {s : State} {v : Nat} (hκ : Sub 651 κ) (hσ : Keeps κ σ s) :
    Keeps κ σ (State.carveWrite s v) := by
  have k0 : Sub 651 κ := Sub.trans (by decide : 651 &&& 651 = 651) hκ
  unfold State.carveWrite
  repeat' first
    | with_reducible assumption
    | with_reducible apply State.applyCarve_keeps k0
    | with_reducible apply ite_keeps
    | dsimp -simprocs only
    | dsimp only

theorem State.swcWrite_keeps {κ : Nat} {σ : State} {s : State} {pid a v : Nat} (hκ : Sub 651 κ) (hσ : Keeps κ σ s) :
    Keeps κ σ (State.swcWrite s pid a v) := by
  have k0 : Sub 1 κ := Sub.trans (by decide : 1 &&& 651 = 1) hκ
  have k1 : Sub 651 κ := Sub.trans (by decide : 651 &&& 651 = 651) hκ
  have k2 : Sub 512 κ := Sub.trans (by decide : 512 &&& 651 = 512) hκ
  unfold State.swcWrite
  repeat' first
    | with_reducible assumption
    | with_reducible apply State.applyBut_keeps k0
    | with_reducible apply State.regApply_keeps k0
    | with_reducible apply State.apply0_keeps k0
    | with_reducible apply State.carveWrite_keeps k1
    | with_reducible apply State.applyCarve_keeps k1
    | with_reducible apply State.remapPfc_keeps k0
    | with_reducible apply State.plyWrite_keeps k2
    | with_reducible apply State.put_keeps k0
    | with_reducible apply ite_keeps
    | dsimp -simprocs only
    | dsimp only
    | split

theorem State.prtWrite_keeps {κ : Nat} {σ : State} {s : State} {p off v : Nat} (hκ : Sub 5771 κ) (hσ : Keeps κ σ s) :
    Keeps κ σ (State.prtWrite s p off v) := by
  have k0 : Sub 5771 κ := Sub.trans (by decide : 5771 &&& 5771 = 5771) hκ
  have k1 : Sub 1 κ := Sub.trans (by decide : 1 &&& 5771 = 1) hκ
  have k2 : Sub 1033 κ := Sub.trans (by decide : 1033 &&& 5771 = 1033) hκ
  have k3 : Sub 1675 κ := Sub.trans (by decide : 1675 &&& 5771 = 1675) hκ
  have k4 : Sub 1024 κ := Sub.trans (by decide : 1024 &&& 5771 = 1024) hκ
  unfold State.prtWrite
  repeat' first
    | with_reducible assumption
    | with_reducible apply State.writeMode_keeps k0
    | with_reducible apply State.regApply_keeps k1
    | with_reducible apply State.applyBut_keeps k1
    | with_reducible apply State.verifyStart_keeps k2
    | with_reducible apply State.writeGateCtl_keeps k3
    | with_reducible apply State.cbsUpdate_keeps k4
    | with_reducible apply ite_keeps
    | dsimp -simprocs only
    | dsimp only
    | split

theorem State.timWrite_keeps {κ : Nat} {σ : State} {s : State} {pid a v : Nat} (hκ : Sub 2187 κ) (hσ : Keeps κ σ s) :
    Keeps κ σ (State.timWrite s pid a v) := by
  have k0 : Sub 2049 κ := Sub.trans (by decide : 2049 &&& 2187 = 2049) hκ
  have k1 : Sub 2187 κ := Sub.trans (by decide : 2187 &&& 2187 = 2187) hκ
  have k2 : Sub 1 κ := Sub.trans (by decide : 1 &&& 2187 = 1) hκ
  unfold State.timWrite
  repeat' first
    | with_reducible assumption
    | with_reducible apply State.writeInc_keeps k0
    | with_reducible apply State.writeStep_keeps k1
    | with_reducible apply State.applyBut_keeps k2
    | with_reducible apply State.writeTrgCtl_keeps k2
    | with_reducible apply State.writePin_keeps k0
    | with_reducible apply State.writePps_keeps k0
    | with_reducible apply State.regApply_keeps k2
    | with_reducible apply ite_keeps
    | split

theorem State.audWrite_keeps {κ : Nat} {σ : State} {s : State} {a v : Nat} (hκ : Sub 8193 κ) (hσ : Keeps κ σ s) :
    Keeps κ σ (State.audWrite s a v) := by
  have k0 : Sub 8193 κ := Sub.trans (by decide : 8193 &&& 8193 = 8193) hκ
  have k1 : Sub 1 κ := Sub.trans (by decide : 1 &&& 8193 = 1) hκ
  unfold State.audWrite
  repeat' first
    | with_reducible assumption
    | with_reducible apply State.writeAin_keeps k0
    | with_reducible apply State.writeAout_keeps k0
    | with_reducible apply State.regApply_keeps k1
    | split

theorem State.chtWrite_keeps {κ : Nat} {σ : State} {s : State} {pid a v : Nat} (hκ : Sub 1 κ) (hσ : Keeps κ σ s) :
    Keeps κ σ (State.chtWrite s pid a v) := by
  have k0 : Sub 1 κ := Sub.trans (by decide : 1 &&& 1 = 1) hκ
  unfold State.chtWrite
  repeat' first
    | with_reducible assumption
    | with_reducible apply State.applyBut_keeps k0
    | with_reducible apply State.unexclude_keeps k0
    | with_reducible apply State.regApply_keeps k0
    | with_reducible apply ite_keeps

theorem State.canWrite_keeps {κ : Nat} {σ : State} {s : State} {pid n off v : Nat} (hκ : Sub 262283 κ) (hσ : Keeps κ σ s) :
    Keeps κ σ (State.canWrite s pid n off v) := by
  have k0 : Sub 262283 κ := Sub.trans (by decide : 262283 &&& 262283 = 262283) hκ
  have k1 : Sub 1 κ := Sub.trans (by decide : 1 &&& 262283 = 1) hκ
  have k2 : Sub 262145 κ := Sub.trans (by decide : 262145 &&& 262283 = 262145) hκ
  unfold State.canWrite
  repeat' first
    | with_reducible assumption
    | with_reducible apply State.canCtlWrite_keeps k0
    | with_reducible apply State.regApply_keeps k1
    | with_reducible apply State.txctlWrite_keeps k2
    | with_reducible apply State.apply0_keeps k1
    | with_reducible apply State.applyBut_keeps k1
    | with_reducible apply State.put_keeps k1
    | with_reducible apply ite_keeps
    | dsimp -simprocs only
    | dsimp only
    | split

theorem State.gwyWrite_keeps {κ : Nat} {σ : State} {s : State} {pid a v : Nat} (hκ : Sub 1 κ) (hσ : Keeps κ σ s) :
    Keeps κ σ (State.gwyWrite s pid a v) := by
  have k0 : Sub 1 κ := Sub.trans (by decide : 1 &&& 1 = 1) hκ
  unfold State.gwyWrite
  repeat' first
    | with_reducible assumption
    | with_reducible apply State.apply0_keeps k0
    | with_reducible apply State.regApply_keeps k0
    | with_reducible apply ite_keeps

theorem State.wakWrite_keeps {κ : Nat} {σ : State} {s : State} {pid a v : Nat} (hκ : Sub 266241 κ) (hσ : Keeps κ σ s) :
    Keeps κ σ (State.wakWrite s pid a v) := by
  have k0 : Sub 1 κ := Sub.trans (by decide : 1 &&& 266241 = 1) hκ
  have k1 : Sub 4096 κ := Sub.trans (by decide : 4096 &&& 266241 = 4096) hκ
  have k2 : Sub 4097 κ := Sub.trans (by decide : 4097 &&& 266241 = 4097) hκ
  have k3 : Sub 262145 κ := Sub.trans (by decide : 262145 &&& 266241 = 262145) hκ
  unfold State.wakWrite
  repeat' first
    | with_reducible assumption
    | with_reducible apply State.apply0_keeps k0
    | with_reducible apply State.wakConfirm_keeps k1
    | with_reducible apply State.wakBackoff_keeps k2
    | with_reducible apply State.trcvWrite_keeps k3
    | with_reducible apply State.regApply_keeps k0
    | with_reducible apply ite_keeps
    | split

theorem State.writeTied_keeps {κ : Nat} {σ : State} {s : State} {v : Nat} (hκ : Sub 65675 κ) (hσ : Keeps κ σ s) :
    Keeps κ σ (State.writeTied s v) := by
  have k0 : Sub 1 κ := Sub.trans (by decide : 1 &&& 65675 = 1) hκ
  have k1 : Sub 65537 κ := Sub.trans (by decide : 65537 &&& 65675 = 65537) hκ
  have k2 : Sub 65675 κ := Sub.trans (by decide : 65675 &&& 65675 = 65675) hκ
  unfold State.writeTied
  repeat' first
    | with_reducible assumption
    | with_reducible apply State.put_keeps k0
    | with_reducible apply State.resumeCh_keeps k1
    | with_reducible apply State.holdTied_keeps k0
    | with_reducible apply State.applyShed_keeps k2
    | with_reducible apply ite_keeps
    | with_reducible refine forEach_keeps (fun _ _ _ => ?_) ?_
    | dsimp -simprocs only
    | dsimp only

theorem State.tellWd_keeps {κ : Nat} {σ : State} {s : State} {b : Nat} (hκ : Sub 65675 κ) (hσ : Keeps κ σ s) :
    Keeps κ σ (State.tellWd s b) := by
  have k0 : Sub 65675 κ := Sub.trans (by decide : 65675 &&& 65675 = 65675) hκ
  unfold State.tellWd
  repeat' first
    | with_reducible assumption
    | with_reducible apply State.setBank_keeps k0
    | with_reducible apply ite_keeps

theorem State.ldcWrite_keeps {κ : Nat} {σ : State} {s : State} {pid a v : Nat} (hκ : Sub 65675 κ) (hσ : Keeps κ σ s) :
    Keeps κ σ (State.ldcWrite s pid a v) := by
  have k0 : Sub 65675 κ := Sub.trans (by decide : 65675 &&& 65675 = 65675) hκ
  have k1 : Sub 1 κ := Sub.trans (by decide : 1 &&& 65675 = 1) hκ
  unfold State.ldcWrite
  repeat' first
    | with_reducible assumption
    | with_reducible apply State.writeShed_keeps k0
    | with_reducible apply State.writeTied_keeps k0
    | with_reducible apply State.apply0_keeps k1
    | with_reducible apply State.applyBut_keeps k1
    | with_reducible apply State.tellWd_keeps k0
    | with_reducible apply State.regApply_keeps k1
    | with_reducible apply ite_keeps
    | split

theorem State.gauWrite_keeps {κ : Nat} {σ : State} {s : State} {pid a v : Nat} (hκ : Sub 131073 κ) (hσ : Keeps κ σ s) :
    Keeps κ σ (State.gauWrite s pid a v) := by
  have k0 : Sub 1 κ := Sub.trans (by decide : 1 &&& 131073 = 1) hκ
  have k1 : Sub 131073 κ := Sub.trans (by decide : 131073 &&& 131073 = 131073) hκ
  unfold State.gauWrite
  repeat' first
    | with_reducible assumption
    | with_reducible apply State.apply0_keeps k0
    | with_reducible apply State.gauLatch_keeps k0
    | with_reducible apply State.applyBut_keeps k0
    | with_reducible apply State.regApply_keeps k0
    | with_reducible apply State.newFloor_keeps k1
    | with_reducible apply ite_keeps

theorem State.coreCtl_keeps {κ : Nat} {σ : State} {s : State} {k v : Nat} (hκ : Sub 32769 κ) (hσ : Keeps κ σ s) :
    Keeps κ σ (State.coreCtl s k v) := by
  have k0 : Sub 32769 κ := Sub.trans (by decide : 32769 &&& 32769 = 32769) hκ
  have k1 : Sub 1 κ := Sub.trans (by decide : 1 &&& 32769 = 1) hκ
  have k2 : Sub 32768 κ := Sub.trans (by decide : 32768 &&& 32769 = 32768) hκ
  unfold State.coreCtl
  repeat' first
    | with_reducible assumption
    | with_reducible apply State.coreChange_keeps k0
    | with_reducible apply State.regApply_keeps k1
    | with_reducible apply State.onCor_keeps k2
    | intro _
    | dsimp -simprocs only
    | dsimp only

theorem State.partCtl_keeps {κ : Nat} {σ : State} {s : State} {p v : Nat} (hκ : Sub 32769 κ) (hσ : Keeps κ σ s) :
    Keeps κ σ (State.partCtl s p v) := by
  have k0 : Sub 32769 κ := Sub.trans (by decide : 32769 &&& 32769 = 32769) hκ
  have k1 : Sub 1 κ := Sub.trans (by decide : 1 &&& 32769 = 1) hκ
  have k2 : Sub 32768 κ := Sub.trans (by decide : 32768 &&& 32769 = 32768) hκ
  unfold State.partCtl
  repeat' first
    | with_reducible assumption
    | with_reducible apply State.coreChange_keeps k0
    | with_reducible apply State.applyBut_keeps k1
    | with_reducible apply State.wdLoad_keeps k2
    | intro _

theorem State.corWrite_keeps {κ : Nat} {σ : State} {s : State} {pid a v : Nat} (hκ : Sub 32769 κ) (hσ : Keeps κ σ s) :
    Keeps κ σ (State.corWrite s pid a v) := by
  have k0 : Sub 1 κ := Sub.trans (by decide : 1 &&& 32769 = 1) hκ
  have k1 : Sub 32769 κ := Sub.trans (by decide : 32769 &&& 32769 = 32769) hκ
  have k2 : Sub 32768 κ := Sub.trans (by decide : 32768 &&& 32769 = 32768) hκ
  unfold State.corWrite
  repeat' first
    | with_reducible assumption
    | with_reducible apply State.apply0_keeps k0
    | with_reducible apply State.coreCtl_keeps k1
    | with_reducible apply State.regApply_keeps k0
    | with_reducible apply State.partCtl_keeps k1
    | with_reducible apply State.partKick_keeps k2
    | with_reducible apply ite_keeps
    | dsimp -simprocs only
    | dsimp only

theorem State.mbxWrite_keeps {κ : Nat} {σ : State} {s : State} {pid n off v : Nat} (hκ : Sub 32907 κ) (hσ : Keeps κ σ s) :
    Keeps κ σ (State.mbxWrite s pid n off v) := by
  have k0 : Sub 139 κ := Sub.trans (by decide : 139 &&& 32907 = 139) hκ
  have k1 : Sub 1 κ := Sub.trans (by decide : 1 &&& 32907 = 1) hκ
  have k2 : Sub 32907 κ := Sub.trans (by decide : 32907 &&& 32907 = 32907) hκ
  unfold State.mbxWrite
  repeat' first
    | with_reducible assumption
    | with_reducible apply State.mbDeny_keeps k0
    | with_reducible apply State.mbSlot_keeps k0
    | with_reducible apply State.mbCfg_keeps k0
    | with_reducible apply State.applyBut_keeps k1
    | with_reducible apply State.regApply_keeps k1
    | with_reducible apply State.mbBell_keeps k2
    | with_reducible apply State.mbTakeBy_keeps k2
    | with_reducible apply ite_keeps
    | dsimp -simprocs only
    | dsimp only

theorem State.queWrite_keeps {κ : Nat} {σ : State} {s : State} {pid a v : Nat} (hκ : Sub 16777691 κ) (hσ : Keeps κ σ s) :
    Keeps κ σ (State.queWrite s pid a v) := by
  have k0 : Sub 257 κ := Sub.trans (by decide : 257 &&& 16777691 = 257) hκ
  have k1 : Sub 16777691 κ := Sub.trans (by decide : 16777691 &&& 16777691 = 16777691) hκ
  have k2 : Sub 1 κ := Sub.trans (by decide : 1 &&& 16777691 = 1) hκ
  unfold State.queWrite
  repeat' first
    | with_reducible assumption
    | with_reducible apply State.queueOn_keeps k0
    | with_reducible apply State.queueOff_keeps k1
    | with_reducible apply State.regApply_keeps k2
    | with_reducible apply ite_keeps
    | split

theorem State.semWrite_keeps {κ : Nat} {σ : State} {s : State} {pid a v : Nat} (hκ : Sub 139 κ) (hσ : Keeps κ σ s) :
    Keeps κ σ (State.semWrite s pid a v) := by
  have k0 : Sub 139 κ := Sub.trans (by decide : 139 &&& 139 = 139) hκ
  have k1 : Sub 1 κ := Sub.trans (by decide : 1 &&& 139 = 1) hκ
  unfold State.semWrite
  repeat' first
    | with_reducible assumption
    | with_reducible apply State.semReclaim_keeps k0
    | with_reducible apply State.semRelease_keeps k0
    | with_reducible apply State.regApply_keeps k1
    | with_reducible apply ite_keeps
    | split

theorem State.encWrite_keeps {κ : Nat} {σ : State} {s : State} {pid a v : Nat} (hκ : Sub 1 κ) (hσ : Keeps κ σ s) :
    Keeps κ σ (State.encWrite s pid a v) := by
  have k0 : Sub 1 κ := Sub.trans (by decide : 1 &&& 1 = 1) hκ
  unfold State.encWrite
  repeat' first
    | with_reducible assumption
    | with_reducible apply State.apply0_keeps k0
    | with_reducible apply State.regApply_keeps k0
    | with_reducible apply ite_keeps

theorem State.paiWrite_keeps {κ : Nat} {σ : State} {s : State} {pid a v : Nat} (hκ : Sub 16803803 κ) (hσ : Keeps κ σ s) :
    Keeps κ σ (State.paiWrite s pid a v) := by
  have k0 : Sub 16803803 κ := Sub.trans (by decide : 16803803 &&& 16803803 = 16803803) hκ
  have k1 : Sub 1 κ := Sub.trans (by decide : 1 &&& 16803803 = 1) hκ
  unfold State.paiWrite
  repeat' first
    | with_reducible assumption
    | with_reducible apply State.paiCtl_keeps k0
    | with_reducible apply State.applyBut_keeps k1
    | with_reducible apply State.apply0_keeps k1
    | with_reducible apply State.regApply_keeps k1
    | with_reducible apply ite_keeps

theorem State.fltWrite_keeps {κ : Nat} {σ : State} {s : State} {pid a v : Nat} (hκ : Sub 1 κ) (hσ : Keeps κ σ s) :
    Keeps κ σ (State.fltWrite s pid a v) := by
  have k0 : Sub 1 κ := Sub.trans (by decide : 1 &&& 1 = 1) hκ
  unfold State.fltWrite
  repeat' first
    | with_reducible assumption
    | with_reducible apply State.applyBut_keeps k0
    | with_reducible apply State.apply0_keeps k0
    | with_reducible apply State.regApply_keeps k0
    | with_reducible apply ite_keeps

theorem State.pageWrite_keeps {κ : Nat} {σ : State} {s : State} {pid a v : Nat} (hκ : Sub 29884383 κ) (hσ : Keeps κ σ s) :
    Keeps κ σ (State.pageWrite s pid a v) := by
  have k0 : Sub 139 κ := Sub.trans (by decide : 139 &&& 29884383 = 139) hκ
  have k1 : Sub 203 κ := Sub.trans (by decide : 203 &&& 29884383 = 203) hκ
  have k2 : Sub 1 κ := Sub.trans (by decide : 1 &&& 29884383 = 1) hκ
  have k3 : Sub 8388751 κ := Sub.trans (by decide : 8388751 &&& 29884383 = 8388751) hκ
  have k4 : Sub 651 κ := Sub.trans (by decide : 651 &&& 29884383 = 651) hκ
  have k5 : Sub 5771 κ := Sub.trans (by decide : 5771 &&& 29884383 = 5771) hκ
  have k6 : Sub 2187 κ := Sub.trans (by decide : 2187 &&& 29884383 = 2187) hκ
  have k7 : Sub 8193 κ := Sub.trans (by decide : 8193 &&& 29884383 = 8193) hκ
  have k8 : Sub 262283 κ := Sub.trans (by decide : 262283 &&& 29884383 = 262283) hκ
  have k9 : Sub 266241 κ := Sub.trans (by decide : 266241 &&& 29884383 = 266241) hκ
  have k10 : Sub 65675 κ := Sub.trans (by decide : 65675 &&& 29884383 = 65675) hκ
  have k11 : Sub 4194433 κ := Sub.trans (by decide : 4194433 &&& 29884383 = 4194433) hκ
  have k12 : Sub 131073 κ := Sub.trans (by decide : 131073 &&& 29884383 = 131073) hκ
  have k13 : Sub 32769 κ := Sub.trans (by decide : 32769 &&& 29884383 = 32769) hκ
  have k14 : Sub 32907 κ := Sub.trans (by decide : 32907 &&& 29884383 = 32907) hκ
  have k15 : Sub 16777691 κ := Sub.trans (by decide : 16777691 &&& 29884383 = 16777691) hκ
  have k16 : Sub 16803803 κ := Sub.trans (by decide : 16803803 &&& 29884383 = 16803803) hκ
  unfold State.pageWrite
  repeat' first
    | with_reducible assumption
    | with_reducible apply State.evtClear_keeps k0
    | with_reducible apply State.evtEnWrite_keeps k0
    | with_reducible apply State.jerWrite_keeps k1
    | with_reducible apply State.applyBut_keeps k2
    | with_reducible apply State.rndWrite_keeps k3
    | with_reducible apply State.swcWrite_keeps k4
    | with_reducible apply State.prtWrite_keeps k5
    | with_reducible apply State.timWrite_keeps k6
    | with_reducible apply State.audWrite_keeps k7
    | with_reducible apply State.chtWrite_keeps k2
    | with_reducible apply State.canWrite_keeps k8
    | with_reducible apply State.gwyWrite_keeps k2
    | with_reducible apply State.wakWrite_keeps k9
    | with_reducible apply State.ldcWrite_keeps k10
    | with_reducible apply State.sioWrite_keeps k11
    | with_reducible apply State.gauWrite_keeps k12
    | with_reducible apply State.corWrite_keeps k13
    | with_reducible apply State.mbxWrite_keeps k14
    | with_reducible apply State.regApply_keeps k2
    | with_reducible apply State.queWrite_keeps k15
    | with_reducible apply State.semWrite_keeps k0
    | with_reducible apply State.encWrite_keeps k2
    | with_reducible apply State.paiWrite_keeps k16
    | with_reducible apply State.fltWrite_keeps k2
    | with_reducible apply ite_keeps
    | dsimp -simprocs only
    | dsimp only
    | split

end Sys2Proof.Machine
end

