-- ==== Sys2Proof/Laws/KeepsLoading.lean ====
section
/-! SUPPORT. What each operation of Machine/Loading may do to State. -/
namespace Sys2Proof.Machine

theorem State.tableOp_keeps {κ : Nat} {σ : State} {s : State} {d : Desc} (hκ : Sub 19376079 κ) (hσ : Keeps κ σ s) :
    Keeps κ σ (State.tableOp s d) := by
  have k0 : Sub 651 κ := Sub.trans (by decide : 651 &&& 19376079 = 651) hκ
  have k1 : Sub 1675 κ := Sub.trans (by decide : 1675 &&& 19376079 = 1675) hκ
  have k2 : Sub 1163 κ := Sub.trans (by decide : 1163 &&& 19376079 = 1163) hκ
  have k3 : Sub 8321 κ := Sub.trans (by decide : 8321 &&& 19376079 = 8321) hκ
  have k4 : Sub 262272 κ := Sub.trans (by decide : 262272 &&& 19376079 = 262272) hκ
  have k5 : Sub 2097280 κ := Sub.trans (by decide : 2097280 &&& 19376079 = 2097280) hκ
  have k6 : Sub 18874831 κ := Sub.trans (by decide : 18874831 &&& 19376079 = 18874831) hκ
  have k7 : Sub 2098891 κ := Sub.trans (by decide : 2098891 &&& 19376079 = 2098891) hκ
  have k8 : Sub 196747 κ := Sub.trans (by decide : 196747 &&& 19376079 = 196747) hκ
  have k9 : Sub 32897 κ := Sub.trans (by decide : 32897 &&& 19376079 = 32897) hκ
  unfold State.tableOp
  repeat' first
    | with_reducible assumption
    | with_reducible apply State.fdbAdd_keeps k0
    | with_reducible apply State.vlanSet_keeps k0
    | with_reducible apply State.streamSet_keeps k0
    | with_reducible apply State.gclLoad_keeps k1
    | with_reducible apply State.filterSet_keeps k2
    | with_reducible apply State.qciGateLoad_keeps k1
    | with_reducible apply State.meterSet_keeps k2
    | with_reducible apply State.audStreamSet_keeps k3
    | with_reducible apply State.filterLoad_keeps k4
    | with_reducible apply State.ruleSet_keeps k5
    | with_reducible apply State.mapLoad_keeps k6
    | with_reducible apply State.pduSet_keeps k5
    | with_reducible apply State.templateSet_keeps k7
    | with_reducible apply State.chConfig_keeps k8
    | with_reducible apply State.schedLoad_keeps k9
    | split

theorem State.storeStep_keeps {κ : Nat} {σ : State} {s : State} {x : Nat × Nat × Bytes × Bytes} (hκ : Sub 31981535 κ) (hσ : Keeps κ σ s) :
    Keeps κ σ (State.storeStep s x) := by
  have k0 : Sub 29884383 κ := Sub.trans (by decide : 29884383 &&& 31981535 = 29884383) hκ
  have k1 : Sub 19376079 κ := Sub.trans (by decide : 19376079 &&& 31981535 = 19376079) hκ
  unfold State.storeStep
  repeat' first
    | with_reducible assumption
    | with_reducible apply State.pageWrite_keeps k0
    | with_reducible apply State.tableOp_keeps k1
    | with_reducible apply ite_keeps
    | with_reducible apply ite_fst_keeps

theorem State.storeRun_keeps {κ : Nat} {σ : State} {s : State} {l : List (Nat × Nat × Bytes × Bytes)} (hκ : Sub 31981535 κ) (hσ : Keeps κ σ s) :
    Keeps κ σ (State.storeRun s l) := by
  have k0 : Sub 31981535 κ := Sub.trans (by decide : 31981535 &&& 31981535 = 31981535) hκ
  unfold State.storeRun
  repeat' first
    | with_reducible assumption
    | with_reducible apply State.storeStep_keeps k0
    | with_reducible refine forEach_keeps (fun _ _ _ => ?_) ?_

end Sys2Proof.Machine
end

