-- ==== Sys2Proof/Laws/KeepsCastOn.lean ====
section
/-! SUPPORT. What each operation of Machine/CastOn may do to State. -/
namespace Sys2Proof.Machine

theorem State.program_keeps {κ : Nat} {σ : State} {s : State} {a : Nat} {b : Bytes} (hκ : Sub 4 κ) (hσ : Keeps κ σ s) :
    Keeps κ σ (State.program s a b) := by
  have k0 : Sub 4 κ := Sub.trans (by decide : 4 &&& 4 = 4) hκ
  unfold State.program
  repeat' first
    | with_reducible assumption
    | with_reducible apply State.writeBytes_keeps k0

theorem State.erase_keeps {κ : Nat} {σ : State} {s : State} {a : Nat} (hκ : Sub 4 κ) (hσ : Keeps κ σ s) :
    Keeps κ σ (State.erase s a) := by
  have k0 : Sub 4 κ := Sub.trans (by decide : 4 &&& 4 = 4) hκ
  unfold State.erase
  repeat' first
    | with_reducible assumption
    | with_reducible apply State.writeBytes_keeps k0

theorem State.showAreas_keeps {κ : Nat} {σ : State} {s : State} (hκ : Sub 1 κ) (hσ : Keeps κ σ s) :
    Keeps κ σ (State.showAreas s) := by
  have k0 : Sub 1 κ := Sub.trans (by decide : 1 &&& 1 = 1) hκ
  unfold State.showAreas
  repeat' first
    | with_reducible assumption
    | with_reducible apply State.put_keeps k0
    | with_reducible apply ite_keeps
    | dsimp -simprocs only
    | dsimp only

theorem State.markStaging_keeps {κ : Nat} {σ : State} {s : State} {v : Nat} (hκ : Sub 5 κ) (hσ : Keeps κ σ s) :
    Keeps κ σ (State.markStaging s v) := by
  have k0 : Sub 4 κ := Sub.trans (by decide : 4 &&& 5 = 4) hκ
  have k1 : Sub 1 κ := Sub.trans (by decide : 1 &&& 5 = 1) hκ
  unfold State.markStaging
  repeat' first
    | with_reducible assumption
    | with_reducible apply State.program_keeps k0
    | with_reducible apply State.showAreas_keeps k1

theorem State.append_keeps {κ : Nat} {σ : State} {s : State} {phase chunk crc used : Nat} (hκ : Sub 4 κ) (hσ : Keeps κ σ s) :
    Keeps κ σ (State.append s phase chunk crc used) := by
  have k0 : Sub 4 κ := Sub.trans (by decide : 4 &&& 4 = 4) hκ
  unfold State.append
  repeat' first
    | with_reducible assumption
    | with_reducible apply State.program_keeps k0
    | with_reducible apply State.erase_keeps k0
    | dsimp -simprocs only
    | dsimp only
    | split

theorem State.appendFor_keeps {κ : Nat} {σ : State} {s : State} {phase chunk a : Nat} (hκ : Sub 4 κ) (hσ : Keeps κ σ s) :
    Keeps κ σ (State.appendFor s phase chunk a) := by
  have k0 : Sub 4 κ := Sub.trans (by decide : 4 &&& 4 = 4) hκ
  unfold State.appendFor
  repeat' first
    | with_reducible assumption
    | with_reducible apply State.append_keeps k0

theorem State.bootState_keeps {κ : Nat} {σ : State} {s : State} {v : Nat} (hκ : Sub 1 κ) (hσ : Keeps κ σ s) :
    Keeps κ σ (State.bootState s v) := by
  have k0 : Sub 1 κ := Sub.trans (by decide : 1 &&& 1 = 1) hκ
  unfold State.bootState
  repeat' first
    | with_reducible assumption
    | with_reducible apply State.put_keeps k0

theorem State.service_keeps {κ : Nat} {σ : State} {s : State} (hκ : Sub 1 κ) (hσ : Keeps κ σ s) :
    Keeps κ σ (State.service s) := by
  have k0 : Sub 1 κ := Sub.trans (by decide : 1 &&& 1 = 1) hκ
  unfold State.service
  repeat' first
    | with_reducible assumption
    | with_reducible apply State.bootState_keeps k0
    | with_reducible apply State.put_keeps k0
    | with_reducible apply State.showAreas_keeps k0

theorem State.raiseFloors_keeps {κ : Nat} {σ : State} {s : State} (hκ : Sub 1 κ) (hσ : Keeps κ σ s) :
    Keeps κ σ (State.raiseFloors s) := by
  have k0 : Sub 1 κ := Sub.trans (by decide : 1 &&& 1 = 1) hκ
  unfold State.raiseFloors
  repeat' first
    | with_reducible assumption
    | with_reducible apply State.put_keeps k0
    | dsimp -simprocs only
    | dsimp only
    | split

theorem State.measureKind_keeps {κ : Nat} {σ : State} {kind : Nat} {s : State} (hκ : Sub 1048576 κ) (hσ : Keeps κ σ s) :
    Keeps κ σ (State.measureKind kind s) := by
  have k0 : Sub 1048576 κ := Sub.trans (by decide : 1048576 &&& 1048576 = 1048576) hκ
  unfold State.measureKind
  repeat' first
    | with_reducible assumption
    | with_reducible apply State.encMeasure_keeps k0
    | split

theorem State.loadImage_keeps {κ : Nat} {σ : State} {a : Nat} {i : Nat} {s : State} (hκ : Sub 1048783 κ) (hσ : Keeps κ σ s) :
    Keeps κ σ (State.loadImage a i s) := by
  have k0 : Sub 203 κ := Sub.trans (by decide : 203 &&& 1048783 = 203) hκ
  have k1 : Sub 4 κ := Sub.trans (by decide : 4 &&& 1048783 = 4) hκ
  have k2 : Sub 1048576 κ := Sub.trans (by decide : 1048576 &&& 1048783 = 1048576) hκ
  unfold State.loadImage
  repeat' first
    | with_reducible assumption
    | with_reducible apply State.eccWrite_keeps k0
    | with_reducible apply State.writeBytes_keeps k1
    | with_reducible apply State.encMeasure_keeps k2
    | dsimp -simprocs only
    | dsimp only

theorem State.loadImages_keeps {κ : Nat} {σ : State} {s : State} (hκ : Sub 1048783 κ) (hσ : Keeps κ σ s) :
    Keeps κ σ (State.loadImages s) := by
  have k0 : Sub 1048783 κ := Sub.trans (by decide : 1048783 &&& 1048783 = 1048783) hκ
  unfold State.loadImages
  repeat' first
    | with_reducible assumption
    | with_reducible apply State.loadImage_keeps k0
    | with_reducible refine forEach_keeps (fun _ _ _ => ?_) ?_
    | split

theorem State.castDie_keeps {κ : Nat} {σ : State} {f : State → Nat → State} {b : Nat} {s : State} (_ : Sub 0 κ) (h_f : ∀ x0 x1, Keeps κ σ x0 → Keeps κ σ (f x0 x1)) (hσ : Keeps κ σ s) :
    Keeps κ σ (State.castDie f b s) := by
  unfold State.castDie
  repeat' first
    | with_reducible assumption
    | with_reducible apply h_f
    | with_reducible apply ite_keeps

theorem State.applyConfig_keeps {κ : Nat} {σ : State} {s : State} (hκ : Sub 31981535 κ) (hσ : Keeps κ σ s) :
    Keeps κ σ (State.applyConfig s) := by
  have k0 : Sub 1 κ := Sub.trans (by decide : 1 &&& 31981535 = 1) hκ
  have k1 : Sub 0 κ := Sub.trans (by decide : 0 &&& 31981535 = 0) hκ
  have k2 : Sub 65675 κ := Sub.trans (by decide : 65675 &&& 31981535 = 65675) hκ
  have k3 : Sub 31981535 κ := Sub.trans (by decide : 31981535 &&& 31981535 = 31981535) hκ
  have k4 : Sub 139 κ := Sub.trans (by decide : 139 &&& 31981535 = 139) hκ
  unfold State.applyConfig
  repeat' first
    | with_reducible assumption
    | with_reducible apply State.put_keeps k0
    | with_reducible apply State.castDie_keeps k1
    | with_reducible apply State.hearDie_keeps k2
    | with_reducible apply State.armBank_keeps k2
    | with_reducible apply State.storeRun_keeps k3
    | with_reducible apply State.raise_keeps k4
    | with_reducible refine forEach_keeps (fun _ _ _ => ?_) ?_
    | intro _
    | dsimp -simprocs only
    | dsimp only
    | split

theorem State.reload_keeps {κ : Nat} {σ : State} {s : State} {f : Nat} (hκ : Sub 31981535 κ) (hσ : Keeps κ σ s) :
    Keeps κ σ (State.reload s f) := by
  have k0 : Sub 31981535 κ := Sub.trans (by decide : 31981535 &&& 31981535 = 31981535) hκ
  unfold State.reload
  repeat' first
    | with_reducible assumption
    | with_reducible apply State.storeRun_keeps k0
    | split

theorem State.startPattern_keeps {κ : Nat} {σ : State} {s : State} (hκ : Sub 155649 κ) (hσ : Keeps κ σ s) :
    Keeps κ σ (State.startPattern s) := by
  have k0 : Sub 8192 κ := Sub.trans (by decide : 8192 &&& 155649 = 8192) hκ
  have k1 : Sub 131073 κ := Sub.trans (by decide : 131073 &&& 155649 = 131073) hκ
  have k2 : Sub 1 κ := Sub.trans (by decide : 1 &&& 155649 = 1) hκ
  have k3 : Sub 16385 κ := Sub.trans (by decide : 16385 &&& 155649 = 16385) hκ
  unfold State.startPattern
  repeat' first
    | with_reducible assumption
    | with_reducible apply State.onAud_keeps k0
    | with_reducible apply State.newFloor_keeps k1
    | with_reducible apply State.showLoads_keeps k2
    | with_reducible apply State.askChart_keeps k3
    | intro _
    | split

theorem State.armBlocks_keeps {κ : Nat} {σ : State} {s : State} (hκ : Sub 2065 κ) (hσ : Keeps κ σ s) :
    Keeps κ σ (State.armBlocks s) := by
  have k0 : Sub 1 κ := Sub.trans (by decide : 1 &&& 2065 = 1) hκ
  have k1 : Sub 16 κ := Sub.trans (by decide : 16 &&& 2065 = 16) hκ
  have k2 : Sub 2048 κ := Sub.trans (by decide : 2048 &&& 2065 = 2048) hκ
  unfold State.armBlocks
  repeat' first
    | with_reducible assumption
    | with_reducible apply State.put_keeps k0
    | with_reducible apply State.drawn_keeps k1
    | with_reducible apply State.onTim_keeps k2
    | intro _
    | dsimp -simprocs only
    | dsimp only

theorem State.startTrial_keeps {κ : Nat} {σ : State} {s : State} (hκ : Sub 8388747 κ) (hσ : Keeps κ σ s) :
    Keeps κ σ (State.startTrial s) := by
  have k0 : Sub 1 κ := Sub.trans (by decide : 1 &&& 8388747 = 1) hκ
  have k1 : Sub 8388608 κ := Sub.trans (by decide : 8388608 &&& 8388747 = 8388608) hκ
  have k2 : Sub 139 κ := Sub.trans (by decide : 139 &&& 8388747 = 139) hκ
  unfold State.startTrial
  repeat' first
    | with_reducible assumption
    | with_reducible apply State.bootState_keeps k0
    | with_reducible apply State.onBoo_keeps k1
    | with_reducible apply State.raise_keeps k2
    | intro _
    | dsimp -simprocs only
    | dsimp only
    | split

theorem State.releaseCores_keeps {κ : Nat} {σ : State} {s : State} {trial : Bool} (hκ : Sub 8425611 κ) (hσ : Keeps κ σ s) :
    Keeps κ σ (State.releaseCores s trial) := by
  have k0 : Sub 32769 κ := Sub.trans (by decide : 32769 &&& 8425611 = 32769) hκ
  have k1 : Sub 32768 κ := Sub.trans (by decide : 32768 &&& 8425611 = 32768) hκ
  have k2 : Sub 1 κ := Sub.trans (by decide : 1 &&& 8425611 = 1) hκ
  have k3 : Sub 4235 κ := Sub.trans (by decide : 4235 &&& 8425611 = 4235) hκ
  have k4 : Sub 8388747 κ := Sub.trans (by decide : 8388747 &&& 8425611 = 8388747) hκ
  unfold State.releaseCores
  repeat' first
    | with_reducible assumption
    | with_reducible apply State.coreChange_keeps k0
    | with_reducible apply State.onCor_keeps k1
    | with_reducible apply State.put_keeps k2
    | with_reducible apply State.enterRun_keeps k3
    | with_reducible apply State.startTrial_keeps k4
    | with_reducible apply ite_keeps
    | intro _
    | dsimp -simprocs only
    | dsimp only

theorem State.bootArea_keeps {κ : Nat} {σ : State} {s : State} {trial : Bool} (hκ : Sub 33030111 κ) (hσ : Keeps κ σ s) :
    Keeps κ σ (State.bootArea s trial) := by
  have k0 : Sub 1 κ := Sub.trans (by decide : 1 &&& 33030111 = 1) hκ
  have k1 : Sub 1048715 κ := Sub.trans (by decide : 1048715 &&& 33030111 = 1048715) hκ
  have k2 : Sub 1048576 κ := Sub.trans (by decide : 1048576 &&& 33030111 = 1048576) hκ
  have k3 : Sub 31981535 κ := Sub.trans (by decide : 31981535 &&& 33030111 = 31981535) hκ
  have k4 : Sub 155649 κ := Sub.trans (by decide : 155649 &&& 33030111 = 155649) hκ
  have k5 : Sub 2065 κ := Sub.trans (by decide : 2065 &&& 33030111 = 2065) hκ
  have k6 : Sub 1048783 κ := Sub.trans (by decide : 1048783 &&& 33030111 = 1048783) hκ
  have k7 : Sub 8425611 κ := Sub.trans (by decide : 8425611 &&& 33030111 = 8425611) hκ
  unfold State.bootArea
  repeat' first
    | with_reducible assumption
    | with_reducible apply State.bootState_keeps k0
    | with_reducible apply State.put_keeps k0
    | with_reducible apply State.encStart_keeps k1
    | with_reducible apply State.measureKind_keeps k2
    | with_reducible apply State.applyConfig_keeps k3
    | with_reducible apply State.startPattern_keeps k4
    | with_reducible apply State.armBlocks_keeps k5
    | with_reducible apply State.loadImages_keeps k6
    | with_reducible apply State.showAreas_keeps k0
    | with_reducible apply State.releaseCores_keeps k7
    | with_reducible apply ite_keeps
    | with_reducible refine forEach_keeps (fun _ _ _ => ?_) ?_
    | dsimp -simprocs only
    | dsimp only

theorem State.flashStart_keeps {κ : Nat} {σ : State} {s : State} {o : FlashOp} (hκ : Sub 8388608 κ) (hσ : Keeps κ σ s) :
    Keeps κ σ (State.flashStart s o) := by
  have k0 : Sub 8388608 κ := Sub.trans (by decide : 8388608 &&& 8388608 = 8388608) hκ
  unfold State.flashStart
  repeat' first
    | with_reducible assumption
    | with_reducible apply State.onBoo_keeps k0
    | intro _

theorem State.copyChunk_keeps {κ : Nat} {σ : State} {s : State} {j : CopyJob} (hκ : Sub 8388608 κ) (hσ : Keeps κ σ s) :
    Keeps κ σ (State.copyChunk s j) := by
  have k0 : Sub 8388608 κ := Sub.trans (by decide : 8388608 &&& 8388608 = 8388608) hκ
  unfold State.copyChunk
  repeat' first
    | with_reducible assumption
    | with_reducible apply State.onBoo_keeps k0
    | with_reducible apply State.flashStart_keeps k0
    | intro _

theorem State.copyFrom_keeps {κ : Nat} {σ : State} {s : State} {src dst phase k : Nat} {done : State → State} (hκ : Sub 8388608 κ) (h_done : ∀ x0, Keeps κ σ x0 → Keeps κ σ (done x0)) (hσ : Keeps κ σ s) :
    Keeps κ σ (State.copyFrom s src dst phase k done) := by
  have k0 : Sub 8388608 κ := Sub.trans (by decide : 8388608 &&& 8388608 = 8388608) hκ
  unfold State.copyFrom
  repeat' first
    | with_reducible assumption
    | with_reducible apply h_done
    | with_reducible apply State.copyChunk_keeps k0
    | with_reducible apply State.onBoo_keeps k0
    | with_reducible apply ite_keeps
    | intro _
    | dsimp -simprocs only
    | dsimp only

theorem State.bootActive_keeps {κ : Nat} {σ : State} {trial : Bool} {s : State} (hκ : Sub 33030111 κ) (hσ : Keeps κ σ s) :
    Keeps κ σ (State.bootActive trial s) := by
  have k0 : Sub 1 κ := Sub.trans (by decide : 1 &&& 33030111 = 1) hκ
  have k1 : Sub 33030111 κ := Sub.trans (by decide : 33030111 &&& 33030111 = 33030111) hκ
  have k2 : Sub 8388608 κ := Sub.trans (by decide : 8388608 &&& 33030111 = 8388608) hκ
  unfold State.bootActive
  repeat' first
    | with_reducible assumption
    | with_reducible apply State.raiseFloors_keeps k0
    | with_reducible apply State.bootArea_keeps k1
    | with_reducible apply State.put_keeps k0
    | with_reducible apply State.service_keeps k0
    | with_reducible apply State.bootState_keeps k0
    | with_reducible apply State.copyFrom_keeps k2
    | with_reducible apply ite_keeps
    | intro _
    | dsimp -simprocs only
    | dsimp only
    | split

theorem State.restored_keeps {κ : Nat} {σ : State} {s : State} (hκ : Sub 33030111 κ) (hσ : Keeps κ σ s) :
    Keeps κ σ (State.restored s) := by
  have k0 : Sub 4 κ := Sub.trans (by decide : 4 &&& 33030111 = 4) hκ
  have k1 : Sub 139 κ := Sub.trans (by decide : 139 &&& 33030111 = 139) hκ
  have k2 : Sub 1 κ := Sub.trans (by decide : 1 &&& 33030111 = 1) hκ
  have k3 : Sub 33030111 κ := Sub.trans (by decide : 33030111 &&& 33030111 = 33030111) hκ
  unfold State.restored
  repeat' first
    | with_reducible assumption
    | with_reducible apply State.appendFor_keeps k0
    | with_reducible apply State.raise_keeps k1
    | with_reducible apply State.put_keeps k2
    | with_reducible apply State.bootActive_keeps k3
    | with_reducible apply ite_keeps
    | dsimp -simprocs only
    | dsimp only

theorem State.restoreFrom_keeps {κ : Nat} {σ : State} {s : State} {k : Nat} (hκ : Sub 33030111 κ) (hσ : Keeps κ σ s) :
    Keeps κ σ (State.restoreFrom s k) := by
  have k0 : Sub 1 κ := Sub.trans (by decide : 1 &&& 33030111 = 1) hκ
  have k1 : Sub 8388608 κ := Sub.trans (by decide : 8388608 &&& 33030111 = 8388608) hκ
  have k2 : Sub 33030111 κ := Sub.trans (by decide : 33030111 &&& 33030111 = 33030111) hκ
  unfold State.restoreFrom
  repeat' first
    | with_reducible assumption
    | with_reducible apply State.bootState_keeps k0
    | with_reducible apply State.copyFrom_keeps k1
    | with_reducible apply State.restored_keeps k2
    | intro _

theorem State.applied_keeps {κ : Nat} {σ : State} {s : State} (hκ : Sub 33030111 κ) (hσ : Keeps κ σ s) :
    Keeps κ σ (State.applied s) := by
  have k0 : Sub 5 κ := Sub.trans (by decide : 5 &&& 33030111 = 5) hκ
  have k1 : Sub 4 κ := Sub.trans (by decide : 4 &&& 33030111 = 4) hκ
  have k2 : Sub 33030111 κ := Sub.trans (by decide : 33030111 &&& 33030111 = 33030111) hκ
  unfold State.applied
  repeat' first
    | with_reducible assumption
    | with_reducible apply State.markStaging_keeps k0
    | with_reducible apply State.appendFor_keeps k1
    | with_reducible apply State.bootActive_keeps k2

theorem State.applyFrom_keeps {κ : Nat} {σ : State} {s : State} {k : Nat} (hκ : Sub 33030111 κ) (hσ : Keeps κ σ s) :
    Keeps κ σ (State.applyFrom s k) := by
  have k0 : Sub 1 κ := Sub.trans (by decide : 1 &&& 33030111 = 1) hκ
  have k1 : Sub 8388608 κ := Sub.trans (by decide : 8388608 &&& 33030111 = 8388608) hκ
  have k2 : Sub 33030111 κ := Sub.trans (by decide : 33030111 &&& 33030111 = 33030111) hκ
  unfold State.applyFrom
  repeat' first
    | with_reducible assumption
    | with_reducible apply State.bootState_keeps k0
    | with_reducible apply State.copyFrom_keeps k1
    | with_reducible apply State.applied_keeps k2
    | intro _

theorem State.backupFrom_keeps {κ : Nat} {σ : State} {s : State} {k : Nat} (hκ : Sub 33030111 κ) (hσ : Keeps κ σ s) :
    Keeps κ σ (State.backupFrom s k) := by
  have k0 : Sub 1 κ := Sub.trans (by decide : 1 &&& 33030111 = 1) hκ
  have k1 : Sub 8388608 κ := Sub.trans (by decide : 8388608 &&& 33030111 = 8388608) hκ
  have k2 : Sub 33030111 κ := Sub.trans (by decide : 33030111 &&& 33030111 = 33030111) hκ
  unfold State.backupFrom
  repeat' first
    | with_reducible assumption
    | with_reducible apply State.bootState_keeps k0
    | with_reducible apply State.copyFrom_keeps k1
    | with_reducible apply State.applyFrom_keeps k2
    | intro _

theorem State.resume_keeps {κ : Nat} {σ : State} {s : State} {go : State → Nat → State} {k : Nat} (hκ : Sub 2 κ) (h_go : ∀ x0 x1, Keeps κ σ x0 → Keeps κ σ (go x0 x1)) (hσ : Keeps κ σ s) :
    Keeps κ σ (State.resume s go k) := by
  have k0 : Sub 2 κ := Sub.trans (by decide : 2 &&& 2 = 2) hκ
  unfold State.resume
  repeat' first
    | with_reducible assumption
    | with_reducible apply h_go
    | with_reducible apply State.count_keeps k0

theorem State.bootDecide_keeps {κ : Nat} {σ : State} {s : State} (hκ : Sub 33030111 κ) (hσ : Keeps κ σ s) :
    Keeps κ σ (State.bootDecide s) := by
  have k0 : Sub 2 κ := Sub.trans (by decide : 2 &&& 33030111 = 2) hκ
  have k1 : Sub 33030111 κ := Sub.trans (by decide : 33030111 &&& 33030111 = 33030111) hκ
  have k2 : Sub 5 κ := Sub.trans (by decide : 5 &&& 33030111 = 5) hκ
  have k3 : Sub 1 κ := Sub.trans (by decide : 1 &&& 33030111 = 1) hκ
  have k4 : Sub 139 κ := Sub.trans (by decide : 139 &&& 33030111 = 139) hκ
  have k5 : Sub 4 κ := Sub.trans (by decide : 4 &&& 33030111 = 4) hκ
  unfold State.bootDecide
  repeat' first
    | with_reducible assumption
    | with_reducible apply State.count_keeps k0
    | with_reducible apply State.backupFrom_keeps k1
    | with_reducible apply State.resume_keeps k0
    | with_reducible apply State.applyFrom_keeps k1
    | with_reducible apply State.restoreFrom_keeps k1
    | with_reducible apply State.markStaging_keeps k2
    | with_reducible apply State.put_keeps k3
    | with_reducible apply State.raise_keeps k4
    | with_reducible apply State.bootActive_keeps k1
    | with_reducible apply State.appendFor_keeps k5
    | with_reducible apply ite_keeps
    | intro _
    | dsimp -simprocs only
    | dsimp only
    | split

theorem State.castOn_keeps {κ : Nat} {σ : State} {s : State} {warm : Bool} (hκ : Sub 33030111 κ) (hσ : Keeps κ σ s) :
    Keeps κ σ (State.castOn s warm) := by
  have k0 : Sub 2065 κ := Sub.trans (by decide : 2065 &&& 33030111 = 2065) hκ
  have k1 : Sub 1 κ := Sub.trans (by decide : 1 &&& 33030111 = 1) hκ
  have k2 : Sub 33030111 κ := Sub.trans (by decide : 33030111 &&& 33030111 = 33030111) hκ
  unfold State.castOn
  repeat' first
    | with_reducible assumption
    | with_reducible apply State.latticeLock_keeps k0
    | with_reducible apply State.put_keeps k1
    | with_reducible apply State.showAreas_keeps k1
    | with_reducible apply State.bootDecide_keeps k2
    | with_reducible apply ite_keeps
    | dsimp -simprocs only
    | dsimp only

theorem State.coldStart_keeps {κ : Nat} {σ : State} {s : State} {rank updMode : Nat} (hκ : Sub 33030111 κ) (hσ : Keeps κ σ s) :
    Keeps κ σ (State.coldStart s rank updMode) := by
  have k0 : Sub 1 κ := Sub.trans (by decide : 1 &&& 33030111 = 1) hκ
  have k1 : Sub 33030111 κ := Sub.trans (by decide : 33030111 &&& 33030111 = 33030111) hκ
  unfold State.coldStart
  repeat' first
    | with_reducible assumption
    | with_reducible apply State.put_keeps k0
    | with_reducible apply State.castOn_keeps k1

theorem State.copyDone_keeps {κ : Nat} {σ : State} {s : State} {j : CopyJob} (hκ : Sub 33030111 κ) (hσ : Keeps κ σ s) :
    Keeps κ σ (State.copyDone s j) := by
  have k0 : Sub 8388608 κ := Sub.trans (by decide : 8388608 &&& 33030111 = 8388608) hκ
  have k1 : Sub 33030111 κ := Sub.trans (by decide : 33030111 &&& 33030111 = 33030111) hκ
  have k2 : Sub 5 κ := Sub.trans (by decide : 5 &&& 33030111 = 5) hκ
  have k3 : Sub 4 κ := Sub.trans (by decide : 4 &&& 33030111 = 4) hκ
  unfold State.copyDone
  repeat' first
    | with_reducible assumption
    | with_reducible apply State.onBoo_keeps k0
    | with_reducible apply State.applyFrom_keeps k1
    | with_reducible apply State.applied_keeps k1
    | with_reducible apply State.restored_keeps k1
    | with_reducible apply State.markStaging_keeps k2
    | with_reducible apply State.appendFor_keeps k3
    | with_reducible apply State.bootDecide_keeps k1
    | with_reducible apply ite_keeps
    | intro _
    | dsimp -simprocs only
    | dsimp only

theorem State.copyCheck_keeps {κ : Nat} {σ : State} {s : State} {j : CopyJob} (hκ : Sub 33030111 κ) (hσ : Keeps κ σ s) :
    Keeps κ σ (State.copyCheck s j) := by
  have k0 : Sub 4 κ := Sub.trans (by decide : 4 &&& 33030111 = 4) hκ
  have k1 : Sub 8388608 κ := Sub.trans (by decide : 8388608 &&& 33030111 = 8388608) hκ
  have k2 : Sub 33030111 κ := Sub.trans (by decide : 33030111 &&& 33030111 = 33030111) hκ
  have k3 : Sub 1 κ := Sub.trans (by decide : 1 &&& 33030111 = 1) hκ
  unfold State.copyCheck
  repeat' first
    | with_reducible assumption
    | with_reducible apply State.appendFor_keeps k0
    | with_reducible apply State.copyChunk_keeps k1
    | with_reducible apply State.copyDone_keeps k2
    | with_reducible apply State.onBoo_keeps k1
    | with_reducible apply State.service_keeps k3
    | with_reducible apply ite_keeps
    | intro _
    | dsimp -simprocs only
    | dsimp only

theorem State.copyNext_keeps {κ : Nat} {σ : State} {s : State} {o : FlashOp} (hκ : Sub 33030111 κ) (hσ : Keeps κ σ s) :
    Keeps κ σ (State.copyNext s o) := by
  have k0 : Sub 4 κ := Sub.trans (by decide : 4 &&& 33030111 = 4) hκ
  have k1 : Sub 8388608 κ := Sub.trans (by decide : 8388608 &&& 33030111 = 8388608) hκ
  have k2 : Sub 33030111 κ := Sub.trans (by decide : 33030111 &&& 33030111 = 33030111) hκ
  unfold State.copyNext
  repeat' first
    | with_reducible assumption
    | with_reducible apply State.erase_keeps k0
    | with_reducible apply State.flashStart_keeps k1
    | with_reducible apply State.copyCheck_keeps k2
    | with_reducible apply ite_keeps
    | split

end Sys2Proof.Machine
end

