-- ==== Sys2Proof/Laws/KeepsRecovery.lean ====
section
/-! SUPPORT. What each operation of Machine/Recovery may do to State. -/
namespace Sys2Proof.Machine

theorem State.resetPage_keeps {κ : Nat} {σ : State} {s : State} {f : Nat} (hκ : Sub 1 κ) (hσ : Keeps κ σ s) :
    Keeps κ σ (State.resetPage s f) := by
  have k0 : Sub 1 κ := Sub.trans (by decide : 1 &&& 1 = 1) hκ
  unfold State.resetPage
  repeat' first
    | with_reducible assumption
    | with_reducible refine State.setRegs_keeps k0 (storeFilter_wf _ _ _) ?_
    | split

theorem State.restartPort_keeps {κ : Nat} {σ : State} {p : Nat} {s : State} (hκ : Sub 7899 κ) (hσ : Keeps κ σ s) :
    Keeps κ σ (State.restartPort p s) := by
  have k0 : Sub 3291 κ := Sub.trans (by decide : 3291 &&& 7899 = 3291) hκ
  have k1 : Sub 5771 κ := Sub.trans (by decide : 5771 &&& 7899 = 5771) hκ
  unfold State.restartPort
  repeat' first
    | with_reducible assumption
    | with_reducible apply State.txEnd_keeps k0
    | with_reducible apply State.macOff_keeps k1
    | with_reducible apply ite_keeps
    | dsimp -simprocs only
    | dsimp only

theorem State.restartCan_keeps {κ : Nat} {σ : State} {n : Nat} {s : State} (hκ : Sub 262273 κ) (hσ : Keeps κ σ s) :
    Keeps κ σ (State.restartCan n s) := by
  have k0 : Sub 262144 κ := Sub.trans (by decide : 262144 &&& 262273 = 262144) hκ
  have k1 : Sub 262273 κ := Sub.trans (by decide : 262273 &&& 262273 = 262273) hκ
  unfold State.restartCan
  repeat' first
    | with_reducible assumption
    | with_reducible apply State.setCtl_keeps k0
    | with_reducible apply State.canOff_keeps k1
    | dsimp -simprocs only
    | dsimp only

theorem State.restartDin_keeps {κ : Nat} {σ : State} {k : Nat} {s : State} (hκ : Sub 4194304 κ) (hσ : Keeps κ σ s) :
    Keeps κ σ (State.restartDin k s) := by
  have k0 : Sub 4194304 κ := Sub.trans (by decide : 4194304 &&& 4194304 = 4194304) hκ
  unfold State.restartDin
  repeat' first
    | with_reducible assumption
    | with_reducible apply State.setDin_keeps k0

theorem State.clearFunc_keeps {κ : Nat} {σ : State} {s : State} {f : Nat} (hκ : Sub 6586075 κ) (hσ : Keeps κ σ s) :
    Keeps κ σ (State.clearFunc s f) := by
  have k0 : Sub 7899 κ := Sub.trans (by decide : 7899 &&& 6586075 = 7899) hκ
  have k1 : Sub 1 κ := Sub.trans (by decide : 1 &&& 6586075 = 1) hκ
  have k2 : Sub 1024 κ := Sub.trans (by decide : 1024 &&& 6586075 = 1024) hκ
  have k3 : Sub 8192 κ := Sub.trans (by decide : 8192 &&& 6586075 = 8192) hκ
  have k4 : Sub 5259 κ := Sub.trans (by decide : 5259 &&& 6586075 = 5259) hκ
  have k5 : Sub 16384 κ := Sub.trans (by decide : 16384 &&& 6586075 = 16384) hκ
  have k6 : Sub 262273 κ := Sub.trans (by decide : 262273 &&& 6586075 = 262273) hκ
  have k7 : Sub 2097152 κ := Sub.trans (by decide : 2097152 &&& 6586075 = 2097152) hκ
  have k8 : Sub 4194304 κ := Sub.trans (by decide : 4194304 &&& 6586075 = 4194304) hκ
  unfold State.clearFunc
  repeat' first
    | with_reducible assumption
    | with_reducible apply State.restartPort_keeps k0
    | with_reducible apply State.resetPage_keeps k1
    | with_reducible apply State.onPrt_keeps k2
    | with_reducible apply State.onAud_keeps k3
    | with_reducible apply State.linkUp_keeps k4
    | with_reducible apply State.clearShadowSt_keeps k3
    | with_reducible apply State.onCht_keeps k5
    | with_reducible apply State.powerOff_keeps k1
    | with_reducible apply State.showEngines_keeps k1
    | with_reducible apply State.restartCan_keeps k6
    | with_reducible apply State.setGwy_keeps k7
    | with_reducible apply State.restartDin_keeps k8
    | with_reducible apply State.setSio_keeps k8
    | with_reducible apply ite_keeps
    | with_reducible refine forEach_keeps (fun _ _ _ => ?_) ?_
    | intro _
    | dsimp -simprocs only
    | dsimp only

theorem State.downDesc_keeps {κ : Nat} {σ : State} {d : Desc} {s : State} (hκ : Sub 128 κ) (hσ : Keeps κ σ s) :
    Keeps κ σ (State.downDesc d s) := by
  have k0 : Sub 128 κ := Sub.trans (by decide : 128 &&& 128 = 128) hκ
  unfold State.downDesc
  repeat' first
    | with_reducible assumption
    | with_reducible apply State.updDesc_keeps k0
    | intro _

theorem State.restartFunc_keeps {κ : Nat} {σ : State} {s : State} {f : Nat} (hκ : Sub 31981535 κ) (hσ : Keeps κ σ s) :
    Keeps κ σ (State.restartFunc s f) := by
  have k0 : Sub 139 κ := Sub.trans (by decide : 139 &&& 31981535 = 139) hκ
  have k1 : Sub 1 κ := Sub.trans (by decide : 1 &&& 31981535 = 1) hκ
  have k2 : Sub 128 κ := Sub.trans (by decide : 128 &&& 31981535 = 128) hκ
  have k3 : Sub 6586075 κ := Sub.trans (by decide : 6586075 &&& 31981535 = 6586075) hκ
  have k4 : Sub 31981535 κ := Sub.trans (by decide : 31981535 &&& 31981535 = 31981535) hκ
  have k5 : Sub 155649 κ := Sub.trans (by decide : 155649 &&& 31981535 = 155649) hκ
  unfold State.restartFunc
  repeat' first
    | with_reducible assumption
    | with_reducible apply State.frogRound_keeps k0
    | with_reducible apply State.set1_keeps k1
    | with_reducible apply State.downDesc_keeps k2
    | with_reducible apply State.clearFunc_keeps k3
    | with_reducible apply State.reload_keeps k4
    | with_reducible apply State.startPattern_keeps k5
    | with_reducible apply ite_keeps
    | with_reducible refine forEach_keeps (fun _ _ _ => ?_) ?_
    | dsimp -simprocs only
    | dsimp only

theorem State.funcRestart_keeps {κ : Nat} {σ : State} {s : State} {d : Desc} (hκ : Sub 31981535 κ) (hσ : Keeps κ σ s) :
    Keeps κ σ (State.funcRestart s d) := by
  have k0 : Sub 128 κ := Sub.trans (by decide : 128 &&& 31981535 = 128) hκ
  have k1 : Sub 31981535 κ := Sub.trans (by decide : 31981535 &&& 31981535 = 31981535) hκ
  unfold State.funcRestart
  repeat' first
    | with_reducible assumption
    | with_reducible apply State.finish_keeps k0
    | with_reducible apply State.hold_keeps k0
    | with_reducible apply State.restartFunc_keeps k1
    | with_reducible apply ite_keeps
    | dsimp -simprocs only
    | dsimp only

theorem execFuncRestart_keeps {κ : Nat} {σ : State} {r : Nat} {s : State} (hκ : Sub 31981535 κ) (hσ : Keeps κ σ s) :
    NextKeeps κ σ (execFuncRestart r s) := by
  have k0 : Sub 0 κ := Sub.trans (by decide : 0 &&& 31981535 = 0) hκ
  have k1 : Sub 31981535 κ := Sub.trans (by decide : 31981535 &&& 31981535 = 31981535) hκ
  unfold execFuncRestart
  repeat' first
    | with_reducible assumption
    | with_reducible apply next_keeps
    | with_reducible apply ite_next_keeps
    | with_reducible apply State.withOp_keeps k0
    | with_reducible apply State.funcRestart_keeps k1
    | intro _

theorem State.restartDone_keeps {κ : Nat} {σ : State} {s : State} {f : Nat} (hκ : Sub 139 κ) (hσ : Keeps κ σ s) :
    Keeps κ σ (State.restartDone s f) := by
  have k0 : Sub 1 κ := Sub.trans (by decide : 1 &&& 139 = 1) hκ
  have k1 : Sub 139 κ := Sub.trans (by decide : 139 &&& 139 = 139) hκ
  have k2 : Sub 2 κ := Sub.trans (by decide : 2 &&& 139 = 2) hκ
  have k3 : Sub 128 κ := Sub.trans (by decide : 128 &&& 139 = 128) hκ
  unfold State.restartDone
  repeat' first
    | with_reducible assumption
    | with_reducible apply State.clr1_keeps k0
    | with_reducible apply State.raise_keeps k1
    | with_reducible apply State.count_keeps k2
    | with_reducible apply State.finish_keeps k3
    | with_reducible refine forEach_keeps (fun _ _ _ => ?_) ?_
    | dsimp -simprocs only
    | dsimp only

theorem execFuncRestartDone_keeps {κ : Nat} {σ : State} {fn : Nat} {s : State} (hκ : Sub 139 κ) (hσ : Keeps κ σ s) :
    NextKeeps κ σ (execFuncRestartDone fn s) := by
  have k0 : Sub 139 κ := Sub.trans (by decide : 139 &&& 139 = 139) hκ
  unfold execFuncRestartDone
  repeat' first
    | with_reducible assumption
    | with_reducible apply next_keeps
    | with_reducible apply ite_next_keeps
    | with_reducible apply State.restartDone_keeps k0
    | with_reducible apply ite_keeps

theorem State.escalate_keeps {κ : Nat} {σ : State} {s : State} {cause : Nat} (hκ : Sub 524288 κ) (hσ : Keeps κ σ s) :
    Keeps κ σ (State.escalate s cause) := by
  have k0 : Sub 524288 κ := Sub.trans (by decide : 524288 &&& 524288 = 524288) hκ
  unfold State.escalate
  repeat' first
    | with_reducible assumption
    | with_reducible apply State.onPow_keeps k0
    | with_reducible apply State.cycleAt_keeps k0
    | intro _

theorem State.warmDue_keeps {κ : Nat} {σ : State} {s : State} {cause : Nat} (hκ : Sub 524288 κ) (hσ : Keeps κ σ s) :
    Keeps κ σ (State.warmDue s cause) := by
  have k0 : Sub 524288 κ := Sub.trans (by decide : 524288 &&& 524288 = 524288) hκ
  unfold State.warmDue
  repeat' first
    | with_reducible assumption
    | with_reducible apply State.escalate_keeps k0
    | with_reducible apply State.warmAt_keeps k0
    | with_reducible apply ite_keeps
    | split

theorem execWarmReset_keeps {κ : Nat} {σ : State} {r : Nat} {s : State} (hκ : Sub 128 κ) (hσ : Keeps κ σ s) :
    NextKeeps κ σ (execWarmReset r s) := by
  have k0 : Sub 0 κ := Sub.trans (by decide : 0 &&& 128 = 0) hκ
  have k1 : Sub 128 κ := Sub.trans (by decide : 128 &&& 128 = 128) hκ
  unfold execWarmReset
  repeat' first
    | with_reducible assumption
    | with_reducible apply next_keeps
    | with_reducible apply ite_next_keeps
    | with_reducible apply State.withOp_keeps k0
    | with_reducible apply State.finish_keeps k1
    | with_reducible apply ite_keeps
    | intro _

theorem execPowerCycle_keeps {κ : Nat} {σ : State} {r : Nat} {s : State} (hκ : Sub 128 κ) (hσ : Keeps κ σ s) :
    NextKeeps κ σ (execPowerCycle r s) := by
  have k0 : Sub 0 κ := Sub.trans (by decide : 0 &&& 128 = 0) hκ
  have k1 : Sub 128 κ := Sub.trans (by decide : 128 &&& 128 = 128) hκ
  unfold execPowerCycle
  repeat' first
    | with_reducible assumption
    | with_reducible apply next_keeps
    | with_reducible apply ite_next_keeps
    | with_reducible apply State.withOp_keeps k0
    | with_reducible apply State.finish_keeps k1
    | with_reducible apply ite_keeps
    | intro _

theorem State.devReset_keeps {κ : Nat} {σ : State} {s : State} {pid v : Nat} (hκ : Sub 524288 κ) (hσ : Keeps κ σ s) :
    Keeps κ σ (State.devReset s pid v) := by
  have k0 : Sub 524288 κ := Sub.trans (by decide : 524288 &&& 524288 = 524288) hκ
  unfold State.devReset
  repeat' first
    | with_reducible assumption
    | with_reducible apply State.warmDue_keeps k0
    | with_reducible apply ite_keeps

theorem State.devPwrcyc_keeps {κ : Nat} {σ : State} {s : State} {pid v : Nat} (hκ : Sub 524288 κ) (hσ : Keeps κ σ s) :
    Keeps κ σ (State.devPwrcyc s pid v) := by
  have k0 : Sub 524288 κ := Sub.trans (by decide : 524288 &&& 524288 = 524288) hκ
  unfold State.devPwrcyc
  repeat' first
    | with_reducible assumption
    | with_reducible apply State.cycleAt_keeps k0
    | with_reducible apply ite_keeps

theorem execDevResetWrite_keeps {κ : Nat} {σ : State} {pid val : Nat} {s : State} (hκ : Sub 524288 κ) (hσ : Keeps κ σ s) :
    NextKeeps κ σ (execDevResetWrite pid val s) := by
  have k0 : Sub 524288 κ := Sub.trans (by decide : 524288 &&& 524288 = 524288) hκ
  unfold execDevResetWrite
  repeat' first
    | with_reducible assumption
    | with_reducible apply next_keeps
    | with_reducible apply ite_next_keeps
    | with_reducible apply State.devReset_keeps k0

theorem execDevPwrcycWrite_keeps {κ : Nat} {σ : State} {pid val : Nat} {s : State} (hκ : Sub 524288 κ) (hσ : Keeps κ σ s) :
    NextKeeps κ σ (execDevPwrcycWrite pid val s) := by
  have k0 : Sub 524288 κ := Sub.trans (by decide : 524288 &&& 524288 = 524288) hκ
  unfold execDevPwrcycWrite
  repeat' first
    | with_reducible assumption
    | with_reducible apply next_keeps
    | with_reducible apply ite_next_keeps
    | with_reducible apply State.devPwrcyc_keeps k0

theorem execResetNAssert_keeps {κ : Nat} {σ : State} {s : State} (hκ : Sub 524288 κ) (hσ : Keeps κ σ s) :
    NextKeeps κ σ (execResetNAssert s) := by
  have k0 : Sub 524288 κ := Sub.trans (by decide : 524288 &&& 524288 = 524288) hκ
  unfold execResetNAssert
  repeat' first
    | with_reducible assumption
    | with_reducible apply next_keeps
    | with_reducible apply ite_next_keeps
    | with_reducible apply State.onPow_keeps k0
    | with_reducible apply State.warmDue_keeps k0
    | intro _

theorem execMgmtWdExpiry_keeps {κ : Nat} {σ : State} {s : State} (hκ : Sub 524288 κ) (hσ : Keeps κ σ s) :
    NextKeeps κ σ (execMgmtWdExpiry s) := by
  have k0 : Sub 524288 κ := Sub.trans (by decide : 524288 &&& 524288 = 524288) hκ
  unfold execMgmtWdExpiry
  repeat' first
    | with_reducible assumption
    | with_reducible apply next_keeps
    | with_reducible apply ite_next_keeps
    | with_reducible apply State.warmDue_keeps k0

theorem execMgmtFault_keeps {κ : Nat} {σ : State} {s : State} (hκ : Sub 524288 κ) (hσ : Keeps κ σ s) :
    NextKeeps κ σ (execMgmtFault s) := by
  have k0 : Sub 524288 κ := Sub.trans (by decide : 524288 &&& 524288 = 524288) hκ
  unfold execMgmtFault
  repeat' first
    | with_reducible assumption
    | with_reducible apply next_keeps
    | with_reducible apply ite_next_keeps
    | with_reducible apply State.warmDue_keeps k0

theorem State.hostKick_keeps {κ : Nat} {σ : State} {s : State} {pid : Nat} (hκ : Sub 524288 κ) (hσ : Keeps κ σ s) :
    Keeps κ σ (State.hostKick s pid) := by
  have k0 : Sub 524288 κ := Sub.trans (by decide : 524288 &&& 524288 = 524288) hκ
  unfold State.hostKick
  repeat' first
    | with_reducible assumption
    | with_reducible apply State.onPow_keeps k0
    | with_reducible apply ite_keeps
    | intro _

theorem execHostKick_keeps {κ : Nat} {σ : State} {pid _val : Nat} {s : State} (hκ : Sub 524288 κ) (hσ : Keeps κ σ s) :
    NextKeeps κ σ (execHostKick pid _val s) := by
  have k0 : Sub 524288 κ := Sub.trans (by decide : 524288 &&& 524288 = 524288) hκ
  unfold execHostKick
  repeat' first
    | with_reducible assumption
    | with_reducible apply next_keeps
    | with_reducible apply ite_next_keeps
    | with_reducible apply State.hostKick_keeps k0

theorem State.hostWdWrite_keeps {κ : Nat} {σ : State} {s : State} {v : Nat} (hκ : Sub 524289 κ) (hσ : Keeps κ σ s) :
    Keeps κ σ (State.hostWdWrite s v) := by
  have k0 : Sub 1 κ := Sub.trans (by decide : 1 &&& 524289 = 1) hκ
  have k1 : Sub 524288 κ := Sub.trans (by decide : 524288 &&& 524289 = 524288) hκ
  unfold State.hostWdWrite
  repeat' first
    | with_reducible assumption
    | with_reducible apply State.put_keeps k0
    | with_reducible apply State.onPow_keeps k1
    | with_reducible apply ite_keeps
    | intro _
    | dsimp -simprocs only
    | dsimp only

theorem execHostWdExpiry_keeps {κ : Nat} {σ : State} {s : State} (hκ : Sub 524427 κ) (hσ : Keeps κ σ s) :
    NextKeeps κ σ (execHostWdExpiry s) := by
  have k0 : Sub 139 κ := Sub.trans (by decide : 139 &&& 524427 = 139) hκ
  have k1 : Sub 524288 κ := Sub.trans (by decide : 524288 &&& 524427 = 524288) hκ
  unfold execHostWdExpiry
  repeat' first
    | with_reducible assumption
    | with_reducible apply next_keeps
    | with_reducible apply ite_next_keeps
    | with_reducible apply State.raise_keeps k0
    | with_reducible apply State.onPow_keeps k1
    | with_reducible apply State.warmDue_keeps k1
    | with_reducible apply ite_keeps
    | intro _
    | dsimp -simprocs only
    | dsimp only

theorem State.warmOn_keeps {κ : Nat} {σ : State} {s : State} (hκ : Sub 33554399 κ) (hσ : Keeps κ σ s) :
    Keeps κ σ (State.warmOn s) := by
  have k0 : Sub 524288 κ := Sub.trans (by decide : 524288 &&& 33554399 = 524288) hκ
  have k1 : Sub 33554399 κ := Sub.trans (by decide : 33554399 &&& 33554399 = 33554399) hκ
  have k2 : Sub 33030111 κ := Sub.trans (by decide : 33030111 &&& 33554399 = 33030111) hκ
  unfold State.warmOn
  repeat' first
    | with_reducible assumption
    | with_reducible apply State.onPow_keeps k0
    | with_reducible apply State.resetLogic_keeps k1
    | with_reducible apply State.castOn_keeps k2
    | intro _

theorem State.warmBegin_keeps {κ : Nat} {σ : State} {s : State} {cause : Nat} (hκ : Sub 33554399 κ) (hσ : Keeps κ σ s) :
    Keeps κ σ (State.warmBegin s cause) := by
  have k0 : Sub 1 κ := Sub.trans (by decide : 1 &&& 33554399 = 1) hκ
  have k1 : Sub 524288 κ := Sub.trans (by decide : 524288 &&& 33554399 = 524288) hκ
  have k2 : Sub 68827 κ := Sub.trans (by decide : 68827 &&& 33554399 = 68827) hκ
  have k3 : Sub 33554399 κ := Sub.trans (by decide : 33554399 &&& 33554399 = 33554399) hκ
  unfold State.warmBegin
  repeat' first
    | with_reducible assumption
    | with_reducible apply State.setCause_keeps k0
    | with_reducible apply State.put_keeps k0
    | with_reducible apply State.onPow_keeps k1
    | with_reducible apply State.windDown_keeps k2
    | with_reducible apply State.warmOn_keeps k3
    | with_reducible apply ite_keeps
    | intro _
    | dsimp -simprocs only
    | dsimp only

theorem execWarmResetBegin_keeps {κ : Nat} {σ : State} {s : State} (hκ : Sub 33554399 κ) (hσ : Keeps κ σ s) :
    NextKeeps κ σ (execWarmResetBegin s) := by
  have k0 : Sub 524288 κ := Sub.trans (by decide : 524288 &&& 33554399 = 524288) hκ
  have k1 : Sub 33554399 κ := Sub.trans (by decide : 33554399 &&& 33554399 = 33554399) hκ
  unfold execWarmResetBegin
  repeat' first
    | with_reducible assumption
    | with_reducible apply next_keeps
    | with_reducible apply ite_next_keeps
    | with_reducible apply State.onPow_keeps k0
    | with_reducible apply State.escalate_keeps k0
    | with_reducible apply State.warmBegin_keeps k1
    | with_reducible apply ite_keeps
    | intro _
    | split

theorem execResetNRelease_keeps {κ : Nat} {σ : State} {s : State} (hκ : Sub 33554399 κ) (hσ : Keeps κ σ s) :
    NextKeeps κ σ (execResetNRelease s) := by
  have k0 : Sub 524288 κ := Sub.trans (by decide : 524288 &&& 33554399 = 524288) hκ
  have k1 : Sub 33554399 κ := Sub.trans (by decide : 33554399 &&& 33554399 = 33554399) hκ
  unfold execResetNRelease
  repeat' first
    | with_reducible assumption
    | with_reducible apply next_keeps
    | with_reducible apply ite_next_keeps
    | with_reducible apply State.onPow_keeps k0
    | with_reducible apply State.warmOn_keeps k1
    | with_reducible apply ite_keeps
    | intro _
    | dsimp -simprocs only
    | dsimp only

theorem execPowerCycleBegin_keeps {κ : Nat} {σ : State} {s : State} (hκ : Sub 33554399 κ) (hσ : Keeps κ σ s) :
    NextKeeps κ σ (execPowerCycleBegin s) := by
  have k0 : Sub 1 κ := Sub.trans (by decide : 1 &&& 33554399 = 1) hκ
  have k1 : Sub 68827 κ := Sub.trans (by decide : 68827 &&& 33554399 = 68827) hκ
  have k2 : Sub 33554399 κ := Sub.trans (by decide : 33554399 &&& 33554399 = 33554399) hκ
  have k3 : Sub 524288 κ := Sub.trans (by decide : 524288 &&& 33554399 = 524288) hκ
  unfold execPowerCycleBegin
  repeat' first
    | with_reducible assumption
    | with_reducible apply next_keeps
    | with_reducible apply ite_next_keeps
    | with_reducible apply State.setCause_keeps k0
    | with_reducible apply State.windDown_keeps k1
    | with_reducible apply State.stopLogic_keeps k2
    | with_reducible apply State.onPow_keeps k3
    | with_reducible apply ite_keeps
    | intro _
    | dsimp -simprocs only
    | dsimp only
    | split

theorem execPowerCycleEnd_keeps {κ : Nat} {σ : State} {rank updMode : Nat} {s : State} (hκ : Sub 33554399 κ) (hσ : Keeps κ σ s) :
    NextKeeps κ σ (execPowerCycleEnd rank updMode s) := by
  have k0 : Sub 524288 κ := Sub.trans (by decide : 524288 &&& 33554399 = 524288) hκ
  have k1 : Sub 1 κ := Sub.trans (by decide : 1 &&& 33554399 = 1) hκ
  have k2 : Sub 33030111 κ := Sub.trans (by decide : 33030111 &&& 33554399 = 33030111) hκ
  unfold execPowerCycleEnd
  repeat' first
    | with_reducible assumption
    | with_reducible apply next_keeps
    | with_reducible apply ite_next_keeps
    | with_reducible apply State.onPow_keeps k0
    | with_reducible apply State.put_keeps k1
    | with_reducible apply State.coldStart_keeps k2
    | with_reducible apply ite_keeps
    | intro _
    | dsimp -simprocs only
    | dsimp only
    | split

theorem execVlogLoss_keeps {κ : Nat} {σ : State} {s : State} (hκ : Sub 33554399 κ) (hσ : Keeps κ σ s) :
    NextKeeps κ σ (execVlogLoss s) := by
  have k0 : Sub 524288 κ := Sub.trans (by decide : 524288 &&& 33554399 = 524288) hκ
  have k1 : Sub 33554399 κ := Sub.trans (by decide : 33554399 &&& 33554399 = 33554399) hκ
  have k2 : Sub 1 κ := Sub.trans (by decide : 1 &&& 33554399 = 1) hκ
  unfold execVlogLoss
  repeat' first
    | with_reducible assumption
    | with_reducible apply next_keeps
    | with_reducible apply ite_next_keeps
    | with_reducible apply State.onPow_keeps k0
    | with_reducible apply State.stopLogic_keeps k1
    | with_reducible apply State.setCause_keeps k2
    | with_reducible apply ite_keeps
    | intro _
    | dsimp -simprocs only
    | dsimp only

theorem execColdCastOn_keeps {κ : Nat} {σ : State} {rank updMode : Nat} {s : State} (hκ : Sub 33554399 κ) (hσ : Keeps κ σ s) :
    NextKeeps κ σ (execColdCastOn rank updMode s) := by
  have k0 : Sub 524288 κ := Sub.trans (by decide : 524288 &&& 33554399 = 524288) hκ
  have k1 : Sub 33030111 κ := Sub.trans (by decide : 33030111 &&& 33554399 = 33030111) hκ
  unfold execColdCastOn
  repeat' first
    | with_reducible assumption
    | with_reducible apply next_keeps
    | with_reducible apply ite_next_keeps
    | with_reducible apply State.onPow_keeps k0
    | with_reducible apply State.coldStart_keeps k1
    | with_reducible apply ite_keeps
    | intro _
    | dsimp -simprocs only
    | dsimp only
    | split

theorem State.thermal_keeps {κ : Nat} {σ : State} {s : State} {tj : Int} (hκ : Sub 524427 κ) (hσ : Keeps κ σ s) :
    Keeps κ σ (State.thermal s tj) := by
  have k0 : Sub 1 κ := Sub.trans (by decide : 1 &&& 524427 = 1) hκ
  have k1 : Sub 139 κ := Sub.trans (by decide : 139 &&& 524427 = 139) hκ
  have k2 : Sub 524288 κ := Sub.trans (by decide : 524288 &&& 524427 = 524288) hκ
  unfold State.thermal
  repeat' first
    | with_reducible assumption
    | with_reducible apply State.put_keeps k0
    | with_reducible apply State.raise_keeps k1
    | with_reducible apply State.onPow_keeps k2
    | with_reducible apply State.cycleAt_keeps k2
    | with_reducible apply ite_keeps
    | intro _
    | dsimp -simprocs only
    | dsimp only

theorem execThermalPoll_keeps {κ : Nat} {σ : State} {tj : Int} {s : State} (hκ : Sub 524427 κ) (hσ : Keeps κ σ s) :
    NextKeeps κ σ (execThermalPoll tj s) := by
  have k0 : Sub 524288 κ := Sub.trans (by decide : 524288 &&& 524427 = 524288) hκ
  have k1 : Sub 524427 κ := Sub.trans (by decide : 524427 &&& 524427 = 524427) hκ
  unfold execThermalPoll
  repeat' first
    | with_reducible assumption
    | with_reducible apply next_keeps
    | with_reducible apply ite_next_keeps
    | with_reducible apply State.onPow_keeps k0
    | with_reducible apply State.thermal_keeps k1
    | with_reducible apply ite_keeps
    | intro _
    | dsimp -simprocs only
    | dsimp only

end Sys2Proof.Machine
end

