-- ==== Sys2Proof/Laws/KeepsCancel.lean ====
section
/-! SUPPORT. What each operation of Machine/Cancel may do to State. -/
namespace Sys2Proof.Machine

theorem State.flagCancel_keeps {κ : Nat} {σ : State} {s : State} {d : Desc} (hκ : Sub 128 κ) (hσ : Keeps κ σ s) :
    Keeps κ σ (State.flagCancel s d) := by
  have k0 : Sub 128 κ := Sub.trans (by decide : 128 &&& 128 = 128) hκ
  unfold State.flagCancel
  repeat' first
    | with_reducible assumption
    | with_reducible apply State.updDesc_keeps k0
    | intro _

theorem State.sleepCancel_keeps {κ : Nat} {σ : State} {s : State} {d : Desc} (hκ : Sub 4235 κ) (hσ : Keeps κ σ s) :
    Keeps κ σ (State.sleepCancel s d) := by
  have k0 : Sub 128 κ := Sub.trans (by decide : 128 &&& 4235 = 128) hκ
  have k1 : Sub 4224 κ := Sub.trans (by decide : 4224 &&& 4235 = 4224) hκ
  have k2 : Sub 4235 κ := Sub.trans (by decide : 4235 &&& 4235 = 4235) hκ
  unfold State.sleepCancel
  repeat' first
    | with_reducible assumption
    | with_reducible apply State.finish_keeps k0
    | with_reducible apply State.sleepEnds_keeps k1
    | with_reducible apply State.enterRun_keeps k2
    | with_reducible apply ite_keeps

theorem State.cancelStarted_keeps {κ : Nat} {σ : State} {s : State} {d : Desc} (hκ : Sub 26505359 κ) (hσ : Keeps κ σ s) :
    Keeps κ σ (State.cancelStarted s d) := by
  have k0 : Sub 128 κ := Sub.trans (by decide : 128 &&& 26505359 = 128) hκ
  have k1 : Sub 262272 κ := Sub.trans (by decide : 262272 &&& 26505359 = 262272) hκ
  have k2 : Sub 4235 κ := Sub.trans (by decide : 4235 &&& 26505359 = 4235) hκ
  have k3 : Sub 8388741 κ := Sub.trans (by decide : 8388741 &&& 26505359 = 8388741) hκ
  have k4 : Sub 1048576 κ := Sub.trans (by decide : 1048576 &&& 26505359 = 1048576) hκ
  have k5 : Sub 16801803 κ := Sub.trans (by decide : 16801803 &&& 26505359 = 16801803) hκ
  unfold State.cancelStarted
  repeat' first
    | with_reducible assumption
    | with_reducible apply State.flagCancel_keeps k0
    | with_reducible apply State.txCancel_keeps k1
    | with_reducible apply State.sioCancel_keeps k0
    | with_reducible apply State.finish_keeps k0
    | with_reducible apply State.sleepCancel_keeps k2
    | with_reducible apply State.stopStitched_keeps k3
    | with_reducible apply State.dropWork_keeps k4
    | with_reducible apply State.dropLoads_keeps k5
    | with_reducible apply ite_keeps
    | dsimp -simprocs only
    | dsimp only

theorem State.cancelAhead_keeps {κ : Nat} {σ : State} {s : State} {d : Desc} (hκ : Sub 139 κ) (hσ : Keeps κ σ s) :
    Keeps κ σ (State.cancelAhead s d) := by
  have k0 : Sub 128 κ := Sub.trans (by decide : 128 &&& 139 = 128) hκ
  have k1 : Sub 139 κ := Sub.trans (by decide : 139 &&& 139 = 139) hκ
  unfold State.cancelAhead
  repeat' first
    | with_reducible assumption
    | with_reducible apply State.updDesc_keeps k0
    | with_reducible apply State.frogFx_keeps k1
    | with_reducible apply State.setRnd_keeps k0
    | intro _
    | dsimp -simprocs only
    | dsimp only

theorem State.cancelStat_keeps {κ : Nat} {σ : State} {s : State} {n result : Nat} (hκ : Sub 1 κ) (hσ : Keeps κ σ s) :
    Keeps κ σ (State.cancelStat s n result) := by
  have k0 : Sub 1 κ := Sub.trans (by decide : 1 &&& 1 = 1) hκ
  unfold State.cancelStat
  repeat' first
    | with_reducible assumption
    | with_reducible apply State.put_keeps k0

theorem State.cancelWrite_keeps {κ : Nat} {σ : State} {s : State} {pid v : Nat} (hκ : Sub 26505359 κ) (hσ : Keeps κ σ s) :
    Keeps κ σ (State.cancelWrite s pid v) := by
  have k0 : Sub 1 κ := Sub.trans (by decide : 1 &&& 26505359 = 1) hκ
  have k1 : Sub 26505359 κ := Sub.trans (by decide : 26505359 &&& 26505359 = 26505359) hκ
  have k2 : Sub 139 κ := Sub.trans (by decide : 139 &&& 26505359 = 139) hκ
  unfold State.cancelWrite
  repeat' first
    | with_reducible assumption
    | with_reducible apply State.cancelStat_keeps k0
    | with_reducible apply State.cancelStarted_keeps k1
    | with_reducible apply State.cancelAhead_keeps k2
    | with_reducible apply ite_keeps
    | dsimp -simprocs only
    | dsimp only
    | split

theorem execCancel_keeps {κ : Nat} {σ : State} {pid val : Nat} {s : State} (hκ : Sub 26505359 κ) (hσ : Keeps κ σ s) :
    NextKeeps κ σ (execCancel pid val s) := by
  have k0 : Sub 26505359 κ := Sub.trans (by decide : 26505359 &&& 26505359 = 26505359) hκ
  unfold execCancel
  repeat' first
    | with_reducible assumption
    | with_reducible apply next_keeps
    | with_reducible apply ite_next_keeps
    | with_reducible apply State.cancelWrite_keeps k0

end Sys2Proof.Machine
end

