-- ==== Sys2Proof/Laws/KeepsRegWrite.lean ====
section
/-! SUPPORT. What each operation of Machine/RegWrite may do to State. -/
namespace Sys2Proof.Machine

theorem State.confirm_keeps {κ : Nat} {σ : State} {s : State} {pid v : Nat} (hκ : Sub 8388751 κ) (hσ : Keeps κ σ s) :
    Keeps κ σ (State.confirm s pid v) := by
  have k0 : Sub 4 κ := Sub.trans (by decide : 4 &&& 8388751 = 4) hκ
  have k1 : Sub 1 κ := Sub.trans (by decide : 1 &&& 8388751 = 1) hκ
  have k2 : Sub 8388608 κ := Sub.trans (by decide : 8388608 &&& 8388751 = 8388608) hκ
  have k3 : Sub 139 κ := Sub.trans (by decide : 139 &&& 8388751 = 139) hκ
  unfold State.confirm
  repeat' first
    | with_reducible assumption
    | with_reducible apply State.appendFor_keeps k0
    | with_reducible apply State.raiseFloors_keeps k1
    | with_reducible apply State.bootState_keeps k1
    | with_reducible apply State.onBoo_keeps k2
    | with_reducible apply State.raise_keeps k3
    | with_reducible apply ite_keeps
    | intro _
    | dsimp -simprocs only
    | dsimp only

theorem State.booWrite_keeps {κ : Nat} {σ : State} {s : State} {pid a v : Nat} (hκ : Sub 8388751 κ) (hσ : Keeps κ σ s) :
    Keeps κ σ (State.booWrite s pid a v) := by
  have k0 : Sub 1 κ := Sub.trans (by decide : 1 &&& 8388751 = 1) hκ
  have k1 : Sub 8388751 κ := Sub.trans (by decide : 8388751 &&& 8388751 = 8388751) hκ
  unfold State.booWrite
  repeat' first
    | with_reducible assumption
    | with_reducible apply State.applyBut_keeps k0
    | with_reducible apply State.apply0_keeps k0
    | with_reducible apply State.confirm_keeps k1
    | with_reducible apply State.regApply_keeps k0
    | with_reducible apply ite_keeps

theorem State.devWrite_keeps {κ : Nat} {σ : State} {s : State} {pid a v : Nat} (hκ : Sub 524289 κ) (hσ : Keeps κ σ s) :
    Keeps κ σ (State.devWrite s pid a v) := by
  have k0 : Sub 524288 κ := Sub.trans (by decide : 524288 &&& 524289 = 524288) hκ
  have k1 : Sub 524289 κ := Sub.trans (by decide : 524289 &&& 524289 = 524289) hκ
  have k2 : Sub 1 κ := Sub.trans (by decide : 1 &&& 524289 = 1) hκ
  unfold State.devWrite
  repeat' first
    | with_reducible assumption
    | with_reducible apply State.devReset_keeps k0
    | with_reducible apply State.devPwrcyc_keeps k0
    | with_reducible apply State.hostWdWrite_keeps k1
    | with_reducible apply State.hostKick_keeps k0
    | with_reducible apply State.regApply_keeps k2
    | with_reducible apply ite_keeps

theorem State.regWrite_keeps {κ : Nat} {σ : State} {s : State} {pid a v : Nat} (hκ : Sub 31457247 κ) (hσ : Keeps κ σ s) :
    Keeps κ σ (State.regWrite s pid a v) := by
  have k0 : Sub 29884383 κ := Sub.trans (by decide : 29884383 &&& 31457247 = 29884383) hκ
  have k1 : Sub 26505359 κ := Sub.trans (by decide : 26505359 &&& 31457247 = 26505359) hκ
  have k2 : Sub 524289 κ := Sub.trans (by decide : 524289 &&& 31457247 = 524289) hκ
  have k3 : Sub 8388751 κ := Sub.trans (by decide : 8388751 &&& 31457247 = 8388751) hκ
  unfold State.regWrite
  repeat' first
    | with_reducible assumption
    | with_reducible apply State.pageWrite_keeps k0
    | with_reducible apply State.cancelWrite_keeps k1
    | with_reducible apply State.devWrite_keeps k2
    | with_reducible apply State.booWrite_keeps k3
    | with_reducible apply ite_keeps
    | split

theorem execRegisterWrite_keeps {κ : Nat} {σ : State} {pid addr val : Nat} {s : State} (hκ : Sub 31457247 κ) (hσ : Keeps κ σ s) :
    NextKeeps κ σ (execRegisterWrite pid addr val s) := by
  have k0 : Sub 31457247 κ := Sub.trans (by decide : 31457247 &&& 31457247 = 31457247) hκ
  unfold execRegisterWrite
  repeat' first
    | with_reducible assumption
    | with_reducible apply next_keeps
    | with_reducible apply ite_next_keeps
    | with_reducible apply State.regWrite_keeps k0

theorem execEvtClear_keeps {κ : Nat} {σ : State} {pid addr val coincide : Nat} {s : State} (hκ : Sub 139 κ) (hσ : Keeps κ σ s) :
    NextKeeps κ σ (execEvtClear pid addr val coincide s) := by
  have k0 : Sub 139 κ := Sub.trans (by decide : 139 &&& 139 = 139) hκ
  unfold execEvtClear
  repeat' first
    | with_reducible assumption
    | with_reducible apply next_keeps
    | with_reducible apply ite_next_keeps
    | with_reducible apply State.evtClear_keeps k0
    | with_reducible apply ite_keeps

theorem execEvtEnWrite_keeps {κ : Nat} {σ : State} {pid addr val : Nat} {s : State} (hκ : Sub 139 κ) (hσ : Keeps κ σ s) :
    NextKeeps κ σ (execEvtEnWrite pid addr val s) := by
  have k0 : Sub 139 κ := Sub.trans (by decide : 139 &&& 139 = 139) hκ
  unfold execEvtEnWrite
  repeat' first
    | with_reducible assumption
    | with_reducible apply next_keeps
    | with_reducible apply ite_next_keeps
    | with_reducible apply State.evtEnWrite_keeps k0
    | with_reducible apply ite_keeps

theorem execCounterReadLow_keeps {κ : Nat} {σ : State} {pid addr : Nat} {s : State} (hκ : Sub 11 κ) (hσ : Keeps κ σ s) :
    NextKeeps κ σ (execCounterReadLow pid addr s) := by
  have k0 : Sub 3 κ := Sub.trans (by decide : 3 &&& 11 = 3) hκ
  have k1 : Sub 8 κ := Sub.trans (by decide : 8 &&& 11 = 8) hκ
  unfold execCounterReadLow
  repeat' first
    | with_reducible assumption
    | with_reducible apply next_keeps
    | with_reducible apply ite_next_keeps
    | with_reducible apply State.readCounter_keeps k0
    | with_reducible apply State.emit_keeps k1
    | with_reducible apply ite_keeps
    | with_reducible apply ite_fst_keeps
    | dsimp -simprocs only
    | dsimp only

theorem execGuardSelect_keeps {κ : Nat} {σ : State} {_pid val : Nat} {s : State} (hκ : Sub 1 κ) (hσ : Keeps κ σ s) :
    NextKeeps κ σ (execGuardSelect _pid val s) := by
  have k0 : Sub 1 κ := Sub.trans (by decide : 1 &&& 1 = 1) hκ
  unfold execGuardSelect
  repeat' first
    | with_reducible assumption
    | with_reducible apply next_keeps
    | with_reducible apply ite_next_keeps
    | with_reducible apply State.guardSelect_keeps k0

theorem execGuardCommit_keeps {κ : Nat} {σ : State} {_pid val : Nat} {s : State} (hκ : Sub 64 κ) (hσ : Keeps κ σ s) :
    NextKeeps κ σ (execGuardCommit _pid val s) := by
  have k0 : Sub 64 κ := Sub.trans (by decide : 64 &&& 64 = 64) hκ
  unfold execGuardCommit
  repeat' first
    | with_reducible assumption
    | with_reducible apply next_keeps
    | with_reducible apply ite_next_keeps
    | with_reducible apply State.guardCommit_keeps k0

theorem execEffectRangeWrite_keeps {κ : Nat} {σ : State} {_pid n which val : Nat} {s : State} (hκ : Sub 139 κ) (hσ : Keeps κ σ s) :
    NextKeeps κ σ (execEffectRangeWrite _pid n which val s) := by
  have k0 : Sub 139 κ := Sub.trans (by decide : 139 &&& 139 = 139) hκ
  unfold execEffectRangeWrite
  repeat' first
    | with_reducible assumption
    | with_reducible apply next_keeps
    | with_reducible apply ite_next_keeps
    | with_reducible apply State.effWrite_keeps k0
    | with_reducible apply ite_keeps

theorem execBooConfirm_keeps {κ : Nat} {σ : State} {pid val : Nat} {s : State} (hκ : Sub 8388751 κ) (hσ : Keeps κ σ s) :
    NextKeeps κ σ (execBooConfirm pid val s) := by
  have k0 : Sub 8388751 κ := Sub.trans (by decide : 8388751 &&& 8388751 = 8388751) hκ
  unfold execBooConfirm
  repeat' first
    | with_reducible assumption
    | with_reducible apply next_keeps
    | with_reducible apply ite_next_keeps
    | with_reducible apply State.confirm_keeps k0

theorem execTrialExpiry_keeps {κ : Nat} {σ : State} {s : State} (hκ : Sub 8912897 κ) (hσ : Keeps κ σ s) :
    NextKeeps κ σ (execTrialExpiry s) := by
  have k0 : Sub 1 κ := Sub.trans (by decide : 1 &&& 8912897 = 1) hκ
  have k1 : Sub 8388608 κ := Sub.trans (by decide : 8388608 &&& 8912897 = 8388608) hκ
  have k2 : Sub 524288 κ := Sub.trans (by decide : 524288 &&& 8912897 = 524288) hκ
  unfold execTrialExpiry
  repeat' first
    | with_reducible assumption
    | with_reducible apply next_keeps
    | with_reducible apply ite_next_keeps
    | with_reducible apply State.bootState_keeps k0
    | with_reducible apply State.onBoo_keeps k1
    | with_reducible apply State.warmDue_keeps k2
    | with_reducible apply ite_keeps
    | intro _
    | split

end Sys2Proof.Machine
end

