-- ==== Sys2Proof/Laws/KeepsFabric.lean ====
section
/-! SUPPORT. What each operation of Machine/Fabric may do to State. -/
namespace Sys2Proof.Machine

theorem State.reply_keeps {κ : Nat} {σ : State} {s : State} {src : Source} {r : Option (Nat × Bytes)} (hκ : Sub 16777226 κ) (hσ : Keeps κ σ s) :
    Keeps κ σ (State.reply s src r) := by
  have k0 : Sub 16777226 κ := Sub.trans (by decide : 16777226 &&& 16777226 = 16777226) hκ
  unfold State.reply
  repeat' first
    | with_reducible assumption
    | with_reducible apply State.answer_keeps k0
    | split

theorem State.setupWords32_keeps {κ : Nat} {σ : State} {pid : Nat} {a0 : State} {a1 : Nat} {a2 : Bytes} (hκ : Sub 31457247 κ) (hσ : Keeps κ σ a0) :
    Keeps κ σ (State.setupWords32 pid a0 a1 a2) := by
  have k0 : Sub 31457247 κ := Sub.trans (by decide : 31457247 &&& 31457247 = 31457247) hκ
  fun_induction State.setupWords32 pid a0 a1 a2
  all_goals repeat' first
    | with_reducible assumption
    | with_reducible apply State.regWrite_keeps k0
    | split
    | with_reducible apply_assumption

theorem State.pushAt_keeps {κ : Nat} {σ : State} {s : State} {src : Source} {q v : Nat} (hκ : Sub 459 κ) (hσ : Keeps κ σ s) :
    Keeps κ σ (State.pushAt s src q v).1 := by
  have k0 : Sub 256 κ := Sub.trans (by decide : 256 &&& 459 = 256) hκ
  have k1 : Sub 459 κ := Sub.trans (by decide : 459 &&& 459 = 459) hκ
  unfold State.pushAt
  repeat' first
    | with_reducible assumption
    | with_reducible apply State.holdPush_keeps k0
    | with_reducible apply State.pushNow_keeps k1
    | with_reducible apply ite_keeps
    | with_reducible apply ite_fst_keeps

theorem State.readAt_keeps {κ : Nat} {σ : State} {s : State} {a : Access} {pid tag : Nat} (hκ : Sub 16802267 κ) (hσ : Keeps κ σ s) :
    Keeps κ σ (State.readAt s a pid tag).1 := by
  have k0 : Sub 16777691 κ := Sub.trans (by decide : 16777691 &&& 16802267 = 16777691) hκ
  have k1 : Sub 16801931 κ := Sub.trans (by decide : 16801931 &&& 16802267 = 16801931) hκ
  unfold State.readAt
  repeat' first
    | with_reducible assumption
    | with_reducible apply State.readTarget_keeps k0
    | with_reducible apply State.engineFail_keeps k1
    | with_reducible apply ite_keeps
    | with_reducible apply ite_fst_keeps
    | dsimp -simprocs only
    | dsimp only
    | split

theorem State.writeAt_keeps {κ : Nat} {σ : State} {s : State} {a : Access} {pid : Nat} (hκ : Sub 31457247 κ) (hσ : Keeps κ σ s) :
    Keeps κ σ (State.writeAt s a pid).1 := by
  have k0 : Sub 31457247 κ := Sub.trans (by decide : 31457247 &&& 31457247 = 31457247) hκ
  have k1 : Sub 139 κ := Sub.trans (by decide : 139 &&& 31457247 = 139) hκ
  have k2 : Sub 459 κ := Sub.trans (by decide : 459 &&& 31457247 = 459) hκ
  have k3 : Sub 64 κ := Sub.trans (by decide : 64 &&& 31457247 = 64) hκ
  have k4 : Sub 8 κ := Sub.trans (by decide : 8 &&& 31457247 = 8) hκ
  have k5 : Sub 16777226 κ := Sub.trans (by decide : 16777226 &&& 31457247 = 16777226) hκ
  have k6 : Sub 203 κ := Sub.trans (by decide : 203 &&& 31457247 = 203) hκ
  have k7 : Sub 4 κ := Sub.trans (by decide : 4 &&& 31457247 = 4) hκ
  unfold State.writeAt
  repeat' first
    | with_reducible assumption
    | with_reducible apply State.setupWords32_keeps k0
    | with_reducible apply State.deny_keeps k1
    | with_reducible apply State.pushAt_keeps k2
    | with_reducible apply State.waitLock_keeps k3
    | with_reducible apply State.hostWrites_keeps k4
    | with_reducible apply State.hostErr_keeps k1
    | with_reducible apply State.bridge_keeps k5
    | with_reducible apply State.eccRefuse_keeps k6
    | with_reducible apply State.eccWrite_keeps k6
    | with_reducible apply State.writeBytes_keeps k7
    | with_reducible apply ite_keeps
    | with_reducible apply ite_fst_keeps
    | dsimp -simprocs only
    | dsimp only
    | split

theorem State.amoAt_keeps {κ : Nat} {σ : State} {s : State} {a : Access} {op : AmoOp} {pid tag : Nat} (hκ : Sub 31457247 κ) (hσ : Keeps κ σ s) :
    Keeps κ σ (State.amoAt s a op pid tag).1 := by
  have k0 : Sub 155 κ := Sub.trans (by decide : 155 &&& 31457247 = 155) hκ
  have k1 : Sub 31457247 κ := Sub.trans (by decide : 31457247 &&& 31457247 = 31457247) hκ
  have k2 : Sub 139 κ := Sub.trans (by decide : 139 &&& 31457247 = 139) hκ
  have k3 : Sub 64 κ := Sub.trans (by decide : 64 &&& 31457247 = 64) hκ
  have k4 : Sub 8 κ := Sub.trans (by decide : 8 &&& 31457247 = 8) hκ
  have k5 : Sub 16777226 κ := Sub.trans (by decide : 16777226 &&& 31457247 = 16777226) hκ
  have k6 : Sub 203 κ := Sub.trans (by decide : 203 &&& 31457247 = 203) hκ
  have k7 : Sub 4 κ := Sub.trans (by decide : 4 &&& 31457247 = 4) hκ
  unfold State.amoAt
  repeat' first
    | with_reducible assumption
    | with_reducible apply State.setupBytes_keeps k0
    | with_reducible apply State.setupWords32_keeps k1
    | with_reducible apply State.deny_keeps k2
    | with_reducible apply State.useTag_keeps k3
    | with_reducible apply State.waitLock_keeps k3
    | with_reducible apply State.hostErr_keeps k2
    | with_reducible apply State.emit_keeps k4
    | with_reducible apply State.hostReads_keeps k4
    | with_reducible apply State.bridge_keeps k5
    | with_reducible apply State.eccRead_keeps k6
    | with_reducible apply State.eccWrite_keeps k6
    | with_reducible apply State.writeBytes_keeps k7
    | with_reducible apply ite_keeps
    | with_reducible apply ite_fst_keeps
    | dsimp -simprocs only
    | dsimp only
    | split

theorem State.perform_keeps {κ : Nat} {σ : State} {s : State} {a : Access} {pid tag : Nat} (hκ : Sub 31457247 κ) (hσ : Keeps κ σ s) :
    Keeps κ σ (State.perform s a pid tag).1 := by
  have k0 : Sub 139 κ := Sub.trans (by decide : 139 &&& 31457247 = 139) hκ
  have k1 : Sub 31457247 κ := Sub.trans (by decide : 31457247 &&& 31457247 = 31457247) hκ
  have k2 : Sub 16802267 κ := Sub.trans (by decide : 16802267 &&& 31457247 = 16802267) hκ
  unfold State.perform
  repeat' first
    | with_reducible assumption
    | with_reducible apply State.unmapped_keeps k0
    | with_reducible apply State.deny_keeps k0
    | with_reducible apply State.amoAt_keeps k1
    | with_reducible apply State.writeAt_keeps k1
    | with_reducible apply State.readAt_keeps k2
    | with_reducible apply ite_keeps
    | with_reducible apply ite_fst_keeps
    | split

theorem State.access_keeps {κ : Nat} {σ : State} {s : State} {a : Access} (hκ : Sub 31457247 κ) (hσ : Keeps κ σ s) :
    Keeps κ σ (State.access s a).1 := by
  have k0 : Sub 31457247 κ := Sub.trans (by decide : 31457247 &&& 31457247 = 31457247) hκ
  have k1 : Sub 64 κ := Sub.trans (by decide : 64 &&& 31457247 = 64) hκ
  unfold State.access
  repeat' first
    | with_reducible assumption
    | with_reducible apply State.perform_keeps k0
    | with_reducible apply State.waitTag_keeps k1
    | with_reducible apply ite_keeps
    | with_reducible apply ite_fst_keeps
    | dsimp -simprocs only
    | dsimp only
    | split

theorem State.barBad_keeps {κ : Nat} {σ : State} {s : State} {a : Access} {bar off : Nat} (hκ : Sub 139 κ) (hσ : Keeps κ σ s) :
    Keeps κ σ (State.barBad s a bar off) := by
  have k0 : Sub 8 κ := Sub.trans (by decide : 8 &&& 139 = 8) hκ
  have k1 : Sub 139 κ := Sub.trans (by decide : 139 &&& 139 = 139) hκ
  unfold State.barBad
  repeat' first
    | with_reducible assumption
    | with_reducible apply State.emit_keeps k0
    | with_reducible apply State.raise_keeps k1
    | with_reducible apply ite_keeps

theorem State.msixWrite_keeps {κ : Nat} {σ : State} {s : State} {i v : Nat} (hκ : Sub 136 κ) (hσ : Keeps κ σ s) :
    Keeps κ σ (State.msixWrite s i v) := by
  have k0 : Sub 128 κ := Sub.trans (by decide : 128 &&& 136 = 128) hκ
  have k1 : Sub 136 κ := Sub.trans (by decide : 136 &&& 136 = 136) hκ
  unfold State.msixWrite
  repeat' first
    | with_reducible assumption
    | with_reducible apply State.setRnd_keeps k0
    | with_reducible apply State.unmask_keeps k1
    | with_reducible apply ite_keeps
    | dsimp -simprocs only
    | dsimp only

theorem State.bar0Reg_keeps {κ : Nat} {σ : State} {s : State} {write : Bool} {off v : Nat} (hκ : Sub 139 κ) (hσ : Keeps κ σ s) :
    Keeps κ σ (State.bar0Reg s write off v).1 := by
  have k0 : Sub 139 κ := Sub.trans (by decide : 139 &&& 139 = 139) hκ
  have k1 : Sub 136 κ := Sub.trans (by decide : 136 &&& 139 = 136) hκ
  unfold State.bar0Reg
  repeat' first
    | with_reducible assumption
    | with_reducible apply State.bellCmd_keeps k0
    | with_reducible apply State.bellCpl_keeps k0
    | with_reducible apply State.msixWrite_keeps k1
    | with_reducible apply ite_keeps
    | with_reducible apply ite_fst_keeps
    | dsimp -simprocs only
    | dsimp only

theorem State.bar0Word_keeps {κ : Nat} {σ : State} {s : State} {write : Bool} {off v : Nat} (hκ : Sub 139 κ) (hσ : Keeps κ σ s) :
    Keeps κ σ (State.bar0Word s write off v).1 := by
  have k0 : Sub 139 κ := Sub.trans (by decide : 139 &&& 139 = 139) hκ
  unfold State.bar0Word
  repeat' first
    | with_reducible assumption
    | with_reducible apply State.deny_keeps k0
    | with_reducible apply State.bar0_keeps k0
    | with_reducible apply State.bar0Reg_keeps k0
    | split

theorem State.bar0_keeps {κ : Nat} {σ : State} {s : State} {a : Access} (hκ : Sub 139 κ) (hσ : Keeps κ σ s) :
    Keeps κ σ (State.bar0 s a).1 := by
  have k0 : Sub 139 κ := Sub.trans (by decide : 139 &&& 139 = 139) hκ
  unfold State.bar0
  repeat' first
    | with_reducible assumption
    | with_reducible apply State.barBad_keeps k0
    | with_reducible apply State.bar0Word_keeps k0
    | with_reducible apply ite_keeps
    | with_reducible apply ite_fst_keeps
    | dsimp -simprocs only
    | dsimp only
    | split

theorem State.bar2_keeps {κ : Nat} {σ : State} {s : State} {a : Access} (hκ : Sub 31457247 κ) (hσ : Keeps κ σ s) :
    Keeps κ σ (State.bar2 s a).1 := by
  have k0 : Sub 139 κ := Sub.trans (by decide : 139 &&& 31457247 = 139) hκ
  have k1 : Sub 31457247 κ := Sub.trans (by decide : 31457247 &&& 31457247 = 31457247) hκ
  unfold State.bar2
  repeat' first
    | with_reducible assumption
    | with_reducible apply State.barBad_keeps k0
    | with_reducible apply State.perform_keeps k1
    | with_reducible apply ite_keeps
    | with_reducible apply ite_fst_keeps
    | dsimp -simprocs only
    | dsimp only
    | split

theorem execMemoryAccess_keeps {κ : Nat} {σ : State} {a : Access} {s : State} (hκ : Sub 31457247 κ) (hσ : Keeps κ σ s) :
    NextKeeps κ σ (execMemoryAccess a s) := by
  have k0 : Sub 64 κ := Sub.trans (by decide : 64 &&& 31457247 = 64) hκ
  have k1 : Sub 139 κ := Sub.trans (by decide : 139 &&& 31457247 = 139) hκ
  have k2 : Sub 31457247 κ := Sub.trans (by decide : 31457247 &&& 31457247 = 31457247) hκ
  have k3 : Sub 16777226 κ := Sub.trans (by decide : 16777226 &&& 31457247 = 16777226) hκ
  unfold execMemoryAccess
  repeat' first
    | with_reducible assumption
    | with_reducible apply next_keeps
    | with_reducible apply ite_next_keeps
    | with_reducible apply State.upset_keeps k0
    | with_reducible apply State.bar0_keeps k1
    | with_reducible apply State.bar2_keeps k2
    | with_reducible apply State.access_keeps k2
    | with_reducible apply State.reply_keeps k3
    | with_reducible apply ite_keeps
    | with_reducible apply ite_fst_keeps
    | dsimp -simprocs only
    | dsimp only
    | split

theorem State.granted_keeps {κ : Nat} {σ : State} {s : State} {a : Access} {pid t : Nat} (hκ : Sub 31457247 κ) (hσ : Keeps κ σ s) :
    Keeps κ σ (State.granted s a pid t) := by
  have k0 : Sub 16777691 κ := Sub.trans (by decide : 16777691 &&& 31457247 = 16777691) hκ
  have k1 : Sub 31457247 κ := Sub.trans (by decide : 31457247 &&& 31457247 = 31457247) hκ
  have k2 : Sub 16777226 κ := Sub.trans (by decide : 16777226 &&& 31457247 = 16777226) hκ
  unfold State.granted
  repeat' first
    | with_reducible assumption
    | with_reducible apply State.grantDesc_keeps k0
    | with_reducible apply State.perform_keeps k1
    | with_reducible apply State.reply_keeps k2
    | dsimp -simprocs only
    | dsimp only
    | split

theorem State.performSetups_keeps {κ : Nat} {σ : State} {s : State} (hκ : Sub 31457247 κ) (hσ : Keeps κ σ s) :
    Keeps κ σ (State.performSetups s) := by
  have k0 : Sub 31457247 κ := Sub.trans (by decide : 31457247 &&& 31457247 = 31457247) hκ
  have k1 : Sub 64 κ := Sub.trans (by decide : 64 &&& 31457247 = 64) hκ
  unfold State.performSetups
  repeat' first
    | with_reducible assumption
    | with_reducible apply State.regWrite_keeps k0
    | with_reducible apply State.setFab_keeps k1
    | with_reducible refine forEach_keeps (fun _ _ _ => ?_) ?_

theorem execTagGrant_keeps {κ : Nat} {σ : State} {m : Master} {s : State} (hκ : Sub 31457247 κ) (hσ : Keeps κ σ s) :
    NextKeeps κ σ (execTagGrant m s) := by
  have k0 : Sub 31457247 κ := Sub.trans (by decide : 31457247 &&& 31457247 = 31457247) hκ
  have k1 : Sub 64 κ := Sub.trans (by decide : 64 &&& 31457247 = 64) hκ
  unfold execTagGrant
  repeat' first
    | with_reducible assumption
    | with_reducible apply next_keeps
    | with_reducible apply ite_next_keeps
    | with_reducible apply State.performSetups_keeps k0
    | with_reducible apply State.setFab_keeps k1
    | with_reducible apply State.granted_keeps k0
    | with_reducible apply ite_keeps
    | with_reducible apply ite_fst_keeps
    | dsimp -simprocs only
    | dsimp only
    | split

theorem execRunaheadFetch_keeps {κ : Nat} {σ : State} {n : Nat} {upsets : List EccMark} {s : State} (hκ : Sub 31457247 κ) (hσ : Keeps κ σ s) :
    NextKeeps κ σ (execRunaheadFetch n upsets s) := by
  have k0 : Sub 64 κ := Sub.trans (by decide : 64 &&& 31457247 = 64) hκ
  have k1 : Sub 31457247 κ := Sub.trans (by decide : 31457247 &&& 31457247 = 31457247) hκ
  have k2 : Sub 16777691 κ := Sub.trans (by decide : 16777691 &&& 31457247 = 16777691) hκ
  unfold execRunaheadFetch
  repeat' first
    | with_reducible assumption
    | with_reducible apply next_keeps
    | with_reducible apply ite_next_keeps
    | with_reducible apply State.upset_keeps k0
    | with_reducible apply State.performSetups_keeps k1
    | with_reducible apply State.fetchAhead_keeps k2

theorem execDescriptorStart_keeps {κ : Nat} {σ : State} {n : Nat} {upsets : List EccMark} {s : State} (hκ : Sub 31457247 κ) (hσ : Keeps κ σ s) :
    NextKeeps κ σ (execDescriptorStart n upsets s) := by
  have k0 : Sub 64 κ := Sub.trans (by decide : 64 &&& 31457247 = 64) hκ
  have k1 : Sub 31457247 κ := Sub.trans (by decide : 31457247 &&& 31457247 = 31457247) hκ
  have k2 : Sub 16777691 κ := Sub.trans (by decide : 16777691 &&& 31457247 = 16777691) hκ
  unfold execDescriptorStart
  repeat' first
    | with_reducible assumption
    | with_reducible apply next_keeps
    | with_reducible apply ite_next_keeps
    | with_reducible apply State.upset_keeps k0
    | with_reducible apply State.performSetups_keeps k1
    | with_reducible apply State.startHead_keeps k2
    | with_reducible apply ite_keeps
    | dsimp -simprocs only
    | dsimp only

theorem execCompletionWrite_keeps {κ : Nat} {σ : State} {r : Nat} {s : State} (hκ : Sub 31457247 κ) (hσ : Keeps κ σ s) :
    NextKeeps κ σ (execCompletionWrite r s) := by
  have k0 : Sub 31457247 κ := Sub.trans (by decide : 31457247 &&& 31457247 = 31457247) hκ
  have k1 : Sub 17301967 κ := Sub.trans (by decide : 17301967 &&& 31457247 = 17301967) hκ
  unfold execCompletionWrite
  repeat' first
    | with_reducible assumption
    | with_reducible apply next_keeps
    | with_reducible apply ite_next_keeps
    | with_reducible apply State.performSetups_keeps k0
    | with_reducible apply State.complete_keeps k1

theorem State.timedOut_keeps {κ : Nat} {σ : State} {s : State} {t : TagUse} (hκ : Sub 139 κ) (hσ : Keeps κ σ s) :
    Keeps κ σ (State.timedOut s t) := by
  have k0 : Sub 1 κ := Sub.trans (by decide : 1 &&& 139 = 1) hκ
  have k1 : Sub 2 κ := Sub.trans (by decide : 2 &&& 139 = 2) hκ
  have k2 : Sub 139 κ := Sub.trans (by decide : 139 &&& 139 = 139) hκ
  unfold State.timedOut
  repeat' first
    | with_reducible assumption
    | with_reducible apply State.putAddr_keeps k0
    | with_reducible apply State.put_keeps k0
    | with_reducible apply State.count_keeps k1
    | with_reducible apply State.raise_keeps k2
    | dsimp -simprocs only
    | dsimp only

theorem execReadTimeout_keeps {κ : Nat} {σ : State} {tag : Nat} {s : State} (hκ : Sub 16777691 κ) (hσ : Keeps κ σ s) :
    NextKeeps κ σ (execReadTimeout tag s) := by
  have k0 : Sub 64 κ := Sub.trans (by decide : 64 &&& 16777691 = 64) hκ
  have k1 : Sub 16777216 κ := Sub.trans (by decide : 16777216 &&& 16777691 = 16777216) hκ
  have k2 : Sub 139 κ := Sub.trans (by decide : 139 &&& 16777691 = 139) hκ
  have k3 : Sub 16777691 κ := Sub.trans (by decide : 16777691 &&& 16777691 = 16777691) hκ
  unfold execReadTimeout
  repeat' first
    | with_reducible assumption
    | with_reducible apply next_keeps
    | with_reducible apply ite_next_keeps
    | with_reducible apply State.setFab_keeps k0
    | with_reducible apply State.onPai_keeps k1
    | with_reducible apply State.timedOut_keeps k2
    | with_reducible apply State.tagDone_keeps k3
    | with_reducible apply ite_keeps
    | intro _
    | dsimp -simprocs only
    | dsimp only
    | split

theorem State.lateResponse_keeps {κ : Nat} {σ : State} {s : State} {tag : Nat} (hκ : Sub 203 κ) (hσ : Keeps κ σ s) :
    Keeps κ σ (State.lateResponse s tag) := by
  have k0 : Sub 64 κ := Sub.trans (by decide : 64 &&& 203 = 64) hκ
  have k1 : Sub 2 κ := Sub.trans (by decide : 2 &&& 203 = 2) hκ
  have k2 : Sub 139 κ := Sub.trans (by decide : 139 &&& 203 = 139) hκ
  unfold State.lateResponse
  repeat' first
    | with_reducible assumption
    | with_reducible apply State.setFab_keeps k0
    | with_reducible apply State.count_keeps k1
    | with_reducible apply State.raise_keeps k2
    | with_reducible apply ite_keeps

theorem execLateResponse_keeps {κ : Nat} {σ : State} {tag : Nat} {s : State} (hκ : Sub 203 κ) (hσ : Keeps κ σ s) :
    NextKeeps κ σ (execLateResponse tag s) := by
  have k0 : Sub 203 κ := Sub.trans (by decide : 203 &&& 203 = 203) hκ
  unfold execLateResponse
  repeat' first
    | with_reducible assumption
    | with_reducible apply next_keeps
    | with_reducible apply ite_next_keeps
    | with_reducible apply State.lateResponse_keeps k0

theorem State.unlocked_keeps {κ : Nat} {σ : State} {s : State} (hκ : Sub 31457247 κ) (hσ : Keeps κ σ s) :
    Keeps κ σ (State.unlocked s) := by
  have k0 : Sub 64 κ := Sub.trans (by decide : 64 &&& 31457247 = 64) hκ
  have k1 : Sub 31457247 κ := Sub.trans (by decide : 31457247 &&& 31457247 = 31457247) hκ
  have k2 : Sub 16777226 κ := Sub.trans (by decide : 16777226 &&& 31457247 = 16777226) hκ
  have k3 : Sub 16777691 κ := Sub.trans (by decide : 16777691 &&& 31457247 = 16777691) hκ
  unfold State.unlocked
  repeat' first
    | with_reducible assumption
    | with_reducible apply State.dropTag_keeps k0
    | with_reducible apply State.perform_keeps k1
    | with_reducible apply State.reply_keeps k2
    | with_reducible apply State.readTarget_keeps k3
    | with_reducible apply State.descAnswer_keeps k3
    | with_reducible apply State.setFab_keeps k0
    | with_reducible apply ite_keeps
    | with_reducible apply ite_fst_keeps
    | with_reducible refine forEach_keeps (fun _ _ _ => ?_) ?_
    | dsimp -simprocs only
    | dsimp only
    | split

theorem State.unlock_keeps {κ : Nat} {σ : State} {s : State} {t : TagUse} (hκ : Sub 31457247 κ) (hσ : Keeps κ σ s) :
    Keeps κ σ (State.unlock s t) := by
  have k0 : Sub 31457247 κ := Sub.trans (by decide : 31457247 &&& 31457247 = 31457247) hκ
  unfold State.unlock
  repeat' first
    | with_reducible assumption
    | with_reducible apply State.unlocked_keeps k0
    | with_reducible apply ite_keeps

theorem State.hostFails_keeps {κ : Nat} {σ : State} {s : State} {t : TagUse} {status : Nat} (hκ : Sub 31457247 κ) (hσ : Keeps κ σ s) :
    Keeps κ σ (State.hostFails s t status) := by
  have k0 : Sub 139 κ := Sub.trans (by decide : 139 &&& 31457247 = 139) hκ
  have k1 : Sub 16777691 κ := Sub.trans (by decide : 16777691 &&& 31457247 = 16777691) hκ
  have k2 : Sub 31457247 κ := Sub.trans (by decide : 31457247 &&& 31457247 = 31457247) hκ
  unfold State.hostFails
  repeat' first
    | with_reducible assumption
    | with_reducible apply State.hostErr_keeps k0
    | with_reducible apply State.tagDone_keeps k1
    | with_reducible apply State.unlock_keeps k2
    | with_reducible apply ite_keeps
    | dsimp -simprocs only
    | dsimp only

theorem State.hostData_keeps {κ : Nat} {σ : State} {s : State} {t : TagUse} {b : Bytes} (hκ : Sub 31457247 κ) (hσ : Keeps κ σ s) :
    Keeps κ σ (State.hostData s t b) := by
  have k0 : Sub 8 κ := Sub.trans (by decide : 8 &&& 31457247 = 8) hκ
  have k1 : Sub 139 κ := Sub.trans (by decide : 139 &&& 31457247 = 139) hκ
  have k2 : Sub 16777691 κ := Sub.trans (by decide : 16777691 &&& 31457247 = 16777691) hκ
  have k3 : Sub 31457247 κ := Sub.trans (by decide : 31457247 &&& 31457247 = 31457247) hκ
  unfold State.hostData
  repeat' first
    | with_reducible assumption
    | with_reducible apply State.hostWrites_keeps k0
    | with_reducible apply State.hostErr_keeps k1
    | with_reducible apply State.tagDone_keeps k2
    | with_reducible apply State.unlock_keeps k3
    | with_reducible apply ite_keeps
    | dsimp -simprocs only
    | dsimp only
    | split

theorem State.hostPart_keeps {κ : Nat} {σ : State} {s : State} {t : TagUse} {b : Bytes} (hκ : Sub 31457247 κ) (hσ : Keeps κ σ s) :
    Keeps κ σ (State.hostPart s t b) := by
  have k0 : Sub 31457247 κ := Sub.trans (by decide : 31457247 &&& 31457247 = 31457247) hκ
  have k1 : Sub 64 κ := Sub.trans (by decide : 64 &&& 31457247 = 64) hκ
  unfold State.hostPart
  repeat' first
    | with_reducible assumption
    | with_reducible apply State.hostData_keeps k0
    | with_reducible apply State.setFab_keeps k1
    | with_reducible apply ite_keeps
    | dsimp -simprocs only
    | dsimp only

theorem execHostCompletion_keeps {κ : Nat} {σ : State} {tag : Nat} {c : HostCpl} {s : State} (hκ : Sub 31457247 κ) (hσ : Keeps κ σ s) :
    NextKeeps κ σ (execHostCompletion tag c s) := by
  have k0 : Sub 203 κ := Sub.trans (by decide : 203 &&& 31457247 = 203) hκ
  have k1 : Sub 31457247 κ := Sub.trans (by decide : 31457247 &&& 31457247 = 31457247) hκ
  unfold execHostCompletion
  repeat' first
    | with_reducible assumption
    | with_reducible apply next_keeps
    | with_reducible apply ite_next_keeps
    | with_reducible apply State.lateResponse_keeps k0
    | with_reducible apply State.hostPart_keeps k1
    | with_reducible apply State.hostFails_keeps k1
    | split

theorem execHostCplTimeout_keeps {κ : Nat} {σ : State} {tag : Nat} {s : State} (hκ : Sub 31457247 κ) (hσ : Keeps κ σ s) :
    NextKeeps κ σ (execHostCplTimeout tag s) := by
  have k0 : Sub 31457247 κ := Sub.trans (by decide : 31457247 &&& 31457247 = 31457247) hκ
  unfold execHostCplTimeout
  repeat' first
    | with_reducible assumption
    | with_reducible apply next_keeps
    | with_reducible apply ite_next_keeps
    | with_reducible apply State.hostFails_keeps k0
    | with_reducible apply ite_keeps
    | split

theorem State.hostLost_keeps {κ : Nat} {σ : State} {s : State} {t : TagUse} (hκ : Sub 31457247 κ) (hσ : Keeps κ σ s) :
    Keeps κ σ (State.hostLost s t) := by
  have k0 : Sub 64 κ := Sub.trans (by decide : 64 &&& 31457247 = 64) hκ
  have k1 : Sub 139 κ := Sub.trans (by decide : 139 &&& 31457247 = 139) hκ
  have k2 : Sub 128 κ := Sub.trans (by decide : 128 &&& 31457247 = 128) hκ
  have k3 : Sub 31457247 κ := Sub.trans (by decide : 31457247 &&& 31457247 = 31457247) hκ
  unfold State.hostLost
  repeat' first
    | with_reducible assumption
    | with_reducible apply State.dropTag_keeps k0
    | with_reducible apply State.hostErr_keeps k1
    | with_reducible apply State.setDescs_keeps k2
    | with_reducible apply State.frogOne_keeps k1
    | with_reducible apply State.hostFails_keeps k3
    | with_reducible apply ite_keeps
    | dsimp -simprocs only
    | dsimp only
    | split

theorem State.hostGone_keeps {κ : Nat} {σ : State} {s : State} (hκ : Sub 8390287 κ) (hσ : Keeps κ σ s) :
    Keeps κ σ (State.hostGone s) := by
  have k0 : Sub 8388751 κ := Sub.trans (by decide : 8388751 &&& 8390287 = 8388751) hκ
  have k1 : Sub 128 κ := Sub.trans (by decide : 128 &&& 8390287 = 128) hκ
  have k2 : Sub 1675 κ := Sub.trans (by decide : 1675 &&& 8390287 = 1675) hκ
  have k3 : Sub 139 κ := Sub.trans (by decide : 139 &&& 8390287 = 139) hκ
  unfold State.hostGone
  repeat' first
    | with_reducible assumption
    | with_reducible apply State.roundOff_keeps k0
    | with_reducible apply State.setRnd_keeps k1
    | with_reducible apply State.swLinkDown_keeps k2
    | with_reducible apply State.reclaimAll_keeps k3
    | with_reducible apply ite_keeps
    | with_reducible refine forEach_keeps (fun _ _ _ => ?_) ?_
    | dsimp -simprocs only
    | dsimp only

theorem execFunctionLevelReset_keeps {κ : Nat} {σ : State} {s : State} (hκ : Sub 8390287 κ) (hσ : Keeps κ σ s) :
    NextKeeps κ σ (execFunctionLevelReset s) := by
  have k0 : Sub 8390287 κ := Sub.trans (by decide : 8390287 &&& 8390287 = 8390287) hκ
  have k1 : Sub 139 κ := Sub.trans (by decide : 139 &&& 8390287 = 139) hκ
  unfold execFunctionLevelReset
  repeat' first
    | with_reducible assumption
    | with_reducible apply next_keeps
    | with_reducible apply ite_next_keeps
    | with_reducible apply State.hostGone_keeps k0
    | with_reducible apply State.raise_keeps k1
    | with_reducible apply ite_keeps

theorem execPcieLinkDown_keeps {κ : Nat} {σ : State} {s : State} (hκ : Sub 31457247 κ) (hσ : Keeps κ σ s) :
    NextKeeps κ σ (execPcieLinkDown s) := by
  have k0 : Sub 1 κ := Sub.trans (by decide : 1 &&& 31457247 = 1) hκ
  have k1 : Sub 8390287 κ := Sub.trans (by decide : 8390287 &&& 31457247 = 8390287) hκ
  have k2 : Sub 31457247 κ := Sub.trans (by decide : 31457247 &&& 31457247 = 31457247) hκ
  have k3 : Sub 139 κ := Sub.trans (by decide : 139 &&& 31457247 = 139) hκ
  unfold execPcieLinkDown
  repeat' first
    | with_reducible assumption
    | with_reducible apply next_keeps
    | with_reducible apply ite_next_keeps
    | with_reducible apply State.put_keeps k0
    | with_reducible apply State.hostGone_keeps k1
    | with_reducible apply State.hostLost_keeps k2
    | with_reducible apply State.raise_keeps k3
    | with_reducible apply ite_keeps
    | with_reducible refine forEach_keeps (fun _ _ _ => ?_) ?_
    | dsimp -simprocs only
    | dsimp only

theorem State.pciConfig_keeps {κ : Nat} {σ : State} {s : State} {mps mrrs : Nat} {host : HostCfg} (hκ : Sub 137 κ) (hσ : Keeps κ σ s) :
    Keeps κ σ (State.pciConfig s mps mrrs host) := by
  have k0 : Sub 1 κ := Sub.trans (by decide : 1 &&& 137 = 1) hκ
  have k1 : Sub 128 κ := Sub.trans (by decide : 128 &&& 137 = 128) hκ
  have k2 : Sub 136 κ := Sub.trans (by decide : 136 &&& 137 = 136) hκ
  unfold State.pciConfig
  repeat' first
    | with_reducible assumption
    | with_reducible apply State.put_keeps k0
    | with_reducible apply State.onRnd_keeps k1
    | with_reducible apply State.msixFlush_keeps k2
    | with_reducible refine forEach_keeps (fun _ _ _ => ?_) ?_
    | intro _
    | dsimp -simprocs only
    | dsimp only

theorem execPcieLinkUp_keeps {κ : Nat} {σ : State} {speed width mps mrrs : Nat} {host : HostCfg} {s : State} (hκ : Sub 139 κ) (hσ : Keeps κ σ s) :
    NextKeeps κ σ (execPcieLinkUp speed width mps mrrs host s) := by
  have k0 : Sub 137 κ := Sub.trans (by decide : 137 &&& 139 = 137) hκ
  have k1 : Sub 1 κ := Sub.trans (by decide : 1 &&& 139 = 1) hκ
  have k2 : Sub 139 κ := Sub.trans (by decide : 139 &&& 139 = 139) hκ
  unfold execPcieLinkUp
  repeat' first
    | with_reducible assumption
    | with_reducible apply next_keeps
    | with_reducible apply ite_next_keeps
    | with_reducible apply State.pciConfig_keeps k0
    | with_reducible apply State.put_keeps k1
    | with_reducible apply State.swLinkUp_keeps k1
    | with_reducible apply State.raise_keeps k2
    | with_reducible apply ite_keeps
    | dsimp -simprocs only
    | dsimp only

end Sys2Proof.Machine
end

