-- ==== Sys2Proof/Laws/KeepsIgion.lean ====
section
/-! SUPPORT. What each operation of Machine/Igion may do to State. -/
namespace Sys2Proof.Machine

theorem State.claim_keeps {κ : Nat} {σ : State} {s : State} {w : Nat} (hκ : Sub 1 κ) (hσ : Keeps κ σ s) :
    Keeps κ σ (State.claim s w) := by
  have k0 : Sub 1 κ := Sub.trans (by decide : 1 &&& 1 = 1) hκ
  unfold State.claim
  repeat' first
    | with_reducible assumption
    | with_reducible apply State.put_keeps k0
    | with_reducible apply State.showAreas_keeps k0

theorem State.release_keeps {κ : Nat} {σ : State} {s : State} (hκ : Sub 1 κ) (hσ : Keeps κ σ s) :
    Keeps κ σ (State.release s) := by
  have k0 : Sub 1 κ := Sub.trans (by decide : 1 &&& 1 = 1) hκ
  unfold State.release
  repeat' first
    | with_reducible assumption
    | with_reducible apply State.put_keeps k0
    | with_reducible apply State.showAreas_keeps k0

theorem State.eraseStaging_keeps {κ : Nat} {σ : State} {s : State} {n : Nat} {who : FlashFor} (hκ : Sub 8388608 κ) (hσ : Keeps κ σ s) :
    Keeps κ σ (State.eraseStaging s n who) := by
  have k0 : Sub 8388608 κ := Sub.trans (by decide : 8388608 &&& 8388608 = 8388608) hκ
  unfold State.eraseStaging
  repeat' first
    | with_reducible assumption
    | with_reducible apply State.flashStart_keeps k0
    | with_reducible refine forEach_keeps (fun _ _ _ => ?_) ?_
    | dsimp -simprocs only
    | dsimp only

theorem State.programPages_keeps {κ : Nat} {σ : State} {s : State} {a : Nat} {b : Bytes} {who : FlashFor} (hκ : Sub 8388608 κ) (hσ : Keeps κ σ s) :
    Keeps κ σ (State.programPages s a b who) := by
  have k0 : Sub 8388608 κ := Sub.trans (by decide : 8388608 &&& 8388608 = 8388608) hκ
  unfold State.programPages
  repeat' first
    | with_reducible assumption
    | with_reducible apply State.flashStart_keeps k0
    | with_reducible refine forEach_keeps (fun _ _ _ => ?_) ?_
    | dsimp -simprocs only
    | dsimp only

theorem State.dropOps_keeps {κ : Nat} {σ : State} {s : State} {f : FlashFor → Bool} (hκ : Sub 8388612 κ) (hσ : Keeps κ σ s) :
    Keeps κ σ (State.dropOps s f) := by
  have k0 : Sub 4 κ := Sub.trans (by decide : 4 &&& 8388612 = 4) hκ
  have k1 : Sub 8388608 κ := Sub.trans (by decide : 8388608 &&& 8388612 = 8388608) hκ
  unfold State.dropOps
  repeat' first
    | with_reducible assumption
    | with_reducible apply State.erase_keeps k0
    | with_reducible apply State.onBoo_keeps k1
    | intro _
    | dsimp -simprocs only
    | dsimp only
    | split

theorem State.stagedReady_keeps {κ : Nat} {σ : State} {s : State} (hκ : Sub 143 κ) (hσ : Keeps κ σ s) :
    Keeps κ σ (State.stagedReady s) := by
  have k0 : Sub 5 κ := Sub.trans (by decide : 5 &&& 143 = 5) hκ
  have k1 : Sub 1 κ := Sub.trans (by decide : 1 &&& 143 = 1) hκ
  have k2 : Sub 139 κ := Sub.trans (by decide : 139 &&& 143 = 139) hκ
  unfold State.stagedReady
  repeat' first
    | with_reducible assumption
    | with_reducible apply State.markStaging_keeps k0
    | with_reducible apply State.release_keeps k1
    | with_reducible apply State.raise_keeps k2

theorem State.igReply_keeps {κ : Nat} {σ : State} {s : State} {a : IgAsk} {op status : Nat} {data : Bytes} (hκ : Sub 1600 κ) (hσ : Keeps κ σ s) :
    Keeps κ σ (State.igReply s a op status data) := by
  have k0 : Sub 1600 κ := Sub.trans (by decide : 1600 &&& 1600 = 1600) hκ
  unfold State.igReply
  repeat' first
    | with_reducible assumption
    | with_reducible apply State.stageOwn_keeps k0

theorem State.igTouch_keeps {κ : Nat} {σ : State} {s : State} {a : IgAsk} (hκ : Sub 8388608 κ) (hσ : Keeps κ σ s) :
    Keeps κ σ (State.igTouch s a) := by
  have k0 : Sub 8388608 κ := Sub.trans (by decide : 8388608 &&& 8388608 = 8388608) hκ
  unfold State.igTouch
  repeat' first
    | with_reducible assumption
    | with_reducible apply State.onBoo_keeps k0
    | with_reducible apply ite_keeps
    | intro _

theorem State.igEnd_keeps {κ : Nat} {σ : State} {s : State} (hκ : Sub 8388613 κ) (hσ : Keeps κ σ s) :
    Keeps κ σ (State.igEnd s) := by
  have k0 : Sub 8388612 κ := Sub.trans (by decide : 8388612 &&& 8388613 = 8388612) hκ
  have k1 : Sub 8388608 κ := Sub.trans (by decide : 8388608 &&& 8388613 = 8388608) hκ
  have k2 : Sub 1 κ := Sub.trans (by decide : 1 &&& 8388613 = 1) hκ
  unfold State.igEnd
  repeat' first
    | with_reducible assumption
    | with_reducible apply State.dropOps_keeps k0
    | with_reducible apply State.onBoo_keeps k1
    | with_reducible apply State.release_keeps k2
    | intro _

theorem State.igHello_keeps {κ : Nat} {σ : State} {m : IgMsg} {s : State} (hκ : Sub 1600 κ) (hσ : Keeps κ σ s) :
    Keeps κ σ (State.igHello m s) := by
  have k0 : Sub 1600 κ := Sub.trans (by decide : 1600 &&& 1600 = 1600) hκ
  unfold State.igHello
  repeat' first
    | with_reducible assumption
    | with_reducible apply State.igReply_keeps k0
    | dsimp -simprocs only
    | dsimp only

theorem State.igOpen_keeps {κ : Nat} {σ : State} {m : IgMsg} {s : State} (hκ : Sub 8390347 κ) (hσ : Keeps κ σ s) :
    Keeps κ σ (State.igOpen m s) := by
  have k0 : Sub 1600 κ := Sub.trans (by decide : 1600 &&& 8390347 = 1600) hκ
  have k1 : Sub 1 κ := Sub.trans (by decide : 1 &&& 8390347 = 1) hκ
  have k2 : Sub 8388608 κ := Sub.trans (by decide : 8388608 &&& 8390347 = 8388608) hκ
  have k3 : Sub 139 κ := Sub.trans (by decide : 139 &&& 8390347 = 139) hκ
  unfold State.igOpen
  repeat' first
    | with_reducible assumption
    | with_reducible apply State.igReply_keeps k0
    | with_reducible apply State.claim_keeps k1
    | with_reducible apply State.onBoo_keeps k2
    | with_reducible apply State.eraseStaging_keeps k2
    | with_reducible apply State.raise_keeps k3
    | with_reducible apply ite_keeps
    | intro _
    | dsimp -simprocs only
    | dsimp only
    | dsimp only [id]

theorem State.igData_keeps {κ : Nat} {σ : State} {m : IgMsg} {s : State} (hκ : Sub 8390208 κ) (hσ : Keeps κ σ s) :
    Keeps κ σ (State.igData m s) := by
  have k0 : Sub 1600 κ := Sub.trans (by decide : 1600 &&& 8390208 = 1600) hκ
  have k1 : Sub 8388608 κ := Sub.trans (by decide : 8388608 &&& 8390208 = 8388608) hκ
  unfold State.igData
  repeat' first
    | with_reducible assumption
    | with_reducible apply State.igReply_keeps k0
    | with_reducible apply State.programPages_keeps k1
    | with_reducible apply ite_keeps
    | dsimp -simprocs only
    | dsimp only
    | dsimp only [id]
    | split

theorem State.serviceApply_keeps {κ : Nat} {σ : State} {s : State} (hκ : Sub 8388751 κ) (hσ : Keeps κ σ s) :
    Keeps κ σ (State.serviceApply s) := by
  have k0 : Sub 5 κ := Sub.trans (by decide : 5 &&& 8388751 = 5) hκ
  have k1 : Sub 1 κ := Sub.trans (by decide : 1 &&& 8388751 = 1) hκ
  have k2 : Sub 139 κ := Sub.trans (by decide : 139 &&& 8388751 = 139) hκ
  have k3 : Sub 8388608 κ := Sub.trans (by decide : 8388608 &&& 8388751 = 8388608) hκ
  unfold State.serviceApply
  repeat' first
    | with_reducible assumption
    | with_reducible apply State.markStaging_keeps k0
    | with_reducible apply State.put_keeps k1
    | with_reducible apply State.raise_keeps k2
    | with_reducible apply State.copyFrom_keeps k3
    | with_reducible apply ite_keeps
    | intro _
    | dsimp -simprocs only
    | dsimp only
    | dsimp only [id]

theorem State.igCommit_keeps {κ : Nat} {σ : State} {m : IgMsg} {s : State} (hκ : Sub 8390351 κ) (hσ : Keeps κ σ s) :
    Keeps κ σ (State.igCommit m s) := by
  have k0 : Sub 1600 κ := Sub.trans (by decide : 1600 &&& 8390351 = 1600) hκ
  have k1 : Sub 8388613 κ := Sub.trans (by decide : 8388613 &&& 8390351 = 8388613) hκ
  have k2 : Sub 143 κ := Sub.trans (by decide : 143 &&& 8390351 = 143) hκ
  have k3 : Sub 8388751 κ := Sub.trans (by decide : 8388751 &&& 8390351 = 8388751) hκ
  unfold State.igCommit
  repeat' first
    | with_reducible assumption
    | with_reducible apply State.igReply_keeps k0
    | with_reducible apply State.igEnd_keeps k1
    | with_reducible apply State.stagedReady_keeps k2
    | with_reducible apply State.serviceApply_keeps k3
    | with_reducible apply ite_keeps
    | dsimp only [id]
    | split

theorem State.igAbort_keeps {κ : Nat} {σ : State} {m : IgMsg} {s : State} (hκ : Sub 8390213 κ) (hσ : Keeps κ σ s) :
    Keeps κ σ (State.igAbort m s) := by
  have k0 : Sub 8388613 κ := Sub.trans (by decide : 8388613 &&& 8390213 = 8388613) hκ
  have k1 : Sub 1600 κ := Sub.trans (by decide : 1600 &&& 8390213 = 1600) hκ
  unfold State.igAbort
  repeat' first
    | with_reducible assumption
    | with_reducible apply State.igEnd_keeps k0
    | with_reducible apply State.igReply_keeps k1
    | with_reducible apply ite_keeps

theorem State.igReset_keeps {κ : Nat} {σ : State} {m : IgMsg} {s : State} (hκ : Sub 525888 κ) (hσ : Keeps κ σ s) :
    Keeps κ σ (State.igReset m s) := by
  have k0 : Sub 1600 κ := Sub.trans (by decide : 1600 &&& 525888 = 1600) hκ
  have k1 : Sub 524288 κ := Sub.trans (by decide : 524288 &&& 525888 = 524288) hκ
  unfold State.igReset
  repeat' first
    | with_reducible assumption
    | with_reducible apply State.igReply_keeps k0
    | with_reducible apply State.warmAt_keeps k1
    | with_reducible apply ite_keeps

theorem State.igRun_keeps {κ : Nat} {σ : State} {s : State} {m : IgMsg} {k : IgMsg → State → State} (hκ : Sub 8390208 κ) (h_k : ∀ x0 x1, Keeps κ σ x1 → Keeps κ σ (k x0 x1)) (hσ : Keeps κ σ s) :
    Keeps κ σ (State.igRun s m k) := by
  have k0 : Sub 8388608 κ := Sub.trans (by decide : 8388608 &&& 8390208 = 8388608) hκ
  have k1 : Sub 1600 κ := Sub.trans (by decide : 1600 &&& 8390208 = 1600) hκ
  unfold State.igRun
  repeat' first
    | with_reducible assumption
    | with_reducible apply h_k
    | with_reducible apply State.igTouch_keeps k0
    | with_reducible apply State.igReply_keeps k1
    | with_reducible apply ite_keeps

theorem State.igAs_keeps {κ : Nat} {σ : State} {s : State} {op : Nat} {f : Bytes} {k : IgMsg → State → State} (hκ : Sub 8390210 κ) (h_k : ∀ x0 x1, Keeps κ σ x1 → Keeps κ σ (k x0 x1)) (hσ : Keeps κ σ s) :
    Keeps κ σ (State.igAs s op f k) := by
  have k0 : Sub 2 κ := Sub.trans (by decide : 2 &&& 8390210 = 2) hκ
  have k1 : Sub 8390208 κ := Sub.trans (by decide : 8390208 &&& 8390210 = 8390208) hκ
  unfold State.igAs
  repeat' first
    | with_reducible assumption
    | with_reducible apply h_k
    | with_reducible apply State.count_keeps k0
    | with_reducible apply State.igRun_keeps k1
    | with_reducible apply ite_keeps
    | intro _
    | split

theorem State.igFrame_keeps {κ : Nat} {σ : State} {s : State} {f : Bytes} (hκ : Sub 8914639 κ) (hσ : Keeps κ σ s) :
    Keeps κ σ (State.igFrame s f) := by
  have k0 : Sub 2 κ := Sub.trans (by decide : 2 &&& 8914639 = 2) hκ
  have k1 : Sub 8390208 κ := Sub.trans (by decide : 8390208 &&& 8914639 = 8390208) hκ
  have k2 : Sub 1600 κ := Sub.trans (by decide : 1600 &&& 8914639 = 1600) hκ
  have k3 : Sub 8390347 κ := Sub.trans (by decide : 8390347 &&& 8914639 = 8390347) hκ
  have k4 : Sub 8390351 κ := Sub.trans (by decide : 8390351 &&& 8914639 = 8390351) hκ
  have k5 : Sub 8390213 κ := Sub.trans (by decide : 8390213 &&& 8914639 = 8390213) hκ
  have k6 : Sub 525888 κ := Sub.trans (by decide : 525888 &&& 8914639 = 525888) hκ
  unfold State.igFrame
  repeat' first
    | with_reducible assumption
    | with_reducible apply State.count_keeps k0
    | with_reducible apply State.igRun_keeps k1
    | with_reducible apply State.igHello_keeps k2
    | with_reducible apply State.igOpen_keeps k3
    | with_reducible apply State.igData_keeps k1
    | with_reducible apply State.igCommit_keeps k4
    | with_reducible apply State.igAbort_keeps k5
    | with_reducible apply State.igReset_keeps k6
    | with_reducible apply State.igReply_keeps k2
    | intro _
    | split

theorem State.arpAnswer_keeps {κ : Nat} {σ : State} {s : State} {f : Bytes} (hκ : Sub 1600 κ) (hσ : Keeps κ σ s) :
    Keeps κ σ (State.arpAnswer s f) := by
  have k0 : Sub 1600 κ := Sub.trans (by decide : 1600 &&& 1600 = 1600) hκ
  unfold State.arpAnswer
  repeat' first
    | with_reducible assumption
    | with_reducible apply State.stageOwn_keeps k0
    | dsimp -simprocs only
    | dsimp only

theorem execIgionArp_keeps {κ : Nat} {σ : State} {frame : Bytes} {s : State} (hκ : Sub 1600 κ) (hσ : Keeps κ σ s) :
    NextKeeps κ σ (execIgionArp frame s) := by
  have k0 : Sub 1600 κ := Sub.trans (by decide : 1600 &&& 1600 = 1600) hκ
  unfold execIgionArp
  repeat' first
    | with_reducible assumption
    | with_reducible apply next_keeps
    | with_reducible apply ite_next_keeps
    | with_reducible apply State.arpAnswer_keeps k0
    | with_reducible apply ite_keeps

theorem execIgionHello_keeps {κ : Nat} {σ : State} {frame : Bytes} {s : State} (hκ : Sub 8390210 κ) (hσ : Keeps κ σ s) :
    NextKeeps κ σ (execIgionHello frame s) := by
  have k0 : Sub 8390210 κ := Sub.trans (by decide : 8390210 &&& 8390210 = 8390210) hκ
  have k1 : Sub 1600 κ := Sub.trans (by decide : 1600 &&& 8390210 = 1600) hκ
  unfold execIgionHello
  repeat' first
    | with_reducible assumption
    | with_reducible apply next_keeps
    | with_reducible apply ite_next_keeps
    | with_reducible apply State.igAs_keeps k0
    | with_reducible apply State.igHello_keeps k1
    | intro _

theorem execIgionOpen_keeps {κ : Nat} {σ : State} {frame : Bytes} {s : State} (hκ : Sub 8390347 κ) (hσ : Keeps κ σ s) :
    NextKeeps κ σ (execIgionOpen frame s) := by
  have k0 : Sub 8390210 κ := Sub.trans (by decide : 8390210 &&& 8390347 = 8390210) hκ
  have k1 : Sub 8390347 κ := Sub.trans (by decide : 8390347 &&& 8390347 = 8390347) hκ
  unfold execIgionOpen
  repeat' first
    | with_reducible assumption
    | with_reducible apply next_keeps
    | with_reducible apply ite_next_keeps
    | with_reducible apply State.igAs_keeps k0
    | with_reducible apply State.igOpen_keeps k1
    | intro _

theorem execIgionData_keeps {κ : Nat} {σ : State} {frame : Bytes} {s : State} (hκ : Sub 8390210 κ) (hσ : Keeps κ σ s) :
    NextKeeps κ σ (execIgionData frame s) := by
  have k0 : Sub 8390210 κ := Sub.trans (by decide : 8390210 &&& 8390210 = 8390210) hκ
  have k1 : Sub 8390208 κ := Sub.trans (by decide : 8390208 &&& 8390210 = 8390208) hκ
  unfold execIgionData
  repeat' first
    | with_reducible assumption
    | with_reducible apply next_keeps
    | with_reducible apply ite_next_keeps
    | with_reducible apply State.igAs_keeps k0
    | with_reducible apply State.igData_keeps k1
    | intro _

theorem execIgionCommit_keeps {κ : Nat} {σ : State} {frame : Bytes} {s : State} (hκ : Sub 8390351 κ) (hσ : Keeps κ σ s) :
    NextKeeps κ σ (execIgionCommit frame s) := by
  have k0 : Sub 8390210 κ := Sub.trans (by decide : 8390210 &&& 8390351 = 8390210) hκ
  have k1 : Sub 8390351 κ := Sub.trans (by decide : 8390351 &&& 8390351 = 8390351) hκ
  unfold execIgionCommit
  repeat' first
    | with_reducible assumption
    | with_reducible apply next_keeps
    | with_reducible apply ite_next_keeps
    | with_reducible apply State.igAs_keeps k0
    | with_reducible apply State.igCommit_keeps k1
    | intro _

theorem execIgionAbort_keeps {κ : Nat} {σ : State} {frame : Bytes} {s : State} (hκ : Sub 8390215 κ) (hσ : Keeps κ σ s) :
    NextKeeps κ σ (execIgionAbort frame s) := by
  have k0 : Sub 8390210 κ := Sub.trans (by decide : 8390210 &&& 8390215 = 8390210) hκ
  have k1 : Sub 8390213 κ := Sub.trans (by decide : 8390213 &&& 8390215 = 8390213) hκ
  unfold execIgionAbort
  repeat' first
    | with_reducible assumption
    | with_reducible apply next_keeps
    | with_reducible apply ite_next_keeps
    | with_reducible apply State.igAs_keeps k0
    | with_reducible apply State.igAbort_keeps k1
    | intro _

theorem execIgionReset_keeps {κ : Nat} {σ : State} {frame : Bytes} {s : State} (hκ : Sub 8914498 κ) (hσ : Keeps κ σ s) :
    NextKeeps κ σ (execIgionReset frame s) := by
  have k0 : Sub 8390210 κ := Sub.trans (by decide : 8390210 &&& 8914498 = 8390210) hκ
  have k1 : Sub 525888 κ := Sub.trans (by decide : 525888 &&& 8914498 = 525888) hκ
  unfold execIgionReset
  repeat' first
    | with_reducible assumption
    | with_reducible apply next_keeps
    | with_reducible apply ite_next_keeps
    | with_reducible apply State.igAs_keeps k0
    | with_reducible apply State.igReset_keeps k1
    | intro _

theorem execIgionSessionTimeout_keeps {κ : Nat} {σ : State} {s : State} (hκ : Sub 8388613 κ) (hσ : Keeps κ σ s) :
    NextKeeps κ σ (execIgionSessionTimeout s) := by
  have k0 : Sub 8388613 κ := Sub.trans (by decide : 8388613 &&& 8388613 = 8388613) hκ
  unfold execIgionSessionTimeout
  repeat' first
    | with_reducible assumption
    | with_reducible apply next_keeps
    | with_reducible apply ite_next_keeps
    | with_reducible apply State.igEnd_keeps k0
    | with_reducible apply ite_keeps
    | split

end Sys2Proof.Machine
end

