-- ==== Sys2Proof/Laws/KeepsChainUpd.lean ====
section
/-! SUPPORT. What each operation of Machine/ChainUpd may do to State. -/
namespace Sys2Proof.Machine

theorem State.chainTx_keeps {κ : Nat} {σ : State} {s : State} {p kind hop image block blocks : Nat} {data : Bytes} (hκ : Sub 1600 κ) (hσ : Keeps κ σ s) :
    Keeps κ σ (State.chainTx s p kind hop image block blocks data) := by
  have k0 : Sub 1600 κ := Sub.trans (by decide : 1600 &&& 1600 = 1600) hκ
  unfold State.chainTx
  repeat' first
    | with_reducible assumption
    | with_reducible apply State.stageOwn_keeps k0
    | dsimp -simprocs only
    | dsimp only

theorem State.chainDrop_keeps {κ : Nat} {σ : State} {s : State} (hκ : Sub 2 κ) (hσ : Keeps κ σ s) :
    Keeps κ σ (State.chainDrop s) := by
  have k0 : Sub 2 κ := Sub.trans (by decide : 2 &&& 2 = 2) hκ
  unfold State.chainDrop
  repeat' first
    | with_reducible assumption
    | with_reducible apply State.count_keeps k0

theorem State.updOut_keeps {κ : Nat} {σ : State} {s : State} {p : Nat} {f : ChainOut → ChainOut} (hκ : Sub 8388608 κ) (hσ : Keeps κ σ s) :
    Keeps κ σ (State.updOut s p f) := by
  have k0 : Sub 8388608 κ := Sub.trans (by decide : 8388608 &&& 8388608 = 8388608) hκ
  unfold State.updOut
  repeat' first
    | with_reducible assumption
    | with_reducible apply State.onBoo_keeps k0
    | intro _

theorem State.outDesc_keeps {κ : Nat} {σ : State} {s : State} {c : ChainOut} {status : Nat} (hκ : Sub 128 κ) (hσ : Keeps κ σ s) :
    Keeps κ σ (State.outDesc s c status) := by
  have k0 : Sub 128 κ := Sub.trans (by decide : 128 &&& 128 = 128) hκ
  unfold State.outDesc
  repeat' first
    | with_reducible assumption
    | with_reducible apply State.lastStitch_keeps k0
    | with_reducible apply ite_keeps
    | split

theorem State.outEnd_keeps {κ : Nat} {σ : State} {s : State} {c : ChainOut} {status : Nat} (hκ : Sub 8388736 κ) (hσ : Keeps κ σ s) :
    Keeps κ σ (State.outEnd s c status) := by
  have k0 : Sub 8388608 κ := Sub.trans (by decide : 8388608 &&& 8388736 = 8388608) hκ
  have k1 : Sub 128 κ := Sub.trans (by decide : 128 &&& 8388736 = 128) hκ
  unfold State.outEnd
  repeat' first
    | with_reducible assumption
    | with_reducible apply State.onBoo_keeps k0
    | with_reducible apply State.outDesc_keeps k1
    | intro _

theorem State.outFail_keeps {κ : Nat} {σ : State} {s : State} {c : ChainOut} (hκ : Sub 8388747 κ) (hσ : Keeps κ σ s) :
    Keeps κ σ (State.outFail s c) := by
  have k0 : Sub 8388736 κ := Sub.trans (by decide : 8388736 &&& 8388747 = 8388736) hκ
  have k1 : Sub 139 κ := Sub.trans (by decide : 139 &&& 8388747 = 139) hκ
  unfold State.outFail
  repeat' first
    | with_reducible assumption
    | with_reducible apply State.outEnd_keeps k0
    | with_reducible apply State.raise_keeps k1

theorem State.outStart_keeps {κ : Nat} {σ : State} {s : State} {p image blocks hop : Nat} {desc : Option (Nat × Nat)} (hκ : Sub 8390209 κ) (hσ : Keeps κ σ s) :
    Keeps κ σ (State.outStart s p image blocks hop desc) := by
  have k0 : Sub 8388608 κ := Sub.trans (by decide : 8388608 &&& 8390209 = 8388608) hκ
  have k1 : Sub 1 κ := Sub.trans (by decide : 1 &&& 8390209 = 1) hκ
  have k2 : Sub 1600 κ := Sub.trans (by decide : 1600 &&& 8390209 = 1600) hκ
  unfold State.outStart
  repeat' first
    | with_reducible assumption
    | with_reducible apply State.onBoo_keeps k0
    | with_reducible apply State.put_keeps k1
    | with_reducible apply State.chainTx_keeps k2
    | intro _
    | dsimp -simprocs only
    | dsimp only

theorem State.outTx_keeps {κ : Nat} {σ : State} {s : State} {c : ChainOut} {k : Nat} (hκ : Sub 1600 κ) (hσ : Keeps κ σ s) :
    Keeps κ σ (State.outTx s c k) := by
  have k0 : Sub 1600 κ := Sub.trans (by decide : 1600 &&& 1600 = 1600) hκ
  unfold State.outTx
  repeat' first
    | with_reducible assumption
    | with_reducible apply State.chainTx_keeps k0
    | with_reducible apply ite_keeps

theorem State.outOne_keeps {κ : Nat} {σ : State} {p : Nat} {s : State} (hκ : Sub 8390208 κ) (hσ : Keeps κ σ s) :
    Keeps κ σ (State.outOne p s) := by
  have k0 : Sub 8388608 κ := Sub.trans (by decide : 8388608 &&& 8390208 = 8388608) hκ
  have k1 : Sub 1600 κ := Sub.trans (by decide : 1600 &&& 8390208 = 1600) hκ
  unfold State.outOne
  repeat' first
    | with_reducible assumption
    | with_reducible apply State.updOut_keeps k0
    | with_reducible apply State.outTx_keeps k1
    | intro _
    | split

theorem State.outPump_keeps {κ : Nat} {σ : State} {s : State} {p : Nat} (hκ : Sub 8390208 κ) (hσ : Keeps κ σ s) :
    Keeps κ σ (State.outPump s p) := by
  have k0 : Sub 8390208 κ := Sub.trans (by decide : 8390208 &&& 8390208 = 8390208) hκ
  unfold State.outPump
  repeat' first
    | with_reducible assumption
    | with_reducible apply State.outOne_keeps k0
    | with_reducible refine forEach_keeps (fun _ _ _ => ?_) ?_

theorem State.outAgain_keeps {κ : Nat} {σ : State} {s : State} {c : ChainOut} {k : Nat} (hκ : Sub 8390347 κ) (hσ : Keeps κ σ s) :
    Keeps κ σ (State.outAgain s c k) := by
  have k0 : Sub 8388747 κ := Sub.trans (by decide : 8388747 &&& 8390347 = 8388747) hκ
  have k1 : Sub 8388608 κ := Sub.trans (by decide : 8388608 &&& 8390347 = 8388608) hκ
  have k2 : Sub 2 κ := Sub.trans (by decide : 2 &&& 8390347 = 2) hκ
  have k3 : Sub 1600 κ := Sub.trans (by decide : 1600 &&& 8390347 = 1600) hκ
  unfold State.outAgain
  repeat' first
    | with_reducible assumption
    | with_reducible apply State.outFail_keeps k0
    | with_reducible apply State.updOut_keeps k1
    | with_reducible apply State.count_keeps k2
    | with_reducible apply State.outTx_keeps k3
    | with_reducible apply ite_keeps
    | with_reducible apply ite_fst_keeps
    | intro _
    | dsimp -simprocs only
    | dsimp only

theorem State.outAck_keeps {κ : Nat} {σ : State} {s : State} {c : ChainOut} {k : Nat} (hκ : Sub 8390337 κ) (hσ : Keeps κ σ s) :
    Keeps κ σ (State.outAck s c k) := by
  have k0 : Sub 8388608 κ := Sub.trans (by decide : 8388608 &&& 8390337 = 8388608) hκ
  have k1 : Sub 8390208 κ := Sub.trans (by decide : 8390208 &&& 8390337 = 8390208) hκ
  have k2 : Sub 8388736 κ := Sub.trans (by decide : 8388736 &&& 8390337 = 8388736) hκ
  have k3 : Sub 128 κ := Sub.trans (by decide : 128 &&& 8390337 = 128) hκ
  have k4 : Sub 1 κ := Sub.trans (by decide : 1 &&& 8390337 = 1) hκ
  unfold State.outAck
  repeat' first
    | with_reducible assumption
    | with_reducible apply State.updOut_keeps k0
    | with_reducible apply State.outPump_keeps k1
    | with_reducible apply State.outEnd_keeps k2
    | with_reducible apply State.setDescs_keeps k3
    | with_reducible apply State.put_keeps k4
    | with_reducible apply ite_keeps
    | with_reducible apply ite_fst_keeps
    | intro _
    | dsimp -simprocs only
    | dsimp only
    | split

theorem State.outNak_keeps {κ : Nat} {σ : State} {s : State} {c : ChainOut} {k : Nat} (hκ : Sub 8390347 κ) (hσ : Keeps κ σ s) :
    Keeps κ σ (State.outNak s c k) := by
  have k0 : Sub 8388747 κ := Sub.trans (by decide : 8388747 &&& 8390347 = 8388747) hκ
  have k1 : Sub 8390347 κ := Sub.trans (by decide : 8390347 &&& 8390347 = 8390347) hκ
  unfold State.outNak
  repeat' first
    | with_reducible assumption
    | with_reducible apply State.outFail_keeps k0
    | with_reducible apply State.outAgain_keeps k1
    | with_reducible apply ite_keeps
    | with_reducible apply ite_fst_keeps

theorem State.chainAck_keeps {κ : Nat} {σ : State} {p : Nat} {b : Bytes} {s : State} (hκ : Sub 8390347 κ) (hσ : Keeps κ σ s) :
    Keeps κ σ (State.chainAck p b s) := by
  have k0 : Sub 2 κ := Sub.trans (by decide : 2 &&& 8390347 = 2) hκ
  have k1 : Sub 8390337 κ := Sub.trans (by decide : 8390337 &&& 8390347 = 8390337) hκ
  have k2 : Sub 8390347 κ := Sub.trans (by decide : 8390347 &&& 8390347 = 8390347) hκ
  unfold State.chainAck
  repeat' first
    | with_reducible assumption
    | with_reducible apply State.chainDrop_keeps k0
    | with_reducible apply State.outAck_keeps k1
    | with_reducible apply State.outNak_keeps k2
    | with_reducible apply ite_keeps
    | split

theorem State.chainSay_keeps {κ : Nat} {σ : State} {s : State} {i : ChainIn} {kind k : Nat} (hκ : Sub 1600 κ) (hσ : Keeps κ σ s) :
    Keeps κ σ (State.chainSay s i kind k) := by
  have k0 : Sub 1600 κ := Sub.trans (by decide : 1600 &&& 1600 = 1600) hκ
  unfold State.chainSay
  repeat' first
    | with_reducible assumption
    | with_reducible apply State.chainTx_keeps k0

theorem State.updIn_keeps {κ : Nat} {σ : State} {s : State} {f : ChainIn → ChainIn} (hκ : Sub 8388608 κ) (hσ : Keeps κ σ s) :
    Keeps κ σ (State.updIn s f) := by
  have k0 : Sub 8388608 κ := Sub.trans (by decide : 8388608 &&& 8388608 = 8388608) hκ
  unfold State.updIn
  repeat' first
    | with_reducible assumption
    | with_reducible apply State.onBoo_keeps k0
    | intro _

theorem State.inEnd_keeps {κ : Nat} {σ : State} {s : State} {i : ChainIn} (hκ : Sub 8388751 κ) (hσ : Keeps κ σ s) :
    Keeps κ σ (State.inEnd s i) := by
  have k0 : Sub 8388612 κ := Sub.trans (by decide : 8388612 &&& 8388751 = 8388612) hκ
  have k1 : Sub 8388608 κ := Sub.trans (by decide : 8388608 &&& 8388751 = 8388608) hκ
  have k2 : Sub 1 κ := Sub.trans (by decide : 1 &&& 8388751 = 1) hκ
  have k3 : Sub 8388747 κ := Sub.trans (by decide : 8388747 &&& 8388751 = 8388747) hκ
  unfold State.inEnd
  repeat' first
    | with_reducible assumption
    | with_reducible apply State.dropOps_keeps k0
    | with_reducible apply State.onBoo_keeps k1
    | with_reducible apply State.release_keeps k2
    | with_reducible apply State.outFail_keeps k3
    | with_reducible refine forEach_keeps (fun _ _ _ => ?_) ?_
    | intro _
    | dsimp -simprocs only
    | dsimp only

theorem State.forward_keeps {κ : Nat} {σ : State} {s : State} {i : ChainIn} (hκ : Sub 8390209 κ) (hσ : Keeps κ σ s) :
    Keeps κ σ (State.forward s i) := by
  have k0 : Sub 8390209 κ := Sub.trans (by decide : 8390209 &&& 8390209 = 8390209) hκ
  unfold State.forward
  repeat' first
    | with_reducible assumption
    | with_reducible apply State.outStart_keeps k0
    | with_reducible apply ite_keeps
    | split

theorem State.chainStart_keeps {κ : Nat} {σ : State} {p : Nat} {b : Bytes} {s : State} (hκ : Sub 8390211 κ) (hσ : Keeps κ σ s) :
    Keeps κ σ (State.chainStart p b s) := by
  have k0 : Sub 2 κ := Sub.trans (by decide : 2 &&& 8390211 = 2) hκ
  have k1 : Sub 8388608 κ := Sub.trans (by decide : 8388608 &&& 8390211 = 8388608) hκ
  have k2 : Sub 1600 κ := Sub.trans (by decide : 1600 &&& 8390211 = 1600) hκ
  have k3 : Sub 1 κ := Sub.trans (by decide : 1 &&& 8390211 = 1) hκ
  have k4 : Sub 8390209 κ := Sub.trans (by decide : 8390209 &&& 8390211 = 8390209) hκ
  unfold State.chainStart
  repeat' first
    | with_reducible assumption
    | with_reducible apply State.chainDrop_keeps k0
    | with_reducible apply State.updIn_keeps k1
    | with_reducible apply State.chainSay_keeps k2
    | with_reducible apply State.claim_keeps k3
    | with_reducible apply State.onBoo_keeps k1
    | with_reducible apply State.put_keeps k3
    | with_reducible apply State.eraseStaging_keeps k1
    | with_reducible apply State.forward_keeps k4
    | with_reducible apply ite_keeps
    | intro _
    | dsimp -simprocs only
    | dsimp only
    | split

theorem State.chainBlock_keeps {κ : Nat} {σ : State} {p : Nat} {b : Bytes} {s : State} (hκ : Sub 8390210 κ) (hσ : Keeps κ σ s) :
    Keeps κ σ (State.chainBlock p b s) := by
  have k0 : Sub 2 κ := Sub.trans (by decide : 2 &&& 8390210 = 2) hκ
  have k1 : Sub 8388608 κ := Sub.trans (by decide : 8388608 &&& 8390210 = 8388608) hκ
  have k2 : Sub 1600 κ := Sub.trans (by decide : 1600 &&& 8390210 = 1600) hκ
  unfold State.chainBlock
  repeat' first
    | with_reducible assumption
    | with_reducible apply State.chainDrop_keeps k0
    | with_reducible apply State.updIn_keeps k1
    | with_reducible apply State.chainSay_keeps k2
    | with_reducible apply State.programPages_keeps k1
    | with_reducible apply ite_keeps
    | intro _
    | dsimp -simprocs only
    | dsimp only
    | split

theorem State.chainEnd_keeps {κ : Nat} {σ : State} {p : Nat} {b : Bytes} {s : State} (hκ : Sub 8390351 κ) (hσ : Keeps κ σ s) :
    Keeps κ σ (State.chainEnd p b s) := by
  have k0 : Sub 8388608 κ := Sub.trans (by decide : 8388608 &&& 8390351 = 8388608) hκ
  have k1 : Sub 143 κ := Sub.trans (by decide : 143 &&& 8390351 = 143) hκ
  have k2 : Sub 1600 κ := Sub.trans (by decide : 1600 &&& 8390351 = 1600) hκ
  have k3 : Sub 8390208 κ := Sub.trans (by decide : 8390208 &&& 8390351 = 8390208) hκ
  have k4 : Sub 8388751 κ := Sub.trans (by decide : 8388751 &&& 8390351 = 8388751) hκ
  have k5 : Sub 8388736 κ := Sub.trans (by decide : 8388736 &&& 8390351 = 8388736) hκ
  have k6 : Sub 2 κ := Sub.trans (by decide : 2 &&& 8390351 = 2) hκ
  unfold State.chainEnd
  repeat' first
    | with_reducible assumption
    | with_reducible apply State.onBoo_keeps k0
    | with_reducible apply State.stagedReady_keeps k1
    | with_reducible apply State.chainSay_keeps k2
    | with_reducible apply State.outPump_keeps k3
    | with_reducible apply State.inEnd_keeps k4
    | with_reducible apply State.outEnd_keeps k5
    | with_reducible apply State.chainDrop_keeps k6
    | with_reducible apply State.chainTx_keeps k2
    | with_reducible apply ite_keeps
    | intro _
    | dsimp -simprocs only
    | dsimp only
    | split

theorem State.chainFrame_keeps {κ : Nat} {σ : State} {s : State} {p : Nat} {f : Bytes} (hκ : Sub 8390351 κ) (hσ : Keeps κ σ s) :
    Keeps κ σ (State.chainFrame s p f) := by
  have k0 : Sub 2 κ := Sub.trans (by decide : 2 &&& 8390351 = 2) hκ
  have k1 : Sub 8390211 κ := Sub.trans (by decide : 8390211 &&& 8390351 = 8390211) hκ
  have k2 : Sub 8390210 κ := Sub.trans (by decide : 8390210 &&& 8390351 = 8390210) hκ
  have k3 : Sub 8390347 κ := Sub.trans (by decide : 8390347 &&& 8390351 = 8390347) hκ
  have k4 : Sub 8390351 κ := Sub.trans (by decide : 8390351 &&& 8390351 = 8390351) hκ
  unfold State.chainFrame
  repeat' first
    | with_reducible assumption
    | with_reducible apply State.chainDrop_keeps k0
    | with_reducible apply State.chainStart_keeps k1
    | with_reducible apply State.chainBlock_keeps k2
    | with_reducible apply State.chainAck_keeps k3
    | with_reducible apply State.chainEnd_keeps k4
    | with_reducible apply ite_keeps
    | dsimp -simprocs only
    | dsimp only
    | split

theorem State.chainAs_keeps {κ : Nat} {σ : State} {s : State} {p : Nat} {f : Bytes} {kinds : List Nat} {k : Nat → Bytes → State → State} (hκ : Sub 2 κ) (h_k : ∀ x0 x1 x2, Keeps κ σ x2 → Keeps κ σ (k x0 x1 x2)) (hσ : Keeps κ σ s) :
    Keeps κ σ (State.chainAs s p f kinds k) := by
  have k0 : Sub 2 κ := Sub.trans (by decide : 2 &&& 2 = 2) hκ
  unfold State.chainAs
  repeat' first
    | with_reducible assumption
    | with_reducible apply h_k
    | with_reducible apply State.chainDrop_keeps k0
    | with_reducible apply ite_keeps
    | dsimp -simprocs only
    | dsimp only
    | split

theorem execChainStart_keeps {κ : Nat} {σ : State} {p : Nat} {frame : Bytes} {s : State} (hκ : Sub 8390211 κ) (hσ : Keeps κ σ s) :
    NextKeeps κ σ (execChainStart p frame s) := by
  have k0 : Sub 2 κ := Sub.trans (by decide : 2 &&& 8390211 = 2) hκ
  have k1 : Sub 8390211 κ := Sub.trans (by decide : 8390211 &&& 8390211 = 8390211) hκ
  unfold execChainStart
  repeat' first
    | with_reducible assumption
    | with_reducible apply next_keeps
    | with_reducible apply ite_next_keeps
    | with_reducible apply State.chainAs_keeps k0
    | with_reducible apply State.chainStart_keeps k1
    | intro _

theorem execChainBlock_keeps {κ : Nat} {σ : State} {p : Nat} {frame : Bytes} {s : State} (hκ : Sub 8390210 κ) (hσ : Keeps κ σ s) :
    NextKeeps κ σ (execChainBlock p frame s) := by
  have k0 : Sub 2 κ := Sub.trans (by decide : 2 &&& 8390210 = 2) hκ
  have k1 : Sub 8390210 κ := Sub.trans (by decide : 8390210 &&& 8390210 = 8390210) hκ
  unfold execChainBlock
  repeat' first
    | with_reducible assumption
    | with_reducible apply next_keeps
    | with_reducible apply ite_next_keeps
    | with_reducible apply State.chainAs_keeps k0
    | with_reducible apply State.chainBlock_keeps k1
    | intro _

theorem execChainEnd_keeps {κ : Nat} {σ : State} {p : Nat} {frame : Bytes} {s : State} (hκ : Sub 8390351 κ) (hσ : Keeps κ σ s) :
    NextKeeps κ σ (execChainEnd p frame s) := by
  have k0 : Sub 2 κ := Sub.trans (by decide : 2 &&& 8390351 = 2) hκ
  have k1 : Sub 8390351 κ := Sub.trans (by decide : 8390351 &&& 8390351 = 8390351) hκ
  unfold execChainEnd
  repeat' first
    | with_reducible assumption
    | with_reducible apply next_keeps
    | with_reducible apply ite_next_keeps
    | with_reducible apply State.chainAs_keeps k0
    | with_reducible apply State.chainEnd_keeps k1
    | intro _

theorem execChainAck_keeps {κ : Nat} {σ : State} {p : Nat} {frame : Bytes} {s : State} (hκ : Sub 8390347 κ) (hσ : Keeps κ σ s) :
    NextKeeps κ σ (execChainAck p frame s) := by
  have k0 : Sub 2 κ := Sub.trans (by decide : 2 &&& 8390347 = 2) hκ
  have k1 : Sub 8390347 κ := Sub.trans (by decide : 8390347 &&& 8390347 = 8390347) hκ
  unfold execChainAck
  repeat' first
    | with_reducible assumption
    | with_reducible apply next_keeps
    | with_reducible apply ite_next_keeps
    | with_reducible apply State.chainAs_keeps k0
    | with_reducible apply State.chainAck_keeps k1
    | intro _

theorem State.outRepeat_keeps {κ : Nat} {σ : State} {s : State} {p : Nat} (hκ : Sub 8390347 κ) (hσ : Keeps κ σ s) :
    Keeps κ σ (State.outRepeat s p) := by
  have k0 : Sub 8390347 κ := Sub.trans (by decide : 8390347 &&& 8390347 = 8390347) hκ
  have k1 : Sub 8388747 κ := Sub.trans (by decide : 8388747 &&& 8390347 = 8388747) hκ
  have k2 : Sub 8388608 κ := Sub.trans (by decide : 8388608 &&& 8390347 = 8388608) hκ
  have k3 : Sub 2 κ := Sub.trans (by decide : 2 &&& 8390347 = 2) hκ
  have k4 : Sub 1600 κ := Sub.trans (by decide : 1600 &&& 8390347 = 1600) hκ
  unfold State.outRepeat
  repeat' first
    | with_reducible assumption
    | with_reducible apply State.outAgain_keeps k0
    | with_reducible apply State.outFail_keeps k1
    | with_reducible apply State.updOut_keeps k2
    | with_reducible apply State.count_keeps k3
    | with_reducible apply State.chainTx_keeps k4
    | with_reducible apply ite_keeps
    | with_reducible apply ite_fst_keeps
    | with_reducible refine forEach_keeps (fun _ _ _ => ?_) ?_
    | intro _
    | split

theorem execChainRepeatTimeout_keeps {κ : Nat} {σ : State} {p : Nat} {s : State} (hκ : Sub 8390347 κ) (hσ : Keeps κ σ s) :
    NextKeeps κ σ (execChainRepeatTimeout p s) := by
  have k0 : Sub 8390347 κ := Sub.trans (by decide : 8390347 &&& 8390347 = 8390347) hκ
  unfold execChainRepeatTimeout
  repeat' first
    | with_reducible assumption
    | with_reducible apply next_keeps
    | with_reducible apply ite_next_keeps
    | with_reducible apply State.outRepeat_keeps k0

theorem execChainRxTimeout_keeps {κ : Nat} {σ : State} {s : State} (hκ : Sub 8388751 κ) (hσ : Keeps κ σ s) :
    NextKeeps κ σ (execChainRxTimeout s) := by
  have k0 : Sub 8388751 κ := Sub.trans (by decide : 8388751 &&& 8388751 = 8388751) hκ
  unfold execChainRxTimeout
  repeat' first
    | with_reducible assumption
    | with_reducible apply next_keeps
    | with_reducible apply ite_next_keeps
    | with_reducible apply State.inEnd_keeps k0
    | with_reducible apply ite_keeps
    | split

end Sys2Proof.Machine
end

