-- ==== Sys2Proof/Laws/KeepsFlashOps.lean ====
section
/-! SUPPORT. What each operation of Machine/FlashOps may do to State. -/
namespace Sys2Proof.Machine

theorem State.booLast_keeps {κ : Nat} {σ : State} {s : State} {d : Desc} {status result : Nat} (hκ : Sub 8388737 κ) (hσ : Keeps κ σ s) :
    Keeps κ σ (State.booLast s d status result) := by
  have k0 : Sub 8388609 κ := Sub.trans (by decide : 8388609 &&& 8388737 = 8388609) hκ
  have k1 : Sub 128 κ := Sub.trans (by decide : 128 &&& 8388737 = 128) hκ
  unfold State.booLast
  repeat' first
    | with_reducible assumption
    | with_reducible apply State.booEnd_keeps k0
    | with_reducible apply State.lastStitch_keeps k1

theorem State.unitStitch_keeps {κ : Nat} {σ : State} {s : State} {d : Desc} {u : FlashUnit} {next : State → State} (hκ : Sub 25166287 κ) (h_next : ∀ x0, Keeps κ σ x0 → Keeps κ σ (next x0)) (hσ : Keeps κ σ s) :
    Keeps κ σ (State.unitStitch s d u next) := by
  have k0 : Sub 16777679 κ := Sub.trans (by decide : 16777679 &&& 25166287 = 16777679) hκ
  have k1 : Sub 8388608 κ := Sub.trans (by decide : 8388608 &&& 25166287 = 8388608) hκ
  have k2 : Sub 4 κ := Sub.trans (by decide : 4 &&& 25166287 = 4) hκ
  have k3 : Sub 8388737 κ := Sub.trans (by decide : 8388737 &&& 25166287 = 8388737) hκ
  unfold State.unitStitch
  repeat' first
    | with_reducible assumption
    | with_reducible apply h_next
    | with_reducible apply State.stitched_keeps k0
    | with_reducible apply State.flashStart_keeps k1
    | with_reducible apply State.erase_keeps k2
    | with_reducible apply State.booLast_keeps k3
    | with_reducible apply ite_keeps

theorem State.stageEraseStitch_keeps {κ : Nat} {σ : State} {s : State} {d : Desc} (hκ : Sub 25166287 κ) (hσ : Keeps κ σ s) :
    Keeps κ σ (State.stageEraseStitch s d) := by
  have k0 : Sub 25166287 κ := Sub.trans (by decide : 25166287 &&& 25166287 = 25166287) hκ
  have k1 : Sub 8388737 κ := Sub.trans (by decide : 8388737 &&& 25166287 = 8388737) hκ
  have k2 : Sub 16777679 κ := Sub.trans (by decide : 16777679 &&& 25166287 = 16777679) hκ
  unfold State.stageEraseStitch
  repeat' first
    | with_reducible assumption
    | with_reducible apply State.unitStitch_keeps k0
    | with_reducible apply State.booLast_keeps k1
    | with_reducible apply State.stitched_keeps k2
    | with_reducible apply ite_keeps
    | intro _
    | dsimp -simprocs only
    | dsimp only

theorem State.stageErase_keeps {κ : Nat} {σ : State} {s : State} {d : Desc} (hκ : Sub 25166287 κ) (hσ : Keeps κ σ s) :
    Keeps κ σ (State.stageErase s d) := by
  have k0 : Sub 139 κ := Sub.trans (by decide : 139 &&& 25166287 = 139) hκ
  have k1 : Sub 128 κ := Sub.trans (by decide : 128 &&& 25166287 = 128) hκ
  have k2 : Sub 1 κ := Sub.trans (by decide : 1 &&& 25166287 = 1) hκ
  have k3 : Sub 25166287 κ := Sub.trans (by decide : 25166287 &&& 25166287 = 25166287) hκ
  unfold State.stageErase
  repeat' first
    | with_reducible assumption
    | with_reducible apply State.noBuf_keeps k0
    | with_reducible apply State.lastStitch_keeps k1
    | with_reducible apply State.claim_keeps k2
    | with_reducible apply State.stageEraseStitch_keeps k3
    | with_reducible apply ite_keeps

theorem execStageErase_keeps {κ : Nat} {σ : State} {r : Nat} {s : State} (hκ : Sub 25166287 κ) (hσ : Keeps κ σ s) :
    NextKeeps κ σ (execStageErase r s) := by
  have k0 : Sub 0 κ := Sub.trans (by decide : 0 &&& 25166287 = 0) hκ
  have k1 : Sub 25166287 κ := Sub.trans (by decide : 25166287 &&& 25166287 = 25166287) hκ
  unfold execStageErase
  repeat' first
    | with_reducible assumption
    | with_reducible apply next_keeps
    | with_reducible apply ite_next_keeps
    | with_reducible apply State.withOp_keeps k0
    | with_reducible apply State.stageErase_keeps k1
    | intro _

theorem State.configStitch_keeps {κ : Nat} {σ : State} {s : State} {d : Desc} (hκ : Sub 25166287 κ) (hσ : Keeps κ σ s) :
    Keeps κ σ (State.configStitch s d) := by
  have k0 : Sub 25166287 κ := Sub.trans (by decide : 25166287 &&& 25166287 = 25166287) hκ
  have k1 : Sub 16777679 κ := Sub.trans (by decide : 16777679 &&& 25166287 = 16777679) hκ
  have k2 : Sub 8388737 κ := Sub.trans (by decide : 8388737 &&& 25166287 = 8388737) hκ
  unfold State.configStitch
  repeat' first
    | with_reducible assumption
    | with_reducible apply State.unitStitch_keeps k0
    | with_reducible apply State.stitched_keeps k1
    | with_reducible apply State.booLast_keeps k2
    | with_reducible apply ite_keeps
    | intro _
    | dsimp -simprocs only
    | dsimp only

theorem State.configWrite_keeps {κ : Nat} {σ : State} {s : State} {d : Desc} (hκ : Sub 25166287 κ) (hσ : Keeps κ σ s) :
    Keeps κ σ (State.configWrite s d) := by
  have k0 : Sub 128 κ := Sub.trans (by decide : 128 &&& 25166287 = 128) hκ
  have k1 : Sub 8388608 κ := Sub.trans (by decide : 8388608 &&& 25166287 = 8388608) hκ
  have k2 : Sub 25166287 κ := Sub.trans (by decide : 25166287 &&& 25166287 = 25166287) hκ
  unfold State.configWrite
  repeat' first
    | with_reducible assumption
    | with_reducible apply State.lastStitch_keeps k0
    | with_reducible apply State.onBoo_keeps k1
    | with_reducible apply State.configStitch_keeps k2
    | with_reducible apply ite_keeps
    | intro _

theorem execConfigWrite_keeps {κ : Nat} {σ : State} {r : Nat} {s : State} (hκ : Sub 25166287 κ) (hσ : Keeps κ σ s) :
    NextKeeps κ σ (execConfigWrite r s) := by
  have k0 : Sub 0 κ := Sub.trans (by decide : 0 &&& 25166287 = 0) hκ
  have k1 : Sub 25166287 κ := Sub.trans (by decide : 25166287 &&& 25166287 = 25166287) hκ
  unfold execConfigWrite
  repeat' first
    | with_reducible assumption
    | with_reducible apply next_keeps
    | with_reducible apply ite_next_keeps
    | with_reducible apply State.withOp_keeps k0
    | with_reducible apply State.configWrite_keeps k1
    | intro _

theorem State.chainSend_keeps {κ : Nat} {σ : State} {s : State} {d : Desc} (hκ : Sub 25167823 κ) (hσ : Keeps κ σ s) :
    Keeps κ σ (State.chainSend s d) := by
  have k0 : Sub 139 κ := Sub.trans (by decide : 139 &&& 25167823 = 139) hκ
  have k1 : Sub 128 κ := Sub.trans (by decide : 128 &&& 25167823 = 128) hκ
  have k2 : Sub 16777679 κ := Sub.trans (by decide : 16777679 &&& 25167823 = 16777679) hκ
  have k3 : Sub 8390209 κ := Sub.trans (by decide : 8390209 &&& 25167823 = 8390209) hκ
  unfold State.chainSend
  repeat' first
    | with_reducible assumption
    | with_reducible apply State.noBuf_keeps k0
    | with_reducible apply State.lastStitch_keeps k1
    | with_reducible apply State.stitched_keeps k2
    | with_reducible apply State.outStart_keeps k3
    | with_reducible apply ite_keeps
    | dsimp -simprocs only
    | dsimp only

theorem execChainSend_keeps {κ : Nat} {σ : State} {r : Nat} {s : State} (hκ : Sub 25167823 κ) (hσ : Keeps κ σ s) :
    NextKeeps κ σ (execChainSend r s) := by
  have k0 : Sub 0 κ := Sub.trans (by decide : 0 &&& 25167823 = 0) hκ
  have k1 : Sub 25167823 κ := Sub.trans (by decide : 25167823 &&& 25167823 = 25167823) hκ
  unfold execChainSend
  repeat' first
    | with_reducible assumption
    | with_reducible apply next_keeps
    | with_reducible apply ite_next_keeps
    | with_reducible apply State.withOp_keeps k0
    | with_reducible apply State.chainSend_keeps k1
    | intro _

theorem State.booStitch_keeps {κ : Nat} {σ : State} {s : State} {d : Desc} (hκ : Sub 25166287 κ) (hσ : Keeps κ σ s) :
    Keeps κ σ (State.booStitch s d) := by
  have k0 : Sub 8388741 κ := Sub.trans (by decide : 8388741 &&& 25166287 = 8388741) hκ
  have k1 : Sub 25166287 κ := Sub.trans (by decide : 25166287 &&& 25166287 = 25166287) hκ
  have k2 : Sub 16777679 κ := Sub.trans (by decide : 16777679 &&& 25166287 = 16777679) hκ
  unfold State.booStitch
  repeat' first
    | with_reducible assumption
    | with_reducible apply State.stopStitched_keeps k0
    | with_reducible apply State.stageEraseStitch_keeps k1
    | with_reducible apply State.configStitch_keeps k1
    | with_reducible apply State.stitched_keeps k2
    | with_reducible apply ite_keeps

theorem State.flashEffect_keeps {κ : Nat} {σ : State} {s : State} {o : FlashOp} {left : Option Bytes} (hκ : Sub 4 κ) (hσ : Keeps κ σ s) :
    Keeps κ σ (State.flashEffect s o left) := by
  have k0 : Sub 4 κ := Sub.trans (by decide : 4 &&& 4 = 4) hκ
  unfold State.flashEffect
  repeat' first
    | with_reducible assumption
    | with_reducible apply State.writeBytes_keeps k0
    | with_reducible apply State.erase_keeps k0
    | with_reducible apply State.program_keeps k0
    | with_reducible apply ite_keeps
    | split

theorem State.answerHeld_keeps {κ : Nat} {σ : State} {s : State} {o : FlashOp} (hκ : Sub 16777691 κ) (hσ : Keeps κ σ s) :
    Keeps κ σ (State.answerHeld s o) := by
  have k0 : Sub 16777691 κ := Sub.trans (by decide : 16777691 &&& 16777691 = 16777691) hκ
  unfold State.answerHeld
  repeat' first
    | with_reducible assumption
    | with_reducible apply State.tagDone_keeps k0
    | with_reducible refine forEach_keeps (fun _ _ _ => ?_) ?_
    | dsimp -simprocs only
    | dsimp only

theorem State.igPage_keeps {κ : Nat} {σ : State} {s : State} {o : FlashOp} {a : IgAsk} (hκ : Sub 8390208 κ) (hσ : Keeps κ σ s) :
    Keeps κ σ (State.igPage s o a) := by
  have k0 : Sub 8388608 κ := Sub.trans (by decide : 8388608 &&& 8390208 = 8388608) hκ
  have k1 : Sub 1600 κ := Sub.trans (by decide : 1600 &&& 8390208 = 1600) hκ
  unfold State.igPage
  repeat' first
    | with_reducible assumption
    | with_reducible apply State.onBoo_keeps k0
    | with_reducible apply State.igReply_keeps k1
    | with_reducible apply ite_keeps
    | intro _
    | dsimp -simprocs only
    | dsimp only

theorem State.chainPage_keeps {κ : Nat} {σ : State} {s : State} {o : FlashOp} {k : Nat} (hκ : Sub 8390209 κ) (hσ : Keeps κ σ s) :
    Keeps κ σ (State.chainPage s o k) := by
  have k0 : Sub 8388608 κ := Sub.trans (by decide : 8388608 &&& 8390209 = 8388608) hκ
  have k1 : Sub 1600 κ := Sub.trans (by decide : 1600 &&& 8390209 = 1600) hκ
  have k2 : Sub 1 κ := Sub.trans (by decide : 1 &&& 8390209 = 1) hκ
  have k3 : Sub 8390208 κ := Sub.trans (by decide : 8390208 &&& 8390209 = 8390208) hκ
  unfold State.chainPage
  repeat' first
    | with_reducible assumption
    | with_reducible apply State.onBoo_keeps k0
    | with_reducible apply State.chainSay_keeps k1
    | with_reducible apply State.updIn_keeps k0
    | with_reducible apply State.put_keeps k2
    | with_reducible apply State.outPump_keeps k3
    | with_reducible apply ite_keeps
    | intro _
    | dsimp -simprocs only
    | dsimp only
    | split

theorem State.descOpDone_keeps {κ : Nat} {σ : State} {s : State} {r i : Nat} (hκ : Sub 8388741 κ) (hσ : Keeps κ σ s) :
    Keeps κ σ (State.descOpDone s r i) := by
  have k0 : Sub 8388741 κ := Sub.trans (by decide : 8388741 &&& 8388741 = 8388741) hκ
  unfold State.descOpDone
  repeat' first
    | with_reducible assumption
    | with_reducible apply State.stopStitched_keeps k0
    | with_reducible apply ite_keeps
    | split

theorem State.opEnded_keeps {κ : Nat} {σ : State} {s : State} {o : FlashOp} (hκ : Sub 33030111 κ) (hσ : Keeps κ σ s) :
    Keeps κ σ (State.opEnded s o) := by
  have k0 : Sub 8390208 κ := Sub.trans (by decide : 8390208 &&& 33030111 = 8390208) hκ
  have k1 : Sub 1600 κ := Sub.trans (by decide : 1600 &&& 33030111 = 1600) hκ
  have k2 : Sub 8390209 κ := Sub.trans (by decide : 8390209 &&& 33030111 = 8390209) hκ
  have k3 : Sub 8388741 κ := Sub.trans (by decide : 8388741 &&& 33030111 = 8388741) hκ
  have k4 : Sub 33030111 κ := Sub.trans (by decide : 33030111 &&& 33030111 = 33030111) hκ
  unfold State.opEnded
  repeat' first
    | with_reducible assumption
    | with_reducible apply State.igData_keeps k0
    | with_reducible apply State.igPage_keeps k0
    | with_reducible apply State.chainSay_keeps k1
    | with_reducible apply State.chainPage_keeps k2
    | with_reducible apply State.descOpDone_keeps k3
    | with_reducible apply State.copyNext_keeps k4
    | with_reducible apply ite_keeps
    | split

theorem State.flashDone_keeps {κ : Nat} {σ : State} {s : State} {w : Nat} {left : Option Bytes} (hκ : Sub 33030111 κ) (hσ : Keeps κ σ s) :
    Keeps κ σ (State.flashDone s w left) := by
  have k0 : Sub 8388608 κ := Sub.trans (by decide : 8388608 &&& 33030111 = 8388608) hκ
  have k1 : Sub 4 κ := Sub.trans (by decide : 4 &&& 33030111 = 4) hκ
  have k2 : Sub 16777691 κ := Sub.trans (by decide : 16777691 &&& 33030111 = 16777691) hκ
  have k3 : Sub 33030111 κ := Sub.trans (by decide : 33030111 &&& 33030111 = 33030111) hκ
  unfold State.flashDone
  repeat' first
    | with_reducible assumption
    | with_reducible apply State.onBoo_keeps k0
    | with_reducible apply State.flashEffect_keeps k1
    | with_reducible apply State.answerHeld_keeps k2
    | with_reducible apply State.opEnded_keeps k3
    | intro _
    | dsimp -simprocs only
    | dsimp only
    | split

theorem execFlashOperationDone_keeps {κ : Nat} {σ : State} {flash : Nat} {left : Option Bytes} {s : State} (hκ : Sub 33030111 κ) (hσ : Keeps κ σ s) :
    NextKeeps κ σ (execFlashOperationDone flash left s) := by
  have k0 : Sub 33030111 κ := Sub.trans (by decide : 33030111 &&& 33030111 = 33030111) hκ
  unfold execFlashOperationDone
  repeat' first
    | with_reducible assumption
    | with_reducible apply next_keeps
    | with_reducible apply ite_next_keeps
    | with_reducible apply State.flashDone_keeps k0

end Sys2Proof.Machine
end

