-- ==== Sys2Proof/Laws/KeepsMem.lean ====
section
/-! SUPPORT. What each operation of Machine/Mem may do to State. -/
namespace Sys2Proof.Machine

theorem State.memStart_keeps {κ : Nat} {σ : State} {s : State} {d : Desc} {write : Bool} {k : State → State} (hκ : Sub 139 κ) (h_k : ∀ x0, Keeps κ σ x0 → Keeps κ σ (k x0)) (hσ : Keeps κ σ s) :
    Keeps κ σ (State.memStart s d write k) := by
  have k0 : Sub 128 κ := Sub.trans (by decide : 128 &&& 139 = 128) hκ
  have k1 : Sub 139 κ := Sub.trans (by decide : 139 &&& 139 = 139) hκ
  unfold State.memStart
  repeat' first
    | with_reducible assumption
    | with_reducible apply h_k
    | with_reducible apply State.finish_keeps k0
    | with_reducible apply State.deny_keeps k1
    | with_reducible apply ite_keeps
    | split

theorem State.scrubStitch_keeps {κ : Nat} {σ : State} {s : State} {d : Desc} (hκ : Sub 16777679 κ) (hσ : Keeps κ σ s) :
    Keeps κ σ (State.scrubStitch s d) := by
  have k0 : Sub 203 κ := Sub.trans (by decide : 203 &&& 16777679 = 203) hκ
  have k1 : Sub 128 κ := Sub.trans (by decide : 128 &&& 16777679 = 128) hκ
  have k2 : Sub 16777679 κ := Sub.trans (by decide : 16777679 &&& 16777679 = 16777679) hκ
  unfold State.scrubStitch
  repeat' first
    | with_reducible assumption
    | with_reducible apply State.eccRead_keeps k0
    | with_reducible apply State.lastStitch_keeps k1
    | with_reducible apply State.stitched_keeps k2
    | with_reducible apply ite_keeps
    | dsimp -simprocs only
    | dsimp only

theorem State.fillStitch_keeps {κ : Nat} {σ : State} {s : State} {d : Desc} (hκ : Sub 16777679 κ) (hσ : Keeps κ σ s) :
    Keeps κ σ (State.fillStitch s d) := by
  have k0 : Sub 203 κ := Sub.trans (by decide : 203 &&& 16777679 = 203) hκ
  have k1 : Sub 128 κ := Sub.trans (by decide : 128 &&& 16777679 = 128) hκ
  have k2 : Sub 4 κ := Sub.trans (by decide : 4 &&& 16777679 = 4) hκ
  have k3 : Sub 16777679 κ := Sub.trans (by decide : 16777679 &&& 16777679 = 16777679) hκ
  unfold State.fillStitch
  repeat' first
    | with_reducible assumption
    | with_reducible apply State.eccRefuse_keeps k0
    | with_reducible apply State.lastStitch_keeps k1
    | with_reducible apply State.eccWrite_keeps k0
    | with_reducible apply State.writeBytes_keeps k2
    | with_reducible apply State.stitched_keeps k3
    | with_reducible apply ite_keeps
    | dsimp -simprocs only
    | dsimp only

theorem execScrubRegion_keeps {κ : Nat} {σ : State} {r : Nat} {s : State} (hκ : Sub 16777679 κ) (hσ : Keeps κ σ s) :
    NextKeeps κ σ (execScrubRegion r s) := by
  have k0 : Sub 0 κ := Sub.trans (by decide : 0 &&& 16777679 = 0) hκ
  have k1 : Sub 139 κ := Sub.trans (by decide : 139 &&& 16777679 = 139) hκ
  have k2 : Sub 16777679 κ := Sub.trans (by decide : 16777679 &&& 16777679 = 16777679) hκ
  unfold execScrubRegion
  repeat' first
    | with_reducible assumption
    | with_reducible apply next_keeps
    | with_reducible apply ite_next_keeps
    | with_reducible apply State.withOp_keeps k0
    | with_reducible apply State.memStart_keeps k1
    | with_reducible apply State.scrubStitch_keeps k2
    | intro _

theorem execFillRegion_keeps {κ : Nat} {σ : State} {r : Nat} {s : State} (hκ : Sub 16777679 κ) (hσ : Keeps κ σ s) :
    NextKeeps κ σ (execFillRegion r s) := by
  have k0 : Sub 0 κ := Sub.trans (by decide : 0 &&& 16777679 = 0) hκ
  have k1 : Sub 139 κ := Sub.trans (by decide : 139 &&& 16777679 = 139) hκ
  have k2 : Sub 16777679 κ := Sub.trans (by decide : 16777679 &&& 16777679 = 16777679) hκ
  unfold execFillRegion
  repeat' first
    | with_reducible assumption
    | with_reducible apply next_keeps
    | with_reducible apply ite_next_keeps
    | with_reducible apply State.withOp_keeps k0
    | with_reducible apply State.memStart_keeps k1
    | with_reducible apply State.fillStitch_keeps k2
    | intro _

theorem State.setPatrol_keeps {κ : Nat} {σ : State} {s : State} {b v : Nat} (hκ : Sub 64 κ) (hσ : Keeps κ σ s) :
    Keeps κ σ (State.setPatrol s b v) := by
  have k0 : Sub 64 κ := Sub.trans (by decide : 64 &&& 64 = 64) hκ
  unfold State.setPatrol
  repeat' first
    | with_reducible assumption
    | with_reducible apply State.setFab_keeps k0

theorem State.patrolDie_keeps {κ : Nat} {σ : State} {m : Nat × Nat} {s : State} (hκ : Sub 203 κ) (hσ : Keeps κ σ s) :
    Keeps κ σ (State.patrolDie m s) := by
  have k0 : Sub 203 κ := Sub.trans (by decide : 203 &&& 203 = 203) hκ
  have k1 : Sub 64 κ := Sub.trans (by decide : 64 &&& 203 = 64) hκ
  unfold State.patrolDie
  repeat' first
    | with_reducible assumption
    | with_reducible apply State.eccRead_keeps k0
    | with_reducible apply State.setPatrol_keeps k1
    | dsimp -simprocs only
    | dsimp only

theorem State.patrolRun_keeps {κ : Nat} {σ : State} {s : State} (hκ : Sub 203 κ) (hσ : Keeps κ σ s) :
    Keeps κ σ (State.patrolRun s) := by
  have k0 : Sub 203 κ := Sub.trans (by decide : 203 &&& 203 = 203) hκ
  have k1 : Sub 1 κ := Sub.trans (by decide : 1 &&& 203 = 1) hκ
  have k2 : Sub 139 κ := Sub.trans (by decide : 139 &&& 203 = 139) hκ
  have k3 : Sub 64 κ := Sub.trans (by decide : 64 &&& 203 = 64) hκ
  unfold State.patrolRun
  repeat' first
    | with_reducible assumption
    | with_reducible apply State.eccRead_keeps k0
    | with_reducible apply State.put_keeps k1
    | with_reducible apply State.raise_keeps k2
    | with_reducible apply State.patrolDie_keeps k0
    | with_reducible apply State.setFab_keeps k3
    | with_reducible apply ite_keeps
    | with_reducible refine forEach_keeps (fun _ _ _ => ?_) ?_
    | dsimp -simprocs only
    | dsimp only

theorem execPatrolStitch_keeps {κ : Nat} {σ : State} {upsets : List EccMark} {s : State} (hκ : Sub 203 κ) (hσ : Keeps κ σ s) :
    NextKeeps κ σ (execPatrolStitch upsets s) := by
  have k0 : Sub 64 κ := Sub.trans (by decide : 64 &&& 203 = 64) hκ
  have k1 : Sub 203 κ := Sub.trans (by decide : 203 &&& 203 = 203) hκ
  unfold execPatrolStitch
  repeat' first
    | with_reducible assumption
    | with_reducible apply next_keeps
    | with_reducible apply ite_next_keeps
    | with_reducible apply State.upset_keeps k0
    | with_reducible apply State.patrolRun_keeps k1
    | with_reducible apply ite_keeps
    | dsimp -simprocs only
    | dsimp only

end Sys2Proof.Machine
end

