-- ==== Sys2Proof/Laws/KeepsPairLink.lean ====
section
/-! SUPPORT. What each operation of Machine/PairLink may do to State. -/
namespace Sys2Proof.Machine

theorem State.bridgeOne_keeps {κ : Nat} {σ : State} {s : State} {q : BrIn} (hκ : Sub 31457247 κ) (hσ : Keeps κ σ s) :
    Keeps κ σ (State.bridgeOne s q) := by
  have k0 : Sub 31457247 κ := Sub.trans (by decide : 31457247 &&& 31457247 = 31457247) hκ
  have k1 : Sub 16777226 κ := Sub.trans (by decide : 16777226 &&& 31457247 = 16777226) hκ
  have k2 : Sub 16777216 κ := Sub.trans (by decide : 16777216 &&& 31457247 = 16777216) hκ
  unfold State.bridgeOne
  repeat' first
    | with_reducible assumption
    | with_reducible apply State.access_keeps k0
    | with_reducible apply State.pairAnswer_keeps k1
    | with_reducible apply State.onPai_keeps k2
    | with_reducible apply ite_keeps
    | with_reducible apply ite_fst_keeps
    | intro _
    | dsimp -simprocs only
    | dsimp only
    | split

theorem State.bridgeRunN_keeps {κ : Nat} {σ : State} {a0 : Nat} {a1 : State} (hκ : Sub 31457247 κ) (hσ : Keeps κ σ a1) :
    Keeps κ σ (State.bridgeRunN a0 a1) := by
  have k0 : Sub 31457247 κ := Sub.trans (by decide : 31457247 &&& 31457247 = 31457247) hκ
  fun_induction State.bridgeRunN a0 a1
  all_goals repeat' first
    | with_reducible assumption
    | with_reducible apply State.bridgeOne_keeps k0
    | with_reducible apply ite_keeps
    | split
    | with_reducible apply_assumption

theorem State.bridgeRun_keeps {κ : Nat} {σ : State} {s : State} (hκ : Sub 31457247 κ) (hσ : Keeps κ σ s) :
    Keeps κ σ (State.bridgeRun s) := by
  have k0 : Sub 31457247 κ := Sub.trans (by decide : 31457247 &&& 31457247 = 31457247) hκ
  unfold State.bridgeRun
  repeat' first
    | with_reducible assumption
    | with_reducible apply State.bridgeRunN_keeps k0

theorem State.bridgeIn_keeps {κ : Nat} {σ : State} {s : State} {b : Bytes} (hκ : Sub 31457247 κ) (hσ : Keeps κ σ s) :
    Keeps κ σ (State.bridgeIn s b) := by
  have k0 : Sub 2 κ := Sub.trans (by decide : 2 &&& 31457247 = 2) hκ
  have k1 : Sub 16777226 κ := Sub.trans (by decide : 16777226 &&& 31457247 = 16777226) hκ
  have k2 : Sub 16777216 κ := Sub.trans (by decide : 16777216 &&& 31457247 = 16777216) hκ
  have k3 : Sub 31457247 κ := Sub.trans (by decide : 31457247 &&& 31457247 = 31457247) hκ
  unfold State.bridgeIn
  repeat' first
    | with_reducible assumption
    | with_reducible apply State.count_keeps k0
    | with_reducible apply State.bridgeReply_keeps k1
    | with_reducible apply State.onPai_keeps k2
    | with_reducible apply State.bridgeRun_keeps k3
    | with_reducible apply ite_keeps
    | intro _
    | dsimp -simprocs only
    | dsimp only
    | dsimp only [id]

theorem State.bridgeCpl_keeps {κ : Nat} {σ : State} {s : State} {b : Bytes} (hκ : Sub 16777691 κ) (hσ : Keeps κ σ s) :
    Keeps κ σ (State.bridgeCpl s b) := by
  have k0 : Sub 2 κ := Sub.trans (by decide : 2 &&& 16777691 = 2) hκ
  have k1 : Sub 16777691 κ := Sub.trans (by decide : 16777691 &&& 16777691 = 16777691) hκ
  unfold State.bridgeCpl
  repeat' first
    | with_reducible assumption
    | with_reducible apply State.count_keeps k0
    | with_reducible apply State.bridgeGot_keeps k1
    | dsimp -simprocs only
    | dsimp only
    | dsimp only [id]
    | split

theorem State.crossNow_keeps {κ : Nat} {σ : State} {s : State} (hκ : Sub 16777216 κ) (hσ : Keeps κ σ s) :
    Keeps κ σ (State.crossNow s) := by
  have k0 : Sub 16777216 κ := Sub.trans (by decide : 16777216 &&& 16777216 = 16777216) hκ
  unfold State.crossNow
  repeat' first
    | with_reducible assumption
    | with_reducible apply State.onPai_keeps k0
    | with_reducible apply ite_keeps
    | intro _
    | dsimp -simprocs only
    | dsimp only

theorem State.dropInbound_keeps {κ : Nat} {σ : State} {s : State} (hκ : Sub 320 κ) (hσ : Keeps κ σ s) :
    Keeps κ σ (State.dropInbound s) := by
  have k0 : Sub 256 κ := Sub.trans (by decide : 256 &&& 320 = 256) hκ
  have k1 : Sub 64 κ := Sub.trans (by decide : 64 &&& 320 = 64) hκ
  unfold State.dropInbound
  repeat' first
    | with_reducible assumption
    | with_reducible apply State.setQue_keeps k0
    | with_reducible apply State.setFab_keeps k1
    | dsimp -simprocs only
    | dsimp only
    | split

theorem State.uncross_keeps {κ : Nat} {σ : State} {s : State} (hκ : Sub 31457247 κ) (hσ : Keeps κ σ s) :
    Keeps κ σ (State.uncross s) := by
  have k0 : Sub 16777216 κ := Sub.trans (by decide : 16777216 &&& 31457247 = 16777216) hκ
  have k1 : Sub 1 κ := Sub.trans (by decide : 1 &&& 31457247 = 1) hκ
  have k2 : Sub 2 κ := Sub.trans (by decide : 2 &&& 31457247 = 2) hκ
  have k3 : Sub 139 κ := Sub.trans (by decide : 139 &&& 31457247 = 139) hκ
  have k4 : Sub 320 κ := Sub.trans (by decide : 320 &&& 31457247 = 320) hκ
  have k5 : Sub 16777226 κ := Sub.trans (by decide : 16777226 &&& 31457247 = 16777226) hκ
  have k6 : Sub 31457247 κ := Sub.trans (by decide : 31457247 &&& 31457247 = 31457247) hκ
  unfold State.uncross
  repeat' first
    | with_reducible assumption
    | with_reducible apply State.onPai_keeps k0
    | with_reducible apply State.put_keeps k1
    | with_reducible apply State.count_keeps k2
    | with_reducible apply State.raise_keeps k3
    | with_reducible apply State.dropInbound_keeps k4
    | with_reducible apply State.pairAnswer_keeps k5
    | with_reducible apply State.bridgeRun_keeps k6
    | with_reducible apply ite_keeps
    | intro _
    | dsimp -simprocs only
    | dsimp only
    | split

theorem State.offset_keeps {κ : Nat} {σ : State} {s : State} {time : Nat} {b : Bytes} (hκ : Sub 139 κ) (hσ : Keeps κ σ s) :
    Keeps κ σ (State.offset s time b) := by
  have k0 : Sub 1 κ := Sub.trans (by decide : 1 &&& 139 = 1) hκ
  have k1 : Sub 139 κ := Sub.trans (by decide : 139 &&& 139 = 139) hκ
  unfold State.offset
  repeat' first
    | with_reducible assumption
    | with_reducible apply State.put_keeps k0
    | with_reducible apply State.raise_keeps k1
    | with_reducible apply ite_keeps
    | dsimp -simprocs only
    | dsimp only

theorem State.primaryBeat_keeps {κ : Nat} {σ : State} {s : State} {role : Nat} {bits_ : Nat} (hκ : Sub 16777355 κ) (hσ : Keeps κ σ s) :
    Keeps κ σ (State.primaryBeat s role bits_) := by
  have k0 : Sub 16777216 κ := Sub.trans (by decide : 16777216 &&& 16777355 = 16777216) hκ
  have k1 : Sub 16777226 κ := Sub.trans (by decide : 16777226 &&& 16777355 = 16777226) hκ
  have k2 : Sub 1 κ := Sub.trans (by decide : 1 &&& 16777355 = 1) hκ
  have k3 : Sub 139 κ := Sub.trans (by decide : 139 &&& 16777355 = 139) hκ
  unfold State.primaryBeat
  repeat' first
    | with_reducible assumption
    | with_reducible apply State.onPai_keeps k0
    | with_reducible apply State.sendAll_keeps k1
    | with_reducible apply State.resync_keeps k1
    | with_reducible apply State.put_keeps k2
    | with_reducible apply State.raise_keeps k3
    | with_reducible apply ite_keeps
    | intro _

theorem State.beat_keeps {κ : Nat} {σ : State} {s : State} {lane role time : Nat} {b : Bytes} (hκ : Sub 17260683 κ) (hσ : Keeps κ σ s) :
    Keeps κ σ (State.beat s lane role time b) := by
  have k0 : Sub 16777216 κ := Sub.trans (by decide : 16777216 &&& 17260683 = 16777216) hκ
  have k1 : Sub 1 κ := Sub.trans (by decide : 1 &&& 17260683 = 1) hκ
  have k2 : Sub 139 κ := Sub.trans (by decide : 139 &&& 17260683 = 139) hκ
  have k3 : Sub 16777217 κ := Sub.trans (by decide : 16777217 &&& 17260683 = 16777217) hκ
  have k4 : Sub 17260683 κ := Sub.trans (by decide : 17260683 &&& 17260683 = 17260683) hκ
  have k5 : Sub 16777355 κ := Sub.trans (by decide : 16777355 &&& 17260683 = 16777355) hκ
  unfold State.beat
  repeat' first
    | with_reducible assumption
    | with_reducible apply State.onPai_keeps k0
    | with_reducible apply State.put_keeps k1
    | with_reducible apply State.raise_keeps k2
    | with_reducible apply State.offset_keeps k2
    | with_reducible apply State.crossNow_keeps k0
    | with_reducible apply State.enterSyncing_keeps k3
    | with_reducible apply State.promote_keeps k4
    | with_reducible apply State.mirAcked_keeps k0
    | with_reducible apply State.primaryBeat_keeps k5
    | with_reducible apply ite_keeps
    | intro _
    | dsimp -simprocs only
    | dsimp only

theorem State.rankClash_keeps {κ : Nat} {σ : State} {s : State} (hκ : Sub 16777355 κ) (hσ : Keeps κ σ s) :
    Keeps κ σ (State.rankClash s) := by
  have k0 : Sub 139 κ := Sub.trans (by decide : 139 &&& 16777355 = 139) hκ
  have k1 : Sub 16777216 κ := Sub.trans (by decide : 16777216 &&& 16777355 = 16777216) hκ
  have k2 : Sub 2 κ := Sub.trans (by decide : 2 &&& 16777355 = 2) hκ
  unfold State.rankClash
  repeat' first
    | with_reducible assumption
    | with_reducible apply State.raise_keeps k0
    | with_reducible apply State.onPai_keeps k1
    | with_reducible apply State.count_keeps k2
    | with_reducible apply ite_keeps
    | intro _
    | dsimp -simprocs only
    | dsimp only

theorem State.staleTerm_keeps {κ : Nat} {σ : State} {s : State} {kind : Nat} {b : Bytes} (hκ : Sub 16777355 κ) (hσ : Keeps κ σ s) :
    Keeps κ σ (State.staleTerm s kind b) := by
  have k0 : Sub 2 κ := Sub.trans (by decide : 2 &&& 16777355 = 2) hκ
  have k1 : Sub 139 κ := Sub.trans (by decide : 139 &&& 16777355 = 139) hκ
  have k2 : Sub 16777226 κ := Sub.trans (by decide : 16777226 &&& 16777355 = 16777226) hκ
  unfold State.staleTerm
  repeat' first
    | with_reducible assumption
    | with_reducible apply State.count_keeps k0
    | with_reducible apply State.raise_keeps k1
    | with_reducible apply State.bridgeReply_keeps k2
    | with_reducible apply ite_keeps
    | dsimp -simprocs only
    | dsimp only

theorem State.adopt_keeps {κ : Nat} {σ : State} {s : State} {term role : Nat} (hκ : Sub 17196683 κ) (hσ : Keeps κ σ s) :
    Keeps κ σ (State.adopt s term role) := by
  have k0 : Sub 17196683 κ := Sub.trans (by decide : 17196683 &&& 17196683 = 17196683) hκ
  have k1 : Sub 1 κ := Sub.trans (by decide : 1 &&& 17196683 = 1) hκ
  unfold State.adopt
  repeat' first
    | with_reducible assumption
    | with_reducible apply State.demote_keeps k0
    | with_reducible apply State.put_keeps k1
    | with_reducible apply ite_keeps
    | dsimp -simprocs only
    | dsimp only

theorem State.beacon_keeps {κ : Nat} {σ : State} {s : State} {b : Bytes} (hκ : Sub 16777216 κ) (hσ : Keeps κ σ s) :
    Keeps κ σ (State.beacon s b) := by
  have k0 : Sub 16777216 κ := Sub.trans (by decide : 16777216 &&& 16777216 = 16777216) hκ
  unfold State.beacon
  repeat' first
    | with_reducible assumption
    | with_reducible apply State.onPai_keeps k0
    | with_reducible apply ite_keeps
    | intro _

theorem State.pairKind_keeps {κ : Nat} {σ : State} {s : State} {kind lane role seq time : Nat} {b : Bytes} (hκ : Sub 31457247 κ) (hσ : Keeps κ σ s) :
    Keeps κ σ (State.pairKind s kind lane role seq time b) := by
  have k0 : Sub 17260683 κ := Sub.trans (by decide : 17260683 &&& 31457247 = 17260683) hκ
  have k1 : Sub 16933515 κ := Sub.trans (by decide : 16933515 &&& 31457247 = 16933515) hκ
  have k2 : Sub 31457247 κ := Sub.trans (by decide : 31457247 &&& 31457247 = 31457247) hκ
  have k3 : Sub 16777691 κ := Sub.trans (by decide : 16777691 &&& 31457247 = 16777691) hκ
  have k4 : Sub 16777216 κ := Sub.trans (by decide : 16777216 &&& 31457247 = 16777216) hκ
  unfold State.pairKind
  repeat' first
    | with_reducible assumption
    | with_reducible apply State.beat_keeps k0
    | with_reducible apply State.mirrorIn_keeps k1
    | with_reducible apply State.bridgeIn_keeps k2
    | with_reducible apply State.bridgeCpl_keeps k3
    | with_reducible apply State.promote_keeps k0
    | with_reducible apply State.beacon_keeps k4
    | with_reducible apply ite_keeps

theorem State.pairFrame_keeps {κ : Nat} {σ : State} {s : State} {lane : Nat} {b : Bytes} (hκ : Sub 31457247 κ) (hσ : Keeps κ σ s) :
    Keeps κ σ (State.pairFrame s lane b) := by
  have k0 : Sub 2 κ := Sub.trans (by decide : 2 &&& 31457247 = 2) hκ
  have k1 : Sub 16777355 κ := Sub.trans (by decide : 16777355 &&& 31457247 = 16777355) hκ
  have k2 : Sub 1 κ := Sub.trans (by decide : 1 &&& 31457247 = 1) hκ
  have k3 : Sub 17196683 κ := Sub.trans (by decide : 17196683 &&& 31457247 = 17196683) hκ
  have k4 : Sub 31457247 κ := Sub.trans (by decide : 31457247 &&& 31457247 = 31457247) hκ
  unfold State.pairFrame
  repeat' first
    | with_reducible assumption
    | with_reducible apply State.count_keeps k0
    | with_reducible apply State.rankClash_keeps k1
    | with_reducible apply State.staleTerm_keeps k1
    | with_reducible apply State.put_keeps k2
    | with_reducible apply State.adopt_keeps k3
    | with_reducible apply State.pairKind_keeps k4
    | with_reducible apply ite_keeps
    | dsimp -simprocs only
    | dsimp only

theorem State.laneFrame_keeps {κ : Nat} {σ : State} {s : State} {lane : Nat} {b : Bytes} (hκ : Sub 31457247 κ) (hσ : Keeps κ σ s) :
    Keeps κ σ (State.laneFrame s lane b) := by
  have k0 : Sub 31457247 κ := Sub.trans (by decide : 31457247 &&& 31457247 = 31457247) hκ
  unfold State.laneFrame
  repeat' first
    | with_reducible assumption
    | with_reducible apply State.pairFrame_keeps k0
    | with_reducible apply ite_keeps

theorem State.beaconFrame_keeps {κ : Nat} {σ : State} {s : State} {port : Nat} {b : Bytes} (hκ : Sub 31457247 κ) (hσ : Keeps κ σ s) :
    Keeps κ σ (State.beaconFrame s port b) := by
  have k0 : Sub 31457247 κ := Sub.trans (by decide : 31457247 &&& 31457247 = 31457247) hκ
  unfold State.beaconFrame
  repeat' first
    | with_reducible assumption
    | with_reducible apply State.pairFrame_keeps k0
    | with_reducible apply ite_keeps
    | dsimp -simprocs only
    | dsimp only

theorem State.switchRun_keeps {κ : Nat} {σ : State} {s : State} (hκ : Sub 16777226 κ) (hσ : Keeps κ σ s) :
    Keeps κ σ (State.switchRun s) := by
  have k0 : Sub 16777216 κ := Sub.trans (by decide : 16777216 &&& 16777226 = 16777216) hκ
  have k1 : Sub 16777226 κ := Sub.trans (by decide : 16777226 &&& 16777226 = 16777226) hκ
  unfold State.switchRun
  repeat' first
    | with_reducible assumption
    | with_reducible apply State.onPai_keeps k0
    | with_reducible apply State.sendOne_keeps k1
    | with_reducible apply ite_keeps
    | intro _

theorem State.pairTick_keeps {κ : Nat} {σ : State} {s : State} (hκ : Sub 31457247 κ) (hσ : Keeps κ σ s) :
    Keeps κ σ (State.pairTick s) := by
  have k0 : Sub 16777226 κ := Sub.trans (by decide : 16777226 &&& 31457247 = 16777226) hκ
  have k1 : Sub 31457247 κ := Sub.trans (by decide : 31457247 &&& 31457247 = 31457247) hκ
  have k2 : Sub 16777216 κ := Sub.trans (by decide : 16777216 &&& 31457247 = 16777216) hκ
  unfold State.pairTick
  repeat' first
    | with_reducible assumption
    | with_reducible apply State.mirror_keeps k0
    | with_reducible apply State.switchRun_keeps k0
    | with_reducible apply State.bridgeRun_keeps k1
    | with_reducible apply State.crossNow_keeps k2
    | with_reducible apply ite_keeps

theorem State.beatOn_keeps {κ : Nat} {σ : State} {lane : Nat} {s : State} (hκ : Sub 16777226 κ) (hσ : Keeps κ σ s) :
    Keeps κ σ (State.beatOn lane s) := by
  have k0 : Sub 16777216 κ := Sub.trans (by decide : 16777216 &&& 16777226 = 16777216) hκ
  have k1 : Sub 16777226 κ := Sub.trans (by decide : 16777226 &&& 16777226 = 16777226) hκ
  unfold State.beatOn
  repeat' first
    | with_reducible assumption
    | with_reducible apply State.onPai_keeps k0
    | with_reducible apply State.sendOn_keeps k1
    | intro _
    | dsimp -simprocs only
    | dsimp only

theorem State.missed_keeps {κ : Nat} {σ : State} {lane : Nat} {s : State} (hκ : Sub 2 κ) (hσ : Keeps κ σ s) :
    Keeps κ σ (State.missed lane s) := by
  have k0 : Sub 2 κ := Sub.trans (by decide : 2 &&& 2 = 2) hκ
  unfold State.missed
  repeat' first
    | with_reducible assumption
    | with_reducible apply State.count_keeps k0
    | with_reducible apply ite_keeps

theorem State.beats_keeps {κ : Nat} {σ : State} {s : State} (hκ : Sub 16777226 κ) (hσ : Keeps κ σ s) :
    Keeps κ σ (State.beats s) := by
  have k0 : Sub 16777226 κ := Sub.trans (by decide : 16777226 &&& 16777226 = 16777226) hκ
  have k1 : Sub 2 κ := Sub.trans (by decide : 2 &&& 16777226 = 2) hκ
  have k2 : Sub 16777216 κ := Sub.trans (by decide : 16777216 &&& 16777226 = 16777216) hκ
  unfold State.beats
  repeat' first
    | with_reducible assumption
    | with_reducible apply State.beatOn_keeps k0
    | with_reducible apply State.missed_keeps k1
    | with_reducible apply State.onPai_keeps k2
    | with_reducible apply State.crossNow_keeps k2
    | with_reducible refine forEach_keeps (fun _ _ _ => ?_) ?_
    | intro _
    | dsimp -simprocs only
    | dsimp only

theorem State.partnerDead_keeps {κ : Nat} {σ : State} {s : State} (hκ : Sub 17261019 κ) (hσ : Keeps κ σ s) :
    Keeps κ σ (State.partnerDead s) := by
  have k0 : Sub 1 κ := Sub.trans (by decide : 1 &&& 17261019 = 1) hκ
  have k1 : Sub 139 κ := Sub.trans (by decide : 139 &&& 17261019 = 139) hκ
  have k2 : Sub 16777691 κ := Sub.trans (by decide : 16777691 &&& 17261019 = 16777691) hκ
  have k3 : Sub 16777344 κ := Sub.trans (by decide : 16777344 &&& 17261019 = 16777344) hκ
  have k4 : Sub 16777216 κ := Sub.trans (by decide : 16777216 &&& 17261019 = 16777216) hκ
  have k5 : Sub 17260683 κ := Sub.trans (by decide : 17260683 &&& 17261019 = 17260683) hκ
  unfold State.partnerDead
  repeat' first
    | with_reducible assumption
    | with_reducible apply State.put_keeps k0
    | with_reducible apply State.raise_keeps k1
    | with_reducible apply State.bridgeDead_keeps k2
    | with_reducible apply State.endSwitch_keeps k3
    | with_reducible apply State.onPai_keeps k4
    | with_reducible apply State.promoteOr_keeps k5
    | with_reducible apply State.setRole_keeps k0
    | with_reducible apply ite_keeps
    | intro _
    | dsimp -simprocs only
    | dsimp only

theorem State.beaconOn_keeps {κ : Nat} {σ : State} {port : Nat} {s : State} (hκ : Sub 16778816 κ) (hσ : Keeps κ σ s) :
    Keeps κ σ (State.beaconOn port s) := by
  have k0 : Sub 1600 κ := Sub.trans (by decide : 1600 &&& 16778816 = 1600) hκ
  have k1 : Sub 16777216 κ := Sub.trans (by decide : 16777216 &&& 16778816 = 16777216) hκ
  unfold State.beaconOn
  repeat' first
    | with_reducible assumption
    | with_reducible apply State.stageOwn_keeps k0
    | with_reducible apply State.pairSeqStep_keeps k1

theorem execPairEnable_keeps {κ : Nat} {σ : State} {pid val : Nat} {s : State} (hκ : Sub 16803803 κ) (hσ : Keeps κ σ s) :
    NextKeeps κ σ (execPairEnable pid val s) := by
  have k0 : Sub 16803803 κ := Sub.trans (by decide : 16803803 &&& 16803803 = 16803803) hκ
  unfold execPairEnable
  repeat' first
    | with_reducible assumption
    | with_reducible apply next_keeps
    | with_reducible apply ite_next_keeps
    | with_reducible apply State.paiCtl_keeps k0

theorem execPairDisable_keeps {κ : Nat} {σ : State} {pid val : Nat} {s : State} (hκ : Sub 16803803 κ) (hσ : Keeps κ σ s) :
    NextKeeps κ σ (execPairDisable pid val s) := by
  have k0 : Sub 16803803 κ := Sub.trans (by decide : 16803803 &&& 16803803 = 16803803) hκ
  unfold execPairDisable
  repeat' first
    | with_reducible assumption
    | with_reducible apply next_keeps
    | with_reducible apply ite_next_keeps
    | with_reducible apply State.paiCtl_keeps k0

theorem execHeartbeatSend_keeps {κ : Nat} {σ : State} {s : State} (hκ : Sub 16777226 κ) (hσ : Keeps κ σ s) :
    NextKeeps κ σ (execHeartbeatSend s) := by
  have k0 : Sub 16777226 κ := Sub.trans (by decide : 16777226 &&& 16777226 = 16777226) hκ
  unfold execHeartbeatSend
  repeat' first
    | with_reducible assumption
    | with_reducible apply next_keeps
    | with_reducible apply ite_next_keeps
    | with_reducible apply State.beats_keeps k0
    | with_reducible apply ite_keeps

theorem execHeartbeatReceive_keeps {κ : Nat} {σ : State} {lane : Nat} {b : Bytes} {s : State} (hκ : Sub 31457247 κ) (hσ : Keeps κ σ s) :
    NextKeeps κ σ (execHeartbeatReceive lane b s) := by
  have k0 : Sub 31457247 κ := Sub.trans (by decide : 31457247 &&& 31457247 = 31457247) hκ
  unfold execHeartbeatReceive
  repeat' first
    | with_reducible assumption
    | with_reducible apply next_keeps
    | with_reducible apply ite_next_keeps
    | with_reducible apply State.laneFrame_keeps k0
    | with_reducible apply ite_keeps

theorem execPartnerDead_keeps {κ : Nat} {σ : State} {s : State} (hκ : Sub 17261019 κ) (hσ : Keeps κ σ s) :
    NextKeeps κ σ (execPartnerDead s) := by
  have k0 : Sub 17261019 κ := Sub.trans (by decide : 17261019 &&& 17261019 = 17261019) hκ
  unfold execPartnerDead
  repeat' first
    | with_reducible assumption
    | with_reducible apply next_keeps
    | with_reducible apply ite_next_keeps
    | with_reducible apply State.partnerDead_keeps k0
    | with_reducible apply ite_keeps
    | split

theorem execStartTimeout_keeps {κ : Nat} {σ : State} {s : State} (hκ : Sub 17260683 κ) (hσ : Keeps κ σ s) :
    NextKeeps κ σ (execStartTimeout s) := by
  have k0 : Sub 17260683 κ := Sub.trans (by decide : 17260683 &&& 17260683 = 17260683) hκ
  unfold execStartTimeout
  repeat' first
    | with_reducible assumption
    | with_reducible apply next_keeps
    | with_reducible apply ite_next_keeps
    | with_reducible apply State.promoteOr_keeps k0
    | with_reducible apply ite_keeps

theorem execTermReceive_keeps {κ : Nat} {σ : State} {lane : Nat} {b : Bytes} {s : State} (hκ : Sub 31457247 κ) (hσ : Keeps κ σ s) :
    NextKeeps κ σ (execTermReceive lane b s) := by
  have k0 : Sub 31457247 κ := Sub.trans (by decide : 31457247 &&& 31457247 = 31457247) hκ
  unfold execTermReceive
  repeat' first
    | with_reducible assumption
    | with_reducible apply next_keeps
    | with_reducible apply ite_next_keeps
    | with_reducible apply State.laneFrame_keeps k0
    | with_reducible apply ite_keeps

theorem execWitnessTimeout_keeps {κ : Nat} {σ : State} {s : State} (hκ : Sub 17260683 κ) (hσ : Keeps κ σ s) :
    NextKeeps κ σ (execWitnessTimeout s) := by
  have k0 : Sub 17260683 κ := Sub.trans (by decide : 17260683 &&& 17260683 = 17260683) hκ
  unfold execWitnessTimeout
  repeat' first
    | with_reducible assumption
    | with_reducible apply next_keeps
    | with_reducible apply ite_next_keeps
    | with_reducible apply State.promote_keeps k0
    | with_reducible apply ite_keeps

theorem execBeaconSend_keeps {κ : Nat} {σ : State} {s : State} (hκ : Sub 16778816 κ) (hσ : Keeps κ σ s) :
    NextKeeps κ σ (execBeaconSend s) := by
  have k0 : Sub 16778816 κ := Sub.trans (by decide : 16778816 &&& 16778816 = 16778816) hκ
  have k1 : Sub 16777216 κ := Sub.trans (by decide : 16777216 &&& 16778816 = 16777216) hκ
  unfold execBeaconSend
  repeat' first
    | with_reducible assumption
    | with_reducible apply next_keeps
    | with_reducible apply ite_next_keeps
    | with_reducible apply State.beaconOn_keeps k0
    | with_reducible apply State.onPai_keeps k1
    | with_reducible apply ite_keeps
    | with_reducible refine forEach_keeps (fun _ _ _ => ?_) ?_
    | intro _

theorem execBeaconReceive_keeps {κ : Nat} {σ : State} {port : Nat} {b : Bytes} {s : State} (hκ : Sub 31457247 κ) (hσ : Keeps κ σ s) :
    NextKeeps κ σ (execBeaconReceive port b s) := by
  have k0 : Sub 31457247 κ := Sub.trans (by decide : 31457247 &&& 31457247 = 31457247) hκ
  unfold execBeaconReceive
  repeat' first
    | with_reducible assumption
    | with_reducible apply next_keeps
    | with_reducible apply ite_next_keeps
    | with_reducible apply State.beaconFrame_keeps k0
    | with_reducible apply ite_keeps

theorem execMirrorReceive_keeps {κ : Nat} {σ : State} {lane : Nat} {b : Bytes} {s : State} (hκ : Sub 31457247 κ) (hσ : Keeps κ σ s) :
    NextKeeps κ σ (execMirrorReceive lane b s) := by
  have k0 : Sub 31457247 κ := Sub.trans (by decide : 31457247 &&& 31457247 = 31457247) hκ
  unfold execMirrorReceive
  repeat' first
    | with_reducible assumption
    | with_reducible apply next_keeps
    | with_reducible apply ite_next_keeps
    | with_reducible apply State.laneFrame_keeps k0
    | with_reducible apply ite_keeps

theorem execMirrorRetx_keeps {κ : Nat} {σ : State} {seq : Nat} {s : State} (hκ : Sub 16777226 κ) (hσ : Keeps κ σ s) :
    NextKeeps κ σ (execMirrorRetx seq s) := by
  have k0 : Sub 10 κ := Sub.trans (by decide : 10 &&& 16777226 = 10) hκ
  have k1 : Sub 2 κ := Sub.trans (by decide : 2 &&& 16777226 = 2) hκ
  have k2 : Sub 16777216 κ := Sub.trans (by decide : 16777216 &&& 16777226 = 16777216) hκ
  unfold execMirrorRetx
  repeat' first
    | with_reducible assumption
    | with_reducible apply next_keeps
    | with_reducible apply ite_next_keeps
    | with_reducible apply State.laneSend_keeps k0
    | with_reducible apply State.count_keeps k1
    | with_reducible apply State.onPai_keeps k2
    | intro _
    | dsimp -simprocs only
    | dsimp only
    | split

theorem execBridgeRequest_keeps {κ : Nat} {σ : State} {lane : Nat} {b : Bytes} {s : State} (hκ : Sub 31457247 κ) (hσ : Keeps κ σ s) :
    NextKeeps κ σ (execBridgeRequest lane b s) := by
  have k0 : Sub 31457247 κ := Sub.trans (by decide : 31457247 &&& 31457247 = 31457247) hκ
  unfold execBridgeRequest
  repeat' first
    | with_reducible assumption
    | with_reducible apply next_keeps
    | with_reducible apply ite_next_keeps
    | with_reducible apply State.laneFrame_keeps k0
    | with_reducible apply ite_keeps

theorem execBridgeCompletion_keeps {κ : Nat} {σ : State} {lane : Nat} {b : Bytes} {s : State} (hκ : Sub 31457247 κ) (hσ : Keeps κ σ s) :
    NextKeeps κ σ (execBridgeCompletion lane b s) := by
  have k0 : Sub 31457247 κ := Sub.trans (by decide : 31457247 &&& 31457247 = 31457247) hκ
  unfold execBridgeCompletion
  repeat' first
    | with_reducible assumption
    | with_reducible apply next_keeps
    | with_reducible apply ite_next_keeps
    | with_reducible apply State.laneFrame_keeps k0
    | with_reducible apply ite_keeps

theorem execBridgeTimeout_keeps {κ : Nat} {σ : State} {id : Nat} {s : State} (hκ : Sub 16777691 κ) (hσ : Keeps κ σ s) :
    NextKeeps κ σ (execBridgeTimeout id s) := by
  have k0 : Sub 16777691 κ := Sub.trans (by decide : 16777691 &&& 16777691 = 16777691) hκ
  unfold execBridgeTimeout
  repeat' first
    | with_reducible assumption
    | with_reducible apply next_keeps
    | with_reducible apply ite_next_keeps
    | with_reducible apply State.bridgePeer_keeps k0
    | with_reducible apply ite_keeps
    | dsimp -simprocs only
    | dsimp only
    | dsimp only [id]

theorem execCrossTimeout_keeps {κ : Nat} {σ : State} {s : State} (hκ : Sub 31457247 κ) (hσ : Keeps κ σ s) :
    NextKeeps κ σ (execCrossTimeout s) := by
  have k0 : Sub 31457247 κ := Sub.trans (by decide : 31457247 &&& 31457247 = 31457247) hκ
  unfold execCrossTimeout
  repeat' first
    | with_reducible assumption
    | with_reducible apply next_keeps
    | with_reducible apply ite_next_keeps
    | with_reducible apply State.uncross_keeps k0

theorem State.switchOp_keeps {κ : Nat} {σ : State} {s : State} {d : Desc} (hκ : Sub 16777355 κ) (hσ : Keeps κ σ s) :
    Keeps κ σ (State.switchOp s d) := by
  have k0 : Sub 128 κ := Sub.trans (by decide : 128 &&& 16777355 = 128) hκ
  have k1 : Sub 139 κ := Sub.trans (by decide : 139 &&& 16777355 = 139) hκ
  have k2 : Sub 16777216 κ := Sub.trans (by decide : 16777216 &&& 16777355 = 16777216) hκ
  unfold State.switchOp
  repeat' first
    | with_reducible assumption
    | with_reducible apply State.finish_keeps k0
    | with_reducible apply State.noBuf_keeps k1
    | with_reducible apply State.hold_keeps k0
    | with_reducible apply State.onPai_keeps k2
    | with_reducible apply ite_keeps
    | intro _
    | split

theorem execSwitch_keeps {κ : Nat} {σ : State} {r : Nat} {s : State} (hκ : Sub 16777355 κ) (hσ : Keeps κ σ s) :
    NextKeeps κ σ (execSwitch r s) := by
  have k0 : Sub 0 κ := Sub.trans (by decide : 0 &&& 16777355 = 0) hκ
  have k1 : Sub 16777355 κ := Sub.trans (by decide : 16777355 &&& 16777355 = 16777355) hκ
  unfold execSwitch
  repeat' first
    | with_reducible assumption
    | with_reducible apply next_keeps
    | with_reducible apply ite_next_keeps
    | with_reducible apply State.withOp_keeps k0
    | with_reducible apply State.switchOp_keeps k1
    | intro _

end Sys2Proof.Machine
end

