-- ==== Sys2Proof/Laws/KeepsReceive.lean ====
section
/-! SUPPORT. What each operation of Machine/Receive may do to State. -/
namespace Sys2Proof.Machine

theorem State.wakeCheck_keeps {κ : Nat} {σ : State} {s : State} {p : Nat} {b : Bytes} (hκ : Sub 185483 κ) (hσ : Keeps κ σ s) :
    Keeps κ σ (State.wakeCheck s p b) := by
  have k0 : Sub 4096 κ := Sub.trans (by decide : 4096 &&& 185483 = 4096) hκ
  have k1 : Sub 2 κ := Sub.trans (by decide : 2 &&& 185483 = 2) hκ
  have k2 : Sub 139 κ := Sub.trans (by decide : 139 &&& 185483 = 139) hκ
  have k3 : Sub 185483 κ := Sub.trans (by decide : 185483 &&& 185483 = 185483) hκ
  unfold State.wakeCheck
  repeat' first
    | with_reducible assumption
    | with_reducible apply State.wakeMeets_keeps k0
    | with_reducible apply State.count_keeps k1
    | with_reducible apply State.raise_keeps k2
    | with_reducible apply State.wakeEvent_keeps k3
    | with_reducible apply ite_keeps
    | dsimp -simprocs only
    | dsimp only
    | split

theorem State.setBucket_keeps {κ : Nat} {σ : State} {s : State} {p k : Nat} {b : Bucket} (hκ : Sub 1024 κ) (hσ : Keeps κ σ s) :
    Keeps κ σ (State.setBucket s p k b) := by
  have k0 : Sub 1024 κ := Sub.trans (by decide : 1024 &&& 1024 = 1024) hκ
  unfold State.setBucket
  repeat' first
    | with_reducible assumption
    | with_reducible apply State.onPrt_keeps k0
    | intro _

theorem State.admitRx_keeps {κ : Nat} {σ : State} {s : State} {p : Nat} {b : Bytes} (hκ : Sub 1163 κ) (hσ : Keeps κ σ s) :
    Keeps κ σ (State.admitRx s p b).1 := by
  have k0 : Sub 1024 κ := Sub.trans (by decide : 1024 &&& 1163 = 1024) hκ
  have k1 : Sub 2 κ := Sub.trans (by decide : 2 &&& 1163 = 2) hκ
  have k2 : Sub 139 κ := Sub.trans (by decide : 139 &&& 1163 = 139) hκ
  unfold State.admitRx
  repeat' first
    | with_reducible assumption
    | with_reducible apply State.setBucket_keeps k0
    | with_reducible apply State.count_keeps k1
    | with_reducible apply State.raise_keeps k2
    | with_reducible apply ite_keeps
    | with_reducible apply ite_fst_keeps
    | with_reducible refine forEach_keeps (fun _ _ _ => ?_) ?_
    | dsimp -simprocs only
    | dsimp only

theorem State.qciDrop_keeps {κ : Nat} {σ : State} {s : State} {p f c i : Nat} (hκ : Sub 1163 κ) (hσ : Keeps κ σ s) :
    Keeps κ σ (State.qciDrop s p f c i) := by
  have k0 : Sub 2 κ := Sub.trans (by decide : 2 &&& 1163 = 2) hκ
  have k1 : Sub 139 κ := Sub.trans (by decide : 139 &&& 1163 = 139) hκ
  have k2 : Sub 1024 κ := Sub.trans (by decide : 1024 &&& 1163 = 1024) hκ
  unfold State.qciDrop
  repeat' first
    | with_reducible assumption
    | with_reducible apply State.count_keeps k0
    | with_reducible apply State.raise_keeps k1
    | with_reducible apply State.setFiltCnt_keeps k2

theorem State.qciMeter_keeps {κ : Nat} {σ : State} {s : State} {p i : Nat} {f : QFilter} {b : Bytes} (hκ : Sub 1163 κ) (hσ : Keeps κ σ s) :
    Keeps κ σ (State.qciMeter s p i f b).1 := by
  have k0 : Sub 1024 κ := Sub.trans (by decide : 1024 &&& 1163 = 1024) hκ
  have k1 : Sub 1163 κ := Sub.trans (by decide : 1163 &&& 1163 = 1163) hκ
  unfold State.qciMeter
  repeat' first
    | with_reducible assumption
    | with_reducible apply State.setMeter_keeps k0
    | with_reducible apply State.qciDrop_keeps k1
    | with_reducible apply ite_keeps
    | with_reducible apply ite_fst_keeps
    | dsimp -simprocs only
    | dsimp only

theorem State.qci_keeps {κ : Nat} {σ : State} {s : State} {p : Nat} {b : Bytes} (hκ : Sub 1163 κ) (hσ : Keeps κ σ s) :
    Keeps κ σ (State.qci s p b).1 := by
  have k0 : Sub 1024 κ := Sub.trans (by decide : 1024 &&& 1163 = 1024) hκ
  have k1 : Sub 1163 κ := Sub.trans (by decide : 1163 &&& 1163 = 1163) hκ
  unfold State.qci
  repeat' first
    | with_reducible assumption
    | with_reducible apply State.setFiltCnt_keeps k0
    | with_reducible apply State.qciDrop_keeps k1
    | with_reducible apply State.onPrt_keeps k0
    | with_reducible apply State.qciMeter_keeps k1
    | with_reducible apply ite_keeps
    | with_reducible apply ite_fst_keeps
    | intro _
    | dsimp -simprocs only
    | dsimp only
    | split

theorem State.mirrorBad_keeps {κ : Nat} {σ : State} {s : State} {p o : Nat} {h : Option Nat} (hκ : Sub 139 κ) (hσ : Keeps κ σ s) :
    Keeps κ σ (State.mirrorBad s p o h) := by
  have k0 : Sub 2 κ := Sub.trans (by decide : 2 &&& 139 = 2) hκ
  have k1 : Sub 139 κ := Sub.trans (by decide : 139 &&& 139 = 139) hκ
  unfold State.mirrorBad
  repeat' first
    | with_reducible assumption
    | with_reducible apply State.count_keeps k0
    | with_reducible apply State.raise_keeps k1
    | with_reducible apply ite_keeps
    | with_reducible refine forEach_keeps (fun _ _ _ => ?_) ?_
    | split

theorem State.stompCut_keeps {κ : Nat} {σ : State} {s : State} {was : State} {e : Entry} (hκ : Sub 651 κ) (h_was : Keeps κ σ was) (hσ : Keeps κ σ s) :
    Keeps κ σ (State.stompCut s was e) := by
  have k0 : Sub 651 κ := Sub.trans (by decide : 651 &&& 651 = 651) hκ
  have k1 : Sub 139 κ := Sub.trans (by decide : 139 &&& 651 = 139) hκ
  unfold State.stompCut
  repeat' first
    | with_reducible assumption
    | with_reducible apply h_was
    | with_reducible apply State.cbApply_keeps k0
    | with_reducible apply State.mirrorBad_keeps k1
    | with_reducible apply State.sentStomped_keeps k1
    | with_reducible apply ite_keeps
    | with_reducible apply ite_fst_keeps
    | dsimp -simprocs only
    | dsimp only
    | split

theorem State.stompBad_keeps {κ : Nat} {σ : State} {s : State} {p : Nat} {b : Bytes} (hκ : Sub 1675 κ) (hσ : Keeps κ σ s) :
    Keeps κ σ (State.stompBad s p b) := by
  have k0 : Sub 1163 κ := Sub.trans (by decide : 1163 &&& 1675 = 1163) hκ
  have k1 : Sub 651 κ := Sub.trans (by decide : 651 &&& 1675 = 651) hκ
  unfold State.stompBad
  repeat' first
    | with_reducible assumption
    | with_reducible apply State.admitRx_keeps k0
    | with_reducible apply State.qci_keeps k0
    | with_reducible apply State.stompCut_keeps k1
    | with_reducible apply ite_keeps
    | with_reducible apply ite_fst_keeps
    | dsimp -simprocs only
    | dsimp only
    | split

theorem State.rxData_keeps {κ : Nat} {σ : State} {s : State} {p : Nat} {b : Bytes} (hκ : Sub 31457247 κ) (hσ : Keeps κ σ s) :
    Keeps κ σ (State.rxData s p b) := by
  have k0 : Sub 31457247 κ := Sub.trans (by decide : 31457247 &&& 31457247 = 31457247) hκ
  have k1 : Sub 8390351 κ := Sub.trans (by decide : 8390351 &&& 31457247 = 8390351) hκ
  have k2 : Sub 2 κ := Sub.trans (by decide : 2 &&& 31457247 = 2) hκ
  have k3 : Sub 1163 κ := Sub.trans (by decide : 1163 &&& 31457247 = 1163) hκ
  have k4 : Sub 1739 κ := Sub.trans (by decide : 1739 &&& 31457247 = 1739) hκ
  unfold State.rxData
  repeat' first
    | with_reducible assumption
    | with_reducible apply State.beaconFrame_keeps k0
    | with_reducible apply State.chainFrame_keeps k1
    | with_reducible apply State.chainDrop_keeps k2
    | with_reducible apply State.admitRx_keeps k3
    | with_reducible apply State.qci_keeps k3
    | with_reducible apply State.swIngress_keeps k4
    | with_reducible apply ite_keeps
    | with_reducible apply ite_fst_keeps
    | dsimp -simprocs only
    | dsimp only
    | split

theorem State.rxService_keeps {κ : Nat} {σ : State} {s : State} {b : Bytes} (hκ : Sub 25692111 κ) (hσ : Keeps κ σ s) :
    Keeps κ σ (State.rxService s b) := by
  have k0 : Sub 1163 κ := Sub.trans (by decide : 1163 &&& 25692111 = 1163) hκ
  have k1 : Sub 1600 κ := Sub.trans (by decide : 1600 &&& 25692111 = 1600) hκ
  have k2 : Sub 8914639 κ := Sub.trans (by decide : 8914639 &&& 25692111 = 8914639) hκ
  have k3 : Sub 16777679 κ := Sub.trans (by decide : 16777679 &&& 25692111 = 16777679) hκ
  have k4 : Sub 2 κ := Sub.trans (by decide : 2 &&& 25692111 = 2) hκ
  unfold State.rxService
  repeat' first
    | with_reducible assumption
    | with_reducible apply State.admitRx_keeps k0
    | with_reducible apply State.arpAnswer_keeps k1
    | with_reducible apply State.igFrame_keeps k2
    | with_reducible apply State.finishBuf_keeps k3
    | with_reducible apply State.count_keeps k4
    | with_reducible apply ite_keeps
    | with_reducible apply ite_fst_keeps
    | dsimp -simprocs only
    | dsimp only
    | split

theorem State.rxControl_keeps {κ : Nat} {σ : State} {s : State} {p : Nat} {b : Bytes} (hκ : Sub 1163 κ) (hσ : Keeps κ σ s) :
    Keeps κ σ (State.rxControl s p b) := by
  have k0 : Sub 2 κ := Sub.trans (by decide : 2 &&& 1163 = 2) hκ
  have k1 : Sub 1163 κ := Sub.trans (by decide : 1163 &&& 1163 = 1163) hκ
  unfold State.rxControl
  repeat' first
    | with_reducible assumption
    | with_reducible apply State.count_keeps k0
    | with_reducible apply State.rxPause_keeps k1
    | with_reducible apply State.rxPfc_keeps k1
    | with_reducible apply ite_keeps
    | dsimp -simprocs only
    | dsimp only

theorem State.rxGood_keeps {κ : Nat} {σ : State} {s : State} {p : Nat} {b : Bytes} (hκ : Sub 31457247 κ) (hσ : Keeps κ σ s) :
    Keeps κ σ (State.rxGood s p b) := by
  have k0 : Sub 2 κ := Sub.trans (by decide : 2 &&& 31457247 = 2) hκ
  have k1 : Sub 185483 κ := Sub.trans (by decide : 185483 &&& 31457247 = 185483) hκ
  have k2 : Sub 31457247 κ := Sub.trans (by decide : 31457247 &&& 31457247 = 31457247) hκ
  have k3 : Sub 1163 κ := Sub.trans (by decide : 1163 &&& 31457247 = 1163) hκ
  have k4 : Sub 25692111 κ := Sub.trans (by decide : 25692111 &&& 31457247 = 25692111) hκ
  unfold State.rxGood
  repeat' first
    | with_reducible assumption
    | with_reducible apply State.count_keeps k0
    | with_reducible apply State.wakeCheck_keeps k1
    | with_reducible apply State.laneFrame_keeps k2
    | with_reducible apply State.rxControl_keeps k3
    | with_reducible apply State.rxService_keeps k4
    | with_reducible apply State.rxData_keeps k2
    | with_reducible apply ite_keeps
    | dsimp -simprocs only
    | dsimp only

theorem State.rxBadFcs_keeps {κ : Nat} {σ : State} {s : State} {p : Nat} {b : Bytes} (hκ : Sub 1675 κ) (hσ : Keeps κ σ s) :
    Keeps κ σ (State.rxBadFcs s p b) := by
  have k0 : Sub 2 κ := Sub.trans (by decide : 2 &&& 1675 = 2) hκ
  have k1 : Sub 1675 κ := Sub.trans (by decide : 1675 &&& 1675 = 1675) hκ
  unfold State.rxBadFcs
  repeat' first
    | with_reducible assumption
    | with_reducible apply State.count_keeps k0
    | with_reducible apply State.stompBad_keeps k1
    | with_reducible apply ite_keeps
    | dsimp -simprocs only
    | dsimp only

theorem State.rxFrame_keeps {κ : Nat} {σ : State} {s : State} {p : Nat} {f : RxFrame} (hκ : Sub 31457247 κ) (hσ : Keeps κ σ s) :
    Keeps κ σ (State.rxFrame s p f) := by
  have k0 : Sub 2 κ := Sub.trans (by decide : 2 &&& 31457247 = 2) hκ
  have k1 : Sub 1675 κ := Sub.trans (by decide : 1675 &&& 31457247 = 1675) hκ
  have k2 : Sub 31457247 κ := Sub.trans (by decide : 31457247 &&& 31457247 = 31457247) hκ
  unfold State.rxFrame
  repeat' first
    | with_reducible assumption
    | with_reducible apply State.count_keeps k0
    | with_reducible apply State.stompBad_keeps k1
    | with_reducible apply State.rxBadFcs_keeps k1
    | with_reducible apply State.rxGood_keeps k2
    | with_reducible apply ite_keeps
    | dsimp -simprocs only
    | dsimp only

theorem State.verified_keeps {κ : Nat} {σ : State} {s : State} {p : Nat} (hκ : Sub 139 κ) (hσ : Keeps κ σ s) :
    Keeps κ σ (State.verified s p) := by
  have k0 : Sub 1 κ := Sub.trans (by decide : 1 &&& 139 = 1) hκ
  have k1 : Sub 139 κ := Sub.trans (by decide : 139 &&& 139 = 139) hκ
  unfold State.verified
  repeat' first
    | with_reducible assumption
    | with_reducible apply State.put_keeps k0
    | with_reducible apply State.raise_keeps k1
    | with_reducible apply ite_keeps

theorem execFrameReceive_keeps {κ : Nat} {σ : State} {port : Nat} {f : RxFrame} {s : State} (hκ : Sub 31457247 κ) (hσ : Keeps κ σ s) :
    NextKeeps κ σ (execFrameReceive port f s) := by
  have k0 : Sub 31457247 κ := Sub.trans (by decide : 31457247 &&& 31457247 = 31457247) hκ
  have k1 : Sub 8 κ := Sub.trans (by decide : 8 &&& 31457247 = 8) hκ
  have k2 : Sub 139 κ := Sub.trans (by decide : 139 &&& 31457247 = 139) hκ
  have k3 : Sub 2 κ := Sub.trans (by decide : 2 &&& 31457247 = 2) hκ
  have k4 : Sub 1675 κ := Sub.trans (by decide : 1675 &&& 31457247 = 1675) hκ
  unfold execFrameReceive
  repeat' first
    | with_reducible assumption
    | with_reducible apply next_keeps
    | with_reducible apply ite_next_keeps
    | with_reducible apply State.rxFrame_keeps k0
    | with_reducible apply State.emit_keeps k1
    | with_reducible apply State.verified_keeps k2
    | with_reducible apply State.count_keeps k3
    | with_reducible apply State.stompBad_keeps k4
    | with_reducible apply State.linkLost_keeps k4
    | with_reducible apply ite_keeps
    | split

end Sys2Proof.Machine
end

