-- ==== Sys2Proof/Laws/KeepsStitch.lean ====
section
/-! SUPPORT. What each operation of Machine/Stitch may do to State. -/
namespace Sys2Proof.Machine

theorem State.nextStitch_keeps {κ : Nat} {σ : State} {s : State} {d : Desc} (hκ : Sub 28914655 κ) (hσ : Keeps κ σ s) :
    Keeps κ σ (State.nextStitch s d) := by
  have k0 : Sub 16777679 κ := Sub.trans (by decide : 16777679 &&& 28914655 = 16777679) hκ
  have k1 : Sub 16778191 κ := Sub.trans (by decide : 16778191 &&& 28914655 = 16778191) hκ
  have k2 : Sub 16785871 κ := Sub.trans (by decide : 16785871 &&& 28914655 = 16785871) hκ
  have k3 : Sub 18874831 κ := Sub.trans (by decide : 18874831 &&& 28914655 = 18874831) hκ
  have k4 : Sub 17371615 κ := Sub.trans (by decide : 17371615 &&& 28914655 = 17371615) hκ
  have k5 : Sub 16777695 κ := Sub.trans (by decide : 16777695 &&& 28914655 = 16777695) hκ
  have k6 : Sub 17826271 κ := Sub.trans (by decide : 17826271 &&& 28914655 = 17826271) hκ
  have k7 : Sub 25166287 κ := Sub.trans (by decide : 25166287 &&& 28914655 = 25166287) hκ
  unfold State.nextStitch
  repeat' first
    | with_reducible assumption
    | with_reducible apply State.scrubStitch_keeps k0
    | with_reducible apply State.fillStitch_keeps k0
    | with_reducible apply State.fdbFlush_keeps k1
    | with_reducible apply State.chimeLoad_keeps k2
    | with_reducible apply State.mapStitch_keeps k3
    | with_reducible apply State.coStore_keeps k4
    | with_reducible apply State.testSweep_keeps k5
    | with_reducible apply State.encStitch_keeps k6
    | with_reducible apply State.booStitch_keeps k7
    | with_reducible apply State.stitched_keeps k0
    | split

theorem execStitch_keeps {κ : Nat} {σ : State} {r : Nat} {last : Bool} {s : State} (hκ : Sub 28914655 κ) (hσ : Keeps κ σ s) :
    NextKeeps κ σ (execStitch r last s) := by
  have k0 : Sub 128 κ := Sub.trans (by decide : 128 &&& 28914655 = 128) hκ
  have k1 : Sub 28914655 κ := Sub.trans (by decide : 28914655 &&& 28914655 = 28914655) hκ
  unfold execStitch
  repeat' first
    | with_reducible assumption
    | with_reducible apply next_keeps
    | with_reducible apply ite_next_keeps
    | with_reducible apply State.servedNow_keeps k0
    | with_reducible apply State.nextStitch_keeps k1
    | with_reducible apply State.updDesc_keeps k0
    | with_reducible apply ite_keeps
    | intro _
    | dsimp -simprocs only
    | dsimp only
    | split

end Sys2Proof.Machine
end

