-- ==== Sys2Proof/Laws/KeepsTick.lean ====
section
/-! SUPPORT. What each operation of Machine/Tick may do to State. -/
namespace Sys2Proof.Machine

theorem State.fire_keeps {κ : Nat} {σ : State} {n : Nat} {late : Bool} {s : State} (hκ : Sub 21194907 κ) (hσ : Keeps κ σ s) :
    Keeps κ σ (State.fire n late s) := by
  have k0 : Sub 2048 κ := Sub.trans (by decide : 2048 &&& 21194907 = 2048) hκ
  have k1 : Sub 139 κ := Sub.trans (by decide : 139 &&& 21194907 = 139) hκ
  have k2 : Sub 1 κ := Sub.trans (by decide : 1 &&& 21194907 = 1) hκ
  have k3 : Sub 16801947 κ := Sub.trans (by decide : 16801947 &&& 21194907 = 16801947) hκ
  have k4 : Sub 196763 κ := Sub.trans (by decide : 196763 &&& 21194907 = 196763) hκ
  have k5 : Sub 65536 κ := Sub.trans (by decide : 65536 &&& 21194907 = 65536) hκ
  have k6 : Sub 4194304 κ := Sub.trans (by decide : 4194304 &&& 21194907 = 4194304) hκ
  unfold State.fire
  repeat' first
    | with_reducible assumption
    | with_reducible apply State.onTim_keeps k0
    | with_reducible apply State.raiseTrigger_keeps k1
    | with_reducible apply State.put_keeps k2
    | with_reducible apply State.raise_keeps k1
    | with_reducible apply State.pinFire_keeps k0
    | with_reducible apply State.mediaTie_keeps k0
    | with_reducible apply State.blockStart_keeps k3
    | with_reducible apply State.sampleBank_keeps k4
    | with_reducible apply State.pwmFrame_keeps k5
    | with_reducible apply State.setSio_keeps k6
    | with_reducible apply ite_keeps
    | with_reducible refine forEach_keeps (fun _ _ _ => ?_) ?_
    | intro _
    | dsimp -simprocs only
    | dsimp only

theorem State.trgTick_keeps {κ : Nat} {σ : State} {k : Tick} {n : Nat} {s : State} (hκ : Sub 21194907 κ) (hσ : Keeps κ σ s) :
    Keeps κ σ (State.trgTick k n s) := by
  have k0 : Sub 21194907 κ := Sub.trans (by decide : 21194907 &&& 21194907 = 21194907) hκ
  unfold State.trgTick
  repeat' first
    | with_reducible assumption
    | with_reducible apply State.fire_keeps k0
    | with_reducible apply ite_keeps

theorem State.trgDrop_keeps {κ : Nat} {σ : State} {prev n : Nat} {s : State} (hκ : Sub 139 κ) (hσ : Keeps κ σ s) :
    Keeps κ σ (State.trgDrop prev n s) := by
  have k0 : Sub 1 κ := Sub.trans (by decide : 1 &&& 139 = 1) hκ
  have k1 : Sub 139 κ := Sub.trans (by decide : 139 &&& 139 = 139) hκ
  unfold State.trgDrop
  repeat' first
    | with_reducible assumption
    | with_reducible apply State.put_keeps k0
    | with_reducible apply State.raise_keeps k1
    | with_reducible apply ite_keeps

theorem State.applyStep_keeps {κ : Nat} {σ : State} {s : State} (hκ : Sub 3723 κ) (hσ : Keeps κ σ s) :
    Keeps κ σ (State.applyStep s) := by
  have k0 : Sub 2048 κ := Sub.trans (by decide : 2048 &&& 3723 = 2048) hκ
  have k1 : Sub 1 κ := Sub.trans (by decide : 1 &&& 3723 = 1) hκ
  have k2 : Sub 139 κ := Sub.trans (by decide : 139 &&& 3723 = 139) hκ
  have k3 : Sub 1675 κ := Sub.trans (by decide : 1675 &&& 3723 = 1675) hκ
  have k4 : Sub 2187 κ := Sub.trans (by decide : 2187 &&& 3723 = 2187) hκ
  unfold State.applyStep
  repeat' first
    | with_reducible assumption
    | with_reducible apply State.onTim_keeps k0
    | with_reducible apply State.put_keeps k1
    | with_reducible apply State.putNow_keeps k1
    | with_reducible apply State.raise_keeps k2
    | with_reducible apply State.gatesStepped_keeps k3
    | with_reducible apply State.trgDrop_keeps k2
    | with_reducible apply State.mediaMove_keeps k4
    | with_reducible apply State.mark_keeps k0
    | with_reducible apply ite_keeps
    | with_reducible refine forEach_keeps (fun _ _ _ => ?_) ?_
    | intro _
    | dsimp -simprocs only
    | dsimp only
    | split

theorem State.countTime_keeps {κ : Nat} {σ : State} {s : State} (hκ : Sub 33554431 κ) (hσ : Keeps κ σ s) :
    Keeps κ σ (State.countTime s) := by
  have k0 : Sub 2048 κ := Sub.trans (by decide : 2048 &&& 33554431 = 2048) hκ
  have k1 : Sub 33554431 κ := Sub.trans (by decide : 33554431 &&& 33554431 = 33554431) hκ
  have k2 : Sub 1 κ := Sub.trans (by decide : 1 &&& 33554431 = 1) hκ
  have k3 : Sub 139 κ := Sub.trans (by decide : 139 &&& 33554431 = 139) hκ
  unfold State.countTime
  repeat' first
    | with_reducible assumption
    | with_reducible apply State.onTim_keeps k0
    | with_reducible apply State.tick_keeps k1
    | with_reducible apply State.putNow_keeps k2
    | with_reducible apply State.mark_keeps k0
    | with_reducible apply State.raise_keeps k3
    | with_reducible apply ite_keeps
    | intro _
    | dsimp -simprocs only
    | dsimp only

theorem State.recurs_keeps {κ : Nat} {σ : State} {s : State} (hκ : Sub 31457247 κ) (hσ : Keeps κ σ s) :
    Keeps κ σ (State.recurs s) := by
  have k0 : Sub 131227 κ := Sub.trans (by decide : 131227 &&& 31457247 = 131227) hκ
  have k1 : Sub 31457247 κ := Sub.trans (by decide : 31457247 &&& 31457247 = 31457247) hκ
  unfold State.recurs
  repeat' first
    | with_reducible assumption
    | with_reducible apply State.monitor_keeps k0
    | with_reducible apply State.pairTick_keeps k1
    | with_reducible apply ite_keeps
    | dsimp -simprocs only
    | dsimp only

theorem State.tick_keeps {κ : Nat} {σ : State} {s : State} (hκ : Sub 33554431 κ) (hσ : Keeps κ σ s) :
    Keeps κ σ (State.tick s) := by
  have k0 : Sub 32 κ := Sub.trans (by decide : 32 &&& 33554431 = 32) hκ
  have k1 : Sub 33554399 κ := Sub.trans (by decide : 33554399 &&& 33554431 = 33554399) hκ
  have k2 : Sub 31457247 κ := Sub.trans (by decide : 31457247 &&& 33554431 = 31457247) hκ
  have k3 : Sub 2048 κ := Sub.trans (by decide : 2048 &&& 33554431 = 2048) hκ
  have k4 : Sub 33554431 κ := Sub.trans (by decide : 33554431 &&& 33554431 = 33554431) hκ
  have k5 : Sub 21194907 κ := Sub.trans (by decide : 21194907 &&& 33554431 = 21194907) hκ
  have k6 : Sub 3723 κ := Sub.trans (by decide : 3723 &&& 33554431 = 3723) hκ
  unfold State.tick
  repeat' first
    | with_reducible assumption
    | with_reducible apply State.setNow_keeps k0
    | with_reducible apply State.sleepDue_keeps k1
    | with_reducible apply State.recurs_keeps k2
    | with_reducible apply State.onTim_keeps k3
    | with_reducible apply State.countTime_keeps k4
    | with_reducible apply State.trgTick_keeps k5
    | with_reducible apply State.applyStep_keeps k6
    | with_reducible apply ite_keeps
    | with_reducible refine forEach_keeps (fun _ _ _ => ?_) ?_
    | intro _
    | dsimp -simprocs only
    | dsimp only
    | split

theorem execLatticeLock_keeps {κ : Nat} {σ : State} {s : State} (hκ : Sub 2065 κ) (hσ : Keeps κ σ s) :
    NextKeeps κ σ (execLatticeLock s) := by
  have k0 : Sub 2065 κ := Sub.trans (by decide : 2065 &&& 2065 = 2065) hκ
  unfold execLatticeLock
  repeat' first
    | with_reducible assumption
    | with_reducible apply next_keeps
    | with_reducible apply ite_next_keeps
    | with_reducible apply State.latticeLock_keeps k0

theorem execTimWrap_keeps {κ : Nat} {σ : State} {s : State} (hκ : Sub 33554431 κ) (hσ : Keeps κ σ s) :
    NextKeeps κ σ (execTimWrap s) := by
  have k0 : Sub 33554431 κ := Sub.trans (by decide : 33554431 &&& 33554431 = 33554431) hκ
  unfold execTimWrap
  repeat' first
    | with_reducible assumption
    | with_reducible apply next_keeps
    | with_reducible apply ite_next_keeps
    | with_reducible apply State.tick_keeps k0
    | with_reducible apply ite_keeps

theorem execTimIncApply_keeps {κ : Nat} {σ : State} {s : State} (hκ : Sub 33554431 κ) (hσ : Keeps κ σ s) :
    NextKeeps κ σ (execTimIncApply s) := by
  have k0 : Sub 33554431 κ := Sub.trans (by decide : 33554431 &&& 33554431 = 33554431) hκ
  unfold execTimIncApply
  repeat' first
    | with_reducible assumption
    | with_reducible apply next_keeps
    | with_reducible apply ite_next_keeps
    | with_reducible apply State.tick_keeps k0
    | with_reducible apply ite_keeps

theorem execTimeStepApply_keeps {κ : Nat} {σ : State} {s : State} (hκ : Sub 33554431 κ) (hσ : Keeps κ σ s) :
    NextKeeps κ σ (execTimeStepApply s) := by
  have k0 : Sub 33554431 κ := Sub.trans (by decide : 33554431 &&& 33554431 = 33554431) hκ
  unfold execTimeStepApply
  repeat' first
    | with_reducible assumption
    | with_reducible apply next_keeps
    | with_reducible apply ite_next_keeps
    | with_reducible apply State.tick_keeps k0
    | with_reducible apply ite_keeps

theorem execTriggerFire_keeps {κ : Nat} {σ : State} {n : Nat} {s : State} (hκ : Sub 33554431 κ) (hσ : Keeps κ σ s) :
    NextKeeps κ σ (execTriggerFire n s) := by
  have k0 : Sub 33554431 κ := Sub.trans (by decide : 33554431 &&& 33554431 = 33554431) hκ
  unfold execTriggerFire
  repeat' first
    | with_reducible assumption
    | with_reducible apply next_keeps
    | with_reducible apply ite_next_keeps
    | with_reducible apply State.tick_keeps k0
    | with_reducible apply ite_keeps
    | dsimp -simprocs only
    | dsimp only

end Sys2Proof.Machine
end

