-- ==== Sys2Proof/Laws/Exec.lean ====
section
/-! SUPPORT. What every command keeps: canonical forms and the queue, outputs only added, and the parts outside those
it may change. -/
namespace Sys2Proof.Machine

/-- The bit of a part in the masks of Keeps. -/
def Part.bit (p : Part) : Nat :=
  match p with
  | .regs => 0
  | .cnts => 1
  | .mem => 2
  | .out => 3
  | .fresh => 4
  | .now => 5
  | .fab => 6
  | .rnd => 7
  | .que => 8
  | .swc => 9
  | .prt => 10
  | .tim => 11
  | .wak => 12
  | .aud => 13
  | .cht => 14
  | .cor => 15
  | .ldc => 16
  | .gau => 17
  | .can => 18
  | .pow => 19
  | .enc => 20
  | .gwy => 21
  | .sio => 22
  | .boo => 23
  | .pai => 24

/-- The mask that holds the bits of these parts. -/
def partsMask : List Part → Nat
  | [] => 0
  | p :: l => 2 ^ p.bit ||| partsMask l

theorem Part.bit_inj (p q : Part) (h : p.bit = q.bit) : p = q := by
  cases p <;> cases q <;> first | rfl | exact absurd h (by decide)

theorem partsMask_testBit (p : Part) (l : List Part) (h : p ∉ l) : (partsMask l).testBit p.bit = false := by
  induction l with
  | nil => exact Nat.zero_testBit _
  | cons q l ih =>
    rw [List.mem_cons, not_or] at h
    unfold partsMask
    rw [Nat.testBit_or, Nat.testBit_two_pow, ih h.2, decide_eq_false fun e => h.1 (Part.bit_inj _ _ e.symm)]
    rfl

theorem Sub.refl (a : Nat) : Sub a a := Nat.and_self a

theorem sub_of {a b : Nat} (h : b = a) : Sub a b := by rw [h]; exact Nat.and_self a

/-- A part that the mask of an operation does not hold is the same after it. -/
theorem Keeps.part {l : List Part} {s t : State} (k : Keeps (partsMask l) s t) (p : Part) (h : p ∉ l) : p.same s t := by
  have b := partsMask_testBit p l h
  cases p
  · exact k.regs b
  · exact k.cnts b
  · exact k.mem b
  · exact k.out b
  · exact k.fresh b
  · exact k.now b
  · exact k.fab b
  · exact k.rnd b
  · exact k.que b
  · exact k.swc b
  · exact k.prt b
  · exact k.tim b
  · exact k.wak b
  · exact k.aud b
  · exact k.cht b
  · exact k.cor b
  · exact k.ldc b
  · exact k.gau b
  · exact k.can b
  · exact k.pow b
  · exact k.enc b
  · exact k.gwy b
  · exact k.sio b
  · exact k.boo b
  · exact k.pai b

theorem exec_keeps (c : Instr) (s : State) : NextKeeps (partsMask (changes c)) s (exec c s) := by
  cases c with
  | registerWrite pid addr val => exact execRegisterWrite_keeps (κ := partsMask (changes (.registerWrite pid addr val))) (sub_of rfl) (Keeps.refl _ _)
  | evtClear pid addr val coincide => exact execEvtClear_keeps (κ := partsMask (changes (.evtClear pid addr val coincide))) (sub_of rfl) (Keeps.refl _ _)
  | evtEnWrite pid addr val => exact execEvtEnWrite_keeps (κ := partsMask (changes (.evtEnWrite pid addr val))) (sub_of rfl) (Keeps.refl _ _)
  | counterReadLow pid addr => exact execCounterReadLow_keeps (κ := partsMask (changes (.counterReadLow pid addr))) (sub_of rfl) (Keeps.refl _ _)
  | memoryAccess a => exact execMemoryAccess_keeps (κ := partsMask (changes (.memoryAccess a))) (sub_of rfl) (Keeps.refl _ _)
  | tagGrant m => exact execTagGrant_keeps (κ := partsMask (changes (.tagGrant m))) (sub_of rfl) (Keeps.refl _ _)
  | readTimeout tag => exact execReadTimeout_keeps (κ := partsMask (changes (.readTimeout tag))) (sub_of rfl) (Keeps.refl _ _)
  | lateResponse tag => exact execLateResponse_keeps (κ := partsMask (changes (.lateResponse tag))) (sub_of rfl) (Keeps.refl _ _)
  | guardSelect pid val => exact execGuardSelect_keeps (κ := partsMask (changes (.guardSelect pid val))) (_pid := pid) (sub_of rfl) (Keeps.refl _ _)
  | guardCommit pid val => exact execGuardCommit_keeps (κ := partsMask (changes (.guardCommit pid val))) (_pid := pid) (sub_of rfl) (Keeps.refl _ _)
  | effectRangeWrite pid n which val => exact execEffectRangeWrite_keeps (κ := partsMask (changes (.effectRangeWrite pid n which val))) (_pid := pid) (sub_of rfl) (Keeps.refl _ _)
  | patrolStitch upsets => exact execPatrolStitch_keeps (κ := partsMask (changes (.patrolStitch upsets))) (sub_of rfl) (Keeps.refl _ _)
  | scrubRegion r => exact execScrubRegion_keeps (κ := partsMask (changes (.scrubRegion r))) (sub_of rfl) (Keeps.refl _ _)
  | fillRegion r => exact execFillRegion_keeps (κ := partsMask (changes (.fillRegion r))) (sub_of rfl) (Keeps.refl _ _)
  | levelChangeDone => exact execLevelChangeDone_keeps (κ := partsMask (changes (.levelChangeDone))) (sub_of rfl) (Keeps.refl _ _)
  | barBadAccess write bar off => exact execBarBadAccess_keeps (κ := partsMask (changes (.barBadAccess write bar off))) (sub_of rfl) (Keeps.refl _ _)
  | doorbellCmd pid n val => exact execDoorbellCmd_keeps (κ := partsMask (changes (.doorbellCmd pid n val))) (sub_of rfl) (Keeps.refl _ _)
  | doorbellCpl pid n val => exact execDoorbellCpl_keeps (κ := partsMask (changes (.doorbellCpl pid n val))) (sub_of rfl) (Keeps.refl _ _)
  | roundEnable pid n val => exact execRoundEnable_keeps (κ := partsMask (changes (.roundEnable pid n val))) (sub_of rfl) (Keeps.refl _ _)
  | roundDisable pid n val => exact execRoundDisable_keeps (κ := partsMask (changes (.roundDisable pid n val))) (sub_of rfl) (Keeps.refl _ _)
  | roundBaseWrite pid n which val => exact execRoundBaseWrite_keeps (κ := partsMask (changes (.roundBaseWrite pid n which val))) (sub_of rfl) (Keeps.refl _ _)
  | runaheadFetch n upsets => exact execRunaheadFetch_keeps (κ := partsMask (changes (.runaheadFetch n upsets))) (sub_of rfl) (Keeps.refl _ _)
  | descriptorStart n upsets => exact execDescriptorStart_keeps (κ := partsMask (changes (.descriptorStart n upsets))) (sub_of rfl) (Keeps.refl _ _)
  | stitch r last => exact execStitch_keeps (κ := partsMask (changes (.stitch r last))) (sub_of rfl) (Keeps.refl _ _)
  | completionWrite r => exact execCompletionWrite_keeps (κ := partsMask (changes (.completionWrite r))) (sub_of rfl) (Keeps.refl _ _)
  | cancel pid val => exact execCancel_keeps (κ := partsMask (changes (.cancel pid val))) (sub_of rfl) (Keeps.refl _ _)
  | moderationTimer r => exact execModerationTimer_keeps (κ := partsMask (changes (.moderationTimer r))) (sub_of rfl) (Keeps.refl _ _)
  | msixUnmask vec => exact execMsixUnmask_keeps (κ := partsMask (changes (.msixUnmask vec))) (sub_of rfl) (Keeps.refl _ _)
  | hostCompletion tag c => exact execHostCompletion_keeps (κ := partsMask (changes (.hostCompletion tag c))) (sub_of rfl) (Keeps.refl _ _)
  | hostCplTimeout tag => exact execHostCplTimeout_keeps (κ := partsMask (changes (.hostCplTimeout tag))) (sub_of rfl) (Keeps.refl _ _)
  | functionLevelReset => exact execFunctionLevelReset_keeps (κ := partsMask (changes (.functionLevelReset))) (sub_of rfl) (Keeps.refl _ _)
  | pcieLinkDown => exact execPcieLinkDown_keeps (κ := partsMask (changes (.pcieLinkDown))) (sub_of rfl) (Keeps.refl _ _)
  | pcieLinkUp speed width mps mrrs host => exact execPcieLinkUp_keeps (κ := partsMask (changes (.pcieLinkUp speed width mps mrrs host))) (sub_of rfl) (Keeps.refl _ _)
  | frameReceive port f => exact execFrameReceive_keeps (κ := partsMask (changes (.frameReceive port f))) (sub_of rfl) (Keeps.refl _ _)
  | pauseReceive port dst quanta => exact execPauseReceive_keeps (κ := partsMask (changes (.pauseReceive port dst quanta))) (sub_of rfl) (Keeps.refl _ _)
  | pfcReceive port vec times => exact execPfcReceive_keeps (κ := partsMask (changes (.pfcReceive port vec times))) (sub_of rfl) (Keeps.refl _ _)
  | pauseExpiry port cls => exact execPauseExpiry_keeps (κ := partsMask (changes (.pauseExpiry port cls))) (sub_of rfl) (Keeps.refl _ _)
  | pauseRefresh port => exact execPauseRefresh_keeps (κ := partsMask (changes (.pauseRefresh port))) (sub_of rfl) (Keeps.refl _ _)
  | matching => exact execMatching_keeps (κ := partsMask (changes (.matching))) (sub_of rfl) (Keeps.refl _ _)
  | txFrameStart port upsets => exact execTxFrameStart_keeps (κ := partsMask (changes (.txFrameStart port upsets))) (sub_of rfl) (Keeps.refl _ _)
  | txFrameEnd port upsets => exact execTxFrameEnd_keeps (κ := partsMask (changes (.txFrameEnd port upsets))) (sub_of rfl) (Keeps.refl _ _)
  | mcResidueTimeout => exact execMcResidueTimeout_keeps (κ := partsMask (changes (.mcResidueTimeout))) (sub_of rfl) (Keeps.refl _ _)
  | ageExpiry idx => exact execAgeExpiry_keeps (κ := partsMask (changes (.ageExpiry idx))) (sub_of rfl) (Keeps.refl _ _)
  | cbReseqTimeout h => exact execCbReseqTimeout_keeps (κ := partsMask (changes (.cbReseqTimeout h))) (sub_of rfl) (Keeps.refl _ _)
  | cbResetTimeout h => exact execCbResetTimeout_keeps (κ := partsMask (changes (.cbResetTimeout h))) (sub_of rfl) (Keeps.refl _ _)
  | holdExpire p => exact execHoldExpire_keeps (κ := partsMask (changes (.holdExpire p))) (sub_of rfl) (Keeps.refl _ _)
  | plyContribution k => exact execPlyContribution_keeps (κ := partsMask (changes (.plyContribution k))) (sub_of rfl) (Keeps.refl _ _)
  | plyDeadline acc => exact execPlyDeadline_keeps (κ := partsMask (changes (.plyDeadline acc))) (sub_of rfl) (Keeps.refl _ _)
  | fdbAdd r => exact execFdbAdd_keeps (κ := partsMask (changes (.fdbAdd r))) (sub_of rfl) (Keeps.refl _ _)
  | fdbDel r => exact execFdbDel_keeps (κ := partsMask (changes (.fdbDel r))) (sub_of rfl) (Keeps.refl _ _)
  | fdbLookup r => exact execFdbLookup_keeps (κ := partsMask (changes (.fdbLookup r))) (sub_of rfl) (Keeps.refl _ _)
  | fdbFlush r => exact execFdbFlush_keeps (κ := partsMask (changes (.fdbFlush r))) (sub_of rfl) (Keeps.refl _ _)
  | vlanSet r => exact execVlanSet_keeps (κ := partsMask (changes (.vlanSet r))) (sub_of rfl) (Keeps.refl _ _)
  | swcStreamSet r => exact execSwcStreamSet_keeps (κ := partsMask (changes (.swcStreamSet r))) (sub_of rfl) (Keeps.refl _ _)
  | streamClear r => exact execStreamClear_keeps (κ := partsMask (changes (.streamClear r))) (sub_of rfl) (Keeps.refl _ _)
  | frameSend r => exact execFrameSend_keeps (κ := partsMask (changes (.frameSend r))) (sub_of rfl) (Keeps.refl _ _)
  | frameRecv r => exact execFrameRecv_keeps (κ := partsMask (changes (.frameRecv r))) (sub_of rfl) (Keeps.refl _ _)
  | macEnable pid port val => exact execMacEnable_keeps (κ := partsMask (changes (.macEnable pid port val))) (_pid := pid) (sub_of rfl) (Keeps.refl _ _)
  | macDisable pid port val => exact execMacDisable_keeps (κ := partsMask (changes (.macDisable pid port val))) (_pid := pid) (sub_of rfl) (Keeps.refl _ _)
  | anegComplete port good => exact execAnegComplete_keeps (κ := partsMask (changes (.anegComplete port good))) (sub_of rfl) (Keeps.refl _ _)
  | anegRestartTimeout port => exact execAnegRestartTimeout_keeps (κ := partsMask (changes (.anegRestartTimeout port))) (sub_of rfl) (Keeps.refl _ _)
  | linkLockTimer port => exact execLinkLockTimer_keeps (κ := partsMask (changes (.linkLockTimer port))) (sub_of rfl) (Keeps.refl _ _)
  | linkLoss port => exact execLinkLoss_keeps (κ := partsMask (changes (.linkLoss port))) (sub_of rfl) (Keeps.refl _ _)
  | gateChange port => exact execGateChange_keeps (κ := partsMask (changes (.gateChange port))) (sub_of rfl) (Keeps.refl _ _)
  | gateSwitch port => exact execGateSwitch_keeps (κ := partsMask (changes (.gateSwitch port))) (sub_of rfl) (Keeps.refl _ _)
  | gateEnable pid port val => exact execGateEnable_keeps (κ := partsMask (changes (.gateEnable pid port val))) (_pid := pid) (sub_of rfl) (Keeps.refl _ _)
  | preemptVerifyTimeout port => exact execPreemptVerifyTimeout_keeps (κ := partsMask (changes (.preemptVerifyTimeout port))) (sub_of rfl) (Keeps.refl _ _)
  | qciGateChange g => exact execQciGateChange_keeps (κ := partsMask (changes (.qciGateChange g))) (sub_of rfl) (Keeps.refl _ _)
  | gclLoad r => exact execGclLoad_keeps (κ := partsMask (changes (.gclLoad r))) (sub_of rfl) (Keeps.refl _ _)
  | qciFilterSet r => exact execQciFilterSet_keeps (κ := partsMask (changes (.qciFilterSet r))) (sub_of rfl) (Keeps.refl _ _)
  | qciGateLoad r => exact execQciGateLoad_keeps (κ := partsMask (changes (.qciGateLoad r))) (sub_of rfl) (Keeps.refl _ _)
  | qciMeterSet r => exact execQciMeterSet_keeps (κ := partsMask (changes (.qciMeterSet r))) (sub_of rfl) (Keeps.refl _ _)
  | qciRead r => exact execQciRead_keeps (κ := partsMask (changes (.qciRead r))) (sub_of rfl) (Keeps.refl _ _)
  | spSend r => exact execSpSend_keeps (κ := partsMask (changes (.spSend r))) (sub_of rfl) (Keeps.refl _ _)
  | spRecv r => exact execSpRecv_keeps (κ := partsMask (changes (.spRecv r))) (sub_of rfl) (Keeps.refl _ _)
  | latticeLock => exact execLatticeLock_keeps (κ := partsMask (changes (.latticeLock))) (sub_of rfl) (Keeps.refl _ _)
  | timWrap => exact execTimWrap_keeps (κ := partsMask (changes (.timWrap))) (sub_of rfl) (Keeps.refl _ _)
  | timIncWrite pid val => exact execTimIncWrite_keeps (κ := partsMask (changes (.timIncWrite pid val))) (_pid := pid) (sub_of rfl) (Keeps.refl _ _)
  | timIncApply => exact execTimIncApply_keeps (κ := partsMask (changes (.timIncApply))) (sub_of rfl) (Keeps.refl _ _)
  | timeStepWrite pid val => exact execTimeStepWrite_keeps (κ := partsMask (changes (.timeStepWrite pid val))) (_pid := pid) (sub_of rfl) (Keeps.refl _ _)
  | timeStepApply => exact execTimeStepApply_keeps (κ := partsMask (changes (.timeStepApply))) (sub_of rfl) (Keeps.refl _ _)
  | xtalLost => exact execXtalLost_keeps (κ := partsMask (changes (.xtalLost))) (sub_of rfl) (Keeps.refl _ _)
  | xtalRestored => exact execXtalRestored_keeps (κ := partsMask (changes (.xtalRestored))) (sub_of rfl) (Keeps.refl _ _)
  | txtsEnqueue port => exact execTxtsEnqueue_keeps (κ := partsMask (changes (.txtsEnqueue port))) (sub_of rfl) (Keeps.refl _ _)
  | triggerFire n => exact execTriggerFire_keeps (κ := partsMask (changes (.triggerFire n))) (sub_of rfl) (Keeps.refl _ _)
  | trgArm r => exact execTrgArm_keeps (κ := partsMask (changes (.trgArm r))) (sub_of rfl) (Keeps.refl _ _)
  | trgDisarm r => exact execTrgDisarm_keeps (κ := partsMask (changes (.trgDisarm r))) (sub_of rfl) (Keeps.refl _ _)
  | txtsRead r => exact execTxtsRead_keeps (κ := partsMask (changes (.txtsRead r))) (sub_of rfl) (Keeps.refl _ _)
  | skipClr pid n val => exact execSkipClr_keeps (κ := partsMask (changes (.skipClr pid n val))) (sub_of rfl) (Keeps.refl _ _)
  | pinPulseEnd k => exact execPinPulseEnd_keeps (κ := partsMask (changes (.pinPulseEnd k))) (sub_of rfl) (Keeps.refl _ _)
  | ppsEdge rising => exact execPpsEdge_keeps (κ := partsMask (changes (.ppsEdge rising))) (sub_of rfl) (Keeps.refl _ _)
  | ppsCapture => exact execPpsCapture_keeps (κ := partsMask (changes (.ppsCapture))) (sub_of rfl) (Keeps.refl _ _)
  | mediaLock => exact execMediaLock_keeps (κ := partsMask (changes (.mediaLock))) (sub_of rfl) (Keeps.refl _ _)
  | nodeProcess c samples => exact execNodeProcess_keeps (κ := partsMask (changes (.nodeProcess c samples))) (sub_of rfl) (Keeps.refl _ _)
  | edgeFrameArrival k => exact execEdgeFrameArrival_keeps (κ := partsMask (changes (.edgeFrameArrival k))) (sub_of rfl) (Keeps.refl _ _)
  | edgeDeadline edge copy => exact execEdgeDeadline_keeps (κ := partsMask (changes (.edgeDeadline edge copy))) (sub_of rfl) (Keeps.refl _ _)
  | sinkDeadline kind unit chan => exact execSinkDeadline_keeps (κ := partsMask (changes (.sinkDeadline kind unit chan))) (sub_of rfl) (Keeps.refl _ _)
  | audioStreamReceive => exact execAudioStreamReceive_keeps (κ := partsMask (changes (.audioStreamReceive))) (sub_of rfl) (Keeps.refl _ _)
  | biasFault n => exact execBiasFault_keeps (κ := partsMask (changes (.biasFault n))) (sub_of rfl) (Keeps.refl _ _)
  | audioLinkLoss => exact execAudioLinkLoss_keeps (κ := partsMask (changes (.audioLinkLoss))) (sub_of rfl) (Keeps.refl _ _)
  | patternLoad r => exact execPatternLoad_keeps (κ := partsMask (changes (.patternLoad r))) (sub_of rfl) (Keeps.refl _ _)
  | nodeSet r => exact execNodeSet_keeps (κ := partsMask (changes (.nodeSet r))) (sub_of rfl) (Keeps.refl _ _)
  | nodeRead r => exact execNodeRead_keeps (κ := partsMask (changes (.nodeRead r))) (sub_of rfl) (Keeps.refl _ _)
  | chimeLoad r => exact execChimeLoad_keeps (κ := partsMask (changes (.chimeLoad r))) (sub_of rfl) (Keeps.refl _ _)
  | audStreamSet r => exact execAudStreamSet_keeps (κ := partsMask (changes (.audStreamSet r))) (sub_of rfl) (Keeps.refl _ _)
  | chartReplan => exact execChartReplan_keeps (κ := partsMask (changes (.chartReplan))) (sub_of rfl) (Keeps.refl _ _)
  | shadowDeadlineCheck => exact execShadowDeadlineCheck_keeps (κ := partsMask (changes (.shadowDeadlineCheck))) (sub_of rfl) (Keeps.refl _ _)
  | placementSwitch => exact execPlacementSwitch_keeps (κ := partsMask (changes (.placementSwitch))) (sub_of rfl) (Keeps.refl _ _)
  | engineDeadline e => exact execEngineDeadline_keeps (κ := partsMask (changes (.engineDeadline e))) (sub_of rfl) (Keeps.refl _ _)
  | engineFail e => exact execEngineFail_keeps (κ := partsMask (changes (.engineFail e))) (sub_of rfl) (Keeps.refl _ _)
  | engineBack e => exact execEngineBack_keeps (κ := partsMask (changes (.engineBack e))) (sub_of rfl) (Keeps.refl _ _)
  | engineUnexclude pid val => exact execEngineUnexclude_keeps (κ := partsMask (changes (.engineUnexclude pid val))) (sub_of rfl) (Keeps.refl _ _)
  | placeRead r => exact execPlaceRead_keeps (κ := partsMask (changes (.placeRead r))) (sub_of rfl) (Keeps.refl _ _)
  | patternCheck r => exact execPatternCheck_keeps (κ := partsMask (changes (.patternCheck r))) (sub_of rfl) (Keeps.refl _ _)
  | carveHint r => exact execCarveHint_keeps (κ := partsMask (changes (.carveHint r))) (sub_of rfl) (Keeps.refl _ _)
  | canEnable n val => exact execCanEnable_keeps (κ := partsMask (changes (.canEnable n val))) (sub_of rfl) (Keeps.refl _ _)
  | canDisable n val => exact execCanDisable_keeps (κ := partsMask (changes (.canDisable n val))) (sub_of rfl) (Keeps.refl _ _)
  | canFrameReceived n f ago => exact execCanFrameReceived_keeps (κ := partsMask (changes (.canFrameReceived n f ago))) (sub_of rfl) (Keeps.refl _ _)
  | canProtocolException n fmt => exact execCanProtocolException_keeps (κ := partsMask (changes (.canProtocolException n fmt))) (sub_of rfl) (Keeps.refl _ _)
  | canTxStart n => exact execCanTxStart_keeps (κ := partsMask (changes (.canTxStart n))) (sub_of rfl) (Keeps.refl _ _)
  | canArbLost n => exact execCanArbLost_keeps (κ := partsMask (changes (.canArbLost n))) (sub_of rfl) (Keeps.refl _ _)
  | canTxDone n => exact execCanTxDone_keeps (κ := partsMask (changes (.canTxDone n))) (sub_of rfl) (Keeps.refl _ _)
  | canTxError n e => exact execCanTxError_keeps (κ := partsMask (changes (.canTxError n e))) (sub_of rfl) (Keeps.refl _ _)
  | canRxError n e => exact execCanRxError_keeps (κ := partsMask (changes (.canRxError n e))) (sub_of rfl) (Keeps.refl _ _)
  | canBusoffRecovered n => exact execCanBusoffRecovered_keeps (κ := partsMask (changes (.canBusoffRecovered n))) (sub_of rfl) (Keeps.refl _ _)
  | canRecover n val => exact execCanRecover_keeps (κ := partsMask (changes (.canRecover n val))) (sub_of rfl) (Keeps.refl _ _)
  | canRelease n val => exact execCanRelease_keeps (κ := partsMask (changes (.canRelease n val))) (sub_of rfl) (Keeps.refl _ _)
  | canSwapDetect n => exact execCanSwapDetect_keeps (κ := partsMask (changes (.canSwapDetect n))) (sub_of rfl) (Keeps.refl _ _)
  | canDominantTimeout n => exact execCanDominantTimeout_keeps (κ := partsMask (changes (.canDominantTimeout n))) (sub_of rfl) (Keeps.refl _ _)
  | txSend r => exact execTxSend_keeps (κ := partsMask (changes (.txSend r))) (sub_of rfl) (Keeps.refl _ _)
  | rxRead r => exact execRxRead_keeps (κ := partsMask (changes (.rxRead r))) (sub_of rfl) (Keeps.refl _ _)
  | filterLoad r => exact execFilterLoad_keeps (κ := partsMask (changes (.filterLoad r))) (sub_of rfl) (Keeps.refl _ _)
  | gatewayEthFrame => exact execGatewayEthFrame_keeps (κ := partsMask (changes (.gatewayEthFrame))) (sub_of rfl) (Keeps.refl _ _)
  | rateHoldRelease rule => exact execRateHoldRelease_keeps (κ := partsMask (changes (.rateHoldRelease rule))) (sub_of rfl) (Keeps.refl _ _)
  | mapTimeout k => exact execMapTimeout_keeps (κ := partsMask (changes (.mapTimeout k))) (sub_of rfl) (Keeps.refl _ _)
  | pduPeriodicSend k => exact execPduPeriodicSend_keeps (κ := partsMask (changes (.pduPeriodicSend k))) (sub_of rfl) (Keeps.refl _ _)
  | ntscfBatchTimeout t => exact execNtscfBatchTimeout_keeps (κ := partsMask (changes (.ntscfBatchTimeout t))) (sub_of rfl) (Keeps.refl _ _)
  | gwRecvHoldTimeout r => exact execGwRecvHoldTimeout_keeps (κ := partsMask (changes (.gwRecvHoldTimeout r))) (sub_of rfl) (Keeps.refl _ _)
  | ruleSet r => exact execRuleSet_keeps (κ := partsMask (changes (.ruleSet r))) (sub_of rfl) (Keeps.refl _ _)
  | mapLoad r => exact execMapLoad_keeps (κ := partsMask (changes (.mapLoad r))) (sub_of rfl) (Keeps.refl _ _)
  | pduSet r => exact execPduSet_keeps (κ := partsMask (changes (.pduSet r))) (sub_of rfl) (Keeps.refl _ _)
  | templateSet r => exact execTemplateSet_keeps (κ := partsMask (changes (.templateSet r))) (sub_of rfl) (Keeps.refl _ _)
  | freshSet r => exact execFreshSet_keeps (κ := partsMask (changes (.freshSet r))) (sub_of rfl) (Keeps.refl _ _)
  | gwRecv r => exact execGwRecv_keeps (κ := partsMask (changes (.gwRecv r))) (sub_of rfl) (Keeps.refl _ _)
  | ruleRead r => exact execRuleRead_keeps (κ := partsMask (changes (.ruleRead r))) (sub_of rfl) (Keeps.refl _ _)
  | sleep r => exact execSleep_keeps (κ := partsMask (changes (.sleep r))) (sub_of rfl) (Keeps.refl _ _)
  | sleepDrainEnd => exact execSleepDrainEnd_keeps (κ := partsMask (changes (.sleepDrainEnd))) (sub_of rfl) (Keeps.refl _ _)
  | sleepDrainTimeout => exact execSleepDrainTimeout_keeps (κ := partsMask (changes (.sleepDrainTimeout))) (sub_of rfl) (Keeps.refl _ _)
  | wakeEvent src => exact execWakeEvent_keeps (κ := partsMask (changes (.wakeEvent src))) (sub_of rfl) (Keeps.refl _ _)
  | wakeTimerExpiry => exact execWakeTimerExpiry_keeps (κ := partsMask (changes (.wakeTimerExpiry))) (sub_of rfl) (Keeps.refl _ _)
  | offWaitExpiry => exact execOffWaitExpiry_keeps (κ := partsMask (changes (.offWaitExpiry))) (sub_of rfl) (Keeps.refl _ _)
  | trcvStateWrite pid n val => exact execTrcvStateWrite_keeps (κ := partsMask (changes (.trcvStateWrite pid n val))) (sub_of rfl) (Keeps.refl _ _)
  | trcvWake n sign => exact execTrcvWake_keeps (κ := partsMask (changes (.trcvWake n sign))) (sub_of rfl) (Keeps.refl _ _)
  | wakeValidityEnd src => exact execWakeValidityEnd_keeps (κ := partsMask (changes (.wakeValidityEnd src))) (sub_of rfl) (Keeps.refl _ _)
  | wakeConfirm pid val => exact execWakeConfirm_keeps (κ := partsMask (changes (.wakeConfirm pid val))) (sub_of rfl) (Keeps.refl _ _)
  | backoffEnd src => exact execBackoffEnd_keeps (κ := partsMask (changes (.backoffEnd src))) (sub_of rfl) (Keeps.refl _ _)
  | backoffClear pid val => exact execBackoffClear_keeps (κ := partsMask (changes (.backoffClear pid val))) (sub_of rfl) (Keeps.refl _ _)
  | vaonRise => exact execVaonRise_keeps (κ := partsMask (changes (.vaonRise))) (sub_of rfl) (Keeps.refl _ _)
  | vaonLoss => exact execVaonLoss_keeps (κ := partsMask (changes (.vaonLoss))) (sub_of rfl) (Keeps.refl _ _)
  | chSet r => exact execChSet_keeps (κ := partsMask (changes (.chSet r))) (sub_of rfl) (Keeps.refl _ _)
  | chConfig r => exact execChConfig_keeps (κ := partsMask (changes (.chConfig r))) (sub_of rfl) (Keeps.refl _ _)
  | latchClr r => exact execLatchClr_keeps (κ := partsMask (changes (.latchClr r))) (sub_of rfl) (Keeps.refl _ _)
  | wdArm r => exact execWdArm_keeps (κ := partsMask (changes (.wdArm r))) (sub_of rfl) (Keeps.refl _ _)
  | coStore r => exact execCoStore_keeps (κ := partsMask (changes (.coStore r))) (sub_of rfl) (Keeps.refl _ _)
  | testSweep r => exact execTestSweep_keeps (κ := partsMask (changes (.testSweep r))) (sub_of rfl) (Keeps.refl _ _)
  | inrushEnd ch => exact execInrushEnd_keeps (κ := partsMask (changes (.inrushEnd ch))) (sub_of rfl) (Keeps.refl _ _)
  | limTimeExpiry ch => exact execLimTimeExpiry_keeps (κ := partsMask (changes (.limTimeExpiry ch))) (sub_of rfl) (Keeps.refl _ _)
  | fastTrip ch mA => exact execFastTrip_keeps (κ := partsMask (changes (.fastTrip ch mA))) (sub_of rfl) (Keeps.refl _ _)
  | thermalTrip ch tj tc => exact execThermalTrip_keeps (κ := partsMask (changes (.thermalTrip ch tj tc))) (sub_of rfl) (Keeps.refl _ _)
  | restartDue ch tj tc => exact execRestartDue_keeps (κ := partsMask (changes (.restartDue ch tj tc))) (sub_of rfl) (Keeps.refl _ _)
  | retryReset ch => exact execRetryReset_keeps (κ := partsMask (changes (.retryReset ch))) (sub_of rfl) (Keeps.refl _ _)
  | bankFold b mA => exact execBankFold_keeps (κ := partsMask (changes (.bankFold b mA))) (sub_of rfl) (Keeps.refl _ _)
  | bankFoldEnd b mA => exact execBankFoldEnd_keeps (κ := partsMask (changes (.bankFoldEnd b mA))) (sub_of rfl) (Keeps.refl _ _)
  | bankOverload b mA => exact execBankOverload_keeps (κ := partsMask (changes (.bankOverload b mA))) (sub_of rfl) (Keeps.refl _ _)
  | blankingEnd b => exact execBlankingEnd_keeps (κ := partsMask (changes (.blankingEnd b))) (sub_of rfl) (Keeps.refl _ _)
  | bankUndervoltage b mV => exact execBankUndervoltage_keeps (κ := partsMask (changes (.bankUndervoltage b mV))) (sub_of rfl) (Keeps.refl _ _)
  | bankUvRecover b mV => exact execBankUvRecover_keeps (κ := partsMask (changes (.bankUvRecover b mV))) (sub_of rfl) (Keeps.refl _ _)
  | powerDiePowerUp b mV => exact execPowerDiePowerUp_keeps (κ := partsMask (changes (.powerDiePowerUp b mV))) (sub_of rfl) (Keeps.refl _ _)
  | powerDieUnpowered b mV => exact execPowerDieUnpowered_keeps (κ := partsMask (changes (.powerDieUnpowered b mV))) (sub_of rfl) (Keeps.refl _ _)
  | outputDiagDebounce ch which present => exact execOutputDiagDebounce_keeps (κ := partsMask (changes (.outputDiagDebounce ch which present))) (sub_of rfl) (Keeps.refl _ _)
  | pwmFrameStart b => exact execPwmFrameStart_keeps (κ := partsMask (changes (.pwmFrameStart b))) (sub_of rfl) (Keeps.refl _ _)
  | keepAliveSend b whole answered => exact execKeepAliveSend_keeps (κ := partsMask (changes (.keepAliveSend b whole answered))) (sub_of rfl) (Keeps.refl _ _)
  | dieWatchdogExpiry b => exact execDieWatchdogExpiry_keeps (κ := partsMask (changes (.dieWatchdogExpiry b))) (sub_of rfl) (Keeps.refl _ _)
  | ldcLinkLost b => exact execLdcLinkLost_keeps (κ := partsMask (changes (.ldcLinkLost b))) (sub_of rfl) (Keeps.refl _ _)
  | ldcLinkRestored b => exact execLdcLinkRestored_keeps (κ := partsMask (changes (.ldcLinkRestored b))) (sub_of rfl) (Keeps.refl _ _)
  | ldcShedWrite pid val => exact execLdcShedWrite_keeps (κ := partsMask (changes (.ldcShedWrite pid val))) (sub_of rfl) (Keeps.refl _ _)
  | serialCharReceived n ch ok ago => exact execSerialCharReceived_keeps (κ := partsMask (changes (.serialCharReceived n ch ok ago))) (sub_of rfl) (Keeps.refl _ _)
  | serialGapTimeout n => exact execSerialGapTimeout_keeps (κ := partsMask (changes (.serialGapTimeout n))) (sub_of rfl) (Keeps.refl _ _)
  | serialTxStart n => exact execSerialTxStart_keeps (κ := partsMask (changes (.serialTxStart n))) (sub_of rfl) (Keeps.refl _ _)
  | serialCharSent n heard => exact execSerialCharSent_keeps (κ := partsMask (changes (.serialCharSent n heard))) (sub_of rfl) (Keeps.refl _ _)
  | polarityDecide n mV => exact execPolarityDecide_keeps (κ := partsMask (changes (.polarityDecide n mV))) (sub_of rfl) (Keeps.refl _ _)
  | inputSample g xs => exact execInputSample_keeps (κ := partsMask (changes (.inputSample g xs))) (sub_of rfl) (Keeps.refl _ _)
  | serSend r => exact execSerSend_keeps (κ := partsMask (changes (.serSend r))) (sub_of rfl) (Keeps.refl _ _)
  | serRecv r => exact execSerRecv_keeps (κ := partsMask (changes (.serRecv r))) (sub_of rfl) (Keeps.refl _ _)
  | dinRead r => exact execDinRead_keeps (κ := partsMask (changes (.dinRead r))) (sub_of rfl) (Keeps.refl _ _)
  | modeSet r => exact execModeSet_keeps (κ := partsMask (changes (.modeSet r))) (sub_of rfl) (Keeps.refl _ _)
  | gaugeEvaluate => exact execGaugeEvaluate_keeps (κ := partsMask (changes (.gaugeEvaluate))) (sub_of rfl) (Keeps.refl _ _)
  | sampleGap b => exact execSampleGap_keeps (κ := partsMask (changes (.sampleGap b))) (sub_of rfl) (Keeps.refl _ _)
  | gaugeLatch pid val => exact execGaugeLatch_keeps (κ := partsMask (changes (.gaugeLatch pid val))) (sub_of rfl) (Keeps.refl _ _)
  | windowBoundary k => exact execWindowBoundary_keeps (κ := partsMask (changes (.windowBoundary k))) (sub_of rfl) (Keeps.refl _ _)
  | scheduleTrigger k => exact execScheduleTrigger_keeps (κ := partsMask (changes (.scheduleTrigger k))) (sub_of rfl) (Keeps.refl _ _)
  | partitionKick pid p => exact execPartitionKick_keeps (κ := partsMask (changes (.partitionKick pid p))) (sub_of rfl) (Keeps.refl _ _)
  | partitionWdExpiry p => exact execPartitionWdExpiry_keeps (κ := partsMask (changes (.partitionWdExpiry p))) (sub_of rfl) (Keeps.refl _ _)
  | lockstepMismatch pair => exact execLockstepMismatch_keeps (κ := partsMask (changes (.lockstepMismatch pair))) (sub_of rfl) (Keeps.refl _ _)
  | schedLoad r => exact execSchedLoad_keeps (κ := partsMask (changes (.schedLoad r))) (sub_of rfl) (Keeps.refl _ _)
  | partRestart r => exact execPartRestart_keeps (κ := partsMask (changes (.partRestart r))) (sub_of rfl) (Keeps.refl _ _)
  | mbxEnable pid n val => exact execMbxEnable_keeps (κ := partsMask (changes (.mbxEnable pid n val))) (sub_of rfl) (Keeps.refl _ _)
  | mbxSlotWrite pid n w val => exact execMbxSlotWrite_keeps (κ := partsMask (changes (.mbxSlotWrite pid n w val))) (sub_of rfl) (Keeps.refl _ _)
  | mbxDoorbell pid n val => exact execMbxDoorbell_keeps (κ := partsMask (changes (.mbxDoorbell pid n val))) (sub_of rfl) (Keeps.refl _ _)
  | mbxTake pid n val => exact execMbxTake_keeps (κ := partsMask (changes (.mbxTake pid n val))) (sub_of rfl) (Keeps.refl _ _)
  | mbxTimeout n => exact execMbxTimeout_keeps (κ := partsMask (changes (.mbxTimeout n))) (sub_of rfl) (Keeps.refl _ _)
  | mbxAccessDeny pid n write => exact execMbxAccessDeny_keeps (κ := partsMask (changes (.mbxAccessDeny pid n write))) (sub_of rfl) (Keeps.refl _ _)
  | queueEnable pid n val => exact execQueueEnable_keeps (κ := partsMask (changes (.queueEnable pid n val))) (sub_of rfl) (Keeps.refl _ _)
  | queueDisable pid n val => exact execQueueDisable_keeps (κ := partsMask (changes (.queueDisable pid n val))) (sub_of rfl) (Keeps.refl _ _)
  | queuePush src n item => exact execQueuePush_keeps (κ := partsMask (changes (.queuePush src n item))) (sub_of rfl) (Keeps.refl _ _)
  | queueHeldPushDone n k => exact execQueueHeldPushDone_keeps (κ := partsMask (changes (.queueHeldPushDone n k))) (sub_of rfl) (Keeps.refl _ _)
  | queuePop src n => exact execQueuePop_keeps (κ := partsMask (changes (.queuePop src n))) (sub_of rfl) (Keeps.refl _ _)
  | queuePeek src n => exact execQueuePeek_keeps (κ := partsMask (changes (.queuePeek src n))) (sub_of rfl) (Keeps.refl _ _)
  | semAcquire pid n => exact execSemAcquire_keeps (κ := partsMask (changes (.semAcquire pid n))) (sub_of rfl) (Keeps.refl _ _)
  | semRelease pid n val => exact execSemRelease_keeps (κ := partsMask (changes (.semRelease pid n val))) (sub_of rfl) (Keeps.refl _ _)
  | semReclaim pid val => exact execSemReclaim_keeps (κ := partsMask (changes (.semReclaim pid val))) (sub_of rfl) (Keeps.refl _ _)
  | keyGenerate r healthy => exact execKeyGenerate_keeps (κ := partsMask (changes (.keyGenerate r healthy))) (sub_of rfl) (Keeps.refl _ _)
  | keyDerive r => exact execKeyDerive_keeps (κ := partsMask (changes (.keyDerive r))) (sub_of rfl) (Keeps.refl _ _)
  | keyImport r => exact execKeyImport_keeps (κ := partsMask (changes (.keyImport r))) (sub_of rfl) (Keeps.refl _ _)
  | keyErase r => exact execKeyErase_keeps (κ := partsMask (changes (.keyErase r))) (sub_of rfl) (Keeps.refl _ _)
  | pubkeyRead r => exact execPubkeyRead_keeps (κ := partsMask (changes (.pubkeyRead r))) (sub_of rfl) (Keeps.refl _ _)
  | sign r => exact execSign_keeps (κ := partsMask (changes (.sign r))) (sub_of rfl) (Keeps.refl _ _)
  | verify r => exact execVerify_keeps (κ := partsMask (changes (.verify r))) (sub_of rfl) (Keeps.refl _ _)
  | cmac r => exact execCmac_keeps (κ := partsMask (changes (.cmac r))) (sub_of rfl) (Keeps.refl _ _)
  | gcmSeal r => exact execGcmSeal_keeps (κ := partsMask (changes (.gcmSeal r))) (sub_of rfl) (Keeps.refl _ _)
  | gcmOpen r => exact execGcmOpen_keeps (κ := partsMask (changes (.gcmOpen r))) (sub_of rfl) (Keeps.refl _ _)
  | attest r => exact execAttest_keeps (κ := partsMask (changes (.attest r))) (sub_of rfl) (Keeps.refl _ _)
  | debugChallenge r => exact execDebugChallenge_keeps (κ := partsMask (changes (.debugChallenge r))) (sub_of rfl) (Keeps.refl _ _)
  | debugOpen r => exact execDebugOpen_keeps (κ := partsMask (changes (.debugOpen r))) (sub_of rfl) (Keeps.refl _ _)
  | enrol r healthy => exact execEnrol_keeps (κ := partsMask (changes (.enrol r healthy))) (sub_of rfl) (Keeps.refl _ _)
  | revoke r => exact execRevoke_keeps (κ := partsMask (changes (.revoke r))) (sub_of rfl) (Keeps.refl _ _)
  | custkeySet r => exact execCustkeySet_keeps (κ := partsMask (changes (.custkeySet r))) (sub_of rfl) (Keeps.refl _ _)
  | challengeExpiry => exact execChallengeExpiry_keeps (κ := partsMask (changes (.challengeExpiry))) (sub_of rfl) (Keeps.refl _ _)
  | tamperAssert src torn => exact execTamperAssert_keeps (κ := partsMask (changes (.tamperAssert src torn))) (sub_of rfl) (Keeps.refl _ _)
  | coldCastOn rank updMode => exact execColdCastOn_keeps (κ := partsMask (changes (.coldCastOn rank updMode))) (sub_of rfl) (Keeps.refl _ _)
  | trialExpiry => exact execTrialExpiry_keeps (κ := partsMask (changes (.trialExpiry))) (sub_of rfl) (Keeps.refl _ _)
  | booConfirm pid val => exact execBooConfirm_keeps (κ := partsMask (changes (.booConfirm pid val))) (sub_of rfl) (Keeps.refl _ _)
  | igionArp frame => exact execIgionArp_keeps (κ := partsMask (changes (.igionArp frame))) (sub_of rfl) (Keeps.refl _ _)
  | igionHello frame => exact execIgionHello_keeps (κ := partsMask (changes (.igionHello frame))) (sub_of rfl) (Keeps.refl _ _)
  | igionOpen frame => exact execIgionOpen_keeps (κ := partsMask (changes (.igionOpen frame))) (sub_of rfl) (Keeps.refl _ _)
  | igionData frame => exact execIgionData_keeps (κ := partsMask (changes (.igionData frame))) (sub_of rfl) (Keeps.refl _ _)
  | igionCommit frame => exact execIgionCommit_keeps (κ := partsMask (changes (.igionCommit frame))) (sub_of rfl) (Keeps.refl _ _)
  | igionAbort frame => exact execIgionAbort_keeps (κ := partsMask (changes (.igionAbort frame))) (sub_of rfl) (Keeps.refl _ _)
  | igionReset frame => exact execIgionReset_keeps (κ := partsMask (changes (.igionReset frame))) (sub_of rfl) (Keeps.refl _ _)
  | igionSessionTimeout => exact execIgionSessionTimeout_keeps (κ := partsMask (changes (.igionSessionTimeout))) (sub_of rfl) (Keeps.refl _ _)
  | chainStart p frame => exact execChainStart_keeps (κ := partsMask (changes (.chainStart p frame))) (sub_of rfl) (Keeps.refl _ _)
  | chainBlock p frame => exact execChainBlock_keeps (κ := partsMask (changes (.chainBlock p frame))) (sub_of rfl) (Keeps.refl _ _)
  | chainEnd p frame => exact execChainEnd_keeps (κ := partsMask (changes (.chainEnd p frame))) (sub_of rfl) (Keeps.refl _ _)
  | chainAck p frame => exact execChainAck_keeps (κ := partsMask (changes (.chainAck p frame))) (sub_of rfl) (Keeps.refl _ _)
  | chainRepeatTimeout p => exact execChainRepeatTimeout_keeps (κ := partsMask (changes (.chainRepeatTimeout p))) (sub_of rfl) (Keeps.refl _ _)
  | chainRxTimeout => exact execChainRxTimeout_keeps (κ := partsMask (changes (.chainRxTimeout))) (sub_of rfl) (Keeps.refl _ _)
  | stageErase r => exact execStageErase_keeps (κ := partsMask (changes (.stageErase r))) (sub_of rfl) (Keeps.refl _ _)
  | configWrite r => exact execConfigWrite_keeps (κ := partsMask (changes (.configWrite r))) (sub_of rfl) (Keeps.refl _ _)
  | chainSend r => exact execChainSend_keeps (κ := partsMask (changes (.chainSend r))) (sub_of rfl) (Keeps.refl _ _)
  | pairEnable pid val => exact execPairEnable_keeps (κ := partsMask (changes (.pairEnable pid val))) (sub_of rfl) (Keeps.refl _ _)
  | pairDisable pid val => exact execPairDisable_keeps (κ := partsMask (changes (.pairDisable pid val))) (sub_of rfl) (Keeps.refl _ _)
  | heartbeatSend => exact execHeartbeatSend_keeps (κ := partsMask (changes (.heartbeatSend))) (sub_of rfl) (Keeps.refl _ _)
  | heartbeatReceive lane b => exact execHeartbeatReceive_keeps (κ := partsMask (changes (.heartbeatReceive lane b))) (sub_of rfl) (Keeps.refl _ _)
  | partnerDead => exact execPartnerDead_keeps (κ := partsMask (changes (.partnerDead))) (sub_of rfl) (Keeps.refl _ _)
  | startTimeout => exact execStartTimeout_keeps (κ := partsMask (changes (.startTimeout))) (sub_of rfl) (Keeps.refl _ _)
  | termReceive lane b => exact execTermReceive_keeps (κ := partsMask (changes (.termReceive lane b))) (sub_of rfl) (Keeps.refl _ _)
  | witnessTimeout => exact execWitnessTimeout_keeps (κ := partsMask (changes (.witnessTimeout))) (sub_of rfl) (Keeps.refl _ _)
  | beaconSend => exact execBeaconSend_keeps (κ := partsMask (changes (.beaconSend))) (sub_of rfl) (Keeps.refl _ _)
  | beaconReceive port b => exact execBeaconReceive_keeps (κ := partsMask (changes (.beaconReceive port b))) (sub_of rfl) (Keeps.refl _ _)
  | mirrorReceive lane b => exact execMirrorReceive_keeps (κ := partsMask (changes (.mirrorReceive lane b))) (sub_of rfl) (Keeps.refl _ _)
  | mirrorRetx seq => exact execMirrorRetx_keeps (κ := partsMask (changes (.mirrorRetx seq))) (sub_of rfl) (Keeps.refl _ _)
  | bridgeRequest lane b => exact execBridgeRequest_keeps (κ := partsMask (changes (.bridgeRequest lane b))) (sub_of rfl) (Keeps.refl _ _)
  | bridgeCompletion lane b => exact execBridgeCompletion_keeps (κ := partsMask (changes (.bridgeCompletion lane b))) (sub_of rfl) (Keeps.refl _ _)
  | bridgeTimeout id => exact execBridgeTimeout_keeps (κ := partsMask (changes (.bridgeTimeout id))) (sub_of rfl) (Keeps.refl _ _)
  | crossTimeout => exact execCrossTimeout_keeps (κ := partsMask (changes (.crossTimeout))) (sub_of rfl) (Keeps.refl _ _)
  | switch r => exact execSwitch_keeps (κ := partsMask (changes (.switch r))) (sub_of rfl) (Keeps.refl _ _)
  | funcRestart r => exact execFuncRestart_keeps (κ := partsMask (changes (.funcRestart r))) (sub_of rfl) (Keeps.refl _ _)
  | funcRestartDone fn => exact execFuncRestartDone_keeps (κ := partsMask (changes (.funcRestartDone fn))) (sub_of rfl) (Keeps.refl _ _)
  | warmReset r => exact execWarmReset_keeps (κ := partsMask (changes (.warmReset r))) (sub_of rfl) (Keeps.refl _ _)
  | powerCycle r => exact execPowerCycle_keeps (κ := partsMask (changes (.powerCycle r))) (sub_of rfl) (Keeps.refl _ _)
  | devResetWrite pid val => exact execDevResetWrite_keeps (κ := partsMask (changes (.devResetWrite pid val))) (sub_of rfl) (Keeps.refl _ _)
  | devPwrcycWrite pid val => exact execDevPwrcycWrite_keeps (κ := partsMask (changes (.devPwrcycWrite pid val))) (sub_of rfl) (Keeps.refl _ _)
  | resetNAssert => exact execResetNAssert_keeps (κ := partsMask (changes (.resetNAssert))) (sub_of rfl) (Keeps.refl _ _)
  | resetNRelease => exact execResetNRelease_keeps (κ := partsMask (changes (.resetNRelease))) (sub_of rfl) (Keeps.refl _ _)
  | warmResetBegin => exact execWarmResetBegin_keeps (κ := partsMask (changes (.warmResetBegin))) (sub_of rfl) (Keeps.refl _ _)
  | powerCycleBegin => exact execPowerCycleBegin_keeps (κ := partsMask (changes (.powerCycleBegin))) (sub_of rfl) (Keeps.refl _ _)
  | powerCycleEnd rank updMode => exact execPowerCycleEnd_keeps (κ := partsMask (changes (.powerCycleEnd rank updMode))) (sub_of rfl) (Keeps.refl _ _)
  | vlogLoss => exact execVlogLoss_keeps (κ := partsMask (changes (.vlogLoss))) (sub_of rfl) (Keeps.refl _ _)
  | mgmtWdExpiry => exact execMgmtWdExpiry_keeps (κ := partsMask (changes (.mgmtWdExpiry))) (sub_of rfl) (Keeps.refl _ _)
  | mgmtFault => exact execMgmtFault_keeps (κ := partsMask (changes (.mgmtFault))) (sub_of rfl) (Keeps.refl _ _)
  | hostKick pid _val => exact execHostKick_keeps (κ := partsMask (changes (.hostKick pid _val))) (_val := _val) (sub_of rfl) (Keeps.refl _ _)
  | hostWdExpiry => exact execHostWdExpiry_keeps (κ := partsMask (changes (.hostWdExpiry))) (sub_of rfl) (Keeps.refl _ _)
  | thermalPoll tj => exact execThermalPoll_keeps (κ := partsMask (changes (.thermalPoll tj))) (sub_of rfl) (Keeps.refl _ _)
  | flashOperationDone flash left => exact execFlashOperationDone_keeps (κ := partsMask (changes (.flashOperationDone flash left))) (sub_of rfl) (Keeps.refl _ _)
  | canBusIntegrated n => exact execCanBusIntegrated_keeps (κ := partsMask (changes (.canBusIntegrated n))) (sub_of rfl) (Keeps.refl _ _)
  | audioLinkRestored => exact execAudioLinkRestored_keeps (κ := partsMask (changes (.audioLinkRestored))) (sub_of rfl) (Keeps.refl _ _)

end Sys2Proof.Machine
end

