-- ==== Sys2Proof/Laws/Ops.lean ====
section
/-! SUPPORT. What the register, counter and output operations leave alone, and what reading a field after writing one
gives. -/
namespace Sys2Proof.Machine

@[simp] theorem State.wr_pending (s : State) (a : Nat) (v : Word) : (s.wr a v).pending = s.pending := (rfl)
@[simp] theorem State.wr_cnts (s : State) (a : Nat) (v : Word) : (s.wr a v).cnts = s.cnts := (rfl)
@[simp] theorem State.wr_mem (s : State) (a : Nat) (v : Word) : (s.wr a v).mem = s.mem := (rfl)
@[simp] theorem State.wr_out (s : State) (a : Nat) (v : Word) : (s.wr a v).out = s.out := (rfl)
@[simp] theorem State.wr_fresh (s : State) (a : Nat) (v : Word) : (s.wr a v).fresh = s.fresh := (rfl)
@[simp] theorem State.wr_now (s : State) (a : Nat) (v : Word) : (s.wr a v).now = s.now := (rfl)
@[simp] theorem State.wr_fab (s : State) (a : Nat) (v : Word) : (s.wr a v).fab = s.fab := (rfl)
@[simp] theorem State.wr_rnd (s : State) (a : Nat) (v : Word) : (s.wr a v).rnd = s.rnd := (rfl)
@[simp] theorem State.wr_que (s : State) (a : Nat) (v : Word) : (s.wr a v).que = s.que := (rfl)
@[simp] theorem State.wr_swc (s : State) (a : Nat) (v : Word) : (s.wr a v).swc = s.swc := (rfl)
@[simp] theorem State.wr_prt (s : State) (a : Nat) (v : Word) : (s.wr a v).prt = s.prt := (rfl)
@[simp] theorem State.wr_tim (s : State) (a : Nat) (v : Word) : (s.wr a v).tim = s.tim := (rfl)
@[simp] theorem State.wr_wak (s : State) (a : Nat) (v : Word) : (s.wr a v).wak = s.wak := (rfl)
@[simp] theorem State.wr_aud (s : State) (a : Nat) (v : Word) : (s.wr a v).aud = s.aud := (rfl)
@[simp] theorem State.wr_cht (s : State) (a : Nat) (v : Word) : (s.wr a v).cht = s.cht := (rfl)
@[simp] theorem State.wr_cor (s : State) (a : Nat) (v : Word) : (s.wr a v).cor = s.cor := (rfl)
@[simp] theorem State.wr_ldc (s : State) (a : Nat) (v : Word) : (s.wr a v).ldc = s.ldc := (rfl)
@[simp] theorem State.wr_gau (s : State) (a : Nat) (v : Word) : (s.wr a v).gau = s.gau := (rfl)
@[simp] theorem State.wr_can (s : State) (a : Nat) (v : Word) : (s.wr a v).can = s.can := (rfl)
@[simp] theorem State.wr_pow (s : State) (a : Nat) (v : Word) : (s.wr a v).pow = s.pow := (rfl)
@[simp] theorem State.wr_enc (s : State) (a : Nat) (v : Word) : (s.wr a v).enc = s.enc := (rfl)
@[simp] theorem State.wr_gwy (s : State) (a : Nat) (v : Word) : (s.wr a v).gwy = s.gwy := (rfl)
@[simp] theorem State.wr_sio (s : State) (a : Nat) (v : Word) : (s.wr a v).sio = s.sio := (rfl)
@[simp] theorem State.wr_boo (s : State) (a : Nat) (v : Word) : (s.wr a v).boo = s.boo := (rfl)
@[simp] theorem State.wr_pai (s : State) (a : Nat) (v : Word) : (s.wr a v).pai = s.pai := (rfl)

@[simp] theorem State.put_pending (s : State) (f : Fld) (v : Nat) : (s.put f v).pending = s.pending := (rfl)
@[simp] theorem State.put_cnts (s : State) (f : Fld) (v : Nat) : (s.put f v).cnts = s.cnts := (rfl)
@[simp] theorem State.put_mem (s : State) (f : Fld) (v : Nat) : (s.put f v).mem = s.mem := (rfl)
@[simp] theorem State.put_out (s : State) (f : Fld) (v : Nat) : (s.put f v).out = s.out := (rfl)
@[simp] theorem State.put_fresh (s : State) (f : Fld) (v : Nat) : (s.put f v).fresh = s.fresh := (rfl)
@[simp] theorem State.put_now (s : State) (f : Fld) (v : Nat) : (s.put f v).now = s.now := (rfl)
@[simp] theorem State.put_fab (s : State) (f : Fld) (v : Nat) : (s.put f v).fab = s.fab := (rfl)
@[simp] theorem State.put_rnd (s : State) (f : Fld) (v : Nat) : (s.put f v).rnd = s.rnd := (rfl)
@[simp] theorem State.put_que (s : State) (f : Fld) (v : Nat) : (s.put f v).que = s.que := (rfl)
@[simp] theorem State.put_swc (s : State) (f : Fld) (v : Nat) : (s.put f v).swc = s.swc := (rfl)
@[simp] theorem State.put_prt (s : State) (f : Fld) (v : Nat) : (s.put f v).prt = s.prt := (rfl)
@[simp] theorem State.put_tim (s : State) (f : Fld) (v : Nat) : (s.put f v).tim = s.tim := (rfl)
@[simp] theorem State.put_wak (s : State) (f : Fld) (v : Nat) : (s.put f v).wak = s.wak := (rfl)
@[simp] theorem State.put_aud (s : State) (f : Fld) (v : Nat) : (s.put f v).aud = s.aud := (rfl)
@[simp] theorem State.put_cht (s : State) (f : Fld) (v : Nat) : (s.put f v).cht = s.cht := (rfl)
@[simp] theorem State.put_cor (s : State) (f : Fld) (v : Nat) : (s.put f v).cor = s.cor := (rfl)
@[simp] theorem State.put_ldc (s : State) (f : Fld) (v : Nat) : (s.put f v).ldc = s.ldc := (rfl)
@[simp] theorem State.put_gau (s : State) (f : Fld) (v : Nat) : (s.put f v).gau = s.gau := (rfl)
@[simp] theorem State.put_can (s : State) (f : Fld) (v : Nat) : (s.put f v).can = s.can := (rfl)
@[simp] theorem State.put_pow (s : State) (f : Fld) (v : Nat) : (s.put f v).pow = s.pow := (rfl)
@[simp] theorem State.put_enc (s : State) (f : Fld) (v : Nat) : (s.put f v).enc = s.enc := (rfl)
@[simp] theorem State.put_gwy (s : State) (f : Fld) (v : Nat) : (s.put f v).gwy = s.gwy := (rfl)
@[simp] theorem State.put_sio (s : State) (f : Fld) (v : Nat) : (s.put f v).sio = s.sio := (rfl)
@[simp] theorem State.put_boo (s : State) (f : Fld) (v : Nat) : (s.put f v).boo = s.boo := (rfl)
@[simp] theorem State.put_pai (s : State) (f : Fld) (v : Nat) : (s.put f v).pai = s.pai := (rfl)

@[simp] theorem State.setCnt_pending (s : State) (a v : Nat) : (s.setCnt a v).pending = s.pending := (rfl)
@[simp] theorem State.setCnt_regs (s : State) (a v : Nat) : (s.setCnt a v).regs = s.regs := (rfl)
@[simp] theorem State.setCnt_mem (s : State) (a v : Nat) : (s.setCnt a v).mem = s.mem := (rfl)
@[simp] theorem State.setCnt_out (s : State) (a v : Nat) : (s.setCnt a v).out = s.out := (rfl)
@[simp] theorem State.setCnt_fresh (s : State) (a v : Nat) : (s.setCnt a v).fresh = s.fresh := (rfl)
@[simp] theorem State.setCnt_now (s : State) (a v : Nat) : (s.setCnt a v).now = s.now := (rfl)
@[simp] theorem State.setCnt_fab (s : State) (a v : Nat) : (s.setCnt a v).fab = s.fab := (rfl)
@[simp] theorem State.setCnt_rnd (s : State) (a v : Nat) : (s.setCnt a v).rnd = s.rnd := (rfl)
@[simp] theorem State.setCnt_que (s : State) (a v : Nat) : (s.setCnt a v).que = s.que := (rfl)
@[simp] theorem State.setCnt_swc (s : State) (a v : Nat) : (s.setCnt a v).swc = s.swc := (rfl)
@[simp] theorem State.setCnt_prt (s : State) (a v : Nat) : (s.setCnt a v).prt = s.prt := (rfl)
@[simp] theorem State.setCnt_tim (s : State) (a v : Nat) : (s.setCnt a v).tim = s.tim := (rfl)
@[simp] theorem State.setCnt_wak (s : State) (a v : Nat) : (s.setCnt a v).wak = s.wak := (rfl)
@[simp] theorem State.setCnt_aud (s : State) (a v : Nat) : (s.setCnt a v).aud = s.aud := (rfl)
@[simp] theorem State.setCnt_cht (s : State) (a v : Nat) : (s.setCnt a v).cht = s.cht := (rfl)
@[simp] theorem State.setCnt_cor (s : State) (a v : Nat) : (s.setCnt a v).cor = s.cor := (rfl)
@[simp] theorem State.setCnt_ldc (s : State) (a v : Nat) : (s.setCnt a v).ldc = s.ldc := (rfl)
@[simp] theorem State.setCnt_gau (s : State) (a v : Nat) : (s.setCnt a v).gau = s.gau := (rfl)
@[simp] theorem State.setCnt_can (s : State) (a v : Nat) : (s.setCnt a v).can = s.can := (rfl)
@[simp] theorem State.setCnt_pow (s : State) (a v : Nat) : (s.setCnt a v).pow = s.pow := (rfl)
@[simp] theorem State.setCnt_enc (s : State) (a v : Nat) : (s.setCnt a v).enc = s.enc := (rfl)
@[simp] theorem State.setCnt_gwy (s : State) (a v : Nat) : (s.setCnt a v).gwy = s.gwy := (rfl)
@[simp] theorem State.setCnt_sio (s : State) (a v : Nat) : (s.setCnt a v).sio = s.sio := (rfl)
@[simp] theorem State.setCnt_boo (s : State) (a v : Nat) : (s.setCnt a v).boo = s.boo := (rfl)
@[simp] theorem State.setCnt_pai (s : State) (a v : Nat) : (s.setCnt a v).pai = s.pai := (rfl)

@[simp] theorem State.count_pending (s : State) (a n : Nat) : (s.count a n).pending = s.pending := (rfl)
@[simp] theorem State.count_regs (s : State) (a n : Nat) : (s.count a n).regs = s.regs := (rfl)
@[simp] theorem State.count_mem (s : State) (a n : Nat) : (s.count a n).mem = s.mem := (rfl)
@[simp] theorem State.count_out (s : State) (a n : Nat) : (s.count a n).out = s.out := (rfl)
@[simp] theorem State.count_fresh (s : State) (a n : Nat) : (s.count a n).fresh = s.fresh := (rfl)
@[simp] theorem State.count_now (s : State) (a n : Nat) : (s.count a n).now = s.now := (rfl)
@[simp] theorem State.count_fab (s : State) (a n : Nat) : (s.count a n).fab = s.fab := (rfl)
@[simp] theorem State.count_rnd (s : State) (a n : Nat) : (s.count a n).rnd = s.rnd := (rfl)
@[simp] theorem State.count_que (s : State) (a n : Nat) : (s.count a n).que = s.que := (rfl)
@[simp] theorem State.count_swc (s : State) (a n : Nat) : (s.count a n).swc = s.swc := (rfl)
@[simp] theorem State.count_prt (s : State) (a n : Nat) : (s.count a n).prt = s.prt := (rfl)
@[simp] theorem State.count_tim (s : State) (a n : Nat) : (s.count a n).tim = s.tim := (rfl)
@[simp] theorem State.count_wak (s : State) (a n : Nat) : (s.count a n).wak = s.wak := (rfl)
@[simp] theorem State.count_aud (s : State) (a n : Nat) : (s.count a n).aud = s.aud := (rfl)
@[simp] theorem State.count_cht (s : State) (a n : Nat) : (s.count a n).cht = s.cht := (rfl)
@[simp] theorem State.count_cor (s : State) (a n : Nat) : (s.count a n).cor = s.cor := (rfl)
@[simp] theorem State.count_ldc (s : State) (a n : Nat) : (s.count a n).ldc = s.ldc := (rfl)
@[simp] theorem State.count_gau (s : State) (a n : Nat) : (s.count a n).gau = s.gau := (rfl)
@[simp] theorem State.count_can (s : State) (a n : Nat) : (s.count a n).can = s.can := (rfl)
@[simp] theorem State.count_pow (s : State) (a n : Nat) : (s.count a n).pow = s.pow := (rfl)
@[simp] theorem State.count_enc (s : State) (a n : Nat) : (s.count a n).enc = s.enc := (rfl)
@[simp] theorem State.count_gwy (s : State) (a n : Nat) : (s.count a n).gwy = s.gwy := (rfl)
@[simp] theorem State.count_sio (s : State) (a n : Nat) : (s.count a n).sio = s.sio := (rfl)
@[simp] theorem State.count_boo (s : State) (a n : Nat) : (s.count a n).boo = s.boo := (rfl)
@[simp] theorem State.count_pai (s : State) (a n : Nat) : (s.count a n).pai = s.pai := (rfl)

@[simp] theorem State.emit_pending (s : State) (o : Out) : (s.emit o).pending = s.pending := (rfl)
@[simp] theorem State.emit_regs (s : State) (o : Out) : (s.emit o).regs = s.regs := (rfl)
@[simp] theorem State.emit_cnts (s : State) (o : Out) : (s.emit o).cnts = s.cnts := (rfl)
@[simp] theorem State.emit_mem (s : State) (o : Out) : (s.emit o).mem = s.mem := (rfl)
@[simp] theorem State.emit_fresh (s : State) (o : Out) : (s.emit o).fresh = s.fresh := (rfl)
@[simp] theorem State.emit_now (s : State) (o : Out) : (s.emit o).now = s.now := (rfl)
@[simp] theorem State.emit_fab (s : State) (o : Out) : (s.emit o).fab = s.fab := (rfl)
@[simp] theorem State.emit_rnd (s : State) (o : Out) : (s.emit o).rnd = s.rnd := (rfl)
@[simp] theorem State.emit_que (s : State) (o : Out) : (s.emit o).que = s.que := (rfl)
@[simp] theorem State.emit_swc (s : State) (o : Out) : (s.emit o).swc = s.swc := (rfl)
@[simp] theorem State.emit_prt (s : State) (o : Out) : (s.emit o).prt = s.prt := (rfl)
@[simp] theorem State.emit_tim (s : State) (o : Out) : (s.emit o).tim = s.tim := (rfl)
@[simp] theorem State.emit_wak (s : State) (o : Out) : (s.emit o).wak = s.wak := (rfl)
@[simp] theorem State.emit_aud (s : State) (o : Out) : (s.emit o).aud = s.aud := (rfl)
@[simp] theorem State.emit_cht (s : State) (o : Out) : (s.emit o).cht = s.cht := (rfl)
@[simp] theorem State.emit_cor (s : State) (o : Out) : (s.emit o).cor = s.cor := (rfl)
@[simp] theorem State.emit_ldc (s : State) (o : Out) : (s.emit o).ldc = s.ldc := (rfl)
@[simp] theorem State.emit_gau (s : State) (o : Out) : (s.emit o).gau = s.gau := (rfl)
@[simp] theorem State.emit_can (s : State) (o : Out) : (s.emit o).can = s.can := (rfl)
@[simp] theorem State.emit_pow (s : State) (o : Out) : (s.emit o).pow = s.pow := (rfl)
@[simp] theorem State.emit_enc (s : State) (o : Out) : (s.emit o).enc = s.enc := (rfl)
@[simp] theorem State.emit_gwy (s : State) (o : Out) : (s.emit o).gwy = s.gwy := (rfl)
@[simp] theorem State.emit_sio (s : State) (o : Out) : (s.emit o).sio = s.sio := (rfl)
@[simp] theorem State.emit_boo (s : State) (o : Out) : (s.emit o).boo = s.boo := (rfl)
@[simp] theorem State.emit_pai (s : State) (o : Out) : (s.emit o).pai = s.pai := (rfl)

@[simp] theorem State.emit_out (s : State) (o : Out) : (s.emit o).out = s.out ++ [o] := rfl
@[simp] theorem State.setCnt_rd (s : State) (a v b : Nat) : (s.setCnt a v).rd b = s.rd b := rfl
@[simp] theorem State.setCnt_get (s : State) (a v : Nat) (f : Fld) : (s.setCnt a v).get f = s.get f := rfl
@[simp] theorem State.count_rd (s : State) (a n b : Nat) : (s.count a n).rd b = s.rd b := rfl
@[simp] theorem State.count_get (s : State) (a n : Nat) (f : Fld) : (s.count a n).get f = s.get f := rfl
@[simp] theorem State.count_on (s : State) (a n : Nat) (f : Fld) : (s.count a n).on f = s.on f := rfl
@[simp] theorem State.emit_rd (s : State) (o : Out) (b : Nat) : (s.emit o).rd b = s.rd b := rfl
@[simp] theorem State.emit_get (s : State) (o : Out) (f : Fld) : (s.emit o).get f = s.get f := rfl
@[simp] theorem State.wr_cnt (s : State) (a b : Nat) (v : Word) : (s.wr a v).cnt b = s.cnt b := rfl
@[simp] theorem State.put_cnt (s : State) (f : Fld) (v b : Nat) : (s.put f v).cnt b = s.cnt b := rfl

/-- The register written reads as written. -/
@[simp] theorem State.wr_rd_self (s : State) (a : Nat) (v : Word) : (s.wr a v).rd a = v :=
  storeGet_set_self resetVal s.regs a v

/-- Every other register reads as before. -/
theorem State.wr_rd_other (s : State) (a b : Nat) (v : Word) (h : b ≠ a) : (s.wr a v).rd b = s.rd b :=
  storeGet_set_other resetVal s.regs a b v (Ne.symm h)

/-- A field of another register reads as before. -/
theorem State.put_get_other (s : State) (f g : Fld) (v : Nat) (h : g.reg ≠ f.reg) : (s.put f v).get g = s.get g := by
  unfold State.get State.put
  rw [State.wr_rd_other _ _ _ _ h]

/-- The counter set holds the value, to 48 bits. -/
theorem State.setCnt_cnt_self (s : State) (a v : Nat) : (s.setCnt a v).cnt a = v % 2 ^ 48 :=
  storeGet_set_self cntDefault s.cnts a (v % 2 ^ 48)

/-- Every other counter holds what it held. -/
theorem State.setCnt_cnt_other (s : State) (a b v : Nat) (h : b ≠ a) : (s.setCnt a v).cnt b = s.cnt b :=
  storeGet_set_other cntDefault s.cnts a b (v % 2 ^ 48) (Ne.symm h)

/-- A word with a field set, as the parts above, in and below the field. -/
theorem setBits_split (w hi lo v : Nat) (h : lo ≤ hi) :
    setBits w hi lo v = (w / 2 ^ (hi + 1) * 2 ^ (hi + 1 - lo) + v % 2 ^ (hi + 1 - lo)) * 2 ^ lo + w % 2 ^ lo := by
  unfold setBits
  rw [show 2 ^ (hi + 1) = 2 ^ (hi + 1 - lo) * 2 ^ lo by rw [← Nat.pow_add]; congr 1; omega, Nat.add_mul, Nat.mul_assoc]

/-- A field set to a value it can hold reads as that value. -/
theorem bits_setBits (w hi lo v : Nat) (h : lo ≤ hi) (hv : v < 2 ^ (hi + 1 - lo)) :
    bits (setBits w hi lo v) hi lo = v := by
  unfold bits
  rw [setBits_split w hi lo v h, Nat.mul_comm _ (2 ^ lo), Nat.mul_add_div (Nat.two_pow_pos lo),
    Nat.div_eq_of_lt (Nat.mod_lt _ (Nat.two_pow_pos lo)), Nat.add_zero, Nat.mul_comm, Nat.mul_add_mod, Nat.mod_mod,
    Nat.mod_eq_of_lt hv]

/-- Setting a field leaves the fields below it. -/
theorem bits_setBits_below (w hi lo v hi' lo' : Nat) (h : lo ≤ hi) (h' : hi' < lo) :
    bits (setBits w hi lo v) hi' lo' = bits w hi' lo' := by
  by_cases hl : lo' ≤ hi'
  · unfold bits
    have e : 2 ^ (hi' + 1) = 2 ^ lo' * 2 ^ (hi' + 1 - lo') := by rw [← Nat.pow_add]; congr 1; omega
    rw [← Nat.mod_mul_right_div_self, ← Nat.mod_mul_right_div_self, ← e]
    congr 1
    have d : 2 ^ (hi' + 1) ∣ 2 ^ lo := Nat.pow_dvd_pow 2 (by omega)
    rw [← Nat.mod_mod_of_dvd (setBits w hi lo v) d, ← Nat.mod_mod_of_dvd w d, setBits_split w hi lo v h,
      Nat.mul_add_mod_self_right, Nat.mod_mod]
  · unfold bits
    rw [show hi' + 1 - lo' = 0 by omega]
    simp [Nat.mod_one]

/-- Setting a field leaves the fields above it. -/
theorem bits_setBits_above (w hi lo v hi' lo' : Nat) (h : lo ≤ hi) (h' : hi < lo') :
    bits (setBits w hi lo v) hi' lo' = bits w hi' lo' := by
  unfold bits
  have e : ∀ x, x / 2 ^ lo' = x / 2 ^ (hi + 1) / 2 ^ (lo' - (hi + 1)) := by
    intro x
    rw [Nat.div_div_eq_div_mul, ← Nat.pow_add]
    congr 2
    omega
  have low : v % 2 ^ (hi + 1 - lo) * 2 ^ lo + w % 2 ^ lo < 2 ^ (hi + 1) := by
    have a := Nat.mod_lt v (Nat.two_pow_pos (hi + 1 - lo))
    have b := Nat.mod_lt w (Nat.two_pow_pos lo)
    have c : 2 ^ (hi + 1) = 2 ^ (hi + 1 - lo) * 2 ^ lo := by rw [← Nat.pow_add]; congr 1; omega
    have d : (v % 2 ^ (hi + 1 - lo) + 1) * 2 ^ lo ≤ 2 ^ (hi + 1 - lo) * 2 ^ lo := Nat.mul_le_mul_right _ a
    rw [Nat.add_mul] at d
    omega
  rw [e, e w]
  congr 2
  unfold setBits
  rw [Nat.add_assoc, Nat.mul_comm, Nat.mul_add_div (Nat.two_pow_pos _), Nat.div_eq_of_lt low, Nat.add_zero]

/-- A word of 32 bits stays one when a field of it is set. -/
theorem setBits_lt (w hi lo v : Nat) (h : lo ≤ hi) (h31 : hi ≤ 31) (hw : w < 2 ^ 32) : setBits w hi lo v < 2 ^ 32 := by
  have low : v % 2 ^ (hi + 1 - lo) * 2 ^ lo + w % 2 ^ lo < 2 ^ (hi + 1) := by
    have a := Nat.mod_lt v (Nat.two_pow_pos (hi + 1 - lo))
    have b := Nat.mod_lt w (Nat.two_pow_pos lo)
    have c : 2 ^ (hi + 1) = 2 ^ (hi + 1 - lo) * 2 ^ lo := by rw [← Nat.pow_add]; congr 1; omega
    have d : (v % 2 ^ (hi + 1 - lo) + 1) * 2 ^ lo ≤ 2 ^ (hi + 1 - lo) * 2 ^ lo := Nat.mul_le_mul_right _ a
    rw [Nat.add_mul] at d
    omega
  have e : 2 ^ 32 = 2 ^ (31 - hi) * 2 ^ (hi + 1) := by rw [← Nat.pow_add]; congr 1; omega
  have q : w / 2 ^ (hi + 1) < 2 ^ (31 - hi) := by
    apply Nat.div_lt_of_lt_mul
    rw [Nat.mul_comm, ← e]
    exact hw
  have r : (w / 2 ^ (hi + 1) + 1) * 2 ^ (hi + 1) ≤ 2 ^ (31 - hi) * 2 ^ (hi + 1) := Nat.mul_le_mul_right _ q
  rw [Nat.add_mul] at r
  unfold setBits
  omega

/-- The word of a register after a put. -/
theorem State.put_rd_self (s : State) (f : Fld) (v : Nat) (h : f.lo ≤ f.hi) (h31 : f.hi ≤ 31) :
    ((s.put f v).rd f.reg).toNat = setBits (s.rd f.reg).toNat f.hi f.lo v := by
  unfold State.put
  rw [State.wr_rd_self, BitVec.toNat_ofNat, Nat.mod_eq_of_lt (setBits_lt _ _ _ _ h h31 (s.rd f.reg).isLt)]

/-- A field put to a value it can hold reads as that value. -/
theorem State.put_get_self (s : State) (f : Fld) (v : Nat) (h : f.lo ≤ f.hi) (h31 : f.hi ≤ 31)
    (hv : v < 2 ^ (f.hi + 1 - f.lo)) : (s.put f v).get f = v := by
  unfold State.get
  rw [State.put_rd_self s f v h h31, bits_setBits _ _ _ _ h hv]

/-- A field beside the one put reads as before. -/
theorem State.put_get_disjoint (s : State) (f g : Fld) (v : Nat) (h : f.lo ≤ f.hi) (h31 : f.hi ≤ 31)
    (hd : g.reg ≠ f.reg ∨ g.hi < f.lo ∨ f.hi < g.lo) : (s.put f v).get g = s.get g := by
  by_cases hr : g.reg = f.reg
  · unfold State.get
    rw [hr, State.put_rd_self s f v h h31]
    rcases hd with hd | hd | hd
    · exact absurd hr hd
    · exact bits_setBits_below _ _ _ _ _ _ h hd
    · exact bits_setBits_above _ _ _ _ _ _ h hd
  · exact State.put_get_other s f g v hr

end Sys2Proof.Machine
end

