-- ==== Sys2Proof/Laws/Flags.lean ====
section
/-! SUPPORT. What raising an event does to the registers: its own bit is set, and no register changes but that of the
event and COR_EVT, where an interrupt has no route. -/
namespace Sys2Proof.Machine

@[simp] theorem State.msixMessage_rd (s : State) (v a : Nat) : (s.msixMessage v).rd a = s.rd a := by
  unfold State.msixMessage; split <;> rfl

@[simp] theorem State.sendMsix_rd (s : State) (v a : Nat) : (s.sendMsix v).rd a = s.rd a := by
  unfold State.sendMsix; split
  · rfl
  · exact State.msixMessage_rd s v a

@[simp] theorem State.sendAiaCounted_rd (s : State) (v a : Nat) : (s.sendAiaCounted v).rd a = s.rd a := by
  unfold State.sendAiaCounted; split
  · rfl
  · split <;> rfl

theorem State.raiseRouteMiss_rd (s : State) (a : Nat) (h : a ≠ R.COR_EVT) : s.raiseRouteMiss.rd a = s.rd a := by
  have p : (s.put F.COR_EVT_ROUTE_MISS 1).rd a = s.rd a := State.wr_rd_other _ _ _ _ h
  unfold State.raiseRouteMiss
  split
  · rfl
  · dsimp only
    split
    · rw [State.sendAiaCounted_rd, State.sendMsix_rd, p]
    · exact p

theorem State.sendVec_rd (s : State) (v a : Nat) (h : a ≠ R.COR_EVT) : (s.sendVec v).rd a = s.rd a := by
  unfold State.sendVec State.sendAia
  split
  · exact State.sendMsix_rd s _ a
  · split
    · exact State.sendMsix_rd s _ a
    · rw [State.raiseRouteMiss_rd _ _ h, State.count_rd, State.sendMsix_rd]

/-- Raising an event changes no register but its own and COR_EVT. -/
theorem State.raise_rd_other (s : State) (b : Fld) (a : Nat) (h : a ≠ b.reg) (h' : a ≠ R.COR_EVT) :
    (s.raise b).rd a = s.rd a := by
  have p : (s.put b 1).rd a = s.rd a := State.wr_rd_other _ _ _ _ h
  unfold State.raise
  split
  · rfl
  · dsimp only
    split
    · rw [State.sendVec_rd _ _ _ h', p]
    · exact p

theorem State.raise_get_other (s : State) (b g : Fld) (h : g.reg ≠ b.reg) (h' : g.reg ≠ R.COR_EVT) :
    (s.raise b).get g = s.get g := by
  unfold State.get
  rw [State.raise_rd_other s b g.reg h h']

/-- The bit of an event of another register than COR_EVT is set once it has been raised. -/
theorem State.raise_on (s : State) (b : Fld) (h : b.lo = b.hi) (h31 : b.hi ≤ 31) (h' : b.reg ≠ R.COR_EVT) :
    (s.raise b).on b = true := by
  have p : (s.put b 1).get b = 1 :=
    State.put_get_self s b 1 (by omega) h31 (by rw [h, Nat.add_sub_cancel_left]; decide)
  unfold State.raise
  split
  · assumption
  · dsimp only
    split
    · unfold State.on State.get
      rw [State.sendVec_rd _ _ _ h']
      simpa [State.get] using p
    · simp [State.on, p]

@[simp] theorem State.sendMsix_descs (s : State) (v : Nat) : (s.sendMsix v).rnd.descs = s.rnd.descs := by
  unfold State.sendMsix State.msixMessage; split
  · rfl
  · split <;> rfl

@[simp] theorem State.sendAiaCounted_descs (s : State) (v : Nat) : (s.sendAiaCounted v).rnd.descs = s.rnd.descs := by
  unfold State.sendAiaCounted; split
  · rfl
  · split <;> rfl

@[simp] theorem State.raiseRouteMiss_descs (s : State) : s.raiseRouteMiss.rnd.descs = s.rnd.descs := by
  unfold State.raiseRouteMiss
  split
  · rfl
  · dsimp only
    split
    · rw [State.sendAiaCounted_descs, State.sendMsix_descs]; rfl
    · rfl

/-- Raising an event leaves every descriptor. -/
@[simp] theorem State.raise_descs (s : State) (b : Fld) : (s.raise b).rnd.descs = s.rnd.descs := by
  unfold State.raise
  split
  · rfl
  · dsimp only
    split
    · unfold State.sendVec State.sendAia
      split
      · rw [State.sendMsix_descs]; rfl
      · split
        · exact State.sendMsix_descs _ _
        · rw [State.raiseRouteMiss_descs]; exact State.sendMsix_descs _ _
    · rfl

end Sys2Proof.Machine
end

