-- ==== Sys2Proof/Tests/Slice0.lean ====
section
/-! SUPPORT. Tests of the model on small states: for each clause of a statement that has hypotheses, a state and operands
that meet all of them together; then the effects of single commands. -/
namespace Sys2Proof.Tests
set_option Elab.async false
open Sys2Proof Sys2Proof.Machine

/-- The machine after reset with its logic die running. -/
def on0 : State := State.reset.setPow { State.reset.pow with logic := true }

/-- A raw descriptor of function `f`, opcode `op`, with its buffer and its bytes from 20 on. -/
def rawOf (f op addr len : Nat) (tail : Bytes) : Bytes :=
  leBytes 2 op ++ leBytes 1 f ++ [0] ++ leBytes 4 0 ++ leBytes 6 addr ++ [0, 0] ++ leBytes 4 len ++ tail ++
    zeros (44 - tail.length)

/-- A started descriptor of round 0. -/
def mkDesc (f op addr len : Nat) (tail : Bytes) : Desc := { Desc.fresh 0 0 (rawOf f op addr len tail) with started := true }

/-- A started descriptor of round 0 whose source buffer holds `b`. -/
def mkSrc (f op : Nat) (tail b : Bytes) : Desc := { mkDesc f op 0 b.length tail with src := some b }

/-- The state with one descriptor under way. -/
def withD (s : State) (d : Desc) : State := s.setDescs [d]

/-- A fabric access of a source. -/
def acc (src : Source) (addr size : Nat) (write : Bool) : Access := ⟨src, addr, size, write, zeros size, none, []⟩

/-- Round 0 enabled with one descriptor slot due, its rounds in SRAM; page 0x01's rules leave it to partition 0. -/
def ring0 : State :=
  let s := (on0.put (F.RND_R_CTL_EN 0) 1).put (F.RND_R_STAT_RUN 0) 1
  let s := (s.put (F.RND_R_CMD_BASE_HI_ADDR 0) 1).put (F.RND_R_CPL_BASE_HI_ADDR 0) 1
  (s.put (F.RND_R_CPL_BASE_LO_ADDR 0) 0x1000).put (F.RND_DB_CMD_INDEX 0) 1

/-- A descriptor of round 0 at HEAD whose slot in host memory is read under tag 8, and that tag. -/
def hostDesc0 : Desc := { Desc.fresh 0 0 [] with wait := some 8, head := true }
def hostTag0 : TagUse := ⟨8, engineRead 0 0x400000000000 64, 2, 0, false, []⟩

/-- The round engine waits for a tag to read that slot; the link is up. -/
def hostRound0 : State :=
  let s := (withD on0 { hostDesc0 with wait := some 256 }).put F.RND_LINK_UP 1
  let s := ((s.put (F.RND_R_CTL_EN 0) 1).put (F.RND_R_ASSIGN_OWNER 0) 2).put (F.RND_R_CMD_BASE_HI_ADDR 0) 0x4000
  s.setFab { s.fab with waiting := [(engineRead 0 0x400000000000 64, 2)], guards := [(768, ⟨true, 0x400000000, 0x400000000, 4, 4⟩)] }

/-- A descriptor of round 0 fetched ahead: with a source buffer that run-ahead may fetch, and one that is cancelled and
whose tag has been read. -/
def ahead0 : Desc := Desc.fresh 0 0 (rawOf 4 8 0x100002000 64 [])
def cancelled0 : Desc := { Desc.fresh 0 0 (rawOf 2 1 0 0 []) with cancelled := true, head := true }

/-- Round 0 with a settled descriptor: its completion round full, and in host memory while the link is down. -/
def settled0 : State := withD ring0 { mkDesc 2 1 0 0 [] with fin := some ⟨0, 0⟩ }
def full0 : State := settled0.put (F.RND_R_STAT_CPL_IDX 0) 15
def gone0 : State := (settled0.put (F.RND_R_CPL_BASE_HI_ADDR 0) 0x4000).put F.RND_LINK_UP 0

/-- The state with the switch forwarding, external ports 1 and 2 up, and VLAN 1 holding every port. -/
def swUp (s : State) : State :=
  let s := ((s.put (F.SWC_PSTAT_STATE 1) 1).put (F.SWC_PSTAT_STATE 2) 1).put F.SWC_CTL_FWD_EN 1
  let s := ((s.put (F.SWC_PCFG_STP 1) 2).put (F.SWC_PCFG_STP 2) 2).put (F.SWC_PCFG_STP 21) 2
  s.onSwc fun w => { w with vlans := storeSet noneDefault w.vlans 1 (some ⟨1, 0xFFFFFF, 0⟩) }

/-- The machine with the link of external port 3 UP. -/
def link3 : State := on0.put (F.PRT_STAT_LINK 3) 3

/-- A 64-byte frame as port 3 hears it. -/
def rx0 : RxFrame := ⟨zeros 60, true, true, true, .frame⟩

/-- That frame on its way out of a port. -/
def cur3 : TxCur := ⟨SwFrame.new 24 0 (zeros 60) 64 4096 0, 0, none, 0, false⟩

/-- A gate list of one entry whose base time is 0. -/
def gl0 : GateList := ⟨[⟨1000, 1, 0⟩], 1000, 0, 0⟩

/-- A descriptor of function 0x05 and opcode `op` that loads that list for port or gate `p`. -/
def gateD (op p : Nat) : Desc := mkSrc 5 op ([BitVec.ofNat 8 p, 0] ++ leBytes 2 1 ++ leBytes 4 1000) (leBytes 4 1000 ++ [1, 0, 0, 0])

/-- Port 3 UP with a frame of class 0 in its queue, and with that frame's rest held. -/
def sent3 : State := link3.onSwc fun w => { w with staged := [⟨3, SwFrame.new 24 0 (zeros 60) 64 4096 0, 1⟩] }
/-- A PPS edge has stood for 100 ns. -/
def pps0 : State := ((on0.put F.TIM_PPS_CTL_IN_EN 1).onTim fun t => { t with pps := some (7, 0) }).setNow 100
def rest3 : State := link3.setLine 3 { link3.line 3 with rest := some cur3 }

/-- A pattern of a source, a gain and a sink, placed on engine 0 but for the gain on engine 1, and a state that runs it. -/
def node0 (kind : Nat) : PNode := ⟨leBytes 1 kind ++ zeros 63, []⟩
def pat0 : Pattern := ⟨7, [node0 1, node0 3, node0 2], [⟨0, 0, 0, 1, 0⟩, ⟨1, 0, 0, 2, 0⟩]⟩
/-- A pattern of a ply's way in and one of its ways out. -/
def ply0 : Pattern := ⟨0, [⟨[0x11], []⟩, ⟨[0x10], []⟩], []⟩
def place0 : Placement := ⟨[0, 1, 0], [31, 31, 31], [0, 0, 0], [], 0⟩
def aud0 : State :=
  let s := (on0.onAud fun a => { a with pat := some pat0, block := some 1000000 }).onCht fun c => { c with place := some place0 }
  (s.put (F.CHT_ENG_STAT_STATE 0) 1).put (F.CHT_ENG_STAT_STATE 1) 1

/-- A PATTERN_LOAD of that pattern's description. -/
def patD : Desc :=
  mkSrc 7 1 [] (leBytes 2 1 ++ leBytes 2 3 ++ leBytes 2 2 ++ [0, 0] ++ leBytes 4 7 ++ leBytes 4 240 ++ zeros 16 ++
    (node0 1).raw ++ (node0 3).raw ++ (node0 2).raw ++ [0, 0, 0, 0, 1, 0, 0, 0] ++ [1, 0, 0, 0, 2, 0, 0, 0])

/-- A shadow of that pattern whose block is under way, in a state at TIM_NOW `now` with every copy of it processed. -/
def sh0 : Shadow := ⟨pat0, place0, [.failure], some 1000000, false, false⟩
def shade (done : Bool) (now : Nat) : State :=
  ((aud0.onCht fun c => { c with shadow := some sh0 }).onAud fun a => { a with done := if done then sh0.copies else [] }).wr R.TIM_NOW
    (BitVec.ofNat 32 now)

/-- The placement that the search finds for the description of `patD` at level 0. -/
def checkPl : Placement :=
  match (parsePattern patD.buf).search false 0 on0.badEngines [] with
  | .ok pl => pl
  | .error _ => place0

/-- CAN controller 3 error active with its transceiver awake; a CC frame; and that frame on the wire. -/
def can1 : State := (on0.put (F.CAN_STAT_STATE 3) 1).put (F.WAK_TRCV_STAT_STATE 3) 0
def canF : CanFrame := ⟨0, 5, false, false, false, false, false, 1, 0, 0, 0, [7]⟩
def canTx : State :=
  can1.setCtl 3 { ctlDefault 0 with txq := [[⟨canF, 0, 0, none⟩], [], [], []], cur := some 0 }

def checkD : Desc := mkSrc 8 2 [] patD.buf
def failed0 : State := ((aud0.put (F.CHT_ENG_STAT_FAILS 0) 1).count C.CHT_ENG_FAIL).raise F.CHT_EVT_ENG_FAIL

/-- A gateway mapping record, a rule record of a RULE_SET, and a state whose rule 0 holds a frame. -/
def gwMapRaw : Bytes := [0, 0, 1, 0, 0, 0, 0, 0, 0, 0, 1, 0] ++ zeros 12
def gwRuleD : Desc := mkSrc 10 1 [0, 0] (zeros 30 ++ [1, 0] ++ zeros 32)
def gwHeld : State :=
  on0.setGwRule 0 { gwRuleDefault 0 with raw := zeros 30 ++ [1, 0] ++ zeros 32, held := some ⟨canF, 1, 0, 0, 0⟩ }

/-- RUN with source 3 armed and partition 0 allowed; DOZE with that source armed; ENTERING with nothing left to drain. -/
def wak0 : State := ((on0.put F.WAK_STAT_STATE Mod.RUN).set1 F.WAK_CFG_MASK_MASK 0).put F.WAK_SRC_EN_SRC 8
def doze0 : State := (wak0.put F.WAK_STAT_STATE Mod.DOZE).onWak fun w => { w with live := true, mode := 1 }
def drain0 : State :=
  ((withD wak0 (mkDesc 11 1 0 0 [])).put F.WAK_STAT_STATE Mod.ENTERING).onWak fun w => { w with live := true, sleep := some (0, 0) }

/-- Power die 0 powered with its link up and out of cast-off, partition 0 allowed. -/
def ldc0 : State :=
  (on0.set1 F.LDC_CFG_MASK_MASK 0).setBank 0 { bankDefault 0 with powered := true, link := true, castOff := false, armed := true }

/-- That bank's channel 3 on, a long while after its last overload trip. -/
def ovl0 : State := ((ldc0.put (F.LDC_L_STAT_STATE 3) 2).setNow (10 ^ 18)).setBank 0 { ldc0.ldcBank 0 with ovlAt := some 0 }

/-- Core A0 released with its schedule enabled; a SCHED_LOAD of one window of partition 3; partition 4 enabled on core A0. -/
def sched0 : State := (on0.put (F.COR_A_CTL_SCHED_EN 0) 1).onCor fun c => { c with held := 0 }
def schedD : Desc := mkSrc 15 1 [0, 0, 1, 0] (leBytes 4 1000 ++ [3, 0, 0, 0])
def part4 : State :=
  let s := ((on0.put (F.COR_P_CTL_EN 4) 1).put (F.COR_P_CTL_WD_MS 4) 10).onCor fun c => { c with held := 0 }
  (s.put (F.COR_A_STAT_PID 0) 4).put (F.COR_A_STAT_STATE 0) 0

/-- Queue 3 enabled with a depth of 4, and page 21's window left to partition 0 by the guard. -/
def quOpen : State := (on0.put (F.QUE_Q_CFG_EN 3) 1).put (F.QUE_Q_CFG_DEPTH 3) 4

/-- The enclave with an identity and round 0 left to partition 0; the same with an AES key of every use in slot 5. -/
def enc0 : State := on0
def enc5 : State := enc0.setKeySlot 5 ⟨1, 31, 1, zeros 16⟩
def keyD (op : Nat) : Desc := mkDesc 0x13 op 0 0 [3, 1, 4, 5]
def deriveD : Desc := mkSrc 0x13 2 [3, 1, 4, 255, 0, 0, 0, 0, 1] [7]
def derive5 : Desc := mkSrc 0x13 2 [3, 1, 4, 5, 0, 0, 0, 0, 1] [7]
def importD : Desc := mkSrc 0x13 3 [3, 1, 4, 5] (zeros 44)
def signD (op : Nat) : Desc := mkDesc 0x13 op 0x100000000 48 ([5, 0, 0, 0] ++ leBytes 4 48)
def openD : Desc := mkDesc 0x13 10 0x100000000 28 ([5, 0, 0, 0] ++ leBytes 4 28)
def attestD : Desc := { mkDesc 0x13 11 0x100000000 8 ([8, 0, 0, 0] ++ leBytes 4 8) with src := some (zeros 8) }
def enrolD : Desc := { mkDesc 0x13 14 0x100000000 3 ([0, 0, 0, 0] ++ leBytes 4 3) with src := some [0, 0, 255] }

/-- The management port UP with the service link permitted; a session on it; an ARP request; a service message of
operation `op` and its reading. -/
def ig0 : State := (((on0.put (F.PRT_STAT_LINK 20) 3).put F.BOO_CTL_IGION_EN 1).put F.BOO_STAT_BOOT_STATE 0).put F.BOO_STRAP_UPD_MODE 1
def igS : State := ig0.onBoo fun b => { b with session := some ⟨7, 100, [], 0⟩ }
def arpF : Bytes := zeros 12 ++ [8, 6, 0, 1, 8, 0, 6, 4, 0, 1] ++ zeros 16 ++ beBytes 4 (ig0.get F.BOO_IGION_IP_ADDR)
def igF (op : Nat) (data : Bytes) : Bytes :=
  let ip := [69, 0, 0, 0, 0, 0, 0, 0, 64, 17]
  let dst := beBytes 4 (ig0.get F.BOO_IGION_IP_ADDR)
  let sum := ipSum (ip ++ [0, 0] ++ zeros 4 ++ dst)
  let m := [0x49, 0x47, 1, BitVec.ofNat 8 op] ++ leBytes 4 7 ++ zeros 8 ++ leBytes 2 data.length ++ [0, 0]
  zeros 12 ++ [8, 0] ++ ip ++ beBytes 2 sum ++ zeros 4 ++ dst ++ [0, 9] ++ beBytes 2 47448 ++ beBytes 2 (32 + data.length) ++
    [0, 0] ++ m ++ leBytes 4 (crc32 (m ++ data)) ++ data
def igM (op : Nat) (data : Bytes) : IgMsg := ⟨⟨0, 0, 9, 7, 0, 0⟩, op, data⟩

/-- Port 0 UP with chain updates permitted; a reception of image 5; a frame of the chain. -/
def ch0 : State := ((ig0.put (F.PRT_STAT_LINK 0) 3).put F.BOO_CTL_CHAIN_EN 1).put F.BOO_STRAP_UPD_MODE 1
def chIn : State := ch0.onBoo fun b => { b with chainIn := some ⟨0, 5, 2, 0, [], 0⟩ }
def chF (kind blocks : Nat) : Bytes :=
  let b := [BitVec.ofNat 8 kind, 1, 0, 0] ++ leBytes 4 5 ++ leBytes 4 0 ++ leBytes 4 blocks ++ zeros 4
  ch0.macBytes 0 ++ zeros 6 ++ [0x88, 0xB5] ++ b ++ leBytes 4 (crc32 b)

/-- The pair function STARTING with lane 0 up; a pair frame of the partner of rank 1. -/
def pai0 : State := ((on0.put F.PAI_CTL_EN 1).put F.PAI_STAT_ROLE 0).put F.PAI_STAT_LANE0_UP 1
def paiF (kind : Nat) : Bytes :=
  zeros 12 ++ [0x88, 0xB6] ++ [BitVec.ofNat 8 kind, 1, 1, 0] ++ zeros 12 ++ leBytes 2 16 ++ zeros 2 ++ zeros 4 ++ [1] ++ zeros 11

/-- The boot unit idle in RUN with partition 0 allowed. -/
def boot0 : State := (on0.set1 F.BOO_CFG_MASK_MASK 0).put F.BOO_STAT_BOOT_STATE 0


/-- A warm reset due; a power cycle due; the end of a power cycle due. -/
def warm0 : State := on0.onPow fun p => { p with warm := some (3, 0) }
def cyc0 : State := on0.onPow fun p => { p with cycle := some (8, 0, 0) }
def off0 : State := (State.reset.onPow fun p => { p with off := some 0, fell := false, hot := false, resetN := false }).onWak fun w => { w with vaon := true }

/-- A FRAME_SEND to port 1, class 0, with every port up, and the frame that it stores. -/
def sendDesc1 : Desc := mkSrc 4 8 [0, 1, 0] (zeros 60)
def sendUp1 : State := swUp (withD on0 sendDesc1)
def sendFrame1 : SwFrame :=
  { SwFrame.new (sendUp1.swcPort sendDesc1) 0 sendDesc1.buf (sendDesc1.len + 4) 4096 0 with
    send := some (sendDesc1.round, sendDesc1.slot)
    tsTag := if bitOf (u8 sendDesc1.raw 20) 0 then some (u16 sendDesc1.raw 24) else none
    stream := sendUp1.streamOf (be48 sendDesc1.buf 0) (be48 sendDesc1.buf 6)
      (sendUp1.entryVid ⟨sendUp1.swcPort sendDesc1, sendDesc1.buf, some 0, none, []⟩) }

theorem witness_RegisterCommandsComplete_2 : ∃ (addr : Nat), (addr / 0x10000 = 2) ∧ (addr ≠ R.MEM_SCRUB_INTERVAL) ∧ (isEvt addr = false) ∧ (isEvtEn addr = false) :=
  ⟨R.MEM_SCRUB_CTL, by decide⟩

theorem witness_RegisterCommandsComplete_3 : ∃ (pid addr : Nat) (s : State), (isEvt addr = true) ∧ (addr ≠ R.TIM_TRG_EVT) ∧ (s.mayWrite pid addr = true) :=
  ⟨0, F.JER_EVT_DENY.reg, on0, by decide⟩

theorem witness_RegisterCommandsComplete_4 : ∃ (addr : Nat), (isEvt addr = true) :=
  ⟨F.JER_EVT_DENY.reg, by decide⟩

theorem witness_RegisterCommandsComplete_5 : ∃ (pid addr val : Nat) (s t : State), (isEvtEn addr = true) ∧ (s.mayWrite pid addr = true) ∧ (t = s.regApply addr (val % 2 ^ 32)) :=
  ⟨0, F.JER_EVT_DENY.reg + 4, 1, on0, on0.regApply (F.JER_EVT_DENY.reg + 4) 1, by decide⟩

theorem witness_RegisterCommandsComplete_6 : ∃ (addr : Nat), (isCounter addr = true) :=
  ⟨C.JER_DENY, by decide⟩

theorem witness_RegisterCommandsComplete_7 : ∃ (val k : Nat) (s t : State), (t = s.regApply R.JER_GSEL (val % 2 ^ 32)) ∧ (t.ruleSel = some k) :=
  ⟨0, 0, on0, on0.regApply R.JER_GSEL 0, by decide⟩

theorem witness_RegisterCommandsComplete_8 : ∃ (val k : Nat) (s : State), (s.ruleSel = some k) ∧ (bitOf val 0 = true) :=
  ⟨1, 0, on0, by decide⟩

theorem witness_RegisterCommandsComplete_9 : ∃ (n which val : Nat) (s t : State), (n < 8) ∧ (t = s.regApply (effReg n which) (val % 2 ^ 32)) ∧ (t.on (F.JER_EFF_BASE_LO_EN n) = false ∨ t.effValid n = true) :=
  ⟨0, 1, 1, on0, on0.regApply (effReg 0 1) 1, by decide⟩

theorem witness_RegisterCommandsComplete_10 : ∃ (n which val : Nat) (s t : State), (n < 8) ∧ (t = s.regApply (effReg n which) (val % 2 ^ 32)) ∧ (t.on (F.JER_EFF_BASE_LO_EN n) = true) ∧ (t.effValid n = false) :=
  ⟨0, 0, 1, on0, on0.regApply (effReg 0 0) 1, by decide⟩

theorem witness_MemoryCommandsComplete_1 : ∃ (a : Access) (s u : State), (u = s.upset a.upsets) ∧ (u.mayIssue a = true) ∧ (a.src ≠ .bar0 ∧ a.src ≠ .host) :=
  ⟨acc .mgmt 0x100000000 4 true, on0, on0.upset [], by decide⟩

theorem witness_MemoryCommandsComplete_2 : ∃ (a : Access) (s u : State), (u = s.upset a.upsets) ∧ (u.mayIssue a = true) ∧ (a.src = .bar0) :=
  ⟨acc .bar0 0 4 true, on0.put F.RND_LINK_UP 1, (on0.put F.RND_LINK_UP 1).upset [], by decide⟩

theorem witness_MemoryCommandsComplete_3 : ∃ (a : Access) (s u : State), (u = s.upset a.upsets) ∧ (u.mayIssue a = true) ∧ (a.src = .host) :=
  ⟨acc .host 0x200000000 4 true, on0.put F.RND_LINK_UP 1, (on0.put F.RND_LINK_UP 1).upset [], by decide⟩

theorem witness_MemoryCommandsComplete_4 : ∃ (a : Access) (s u : State) (t : Target) (lo hi : Nat), (u = s.upset a.upsets) ∧ (u.mayIssue a = true) ∧ (a.src ≠ .bar0 ∧ a.src ≠ .host) ∧ (a.write = true) ∧ (a.amo = none) ∧ (u.mapped true a.addr a.size = true) ∧ (u.denied (u.pidOf a.src) true a.addr a.size = none) ∧ (regionOf a.addr = some (t, lo, hi)) ∧ ((memKind t).isSome = true ∧ t ≠ .queues) ∧ (u.eccTorn a.addr a.size = false) :=
  ⟨acc .mgmt 0x100000000 4 true, on0, on0.upset [], .sram, 0x100000000, 0x100800000, by decide⟩

theorem witness_MemoryCommandsComplete_5 : ∃ (a : Access) (s u : State) (t : Target) (lo hi tag : Nat) (m : Master), (u = s.upset a.upsets) ∧ (u.mayIssue a = true) ∧ (a.write = false) ∧ (a.amo = none) ∧ (masterOf a.src = some m) ∧ (u.tagNow m = some tag) ∧ (u.mapped false a.addr a.size = true) ∧ (u.denied (u.pidOf a.src) false a.addr a.size = none) ∧ (regionOf a.addr = some (t, lo, hi)) ∧ ((memKind t).isSome = true ∧ t ≠ .queues) ∧ (u.eccBad a.addr a.size = false) :=
  ⟨acc .mgmt 0x100000000 4 false, on0, on0.upset [], .sram, 0x100000000, 0x100800000, 0, .mgmt, by decide⟩

theorem witness_MemoryCommandsComplete_6 : ∃ (a : Access) (s u : State) (x : Nat), (u = s.upset a.upsets) ∧ (u.mayIssue a = true) ∧ (a.src ≠ .bar0 ∧ a.src ≠ .host) ∧ (a.write = true) ∧ (a.amo = none) ∧ (u.mapped true a.addr a.size = true) ∧ (u.denied (u.pidOf a.src) true a.addr a.size = some x) :=
  ⟨acc .enclave 0x100000000 4 true, on0, on0.upset [], 0x100000000, by decide⟩

theorem witness_MemoryCommandsComplete_7 : ∃ (a : Access) (s u : State), (u = s.upset a.upsets) ∧ (u.mayIssue a = true) ∧ (a.src ≠ .bar0 ∧ a.src ≠ .host) ∧ (a.write = true) ∧ (a.amo = none) ∧ (u.mapped true a.addr a.size = false) :=
  ⟨acc .mgmt 0xF0000000 4 true, on0, on0.upset [], by decide⟩

theorem witness_MemoryCommandsComplete_8 : ∃ (m : Master) (x : Access × Nat) (tag : Nat) (s u : State), (s.fab.setups = []) ∧ (s.fab.waiting.find? (fun y => masterOf y.1.src == some m) = some x) ∧ (s.freeTag m = some tag) ∧ (s.mayGrant m = true) ∧ (u = s.setFab { s.fab with turn := lastIn m s.fab.turn, waiting := dropFirst (fun y => masterOf y.1.src == some m) s.fab.waiting }) ∧ (∀ n, x.1.src ≠ .round n) :=
  ⟨.mgmt, (acc .mgmt 0x100000000 4 false, 0), 0, on0.setFab { on0.fab with waiting := [(acc .mgmt 0x100000000 4 false, 0)] }, on0.setFab { on0.fab with turn := [.mgmt], waiting := [] }, by refine ⟨by decide, by decide, by decide, by decide, by decide, nofun⟩⟩

theorem witness_MemoryCommandsComplete_9 : ∃ (m : Master) (n : Nat) (x : Access × Nat) (d : Desc) (tag : Nat) (s u : State), (s.fab.setups = []) ∧ (s.fab.waiting.find? (fun y => masterOf y.1.src == some m) = some x) ∧ (s.freeTag m = some tag) ∧ (s.mayGrant m = true) ∧ (u = s.setFab { s.fab with turn := lastIn m s.fab.turn, waiting := dropFirst (fun y => masterOf y.1.src == some m) s.fab.waiting }) ∧ (x.1.src = .round n) ∧ (u.tagless n x.1 = some d) ∧ (d.head = true) ∧ ((u.readChecked x.1 x.2 tag).2 = none) :=
  ⟨.roundEngine, 0, (engineRead 0 0x400000000000 64, 2), { Desc.fresh 0 0 [] with wait := some 256, head := true }, 8, hostRound0, hostRound0.setFab { hostRound0.fab with turn := [.roundEngine], waiting := [] }, by decide +kernel⟩

theorem witness_MemoryCommandsComplete_10 : ∃ (tag : Nat) (t : TagUse) (s : State), (s.fab.tags.find? (fun t => t.tag == tag && decide (t.issued + 10000000 ≤ s.now)) = some t) ∧ (∀ n, t.acc.src ≠ .round n) :=
  ⟨3, ⟨3, acc .mgmt 0x400000000000 4 false, 0, 0, false, []⟩, (on0.setNow 20000000).setFab { on0.fab with tags := [⟨3, acc .mgmt 0x400000000000 4 false, 0, 0, false, []⟩] }, by refine ⟨by decide, nofun⟩⟩

theorem witness_MemoryCommandsComplete_11 : ∃ (tag : Nat) (t : TagUse) (s : State), (s.fab.tags.find? (fun t => t.tag == tag && decide (t.issued + 10000000 ≤ s.now)) = some t) :=
  ⟨8, hostTag0, (withD (on0.setNow 20000000) hostDesc0).setFab { on0.fab with tags := [hostTag0] }, by decide⟩

theorem witness_MemoryCommandsComplete_12 : ∃ (tag : Nat) (s : State), (s.fab.ended.contains tag = true) :=
  ⟨3, on0.setFab { on0.fab with ended := [3] }, by decide⟩

theorem witness_MemoryCommandsComplete_13 : ∃ (upsets : List EccMark) (s u : State), (u = s.upset upsets) ∧ (u.on F.MEM_SCRUB_CTL_PATROL_EN = true) ∧ (u.fab.patrolAt + 1000 * u.get F.MEM_SCRUB_INTERVAL_INTERVAL ≤ u.now) ∧ (u.pow.logic = true) :=
  ⟨[], (on0.put F.MEM_SCRUB_CTL_PATROL_EN 1).setNow 1000000000000, ((on0.put F.MEM_SCRUB_CTL_PATROL_EN 1).setNow 1000000000000).upset [], by decide⟩

theorem witness_MemoryCommandsComplete_14 : ∃ (r : Nat) (d : Desc) (s : State), (s.cur r 0x02 1 = some d) ∧ (memRegionOk d = true) ∧ (s.denied (s.dPid d) false d.addr d.len = none) :=
  ⟨0, mkDesc 2 1 0x100000000 4 [], withD on0 (mkDesc 2 1 0x100000000 4 []), by decide⟩

theorem witness_MemoryCommandsComplete_15 : ∃ (r : Nat) (d : Desc) (s : State), (s.cur r 0x02 2 = some d) ∧ (memRegionOk d = true) ∧ (s.denied (s.dPid d) true d.addr d.len = none) ∧ (d.prog = 0 ∧ d.len ≤ 65536) ∧ (s.eccTorn d.addr d.len = false) :=
  ⟨0, mkDesc 2 2 0x100000000 4 [], withD on0 (mkDesc 2 2 0x100000000 4 []), by decide⟩

theorem witness_MemoryCommandsComplete_16 : ∃ (r : Nat) (d : Desc) (s : State), (s.cur r 0x02 1 = some d) ∧ (memRegionOk d = false) :=
  ⟨0, mkDesc 2 1 0x100000000 3 [], withD on0 (mkDesc 2 1 0x100000000 3 []), by decide⟩

theorem witness_MemoryCommandsComplete_17 : ∃ (r x : Nat) (d : Desc) (s : State), (s.cur r 0x02 2 = some d) ∧ (memRegionOk d = true) ∧ (s.denied (s.dPid d) true d.addr d.len = some x) :=
  ⟨0, 0x100000000, mkDesc 2 2 0x100000000 4 [], (withD on0 (mkDesc 2 2 0x100000000 4 [])).put (F.RND_R_ASSIGN_OWNER 0) 5, by decide⟩

theorem witness_HostLinkCommandsComplete_1 : ∃ (tag : Nat) (b g : Bytes) (t : TagUse) (s : State), (s.hostTag tag = some t) ∧ (t.emulate = false) ∧ (g = slice (t.got ++ b) 0 (min t.acc.size (t.got.length + b.length))) ∧ (g.length = t.acc.size) :=
  ⟨8, zeros 64, zeros 64, hostTag0, (withD on0 hostDesc0).setFab { on0.fab with tags := [hostTag0] }, by decide⟩

theorem witness_HostLinkCommandsComplete_2 : ∃ (tag : Nat) (b g : Bytes) (t : TagUse) (s : State), (s.hostTag tag = some t) ∧ (t.emulate = false) ∧ (∀ n, t.acc.src ≠ .round n) ∧ (g = slice (t.got ++ b) 0 (min t.acc.size (t.got.length + b.length))) ∧ (g.length = t.acc.size) :=
  ⟨3, zeros 4, zeros 4, ⟨3, acc .mgmt 0x400000000000 4 false, 0, 0, false, []⟩, on0.setFab { on0.fab with tags := [⟨3, acc .mgmt 0x400000000000 4 false, 0, 0, false, []⟩] }, ⟨by decide, by decide, nofun, by decide, by decide⟩⟩

theorem witness_HostLinkCommandsComplete_3 : ∃ (tag : Nat) (b g : Bytes) (t : TagUse) (s : State), (s.hostTag tag = some t) ∧ (g = slice (t.got ++ b) 0 (min t.acc.size (t.got.length + b.length))) ∧ (g.length ≠ t.acc.size) :=
  ⟨3, zeros 2, zeros 2, ⟨3, acc .mgmt 0x400000000000 4 false, 0, 0, false, []⟩, on0.setFab { on0.fab with tags := [⟨3, acc .mgmt 0x400000000000 4 false, 0, 0, false, []⟩] }, by decide⟩

theorem witness_HostLinkCommandsComplete_4 : ∃ (tag : Nat) (b g : Bytes) (op : AmoOp) (t : TagUse) (s : State), (s.hostTag tag = some t) ∧ (t.acc.amo = some op ∧ t.emulate = true) ∧ (s.linkIssues = true) ∧ (g = slice (t.got ++ b) 0 (min t.acc.size (t.got.length + b.length))) ∧ (g.length = t.acc.size) :=
  ⟨3, zeros 4, zeros 4, .and, ⟨3, { acc .mgmt 0x400000000000 4 false with amo := some .and }, 0, 0, true, []⟩, (on0.put F.RND_LINK_UP 1).setFab { on0.fab with tags := [⟨3, { acc .mgmt 0x400000000000 4 false with amo := some .and }, 0, 0, true, []⟩] }, by decide⟩

theorem witness_HostLinkCommandsComplete_5 : ∃ (tag : Nat) (t : TagUse) (s u : State), (s.hostTag tag = some t) ∧ (u = (if s.unsure t then s else s.hostErr)) :=
  ⟨3, ⟨3, acc .mgmt 0x400000000000 4 false, 0, 0, false, []⟩, on0.setFab { on0.fab with tags := [⟨3, acc .mgmt 0x400000000000 4 false, 0, 0, false, []⟩] }, (on0.setFab { on0.fab with tags := [⟨3, acc .mgmt 0x400000000000 4 false, 0, 0, false, []⟩] }).hostErr, by decide⟩

theorem witness_HostLinkCommandsComplete_6 : ∃ (tag : Nat) (t : TagUse) (s : State), (s.hostTag tag = some t) ∧ (t.emulate = false) ∧ (∀ n, t.acc.src ≠ .round n) :=
  ⟨3, ⟨3, acc .mgmt 0x400000000000 4 false, 0, 0, false, []⟩, on0.setFab { on0.fab with tags := [⟨3, acc .mgmt 0x400000000000 4 false, 0, 0, false, []⟩] }, ⟨by decide, by decide, nofun⟩⟩

theorem witness_HostLinkCommandsComplete_7 : ∃ (tag : Nat) (s : State), (s.hostTag tag = none) ∧ (s.fab.ended.contains tag = true) :=
  ⟨3, on0.setFab { on0.fab with ended := [3] }, by decide⟩

theorem witness_HostLinkCommandsComplete_8 : ∃ (tag : Nat) (t : TagUse) (s u : State), (s.hostTag tag = some t) ∧ (t.issued + 100000 * s.get F.RND_CTL_CPL_TMO ≤ s.now) ∧ (u = (if s.unsure t then s else s.hostErr)) :=
  ⟨3, ⟨3, acc .mgmt 0x400000000000 4 false, 0, 0, false, []⟩, (on0.setNow 1000000000).setFab { on0.fab with tags := [⟨3, acc .mgmt 0x400000000000 4 false, 0, 0, false, []⟩] }, ((on0.setNow 1000000000).setFab { on0.fab with tags := [⟨3, acc .mgmt 0x400000000000 4 false, 0, 0, false, []⟩] }).hostErr, by decide⟩

theorem witness_HostLinkCommandsComplete_9 : ∃ (s : State), (s.on F.RND_LINK_UP = true) :=
  ⟨on0.put F.RND_LINK_UP 1, by decide⟩

theorem witness_HostLinkCommandsComplete_10 : ∃ (s : State), (s.on F.RND_LINK_UP = true) :=
  ⟨on0.put F.RND_LINK_UP 1, by decide⟩

theorem witness_HostLinkCommandsComplete_11 : ∃ (s : State), (s.on F.RND_LINK_UP = false ∨ s.swState 20 ≠ 1) ∧ (s.pow.logic = true) :=
  ⟨on0, by decide⟩

theorem witness_HostLinkCommandsComplete_12 : ∃ (s : State), (s.on F.RND_LINK_UP = true ∧ s.swState 20 = 1) ∧ (s.pow.logic = true) :=
  ⟨(on0.put F.RND_LINK_UP 1).put (F.SWC_PSTAT_STATE 20) 1, by decide⟩

theorem witness_HostLinkCommandsComplete_13 : ∃ (vec : Nat) (s u : State), (vec < 64) ∧ (u = s.setRnd { s.rnd with msixTbl := storeSet msixDefault s.rnd.msixTbl (4 * vec + 3) (BitVec.ofNat 32 (clearBit (s.msixWord (4 * vec + 3)) 0)) }) :=
  ⟨5, on0, on0.setRnd { on0.rnd with msixTbl := storeSet msixDefault on0.rnd.msixTbl 23 (BitVec.ofNat 32 (clearBit (on0.msixWord 23) 0)) }, by decide⟩

theorem witness_RoundRegisterCommandsComplete_1 : ∃ (pid n val : Nat) (s : State), (s.rMay pid n = true) ∧ (val < s.rSize n) :=
  ⟨0, 0, 1, on0, by decide⟩

theorem witness_RoundRegisterCommandsComplete_2 : ∃ (pid n val : Nat) (s : State), (s.bellOk pid n val = false) :=
  ⟨7, 0, 1, on0, by decide⟩

theorem witness_RoundRegisterCommandsComplete_3 : ∃ (pid n val : Nat) (s u : State), (s.bellOk pid n val = true) ∧ (u = s.put (F.RND_DB_CPL_INDEX n) val) :=
  ⟨0, 0, 1, on0, on0.put (F.RND_DB_CPL_INDEX 0) 1, by decide⟩

theorem witness_RoundRegisterCommandsComplete_4 : ∃ (pid n val : Nat) (s u : State), (s.rMay pid n = true) ∧ (u = s.ctlFields n val) ∧ (u.rEn n = false) ∧ (u.enableBad n = false) :=
  ⟨0, 0, 0x400, ring0.put (F.RND_R_CTL_EN 0) 0, (ring0.put (F.RND_R_CTL_EN 0) 0).ctlFields 0 0x400, by decide +kernel⟩

theorem witness_RoundRegisterCommandsComplete_5 : ∃ (pid n val : Nat) (s u : State), (s.rMay pid n = true) ∧ (u = s.ctlFields n val) ∧ (u.rEn n = false) ∧ (u.enableBad n = true) :=
  ⟨0, 0, 0, on0, on0.ctlFields 0 0, by decide⟩

theorem witness_RoundRegisterCommandsComplete_6 : ∃ (pid n val : Nat) (s u v : State), (s.rMay pid n = true) ∧ (u = s.ctlFields n val) ∧ (u.rEn n = true) ∧ (v = (u.put (F.RND_R_CTL_EN n) 0).frogRound n) :=
  ⟨0, 0, 0x400, ring0, ring0.ctlFields 0 0x400, ((ring0.ctlFields 0 0x400).put (F.RND_R_CTL_EN 0) 0).frogRound 0, by decide⟩

theorem witness_RoundRegisterCommandsComplete_7 : ∃ (pid n : Nat) (s : State), (s.rMay pid n = true) ∧ (s.rEn n = false ∧ s.rRun n = false) :=
  ⟨0, 0, on0, by decide⟩

theorem witness_RoundRegisterCommandsComplete_8 : ∃ (pid val : Nat) (d : Desc) (s : State), (bitOf val 31 = true) ∧ (s.rMay pid (val % 256) = true) ∧ ((s.started (val % 256)).find? (·.tag == s.get F.RND_CANCEL_TAG_TAG) = some d) :=
  ⟨0, 0x80000000, mkDesc 2 1 0 0 [], withD on0 (mkDesc 2 1 0 0 []), by decide⟩

theorem witness_RoundRegisterCommandsComplete_9 : ∃ (pid val : Nat) (d : Desc) (s : State), (bitOf val 31 = true) ∧ (s.rMay pid (val % 256) = true) ∧ ((s.started (val % 256)).find? (·.tag == s.get F.RND_CANCEL_TAG_TAG) = none) ∧ ((s.ahead (val % 256)).find? (fun d => !d.raw.isEmpty && d.tag == s.get F.RND_CANCEL_TAG_TAG) = some d) ∧ (d.cancelled = false) :=
  ⟨0, 0x80000000, Desc.fresh 0 0 (rawOf 2 1 0 0 []), withD on0 (Desc.fresh 0 0 (rawOf 2 1 0 0 [])), by decide⟩

theorem witness_RoundRegisterCommandsComplete_10 : ∃ (pid val : Nat) (s : State), (bitOf val 31 = true) ∧ (s.rMay pid (val % 256) = true) ∧ ((s.started (val % 256)).find? (·.tag == s.get F.RND_CANCEL_TAG_TAG) = none) ∧ ((s.ahead (val % 256)).find? (fun d => !d.raw.isEmpty && d.tag == s.get F.RND_CANCEL_TAG_TAG) = none) :=
  ⟨0, 0x80000000, on0, by decide⟩

theorem witness_RoundRegisterCommandsComplete_11 : ∃ (pid val : Nat) (s : State), (bitOf val 31 = true) ∧ (s.rMay pid (val % 256) = false) :=
  ⟨7, 0x80000000, on0, by decide⟩

theorem witness_RoundEngineCommandsComplete_1 : ∃ (n : Nat) (upsets : List EccMark) (d : Desc) (s u : State), (u = (s.upset upsets).performSetups) ∧ (u.mayRun n = true ∧ u.on (F.RND_R_CTL_RA_OFF n) = false) ∧ ((u.ahead n).find? u.bufferDue = some d) ∧ (u.stagingRoom d.len = true) :=
  ⟨0, [], ahead0, withD ring0 ahead0, ((withD ring0 ahead0).upset []).performSetups, by decide +kernel⟩

theorem witness_RoundEngineCommandsComplete_2 : ∃ (n i : Nat) (upsets : List EccMark) (s u : State), (u = (s.upset upsets).performSetups) ∧ (u.mayRun n = true ∧ u.on (F.RND_R_CTL_RA_OFF n) = false) ∧ ((u.ahead n).find? u.bufferDue = none) ∧ (u.nextAhead n = some i) ∧ (u.touchesEffect (u.slotAddr n i) 64 = false ∧ u.stagingRoom 1 = true) :=
  ⟨0, 0, [], ring0, (ring0.upset []).performSetups, by decide +kernel⟩

theorem witness_RoundEngineCommandsComplete_3 : ∃ (n : Nat) (upsets : List EccMark) (d : Desc) (s u : State), (u = (s.upset upsets).performSetups) ∧ (u.served n = true) ∧ (u.aheadAt n (u.rHead n) = some d) ∧ (d.cancelled = false ∧ d.wait = none ∧ d.fence = false) ∧ (u.badHeader d = false) ∧ ((d.readsBuf && d.src.isNone && decide (0 < d.len)) = false) :=
  ⟨0, [], Desc.fresh 0 0 (rawOf 2 1 0 0 []), (withD ring0 (Desc.fresh 0 0 (rawOf 2 1 0 0 []))).put (F.RND_R_ASSIGN_FUNC 0) 2, (((withD ring0 (Desc.fresh 0 0 (rawOf 2 1 0 0 []))).put (F.RND_R_ASSIGN_FUNC 0) 2).upset []).performSetups, by decide +kernel⟩

theorem witness_RoundEngineCommandsComplete_4 : ∃ (n : Nat) (upsets : List EccMark) (d : Desc) (s u : State), (u = (s.upset upsets).performSetups) ∧ (u.served n = true) ∧ (u.aheadAt n (u.rHead n) = some d) ∧ (d.cancelled = false ∧ d.wait = none ∧ d.fence = false) ∧ (u.badHeader d = true) :=
  ⟨0, [], Desc.fresh 0 0 (rawOf 9 1 0 0 []), withD ring0 (Desc.fresh 0 0 (rawOf 9 1 0 0 [])), ((withD ring0 (Desc.fresh 0 0 (rawOf 9 1 0 0 []))).upset []).performSetups, by decide +kernel⟩

theorem witness_RoundEngineCommandsComplete_5 : ∃ (n : Nat) (upsets : List EccMark) (d : Desc) (s u : State), (u = (s.upset upsets).performSetups) ∧ (u.served n = true) ∧ (u.aheadAt n (u.rHead n) = some d) ∧ (d.cancelled = true ∧ d.wait = none ∧ d.head = true) :=
  ⟨0, [], cancelled0, withD ring0 cancelled0, ((withD ring0 cancelled0).upset []).performSetups, by decide +kernel⟩

theorem witness_RoundEngineCommandsComplete_6 : ∃ (n : Nat) (upsets : List EccMark) (s u : State), (u = (s.upset upsets).performSetups) ∧ (u.served n = true) ∧ (u.aheadAt n (u.rHead n) = none) ∧ (u.linkGone (u.slotAddr n (u.rHead n)) = false) :=
  ⟨0, [], ring0, (ring0.upset []).performSetups, by decide +kernel⟩

theorem witness_RoundEngineCommandsComplete_7 : ∃ (n : Nat) (d : Desc) (c : Cpl) (l : List Desc) (s u v : State), (u = s.performSetups) ∧ (u.started n = d :: l) ∧ (d.fin = some c) ∧ (u.writesOpen n = false) ∧ (u.cplGone n = false ∧ u.freeSlots n ≠ 0) ∧ (v = (u.putCpl n d.tag c.status d.stitches c.result)) :=
  ⟨0, { mkDesc 2 1 0 0 [] with fin := some ⟨0, 0⟩ }, ⟨0, 0⟩, [], withD ring0 { mkDesc 2 1 0 0 [] with fin := some ⟨0, 0⟩ }, (withD ring0 { mkDesc 2 1 0 0 [] with fin := some ⟨0, 0⟩ }).performSetups, (withD ring0 { mkDesc 2 1 0 0 [] with fin := some ⟨0, 0⟩ }).performSetups.putCpl 0 0 0 0 0, by decide⟩

theorem witness_RoundEngineCommandsComplete_8 : ∃ (n : Nat) (d : Desc) (c : Cpl) (l : List Desc) (s u : State), (u = s.performSetups) ∧ (u.started n = d :: l) ∧ (d.fin = some c) ∧ (u.writesOpen n = false) ∧ (u.cplGone n = false ∧ u.freeSlots n = 0 ∧ u.on (F.RND_R_STAT_STALLED n) = false) :=
  ⟨0, { mkDesc 2 1 0 0 [] with fin := some ⟨0, 0⟩ }, ⟨0, 0⟩, [], full0, full0.performSetups, by decide⟩

theorem witness_RoundEngineCommandsComplete_9 : ∃ (n : Nat) (d : Desc) (c : Cpl) (l : List Desc) (s u : State), (u = s.performSetups) ∧ (u.started n = d :: l) ∧ (d.fin = some c) ∧ (u.writesOpen n = false) ∧ (u.cplGone n = true) :=
  ⟨0, { mkDesc 2 1 0 0 [] with fin := some ⟨0, 0⟩ }, ⟨0, 0⟩, [], gone0, gone0.performSetups, by decide⟩

theorem witness_RoundEngineCommandsComplete_10 : ∃ (r : Nat) (s : State), (s.modPend r ≠ 0) ∧ (max (s.get (F.RND_R_MOD_COUNT r)) 1 ≤ s.modPend r ∨ s.get (F.RND_R_MOD_TIME r) ≤ s.now / 1000 - s.modFirst r) :=
  ⟨0, on0.setModPend 0 5, by decide⟩

theorem witness_RoundEngineCommandsComplete_11 : ∃ (r : Nat) (d : Desc) (s u : State), (s.stitching r = some d) ∧ (s.othersServed r = true) ∧ (u = s.servedNow r) :=
  ⟨0, { mkDesc 2 1 0 0 [] with running := true }, withD on0 { mkDesc 2 1 0 0 [] with running := true }, (withD on0 { mkDesc 2 1 0 0 [] with running := true }).servedNow 0, by decide +kernel⟩

theorem witness_RoundEngineCommandsComplete_12 : ∃ (r : Nat) (d : Desc) (s u : State), (s.stitching r = some d) ∧ (s.othersServed r = true) ∧ (u = s.servedNow r) ∧ (d.lastBegun = false) ∧ ((u.nextStitch d).settled d = true) :=
  ⟨0, { mkDesc 2 1 0x100000000 4 [] with running := true }, withD on0 { mkDesc 2 1 0x100000000 4 [] with running := true }, (withD on0 { mkDesc 2 1 0x100000000 4 [] with running := true }).servedNow 0, by decide +kernel⟩

theorem witness_SwitchEventsComplete_1 : ∃ (s : State), (s.get F.WAK_STAT_STATE ≠ 2) :=
  ⟨on0, by decide⟩

theorem witness_SwitchEventsComplete_3 : ∃ (idx : Nat) (e : FdbEnt) (s : State), (s.on F.SWC_CTL_AGE_EN = true) ∧ (e ∈ s.swc.fdb) ∧ (e.idx = idx ∧ e.static = false ∧ e.seen + 1000000000 * s.get F.SWC_AGE_AGE_S ≤ s.now) :=
  ⟨0, ⟨0, 5, 1, 1, false, false, 0⟩, ((on0.put F.SWC_CTL_AGE_EN 1).onSwc fun w => { w with fdb := [⟨0, 5, 1, 1, false, false, 0⟩] }).setNow 400000000000, by decide⟩

theorem witness_SwitchEventsComplete_4 : ∃ (h t : Nat) (e : StreamEnt) (s : State), (s.stream h = some e) ∧ (s.oldestHeld h = some t) ∧ (t + 1000 * e.reseqUs ≤ s.now) :=
  ⟨5, 0, ⟨1, 3, 9, 1, 4, 4, 100, 5⟩, (on0.onSwc fun w => { w with streams := storeSet noneDefault w.streams 5 (some ⟨1, 3, 9, 1, 4, 4, 100, 5⟩), frames := [{ SwFrame.new 0 0 [] 64 1 0 with held := some (5, 7, 0) }] }).setNow 1000000, by decide⟩

theorem witness_SwitchEventsComplete_5 : ∃ (h : Nat) (e : StreamEnt) (s : State), (s.stream h = some e) ∧ (2 ≤ e.role) ∧ ((s.cbOf h).started = true) ∧ ((s.cbOf h).lastAt + 1000000 * e.resetMs ≤ s.now) :=
  ⟨5, ⟨1, 3, 9, 1, 4, 4, 100, 5⟩, ((on0.onSwc fun w => { w with streams := storeSet noneDefault w.streams 5 (some ⟨1, 3, 9, 1, 4, 4, 100, 5⟩) }).setCb 5 ⟨true, 0, [], 0, 0⟩).setNow 10000000, by decide⟩

theorem witness_SwitchEventsComplete_6 : ∃ (p : Nat) (s : State), (s.swState p = 2) ∧ (storeGet cntDefault s.swc.holdEnd p ≤ s.now) :=
  ⟨3, on0.put (F.SWC_PSTAT_STATE 3) 2, by decide⟩

theorem witness_SwitchEventsComplete_7 : ∃ (k n : Nat) (b : Bytes) (s : State), (s.swc.transit[k]? = some (n, b)) ∧ (u8 b 0 = 0x21) :=
  ⟨0, 0, [0x21, 1], on0.onSwc fun w => { w with transit := [(0, [0x21, 1])] }, by decide⟩

theorem witness_SwitchEventsComplete_8 : ∃ (k : Nat) (s : State), ((s.plyAcc k).isOpen = true) ∧ (before s.timNow (((s.plyAcc k).time + 1000 * (s.plyAcc k).ent.window) % 2 ^ 32) = false) :=
  ⟨0, (on0.setPlyAcc 0 { on0.plyAcc 0 with isOpen := true, time := 0 }).wr R.TIM_NOW 900000, by decide⟩

theorem witness_SwitchOpcodesComplete_1 : ∃ (r i : Nat) (d : Desc) (s : State), (s.cur r 4 1 = some d) ∧ (d.noBuf = true) ∧ (d.fdbFid < 4096 ∧ u32 d.raw 28 < 2 ^ 24 ∧ u8 d.raw 32 < 4) ∧ ((match s.fdbFind d.fdbMac d.fdbFid with | some e => some e.idx | none => s.fdbWay (fdbBucket d.fdbMac d.fdbFid)) = some i) :=
  ⟨0, fdbBucket 0x020000000001 1 * 4, mkDesc 4 1 0 0 ([2, 0, 0, 0, 0, 1] ++ leBytes 2 1 ++ leBytes 4 8 ++ [0]), withD on0 (mkDesc 4 1 0 0 ([2, 0, 0, 0, 0, 1] ++ leBytes 2 1 ++ leBytes 4 8 ++ [0])), by decide +kernel⟩

theorem witness_SwitchOpcodesComplete_2 : ∃ (r : Nat) (d : Desc) (e : FdbEnt) (s : State), (s.cur r 4 2 = some d) ∧ (d.noBuf = true) ∧ (s.fdbFind d.fdbMac d.fdbFid = some e) :=
  ⟨0, mkDesc 4 2 0 0 ([2, 0, 0, 0, 0, 1] ++ leBytes 2 1), ⟨3, 0x020000000001, 1, 8, false, false, 0⟩, (withD on0 (mkDesc 4 2 0 0 ([2, 0, 0, 0, 0, 1] ++ leBytes 2 1))).onSwc fun w => { w with fdb := [⟨3, 0x020000000001, 1, 8, false, false, 0⟩] }, by decide⟩

theorem witness_SwitchOpcodesComplete_3 : ∃ (r : Nat) (d : Desc) (e : FdbEnt) (s : State), (s.cur r 4 3 = some d) ∧ (d.noBuf = true) ∧ (s.fdbFind d.fdbMac d.fdbFid = some e) :=
  ⟨0, mkDesc 4 3 0 0 ([2, 0, 0, 0, 0, 1] ++ leBytes 2 1), ⟨3, 0x020000000001, 1, 8, false, false, 0⟩, (withD on0 (mkDesc 4 3 0 0 ([2, 0, 0, 0, 0, 1] ++ leBytes 2 1))).onSwc fun w => { w with fdb := [⟨3, 0x020000000001, 1, 8, false, false, 0⟩] }, by decide⟩

theorem witness_SwitchOpcodesComplete_4 : ∃ (r : Nat) (d : Desc) (s : State), (s.cur r 4 4 = some d) ∧ (d.noBuf = true) :=
  ⟨0, mkDesc 4 4 0 0 [], withD on0 (mkDesc 4 4 0 0 []), by decide⟩

theorem witness_SwitchOpcodesComplete_5 : ∃ (r : Nat) (d : Desc) (s : State), (s.cur r 4 5 = some d) ∧ (d.noBuf = true) ∧ (0 < u16 d.raw 20 ∧ u16 d.raw 20 < 4095 ∧ u16 d.raw 22 < 4096 ∧ u32 d.raw 24 < 2 ^ 24 ∧ u32 d.raw 28 < 2 ^ 24) :=
  ⟨0, mkDesc 4 5 0 0 (leBytes 2 7 ++ leBytes 2 3 ++ leBytes 4 15 ++ leBytes 4 1), withD on0 (mkDesc 4 5 0 0 (leBytes 2 7 ++ leBytes 2 3 ++ leBytes 4 15 ++ leBytes 4 1)), by decide⟩

theorem witness_SwitchOpcodesComplete_6 : ∃ (r : Nat) (d : Desc) (s : State), (s.cur r 4 6 = some d) ∧ (d.noBuf = true) ∧ (u16 d.raw 20 < 1024) ∧ (d.streamEnt.ok = true) ∧ (s.streamDup (u16 d.raw 20) d.streamEnt = false) :=
  ⟨0, mkDesc 4 6 0 0 (leBytes 2 7 ++ [1, 0, 2, 0, 0, 0, 0, 9] ++ leBytes 2 3), withD on0 (mkDesc 4 6 0 0 (leBytes 2 7 ++ [1, 0, 2, 0, 0, 0, 0, 9] ++ leBytes 2 3)), by decide⟩

theorem witness_SwitchOpcodesComplete_7 : ∃ (r : Nat) (d : Desc) (s : State), (s.cur r 4 7 = some d) ∧ (d.noBuf = true) ∧ (u16 d.raw 20 < 1024) :=
  ⟨0, mkDesc 4 7 0 0 (leBytes 2 7), withD on0 (mkDesc 4 7 0 0 (leBytes 2 7)), by decide⟩

theorem witness_SwitchOpcodesComplete_8 : ∃ (r : Nat) (d : Desc) (s : State), (s.cur r 4 8 = some d) ∧ (60 ≤ d.len ∧ d.len ≤ 9212 ∧ u8 d.raw 20 = 0 ∧ u8 d.raw 21 = 0xFF ∧ u8 d.raw 22 = 0xFF) ∧ ((s.swIngress ⟨s.swcPort d, d.buf, none, none, []⟩).2 ≠ .refused) :=
  ⟨0, mkSrc 4 8 [0, 0xFF, 0xFF] (2 :: zeros 59), swUp (withD on0 (mkSrc 4 8 [0, 0xFF, 0xFF] (2 :: zeros 59))), by decide +kernel⟩

theorem witness_SwitchOpcodesComplete_9 : ∃ (r : Nat) (d : Desc) (s : State), (s.cur r 4 8 = some d) ∧ (60 ≤ d.len ∧ d.len ≤ 9212 ∧ u8 d.raw 20 = 0 ∧ u8 d.raw 21 = 0xFF ∧ u8 d.raw 22 = 0xFF) ∧ ((s.swIngress ⟨s.swcPort d, d.buf, none, none, []⟩).2 = .refused) :=
  ⟨0, mkSrc 4 8 [0, 0xFF, 0xFF] (2 :: zeros 59), withD on0 (mkSrc 4 8 [0, 0xFF, 0xFF] (2 :: zeros 59)), by decide +kernel⟩

theorem witness_SwitchOpcodesComplete_10 : ∃ (r o c : Nat) (d : Desc) (f : SwFrame) (s : State), (s.cur r 4 8 = some d) ∧ (60 ≤ d.len ∧ d.len ≤ 9212 ∧ u8 d.raw 20 < 2 ∧ u8 d.raw 21 = o ∧ o < 20 ∧ u8 d.raw 22 = c ∧ c < 8) ∧ (s.swState o ≠ 0 ∧ s.silent = false) ∧ (s.queueTakes c (cellsOf (d.len + 4)) o = true ∧ d.len + 4 ≤ s.get (F.PRT_MODE_MAX_LEN o)) ∧ (f = { SwFrame.new (s.swcPort d) c d.buf (d.len + 4) 4096 0 with send := some (d.round, d.slot), tsTag := (if bitOf (u8 d.raw 20) 0 then some (u16 d.raw 24) else none), stream := s.streamOf (be48 d.buf 0) (be48 d.buf 6) (s.entryVid ⟨s.swcPort d, d.buf, some c, none, []⟩) }) :=
  ⟨0, 1, 0, sendDesc1, sendFrame1, sendUp1, by exact ⟨by decide +kernel, by decide +kernel, by decide +kernel, by decide +kernel, rfl⟩⟩

theorem witness_SwitchOpcodesComplete_11 : ∃ (r : Nat) (d : Desc) (s : State), (s.cur r 4 9 = some d) :=
  ⟨0, mkDesc 4 9 0 0 [], withD on0 (mkDesc 4 9 0 0 []), by decide⟩

theorem witness_SwitchOpcodesComplete_12 : ∃ (d : Desc), (d.noBuf = false) :=
  ⟨mkDesc 4 1 4 0 [], by decide⟩

theorem witness_PortEventsComplete_1 : ∃ (p : Nat) (s : State), (s.isUp p = true) :=
  ⟨3, link3, by decide⟩

theorem witness_PortEventsComplete_2 : ∃ (p : Nat) (s : State), (s.isUp p = true) :=
  ⟨3, link3, by decide⟩

theorem witness_PortEventsComplete_3 : ∃ (p : Nat) (s : State), (s.isUp p = true) :=
  ⟨3, link3, by decide⟩

theorem witness_PortEventsComplete_4 : ∃ (p : Nat) (s : State), (p < 20) ∧ (s.on (F.PRT_STAT_PAUSED p) = true) ∧ (storeGet cntDefault s.prt.pauseEnd p ≤ 10 * s.now) :=
  ⟨3, on0.put (F.PRT_STAT_PAUSED 3) 1, by decide⟩

theorem witness_PortEventsComplete_5 : ∃ (p k : Nat) (s : State), (p < 20) ∧ (k < 8) ∧ (s.pfcEnd p k ≠ 0 ∧ s.pfcEnd p k ≤ 10 * s.now) :=
  ⟨3, 2, (on0.setPfcEnd 26 5).setNow 100, by decide⟩

theorem witness_PortEventsComplete_6 : ∃ (p : Nat) (s : State), (p < 20) ∧ (s.isUp p = true) :=
  ⟨3, link3, by decide⟩

theorem witness_PortEventsComplete_7 : ∃ (p c : Nat) (upsets : List EccMark) (r s u : State), (s = r.upset upsets) ∧ (s.isUp p = true) ∧ ((((s.cbsUpdate p).cutCur p).line p).cur.isSome = false) ∧ (u = forEach (List.range 8) (State.dropNever p) ((s.cbsUpdate p).cutCur p)) ∧ (u.pick p = some c) ∧ (u.canResume p c = false) :=
  ⟨3, 0, [], sent3, (sent3).upset [], forEach (List.range 8) (State.dropNever 3) ((sent3.cbsUpdate 3).cutCur 3), by exact ⟨rfl, by decide +kernel, by decide +kernel, rfl, by decide +kernel, by decide +kernel⟩⟩

theorem witness_PortEventsComplete_8 : ∃ (p c : Nat) (upsets : List EccMark) (t : TxCur) (r s u : State), (s = r.upset upsets) ∧ (s.isUp p = true) ∧ ((((s.cbsUpdate p).cutCur p).line p).cur.isSome = false) ∧ (u = forEach (List.range 8) (State.dropNever p) ((s.cbsUpdate p).cutCur p)) ∧ (u.pick p = some c) ∧ (u.canResume p c = true) ∧ ((u.line p).rest = some t) :=
  ⟨3, 0, [], cur3, rest3, (rest3).upset [], forEach (List.range 8) (State.dropNever 3) ((rest3.cbsUpdate 3).cutCur 3), by exact ⟨rfl, by decide +kernel, by decide +kernel, rfl, by decide +kernel, by decide +kernel, rfl⟩⟩

theorem witness_PortEventsComplete_9 : ∃ (p : Nat) (upsets : List EccMark) (t : TxCur) (r s : State), (s = r.upset upsets) ∧ (s.isUp p = false ∧ p < 20) ∧ ((s.line p).cur = none) ∧ ((List.range 8).any (fun c => s.canResume p c) = true) ∧ ((s.line p).rest = some t) :=
  ⟨3, [], cur3, on0.setLine 3 { on0.line 3 with rest := some cur3 }, (on0.setLine 3 { on0.line 3 with rest := some cur3 }).upset [], by exact ⟨rfl, by decide +kernel, by decide +kernel, by decide +kernel, rfl⟩⟩

theorem witness_PortEventsComplete_10 : ∃ (p : Nat) (upsets : List EccMark) (t : TxCur) (r s : State), (s = r.upset upsets) ∧ ((s.line p).cur = some t) ∧ (s.lineTime p (s.lineLen p t.frame - t.sent + 8) ≤ 10 * (s.now - t.start)) :=
  ⟨3, [], cur3, ((link3).setLine 3 { (link3).line 3 with cur := some cur3 }).setNow 1000000000, (((link3).setLine 3 { (link3).line 3 with cur := some cur3 }).setNow 1000000000).upset [], by exact ⟨rfl, rfl, by decide +kernel⟩⟩

theorem witness_PortEventsComplete_11 : ∃ (p : Nat) (s : State), (s.pairHolds p = false) ∧ (p < 21) :=
  ⟨3, on0, by decide⟩

theorem witness_PortEventsComplete_12 : ∃ (p : Nat) (s : State), (p < 21) ∧ (s.linkOf p = 2) ∧ (s.anegAt p = 0) :=
  ⟨3, on0.put (F.PRT_STAT_LINK 3) 2, by decide⟩

theorem witness_PortEventsComplete_13 : ∃ (p : Nat) (s : State), (p < 21) ∧ (s.linkOf p = 2) ∧ (s.anegAt p ≠ 0) ∧ (s.anegAt p + 1000000000 ≤ s.now + 1) :=
  ⟨3, ((on0.put (F.PRT_STAT_LINK 3) 2).onPrt fun t => { t with anegAt := storeSet cntDefault t.anegAt 3 1 }).setNow 1000000000, by decide⟩

theorem witness_PortEventsComplete_14 : ∃ (p : Nat) (s : State), (p < 21) ∧ (s.linkOf p = 1) ∧ (s.get (F.PRT_MODE_MODE p) ≤ 1) :=
  ⟨3, on0.put (F.PRT_STAT_LINK 3) 1, by decide⟩

theorem witness_PortEventsComplete_15 : ∃ (p : Nat) (s : State), (s.isUp p = true) :=
  ⟨3, link3, by decide⟩

theorem witness_PortEventsComplete_16 : ∃ (p : Nat) (s : State), (p < 20) ∧ (s.get (F.PRT_STAT_VERIFY p) = 1) ∧ (storeGet cntDefault s.prt.verAt p + 1000000 * s.get (F.PRT_PREEMPT_VERIFY_MS p) ≤ s.now) :=
  ⟨3, (on0.put (F.PRT_STAT_VERIFY 3) 1).setNow 1000000000, by decide⟩

theorem witness_GateAndPortOpsComplete_1 : ∃ (p : Nat) (s : State), (p < 20) ∧ (s.gateRuns p = true) :=
  ⟨3, on0.put (F.PRT_GATE_CTL_GATE_EN 3) 1, by decide⟩

theorem witness_GateAndPortOpsComplete_2 : ∃ (p : Nat) (q : GateList) (s : State), (p < 20) ∧ ((s.gate p).pend = some q) ∧ (s.gateRuns p = true) ∧ (s.reached q.base = true) :=
  ⟨3, gl0, (on0.put (F.PRT_GATE_CTL_GATE_EN 3) 1).setGate 3 { on0.gate 3 with pend := some gl0 }, by decide⟩

theorem witness_GateAndPortOpsComplete_3 : ∃ (p : Nat), (p < 20) :=
  ⟨3, by decide⟩

theorem witness_GateAndPortOpsComplete_4 : ∃ (g : Nat) (s : State), (g < 128) ∧ ((s.gate (32 + g)).pend = none) :=
  ⟨3, on0, by decide⟩

theorem witness_GateAndPortOpsComplete_5 : ∃ (g : Nat) (q : GateList) (s : State), (g < 128) ∧ ((s.gate (32 + g)).pend = some q) ∧ (s.reached q.base = true) :=
  ⟨3, gl0, on0.setGate 35 { on0.gate 35 with pend := some gl0 }, by decide⟩

theorem witness_GateAndPortOpsComplete_6 : ∃ (r : Nat) (d : Desc) (s : State), (s.cur r 5 1 = some d) ∧ (u8 d.raw 20 < 20) ∧ (s.gateListOk d false = true) :=
  ⟨0, gateD 1 3, withD on0 (gateD 1 3), by decide +kernel⟩

theorem witness_GateAndPortOpsComplete_7 : ∃ (r : Nat) (d : Desc) (s : State), (s.cur r 5 1 = some d) :=
  ⟨0, mkDesc 5 1 0 0 [], withD on0 (mkDesc 5 1 0 0 []), by decide⟩

theorem witness_GateAndPortOpsComplete_8 : ∃ (r : Nat) (d : Desc) (s : State), (s.cur r 5 3 = some d) ∧ (u8 d.raw 20 < 128) ∧ (s.gateListOk d true = true) :=
  ⟨0, gateD 3 3, withD on0 (gateD 3 3), by decide +kernel⟩

theorem witness_GateAndPortOpsComplete_9 : ∃ (r : Nat) (d : Desc) (s : State), (s.cur r 5 2 = some d) ∧ (d.noBuf = true) ∧ (u16 d.raw 20 < 256 ∧ idxOk 1024 0xFFFF (u16 d.raw 22) = true ∧ idxOk 8 0xFF (u8 d.raw 24) = true ∧ idxOk 128 0xFF (u8 d.raw 25) = true) ∧ (idxOk 256 0xFFFF (u16 d.raw 28) = true ∧ idxOk 8 0xFF (u8 d.raw 30) = true ∧ u8 d.raw 31 < 4) :=
  ⟨0, mkDesc 5 2 0 0 (leBytes 2 9 ++ leBytes 2 0xFFFF ++ [0xFF, 0xFF] ++ leBytes 2 0 ++ leBytes 2 0xFFFF ++ [0xFF, 1]), withD on0 (mkDesc 5 2 0 0 (leBytes 2 9 ++ leBytes 2 0xFFFF ++ [0xFF, 0xFF] ++ leBytes 2 0 ++ leBytes 2 0xFFFF ++ [0xFF, 1])), by decide⟩

theorem witness_GateAndPortOpsComplete_10 : ∃ (r : Nat) (d : Desc) (s : State), (s.cur r 5 4 = some d) ∧ (d.noBuf = true) ∧ (u16 d.raw 20 < 256 ∧ u8 d.raw 40 < 16) :=
  ⟨0, mkDesc 5 4 0 0 [], withD on0 (mkDesc 5 4 0 0 []), by decide⟩

theorem witness_GateAndPortOpsComplete_11 : ∃ (r : Nat) (d : Desc) (s : State), (s.cur r 5 5 = some d) ∧ (u16 d.raw 20 < 256 ∧ 40 ≤ d.len) :=
  ⟨0, mkDesc 5 5 0x10000000 40 [], withD on0 (mkDesc 5 5 0x10000000 40 []), by decide⟩

theorem witness_GateAndPortOpsComplete_12 : ∃ (r : Nat) (d : Desc) (s : State), (s.cur r 5 6 = some d) ∧ (60 ≤ d.len ∧ d.len + 4 ≤ s.get (F.PRT_MODE_MAX_LEN 20)) ∧ (s.isUp 20 = true) :=
  ⟨0, mkDesc 5 6 0x10000000 60 [], withD (on0.put (F.PRT_STAT_LINK 20) 3) (mkDesc 5 6 0x10000000 60 []), by decide⟩

theorem witness_GateAndPortOpsComplete_13 : ∃ (r : Nat) (d : Desc) (s : State), (s.cur r 5 7 = some d) ∧ (s.get (F.PRT_MODE_MAX_LEN 20) ≤ d.len) :=
  ⟨0, mkDesc 5 7 0 9216 [], withD on0 (mkDesc 5 7 0 9216 []), by decide⟩

theorem witness_TimeEventsComplete_1 : ∃ (s : State), (s.on F.TIM_STAT_LOCKED = false) ∧ (s.pow.logic = true) :=
  ⟨on0, by decide⟩

theorem witness_TimeEventsComplete_2 : ∃ (s : State), (s.on F.TIM_STAT_LOCKED = true) ∧ (2 ^ 56 ≤ s.nextCount) :=
  ⟨(on0.put F.TIM_STAT_LOCKED 1).putNow (2 ^ 32 - 1), by decide⟩

theorem witness_TimeEventsComplete_3 : ∃ (v : Nat), (0x03FF0000 ≤ v ∧ v ≤ 0x04010000) :=
  ⟨0x04000000, by decide⟩

theorem witness_TimeEventsComplete_4 : ∃ (v : Nat), (v < 0x03FF0000 ∨ 0x04010000 < v) :=
  ⟨0, by decide⟩

theorem witness_TimeEventsComplete_5 : ∃ (s : State), (s.on F.TIM_STAT_LOCKED = true) ∧ (s.tim.incNext.isSome = true) :=
  ⟨(on0.put F.TIM_STAT_LOCKED 1).onTim fun t => { t with incNext := some 0x04000000 }, by decide⟩

theorem witness_TimeEventsComplete_6 : ∃ (v : Nat) (s : State), (s.on F.TIM_STAT_STEP_BUSY = false) ∧ ((sint 32 v).natAbs < 2 ^ 30) :=
  ⟨5, on0, by decide⟩

theorem witness_TimeEventsComplete_8 : ∃ (s : State), (s.on F.TIM_STAT_LOCKED = true) ∧ (s.tim.step.isSome = true) :=
  ⟨(on0.put F.TIM_STAT_LOCKED 1).onTim fun t => { t with step := some 5 }, by decide⟩

theorem witness_TimeEventsComplete_10 : ∃ (p : Nat) (x : TxStamp) (s u : State), (s.tim.stamps.find? (·.port == p) = some x) ∧ (u = s.onTim fun t => { t with stamps := dropFirst (·.port == p) t.stamps }) :=
  ⟨3, ⟨3, 0, 0, 0, none⟩, on0.onTim fun t => { t with stamps := [⟨3, 0, 0, 0, none⟩] }, (on0.onTim fun t => { t with stamps := [⟨3, 0, 0, 0, none⟩] }).onTim fun t => { t with stamps := dropFirst (·.port == 3) t.stamps }, by decide⟩

theorem witness_TimeEventsComplete_11 : ∃ (n : Nat) (s : State), (n < 16) ∧ (s.on F.TIM_STAT_LOCKED = true) ∧ (s.tick.fires n ≠ s.fires n) :=
  ⟨3, ((on0.put F.TIM_STAT_LOCKED 1).put (F.TIM_TRG_CTL_ARMED 3) 1).put (F.TIM_TRG_TARGET_VALUE 3) 2, by decide +kernel⟩

theorem witness_TimeEventsComplete_12 : ∃ (n : Nat), (n < 16) :=
  ⟨3, by decide⟩

theorem witness_TimeEventsComplete_13 : ∃ (pid n val : Nat), (n < 16) ∧ (pid ≠ 0 ∨ n = 0) ∧ (bitOf val 15 = true) ∧ (bitOf val 30 = false) :=
  ⟨1, 3, 32768, by decide⟩

theorem witness_TimeEventsComplete_14 : ∃ (k : Nat) (s : State), (bitOf s.tim.pins k = true) ∧ (s.on (F.TIM_PIN_CTL_TOGGLE k) = false) ∧ (storeGet cntDefault s.tim.pinEnd k ≤ s.now) :=
  ⟨1, on0.onTim fun t => { t with pins := 2 }, by decide⟩

theorem witness_TimeEventsComplete_15 : ∃ (s : State), (s.on F.TIM_PPS_CTL_IN_EN = true) :=
  ⟨on0.put F.TIM_PPS_CTL_IN_EN 1, by decide⟩

theorem witness_TimeEventsComplete_16 : ∃ (v t : Nat) (s u : State), (s.on F.TIM_PPS_CTL_IN_EN = true) ∧ (s.tim.pps = some (v, t)) ∧ (t + 100 ≤ s.now) ∧ (u = (s.onTim fun t => { t with pps := none }).put F.TIM_PPS_CAP_TIME v) :=
  ⟨7, 0, pps0, (pps0.onTim fun t => { t with pps := none }).put F.TIM_PPS_CAP_TIME 7, by decide⟩

theorem witness_TimeEventsComplete_17 : ∃ (s : State), (s.mediaTied = true) ∧ (s.on F.TIM_STAT_MEDIA_LOCKED = false) :=
  ⟨on0.onTim fun t => { t with media := ⟨0, some 0⟩ }, by decide⟩

theorem witness_TriggerOpsComplete_1 : ∃ (r n : Nat) (d : Desc) (s u : State), (s.cur r 6 1 = some d) ∧ (d.noBuf = true) ∧ (u8 d.raw 20 = n ∧ n < 16) ∧ (s.dPid d = 0 ∨ s.dPid d = s.get (F.TIM_TRG_CTL_OWNER n)) ∧ (u32 d.raw 28 = 0 ∨ (1000 ≤ u32 d.raw 28 ∧ u32 d.raw 28 ≤ 1000000000)) ∧ (ahead32 s.timNow (u32 d.raw 24) < 2 ^ 31) ∧ (u = ((((s.put (F.TIM_TRG_TARGET_VALUE n) (u32 d.raw 24)).put (F.TIM_TRG_PERIOD_VALUE n) (u32 d.raw 28)).put (F.TIM_TRG_CTL_SKIPPED n) 0).put (F.TIM_TRG_CTL_ARMED n) 1).onTim fun t => { t with armNew := setBit t.armNew n, fired := storeSet cntDefault t.fired n 0 }) :=
  ⟨0, 3, mkDesc 6 1 0 0 ([3, 0, 0, 0] ++ leBytes 4 100 ++ leBytes 4 1000), withD on0 (mkDesc 6 1 0 0 ([3, 0, 0, 0] ++ leBytes 4 100 ++ leBytes 4 1000)), (((((withD on0 (mkDesc 6 1 0 0 ([3, 0, 0, 0] ++ leBytes 4 100 ++ leBytes 4 1000))).put (F.TIM_TRG_TARGET_VALUE 3) 100).put (F.TIM_TRG_PERIOD_VALUE 3) 1000).put (F.TIM_TRG_CTL_SKIPPED 3) 0).put (F.TIM_TRG_CTL_ARMED 3) 1).onTim fun t => { t with armNew := setBit t.armNew 3, fired := storeSet cntDefault t.fired 3 0 }, by decide +kernel⟩

theorem witness_TriggerOpsComplete_2 : ∃ (r n : Nat) (d : Desc) (s : State), (s.cur r 6 2 = some d) ∧ (d.noBuf = true) ∧ (u8 d.raw 20 = n ∧ n < 16) ∧ (s.dPid d = 0 ∨ s.dPid d = s.get (F.TIM_TRG_CTL_OWNER n)) :=
  ⟨0, 3, mkDesc 6 2 0 0 [3], withD on0 (mkDesc 6 2 0 0 [3]), by decide⟩

theorem witness_TriggerOpsComplete_3 : ∃ (n : Nat) (d : Desc) (s : State), (d.noBuf = true) ∧ (u8 d.raw 20 = n ∧ n < 16) ∧ (s.dPid d ≠ 0 ∧ s.dPid d ≠ s.get (F.TIM_TRG_CTL_OWNER n)) :=
  ⟨3, mkDesc 6 2 0 0 [3], (withD on0 (mkDesc 6 2 0 0 [3])).put (F.RND_R_ASSIGN_OWNER 0) 1, by decide +kernel⟩

theorem witness_TriggerOpsComplete_4 : ∃ (r : Nat) (d : Desc) (s : State), (s.cur r 6 3 = some d) ∧ (u8 d.raw 20 < 20) ∧ (1 ≤ u16 d.raw 22 ∧ u16 d.raw 22 ≤ 64 ∧ 8 * u16 d.raw 22 ≤ d.len) :=
  ⟨0, mkDesc 6 3 0 16 [3, 0, 2], withD on0 (mkDesc 6 3 0 16 [3, 0, 2]), by decide⟩

theorem witness_AudioEventsComplete_1 : ∃ (c t : Nat) (l : List Int) (p : Pattern) (pl : Placement) (ins : List InBlk) (s : State), (s.aud.block = some t) ∧ (s.patOf (copyShadow c) = some p) ∧ (s.placeOf (copyShadow c) = some pl) ∧ (copyNode c < p.nodes.length ∧ c < 2048) ∧ (s.mayProcess c t = true) ∧ (s.inputs p pl c t l = some ins) :=
  ⟨0, 1000000, [], pat0, place0, [⟨0, 0, 1000000, silence 48, false, false⟩], aud0, by decide +kernel⟩

theorem witness_AudioEventsComplete_2 : ∃ (k n : Nat) (b : Bytes) (s u : State), (s.swc.transit[k]? = some (n, b)) ∧ (s.firstIn k = true) ∧ (u = s.onSwc fun w => { w with transit := w.transit.eraseIdx k }) :=
  ⟨0, 2, [0x20], on0.onSwc fun w => { w with transit := [(2, [0x20])] }, (on0.onSwc fun w => { w with transit := [(2, [0x20])] }).onSwc fun w => { w with transit := w.transit.eraseIdx 0 }, by decide⟩

theorem witness_AudioEventsComplete_3 : ∃ (edge copy t : Nat) (p : Pattern) (pl : Placement) (e : PEdge) (s : State), (s.aud.block = some t) ∧ (s.aud.pat = some p) ∧ (s.cht.place = some pl) ∧ (s.pastInput t = true) ∧ (edge < 1024) ∧ (p.edges[edge]? = some e) ∧ ((pl.copies 0 e.dst).contains (e.dst + 512 * (copy % 2)) = true) ∧ ((((pl.copies 0 e.frm).map s.engineOf).filter fun x => x != s.engineOf (e.dst + 512 * (copy % 2))) ≠ []) ∧ (s.inputOf (e.dst + 512 * (copy % 2)) e.inp t = none) :=
  ⟨0, 0, 1000000, pat0, place0, ⟨0, 0, 0, 1, 0⟩, (aud0.wr R.TIM_NOW 1900000), by decide +kernel⟩

theorem witness_AudioEventsComplete_4 : ∃ (edge copy t : Nat) (p : Pattern) (pl : Placement) (s : State), (s.aud.block = some t) ∧ (s.aud.pat = some p) ∧ (s.cht.place = some pl) ∧ (s.pastInput t = true) ∧ (1024 ≤ edge) ∧ ((p.node (edge - 1024)).kind = K.PLY_IN) ∧ ((pl.copies 0 (edge - 1024)).contains (edge - 1024 + 512 * (copy % 2)) = true) ∧ (s.inputOf (edge - 1024 + 512 * (copy % 2)) 0 t = none) ∧ (s.unfed p pl (edge - 1024) 0 = none) :=
  ⟨1024, 0, 1000000, ply0, place0, (aud0.wr R.TIM_NOW 1900000).onAud fun a => { a with pat := some ply0 }, by decide +kernel⟩

theorem witness_AudioEventsComplete_5 : ∃ (kind unit chan : Nat) (s : State), (s.aud.missing.contains (256 * kind + 16 * unit + chan) = true) :=
  ⟨0, 0, 0, on0.onAud fun a => { a with missing := [0] }, by decide⟩

theorem witness_AudioEventsComplete_6 : ∃ (b : Bytes) (l : List Bytes) (s : State), (s.swc.aIn = b :: l) :=
  ⟨[1], [], on0.onSwc fun w => { w with aIn := [[1]] }, by decide⟩

theorem witness_AudioEventsComplete_7 : ∃ (n : Nat) (s : State), (n < 8) ∧ (s.on (F.AUD_AIN_CTL_BIAS_EN n) = true) ∧ (bitOf s.aud.biasOff n = false) :=
  ⟨3, on0.put (F.AUD_AIN_CTL_BIAS_EN 3) 1, by decide⟩

theorem witness_AudioOpcodesComplete_1 : ∃ (r : Nat) (d : Desc) (s t u : State), (s.cur r 7 1 = some d) ∧ (patternFault s.slot d.buf d.len = none) ∧ (s.loadOk (parsePattern d.buf) = true) ∧ (t = if s.gauMode = 0 then s else s.gauAct (s.loadMw (parsePattern d.buf))) ∧ (u = if t.get F.AUD_STAT_STATE = 1 then t.put F.AUD_STAT_STATE 2 else t) :=
  ⟨0, patD, withD on0 patD, withD on0 patD, withD on0 patD, by decide +kernel⟩

theorem witness_AudioOpcodesComplete_2 : ∃ (r : Nat) (f : PFault) (d : Desc) (s : State), (s.cur r 7 1 = some d) ∧ (patternFault s.slot d.buf d.len = some f) :=
  ⟨0, ⟨1, 0, 0⟩, mkDesc 7 1 0 4 [], withD on0 (mkDesc 7 1 0 4 []), by decide +kernel⟩

theorem witness_AudioOpcodesComplete_3 : ∃ (r i off len : Nat) (d : Desc) (p : Pattern) (s : State), (s.cur r 7 2 = some d) ∧ (s.aud.pat = some p) ∧ (u16 d.raw 20 = i ∧ u8 d.raw 22 = off ∧ u8 d.raw 23 = len ∧ i < p.nodes.length ∧ 0 < len ∧ len ≤ 32) ∧ (d.noBuf = true) ∧ (((p.node i).starred.any fun r => decide (r.1 ≤ off) && decide (off + len ≤ r.2 + 1)) = true) ∧ (({ p.node i with raw := patch (p.node i).raw off (slice d.raw 24 len) } : PNode).paramOk = true) :=
  ⟨0, 1, 8, 2, mkDesc 7 2 0 0 [1, 0, 8, 2, 0, 0], pat0, withD aud0 (mkDesc 7 2 0 0 [1, 0, 8, 2, 0, 0]), by decide +kernel⟩

theorem witness_AudioOpcodesComplete_4 : ∃ (r : Nat) (d : Desc) (p : Pattern) (s : State), (s.cur r 7 3 = some d) ∧ (s.aud.pat = some p) ∧ (u16 d.raw 20 < p.nodes.length) :=
  ⟨0, mkDesc 7 3 0x10000000 64 [1], pat0, withD aud0 (mkDesc 7 3 0x10000000 64 [1]), by decide⟩

theorem witness_AudioOpcodesComplete_5 : ∃ (s : State), (s.aud.pat = none) :=
  ⟨on0, by decide⟩

theorem witness_AudioOpcodesComplete_6 : ∃ (r k n : Nat) (l : List Nat) (d : Desc) (s : State), (s.cur r 7 4 = some d) ∧ (u8 d.raw 20 = k ∧ k < 64 ∧ d.len % 6 = 0 ∧ d.len ≤ 2880000) ∧ (s.slotPlays k = false) ∧ (n = min 4096 (d.len / 6 - d.prog)) ∧ (l = (if d.prog = 0 then [] else storeGet noChime s.aud.chimes k) ++ words48 n (d.buf.drop (6 * d.prog))) :=
  ⟨0, 1, 1, [0], mkSrc 7 4 [1] (zeros 6), withD on0 (mkSrc 7 4 [1] (zeros 6)), by decide⟩

theorem witness_AudioOpcodesComplete_7 : ∃ (r k : Nat) (d : Desc) (s : State), (s.cur r 7 5 = some d) ∧ (u8 d.raw 20 = k) ∧ (streamSetOk d = true) ∧ (s.streamUsed k = false) :=
  ⟨0, 3, mkDesc 7 5 0 0 [3, 0, 0, 2, 0, 6, 1], withD on0 (mkDesc 7 5 0 0 [3, 0, 0, 2, 0, 6, 1]), by decide⟩

theorem witness_ChartEventsComplete_1 : ∃ (s t : State), (t = s.dropLoads) ∧ (t.cht.asks.isEmpty = false) ∧ (t.placing = false) ∧ (t.gau.moving = none) ∧ (t.cor.doze = false) :=
  ⟨aud0.askChart .failure, (aud0.askChart .failure).dropLoads, by decide⟩

theorem witness_ChartEventsComplete_2 : ∃ (b : Nat) (sh : Shadow) (s t : State), (t = s.dropLoads) ∧ (t.cht.shadow = some sh) ∧ (sh.block = some b) ∧ (sh.passed = false) ∧ (sh.mirrored = false) ∧ (t.pastInput b = true) ∧ (sh.late = false) ∧ (t.aud.block = some b) ∧ ((sh.copies.all fun c => t.aud.done.contains c) = true) :=
  ⟨1000000, sh0, shade true 1900000, (shade true 1900000).dropLoads, by decide +kernel⟩

theorem witness_ChartEventsComplete_3 : ∃ (b : Nat) (sh : Shadow) (s t : State), (t = s.dropLoads) ∧ (t.cht.shadow = some sh) ∧ (sh.block = some b) ∧ (sh.passed = false) ∧ (sh.mirrored = false) ∧ (t.pastInput b = true) ∧ (sh.late = true ∨ t.aud.block ≠ some b) :=
  ⟨1000000, { sh0 with late := true }, (shade true 1900000).onCht fun c => { c with shadow := some { sh0 with late := true } }, ((shade true 1900000).onCht fun c => { c with shadow := some { sh0 with late := true } }).dropLoads, by decide +kernel⟩

theorem witness_ChartEventsComplete_4 : ∃ (b : Nat) (sh : Shadow) (s t : State), (t = s.dropLoads) ∧ (t.cht.shadow = some sh) ∧ (t.aud.block = some b) ∧ (sh.passed = true) ∧ (sh.block ≠ some b) :=
  ⟨2000000, { sh0 with passed := true }, ((shade true 2000000).onCht fun c => { c with shadow := some { sh0 with passed := true } }).onAud fun a => { a with block := some 2000000 }, (((shade true 2000000).onCht fun c => { c with shadow := some { sh0 with passed := true } }).onAud fun a => { a with block := some 2000000 }).dropLoads, by decide +kernel⟩

theorem witness_ChartEventsComplete_5 : ∃ (e b : Nat) (p : Pattern) (pl : Placement) (s : State), (s.aud.block = some b) ∧ (s.aud.pat = some p) ∧ (s.cht.place = some pl) ∧ (((List.range p.nodes.length).any fun i => (pl.copies 0 i).any fun c => s.engineOf c == e && !s.aud.done.contains c) = true) ∧ (before s.timNow ((b + 950000) % 2 ^ 32) = false) :=
  ⟨0, 1000000, pat0, place0, aud0.wr R.TIM_NOW 1960000, by decide +kernel⟩

theorem witness_ChartEventsComplete_6 : ∃ (e n : Nat) (s u v : State), (e < 16) ∧ (s.engineOn e = true) ∧ (n = min 15 (s.get (F.CHT_ENG_STAT_FAILS e) + 1)) ∧ (u = ((s.put (F.CHT_ENG_STAT_FAILS e) n).count C.CHT_ENG_FAIL).raise F.CHT_EVT_ENG_FAIL) ∧ (v = if max 1 (u.get F.CHT_CTL_FAIL_LIMIT) ≤ n then ((u.put (F.CHT_ENG_STAT_STATE e) 3).set1 F.CHT_EXCLUDED_ENG e).raise F.CHT_EVT_ENG_EXCLUDED else u.put (F.CHT_ENG_STAT_STATE e) 2) :=
  ⟨0, 1, aud0, failed0, failed0.put (F.CHT_ENG_STAT_STATE 0) 2, by decide +kernel⟩

theorem witness_ChartEventsComplete_7 : ∃ (e : Nat) (s : State), (e < 16) ∧ (s.get (F.CHT_ENG_STAT_STATE e) = 2) :=
  ⟨3, on0.put (F.CHT_ENG_STAT_STATE 3) 2, by decide⟩

theorem witness_ChartOpcodesComplete_1 : ∃ (r : Nat) (d : Desc) (s : State), (s.cur r 8 1 = some d) :=
  ⟨0, mkDesc 8 1 0x10000000 64 [], withD on0 (mkDesc 8 1 0x10000000 64 []), by decide⟩

theorem witness_ChartOpcodesComplete_2 : ∃ (r : Nat) (d : Desc) (pl : Placement) (s : State), (s.cur r 8 2 = some d) ∧ (u8 d.raw 20 ≤ 4 ∧ u8 d.raw 21 < 4) ∧ (patternFault s.slot d.buf d.len = none) ∧ (((parsePattern d.buf).search (bitOf (u8 d.raw 21) 0) (u8 d.raw 20) (if bitOf (u8 d.raw 21) 1 then [] else s.badEngines) []).toOption = some pl) :=
  ⟨0, checkD, checkPl, withD on0 checkD, by decide +kernel⟩

theorem witness_ChartOpcodesComplete_3 : ∃ (r : Nat) (d : Desc) (f : PFault) (s : State), (s.cur r 8 2 = some d) ∧ (u8 d.raw 20 ≤ 4 ∧ u8 d.raw 21 < 4) ∧ (patternFault s.slot d.buf d.len = some f) :=
  ⟨0, mkDesc 8 2 0 4 [], ⟨1, 0, 0⟩, withD on0 (mkDesc 8 2 0 4 []), by decide +kernel⟩

theorem witness_ChartOpcodesComplete_4 : ∃ (r : Nat) (d : Desc) (s : State), (s.cur r 8 3 = some d) ∧ (768 ≤ d.len) ∧ (carveOk d.buf = true) :=
  ⟨0, mkSrc 8 3 [] (zeros 768), withD on0 (mkSrc 8 3 [] (zeros 768)), by decide +kernel⟩

theorem witness_CanControllerCommandsComplete_1 : ∃ (n : Nat), (n < 12) :=
  ⟨3, by decide⟩

theorem witness_CanControllerCommandsComplete_2 : ∃ (n : Nat), (n < 12) :=
  ⟨3, by decide⟩

theorem witness_CanControllerCommandsComplete_3 : ∃ (n v : Nat) (s : State), (n < 12) ∧ (s.canState n = 3) ∧ (bitOf v 1 = false) :=
  ⟨3, 0, on0.put (F.CAN_STAT_STATE 3) 3, by decide⟩

theorem witness_CanControllerCommandsComplete_4 : ∃ (n fmt : Nat) (s : State), (s.onBus n = true) ∧ (s.canBarred n fmt = true) :=
  ⟨3, 2, can1, by decide⟩

theorem witness_CanControllerCommandsComplete_5 : ∃ (n : Nat) (s : State), (s.canState n = 3) ∧ ((s.ctl n).recovering = true) :=
  ⟨3, (on0.put (F.CAN_STAT_STATE 3) 3).setCtl 3 { ctlDefault 0 with recovering := true }, by decide⟩

theorem witness_CanControllerCommandsComplete_6 : ∃ (n : Nat) (s : State), (n < 8) ∧ (s.onBus n = true) ∧ ((s.ctl n).cur = none) ∧ (s.on (F.CAN_STAT_SWAPPED n) = false) :=
  ⟨3, can1, by decide⟩

theorem witness_CanControllerCommandsComplete_7 : ∃ (n : Nat) (s : State), (n < 8) ∧ ((s.ctl n).cur.isSome = true) :=
  ⟨3, canTx, by decide⟩

theorem witness_CanControllerCommandsComplete_8 : ∃ (n : Nat) (s : State), (n < 12) ∧ (s.canState n ≠ 0) ∧ (s.trcv n < 2) ∧ ((s.ctl n).integrating = true) :=
  ⟨3, can1.setCtl 3 { ctlDefault 0 with integrating := true }, by decide⟩

theorem witness_CanFrameEventsComplete_1 : ∃ (n : Nat) (f : CanFrame) (s : State), (s.onBus n = true) ∧ (s.get (F.CAN_CTL_MODE n) ≠ 2) ∧ (s.canBarred n f.fmt = false) :=
  ⟨3, canF, can1, by decide⟩

theorem witness_CanFrameEventsComplete_2 : ∃ (n q : Nat) (s : State), (s.onBus n = true) ∧ (s.listens n = false) ∧ (s.pai.sw.isSome = false) ∧ (s.canHeld n = false) ∧ ((s.ctl n).cur = none) ∧ ((s.ctl n).best = some q) :=
  ⟨3, 0, can1.setCtl 3 { ctlDefault 0 with txq := [[⟨canF, 0, 0, none⟩], [], [], []] }, by decide⟩

theorem witness_CanFrameEventsComplete_3 : ∃ (n q : Nat) (x : CanTx) (s u : State), (s.onWire n = some (q, x)) ∧ ((s.ctl n).last = false) ∧ (u = ((s.count (C.CAN_ARB_LOST n)).idleTx n).setHead n q { x with losses := x.losses + 1 }) :=
  ⟨3, 0, ⟨canF, 0, 0, none⟩, canTx, ((canTx.count (C.CAN_ARB_LOST 3)).idleTx 3).setHead 3 0 ⟨canF, 1, 0, none⟩, by decide⟩

theorem witness_CanFrameEventsComplete_4 : ∃ (n q : Nat) (x : CanTx) (s : State), (s.onWire n = some (q, x)) ∧ ((s.ctl n).released = false) :=
  ⟨3, 0, ⟨canF, 0, 0, none⟩, canTx, by decide⟩

theorem witness_CanFrameEventsComplete_5 : ∃ (n q : Nat) (x : CanTx) (s : State), (s.onWire n = some (q, x)) ∧ ((s.ctl n).last = false) :=
  ⟨3, 0, ⟨canF, 0, 0, none⟩, canTx, by decide⟩

theorem witness_CanFrameEventsComplete_6 : ∃ (n : Nat) (e : CanErr) (s u : State), (s.onBus n = true) ∧ (s.get (F.CAN_CTL_MODE n) ≠ 2) ∧ (u = (s.count (C.CAN_RX_ERR n)).showErr n { e with kind := if e.kind = 3 then 2 else e.kind }) :=
  ⟨3, ⟨1, false, false, false, false, 0⟩, can1, (can1.count (C.CAN_RX_ERR 3)).showErr 3 ⟨1, false, false, false, false, 0⟩, by decide⟩

theorem witness_CanOpcodesComplete_1 : ∃ (r n q : Nat) (d : Desc) (s : State), (s.cur r 9 1 = some d) ∧ (u8 d.raw 20 = n ∧ u8 d.raw 21 = q ∧ n ≤ 11 ∧ q ≤ 3) ∧ (s.bit (F.CAN_TX_MASK_MASK n) (s.dPid d) = true) ∧ (s.txBad d = false) ∧ (s.canState n = 1 ∨ s.canState n = 2) ∧ (s.listens n = false) ∧ (s.txFull n q = false) :=
  ⟨0, 3, 0, mkDesc 9 1 0 0 [3], withD (can1.set1 (F.CAN_TX_MASK_MASK 3) 0) (mkDesc 9 1 0 0 [3]), by decide +kernel⟩

theorem witness_CanOpcodesComplete_2 : ∃ (r n q : Nat) (d : Desc) (s : State), (s.cur r 9 1 = some d) ∧ (u8 d.raw 20 = n ∧ u8 d.raw 21 = q ∧ n ≤ 11 ∧ q ≤ 3) :=
  ⟨0, 3, 0, mkDesc 9 1 0 0 [3], withD on0 (mkDesc 9 1 0 0 [3]), by decide⟩

theorem witness_CanOpcodesComplete_3 : ∃ (r n q : Nat) (t : List Bytes) (d : Desc) (s : State), (s.cur r 9 2 = some d) ∧ (u8 d.raw 20 = n ∧ u8 d.raw 21 = q ∧ n ≤ 11 ∧ q ≤ 7) ∧ (s.bit (F.CAN_RX_MASK_MASK n) (s.dPid d) = true) ∧ (t = takeFit d.len ((s.ctl n).rxQ q)) ∧ (t.flatten = [] ∨ (s.fabWrite (.round d.round) d.addr t.flatten).2 = St.OK) :=
  ⟨0, 3, 0, [], mkDesc 9 2 0 0 [3], withD (can1.set1 (F.CAN_RX_MASK_MASK 3) 0) (mkDesc 9 2 0 0 [3]), by decide +kernel⟩

theorem witness_CanOpcodesComplete_4 : ∃ (r n a b c : Nat) (d : Desc) (s : State), (s.cur r 9 3 = some d) ∧ (u8 d.raw 20 = n ∧ n ≤ 11) ∧ (s.bit (F.CAN_RX_MASK_MASK n) (s.dPid d) = true) ∧ (u16 d.raw 22 = a ∧ u16 d.raw 24 = b ∧ u16 d.raw 26 = c ∧ a ≤ 256 ∧ b ≤ 256 ∧ c ≤ 128) ∧ (u8 d.raw 28 ≤ 1 ∧ u8 d.raw 29 ≤ 7 ∧ d.len = 16 * (a + b + c)) ∧ (firstFilterBad n 0 0 (rec16 a d.buf) = none) ∧ (firstFilterBad n 1 0 (rec16 b (d.buf.drop (16 * a))) = none) ∧ (firstFilterBad n 2 0 (rec16 c (d.buf.drop (16 * (a + b)))) = none) :=
  ⟨0, 3, 0, 0, 0, mkDesc 9 3 0 0 [3], withD (can1.set1 (F.CAN_RX_MASK_MASK 3) 0) (mkDesc 9 3 0 0 [3]), by decide +kernel⟩

theorem witness_GatewayEventsComplete_1 : ∃ (h : Option Nat) (b : Bytes) (l : List (Option Nat × Bytes)) (s : State), (s.swc.wIn = (h, b) :: l) :=
  ⟨none, [1], [], on0.onSwc fun w => { w with wIn := [(none, [1])] }, by decide⟩

theorem witness_GatewayEventsComplete_2 : ∃ (r : Nat) (h : GwFrame) (s u : State), (u = s.gwRefill r) ∧ ((u.gwRule r).held = some h) ∧ (u.gwEligible r h.f.data.length = true) :=
  ⟨0, ⟨canF, 1, 0, 0, 0⟩, gwHeld, gwHeld.gwRefill 0, by decide⟩

theorem witness_GatewayEventsComplete_3 : ∃ (k : Nat) (m : GwMap) (s : State), (s.gwMap k = m) ∧ (m.raw.isEmpty = false) ∧ (m.tmo = false) ∧ (m.tmoMs ≠ 0) ∧ (m.timer + 1000000 * m.tmoMs ≤ s.now) :=
  ⟨0, ⟨gwMapRaw, 0, false⟩, (on0.setGwMap 0 ⟨gwMapRaw, 0, false⟩).setNow 1000000000000, by decide⟩

theorem witness_GatewayEventsComplete_4 : ∃ (k : Nat) (p : GwPdu) (s : State), (s.gwPdu k = p) ∧ (bitOf p.mode 1 = true) ∧ (p.next ≤ s.now) :=
  ⟨0, ⟨[0], 2, 10, 0⟩, on0.setGwPdu 0 ⟨[0], 2, 10, 0⟩, by decide⟩

theorem witness_GatewayEventsComplete_5 : ∃ (t : Nat) (s : State), ((s.gwTmpl t).msgs.isEmpty = false) ∧ ((s.gwTmpl t).first + 1000 * (s.gwTmpl t).batch ≤ s.now) :=
  ⟨0, (on0.setGwTmpl 0 { on0.gwTmpl 0 with msgs := [[1]] }).setNow 1000000000, by decide⟩

theorem witness_GatewayEventsComplete_6 : ∃ (r : Nat) (d : Desc) (l : List Desc) (s : State), (s.gwRecvs r = d :: l) ∧ (d.acc ≠ 0) ∧ (storeGet cntDefault s.gwy.recvAt (recvKey d) + 1000 * u32 d.raw 20 ≤ s.now) :=
  ⟨0, { mkDesc 0x0A 6 0 0 [] with running := true, acc := 1 }, [], withD on0 { mkDesc 0x0A 6 0 0 [] with running := true, acc := 1 }, by decide⟩

theorem witness_GatewayOpcodesComplete_1 : ∃ (r k : Nat) (d : Desc) (v : GwRule) (s : State), (s.cur r 10 1 = some d) ∧ (s.bit F.GWY_CFG_MASK_MASK (s.dPid d) = true) ∧ (v = { gwRuleDefault 0 with raw := d.buf, last := s.now }) ∧ (u16 d.raw 20 = k ∧ k ≤ 2047 ∧ d.len = 64) ∧ (v.bad = false) ∧ (s.gwDup k v = false) ∧ (s.gwNoKey v = false) :=
  ⟨0, 0, gwRuleD, { gwRuleDefault 0 with raw := gwRuleD.buf, last := 0 }, withD (on0.set1 F.GWY_CFG_MASK_MASK 0) gwRuleD, by decide +kernel⟩

theorem witness_GatewayOpcodesComplete_2 : ∃ (r : Nat) (d : Desc) (s : State), (s.cur r 10 2 = some d) ∧ (s.bit F.GWY_CFG_MASK_MASK (s.dPid d) = true) ∧ (0 < u16 d.raw 22 ∧ u16 d.raw 20 + u16 d.raw 22 ≤ 4096 ∧ d.len = 24 * u16 d.raw 22) ∧ (((List.range (u16 d.raw 22)).any fun i => GwMap.bad ⟨slice d.buf (24 * i) 24, 0, false⟩) = false) :=
  ⟨0, mkSrc 10 2 [0, 0, 1, 0] gwMapRaw, withD (on0.set1 F.GWY_CFG_MASK_MASK 0) (mkSrc 10 2 [0, 0, 1, 0] gwMapRaw), by decide +kernel⟩

theorem witness_GatewayOpcodesComplete_3 : ∃ (r k n m per : Nat) (d : Desc) (s : State), (s.cur r 10 3 = some d) ∧ (s.bit F.GWY_CFG_MASK_MASK (s.dPid d) = true) ∧ (u16 d.raw 20 = k ∧ u8 d.raw 22 = n ∧ u8 d.raw 23 = m ∧ u16 d.raw 24 = per) ∧ (k ≤ 511 ∧ 0 < n ∧ n ≤ 64 ∧ m ≤ 3 ∧ d.len = n) ∧ (bitOf m 1 = false ∨ 0 < per) :=
  ⟨0, 0, 1, 0, 0, mkSrc 10 3 [0, 0, 1] [7], withD (on0.set1 F.GWY_CFG_MASK_MASK 0) (mkSrc 10 3 [0, 0, 1] [7]), by decide +kernel⟩

theorem witness_GatewayOpcodesComplete_4 : ∃ (r t : Nat) (d : Desc) (s : State), (s.cur r 10 4 = some d) ∧ (s.bit F.GWY_CFG_MASK_MASK (s.dPid d) = true) ∧ (u8 d.raw 20 = t ∧ t ≤ 63 ∧ 0 < u8 d.raw 21 ∧ u8 d.raw 21 ≤ 64 ∧ d.len = u8 d.raw 21) ∧ (u16 d.raw 22 ≤ 1000 ∧ 20 ≤ u16 d.raw 24 ∧ u16 d.raw 24 ≤ 1480) :=
  ⟨0, 0, mkSrc 10 4 [0, 1, 0, 0, 100] [7], withD (on0.set1 F.GWY_CFG_MASK_MASK 0) (mkSrc 10 4 [0, 1, 0, 0, 100] [7]), by decide +kernel⟩

theorem witness_GatewayOpcodesComplete_5 : ∃ (r c v : Nat) (d : Desc) (s : State), (s.cur r 10 5 = some d) ∧ (s.bit F.GWY_CFG_MASK_MASK (s.dPid d) = true) ∧ (u16 d.raw 20 = c ∧ c ≤ 511 ∧ u32 d.raw 24 = v) :=
  ⟨0, 0, 0, mkDesc 10 5 0 0 [], withD (on0.set1 F.GWY_CFG_MASK_MASK 0) (mkDesc 10 5 0 0 []), by decide +kernel⟩

theorem witness_GatewayOpcodesComplete_6 : ∃ (r : Nat) (d : Desc) (s : State), (s.cur r 10 6 = some d) :=
  ⟨0, mkDesc 10 6 0 0 [], withD on0 (mkDesc 10 6 0 0 []), by decide⟩

theorem witness_GatewayOpcodesComplete_7 : ∃ (r : Nat) (d : Desc) (s : State), (s.cur r 10 7 = some d) ∧ (u16 d.raw 20 ≤ 2047 ∧ 32 ≤ d.len) :=
  ⟨0, mkDesc 10 7 0x10000000 32 [], withD on0 (mkDesc 10 7 0x10000000 32 []), by decide⟩

theorem witness_GatewayOpcodesComplete_8 : ∃ (d : Desc) (s : State), (s.bit F.GWY_CFG_MASK_MASK (s.dPid d) = false) :=
  ⟨mkDesc 10 5 0 0 [], withD (on0.put F.GWY_CFG_MASK_MASK 0) (mkDesc 10 5 0 0 []), by decide⟩

theorem witness_WakeCommandsComplete_1 : ∃ (r mode : Nat) (d : Desc) (s : State), (s.cur r 11 1 = some d) ∧ (s.wakMay (s.dPid d) = true) ∧ (u8 d.raw 20 = mode ∧ mode ≤ 1) ∧ (s.modState = Mod.RUN) ∧ ((List.range 29).any (s.windowsEnd.armed mode) = true) :=
  ⟨0, 0, mkDesc 11 1 0 0 [0], withD wak0 (mkDesc 11 1 0 0 [0]), by decide +kernel⟩

theorem witness_WakeCommandsComplete_2 : ∃ (r : Nat) (d : Desc) (s : State), (s.cur r 11 1 = some d) :=
  ⟨0, mkDesc 11 1 0 0 [0], withD on0 (mkDesc 11 1 0 0 [0]), by decide⟩

theorem witness_WakeCommandsComplete_3 : ∃ (s : State), (s.modState = Mod.ENTERING) ∧ (s.wak.asleep = false) ∧ (s.drained = true) :=
  ⟨drain0, by decide⟩

theorem witness_WakeCommandsComplete_4 : ∃ (s : State), (s.modState = Mod.ENTERING) ∧ (s.wak.asleep = false) ∧ (s.wak.drainBy ≤ s.now) ∧ (s.drained = false) :=
  ⟨on0.put F.WAK_STAT_STATE Mod.ENTERING, by decide⟩

theorem witness_WakeCommandsComplete_5 : ∃ (src : Nat) (s : State), (src < 29) ∧ (s.wak.vaon = true) ∧ (s.inBackoff src = true) :=
  ⟨3, on0.set1 F.WAK_BACKOFF_SRC 3, by decide⟩

theorem witness_WakeCommandsComplete_6 : ∃ (src : Nat) (s : State), (src < 29) ∧ (s.wak.vaon = true) ∧ (s.inBackoff src = false) ∧ (s.wak.live = false) ∧ (s.bit F.WAK_SRC_EN_SRC src = true) :=
  ⟨3, (on0.set1 F.WAK_SRC_EN_SRC 3).onWak fun w => { w with live := false }, by decide⟩

theorem witness_WakeCommandsComplete_7 : ∃ (src : Nat) (s u : State), (src < 29) ∧ (s.wak.vaon = true) ∧ (s.inBackoff src = false) ∧ (s.wak.live = true) ∧ (s.wak.asleep = false) ∧ (s.pow.logic = true) ∧ (s.armed s.wak.mode src = true) ∧ (u = (s.recordWake src false (s.modState == Mod.DOZE)).onWak fun w => { w with woken := if w.woken.contains src then w.woken else w.woken ++ [src] }) :=
  ⟨3, doze0, (doze0.recordWake 3 false (doze0.modState == Mod.DOZE)).onWak fun w => { w with woken := if w.woken.contains 3 then w.woken else w.woken ++ [3] }, by decide +kernel⟩

theorem witness_WakeCommandsComplete_8 : ∃ (t : Nat) (s : State), (s.wak.timerAt = some t) ∧ (s.get F.WAK_TIMER_MS ≠ 0) ∧ (1000000 * s.get F.WAK_TIMER_MS ≤ s.rcNs (s.now - t)) :=
  ⟨0, ((on0.put F.WAK_TIMER_MS 1).onWak fun w => { w with timerAt := some 0 }).setNow 2000000, by refine ⟨by decide, by decide, Nat.le_trans (by decide) (State.rcNs_ge _ _)⟩⟩

theorem witness_WakeCommandsComplete_9 : ∃ (s : State), (s.wak.asleep = true) ∧ (s.wak.caused = true) ∧ (2000000 ≤ s.rcNs (s.now - s.wak.commitAt)) :=
  ⟨(on0.onWak fun w => { w with asleep := true, caused := true }).setNow 1000000000, by refine ⟨by decide, by decide, Nat.le_trans (by decide) (State.rcNs_ge _ _)⟩⟩

theorem witness_WakeCommandsComplete_10 : ∃ (pid n : Nat) (s : State), (n < 8) ∧ (s.wakMay pid = true) :=
  ⟨0, 3, wak0, by decide⟩

theorem witness_WakeCommandsComplete_11 : ∃ (n : Nat) (s : State), (n < 8) ∧ (s.wak.vaon = true) ∧ (2 ≤ s.trcv n) :=
  ⟨3, on0.put (F.WAK_TRCV_STAT_STATE 3) 3, by decide⟩

theorem witness_WakeCommandsComplete_12 : ∃ (src : Nat) (x : Nat × WakeWin) (s : State), ((s.wak.windows.find? fun x => x.1 == src) = some x) ∧ (x.2.ends ≤ s.aonNs) :=
  ⟨3, (3, ⟨0, false⟩), on0.onWak fun w => { w with windows := [(3, ⟨0, false⟩)] }, by exact ⟨by decide, Nat.zero_le _⟩⟩

theorem witness_WakeCommandsComplete_13 : ∃ (pid : Nat) (s : State), (s.wakMay pid = true) :=
  ⟨0, wak0, by decide⟩

theorem witness_WakeCommandsComplete_14 : ∃ (pid : Nat) (s : State), (s.wakMay pid = false) :=
  ⟨40, on0, by decide⟩

theorem witness_WakeCommandsComplete_15 : ∃ (src : Nat) (s : State), (src < 29) ∧ (s.backoffUntil src ≤ s.aonS) ∧ (s.inBackoff src = true) :=
  ⟨3, on0.set1 F.WAK_BACKOFF_SRC 3, by decide⟩

theorem witness_WakeCommandsComplete_16 : ∃ (s : State), (s.wak.vaon = false) :=
  ⟨on0.onWak fun w => { w with vaon := false }, by decide⟩

theorem witness_WakeCommandsComplete_17 : ∃ (s : State), (s.wak.vaon = true) :=
  ⟨on0, by decide⟩

theorem witness_LoadChannelEventsComplete_1 : ∃ (n : Nat) (s : State), (s.isLeader n = true) ∧ (s.chState n = Ch.INRUSH) ∧ (1000000 * cfgInrushMs (s.cfg n) ≤ s.dieSince (n / 8) (s.ldcCh n).inrushAt) :=
  ⟨3, (ldc0.put (F.LDC_L_STAT_STATE 3) 1).setNow (10 ^ 18), by refine ⟨by decide, by decide, Nat.le_trans (by decide) (State.dieSince_ge _ _ _)⟩⟩

theorem witness_LoadChannelEventsComplete_2 : ∃ (n : Nat) (s : State), (n < 32) ∧ (s.chState n = Ch.ON) ∧ (100000 * cfgLimTime (s.cfg n) ≤ s.dieSince (n / 8) (s.ldcCh (s.leader n)).onAt) :=
  ⟨3, (ldc0.put (F.LDC_L_STAT_STATE 3) 2).setNow (10 ^ 18), by refine ⟨by decide, by decide, Nat.le_trans (by decide) (State.dieSince_ge _ _ _)⟩⟩

theorem witness_LoadChannelEventsComplete_3 : ∃ (n mA : Nat) (s : State), (n < 32) ∧ (s.conducts n = true) ∧ (3 * s.limitMa n ≤ mA) :=
  ⟨3, 60000, ldc0.put (F.LDC_L_STAT_STATE 3) 2, by decide⟩

theorem witness_LoadChannelEventsComplete_4 : ∃ (n : Nat) (s : State), (n < 32) ∧ (s.conducts n = true) :=
  ⟨3, ldc0.put (F.LDC_L_STAT_STATE 3) 2, by decide⟩

theorem witness_LoadChannelEventsComplete_5 : ∃ (n : Nat) (tj tc : Int) (s : State), (s.isLeader n = true) ∧ (s.chState n = Ch.TRIPPED) ∧ (1000000 * cfgRetryMs (s.cfg n) ≤ s.dieSince (n / 8) (s.ldcCh n).tripAt) ∧ (tj - tc < (cfgTlim (s.cfg n) : Int) - 15) ∧ (tj < 160) :=
  ⟨3, 20, 20, (ldc0.put (F.LDC_L_STAT_STATE 3) 3).setNow (10 ^ 18), by refine ⟨by decide, by decide, Nat.le_trans (by decide) (State.dieSince_ge _ _ _), by decide, by decide⟩⟩

theorem witness_LoadChannelEventsComplete_6 : ∃ (n : Nat) (s : State), (s.isLeader n = true) ∧ (s.chState n = Ch.ON) ∧ (1000000000 ≤ s.dieSince (n / 8) (s.ldcCh n).onAt) :=
  ⟨3, (ldc0.put (F.LDC_L_STAT_STATE 3) 2).setNow (10 ^ 18), by refine ⟨by decide, by decide, Nat.le_trans (by decide) (State.dieSince_ge _ _ _)⟩⟩

theorem witness_LoadChannelEventsComplete_7 : ∃ (n w : Nat) (s : State), (n < 32) ∧ (w < 4) ∧ ((s.ldcBank (n / 8)).powered = true) ∧ (s.blanked n w = false) ∧ (s.evaluated n w = true) :=
  ⟨3, 0, ldc0, by decide⟩

theorem witness_LoadChannelEventsComplete_8 : ∃ (n w : Nat) (s : State), (n < 32) ∧ (w < 4) ∧ ((s.ldcBank (n / 8)).powered = true) ∧ (s.blanked n w = false) ∧ (s.evaluated n w = true) ∧ (s.diagArmed n w = true) :=
  ⟨3, 1, ldc0.setCh 3 { chDefault 3 with cfg := zeros 18 ++ [15] ++ zeros 13 }, by decide⟩

theorem witness_LoadBankEventsComplete_1 : ∃ (b : Nat) (s : State), (b < 4) ∧ ((s.ldcBank b).powered = true) :=
  ⟨0, ldc0, by decide⟩

theorem witness_LoadBankEventsComplete_2 : ∃ (b mA l : Nat) (s : State), (b < 4) ∧ ((s.ldcBank b).powered = true) ∧ (24000 < mA) ∧ ((s.ldcBank b).ovlAt = none) ∧ ((((chansOf b).filter fun n => s.isLeader n && s.conducts n).find? fun l => ((chansOf b).filter fun n => s.isLeader n && s.conducts n).all (s.tripsBefore l)) = some l) :=
  ⟨0, 30000, 3, ldc0.put (F.LDC_L_STAT_STATE 3) 2, by decide +kernel⟩

theorem witness_LoadBankEventsComplete_3 : ∃ (b mA l t : Nat) (s u : State), (b < 4) ∧ ((s.ldcBank b).powered = true) ∧ (24000 < mA) ∧ ((s.ldcBank b).ovlAt = some t) ∧ (1000000 ≤ s.dieSince b t) ∧ ((((chansOf b).filter fun n => s.isLeader n && s.conducts n).find? fun l => ((chansOf b).filter fun n => s.isLeader n && s.conducts n).all (s.tripsBefore l)) = some l) ∧ (u = if 100000000 ≤ s.dieSince b t then s.bankEvent b F.LDC_EVT_BANK_OVL else s) :=
  ⟨0, 30000, 3, 0, ovl0, ovl0.bankEvent 0 F.LDC_EVT_BANK_OVL, by refine ⟨by decide, by decide, by decide, by decide, Nat.le_trans (by decide) (State.dieSince_ge _ _ _), by decide +kernel, (if_pos (Nat.le_trans (by decide) (State.dieSince_ge _ _ _))).symm⟩⟩

theorem witness_LoadBankEventsComplete_4 : ∃ (b n t : Nat) (s : State), (b < 4) ∧ ((s.ldcBank b).blank = some (n, t)) ∧ (200000 ≤ s.dieSince b t) :=
  ⟨0, 3, 0, (ldc0.setNow (10 ^ 18)).setBank 0 { ldc0.ldcBank 0 with blank := some (3, 0) }, by refine ⟨by decide, by decide, Nat.le_trans (by decide) (State.dieSince_ge _ _ _)⟩⟩

theorem witness_LoadBankEventsComplete_5 : ∃ (b : Nat) (s : State), (b < 4) ∧ ((s.ldcBank b).powered = true) :=
  ⟨0, ldc0, by decide⟩

theorem witness_LoadBankEventsComplete_6 : ∃ (b mV : Nat) (s : State), (b < 4) ∧ ((s.ldcBank b).powered = false) ∧ (10000 < mV) :=
  ⟨0, 12000, on0, by decide⟩

theorem witness_LoadBankEventsComplete_7 : ∃ (b : Nat) (mV : Int), (b < 4) ∧ (mV < 9000) :=
  ⟨0, 0, by decide⟩

theorem witness_LoadLinkCommandsComplete_1 : ∃ (b : Nat) (s : State), (b < 4) ∧ (s.on (F.LDC_B_CTL_SYNC_EN b) = false) :=
  ⟨0, ldc0, by decide⟩

theorem witness_LoadLinkCommandsComplete_2 : ∃ (b : Nat) (whole : Bool) (s u : State), (b < 4) ∧ (s.pow.logic = true) ∧ (u = if whole && (s.ldcBank b).powered && (s.ldcBank b).armed then s.setBank b { s.ldcBank b with lastValid := s.now } else s) :=
  ⟨0, false, ldc0, ldc0, by decide⟩

theorem witness_LoadLinkCommandsComplete_3 : ∃ (b : Nat) (s : State), (b < 4) ∧ (1000000 * (s.ldcBank b).wdMs ≤ s.dieSince b (s.ldcBank b).lastValid) :=
  ⟨0, ldc0.setNow (10 ^ 18), by refine ⟨by decide, Nat.le_trans (by decide) (State.dieSince_ge _ _ _)⟩⟩

theorem witness_LoadLinkCommandsComplete_4 : ∃ (b : Nat) (s : State), (b < 4) ∧ ((s.ldcBank b).link = true) :=
  ⟨0, ldc0, by decide⟩

theorem witness_LoadLinkCommandsComplete_5 : ∃ (b : Nat) (s : State), (b < 4) ∧ ((s.ldcBank b).powered = true) ∧ ((s.ldcBank b).link = false) :=
  ⟨0, ldc0.setBank 0 { ldc0.ldcBank 0 with link := false }, by decide⟩

theorem witness_LoadOpcodesComplete_1 : ∃ (r n cmd duty : Nat) (d : Desc) (s : State), (s.cur r 12 1 = some d) ∧ (s.ldcMay d = true) ∧ (u8 d.raw 20 = n ∧ u8 d.raw 21 = cmd ∧ u16 d.raw 22 = duty ∧ cmd ≤ 2 ∧ duty ≤ 4095) ∧ (s.isLeader n = true) ∧ ((s.on F.PAI_CTL_EN = false ∧ u32 d.raw 24 = 0) ∨ (s.on F.PAI_CTL_EN = true ∧ u32 d.raw 24 = s.get F.PAI_TERM_TERM)) ∧ (s.dieThere (n / 8) = true) ∧ ((s.ldcBank (n / 8)).castOff = false) ∧ (s.chState n ≠ Ch.HELD) ∧ (s.affords (s.setDelta n cmd duty) s.floorPj = true) :=
  ⟨0, 3, 0, 0, mkDesc 12 1 0 0 [3], withD ldc0 (mkDesc 12 1 0 0 [3]), by decide +kernel⟩

theorem witness_LoadOpcodesComplete_2 : ∃ (r n : Nat) (d : Desc) (s : State), (s.cur r 12 2 = some d) ∧ (s.ldcMay d = true) ∧ (u8 d.raw 20 = n ∧ n < 32 ∧ d.len = 32) ∧ (cfgOk d.buf = true) ∧ (joinBad (fun m => if m = n then cfgJoin d.buf else cfgJoin (s.cfg m)) (n / 8) = false) ∧ (s.dieThere (n / 8) = true) ∧ (s.chState n = Ch.OFF) :=
  ⟨0, 3, mkSrc 12 2 [3] (ldcDefaults 3), withD ldc0 (mkSrc 12 2 [3] (ldcDefaults 3)), by decide +kernel⟩

theorem witness_LoadOpcodesComplete_3 : ∃ (r n m : Nat) (d : Desc) (s : State), (s.cur r 12 3 = some d) ∧ (s.ldcMay d = true) ∧ (u8 d.raw 20 = n ∧ u8 d.raw 21 = m ∧ m < 4) ∧ (s.isLeader n = true) ∧ (s.dieThere (n / 8) = true) ∧ ((s.chState n = Ch.LATCH_THERM ∧ bitOf m 0 = true) ∨ (s.chState n = Ch.LATCH_RETRY ∧ bitOf m 1 = true)) :=
  ⟨0, 3, 1, mkDesc 12 3 0 0 [3, 1], withD (ldc0.put (F.LDC_L_STAT_STATE 3) 4) (mkDesc 12 3 0 0 [3, 1]), by decide +kernel⟩

theorem witness_LoadOpcodesComplete_4 : ∃ (r : Nat) (d : Desc) (s : State), (s.cur r 12 4 = some d) ∧ (s.ldcMay d = true) ∧ (u8 d.raw 20 < 16) :=
  ⟨0, mkDesc 12 4 0 0 [1], withD ldc0 (mkDesc 12 4 0 0 [1]), by decide +kernel⟩

theorem witness_LoadOpcodesComplete_5 : ∃ (r b : Nat) (d : Desc) (s : State), (s.cur r 12 5 = some d) ∧ (d.prog = 0) ∧ (s.ldcMay d = true) ∧ (u8 d.raw 20 = b ∧ b < 4) ∧ (s.dieThere b = true) ∧ (((chansOf b).any fun n => s.chState n == Ch.HELD) = false) :=
  ⟨0, 0, mkDesc 12 5 0 0 [0], withD ldc0 (mkDesc 12 5 0 0 [0]), by decide +kernel⟩

theorem witness_LoadOpcodesComplete_6 : ∃ (r n : Nat) (d : Desc) (s : State), (s.cur r 12 6 = some d) ∧ (d.prog = 0) ∧ (s.ldcMay d = true) ∧ (n = ((List.range 32).filter (bitOf (u32 d.raw 20))).length) ∧ (0 < n ∧ 8 * n ≤ d.len) :=
  ⟨0, 1, mkDesc 12 6 0 8 [1], withD ldc0 (mkDesc 12 6 0 8 [1]), by decide +kernel⟩

theorem witness_LoadOpcodesComplete_7 : ∃ (d : Desc) (s : State), (s.ldcMay d = false) :=
  ⟨mkDesc 12 1 0 0 [3], withD (on0.put F.LDC_CFG_MASK_MASK 0) (mkDesc 12 1 0 0 [3]), by decide⟩

theorem witness_SerialAndInputCommandsComplete_1 : ∃ (n : Nat) (s : State), (n < 8) ∧ (s.on (F.SIO_U_CTL_EN n) = true) ∧ ((s.ser n).send = none) :=
  ⟨3, on0.put (F.SIO_U_CTL_EN 3) 1, by decide⟩

theorem witness_SerialAndInputCommandsComplete_2 : ∃ (n : Nat) (s : State), (n < 8) ∧ (s.on (F.SIO_U_CTL_EN n) = true) ∧ (s.on (F.SIO_U_FRM_MODE n) = false) ∧ ((s.ser n).inPdu = true) :=
  ⟨3, (on0.put (F.SIO_U_CTL_EN 3) 1).setSer 3 { serDefault 0 with inPdu := true }, by decide⟩

theorem witness_SerialAndInputCommandsComplete_3 : ∃ (n : Nat) (d : Desc) (l : List Desc) (s : State), (n < 8) ∧ ((s.ser n).send = none) ∧ (s.serDescs 1 n = d :: l) :=
  ⟨3, { mkSrc 13 1 [3] [7] with running := true }, [], withD on0 { mkSrc 13 1 [3] [7] with running := true }, by decide⟩

theorem witness_SerialAndInputCommandsComplete_4 : ∃ (n : Nat) (c : Byte) (l : Bytes) (s u : State), ((s.ser n).tx = c :: l) ∧ (u = s.setSer n { s.ser n with tx := l, sent := (s.ser n).sent + 1 }) :=
  ⟨3, 7, [], on0.setSer 3 { serDefault 0 with tx := [7] }, (on0.setSer 3 { serDefault 0 with tx := [7] }).setSer 3 { serDefault 0 with tx := [], sent := 1 }, by decide⟩

theorem witness_SerialAndInputCommandsComplete_5 : ∃ (n : Nat) (s : State), (n < 4) ∧ (s.on (F.SIO_U_CTL_POL_AUTO n) = true) ∧ ((s.ser n).inPdu = false) ∧ ((s.ser n).send = none) :=
  ⟨3, on0.put (F.SIO_U_CTL_POL_AUTO 3) 1, by decide⟩

theorem witness_SerialAndInputCommandsComplete_6 : ∃ (g : Nat) (s : State), (g < 4) ∧ (bitOf s.sio.due g = true) :=
  ⟨0, on0.setSio { on0.sio with due := 1 }, by decide⟩

theorem witness_SerialAndInputCommandsComplete_7 : ∃ (d : Desc) (s : State), (s.bit F.SIO_CFG_MASK_MASK (s.dPid d) = true) :=
  ⟨mkDesc 13 2 0 0 [3], on0.set1 F.SIO_CFG_MASK_MASK 0, by decide⟩

theorem witness_SerialAndInputCommandsComplete_8 : ∃ (d : Desc) (s : State), (s.bit F.SIO_CFG_MASK_MASK (s.dPid d) = false) :=
  ⟨mkDesc 13 2 0 0 [3], on0.put F.SIO_CFG_MASK_MASK 0, by decide⟩

theorem witness_GaugeCommandsComplete_1 : ∃ (r : Nat) (d : Desc) (s : State), (s.cur r 14 1 = some d) ∧ (s.gauMay (s.dPid d) = true) ∧ (u8 d.raw 20 ≤ 2) ∧ (u8 d.raw 20 = 0 ∨ (60 ≤ u32 d.raw 28 ∧ u32 d.raw 28 ≤ 86400)) :=
  ⟨0, mkDesc 14 1 0 0 [0], withD (on0.set1 F.GAU_CFG_MASK_MASK 0) (mkDesc 14 1 0 0 [0]), by decide +kernel⟩

theorem witness_GaugeCommandsComplete_2 : ∃ (r : Nat) (d : Desc) (s : State), (s.cur r 14 1 = some d) :=
  ⟨0, mkDesc 14 1 0 0 [0], withD on0 (mkDesc 14 1 0 0 [0]), by decide⟩

theorem witness_GaugeCommandsComplete_3 : ∃ (s : State), (s.gau.due = true ∨ s.gau.evalAt + 1000000 * s.get F.GAU_CTL_EVAL_MS ≤ s.now) :=
  ⟨on0.gaugeDue, by decide⟩

theorem witness_GaugeCommandsComplete_4 : ∃ (b : Nat) (s : State), (b < 4) ∧ ((s.ldcBank b).sampleAt + 100000000 ≤ s.now ∨ (s.ldcBank b).link = false) :=
  ⟨0, on0.setNow 100000000, by decide⟩

theorem witness_GaugeCommandsComplete_5 : ∃ (pid v : Nat) (s : State), (s.gauMay pid = true) ∧ (bitOf v 0 = true) :=
  ⟨0, 1, on0.set1 F.GAU_CFG_MASK_MASK 0, by decide⟩

theorem witness_GaugeCommandsComplete_6 : ∃ (lv : Nat) (s u : State), (s.gau.moving = some lv) ∧ (u = ((((s.onGau fun g => { g with moving := none }).put F.GAU_STAT_LEVEL lv).raise F.GAU_EVT_LEVEL).gaugeDue.showEngines)) :=
  ⟨2, on0.onGau fun g => { g with moving := some 2 }, (((on0.onGau fun g => { g with moving := some 2 }).onGau fun g => { g with moving := none }).put F.GAU_STAT_LEVEL 2).raise F.GAU_EVT_LEVEL |>.gaugeDue.showEngines, by decide +kernel⟩

theorem witness_CoreCommandsComplete_1 : ∃ (k : Nat) (s : State), (s.scheduled k = true) ∧ (s.winOf k ≠ 0) ∧ (storeGet cntDefault s.cor.winEnd k ≤ s.now) :=
  ⟨0, sched0.onCor fun c => { c with win := [(0, 1)] }, by decide⟩

theorem witness_CoreCommandsComplete_2 : ∃ (k f : Nat) (s u : State), (s.scheduled k = true) ∧ (f = s.fires (s.get (F.COR_A_CTL_TRG k))) ∧ (f ≠ storeGet cntDefault s.cor.seen k) ∧ (u = (s.onCor fun c => { c with seen := storeSet cntDefault c.seen k f }).coreChange (State.startTable k)) :=
  ⟨0, 1, sched0.onTim fun t => { t with fires := [(0, 1)] }, ((sched0.onTim fun t => { t with fires := [(0, 1)] }).onCor fun c => { c with seen := storeSet cntDefault c.seen 0 1 }).coreChange (State.startTable 0), by decide +kernel⟩

theorem witness_CoreCommandsComplete_4 : ∃ (p : Nat) (s t : State), (t = s.wdSync) ∧ (t.partOn p = true) ∧ (t.get (F.COR_P_CTL_WD_MS p) ≠ 0) ∧ (t.canRun p = true) ∧ (t.wdLeft p = 0) :=
  ⟨4, part4, part4.wdSync, by decide +kernel⟩

theorem witness_CoreCommandsComplete_5 : ∃ (pair : Nat) (s u : State), (pair < 4) ∧ (s.bit F.COR_LS_ACTIVE pair = true) ∧ (u = (s.count C.COR_LOCKSTEP).raise F.COR_EVT_LOCKSTEP) :=
  ⟨0, on0.set1 F.COR_LS_ACTIVE 0, ((on0.set1 F.COR_LS_ACTIVE 0).count C.COR_LOCKSTEP).raise F.COR_EVT_LOCKSTEP, by decide +kernel⟩

theorem witness_CoreCommandsComplete_6 : ∃ (r k n : Nat) (d : Desc) (s : State), (s.cur r 15 1 = some d) ∧ (s.dPid d = 0 ∨ s.dPid d = 2) ∧ (u8 d.raw 20 = k ∧ u16 d.raw 22 = n ∧ k < 8 ∧ 0 < n ∧ n ≤ 32 ∧ 8 * n ≤ d.len) ∧ (s.actingCore k = k) ∧ (schedOk n d.buf = true) :=
  ⟨0, 0, 1, schedD, withD on0 schedD, by decide +kernel⟩

theorem witness_CoreCommandsComplete_7 : ∃ (r p : Nat) (d : Desc) (s : State), (s.cur r 15 2 = some d) ∧ (s.dPid d = 0 ∨ s.dPid d = 2) ∧ (d.noBuf = true) ∧ (u8 d.raw 20 = p) ∧ (isPart p = true) :=
  ⟨0, 4, mkDesc 15 2 0 0 [4], withD part4 (mkDesc 15 2 0 0 [4]), by decide +kernel⟩

theorem witness_CoreCommandsComplete_8 : ∃ (d : Desc) (s : State), (s.dPid d ≠ 0 ∧ s.dPid d ≠ 2) :=
  ⟨mkDesc 15 2 0 0 [4], on0.put (F.RND_R_ASSIGN_OWNER 0) 5, by decide⟩

theorem witness_MailboxCommandsComplete_1 : ∃ (n : Nat), (n < 32) :=
  ⟨3, by decide⟩

theorem witness_MailboxCommandsComplete_2 : ∃ (pid n w : Nat) (s : State), (n < 32 ∧ w < 16) ∧ (s.mbMaySend pid n = true) :=
  ⟨0, 3, 0, on0, by decide⟩

theorem witness_MailboxCommandsComplete_3 : ∃ (pid n w v : Nat) (s u : State), (n < 32 ∧ w < 16) ∧ (s.mbMaySend pid n = true) ∧ (u = s.put (F.MBX_SLOT_DATA n w) v) ∧ (u.mbFull n = true) :=
  ⟨0, 3, 0, 0, on0.put (F.MBX_STAT_FULL 3) 1, (on0.put (F.MBX_STAT_FULL 3) 1).put (F.MBX_SLOT_DATA 3 0) 0, by decide⟩

theorem witness_MailboxCommandsComplete_4 : ∃ (n : Nat), (n < 32) :=
  ⟨3, by decide⟩

theorem witness_MailboxCommandsComplete_5 : ∃ (n t : Nat) (s : State), (n < 32) ∧ (s.mbFull n = true) ∧ (storeGet cntDefault s.cor.mbxDue n = t) ∧ (t ≠ 0 ∧ t ≤ s.now) :=
  ⟨3, 5, ((on0.put (F.MBX_STAT_FULL 3) 1).onCor fun c => { c with mbxDue := [(3, 5)] }).setNow 10, by decide⟩

theorem witness_MailboxCommandsComplete_6 : ∃ (n : Nat), (n < 32) :=
  ⟨3, by decide⟩

theorem witness_QueueAndSemaphoreCommandsComplete_1 : ∃ (n v : Nat) (s u : State), (n < 64) ∧ (u = s.qFields n v) ∧ (u.on (F.QUE_Q_CFG_EN n) = false) :=
  ⟨3, 0, on0, on0.qFields 3 0, by decide⟩

theorem witness_QueueAndSemaphoreCommandsComplete_2 : ∃ (n : Nat) (s : State), (n < 64) ∧ (s.on (F.QUE_Q_CFG_EN n) = true) :=
  ⟨3, on0.put (F.QUE_Q_CFG_EN 3) 1, by decide⟩

theorem witness_QueueAndSemaphoreCommandsComplete_3 : ∃ (src : Source) (n : Nat) (s : State), (n < 64) ∧ (onChip src = true) ∧ (s.issues src = true) ∧ (s.unacked src < 64) ∧ (s.denied (s.pidOf src) true (0x120000000 + 0x1000 * n + 0) 8 = none) :=
  ⟨.mgmt, 3, quOpen, by decide +kernel⟩

theorem witness_QueueAndSemaphoreCommandsComplete_4 : ∃ (src : Source) (n : Nat) (s : State), (n < 64) ∧ (onChip src = true) ∧ (s.issues src = true) ∧ (s.pushHeld src = false) ∧ (s.denied (s.pidOf src) false (0x120000000 + 0x1000 * n + 8) 8 = none) ∧ (s.on (F.QUE_Q_CFG_EN n) = true) ∧ (s.marksIn (poolAddr n) 8 = []) :=
  ⟨.mgmt, 3, quOpen, by decide +kernel⟩

theorem witness_QueueAndSemaphoreCommandsComplete_5 : ∃ (src : Source) (n : Nat) (s : State), (n < 64) ∧ (onChip src = true) ∧ (s.issues src = true) ∧ (s.pushHeld src = false) ∧ (s.denied (s.pidOf src) false (0x120000000 + 0x1000 * n + 0x10) 8 = none) ∧ (s.marksIn (poolAddr n) 8 = []) :=
  ⟨.mgmt, 3, quOpen, by decide +kernel⟩

theorem witness_QueueAndSemaphoreCommandsComplete_6 : ∃ (src : Source) (n : Nat) (s : State), (n < 64) ∧ (onChip src = true) ∧ (s.issues src = true) ∧ (s.pushHeld src = false) ∧ (s.denied (s.pidOf src) false (0x120000000 + 0x1000 * n + 8) 8 = none) ∧ (s.on (F.QUE_Q_CFG_EN n) = true) ∧ (s.qItems n ≠ []) ∧ (s.eccBad (poolAddr n) 8 = true) :=
  ⟨.mgmt, 3, ((quOpen.setItems 3 [7]).setFab { quOpen.fab with ecc := [⟨poolAddr 3, 0, true⟩] }), by decide +kernel⟩

theorem witness_QueueAndSemaphoreCommandsComplete_7 : ∃ (src : Source) (n : Nat) (m : Master) (t : Nat) (s : State), (n < 64) ∧ (onChip src = true) ∧ (s.issues src = true) ∧ (s.pushHeld src = true) ∧ (s.denied (s.pidOf src) false (0x120000000 + 0x1000 * n + 8) 8 = none) ∧ (masterOf src = some m ∧ s.tagNow m = some t) :=
  ⟨.mgmt, 3, .mgmt, 0, quOpen.setQue { quOpen.que with held := [⟨3, .mgmt, 0, 7, false⟩] }, by decide +kernel⟩

theorem witness_QueueAndSemaphoreCommandsComplete_8 : ∃ (n i g : Nat) (h : HeldPush) (s : State), (s.heldPlace n i = some g) ∧ (s.que.held[g]? = some h) ∧ (s.on (F.QUE_Q_CFG_EN n) = true ∧ s.qFull n = false) ∧ ((s.que.held.take g).any (·.blocks h) = false) :=
  ⟨3, 0, 0, ⟨3, .core 0, 0, 7, false⟩, quOpen.setQue { quOpen.que with held := [⟨3, .core 0, 0, 7, false⟩] }, by decide +kernel⟩

theorem witness_QueueAndSemaphoreCommandsComplete_9 : ∃ (pid n : Nat) (s : State), (n < 64) ∧ (s.partOff pid = false) :=
  ⟨0, 3, on0, by decide⟩

theorem witness_QueueAndSemaphoreCommandsComplete_10 : ∃ (pid n : Nat) (s : State), (n < 64) ∧ (s.partOff pid = true) :=
  ⟨3, 3, on0, by decide⟩

theorem witness_QueueAndSemaphoreCommandsComplete_11 : ∃ (n : Nat), (n < 64) :=
  ⟨3, by decide⟩

theorem witness_QueueAndSemaphoreCommandsComplete_12 : ∃ (v : Nat) (s : State), (bitOf v 31 = true) ∧ (s.get (F.SEM_STAT_OWNER (bits v 5 0)) ≠ 0) :=
  ⟨2147483651, on0.put (F.SEM_STAT_OWNER 3) 5, by decide⟩

theorem witness_QueueAndSemaphoreCommandsComplete_13 : ∃ (pid : Nat), (pid ≠ 0) :=
  ⟨5, by decide⟩

theorem witness_KeyCommandsComplete_1 : ∃ (r : Nat) (d : Desc) (s : State), (s.cur r 0x13 1 = some d) ∧ (s.encAdmin d = true) ∧ (d.policyBad = false) ∧ (u8 d.raw 21 ≠ 4) ∧ (s.unravelled = false) ∧ ((s.keySlot (u8 d.raw 20)).ty = 0) :=
  ⟨0, keyD 1, withD enc0 (keyD 1), by decide +kernel⟩

theorem witness_KeyCommandsComplete_2 : ∃ (r : Nat) (d : Desc) (s : State), (s.cur r 0x13 2 = some d) ∧ (s.encAdmin d = true) ∧ (d.policyBad = false) ∧ (u8 d.raw 23 = 0xFF ∧ 0 < u8 d.raw 28 ∧ u8 d.raw 28 ≤ 64 ∧ d.len = u8 d.raw 28) ∧ (s.unravelled = false) ∧ ((s.keySlot (u8 d.raw 20)).ty = 0) :=
  ⟨0, deriveD, withD enc0 deriveD, by decide +kernel⟩

theorem witness_KeyCommandsComplete_3 : ∃ (r k : Nat) (ikm : Bytes) (d : Desc) (s : State), (s.cur r 0x13 2 = some d) ∧ (s.encAdmin d = true) ∧ (d.policyBad = false) ∧ (u8 d.raw 23 = k ∧ k ≤ 63 ∧ 0 < u8 d.raw 28 ∧ u8 d.raw 28 ≤ 64) ∧ (s.slotCheck d k Ops.DERIVE = none) ∧ (d.len = (if (s.keySlot k).ty = 3 then u8 d.raw 28 + 97 else u8 d.raw 28)) ∧ ((if (s.keySlot k).ty = 3 then dh384 (s.keySlot k).key (d.buf.drop (u8 d.raw 28)) else some (s.keySlot k).key) = some ikm) ∧ ((s.keySlot (u8 d.raw 20)).ty = 0) :=
  ⟨0, 5, zeros 16, derive5, withD enc5 derive5, by decide +kernel⟩

theorem witness_KeyCommandsComplete_4 : ∃ (r u n : Nat) (d : Desc) (s : State), (s.cur r 0x13 3 = some d) ∧ (s.encAdmin d = true) ∧ (d.policyBad = false) ∧ (u8 d.raw 23 = u ∧ u ≤ 63 ∧ n = typeLen (u8 d.raw 21) ∧ d.len = 28 + n) ∧ (s.slotCheck d u Ops.GCM = none) ∧ ((s.keySlot (u8 d.raw 20)).ty = 0) :=
  ⟨0, 5, 16, importD, withD enc5 importD, by decide +kernel⟩

theorem witness_KeyCommandsComplete_5 : ∃ (r k : Nat) (d : Desc) (s : State), (s.cur r 0x13 4 = some d) ∧ (u8 d.raw 20 = k ∧ k ≤ 63) ∧ (s.enc.debug = false) ∧ (s.unravelled = false) ∧ ((s.keySlot k).ty ≠ 0) ∧ (s.encAdmin d = true ∨ bitOf (s.keySlot k).pmask (s.dPid d) = true) :=
  ⟨0, 5, mkDesc 0x13 4 0 0 [5], withD enc5 (mkDesc 0x13 4 0 0 [5]), by decide +kernel⟩

theorem witness_KeyCommandsComplete_6 : ∃ (r k : Nat) (d : Desc) (s : State), (s.cur r 0x13 5 = some d) ∧ (u8 d.raw 20 = k) ∧ (s.unravelled = false) ∧ (s.outCheck d 97 = none) :=
  ⟨0, 255, mkDesc 0x13 5 0x100000000 0 [255], withD enc5 (mkDesc 0x13 5 0x100000000 0 [255]), by decide +kernel⟩

theorem witness_KeyCommandsComplete_7 : ∃ (r n : Nat) (d : Desc) (s : State), (s.cur r 0x13 16 = some d) ∧ (s.encAdmin d = true) ∧ (u8 d.raw 20 = n ∧ n ≤ 1 ∧ d.len = 48) ∧ (s.custSet n = false) :=
  ⟨0, 0, mkSrc 0x13 16 [0] (zeros 48), withD enc0 (mkSrc 0x13 16 [0] (zeros 48)), by decide +kernel⟩

theorem witness_KeyCommandsComplete_8 : ∃ (d : Desc) (s : State), (s.encAdmin d = false) :=
  ⟨keyD 1, (withD on0 (keyD 1)).put (F.RND_R_ASSIGN_OWNER 0) 7, by decide⟩

theorem witness_CryptoCommandsComplete_1 : ∃ (r k : Nat) (d : Desc) (s : State), (s.cur r 0x13 6 = some d) ∧ (u8 d.raw 20 = k ∧ k ≤ 63 ∧ d.len = 48) ∧ (s.slotCheck d k Ops.SIGN = none) ∧ (s.outCheck d 96 = none) :=
  ⟨0, 5, signD 6, withD enc5 (signD 6), by decide +kernel⟩

theorem witness_CryptoCommandsComplete_2 : ∃ (r k : Nat) (d : Desc) (s : State), (s.cur r 0x13 7 = some d) ∧ (u8 d.raw 20 = k ∧ k ≤ 63 ∧ d.len = 144) ∧ (s.slotCheck d k Ops.VERIFY = none) :=
  ⟨0, 5, mkDesc 0x13 7 0x100000000 144 [5], withD enc5 (mkDesc 0x13 7 0x100000000 144 [5]), by decide +kernel⟩

theorem witness_CryptoCommandsComplete_3 : ∃ (r k n : Nat) (d : Desc) (s : State), (s.cur r 0x13 8 = some d) ∧ (u8 d.raw 20 = k ∧ k ≤ 63 ∧ u8 d.raw 21 = n ∧ 4 ≤ n ∧ n ≤ 16) ∧ (s.slotCheck d k Ops.CMAC = none) ∧ (s.outCheck d n = none) :=
  ⟨0, 5, 16, mkDesc 0x13 8 0x100000000 0 [5, 16], withD enc5 (mkDesc 0x13 8 0x100000000 0 [5, 16]), by decide +kernel⟩

theorem witness_CryptoCommandsComplete_4 : ∃ (r k n : Nat) (d : Desc) (s : State), (s.cur r 0x13 9 = some d) ∧ (u8 d.raw 20 = k ∧ k ≤ 63 ∧ u32 d.raw 28 = n ∧ n ≤ d.len) ∧ (s.slotCheck d k Ops.GCM = none) ∧ (s.outCheck d (d.len - n + 28) = none) :=
  ⟨0, 5, 0, mkDesc 0x13 9 0x100000000 0 [5], withD enc5 (mkDesc 0x13 9 0x100000000 0 [5]), by decide +kernel⟩

theorem witness_CryptoCommandsComplete_5 : ∃ (r k n m : Nat) (d : Desc) (s : State), (s.cur r 0x13 10 = some d) ∧ (u8 d.raw 20 = k ∧ k ≤ 63 ∧ u32 d.raw 28 = n ∧ m = d.len - n - 28 ∧ n + 28 ≤ d.len) ∧ (s.slotCheck d k Ops.GCM = none) ∧ (s.outCheck d m = none) :=
  ⟨0, 5, 0, 0, openD, withD enc5 openD, by decide +kernel⟩

theorem witness_CryptoCommandsComplete_6 : ∃ (r n : Nat) (d : Desc) (s : State), (s.cur r 0x13 11 = some d) ∧ (u8 d.raw 20 = n ∧ 8 ≤ n ∧ n ≤ 64 ∧ d.len = n) ∧ (s.unravelled = false) :=
  ⟨0, 8, attestD, withD enc5 attestD, by decide⟩

theorem witness_EnclaveLifeCommandsComplete_1 : ∃ (src : Nat) (s : State), (src ≠ 6) ∧ (s.tampWatched src = true) :=
  ⟨3, on0, by decide⟩

theorem witness_EnclaveLifeCommandsComplete_3 : ∃ (c t : Nat) (s : State), (s.enc.chal = some (c, t)) ∧ (t + 60000000000 ≤ s.now) :=
  ⟨5, 0, (on0.onEnc fun e => { e with chal := some (5, 0) }).setNow 60000000000, by decide⟩

theorem witness_EnclaveLifeCommandsComplete_4 : ∃ (r : Nat) (d : Desc) (s : State), (s.cur r 0x13 12 = some d) ∧ (s.encAdmin d = true) :=
  ⟨0, mkDesc 0x13 12 0 0 [], withD enc0 (mkDesc 0x13 12 0 0 []), by decide +kernel⟩

theorem witness_EnclaveLifeCommandsComplete_5 : ∃ (r : Nat) (d : Desc) (s u : State), (s.cur r 0x13 13 = some d) ∧ (s.encAdmin d = true) ∧ (s.on F.ENC_STAT_DEBUG_FUSE = false) ∧ (u = s.onEnc fun e => { e with chal := none }) :=
  ⟨0, mkDesc 0x13 13 0 0 [], withD enc0 (mkDesc 0x13 13 0 0 []), (withD enc0 (mkDesc 0x13 13 0 0 [])).onEnc fun e => { e with chal := none }, by decide +kernel⟩

theorem witness_EnclaveLifeCommandsComplete_6 : ∃ (r : Nat) (d : Desc) (s u : State), (s.cur r 0x13 15 = some d) ∧ (s.encAdmin d = true) ∧ (u = s.onEnc fun e => { e with chal := none }) :=
  ⟨0, mkDesc 0x13 15 0 0 [], withD enc0 (mkDesc 0x13 15 0 0 []), (withD enc0 (mkDesc 0x13 15 0 0 [])).onEnc fun e => { e with chal := none }, by decide +kernel⟩

theorem witness_EnclaveLifeCommandsComplete_7 : ∃ (r n : Nat) (d : Desc) (s u : State), (s.cur r 0x13 14 = some d) ∧ (s.encAdmin d = true) ∧ (s.outCheck d 97 = none) ∧ (u = s.onEnc fun e => { e with chal := none }) ∧ (u.enrolRec (u8 d.buf 2) = some n) :=
  ⟨0, 1, enrolD, withD enc0 enrolD, (withD enc0 enrolD).onEnc fun e => { e with chal := none }, by decide +kernel⟩

theorem witness_ServiceLinkCommandsComplete_1 : ∃ (f : Bytes) (s : State), (s.isUp 20 = true) ∧ (s.isArp f = true) :=
  ⟨arpF, ig0, by decide +kernel⟩

theorem witness_ServiceLinkCommandsComplete_2 : ∃ (f : Bytes) (s : State), (s.isUp 20 = true) ∧ (s.isIgion f = true) ∧ (igMsg f = none) :=
  ⟨(igF 9 [] |>.take 41), ig0, by decide +kernel⟩

theorem witness_ServiceLinkCommandsComplete_3 : ∃ (f : Bytes) (m : IgMsg) (s t : State), (s.isUp 20 = true) ∧ (s.isIgion f = true) ∧ (igMsg f = some m) ∧ (s.igPermitted = true) ∧ (t = s.igTouch m.ask) :=
  ⟨igF 1 [], igM 1 [], ig0, ig0, by decide +kernel⟩

theorem witness_ServiceLinkCommandsComplete_4 : ∃ (f : Bytes) (m : IgMsg) (s t : State), (s.isUp 20 = true) ∧ (s.isIgion f = true) ∧ (igMsg f = some m) ∧ (m.op = 2) ∧ (s.igPermitted = true) ∧ (t = s.igTouch m.ask) ∧ (t.boo.session = none) ∧ (m.data.length = 4 ∧ u32 m.data 0 ≤ areaSize) ∧ (t.mayClaim = true) :=
  ⟨igF 2 (leBytes 4 100), igM 2 (leBytes 4 100), ig0, ig0, by decide +kernel⟩

theorem witness_ServiceLinkCommandsComplete_5 : ∃ (f : Bytes) (m : IgMsg) (x : IgSession) (s t : State), (s.isUp 20 = true) ∧ (s.isIgion f = true) ∧ (igMsg f = some m) ∧ (m.op = 3) ∧ (s.igPermitted = true) ∧ (t = s.igTouch m.ask) ∧ (t.boo.session = some x) ∧ (x.id = m.ask.id) ∧ (m.ask.off % 1024 = 0 ∧ 0 < m.data.length ∧ m.ask.off + m.data.length ≤ x.total) :=
  ⟨igF 3 [5], igM 3 [5], ⟨7, 100, [], 0⟩, igS, igS, by decide +kernel⟩

theorem witness_ServiceLinkCommandsComplete_6 : ∃ (f : Bytes) (m : IgMsg) (x : IgSession) (s t : State), (s.isUp 20 = true) ∧ (s.isIgion f = true) ∧ (igMsg f = some m) ∧ (s.igPermitted = true) ∧ (t = s.igTouch m.ask) ∧ (t.boo.session = some x) ∧ (x.id = m.ask.id) :=
  ⟨igF 4 [], igM 4 [], ⟨7, 100, [], 0⟩, igS, igS, by decide +kernel⟩

theorem witness_ServiceLinkCommandsComplete_7 : ∃ (x : IgSession) (s : State), (s.boo.session = some x) ∧ (x.lastAt + 60000000000 ≤ s.now) :=
  ⟨⟨7, 100, [], 0⟩, igS.setNow 60000000000, by decide⟩

theorem witness_ChainUpdateCommandsComplete_1 : ∃ (p : Nat) (f b : Bytes) (i : ChainIn) (s u : State), (s.isUp p = true) ∧ (s.isChain p f = true) ∧ (s.chainPermitted = true) ∧ ((stripTag f).drop 14 = b) ∧ (chainHeaderOk b = true) ∧ (u8 b 0 = Chain.START) ∧ (i = ⟨p, u32 b 4, u32 b 12, u8 b 2, [], s.now⟩) ∧ (i.hop ≤ 31 ∧ 0 < i.blocks ∧ i.blocks ≤ areaSize / 4096) ∧ (s.boo.chainIn = none) ∧ (s.hasImage i.image = false) ∧ (s.mayClaim = true) ∧ (u = (s.claim 2).onBoo fun t => { t with chainIn := some i }) :=
  ⟨0, chF 1 2, (chF 1 2).drop 14, ⟨0, 5, 2, 0, [], 0⟩, ch0, (ch0.claim 2).onBoo fun t => { t with chainIn := some ⟨0, 5, 2, 0, [], 0⟩ }, by decide +kernel⟩

theorem witness_ChainUpdateCommandsComplete_2 : ∃ (p : Nat) (f b : Bytes) (i : ChainIn) (s u : State), (s.isUp p = true) ∧ (s.isChain p f = true) ∧ (s.chainPermitted = true) ∧ ((stripTag f).drop 14 = b) ∧ (chainHeaderOk b = true) ∧ (u8 b 0 = Chain.BLOCK) ∧ (s.inOf p b = some i) ∧ (u = s.updIn fun x => { x with heardAt := s.now }) ∧ (u32 b 8 < i.blocks) :=
  ⟨0, chF 2 2, (chF 2 2).drop 14, ⟨0, 5, 2, 0, [], 0⟩, chIn, chIn.updIn fun x => { x with heardAt := 0 }, by decide +kernel⟩

theorem witness_ChainUpdateCommandsComplete_3 : ∃ (p : Nat) (f b : Bytes) (i : ChainIn) (s : State), (s.isUp p = true) ∧ (s.isChain p f = true) ∧ (s.chainPermitted = true) ∧ ((stripTag f).drop 14 = b) ∧ (chainHeaderOk b = true) ∧ (u8 b 0 = Chain.END) ∧ (s.inOf p b = some i) :=
  ⟨0, chF 4 2, (chF 4 2).drop 14, ⟨0, 5, 2, 0, [], 0⟩, chIn, by decide +kernel⟩

theorem witness_ChainUpdateCommandsComplete_4 : ∃ (p : Nat) (f b : Bytes) (c : ChainOut) (s : State), (s.isUp p = true) ∧ (s.isChain p f = true) ∧ (s.chainPermitted = true) ∧ ((stripTag f).drop 14 = b) ∧ (chainHeaderOk b = true) ∧ (s.chainOutAt p = some c) ∧ (c.image = u32 b 4) :=
  ⟨0, chF 3 2, (chF 3 2).drop 14, ⟨0, 5, 2, 0, 1, 0, false, [], [], none⟩, ch0.onBoo fun b => { b with chainOut := [⟨0, 5, 2, 0, 1, 0, false, [], [], none⟩] }, by decide +kernel⟩

theorem witness_ChainUpdateCommandsComplete_5 : ∃ (p : Nat) (c : ChainOut) (s : State), (s.chainOutAt p = some c) :=
  ⟨0, ⟨0, 5, 2, 0, 1, 0, false, [], [], none⟩, on0.onBoo fun b => { b with chainOut := [⟨0, 5, 2, 0, 1, 0, false, [], [], none⟩] }, by decide⟩

theorem witness_ChainUpdateCommandsComplete_6 : ∃ (i : ChainIn) (s : State), (s.boo.chainIn = some i) ∧ (i.heardAt + 10000000000 ≤ s.now) :=
  ⟨⟨0, 5, 2, 0, [], 0⟩, (on0.onBoo fun b => { b with chainIn := some ⟨0, 5, 2, 0, [], 0⟩ }).setNow 10000000000, by decide⟩

theorem witness_UpdateCommandsComplete_1 : ∃ (r : Nat) (d : Desc) (s : State), (s.cur r 0x14 1 = some d) ∧ (d.noBuf = true) ∧ (s.booMay d = true) ∧ (s.mayClaim = true) :=
  ⟨0, mkDesc 0x14 1 0 0 [], withD boot0 (mkDesc 0x14 1 0 0 []), by decide +kernel⟩

theorem witness_UpdateCommandsComplete_2 : ∃ (r : Nat) (d : Desc) (s : State), (s.cur r 0x14 2 = some d) ∧ (d.len ≤ 0x400000) ∧ (s.booMay d = true) ∧ ((s.rnd.descs.any fun e => e.func == 0x14 && e.opcode == 2 && e.running && e.fin.isNone) = false) :=
  ⟨0, mkDesc 0x14 2 0 0 [], withD boot0 (mkDesc 0x14 2 0 0 []), by decide +kernel⟩

theorem witness_UpdateCommandsComplete_3 : ∃ (r p : Nat) (d : Desc) (s : State), (s.cur r 0x14 3 = some d) ∧ (u8 d.raw 20 = p ∧ p < 2) ∧ (d.noBuf = true) ∧ (s.booMay d = true) ∧ (s.chainOutAt p = none) ∧ (stagingState (s.areaDir Area.STAGING) = 2) ∧ (s.writer = 0) :=
  ⟨0, 0, mkDesc 0x14 3 0 0 [0], withD (boot0.writeBytes (areaBase Area.STAGING) (zeros 10 ++ [255, 255])) (mkDesc 0x14 3 0 0 [0]), by decide +kernel⟩

theorem witness_UpdateCommandsComplete_4 : ∃ (d : Desc) (s : State), (s.booMay d = false) :=
  ⟨mkDesc 0x14 1 0 0 [], on0.put F.BOO_CFG_MASK_MASK 0, by decide⟩

theorem witness_UpdateCommandsComplete_5 : ∃ (w : Nat) (o : FlashOp) (s : State), ((s.boo.ops.find? fun o => o.flash == w) = some o) :=
  ⟨0, ⟨0, true, 0, [], .igErase, true⟩, on0.onBoo fun b => { b with ops := [⟨0, true, 0, [], .igErase, true⟩] }, by decide⟩

theorem witness_UpdateCommandsComplete_6 : ∃ (pid v : Nat) (s : State), (bits v 15 0 = 0xC0F1) ∧ (pid < 32) ∧ (s.bit F.BOO_CFG_MASK_MASK pid = true) ∧ (s.get F.BOO_STAT_BOOT_STATE = 2) :=
  ⟨0, 0xC0F1, (on0.set1 F.BOO_CFG_MASK_MASK 0).put F.BOO_STAT_BOOT_STATE 2, by decide⟩

theorem witness_UpdateCommandsComplete_7 : ∃ (t : Nat) (s : State), (s.boo.trial = some t) ∧ (s.get F.BOO_STAT_BOOT_STATE = 2) ∧ (t ≤ s.now) :=
  ⟨0, (on0.put F.BOO_STAT_BOOT_STATE 2).onBoo fun b => { b with trial := some 0 }, by decide⟩

theorem witness_PairCommandsComplete_3 : ∃ (s : State), (s.pairOn = true) ∧ (s.pai.hbNext ≤ s.now) :=
  ⟨pai0, by decide⟩

theorem witness_PairCommandsComplete_4 : ∃ (t : Nat) (s : State), (s.pai.hbAt = some t) ∧ (s.pairOn = true) ∧ (s.on F.PAI_STAT_PARTNER_ALIVE = true) ∧ (t + 1000 * s.get F.PAI_DEAD_DEAD_US ≤ s.now) :=
  ⟨0, ((pai0.put F.PAI_STAT_PARTNER_ALIVE 1).put F.PAI_DEAD_DEAD_US 0).onPai fun p => { p with hbAt := some 0 }, by decide⟩

theorem witness_PairCommandsComplete_5 : ∃ (s : State), (s.pairOn = true) ∧ (s.role = Role.STARTING) ∧ (max s.pai.startAt (max (s.pai.hbAt.getD 0) (s.pai.clashAt.getD 0)) + 1000000 * s.get F.PAI_CTL_START_MS ≤ s.now) :=
  ⟨pai0.setNow 60000000000, by decide⟩

theorem witness_PairCommandsComplete_6 : ∃ (s : State), (s.pairOn = true) ∧ (s.role = Role.ISOLATED) ∧ (s.pai.beaconAt.getD s.pai.startAt + 1000000 * s.get F.PAI_WITNESS_WITNESS_MS ≤ s.now) :=
  ⟨((pai0.setRole Role.ISOLATED).setNow 60000000000).onPai fun p => { p with beaconAt := some 0 }, by decide⟩

theorem witness_PairCommandsComplete_7 : ∃ (s : State), (s.isPrimary = true) ∧ (s.on F.PAI_CTL_BEACON_EN = true) ∧ (s.pai.beaconNext ≤ s.now) :=
  ⟨(pai0.setRole Role.PRIMARY).put F.PAI_CTL_BEACON_EN 1, by decide⟩

theorem witness_PairCommandsComplete_8 : ∃ (lane : Nat) (b h body : Bytes) (role : Nat) (s : State), (lane < 2) ∧ (s.laneUp lane = true) ∧ (s.pairOn = true) ∧ (etherType b = 0x88B6) ∧ (h = b.drop 14) ∧ (body = slice h 20 (u16 h 16)) ∧ (role = bits (u8 h 2) 3 1) ∧ (u8 h 1 = 1 ∧ u8 h 2 % 2 ≠ s.rank) :=
  ⟨0, paiF 1, (paiF 1).drop 14, zeros 4 ++ [1] ++ zeros 11, 0, pai0, by decide +kernel⟩

theorem witness_PairCommandsComplete_9 : ∃ (port : Nat) (b h body : Bytes) (s : State), (port < 2 ∧ s.isUp port) ∧ (etherType b = 0x88B6) ∧ (h = b.drop 14) ∧ (body = slice h 20 (u16 h 16)) ∧ (u8 h 0 = Kind.BEACON) ∧ (s.pairOn = true) ∧ (u8 h 1 = 1 ∧ u8 h 2 % 2 ≠ s.rank) ∧ (u32 body 0 = s.get F.PAI_ID_PAIR_ID) ∧ (slice body 4 8 ≠ s.serial) ∧ (u32 h 4 = s.get F.PAI_TERM_TERM ∧ s.role ≠ Role.PRIMARY) :=
  ⟨0, paiF 6, (paiF 6).drop 14, zeros 4 ++ [1] ++ zeros 11, pai0.put (F.PRT_STAT_LINK 0) 3, by decide +kernel⟩

theorem witness_PairTransferCommandsComplete_1 : ∃ (seq l : Nat) (m : Mirrored) (s : State), ((s.pai.unacked.find? fun m => m.seq == seq && decide (m.at_ + 50000 ≤ s.now)) = some m) ∧ ((if s.laneUp (1 - m.lane) then some (1 - m.lane) else if s.laneUp m.lane then some m.lane else none) = some l) :=
  ⟨5, 0, ⟨5, 0, 0, []⟩, (pai0.setNow 50000).onPai fun p => { p with unacked := [⟨5, 0, 0, []⟩] }, by decide⟩

theorem witness_PairTransferCommandsComplete_2 : ∃ (id : Nat) (s : State), ((s.pai.outs.any fun o => o.parts.any fun p => p.id == id && p.got.isNone && decide (p.at_ + 1000 * s.get F.PAI_BRIDGE_TMO_US ≤ s.now)) = true) :=
  ⟨9, (pai0.setNow 1000000000).onPai fun p => { p with outs := [⟨acc .mgmt 0x500000000000 8 false, 9, [⟨9, 8, 0, none⟩]⟩] }, by decide⟩

theorem witness_PairTransferCommandsComplete_3 : ∃ (t : Nat) (s u : State), (s.pai.crossAt = some t) ∧ (t + 1000 * s.get F.PAI_BRIDGE_CROSS_US ≤ s.now) ∧ (u = s.onPai fun p => { p with crossAt := none }) :=
  ⟨0, (pai0.setNow 1000000000).onPai fun p => { p with crossAt := some 0 }, pai0.setNow 1000000000, by decide⟩

theorem witness_PairTransferCommandsComplete_4 : ∃ (r : Nat) (d : Desc) (s : State), (s.cur r 0x15 1 = some d) ∧ (s.bit F.PAI_CFG_MASK_MASK (s.dPid d) = true) ∧ (d.noBuf = true) ∧ (s.isPrimary = true) ∧ (s.on F.PAI_STAT_SYNCED = true) ∧ (s.on F.PAI_STAT_PARTNER_ALIVE = true) ∧ (s.pai.unacked = [] ∧ s.pai.sw = none) :=
  ⟨0, mkDesc 0x15 1 0 0 [], withD ((((pai0.setRole Role.PRIMARY).put F.PAI_STAT_SYNCED 1).put F.PAI_STAT_PARTNER_ALIVE 1).set1 F.PAI_CFG_MASK_MASK 0) (mkDesc 0x15 1 0 0 []), by decide +kernel⟩

theorem witness_PairTransferCommandsComplete_5 : ∃ (r : Nat) (d : Desc) (s : State), (s.cur r 0x15 1 = some d) :=
  ⟨0, mkDesc 0x15 1 0 0 [], withD on0 (mkDesc 0x15 1 0 0 []), by decide⟩

theorem witness_FunctionRestartCommandsComplete_1 : ∃ (r f : Nat) (d : Desc) (s : State), (s.cur r 0x16 1 = some d) ∧ (u8 d.raw 20 = f) ∧ (s.fltMay d = true) ∧ (f = 5 ∨ f = 7 ∨ f = 9 ∨ f = 10 ∨ f = 12 ∨ f = 13) :=
  ⟨0, 5, mkDesc 0x16 1 0 0 [5], withD (on0.set1 F.FLT_CFG_MASK_MASK 0) (mkDesc 0x16 1 0 0 [5]), by decide +kernel⟩

theorem witness_FunctionRestartCommandsComplete_2 : ∃ (r : Nat) (d : Desc) (s : State), (s.cur r 0x16 1 = some d) :=
  ⟨0, mkDesc 0x16 1 0 0 [], withD on0 (mkDesc 0x16 1 0 0 []), by decide⟩

theorem witness_FunctionRestartCommandsComplete_3 : ∃ (fn : Nat) (s u : State), (fn < 23) ∧ (s.restarting fn = true) ∧ (u = ((s.clr1 F.FLT_RESTART_STAT_FUNC fn).raise F.FLT_EVT_RESTART_DONE).count (C.FLT_RESTART fn)) :=
  ⟨5, on0.set1 F.FLT_RESTART_STAT_FUNC 5, (((on0.set1 F.FLT_RESTART_STAT_FUNC 5).clr1 F.FLT_RESTART_STAT_FUNC 5).raise F.FLT_EVT_RESTART_DONE).count (C.FLT_RESTART 5), by decide⟩

theorem witness_ResetCommandsComplete_2 : ∃ (s : State), (s.pow.logic = true ∧ s.wak.asleep = false) ∧ (s.warmWaits = false ∧ s.cycleWaits = false) :=
  ⟨on0, by decide⟩

theorem witness_ResetCommandsComplete_3 : ∃ (s : State), (s.warmWaits = true ∨ s.cycleWaits = true) :=
  ⟨warm0, by decide +kernel⟩

theorem witness_ResetCommandsComplete_4 : ∃ (s u : State), (s.pow.logic = true) ∧ (s.on F.DEV_HOST_WD_EN = true) ∧ (s.pow.hostAt + 1000000 * s.get F.DEV_HOST_WD_TMO_MS ≤ s.now) ∧ (u = (s.raise F.DEV_EVT_HOST_WD).onPow fun p => { p with hostAt := s.now }) :=
  ⟨(on0.put F.DEV_HOST_WD_EN 1).setNow 60000000000, (((on0.put F.DEV_HOST_WD_EN 1).setNow 60000000000).raise F.DEV_EVT_HOST_WD).onPow fun p => { p with hostAt := 60000000000 }, by decide⟩

theorem witness_ResetCommandsComplete_5 : ∃ (cause t : Nat) (s u v : State), (s.pow.warm = some (cause, t)) ∧ (t ≤ s.now) ∧ (s.pow.logic = true ∧ s.wak.asleep = false) ∧ (s.pow.held = false) ∧ (u = (s.setCause 3 cause 0).put F.FLT_RESET_CAUSE_COUNT (min 255 (s.get F.FLT_RESET_CAUSE_COUNT + 1))) ∧ (v = (u.onPow fun p => { p with warm := none, hist := if cause = 4 ∨ cause = 5 ∨ cause = 12 then (u.aonS :: p.hist).take 15 else p.hist }).windDown.put F.DEV_STAT_STATE 1) :=
  ⟨3, 0, warm0, (warm0.setCause 3 3 0).put F.FLT_RESET_CAUSE_COUNT 1, (((warm0.setCause 3 3 0).put F.FLT_RESET_CAUSE_COUNT 1).onPow fun p => { p with warm := none, hist := p.hist }).windDown.put F.DEV_STAT_STATE 1, by exact ⟨by decide +kernel, by decide +kernel, by decide +kernel, by decide +kernel, by decide +kernel, rfl⟩⟩

theorem witness_ResetCommandsComplete_6 : ∃ (s u : State), (s.pow.held = true) ∧ (s.pow.logic = true) ∧ (u = s.onPow fun p => { p with resetN := false }) :=
  ⟨on0.onPow (fun p => { p with held := true, resetN := true }), on0.onPow (fun p => { p with held := true }), by decide⟩

theorem witness_ResetCommandsComplete_7 : ∃ (cause orig t : Nat) (s u : State), (s.pow.cycle = some (cause, orig, t)) ∧ (t ≤ s.now) ∧ (s.pow.logic = true ∧ s.wak.asleep = false) ∧ (u = (s.setCause 4 cause orig).windDown.stopLogic) :=
  ⟨8, 0, 0, cyc0, (cyc0.setCause 4 8 0).windDown.stopLogic, by exact ⟨by decide +kernel, by decide +kernel, by decide +kernel, rfl⟩⟩

theorem witness_ResetCommandsComplete_8 : ∃ (t : Nat) (s u v : State), (s.pow.off = some t) ∧ (t ≤ s.now) ∧ (u = s.onPow fun p => { p with inh := true, off := none }) ∧ (v = if u.get F.FLT_RESET_CAUSE_CAUSE = 8 then u.put F.FLT_RESET_CAUSE_CAUSE 9 else u) :=
  ⟨0, off0, off0.onPow (fun p => { p with inh := true, off := none }), off0.onPow (fun p => { p with inh := true, off := none }), by decide⟩

theorem witness_PowerCommandsComplete_1 : ∃ (s u : State), (u = s.onPow fun p => { p with vlog := false }) :=
  ⟨on0, on0.onPow fun p => { p with vlog := false }, by decide⟩

theorem witness_PowerCommandsComplete_2 : ∃ (s : State), (s.pow.logic = false) ∧ (s.wak.vaon = true ∧ s.wak.asleep = false) ∧ (s.pow.inh = true ∧ s.pow.off = none) ∧ (s.pow.hot = false ∧ s.pow.resetN = false) :=
  ⟨(State.reset.onPow fun p => { p with logic := false, inh := true }).onWak fun w => { w with vaon := true, asleep := false }, by decide⟩

theorem witness_PowerCommandsComplete_3 : ∃ (tj : Int) (s u : State), (s.pow.logic = true) ∧ (u = (if tj < 140 then s.onPow fun p => { p with hot := false } else s)) :=
  ⟨100, on0, on0, by decide⟩

theorem witness_StepTakesTheFrontCommand_1 : ∃ (c : Instr) (rest : List Instr) (s : State), (s.pending = c :: rest) :=
  ⟨.vlogLoss, [], { on0 with pending := [.vlogLoss] }, by decide +kernel⟩

theorem witness_IdleQueueTicks_1 : ∃ (s : State), (s.pending = []) :=
  ⟨State.reset, by decide⟩

theorem witness_IdleQueueTicks_2 : ∃ (s : State), (s.pow.logic = false ∨ (s.on F.TIM_STAT_LOCKED = false ∧ s.wak.asleep = false)) :=
  ⟨State.reset, by decide⟩

theorem witness_ResetRegisters_2 : ∃ (s : State), (s = State.reset) :=
  ⟨State.reset, by decide⟩

theorem witness_EveryStepKeepsCanonicalForms_1 : ∃ (s : State), (s.Wf) :=
  ⟨State.reset, by decide⟩

theorem witness_FrameOfTheUnits_1 : ∃ (c : Instr) (p : Part), (p ∉ changes c) :=
  ⟨.guardCommit 0 1, .enc, by decide⟩

theorem witness_ReadsBelowF000HaveNoEffect_1 : ∃ (pid a : Nat) (s : State), (s.mbRefused pid a = false) ∧ (a % 0x10000 < 0xF000) :=
  ⟨0, 0x20010, on0, by decide⟩

theorem witness_BadDoorbellHasNoEffect_1 : ∃ (pid n val : Nat) (s : State), (n < 256) ∧ (s.rSize n ≤ val ∨ (pid ≠ 0 ∧ pid ≠ s.rOwner n)) :=
  ⟨5, 0, 0, on0, by decide⟩

theorem witness_SemaphoreIsReleasedByItsOwner_1 : ∃ (pid n val : Nat) (s : State), (n < 64) ∧ (s.get (F.SEM_STAT_OWNER n) = pid + 1) ∧ (val % 32 = pid) ∧ (s.partOff pid = false) :=
  ⟨2, 0, 2, on0.put (F.SEM_STAT_OWNER 0) 3, by decide⟩

theorem witness_SemaphoreIsReleasedByItsOwner_2 : ∃ (pid n val : Nat) (s : State), (n < 64) ∧ (s.get (F.SEM_STAT_OWNER n) ≠ pid + 1 ∨ val % 32 ≠ pid ∨ s.partOff pid = true) :=
  ⟨5, 0, 5, on0, by decide⟩

theorem witness_TriggerArmsAheadOnly_1 : ∃ (r n : Nat) (d : Desc) (s : State), (s.cur r 6 1 = some d) ∧ (d.noBuf = true) ∧ (u8 d.raw 20 = n ∧ n < 16) ∧ (s.dPid d = 0 ∨ s.dPid d = s.get (F.TIM_TRG_CTL_OWNER n)) ∧ (u32 d.raw 28 = 0 ∨ (1000 ≤ u32 d.raw 28 ∧ u32 d.raw 28 ≤ 1000000000)) :=
  ⟨0, 3, mkDesc 6 1 0 0 [3], withD on0 (mkDesc 6 1 0 0 [3]), by decide +kernel⟩

theorem witness_ChannelCommandCarriesTheTerm_1 : ∃ (r n : Nat) (d : Desc) (s : State), (s.cur r 0x0C 1 = some d) ∧ (s.ldcMay d = true) ∧ (u8 d.raw 20 = n ∧ s.isLeader n = true) ∧ (u8 d.raw 21 ≤ 2 ∧ u16 d.raw 22 ≤ 4095) :=
  ⟨0, 0, mkDesc 0x0C 1 0 0 [0, 1, 0, 0, 9], withD ldc0 (mkDesc 0x0C 1 0 0 [0, 1, 0, 0, 9]), by decide +kernel⟩

theorem witness_EnclaveMemoryIsClosed_1 : ∃ (page : Nat), (0x130000 ≤ page ∧ page < 0x130040) :=
  ⟨0x130000, by decide⟩

theorem witness_EnclaveMemoryIsClosed_2 : ∃ (pid a n : Nat), (0x130000000 ≤ a ∧ a < 0x130040000) ∧ (0 < n) ∧ (pid ≠ 1) :=
  ⟨0, 0x130000010, 4, by decide⟩

theorem witness_EnergyLatchCopiesEveryCounter_1 : ∃ (pid val i : Nat) (s : State), (s.gauMay pid = true) ∧ (bitOf val 0 = true) ∧ (i < 42) :=
  ⟨0, 1, 41, on0, by decide⟩

/-! Effects of single commands, with values from the spec's worked examples and tables and from published test vectors. -/

/-- The state after a command. -/
def after (i : Instr) (s : State) : State :=
  match exec i s with
  | .next t => t
  | _ => s

/-- How the first descriptor under way has ended. -/
def ended (s : State) : Option (Nat × Nat) := (s.rnd.descs.head?.bind (·.fin)).map fun c => (c.status, c.result)

/-- TIM_NOW at steps 3 and 9 of the worked example of the time base, with a TRG_ARM of trigger `n` for `target`. -/
def arm (now n target : Nat) : State :=
  withD (on0.put F.TIM_NOW_NOW now) (mkDesc 6 1 0 0 ([BitVec.ofNat 8 n, 0, 0, 0] ++ leBytes 4 target ++ leBytes 4 1000000000))

-- spec/06_time_base.md, worked example, steps 3 and 9.
theorem test_trg_arm_across_the_wrap : ended (after (.trgArm 0) (arm 4293000800 5 640261632)) = some (St.OK, 4293000800) := by
  decide +kernel
theorem test_trg_arm_beyond_half : ended (after (.trgArm 0) (arm 900000000 7 3640261632)) = some (St.BADARG, 0) := by decide +kernel
-- R188: a write of TIM_INC outside its range has no effect.
theorem test_tim_inc_range : (after (.timIncWrite 0 0x4010001) on0).rd R.TIM_INC = 0x4000000 := by decide +kernel
-- R12: an occurrence that coincides with the clear leaves the bit set.
theorem test_evt_clear_coincides : (after (.evtClear 0 R.JER_EVT 1 1) (on0.put F.JER_EVT_DENY 1)).rd R.JER_EVT = 1 := by decide +kernel
theorem test_evt_clear : (after (.evtClear 0 R.JER_EVT 1 0) (on0.put F.JER_EVT_DENY 1)).rd R.JER_EVT = 0 := by decide +kernel
-- R9, R78: the low register returns bits 31:0, the high register holds bits 47:32, the counter is cleared.
theorem test_counter_read : let t := after (.counterReadLow 0 C.JER_DENY) (on0.setCnt C.JER_DENY 0x500000007)
    (t.rd (C.JER_DENY + 4), t.cnt C.JER_DENY, t.out) = (5, 0, [.regValue 0 C.JER_DENY 7]) := by decide +kernel
-- R412, R413: the first reader acquires the semaphore; another's release raises BAD_REL.
theorem test_sem_acquire : (after (.semAcquire 2 7) on0).get (F.SEM_STAT_OWNER 7) = 3 := by decide +kernel
-- R392: partition 3 is disabled after reset.
theorem test_sem_acquire_disabled : (after (.semAcquire 3 7) on0).get (F.SEM_STAT_OWNER 7) = 0 := by decide +kernel
theorem test_sem_release_by_other : (after (.semRelease 4 7 4) (on0.put (F.SEM_STAT_OWNER 7) 4)).get (F.SEM_STAT_OWNER 7) = 4 := by
  decide +kernel
-- R504 at 160 °C.
theorem test_thermal_critical : (after (.thermalPoll 160) on0).on F.FLT_EVT_THERM_CRIT = true := by decide +kernel
theorem test_thermal_below : (after (.thermalPoll 159) on0).on F.FLT_EVT_THERM_CRIT = false := by decide +kernel
-- R496: DEV_RESET without its key has no effect.
theorem test_dev_reset_key : (after (.devResetWrite 0 0x5EA6) on0).pow.warm = none := by decide +kernel
-- spec/09_can_controllers.md, worked example, step 2.
theorem test_can_arb_lost : (((after (.canArbLost 3) canTx).ctl 3).txQ 0).map (·.losses) = [1] := by decide +kernel
-- IEEE 802.3 CRC-32 and CRC-16/CCITT-FALSE of "123456789".
theorem test_crc32 : crc32 [49, 50, 51, 52, 53, 54, 55, 56, 57] = 0xCBF43926 := by decide +kernel
theorem test_crc16 : crc16 0xFFFF [49, 50, 51, 52, 53, 54, 55, 56, 57] = 0x29B1 := by decide +kernel
-- FIPS 197, appendix C.1, and RFC 4493, example 1.
theorem test_aes128 : aesBlock [0, 1, 2, 3, 4, 5, 6, 7, 8, 9, 10, 11, 12, 13, 14, 15]
    [0x00, 0x11, 0x22, 0x33, 0x44, 0x55, 0x66, 0x77, 0x88, 0x99, 0xAA, 0xBB, 0xCC, 0xDD, 0xEE, 0xFF] =
    [0x69, 0xC4, 0xE0, 0xD8, 0x6A, 0x7B, 0x04, 0x30, 0xD8, 0xCD, 0xB7, 0x80, 0x70, 0xB4, 0xC5, 0x5A] := by decide +kernel
theorem test_cmac : cmacOf [0x2B, 0x7E, 0x15, 0x16, 0x28, 0xAE, 0xD2, 0xA6, 0xAB, 0xF7, 0x15, 0x88, 0x09, 0xCF, 0x4F, 0x3C] [] =
    [0xBB, 0x1D, 0x69, 0x29, 0xE9, 0x59, 0x37, 0x28, 0x7F, 0xA3, 0x7D, 0x12, 0x9B, 0x75, 0x67, 0x46] := by decide +kernel


/-! Well-formed commands: a term within every range, and one outside each range, which the check refuses. -/

def rxW : RxFrame := ⟨[], true, true, true, .frame⟩
def canW : CanFrame := ⟨0, 0, false, false, false, false, false, 0, 0, 0, 0, []⟩
def pciW : HostCfg := ⟨true, ⟨false, false, false, false, false⟩⟩
def accW : Access := ⟨.mgmt, 0, 4, false, [], none, []⟩
def errW : CanErr := ⟨0, false, false, false, false, 0⟩
def eight : List Nat := [0, 0, 0, 0, 0, 0, 0, 0]
def eightI : List Int := [0, 0, 0, 0, 0, 0, 0, 0]

theorem test_wf_takes_1 : ([.registerWrite 0 0 0, .evtClear 0 0 0 0, .evtEnWrite 0 0 0, .counterReadLow 0 0, .memoryAccess accW, 
    .tagGrant .mgmt, .readTimeout 0, .lateResponse 0, .guardSelect 0 0, .guardCommit 0 0, .effectRangeWrite 0 0 0 0, 
    .patrolStitch [], .scrubRegion 0, .fillRegion 0, .levelChangeDone, .barBadAccess true 0 0, .doorbellCmd 0 0 0, 
    .doorbellCpl 0 0 0, .roundEnable 0 0 0, .roundDisable 0 0 0, .roundBaseWrite 0 0 0 0, 
    .runaheadFetch 0 [], .descriptorStart 0 [], .stitch 0 true, .completionWrite 0, 
    .cancel 0 0, .moderationTimer 0, .msixUnmask 0, .hostCompletion 0 .abort, .hostCplTimeout 0, .functionLevelReset, 
    .pcieLinkDown, .pcieLinkUp 0 0 0 0 pciW, .frameReceive 0 rxW, .pauseReceive 0 0 0, .pfcReceive 0 0 eight, 
    .pauseExpiry 0 0, .pauseRefresh 0, .matching, .txFrameStart 0 [], .txFrameEnd 0 [], .mcResidueTimeout, 
    .ageExpiry 0, .cbReseqTimeout 0, .cbResetTimeout 0, .holdExpire 0, .plyContribution 0, .plyDeadline 0, .fdbAdd 0, 
    .fdbDel 0] : List Instr).all (fun i => i.wf) = true := by decide +kernel

theorem test_wf_takes_2 : ([.fdbLookup 0, .fdbFlush 0, .vlanSet 0, .swcStreamSet 0, .streamClear 0, .frameSend 0, .frameRecv 0, 
    .macEnable 0 0 0, .macDisable 0 0 0, .anegComplete 0 true, .anegRestartTimeout 0, .linkLockTimer 0, .linkLoss 0, 
    .gateChange 0, .gateSwitch 0, .gateEnable 0 0 0, .preemptVerifyTimeout 0, .qciGateChange 0, .gclLoad 0, 
    .qciFilterSet 0, .qciGateLoad 0, .qciMeterSet 0, .qciRead 0, .spSend 0, .spRecv 0, .latticeLock, .timWrap, 
    .timIncWrite 0 0, .timIncApply, .timeStepWrite 0 0, .timeStepApply, .xtalLost, .xtalRestored, .txtsEnqueue 0, 
    .triggerFire 0, .trgArm 0, .trgDisarm 0, .txtsRead 0, .skipClr 0 0 0, .pinPulseEnd 0, .ppsEdge true, .ppsCapture, 
    .mediaLock, .nodeProcess 0 [], .edgeFrameArrival 0, .edgeDeadline 0 0, .sinkDeadline 0 0 0, .audioStreamReceive, 
    .biasFault 0, .audioLinkLoss] : List Instr).all (fun i => i.wf) = true := by decide +kernel

theorem test_wf_takes_3 : ([.patternLoad 0, .nodeSet 0, .nodeRead 0, .chimeLoad 0, .audStreamSet 0, .chartReplan, .shadowDeadlineCheck, 
    .placementSwitch, .engineDeadline 0, .engineFail 0, .engineBack 0, .engineUnexclude 0 0, .placeRead 0, 
    .patternCheck 0, .carveHint 0, .canEnable 0 0, .canDisable 0 0, .canFrameReceived 0 canW 0, 
    .canProtocolException 0 0, .canTxStart 0, .canArbLost 0, .canTxDone 0, .canTxError 0 errW, .canRxError 0 errW, 
    .canBusoffRecovered 0, .canRecover 0 0, .canRelease 0 0, .canSwapDetect 0, .canDominantTimeout 0, .txSend 0, 
    .rxRead 0, .filterLoad 0, .gatewayEthFrame, .rateHoldRelease 0, .mapTimeout 0, .pduPeriodicSend 0, 
    .ntscfBatchTimeout 0, .gwRecvHoldTimeout 0, .ruleSet 0, .mapLoad 0, .pduSet 0, .templateSet 0, .freshSet 0, 
    .gwRecv 0, .ruleRead 0, .sleep 0, .sleepDrainEnd, .sleepDrainTimeout, .wakeEvent 0, .wakeTimerExpiry] : List Instr).all (fun i => i.wf) = true := by decide +kernel

theorem test_wf_takes_4 : ([.offWaitExpiry, .trcvStateWrite 0 0 0, .trcvWake 0 .pattern, .wakeValidityEnd 0, .wakeConfirm 0 0, .backoffEnd 0, 
    .backoffClear 0 0, .vaonRise, .vaonLoss, .chSet 0, .chConfig 0, .latchClr 0, .wdArm 0, .coStore 0, .testSweep 0, 
    .inrushEnd 0, .limTimeExpiry 0, .fastTrip 0 0, .thermalTrip 0 0 0, .restartDue 0 0 0, .retryReset 0, .bankFold 0 0, 
    .bankFoldEnd 0 0, .bankOverload 0 0, .blankingEnd 0, .bankUndervoltage 0 0, .bankUvRecover 0 0, 
    .powerDiePowerUp 0 0, .powerDieUnpowered 0 0, .outputDiagDebounce 0 0 true, .pwmFrameStart 0, 
    .keepAliveSend 0 true true, .dieWatchdogExpiry 0, .ldcLinkLost 0, .ldcLinkRestored 0, .ldcShedWrite 0 0, 
    .serialCharReceived 0 0 true 0, .serialGapTimeout 0, .serialTxStart 0, .serialCharSent 0 0, .polarityDecide 0 0, 
    .inputSample 0 eightI, .serSend 0, .serRecv 0, .dinRead 0, .modeSet 0, .gaugeEvaluate, .sampleGap 0, 
    .gaugeLatch 0 0, .windowBoundary 0] : List Instr).all (fun i => i.wf) = true := by decide +kernel

theorem test_wf_takes_5 : ([.scheduleTrigger 0, .partitionKick 0 0, .partitionWdExpiry 0, .lockstepMismatch 0, .schedLoad 0, .partRestart 0, 
    .mbxEnable 0 0 0, .mbxSlotWrite 0 0 0 0, .mbxDoorbell 0 0 0, .mbxTake 0 0 0, .mbxTimeout 0, .mbxAccessDeny 0 0 true, 
    .queueEnable 0 0 0, .queueDisable 0 0 0, .queuePush .mgmt 0 0, .queueHeldPushDone 0 0, .queuePop .mgmt 0, 
    .queuePeek .mgmt 0, .semAcquire 0 0, .semRelease 0 0 0, .semReclaim 0 0, .keyGenerate 0 true, .keyDerive 0, 
    .keyImport 0, .keyErase 0, .pubkeyRead 0, .sign 0, .verify 0, .cmac 0, .gcmSeal 0, .gcmOpen 0, .attest 0, 
    .debugChallenge 0, .debugOpen 0, .enrol 0 true, .revoke 0, .custkeySet 0, .challengeExpiry, .tamperAssert 0 none, 
    .coldCastOn 0 0, .trialExpiry, .booConfirm 0 0, .igionArp [], .igionHello [], .igionOpen [], .igionData [], 
    .igionCommit [], .igionAbort [], .igionReset [], .igionSessionTimeout] : List Instr).all (fun i => i.wf) = true := by decide +kernel

theorem test_wf_takes_6 : ([.chainStart 0 [], .chainBlock 0 [], .chainEnd 0 [], .chainAck 0 [], .chainRepeatTimeout 0, .chainRxTimeout, 
    .stageErase 0, .configWrite 0, .chainSend 0, .pairEnable 0 0, .pairDisable 0 0, .heartbeatSend, 
    .heartbeatReceive 0 [], .partnerDead, .startTimeout, .termReceive 0 [], .witnessTimeout, .beaconSend, 
    .beaconReceive 0 [], .mirrorReceive 0 [], .mirrorRetx 0, .bridgeRequest 0 [], .bridgeCompletion 0 [], 
    .bridgeTimeout 0, .crossTimeout, .switch 0, .funcRestart 0, .funcRestartDone 0, .warmReset 0, .powerCycle 0, 
    .devResetWrite 0 0, .devPwrcycWrite 0 0, .resetNAssert, .resetNRelease, .warmResetBegin, .powerCycleBegin, 
    .powerCycleEnd 0 0, .vlogLoss, .mgmtWdExpiry, .mgmtFault, .hostKick 0 0, .hostWdExpiry, .thermalPoll 0, 
    .flashOperationDone 0 none, .canBusIntegrated 0, .audioLinkRestored] : List Instr).all (fun i => i.wf) = true := by decide +kernel

theorem test_wf_refuses_1 : ([.registerWrite 32 0 0, .registerWrite 0 2097152 0, .registerWrite 0 2 0, .registerWrite 0 0 (2 ^ 32), 
    .evtClear 32 0 0 0, .evtClear 0 2097152 0 0, .evtClear 0 2 0 0, .evtClear 0 0 (2 ^ 32) 0, .evtClear 0 0 0 (2 ^ 32), 
    .evtEnWrite 32 0 0, .evtEnWrite 0 2097152 0, .evtEnWrite 0 2 0, .evtEnWrite 0 0 (2 ^ 32), .counterReadLow 32 0, 
    .counterReadLow 0 2097152, .counterReadLow 0 2, .memoryAccess { accW with src := .core 8 }, 
    .memoryAccess { accW with size := 0 }, .memoryAccess { accW with addr := 2 ^ 48 }, 
    .memoryAccess { accW with write := true }, .memoryAccess { accW with size := 3, amo := some .add }, 
    .memoryAccess { accW with upsets := [⟨0, 72, false⟩] }, .tagGrant (.cluster 2), .tagGrant (.engine 16), 
    .readTimeout 256, .lateResponse 256, .guardSelect 32 0, .guardSelect 0 (2 ^ 32), .guardCommit 32 0, 
    .guardCommit 0 (2 ^ 32), .effectRangeWrite 32 0 0 0, .effectRangeWrite 0 8 0 0, .effectRangeWrite 0 0 4 0, 
    .effectRangeWrite 0 0 0 (2 ^ 32), .patrolStitch [⟨0, 72, false⟩], .scrubRegion 256, .fillRegion 256, 
    .barBadAccess true 6 0, .barBadAccess true 0 (2 ^ 64), .doorbellCmd 32 0 0, .doorbellCmd 0 256 0, 
    .doorbellCmd 0 0 (2 ^ 32), .doorbellCpl 32 0 0, .doorbellCpl 0 256 0, .doorbellCpl 0 0 (2 ^ 32), 
    .roundEnable 32 0 0, .roundEnable 0 256 0, .roundEnable 0 0 (2 ^ 32), .roundDisable 32 0 0, .roundDisable 0 256 0] : List Instr).all (fun i => !i.wf) = true := by decide +kernel

theorem test_wf_refuses_2 : ([.roundDisable 0 0 (2 ^ 32), .roundBaseWrite 32 0 0 0, .roundBaseWrite 0 256 0 0, .roundBaseWrite 0 0 4 0, 
    .roundBaseWrite 0 0 0 (2 ^ 32), .runaheadFetch 256 [], .runaheadFetch 0 [⟨0, 72, false⟩], .descriptorStart 256 [], .descriptorStart 0 [⟨0, 72, false⟩], 
    .stitch 256 true, .completionWrite 256, .cancel 32 0, .cancel 0 (2 ^ 32), .moderationTimer 256, .msixUnmask 64, 
    .hostCompletion 256 .abort, .hostCplTimeout 256, .pcieLinkUp 5 0 0 0 pciW, .pcieLinkUp 0 5 0 0 pciW, 
    .pcieLinkUp 0 0 6 0 pciW, .pcieLinkUp 0 0 0 6 pciW, .frameReceive 21 rxW, 
    .frameReceive 0 { rxW with bytes := zeros 16001 }, .pauseReceive 21 0 0, 
    .pauseReceive 0 (2 ^ 48) 0, .pauseReceive 0 0 65536, .pfcReceive 21 0 eight, .pfcReceive 0 256 eight, 
    .pfcReceive 0 0 [], .pfcReceive 0 0 [65536, 0, 0, 0, 0, 0, 0, 0], .pauseExpiry 21 0, .pauseExpiry 0 9, 
    .pauseRefresh 21, .txFrameStart 21 [], .txFrameStart 0 [⟨0, 72, false⟩], .txFrameEnd 21 [], .txFrameEnd 0 [⟨0, 72, false⟩], .ageExpiry 16384, .cbReseqTimeout 1024, 
    .cbResetTimeout 1024, .holdExpire 24, .plyDeadline 512, .fdbAdd 256, .fdbDel 256, .fdbLookup 256, .fdbFlush 256, 
    .vlanSet 256, .swcStreamSet 256, .streamClear 256, .frameSend 256, .frameRecv 256, .macEnable 32 0 0, 
    .macEnable 0 21 0] : List Instr).all (fun i => !i.wf) = true := by decide +kernel

theorem test_wf_refuses_3 : ([.macEnable 0 0 (2 ^ 32), .macDisable 32 0 0, .macDisable 0 21 0, .macDisable 0 0 (2 ^ 32), .anegComplete 21 true, 
    .anegRestartTimeout 21, .linkLockTimer 21, .linkLoss 21, .gateChange 21, .gateSwitch 21, .gateEnable 32 0 0, 
    .gateEnable 0 21 0, .gateEnable 0 0 (2 ^ 32), .preemptVerifyTimeout 21, .qciGateChange 128, .gclLoad 256, 
    .qciFilterSet 256, .qciGateLoad 256, .qciMeterSet 256, .qciRead 256, .spSend 256, .spRecv 256, .timIncWrite 32 0, 
    .timIncWrite 0 (2 ^ 32), .timeStepWrite 32 0, .timeStepWrite 0 (2 ^ 32), .txtsEnqueue 21, .triggerFire 16, 
    .trgArm 256, .trgDisarm 256, .txtsRead 256, .skipClr 32 0 0, .skipClr 0 16 0, .skipClr 0 0 (2 ^ 32), .pinPulseEnd 5, 
    .nodeProcess 2048 [], .edgeDeadline 1536 0, .edgeDeadline 0 2, .sinkDeadline 8 0 0, .sinkDeadline 0 16 0, 
    .sinkDeadline 0 0 16, .biasFault 8, .patternLoad 256, .nodeSet 256, .nodeRead 256, .chimeLoad 256, 
    .audStreamSet 256, .engineDeadline 16, .engineFail 16, .engineBack 16] : List Instr).all (fun i => !i.wf) = true := by decide +kernel

theorem test_wf_refuses_4 : ([.engineUnexclude 32 0, .engineUnexclude 0 (2 ^ 32), .placeRead 256, .patternCheck 256, .carveHint 256, 
    .canEnable 12 0, .canEnable 0 (2 ^ 32), .canDisable 12 0, .canDisable 0 (2 ^ 32), .canFrameReceived 12 canW 0, 
    .canFrameReceived 0 { canW with fmt := 3 } 0, .canFrameReceived 0 { canW with id := 2 ^ 11 } 0, .canFrameReceived 0 { canW with id := 2 ^ 29, xtd := true } 0, 
    .canFrameReceived 0 { canW with dlc := 16 } 0, .canFrameReceived 0 { canW with brs := true } 0, 
    .canFrameReceived 0 { canW with remote := true, data := [0] } 0, .canFrameReceived 0 { canW with af := 1 } 0, 
    .canFrameReceived 0 { canW with fmt := 1, data := zeros 9 } 0, .canFrameReceived 0 { canW with fmt := 2 } 0, 
    .canFrameReceived 0 { canW with dlc := 2048 } 0, .canFrameReceived 0 { canW with sdt := 256 } 0, 
    .canFrameReceived 0 { canW with vcid := 256 } 0, .canFrameReceived 0 { canW with af := 2 ^ 32 } 0, 
    .canFrameReceived 0 { canW with data := zeros 9 } 0, .canFrameReceived 0 canW (2 ^ 32), .canProtocolException 12 0, 
    .canProtocolException 0 3, .canTxStart 12, .canArbLost 12, .canTxDone 12, .canTxError 12 errW, .canRxError 12 errW, 
    .canBusoffRecovered 12, .canRecover 12 0, .canRecover 0 (2 ^ 32), .canRelease 12 0, .canRelease 0 (2 ^ 32), 
    .canSwapDetect 12, .canDominantTimeout 12, .txSend 256, .rxRead 256, .filterLoad 256, .rateHoldRelease 2048, 
    .mapTimeout 512, .pduPeriodicSend 256, .ntscfBatchTimeout 64, .gwRecvHoldTimeout 256, .ruleSet 256, .mapLoad 256, 
    .pduSet 256, .templateSet 256, .freshSet 256, .gwRecv 256, .ruleRead 256, .sleep 256, .wakeEvent 29, 
    .trcvStateWrite 32 0 0] : List Instr).all (fun i => !i.wf) = true := by decide +kernel

theorem test_wf_refuses_5 : ([.trcvStateWrite 0 8 0, .trcvStateWrite 0 0 (2 ^ 32), .trcvWake 8 .pattern, .wakeValidityEnd 29, .wakeConfirm 32 0, 
    .wakeConfirm 0 (2 ^ 32), .backoffEnd 29, .backoffClear 32 0, .backoffClear 0 (2 ^ 32), .chSet 256, .chConfig 256, 
    .latchClr 256, .wdArm 256, .coStore 256, .testSweep 256, .inrushEnd 32, .limTimeExpiry 32, .fastTrip 32 0, 
    .thermalTrip 32 0 0, .restartDue 32 0 0, .retryReset 32, .outputDiagDebounce 32 0 true, 
    .outputDiagDebounce 0 4 true, .ldcShedWrite 32 0, .ldcShedWrite 0 (2 ^ 32), .serialCharReceived 8 0 true 0, 
    .serialGapTimeout 8, .serialTxStart 8, .serialCharSent 8 0, 
    .serialCharSent 0 256, .polarityDecide 4 0, .inputSample 4 eightI, .inputSample 0 [], .serSend 256, .serRecv 256, 
    .dinRead 256, .modeSet 256, .gaugeLatch 32 0, .gaugeLatch 0 (2 ^ 32), .windowBoundary 8, .scheduleTrigger 8, 
    .partitionKick 32 0, .partitionKick 0 32, .partitionWdExpiry 32, .lockstepMismatch 4, .schedLoad 256, 
    .partRestart 256, .mbxEnable 32 0 0, .mbxEnable 0 32 0] : List Instr).all (fun i => !i.wf) = true := by decide +kernel

theorem test_wf_refuses_6 : ([.mbxEnable 0 0 (2 ^ 32), .mbxSlotWrite 32 0 0 0, .mbxSlotWrite 0 32 0 0, .mbxSlotWrite 0 0 16 0, 
    .mbxSlotWrite 0 0 0 (2 ^ 32), .mbxDoorbell 32 0 0, .mbxDoorbell 0 32 0, .mbxDoorbell 0 0 (2 ^ 32), .mbxTake 32 0 0, 
    .mbxTake 0 32 0, .mbxTake 0 0 (2 ^ 32), .mbxTimeout 32, .mbxAccessDeny 32 0 true, .mbxAccessDeny 0 32 true, 
    .queueEnable 32 0 0, .queueEnable 0 64 0, .queueEnable 0 0 (2 ^ 32), .queueDisable 32 0 0, .queueDisable 0 64 0, 
    .queueDisable 0 0 (2 ^ 32), .queuePush (.core 8) 0 0, .queuePush (.round 256) 0 0, .queuePush (.engine 16) 0 0, 
    .queuePush (.pair 19) 0 0, .queuePush .mgmt 64 0, .queuePush .mgmt 0 (2 ^ 48), .queueHeldPushDone 64 0, 
    .queuePop (.core 8) 0, .queuePop (.round 256) 0, .queuePop (.engine 16) 0, .queuePop (.pair 19) 0, 
    .queuePop .mgmt 64, .queuePeek (.core 8) 0, .queuePeek (.round 256) 0, .queuePeek (.engine 16) 0, 
    .queuePeek (.pair 19) 0, .queuePeek .mgmt 64, .semAcquire 32 0, .semAcquire 0 64, .semRelease 32 0 0, 
    .semRelease 0 64 0, .semRelease 0 0 (2 ^ 32), .semReclaim 32 0, .semReclaim 0 (2 ^ 32), .keyGenerate 256 true, 
    .keyDerive 256, .keyImport 256, .keyErase 256, .pubkeyRead 256, .sign 256] : List Instr).all (fun i => !i.wf) = true := by decide +kernel

theorem test_wf_refuses_7 : ([.verify 256, .cmac 256, .gcmSeal 256, .gcmOpen 256, .attest 256, .debugChallenge 256, .debugOpen 256, 
    .enrol 256 true, .revoke 256, .custkeySet 256, .tamperAssert 7 none, .coldCastOn 2 0, .coldCastOn 0 2, 
    .booConfirm 32 0, .booConfirm 0 (2 ^ 32), .igionArp (zeros 16001), .igionHello (zeros 16001), 
    .igionOpen (zeros 16001), .igionData (zeros 16001), .igionCommit (zeros 16001), .igionAbort (zeros 16001), 
    .igionReset (zeros 16001), .chainStart 2 [], .chainStart 0 (zeros 16001), .chainBlock 2 [], 
    .chainBlock 0 (zeros 16001), .chainEnd 2 [], .chainEnd 0 (zeros 16001), .chainAck 2 [], .chainAck 0 (zeros 16001), 
    .chainRepeatTimeout 2, .stageErase 256, .configWrite 256, .chainSend 256, .pairEnable 32 0, .pairEnable 0 (2 ^ 32), 
    .pairDisable 32 0, .pairDisable 0 (2 ^ 32), .heartbeatReceive 2 [], .heartbeatReceive 0 (zeros 16001), 
    .termReceive 2 [], .termReceive 0 (zeros 16001), .beaconReceive 2 [], .beaconReceive 0 (zeros 16001), 
    .mirrorReceive 2 [], .mirrorReceive 0 (zeros 16001), .mirrorRetx (2 ^ 32), .bridgeRequest 2 [], 
    .bridgeRequest 0 (zeros 16001), .bridgeCompletion 2 []] : List Instr).all (fun i => !i.wf) = true := by decide +kernel

theorem test_wf_refuses_8 : ([.bridgeCompletion 0 (zeros 16001), .bridgeTimeout (2 ^ 32), .switch 256, .funcRestart 256, .funcRestartDone 23, 
    .warmReset 256, .powerCycle 256, .devResetWrite 32 0, .devResetWrite 0 (2 ^ 32), .devPwrcycWrite 32 0, 
    .devPwrcycWrite 0 (2 ^ 32), .powerCycleEnd 2 0, .powerCycleEnd 0 2, .hostKick 32 0, .hostKick 0 (2 ^ 32), 
    .flashOperationDone 2 none, .canBusIntegrated 12] : List Instr).all (fun i => !i.wf) = true := by decide +kernel


end Sys2Proof.Tests
end

section
/-! What a step is, by what waits in the queue, and how equal memories, registers and counters read. -/
namespace Sys2Proof.Machine

/-- With nothing waiting, a step is a tick of the lattice. -/
theorem step_of_pending_nil {s : State} (h : s.pending = []) : step s = .next s.tick := by
  unfold step
  rw [h]

/-- With a command waiting, a step is that command on the rest of the queue. -/
theorem step_of_pending_cons {s : State} {c : Instr} {rest : List Instr} (h : s.pending = c :: rest) :
    step s = exec c { s with pending := rest } := by
  unfold step
  rw [h]

theorem State.rdMem_eq_of_mem_eq {s t : State} (h : t.mem = s.mem) (a : Nat) : t.rdMem a = s.rdMem a :=
  congrArg (storeGet memDefault · a) h

theorem State.rd_eq_of_regs_eq {s t : State} (h : t.regs = s.regs) (a : Nat) : t.rd a = s.rd a :=
  congrArg (storeGet resetVal · a) h

theorem State.cnt_eq_of_cnts_eq {s t : State} (h : t.cnts = s.cnts) (a : Nat) : t.cnt a = s.cnt a :=
  congrArg (storeGet cntDefault · a) h

/-- A tick of the lattice keeps the canonical forms. -/
theorem State.tick_wf {s : State} (w : s.Wf) : s.tick.Wf :=
  (State.tick_keeps (κ := 33554431) (sub_of rfl) (Keeps.refl _ s)).wf w

/-- Every command answers a next state and keeps the canonical forms. -/
theorem exec_next_wf (c : Instr) {s : State} (w : s.Wf) : ∃ t, exec c s = .next t ∧ t.Wf := by
  obtain ⟨t, ht, hk⟩ := exec_keeps c s
  exact ⟨t, ht, hk.wf w⟩

/-- Settles O46: a step is a tick or the command at the queue's front, and each keeps the canonical forms; taking the
command off the queue touches none of the three stores. -/
theorem everyStepKeepsCanonicalForms : Obligations.EveryStepKeepsCanonicalForms := by
  unfold Obligations.EveryStepKeepsCanonicalForms
  intro s w
  cases hp : s.pending with
  | nil => exact ⟨s.tick, step_of_pending_nil hp, State.tick_wf w⟩
  | cons c rest =>
    have wr : ({ s with pending := rest } : State).Wf := w
    rw [step_of_pending_cons hp]
    exact exec_next_wf c wr

/-- Settles O48: a part that a command's list does not name is the same data afterwards, so it reads the same. -/
theorem frameOfMemoryRegistersCounters : Obligations.FrameOfMemoryRegistersCounters := by
  unfold Obligations.FrameOfMemoryRegistersCounters
  intro c s
  obtain ⟨t, ht, hk⟩ := exec_keeps c s
  refine ⟨t, ht, fun hm => ?_, fun hr => ?_, fun hc => ?_⟩
  · exact State.rdMem_eq_of_mem_eq (hk.part .mem hm)
  · exact State.rd_eq_of_regs_eq (hk.part .regs hr)
  · exact State.cnt_eq_of_cnts_eq (hk.part .cnts hc)

end Sys2Proof.Machine
end

section
/-! Where the registers lie whose read has an effect (R8), and what any other read leaves. -/
namespace Sys2Proof.Machine

/-- The distance from a row's base to the last of its index combinations. -/
def dimsSpan : List (Nat × Nat) → Nat
  | [] => 0
  | (c, s) :: r => (c - 1) * s + dimsSpan r

/-- An index combination of a row lies within the row's span. -/
theorem le_dimsSpan_of_dimsHit {l : List (Nat × Nat)} {d : Nat} (h : dimsHit l d = true) : d ≤ dimsSpan l := by
  induction l generalizing d with
  | nil => exact Nat.le_of_eq (of_decide_eq_true h)
  | cons x r ih =>
    obtain ⟨c, s⟩ := x
    have rest : d - min (d / s) (c - 1) * s ≤ dimsSpan r := ih h
    have first : min (d / s) (c - 1) * s ≤ (c - 1) * s := Nat.mul_le_mul_right s (Nat.min_le_right _ _)
    unfold dimsSpan
    omega

/-- Each run of counters lies in offsets 0xF000 to 0xFFFF of one page. -/
theorem counterRuns_in_effect_range :
    ∀ r ∈ counterRuns, 0xF000 ≤ r.1 % 0x10000 ∧ r.1 % 0x10000 + dimsSpan r.2 < 0x10000 := by
  decide +kernel

/-- A counter's low register lies at offset 0xF000 of its page or above. -/
theorem le_offset_of_isCounter {a : Nat} (h : isCounter a = true) : 0xF000 ≤ a % 0x10000 := by
  obtain ⟨r, hr, hit⟩ := List.any_eq_true.mp h
  rw [Bool.and_eq_true, decide_eq_true_eq] at hit
  obtain ⟨base, dims⟩ := hit
  obtain ⟨low, high⟩ := counterRuns_in_effect_range r hr
  have near := le_dimsSpan_of_dimsHit dims
  omega

/-- A semaphore's acquiring register lies at offset 0xF000 of its page or above. -/
theorem le_offset_of_semAcq {a : Nat} (h : R.SEM_ACQ 0 ≤ a ∧ a < R.SEM_ACQ 64) : 0xF000 ≤ a % 0x10000 := by
  unfold R.SEM_ACQ at h
  omega

/-- A read that no mailbox refuses, of a register that is neither a counter's nor a semaphore's acquiring one, leaves
the state. -/
theorem State.regRead_state_of_no_effect {s : State} {pid a : Nat} (hm : s.mbRefused pid a = false)
    (hc : isCounter a = false) (hs : ¬(R.SEM_ACQ 0 ≤ a ∧ a < R.SEM_ACQ 64)) : (s.regRead pid a).1 = s := by
  have hs' : ¬(R.SEM_ACQ 0 ≤ a ∧ a < R.SEM_ACQ 64 ∧ a % 4 = 0) := fun h => hs ⟨h.1, h.2.1⟩
  unfold State.regRead
  rw [if_neg (by simp [hm]), if_neg (by simp [hc]), if_neg hs']
  split <;> rfl

/-- Settles O50: the registers whose read has an effect, counters and SEM_ACQ, all lie at 0xF000 or above. -/
theorem readsBelowF000HaveNoEffect : Obligations.ReadsBelowF000HaveNoEffect := by
  unfold Obligations.ReadsBelowF000HaveNoEffect
  intro pid a s hm below
  have hc : isCounter a = false :=
    Bool.eq_false_iff.mpr fun h => Nat.not_lt.mpr (le_offset_of_isCounter h) below
  have hs : ¬(R.SEM_ACQ 0 ≤ a ∧ a < R.SEM_ACQ 64) := fun h => Nat.not_lt.mpr (le_offset_of_semAcq h) below
  exact State.regRead_state_of_no_effect hm hc hs

end Sys2Proof.Machine
end

section
/-! The register commands: what a write by the access codes, an event clear without a new event, the guard staging and the
effect ranges do (R10, R12, R75, R77, R530). -/
namespace Sys2Proof.Machine

/-- A pass over a list that leaves `s` at every item leaves it. -/
theorem forEach_eq_self {α σ : Type} {l : List α} {f : α → σ → σ} {s : σ} (h : ∀ x, f x s = s) :
    forEach l f s = s := by
  unfold forEach
  induction l with
  | nil => rfl
  | cons x l ih => rw [List.foldl_cons, h, ih]

@[simp] theorem bitOf_zero_left (i : Nat) : bitOf 0 i = false := by simp [bitOf]

/-- No event occurs, none is counted. -/
@[simp] theorem State.countEvts_zero (s : State) (a : Nat) : s.countEvts a 0 = s :=
  forEach_eq_self fun e => by simp

/-- No event bit, no interrupt. -/
@[simp] theorem State.sendEvtBits_zero (s : State) (a : Nat) : s.sendEvtBits a 0 = s := by
  unfold State.sendEvtBits
  split
  · exact forEach_eq_self fun i => by simp
  · exact if_pos rfl

/-- A clear during which no event occurs leaves the bits that were not written as 1. -/
theorem State.evtClear_no_coincide {s : State} {pid a : Nat} (v : Nat) (h : s.mayWrite pid a = true) :
    s.evtClear pid a v 0 =
      s.wr a (BitVec.ofNat 32 ((s.rd a).toNat ^^^ ((s.rd a).toNat &&& (v &&& w1cOf a)))) := by
  simp [State.evtClear, h]

/-- A write of the memory page's plain registers acts through the access codes alone. -/
theorem State.regWrite_memPage {s : State} {a : Nat} (pid v : Nat) (page : a / 0x10000 = 2)
    (plain : a ≠ R.MEM_SCRUB_INTERVAL) (hev : isEvt a = false) (hen : isEvtEn a = false) :
    s.regWrite pid a v = s.regApply a v := by
  have hcancel : a ≠ R.RND_CANCEL := fun h => by rw [h] at page; exact absurd page (by decide)
  simp [State.regWrite, State.pageWrite, State.applyBut, forEach, page, plain, hev, hen, hcancel]

/-- A permitted write of an EVT_EN register sends the newly enabled events that are set. -/
theorem State.evtEnWrite_of_mayWrite {s : State} {pid a : Nat} (v : Nat) (h : s.mayWrite pid a = true) :
    s.evtEnWrite pid a v = (s.regApply a v).sendEvtBits (a - 4)
      (((((s.regApply a v).rd a).toNat ^^^ (((s.regApply a v).rd a).toNat &&& (s.rd a).toNat))) &&&
        ((s.regApply a v).rd (a - 4)).toNat) :=
  if_pos h

/-- The state with `r` in the staging registers of the guard rules. -/
def State.stageRule (s : State) (r : GRule) : State :=
  ((((((s.put F.JER_GBASE_LO_ADDR r.base).put F.JER_GBASE_LO_VALID (b2n r.valid)).put F.JER_GBASE_HI_ADDR
    (r.base / 2 ^ 20)).put F.JER_GLIMIT_LO_ADDR r.limit).put F.JER_GLIMIT_HI_ADDR (r.limit / 2 ^ 20)).put
    F.JER_GRD_MASK r.rd).put F.JER_GWR_MASK r.wr

/-- A write of JER_GSEL that selects a rule stages that rule. -/
theorem State.guardSelect_of_ruleSel {s : State} {v k : Nat} (h : (s.regApply R.JER_GSEL v).ruleSel = some k) :
    s.guardSelect v = (s.regApply R.JER_GSEL v).stageRule
      (storeGet guardDefault (s.regApply R.JER_GSEL v).fab.guards k) := by
  unfold State.guardSelect
  simp only [h]
  rfl

/-- GO stores the staging as the selected rule. -/
theorem State.guardCommit_of_ruleSel {s : State} {v k : Nat} (h : s.ruleSel = some k) (go : bitOf v 0 = true) :
    s.guardCommit v = s.setFab { s.fab with guards := storeSet guardDefault s.fab.guards k s.stagedRule } := by
  unfold State.guardCommit
  simp only [h, go]
  rfl

/-- A write that leaves the effect range off or valid sets the register alone. -/
theorem State.effWrite_of_sound {s : State} {n a v : Nat}
    (h : (s.regApply a v).on (F.JER_EFF_BASE_LO_EN n) = false ∨ (s.regApply a v).effValid n = true) :
    s.effWrite n a v = s.regApply a v :=
  if_neg (by rcases h with h | h <;> simp [h])

/-- A write that leaves the effect range on and not valid raises EFF_BAD. -/
theorem State.effWrite_of_bad {s : State} {n a v : Nat}
    (on : (s.regApply a v).on (F.JER_EFF_BASE_LO_EN n) = true) (bad : (s.regApply a v).effValid n = false) :
    s.effWrite n a v = (s.regApply a v).raise F.JER_EVT_EFF_BAD :=
  if_pos (by simp [on, bad])

/-- A command whose condition holds answers what it then does. -/
theorem next_if_pos {c : Prop} [Decidable c] {s t u : State} (h : c) (e : t = u) :
    (Host.Outcome.next (if c then t else s) : Res) = .next u := by
  rw [if_pos h, e]

/-- Settles O1: each clause is the command's arm with the rule of the operation it performs. -/
theorem registerCommandsComplete : Obligations.RegisterCommandsComplete := by
  unfold Obligations.RegisterCommandsComplete
  refine ⟨?write, ?memPage, ?clear, ?clearAny, ?enable, ?counter, ?select, ?commit, ?effSound, ?effBad, ?bar⟩
  case write => exact fun _ _ _ _ => rfl
  case memPage =>
    intro pid addr val s page plain hev hen
    exact congrArg Host.Outcome.next (State.regWrite_memPage pid _ page plain hev hen)
  case clear =>
    intro pid addr val s hev _ may
    exact next_if_pos hev (State.evtClear_no_coincide val may)
  case clearAny => exact fun _ _ _ _ _ hev => next_if_pos hev rfl
  case enable =>
    rintro pid addr val s _ hen may rfl
    exact next_if_pos hen (State.evtEnWrite_of_mayWrite _ may)
  case counter => exact fun _ _ _ hc => next_if_pos hc rfl
  case select =>
    rintro pid val k s _ rfl sel
    exact congrArg Host.Outcome.next (State.guardSelect_of_ruleSel sel)
  case commit =>
    intro pid val k s sel go
    exact congrArg Host.Outcome.next (State.guardCommit_of_ruleSel sel go)
  case effSound =>
    rintro pid n which val s _ hn rfl sound
    exact next_if_pos hn (State.effWrite_of_sound sound)
  case effBad =>
    rintro pid n which val s _ hn rfl on bad
    exact next_if_pos hn (State.effWrite_of_bad on bad)
  case bar => exact fun _ _ _ _ => rfl

end Sys2Proof.Machine
end

section
/-! The architecture's statements: what every step and command keeps (R47, R57, R187), and the enclave's private memory,
which its own guard closes (R44). -/
namespace Sys2Proof.Machine

/-- Settles O42: a step matches on the queue, and its front command is performed on the rest. -/
theorem stepTakesTheFrontCommand : Obligations.StepTakesTheFrontCommand := by
  unfold Obligations.StepTakesTheFrontCommand
  refine ⟨fun c rest s front => step_of_pending_cons front, fun c s => ?_⟩
  exact step_of_pending_cons (s := { s with pending := c :: s.pending }) rfl

/-- Settles O45: reset lists nothing in the three stores, and an empty store is in canonical form. -/
theorem resetIsWellFormed : Obligations.ResetIsWellFormed := by
  unfold Obligations.ResetIsWellFormed
  have memWf : Memory.wf State.reset.mem = true := rfl
  have regsWf : storeWf resetVal State.reset.regs = true := rfl
  have cntsWf : storeWf cntDefault State.reset.cnts = true := rfl
  exact ⟨memWf, regsWf, cntsWf⟩

/-- Settles O47: the queue, the outputs, time and the free values are among what `exec_keeps` says every command keeps. -/
theorem commandsKeepTheQueueAndAddOutputs : Obligations.CommandsKeepTheQueueAndAddOutputs := by
  unfold Obligations.CommandsKeepTheQueueAndAddOutputs
  intro c s
  obtain ⟨t, ht, kept⟩ := exec_keeps c s
  exact ⟨t, ht, kept.pending, kept.out_adds, kept.now_le, kept.fresh_le⟩

/-- The enclave's private memory is one region of the fabric address map (R58). -/
theorem regionOf_enclave {a : Nat} (lo : 0x130000000 ≤ a) (hi : a < 0x130040000) :
    regionOf a = some (.enclave, 0x130000000, 0x130040000) := by
  unfold regionOf
  iterate 12 rw [if_neg (by omega)]
  exact if_pos hi

/-- The enclave's guard asks no rule: it permits partition 1 and no other. -/
theorem State.permitted_enclave (s : State) (pid : Nat) (write : Bool) {page : Nat} (lo : 0x130000 ≤ page)
    (hi : page < 0x130040) : s.permitted pid write page = decide (pid = 1) := by
  unfold State.permitted
  rw [regionOf_enclave (by omega) (by omega)]
  rfl

/-- An access whose first page is not permitted is denied at its first byte. -/
theorem State.denied_of_first_page {s : State} {pid a n : Nat} {write : Bool}
    (closed : s.permitted pid write (a / 4096) = false) : s.denied pid write a n = some a := by
  have pages : (a + (n - 1)) / 4096 + 1 - a / 4096 = (a + (n - 1)) / 4096 - a / 4096 + 1 :=
    Nat.succ_sub (Nat.div_le_div_right (Nat.le_add_right a (n - 1)))
  have start : max a (a / 4096 * 4096) = a := Nat.max_eq_left (Nat.div_mul_le_self a 4096)
  unfold State.denied
  simp [pages, List.range_succ_eq_map, closed, start]

/-- Settles O55: an address of the private memory lies in a page of it, whose guard permits partition 1 alone. -/
theorem enclaveMemoryIsClosed : Obligations.EnclaveMemoryIsClosed := by
  unfold Obligations.EnclaveMemoryIsClosed
  refine ⟨?page, ?first⟩
  case page =>
    rintro pid page write s ⟨lo, hi⟩
    exact s.permitted_enclave pid write lo hi
  case first =>
    rintro pid a n write s ⟨lo, hi⟩ _ other
    have closed : s.permitted pid write (a / 4096) = false := by
      rw [s.permitted_enclave pid write (by omega) (by omega), decide_eq_false other]
    exact State.denied_of_first_page closed

end Sys2Proof.Machine
end

section
/-! Accesses on the fabric (R43, R45, R60, R71): which tag they take, what the map and the guards say of them, and what they
do to memory. -/
namespace Sys2Proof.Machine

variable {s : State} {a : Access} {pid tag : Nat}

/-- An access that its source may issue, other than the host's, goes out on the fabric. -/
theorem exec_memoryAccess_fabric (may : (s.upset a.upsets).mayIssue a = true) (notBar0 : a.src ≠ .bar0)
    (notHost : a.src ≠ .host) :
    exec (.memoryAccess a) s =
      .next (((s.upset a.upsets).access a).1.reply a.src ((s.upset a.upsets).access a).2) := by
  refine next_if_pos may ?_
  split
  · exact absurd ‹_› notBar0
  · exact absurd ‹_› notHost
  · rfl

/-- A plain write takes no tag. -/
theorem State.access_write (write : a.write = true) (plain : a.amo = none) :
    s.access a = s.perform a (s.pidOf a.src) 256 := by
  simp [State.access, write, plain]

/-- A plain read takes the tag that its master can have at once. -/
theorem State.access_read {m : Master} (read : a.write = false) (master : masterOf a.src = some m)
    (free : s.tagNow m = some tag) : s.access a = s.perform a (s.pidOf a.src) tag := by
  simp [State.access, read, master, free]

theorem accWrites_of_write (write : a.write = true) : accWrites a = true := by
  simp [accWrites, write]

theorem accWrites_of_read (read : a.write = false) (plain : a.amo = none) : accWrites a = false := by
  simp [accWrites, read, plain]

/-- The guards check a write for writing alone. -/
theorem State.deniedAt_write (write : a.write = true) :
    s.deniedAt a pid = (s.denied pid true a.addr a.size).map (·, true) := by
  unfold State.deniedAt
  cases s.denied pid true a.addr a.size <;> simp [write, accWrites_of_write]

/-- The guards check a plain read for reading alone. -/
theorem State.deniedAt_read (read : a.write = false) (plain : a.amo = none) :
    s.deniedAt a pid = (s.denied pid false a.addr a.size).map (·, false) := by
  unfold State.deniedAt
  cases s.denied pid false a.addr a.size <;> simp [read, accWrites_of_read, plain]

/-- A write with an unmapped byte is counted and ends with BADARG (R60). -/
theorem State.perform_write_unmapped (write : a.write = true) (unmapped : s.mapped true a.addr a.size = false) :
    s.perform a pid tag = (s.unmapped, some (St.BADARG, [])) := by
  simp [State.perform, accWrites_of_write write, unmapped, errAnswer, write, zeros]

/-- A mapped write that a guard denies is reported and ends with NOTPERMIT (R45). -/
theorem State.perform_write_denied {x : Nat} (write : a.write = true) (mapped : s.mapped true a.addr a.size = true)
    (denied : s.denied pid true a.addr a.size = some x) :
    s.perform a pid tag = (s.deny a.src pid (guardAt x) true x, some (St.NOTPERMIT, [])) := by
  simp [State.perform, accWrites_of_write write, mapped, State.deniedAt_write write, denied, errAnswer, write, zeros]

/-- A plain write that is mapped and permitted is performed. -/
theorem State.perform_write (write : a.write = true) (plain : a.amo = none)
    (mapped : s.mapped true a.addr a.size = true) (permitted : s.denied pid true a.addr a.size = none) :
    s.perform a pid tag = s.writeAt a pid := by
  simp [State.perform, accWrites_of_write write, mapped, State.deniedAt_write write, permitted, plain, write]

/-- A plain read that is mapped and permitted is performed. -/
theorem State.perform_read (read : a.write = false) (plain : a.amo = none)
    (mapped : s.mapped false a.addr a.size = true) (permitted : s.denied pid false a.addr a.size = none) :
    s.perform a pid tag = s.readAt a pid tag := by
  simp [State.perform, accWrites_of_read read plain, mapped, State.deniedAt_read read plain, permitted, plain, read]

/-- A write to memory that tears no uncorrectable unit stores its bytes. -/
theorem State.writeAt_memory {t : Target} {lo hi : Nat} (region : regionOf a.addr = some (t, lo, hi))
    (memory : (memKind t).isSome = true) (noQueue : t ≠ .queues) (whole : s.eccTorn a.addr a.size = false) :
    s.writeAt a pid =
      ((s.eccWrite a.addr a.size pid).writeBytes a.addr (slice a.data 0 a.size), some (St.OK, [])) := by
  cases t with
  | dram | sram | pbuf | engine | enclave => simp [State.writeAt, region, whole]
  | queues => exact absurd rfl noQueue
  | setup | flash | host | partner => exact absurd memory Bool.false_ne_true

/-- A read of memory that meets no uncorrectable unit returns the bytes. -/
theorem State.readTarget_memory {t : Target} {lo hi : Nat} (region : regionOf a.addr = some (t, lo, hi))
    (memory : (memKind t).isSome = true) (noQueue : t ≠ .queues) (sound : s.eccBad a.addr a.size = false) :
    s.readTarget a pid tag =
      (s.eccRead a.addr a.size pid false, some (St.OK, s.readBytes a.addr a.size)) := by
  cases t with
  | dram | sram | pbuf | engine | enclave => simp [State.readTarget, region, sound]
  | queues => exact absurd rfl noQueue
  | setup | flash | host | partner => exact absurd memory Bool.false_ne_true

/-- A read that ends with OK fails no engine. -/
theorem State.readAt_of_ok {t : State} {b : Bytes} (ok : s.readTarget a pid tag = (t, some (St.OK, b))) :
    s.readAt a pid tag = (t, some (St.OK, b)) := by
  unfold State.readAt
  rw [ok]
  cases a.src <;> rfl

end Sys2Proof.Machine
end

section
/-! The ends of waiting and of reads (R34, R35), and the stitches of the MEM opcodes (R73, R79). -/
namespace Sys2Proof.Machine

variable {s : State}

/-- Where the round engine has written no set-up word, none is performed. -/
theorem State.performSetups_of_nil (noSetups : s.fab.setups = []) : s.performSetups = s := by
  unfold State.performSetups
  rw [noSetups]
  show s.setFab { s.fab with setups := [] } = s
  rw [← noSetups]
  rfl

/-- The state in which master `m` has had its turn and its first waiting read waits no more. -/
def State.turnTaken (s : State) (m : Master) : State :=
  s.setFab { s.fab with
    turn := lastIn m s.fab.turn
    waiting := dropFirst (fun x => masterOf x.1.src == some m) s.fab.waiting }

/-- A master whose turn it is has its first waiting read granted its free tag. -/
theorem exec_tagGrant {m : Master} {x : Access × Nat} {tag : Nat} (noSetups : s.fab.setups = [])
    (first : s.fab.waiting.find? (fun y => masterOf y.1.src == some m) = some x) (free : s.freeTag m = some tag)
    (may : s.mayGrant m = true) : exec (.tagGrant m) s = .next ((s.turnTaken m).granted x.1 x.2 tag) := by
  show execTagGrant m s = _
  simp [execTagGrant, State.performSetups_of_nil noSetups, first, free, may, State.turnTaken]

/-- A granted read of any source but the round engine is performed and answered. -/
theorem State.granted_of_not_round {a : Access} {pid tag : Nat} (src : ∀ n, a.src ≠ .round n) :
    s.granted a pid tag = (s.perform a pid tag).1.reply a.src (s.perform a pid tag).2 := by
  unfold State.granted
  split
  · exact absurd ‹_› (src _)
  · rfl

/-- A granted read for the descriptor at HEAD whose answer comes later is outstanding under its tag. -/
theorem State.granted_head {a : Access} {pid tag n : Nat} {d : Desc} (src : a.src = .round n)
    (waits : s.tagless n a = some d) (head : d.head = true) (later : (s.readChecked a pid tag).2 = none) :
    s.granted a pid tag = (s.readChecked a pid tag).1.updDesc d fun _ => { d with wait := some tag } := by
  simp [State.granted, src, State.grantDesc, waits, State.issueWith, later, head]

/-- A read by any source but the round engine is certain. -/
theorem State.unsure_of_not_round {t : TagUse} (src : ∀ n, t.acc.src ≠ .round n) : s.unsure t = false := by
  unfold State.unsure
  split
  · exact absurd ‹_› (src _)
  · rfl

/-- A read by any source but the round engine frees its tag and is answered. -/
theorem State.tagDone_of_not_round {t : TagUse} {status : Nat} {b : Bytes} (src : ∀ n, t.acc.src ≠ .round n) :
    s.tagDone t status b = (s.dropTag t.tag).answer t.acc.src status b := by
  unfold State.tagDone
  dsimp only
  split
  · exact absurd ‹_› (src _)
  · rfl

/-- The state in which the read under a tag has ended: it holds no lock and no request to the partner. -/
def State.readEnded (s : State) (tag : Nat) : State :=
  (s.setFab { s.fab with
    ended := s.fab.ended ++ [tag], locked := s.fab.locked.filter fun x => x.2.2 != tag }).onPai
    fun p => { p with outs := dropFirst (fun o => o.tag == tag) p.outs }

/-- A read without response for 10 ms ends, and is shown unless run-ahead made it. -/
theorem exec_readTimeout {tag : Nat} {t : TagUse}
    (due : s.fab.tags.find? (fun t => t.tag == tag && decide (t.issued + 10000000 ≤ s.now)) = some t) :
    exec (.readTimeout tag) s =
      .next ((if (s.readEnded tag).unsure t then s.readEnded tag else (s.readEnded tag).timedOut t).tagDone t
        St.TIMEOUT (errAnswer t.acc St.TIMEOUT).2) := by
  show execReadTimeout tag s = _
  unfold execReadTimeout
  rw [due]
  rfl

/-- A read of any source but the round engine is shown as it ends, and its source is answered with TIMEOUT. -/
theorem exec_readTimeout_of_not_round {tag : Nat} {t : TagUse}
    (due : s.fab.tags.find? (fun t => t.tag == tag && decide (t.issued + 10000000 ≤ s.now)) = some t)
    (src : ∀ n, t.acc.src ≠ .round n) :
    exec (.readTimeout tag) s =
      .next ((((s.readEnded tag).timedOut t).dropTag t.tag).answer t.acc.src St.TIMEOUT
        (errAnswer t.acc St.TIMEOUT).2) := by
  rw [exec_readTimeout due, State.unsure_of_not_round src, State.tagDone_of_not_round src, if_neg Bool.false_ne_true]

/-- The patrol scrubs once its interval has passed. -/
theorem exec_patrolStitch {upsets : List EccMark} (running : (s.upset upsets).on F.MEM_SCRUB_CTL_PATROL_EN = true)
    (due : (s.upset upsets).fab.patrolAt + 1000 * (s.upset upsets).get F.MEM_SCRUB_INTERVAL_INTERVAL ≤
      (s.upset upsets).now) (power : (s.upset upsets).pow.logic = true) :
    exec (.patrolStitch upsets) s = .next (s.upset upsets).patrolRun :=
  next_if_pos (by simp [running, due, power]) rfl

/-- An opcode's command acts on the descriptor that its round has for it. -/
theorem State.withOp_of_cur {n f op : Nat} {k : Desc → State} {d : Desc} (h : s.cur n f op = some d) :
    s.withOp n f op k = k d := by
  unfold State.withOp
  rw [h]

/-- A MEM opcode on a region that is not well formed ends with BADARG. -/
theorem State.memStart_of_bad {d : Desc} {write : Bool} {k : State → State} (bad : memRegionOk d = false) :
    s.memStart d write k = s.finish d St.BADARG 0 :=
  if_pos (by simp [bad])

/-- A MEM opcode that a guard denies is reported and ends with NOTPERMIT. -/
theorem State.memStart_of_denied {d : Desc} {write : Bool} {k : State → State} {x : Nat} (ok : memRegionOk d = true)
    (denied : s.denied (s.dPid d) write d.addr d.len = some x) :
    s.memStart d write k =
      (s.deny (.round d.round) (s.dPid d) (guardAt x) write x).finish d St.NOTPERMIT 0 := by
  simp [State.memStart, ok, denied]

/-- A MEM opcode on a well-formed region that no guard denies performs its stitch. -/
theorem State.memStart_of_permitted {d : Desc} {write : Bool} {k : State → State} (ok : memRegionOk d = true)
    (permitted : s.denied (s.dPid d) write d.addr d.len = none) : s.memStart d write k = k s := by
  simp [State.memStart, ok, permitted]

/-- A fill of at most 64 KiB that tears no uncorrectable unit is done in its first stitch. -/
theorem State.fillStitch_only {d : Desc} (start : d.prog = 0) (short : d.len ≤ 65536)
    (whole : s.eccTorn d.addr d.len = false) :
    s.fillStitch d = ((s.eccWrite d.addr d.len (s.dPid d)).writeBytes d.addr
      (patternBytes (d.len / 4) (u32 d.raw 20))).lastStitch d St.OK d.len := by
  simp [State.fillStitch, start, Nat.min_eq_right short, whole]

theorem exec_scrubRegion {r : Nat} {d : Desc} (h : s.cur r 0x02 1 = some d) :
    exec (.scrubRegion r) s = .next (s.memStart d false fun s => s.scrubStitch d) :=
  congrArg Host.Outcome.next (State.withOp_of_cur h)

theorem exec_fillRegion {r : Nat} {d : Desc} (h : s.cur r 0x02 2 = some d) :
    exec (.fillRegion r) s = .next (s.memStart d true fun s => s.fillStitch d) :=
  congrArg Host.Outcome.next (State.withOp_of_cur h)

end Sys2Proof.Machine
end

section
/-! The memory commands together: accesses, tags, the patrol and the MEM opcodes. -/
namespace Sys2Proof.Machine

/-- Settles O2: each clause is the command's rule above, on what the map, the guards and the tags say of the access or the
descriptor. -/
theorem memoryCommandsComplete : Obligations.MemoryCommandsComplete := by
  unfold Obligations.MemoryCommandsComplete
  refine ⟨?fabric, ?bar0, ?bar2, ?write, ?read, ?denied, ?unmapped, ?grant, ?grantHead, ?timeout, ?timeoutAny, ?late,
    ?patrol, ?scrub, ?fill, ?badRegion, ?deniedRegion⟩
  case fabric =>
    rintro a s _ rfl may ⟨notBar0, notHost⟩
    exact exec_memoryAccess_fabric may notBar0 notHost
  case bar0 =>
    rintro a s _ rfl may src
    exact next_if_pos may (by simp only [src])
  case bar2 =>
    rintro a s _ rfl may src
    exact next_if_pos may (by simp only [src])
  case write =>
    rintro a s _ t lo hi rfl may ⟨notBar0, notHost⟩ write plain mapped permitted region ⟨memory, noQueue⟩ whole
    rw [exec_memoryAccess_fabric may notBar0 notHost, State.access_write write plain,
      State.perform_write write plain mapped permitted, State.writeAt_memory region memory noQueue whole]
    rfl
  case read =>
    rintro a s _ t lo hi tag m rfl may read plain master free mapped permitted region ⟨memory, noQueue⟩ sound
    have notBar0 : a.src ≠ .bar0 := fun h => by rw [h] at master; cases master
    have notHost : a.src ≠ .host := fun h => by rw [h] at master; cases master
    rw [exec_memoryAccess_fabric may notBar0 notHost, State.access_read read master free,
      State.perform_read read plain mapped permitted,
      State.readAt_of_ok (State.readTarget_memory region memory noQueue sound)]
    rfl
  case denied =>
    rintro a s _ x rfl may ⟨notBar0, notHost⟩ write plain mapped denied
    rw [exec_memoryAccess_fabric may notBar0 notHost, State.access_write write plain,
      State.perform_write_denied write mapped denied]
    rfl
  case unmapped =>
    rintro a s _ rfl may ⟨notBar0, notHost⟩ write plain unmapped
    rw [exec_memoryAccess_fabric may notBar0 notHost, State.access_write write plain,
      State.perform_write_unmapped write unmapped]
    rfl
  case grant =>
    rintro m x tag s _ noSetups first free may rfl src
    rw [exec_tagGrant noSetups first free may, State.granted_of_not_round src]
    rfl
  case grantHead =>
    rintro m n x d tag s _ noSetups first free may rfl src waits head later
    rw [exec_tagGrant noSetups first free may]
    exact congrArg Host.Outcome.next (State.granted_head src waits head later)
  case timeout => exact fun _ _ _ due src => exec_readTimeout_of_not_round due src
  case timeoutAny => exact fun _ _ _ due => exec_readTimeout due
  case late => exact fun _ _ ended => next_if_pos ended rfl
  case patrol =>
    rintro upsets s _ rfl running due power
    exact exec_patrolStitch running due power
  case scrub =>
    intro r d s cur ok permitted
    rw [exec_scrubRegion cur, State.memStart_of_permitted ok permitted]
  case fill =>
    rintro r d s cur ok permitted ⟨start, short⟩ whole
    rw [exec_fillRegion cur, State.memStart_of_permitted ok permitted, State.fillStitch_only start short whole]
  case badRegion =>
    intro r d s cur bad
    rw [exec_scrubRegion cur, State.memStart_of_bad bad]
  case deniedRegion =>
    intro r x d s cur ok denied
    rw [exec_fillRegion cur, State.memStart_of_denied ok denied]

end Sys2Proof.Machine
end

section
/-! What a command leaves of the units' state (R63). -/
namespace Sys2Proof.Machine

/-- Settles O49: `exec_keeps` bounds what a command changes by the mask of its list, and that mask has no bit of a part
outside the list. -/
theorem frameOfTheUnits : Obligations.FrameOfTheUnits := by
  unfold Obligations.FrameOfTheUnits
  intro c p s unlisted
  obtain ⟨t, ht, kept⟩ := exec_keeps c s
  exact ⟨t, ht, kept.part p unlisted⟩

end Sys2Proof.Machine
end

section
/-! The doorbells and the index they record (R87, R88, R92), and what raising an event leaves. -/
namespace Sys2Proof.Machine

variable {s : State} {pid n val : Nat}

/-- A command whose condition fails answers what it does otherwise. -/
theorem next_if_neg {c : Prop} [Decidable c] {s t u : State} (h : ¬c) (e : s = u) :
    (Host.Outcome.next (if c then t else s) : Res) = .next u := by
  rw [if_neg h, e]

/-- A partition that is neither partition 0 nor the owner may not change a round. -/
theorem State.rMay_of_stranger (notZero : pid ≠ 0) (notOwner : pid ≠ s.rOwner n) : s.rMay pid n = false := by
  simp [State.rMay, notZero, notOwner]

/-- A doorbell takes an index below the size from a partition that may change the round. -/
theorem State.bellOk_iff : s.bellOk pid n val = true ↔ s.rMay pid n = true ∧ val < s.rSize n := by
  simp [State.bellOk]

/-- A doorbell refuses an index of the size or more, and any partition but the owner and 0. -/
theorem State.bellOk_of_bad (bad : s.rSize n ≤ val ∨ (pid ≠ 0 ∧ pid ≠ s.rOwner n)) : s.bellOk pid n val = false := by
  rw [Bool.eq_false_iff, ne_eq, State.bellOk_iff]
  rintro ⟨may, inside⟩
  rcases bad with outside | ⟨notZero, notOwner⟩
  · exact Nat.not_lt.mpr outside inside
  · rw [State.rMay_of_stranger notZero notOwner] at may
    exact Bool.false_ne_true may

/-- An accepted command doorbell records TAIL. -/
theorem exec_doorbellCmd_of_ok (ok : s.bellOk pid n val = true) :
    exec (.doorbellCmd pid n val) s = .next (s.put (F.RND_DB_CMD_INDEX n) val) :=
  next_if_pos ok rfl

/-- An accepted completion doorbell records CPL_HEAD, and ends a stall once a slot is free. -/
theorem exec_doorbellCpl_of_ok {u : State} (ok : s.bellOk pid n val = true)
    (recorded : u = s.put (F.RND_DB_CPL_INDEX n) val) :
    exec (.doorbellCpl pid n val) s =
      .next (if u.freeSlots n = 0 then u.fullCheck n else u.put (F.RND_R_STAT_STALLED n) 0) := by
  subst recorded
  exact next_if_pos ok rfl

/-- A refused doorbell of either kind raises DB_BAD and does nothing else. -/
theorem exec_doorbell_of_refused {i : Instr} (refused : s.bellOk pid n val = false)
    (bell : i = .doorbellCmd pid n val ∨ i = .doorbellCpl pid n val) :
    exec i s = .next (s.raise F.RND_EVT_DB_BAD) := by
  have no : ¬s.bellOk pid n val = true := by simp [refused]
  rcases bell with rfl | rfl
  · exact next_if_neg no rfl
  · exact next_if_neg no rfl

/-- Raising an event stores nothing in memory. -/
@[simp] theorem State.raise_mem (s : State) (b : Fld) : (s.raise b).mem = s.mem :=
  (State.raise_keeps (sub_of rfl) (Keeps.refl 139 s)).mem rfl

/-- Raising DB_BAD changes no field below COR_EVT but those of RND_EVT itself. -/
theorem State.raise_dbBad_get {f : Fld} (own : f.reg ≠ R.RND_EVT) (page : f.reg < R.COR_EVT) :
    (s.raise F.RND_EVT_DB_BAD).get f = s.get f :=
  State.raise_get_other s _ f own (Nat.ne_of_lt page)

/-- Settles O51: a refused doorbell is the raise of DB_BAD, which writes RND_EVT and at most COR_EVT besides; no doorbell
register lies there. -/
theorem badDoorbellHasNoEffect : Obligations.BadDoorbellHasNoEffect := by
  unfold Obligations.BadDoorbellHasNoEffect
  intro pid n val s _ bad i bell
  refine ⟨_, exec_doorbell_of_refused (State.bellOk_of_bad bad) bell, ?flag, s.raise_descs _, s.raise_mem _,
    fun m hm => ⟨?cmd, ?cpl⟩⟩
  case flag => exact s.raise_on F.RND_EVT_DB_BAD rfl (by decide) (by decide)
  case cmd =>
    have low : R.RND_EVT < R.RND_DB_CMD m ∧ R.RND_DB_CMD m < R.COR_EVT := by
      unfold R.RND_EVT R.RND_DB_CMD R.COR_EVT
      omega
    exact State.raise_dbBad_get (Nat.ne_of_gt low.1) low.2
  case cpl =>
    have low : R.RND_EVT < R.RND_DB_CPL m ∧ R.RND_DB_CPL m < R.COR_EVT := by
      unfold R.RND_EVT R.RND_DB_CPL R.COR_EVT
      omega
    exact State.raise_dbBad_get (Nat.ne_of_gt low.1) low.2

end Sys2Proof.Machine
end

section
/-! The round control writes (R85 to R87, R97, R98) and the cancels (R102, R103). -/
namespace Sys2Proof.Machine

variable {s u : State} {pid n val : Nat}

/-- A round that is not enabled, and whose set-up is sound, starts to run. -/
theorem State.roundOn_of_sound (off : u.rEn n = false) (sound : u.enableBad n = false) :
    u.roundOn n = (u.put (F.RND_R_CTL_EN n) 1).put (F.RND_R_STAT_RUN n) 1 := by
  simp [State.roundOn, off, sound]

/-- A round that is not enabled, and whose set-up is bad, is refused with CFG_BAD. -/
theorem State.roundOn_of_bad (off : u.rEn n = false) (bad : u.enableBad n = true) :
    u.roundOn n = u.raise F.RND_EVT_CFG_BAD := by
  simp [State.roundOn, off, bad]

/-- An enabled round that is stopped frogs what has not started, ends what has, and RUN falls when none is left. -/
theorem State.roundOff_of_on (on : u.rEn n = true) {v : State} (frogged : v = (u.put (F.RND_R_CTL_EN n) 0).frogRound n) :
    u.roundOff n = (forEach (v.started n) State.offStarted v).runFalls n := by
  subst frogged
  exact if_neg (by simp [on])

/-- A base write of a round that neither is enabled nor runs resets its indices. -/
theorem State.baseWrite_of_stopped {which : Nat} (may : s.rMay pid n = true) (off : s.rEn n = false)
    (stopped : s.rRun n = false) :
    s.baseWrite pid n which val =
      (if which = 4 then s.put (F.RND_R_CTL_SIZE n) val else s.regApply (baseReg n which) val).resetIdx n := by
  unfold State.baseWrite
  rw [if_neg (by simp [may, off, stopped])]
  split <;> rfl

/-- A control write with EN by a partition that may change the round sets the other fields, then enables it. -/
theorem exec_roundEnable (may : s.rMay pid n = true) :
    exec (.roundEnable pid n val) s = .next ((s.ctlFields n val).roundOn n) :=
  next_if_pos may rfl

/-- A control write without EN by such a partition sets the other fields, then stops the round. -/
theorem exec_roundDisable (may : s.rMay pid n = true) :
    exec (.roundDisable pid n val) s = .next ((s.ctlFields n val).roundOff n) :=
  next_if_pos may rfl

/-- The started descriptor that a cancel with the tag in RND_CANCEL_TAG takes. -/
def State.cancelsStarted (s : State) (n : Nat) : Option Desc :=
  (s.started n).find? (·.tag == s.get F.RND_CANCEL_TAG_TAG)

/-- The descriptor fetched ahead that such a cancel takes where it finds no started one. -/
def State.cancelsAhead (s : State) (n : Nat) : Option Desc :=
  (s.ahead n).find? fun d => !d.raw.isEmpty && d.tag == s.get F.RND_CANCEL_TAG_TAG

/-- A cancel of another partition's round is not permitted. -/
theorem State.cancelWrite_refused (go : bitOf val 31 = true) (other : s.rMay pid (val % 256) = false) :
    s.cancelWrite pid val = s.cancelStat (val % 256) 3 := by
  simp [State.cancelWrite, go, other]

/-- A permitted cancel takes a started descriptor, else one fetched ahead, else finds none. -/
theorem State.cancelWrite_of_rMay (go : bitOf val 31 = true) (may : s.rMay pid (val % 256) = true) :
    s.cancelWrite pid val =
      match s.cancelsStarted (val % 256), s.cancelsAhead (val % 256) with
      | some d, _ => (s.cancelStarted d).cancelStat (val % 256) 1
      | none, some d => (if d.cancelled then s else s.cancelAhead d).cancelStat (val % 256) 1
      | none, none => s.cancelStat (val % 256) 2 := by
  simp only [State.cancelWrite, go, may]
  unfold State.cancelsStarted State.cancelsAhead
  cases (s.started (val % 256)).find? (·.tag == s.get F.RND_CANCEL_TAG_TAG) with
  | some d => rfl
  | none =>
    cases (s.ahead (val % 256)).find? fun d => !d.raw.isEmpty && d.tag == s.get F.RND_CANCEL_TAG_TAG with
    | some d => rfl
    | none => rfl

end Sys2Proof.Machine
end

section
/-! The rounds' register commands together. -/
namespace Sys2Proof.Machine

/-- Settles O4: each clause is the rule above of the doorbell, the control write or the cancel, for what the round's state
and the writer's partition decide. -/
theorem roundRegisterCommandsComplete : Obligations.RoundRegisterCommandsComplete := by
  unfold Obligations.RoundRegisterCommandsComplete
  refine ⟨?bellCmd, ?bellBad, ?bellCpl, ?enable, ?enableBad, ?disable, ?base, ?cancelStarted, ?cancelAhead, ?cancelNone,
    ?cancelRefused⟩
  case bellCmd => exact fun _ _ _ _ may inside => exec_doorbellCmd_of_ok (State.bellOk_iff.mpr ⟨may, inside⟩)
  case bellBad =>
    exact fun _ _ _ _ refused =>
      ⟨exec_doorbell_of_refused refused (.inl rfl), exec_doorbell_of_refused refused (.inr rfl)⟩
  case bellCpl => exact fun _ _ _ _ _ ok recorded => exec_doorbellCpl_of_ok ok recorded
  case enable =>
    rintro pid n val s _ may rfl off sound
    rw [exec_roundEnable may, State.roundOn_of_sound off sound]
  case enableBad =>
    rintro pid n val s _ may rfl off bad
    rw [exec_roundEnable may, State.roundOn_of_bad off bad]
  case disable =>
    rintro pid n val s _ v may rfl on frogged
    rw [exec_roundDisable may, State.roundOff_of_on on frogged]
    rfl
  case base =>
    rintro pid n which val s may ⟨off, stopped⟩
    exact congrArg Host.Outcome.next (State.baseWrite_of_stopped may off stopped)
  case cancelStarted =>
    intro pid val d s go may (found : s.cancelsStarted _ = some d)
    refine congrArg Host.Outcome.next ?_
    rw [State.cancelWrite_of_rMay go may, found]
  case cancelAhead =>
    intro pid val d s go may (noneStarted : s.cancelsStarted _ = none) (found : s.cancelsAhead _ = some d) fresh
    refine congrArg Host.Outcome.next ?_
    rw [State.cancelWrite_of_rMay go may, noneStarted, found]
    simp [fresh]
  case cancelNone =>
    intro pid val s go may (noneStarted : s.cancelsStarted _ = none) (noneAhead : s.cancelsAhead _ = none)
    refine congrArg Host.Outcome.next ?_
    rw [State.cancelWrite_of_rMay go may, noneStarted, noneAhead]
  case cancelRefused =>
    exact fun _ _ _ go other => congrArg Host.Outcome.next (State.cancelWrite_refused go other)

end Sys2Proof.Machine
end

section
/-! The host's requests: what ends an outstanding one (R108 to R110). -/
namespace Sys2Proof.Machine

variable {s : State} {tag : Nat} {t : TagUse}

/-- What an outstanding read has received once the part `b` of its data is there too. -/
def TagUse.gotWith (t : TagUse) (b : Bytes) : Bytes := slice (t.got ++ b) 0 (min t.acc.size (t.got.length + b.length))

/-- Data that complete a request end it. -/
theorem exec_hostCompletion_whole {b g : Bytes} (sent : s.hostTag tag = some t) (got : g = t.gotWith b)
    (whole : g.length = t.acc.size) : exec (.hostCompletion tag (.data b)) s = .next (s.hostData t g) := by
  subst got
  show execHostCompletion tag (.data b) s = _
  simp only [execHostCompletion, sent]
  exact next_if_pos whole rfl

/-- Part of the data waits for the rest. -/
theorem exec_hostCompletion_part {b g : Bytes} (sent : s.hostTag tag = some t) (got : g = t.gotWith b)
    (part : g.length ≠ t.acc.size) :
    exec (.hostCompletion tag (.data b)) s =
      .next (s.setFab { s.fab with tags := updFirst (· == t) (fun x => { x with got := g }) s.fab.tags }) := by
  subst got
  show execHostCompletion tag (.data b) s = _
  simp only [execHostCompletion, sent]
  exact next_if_neg part rfl

/-- An error ends an outstanding request with the status that goes with it. -/
theorem exec_hostCompletion_error (sent : s.hostTag tag = some t) :
    exec (.hostCompletion tag .abort) s = .next (s.hostFails t St.HOST_ABORT) ∧
      exec (.hostCompletion tag .poisoned) s = .next (s.hostFails t St.MEDIA) ∧
      exec (.hostCompletion tag .timeout) s = .next (s.hostFails t St.TIMEOUT) := by
  refine ⟨?abort, ?poisoned, ?timeout⟩
  case abort =>
    show execHostCompletion tag .abort s = _
    simp only [execHostCompletion, sent]
  case poisoned =>
    show execHostCompletion tag .poisoned s = _
    simp only [execHostCompletion, sent]
  case timeout =>
    show execHostCompletion tag .timeout s = _
    simp only [execHostCompletion, sent]

/-- A completion for no outstanding request, whose read has ended, is late. -/
theorem exec_hostCompletion_late {c : HostCpl} (unsent : s.hostTag tag = none) (ended : s.fab.ended.contains tag = true) :
    exec (.hostCompletion tag c) s =
      .next (((s.setFab { s.fab with ended := dropFirst (· == tag) s.fab.ended }).count C.JER_LATE).raise
        F.JER_EVT_LATE) := by
  show execHostCompletion tag c s = _
  simp only [execHostCompletion, unsent]
  exact congrArg Host.Outcome.next (if_pos ended)

/-- A request without completion for CPL_TMO ends with TIMEOUT. -/
theorem exec_hostCplTimeout (sent : s.hostTag tag = some t)
    (due : t.issued + 100000 * s.get F.RND_CTL_CPL_TMO ≤ s.now) :
    exec (.hostCplTimeout tag) s = .next (s.hostFails t St.TIMEOUT) := by
  show execHostCplTimeout tag s = _
  simp only [execHostCplTimeout, sent]
  exact next_if_pos due rfl

/-- A request that emulates no atomic operation holds no lock. -/
theorem State.unlock_of_plain (plain : t.emulate = false) : s.unlock t = s :=
  if_neg (by simp [plain])

/-- The data of a request that emulates no atomic operation only answer it. -/
theorem State.hostData_of_plain {g : Bytes} (plain : t.emulate = false) : s.hostData t g = s.tagDone t St.OK g := by
  unfold State.hostData
  rw [State.unlock_of_plain plain]
  cases amo : t.acc.amo with
  | none => rfl
  | some op => simp [plain]

/-- The data of an emulated atomic operation make it write, where the link issues requests, and release its lock. -/
theorem State.hostData_of_emulated {g : Bytes} {op : AmoOp} (amo : t.acc.amo = some op) (emulated : t.emulate = true)
    (up : s.linkIssues = true) :
    s.hostData t g =
      ((s.hostWrites t.acc.addr (amoBytes op t.acc.size g t.acc.data)).tagDone t St.OK g).unlocked := by
  simp [State.hostData, State.unlock, amo, emulated, up]

/-- A request of any source but the round engine that fails is counted, raises HOST_ERR and answers its source. -/
theorem State.hostFails_of_plain {status : Nat} (plain : t.emulate = false) (src : ∀ n, t.acc.src ≠ .round n) :
    s.hostFails t status = (s.hostErr.dropTag t.tag).answer t.acc.src status (errAnswer t.acc status).2 := by
  unfold State.hostFails
  rw [State.unlock_of_plain plain, State.unsure_of_not_round src, if_neg Bool.false_ne_true,
    State.tagDone_of_not_round src]

end Sys2Proof.Machine
end

section
/-! The PCIe link and the host's configuration (R80, R106, R109, R111), with the host's commands together. -/
namespace Sys2Proof.Machine

variable {s : State}

/-- A link that trains anew shows what it negotiated, takes the host's configuration and brings port H up. -/
theorem exec_pcieLinkUp_trains {speed width mps mrrs : Nat} {host : HostCfg} (power : s.pow.logic = true)
    (down : s.on F.RND_LINK_UP = false ∨ s.swState 20 ≠ 1) :
    exec (.pcieLinkUp speed width mps mrrs host) s =
      .next ((((((s.put F.RND_LINK_SPEED speed).put F.RND_LINK_WIDTH width).put F.RND_LINK_UP 1).pciConfig mps mrrs
        host).swLinkUp 20).raise F.RND_EVT_LINK_UP) := by
  have retrains : ¬(s.on F.RND_LINK_UP && s.swState 20 == 1) = true := by
    rcases down with down | down <;> simp [down]
  show execPcieLinkUp speed width mps mrrs host s = _
  unfold execPcieLinkUp
  rw [if_neg (by simp [power]), if_neg retrains]

/-- While the link stays up the host changes its configuration alone. -/
theorem exec_pcieLinkUp_stays {speed width mps mrrs : Nat} {host : HostCfg} (power : s.pow.logic = true)
    (up : s.on F.RND_LINK_UP = true) (port : s.swState 20 = 1) :
    exec (.pcieLinkUp speed width mps mrrs host) s = .next (s.pciConfig mps mrrs host) := by
  show execPcieLinkUp speed width mps mrrs host s = _
  unfold execPcieLinkUp
  rw [if_neg (by simp [power]), if_pos (by simp [up, port])]

/-- Settles O3: each clause is the rule above of the request that ends, or the command's arm on the link's state. -/
theorem hostLinkCommandsComplete : Obligations.HostLinkCommandsComplete := by
  unfold Obligations.HostLinkCommandsComplete
  refine ⟨?data, ?dataAnswer, ?part, ?emulated, ?error, ?abortAnswer, ?late, ?timeout, ?reset, ?down, ?up, ?config,
    ?unmask⟩
  case data =>
    intro tag b g t s sent plain got whole
    rw [exec_hostCompletion_whole sent got whole, State.hostData_of_plain plain]
  case dataAnswer =>
    intro tag b g t s sent plain src got whole
    rw [exec_hostCompletion_whole sent got whole, State.hostData_of_plain plain, State.tagDone_of_not_round src]
  case part => exact fun _ _ _ _ _ sent got part => exec_hostCompletion_part sent got part
  case emulated =>
    rintro tag b g op t s sent ⟨amo, emulated⟩ up got whole
    rw [exec_hostCompletion_whole sent got whole, State.hostData_of_emulated amo emulated up]
  case error =>
    rintro tag t s _ sent rfl
    exact exec_hostCompletion_error sent
  case abortAnswer =>
    intro tag t s sent plain src
    obtain ⟨abort, _, _⟩ := exec_hostCompletion_error sent
    rw [abort, State.hostFails_of_plain plain src]
    rfl
  case late => exact fun _ _ _ unsent ended => exec_hostCompletion_late unsent ended
  case timeout =>
    rintro tag t s _ sent due rfl
    exact exec_hostCplTimeout sent due
  case reset => exact fun _ up => next_if_pos up rfl
  case down => exact fun _ up => next_if_pos up rfl
  case up =>
    intro speed width mps mrrs host s down power
    exact exec_pcieLinkUp_trains power down
  case config =>
    rintro speed width mps mrrs host s ⟨up, port⟩ power
    exact exec_pcieLinkUp_stays power up port
  case unmask =>
    rintro vec s _ inTable rfl
    exact next_if_pos inTable rfl

end Sys2Proof.Machine
end

section
/-! Run-ahead and the start of descriptors (R89, R91, R93, R531). -/
namespace Sys2Proof.Machine

variable {u : State} {n i : Nat} {d : Desc}

/-- Where run-ahead may and staging has room, it reads the source buffer that is due. -/
theorem State.fetchAhead_buffer (may : u.mayRun n = true) (ahead : u.on (F.RND_R_CTL_RA_OFF n) = false)
    (due : (u.ahead n).find? u.bufferDue = some d) (room : u.stagingRoom d.len = true) :
    u.fetchAhead n = u.bufferAhead d := by
  have isDue : u.bufferDue d = true := List.find?_some due
  unfold State.fetchAhead
  rw [if_neg (by simp [may, ahead]), due]
  exact if_pos (by rw [Bool.and_eq_true]; exact ⟨isDue, room⟩)

/-- With no buffer due, it reads the next descriptor outside the effect windows, or waits for a place. -/
theorem State.fetchAhead_descriptor (may : u.mayRun n = true) (ahead : u.on (F.RND_R_CTL_RA_OFF n) = false)
    (noneDue : (u.ahead n).find? u.bufferDue = none) (nextSlot : u.nextAhead n = some i)
    (plain : u.touchesEffect (u.slotAddr n i) 64 = false) (room : u.stagingRoom 1 = true) :
    u.fetchAhead n = if u.mayPlace n then (u.takePlace n true).descAhead n i else u.takePlace n false := by
  unfold State.fetchAhead
  rw [if_neg (by simp [may, ahead]), noneDue, nextSlot]
  exact if_neg (by simp [plain, room])

/-- The round served starts the descriptor at its HEAD. -/
theorem exec_descriptorStart {s : State} {upsets : List EccMark} (now : u = (s.upset upsets).performSetups)
    (served : u.served n = true) : exec (.descriptorStart n upsets) s = .next (u.startHead n) := by
  subst now
  exact next_if_pos served rfl

/-- A descriptor read by now, cancelled only where it was read at HEAD, goes on to its start. -/
theorem State.startHead_of_read (atHead : u.aheadAt n (u.rHead n) = some d) (read : d.wait = none)
    (tagKnown : d.cancelled = false ∨ d.head = true) : u.startHead n = u.startFetched d := by
  have keepsTag : ¬(d.cancelled && !d.head) = true := by rcases tagKnown with h | h <;> simp [h]
  simp only [State.startHead, State.startIfRead, atHead, if_neg keepsTag]
  exact if_pos (by simp [read])

/-- Of a round that has fetched nothing ahead, the descriptor at HEAD is read now. -/
theorem State.startHead_of_unread (unread : u.aheadAt n (u.rHead n) = none)
    (reachable : u.linkGone (u.slotAddr n (u.rHead n)) = false) :
    u.startHead n =
      (((u.takePlace n true).setDescs (u.rnd.descs ++ [{ Desc.fresh n (u.rHead n) [] with head := true }])).headRead
        { Desc.fresh n (u.rHead n) [] with head := true }).startIfRead n (u.rHead n) := by
  simp only [State.startHead, unread]
  exact if_neg (by simp [reachable])

/-- A cancelled descriptor starts only to complete CANCELLED. -/
theorem State.startFetched_cancelled (cancelled : d.cancelled = true) :
    u.startFetched d = u.startNow d (some ⟨St.CANCELLED, 0⟩) :=
  if_pos cancelled

/-- A descriptor with a bad header starts only to complete BADARG. -/
theorem State.startFetched_bad (live : d.cancelled = false) (noFence : d.fence = false) (bad : u.badHeader d = true) :
    u.startFetched d = u.startNow d (some ⟨St.BADARG, 0⟩) := by
  simp [State.startFetched, live, noFence, bad]

/-- A sound descriptor that has what it reads starts its operation. -/
theorem State.startFetched_sound (live : d.cancelled = false) (noFence : d.fence = false)
    (sound : u.badHeader d = false) (ready : (d.readsBuf && d.src.isNone && decide (0 < d.len)) = false) :
    u.startFetched d = u.startNow d none := by
  unfold State.startFetched
  rw [if_neg (by simp [live]), if_neg (by simp [noFence]), if_neg (by simp [sound]), if_neg (by simp [ready])]

end Sys2Proof.Machine
end

section
/-! Final completions, moderation and stitches (R90 to R92, R98, R100, R105, R109). -/
namespace Sys2Proof.Machine

variable {s u : State} {n r : Nat} {d : Desc} {c : Cpl} {l : List Desc}

/-- The final completion of descriptor `d` is written: it leaves its round, and counts for moderation where it interrupts
or failed. -/
def State.writeFinal (u : State) (n : Nat) (d : Desc) (c : Cpl) : State :=
  let v := u.putCpl n d.tag c.status d.stitches c.result
  let v := v.setDescs (dropFirst (fun e => e.same d) v.rnd.descs)
  let v := if d.interrupt || c.status != St.OK then v.modCount n else v
  (v.rungOf d c.status).runFalls n

/-- The settled completion of the oldest started descriptor, its writes acknowledged, is lost with the link, held while
the completion round is full, or written. -/
theorem State.complete_of_settled (oldest : u.started n = d :: l) (settled : d.fin = some c)
    (closed : u.writesOpen n = false) :
    u.complete n =
      if u.cplGone n then u.frogCpl d else if u.freeSlots n = 0 then u.fullCheck n else u.writeFinal n d c := by
  simp only [State.complete, oldest, settled]
  exact if_neg (by simp [closed])

/-- A round that is full and not yet stalled stalls with CPL_FULL. -/
theorem State.fullCheck_of_full (full : u.freeSlots n = 0) (running : u.on (F.RND_R_STAT_STALLED n) = false) :
    u.fullCheck n = (u.put (F.RND_R_STAT_STALLED n) 1).raise F.RND_EVT_CPL_FULL :=
  if_pos (by simp [full, running])

/-- A round signals once its pending completions have reached their count or their time. -/
theorem exec_moderationTimer (pending : s.modPend r ≠ 0)
    (due : max (s.get (F.RND_R_MOD_COUNT r)) 1 ≤ s.modPend r ∨
      s.get (F.RND_R_MOD_TIME r) ≤ s.now / 1000 - s.modFirst r) :
    exec (.moderationTimer r) s = .next ((s.signalRound r).setModPend r 0) :=
  next_if_neg pending (if_pos (by simpa using due))

/-- The round engine serves the stitched descriptor under way once every other round has been served; a last stitch may
only begin. -/
theorem exec_stitch {last : Bool} (due : s.stitching r = some d) (turn : s.othersServed r = true)
    (now : u = s.servedNow r) :
    exec (.stitch r last) s =
      .next (if last && !d.lastBegun && (u.nextStitch d).settled d then u.updDesc d fun e => { e with lastBegun := true }
        else u.nextStitch d) := by
  subst now
  show execStitch r last s = _
  simp only [execStitch, due]
  exact next_if_neg (by simp [turn]) rfl

end Sys2Proof.Machine
end

section
/-! The round engine's commands together. -/
namespace Sys2Proof.Machine

/-- Settles O5: each clause is the rule above of the fetch, the start, the completion, the moderation check or the stitch,
for what the round and its descriptor decide. -/
theorem roundEngineCommandsComplete : Obligations.RoundEngineCommandsComplete := by
  unfold Obligations.RoundEngineCommandsComplete
  refine ⟨?buffer, ?descriptor, ?start, ?startBad, ?startCancelled, ?startUnread, ?written, ?stalled, ?gone, ?moderation,
    ?stitch, ?stitchLast⟩
  case buffer =>
    rintro n upsets d s _ rfl ⟨may, ahead⟩ due room
    exact congrArg Host.Outcome.next (State.fetchAhead_buffer may ahead due room)
  case descriptor =>
    rintro n i upsets s _ rfl ⟨may, ahead⟩ noneDue nextSlot ⟨plain, room⟩
    exact congrArg Host.Outcome.next (State.fetchAhead_descriptor may ahead noneDue nextSlot plain room)
  case start =>
    rintro n upsets d s u now served atHead ⟨live, read, noFence⟩ sound ready
    rw [exec_descriptorStart now served, State.startHead_of_read atHead read (.inl live),
      State.startFetched_sound live noFence sound ready]
  case startBad =>
    rintro n upsets d s u now served atHead ⟨live, read, noFence⟩ bad
    rw [exec_descriptorStart now served, State.startHead_of_read atHead read (.inl live),
      State.startFetched_bad live noFence bad]
  case startCancelled =>
    rintro n upsets d s u now served atHead ⟨cancelled, read, head⟩
    rw [exec_descriptorStart now served, State.startHead_of_read atHead read (.inr head),
      State.startFetched_cancelled cancelled]
  case startUnread =>
    intro n upsets s u now served unread reachable
    rw [exec_descriptorStart now served, State.startHead_of_unread unread reachable]
  case written =>
    rintro n d c l s _ _ rfl oldest settled closed ⟨up, free⟩ rfl
    refine congrArg Host.Outcome.next ?_
    rw [State.complete_of_settled oldest settled closed, if_neg (by simp [up]), if_neg free]
    rfl
  case stalled =>
    rintro n d c l s _ rfl oldest settled closed ⟨up, full, running⟩
    refine congrArg Host.Outcome.next ?_
    rw [State.complete_of_settled oldest settled closed, if_neg (by simp [up]), if_pos full,
      State.fullCheck_of_full full running]
  case gone =>
    rintro n d c l s _ rfl oldest settled closed gone
    refine congrArg Host.Outcome.next ?_
    rw [State.complete_of_settled oldest settled closed, if_pos gone]
  case moderation => exact fun _ _ pending due => exec_moderationTimer pending due
  case stitch =>
    intro r d s u due turn now
    rw [exec_stitch due turn now]
    rfl
  case stitchLast =>
    intro r d s u due turn now fresh ends
    rw [exec_stitch due turn now, if_pos (by simp [fresh, ends])]

end Sys2Proof.Machine
end

section
/-! The events of the switch core (R119, R126, R129, R130, R138, R146, R147, R153): what each does once it is due. -/
namespace Sys2Proof.Machine

variable {s : State} {h k p t : Nat}

/-- A learned entry that has not been refreshed for AGE_S seconds leaves the table. -/
theorem exec_ageExpiry {e : FdbEnt} (ages : s.on F.SWC_CTL_AGE_EN = true) (mem : e ∈ s.swc.fdb)
    (learned : e.static = false) (old : e.seen + 1000000000 * s.get F.SWC_AGE_AGE_S ≤ s.now) :
    exec (.ageExpiry e.idx) s = .next (s.fdbDrop e.idx) := by
  have aged : s.swc.fdb.any (fun x => x.idx == e.idx && !x.static &&
      decide (x.seen + 1000000000 * s.get F.SWC_AGE_AGE_S ≤ s.now)) = true :=
    List.any_eq_true.mpr ⟨e, mem, by simp [learned, old]⟩
  exact next_if_pos (Bool.and_eq_true_iff.mpr ⟨ages, aged⟩) rfl

/-- A resequencer skips to its lowest held number once its oldest held frame has waited RESEQ_US. -/
theorem exec_cbReseqTimeout {e : StreamEnt} (bound : s.stream h = some e) (oldest : s.oldestHeld h = some t)
    (due : t + 1000 * e.reseqUs ≤ s.now) : exec (.cbReseqTimeout h) s = .next (s.skipToHeld h) := by
  show execCbReseqTimeout h s = _
  simp only [execCbReseqTimeout, bound, oldest]
  exact next_if_pos due rfl

/-- A recovery stream that has been idle for RESET_MS clears and raises CB_RESET. -/
theorem exec_cbResetTimeout {e : StreamEnt} (bound : s.stream h = some e) (recovers : 2 ≤ e.role)
    (started : (s.cbOf h).started = true) (idle : (s.cbOf h).lastAt + 1000000 * e.resetMs ≤ s.now) :
    exec (.cbResetTimeout h) s = .next ((s.cbClear h).raise F.SWC_EVT_CB_RESET) := by
  show execCbResetTimeout h s = _
  simp only [execCbResetTimeout, bound]
  exact next_if_pos (by simp [recovers, started, idle]) rfl

/-- A ply contribution that reaches the accumulator leaves its transit. -/
theorem exec_plyContribution {n : Nat} {b : Bytes} (arrives : s.swc.transit[k]? = some (n, b))
    (contribution : u8 b 0 = 0x21) :
    exec (.plyContribution k) s =
      .next ((s.onSwc fun w => { w with transit := w.transit.eraseIdx k }).plyFrameIn b) := by
  show execPlyContribution k s = _
  simp only [execPlyContribution, arrives]
  exact next_if_neg (by simp [contribution]) rfl

/-- An open block whose window has ended is emitted. -/
theorem exec_plyDeadline (isOpen : (s.plyAcc k).isOpen = true)
    (ended : before s.timNow (((s.plyAcc k).time + 1000 * (s.plyAcc k).ent.window) % 2 ^ 32) = false) :
    exec (.plyDeadline k) s = .next (s.plyEmit k) :=
  next_if_pos (by simpa [isOpen] using ended) rfl

/-- Settles O6: each clause is the event's rule above, or the event's one condition, which the clause gives. -/
theorem switchEventsComplete : Obligations.SwitchEventsComplete := by
  unfold Obligations.SwitchEventsComplete
  refine ⟨?matching, ?residue, ?ageing, ?resequence, ?reset, ?hold, ?contribution, ?deadline⟩
  case matching => exact fun _ awake => next_if_neg awake rfl
  case residue => exact fun _ => rfl
  case ageing =>
    rintro _ e s ages mem ⟨rfl, learned, old⟩
    exact exec_ageExpiry ages mem learned old
  case resequence => exact fun _ _ _ _ bound oldest due => exec_cbReseqTimeout bound oldest due
  case reset => exact fun _ _ _ bound recovers started idle => exec_cbResetTimeout bound recovers started idle
  case hold => exact fun _ _ holding ended => next_if_pos ⟨holding, ended⟩ rfl
  case contribution => exact fun _ _ _ _ arrives contribution => exec_plyContribution arrives contribution
  case deadline => exact fun _ _ isOpen ended => exec_plyDeadline isOpen ended

end Sys2Proof.Machine
end

section
/-! The table opcodes of the switch core (R156): what each does with sound arguments and no buffer. -/
namespace Sys2Proof.Machine

variable {s t : State} {d : Desc}

/-- An opcode's command answers what its operation does with the descriptor that the round has for it. -/
theorem next_withOp {n f op : Nat} {k : Desc → State} (cur : s.cur n f op = some d) (e : k d = t) :
    (Host.Outcome.next (s.withOp n f op k) : Res) = .next t :=
  congrArg Host.Outcome.next ((State.withOp_of_cur cur).trans e)

/-- The place that FDB_ADD gives an entry: that of the entry it replaces, or a way of its bucket. -/
def State.fdbPlace (s : State) (d : Desc) : Option Nat :=
  match s.fdbFind d.fdbMac d.fdbFid with
  | some e => some e.idx
  | none => s.fdbWay (fdbBucket d.fdbMac d.fdbFid)

theorem State.fdbAdd_of_place {i : Nat} (noBuf : d.noBuf = true) (fid : d.fdbFid < 4096)
    (ports : u32 d.raw 28 < 2 ^ 24) (flags : u8 d.raw 32 < 4) (place : s.fdbPlace d = some i) :
    s.fdbAdd d = (s.fdbPut ⟨i, d.fdbMac, d.fdbFid, u32 d.raw 28, bitOf (u8 d.raw 32) 0, bitOf (u8 d.raw 32) 1,
      s.now⟩).finish d St.OK i := by
  have addsAt : s.fdbAdd d = match s.fdbPlace d with
      | none => s.finish d 0x0500 0
      | some i => (s.fdbPut ⟨i, d.fdbMac, d.fdbFid, u32 d.raw 28, bitOf (u8 d.raw 32) 0, bitOf (u8 d.raw 32) 1,
          s.now⟩).finish d St.OK i :=
    if_neg (by simpa [noBuf, fid, flags] using ports)
  rw [addsAt, place]

theorem State.fdbDel_of_find {e : FdbEnt} (noBuf : d.noBuf = true) (found : s.fdbFind d.fdbMac d.fdbFid = some e) :
    s.fdbDel d = (s.fdbDrop e.idx).finish d St.OK 0 := by
  simp [State.fdbDel, noBuf, found]

theorem State.fdbLookup_of_find {e : FdbEnt} (noBuf : d.noBuf = true)
    (found : s.fdbFind d.fdbMac d.fdbFid = some e) :
    s.fdbLookup d = s.finish d St.OK (e.ports + 2 ^ 32 * (b2n e.static + 2 * b2n e.discard) +
      2 ^ 48 * min 65535 ((s.now - e.seen) / 1000000000)) := by
  simp [State.fdbLookup, noBuf, found]

/-- VLAN_SET stores the VLAN's entry; one without member ports is removed. -/
theorem State.vlanSet_of_sound (noBuf : d.noBuf = true) (vid : 0 < u16 d.raw 20 ∧ u16 d.raw 20 < 4095)
    (fid : u16 d.raw 22 < 4096) (members : u32 d.raw 24 < 2 ^ 24) (untagged : u32 d.raw 28 < 2 ^ 24) :
    s.vlanSet d = (s.onSwc fun w => { w with
      vlans := storeSet noneDefault w.vlans (u16 d.raw 20)
        (if u32 d.raw 24 = 0 then none else some ⟨u16 d.raw 22, u32 d.raw 24, u32 d.raw 28⟩) }).finish d St.OK 0 :=
  if_neg (by simpa [noBuf, vid, fid, Nat.ne_of_gt vid.1] using And.intro members untagged)

/-- STREAM_SET binds a handle to an identification that no other handle has. -/
theorem State.streamSet_of_sound (noBuf : d.noBuf = true) (handle : u16 d.raw 20 < 1024)
    (sound : d.streamEnt.ok = true) (single : s.streamDup (u16 d.raw 20) d.streamEnt = false) :
    s.streamSet d = (s.putStream (u16 d.raw 20) (some d.streamEnt)).finish d St.OK 0 :=
  (if_neg (by simp [noBuf, handle, sound])).trans (if_neg (by simp [single]))

/-- STREAM_CLEAR clears a handle and its sequence state. -/
theorem State.streamClear_of_handle (noBuf : d.noBuf = true) (handle : u16 d.raw 20 < 1024) :
    s.streamClear d = ((s.putStream (u16 d.raw 20) none).setCb (u16 d.raw 20) (cbDefault 0)).finish d St.OK 0 :=
  if_neg (by simp [noBuf, handle])

end Sys2Proof.Machine
end

section
/-! FRAME_SEND (R157): a frame that the switch core forwards, and one for a named egress port. -/
namespace Sys2Proof.Machine

variable {s : State} {d : Desc} {o c : Nat}

/-- FRAME_SEND without an egress port hands the frame to the switch core as one that arrives at the sender's port. -/
theorem State.frameSend_forwarded (len : 60 ≤ d.len ∧ d.len ≤ 9212) (flags : u8 d.raw 20 = 0)
    (noPort : u8 d.raw 21 = 0xFF) (noClass : u8 d.raw 22 = 0xFF) :
    s.frameSend d = if (s.swIngress ⟨s.swcPort d, d.buf, none, none, []⟩).2 = .refused then s.finish d 0x503 0
      else (s.swIngress ⟨s.swcPort d, d.buf, none, none, []⟩).1.finish d St.OK s.timNow := by
  unfold State.frameSend
  rw [if_neg (by simp [len, flags, noPort, noClass])]
  simp only [noPort, noClass, if_true]

/-- FRAME_SEND with an egress port and a class queues the frame at that port. -/
theorem State.frameSend_named (len : 60 ≤ d.len ∧ d.len ≤ 9212) (flags : u8 d.raw 20 < 2)
    (port : u8 d.raw 21 = o) (external : o < 20) (cls : u8 d.raw 22 = c) (isClass : c < 8) :
    s.frameSend d = s.sendNamed d o c := by
  have given : o ≠ 0xFF := by omega
  have stated : c ≠ 0xFF := by omega
  unfold State.frameSend
  rw [if_neg (by simp [len, flags, port, Nat.not_le.mpr external, cls, Nat.not_le.mpr isClass, given])]
  simp only [port, cls, if_neg given, if_neg stated]
  rfl

/-- The frame that FRAME_SEND queues at a named port: it keeps its descriptor, and its tag where a time stamp is asked
for. -/
def State.namedFrame (s : State) (d : Desc) (c : Nat) : SwFrame :=
  { SwFrame.new (s.swcPort d) c d.buf (d.len + 4) 4096 0 with
    send := some (d.round, d.slot)
    tsTag := if bitOf (u8 d.raw 20) 0 then some (u16 d.raw 24) else none
    stream := s.streamOf (be48 d.buf 0) (be48 d.buf 6) (s.entryVid ⟨s.swcPort d, d.buf, some c, none, []⟩) }

/-- On a module that is not silent, a port that is not DOWN queues a frame that its queue and MAX_LEN take, and the
descriptor waits for it to leave. -/
theorem State.sendNamed_queues (up : s.swState o ≠ 0) (audible : s.silent = false)
    (room : s.queueTakes c (cellsOf (d.len + 4)) o = true) (fits : d.len + 4 ≤ s.get (F.PRT_MODE_MAX_LEN o)) :
    s.sendNamed d o c = (s.storeFrame (s.namedFrame d c) d.buf [o]).1.updDesc d
      fun e => { e with running := true, acc := s.timNow } := by
  unfold State.sendNamed
  rw [if_neg (by simp [up, room, fits])]
  exact if_pos (by simp [audible])

end Sys2Proof.Machine
end

section
/-! The opcodes of the switch core together. -/
namespace Sys2Proof.Machine

/-- Settles O7: the command takes the round's descriptor, and each clause is the rule above of its operation; the table
opcodes check first that the descriptor names no buffer. -/
theorem switchOpcodesComplete : Obligations.SwitchOpcodesComplete := by
  unfold Obligations.SwitchOpcodesComplete
  refine ⟨?add, ?del, ?lookup, ?flush, ?vlan, ?stream, ?clear, ?forwarded, ?refused, ?named, ?recv, ?buffer⟩
  case add =>
    rintro _ _ d s cur noBuf ⟨fid, ports, flags⟩ place
    exact next_withOp cur (State.fdbAdd_of_place noBuf fid ports flags place)
  case del => exact fun _ _ _ _ cur noBuf found => next_withOp cur (State.fdbDel_of_find noBuf found)
  case lookup => exact fun _ _ _ _ cur noBuf found => next_withOp cur (State.fdbLookup_of_find noBuf found)
  case flush => exact fun _ _ _ cur noBuf => next_withOp cur (if_neg (by simp [noBuf]))
  case vlan =>
    rintro r d s cur noBuf ⟨notZero, notLast, fid, members, untagged⟩
    exact next_withOp cur (State.vlanSet_of_sound noBuf ⟨notZero, notLast⟩ fid members untagged)
  case stream =>
    exact fun _ _ _ cur noBuf handle sound single =>
      next_withOp cur (State.streamSet_of_sound noBuf handle sound single)
  case clear => exact fun _ _ _ cur noBuf handle => next_withOp cur (State.streamClear_of_handle noBuf handle)
  case forwarded =>
    rintro r d s cur ⟨lo, hi, flags, noPort, noClass⟩ taken
    exact next_withOp cur ((State.frameSend_forwarded ⟨lo, hi⟩ flags noPort noClass).trans (if_neg taken))
  case refused =>
    rintro r d s cur ⟨lo, hi, flags, noPort, noClass⟩ refused
    exact next_withOp cur ((State.frameSend_forwarded ⟨lo, hi⟩ flags noPort noClass).trans (if_pos refused))
  case named =>
    rintro r o c d _ s cur ⟨lo, hi, flags, port, external, cls, isClass⟩ ⟨up, audible⟩ ⟨room, fits⟩ rfl
    exact next_withOp cur ((State.frameSend_named ⟨lo, hi⟩ flags port external cls isClass).trans
      (State.sendNamed_queues up audible room fits))
  case recv => exact fun _ _ _ cur => next_withOp cur rfl
  case buffer =>
    intro r d s buffer
    refine ⟨?_, ?_, ?_, ?_, ?_, ?_, ?_⟩ <;> exact fun cur => next_withOp cur (if_pos (by simp [buffer]))

end Sys2Proof.Machine
end

section
/-! The link of a port (R160, R161, R177): writes of PRT_MODE, a link lost and the timers of the link process. -/
namespace Sys2Proof.Machine

variable {s : State} {p v : Nat}

/-- A write of PRT_MODE takes the fields and then EN, on a port that the pair does not hold. -/
theorem State.writeMode_of_free (free : s.pairHolds p = false) (mac : p < 21) :
    s.writeMode p v = if bitOf v 31 then (s.modeFields p v).macOn p else (s.modeFields p v).macOff p :=
  if_neg (by simp [free, mac])

theorem exec_macEnable (pid : Nat) (free : s.pairHolds p = false) (mac : p < 21) :
    exec (.macEnable pid p v) s = .next ((s.modeFields p (setBit v 31)).macOn p) :=
  congrArg Host.Outcome.next ((State.writeMode_of_free free mac).trans (if_pos (bitOf_setBit v 31)))

theorem exec_macDisable (pid : Nat) (free : s.pairHolds p = false) (mac : p < 21) :
    exec (.macDisable pid p v) s = .next ((s.modeFields p (clearBit v 31)).macOff p) :=
  congrArg Host.Outcome.next ((State.writeMode_of_free free mac).trans (if_neg (by simp [bitOf_clearBit])))

/-- A link that is lost leaves UP with its frames and starts over; on SP the frames yet to send end too. -/
theorem State.linkLost_of_isUp (up : s.isUp p = true) :
    s.linkLost p = if p = 20 then (((s.leaveUp p).loseFrames p).linkStart p).spFlush
      else ((s.leaveUp p).loseFrames p).linkStart p :=
  if_neg (by simp [up])

/-- The first result of an auto-negotiation under way brings the link UP, or shows MODE_ERR and is noted. -/
theorem exec_anegComplete (good : Bool) (mac : p < 21) (negotiates : s.linkOf p = 2) (first : s.anegAt p = 0) :
    exec (.anegComplete p good) s = .next (if good then s.linkUp p
      else (s.onPrt fun t => { t with anegAt := storeSet cntDefault t.anegAt p (s.now + 1) }).raise
        (F.PRT_EVT_MODE_ERR p)) :=
  next_if_neg (by simp [mac, negotiates, first]) rfl

end Sys2Proof.Machine
end

section
/-! The transmitter of a MAC (R164, R169, R171, R177): its choice at a boundary and the end of a frame. -/
namespace Sys2Proof.Machine

variable {r s u : State} {p c : Nat} {upsets : List EccMark} {t : TxCur}

/-- TX_FRAME_START is the transmitter's choice with the errors in memory noted. -/
theorem exec_txFrameStart (now : s = r.upset upsets) : exec (.txFrameStart p upsets) r = .next (s.txStart p) := by
  rw [now]
  rfl

/-- TX_FRAME_END is the end of the frame on the line with the errors in memory noted. -/
theorem exec_txFrameEnd (now : s = r.upset upsets) : exec (.txFrameEnd p upsets) r = .next (s.txEnd p) := by
  rw [now]
  rfl

/-- A free line takes the class picked once the heads that can never fit are dropped: its held remainder where that may
go on, else a new frame. -/
theorem State.txStart_of_pick (up : s.isUp p = true) (free : (((s.cbsUpdate p).cutCur p).line p).cur.isSome = false)
    (ready : u = forEach (List.range 8) (State.dropNever p) ((s.cbsUpdate p).cutCur p)) (picked : u.pick p = some c) :
    s.txStart p = if u.canResume p c then u.resumeRest p else u.startNew p c := by
  simp only [State.txStart, up, free, ← ready, picked, Bool.not_true, Bool.false_eq_true, if_false]

/-- A MAC that is not UP still ends the remainder it holds. -/
theorem State.txStart_of_down (down : s.isUp p = false) (external : p < 20) (free : (s.line p).cur = none)
    (resumes : (List.range 8).any (fun c => s.canResume p c) = true) : s.txStart p = s.resumeRest p :=
  (if_pos (by simp [down])).trans (if_pos (by simp only [external, free, resumes]; rfl))

theorem State.resumeRest_of_rest (held : (s.line p).rest = some t) :
    s.resumeRest p = ((s.cbsUpdate p).setLine p
      { s.line p with cur := some { t with start := s.now }, rest := none }).count (C.PRT_TX_FRAG p) := by
  simp only [State.resumeRest, held]

/-- A frame whose last bit has left is counted, or leaves stomped where one of its cells could not be read. -/
theorem State.txEnd_of_sent (onLine : (s.line p).cur = some t)
    (sent : s.lineTime p (s.lineLen p t.frame - t.sent + 8) ≤ 10 * (s.now - t.start)) :
    s.txEnd p =
      let r := ((s.cbsUpdate p).setLine p { s.line p with cur := none }).readCells t.frame 1 (cellsOf t.frame.len - 1)
      if r.2 then (r.1.sentStomped p (s.lineBytes p t.frame)).endSend t.frame.send 0x503 0 else r.1.sentOk p t := by
  simp only [State.txEnd, onLine]
  exact if_neg (Nat.not_lt.mpr sent)

end Sys2Proof.Machine
end

section
/-! The events of a port together. -/
namespace Sys2Proof.Machine

/-- Settles O8: a clause is the rule above of its operation, or its event's one condition, which the clause gives. -/
theorem portEventsComplete : Obligations.PortEventsComplete := by
  unfold Obligations.PortEventsComplete
  refine ⟨?frame, ?pause, ?pfc, ?pauseEnds, ?pfcEnds, ?refresh, ?startNew, ?resume, ?resumeDown, ?sent, ?mode, ?aneg,
    ?anegRestart, ?lock, ?loss, ?verify⟩
  case frame => exact fun _ _ _ up => next_if_neg (by simp [up]) rfl
  case pause => exact fun _ _ _ _ up => next_if_pos up rfl
  case pfc => exact fun _ _ _ _ up => next_if_pos up rfl
  case pauseEnds =>
    exact fun p s external paused ended => congrArg Host.Outcome.next
      (((if_neg (Nat.not_le.mpr external)).trans (if_pos rfl)).trans (if_pos (by simp [paused, ended])))
  case pfcEnds =>
    rintro p k s external priority ⟨paused, ended⟩
    exact congrArg Host.Outcome.next
      (((if_neg (Nat.not_le.mpr external)).trans (if_neg (Nat.ne_of_lt priority))).trans
        (if_pos ⟨priority, paused, ended⟩))
  case refresh => exact fun _ _ external up => next_if_pos (by simp [external, up]) rfl
  case startNew =>
    intro p c upsets r s u now up free ready picked fresh
    rw [exec_txFrameStart now, State.txStart_of_pick up free ready picked, if_neg (by simp [fresh])]
  case resume =>
    intro p c upsets t r s u now up free ready picked goesOn held
    rw [exec_txFrameStart now, State.txStart_of_pick up free ready picked, if_pos goesOn, State.resumeRest_of_rest held]
  case resumeDown =>
    rintro p upsets t r s now ⟨down, external⟩ free resumes held
    rw [exec_txFrameStart now, State.txStart_of_down down external free resumes, State.resumeRest_of_rest held]
  case sent =>
    intro p upsets t r s now onLine sent
    rw [exec_txFrameEnd now, State.txEnd_of_sent onLine sent]
  case mode => exact fun pid _ _ _ free mac => ⟨exec_macEnable pid free mac, exec_macDisable pid free mac⟩
  case aneg =>
    exact fun _ _ mac negotiates first =>
      ⟨exec_anegComplete true mac negotiates first, exec_anegComplete false mac negotiates first⟩
  case anegRestart =>
    exact fun _ _ mac negotiates noted due => next_if_pos (by simp [mac, negotiates, noted, due]) rfl
  case lock => exact fun _ _ mac locks noAneg => next_if_pos (by simp [mac, locks, noAneg]) rfl
  case loss => exact fun _ _ up => congrArg Host.Outcome.next (State.linkLost_of_isUp up)
  case verify => exact fun _ _ external waits due => next_if_pos (by simp [external, waits, due]) rfl

end Sys2Proof.Machine
end

section
/-! Gate engines (R171, R173, R174, R184): lists that become operational, and list loads. -/
namespace Sys2Proof.Machine

variable {s : State} {d : Desc} {p g : Nat} {q : GateList}

/-- A port's pending list becomes operational at its base time, at the cycle and entry that contain TIM_NOW. -/
theorem State.gateSwitch_of_due (external : p < 20) (pending : (s.gate p).pend = some q) (runs : s.gateRuns p = true)
    (due : s.reached q.base = true) :
    s.gateSwitch p = ((s.setGate p
      ⟨some q, (q.seek q.base s.timNow).1, (q.seek q.base s.timNow).2, false, none⟩).showGate p).raise
        (F.PRT_EVT_GATE_SWITCH p) := by
  simp only [State.gateSwitch, pending]
  exact (if_neg (by simp [runs, due])).trans (if_pos external)

/-- A stream gate without a pending list passes to its next entry. -/
theorem exec_qciGateChange_of_none (gate : g < 128) (noList : (s.gate (32 + g)).pend = none) :
    exec (.qciGateChange g) s = .next (s.gateStep (32 + g)) :=
  next_if_pos gate (by simp only [noList])

/-- A stream gate whose pending list is due takes it up. -/
theorem exec_qciGateChange_of_due (gate : g < 128) (pending : (s.gate (32 + g)).pend = some q)
    (due : s.reached q.base = true) : exec (.qciGateChange g) s = .next (s.gateSwitch (32 + g)) :=
  next_if_pos gate (by simp only [pending, due]; rfl)

/-- GCL_LOAD is not valid on SP. -/
theorem State.gclLoad_of_service (port : u8 d.raw 20 = 20) : s.gclLoad d = s.finish d St.WRONG_PORT 0 := if_pos port

theorem State.gclLoad_of_sound (port : u8 d.raw 20 < 20) (sound : s.gateListOk d false = true) :
    s.gclLoad d = s.gateLoad (u8 d.raw 20) d :=
  (if_neg (Nat.ne_of_lt port)).trans (if_neg (by simp [sound, Nat.le_of_lt port]))

theorem State.gclLoad_of_bad (port : u8 d.raw 20 ≠ 20)
    (bad : 20 < u8 d.raw 20 ∨ s.gateListOk d false = false) : s.gclLoad d = s.finish d St.BADARG 0 :=
  (if_neg port).trans (if_pos (by simpa using bad))

theorem State.qciGateLoad_of_sound (gate : u8 d.raw 20 < 128) (sound : s.gateListOk d true = true) :
    s.qciGateLoad d = s.gateLoad (32 + u8 d.raw 20) d :=
  if_neg (by simp [gate, sound])

end Sys2Proof.Machine
end

section
/-! Stream filters and meters (R184), and the frames of the service port (R185). -/
namespace Sys2Proof.Machine

variable {s : State} {d : Desc}

/-- QCI_FILTER_SET stores a filter whose index fields are each in range or the wildcard. -/
theorem State.filterSet_of_sound (noBuf : d.noBuf = true) (filter : u16 d.raw 20 < 256)
    (handle : idxOk 1024 0xFFFF (u16 d.raw 22) = true) (priority : idxOk 8 0xFF (u8 d.raw 24) = true)
    (gate : idxOk 128 0xFF (u8 d.raw 25) = true) (meter : idxOk 256 0xFFFF (u16 d.raw 28) = true)
    (cls : idxOk 8 0xFF (u8 d.raw 30) = true) (flags : u8 d.raw 31 < 4) :
    s.filterSet d = (s.onPrt fun t => { t with
      filters := storeSet filterDefault t.filters (u16 d.raw 20)
        ⟨bitOf (u8 d.raw 31) 0, u16 d.raw 22, u8 d.raw 24, u8 d.raw 25, u16 d.raw 26, u16 d.raw 28, u8 d.raw 30,
          bitOf (u8 d.raw 31) 1, false⟩ }).finish d St.OK 0 :=
  if_neg (by simp [noBuf, filter, handle, priority, gate, meter, cls, flags])

/-- QCI_METER_SET stores a meter with full buckets (log 30); one that is all red stays so unless the flag clears it. -/
theorem State.meterSet_of_sound (noBuf : d.noBuf = true) (meter : u16 d.raw 20 < 256) (flags : u8 d.raw 40 < 16) :
    s.meterSet d = (s.setMeter (u16 d.raw 20) ⟨u32 d.raw 24, u32 d.raw 28, u32 d.raw 32, u32 d.raw 36,
      bitOf (u8 d.raw 40) 0, bitOf (u8 d.raw 40) 1, bitOf (u8 d.raw 40) 2, ⟨u32 d.raw 28 * 8000000, s.now⟩,
      ⟨u32 d.raw 36 * 8000000, s.now⟩,
      (s.meter (u16 d.raw 20)).allRed && !bitOf (u8 d.raw 40) 3⟩).finish d St.OK 0 :=
  if_neg (by simp [noBuf, meter, flags])

/-- QCI_READ returns the filter's five counts and clears them. -/
theorem State.qciRead_of_sound (filter : u16 d.raw 20 < 256) (room : 40 ≤ d.len) :
    s.qciRead d = (forEach (List.range 5) (fun i t => t.setFiltCnt (u16 d.raw 20) i 0) s).finishBuf d 0
      ((List.range 5).flatMap fun i => leBytes 8 (s.filtCnt (u16 d.raw 20) i)) St.OK 40 :=
  if_neg (by simp [filter, room])

/-- SP_SEND places the frame in the stage of SP while its link is UP, and the descriptor waits for it to leave. -/
theorem State.spSend_of_up (least : 60 ≤ d.len) (fits : d.len + 4 ≤ s.get (F.PRT_MODE_MAX_LEN 20))
    (up : s.isUp 20 = true) :
    s.spSend d =
      let q := s.placed { SwFrame.new 24 0 d.buf (d.len + 4) 4096 0 with send := some (d.round, d.slot) }
      (q.1.onSwc fun w => { w with staged := w.staged ++ [⟨24, q.2, cellsOf (d.len + 4)⟩] }).hold d :=
  (if_neg (by simp [least, fits])).trans (if_neg (by simp [up]))

/-- Settles O9: an opcode's command takes the round's descriptor, and each clause is the rule above of its operation. -/
theorem gateAndPortOpsComplete : Obligations.GateAndPortOpsComplete := by
  unfold Obligations.GateAndPortOpsComplete
  refine ⟨?change, ?switch, ?enable, ?qciChange, ?qciSwitch, ?gclLoad, ?gclRefused, ?qciLoad, ?filter, ?meter, ?read,
    ?send, ?recv⟩
  case change => exact fun _ _ external runs => next_if_pos (by simp [external, runs]) rfl
  case switch =>
    exact fun _ _ _ external pending runs due =>
      next_if_pos external (State.gateSwitch_of_due external pending runs due)
  case enable => exact fun _ _ _ _ _ => rfl
  case qciChange => exact fun _ _ gate noList => exec_qciGateChange_of_none gate noList
  case qciSwitch => exact fun _ _ _ gate pending due => exec_qciGateChange_of_due gate pending due
  case gclLoad => exact fun _ _ _ cur port sound => next_withOp cur (State.gclLoad_of_sound port sound)
  case gclRefused =>
    intro r d s cur
    refine ⟨fun service => ?_, fun beyond => ?_, fun port bad => ?_⟩
    · exact next_withOp cur (State.gclLoad_of_service service)
    · exact next_withOp cur (State.gclLoad_of_bad (Nat.ne_of_gt beyond) (.inl beyond))
    · exact next_withOp cur (State.gclLoad_of_bad (Nat.ne_of_lt port) (.inr bad))
  case qciLoad => exact fun _ _ _ cur gate sound => next_withOp cur (State.qciGateLoad_of_sound gate sound)
  case filter =>
    rintro r d s cur noBuf ⟨filter, handle, priority, gate⟩ ⟨meter, cls, flags⟩
    exact next_withOp cur (State.filterSet_of_sound noBuf filter handle priority gate meter cls flags)
  case meter =>
    rintro r d s cur noBuf ⟨meter, flags⟩
    exact next_withOp cur (State.meterSet_of_sound noBuf meter flags)
  case read =>
    rintro r d s cur ⟨filter, room⟩
    exact next_withOp cur (State.qciRead_of_sound filter room)
  case send =>
    rintro r d s cur ⟨least, fits⟩ up
    exact next_withOp cur (State.spSend_of_up least fits up)
  case recv => exact fun _ _ _ cur room => next_withOp cur (if_neg (Nat.not_lt.mpr room))

end Sys2Proof.Machine
end

section
/-! What a field of a register reads after the time base has moved the media clock (R208), and how large a word of a
descriptor is. -/
namespace Sys2Proof.Machine

theorem length_slice (b : Bytes) (i n : Nat) : (slice b i n).length = n := by
  unfold slice zeros
  dsimp only
  rw [List.length_append, List.length_replicate]
  exact Nat.add_sub_cancel' (List.length_take_le n (b.drop i))

/-- A run of bytes spells a number below that power of 256. -/
theorem leVal_lt (b : Bytes) : leVal b < 256 ^ b.length := by
  induction b with
  | nil => exact Nat.one_pos
  | cons x r ih =>
    have byte : x.toNat < 256 := x.isLt
    rw [leVal, List.length_cons, Nat.pow_succ]
    omega

theorem u32_lt (b : Bytes) (i : Nat) : u32 b i < 2 ^ 32 := by
  have spelled := leVal_lt (slice b i 4)
  rwa [length_slice] at spelled

/-- A field that is a whole register reads as put. -/
theorem State.put_get_word (s : State) (a : Nat) {v : Nat} (fits : v < 2 ^ 32) :
    (s.put ⟨a, 31, 0⟩ v).get ⟨a, 31, 0⟩ = v :=
  State.put_get_self s ⟨a, 31, 0⟩ v (Nat.zero_le _) (Nat.le_refl _) (by simpa using fits)

@[simp] theorem State.onTim_get (s : State) (f : Tim → Tim) (g : Fld) : (s.onTim f).get g = s.get g := (rfl)

/-- A move of the media clock shows in TIM_STAT, in TIM_EVT and, through the event's interrupt, in COR_EVT alone. -/
theorem State.mediaMove_get {s : State} {m : Int} {g : Fld} (stat : g.reg ≠ R.TIM_STAT) (evt : g.reg ≠ R.TIM_EVT)
    (cor : g.reg ≠ R.COR_EVT) : (s.mediaMove m).get g = s.get g := by
  unfold State.mediaMove
  dsimp only
  split
  · rfl
  · rw [State.raise_get_other _ _ g evt cor, State.put_get_other _ _ g _ stat, State.onTim_get]

end Sys2Proof.Machine
end

section
/-! The trigger opcodes (R199, R201, R202, R210) and TXTS_READ (R197): what each does with the descriptor it finds. -/
namespace Sys2Proof.Machine

variable {s : State} {d : Desc} {n : Nat}

/-- The state in which trigger `n` is armed for a target and a period, its firings counted from 0. -/
def State.trgSet (s : State) (n target period : Nat) : State :=
  ((((s.put (F.TIM_TRG_TARGET_VALUE n) target).put (F.TIM_TRG_PERIOD_VALUE n) period).put
    (F.TIM_TRG_CTL_SKIPPED n) 0).put (F.TIM_TRG_CTL_ARMED n) 1).onTim
    fun t => { t with armNew := setBit t.armNew n, fired := storeSet cntDefault t.fired n 0 }

/-- That state, in which an arming of trigger 0 has moved the media clock's tie with its target (R208). -/
def State.trgSetTied (s : State) (n target period : Nat) : State :=
  if n = 0 then (s.trgSet n target period).mediaMove
    ((sint 32 (ahead32 (s.trgTarget n) target) + 500000) % 1000000 - 500000)
  else s.trgSet n target period

/-- TRG_ARM by the trigger's owner or partition 0, with a period that R199 allows, turns on the target's distance. -/
theorem State.trgArm_of_allowed (noBuf : d.noBuf = true) (trigger : u8 d.raw 20 = n) (there : n < 16)
    (allowed : s.dPid d = 0 ∨ s.dPid d = s.get (F.TIM_TRG_CTL_OWNER n))
    (period : u32 d.raw 28 = 0 ∨ (1000 ≤ u32 d.raw 28 ∧ u32 d.raw 28 ≤ 1000000000)) :
    s.trgArm d = if 2 ^ 31 ≤ ahead32 s.timNow (u32 d.raw 24) then s.finish d St.BADARG 0
      else (s.trgSetTied n (u32 d.raw 24) (u32 d.raw 28)).finish d St.OK
        (s.trgSetTied n (u32 d.raw 24) (u32 d.raw 28)).timNow := by
  subst trigger
  have sound : ¬(!d.noBuf || decide (16 ≤ u8 d.raw 20)) = true := by simpa [noBuf] using there
  have permitted : ¬(s.dPid d != 0 && s.dPid d != s.get (F.TIM_TRG_CTL_OWNER (u8 d.raw 20))) = true := by
    rcases allowed with h | h <;> simp [h]
  have legal : (u32 d.raw 28 != 0 && (decide (u32 d.raw 28 < 1000) || decide (1000000000 < u32 d.raw 28))) = false := by
    rcases period with once | ⟨least, most⟩
    · simp [once]
    · simp [Nat.not_lt.mpr least, Nat.not_lt.mpr most]
  unfold State.trgArm
  simp only [if_neg sound, if_neg permitted, legal, Bool.false_or, decide_eq_true_eq]
  rfl

/-- An armed trigger's target, period and armed bit read as given. -/
theorem State.trgSet_get {target period : Nat} (t32 : target < 2 ^ 32) (p32 : period < 2 ^ 32) :
    (s.trgSet n target period).get (F.TIM_TRG_TARGET_VALUE n) = target ∧
      (s.trgSet n target period).get (F.TIM_TRG_PERIOD_VALUE n) = period ∧
      (s.trgSet n target period).get (F.TIM_TRG_CTL_ARMED n) = 1 := by
  have targetCtl : R.TIM_TRG_TARGET n ≠ R.TIM_TRG_CTL n := by unfold R.TIM_TRG_TARGET R.TIM_TRG_CTL; omega
  have periodCtl : R.TIM_TRG_PERIOD n ≠ R.TIM_TRG_CTL n := by unfold R.TIM_TRG_PERIOD R.TIM_TRG_CTL; omega
  have targetPeriod : R.TIM_TRG_TARGET n ≠ R.TIM_TRG_PERIOD n := by
    unfold R.TIM_TRG_TARGET R.TIM_TRG_PERIOD
    omega
  unfold State.trgSet
  simp only [State.onTim_get]
  refine ⟨?target, ?period, ?armed⟩
  case target =>
    rw [State.put_get_other _ _ _ _ targetCtl, State.put_get_other _ _ _ _ targetCtl,
      State.put_get_other _ _ _ _ targetPeriod]
    exact s.put_get_word _ t32
  case period =>
    rw [State.put_get_other _ _ _ _ periodCtl, State.put_get_other _ _ _ _ periodCtl]
    exact State.put_get_word _ _ p32
  case armed => exact State.put_get_self _ _ 1 (Nat.le_refl _) (Nat.le_refl _) (by simp [F.TIM_TRG_CTL_ARMED])

/-- What moves the media clock's tie leaves the trigger's registers. -/
theorem State.trgSetTied_get {target period : Nat} {g : Fld} (there : n < 16) (low : R.TIM_TRG_CTL n ≤ g.reg)
    (high : g.reg ≤ R.TIM_TRG_PERIOD n) :
    (s.trgSetTied n target period).get g = (s.trgSet n target period).get g := by
  unfold R.TIM_TRG_CTL at low
  unfold R.TIM_TRG_PERIOD at high
  have last : 0x10 * n < 0x10 * 16 := (Nat.mul_lt_mul_left (by decide)).mpr there
  unfold State.trgSetTied
  split
  · refine State.mediaMove_get ?_ ?_ ?_
    · unfold R.TIM_STAT; omega
    · unfold R.TIM_EVT; omega
    · unfold R.COR_EVT; omega
  · rfl

/-- TRG_DISARM by the trigger's owner or partition 0 disarms it. -/
theorem State.trgDisarm_of_allowed (noBuf : d.noBuf = true) (trigger : u8 d.raw 20 = n) (there : n < 16)
    (allowed : s.dPid d = 0 ∨ s.dPid d = s.get (F.TIM_TRG_CTL_OWNER n)) :
    s.trgDisarm d = (s.put (F.TIM_TRG_CTL_ARMED n) 0).finish d St.OK
      (storeGet cntDefault s.tim.fired n % 2 ^ 32 + 2 ^ 32 * b2n (s.trgArmed n)) := by
  subst trigger
  exact (if_neg (by simpa [noBuf] using there)).trans (if_neg (by rcases allowed with h | h <;> simp [h]))

/-- Another partition may neither arm nor disarm a trigger (R201). -/
theorem State.trgArm_trgDisarm_of_stranger (noBuf : d.noBuf = true) (trigger : u8 d.raw 20 = n) (there : n < 16)
    (notZero : s.dPid d ≠ 0) (notOwner : s.dPid d ≠ s.get (F.TIM_TRG_CTL_OWNER n)) :
    s.trgArm d = s.finish d St.NOTPERMIT 0 ∧ s.trgDisarm d = s.finish d St.NOTPERMIT 0 := by
  subst trigger
  have sound : ¬(!d.noBuf || decide (16 ≤ u8 d.raw 20)) = true := by simpa [noBuf] using there
  have refused : (s.dPid d != 0 && s.dPid d != s.get (F.TIM_TRG_CTL_OWNER (u8 d.raw 20))) = true := by
    simp [notZero, notOwner]
  exact ⟨(if_neg sound).trans (if_pos refused), (if_neg sound).trans (if_pos refused)⟩

/-- TXTS_READ takes up to the number of stamps asked for from the front of the port's queue. -/
theorem State.txtsRead_of_sound {p k : Nat} (port : u8 d.raw 20 = p) (external : p < 20) (asked : u16 d.raw 22 = k)
    (least : 1 ≤ k) (most : k ≤ 64) (room : 8 * k ≤ d.len) :
    s.txtsRead d = (s.setTxts p ((s.txts p).drop (min k (s.txts p).length))).finishBuf d 0
      ((s.txts p).take (min k (s.txts p).length)).flatten St.OK
      (min k (s.txts p).length + 2 ^ 32 * ((s.txts p).length - min k (s.txts p).length)) := by
  subst port asked
  have notNone : u16 d.raw 22 ≠ 0 := Nat.ne_of_gt least
  exact if_neg (by simp [external, notNone, most, room])

end Sys2Proof.Machine
end

section
/-! Writes of the time base (R188, R189), transmit timestamps (R197, R198) and PPS (R207). -/
namespace Sys2Proof.Machine

variable {s : State} {v p : Nat} {x : TxStamp}

/-- A TIM_INC in range is written and waits for the next tick. -/
theorem State.writeInc_of_ok (least : 0x03FF0000 ≤ v) (most : v ≤ 0x04010000) :
    s.writeInc v = (s.wr R.TIM_INC (BitVec.ofNat 32 v)).onTim fun t => { t with incNext := some v } :=
  if_pos (by simp [incOk, least, most])

/-- A TIM_INC out of range is ignored. -/
theorem State.writeInc_of_bad (bad : v < 0x03FF0000 ∨ 0x04010000 < v) : s.writeInc v = s :=
  if_neg (by simpa [incOk] using fun least => bad.resolve_left (Nat.not_lt.mpr least))

/-- A TIM_STEP on a busy register is ignored. -/
theorem State.writeStep_of_busy (busy : s.on F.TIM_STAT_STEP_BUSY = true) : s.writeStep v = s := if_pos busy

/-- A TIM_STEP of 2^30 or more in size raises STEP_BAD. -/
theorem State.writeStep_of_large (idle : s.on F.TIM_STAT_STEP_BUSY = false) (large : 2 ^ 30 ≤ (sint 32 v).natAbs) :
    s.writeStep v = s.raise F.TIM_EVT_STEP_BAD :=
  (if_neg (by simp [idle])).trans (if_pos large)

/-- Any other TIM_STEP waits for the next tick. -/
theorem State.writeStep_of_small (idle : s.on F.TIM_STAT_STEP_BUSY = false) (small : (sint 32 v).natAbs < 2 ^ 30) :
    s.writeStep v = (s.put F.TIM_STAT_STEP_BUSY 1).onTim fun t => { t with step := some (v % 2 ^ 32) } :=
  (if_neg (by simp [idle])).trans (if_neg (Nat.not_le.mpr small))

/-- The 8 bytes of R196 that a timestamp's queue holds. -/
def TxStamp.entry (x : TxStamp) : Bytes := leBytes 4 x.time ++ leBytes 2 x.tag ++ leBytes 1 (x.msg % 16) ++ [0]

/-- TXTS_ENQUEUE takes the port's oldest stamp to its queue. -/
theorem exec_txtsEnqueue (oldest : s.tim.stamps.find? (·.port == p) = some x) :
    exec (.txtsEnqueue p) s =
      .next ((s.onTim fun t => { t with stamps := dropFirst (·.port == p) t.stamps }).enqueueStamp x) := by
  show execTxtsEnqueue p s = _
  unfold execTxtsEnqueue
  rw [oldest]

/-- A stamp for a full queue is lost. -/
theorem State.enqueueStamp_of_full (full : 64 ≤ (s.txts x.port).length) :
    s.enqueueStamp x =
      ((s.count (C.TIM_TSLOST x.port)).raise F.TIM_EVT_TS_LOST).endStamp x.send St.LOST (2 ^ 32) :=
  if_pos full

/-- A stamp for a queue with room joins it; on an empty queue it raises TXTS. -/
theorem State.enqueueStamp_of_room (room : (s.txts x.port).length < 64) :
    s.enqueueStamp x =
      (if (s.txts x.port).isEmpty then (s.setTxts x.port (s.txts x.port ++ [x.entry])).raise F.TIM_EVT_TXTS
        else s.setTxts x.port (s.txts x.port ++ [x.entry])).endStamp x.send St.OK 0 :=
  if_neg (Nat.not_le.mpr room)

theorem State.enqueueStamp_of_empty (empty : (s.txts x.port).isEmpty = true) :
    s.enqueueStamp x = ((s.setTxts x.port [x.entry]).raise F.TIM_EVT_TXTS).endStamp x.send St.OK 0 := by
  have nothing : s.txts x.port = [] := List.isEmpty_iff.mp empty
  rw [State.enqueueStamp_of_room (by simp [nothing]), if_pos empty, nothing, List.nil_append]

/-- An edge of the chosen polarity starts a capture, and the other ends it. -/
theorem exec_ppsEdge {up : Bool} (enabled : s.on F.TIM_PPS_CTL_IN_EN = true) :
    exec (.ppsEdge up) s =
      .next (if up != s.on F.TIM_PPS_CTL_IN_FALL then s.onTim fun t => { t with pps := some (s.timAt s.now, s.now) }
        else s.onTim fun t => { t with pps := none }) :=
  next_if_neg (by simp [enabled]) rfl

/-- A level that has held for 100 ns captures the time of its edge. -/
theorem exec_ppsCapture {u : State} {t : Nat} (enabled : s.on F.TIM_PPS_CTL_IN_EN = true)
    (edge : s.tim.pps = some (v, t)) (held : t + 100 ≤ s.now)
    (captured : u = (s.onTim fun t => { t with pps := none }).put F.TIM_PPS_CAP_TIME v) :
    exec .ppsCapture s =
      .next ((if u.on F.TIM_EVT_PPS then u.raise F.TIM_EVT_PPS_OVR else u).raise F.TIM_EVT_PPS) := by
  subst captured
  show execPpsCapture s = _
  simp only [execPpsCapture, edge]
  exact next_if_neg (by simp [enabled, held]) rfl

/-- A write of SKIP_CLR without LATE clears SKIPPED alone where OWNER does not follow the write: from a partition other
than 0, or of trigger 0 (R200, R201). -/
theorem State.writeTrgCtl_skipClr {pid n : Nat} (keepsOwner : pid ≠ 0 ∨ n = 0) (skip : bitOf v 15 = true)
    (keepsLate : bitOf v 30 = false) : s.writeTrgCtl pid n v = s.put (F.TIM_TRG_CTL_SKIPPED n) 0 := by
  have noOwner : ¬(pid = 0 ∧ n ≠ 0) := fun h => keepsOwner.elim (· h.1) h.2
  unfold State.writeTrgCtl
  simp only [if_neg noOwner, keepsLate, skip, Bool.false_eq_true, if_false, if_true]

end Sys2Proof.Machine
end

section
/-! The tick of an idle lattice (R187): what it does while the lattice does not count. -/
namespace Sys2Proof.Machine

variable {s : State}

/-- No sleep closes while none has been committed or the logic die is stopped. -/
theorem State.sleepDue_of_not_closing (notClosing : s.closing = false) : s.sleepDue = s :=
  if_neg (by simp [notClosing])

/-- A tick of a lattice that does not count, with no sleep to close, takes 4 ns of crystal time. -/
theorem State.tick_of_not_counting (still : s.on F.TIM_STAT_LOCKED = false ∨ s.pow.logic = false)
    (awake : s.closing = false) : s.tick = s.setNow (s.now + 4) := by
  have due : (s.setNow (s.now + 4)).sleepDue = s.setNow (s.now + 4) := State.sleepDue_of_not_closing awake
  have stopped : (!(s.setNow (s.now + 4)).on F.TIM_STAT_LOCKED || !(s.setNow (s.now + 4)).pow.logic) = true := by
    rcases still with unlocked | unpowered
    · rw [show (s.setNow (s.now + 4)).on F.TIM_STAT_LOCKED = false from unlocked]
      rfl
    · simp [unpowered]
  unfold State.tick
  simp only [due]
  exact if_pos stopped

end Sys2Proof.Machine
end

section
/-! The statements of the time base. -/
namespace Sys2Proof.Machine

/-- Settles O53: TRG_ARM turns on the target's distance; once armed, the trigger's three fields read as written, and
the media clock's move leaves them. -/
theorem triggerArmsAheadOnly : Obligations.TriggerArmsAheadOnly := by
  unfold Obligations.TriggerArmsAheadOnly
  rintro r n d s cur noBuf ⟨trigger, there⟩ allowed period
  have arm := State.trgArm_of_allowed noBuf trigger there allowed period
  refine ⟨fun behind => ?behind, fun ahead => ?ahead⟩
  case behind => exact next_withOp cur (arm.trans (if_pos behind))
  case ahead =>
    obtain ⟨target, length, armed⟩ := State.trgSet_get (s := s) (n := n) (u32_lt d.raw 24) (u32_lt d.raw 28)
    refine ⟨_, next_withOp cur (arm.trans (if_neg (Nat.not_le.mpr ahead))), ?_, ?_, ?_⟩
    · exact (State.trgSetTied_get there (Nat.add_le_add_right (by decide) _)
        (Nat.add_le_add_right (by decide) _)).trans target
    · exact (State.trgSetTied_get there (Nat.add_le_add_right (by decide) _) (Nat.le_refl _)).trans length
    · exact (State.trgSetTied_get there (Nat.le_refl _) (Nat.add_le_add_right (by decide) _)).trans armed

/-- Settles O11: the command takes the round's descriptor, and each clause is the rule above of its operation. -/
theorem triggerOpsComplete : Obligations.TriggerOpsComplete := by
  unfold Obligations.TriggerOpsComplete
  refine ⟨?arm, ?disarm, ?stranger, ?read⟩
  case arm =>
    rintro r n d s _ cur noBuf ⟨trigger, there⟩ allowed period ahead rfl
    have arm := State.trgArm_of_allowed noBuf trigger there allowed period
    refine next_withOp cur ((arm.trans (if_neg (Nat.not_le.mpr ahead))).trans ?_)
    unfold State.trgSetTied
    split <;> rfl
  case disarm =>
    rintro r n d s cur noBuf ⟨trigger, there⟩ allowed
    exact next_withOp cur (State.trgDisarm_of_allowed noBuf trigger there allowed)
  case stranger =>
    rintro r n d s noBuf ⟨trigger, there⟩ ⟨notZero, notOwner⟩
    obtain ⟨arm, disarm⟩ := State.trgArm_trgDisarm_of_stranger noBuf trigger there notZero notOwner
    exact ⟨fun cur => next_withOp cur arm, fun cur => next_withOp cur disarm⟩
  case read =>
    rintro r d s cur external ⟨least, most, room⟩
    exact next_withOp cur (State.txtsRead_of_sound rfl external rfl least most room)

/-- Settles O10: a clause is the rule above of its event, or its event's one condition, which the clause gives; four
commands are the tick at which what they name happens. -/
theorem timeEventsComplete : Obligations.TimeEventsComplete := by
  unfold Obligations.TimeEventsComplete
  refine ⟨?lock, ?wrap, ?inc, ?incBad, ?incApply, ?step, ?stepBad, ?stepApply, ?xtal, ?stamp, ?fire, ?control, ?skip,
    ?pulse, ?edge, ?capture, ?media⟩
  case lock => exact fun _ unlocked power => next_if_neg (by simp [unlocked, power]) rfl
  case wrap =>
    exact fun _ locked carries => next_if_pos (Bool.and_eq_true_iff.mpr ⟨locked, decide_eq_true carries⟩) rfl
  case inc =>
    rintro pid v s ⟨least, most⟩
    exact congrArg Host.Outcome.next (State.writeInc_of_ok least most)
  case incBad => exact fun _ _ _ bad => congrArg Host.Outcome.next (State.writeInc_of_bad bad)
  case incApply => exact fun _ locked waits => next_if_pos (by simp [locked, waits]) rfl
  case step => exact fun _ _ _ idle small => congrArg Host.Outcome.next (State.writeStep_of_small idle small)
  case stepBad =>
    exact fun _ _ _ =>
      ⟨fun busy => congrArg Host.Outcome.next (State.writeStep_of_busy busy),
        fun idle large => congrArg Host.Outcome.next (State.writeStep_of_large idle large)⟩
  case stepApply => exact fun _ locked waits => next_if_pos (by simp [locked, waits]) rfl
  case xtal => exact fun _ => ⟨rfl, rfl⟩
  case stamp =>
    rintro p x s _ oldest rfl
    rw [exec_txtsEnqueue oldest]
    refine ⟨fun full => ?full, fun room waiting => ?waiting, fun empty => ?empty⟩
    case full => rw [State.enqueueStamp_of_full full]
    case waiting =>
      rw [State.enqueueStamp_of_room room, if_neg (by simp [waiting])]
      rfl
    case empty =>
      rw [State.enqueueStamp_of_empty empty]
      rfl
  case fire => exact fun _ _ there locked fires => next_if_pos (by simp [there, locked, fires]) rfl
  case control => exact fun _ _ _ _ there => next_if_pos there rfl
  case skip =>
    exact fun _ _ _ _ there keepsOwner skip keepsLate =>
      next_if_pos there (State.writeTrgCtl_skipClr keepsOwner skip keepsLate)
  case pulse => exact fun _ _ high single ended => next_if_pos (by simp [high, single, ended]) rfl
  case edge =>
    intro up s enabled
    rw [exec_ppsEdge enabled]
    refine ⟨fun chosen => ?chosen, fun other => ?other⟩
    case chosen => exact next_if_pos (by simp [chosen]) rfl
    case other => exact next_if_neg (by simp [other]) rfl
  case capture => exact fun _ _ _ _ enabled edge held captured => exec_ppsCapture enabled edge held captured
  case media => exact fun _ tied unlocked => next_if_pos (by simp [tied, unlocked]) rfl

/-- Settles O43: a step with nothing waiting is the tick, and a stopped die or an unlocked lattice counts nothing. -/
theorem idleQueueTicks : Obligations.IdleQueueTicks := by
  unfold Obligations.IdleQueueTicks
  refine ⟨fun s idle => step_of_pending_nil idle, fun s still => ?_⟩
  rcases still with unpowered | ⟨unlocked, awake⟩
  · exact State.tick_of_not_counting (.inr unpowered) (by simp [State.closing, unpowered])
  · exact State.tick_of_not_counting (.inl unlocked) (by simp [State.closing, awake])

end Sys2Proof.Machine
end

section
/-! Audio blocks on their way: the processing of a node copy (R212), the frames that reach a Lattice (R218), and the
inputs still missing at their deadline (R213, R214). -/
namespace Sys2Proof.Machine

variable {s : State} {p : Pattern} {pl : Placement} {c t i edge copy : Nat}

/-- A copy of one of the pattern's nodes that may process the block under way, and has all its inputs, processes it. -/
theorem exec_nodeProcess {l : List Int} {ins : List InBlk} (block : s.aud.block = some t)
    (pattern : s.patOf (copyShadow c) = some p) (placement : s.placeOf (copyShadow c) = some pl)
    (node : copyNode c < p.nodes.length) (isCopy : c < 2048) (may : s.mayProcess c t = true)
    (complete : s.inputs p pl c t l = some ins) :
    exec (.nodeProcess c l) s = .next (s.process p pl c t ins l) := by
  show execNodeProcess c l s = _
  simp only [execNodeProcess, block, pattern, placement]
  exact next_if_pos (by simp [node, isCopy, may]) (by rw [complete])

/-- The first frame of its class on its way through port A leaves the transit; its first byte says whether it is a
channel frame or a sum. -/
theorem exec_edgeFrameArrival {k n : Nat} {b : Bytes} (frame : s.swc.transit[k]? = some (n, b))
    (first : s.firstIn k = true) :
    exec (.edgeFrameArrival k) s = .next (
      let u := s.onSwc fun w => { w with transit := w.transit.eraseIdx k }
      if u8 b 0 = 0x20 then u.edgeFrameIn b else if u8 b 0 = 0x22 then u.sumFrameIn b else s) := by
  show execEdgeFrameArrival k s = _
  simp only [execEdgeFrameArrival, frame]
  exact next_if_neg (by simp [first]) rfl

/-- The engines, other than that of the copy fed, on which copies of the node that feeds the edge are placed. -/
def State.farEngines (s : State) (pl : Placement) (e : PEdge) (c : Nat) : List Nat :=
  ((pl.copies 0 e.frm).map s.engineOf).filter fun x => x != s.engineOf c

/-- A copy without the block of an edge from other engines, at the deadline, takes what stands for the feeding
node's output where that is missing. -/
theorem exec_edgeDeadline_of_edge {e : PEdge} (block : s.aud.block = some t) (pattern : s.aud.pat = some p)
    (placement : s.cht.place = some pl) (due : s.pastInput t = true) (isEdge : edge < 1024)
    (found : p.edges[edge]? = some e) (copies : (pl.copies 0 e.dst).contains (e.dst + 512 * (copy % 2)) = true)
    (far : s.farEngines pl e (e.dst + 512 * (copy % 2)) ≠ [])
    (missing : s.inputOf (e.dst + 512 * (copy % 2)) e.inp t = none) :
    exec (.edgeDeadline edge copy) s = .next (s.missInput (e.dst + 512 * (copy % 2)) e.inp t
      ((p.node e.frm).noOut s.slot) (some edge) (s.farEngines pl e (e.dst + 512 * (copy % 2)))) := by
  show execEdgeDeadline edge copy s = _
  have takes : ((pl.copies 0 e.dst).contains (e.dst + 512 * (copy % 2)) &&
      !(s.farEngines pl e (e.dst + 512 * (copy % 2))).isEmpty &&
      (s.inputOf (e.dst + 512 * (copy % 2)) e.inp t).isNone) = true := by
    rw [copies, missing]
    simpa using far
  simp only [execEdgeDeadline, block, pattern, placement, found]
  exact next_if_neg (by simp [due]) ((if_neg (Nat.not_le.mpr isEdge)).trans (if_pos takes))

/-- A PLY_IN copy without its sum at the deadline takes silence. -/
theorem exec_edgeDeadline_of_sum (block : s.aud.block = some t) (pattern : s.aud.pat = some p)
    (placement : s.cht.place = some pl) (due : s.pastInput t = true) (isNode : 1024 ≤ edge)
    (kind : (p.node (edge - 1024)).kind = K.PLY_IN)
    (copies : (pl.copies 0 (edge - 1024)).contains (edge - 1024 + 512 * (copy % 2)) = true)
    (missing : s.inputOf (edge - 1024 + 512 * (copy % 2)) 0 t = none)
    (fed : s.unfed p pl (edge - 1024) 0 = none) :
    exec (.edgeDeadline edge copy) s =
      .next (s.missInput (edge - 1024 + 512 * (copy % 2)) 0 t (silence 48) none []) := by
  show execEdgeDeadline edge copy s = _
  simp only [execEdgeDeadline, block, pattern, placement]
  exact next_if_neg (by simp [due])
    ((if_pos isNode).trans (if_pos (by simp only [kind, copies, missing, fed]; rfl)))

/-- The audio unit takes up the first stream frame that waits. -/
theorem exec_audioStreamReceive {b : Bytes} {l : List Bytes} (waits : s.swc.aIn = b :: l) :
    exec .audioStreamReceive s = .next ((s.onSwc fun w => { w with aIn := l }).netFrame b) := by
  show execAudioStreamReceive s = _
  simp only [execAudioStreamReceive, waits]

end Sys2Proof.Machine
end

section
/-! The audio opcodes (R240): what each does with the descriptor it finds. -/
namespace Sys2Proof.Machine

variable {s : State} {d : Desc} {p : Pattern} {i k off len : Nat}

/-- The state in which Gauge, where it governs, counts the power that a pattern adds as its action, and AUD_STAT shows a
load in progress beside a running pattern (R235, R383). -/
def State.loadBegun (s : State) (p : Pattern) : State :=
  let t := if s.gauMode = 0 then s else s.gauAct (s.loadMw p)
  if t.get F.AUD_STAT_STATE = 1 then t.put F.AUD_STAT_STATE 2 else t

/-- A description without fault that the energy budget affords goes to Chart, and the load waits. -/
theorem State.patternLoad_of_sound (faultless : patternFault s.slot d.buf d.len = none)
    (afforded : s.loadOk (parsePattern d.buf) = true) :
    s.patternLoad d = ((s.loadBegun (parsePattern d.buf)).stitched d 1 0).askChart (.load d.round d.slot) := by
  simp only [State.patternLoad, faultless]
  exact if_neg (by simp [afforded])

theorem State.patternLoad_of_fault {f : PFault} (fault : patternFault s.slot d.buf d.len = some f) :
    s.patternLoad d = (s.raise F.AUD_EVT_PAT_REJECT).finish d St.PATTERN_BAD f.result := by
  simp only [State.patternLoad, fault]
  rfl

/-- NODE_SET of bytes within one starred range, which leave the node's parameters valid, waits for the next block. -/
theorem State.nodeSet_of_sound (pattern : s.aud.pat = some p) (node : u16 d.raw 20 = i) (offset : u8 d.raw 22 = off)
    (length : u8 d.raw 23 = len) (there : i < p.nodes.length) (least : 0 < len) (most : len ≤ 32)
    (noBuf : d.noBuf = true)
    (starred : ((p.node i).starred.any fun r => decide (r.1 ≤ off) && decide (off + len ≤ r.2 + 1)) = true)
    (valid : ({ p.node i with raw := patch (p.node i).raw off (slice d.raw 24 len) } : PNode).paramOk = true) :
    s.nodeSet d = (s.onAud fun a => { a with edits := a.edits ++ [⟨i, off, slice d.raw 24 len⟩] }).finish d St.OK
      (s.trgTarget 0) := by
  simp only [State.nodeSet, pattern, node, offset, length, if_neg (Nat.not_le.mpr there)]
  exact if_neg (by simp only [noBuf, starred, valid]; simpa [Nat.ne_of_gt least] using most)

/-- NODE_READ returns the node's kind, its saturation, the block it last processed and its readout. -/
theorem State.nodeRead_of_node (pattern : s.aud.pat = some p) (there : u16 d.raw 20 < p.nodes.length) :
    s.nodeRead d =
      let i := u16 d.raw 20
      let b := leBytes 1 (p.node i).kind ++ leBytes 1 (b2n (s.nodeSt i).sat) ++ [0, 0] ++ leBytes 4 (s.nodeSt i).time ++
        readout (p.node i) (s.nodeSt i) (p.groupOf (u8 (p.node i).raw 8)) (p.plyIndex i)
      s.finishBuf d 0 b St.OK b.length := by
  simp only [State.nodeRead, pattern]
  exact if_neg (Nat.not_le.mpr there)

/-- Without a pattern there is no node to set or read. -/
theorem State.nodeSet_nodeRead_of_no_pattern (noPattern : s.aud.pat = none) :
    s.nodeSet d = s.finish d St.NO_NODE 0 ∧ s.nodeRead d = s.finish d St.NO_NODE 0 := by
  simp only [State.nodeSet, State.nodeRead, noPattern, and_self]

/-- A stitch of CHIME_LOAD into a slot that does not play adds up to 4,096 samples to it. -/
theorem State.chimeLoad_of_idle (slot : u8 d.raw 20 = k) (there : k < 64) (whole : d.len % 6 = 0)
    (most : d.len ≤ 2880000) (idle : s.slotPlays k = false) :
    s.chimeLoad d =
      let n := min 4096 (d.len / 6 - d.prog)
      let l := (if d.prog = 0 then [] else storeGet noChime s.aud.chimes k) ++ words48 n (d.buf.drop (6 * d.prog))
      let t := s.onAud fun a => { a with chimes := storeSet noChime a.chimes k l }
      if d.prog + n = d.len / 6 then t.lastStitch d St.OK (d.prog + n) else t.stitched d (d.prog + n) (d.prog + n) := by
  subst slot
  exact (if_neg (by simp [there, whole, most])).trans (if_neg (by simp [idle]))

end Sys2Proof.Machine
end

section
/-! The statements of the audio function. -/
namespace Sys2Proof.Machine

/-- Settles O12: a clause is the rule above of its command, or its event's one condition, which the clause gives; the
link's loss and return have no condition. -/
theorem audioEventsComplete : Obligations.AudioEventsComplete := by
  unfold Obligations.AudioEventsComplete
  refine ⟨?process, ?frame, ?edge, ?sum, ?sink, ?stream, ?bias, ?link⟩
  case process =>
    rintro c t l p pl ins s block pattern placement ⟨node, isCopy⟩ may complete
    exact exec_nodeProcess block pattern placement node isCopy may complete
  case frame =>
    rintro k n b s _ frame first rfl
    rw [exec_edgeFrameArrival frame first]
    refine ⟨fun channel => ?channel, fun plySum => ?plySum⟩
    case channel => exact next_if_pos channel rfl
    case plySum => exact next_if_neg (by simp [plySum]) (if_pos plySum)
  case edge =>
    exact fun _ _ _ _ _ _ _ block pattern placement due isEdge found copies far missing =>
      exec_edgeDeadline_of_edge block pattern placement due isEdge found copies far missing
  case sum =>
    exact fun _ _ _ _ _ _ block pattern placement due isNode kind copies missing fed =>
      exec_edgeDeadline_of_sum block pattern placement due isNode kind copies missing fed
  case sink => exact fun _ _ _ _ missing => next_if_pos missing rfl
  case stream => exact fun _ _ _ waits => exec_audioStreamReceive waits
  case bias => exact fun _ _ input enabled unlatched => next_if_pos (by simp [input, enabled, unlatched]) rfl
  case link => exact fun _ => ⟨rfl, rfl⟩

/-- Settles O13: the command takes the round's descriptor, and each clause is the rule above of its operation;
AUD_STREAM_SET checks its arguments and then whether a node uses the slot. -/
theorem audioOpcodesComplete : Obligations.AudioOpcodesComplete := by
  unfold Obligations.AudioOpcodesComplete
  refine ⟨?load, ?fault, ?set, ?read, ?noNode, ?chime, ?stream⟩
  case load =>
    rintro r d s _ _ cur faultless afforded rfl rfl
    exact next_withOp cur (State.patternLoad_of_sound faultless afforded)
  case fault => exact fun _ _ _ _ cur fault => next_withOp cur (State.patternLoad_of_fault fault)
  case set =>
    rintro r i off len d p s cur pattern ⟨node, offset, length, there, least, most⟩ noBuf starred valid
    exact next_withOp cur
      (State.nodeSet_of_sound pattern node offset length there least most noBuf starred valid)
  case read => exact fun _ _ _ _ cur pattern there => next_withOp cur (State.nodeRead_of_node pattern there)
  case noNode =>
    intro r d s noPattern
    obtain ⟨set, read⟩ := State.nodeSet_nodeRead_of_no_pattern (d := d) noPattern
    exact ⟨fun cur => next_withOp cur set, fun cur => next_withOp cur read⟩
  case chime =>
    rintro r k _ _ d s cur ⟨slot, there, whole, most⟩ idle rfl rfl
    exact next_withOp cur (State.chimeLoad_of_idle slot there whole most idle)
  case stream =>
    rintro r _ d s cur rfl sound unused
    exact next_withOp cur ((if_neg (by simp [sound])).trans (if_neg (by simp [unused])))

end Sys2Proof.Machine
end

section
/-! Chart's events (R253 to R255): each is one condition on the state that it finds; the replan, the check of the shadow
block and the switch-over first drop the loads whose descriptor has ended. -/
namespace Sys2Proof.Machine

variable {s : State} {sh : Shadow} {b e : Nat}

/-- A replan with something asked, nothing on its way and a level that stands serves the requests, outside DOZE. -/
theorem exec_chartReplan_of_asked (asked : s.dropLoads.cht.asks.isEmpty = false) (free : s.dropLoads.placing = false)
    (still : s.dropLoads.gau.moving = none) (awake : s.dropLoads.cor.doze = false) :
    exec .chartReplan s = .next ((s.dropLoads.dropShadow false).replan s.dropLoads.serving) :=
  next_if_neg (by simp [awake, still, free]) (if_neg (by simp [asked]))

/-- The shadow block `b` has ended too late, or not with every copy of the new placement. -/
def State.shadowMissed (s : State) (sh : Shadow) (b : Nat) : Bool :=
  sh.late || s.aud.block != some b || !(sh.copies.all fun c => s.aud.done.contains c)

/-- At its deadline a shadow's first block is judged: the shadow is abandoned, or has passed (R254 steps 3 and 4). -/
theorem exec_shadowDeadlineCheck_of_due (shadow : s.dropLoads.cht.shadow = some sh) (block : sh.block = some b)
    (waiting : sh.passed = false) (own : sh.mirrored = false) (due : s.dropLoads.pastInput b = true) :
    exec .shadowDeadlineCheck s = .next (if s.dropLoads.shadowMissed sh b then s.dropLoads.abandon sh
      else s.dropLoads.onCht fun x => { x with shadow := some { sh with passed := true } }) := by
  show execShadowDeadlineCheck s = _
  simp only [execShadowDeadlineCheck, shadow, block]
  exact next_if_neg (by simp [waiting, own, due]) rfl

/-- A passed shadow is switched to at the start of a block after its own. -/
theorem exec_placementSwitch_of_passed (shadow : s.dropLoads.cht.shadow = some sh)
    (block : s.dropLoads.aud.block = some b) (passed : sh.passed = true) (next : sh.block ≠ some b) :
    exec .placementSwitch s = .next (s.dropLoads.switchOver sh b) := by
  show execPlacementSwitch s = _
  simp only [execPlacementSwitch, shadow, block]
  exact next_if_pos (by simp [passed, next]) rfl

/-- An engine with a copy of the block left 950 µs in has failed (R255). -/
theorem exec_engineDeadline_of_left {p : Pattern} {pl : Placement} (block : s.aud.block = some b)
    (pattern : s.aud.pat = some p) (placement : s.cht.place = some pl)
    (left : ((List.range p.nodes.length).any fun i =>
      (pl.copies 0 i).any fun c => s.engineOf c == e && !s.aud.done.contains c) = true)
    (due : before s.timNow ((b + 950000) % 2 ^ 32) = false) :
    exec (.engineDeadline e) s = .next (s.engineFail e) := by
  show execEngineDeadline e s = _
  simp only [execEngineDeadline, block, pattern, placement]
  exact next_if_pos (by simp only [left, due]; rfl) rfl

/-- An engine that is on and fails is counted and leaves RUN, is excluded at FAIL_LIMIT, and asks Chart for a replan; a
placement on its way that uses it is abandoned (R255). -/
theorem State.engineFail_of_on {n : Nat} {u v : State} (known : e < 16) (on : s.engineOn e = true)
    (fails : n = min 15 (s.get (F.CHT_ENG_STAT_FAILS e) + 1))
    (counted : u = ((s.put (F.CHT_ENG_STAT_FAILS e) n).count C.CHT_ENG_FAIL).raise F.CHT_EVT_ENG_FAIL)
    (shown : v = if max 1 (u.get F.CHT_CTL_FAIL_LIMIT) ≤ n then
        ((u.put (F.CHT_ENG_STAT_STATE e) 3).set1 F.CHT_EXCLUDED_ENG e).raise F.CHT_EVT_ENG_EXCLUDED
      else u.put (F.CHT_ENG_STAT_STATE e) 2) :
    (v.cht.shadow = none → s.engineFail e = v.askChart .failure) ∧
    (∀ sh, v.cht.shadow = some sh → s.engineFail e =
      (if (sh.place.eng ++ sh.place.twin).contains e then v.dropShadow true else v).askChart .failure) := by
  unfold State.engineFail
  rw [if_neg (by simp [known, on])]
  by_cases limit : max 1 (u.get F.CHT_CTL_FAIL_LIMIT) ≤ n
  · rw [if_pos limit] at shown
    simp only [← fails, ← counted, limit, decide_true, if_true, ← shown]
    exact ⟨fun noShadow => by simp only [noShadow, Bool.false_eq_true, if_false],
      fun sh shadow => by simp only [shadow]⟩
  · rw [if_neg limit] at shown
    simp only [← fails, ← counted, limit, decide_false, Bool.false_eq_true, if_false, ← shown]
    exact ⟨fun noShadow => by simp only [noShadow, Bool.false_eq_true, if_false],
      fun sh shadow => by simp only [shadow]⟩

end Sys2Proof.Machine
end

section
/-! The Chart opcodes (R252, R259): what each does with the descriptor it finds. -/
namespace Sys2Proof.Machine

variable {s : State} {d : Desc}

/-- PATTERN_CHECK with arguments in range ends with the fault of its description, if that has one. -/
theorem State.patternCheck_of_fault {f : PFault} (level : u8 d.raw 20 ≤ 4) (flags : u8 d.raw 21 < 4)
    (fault : patternFault s.slot d.buf d.len = some f) :
    s.patternCheck d = s.lastStitch d St.CHECK_BAD f.result := by
  unfold State.patternCheck
  rw [if_neg (by simp [level, flags])]
  simp only [fault]

/-- PATTERN_CHECK of a description without fault, for which the search admits a placement, ends with its figures. -/
theorem State.patternCheck_of_placed {pl : Placement} (level : u8 d.raw 20 ≤ 4) (flags : u8 d.raw 21 < 4)
    (faultless : patternFault s.slot d.buf d.len = none)
    (placed : (parsePattern d.buf).search (bitOf (u8 d.raw 21) 0) (u8 d.raw 20)
      (if bitOf (u8 d.raw 21) 1 then [] else s.badEngines) [] = .ok pl) :
    s.patternCheck d =
      let used := (List.range 16).filter fun e => pl.on e != 0
      s.lastStitch d St.OK (used.length + 2 ^ 16 * greatest pl.finish +
        2 ^ 32 * greatest (used.map ((parsePattern d.buf).plannedOn pl))) := by
  unfold State.patternCheck
  rw [if_neg (by simp [level, flags])]
  simp only [faultless, placed]

/-- An answer that is seen as an option and is there is that answer. -/
theorem eq_ok_of_toOption_eq_some {ε α : Type} {x : Except ε α} {a : α} (h : x.toOption = some a) : x = .ok a := by
  cases x with
  | error f => cases h
  | ok b => exact congrArg Except.ok (Option.some.inj h)

end Sys2Proof.Machine
end

section
/-! The statements of Chart. -/
namespace Sys2Proof.Machine

/-- Settles O14: each clause is the rule above of its event, or its event's one condition, which the clause gives. -/
theorem chartEventsComplete : Obligations.ChartEventsComplete := by
  unfold Obligations.ChartEventsComplete
  refine ⟨?replan, ?passes, ?late, ?switch, ?deadline, ?fail, ?back, ?unexclude⟩
  case replan =>
    rintro s _ rfl asked free still awake
    exact exec_chartReplan_of_asked asked free still awake
  case passes =>
    rintro b sh s _ rfl shadow block waiting own due inTime current complete
    rw [exec_shadowDeadlineCheck_of_due shadow block waiting own due]
    exact next_if_neg (by rw [State.shadowMissed, inTime, current, complete]; simp) rfl
  case late =>
    rintro b sh s _ rfl shadow block waiting own due late
    rw [exec_shadowDeadlineCheck_of_due shadow block waiting own due]
    refine next_if_pos ?_ rfl
    rcases late with late | other
    · simp [State.shadowMissed, late]
    · simp [State.shadowMissed, other]
  case switch =>
    rintro b sh s _ rfl shadow block passed next
    exact exec_placementSwitch_of_passed shadow block passed next
  case deadline =>
    exact fun _ _ _ _ _ block pattern placement left due => exec_engineDeadline_of_left block pattern placement left due
  case fail =>
    intro e n s u v known on fails counted shown
    obtain ⟨noShadow, shadow⟩ := State.engineFail_of_on known on fails counted shown
    exact ⟨fun h => congrArg Host.Outcome.next (noShadow h), fun sh h => congrArg Host.Outcome.next (shadow sh h)⟩
  case back => exact fun _ _ known out => next_if_pos (by simp [known, out]) rfl
  case unexclude =>
    intro pid v s
    exact ⟨fun zero => next_if_neg (by simp [zero]) rfl, fun other => next_if_pos (by simp [other]) rfl⟩

/-- Settles O15: the command takes the round's descriptor, and each clause is the rule above of its operation, or its
one condition, which the clause gives. -/
theorem chartOpcodesComplete : Obligations.ChartOpcodesComplete := by
  unfold Obligations.ChartOpcodesComplete
  refine ⟨?read, ?check, ?fault, ?hint⟩
  case read =>
    intro r d s cur
    exact ⟨fun room => next_withOp cur (if_neg (Nat.not_lt.mpr room)), fun short => next_withOp cur (if_pos short)⟩
  case check =>
    rintro r d pl s cur ⟨level, flags⟩ faultless placed
    exact next_withOp cur (State.patternCheck_of_placed level flags faultless (eq_ok_of_toOption_eq_some placed))
  case fault =>
    rintro r d f s cur ⟨level, flags⟩ fault
    exact next_withOp cur (State.patternCheck_of_fault level flags fault)
  case hint =>
    rintro r d s cur room sound
    exact next_withOp cur (if_neg (by simp [room, sound]))

end Sys2Proof.Machine
end

section
/-! The control writes and bus conditions of the CAN controllers (R262, R275, R276): what a write of CTL or TXCTL does
by the bits that the command sets in it. -/
namespace Sys2Proof.Machine

variable {s : State} {n v : Nat}

/-- Setting bit 0 of a number leaves bit 1. -/
theorem bitOf_one_setBit_zero (v : Nat) : bitOf (setBit v 0) 1 = bitOf v 1 := by
  unfold setBit
  split
  · rfl
  · rename_i even
    simp only [bitOf, beq_iff_eq] at even
    have same : (v + 2 ^ 0) / 2 ^ 1 = v / 2 ^ 1 := by omega
    simp only [bitOf, same]

/-- An enable of an enabled controller with fields that break the configuration rules is refused whole. -/
theorem State.canCtlWrite_of_bad (enabled : s.on (F.CAN_CTL_EN n) = true)
    (bad : (s.canCtlFields n (setBit v 31)).canCfgBad n = true) :
    s.canCtlWrite n (setBit v 31) = s.raise (F.CAN_EVT_CFG_BAD n) :=
  (if_neg (by simp [bitOf_setBit])).trans (if_pos (by simp [enabled, bad]))

/-- An enable of a disabled controller stores the fields and turns it on. -/
theorem State.canCtlWrite_of_disabled (disabled : s.on (F.CAN_CTL_EN n) = false) :
    s.canCtlWrite n (setBit v 31) = (s.canCtlFields n (setBit v 31)).canOn n :=
  (if_neg (by simp [bitOf_setBit])).trans (if_neg (by simp [disabled]))

/-- A disable stores the fields and turns the controller off. -/
theorem State.canCtlWrite_clear (s : State) (n v : Nat) :
    s.canCtlWrite n (clearBit v 31) = (s.canCtlFields n (clearBit v 31)).canOff n :=
  if_pos (by simp [bitOf_clearBit])

/-- RECOVER without RELEASE in BUS_OFF starts the recovery. -/
theorem State.txctlWrite_recover (busOff : s.canState n = 3) (noRelease : bitOf v 1 = false) :
    s.txctlWrite n (setBit v 0) = s.setCtl n { s.ctl n with recovering := true } := by
  simp [State.txctlWrite, bitOf_setBit, bitOf_one_setBit_zero, busOff, noRelease]

/-- Settles O16: a command writes its register by the rules above, and each other clause is its event's one condition,
which the clause gives. -/
theorem canControllerCommandsComplete : Obligations.CanControllerCommandsComplete := by
  unfold Obligations.CanControllerCommandsComplete
  refine ⟨?writes, ?control, ?recover, ?exception, ?recovered, ?swapped, ?dominant, ?integrated⟩
  case writes =>
    exact fun _ _ _ there =>
      ⟨next_if_pos there rfl, next_if_pos there rfl, next_if_pos there rfl, next_if_pos there rfl⟩
  case control =>
    intro n v s there
    exact ⟨fun enabled bad => next_if_pos there (State.canCtlWrite_of_bad enabled bad),
      fun disabled => next_if_pos there (State.canCtlWrite_of_disabled disabled),
      next_if_pos there (State.canCtlWrite_clear s n v)⟩
  case recover =>
    exact fun _ _ _ there busOff noRelease => next_if_pos there (State.txctlWrite_recover busOff noRelease)
  case exception => exact fun _ _ _ onBus barred => next_if_pos (by simp [onBus, barred]) rfl
  case recovered => exact fun _ _ busOff recovering => next_if_pos ⟨busOff, recovering⟩ rfl
  case swapped => exact fun _ _ inner onBus idle straight => next_if_pos (by simp [inner, onBus, idle, straight]) rfl
  case dominant => exact fun _ _ inner sending => next_if_pos ⟨inner, sending⟩ rfl
  case integrated => exact fun _ _ there on awake waiting => next_if_pos ⟨there, on, awake, waiting⟩ rfl

end Sys2Proof.Machine
end

section
/-! The frame events of the CAN controllers (R265, R272, R273, R275): what becomes of the frame on the bus. -/
namespace Sys2Proof.Machine

variable {s : State} {n q : Nat} {x : CanTx}

/-- A start opportunity of a controller that may send and has no frame on the bus takes the winning queue's head. -/
theorem exec_canTxStart_of_best (onBus : s.onBus n = true) (sends : s.listens n = false)
    (noSwitch : s.pai.sw.isSome = false) (notHeld : s.canHeld n = false) (idle : (s.ctl n).cur = none)
    (best : (s.ctl n).best = some q) :
    exec (.canTxStart n) s =
      .next (s.setCtl n { s.ctl n with cur := some q, curAt := s.now, curTs := s.canTs n s.timNow }) := by
  show execCanTxStart n s = _
  simp only [execCanTxStart, best]
  exact next_if_neg (by simp [onBus, sends, noSwitch, notHeld, idle]) rfl

/-- The frame on the bus, with one more loss counted, is back at its queue's head. -/
def State.arbLost (s : State) (n q : Nat) (x : CanTx) : State :=
  ((s.count (C.CAN_ARB_LOST n)).idleTx n).setHead n q { x with losses := x.losses + 1 }

/-- A frame that loses arbitration on an enabled controller counts the loss; then its cancel is looked at, and then
ARB_LIMIT. -/
theorem exec_canArbLost_of_onWire (wire : s.onWire n = some (q, x)) (enabled : (s.ctl n).last = false) :
    exec (.canArbLost n) s = .next (
      let u := s.arbLost n q x
      let lim := u.get (F.CAN_LIMITS_ARB_LIMIT n)
      if u.txCancelled { x with losses := x.losses + 1 } then u.popTx n q St.CANCELLED (s.ctl n).curTs false
      else if lim ≠ 0 ∧ lim ≤ x.losses + 1 then u.txAbandon n q (s.ctl n).curTs true
      else u) := by
  show execCanArbLost n s = _
  simp only [execCanArbLost, wire, enabled, Bool.false_eq_true, if_false]
  rfl

/-- A frame sent by a transmitter that is not released leaves its queue. -/
theorem exec_canTxDone_of_onWire (wire : s.onWire n = some (q, x)) (driven : (s.ctl n).released = false) :
    exec (.canTxDone n) s = .next (s.canSent n q x) := by
  show execCanTxDone n s = _
  simp only [execCanTxDone, wire]
  exact next_if_neg (by simp [driven]) rfl

/-- An attempt of an enabled controller that ends in an error is counted as failed. -/
theorem exec_canTxError_of_onWire (e : CanErr) (wire : s.onWire n = some (q, x)) (enabled : (s.ctl n).last = false) :
    exec (.canTxError n e) s = .next (s.canFailed n q x e) := by
  show execCanTxError n e s = _
  simp only [execCanTxError, wire]
  exact next_if_neg (by simp [enabled]) rfl

/-- Settles O17: a frame on the bus ends by the rules above; a frame or an error that a controller receives is looked at
where the controller is on its bus and not in loopback. -/
theorem canFrameEventsComplete : Obligations.CanFrameEventsComplete := by
  unfold Obligations.CanFrameEventsComplete
  refine ⟨?received, ?start, ?arbLost, ?done, ?txError, ?rxError⟩
  case received =>
    intro n ago f s onBus mode taken
    exact next_if_neg (by simp [onBus, mode]) (if_neg (by simp [taken]))
  case start =>
    exact fun _ _ _ onBus sends noSwitch notHeld idle best =>
      exec_canTxStart_of_best onBus sends noSwitch notHeld idle best
  case arbLost =>
    rintro n q x s _ wire enabled rfl
    rw [exec_canArbLost_of_onWire wire enabled]
    refine ⟨fun cancelled => next_if_pos cancelled rfl, fun kept => ⟨fun below => ?below, fun least most => ?limit⟩⟩
    case below =>
      exact next_if_neg (Bool.eq_false_iff.mp kept) (if_neg fun ⟨least, most⟩ => below.elim least (Nat.not_lt.mpr most))
    case limit => exact next_if_neg (Bool.eq_false_iff.mp kept) (if_pos ⟨least, most⟩)
  case done => exact fun _ _ _ _ wire driven => exec_canTxDone_of_onWire wire driven
  case txError => exact fun _ _ _ e _ wire enabled => exec_canTxError_of_onWire e wire enabled
  case rxError =>
    rintro n e s _ onBus mode rfl
    exact next_if_neg (by simp [onBus, mode]) rfl

end Sys2Proof.Machine
end

section
/-! The CAN opcodes (R266, R270, R271, R282): what each does with the descriptor it finds, for a controller and a queue
that exist. -/
namespace Sys2Proof.Machine

variable {s : State} {d : Desc} {n q : Nat}

/-- TX_SEND by a partition that TX_MASK does not name is not permitted. -/
theorem State.txSend_of_stranger (controller : u8 d.raw 20 = n) (queue : u8 d.raw 21 = q) (there : n ≤ 11 ∧ q ≤ 3)
    (stranger : s.bit (F.CAN_TX_MASK_MASK n) (s.dPid d) = false) : s.txSend d = s.finish d St.NOTPERMIT 0 := by
  subst controller queue
  exact (if_neg (by omega)).trans (if_pos (by simp [stranger]))

/-- TX_SEND by a partition of TX_MASK looks at the frame, then at the controller's state, then at the queue's room. -/
theorem State.txSend_of_member (controller : u8 d.raw 20 = n) (queue : u8 d.raw 21 = q) (there : n ≤ 11 ∧ q ≤ 3)
    (member : s.bit (F.CAN_TX_MASK_MASK n) (s.dPid d) = true) :
    s.txSend d =
      if s.txBad d then s.finish d St.BADARG 0
      else if s.canState n = 0 ∨ s.listens n then s.finish d St.NOT_RUNNING 0
      else if s.canState n = 3 ∧ s.on (F.CAN_CTL_BUSOFF_FLUSH n) then s.finish d St.BUS_OFF 0
      else if s.txFull n q then s
      else (s.placeTx n q ⟨txFrame d, 0, 0, some (d.round, d.slot)⟩).hold d := by
  subst controller queue
  exact (if_neg (by omega)).trans (if_neg (by simp [member]))

/-- A sound frame for a running controller, whose queue has room, is queued, and its descriptor waits. -/
theorem State.txSend_of_room (controller : u8 d.raw 20 = n) (queue : u8 d.raw 21 = q) (there : n ≤ 11 ∧ q ≤ 3)
    (member : s.bit (F.CAN_TX_MASK_MASK n) (s.dPid d) = true) (sound : s.txBad d = false)
    (runs : s.canState n = 1 ∨ s.canState n = 2) (sends : s.listens n = false) (room : s.txFull n q = false) :
    s.txSend d = (s.placeTx n q ⟨txFrame d, 0, 0, some (d.round, d.slot)⟩).hold d := by
  have notOff : s.canState n ≠ 0 := by omega
  have notBusOff : s.canState n ≠ 3 := by omega
  simp [State.txSend_of_member controller queue there member, sound, notOff, notBusOff, sends, room]

/-- The state and the status after RX_READ has stored the bytes `b`; no bytes need no write. -/
def State.rxStore (s : State) (d : Desc) (b : Bytes) : State × Nat :=
  if b.isEmpty then (s, St.OK) else s.fabWrite (.round d.round) d.addr b

theorem State.rxStore_state (s : State) (d : Desc) (b : Bytes) :
    (s.rxStore d b).1 = if b.isEmpty then s else (s.fabWrite (.round d.round) d.addr b).1 :=
  apply_ite Prod.fst _ _ _

/-- The store succeeds where there are no bytes or their write does. -/
theorem State.rxStore_ok {b : Bytes} (h : b = [] ∨ (s.fabWrite (.round d.round) d.addr b).2 = St.OK) :
    (s.rxStore d b).2 = St.OK := by
  rw [State.rxStore, apply_ite Prod.snd]
  split
  · rfl
  · next bytes => exact h.resolve_left fun none => bytes (List.isEmpty_iff.mpr none)

/-- RX_READ by a partition of RX_MASK removes the records that fit, once their store has succeeded. -/
theorem State.rxRead_of_stored {t : List Bytes} (controller : u8 d.raw 20 = n) (queue : u8 d.raw 21 = q)
    (there : n ≤ 11 ∧ q ≤ 7) (member : s.bit (F.CAN_RX_MASK_MASK n) (s.dPid d) = true)
    (fit : t = takeFit d.len ((s.ctl n).rxQ q)) (stored : (s.rxStore d t.flatten).2 = St.OK) :
    s.rxRead d =
      let u := (s.rxStore d t.flatten).1
      let left := ((s.ctl n).rxQ q).drop t.length
      (u.setCtl n { u.ctl n with rxq := setAt (u.ctl n).rxq q left }).finish d St.OK
        (t.flatten.length + 2 ^ 32 * t.length + 2 ^ 48 * left.length) := by
  subst controller queue fit
  exact (if_neg (by omega)).trans ((if_neg (by simp [member])).trans (if_neg fun failed => failed stored))

/-- FILTER_LOAD of lists within their limits and without a refused record replaces the controller's filters. -/
theorem State.filterLoad_of_sound {a b c : Nat} (controller : u8 d.raw 20 = n) (there : n ≤ 11)
    (member : s.bit (F.CAN_RX_MASK_MASK n) (s.dPid d) = true)
    (ranges : u16 d.raw 22 = a) (duals : u16 d.raw 24 = b) (masks : u16 d.raw 26 = c)
    (sizes : a ≤ 256 ∧ b ≤ 256 ∧ c ≤ 128) (rest : u8 d.raw 28 ≤ 1 ∧ u8 d.raw 29 ≤ 7) (len : d.len = 16 * (a + b + c))
    (rangesOk : firstFilterBad n 0 0 (rec16 a d.buf) = none)
    (dualsOk : firstFilterBad n 1 0 (rec16 b (d.buf.drop (16 * a))) = none)
    (masksOk : firstFilterBad n 2 0 (rec16 c (d.buf.drop (16 * (a + b)))) = none) :
    s.filterLoad d = (s.setCtl n { s.ctl n with filt := ⟨rec16 a d.buf, rec16 b (d.buf.drop (16 * a)),
      rec16 c (d.buf.drop (16 * (a + b))), u8 d.raw 28 == 1, u8 d.raw 29⟩ }).finish d St.OK 0 := by
  subst controller ranges duals masks
  refine (if_neg (by omega)).trans ((if_neg (by simp [member])).trans ((if_neg (by omega)).trans ?_))
  simp only [rangesOk, dualsOk, masksOk]

/-- Settles O18: the command takes the round's descriptor, and each clause is the rule above of its operation. -/
theorem canOpcodesComplete : Obligations.CanOpcodesComplete := by
  unfold Obligations.CanOpcodesComplete
  refine ⟨?queued, ?refused, ?read, ?filters⟩
  case queued =>
    rintro r n q d s cur ⟨controller, queue, there⟩ member sound runs sends room
    exact next_withOp cur (State.txSend_of_room controller queue there member sound runs sends room)
  case refused =>
    rintro r n q d s cur ⟨controller, queue, there⟩
    refine ⟨fun stranger => next_withOp cur (State.txSend_of_stranger controller queue there stranger),
      fun member bad => next_withOp cur ?bad, fun member sound off => next_withOp cur ?off⟩
    case bad => exact (State.txSend_of_member controller queue there member).trans (if_pos bad)
    case off => simp [State.txSend_of_member controller queue there member, sound, off]
  case read =>
    rintro r n q t d s cur ⟨controller, queue, there⟩ member fit stored
    rw [← State.rxStore_state]
    exact next_withOp cur (State.rxRead_of_stored controller queue there member fit (State.rxStore_ok stored))
  case filters =>
    rintro r n a b c d s cur ⟨controller, there⟩ member ⟨ranges, duals, masks, sizes⟩ ⟨queueRest, restQ, len⟩
      rangesOk dualsOk masksOk
    exact next_withOp cur (State.filterLoad_of_sound controller there member ranges duals masks sizes
      ⟨queueRest, restQ⟩ len rangesOk dualsOk masksOk)

end Sys2Proof.Machine
end

section
/-! The gateway's events (R285, R289, R291, R294 to R296): what each does once it is due. -/
namespace Sys2Proof.Machine

variable {s : State} {r k t : Nat}

/-- The oldest frame at port W is taken apart under its stream's handle, or under 1024, which no stream has. -/
theorem exec_gatewayEthFrame_of_cons {h : Option Nat} {b : Bytes} {l : List (Option Nat × Bytes)}
    (waiting : s.swc.wIn = (h, b) :: l) :
    exec .gatewayEthFrame s = .next ((s.onSwc fun w => { w with wIn := l }).gwEthFrame (h.getD 1024) b) := by
  show execGatewayEthFrame s = _
  simp only [execGatewayEthFrame, waiting]

/-- A held frame that the refilled buckets allow leaves its rule and is sent. -/
theorem State.gwRelease_of_eligible {h : GwFrame} (held : ((s.gwRefill r).gwRule r).held = some h)
    (eligible : (s.gwRefill r).gwEligible r h.f.data.length = true) :
    s.gwRelease r =
      ((s.gwRefill r).setGwRule r { (s.gwRefill r).gwRule r with held := none }).gwSend r h := by
  simp only [State.gwRelease, held]
  exact if_pos eligible

/-- The oldest started GW_RECV of a round ends once it has records and HOLD_US have passed since the first. -/
theorem exec_gwRecvHoldTimeout_of_due {d : Desc} {l : List Desc} (oldest : s.gwRecvs r = d :: l)
    (records : d.acc ≠ 0) (due : storeGet cntDefault s.gwy.recvAt (recvKey d) + 1000 * u32 d.raw 20 ≤ s.now) :
    exec (.gwRecvHoldTimeout r) s = .next (s.recvEnd d) := by
  show execGwRecvHoldTimeout r s = _
  simp only [execGwRecvHoldTimeout, oldest]
  exact next_if_pos (by simp [records, due]) rfl

/-- Settles O19: each clause is the event's rule above, or the event's one condition, which the clause gives. -/
theorem gatewayEventsComplete : Obligations.GatewayEventsComplete := by
  unfold Obligations.GatewayEventsComplete
  refine ⟨?arrival, ?release, ?mapping, ?periodic, ?batch, ?receive⟩
  case arrival => exact fun _ _ _ _ waiting => exec_gatewayEthFrame_of_cons waiting
  case release =>
    rintro r h s _ rfl held eligible
    exact congrArg Host.Outcome.next (State.gwRelease_of_eligible held eligible)
  case mapping =>
    rintro k _ s rfl loaded running timed due
    exact next_if_pos (by simp [loaded, running, timed, due]) rfl
  case periodic =>
    rintro k _ s rfl periodic due
    exact next_if_pos (by simp [periodic, due]) rfl
  case batch => exact fun _ _ collected due => next_if_pos (by simp [collected, due]) rfl
  case receive => exact fun _ _ _ _ oldest records due => exec_gwRecvHoldTimeout_of_due oldest records due

end Sys2Proof.Machine
end

section
/-! The gateway's opcodes (R284, R289, R291, R293, R294, R300, R306, R533): what each does with the descriptor
it finds. -/
namespace Sys2Proof.Machine

variable {s : State} {d : Desc}

/-- A partition that CFG_MASK names may configure the gateway. -/
theorem State.gwCfg_of_member {k : State} (member : s.bit F.GWY_CFG_MASK_MASK (s.dPid d) = true) :
    s.gwCfg d k = k :=
  if_pos member

/-- A partition that CFG_MASK does not name is not permitted to configure the gateway. -/
theorem State.gwCfg_of_stranger {k : State} (stranger : s.bit F.GWY_CFG_MASK_MASK (s.dPid d) = false) :
    s.gwCfg d k = s.finish d St.NOTPERMIT 0 :=
  if_neg (by simp [stranger])

/-- RULE_SET of a well-formed rule that duplicates none and whose keys are there stores it with full buckets. -/
theorem State.ruleSet_of_sound {v : GwRule} (member : s.bit F.GWY_CFG_MASK_MASK (s.dPid d) = true)
    (record : v = { gwRuleDefault 0 with raw := d.buf, last := s.now }) (rule : u16 d.raw 20 ≤ 2047) (len : d.len = 64)
    (sound : v.bad = false) (single : s.gwDup (u16 d.raw 20) v = false) (keys : s.gwNoKey v = false) :
    s.ruleSet d =
      (s.setGwRule (u16 d.raw 20) { v with ftok := 10 ^ 9 * v.fburst, btok := 10 ^ 9 * v.bburst }).finish d St.OK 0 := by
  subst record
  exact (State.gwCfg_of_member member).trans ((if_neg (by simp [rule, len, sound])).trans
    ((if_neg (by simp [single])).trans (if_neg (by simp [keys]))))

/-- MAP_LOAD of well-formed mappings within the table does its next stitch. -/
theorem State.mapLoad_of_sound (member : s.bit F.GWY_CFG_MASK_MASK (s.dPid d) = true) (nonempty : 0 < u16 d.raw 22)
    (fits : u16 d.raw 20 + u16 d.raw 22 ≤ 4096) (len : d.len = 24 * u16 d.raw 22)
    (sound : ((List.range (u16 d.raw 22)).any fun i => GwMap.bad ⟨slice d.buf (24 * i) 24, 0, false⟩) = false) :
    s.mapLoad d = s.mapStitch d :=
  (State.gwCfg_of_member member).trans (if_neg (by rw [sound]; simp [Nat.ne_of_gt nonempty, fits, len]))

/-- PDU_SET of 1 to 64 bytes, with a period where its mode sends periodically, stores the PDU and its first time. -/
theorem State.pduSet_of_sound (member : s.bit F.GWY_CFG_MASK_MASK (s.dPid d) = true) (pdu : u16 d.raw 20 ≤ 511)
    (least : 0 < u8 d.raw 22) (most : u8 d.raw 22 ≤ 64) (mode : u8 d.raw 23 ≤ 3) (len : d.len = u8 d.raw 22)
    (period : bitOf (u8 d.raw 23) 1 = false ∨ 0 < u16 d.raw 24) :
    s.pduSet d = (s.setGwPdu (u16 d.raw 20) ⟨d.buf, u8 d.raw 23, u16 d.raw 24,
      s.now + 1000000 * u16 d.raw 24⟩).finish d St.OK s.timNow := by
  have sends : bitOf (u8 d.raw 23) 1 = true → u16 d.raw 24 ≠ 0 := fun periodic =>
    Nat.ne_of_gt (period.resolve_left (by simp [periodic]))
  exact (State.gwCfg_of_member member).trans (if_neg (by simpa [pdu, Nat.ne_of_gt least, most, mode, len] using sends))

/-- TEMPLATE_SET within its limits sends what has collected, then stores the header and the limits. -/
theorem State.templateSet_of_sound (member : s.bit F.GWY_CFG_MASK_MASK (s.dPid d) = true) (template : u8 d.raw 20 ≤ 63)
    (least : 0 < u8 d.raw 21) (most : u8 d.raw 21 ≤ 64) (len : d.len = u8 d.raw 21) (batch : u16 d.raw 22 ≤ 1000)
    (room : 20 ≤ u16 d.raw 24) (limit : u16 d.raw 24 ≤ 1480) :
    s.templateSet d =
      let u := s.gwFlush (u8 d.raw 20)
      (u.setGwTmpl (u8 d.raw 20) { u.gwTmpl (u8 d.raw 20) with
        hdr := d.buf, batch := u16 d.raw 22, maxData := u16 d.raw 24 }).finish d St.OK 0 :=
  (State.gwCfg_of_member member).trans (if_neg (by simp [template, Nat.ne_of_gt least, most, len, batch, room, limit]))

/-- FRESH_SET of a freshness counter that exists looks at its last value, below which it does not fall. -/
theorem State.freshSet_of_member (member : s.bit F.GWY_CFG_MASK_MASK (s.dPid d) = true)
    (counter : u16 d.raw 20 ≤ 511) :
    s.freshSet d =
      match s.gwFresh (u16 d.raw 20) with
      | none => (s.setGwFresh (u16 d.raw 20) (some (u32 d.raw 24))).finish d St.OK 0
      | some o =>
        if u32 d.raw 24 < o then s.finish d St.FRESH_LOW 0
        else (s.setGwFresh (u16 d.raw 20) (some (u32 d.raw 24))).finish d St.OK o :=
  (State.gwCfg_of_member member).trans (if_neg (Nat.not_lt.mpr counter))

/-- RULE_READ of a rule's counters into a buffer with room returns and clears them. -/
theorem State.ruleRead_of_room (rule : u16 d.raw 20 ≤ 2047) (room : 32 ≤ d.len) :
    s.ruleRead d =
      (s.setGwRule (u16 d.raw 20) { s.gwRule (u16 d.raw 20) with cnt := [0, 0, 0, 0] }).finishBuf d 0
        ((s.gwRule (u16 d.raw 20)).cnt.flatMap (leBytes 8)) St.OK 32 :=
  if_neg (by simp [rule, room])

/-- Settles O20: the command takes the round's descriptor, and each clause is the rule above of its operation; a
configuring one asks CFG_MASK first. -/
theorem gatewayOpcodesComplete : Obligations.GatewayOpcodesComplete := by
  unfold Obligations.GatewayOpcodesComplete
  refine ⟨?rule, ?maps, ?pdu, ?template, ?fresh, ?receive, ?read, ?stranger⟩
  case rule =>
    rintro r _ d v s cur member record ⟨rfl, rule, len⟩ sound single keys
    exact next_withOp cur (State.ruleSet_of_sound member record rule len sound single keys)
  case maps =>
    rintro r d s cur member ⟨nonempty, fits, len⟩ sound
    exact next_withOp cur (State.mapLoad_of_sound member nonempty fits len sound)
  case pdu =>
    rintro r _ _ _ _ d s cur member ⟨rfl, rfl, rfl, rfl⟩ ⟨pdu, least, most, mode, len⟩ period
    exact next_withOp cur (State.pduSet_of_sound member pdu least most mode len period)
  case template =>
    rintro r _ d s cur member ⟨rfl, template, least, most, len⟩ ⟨batch, room, limit⟩
    exact next_withOp cur (State.templateSet_of_sound member template least most len batch room limit)
  case fresh =>
    rintro r _ _ d s cur member ⟨rfl, counter, rfl⟩
    have set := State.freshSet_of_member member counter
    refine ⟨fun unset => next_withOp cur ?unset, fun o last rises => next_withOp cur ?rises,
      fun o last falls => next_withOp cur ?falls⟩
    case unset => simp only [set, unset]
    case rises => simp only [set, last, if_neg (Nat.not_lt.mpr rises)]
    case falls => simp only [set, last, if_pos falls]
  case receive =>
    exact fun _ _ _ cur => ⟨fun most => next_withOp cur (if_neg (Nat.not_lt.mpr most)),
      fun beyond => next_withOp cur (if_pos beyond)⟩
  case read =>
    rintro r d s cur ⟨rule, room⟩
    exact next_withOp cur (State.ruleRead_of_room rule room)
  case stranger =>
    intro r d s stranger
    refine ⟨?_, ?_, ?_, ?_, ?_⟩ <;> exact fun cur => next_withOp cur (State.gwCfg_of_stranger stranger)

end Sys2Proof.Machine
end

section
/-! Sleep and its end (R307, R315, R317, R320 to R323): SLEEP, the drain's end, and what a wake does in each state. -/
namespace Sys2Proof.Machine

variable {s : State} {d : Desc} {src mode : Nat}

/-- SLEEP by an allowed partition in RUN with an armed source starts. -/
theorem State.sleepOp_of_armed (may : s.wakMay (s.dPid d) = true) (asked : u8 d.raw 20 = mode) (isMode : mode ≤ 1)
    (runs : s.modState = Mod.RUN) (armed : (List.range 29).any (s.windowsEnd.armed mode) = true) :
    s.sleepOp d = s.windowsEnd.sleepStart d mode := by
  subst asked
  exact (if_neg (by simp [may])).trans ((if_neg (Nat.not_lt.mpr isMode)).trans ((if_neg (not_not.mpr runs)).trans
    (if_pos armed)))

/-- Recording a wake changes no power. -/
@[simp] theorem State.recordWake_pow (s : State) (src : Nat) (after doze : Bool) :
    (s.recordWake src after doze).pow = s.pow :=
  (State.recordWake_keeps (sub_of rfl) (Keeps.refl 4099 s)).pow rfl

/-- ENTERING and DOZE are different states. -/
theorem Mod.doze_ne_entering : Mod.DOZE ≠ Mod.ENTERING := by decide

/-- An event of a source in back-off is counted only. -/
theorem State.wakeEvent_of_backoff (known : src < 29) (vaon : s.wak.vaon = true) (backoff : s.inBackoff src = true) :
    s.wakeEvent src = s.count (C.WAK_SUPPRESSED src) :=
  (if_neg (by simp [Nat.not_le.mpr known, vaon])).trans (if_pos backoff)

/-- Outside a sleep an enabled source's event is pending. -/
theorem State.wakeEvent_of_awake (known : src < 29) (vaon : s.wak.vaon = true) (heard : s.inBackoff src = false)
    (awake : s.wak.live = false) (enabled : s.bit F.WAK_SRC_EN_SRC src = true) :
    s.wakeEvent src = (s.set1 F.WAK_PEND_SRC src).wakRaise F.WAK_EVT_SRC_EVENT := by
  unfold State.wakeEvent
  rw [if_neg (by simp [Nat.not_le.mpr known, vaon]), if_neg (by simp [heard]), if_neg (by simp [awake]),
    if_pos (by simp [enabled])]

/-- The wake of an armed source while the module enters sleep or dozes is recorded, and its source is among those that
woke the module. -/
def State.wakeRecorded (s : State) (src : Nat) : State :=
  (s.recordWake src false (s.modState == Mod.DOZE)).onWak fun w =>
    { w with woken := if w.woken.contains src then w.woken else w.woken ++ [src] }

/-- Before the commit the wake of an armed source aborts an entry and ends a doze. -/
theorem State.wakeEvent_of_armed (known : src < 29) (vaon : s.wak.vaon = true) (heard : s.inBackoff src = false)
    (live : s.wak.live = true) (uncommitted : s.wak.asleep = false) (power : s.pow.logic = true)
    (armed : s.armed s.wak.mode src = true) :
    (s.modState = Mod.ENTERING → s.wakeEvent src = (s.wakeRecorded src).sleepAbort src) ∧
    (s.modState = Mod.DOZE → s.wakeEvent src = (s.wakeRecorded src).dozeWake) := by
  unfold State.wakeEvent
  rw [if_neg (by simp [Nat.not_le.mpr known, vaon]), if_neg (by simp [heard]), if_pos live,
    if_neg (by simp [uncommitted]), if_neg (by simp [armed])]
  simp only [State.recordWake_pow, power, Bool.not_true, Bool.true_and, Bool.false_eq_true, if_false]
  exact ⟨fun entering => if_pos entering,
    fun dozes => (if_neg fun entering => Mod.doze_ne_entering (dozes.symm.trans entering)).trans (if_pos dozes)⟩

end Sys2Proof.Machine
end

section
/-! Wakes by the timer and by transceivers (R310, R312, R316, R323), windows (R318), back-off (R319) and VAON (R307, R308,
R511), with the wake function's commands together. -/
namespace Sys2Proof.Machine

variable {s : State} {n src : Nat}

/-- WAK_TIMER ms after it was started the timer wakes as source 26. -/
theorem exec_wakeTimerExpiry_of_due {t : Nat} (runs : s.wak.timerAt = some t) (set : s.get F.WAK_TIMER_MS ≠ 0)
    (due : 1000000 * s.get F.WAK_TIMER_MS ≤ s.rcNs (s.now - t)) :
    exec .wakeTimerExpiry s = .next ((s.onWak fun w => { w with timerAt := none }).wakeEvent 26) := by
  show execWakeTimerExpiry s = _
  simp only [execWakeTimerExpiry, runs]
  exact next_if_neg (by simp [set, due]) rfl

/-- A window that has reached its end ends. -/
theorem exec_wakeValidityEnd_of_due {x : Nat × WakeWin} (isOpen : (s.wak.windows.find? fun x => x.1 == src) = some x)
    (due : x.2.ends ≤ s.aonNs) : exec (.wakeValidityEnd src) s = .next (State.windowEnd x s) := by
  show execWakeValidityEnd src s = _
  simp only [execWakeValidityEnd, isOpen]
  exact next_if_pos due rfl

/-- A sleeping transceiver hears a sign. -/
theorem State.trcvSign_of_sleeping (sign : TrcvSign) (known : n < 8) (vaon : s.wak.vaon = true) (sleeps : 2 ≤ s.trcv n) :
    s.trcvSign n sign =
      match sign with
      | .pattern => if s.decodes n then s else s.trcvWoke n false
      | .frame f err => if s.decodes n then s.trcvFrame n f err else s := by
  refine (if_neg (by simp [Nat.not_le.mpr known, vaon, Nat.not_lt.mpr sleeps])).trans ?_
  cases sign <;> rfl

/-- Settles O21: SLEEP takes the round's descriptor; each other clause is the rule above of its event, or its command's
one condition, which the clause gives. -/
theorem wakeCommandsComplete : Obligations.WakeCommandsComplete := by
  unfold Obligations.WakeCommandsComplete
  refine ⟨?sleep, ?refused, ?drained, ?drainTimeout, ?suppressed, ?pending, ?wakes, ?timer, ?offWait, ?trcvWrite,
    ?trcvWake, ?window, ?confirm, ?stranger, ?backoffEnd, ?rise, ?loss⟩
  case sleep =>
    rintro r mode d s cur may ⟨asked, isMode⟩ runs armed
    exact next_withOp cur (State.sleepOp_of_armed may asked isMode runs armed)
  case refused =>
    intro r d s cur
    refine ⟨fun stranger => next_withOp cur (if_pos (by simp [stranger])), fun may beyond => next_withOp cur ?_,
      fun may isMode notRun => next_withOp cur ?_⟩
    · exact (if_neg (by simp [may])).trans (if_pos beyond)
    · exact (if_neg (by simp [may])).trans ((if_neg (Nat.not_lt.mpr isMode)).trans (if_pos notRun))
  case drained => exact fun _ entering uncommitted drained => next_if_pos ⟨entering, by simp [uncommitted], drained⟩ rfl
  case drainTimeout =>
    intro s entering uncommitted due busy
    exact next_if_neg (by simp [entering, uncommitted, due]) (if_neg (by simp [busy]))
  case suppressed =>
    exact fun _ _ known vaon backoff => congrArg Host.Outcome.next (State.wakeEvent_of_backoff known vaon backoff)
  case pending =>
    exact fun _ _ known vaon heard awake enabled =>
      congrArg Host.Outcome.next (State.wakeEvent_of_awake known vaon heard awake enabled)
  case wakes =>
    rintro src s _ known vaon heard live uncommitted power armed rfl
    obtain ⟨entering, dozes⟩ := State.wakeEvent_of_armed known vaon heard live uncommitted power armed
    exact ⟨fun h => congrArg Host.Outcome.next (entering h), fun h => congrArg Host.Outcome.next (dozes h)⟩
  case timer => exact fun _ _ runs set due => exec_wakeTimerExpiry_of_due runs set due
  case offWait => exact fun _ asleep caused due => next_if_pos (by simp [asleep, caused, due]) rfl
  case trcvWrite => exact fun _ _ _ _ known may => next_if_pos known (if_pos may)
  case trcvWake =>
    intro n s known vaon sleeps
    refine ⟨fun deaf => congrArg Host.Outcome.next ?_, fun f err decodes => congrArg Host.Outcome.next ?_⟩
    · exact (State.trcvSign_of_sleeping .pattern known vaon sleeps).trans (if_neg (by simp [deaf]))
    · exact (State.trcvSign_of_sleeping (.frame f err) known vaon sleeps).trans (if_pos decodes)
  case window => exact fun _ _ _ isOpen due => exec_wakeValidityEnd_of_due isOpen due
  case confirm => exact fun _ _ _ may => ⟨next_if_pos may rfl, next_if_pos may rfl⟩
  case stranger =>
    intro pid v s stranger
    have no : ¬s.wakMay pid = true := by simp [stranger]
    refine ⟨next_if_neg no rfl, next_if_neg no rfl, fun n => congrArg Host.Outcome.next ?_⟩
    split
    · exact if_neg no
    · rfl
  case backoffEnd => exact fun _ _ known due backoff => next_if_pos ⟨known, due⟩ (if_pos backoff)
  case rise => exact fun _ lost => next_if_neg (by simp [lost]) rfl
  case loss => exact fun _ vaon => next_if_neg (by simp [vaon]) rfl

end Sys2Proof.Machine
end

section
/-! CH_SET (R336, R348 to R350, R383): what it does for a leader, a command and a duty in range. -/
namespace Sys2Proof.Machine

variable {s : State} {d : Desc} {n cmd duty : Nat}

/-- CH_SET by a partition of CFG_MASK of a leader, a command and a duty in range looks at the pair term, at the die, at
the channel's service and at the energy it takes. -/
theorem State.chSet_of_member (member : s.ldcMay d = true) (channel : u8 d.raw 20 = n) (command : u8 d.raw 21 = cmd)
    (wanted : u16 d.raw 22 = duty) (leads : s.isLeader n = true) (isCommand : cmd ≤ 2) (most : duty ≤ 4095) :
    s.chSet d =
      if s.on F.PAI_CTL_EN = false ∧ u32 d.raw 24 ≠ 0 then s.finish d St.BADARG 0
      else if s.on F.PAI_CTL_EN = true ∧ u32 d.raw 24 ≠ s.get F.PAI_TERM_TERM then s.finish d St.TERM 0
      else if s.dieThere (n / 8) = false ∨ (s.ldcBank (n / 8)).castOff = true then
        s.finish d St.CAST_OFF (s.chState n + 2 ^ 32 * s.get F.TIM_NOW_NOW)
      else if s.chState n = Ch.HELD then s.finish d St.NOTPERMIT (s.chState n + 2 ^ 32 * s.get F.TIM_NOW_NOW)
      else if 0 < s.setDelta n cmd duty ∧ s.affords (s.setDelta n cmd duty) s.floorPj = false then s.energyRefuse d
      else ((s.recordCmd n cmd duty).obeyCmd n).finish d
        (setStatus (((s.recordCmd n cmd duty).obeyCmd n).chState n) cmd)
        (((s.recordCmd n cmd duty).obeyCmd n).chState n +
          2 ^ 32 * ((s.recordCmd n cmd duty).obeyCmd n).get F.TIM_NOW_NOW) := by
  subst channel command wanted
  simp [State.chSet, member, leads, Nat.not_lt.mpr isCommand, Nat.not_lt.mpr most]

/-- Settles O54: with sound arguments CH_SET looks at the pair term first. -/
theorem channelCommandCarriesTheTerm : Obligations.ChannelCommandCarriesTheTerm := by
  unfold Obligations.ChannelCommandCarriesTheTerm
  rintro r n d s cur member ⟨channel, leads⟩ ⟨isCommand, most⟩
  have set := State.chSet_of_member member channel rfl rfl leads isCommand most
  refine ⟨fun enabled wrong => next_withOp cur ?enabled, fun disabled given => next_withOp cur ?disabled⟩
  case enabled => rw [set, if_neg (by simp [enabled]), if_pos ⟨enabled, wrong⟩]
  case disabled => rw [set, if_pos ⟨disabled, given⟩]

end Sys2Proof.Machine
end

section
/-! The other opcodes of the load channels (R341, R348, R353, R354): what each does with sound arguments. -/
namespace Sys2Proof.Machine

variable {s : State} {d : Desc} {n b m : Nat}

/-- CH_CONFIG of a record in range, which makes no bad group, to a channel that is OFF takes force. -/
theorem State.chConfig_of_sound (member : s.ldcMay d = true) (channel : u8 d.raw 20 = n) (there : n < 32)
    (len : d.len = 32) (sound : cfgOk d.buf = true)
    (groups : joinBad (fun m => if m = n then cfgJoin d.buf else cfgJoin (s.cfg m)) (n / 8) = false)
    (die : s.dieThere (n / 8) = true) (off : s.chState n = Ch.OFF) :
    s.chConfig d = (s.configure n d.buf).finish d St.OK 0 := by
  subst channel
  exact (if_neg (by simp [member])).trans ((if_neg (by simp only [len, sound, groups]; simpa using there)).trans
    ((if_neg (by simp [die])).trans (if_neg (not_not.mpr off))))

/-- LATCH_CLR with the bit of the leader's latch frees it: it is OFF, or shed again. -/
theorem State.latchClr_of_latched (member : s.ldcMay d = true) (channel : u8 d.raw 20 = n) (mask : u8 d.raw 21 = m)
    (isMask : m < 4) (leads : s.isLeader n = true) (die : s.dieThere (n / 8) = true)
    (latched : (s.chState n = Ch.LATCH_THERM ∧ bitOf m 0 = true) ∨ (s.chState n = Ch.LATCH_RETRY ∧ bitOf m 1 = true)) :
    s.latchClr d =
      let t := State.shedCh n (((s.toState n Ch.OFF).put (F.LDC_L_STAT_RETRY_LEFT n) (cfgRetryN (s.cfg n))).put
        (F.LDC_L_STAT_THERM_CNT n) 0)
      t.finish d St.OK (t.chState n) := by
  subst channel mask
  unfold State.latchClr
  simp only [if_pos latched]
  exact (if_neg (by simp [member])).trans ((if_neg (by simp [leads, isMask])).trans (if_neg (by simp [die])))

/-- The first stitch of CO_STORE sends the commit to a die that LDC reaches and that has no HELD channel. -/
theorem State.coStore_of_start (start : d.prog = 0) (member : s.ldcMay d = true) (bank : u8 d.raw 20 = b) (there : b < 4)
    (die : s.dieThere b = true) (noneHeld : ((chansOf b).any fun n => s.chState n == Ch.HELD) = false) :
    s.coStore d =
      (s.setBank b { s.ldcBank b with commit := some ((chansOf b).map s.cfg, s.now) }).stitched d 1 0 := by
  subst bank
  exact (if_pos start).trans ((if_neg (by simp [member])).trans ((if_neg (Nat.not_le.mpr there)).trans
    ((if_neg (by simp [die])).trans (if_neg (by simp only [noneHeld]; exact Bool.false_ne_true)))))

/-- The first stitch of TEST_SWEEP starts the checks of its first group. -/
theorem State.testSweep_of_start (start : d.prog = 0) (member : s.ldcMay d = true)
    (asked : n = ((List.range 32).filter (bitOf (u32 d.raw 20))).length) (least : 0 < n) (room : 8 * n ≤ d.len) :
    s.testSweep d = s.stitched d 1 d.acc := by
  subst asked
  refine (if_neg (by simp [member])).trans ((if_neg fun short => Nat.not_lt.mpr room short.2).trans
    ((if_neg (Nat.ne_of_gt least)).trans ((if_pos (by rw [start])).trans ?_)))
  rw [start]

/-- Settles O25: the command takes the round's descriptor, and each clause is the rule above of its operation; a
configuring one asks CFG_MASK first. -/
theorem loadOpcodesComplete : Obligations.LoadOpcodesComplete := by
  unfold Obligations.LoadOpcodesComplete
  refine ⟨?set, ?config, ?clear, ?arm, ?store, ?sweep, ?stranger⟩
  case set =>
    rintro r n cmd duty d s cur member ⟨channel, command, wanted, isCommand, most⟩ leads term die inService notHeld afforded
    have set := State.chSet_of_member member channel command wanted leads isCommand most
    refine next_withOp cur (set.trans ?_)
    have noBadTerm : ¬(s.on F.PAI_CTL_EN = false ∧ u32 d.raw 24 ≠ 0) := by
      rcases term with ⟨off, zero⟩ | ⟨on, own⟩ <;> simp [*]
    have ownTerm : ¬(s.on F.PAI_CTL_EN = true ∧ u32 d.raw 24 ≠ s.get F.PAI_TERM_TERM) := by
      rcases term with ⟨off, zero⟩ | ⟨on, own⟩ <;> simp [*]
    rw [if_neg noBadTerm, if_neg ownTerm, if_neg (by simp [die, inService]), if_neg notHeld, if_neg (by simp [afforded])]
  case config =>
    rintro r n d s cur member ⟨channel, there, len⟩ sound groups die off
    exact next_withOp cur (State.chConfig_of_sound member channel there len sound groups die off)
  case clear =>
    rintro r n m d s cur member ⟨channel, mask, isMask⟩ leads die latched
    exact next_withOp cur (State.latchClr_of_latched member channel mask isMask leads die latched)
  case arm =>
    exact fun _ _ _ cur member isMask =>
      next_withOp cur ((if_neg (by simp [member])).trans (if_neg (by simp [isMask])))
  case store =>
    rintro r b d s cur start member ⟨bank, there⟩ die noneHeld
    exact next_withOp cur (State.coStore_of_start start member bank there die noneHeld)
  case sweep =>
    rintro r n d s cur start member asked ⟨least, room⟩
    exact next_withOp cur (State.testSweep_of_start start member asked least room)
  case stranger =>
    intro r d s stranger
    refine ⟨?_, ?_, ?_, ?_⟩ <;> exact fun cur => next_withOp cur (if_pos (by simp [stranger]))

end Sys2Proof.Machine
end

section
/-! What a power die does on its own (R335, R337 to R340, R342 to R344): what each event of a channel or a bank does once
it is due. -/
namespace Sys2Proof.Machine

variable {s : State} {n w b mA l : Nat}

/-- A debounced condition that is evaluated clears its flag as it ends, and sets it where its check is armed. -/
theorem exec_outputDiagDebounce_of_evaluated {present : Bool} (channel : n < 32) (condition : w < 4)
    (power : (s.ldcBank (n / 8)).powered = true) (clear : s.blanked n w = false) (evaluated : s.evaluated n w = true) :
    exec (.outputDiagDebounce n w present) s =
      .next (if present = false then s.put (diagFlag n w) 0
        else if s.diagArmed n w = false then s
        else s.flagUp n (diagFlag n w)
          (if w < 2 then F.LDC_EVT_OPEN_LOAD else if w = 2 then F.LDC_EVT_STB else F.LDC_EVT_CH_UV) (decide (w < 2))) := by
  have due : ¬(!(decide (n < 32) && decide (w < 4) && (s.ldcBank (n / 8)).powered) || s.blanked n w ||
      !s.evaluated n w) = true := by simp [channel, condition, power, clear, evaluated]
  refine congrArg Host.Outcome.next ((if_neg due).trans ?_)
  match w, condition with
  | 0, _ | 1, _ | 2, _ | 3, _ => simp

/-- Settles O22: each clause is its event's conditions, which the clause gives, or the rule of the diagnostics above. -/
theorem loadChannelEventsComplete : Obligations.LoadChannelEventsComplete := by
  unfold Obligations.LoadChannelEventsComplete
  refine ⟨?inrush, ?limit, ?fast, ?thermal, ?restart, ?retries, ?flagEnds, ?flagUp⟩
  case inrush => exact fun _ _ leads inrush due => next_if_pos (by simp [leads, inrush, due]) rfl
  case limit => exact fun _ _ channel on due => next_if_pos (by simp [channel, on, due]) rfl
  case fast => exact fun _ _ _ channel conducts high => next_if_pos (by simp [channel, conducts, high]) rfl
  case thermal =>
    intro n tj tc s channel conducts
    refine ⟨fun absolute => ?_, fun below hot => ?_, fun below cool => ?_⟩
    · exact next_if_pos ⟨channel, conducts⟩ (if_pos absolute)
    · exact next_if_pos ⟨channel, conducts⟩ ((if_neg (Int.not_le.mpr below)).trans (if_pos hot))
    · exact next_if_pos ⟨channel, conducts⟩ ((if_neg (Int.not_le.mpr below)).trans (if_neg (Int.not_lt.mpr cool)))
  case restart =>
    exact fun _ _ _ _ leads tripped due cool below => next_if_pos (by simp [leads, tripped, due, cool, below]) rfl
  case retries => exact fun _ _ leads on due => next_if_pos (by simp [leads, on, due]) rfl
  case flagEnds =>
    intro n w s channel condition power clear evaluated
    rw [exec_outputDiagDebounce_of_evaluated channel condition power clear evaluated, if_pos rfl]
  case flagUp =>
    intro n w s channel condition power clear evaluated armed
    rw [exec_outputDiagDebounce_of_evaluated channel condition power clear evaluated, if_neg (by simp),
      if_neg (by simp [armed])]

/-- The conducting leader of a bank that an overload trips first (R342). -/
def State.tripsFirst (s : State) (b : Nat) : Option Nat :=
  ((chansOf b).filter fun n => s.isLeader n && s.conducts n).find? fun l =>
    ((chansOf b).filter fun n => s.isLeader n && s.conducts n).all (s.tripsBefore l)

/-- The first overload of a bank's episode raises BANK_OVL and trips one channel. -/
theorem exec_bankOverload_of_first (bank : b < 4) (power : (s.ldcBank b).powered = true) (high : 24000 < mA)
    (first : (s.ldcBank b).ovlAt = none) (trips : s.tripsFirst b = some l) :
    exec (.bankOverload b mA) s = .next (((s.bankEvent b F.LDC_EVT_BANK_OVL).setBank b
      { s.ldcBank b with ovlAt := some (s.bankEvent b F.LDC_EVT_BANK_OVL).now }).trip l Trip.BANK) := by
  show execBankOverload b mA s = _
  unfold State.tripsFirst at trips
  simp only [execBankOverload, first, trips]
  exact next_if_pos ⟨bank, power, high, trivial⟩ rfl

/-- A millisecond after its last trip the overload trips another; after 100 ms that is a new episode. -/
theorem exec_bankOverload_of_next {t : Nat} (bank : b < 4) (power : (s.ldcBank b).powered = true) (high : 24000 < mA)
    (last : (s.ldcBank b).ovlAt = some t) (due : 1000000 ≤ s.dieSince b t) (trips : s.tripsFirst b = some l) :
    exec (.bankOverload b mA) s = .next (
      let u := if 100000000 ≤ s.dieSince b t then s.bankEvent b F.LDC_EVT_BANK_OVL else s
      (u.setBank b { s.ldcBank b with ovlAt := some u.now }).trip l Trip.BANK) := by
  show execBankOverload b mA s = _
  unfold State.tripsFirst at trips
  simp only [execBankOverload, last, trips, decide_eq_true_eq]
  exact next_if_pos ⟨bank, power, high, due⟩ rfl

/-- Blanking ends 200 µs after the bank's last trip. -/
theorem exec_blankingEnd_of_due {t : Nat} (bank : b < 4) (blanks : (s.ldcBank b).blank = some (n, t))
    (due : 200000 ≤ s.dieSince b t) :
    exec (.blankingEnd b) s = .next (s.setBank b { s.ldcBank b with blank := none }) := by
  show execBlankingEnd b s = _
  simp only [execBlankingEnd, blanks]
  exact next_if_pos ⟨bank, due⟩ rfl

/-- Settles O23: each clause is its event's conditions, which the clause gives, or the rule of the overload above. -/
theorem loadBankEventsComplete : Obligations.LoadBankEventsComplete := by
  unfold Obligations.LoadBankEventsComplete
  refine ⟨?fold, ?overload, ?overloadNext, ?blanking, ?voltage, ?powerUp, ?unpowered⟩
  case fold =>
    exact fun _ _ _ bank power =>
      ⟨fun high flat => next_if_pos (by simp [bank, power, high, flat]) rfl, fun below => next_if_pos ⟨bank, below⟩ rfl⟩
  case overload =>
    exact fun _ _ _ _ bank power high first trips => exec_bankOverload_of_first bank power high first trips
  case overloadNext =>
    rintro b mA l t s _ bank power high last due trips rfl
    exact exec_bankOverload_of_next bank power high last due trips
  case blanking => exact fun _ _ _ _ bank blanks due => exec_blankingEnd_of_due bank blanks due
  case voltage =>
    exact fun _ _ _ bank power =>
      ⟨fun low fresh => next_if_pos (by simp [bank, power, low, fresh]) rfl,
        fun high under => next_if_pos (by simp [bank, power, high, under]) rfl⟩
  case powerUp => exact fun _ _ _ bank unpowered high => next_if_pos (by simp [bank, unpowered, high]) rfl
  case unpowered => exact fun _ _ _ bank low => next_if_pos ⟨bank, low⟩ rfl

/-- Settles O24: each clause is its event's conditions, which the clause gives. -/
theorem loadLinkCommandsComplete : Obligations.LoadLinkCommandsComplete := by
  unfold Obligations.LoadLinkCommandsComplete
  refine ⟨?frame, ?keepAlive, ?watchdog, ?lost, ?restored, ?shed⟩
  case frame => exact fun _ _ bank free => next_if_pos ⟨bank, by simp [free]⟩ rfl
  case keepAlive =>
    rintro b whole answered s _ bank power rfl
    exact next_if_pos ⟨bank, power⟩ rfl
  case watchdog => exact fun _ _ bank due => next_if_pos ⟨bank, due⟩ rfl
  case lost => exact fun _ _ bank link => next_if_pos ⟨bank, link⟩ rfl
  case restored => exact fun _ _ bank power lost => next_if_pos ⟨bank, power, by simp [lost]⟩ rfl
  case shed => exact fun _ _ _ => ⟨fun zero => next_if_pos zero rfl, fun other => next_if_neg other rfl⟩

end Sys2Proof.Machine
end

section
/-! The serial ports and the supervised inputs (R357 to R360, R365, R369): what each event does once it is due, and each
opcode with the descriptor it finds. -/
namespace Sys2Proof.Machine

variable {s : State} {d : Desc} {n heard : Nat} {mV : Int}

/-- A port that does not send starts its oldest SER_SEND. -/
theorem exec_serialTxStart_of_waiting {l : List Desc} (port : n < 8) (idle : (s.ser n).send = none)
    (oldest : s.serDescs 1 n = d :: l) :
    exec (.serialTxStart n) s = .next ((s.setSer n { s.ser n with
      send := some (d.round, d.slot), tx := (s.serChars n d.buf).map (s.serBits n), sent := 0, txTs := s.timNow }).serShow
        n) := by
  show execSerialTxStart n s = _
  simp only [execSerialTxStart, oldest]
  exact next_if_neg (by simp [Nat.le_of_lt_succ port, idle]) rfl

/-- A character sent leaves the port's characters; what was heard meanwhile is compared with it on a half-duplex port
that asks for that. -/
theorem exec_serialCharSent_of_cons {c : Byte} {l : Bytes} (next : (s.ser n).tx = c :: l) :
    exec (.serialCharSent n heard) s = .next (
      let u := s.setSer n { s.ser n with tx := l, sent := (s.ser n).sent + 1 }
      if n < 4 ∧ u.on (F.SIO_U_CTL_ECHO_CHK n) = true ∧ heard ≠ c.toNat then
        ((u.count (C.SIO_COLLISION n)).raise F.SIO_EVT_COLLISION).serDone n St.COLLISION
      else if l.isEmpty then u.serDone n St.OK else u) := by
  show execSerialCharSent n heard s = _
  simp only [execSerialCharSent, next]
  exact congrArg Host.Outcome.next (if_congr (by simp [and_assoc]) rfl rfl)

/-- On an idle half-duplex port with automatic polarity the differential decides the polarity, or leaves it unknown. -/
theorem exec_polarityDecide_of_idle (port : n < 4) (auto : s.on (F.SIO_U_CTL_POL_AUTO n) = true)
    (noPdu : (s.ser n).inPdu = false) (idle : (s.ser n).send = none) :
    exec (.polarityDecide n mV) s = .next (
      if -200 ≤ mV ∧ mV ≤ 200 then s.put (F.SIO_U_STAT_POL_UNKNOWN n) 1
      else (((s.put (F.SIO_U_STAT_POL_UNKNOWN n) 0).put (F.SIO_U_CTL_POL_INV n) (b2n (decide (mV < -200)))).serShow
        n).raise F.SIO_EVT_POL) :=
  next_if_neg (by simp [Nat.not_lt.mpr (Nat.le_of_lt_succ port), auto, noPdu, idle]) rfl

/-- An opcode of a partition of CFG_MASK does what it does. -/
theorem State.sioMay_of_member {k : State} (member : s.bit F.SIO_CFG_MASK_MASK (s.dPid d) = true) : s.sioMay d k = k :=
  if_pos member

/-- An opcode of any other partition is not permitted. -/
theorem State.sioMay_of_stranger {k : State} (stranger : s.bit F.SIO_CFG_MASK_MASK (s.dPid d) = false) :
    s.sioMay d k = s.finish d St.NOTPERMIT 0 :=
  if_neg (by simp [stranger])

/-- SER_SEND of 1 to 512 bytes waits at an enabled port and is refused at one that is off. -/
theorem State.serSend_of_member (member : s.bit F.SIO_CFG_MASK_MASK (s.dPid d) = true) (port : u8 d.raw 20 ≤ 7)
    (least : 0 < d.len) (most : d.len ≤ 512) :
    s.serSend d = if s.on (F.SIO_U_CTL_EN (u8 d.raw 20)) = false then s.finish d St.PORT_OFF 0 else s.hold d := by
  refine (State.sioMay_of_member member).trans ((if_neg (by omega)).trans ?_)
  simp

/-- Settles O26: each clause is the rule above of its event or opcode, or its event's one condition, which the clause
gives; an opcode asks CFG_MASK first. -/
theorem serialAndInputCommandsComplete : Obligations.SerialAndInputCommandsComplete := by
  unfold Obligations.SerialAndInputCommandsComplete
  refine ⟨?received, ?gap, ?start, ?sent, ?polarity, ?sample, ?opcodes, ?stranger⟩
  case received =>
    exact fun _ _ _ _ _ port enabled idle =>
      next_if_neg (by simp [Nat.not_lt.mpr (Nat.le_of_lt_succ port), enabled, idle]) rfl
  case gap => exact fun _ _ port enabled gaps inPdu => next_if_pos (by simp [port, enabled, gaps, inPdu]) rfl
  case start => exact fun _ _ _ _ port idle oldest => exec_serialTxStart_of_waiting port idle oldest
  case sent =>
    rintro n heard c l s _ next rfl
    rw [exec_serialCharSent_of_cons next]
    refine ⟨fun half checks differs => next_if_pos ⟨half, checks, differs⟩ rfl, fun agrees => next_if_neg ?_ rfl⟩
    rintro ⟨half, checks, differs⟩
    rcases agrees with full | unchecked | same
    · exact absurd half (Nat.not_lt.mpr full)
    · exact Bool.false_ne_true (unchecked.symm.trans checks)
    · exact differs same
  case polarity =>
    intro n mV s port auto noPdu idle
    rw [exec_polarityDecide_of_idle port auto noPdu idle]
    exact ⟨fun least most => next_if_pos ⟨least, most⟩ rfl, fun beyond => next_if_neg (by omega) rfl⟩
  case sample => exact fun _ _ _ group due => next_if_pos ⟨group, due⟩ rfl
  case opcodes =>
    intro r d s member
    refine ⟨fun cur port least most enabled => ?queued, fun cur port least most off => ?off, fun cur port => ?recv,
      fun cur beyond => ?recvBad, fun cur room => ?read, fun cur short => ?readBad⟩
    case queued =>
      exact next_withOp cur ((State.serSend_of_member member port least most).trans (if_neg (by simp [enabled])))
    case off => exact next_withOp cur ((State.serSend_of_member member port least most).trans (if_pos off))
    case recv => exact next_withOp cur ((State.sioMay_of_member member).trans (if_neg (Nat.not_lt.mpr port)))
    case recvBad => exact next_withOp cur ((State.sioMay_of_member member).trans (if_pos beyond))
    case read => exact next_withOp cur ((State.sioMay_of_member member).trans (if_neg (Nat.not_lt.mpr room)))
    case readBad => exact next_withOp cur ((State.sioMay_of_member member).trans (if_pos short))
  case stranger =>
    intro r d s stranger
    refine ⟨?_, ?_, ?_⟩ <;> exact fun cur => next_withOp cur (State.sioMay_of_stranger stranger)

end Sys2Proof.Machine
end

section
/-! Gauge's commands (R25, R372, R373, R378, R384): the latch's registers one by one, and what MODE_SET and the events do
once they are due. -/
namespace Sys2Proof.Machine

variable {s : State}

/-- A pass over the first `n` numbers, of which only step `i` writes a field, leaves there what that step writes. -/
theorem State.forEach_range_get {f : Nat → State → State} {g : Fld} {v i n : Nat} (own : ∀ t, (f i t).get g = v)
    (others : ∀ j t, j < n → j ≠ i → (f j t).get g = t.get g) (among : i < n) :
    (forEach (List.range n) f s).get g = v := by
  induction n with
  | zero => exact absurd among (Nat.not_lt_zero i)
  | succ n ih =>
    have last : forEach (List.range (n + 1)) f s = f n (forEach (List.range n) f s) := by
      unfold forEach
      rw [List.range_succ, List.foldl_append]
      rfl
    rw [last]
    by_cases here : n = i
    · rw [here]
      exact own _
    · rw [others n _ (Nat.lt_succ_self n) here]
      exact ih (fun j t below => others j t (Nat.lt_succ_of_lt below)) (by omega)

/-- A field put reads as the value cut to the field's size. -/
theorem State.put_get_mod (s : State) (f : Fld) (v : Nat) (h : f.lo ≤ f.hi) (h31 : f.hi ≤ 31) :
    (s.put f v).get f = v % 2 ^ (f.hi + 1 - f.lo) := by
  have cut : s.put f v = s.put f (v % 2 ^ (f.hi + 1 - f.lo)) := by
    unfold State.put setBits
    rw [Nat.mod_mod]
  rw [cut]
  exact State.put_get_self s f _ h h31 (Nat.mod_lt _ (Nat.two_pow_pos _))

/-- The energy of rail `i` in µJ, to 48 bits (R370). -/
def State.latchedUj (s : State) (i : Nat) : Nat := s.gauE i / 1000 % 2 ^ 48

/-- The mean power of rail `i` over the last second, in mW. -/
def State.latchedMw (s : State) (i : Nat) : Nat :=
  meanMw (s.gauE i - (s.snapAt 1000000000).e.getD i 0) (s.now - (s.snapAt 1000000000).at_)

/-- The latch copies rail `i` as it stands in `s`. -/
def State.latchRail (s : State) (i : Nat) (t : State) : State :=
  ((t.put (F.GAU_E_LO_UJ i) (s.latchedUj i)).put (F.GAU_E_HI_UJ i) (s.latchedUj i / 2 ^ 32)).put (F.GAU_P_MW i)
    (s.latchedMw i)

/-- The latch of one rail leaves a register that is none of its three. -/
theorem State.latchRail_get_other {g : Fld} {i : Nat} (t : State) (lo : g.reg ≠ R.GAU_E_LO i) (hi : g.reg ≠ R.GAU_E_HI i)
    (mw : g.reg ≠ R.GAU_P i) : (s.latchRail i t).get g = t.get g := by
  unfold State.latchRail
  rw [State.put_get_other _ _ g _ mw, State.put_get_other _ _ g _ hi, State.put_get_other _ _ g _ lo]

/-- The low word of the energy reads as latched. -/
theorem State.latchRail_get_lo (i : Nat) (t : State) :
    (s.latchRail i t).get (F.GAU_E_LO_UJ i) = s.latchedUj i % 2 ^ 32 := by
  have hi : R.GAU_E_LO i ≠ R.GAU_E_HI i := by unfold R.GAU_E_LO R.GAU_E_HI; omega
  have mw : R.GAU_E_LO i ≠ R.GAU_P i := by unfold R.GAU_E_LO R.GAU_P; omega
  unfold State.latchRail
  rw [State.put_get_other _ _ _ _ mw, State.put_get_other _ _ _ _ hi]
  exact State.put_get_mod _ _ _ (Nat.zero_le _) (Nat.le_refl _)

/-- The high word of the energy reads as latched. -/
theorem State.latchRail_get_hi (i : Nat) (t : State) :
    (s.latchRail i t).get (F.GAU_E_HI_UJ i) = s.latchedUj i / 2 ^ 32 := by
  have mw : R.GAU_E_HI i ≠ R.GAU_P i := by unfold R.GAU_E_HI R.GAU_P; omega
  have fits : s.latchedUj i / 2 ^ 32 < 2 ^ 16 := by unfold State.latchedUj; omega
  unfold State.latchRail
  rw [State.put_get_other _ _ _ _ mw]
  exact State.put_get_self _ _ _ (Nat.zero_le _) (by simp [F.GAU_E_HI_UJ]) fits

/-- The power reads as latched. -/
theorem State.latchRail_get_mw (i : Nat) (t : State) :
    (s.latchRail i t).get (F.GAU_P_MW i) = s.latchedMw i % 2 ^ 32 :=
  State.put_get_mod _ _ _ (Nat.zero_le _) (Nat.le_refl _)

/-- A write of GO by an allowed partition latches every rail. -/
theorem State.gauLatch_of_go {pid v : Nat} (may : s.gauMay pid = true) (go : bitOf v 0 = true) :
    s.gauLatch pid v = forEach (List.range 42) s.latchRail s :=
  if_pos (by simp [may, go])

/-- A register of rail `i` reads after the latch of all rails as the latch of that rail leaves it. -/
theorem State.latchRails_get {g : Fld} {v i : Nat} (there : i < 42)
    (rail : g.reg = R.GAU_E_LO i ∨ g.reg = R.GAU_E_HI i ∨ g.reg = R.GAU_P i)
    (own : ∀ t, (s.latchRail i t).get g = v) : (forEach (List.range 42) s.latchRail s).get g = v := by
  refine State.forEach_range_get own (fun j t below other => ?_) there
  have apart : g.reg ≠ R.GAU_E_LO j ∧ g.reg ≠ R.GAU_E_HI j ∧ g.reg ≠ R.GAU_P j := by
    unfold R.GAU_E_LO R.GAU_E_HI R.GAU_P at *
    omega
  obtain ⟨lo, hi, mw⟩ := apart
  exact State.latchRail_get_other t lo hi mw

/-- Settles O56: the latch writes three registers of each rail, apart from those of every other, and Gauge's counters are
no registers. -/
theorem energyLatchCopiesEveryCounter : Obligations.EnergyLatchCopiesEveryCounter := by
  unfold Obligations.EnergyLatchCopiesEveryCounter
  refine ⟨?latch, ?read⟩
  case latch =>
    intro pid val i s may go there
    refine ⟨_, congrArg Host.Outcome.next (State.gauLatch_of_go may go), ?energy, ?power, ?counters⟩
    case energy =>
      rw [State.latchRails_get there (.inl rfl) (State.latchRail_get_lo i),
        State.latchRails_get there (.inr (.inl rfl)) (State.latchRail_get_hi i)]
      exact Nat.mod_add_div _ _
    case power => exact State.latchRails_get there (.inr (.inr rfl)) (State.latchRail_get_mw i)
    case counters =>
      rw [← State.gauLatch_of_go may go]
      exact (State.gauLatch_keeps (sub_of rfl) (Keeps.refl 1 s)).gau rfl
  case read =>
    intro pid a i s
    have kept : (s.regRead pid a).1.gau = s.gau := (State.regRead_keeps (sub_of rfl) (Keeps.refl 155 s)).gau rfl
    unfold State.gauE
    rw [kept]

/-- MODE_SET by an allowed partition of a mode and, beside mains, a required time in range declares the budget. -/
theorem State.modeSet_of_sound {d : Desc} (may : s.gauMay (s.dPid d) = true) (mode : u8 d.raw 20 ≤ 2)
    (time : u8 d.raw 20 = 0 ∨ (60 ≤ u32 d.raw 28 ∧ u32 d.raw 28 ≤ 86400)) :
    s.modeSet d =
      let t := s.declare (u8 d.raw 20) (u32 d.raw 24) (u32 d.raw 28)
      t.finish d St.OK (t.get F.GAU_FLOOR_J + 2 ^ 32 * b2n (decide (t.leftPj ≤ t.floorPj))) := by
  have sound : ¬(decide (2 < u8 d.raw 20) || (u8 d.raw 20 != 0 && !inRange 60 86400 (u32 d.raw 28))) = true := by
    rcases time with mains | ⟨least, most⟩
    · simp [mains]
    · simp [Nat.not_lt.mpr mode, inRange, least, most]
  exact (if_neg (by simp [may])).trans (if_neg sound)

/-- The level that VCORE has reached shows and raises LEVEL; Gauge evaluates at once. -/
def State.levelReached (s : State) (lv : Nat) : State :=
  (((s.onGau fun g => { g with moving := none }).put F.GAU_STAT_LEVEL lv).raise F.GAU_EVT_LEVEL).gaugeDue.showEngines

/-- After a rise in SPREAD mode with a pattern running Chart is asked for a replan. -/
theorem exec_levelChangeDone {lv : Nat} (moving : s.gau.moving = some lv) :
    exec .levelChangeDone s = .next (
      if s.gauLevel < lv ∧ (s.levelReached lv).on F.CHT_STAT_MODE = false ∧ (s.levelReached lv).aud.pat.isSome = true
      then (s.levelReached lv).askChart .mode else s.levelReached lv) := by
  show execLevelChangeDone s = _
  simp only [execLevelChangeDone, moving]
  refine congrArg Host.Outcome.next (if_congr ?_ rfl rfl)
  simp [State.levelReached, and_assoc]

/-- Settles O27: MODE_SET takes the round's descriptor; each other clause is the rule above of its event, or its event's
one condition, which the clause gives. -/
theorem gaugeCommandsComplete : Obligations.GaugeCommandsComplete := by
  unfold Obligations.GaugeCommandsComplete
  refine ⟨?mode, ?refused, ?evaluate, ?gap, ?latch, ?level⟩
  case mode => exact fun _ _ _ cur may mode time => next_withOp cur (State.modeSet_of_sound may mode time)
  case refused =>
    intro r d s cur
    refine ⟨fun stranger => next_withOp cur (if_pos (by simp [stranger])), fun may beyond => next_withOp cur ?_⟩
    exact (if_neg (by simp [may])).trans (if_pos (by simp [beyond]))
  case evaluate => exact fun _ due => next_if_pos (by simpa using due) rfl
  case gap => exact fun _ _ bank silent => next_if_pos ⟨bank, by simpa using silent⟩ rfl
  case latch => exact fun _ _ _ may go => congrArg Host.Outcome.next (State.gauLatch_of_go may go)
  case level =>
    rintro lv s _ moving rfl
    exact exec_levelChangeDone moving

end Sys2Proof.Machine
end

section
/-! Semaphores (R392, R412 to R414): what an acquiring read returns, and who releases and reclaims. -/
namespace Sys2Proof.Machine

variable {s : State} {pid n v : Nat}

/-- The owner of a semaphore releases it by its own ID, while its partition is enabled. -/
theorem exec_semRelease_of_owner (there : n < 64) (owner : s.get (F.SEM_STAT_OWNER n) = pid + 1) (own : v % 32 = pid)
    (enabled : s.partOff pid = false) :
    exec (.semRelease pid n v) s = .next (s.put (F.SEM_STAT_OWNER n) 0) :=
  next_if_pos there (if_pos ⟨owner, own, by simp [enabled]⟩)

/-- Any other release raises BAD_REL. -/
theorem exec_semRelease_of_bad (there : n < 64)
    (bad : s.get (F.SEM_STAT_OWNER n) ≠ pid + 1 ∨ v % 32 ≠ pid ∨ s.partOff pid = true) :
    exec (.semRelease pid n v) s = .next (s.raise F.SEM_EVT_BAD_REL) := by
  refine next_if_pos there (if_neg ?_)
  rintro ⟨owner, own, enabled⟩
  rcases bad with notOwner | notOwn | disabled
  · exact notOwner owner
  · exact notOwn own
  · simp [disabled] at enabled

/-- Settles O52: a release puts the field of its own semaphore's register; a refused one raises BAD_REL, whose register
and COR_EVT lie apart from the semaphores'. -/
theorem semaphoreIsReleasedByItsOwner : Obligations.SemaphoreIsReleasedByItsOwner := by
  unfold Obligations.SemaphoreIsReleasedByItsOwner
  refine ⟨?released, ?refused⟩
  case released =>
    intro pid n val s there owner own enabled
    refine ⟨_, exec_semRelease_of_owner there owner own enabled, ?free, fun m other => ?others⟩
    case free =>
      exact State.put_get_self s _ 0 (Nat.zero_le _) (by simp [F.SEM_STAT_OWNER]) (Nat.two_pow_pos _)
    case others =>
      have apart : R.SEM_STAT m ≠ R.SEM_STAT n := by unfold R.SEM_STAT; omega
      exact State.put_get_other s _ _ _ apart
  case refused =>
    intro pid n val s there bad
    refine ⟨_, exec_semRelease_of_bad there bad, s.raise_on F.SEM_EVT_BAD_REL rfl (by decide) (by decide),
      fun m hm => ?_⟩
    have event : R.SEM_STAT m ≠ R.SEM_EVT := by unfold R.SEM_STAT R.SEM_EVT; omega
    have cores : R.SEM_STAT m ≠ R.COR_EVT := by unfold R.SEM_STAT R.COR_EVT; omega
    exact State.raise_get_other s _ _ event cores

/-- A read of SEM_ACQn acquires a free semaphore, counts on a held one, and by a disabled partition does neither. -/
theorem exec_semAcquire (there : n < 64) :
    exec (.semAcquire pid n) s = .next (
      if s.partOff pid then s.drawn.emit (.regValue pid (R.SEM_ACQ n) (s.free 240 % 64))
      else if s.get (F.SEM_STAT_OWNER n) = 0 then
        (s.put (F.SEM_STAT_OWNER n) (pid + 1)).emit (.regValue pid (R.SEM_ACQ n) 0)
      else (s.count C.SEM_FAIL).emit (.regValue pid (R.SEM_ACQ n) (s.get (F.SEM_STAT_OWNER n)))) := by
  refine next_if_pos there ?_
  unfold State.semAcquire
  dsimp only
  split
  · rfl
  · split <;> rfl

end Sys2Proof.Machine
end

section
/-! Schedules, watchdogs and lockstep (R390, R394 to R397), and the opcodes of the cores. -/
namespace Sys2Proof.Machine

variable {s : State} {d : Desc} {k n p : Nat}

/-- A firing of its trigger that a scheduled core has not answered starts its table; a window in force is cut. -/
theorem exec_scheduleTrigger_of_fired {f : Nat} (scheduled : s.scheduled k = true)
    (fired : f = s.fires (s.get (F.COR_A_CTL_TRG k))) (fresh : f ≠ storeGet cntDefault s.cor.seen k) :
    exec (.scheduleTrigger k) s = .next (
      let t := s.onCor fun c => { c with seen := storeSet cntDefault c.seen k f }
      let u := t.coreChange (State.startTable k)
      if t.winOf k ≠ 0 then u.raise F.COR_EVT_SCHED_CUT else u) := by
  subst fired
  refine next_if_pos (by simp [scheduled, fresh]) (if_congr ?_ rfl rfl)
  simp

/-- A watchdog that has run down restarts its partition. -/
theorem exec_partitionWdExpiry_of_out (on : s.wdSync.partOn p = true) (set : s.wdSync.get (F.COR_P_CTL_WD_MS p) ≠ 0)
    (runs : s.wdSync.canRun p = true) (out : s.wdSync.wdLeft p = 0) :
    exec (.partitionWdExpiry p) s =
      .next (((s.wdSync.count (C.COR_WD p)).raise F.COR_EVT_WD).restartPart p) :=
  next_if_pos (by simp [on, set, runs, out]) rfl

/-- Partitions 0 and 2 may load schedules and restart partitions. -/
theorem State.corMay_of_allowed (allowed : s.dPid d = 0 ∨ s.dPid d = 2) :
    ¬(s.dPid d != 0 && s.dPid d != 2) = true := by
  rcases allowed with h | h <;> simp [h]

theorem State.corMay_of_stranger (stranger : s.dPid d ≠ 0 ∧ s.dPid d ≠ 2) :
    (s.dPid d != 0 && s.dPid d != 2) = true := by
  simpa using stranger

/-- SCHED_LOAD of well-formed entries to a core that acts stores them as the pending table. -/
theorem State.schedLoad_of_sound (allowed : s.dPid d = 0 ∨ s.dPid d = 2) (core : u8 d.raw 20 = k)
    (entries : u16 d.raw 22 = n) (there : k < 8) (least : 0 < n) (most : n ≤ 32) (room : 8 * n ≤ d.len)
    (acts : s.actingCore k = k) (sound : schedOk n d.buf = true) :
    s.schedLoad d =
      let u := (s.put (F.COR_A_STAT_PENDING k) 1).onCor fun c => { c with
        pendTbl := storeSet noTbl c.pendTbl k (schedEntries n d.buf) }
      u.finish d St.OK u.timNow := by
  subst core entries
  refine (if_neg (State.corMay_of_allowed allowed)).trans (if_neg ?_)
  simpa [acts, sound, there, most, room] using Nat.ne_of_gt least

/-- PART_RESTART restarts a partition of the cores. -/
theorem State.partRestart_of_sound (allowed : s.dPid d = 0 ∨ s.dPid d = 2) (noBuf : d.noBuf = true)
    (part : u8 d.raw 20 = p) (isPart : isPart p = true) :
    s.partRestart d = (s.restartPart p).finish d St.OK (s.restartPart p).timNow := by
  subst part
  exact (if_neg (State.corMay_of_allowed allowed)).trans (if_neg (by simp [noBuf, isPart]))

/-- Settles O28: each clause is the rule above of its event or opcode, or its event's one condition, which the clause
gives. -/
theorem coreCommandsComplete : Obligations.CoreCommandsComplete := by
  unfold Obligations.CoreCommandsComplete
  refine ⟨?window, ?trigger, ?kick, ?watchdog, ?lockstep, ?load, ?restart, ?stranger⟩
  case window => exact fun _ _ scheduled inWindow due => next_if_pos (by simp [scheduled, inWindow, due]) rfl
  case trigger =>
    rintro k f s _ scheduled fired fresh rfl
    exact exec_scheduleTrigger_of_fired scheduled fired fresh
  case kick =>
    exact fun _ _ _ =>
      ⟨fun own isPart => next_if_pos ⟨own, isPart⟩ rfl, fun other => next_if_neg (fun h => other h.1) rfl⟩
  case watchdog =>
    rintro p s _ rfl on set runs out
    exact exec_partitionWdExpiry_of_out on set runs out
  case lockstep =>
    rintro pair s _ there active rfl
    exact next_if_pos (by simp [there, active]) rfl
  case load =>
    rintro r k n d s cur allowed ⟨core, entries, there, least, most, room⟩ acts sound
    exact next_withOp cur (State.schedLoad_of_sound allowed core entries there least most room acts sound)
  case restart =>
    exact fun _ _ _ _ cur allowed noBuf part isPart =>
      next_withOp cur (State.partRestart_of_sound allowed noBuf part isPart)
  case stranger =>
    exact fun _ _ _ stranger =>
      ⟨fun cur => next_withOp cur (if_pos (State.corMay_of_stranger stranger)),
        fun cur => next_withOp cur (if_pos (State.corMay_of_stranger stranger))⟩

end Sys2Proof.Machine
end

section
/-! Mailboxes (R400 to R404). -/
namespace Sys2Proof.Machine

variable {s : State} {pid n w v : Nat}

/-- A write of the sender to a slot; on a full mailbox it counts as a collision. -/
theorem exec_mbxSlotWrite_of_sender (there : n < 32 ∧ w < 16) (sends : s.mbMaySend pid n = true) :
    exec (.mbxSlotWrite pid n w v) s = .next (
      let u := s.put (F.MBX_SLOT_DATA n w) v
      if u.mbFull n then (((u.put (F.MBX_STAT_SEQ n) (u.get (F.MBX_STAT_SEQ n) + 1)).put (F.MBX_STAT_COLLISION n) 1).count
        (C.MBX_COLL n)).raise F.MBX_EVT_COLLISION
      else u) :=
  next_if_pos there (if_neg (by simp [sends]))

/-- Settles O29: each command asks first whether its partition is the side of the mailbox that may, and the clause says
whether it is. -/
theorem mailboxCommandsComplete : Obligations.MailboxCommandsComplete := by
  unfold Obligations.MailboxCommandsComplete
  refine ⟨?config, ?slot, ?collision, ?sides, ?timeout, ?denied⟩
  case config =>
    intro pid n v s there
    refine ⟨fun zero sound => next_if_pos there ?sound, fun zero enables bad => next_if_pos there ?bad,
      fun other => next_if_pos there (if_pos (by simp [other]))⟩
    case sound =>
      refine (if_neg (by simp [zero])).trans (if_neg ?_)
      rcases sound with disables | sound
      · simp [disables]
      · simp [sound]
    case bad => exact (if_neg (by simp [zero])).trans (if_pos (by simp [enables, bad]))
  case slot =>
    intro pid n w v s there sends room
    rw [exec_mbxSlotWrite_of_sender there sends]
    exact next_if_neg (by simp [room]) rfl
  case collision =>
    rintro pid n w v s _ there sends rfl full
    rw [exec_mbxSlotWrite_of_sender there sends]
    exact next_if_pos full rfl
  case sides =>
    intro pid n v s there
    refine ⟨fun sends rings => ?ring, fun refused => ?bellDenied, fun refused w word => ?slotDenied, fun takes => ?take,
      fun refused => ?takeDenied⟩
    case ring => exact next_if_pos there ((if_neg (by simp [sends])).trans (if_pos rings))
    case bellDenied => exact next_if_pos there (if_pos (by simp [refused]))
    case slotDenied => exact next_if_pos ⟨there, word⟩ (if_pos (by simp [refused]))
    case take => exact next_if_pos there (if_pos takes)
    case takeDenied => exact next_if_pos there (if_neg (by simp [refused]))
  case timeout =>
    rintro n _ s there full rfl ⟨timed, due⟩
    exact next_if_pos (by simp [there, full, timed, due]) rfl
  case denied =>
    exact fun _ _ _ there =>
      ⟨fun noRead => next_if_neg (by simp [there, noRead]) rfl,
        fun noSend noTake => next_if_neg (by simp [there, noSend, noTake]) rfl⟩

end Sys2Proof.Machine
end

section
/-! The hardware queues (R36, R37, R407 to R410): an access through the guard, and what a pop, a peek and a held push do. -/
namespace Sys2Proof.Machine

variable {s : State} {src : Source} {n off : Nat}

/-- A write of a queue window by an on-chip source that may issue it, and that the guard permits, is performed. -/
theorem State.queueAccess_write {k : State → State} (there : n < 64) (chip : onChip src = true)
    (issues : s.issues src = true) (room : s.unacked src < 64)
    (permitted : s.denied (s.pidOf src) true (0x120000000 + 0x1000 * n + off) 8 = none) :
    s.queueAccess src n off true k = k s := by
  unfold State.queueAccess
  rw [if_neg (by simp [there, chip, issues, room])]
  simp only [permitted]

/-- A read of a queue window by an on-chip source that may issue it, and that the guard permits, is performed. -/
theorem State.queueAccess_read {k : State → State} (there : n < 64) (chip : onChip src = true)
    (issues : s.issues src = true)
    (permitted : s.denied (s.pidOf src) false (0x120000000 + 0x1000 * n + off) 8 = none) :
    s.queueAccess src n off false k = k s := by
  unfold State.queueAccess
  rw [if_neg (by simp [there, chip, issues])]
  simp only [permitted]

/-- A read that no push of its master holds back is answered at once. -/
theorem State.queueGet_of_free (free : s.pushHeld src = false) :
    s.queueGet src n off =
      (s.queueAnswer n off (s.pidOf src)).1.emit
        (.answer src (s.queueAnswer n off (s.pidOf src)).2.1 (s.queueAnswer n off (s.pidOf src)).2.2) :=
  if_neg (by simp [free])

/-- A read behind a held push of its own master waits under the master's tag. -/
theorem State.queueGet_of_held {m : Master} {t : Nat} (held : s.pushHeld src = true) (master : masterOf src = some m)
    (free : s.tagNow m = some t) :
    s.queueGet src n off =
      s.useTag t (s.pidOf src) ⟨src, 0x120000000 + 0x1000 * n + off, 8, false, [], none, []⟩ false := by
  unfold State.queueGet
  simp only [held, master, free, Option.bind_some, if_true]

/-- A range without errors reads as it is. -/
theorem State.eccRead_of_nil {a k pid : Nat} (patrol : Bool) (clean : s.marksIn a k = []) :
    s.eccRead a k pid patrol = s := by
  unfold State.eccRead
  rw [clean]
  rfl

/-- The head item of a queue whose cells have no error is read without report. -/
theorem State.qHeadRead_of_clean {pid : Nat} {k : State → State × Nat} (clean : s.marksIn (poolAddr n) 8 = []) :
    s.qHeadRead n pid k = ((k s).1, St.OK, (k s).2) := by
  unfold State.qHeadRead
  rw [State.eccRead_of_nil false clean]
  simp [State.eccBad, clean]

/-- An item whose cell has an uncorrectable error stays where it is, and its read ends with MEDIA (log 90). -/
theorem State.qHeadRead_of_bad {pid : Nat} {k : State → State × Nat} (reads : s.qReads n = true)
    (bad : s.eccBad (poolAddr n) 8 = true) :
    s.qHeadRead n pid k = (s.eccRead (poolAddr n) 8 pid false, St.MEDIA, 0) := by
  simp [State.qHeadRead, reads, bad]

/-- What a pop of an enabled queue returns and leaves. -/
theorem State.qPop_of_on (on : s.on (F.QUE_Q_CFG_EN n) = true) :
    (∀ v l, s.qItems n = v :: l → s.qPop n = (((s.qShift n).setItems n l).setQLast n v, v)) ∧
    (s.qItems n = [] → s.qPop n =
      (((s.put (F.QUE_Q_STAT_UNDERRUN n) 1).count (C.QUE_UNDER n)).raise F.QUE_EVT_UNDERRUN, s.qLast n)) := by
  unfold State.qPop
  rw [if_neg (by simp [on])]
  exact ⟨fun v l items => by rw [items], fun none => by rw [none]⟩

/-- A held push with room before it, and nothing that keeps it back, is put in and answered; the pushes it passed are
marked, and the reads that waited behind it go on. -/
theorem State.heldDone_of_room {i g : Nat} {h : HeldPush} (place : s.heldPlace n i = some g)
    (push : s.que.held[g]? = some h) (room : s.qFull n = false)
    (free : (s.que.held.take g).any (·.blocks h) = false) :
    s.heldDone n i = (((s.setQue { s.que with held :=
      ((s.que.held.take g).map fun e => { e with skipped := e.skipped || e.q == n }) ++ s.que.held.drop (g + 1) }).pushNow n
        h.val).answer h.src 0 []).queueReads := by
  simp only [State.heldDone, place, push]
  exact if_neg (by simp only [room, free]; simp)

/-- Settles O30: an access passes the guard by the rules above and does what the queue's rules say; each clause on
semaphores is the semaphore's rule. -/
theorem queueAndSemaphoreCommandsComplete : Obligations.QueueAndSemaphoreCommandsComplete := by
  unfold Obligations.QueueAndSemaphoreCommandsComplete
  refine ⟨?enable, ?disable, ?push, ?pop, ?peek, ?popBad, ?popWaits, ?heldDone, ?acquire, ?acquireOff, ?release,
    ?reclaim, ?reclaimOther⟩
  case enable =>
    rintro n v s _ there rfl off
    exact next_if_pos there (if_pos ⟨rfl, by simp [off]⟩)
  case disable => exact fun _ _ _ there on => next_if_pos there (if_pos ⟨rfl, on⟩)
  case push =>
    intro src n item s there chip issues room permitted
    have through : exec (.queuePush src n item) s = .next (s.qPush src n item) :=
      congrArg Host.Outcome.next (State.queueAccess_write there chip issues room permitted)
    rw [through]
    refine ⟨fun holds => next_if_pos holds rfl, fun free on => next_if_neg (by simp [free]) ?_,
      fun free off => next_if_neg (by simp [free]) ?_⟩
    · rw [State.pushNow, if_pos on]
    · rw [State.pushNow, if_neg (by simp [off])]
  case pop =>
    intro src n s there chip issues free permitted on clean
    obtain ⟨item, underrun⟩ := State.qPop_of_on on
    have pops : exec (.queuePop src n) s = .next ((s.qPop n).1.emit (.answer src St.OK (leBytes 8 (s.qPop n).2))) := by
      refine congrArg Host.Outcome.next ((State.queueAccess_read there chip issues permitted).trans ?_)
      rw [State.queueGet_of_free free, State.queueAnswer, State.queueRead, if_pos rfl, State.qHeadRead_of_clean clean]
    exact ⟨fun v l items => by rw [pops, item v l items]; rfl, fun none => by rw [pops, underrun none]; rfl⟩
  case peek =>
    intro src n s there chip issues free permitted clean
    refine congrArg Host.Outcome.next ((State.queueAccess_read there chip issues permitted).trans ?_)
    rw [State.queueGet_of_free free, State.queueAnswer, State.queueRead, if_neg (by decide), if_pos rfl,
      State.qHeadRead_of_clean clean]
    rfl
  case popBad =>
    intro src n s there chip issues free permitted on items bad
    have reads : s.qReads n = true := by simp [State.qReads, on, items]
    refine congrArg Host.Outcome.next ((State.queueAccess_read there chip issues permitted).trans ?_)
    rw [State.queueGet_of_free free, State.queueAnswer, State.queueRead, if_pos rfl,
      State.qHeadRead_of_bad reads bad]
  case popWaits =>
    rintro src n m t s there chip issues held permitted ⟨master, free⟩
    exact congrArg Host.Outcome.next ((State.queueAccess_read there chip issues permitted).trans
      (State.queueGet_of_held held master free))
  case heldDone =>
    rintro n i g h s place push ⟨_, room⟩ free
    exact congrArg Host.Outcome.next (State.heldDone_of_room place push room free)
  case acquire =>
    intro pid n s there enabled
    rw [exec_semAcquire there, if_neg (by simp [enabled])]
    exact ⟨fun free => next_if_pos free rfl, fun held => next_if_neg held rfl⟩
  case acquireOff =>
    intro pid n s there disabled
    rw [exec_semAcquire there, if_pos disabled]
  case release =>
    exact fun _ _ _ _ there =>
      ⟨fun owner own enabled => exec_semRelease_of_owner there owner own enabled,
        fun bad => exec_semRelease_of_bad there bad⟩
  case reclaim => exact fun _ _ asked held => next_if_pos ⟨rfl, asked, held⟩ rfl
  case reclaimOther => exact fun _ _ _ other => next_if_neg (fun h => other h.1) rfl

end Sys2Proof.Machine
end

section
/-! The checks of the enclave's opcodes (R420, R421, R443): when each lets an operation go ahead. -/
namespace Sys2Proof.Machine

variable {s : State} {d : Desc} {k : State} {l : List (Option Nat)}

/-- An operation goes ahead where no check refuses. -/
theorem State.encTry_of_clear (clear : ∀ x ∈ l, x = none) : s.encTry d l k = k := by
  have none : l.findSome? id = none := by simpa using clear
  unfold State.encTry
  rw [none]

@[simp] theorem failIf_eq_none {b : Bool} {st : Nat} : failIf b st = none ↔ b = false := by
  cases b <;> simp [failIf]

theorem failIf_of_true {b : Bool} (st : Nat) (h : b = true) : failIf b st = some st := if_pos h

@[simp] theorem State.adminOnly_eq_none : s.adminOnly d = none ↔ s.encAdmin d = true := by
  simp [State.adminOnly]

@[simp] theorem State.needIdentity_eq_none : s.needIdentity = none ↔ s.unravelled = false := failIf_eq_none

@[simp] theorem State.slotUsed_eq_none {n : Nat} : s.slotUsed n = none ↔ (s.keySlot n).ty = 0 := by
  simp [State.slotUsed]

/-- An administrative opcode of any other partition is not permitted. -/
theorem State.encTry_of_stranger (stranger : s.encAdmin d = false) (l : List (Option Nat)) (k : State) :
    s.encTry d (s.adminOnly d :: l) k = s.finish d St.NOTPERMIT 0 := by
  rw [State.adminOnly, failIf_of_true St.NOTPERMIT (by simp [stranger])]
  rfl

end Sys2Proof.Machine
end

section
/-! The key opcodes (R419 to R423, R439): what each does once its checks have passed. -/
namespace Sys2Proof.Machine

variable {s : State} {d : Desc} {k n u : Nat}

/-- KEY_GENERATE of a valid policy into a free slot stores a fresh key, or fails with the generator. -/
theorem State.keyGenerate_of_free {healthy : Bool} (admin : s.encAdmin d = true) (policy : d.policyBad = false)
    (secret : u8 d.raw 21 ≠ 4) (identity : s.unravelled = false) (free : (s.keySlot (u8 d.raw 20)).ty = 0) :
    s.keyGenerate healthy d =
      if healthy then ((s.setKeySlot (u8 d.raw 20) (d.target (if u8 d.raw 21 = 3 then
        privOf (s.randBytes (typeLen (u8 d.raw 21))) else s.randBytes (typeLen (u8 d.raw 21))))).drawn).finish d St.OK 0
      else (s.raise F.ENC_EVT_RNG_FAIL).finish d St.RNG_FAIL 0 := by
  refine (State.encTry_of_clear (by simp [admin, policy, secret, identity, free])).trans ?_
  cases healthy <;> rfl

/-- KEY_DERIVE from the roots starts its derivation. -/
theorem State.keyDerive_of_roots (admin : s.encAdmin d = true) (policy : d.policyBad = false)
    (source : u8 d.raw 23 = 0xFF) (least : 0 < u8 d.raw 28) (most : u8 d.raw 28 ≤ 64) (len : d.len = u8 d.raw 28)
    (identity : s.unravelled = false) (free : (s.keySlot (u8 d.raw 20)).ty = 0) :
    s.keyDerive d = s.encBegin d (s.derive s.roots (d.buf.take (u8 d.raw 28)) d.policy (u8 d.raw 21)) [] 0 := by
  simp only [State.keyDerive, source]
  exact State.encTry_of_clear (by simp [admin, policy, Nat.ne_of_gt least, most, len, identity, free])

/-- The input key material that slot `k` gives KEY_DERIVE: its key, or the secret shared with the public key after the
label. -/
def State.slotIkm (s : State) (d : Desc) (k : Nat) : Option Bytes :=
  if (s.keySlot k).ty = 3 then dh384 (s.keySlot k).key (d.buf.drop (u8 d.raw 28)) else some (s.keySlot k).key

/-- KEY_DERIVE from a slot starts its derivation. -/
theorem State.keyDerive_of_slot {ikm : Bytes} (admin : s.encAdmin d = true) (policy : d.policyBad = false)
    (source : u8 d.raw 23 = k) (isSlot : k ≤ 63) (least : 0 < u8 d.raw 28) (most : u8 d.raw 28 ≤ 64)
    (usable : s.slotCheck d k Ops.DERIVE = none)
    (len : d.len = if (s.keySlot k).ty = 3 then u8 d.raw 28 + 97 else u8 d.raw 28) (material : s.slotIkm d k = some ikm)
    (free : (s.keySlot (u8 d.raw 20)).ty = 0) :
    s.keyDerive d = s.encBegin d (s.derive ikm (d.buf.take (u8 d.raw 28)) d.policy (u8 d.raw 21)) [] 0 := by
  have fromSlot : (k != 0xFF) = true := by simpa using Nat.ne_of_lt (Nat.lt_of_le_of_lt isSlot (by decide))
  unfold State.slotIkm at material
  simp only [State.keyDerive, source, fromSlot, material]
  refine State.encTry_of_clear ?_
  simp [admin, policy, isSlot, Nat.ne_of_gt least, most, usable, len, free]

/-- KEY_IMPORT unwraps a key whose tag matches. -/
theorem State.keyImport_of_slot (admin : s.encAdmin d = true) (policy : d.policyBad = false) (slot : u8 d.raw 23 = u)
    (isSlot : u ≤ 63) (size : n = typeLen (u8 d.raw 21)) (len : d.len = 28 + n) (usable : s.slotCheck d u Ops.GCM = none)
    (free : (s.keySlot (u8 d.raw 20)).ty = 0) :
    s.keyImport d =
      if gcmTag (s.keySlot u).key (d.buf.take 12) d.policy (slice d.buf 12 n) = slice d.buf (12 + n) 16 then
        (s.setKeySlot (u8 d.raw 20)
          (d.target (gcmText (s.keySlot u).key (d.buf.take 12) (slice d.buf 12 n)))).finish d St.OK 0
      else s.finish d St.TAG_BAD 0 := by
  subst slot size
  simp only [State.keyImport]
  split
  case isTrue whole => exact State.encTry_of_clear (by simp [admin, policy, isSlot, len, usable, free, whole])
  case isFalse torn =>
    have args : failIf (d.policyBad || decide (63 < u8 d.raw 23) || d.len != 28 + typeLen (u8 d.raw 21)) St.BADARG =
        none := failIf_eq_none.mpr (by simp [policy, isSlot, len])
    rw [State.adminOnly_eq_none.mpr admin, args, usable, State.slotUsed_eq_none.mpr free,
      failIf_of_true St.TAG_BAD (by simpa using torn)]
    rfl

/-- KEY_ERASE by a partition that may frees a slot in use and returns its type. -/
theorem State.keyErase_of_used (slot : u8 d.raw 20 = k) (isSlot : k ≤ 63) (closed : s.enc.debug = false)
    (identity : s.unravelled = false) (used : (s.keySlot k).ty ≠ 0)
    (may : s.encAdmin d = true ∨ bitOf (s.keySlot k).pmask (s.dPid d) = true) :
    s.keyErase d = (s.setKeySlot k (keySlotDefault k)).finish d St.OK (s.keySlot k).ty := by
  subst slot
  refine State.encTry_of_clear ?_
  rcases may with may | may <;> simp [isSlot, closed, identity, used, may]

/-- PUBKEY_READ of 0xFF returns the key that signs statements. -/
theorem State.pubkeyRead_of_signer (identity : s.unravelled = false) (room : s.outCheck d 97 = none)
    (signer : u8 d.raw 20 = 0xFF) :
    s.pubkeyRead d = s.finishBuf d d.outOff (pubOf s.signer) St.OK 97 := by
  simp only [State.pubkeyRead, signer]
  exact State.encTry_of_clear (by simp [identity, room])

/-- PUBKEY_READ of a slot returns the public key that it holds, or that of its private key. -/
theorem State.pubkeyRead_of_slot (identity : s.unravelled = false) (room : s.outCheck d 97 = none)
    (slot : u8 d.raw 20 = k) (isSlot : k ≤ 63) (closed : s.enc.debug = false)
    (named : bitOf (s.keySlot k).pmask (s.dPid d) = true) (ty : (s.keySlot k).ty = 3 ∨ (s.keySlot k).ty = 4) :
    s.pubkeyRead d = s.finishBuf d d.outOff
      (if (s.keySlot k).ty = 3 then pubOf (s.keySlot k).key else (s.keySlot k).key) St.OK 97 := by
  have notSigner : k ≠ 0xFF := by omega
  simp only [State.pubkeyRead, slot, if_neg notSigner]
  refine State.encTry_of_clear ?_
  rcases ty with ty | ty <;> simp [isSlot, closed, identity, named, room, ty]

/-- Settles O31: the command takes the round's descriptor, and each clause is the rule above of its operation; an
administrative one asks first for an administrator. -/
theorem keyCommandsComplete : Obligations.KeyCommandsComplete := by
  unfold Obligations.KeyCommandsComplete
  refine ⟨?generate, ?deriveRoots, ?deriveSlot, ?unwrap, ?erase, ?pubkey, ?custkey, ?stranger⟩
  case generate =>
    exact fun _ _ _ _ cur admin policy secret identity free =>
      next_withOp cur (State.keyGenerate_of_free admin policy secret identity free)
  case deriveRoots =>
    rintro r d s cur admin policy ⟨source, least, most, len⟩ identity free
    exact next_withOp cur (State.keyDerive_of_roots admin policy source least most len identity free)
  case deriveSlot =>
    rintro r k ikm d s cur admin policy ⟨source, isSlot, least, most⟩ usable len material free
    exact next_withOp cur (State.keyDerive_of_slot admin policy source isSlot least most usable len material free)
  case unwrap =>
    rintro r u n d s cur admin policy ⟨slot, isSlot, size, len⟩ usable free
    exact next_withOp cur (State.keyImport_of_slot admin policy slot isSlot size len usable free)
  case erase =>
    rintro r k d s cur ⟨slot, isSlot⟩ closed identity used may
    exact next_withOp cur (State.keyErase_of_used slot isSlot closed identity used may)
  case pubkey =>
    intro r k d s cur slot identity room
    refine ⟨fun signer => next_withOp cur (State.pubkeyRead_of_signer identity room (slot.trans signer)),
      fun isSlot closed named priv => next_withOp cur ?_, fun isSlot closed named pub => next_withOp cur ?_⟩
    · rw [State.pubkeyRead_of_slot identity room slot isSlot closed named (.inl priv), if_pos priv]
    · rw [State.pubkeyRead_of_slot identity room slot isSlot closed named (.inr pub), if_neg (by simp [pub])]
  case custkey =>
    rintro r n d s cur admin ⟨rfl, there, len⟩ free
    exact next_withOp cur (State.encTry_of_clear (by simp [admin, there, len, free]))
  case stranger =>
    intro r healthy d s stranger
    refine ⟨?_, ?_, ?_, ?_, ?_, ?_, ?_, ?_⟩ <;>
      exact fun cur => next_withOp cur (State.encTry_of_stranger stranger _ _)

end Sys2Proof.Machine
end

section
/-! The opcodes that use keys (R420, R440, R443): signatures, MACs, sealed data and statements. -/
namespace Sys2Proof.Machine

variable {s : State} {d : Desc} {k n m : Nat}

/-- SIGN of a digest by a usable slot starts. -/
theorem State.signOp_of_slot (slot : u8 d.raw 20 = k) (isSlot : k ≤ 63) (len : d.len = 48)
    (usable : s.slotCheck d k Ops.SIGN = none) (room : s.outCheck d 96 = none) :
    s.signOp d = s.encBegin d (s.keySlot k).key [] 0 := by
  subst slot
  exact State.encTry_of_clear (by simp [isSlot, len, usable, room])

/-- VERIFY by a usable slot starts with the slot's public key. -/
theorem State.verifyOp_of_slot (slot : u8 d.raw 20 = k) (isSlot : k ≤ 63) (len : d.len = 144)
    (usable : s.slotCheck d k Ops.VERIFY = none) :
    s.verifyOp d =
      s.encBegin d (if (s.keySlot k).ty = 3 then pubOf (s.keySlot k).key else (s.keySlot k).key) [] 0 := by
  subst slot
  exact State.encTry_of_clear (by simp [isSlot, len, usable])

/-- CMAC by a usable slot returns the first bytes of the tag. -/
theorem State.cmacOp_of_slot (slot : u8 d.raw 20 = k) (isSlot : k ≤ 63) (size : u8 d.raw 21 = n) (least : 4 ≤ n)
    (most : n ≤ 16) (usable : s.slotCheck d k Ops.CMAC = none) (room : s.outCheck d n = none) :
    s.cmacOp d = s.finishBuf d d.outOff ((cmacOf (s.keySlot k).key d.buf).take n) St.OK 0 := by
  subst slot size
  exact State.encTry_of_clear (by simp [isSlot, least, most, usable, room])

/-- GCM_SEAL by a usable slot returns vector, text and tag, and counts the slot's counter. -/
theorem State.gcmSeal_of_slot (slot : u8 d.raw 20 = k) (isSlot : k ≤ 63) (header : u32 d.raw 28 = n) (within : n ≤ d.len)
    (usable : s.slotCheck d k Ops.GCM = none) (room : s.outCheck d (d.len - n + 28) = none) :
    s.gcmSeal d =
      let iv := ivOf (s.gcmCtr k)
      let ct := gcmText (s.keySlot k).key iv (d.buf.drop n)
      let out := iv ++ ct ++ gcmTag (s.keySlot k).key iv (d.buf.take n) ct
      (s.onEnc fun e => { e with ctr := storeSet cntDefault e.ctr k (s.gcmCtr k + 1), stale := false }).finishBuf d
        d.outOff out St.OK out.length := by
  subst slot header
  exact State.encTry_of_clear (by simp [isSlot, within, usable, room])

/-- GCM_OPEN by a usable slot returns the text, or zeros where the tag does not match. -/
theorem State.gcmOpen_of_slot (slot : u8 d.raw 20 = k) (isSlot : k ≤ 63) (header : u32 d.raw 28 = n)
    (text : m = d.len - n - 28) (least : n + 28 ≤ d.len) (usable : s.slotCheck d k Ops.GCM = none)
    (room : s.outCheck d m = none) :
    s.gcmOpen d =
      if gcmTag (s.keySlot k).key (d.buf.take 12) (slice d.buf 12 n) (slice d.buf (12 + n) m) =
          slice d.buf (12 + n + m) 16 then
        s.finishBuf d d.outOff (gcmText (s.keySlot k).key (d.buf.take 12) (slice d.buf (12 + n) m)) St.OK m
      else s.finishBuf d d.outOff (zeros m) St.TAG_BAD 0 := by
  subst slot header text
  refine (State.encTry_of_clear (by simp [isSlot, least, usable, room])).trans ?_
  simp only [beq_iff_eq]

/-- ATTEST with a nonce of 8 to 64 bytes starts where its output has room. -/
theorem State.attest_of_nonce (size : u8 d.raw 20 = n) (least : 8 ≤ n) (most : n ≤ 64) (len : d.len = n)
    (identity : s.unravelled = false) :
    s.attest d = match s.outCheck d (s.statement d.buf).length with
      | none => s.encBegin d [] [] 0
      | some st => s.finish d st 0 := by
  subst size
  have args : failIf (decide (u8 d.raw 20 < 8) || decide (64 < u8 d.raw 20) || d.len != u8 d.raw 20) St.BADARG = none :=
    failIf_eq_none.mpr (by simp [least, most, len])
  unfold State.attest
  dsimp only
  rw [args, State.needIdentity_eq_none.mpr identity]
  cases s.outCheck d (s.statement d.buf).length with
  | none => rfl
  | some st => rfl

/-- Settles O32: the command takes the round's descriptor, and each clause is the rule above of its operation. -/
theorem cryptoCommandsComplete : Obligations.CryptoCommandsComplete := by
  unfold Obligations.CryptoCommandsComplete
  refine ⟨?sign, ?verify, ?cmac, ?sealed, ?opened, ?attest⟩
  case sign =>
    rintro r k d s cur ⟨slot, isSlot, len⟩ usable room
    exact next_withOp cur (State.signOp_of_slot slot isSlot len usable room)
  case verify =>
    rintro r k d s cur ⟨slot, isSlot, len⟩ usable
    exact next_withOp cur (State.verifyOp_of_slot slot isSlot len usable)
  case cmac =>
    rintro r k n d s cur ⟨slot, isSlot, size, least, most⟩ usable room
    exact next_withOp cur (State.cmacOp_of_slot slot isSlot size least most usable room)
  case sealed =>
    rintro r k n d s cur ⟨slot, isSlot, header, within⟩ usable room
    exact next_withOp cur (State.gcmSeal_of_slot slot isSlot header within usable room)
  case opened =>
    rintro r k n m d s cur ⟨slot, isSlot, header, text, least⟩ usable room
    exact next_withOp cur (State.gcmOpen_of_slot slot isSlot header text least usable room)
  case attest =>
    rintro r n d s cur ⟨size, least, most, len⟩ identity
    refine next_withOp cur ((State.attest_of_nonce size least most len identity).trans ?_)
    cases s.outCheck d (s.statement d.buf).length with
    | none => rfl
    | some st => rfl

end Sys2Proof.Machine
end

section
/-! Challenges and tokens (R428, R429, R438, R439), and tamper (R418, R433). -/
namespace Sys2Proof.Machine

variable {s : State} {d : Desc}

/-- A token spends the challenge, and one that is not accepted is counted. -/
theorem State.withToken_eq (s : State) (d : Desc) (kind : Nat) (k : State → State) :
    s.withToken d kind k =
      if s.tokenOk d.buf kind then k (s.onEnc fun e => { e with chal := none })
      else ((s.onEnc fun e => { e with chal := none }).count C.ENC_TOKEN_BAD).finish d St.TOKEN_BAD 0 := (rfl)

/-- Sixty seconds after it was given a challenge ends. -/
theorem exec_challengeExpiry_of_due {c t : Nat} (given : s.enc.chal = some (c, t)) (due : t + 60000000000 ≤ s.now) :
    exec .challengeExpiry s = .next (s.onEnc fun e => { e with chal := none }) := by
  show execChallengeExpiry s = _
  simp only [execChallengeExpiry, given]
  exact next_if_pos due rfl

/-- ENROL by an administrator, with a healthy generator and a free record, starts once its token is accepted. -/
theorem State.enrol_of_free {u : State} {n : Nat} (admin : s.encAdmin d = true) (room : s.outCheck d 97 = none)
    (spent : u = s.onEnc fun e => { e with chal := none }) (free : u.enrolRec (u8 d.buf 2) = some n) :
    s.enrol true d =
      if s.tokenOk d.buf 2 then ((u.encBegin d (privOf (u.drawn.randBytes 48)) (u.randBytes 48) n).drawn).drawn
      else (u.count C.ENC_TOKEN_BAD).finish d St.TOKEN_BAD 0 := by
  subst spent
  refine (State.encTry_of_clear (by simp [admin, room])).trans ?_
  rw [State.withToken_eq]
  simp only [free]
  rfl

/-- Settles O33: an opcode takes the round's descriptor, passes its checks and spends the challenge; each other clause is
its event's one condition, which the clause gives. -/
theorem enclaveLifeCommandsComplete : Obligations.EnclaveLifeCommandsComplete := by
  unfold Obligations.EnclaveLifeCommandsComplete
  refine ⟨?tamper, ?vbak, ?expiry, ?challenge, ?debug, ?revoke, ?enrol⟩
  case tamper => exact fun _ _ _ line watched => next_if_neg line (if_pos watched)
  case vbak => exact fun _ _ => next_if_pos rfl rfl
  case expiry => exact fun _ _ _ given due => exec_challengeExpiry_of_due given due
  case challenge => exact fun _ _ _ cur admin => next_withOp cur (State.encTry_of_clear (by simp [admin]))
  case debug =>
    rintro r d s _ cur admin unfused rfl
    exact next_withOp cur ((State.encTry_of_clear (by simp [admin, unfused])).trans (s.withToken_eq d 1 _))
  case revoke =>
    rintro r d s _ cur admin rfl
    exact next_withOp cur ((State.encTry_of_clear (by simp [admin])).trans (s.withToken_eq d 3 _))
  case enrol => exact fun _ _ _ _ _ cur admin room spent free => next_withOp cur (State.enrol_of_free admin room spent free)

end Sys2Proof.Machine
end

section
/-! The Igion service protocol (R463, R464): how a request reaches its operation, and what each operation does. -/
namespace Sys2Proof.Machine

variable {s t : State} {f : Bytes} {m : IgMsg} {x : IgSession} {op : Nat} {k : IgMsg → State → State}

/-- A malformed message for the service is counted. -/
theorem State.igAs_of_malformed (up : s.isUp 20 = true) (igion : s.isIgion f = true) (bad : igMsg f = none) :
    s.igAs op f k = s.count C.BOO_IGION_DROP := by
  simp [State.igAs, up, igion, bad]

/-- A well-formed request of the operation, while Igion is permitted, is performed by it; its session is kept alive. -/
theorem State.igAs_of_request (up : s.isUp 20 = true) (igion : s.isIgion f = true) (msg : igMsg f = some m)
    (isOp : m.op = op) (permitted : s.igPermitted = true) : s.igAs op f k = k m (s.igTouch m.ask) := by
  simp [State.igAs, State.igRun, up, igion, msg, isOp, permitted]

/-- A request that names the session's id is of the session. -/
theorem State.inSession_of_id {a : IgAsk} (session : s.boo.session = some x) (id : x.id = a.id) :
    s.inSession a = true := by
  simp [State.inSession, session, id]

/-- OPEN of an image that fits, without a session and with staging unclaimed, claims and erases staging. -/
theorem State.igOpen_of_free (noSession : s.boo.session = none) (size : m.data.length = 4)
    (fits : u32 m.data 0 ≤ areaSize) (free : s.mayClaim = true) :
    s.igOpen m =
      let u := (s.claim 1).onBoo fun b => { b with session := some ⟨m.ask.id, u32 m.data 0, [], s.now⟩ }
      ((u.eraseStaging (u32 m.data 0) .igErase).raise F.BOO_EVT_IGION).igReply m.ask 2 Ig.WAIT :=
  (if_neg (by simp [noSession])).trans ((if_neg (by omega)).trans (if_neg (by simp [free])))

/-- DATA of the session inside its image is acknowledged where known, and programmed where not. -/
theorem State.igData_of_session (session : s.boo.session = some x) (id : x.id = m.ask.id) (aligned : m.ask.off % 1024 = 0)
    (some_data : 0 < m.data.length) (inside : m.ask.off + m.data.length ≤ x.total) :
    s.igData m =
      if x.done.contains (m.ask.off / 1024) then s.igReply m.ask 3 Ig.OK
      else s.programPages (areaBase Area.STAGING + m.ask.off) (stageData m.ask.off m.data) (.igData m.ask) := by
  simp only [State.igData, session]
  exact (if_neg (not_not_intro id)).trans (if_neg (by omega))

/-- COMMIT of the session ends it: OK where the image is whole and its CRC matches, BAD where not. -/
theorem State.igCommit_of_session (session : s.boo.session = some x) (id : x.id = m.ask.id) :
    s.igCommit m =
      if !s.igErasing && x.full && s.stagedCrcOk then (s.igEnd.stagedReady.igReply m.ask 4 Ig.OK).serviceApply
      else s.igEnd.igReply m.ask 4 Ig.BAD := by
  simp only [State.igCommit, session]
  exact if_neg (not_not_intro id)

/-- A session without requests for 60 s ends, and with it its claim. -/
theorem exec_igionSessionTimeout_of_due (session : s.boo.session = some x) (due : x.lastAt + 60000000000 ≤ s.now) :
    exec .igionSessionTimeout s = .next s.igEnd := by
  show execIgionSessionTimeout s = _
  simp only [execIgionSessionTimeout, session]
  exact next_if_pos due rfl

/-- Settles O34: a request reaches its operation by `State.igAs_of_request`, and each clause is then the rule above of
that operation. -/
theorem serviceLinkCommandsComplete : Obligations.ServiceLinkCommandsComplete := by
  unfold Obligations.ServiceLinkCommandsComplete
  refine ⟨?arp, ?malformed, ?helloReset, ?opened, ?data, ?commitAbort, ?timeout⟩
  case arp =>
    intro f s up arp
    exact next_if_pos (by simp [up, arp]) rfl
  case malformed =>
    intro f s up igion bad
    exact congrArg Host.Outcome.next (State.igAs_of_malformed up igion bad)
  case helloReset =>
    rintro f m s t up igion msg permitted rfl
    refine ⟨fun isOp => ?_, fun isOp resets => ?_, fun isOp resets => ?_⟩
    · exact congrArg Host.Outcome.next (State.igAs_of_request up igion msg isOp permitted)
    · exact congrArg Host.Outcome.next ((State.igAs_of_request up igion msg isOp permitted).trans (if_pos resets))
    · exact congrArg Host.Outcome.next
        ((State.igAs_of_request up igion msg isOp permitted).trans (if_neg (by simp [resets])))
  case opened =>
    rintro f m s t up igion msg isOp permitted rfl noSession ⟨size, fits⟩ free
    exact congrArg Host.Outcome.next
      ((State.igAs_of_request up igion msg isOp permitted).trans (State.igOpen_of_free noSession size fits free))
  case data =>
    rintro f m x s t up igion msg isOp permitted rfl session id ⟨aligned, some_data, inside⟩
    exact congrArg Host.Outcome.next ((State.igAs_of_request up igion msg isOp permitted).trans
      (State.igData_of_session session id aligned some_data inside))
  case commitAbort =>
    rintro f m x s t up igion msg permitted rfl session id
    refine ⟨fun isOp => ?_, fun isOp => ?_⟩
    · exact congrArg Host.Outcome.next
        ((State.igAs_of_request up igion msg isOp permitted).trans (State.igCommit_of_session session id))
    · exact congrArg Host.Outcome.next
        ((State.igAs_of_request up igion msg isOp permitted).trans (if_pos (State.inSession_of_id session id)))
  case timeout =>
    intro x s session due
    exact exec_igionSessionTimeout_of_due session due

end Sys2Proof.Machine
end

section
/-! The frames of a chain update (R465 to R467): how one reaches the operation of its kind, and what each does. -/
namespace Sys2Proof.Machine

variable {s : State} {p : Nat} {f b : Bytes} {i : ChainIn} {c : ChainOut} {kinds : List Nat}
  {k : Nat → Bytes → State → State}

/-- A permitted chain frame with a sound header is performed by the operation of its kind. -/
theorem State.chainAs_of_kind (up : s.isUp p = true) (chain : s.isChain p f = true) (permitted : s.chainPermitted = true)
    (payload : (stripTag f).drop 14 = b) (sound : chainHeaderOk b = true) (kind : u8 b 0 ∈ kinds) :
    s.chainAs p f kinds k = k p b s := by
  subst payload
  simp [State.chainAs, up, chain, permitted, sound, kind]

/-- START of a new image, with staging unclaimed, claims and erases staging and goes on to the next port. -/
theorem State.chainStart_of_new (isIn : i = ⟨p, u32 b 4, u32 b 12, u8 b 2, [], s.now⟩) (hops : i.hop ≤ 31)
    (least : 0 < i.blocks) (most : i.blocks ≤ areaSize / 4096) (idle : s.boo.chainIn = none)
    (new : s.hasImage i.image = false) (free : s.mayClaim = true) :
    s.chainStart p b =
      ((((s.claim 2).onBoo fun t => { t with chainIn := some i }).put F.BOO_CHAIN_STAT_STORED 0).eraseStaging
        (4096 * i.blocks) .chErase).forward i := by
  subst isIn
  exact (if_neg (Nat.not_lt.mpr hops)).trans ((if_neg (by simp [idle])).trans ((if_neg (ne_true_of_eq_false new)).trans
    (if_neg (by simp [free, Nat.pos_iff_ne_zero.mp least, Nat.not_lt.mpr most]))))

/-- BLOCK of the reception under way, inside its image, is refused, acknowledged where known, or programmed. -/
theorem State.chainBlock_of_reception (reception : s.inOf p b = some i) (inside : u32 b 8 < i.blocks) :
    s.chainBlock p b =
      let u := s.updIn fun x => { x with heardAt := s.now }
      if b.length < 4128 ∨ u32 b 16 ≠ crc32 (slice b 32 4096) then u.chainDrop.chainSay i Chain.NAK (u32 b 8)
      else if i.done.contains (u32 b 8) then u.chainSay i Chain.ACK (u32 b 8)
      else if u.boo.ops.any fun o => o.who == .chBlock (u32 b 8) then u
      else u.programPages (areaBase Area.STAGING + 4096 * u32 b 8) (stageData (4096 * u32 b 8) (slice b 32 4096))
        (.chBlock (u32 b 8)) := by
  simp only [State.chainBlock, reception]
  exact if_neg (Nat.not_le.mpr inside)

/-- END of the reception under way completes its image where it is whole, and ends the reception either way. -/
theorem State.chainEnd_of_reception (reception : s.inOf p b = some i) :
    s.chainEnd p b =
      if i.done.length = i.blocks && s.stagedCrcOk && dirCrc (s.areaDir Area.STAGING) == i.image then
        (((s.onBoo fun t => { t with chainIn := none }).stagedReady).chainSay i Chain.ACK (u32 b 8)).outPump (1 - p)
      else (s.inEnd i).chainSay i Chain.NAK (u32 b 8) := by
  simp only [State.chainEnd, reception]

/-- ACK or NAK of the outgoing transfer's image moves the transfer. -/
theorem State.chainAck_of_transfer (transfer : s.chainOutAt p = some c) (image : c.image = u32 b 4) :
    s.chainAck p b = if u8 b 0 = Chain.ACK then s.outAck c (u32 b 8) else s.outNak c (u32 b 8) := by
  simp only [State.chainAck, transfer]
  exact if_neg (not_not_intro image)

/-- What a begun transfer has in flight unacknowledged for 50 ms goes out again. -/
theorem State.outRepeat_of_begun (transfer : s.chainOutAt p = some c) (begun : c.begun = true) :
    s.outRepeat p = forEach (c.flight.filter fun x => decide (x.2.1 + 50000000 ≤ s.now))
      (fun x t => match t.chainOutAt p with | some d => t.outAgain d x.1 | none => t) s := by
  simp only [State.outRepeat, transfer]
  exact if_pos begun

/-- A START unacknowledged for 1 s goes out again, up to 60 times. -/
theorem State.outRepeat_of_start (transfer : s.chainOutAt p = some c) (begun : c.begun = false)
    (due : c.startAt + 1000000000 ≤ s.now) (starts : c.starts ≤ 60) :
    s.outRepeat p =
      ((s.updOut p fun c => { c with starts := c.starts + 1, startAt := s.now }).count C.BOO_CHAIN_RETX).chainTx p
        Chain.START c.hop c.image chainStartIdx c.blocks := by
  simp only [State.outRepeat, transfer]
  exact (if_neg (ne_true_of_eq_false begun)).trans ((if_neg (Nat.not_lt.mpr due)).trans (if_neg (Nat.not_lt.mpr starts)))

/-- A reception unheard for 10 s ends. -/
theorem exec_chainRxTimeout_of_due (reception : s.boo.chainIn = some i) (due : i.heardAt + 10000000000 ≤ s.now) :
    exec .chainRxTimeout s = .next (s.inEnd i) := by
  show execChainRxTimeout s = _
  simp only [execChainRxTimeout, reception]
  exact next_if_pos due rfl

/-- Settles O35: a frame reaches its operation by `State.chainAs_of_kind`, and each clause is then the rule above of that
operation. -/
theorem chainUpdateCommandsComplete : Obligations.ChainUpdateCommandsComplete := by
  unfold Obligations.ChainUpdateCommandsComplete
  refine ⟨?start, ?block, ?ended, ?ack, ?again, ?timeout⟩
  case start =>
    rintro p f b i s u up chain permitted payload sound kind isIn ⟨hops, least, most⟩ idle new free rfl
    exact congrArg Host.Outcome.next
      ((State.chainAs_of_kind up chain permitted payload sound (by simp [kind, Chain.START])).trans
        (State.chainStart_of_new isIn hops least most idle new free))
  case block =>
    rintro p f b i s u up chain permitted payload sound kind reception rfl inside
    exact congrArg Host.Outcome.next
      ((State.chainAs_of_kind up chain permitted payload sound (by simp [kind, Chain.BLOCK])).trans
        (State.chainBlock_of_reception reception inside))
  case ended =>
    intro p f b i s up chain permitted payload sound kind reception
    exact congrArg Host.Outcome.next
      ((State.chainAs_of_kind up chain permitted payload sound (by simp [kind, Chain.END])).trans
        (State.chainEnd_of_reception reception))
  case ack =>
    intro p f b c s up chain permitted payload sound transfer image
    refine ⟨fun kind => ?_, fun kind => ?_⟩
    · exact congrArg Host.Outcome.next
        ((State.chainAs_of_kind up chain permitted payload sound (by simp [kind, Chain.ACK])).trans
          ((State.chainAck_of_transfer transfer image).trans (if_pos kind)))
    · exact congrArg Host.Outcome.next
        ((State.chainAs_of_kind up chain permitted payload sound (by simp [kind, Chain.NAK])).trans
          ((State.chainAck_of_transfer transfer image).trans (if_neg (by simp [kind, Chain.NAK, Chain.ACK]))))
  case again =>
    intro p c s transfer
    refine ⟨fun begun => ?_, fun begun due starts => ?_⟩
    · exact congrArg Host.Outcome.next (State.outRepeat_of_begun transfer begun)
    · exact congrArg Host.Outcome.next (State.outRepeat_of_start transfer begun due starts)
  case timeout =>
    intro i s reception due
    exact exec_chainRxTimeout_of_due reception due

end Sys2Proof.Machine
end

section
/-! The opcodes of the boot unit (R454, R467, R470), the end of a flash operation (R62), the confirmation and the trial's
end (R457, R458). -/
namespace Sys2Proof.Machine

variable {s : State} {d : Desc} {p : Nat}

/-- STAGE_ERASE by an allowed partition while nothing else writes claims staging. -/
theorem State.stageErase_of_free (noBuf : d.noBuf = true) (may : s.booMay d = true) (free : s.mayClaim = true) :
    s.stageErase d = (s.claim 3).stageEraseStitch d :=
  (if_neg (by simp [noBuf])).trans ((if_neg (by simp [may])).trans (if_neg (by simp [free])))

/-- CONFIG_WRITE by an allowed partition verifies the container and starts on the copy not in use. -/
theorem State.configWrite_of_idle (len : d.len ≤ 0x400000) (may : s.booMay d = true)
    (idle : (s.rnd.descs.any fun e => e.func == 0x14 && e.opcode == 2 && e.running && e.fin.isNone) = false) :
    s.configWrite d =
      if s.verifyBuf d.buf ≠ 0 then s.lastStitch d St.AREA_BAD (s.verifyBuf d.buf)
      else (s.onBoo fun b => { b with copy := 1 - s.configCopy.getD 1 }).configStitch d :=
  (if_neg (Nat.not_lt.mpr len)).trans ((if_neg (by simp [may])).trans (if_neg (ne_true_of_eq_false idle)))

/-- CHAIN_SEND of a ready staging area that nothing writes starts a transfer on the idle port it names. -/
theorem State.chainSend_of_ready (port : u8 d.raw 20 = p) (isPort : p < 2) (noBuf : d.noBuf = true)
    (may : s.booMay d = true) (idle : s.chainOutAt p = none) (ready : stagingState (s.areaDir Area.STAGING) = 2)
    (unwritten : s.writer = 0) :
    s.chainSend d = (s.stitched d 0 0).outStart p (dirCrc (s.areaDir Area.STAGING))
      (ceilDiv (dirUsed (s.areaDir Area.STAGING)) 4096) 0 (some (d.round, d.slot)) := by
  subst port
  exact (if_neg (by simp [noBuf, isPort])).trans ((if_neg (by simp [may])).trans ((if_neg (by simp [idle])).trans
    (if_neg (by simp [ready, unwritten]))))

/-- The opcodes of the boot unit, well-formed but by a partition without a bit in BOO_CFG_MASK, end with NOTPERMIT. -/
theorem State.booOpcode_of_stranger (stranger : s.booMay d = false) :
    (d.noBuf = true → s.stageErase d = s.lastStitch d St.NOTPERMIT 0) ∧
      (d.len ≤ 0x400000 → s.configWrite d = s.lastStitch d St.NOTPERMIT 0) ∧
      (d.noBuf = true → u8 d.raw 20 < 2 → s.chainSend d = s.lastStitch d St.NOTPERMIT 0) :=
  ⟨fun noBuf => (if_neg (by simp [noBuf])).trans (if_pos (by simp [stranger])),
    fun len => (if_neg (Nat.not_lt.mpr len)).trans (if_pos (by simp [stranger])),
    fun noBuf isPort => (if_neg (by simp [noBuf, isPort])).trans (if_pos (by simp [stranger]))⟩

/-- A flash operation that ends takes effect, answers the reads held for its sector, and its owner goes on. -/
theorem State.flashDone_of_op {w : Nat} {left : Option Bytes} {o : FlashOp}
    (op : (s.boo.ops.find? fun o => o.flash == w) = some o) :
    s.flashDone w left =
      let u := (s.onBoo fun b => { b with ops := dropFirst (fun p => p.flash == w) b.ops }).flashEffect o left
      (u.answerHeld o).opEnded o := by
  simp only [State.flashDone, op]

/-- A trial that runs out orders a warm reset. -/
theorem exec_trialExpiry_of_due {t : Nat} (trial : s.boo.trial = some t) (inTrial : s.get F.BOO_STAT_BOOT_STATE = 2)
    (due : t ≤ s.now) :
    exec .trialExpiry s = .next (((s.bootState 3).onBoo fun b => { b with trial := none }).warmDue 6) := by
  show execTrialExpiry s = _
  simp only [execTrialExpiry, trial]
  exact next_if_pos ⟨inTrial, due⟩ rfl

/-- Settles O36: an opcode's command takes the round's descriptor, and each clause is the rule above of its operation. -/
theorem updateCommandsComplete : Obligations.UpdateCommandsComplete := by
  unfold Obligations.UpdateCommandsComplete
  refine ⟨?stage, ?config, ?send, ?stranger, ?done, ?confirm, ?trial⟩
  case stage =>
    intro r d s cur noBuf may free
    exact next_withOp cur (State.stageErase_of_free noBuf may free)
  case config =>
    intro r d s cur len may idle
    exact next_withOp cur (State.configWrite_of_idle len may idle)
  case send =>
    rintro r p d s cur ⟨port, isPort⟩ noBuf may idle ready unwritten
    exact next_withOp cur (State.chainSend_of_ready port isPort noBuf may idle ready unwritten)
  case stranger =>
    intro r d s stranger
    obtain ⟨stage, config, send⟩ := State.booOpcode_of_stranger stranger
    exact ⟨fun cur noBuf => next_withOp cur (stage noBuf), fun cur len => next_withOp cur (config len),
      fun cur noBuf isPort => next_withOp cur (send noBuf isPort)⟩
  case done =>
    intro w left o s op
    exact congrArg Host.Outcome.next (State.flashDone_of_op op)
  case confirm =>
    intro pid v s key isPartition may inTrial
    exact next_if_pos ⟨key, isPartition, may, inTrial⟩ rfl
  case trial =>
    intro t s trial inTrial due
    exact exec_trialExpiry_of_due trial inTrial due

end Sys2Proof.Machine
end

section
/-! The pair function's switch and timers (R474, R475, R479), and how a pair frame reaches the operation of its KIND
(R471, R472, R476). -/
namespace Sys2Proof.Machine

variable {s : State} {b h body : Bytes} {lane role kind port : Nat}

/-- What a write `w` of PAI_CTL by partition 0 sets before it switches the pair function. -/
def State.paiCtlFields (s : State) (w : Nat) : State :=
  let u := s.put F.PAI_CTL_BEACON_EN (bits w 29 29)
  let u := if 100 ≤ bits w 15 0 ∧ bits w 15 0 ≤ 60000 then u.put F.PAI_CTL_START_MS (bits w 15 0) else u
  u.put F.PAI_CTL_WITNESS (bits w 30 30)

/-- A write of PAI_CTL by partition 0 switches the pair function as its bit 31 says. -/
theorem State.paiCtl_zero (s : State) (w : Nat) :
    s.paiCtl 0 w = if bitOf w 31 then (s.paiCtlFields w).pairEnable else (s.paiCtlFields w).pairDisable := by
  simp [State.paiCtl, State.paiCtlFields]

/-- DEAD_US without a heartbeat declares a live partner dead. -/
theorem exec_partnerDead_of_due {t : Nat} (heard : s.pai.hbAt = some t) (on : s.pairOn = true)
    (alive : s.on F.PAI_STAT_PARTNER_ALIVE = true) (due : t + 1000 * s.get F.PAI_DEAD_DEAD_US ≤ s.now) :
    exec .partnerDead s = .next s.partnerDead := by
  show execPartnerDead s = _
  simp only [execPartnerDead, heard]
  exact next_if_pos (by simp [on, alive, due]) rfl

/-- The KIND of a frame is the first byte of its pair header. -/
theorem frameKind_eq (frame : h = b.drop 14) : frameKind b = u8 h 0 := by
  subst frame
  simp [frameKind, u8]

@[simp] theorem State.pairKind_heartbeat (s : State) (lane role seq time : Nat) (b : Bytes) :
    s.pairKind Kind.HEARTBEAT lane role seq time b = s.beat lane role time b := if_pos rfl

@[simp] theorem State.pairKind_mirror (s : State) (lane role seq time : Nat) (b : Bytes) :
    s.pairKind Kind.MIRROR lane role seq time b = s.mirrorIn seq b := by
  simp [State.pairKind, Kind.HEARTBEAT, Kind.MIRROR]

@[simp] theorem State.pairKind_bridgeReq (s : State) (lane role seq time : Nat) (b : Bytes) :
    s.pairKind Kind.BRIDGE_REQ lane role seq time b = s.bridgeIn b := by
  simp [State.pairKind, Kind.HEARTBEAT, Kind.MIRROR, Kind.BRIDGE_REQ]

@[simp] theorem State.pairKind_bridgeCpl (s : State) (lane role seq time : Nat) (b : Bytes) :
    s.pairKind Kind.BRIDGE_CPL lane role seq time b = s.bridgeCpl b := by
  simp [State.pairKind, Kind.HEARTBEAT, Kind.MIRROR, Kind.BRIDGE_REQ, Kind.BRIDGE_CPL]

@[simp] theorem State.pairKind_term (s : State) (lane role seq time : Nat) (b : Bytes) :
    s.pairKind Kind.TERM lane role seq time b = if u8 b 4 = 1 ∧ s.role = Role.STANDBY then s.promote 0 else s := by
  simp [State.pairKind, Kind.HEARTBEAT, Kind.MIRROR, Kind.BRIDGE_REQ, Kind.BRIDGE_CPL, Kind.TERM]

@[simp] theorem State.pairKind_beacon (s : State) (lane role seq time : Nat) (b : Bytes) :
    s.pairKind Kind.BEACON lane role seq time b = s.beacon b := by
  simp [State.pairKind, Kind.HEARTBEAT, Kind.MIRROR, Kind.BRIDGE_REQ, Kind.BRIDGE_CPL, Kind.TERM, Kind.BEACON]

/-- Only a TERM frame carries a term beside that of its header. -/
theorem frameTerm_of_other (other : kind ≠ Kind.TERM) (term : Nat) (b : Bytes) : frameTerm kind term b = term :=
  if_neg other

theorem frameTerm_of_term (term : Nat) (b : Bytes) : frameTerm Kind.TERM term b = max term (u32 b 0) := if_pos rfl

/-- A pair frame of the other rank and of no lower term shows its sender's role, has its term adopted, and acts by its
KIND. -/
theorem State.pairFrame_of_newer (on : s.pairOn = true) (isPair : etherType b = 0x88B6) (frame : h = b.drop 14)
    (payload : body = slice h 20 (u16 h 16)) (version : u8 h 1 = 1) (rank : u8 h 2 % 2 ≠ s.rank)
    (newer : s.get F.PAI_TERM_TERM ≤ u32 h 4) (hKind : u8 h 0 = kind) (hRole : role = bits (u8 h 2) 3 1) :
    s.pairFrame lane b =
      ((s.put F.PAI_STAT_PARTNER_ROLE role).adopt (frameTerm kind (u32 h 4) body) role).pairKind kind lane role (u32 h 8)
        (u32 h 12) body := by
  subst frame payload hRole hKind
  exact (if_neg (by simp [on])).trans ((if_neg (not_not_intro isPair)).trans ((if_neg (not_not_intro version)).trans
    ((if_neg rank).trans (if_neg (Nat.not_lt.mpr newer)))))

/-- A pair frame of the other rank and of a lower term is discarded as stale. -/
theorem State.pairFrame_of_stale (on : s.pairOn = true) (isPair : etherType b = 0x88B6) (frame : h = b.drop 14)
    (payload : body = slice h 20 (u16 h 16)) (version : u8 h 1 = 1) (rank : u8 h 2 % 2 ≠ s.rank)
    (older : u32 h 4 < s.get F.PAI_TERM_TERM) : s.pairFrame lane b = s.staleTerm (u8 h 0) body := by
  subst frame payload
  exact (if_neg (by simp [on])).trans ((if_neg (not_not_intro isPair)).trans ((if_neg (not_not_intro version)).trans
    ((if_neg rank).trans (if_pos older))))

/-- A term no higher than its own, heard by a module that is not PRIMARY, changes nothing. -/
theorem State.adopt_of_own {term : Nat} (own : term = s.get F.PAI_TERM_TERM) (notPrimary : s.role ≠ Role.PRIMARY) :
    s.adopt term role = s := by
  simp [State.adopt, own, notPrimary]

/-- A BEACON with this module's PAIR_ID from another serial notes its time. -/
theorem State.beacon_of_partner (pair : u32 body 0 = s.get F.PAI_ID_PAIR_ID) (serial : slice body 4 8 ≠ s.serial) :
    s.beacon body = s.onPai fun p => { p with beaconAt := some s.now } :=
  if_pos ⟨pair, serial⟩

/-- A BEACON of the partner, of this module's own term, notes its time at a module that is not PRIMARY. -/
theorem State.beaconFrame_of_partner (on : s.pairOn = true) (isPair : etherType b = 0x88B6) (frame : h = b.drop 14)
    (payload : body = slice h 20 (u16 h 16)) (isBeacon : u8 h 0 = Kind.BEACON) (version : u8 h 1 = 1)
    (rank : u8 h 2 % 2 ≠ s.rank) (pair : u32 body 0 = s.get F.PAI_ID_PAIR_ID) (serial : slice body 4 8 ≠ s.serial)
    (term : u32 h 4 = s.get F.PAI_TERM_TERM) (notPrimary : s.role ≠ Role.PRIMARY) :
    s.beaconFrame port b =
      (s.put F.PAI_STAT_PARTNER_ROLE (bits (u8 h 2) 3 1)).onPai fun p => { p with beaconAt := some s.now } := by
  have own : ∀ v, (s.put F.PAI_STAT_PARTNER_ROLE v).get F.PAI_TERM_TERM = s.get F.PAI_TERM_TERM := fun v =>
    State.put_get_other s _ _ v (by decide)
  have sameRole : ∀ v, (s.put F.PAI_STAT_PARTNER_ROLE v).role = s.role := fun v =>
    State.put_get_disjoint s _ _ v (by decide) (by decide) (by decide)
  have sameSerial : ∀ v, (s.put F.PAI_STAT_PARTNER_ROLE v).serial = s.serial := fun v => by
    simp only [State.serial, State.put, State.wr_rd_other _ F.PAI_STAT_PARTNER_ROLE.reg R.ENC_SERIAL_LO _ (by decide),
      State.wr_rd_other _ F.PAI_STAT_PARTNER_ROLE.reg R.ENC_SERIAL_HI _ (by decide)]
  have samePair : ∀ v, (s.put F.PAI_STAT_PARTNER_ROLE v).get F.PAI_ID_PAIR_ID = s.get F.PAI_ID_PAIR_ID := fun v =>
    State.put_get_other s _ _ v (by decide)
  have heard : s.pairFrame (2 + port) b = (s.put F.PAI_STAT_PARTNER_ROLE (bits (u8 h 2) 3 1)).beacon body := by
    rw [State.pairFrame_of_newer on isPair frame payload version rank (Nat.le_of_eq term.symm) isBeacon rfl,
      frameTerm_of_other (by decide), State.adopt_of_own (term.trans (own _).symm) (by rw [sameRole]; exact notPrimary),
      State.pairKind_beacon]
  have mine : ¬ (u32 body 0 ≠ s.get F.PAI_ID_PAIR_ID ∨ slice body 4 8 = s.serial) := by simp [pair, serial]
  calc s.beaconFrame port b = s.pairFrame (2 + port) b := by
        subst frame payload
        exact if_neg mine
    _ = (s.put F.PAI_STAT_PARTNER_ROLE (bits (u8 h 2) 3 1)).beacon body := heard
    _ = _ := by rw [State.beacon_of_partner (by rw [samePair, pair]) (by rw [sameSerial]; exact serial), State.put_now]

/-- Settles O37: a frame reaches its operation by `State.pairFrame_of_newer`, and each timer's clause is its condition. -/
theorem pairCommandsComplete : Obligations.PairCommandsComplete := by
  unfold Obligations.PairCommandsComplete
  refine ⟨?enable, ?disable, ?beat, ?dead, ?start, ?witness, ?beaconSend, ?frames, ?beacon⟩
  case enable =>
    intro v s
    exact congrArg Host.Outcome.next ((State.paiCtl_zero s _).trans (if_pos (bitOf_setBit v 31)))
  case disable =>
    intro v s
    exact congrArg Host.Outcome.next ((State.paiCtl_zero s _).trans (if_neg (by simp [bitOf_clearBit v 31])))
  case beat =>
    intro s on due
    exact next_if_pos (by simp [on, due]) rfl
  case dead =>
    intro t s heard on alive due
    exact exec_partnerDead_of_due heard on alive due
  case start =>
    intro s on starting due
    exact next_if_pos (by simp [on, starting, State.startFrom, due]) rfl
  case witness =>
    intro s on isolated due
    exact next_if_pos (by simp [on, isolated, due]) rfl
  case beaconSend =>
    intro s primary enabled due
    exact next_if_pos (by simp [primary, enabled, due]) rfl
  case frames =>
    rintro lane b h body role s isLane up on isPair frame payload hRole ⟨version, rank⟩
    have heard : ∀ {kind}, u8 h 0 = kind → s.get F.PAI_TERM_TERM ≤ u32 h 4 → s.laneFrame lane b = _ := fun hKind newer =>
      (if_pos up).trans (State.pairFrame_of_newer on isPair frame payload version rank newer hKind hRole)
    have isKind : ∀ {kind}, u8 h 0 = kind → lane < 2 ∧ frameKind b = kind := fun hKind =>
      ⟨isLane, (frameKind_eq frame).trans hKind⟩
    refine ⟨fun hKind newer => next_if_pos (isKind hKind) ?heartbeat, fun hKind newer => next_if_pos (isKind hKind) ?mirror,
      fun hKind newer => next_if_pos (isKind hKind) ?request, fun hKind newer => next_if_pos (isKind hKind) ?completion,
      fun hKind newer => next_if_pos isLane ?term, fun older => next_if_pos isLane ?stale⟩
    case heartbeat => rw [heard hKind newer, frameTerm_of_other (by decide), State.pairKind_heartbeat]
    case mirror => rw [heard hKind newer, frameTerm_of_other (by decide), State.pairKind_mirror]
    case request => rw [heard hKind newer, frameTerm_of_other (by decide), State.pairKind_bridgeReq]
    case completion => rw [heard hKind newer, frameTerm_of_other (by decide), State.pairKind_bridgeCpl]
    case term => rw [heard hKind newer, frameTerm_of_term, State.pairKind_term]
    case stale => exact (if_pos up).trans (State.pairFrame_of_stale on isPair frame payload version rank older)
  case beacon =>
    rintro port b h body s ⟨isPort, up⟩ isPair frame payload isBeacon on ⟨version, rank⟩ pair serial ⟨term, notPrimary⟩
    exact next_if_pos ⟨isPort, up, isPair, (frameKind_eq frame).trans isBeacon⟩
      (State.beaconFrame_of_partner on isPair frame payload isBeacon version rank pair serial term notPrimary)

end Sys2Proof.Machine
end

section
/-! Mirror repeats (R473), bridge time-outs (R486), crossed transfers (R488) and the hand-over (R489). -/
namespace Sys2Proof.Machine

variable {s : State} {d : Desc}

/-- A MIRROR frame unacknowledged for 50 µs goes out again on the lane found for it. -/
theorem exec_mirrorRetx_of_due {seq l : Nat} {m : Mirrored}
    (due : (s.pai.unacked.find? fun m => m.seq == seq && decide (m.at_ + 50000 ≤ s.now)) = some m)
    (lane : s.otherLane m.lane = some l) :
    exec (.mirrorRetx seq) s = .next (
      let u := (s.laneSend l (s.pairBytes (zeros 6) Kind.MIRROR l seq m.body)).count C.PAI_MIRROR_RETX
      u.onPai fun p => { p with unacked := updFirst (·.seq == seq) (fun m => { m with lane := l, at_ := u.now }) p.unacked }) := by
  show execMirrorRetx seq s = _
  simp only [execMirrorRetx, due, lane]

/-- Once CROSS_US have passed, rank 0 records and counts the request it retracts. -/
theorem State.uncross_of_first {t : Nat} {u : State} {o : BrOut} (crossed : s.pai.crossAt = some t)
    (due : t + 1000 * s.get F.PAI_BRIDGE_CROSS_US ≤ s.now) (isU : u = s.onPai fun p => { p with crossAt := none })
    (rank : s.rank = 0) (request : u.pai.outs.head? = some o) :
    s.uncross =
      (((u.put F.PAI_CROSS_INFO_OP (if o.acc.amo.isSome then 2 else b2n o.acc.write)).put F.PAI_CROSS_INFO_PID
        (u.pidOf o.acc.src)).count C.PAI_CROSS_RETRACT).raise F.PAI_EVT_CROSSED := by
  subst isU
  obtain ⟨rest, outs⟩ := List.head?_eq_some_iff.mp request
  simp only [State.uncross, crossed]
  refine (if_neg (Nat.not_lt.mpr due)).trans ((if_pos rank).trans ?_)
  rw [outs]

/-- Once CROSS_US have passed, rank 1 removes the request of its partner and answers RETRY. -/
theorem State.uncross_of_second {t : Nat} (crossed : s.pai.crossAt = some t)
    (due : t + 1000 * s.get F.PAI_BRIDGE_CROSS_US ≤ s.now) (rank : s.rank ≠ 0) :
    s.uncross = ((s.onPai fun p => { p with crossAt := none }).dropInbound.pairAnswer St.RETRY []).bridgeRun := by
  simp only [State.uncross, crossed]
  exact (if_neg (Nat.not_lt.mpr due)).trans (if_neg rank)

/-- SWITCH by an allowed partition of a synchronised PRIMARY starts the hand-over. -/
theorem State.switchOp_of_synced (may : s.bit F.PAI_CFG_MASK_MASK (s.dPid d) = true) (noBuf : d.noBuf = true)
    (primary : s.isPrimary = true) (synced : s.on F.PAI_STAT_SYNCED = true)
    (alive : s.on F.PAI_STAT_PARTNER_ALIVE = true) (acked : s.pai.unacked = []) (idle : s.pai.sw = none) :
    s.switchOp d = (s.hold d).onPai fun p => { p with sw := some (d.round, d.slot), asked := false } :=
  (if_neg (by simp [may])).trans ((if_neg (by simp [noBuf])).trans ((if_neg (by simp [primary])).trans
    (if_neg (by simp [synced, alive, acked, idle]))))

/-- Settles O38: each clause is the rule above of its command; SWITCH takes the round's descriptor and ends it at the
first condition that fails. -/
theorem pairTransferCommandsComplete : Obligations.PairTransferCommandsComplete := by
  unfold Obligations.PairTransferCommandsComplete
  refine ⟨?mirror, ?bridge, ?cross, ?switch, ?refused⟩
  case mirror =>
    intro seq l m s due lane
    exact exec_mirrorRetx_of_due due lane
  case bridge =>
    intro id s due
    exact next_if_pos due rfl
  case cross =>
    rintro t s u crossed due isU
    refine ⟨fun rank o request => ?_, fun rank => ?_⟩
    · exact congrArg Host.Outcome.next (State.uncross_of_first crossed due isU rank request)
    · subst isU
      exact congrArg Host.Outcome.next (State.uncross_of_second crossed due rank)
  case switch =>
    rintro r d s cur may noBuf primary synced alive ⟨acked, idle⟩
    exact next_withOp cur (State.switchOp_of_synced may noBuf primary synced alive acked idle)
  case refused =>
    intro r d s cur
    refine ⟨fun may => ?_, fun may noBuf => ?_, fun may noBuf primary => ?_, fun may noBuf primary synced => ?_⟩
    · exact next_withOp cur (if_pos (by simp [may]))
    · exact next_withOp cur ((if_neg (by simp [may])).trans (if_pos (by simp [noBuf])))
    · exact next_withOp cur
        ((if_neg (by simp [may])).trans ((if_neg (by simp [noBuf])).trans (if_pos (by simp [primary]))))
    · exact next_withOp cur ((if_neg (by simp [may])).trans ((if_neg (by simp [noBuf])).trans
        ((if_neg (by simp [primary])).trans (if_pos (by simp [synced])))))

end Sys2Proof.Machine
end

section
/-! Function restarts (R494, R495). -/
namespace Sys2Proof.Machine

variable {s : State} {d : Desc} {f : Nat}

/-- A restartable function is one of PRT, AUD, CAN, GWY, LDC and SIO. -/
theorem restartable_of_mem (isOne : f = 5 ∨ f = 7 ∨ f = 9 ∨ f = 10 ∨ f = 12 ∨ f = 13) : restartable f = true := by
  rcases isOne with rfl | rfl | rfl | rfl | rfl | rfl <;> rfl

/-- FUNC_RESTART by an allowed partition only waits for a restart under way, and begins one where there is none. -/
theorem State.funcRestart_of_allowed (function : u8 d.raw 20 = f) (may : s.fltMay d = true)
    (isOne : restartable f = true) :
    s.funcRestart d = if s.restarting f then s.hold d else (s.hold d).restartFunc f := by
  subst function
  exact (if_neg (by simp [may])).trans (if_neg (by simp [isOne]))

/-- Settles O39: each clause is the condition of its command, FUNC_RESTART's by `State.funcRestart_of_allowed`. -/
theorem functionRestartCommandsComplete : Obligations.FunctionRestartCommandsComplete := by
  unfold Obligations.FunctionRestartCommandsComplete
  refine ⟨?allowed, ?refused, ?done, ?rungs⟩
  case allowed =>
    intro r f d s cur function may isOne
    have begins := State.funcRestart_of_allowed function may (restartable_of_mem isOne)
    refine ⟨fun going => ?_, fun idle => ?_⟩
    · exact next_withOp cur (begins.trans (if_pos going))
    · exact next_withOp cur (begins.trans (if_neg (by simp [idle])))
  case refused =>
    intro r d s cur
    refine ⟨fun may => ?_, fun may other => ?_⟩
    · exact next_withOp cur (if_pos (by simp [may]))
    · exact next_withOp cur ((if_neg (by simp [may])).trans (if_pos (by simp [other])))
  case done =>
    rintro fn s u isFunction going rfl
    exact next_if_pos ⟨isFunction, going⟩ rfl
  case rungs =>
    intro r d s
    exact ⟨fun cur => next_withOp cur rfl, fun cur => next_withOp cur rfl⟩

end Sys2Proof.Machine
end

section
/-! Warm resets and power cycles: how they fall due (R496, R500) and how they begin and end (R497, R499). -/
namespace Sys2Proof.Machine

variable {s u v : State} {cause orig t rank updMode : Nat}

/-- Only the causes 4, 5 and 12 are escalated. -/
theorem State.escalates_of_other (other : cause ≠ 4 ∧ cause ≠ 5 ∧ cause ≠ 12) : s.escalates cause = false := by
  obtain ⟨watchdog, host, fault⟩ := other
  simp [State.escalates, watchdog, host, fault]

/-- A warm reset ordered while none waits falls due now, or is escalated. -/
theorem State.warmDue_of_idle (logic : s.pow.logic = true) (awake : s.wak.asleep = false) (warm : s.warmWaits = false)
    (cycle : s.cycleWaits = false) :
    s.warmDue cause = if s.escalates cause && !s.pow.held then s.escalate cause else s.warmAt cause s.now :=
  if_neg (by simp [logic, awake, warm, cycle])

/-- A warm reset ordered while one, or a power cycle, waits has no effect. -/
theorem State.warmDue_of_waiting (waits : s.warmWaits = true ∨ s.cycleWaits = true) : s.warmDue cause = s := by
  refine if_pos ?_
  rcases waits with warm | cycle
  · simp [warm]
  · simp [cycle]

/-- A warm reset that is due gives way to a power cycle that is due, is escalated, or begins. -/
theorem exec_warmResetBegin_of_due (due : s.pow.warm = some (cause, t)) (time : t ≤ s.now) (logic : s.pow.logic = true)
    (awake : s.wak.asleep = false) (free : s.pow.held = false) :
    exec .warmResetBegin s = .next (
      if s.cycleWaits then s.onPow fun p => { p with warm := none }
      else if s.escalates cause then (s.onPow fun p => { p with warm := none }).escalate cause
      else s.warmBegin cause) := by
  show execWarmResetBegin s = _
  simp only [execWarmResetBegin, due]
  exact congrArg Host.Outcome.next (if_neg (by simp [time, logic, awake, free]))

/-- The state in which a warm reset of a cause has wound the logic die down. -/
def State.warmWound (s : State) (cause : Nat) : State :=
  let u := (s.setCause 3 cause 0).put F.FLT_RESET_CAUSE_COUNT (min 255 (s.get F.FLT_RESET_CAUSE_COUNT + 1))
  (u.onPow fun p => { p with
    warm := none, hist := if cause = 4 ∨ cause = 5 ∨ cause = 12 then (u.aonS :: p.hist).take 15 else p.hist }).windDown.put
      F.DEV_STAT_STATE 1

/-- A warm reset that has wound the logic die down resets it, unless RESET_N holds it there. -/
theorem State.warmBegin_eq (s : State) (cause : Nat) :
    s.warmBegin cause =
      if (s.warmWound cause).pow.resetN then (s.warmWound cause).onPow fun p => { p with held := true }
      else (s.warmWound cause).warmOn := (rfl)

/-- A power cycle that is due winds down, stops the logic die and releases INH for 20 ms. -/
theorem exec_powerCycleBegin_of_due (due : s.pow.cycle = some (cause, orig, t)) (time : t ≤ s.now)
    (logic : s.pow.logic = true) (awake : s.wak.asleep = false)
    (isU : u = (s.setCause 4 cause orig).windDown.stopLogic) :
    exec .powerCycleBegin s = .next (u.onPow fun p => { p with
      inh := false, cycle := none, off := some (u.now + 20000000), fell := false }) := by
  subst isU
  show execPowerCycleBegin s = _
  simp only [execPowerCycleBegin, due]
  exact congrArg Host.Outcome.next (if_neg (by simp [time, logic, awake]))

/-- A power cycle that ends restores INH; a VLOG that has not fallen lets the logic die start at once, unless something
holds it off. -/
theorem exec_powerCycleEnd_of_due (due : s.pow.off = some t) (time : t ≤ s.now)
    (isU : u = s.onPow fun p => { p with inh := true, off := none })
    (isV : v = if u.get F.FLT_RESET_CAUSE_CAUSE = 8 then u.put F.FLT_RESET_CAUSE_CAUSE 9 else u) :
    exec (.powerCycleEnd rank updMode) s = .next (
      if s.pow.fell then u
      else if v.pow.hot || v.pow.resetN || !v.wak.vaon then v
      else (v.onPow fun p => { p with logic := true }).coldStart rank updMode) := by
  subst isV isU
  show execPowerCycleEnd rank updMode s = _
  simp only [execPowerCycleEnd, due]
  exact congrArg Host.Outcome.next (if_neg (Nat.not_lt.mpr time))

/-- Settles O40: an order makes a reset due by `State.warmDue_of_idle`, and each beginning and end is the rule above of
its command. -/
theorem resetCommandsComplete : Obligations.ResetCommandsComplete := by
  unfold Obligations.ResetCommandsComplete
  refine ⟨?writes, ?orders, ?waiting, ?host, ?warm, ?release, ?cycle, ?restored⟩
  case writes =>
    intro pid v s
    refine ⟨fun may key => ?_, fun refused => ?_, fun may key logic => ?_, fun refused => ?_⟩
    · exact next_if_pos ⟨may, key⟩ rfl
    · exact congrArg Host.Outcome.next (if_neg (by omega))
    · exact next_if_pos ⟨may, key, logic⟩ rfl
    · exact congrArg Host.Outcome.next (if_neg (by rintro ⟨may, key, -⟩; omega))
  case orders =>
    rintro s ⟨logic, awake⟩ ⟨warm, cycle⟩
    refine ⟨?_, ?_, ?_, fun v => ?_, fun pid v other => ?_⟩
    · have falls := State.warmDue_of_idle (s := s.onPow fun p => { p with resetN := true }) (cause := 2) logic awake warm
        cycle
      exact congrArg Host.Outcome.next (falls.trans (if_neg (by simp [State.escalates_of_other])))
    · exact congrArg Host.Outcome.next (State.warmDue_of_idle logic awake warm cycle)
    · exact congrArg Host.Outcome.next (State.warmDue_of_idle logic awake warm cycle)
    · rfl
    · exact congrArg Host.Outcome.next (if_neg other)
  case waiting =>
    intro s waits
    exact ⟨congrArg Host.Outcome.next (State.warmDue_of_waiting waits),
      congrArg Host.Outcome.next (State.warmDue_of_waiting waits)⟩
  case host =>
    rintro s u logic enabled due rfl
    exact next_if_pos (by simp [logic, enabled, due]) rfl
  case warm =>
    rintro cause t s u v due time ⟨logic, awake⟩ free isU isV
    have begins := exec_warmResetBegin_of_due due time logic awake free
    have wound : v = s.warmWound cause := by
      subst isU
      exact isV
    refine ⟨fun cycle => ?_, fun cycle => ⟨fun escalated => ?_, fun mild held => ?_, fun mild released => ?_⟩⟩
    · exact begins.trans (congrArg Host.Outcome.next (if_pos cycle))
    · exact begins.trans (congrArg Host.Outcome.next ((if_neg (by simp [cycle])).trans (if_pos escalated)))
    · subst wound
      exact begins.trans (congrArg Host.Outcome.next ((if_neg (by simp [cycle])).trans ((if_neg (by simp [mild])).trans
        ((State.warmBegin_eq s cause).trans (if_pos held)))))
    · subst wound
      exact begins.trans (congrArg Host.Outcome.next ((if_neg (by simp [cycle])).trans ((if_neg (by simp [mild])).trans
        ((State.warmBegin_eq s cause).trans (if_neg (by simp [released]))))))
  case release =>
    rintro s u held logic rfl
    exact next_if_pos (by simp [State.onPow, held, logic]) rfl
  case cycle =>
    rintro cause orig t s u due time ⟨logic, awake⟩ isU
    exact exec_powerCycleBegin_of_due due time logic awake isU
  case restored =>
    intro rank updMode t s u v due time isU isV
    have ends := exec_powerCycleEnd_of_due (rank := rank) (updMode := updMode) due time isU isV
    refine ⟨fun fell => ?_, fun fell cool released vaon => ?_⟩
    · exact ends.trans (congrArg Host.Outcome.next (if_pos fell))
    · exact ends.trans (congrArg Host.Outcome.next ((if_neg (by simp [fell])).trans
        (if_neg (by simp [cool, released, vaon]))))

end Sys2Proof.Machine
end

section
/-! The loss and return of VLOG (R444, R499) and the thermal poll (R504). -/
namespace Sys2Proof.Machine

/-- Settles O41: each clause is the condition of its command. -/
theorem powerCommandsComplete : Obligations.PowerCommandsComplete := by
  unfold Obligations.PowerCommandsComplete
  refine ⟨?loss, ?restore, ?thermal⟩
  case loss =>
    rintro s u rfl
    refine ⟨fun cycling => ?_, fun idle logic asleep => ?_, fun idle logic awake => ?_, fun idle stopped => ?_⟩
    · exact next_if_pos (Option.isSome_iff_ne_none.mpr cycling) rfl
    · exact congrArg Host.Outcome.next
        ((if_neg (by simp [State.onPow, idle])).trans ((if_neg (by simp [State.onPow, logic])).trans (if_pos asleep)))
    · exact congrArg Host.Outcome.next ((if_neg (by simp [State.onPow, idle])).trans
        ((if_neg (by simp [State.onPow, logic])).trans (if_neg (by simp [State.onPow, awake]))))
    · exact congrArg Host.Outcome.next
        ((if_neg (by simp [State.onPow, idle])).trans (if_pos (by simp [State.onPow, stopped])))
  case restore =>
    rintro rank updMode s stopped ⟨vaon, awake⟩ ⟨inh, idle⟩ ⟨cool, released⟩
    exact next_if_pos (by simp [State.onPow, stopped, vaon, awake, inh, idle, cool, released]) rfl
  case thermal =>
    rintro tj s u logic rfl
    have same : (if tj < 140 then s.onPow fun p => { p with hot := false } else s).pow.logic = true := by
      split
      · exact logic
      · exact logic
    exact next_if_pos same rfl

end Sys2Proof.Machine
end

section
/-! The state after reset. -/
namespace Sys2Proof.Machine

/-- Settles O44: the state after reset lists nothing, so a register reads its reset value and a counter 0; the reset
values named are rows of the register tables. -/
theorem resetRegisters : Obligations.ResetRegisters := by
  unfold Obligations.ResetRegisters
  refine ⟨?nothing, ?tables⟩
  case nothing => exact fun a => ⟨rfl, rfl, rfl, rfl, rfl⟩
  case tables =>
    rintro s rfl
    decide

end Sys2Proof.Machine
end
